-- ==== Sys2Proof/Word.lean ====
section
/-! DEFINITION. The word types of the block and the shape of its sparse stores (R11, R24). -/

namespace Sys2Proof

/-- A register word: every register of the map is 32 bits wide (R24). -/
abbrev Word := BitVec 32

/-- A byte of one of the memories (R24). -/
abbrev Byte := BitVec 8

/-- A sparse store: pairs of key and value, keys strictly rising, no entry equal to what an
unlisted key reads as. The operations that keep this form stand in `Sys2Proof.Machine.Store`. -/
abbrev Table (α : Type) := List (Nat × α)

end Sys2Proof
end

