-- ==== Sys2Proof/Syntax.lean ====
section
/-! DEFINITION. The commands of the block: one constructor for each row of the opcode table, with the
row's operands. What the table calls an event names, as operands, what the block measures or what the
outside world presents at that moment (notes/assumptions/4.md). -/

namespace Sys2Proof

/-- The masters of R13: 0 to 4 the control cores, 5 the quad-SPI host, 6 the two-wire host, 7 the
partner, 8 the test access port. -/
abbrev Master := Fin 9

/-- The access widths of R24. -/
inductive Width where
  | b8 | b16 | b32
  deriving DecidableEq, Repr

/-- What else falls on the sample at which a block of a front end ends (R111): nothing, an aerial switch, or an overload
step. -/
inductive Coincide where
  | alone | aerialSwitch | overload
  deriving DecidableEq, Repr

/-- What a calibration step measured (R129): whether every value lay in its trim range; the quadrature error of an LO step
in 0.001°, and the DCO sub-band, DCO gain and TDC gain that it found; the rejection in 0.25 dB and the path's mismatch of an image step; the corner trim and the step value of a
filter step. -/
structure CalArg where
  ok : Bool
  quad : Int
  band : Int
  dcoGain : Int
  tdcGain : Int
  image : Nat
  amp : Int
  phase : Int
  corner : Int
  gain : Int
  deriving DecidableEq, Repr

/-- What the start-up calibration measured (R130): for each twin whether its LO calibration succeeded, and its quadrature
error at each divisor; the least image rejection and the mismatch of the path at each divisor; the corner trims and step
values, the offsets, and whether each of the two succeeded; and of each twin the DCO sub-band, DCO gain and TDC gain at
each divisor, three by three. -/
structure StartupArg where
  okA : Bool
  okB : Bool
  okFilter : Bool
  okOffset : Bool
  quadA : List Int
  quadB : List Int
  image : Nat
  mismatch : List Int
  corner : List Int
  gain : List Int
  offsets : List Int
  dcoA : List Int
  dcoB : List Int
  deriving DecidableEq, Repr

/-- A record that a producer has claimed room for (R339, R342): its type, source, flags, stamp and data. -/
structure RecordArg where
  type : BitVec 8
  source : BitVec 8
  err : Bool
  mark : Bool
  warm : Bool
  time : Word
  data : List Byte
  deriving DecidableEq, Repr

/-- A sub-channel or stream of an organisation (FIG 0/1, or the multiplex description of the SDC): its ID,
its capacity units, whether its coding is one that R203 leaves out, its first capacity unit, and its protection profile (R215): in DAB 0 to 63 the
index of the UEP table, 64 to 67 EEP 1-A to 4-A and 68 to 71 EEP 1-B to 4-B; in DRM the mapping and code rates as signalled. -/
structure SubChannel where
  id : Fin 64
  units : Nat
  unsupported : Bool
  profile : BitVec 8
  start : BitVec 10
  deriving DecidableEq, Repr

/-- A control block (R211): 0 an FIB, 1 a FAC block, 2 an SDC block; its CRC result and its bytes. What the FAC and SDC
say of a DRM multiplex: whether a reconfiguration is announced, and the entries of the present and of the coming
organisation. -/
structure ControlArg where
  kind : Fin 3
  ok : Bool
  data : List Byte
  announces : Bool
  now : List SubChannel
  next : List SubChannel
  deriving DecidableEq, Repr

/-- An access unit, frame or packet of a block (R216): whether the codewords that hold it were corrected, whether its own
check passed, and its length in bytes. -/
structure UnitArg where
  mended : Bool
  ok : Bool
  len : Nat
  deriving DecidableEq, Repr

/-- A block of a selection as it leaves the channel decoder (R216): whether the fire code of a superframe was found, whether it
needed correction, and its access units, frames or packets. -/
structure BlockArg where
  fire : Bool
  corrected : Bool
  units : List UnitArg
  deriving DecidableEq, Repr

/-- What an access unit or frame says of itself (R280–R284): its format; whether it has more than two channels, and signals the coefficients of their downmix; the coded and the decoded
rate; its samples at the decoded rate. -/
structure AccessUnit where
  sbr : Bool
  ps : Bool
  channels : Fin 4
  downmix : Bool
  matrix : Bool
  coreHz : Nat
  hz : Nat
  kbps : Nat
  samples : Nat
  deriving DecidableEq, Repr

/-- A part of DRM side data (R238): the next entity of the SDC block that waits; the FAC block that
waits; a text message of a stream, with its CRC result, stamp and bytes; a packet of a length in the multiplex frame that
waits; the frame's stream. -/
inductive SdcArg where
  | entity
  | fac
  | text (stream : Fin 4) (ok : Bool) (time : Word) (data : List Byte)
  | packet (len : Nat)
  | stream
  deriving DecidableEq, Repr

/-- A link of the running structure (R70). -/
structure LinkX where
  src : Nat
  out : Nat
  dst : Nat
  inp : Nat
  sel : Nat
  deriving DecidableEq, Repr

/-- An allocated composite (R69, R87). -/
structure CompX where
  win : Nat
  parent : Nat
  label : Word
  manifestId : Word
  deriving DecidableEq, Repr

/-- An allocation in force (R75, R526): `ring` and `buf` are the first 256-byte units of queue RAM. -/
structure AllocX where
  win : Nat
  pool : Nat
  bytes : Nat
  depthLog2 : Nat
  ring : Nat
  buf : Nat
  deriving DecidableEq, Repr

/-- A pending trigger (R74). -/
structure TriggerX where
  win : Nat
  action : Nat
  cond : Nat
  arg0 : Word
  arg1 : Word
  deriving DecidableEq, Repr

/-- The fields of a heartbeat that the receiver acts on (R462). -/
structure HeartbeatArg where
  role : Fin 4
  trusted : Bool
  fault : BitVec 8
  epoch : BitVec 64
  txSeq : Word
  appliedSeq : Word
  proto : BitVec 16
  deriving DecidableEq, Repr

/-- What a MESSAGE frame carries from the lead (R463, R466, R472): a Manifest image, removal or trigger, a Guestbook
command or change, the source that a FOLLOW engine checks, a blend or an announcement fade of one at its epoch, the start
of a resync, a handover epoch. -/
inductive MessageArg where
  | apply (image : List Word)
  | remove (win : Word)
  | trigger (arg : Word)
  | guestbook (opcode : BitVec 8) (args : List Word)
  | gbChange (code idx old : Word) (record : List Word)
  | source (n : Fin 32) (idx : Word) (sub : Fin 64)
  | fade (n : Fin 32) (input : Bool) (delayMs lengthMs : Nat) (trim : Int) (epoch : BitVec 64)
  | announce (n : Fin 32) (input : Bool) (delayMs rampMs : Nat) (epoch : BitVec 64)
  | resync
  | handover (epoch : BitVec 64)
  deriving DecidableEq, Repr

/-- The full state that a lead sends in a resync (R466): the SEQ of the last mirror frame that it covers, the structure,
the registers of R429 as block, offset and word, and the dirty Guestbook pages by their first address. -/
structure ResyncArg where
  seq : Word
  parents : List (Nat × Nat)
  links : List LinkX
  comps : List CompX
  allocs : List AllocX
  triggers : List TriggerX
  manifestId : Word
  regs : List (Nat × Nat × Word)
  pages : List (Nat × List Byte)
  deriving DecidableEq, Repr

/-- Where a memory error strikes, and whether it was corrected (R479): a coefficient bank with its word, an OFDM engine's
working memory, a lane's delay-store blocks, queue RAM, a Guestbook record, the Signboard, a core's local memory, or the
firmware slot that the cores run. -/
inductive EccArg where
  | corrected
  | bank (w : Fin 1024) (bank : Bool) (word : BitVec 16)
  | working (n : Fin 16)
  | delay (n : Fin 32)
  | queueRam (n : Fin 64)
  | guestbook (i : Nat)
  | signboard
  | core (n : Fin 5)
  | slot
  deriving DecidableEq, Repr

/-- The commands of the opcode table. -/
inductive Instr where
  /-- REGISTER_WRITE, R519: A master writes a register that has no row of its own; R10, R49 and R50 decide the result. -/
  | registerWrite (m : Master) (wd : Width) (addr : Word) (v : Word)
  /-- LOW_WORD_READ, R12: A read of the low word of a 64-bit register latches its high word for the reading master. -/
  | lowWordRead (m : Master) (addr : Word)
  /-- COUNTER_RESTART, R46: A write of any value to a statistics counter restarts it from zero and clears its overflow bit. -/
  | counterRestart (m : Master) (addr : Word) (v : Word)
  /-- PEAK_RESTART, R10: A write to MAX_TP or TJ_PEAK restarts the peak register at 0x8000. -/
  | peakRestart (m : Master) (addr : Word) (v : Word)
  /-- SYS_SOFT_RESET, R37: A write with KEY 0xA5C3 and SCOPE 1 begins a cold reset of the main die; any other value is recorded with code 0x0201. -/
  | sysSoftReset (m : Master) (v : Word)
  /-- EPOCH_SNAP, R38: A write of 1 to EPOCH_SNAP copies the epoch of that cycle into EPOCH_SNAP_LO and EPOCH_SNAP_HI. -/
  | epochSnap (m : Master) (v : Word)
  /-- SEM_READ, R39: A read of SEM_n returns 0 and grants ownership when the semaphore is free, and returns 0x80 | owner otherwise. -/
  | semRead (m : Master) (n : Fin 32)
  /-- SEM_WRITE, R40: A write to SEM_n frees it when the owner writes 0 or any master writes 0xFF, and otherwise counts a violation. -/
  | semWrite (m : Master) (n : Fin 32) (v : Word)
  /-- PARTNER_WINDOW_WRITE, R27: A local write to 0x8000_0000 + A is posted to the partner, or fails with code 0x0901 when the link is down. -/
  | partnerWindowWrite (m : Master) (wd : Width) (addr : Word) (v : Word)
  /-- PARTNER_WINDOW_READ, R27: A local read of 0x8000_0000 + A is sent to the partner as READ_REQ, or fails with code 0x0901. -/
  | partnerWindowRead (m : Master) (wd : Width) (addr : Word)
  /-- PARTNER_READ_RESPONSE, R28: A READ_RSP frame arrives and completes a pending partner-window read. -/
  | partnerReadResponse (v : Word)
  /-- SIGNBOARD_REBUILT, R34: A Signboard rebuild ends, GENERATION becomes even and SIGNBOARD_REBUILT is raised. -/
  | signboardRebuilt
  /-- UNIT_CTL_WRITE, R56: A write of ENABLE, RUN, HOLD, MUTE or HOLD_MUTE_WARM to a unit changes its control bits, and its STATE follows. -/
  | unitCtlWrite (m : Master) (w : Fin 1024) (v : Word)
  /-- COMPOSITE_CTL_WRITE, R62: A write to a composite's UNIT_CTL fans out to its bound members in stopping and starting order. -/
  | compositeCtlWrite (m : Master) (w : Fin 1024) (v : Word)
  /-- SYNC_RESET, R59: SYNC_RESET zeroes a unit's history and re-enters WARM, or reruns the self-check in SAFE or FAULT. -/
  | syncReset (m : Master) (w : Fin 1024) (v : Word)
  /-- APPLY, R59: APPLY requests that the staged kind-specific registers be copied at the unit's next processing boundary. -/
  | apply (m : Master) (w : Fin 1024) (v : Word)
  /-- APPLY_TAKES_EFFECT, R59: At the processing boundary the staged values come into use, BUSY clears and UNIT_GEN increments. -/
  | applyTakesEffect (w : Fin 1024)
  /-- FAULT_CLEAR, R58: FAULT_CLEAR moves a unit in SAFE or FAULT to OFF when its recorded cause no longer stands. -/
  | faultClear (m : Master) (w : Fin 1024) (v : Word)
  /-- UNIT_CTL_DEFERRED, R59: The latest UNIT_CTL write that arrived while BUSY was set is carried out when BUSY clears. -/
  | unitCtlDeferred (w : Fin 1024)
  /-- UNIT_POWER_UPDATE, R524: Every 10 ms each unit's UNIT_POWER estimate is updated in one cycle. -/
  | unitPowerUpdate
  /-- MF_APPLY, R81: The loader validates an image, then loads it as a full Manifest or starts an amendment. -/
  | mfApply (ph : Fin 8) (tag : BitVec 8) (addr : Word) (len : Word)
  /-- MF_VALIDATE, R80: The loader makes the checks on an image without loading it. -/
  | mfValidate (ph : Fin 8) (tag : BitVec 8) (addr : Word) (len : Word)
  /-- MF_REMOVE, R86: The loader quiesces a composite, releases its members and frees its indices. -/
  | mfRemove (ph : Fin 8) (tag : BitVec 8) (win : Word)
  /-- MF_TRIGGER, R74: The condition-4 triggers that carry the given tag fire. -/
  | mfTrigger (ph : Fin 8) (tag : BitVec 8) (arg : Word)
  /-- MF_AMEND_COMMIT, R82: Once the target's ramps are complete, every shadow takes effect in one fabric cycle and allocations are exchanged. -/
  | mfAmendCommit
  /-- MF_AMEND_COMPLETE, R82: Every member has left HOLD, and the loader replies and starts any Signboard rebuild. -/
  | mfAmendComplete
  /-- TRIGGER_EPOCH_REACHED, R74: The epoch reaches the value of a condition-1 trigger, and its action is carried out on its window. -/
  | triggerEpochReached (w : Fin 1024)
  /-- TWIN_READY, R120: The idle twin finishes settling at the new frequency and becomes READY. -/
  | twinReady (lo : Fin 8) (us : Nat)
  /-- LO_HANDOVER, R124: At an allowed seam the twins swap roles, with phase interpolation and a switch of image correction. -/
  | loHandover (fe : Fin 4)
  /-- AGC_BLOCK, R101: A 4,096-sample power block ends; LEVEL is reported and the AGC may make an attack step. -/
  | agcBlock (fe : Fin 5) (level : Int) (co : Coincide)
  /-- AGC_DECAY_STEP, R101: A run of below-target blocks lasting DECAY_MS moves the entry one index down. -/
  | agcDecayStep (fe : Fin 5) (co : Coincide)
  /-- OVERLOAD_BLOCK, R105: A 256-sample block with CLIP_THRESH or more clipped samples is declared an overload. -/
  | overloadBlock (fe : Fin 5) (xs : List (Int × Int))
  /-- OVERLOAD_CLEAR, R105: OVERLOAD clears after 1 ms with no overload block. -/
  | overloadClear (fe : Fin 5)
  /-- OVL_STUCK, R106: Overload blocks continue at MAX_INDEX for STUCK_MS, and OVL_STUCK is set. -/
  | ovlStuck (fe : Fin 5)
  /-- DIV_RETURN_CHECK, R108: 1 ms after a switch, the front end returns to the previous input if quality is still HYST_DB × 4 lower. -/
  | divReturnCheck (fe : Fin 4)
  /-- DIV_WINDOW_SWITCH, R109: In diversity mode 2, the pending input request is carried out inside the engine's switch window. -/
  | divWindowSwitch (fe : Fin 4)
  /-- LO_LOCK_LOST, R127: A twin's phase error exceeds 1/8 cycle for 0.5 µs; for the serving twin its channels are held and recovery begins. -/
  | loLockLost (lo : Fin 8)
  /-- LO_LOCK_ACQUIRED, R127: A twin stays within 1/32 cycle for 5 µs and is declared locked. -/
  | loLockAcquired (lo : Fin 8)
  /-- TEMP_RECAL, R130: FE_TEMP differs from CAL_TEMP by TEMP_THRESH or more; TEMP_RECAL is raised and a run may start. -/
  | tempRecal (fe : Fin 4) (temp : Int)
  /-- CAL_REQ_LO, R130: A host write of the CAL_CTL LO bit requests LO calibration. -/
  | calReqLo (m : Master) (fe : Fin 4)
  /-- CAL_REQ_IMAGE, R130: A host write of the CAL_CTL IMAGE bit requests image calibration. -/
  | calReqImage (m : Master) (fe : Fin 4)
  /-- CAL_REQ_FILTER, R130: A host write of the CAL_CTL FILTER bit requests filter-bandwidth calibration. -/
  | calReqFilter (m : Master) (fe : Fin 4)
  /-- CAL_REQ_OFFSET, R130: A host write of the CAL_CTL OFFSET bit requests offset calibration. -/
  | calReqOffset (m : Master) (fe : Fin 4)
  /-- CAL_ABORT, R133: CAL_ABORT stops the running step within 1 µs, clears PENDING and marks the twin STALE. -/
  | calAbort (m : Master) (fe : Fin 4)
  /-- CAL_STEP_DONE, R131: A calibration step ends; the run moves to its next step, its seam handover or its end. -/
  | calStepDone (fe : Fin 4) (a : CalArg)
  /-- CAL_STARTUP_DONE, R130: The full start-up calibration of a front end completes before VALID. -/
  | calStartupDone (fe : Fin 4) (a : StartupArg)
  /-- CAL_FE_L_DONE, R134: The start-up gain calibration of FE_L completes or fails. -/
  | calFeLDone (ok : Bool) (gains : List Int)
  /-- CAL_STORE_WRITE, R136: Firmware writes an updated calibration section, coalesced at most once per 10 s per front end. -/
  | calStoreWrite (fe : Fin 5) (sect : List Byte)
  /-- SWAP_REQUEST, R157: A write to SWAP_CTL starts a fade to TARGET, makes the request pending, or changes the bank at once. -/
  | swapRequest (m : Master) (w : Fin 1024) (v : Word)
  /-- FADE_END, R157: After F outputs ACTIVE takes TARGET, FADE_DONE is raised and any pending request is carried out. -/
  | fadeEnd (w : Fin 1024)
  /-- FILTER_OUTPUT, R152: A filter unit computes one output sample and rounds and saturates it. -/
  | filterOutput (w : Fin 1024) (xs : List (Int × Int)) (ys : List (Int × Int))
  /-- WARM_COMPLETE, R161: The count of outputs since the input became VALID reaches W, and the unit sets VALID. -/
  | warmComplete (w : Fin 1024)
  /-- DETECTOR_BLOCK, R166: A 1 ms block ends and the detector's peak, true-peak, RMS and envelope reports change together. -/
  | detectorBlock (n : Fin 32)
  /-- LOUDNESS_UPDATE, R168: Every 100 ms the momentary, short-term and integrated loudness are updated. -/
  | loudnessUpdate (n : Fin 32)
  /-- SILENCE_ENTER, R170: V stays below LEVEL for ENTER_MS; SILENT is set and SILENCE_ENTER is raised. -/
  | silenceEnter (n : Fin 32)
  /-- SILENCE_EXIT, R170: V stays at or above LEVEL + HYST for EXIT_MS; SILENT clears and SILENCE_EXIT is raised. -/
  | silenceExit (n : Fin 32)
  /-- OVER_REPEAT, R171: An over that continues counts once more for each further 100 ms. -/
  | overRepeat (n : Fin 32)
  /-- INT_RESET, R168: INT_RESET clears the histogram of the integrated loudness. -/
  | intReset (m : Master) (n : Fin 32)
  /-- DEMOD_BLOCK, R180: Once per 1 ms block the demodulator updates its 1 ms metrics and slews blend, high cut and soft mute. -/
  | demodBlock (w : Fin 1024) (level : Int) (snr : Int)
  /-- METRIC_INTERVAL_END, R191: A 10 ms, 100 ms or 1 s metric interval ends and its registers change in one cycle. -/
  | metricIntervalEnd (w : Fin 1024) (interval : Fin 3) (a : Int) (b : Int)
  /-- PILOT_FOUND, R177: The pilot holds at or above PILOT_MIN for 20 ms and locks, so PILOT is set. -/
  | pilotFound (n : Fin 48)
  /-- PILOT_LOST, R177: The pilot falls below threshold, or the PLL is unlocked, for 10 ms; PILOT clears and the loss is counted. -/
  | pilotLost (n : Fin 48) (pll : Bool)
  /-- NOISE_BLANK, R181: An impulse above threshold starts or extends a blank of the MPX or channel samples. -/
  | noiseBlank (w : Fin 1024)
  /-- RDS_BIT, R183: The FM demodulator delivers one RDS bit with its confidence to SIDE_DATA. -/
  | rdsBit (n : Fin 48)
  /-- DEMOD_WARM_DONE, R194: FM_DEMOD sets VALID 2.0 ms after its input became VALID. -/
  | demodWarmDone (n : Fin 48)
  /-- CARRIER_LOCKED, R186: The AM carrier PLL locks; CARRIER_LOCK is set and VALID may rise. -/
  | carrierLocked (n : Fin 16)
  /-- CARRIER_LOST, R186: The loop phase error stays above 45° for 20 ms and carrier loss is declared. -/
  | carrierLost (n : Fin 16)
  /-- AM_LOCK_BOUND, R194: With FALLBACK at 1, the lock bound passes without lock, so the AM demodulator sets VALID on envelope detection. -/
  | amLockBound (n : Fin 16)
  /-- DETECTOR_RETURN_SYNC, R187: 50 ms after the carrier locks again, detection returns from envelope to synchronous. -/
  | detectorReturnSync (n : Fin 16)
  /-- SIDEBAND_EVAL, R188: Automatic sideband choice compares the sideband energies over 100 ms and may change SB_USED. -/
  | sidebandEval (n : Fin 16) (lsb : Int) (usb : Int)
  /-- BRANCH_SWITCH, R190: Under diversity mode 3, the AM demodulator changes branch after 10 blocks of a 3 dB better CNR. -/
  | branchSwitch (n : Fin 16)
  /-- OFDM_SYNC_ADVANCE, R204: The engine reaches the next synchronisation state, and sets VALID on entering state 6. -/
  | ofdmSyncAdvance (n : Fin 16) (mode : Fin 8) (so : Fin 6) (offset : Int) (sco : Int)
  /-- OFDM_SYNC_LOST, R206: Three frames pass without a valid frame start; the engine enters state 7 and stops delivering. -/
  | ofdmSyncLost (n : Fin 16)
  /-- OFDM_RESYNC_SUCCESS, R206: Fast resynchronisation succeeds, the engine returns to state 6 and SYNC_ACQUIRED is raised. -/
  | ofdmResyncSuccess (n : Fin 16)
  /-- OFDM_RESYNC_TIMEOUT, R206: RESYNC_MS passes without success, and the engine restarts at state 1. -/
  | ofdmResyncTimeout (n : Fin 16)
  /-- MODE_UNSUPPORTED, R203: A DAB signal fits mode II, III or IV for 1 s; code 0x0501 is recorded and MODE_UNSUPPORTED is raised. -/
  | modeUnsupported (n : Fin 16)
  /-- OFDM_ACQ_TIMEOUT, R208: State 6 is not reached within 10 s, and code 0x0505 is recorded. -/
  | ofdmAcqTimeout (n : Fin 16)
  /-- OFDM_FRAME_END, R225: A transmission frame ends and the frame metrics, Q and FRAME_COUNT are updated. -/
  | ofdmFrameEnd (n : Fin 16) (mer : Int) (offset : Int) (sco : Int) (a : Int) (b : Int)
  /-- CONTROL_BLOCK_RECEIVED, R211: An FIB, FAC or SDC block is decoded, delivered on output 1 with its CRC result, and interpreted. -/
  | controlBlockReceived (n : Fin 16) (c : ControlArg)
  /-- SELECTION_SWITCH, R212: At a CIF or frame boundary, an applied selection ID takes effect and the new stream begins with a mark. -/
  | selectionSwitch (n : Fin 16)
  /-- MULTIPLEX_RECONFIGURE, R214: At the signalled CIF or super frame, the engine switches to the new organisation. -/
  | multiplexReconfigure (n : Fin 16)
  /-- SUPERFRAME_DECODED, R216: A superframe, logical frame or DRM frame is corrected and delivered with good or bad flags. -/
  | superframeDecoded (n : Fin 16) (sel : Fin 64) (b : BlockArg)
  /-- PREAMBLE_MEASURED, R220: In mode 2 the engine measures the MER of the preamble and may request a switch, a return or a probe. -/
  | preambleMeasured (n : Fin 16) (mer : Int) (inWindow : Bool)
  /-- ANNOUNCEMENT_ENTRY, R222: An announcement switching entry meeting ANN_MASK sets the active flags and raises ANNOUNCEMENT. -/
  | announcementEntry (n : Fin 16) (asw : BitVec 16) (cluster : BitVec 8) (sub : BitVec 6) (new : Bool) (region : Bool)
  /-- ANNOUNCEMENT_TIMEOUT, R222: An active entry is not repeated within ANN_TIMEOUT; its flags clear and ANNOUNCEMENT_END is raised. -/
  | announcementTimeout (n : Fin 16) (cluster : BitVec 8)
  /-- RDS_BLOCK, R233: A 26-bit RDS block is received and corrected, and counted as good, weak or uncorrectable. -/
  | rdsBlock (n : Fin 64)
  /-- FIG_RECEIVED, R235: A SIDE_DATA unit fed by DAB interprets and may queue a FIG. -/
  | figReceived (n : Fin 64)
  /-- PAD_DATA_GROUP, R236: An X-PAD data group is reassembled and delivered as a DLS, MOT or other record. -/
  | padDataGroup (n : Fin 64)
  /-- PACKET_RECEIVED, R237: A packet-mode packet is queued, or added to an MSC data group. -/
  | packetReceived (n : Fin 64)
  /-- DRM_SDC_ENTITY, R238: A DRM SDC entity, FAC block, text message or stream part is interpreted and queued. -/
  | drmSdcEntity (n : Fin 64) (e : SdcArg)
  /-- QUALITY_REPORT, R240: Every QREP_MS a type 0x08 quality report of the source is queued. -/
  | qualityReport (n : Fin 64) (time : Word)
  /-- GB_SWEEP, R246: Once a minute firmware ages records, clears HEARD_NOW and frees expired records. -/
  | gbSweep
  /-- GB_CHECKPOINT_WRITE, R248: Every CKPT_MIN minutes firmware writes the dirty Guestbook pages to MRAM. -/
  | gbCheckpointWrite
  /-- GB_DAILY_CHECKPOINT, R248: Every 24 hours of operation firmware writes every page that holds an occupied record. -/
  | gbDailyCheckpoint
  /-- GB_RESTORE_DONE, R250: The Guestbook restore from the checkpoint completes and GB_READY is raised. -/
  | gbRestoreDone
  /-- GB_CONFIG, R251: Command setting the change-record queue, CKPT_MIN, MAX_AGE and LIST_EXPIRY. -/
  | gbConfig (ph : Fin 8) (tag : BitVec 8) (args : List Word)
  /-- GB_LOOKUP, R251: Command finding a record by key and system-frequency. -/
  | gbLookup (ph : Fin 8) (tag : BitVec 8) (args : List Word)
  /-- GB_INSERT, R251: Command inserting a record as a singleton. -/
  | gbInsert (ph : Fin 8) (tag : BitVec 8) (args : List Word)
  /-- GB_DELETE, R251: Command freeing the record at an index. -/
  | gbDelete (ph : Fin 8) (tag : BitVec 8) (args : List Word)
  /-- GB_FLAGS, R251: Command changing PINNED and FORBIDDEN of a record. -/
  | gbFlags (ph : Fin 8) (tag : BitVec 8) (args : List Word)
  /-- GB_LINK, R251: Command joining two rings, hard or soft. -/
  | gbLink (ph : Fin 8) (tag : BitVec 8) (args : List Word)
  /-- GB_UNLINK, R251: Command removing a record from its ring. -/
  | gbUnlink (ph : Fin 8) (tag : BitVec 8) (args : List Word)
  /-- GB_CHECKPOINT, R251: Command writing a checkpoint now. -/
  | gbCheckpoint (ph : Fin 8) (tag : BitVec 8) (args : List Word)
  /-- GB_CLEAR, R251: Command freeing every record and erasing the checkpoint, given the key 0x4742_4358. -/
  | gbClear (ph : Fin 8) (tag : BitVec 8) (args : List Word)
  /-- GB_STATUS, R251: Command returning the readiness and counts of the Guestbook. -/
  | gbStatus (ph : Fin 8) (tag : BitVec 8) (args : List Word)
  /-- SCAN_PLAN, R253: Command copying a scan plan that replaces the earlier one. -/
  | scanPlan (ph : Fin 8) (tag : BitVec 8) (args : List Word)
  /-- SCAN_CTL, R254: Command setting RUN, MAX_TASKS and the pause between scan cycles. -/
  | scanCtl (ph : Fin 8) (tag : BitVec 8) (args : List Word)
  /-- SCAN_STATUS, R251: Command returning the scan counts. -/
  | scanStatus (ph : Fin 8) (tag : BitVec 8) (args : List Word)
  /-- SCAN_TASK_START, R254: Once the units it needs are free, a scan task borrows them for the next frequency. -/
  | scanTaskStart
  /-- SCAN_TASK_END, R253: A scan task ends at its abandon time, its early-end condition or its dwell, and releases its units. -/
  | scanTaskEnd (k : Fin 16) (cause : Fin 3)
  /-- SCAN_CYCLE_START, R254: After the pause, the next scan cycle starts at entry 0. -/
  | scanCycleStart
  /-- FOLLOW_SEEK, R266: The margin of the playing source falls below SEEK_M, and the engine moves to VERIFY with the best candidate. -/
  | followSeek (n : Fin 32) (home : Word) (sub : Fin 64)
  /-- FOLLOW_SURVEY, R265: Every SURVEY_S in WATCH, the engine checks eligible FM records with a scout. -/
  | followSurvey (n : Fin 32) (home : Word) (k : Word)
  /-- VERIFY_IDENTITY_PASS, R267: The scout reports the candidate's key, and the engine moves to ALIGN. -/
  | verifyIdentityPass (n : Fin 32) (sub : Fin 64)
  /-- VERIFY_TIMEOUT, R267: Identity is not found within its limit; the check fails with code 0x0510. -/
  | verifyTimeout (n : Fin 32)
  /-- VERIFY_QUALITY_CHECK, R267: A 100 ms check finds the candidate's live margin below 0, and the check fails with code 0x0511. -/
  | verifyQualityCheck (n : Fin 32)
  /-- CORRELATION_MEASURED, R268: A correlation measurement of lag, ρ and trim ends, and alignment may pass or fail. -/
  | correlationMeasured (n : Fin 32)
  /-- FOLLOW_SWITCH_DUE, R271: In READY, the margin condition has held for HOLD_MS and the dwell has passed, so the blend may start. -/
  | followSwitchDue (n : Fin 32)
  /-- BLEND_START, R272: At an aligned zero crossing, or after 100 ms, the blend to the candidate starts. -/
  | blendStart (n : Fin 32)
  /-- BLEND_END, R272: The blend ends; PLAYING, TRIM and CUR_INDEX change and SWITCHED is raised. -/
  | blendEnd (n : Fin 32)
  /-- SOURCE_LOST, R273: The playing source is invalid or below MIN_Q for LOSS_MS, and the engine moves promptly. -/
  | sourceLost (n : Fin 32)
  /-- ANN_FADE_IN, R274: Once the announcement chain is VALID, the engine fades it in and raises ANN_START. -/
  | annFadeIn (n : Fin 32)
  /-- RECENTRE, R270: A write of RECENTRE in WATCH ramps the lane out, resets d_cur to STANDING_MS and ramps it back in. -/
  | recentre (m : Master) (n : Fin 32) (v : Word)
  /-- SF_FORCE, R275: Command verifying a record and switching to it, ignoring margins. -/
  | sfForce (ph : Fin 8) (tag : BitVec 8) (args : List Word)
  /-- SF_HOME, R275: Command switching the lane home. -/
  | sfHome (ph : Fin 8) (tag : BitVec 8) (args : List Word)
  /-- SF_STATUS, R275: Command returning the engine's status, indices, alignment and delay. -/
  | sfStatus (ph : Fin 8) (tag : BitVec 8) (args : List Word)
  /-- ACCESS_UNIT_DECODED, R283: A decoder decodes or conceals one access unit or frame. -/
  | accessUnitDecoded (n : Fin 32) (u : AccessUnit)
  /-- LANE_SELECT, R289: A write of SELECT cross-fades to the named input, or leaves it pending. -/
  | laneSelect (m : Master) (n : Fin 32) (v : Word)
  /-- SELECT_PENDING_TAKES, R289: A pending SELECT takes effect at the first sample at which its input is VALID. -/
  | selectPendingTakes (n : Fin 32)
  /-- XFADE_DONE, R289: A lane cross-fade ends, PLAYING changes and XFADE_DONE is raised. -/
  | xfadeDone (n : Fin 32)
  /-- GAIN_WRITE, R291: A write of GAIN starts a ramp to the new gain over RAMP_MS. -/
  | gainWrite (m : Master) (n : Fin 32) (v : Word)
  /-- RAMP_END, R291: A gain ramp reaches its target. -/
  | rampEnd (n : Fin 32)
  /-- LANE_SAMPLE, R290: The gain stage scales one sample and saturates it. -/
  | laneSample (n : Fin 32)
  /-- HOST_PCM_DESCRIPTOR, R293: A lane takes a type 0x10 descriptor of host PCM, or discards it with code 0x0604. -/
  | hostPcmDescriptor (n : Fin 32) (k : Fin 2)
  /-- HOST_PCM_MARK_START, R294: The epoch reaches a MARK descriptor's TIME, and its first sample starts. -/
  | hostPcmMarkStart (n : Fin 32) (k : Fin 2)
  /-- HOST_UNDERRUN, R294: The host PCM queue runs empty before end of stream; the input clears VALID and HOST_UNDERRUN is raised. -/
  | hostUnderrun (n : Fin 32) (k : Fin 2)
  /-- ASRC_REACQUIRE_DONE, R297: The re-acquire ends, the output ramps in and REACQUIRED is raised. -/
  | asrcReacquireDone (n : Fin 32)
  /-- ASRC_IN_COUNT_READ, R298: A read of IN_COUNT latches OUT_COUNT, DISCARD_COUNT and FILL of the same cycle. -/
  | asrcInCountRead (m : Master) (n : Fin 32)
  /-- PORT_FRAME, R313: A port reaches a frame boundary and sends or captures one frame. -/
  | portFrame (n : Fin 32) (e : BitVec 64) (period : Nat) (xs : List Int) (missing : BitVec 2)
  /-- ZC_START_PASS, R320: A waiting slot meets a zero crossing and passes its signal. -/
  | zcStartPass (n : Fin 32) (slot : Fin 16)
  /-- ZC_TIMEOUT, R320: No zero crossing comes within ZC_TIMEOUT_MS; the slot ramps over 1 ms and the timeout is counted. -/
  | zcTimeout (n : Fin 32) (slot : Fin 16)
  /-- PORT_STOPPED, R321: After RUN falls every slot reaches 0, and the port enters IDLE at the next boundary with STOPPED raised. -/
  | portStopped (n : Fin 32)
  /-- TAP_BLOCK, R332: BLOCK_FRAMES frames complete a type 0x0A block that is placed in the tap queue. -/
  | tapBlock (n : Fin 32)
  /-- CLOCK_LOST, R328: No boundary arrives for 3.5 T, or three frames are discarded, and the port declares CLOCK_LOST. -/
  | clockLost (n : Fin 32)
  /-- CLOCK_RETURNED, R328: Eight consecutive good frames end CLOCK_LOST, and the ASRC re-acquires. -/
  | clockReturned (n : Fin 32)
  /-- GLITCH_FRAME, R329: A frame of the wrong length, or a misplaced FSYNC in hybrid mode, is discarded and counted. -/
  | glitchFrame (n : Fin 32)
  /-- RATE_STEP, R330: The mean period of 8 frames moves more than 0.5 % from FRAME_PERIOD. -/
  | rateStep (n : Fin 32) (period : Nat)
  /-- HYBRID_LOCK, R314: A hybrid port locks BCLK to FSYNC and sets CLK_OK. -/
  | hybridLock (n : Fin 32)
  /-- PORT_RESTART, R328: A write of RESTART resumes data after CLOCK_LOST when AUTO_RESTART is 0. -/
  | portRestart (m : Master) (n : Fin 32)
  /-- GROUP_ARM, R323: A write of ARM = 1 arms start group g and clears FIRED. -/
  | groupArm (m : Master) (g : Fin 8) (v : Word)
  /-- GROUP_GO, R323: A write of GO fires a group whose SOURCE is 2, at the epoch of the write. -/
  | groupGo (m : Master) (g : Fin 8) (v : Word)
  /-- GROUP_FIRE_EPOCH, R323: The epoch reaches GRP_EPOCH_g, and the group fires. -/
  | groupFireEpoch (g : Fin 8)
  /-- SYNC_IN_EDGE, R324: An accepted SYNC_IN edge latches SYNC_IN_EPOCH, and may fire a group. -/
  | syncInEdge (e : BitVec 64)
  /-- SYNC_OUT_PULSE, R324: SYNC_OUT pulses at a group fire epoch or at each multiple of PERIOD. -/
  | syncOutPulse (e : BitVec 64)
  /-- Q_CONS_WRITE, R341: A write of Q_CONS frees descriptors and bytes, or is refused with code 0x0710 or 0x0711. -/
  | qConsWrite (m : Master) (n : Fin 64) (v : Word)
  /-- Q_PROD_WRITE, R341: A host write of Q_PROD posts descriptors to a host-to-device queue, or is refused. -/
  | qProdWrite (m : Master) (n : Fin 64) (v : Word)
  /-- HOST_DESCRIPTOR_TAKE, R343: The device takes the next posted descriptor, or discards it with code 0x0712. -/
  | hostDescriptorTake (n : Fin 64)
  /-- DESCRIPTOR_RETIRE, R343: Once the device has read the last byte of a descriptor's data, it retires it and advances Q_CONS. -/
  | descriptorRetire (n : Fin 64)
  /-- RECORD_COMMIT, R342: A record is placed whole in a device-to-host queue, and Q_PROD advances in one cycle. -/
  | recordCommit (n : Fin 64) (r : RecordArg)
  /-- IQ_BLOCK, R345: IQ_BLOCK channel samples complete a type 0x09 record. -/
  | iqBlock (n : Fin 64)
  /-- FINAL_DESCRIPTOR_COMMIT, R347: A queue in its harmless state commits its final descriptor, if need be when one becomes free, and stops. -/
  | finalDescriptorCommit (n : Fin 64)
  /-- PH_TD_PUSH, R352: A host push appends a word to TD, or overwrites the last word of a full FIFO. -/
  | phTdPush (m : Master) (ph : Fin 8) (v : Word)
  /-- PH_TD_POP, R351: A read of PH_TD_POP removes the oldest TD word. -/
  | phTdPop (m : Master) (ph : Fin 8)
  /-- PH_TH_PUSH, R352: Firmware appends a word to TH. -/
  | phThPush (m : Master) (ph : Fin 8) (v : Word)
  /-- PH_TH_POP, R351: A read of PH_TH_POP removes the oldest TH word. -/
  | phThPop (m : Master) (ph : Fin 8)
  /-- TD_EMPTY_REQ, R353: A write of TD_EMPTY_REQ asks for notice when TD next becomes empty. -/
  | tdEmptyReq (m : Master) (ph : Fin 8)
  /-- TH_EMPTY_REQ, R353: A write of TH_EMPTY_REQ asks for notice when TH next becomes empty. -/
  | thEmptyReq (m : Master) (ph : Fin 8)
  /-- MESSAGE_TIMEOUT, R357: A message whose words are still incomplete 10 ms after word 0 is discarded with code 0x0713. -/
  | messageTimeout (ph : Fin 8)
  /-- UNKNOWN_OPCODE, R357: A message whose opcode is not served is answered with code 0x0715. -/
  | unknownOpcode (ph : Fin 8) (tag : BitVec 8) (opcode : BitVec 8)
  /-- SYS_PING, R358: Command returning the words it was sent. -/
  | sysPing (ph : Fin 8) (tag : BitVec 8) (args : List Word)
  /-- SYS_VERSION, R358: Command returning the firmware version and slots and the running MANIFEST_ID. -/
  | sysVersion (ph : Fin 8) (tag : BitVec 8)
  /-- SYS_FAULT, R358: Command returning the highest fault class standing, the latest code and the log count. -/
  | sysFault (ph : Fin 8) (tag : BitVec 8)
  /-- SYS_STANDBY, R434: Command entering standby with the given wake-source mask. -/
  | sysStandby (ph : Fin 8) (tag : BitVec 8) (mask : Word)
  /-- SYS_NOTICE_CFG, R358: Command setting which notice kinds firmware sends. -/
  | sysNoticeCfg (ph : Fin 8) (tag : BitVec 8) (mask : Word)
  /-- BELL_RING, R359: A write of 1 to a SET bit rings a bell in either direction. -/
  | bellRing (m : Master) (toHost : Bool) (v : Word)
  /-- BELL_CLEAR, R359: A write of 1 to a CLR bit clears a bell. -/
  | bellClear (m : Master) (toHost : Bool) (v : Word)
  /-- EVENT_LATCH_CLEAR, R360: A W1C write to EV_LATCH clears direct event latches. -/
  | eventLatchClear (m : Master) (k : Fin 4) (v : Word)
  /-- QSPI_WRITE, R372: A quad-SPI WRITE transaction commits words to incrementing addresses. -/
  | qspiWrite (addr : Word) (data : List Word) (cut : Bool)
  /-- QSPI_READ, R369: A quad-SPI READ transaction sends wait bytes, the start byte and words from incrementing addresses. -/
  | qspiRead (addr : Word) (n : Nat) (delay : Fin 3)
  /-- QSPI_WRITE_FIXED, R368: A quad-SPI WRITE_FIXED transaction commits every word to one address. -/
  | qspiWriteFixed (addr : Word) (data : List Word) (cut : Bool)
  /-- QSPI_READ_FIXED, R368: A quad-SPI READ_FIXED transaction reads every word from one address. -/
  | qspiReadFixed (addr : Word) (n : Nat) (delay : Fin 3)
  /-- QSPI_STATUS, R371: A quad-SPI STATUS transaction sends the status byte repeatedly. -/
  | qspiStatus (n : Nat)
  /-- QSPI_QREAD, R373: A QREAD burst sends up to MAX descriptors with their data and advances Q_CONS at the rise of CS. -/
  | qspiQread (q : Fin 64) (max : BitVec 8) (sent : Nat) (delay : Fin 3)
  /-- QSPI_QWRITE, R374: A QWRITE burst writes units into a host-to-device queue and advances Q_PROD at the rise of CS. -/
  | qspiQwrite (q : Fin 64) (data : List Word) (cut : Bool)
  /-- QSPI_PROTOCOL_RESET, R367: Eight cycles with every lane high set PROTO to 0 at the rise of CS. -/
  | qspiProtocolReset
  /-- QSPI_UNKNOWN_OPCODE, R368: A transaction with an unserved opcode records code 0x0720 and is ignored. -/
  | qspiUnknownOpcode (opcode : BitVec 8)
  /-- HSPI_CFG_TAKES_EFFECT, R366: A written HSPI_CFG takes effect at the next rise of HSPI_CS_N. -/
  | hspiCfgTakesEffect
  /-- TWT_WRITE, R377: A two-wire write transaction sets the pointer and commits data words. -/
  | twtWrite (mode : BitVec 8) (whole : Bool) (addr : Word) (data : List Word) (cut : Bool)
  /-- TWT_READ, R378: A two-wire read transaction returns words from the pointer. -/
  | twtRead (late : List Bool)
  /-- TWT_MISPLACED_START, R380: A repeated START where an acknowledge was due ends the transfer and discards the word in progress. -/
  | twtMisplacedStart
  /-- TWT_BUS_TIMEOUT, R381: SCL or SDA is low for 25 ms within a transaction; the target abandons it with code 0x0734. -/
  | twtBusTimeout
  /-- TWC_GO, R383: A write of GO to TWC_CMD starts a controller transfer once the bus is free. -/
  | twcGo (m : Master) (v : Word)
  /-- TWC_TRANSFER_DONE, R383: A controller transfer ends, with or without a NACK, and DONE is set. -/
  | twcTransferDone (nackAddr : Bool) (nackData : Option (Fin 32)) (rx : List Byte)
  /-- TWC_ARB_LOST, R385: The controller reads 0 where it sent 1, or sees a foreign START or STOP, and stops driving. -/
  | twcArbLost
  /-- TWC_ARB_RETRY, R385: Once the bus is free, the controller restarts the transfer, or ends with ARB_LOST after ARB_RETRIES. -/
  | twcArbRetry
  /-- TWC_SCL_TIMEOUT, R386: SCL is held low for SCL_LOW_MS, and the controller self-resets with code 0x0743. -/
  | twcSclTimeout
  /-- TWC_SDA_TIMEOUT, R386: SDA is held low on an idle bus for SDA_LOW_MS, and the controller self-resets with code 0x0744. -/
  | twcSdaTimeout
  /-- TWC_BUS_CLEARED, R387: SDA reads high during the clearing pulses; a STOP is made and BUS_CLEARED is raised. -/
  | twcBusCleared
  /-- TWC_BUS_STUCK, R387: SCL stays low, or SDA stays low after nine pulses; BUS_STUCK is declared and the unit goes to OFF. -/
  | twcBusStuck
  /-- TWC_TX_PUSH, R383: A write of TWC_TXDATA appends a byte to the transmit FIFO. -/
  | twcTxPush (m : Master) (v : Word)
  /-- TWC_RX_POP, R394: A read of TWC_RXDATA removes the oldest received byte. -/
  | twcRxPop (m : Master)
  /-- IBR_FIFO_POP, R391: A read of IBR_FIFO removes the oldest accepted in-band request. -/
  | ibrFifoPop (m : Master)
  /-- IBR_REQUEST_START, R390: An IRQ pin in IBR_PINS asserts, and the target drives SDA low to request. -/
  | ibrRequestStart
  /-- IBR_REPEAT, R390: IBR_REPEAT_MS passes with the pin still asserted or after a refusal, and the request is repeated. -/
  | ibrRepeat
  /-- IBR_WITHDRAW, R389: The requester sees SCL fall within 18 µs, or loses address arbitration, and withdraws. -/
  | ibrWithdraw
  /-- IBR_UNSERVED, R389: SCL has not fallen 1 ms after the request; SDA is released and the miss is counted. -/
  | ibrUnserved
  /-- IBR_FRAME_END, R388: An in-band request frame completes, accepted or refused, with a STOP. -/
  | ibrFrameEnd (accepted : Bool)
  /-- IBR_SERVE, R391: The controller detects a request and clocks the frame, accepting or refusing the address. -/
  | ibrServe (addr : BitVec 7) (reason : Byte)
  /-- REF_QUALIFIED, R397: The reference stays within ±1,000 ppm over 10 ms and REF_OK sets. -/
  | refQualified
  /-- REF_LOST, R397: The reference stops or drifts beyond ±2,000 ppm; REF_LOST is raised and the root enters holdover. -/
  | refLost
  /-- ROOT_LOCKED, R401: The phase error stays within 1/16 cycle for 100 µs; the root is locked and, at the first lock, the epoch starts. -/
  | rootLocked
  /-- ROOT_LOCK_LOST, R401: The phase error exceeds 1/4 cycle for 10 µs, and holdover is entered as for a reference loss. -/
  | rootLockLost
  /-- TIMING_FAULT, R403: Holdover lasts 10 s; TRUSTED clears and F2 is declared for timing. -/
  | timingFault
  /-- GLIDE_END, R405: A glide of the DCO word ends and GLIDING clears. -/
  | glideEnd
  /-- REF_CFG_WRITE, R407: A write of REF_CFG enters holdover, applies the new settings and relocks. -/
  | refCfgWrite (m : Master) (v : Word)
  /-- PHASE_TRIM_WRITE, R409: A write of PHASE_TRIM starts or replaces a trim of the epoch phase. -/
  | phaseTrimWrite (m : Master) (v : Word)
  /-- TRIM_DONE, R409: PHASE_LEFT reaches 0 and TRIMMING clears. -/
  | trimDone
  /-- EPOCH_LOAD, R410: A write of LOAD places EPOCH_LOAD into the epoch at the next audio-master edge, or is refused. -/
  | epochLoad (m : Master) (v : Word)
  /-- CLK_OUT_CONFIG_WRITE, R413: A write of a clock output's configuration or divider is checked and queued as a pending change. -/
  | clkOutConfigWrite (m : Master) (n : Fin 4) (div : Bool) (v : Word)
  /-- CLK_OUT_CHANGE_APPLIED, R413: After its high phase and low hold, the output starts on the new settings, or stops. -/
  | clkOutChangeApplied (n : Fin 4)
  /-- VIN_WARNING, R423: VIN falls below the warning level; the feeds go off and the Saddlebag save begins. -/
  | vinWarning
  /-- SADDLEBAG_SAVE_DONE, R423: The Saddlebag copy is written and checked, and the main die enters retention. -/
  | saddlebagSaveDone (us : Nat)
  /-- WARM_RESUME, R426: VIN holds above the recovery level for 1 ms, and the warm resume starts. -/
  | warmResume (ticks : Nat) (vcore : Bool)
  /-- WARM_RESUME_READY, R426: State is restored, firmware resumes, PWR_GOOD rises and WARM_RESUME is raised. -/
  | warmResumeReady (ticks : Nat)
  /-- FEED_RESUME, R426: A feed that was on returns 1 ms after the previous one, with soft-start. -/
  | feedResume (n : Fin 8)
  /-- VIN_RESET, R427: VIN reaches the reset level; the main die resets, an unfinished save fails, and a cold boot follows. -/
  | vinReset
  /-- RAIL_FAULT, R418: A rail leaves regulation for its time limit; its OK bit clears and RAIL_FAULT is raised. -/
  | railFault (rail : Fin 3)
  /-- FEED_ON_WRITE, R431: A write of ON = 1 starts a feed's soft-start, or ON = 0 switches it off. -/
  | feedOnWrite (m : Master) (n : Fin 8) (v : Word)
  /-- FEED_SOFT_START_DONE, R431: The 1 ms ramp of a feed ends and the output enters STATE 2. -/
  | feedSoftStartDone (n : Fin 8)
  /-- FEED_SHORT, R431: A feed held at its limit for 2 ms is switched off as shorted. -/
  | feedShort (n : Fin 8)
  /-- FEED_RETRY, R431: RETRY_S after a short, the feed soft-starts again, or stays off with RETRY_EXHAUSTED. -/
  | feedRetry (n : Fin 8)
  /-- FEED_OPEN, R432: The feed current stays below OPEN_MA for 100 ms, and OPEN is set. -/
  | feedOpen (n : Fin 8)
  /-- FEED_OPEN_CLEARED, R432: The feed current stays at OPEN_MA + 2 mA for 100 ms, and OPEN clears. -/
  | feedOpenCleared (n : Fin 8)
  /-- FEED_REVERSE, R433: FEED_n stands 0.5 V above the rail for 10 µs, and the output is switched off with code 0x0412. -/
  | feedReverse (n : Fin 8)
  /-- STANDBY_ENTERED, R434: The standby writes complete; VCORE and VSYS go off and the wake logic is armed. -/
  | standbyEntered
  /-- WAKE_PIN, R435: WAKE stays high for 1 ms with its mask bit set, and standby ends. -/
  | wakePin
  /-- RTC_ALARM, R435: The RTC reaches RTC_ALARM with ALARM_EN and its mask bit set, and standby ends. -/
  | rtcAlarm
  /-- TWT_WAKE_MATCH, R382: An address byte matching the strap address in standby wakes the device without an acknowledge. -/
  | twtWakeMatch
  /-- RESET_N, R489: RESET_N is asserted; the main die resets and cold-boots at its release. -/
  | resetN
  /-- KEEPER_RESET, R436: VIN falls below 4.0 V; the Keeper resets and its registers return to reset values. -/
  | keeperReset
  /-- RTC_SET, R439: A write of SET loads RTC_SET at the next tick and sets RTC_VALID. -/
  | rtcSet (m : Master) (v : Word)
  /-- SHADOW_COPY, R441: At least once per millisecond each duty copies its soft state to the spare's shadow. -/
  | shadowCopy
  /-- MIGRATION_COMPLETE, R442: A duty resumes on its new core; CORE_CHANGE is raised and a notice is sent. -/
  | migrationComplete (duty : Fin 4)
  /-- WATCHDOG_EXPIRED, R446: A core's watchdog expires, and a core fault is handled. -/
  | watchdogExpired (core : Fin 5)
  /-- MEMORY_ECC_ERROR, R479: A corrected or uncorrectable memory error is detected and classed by the memory concerned. -/
  | memoryEccError (a : EccArg)
  /-- CORE_STATUS, R454: Command returning the core registers. -/
  | coreStatus (ph : Fin 8) (tag : BitVec 8) (args : List Word)
  /-- CORE_RETIRE, R445: Command migrating a core's duty to the spare and retiring the core. -/
  | coreRetire (ph : Fin 8) (tag : BitVec 8) (args : List Word)
  /-- CORE_RESTORE, R445: Command starting a retired or recovered core as the spare. -/
  | coreRestore (ph : Fin 8) (tag : BitVec 8) (args : List Word)
  /-- CORE_START_DONE, R445: A started core becomes the spare. -/
  | coreStartDone (core : Fin 5)
  /-- CORE_MIGRATE, R442: Command moving a duty to the spare. -/
  | coreMigrate (ph : Fin 8) (tag : BitVec 8) (args : List Word)
  /-- FW_VERIFY, R448: Command checking a firmware slot. -/
  | fwVerify (ph : Fin 8) (tag : BitVec 8) (args : List Word)
  /-- FW_ACTIVATE, R451: Command rolling the duties onto a verified slot of the same ABI. -/
  | fwActivate (ph : Fin 8) (tag : BitVec 8) (args : List Word)
  /-- FW_ROLL_DONE, R451: The last core starts as spare on the new slot; BOOT.FW is updated and UPDATE_DONE is raised. -/
  | fwRollDone
  /-- UPD_SET_BOOT, R450: Command setting the boot preference for firmware or Manifest. -/
  | updSetBoot (ph : Fin 8) (tag : BitVec 8) (args : List Word)
  /-- CAL_RESTORE, R452: Command writing a host calibration section into the store. -/
  | calRestore (ph : Fin 8) (tag : BitVec 8) (args : List Word)
  /-- UNIT_REPLACE, R453: Command exchanging the physical units behind two logical instances. -/
  | unitReplace (ph : Fin 8) (tag : BitVec 8) (args : List Word)
  /-- NV_GO, R449: A write of GO copies NV_DATA and starts an MRAM write, or is refused. -/
  | nvGo (m : Master)
  /-- NV_ABORT, R449: A write of ABORT ends the MRAM write at its next page boundary. -/
  | nvAbort (m : Master)
  /-- NV_PAGE_WRITTEN, R449: An MRAM page is written and compared; the write continues, completes or fails. -/
  | nvPageWritten (ok : Bool)
  /-- LINK_TRAINED, R460: Training completes and the first heartbeat arrives; LINK_UP sets and PARTNER_UP is raised. -/
  | linkTrained (latency : Nat) (hb : HeartbeatArg) (abi : BitVec 8)
  /-- LINK_TRAIN_RETRY, R460: Training fails for 10 ms; code 0x090A is recorded and training retries. -/
  | linkTrainRetry
  /-- HEARTBEAT_SEND, R462: Every 1 µs while the link is up, a chip sends a heartbeat. -/
  | heartbeatSend
  /-- HEARTBEAT_RECEIVED, R462: A good heartbeat arrives; loss clears and the epoch offset and sequences are compared. -/
  | heartbeatReceived (hb : HeartbeatArg) (offset : Int)
  /-- HEARTBEAT_LOSS, R462: No good heartbeat arrives for 4 µs; loss is declared and the partner's semaphores are freed. -/
  | heartbeatLoss (lost : Nat)
  /-- MIRROR_FRAME, R464: The standby applies a MIRROR frame as a master-7 access, in SEQ order. -/
  | mirrorFrame (seq : Word) (addr : Word) (v : Word)
  /-- FERRY_WRITE_FRAME, R27: A WRITE frame is carried out at the partner as an access by master 7. -/
  | ferryWriteFrame (wd : Width) (addr : Word) (v : Word) (m : Master)
  /-- FERRY_READ_REQ, R28: A READ_REQ frame is served at the partner, and a READ_RSP is returned. -/
  | ferryReadReq (wd : Width) (addr : Word) (m : Master) (tag : BitVec 8)
  /-- FERRY_EVENT_FRAME, R361: An EVENT frame latches PARTNER_EVENT and sets PARTNER_LAST. -/
  | ferryEventFrame (e : Fin 128)
  /-- FERRY_MESSAGE_FRAME, R463: A MESSAGE frame carries a mirrored command or decision to the standby. -/
  | ferryMessageFrame (msg : MessageArg)
  /-- REPLAY_REQUEST, R465: The lead receives REPLAY_REQ and resends the missing frames, or starts a resync. -/
  | replayRequest (seq : Word)
  /-- FERRY_BAD_FRAME, R461: A frame with a coding or CRC error is discarded and FERRY_ERROR is raised. -/
  | ferryBadFrame
  /-- MIRROR_GAP_TIMEOUT, R465: A frame is out of order, or absent 8 µs after the TX_SEQ that covers it, and the standby sends REPLAY_REQ. -/
  | mirrorGapTimeout
  /-- RESYNC_DONE, R466: The standby has applied the full state, and MIRROR_STATE becomes 2. -/
  | resyncDone (a : ResyncArg)
  /-- LEAD_CLAIM, R469: PAIR_LEAD_N stays high for the claim delay, and the chip drives it and becomes lead. -/
  | leadClaim (low : Bool)
  /-- RELEASE_SILENCE_END, R469: A released lead sees PAIR_LEAD_N low and becomes standby, or after 100 µs returns to ROLE 0. -/
  | releaseSilenceEnd (low : Bool)
  /-- WIRE_CHECK_FAIL, R469: A lead reads PAIR_LEAD_N high for 1 µs while driving it; code 0x0905 is recorded. -/
  | wireCheckFail
  /-- TAKEOVER, R470: The standby's takeover conditions hold at an epoch; it drives PAIR_LEAD_N and raises CROSSING. -/
  | takeover (epoch : BitVec 64)
  /-- PR_STATUS, R474: Command returning the pair status, the epoch offset and the mirror lag. -/
  | prStatus (ph : Fin 8) (tag : BitVec 8) (args : List Word)
  /-- PR_HANDOVER, R472: Command choosing the handover epoch E for a planned crossing. -/
  | prHandover (ph : Fin 8) (tag : BitVec 8) (args : List Word) (partner : Word)
  /-- HANDOVER_RELEASE, R472: At E − 20 µs the lead releases PAIR_LEAD_N and falls silent while it keeps driving. -/
  | handoverRelease
  /-- HANDOVER_EPOCH, R472: At E the lead stops driving and the standby starts driving the paired ports. -/
  | handoverEpoch
  /-- PR_TAKE, R474: Command setting the takeover override on a standby. -/
  | prTake (ph : Fin 8) (tag : BitVec 8) (args : List Word)
  /-- PR_RESYNC, R474: Command starting a resync on the lead. -/
  | prResync (ph : Fin 8) (tag : BitVec 8) (args : List Word)
  /-- THERMAL_READING, R512: Every 1 ms the junction sensor reports, and warning, F2 or F3 may follow. -/
  | thermalReading (t : Int)
  /-- THERMAL_RECOVER, R484: The junction stays below 115 °C for 1 s, and the thermal F2 ends. -/
  | thermalRecover
  /-- BOOK_AUDIT, R487: Firmware audits the pool balances and the queue credits, and declares a fault on imbalance. -/
  | bookAudit
  /-- FAULT_LOG_WRITE, R485: Firmware writes a fault-log entry, rate-limited for F0. -/
  | faultLogWrite
  /-- COLD_BOOT, R489: VIN holds at 9.5 V for 1 ms, or a reset is released, and the cold boot sequence begins. -/
  | coldBoot (ticks : Nat)
  /-- FIRMWARE_READY, R497: Firmware enters service; FIRMWARE_READY is raised and the boot notice is sent. -/
  | firmwareReady
  /-- ROOT_LOCK_TIMEOUT, R493: The root has not locked 1 s after step 3, and F0 is declared with code 0x0F62. -/
  | rootLockTimeout
  /-- SELF_CHECK_DONE, R59: The self-check rerun by a SYNC_RESET of a unit in SAFE or FAULT ends, BUSY clears and a cause the rerun clears no longer stands. -/
  | selfCheckDone (w : Fin 1024) (ok : Bool)
  /-- MF_LOAD_COMPLETE, R81: After the ramped mute of every composite, a full Manifest load releases the old structure, applies the new image and fires its condition-0 triggers. -/
  | mfLoadComplete
  /-- TWC_BUS_FREE, R384: The two-wire controller sees the bus become free after a STOP and the bus-free time, and starts a transfer that was waiting. -/
  | twcBusFree
  /-- FEED_RAIL_REGULATED, R484: The FEED rail returns to regulation, FEED_OK sets again and the feed F2 fault ends. -/
  | feedRailRegulated
  /-- RESYNC_TIMEOUT, R479: A pair resync that has not completed within 100 ms declares F2 with code 0x0908 in the standby. -/
  | resyncTimeout
  /-- WIRE_CHECK_CLEARED, R478: A lead that had failed its wire check reads PAIR_LEAD_N low again, and the lasting F0 of code 0x0905 ends. -/
  | wireCheckCleared
  deriving DecidableEq, Repr

end Sys2Proof
end

