-- ==== Sys2Proof/Decode.lean ====
section
/-! DEFINITION. The decoder of the opcode table's words. The table gives none of its rows any bits:
the block is driven by commands, not by encoded instructions, so no word spells a command
(notes/assumptions/2.md). -/

namespace Sys2Proof

/-- The command that a word spells by the table's bits: the table gives no row bits, so none.
Mark DEDUCED: notes/assumptions/2.md. -/
def decodeTableWord (_nbits _w : Nat) : Option Instr := none

end Sys2Proof
end

