-- ==== Sys2Proof/Config.lean ====
section
/-! DEFINITION. The values the spec leaves open, as constants with no body: nothing can evaluate them
or prove a value of them (notes/assumptions/6.md). Each is applied to what it depends on, or to the
state's counter of free values for a fresh one. -/

namespace Sys2Proof.Config

/-- A fresh word for a result that the spec does not state.
Mark DESIGN CHOICE: notes/assumptions/6.md. -/
opaque freeWord : Nat → Word

/-- How a value between two integers is rounded, where the spec does not say: for a count of free values and a place.
Mark DESIGN CHOICE: notes/assumptions/235.md. -/
opaque rounds : Nat → Nat → Bool

/-- The fixed linear filters whose coefficients the spec does not state: HB1 and HB2 (R145), the decimators of the FM path
and the high-pass of its blanker (R174, R181), the AM audio filter, its sidebands and its interpolator (R185, R188), the
converter to 48 kHz (R281), and the decimation of a FOLLOW engine's mono sums (R268). -/
inductive Filter where
  | halfBand | halve | quarter | impulse | amAudio | amSide | interpolate | toLane | correlator
  deriving DecidableEq, Repr

/-- A coefficient of such a filter with 24 fractional bits, for a parameter and a place.
Mark DESIGN CHOICE: notes/assumptions/235.md. -/
opaque tap : Filter → Nat → Nat → Int

/-- The stages of the signal paths whose working the spec does not state. -/
inductive Stage where
  /-- The pilot PLL, which gives the phase of 38 kHz (R174, R177); high cut below its flat setting (R176). -/
  | pilotPll | highCut
  /-- The RDS demodulator: a bit and its confidence from the MPX samples since the bit before (R183). -/
  | rdsBit
  /-- The AM carrier PLL, which gives the carrier's phase (R186). -/
  | carrierPll
  /-- The ASRC's polyphase interpolator (R295). -/
  | asrc
  /-- A codec's decoder and its concealment (R280, R283). -/
  | decode | conceal
  /-- The PAD in an access unit or frame (R236). -/
  | pad
  /-- Of an OFDM engine: the carriers of a symbol and the channel estimates that it makes of the samples, and the channel
  decoder over what is combined (R211–R221). -/
  | carriers | channelDecode
  deriving DecidableEq, Repr

/-- What a stage makes of its parameters, of what it carried on from before and of the samples that reach it: what it
carries on, and its outputs.
Mark DESIGN CHOICE: notes/assumptions/194.md. -/
opaque stage : Stage → List Int → List Int → List Int → List Int × List Int

/-- The one output of a stage. -/
def one (g : Stage) (params carried xs : List Int) : Int := (stage g params carried xs).2.headD 0

/-- The least that UNIT_POWER's estimate may be is 0 and its most POWER_MAX (R524): the estimate
itself, for a fresh count and a window, is the device's.
Mark DESIGN CHOICE: notes/assumptions/75.md. -/
opaque powerEstimate : Nat → Nat → Nat

/-- LATENCY_US, fixed for each codec and decoded rate (R285).
Mark DESIGN CHOICE: notes/assumptions/48.md. -/
opaque decoderLatency : Nat → Nat → Nat

/-- The public keys of P-256, as points: the owner's, fused in the part, which signs Manifests, and Roldel's, in the boot ROM,
which signs firmware (R66, R447).
Mark DESIGN CHOICE: notes/assumptions/151.md. -/
opaque ownerKey : Nat × Nat
opaque romKey : Nat × Nat

/-- The values that firmware keeps in the private content of a calibration section (R135): 0 and 1 the quadrature errors
of the twins by divisor, 2 the path's mismatch by divisor, 3 the corner trims, 4 the step values, 5 the offsets, 6 and 7
the DCO sub-bands, DCO gains and TDC gains of the twins by divisor.
Mark DESIGN CHOICE: notes/assumptions/193.md. -/
opaque calValues : List Byte → Nat → List Int

/-- The service IDs that an SDC entity of type 0 gives, by short ID, each followed by 0 or one more than its programme type:
how they lie in its bytes is not stated (R238).
Mark DESIGN CHOICE: notes/assumptions/231.md. -/
opaque sdcServices : List Nat → List Nat

/-- The switching entry that an announcement entity of the SDC carries, its types mapped to the ASw flags, in the layout of
ANN_LAST (R222).
Mark DESIGN CHOICE: notes/assumptions/252.md. -/
opaque sdcSwitch : List Nat → Nat

/-- The coefficients of the ASRC's second-order loop in 2^-32, for TRACK_BW: that of the integrator and that of the fill
(R296).
Mark DESIGN CHOICE: notes/assumptions/253.md. -/
opaque loopGain : Nat → Bool → Nat

/-- The UID that a calibration section carries in its private content (R135, R452).
Mark DESIGN CHOICE: notes/assumptions/151.md. -/
opaque sectionUid : List Byte → BitVec 64

end Sys2Proof.Config
end

