-- ==== Sys2Proof/Machine/Operands.lean ====
section
/-! DEFINITION. The register map of the spec (every register table of the chapters), as data:
offset, repeat count and stride of each register, and for each field its bits, access code (R10),
reset value, the values it may take (R50) and the unit states in which it may change (R518).
Beside it one `FRef` per field, under the spec's own names, through which the meanings reach it. -/

namespace Sys2Proof.Machine

/-- A field's place: byte offset of its register in the window or block, and its bits. -/
structure FRef where
  off : Nat
  msb : Nat
  lsb : Nat
  deriving DecidableEq, Repr

/-- The same field in element `i` of a register array. -/
def FRef.at (f : FRef) (i : Nat) (stride : Nat := 4) : FRef := { f with off := f.off + stride * i }

/-- Access codes of R10, with statistics counters (R45, their UNIT_COUNTER_OVF bit) and peak
registers (R10) told apart from other RW fields. -/
inductive Acc where
  | rw | ro | wo | w1c | w1s | rc
  | ctr (bit : Nat)
  | peak
  deriving DecidableEq, Repr

/-- Which values a field may take: anything; up to a largest encoding (above it reserved, 0x0201);
a stated range (outside it 0x0202); 0 or a range; a signed range; an aerial route (R90); gain-filter
format codes of R153; a field one of whose bits is reserved; the NV destination and length (R449); an AUDIO_DEC window
or 0x3FF (R346). -/
inductive Lim where
  | any
  | upTo (hi : Nat)
  | within (lo hi : Nat)
  | zeroOr (lo hi : Nat)
  | signedIn (lo hi : Int)
  | aerial
  | aerialL
  | fmtAll
  | fmtReal
  | bit1Reserved
  | nvDst
  | step256 (lo hi : Nat)
  | decoder
  deriving DecidableEq, Repr

/-- One field. `lock` is 0, or a bit mask over STATE numbers in which the field may change (R518). -/
structure Fld where
  msb : Nat
  lsb : Nat
  acc : Acc
  rst : Nat
  lim : Lim
  lock : Nat
  deriving DecidableEq, Repr

/-- One register, or an array of `cnt` registers `stride` bytes apart. -/
structure RegD where
  off : Nat
  cnt : Nat
  stride : Nat
  flds : List Fld
  deriving DecidableEq, Repr

/-! ## Fields by name -/

namespace SYS
def SYS_ID_PART_CODE : FRef := ⟨0x000, 31, 16⟩
def SYS_ID_GRADE : FRef := ⟨0x000, 15, 8⟩
def SYS_ID_REVISION : FRef := ⟨0x000, 7, 0⟩
def SYS_FUSES_REDUCED : FRef := ⟨0x004, 0, 0⟩
def SYS_FUSES_SIG_REQUIRED : FRef := ⟨0x004, 1, 1⟩
def SYS_UID_LO : FRef := ⟨0x008, 31, 0⟩
def SYS_UID_HI : FRef := ⟨0x00C, 31, 0⟩
def SYS_MASTER_ID_MASTER : FRef := ⟨0x010, 3, 0⟩
def SYS_RESET_CAUSE_POR : FRef := ⟨0x014, 0, 0⟩
def SYS_RESET_CAUSE_PIN : FRef := ⟨0x014, 1, 1⟩
def SYS_RESET_CAUSE_SOFT : FRef := ⟨0x014, 2, 2⟩
def SYS_RESET_CAUSE_WATCHDOG : FRef := ⟨0x014, 3, 3⟩
def SYS_RESET_CAUSE_VIN_LOW : FRef := ⟨0x014, 4, 4⟩
def SYS_RESET_CAUSE_WARM : FRef := ⟨0x014, 5, 5⟩
def SYS_RESET_CAUSE_WAKE : FRef := ⟨0x014, 6, 6⟩
def SYS_RESET_CAUSE_LAST : FRef := ⟨0x014, 10, 8⟩
def SYS_SOFT_RESET_SCOPE : FRef := ⟨0x018, 3, 0⟩
def SYS_SOFT_RESET_KEY : FRef := ⟨0x018, 31, 16⟩
def SYS_ACCESS_ADDR : FRef := ⟨0x020, 31, 0⟩
def SYS_ACCESS_INFO_CODE : FRef := ⟨0x024, 15, 0⟩
def SYS_ACCESS_INFO_MASTER : FRef := ⟨0x024, 19, 16⟩
def SYS_ACCESS_INFO_WRITE : FRef := ⟨0x024, 20, 20⟩
def SYS_ACCESS_COUNT : FRef := ⟨0x028, 31, 0⟩
def SYS_COUNTER_OVF : FRef := ⟨0x02C, 1, 0⟩
def EPOCH_LO : FRef := ⟨0x030, 31, 0⟩
def EPOCH_HI : FRef := ⟨0x034, 31, 0⟩
def EPOCH_SNAP : FRef := ⟨0x038, 0, 0⟩
def EPOCH_SNAP_LO : FRef := ⟨0x040, 31, 0⟩
def EPOCH_SNAP_HI : FRef := ⟨0x044, 31, 0⟩
def SEM_VIOLATION_COUNT : FRef := ⟨0x050, 31, 0⟩
def SEM_HELD : FRef := ⟨0x054, 31, 0⟩
def SEM : FRef := ⟨0x100, 31, 0⟩
def SEM_PEEK : FRef := ⟨0x180, 31, 0⟩
end SYS

namespace UCB
def UNIT_ID_KIND : FRef := ⟨0x000, 31, 24⟩
def UNIT_ID_INSTANCE : FRef := ⟨0x000, 23, 16⟩
def UNIT_ID_VERSION : FRef := ⟨0x000, 15, 0⟩
def UNIT_CTL_ENABLE : FRef := ⟨0x004, 0, 0⟩
def UNIT_CTL_RUN : FRef := ⟨0x004, 1, 1⟩
def UNIT_CTL_HOLD : FRef := ⟨0x004, 2, 2⟩
def UNIT_CTL_SYNC_RESET : FRef := ⟨0x004, 3, 3⟩
def UNIT_CTL_APPLY : FRef := ⟨0x004, 4, 4⟩
def UNIT_CTL_MUTE : FRef := ⟨0x004, 5, 5⟩
def UNIT_CTL_HOLD_MUTE_WARM : FRef := ⟨0x004, 6, 6⟩
def UNIT_CTL_FAULT_CLEAR : FRef := ⟨0x004, 7, 7⟩
def UNIT_STATUS_STATE : FRef := ⟨0x008, 2, 0⟩
def UNIT_STATUS_VALID : FRef := ⟨0x008, 3, 3⟩
def UNIT_STATUS_BUSY : FRef := ⟨0x008, 4, 4⟩
def UNIT_STATUS_APPLY_PENDING : FRef := ⟨0x008, 5, 5⟩
def UNIT_STATUS_HOLD_CAUSE : FRef := ⟨0x008, 7, 6⟩
def UNIT_EVENT_GENERIC : FRef := ⟨0x00C, 5, 0⟩
def UNIT_EVENT_KIND : FRef := ⟨0x00C, 31, 16⟩
def UNIT_EVMASK_GENERIC : FRef := ⟨0x010, 5, 0⟩
def UNIT_EVMASK_KIND : FRef := ⟨0x010, 31, 16⟩
def UNIT_PARENT_PARENT : FRef := ⟨0x014, 9, 0⟩
def UNIT_PARENT_BOUND : FRef := ⟨0x014, 31, 31⟩
def UNIT_CHILDREN_FIRST : FRef := ⟨0x018, 9, 0⟩
def UNIT_CHILDREN_COUNT : FRef := ⟨0x018, 25, 16⟩
def UNIT_LINK_IN_SOURCE : FRef := ⟨0x01C, 9, 0⟩
def UNIT_LINK_IN_SRC_OUT : FRef := ⟨0x01C, 13, 10⟩
def UNIT_LINK_IN_INPUTS : FRef := ⟨0x01C, 19, 16⟩
def UNIT_LINK_OUT_FIRST_SINK : FRef := ⟨0x020, 9, 0⟩
def UNIT_LINK_OUT_SINKS : FRef := ⟨0x020, 25, 16⟩
def UNIT_ERR_CODE : FRef := ⟨0x024, 15, 0⟩
def UNIT_COUNTER_OVF : FRef := ⟨0x028, 31, 0⟩
def UNIT_GEN : FRef := ⟨0x02C, 31, 0⟩
def UNIT_POWER_POWER : FRef := ⟨0x030, 15, 0⟩
end UCB

namespace COMP
def COMP_LABEL : FRef := ⟨0x040, 31, 0⟩
def COMP_MANIFEST_ID : FRef := ⟨0x044, 31, 0⟩
def UNITS : FRef := ⟨0x048, 9, 0⟩
def COMPOSITES : FRef := ⟨0x048, 25, 16⟩
end COMP

namespace MFL
def MF_STATE : FRef := ⟨0x080, 1, 0⟩
def CODE : FRef := ⟨0x084, 15, 0⟩
def RECORD : FRef := ⟨0x084, 31, 16⟩
def MF_WORD : FRef := ⟨0x088, 15, 0⟩
def FREE_COMPOSITES : FRef := ⟨0x08C, 8, 0⟩
def FREE_DS_BLOCKS : FRef := ⟨0x08C, 27, 16⟩
def FREE_Q_UNITS : FRef := ⟨0x090, 13, 0⟩
def LARGEST_Q_RUN : FRef := ⟨0x090, 29, 16⟩
def MF_REJECT_COUNT : FRef := ⟨0x094, 31, 0⟩
end MFL

namespace ANT
def ROUTE_A : FRef := ⟨0x040, 3, 0⟩
def ROUTE_B : FRef := ⟨0x040, 7, 4⟩
def ROUTE_L_A : FRef := ⟨0x050, 3, 0⟩
def AERIAL_USE_IN_USE : FRef := ⟨0x060, 7, 0⟩
end ANT

namespace FE
def CENTRE_KHZ : FRef := ⟨0x040, 20, 0⟩
def FE_CFG_KEEP_CHANNELS : FRef := ⟨0x044, 0, 0⟩
def FE_CFG_OFFSET_TRACK : FRef := ⟨0x044, 1, 1⟩
def FE_CFG_OFFSET_TC : FRef := ⟨0x044, 3, 2⟩
def AGC_CTL_MODE : FRef := ⟨0x048, 1, 0⟩
def AGC_CTL_MANUAL_INDEX : FRef := ⟨0x048, 12, 8⟩
def AGC_CTL_MIN_INDEX : FRef := ⟨0x048, 20, 16⟩
def AGC_CTL_MAX_INDEX : FRef := ⟨0x048, 28, 24⟩
def AGC_TIMING_TARGET : FRef := ⟨0x04C, 7, 0⟩
def AGC_TIMING_HYST : FRef := ⟨0x04C, 11, 8⟩
def AGC_TIMING_DECAY_MS : FRef := ⟨0x04C, 23, 16⟩
def AGC_TIMING_ATTACK_US : FRef := ⟨0x04C, 31, 24⟩
def OVL_CTL_CLIP_THRESH : FRef := ⟨0x050, 7, 0⟩
def OVL_CTL_OVL_STEP : FRef := ⟨0x050, 10, 8⟩
def OVL_CTL_STUCK_MS : FRef := ⟨0x050, 23, 16⟩
def DIV_CTL_MODE : FRef := ⟨0x054, 1, 0⟩
def DIV_CTL_HYST_DB : FRef := ⟨0x054, 7, 4⟩
def DIV_CTL_MIN_DWELL_MS : FRef := ⟨0x054, 15, 8⟩
def DIV_CTL_REF_WINDOW : FRef := ⟨0x054, 25, 16⟩
def DIV_THRESH_THRESH : FRef := ⟨0x058, 7, 0⟩
def FE_STATUS_GAIN_INDEX : FRef := ⟨0x060, 4, 0⟩
def FE_STATUS_AERIAL : FRef := ⟨0x060, 10, 8⟩
def FE_STATUS_ON_B : FRef := ⟨0x060, 11, 11⟩
def FE_STATUS_OVERLOAD : FRef := ⟨0x060, 12, 12⟩
def FE_STATUS_OVL_STUCK : FRef := ⟨0x060, 13, 13⟩
def FE_STATUS_LO_SERVING : FRef := ⟨0x060, 14, 14⟩
def FE_STATUS_COMBINING : FRef := ⟨0x060, 15, 15⟩
def FE_STATUS_BW_INDEX : FRef := ⟨0x060, 19, 16⟩
def FE_STATUS_ATTEN_DB : FRef := ⟨0x060, 31, 24⟩
def LEVEL_ADC_DBFS : FRef := ⟨0x064, 15, 0⟩
def LEVEL_INPUT_DBM : FRef := ⟨0x064, 31, 16⟩
def OFFSET_RESIDUAL_RESIDUAL_I : FRef := ⟨0x068, 15, 0⟩
def OFFSET_RESIDUAL_RESIDUAL_Q : FRef := ⟨0x068, 31, 16⟩
def OVERLOAD_COUNT : FRef := ⟨0x070, 31, 0⟩
def AGC_STEP_COUNT : FRef := ⟨0x074, 31, 0⟩
def DIV_SWITCH_COUNT : FRef := ⟨0x078, 31, 0⟩
def DIV_DEFER_COUNT : FRef := ⟨0x07C, 31, 0⟩
def DIV_RETURN_COUNT : FRef := ⟨0x080, 31, 0⟩
def GAIN_TABLE : FRef := ⟨0x100, 31, 0⟩
end FE

namespace LO
def LO_KHZ : FRef := ⟨0x040, 20, 0⟩
def REF_MODE : FRef := ⟨0x044, 1, 0⟩
def LO_STATUS_ROLE : FRef := ⟨0x048, 1, 0⟩
def LO_STATUS_LOCKED : FRef := ⟨0x048, 2, 2⟩
def LO_STATUS_CAL_OK : FRef := ⟨0x048, 3, 3⟩
def LO_STATUS_STALE : FRef := ⟨0x048, 4, 4⟩
def LO_STATUS_EDGE : FRef := ⟨0x048, 5, 5⟩
def LO_STATUS_DIV_CODE : FRef := ⟨0x048, 11, 8⟩
def LO_STATUS_REF_USED : FRef := ⟨0x048, 13, 12⟩
def DCO_KHZ : FRef := ⟨0x04C, 22, 0⟩
def BOUNDARY_KHZ : FRef := ⟨0x050, 22, 0⟩
def QUAD_ERR : FRef := ⟨0x054, 15, 0⟩
def LOCK_LOST_COUNT : FRef := ⟨0x058, 31, 0⟩
def CAL_FAIL_COUNT : FRef := ⟨0x05C, 31, 0⟩
def PAIR_CTL_SEAM_REF : FRef := ⟨0x080, 9, 0⟩
def PAIR_CTL_TEMP_AUTO : FRef := ⟨0x080, 16, 16⟩
def PAIR_CTL_TEMP_THRESH : FRef := ⟨0x080, 24, 20⟩
def CAL_CTL_LO : FRef := ⟨0x084, 0, 0⟩
def CAL_CTL_IMAGE : FRef := ⟨0x084, 1, 1⟩
def CAL_CTL_FILTER : FRef := ⟨0x084, 2, 2⟩
def CAL_CTL_OFFSET : FRef := ⟨0x084, 3, 3⟩
def CAL_CTL_CAL_ABORT : FRef := ⟨0x084, 8, 8⟩
def CAL_STATUS_RUNNING : FRef := ⟨0x088, 3, 0⟩
def CAL_STATUS_PENDING : FRef := ⟨0x088, 7, 4⟩
def CAL_STATUS_STEP : FRef := ⟨0x088, 11, 8⟩
def CAL_STATUS_LAST_CODE : FRef := ⟨0x088, 31, 16⟩
def FE_TEMP : FRef := ⟨0x08C, 15, 0⟩
def CAL_TEMP : FRef := ⟨0x08C, 31, 16⟩
def TUNE_STATE : FRef := ⟨0x090, 1, 0⟩
def LAST_TUNE_US : FRef := ⟨0x090, 31, 16⟩
def IMAGE_REJ : FRef := ⟨0x094, 15, 0⟩
def TUNE_SUPERSEDED_COUNT : FRef := ⟨0x098, 31, 0⟩
def HANDOVER_COUNT : FRef := ⟨0x09C, 31, 0⟩
def SEAM_UNALIGNED_COUNT : FRef := ⟨0x0A0, 31, 0⟩
def CAL_ABORT_COUNT : FRef := ⟨0x0A4, 31, 0⟩
end LO

namespace DDC
def NCO_FREQ : FRef := ⟨0x040, 31, 0⟩
def RATE : FRef := ⟨0x044, 2, 0⟩
def CUSTOM_CIC_FACTOR : FRef := ⟨0x048, 10, 0⟩
def CUSTOM_HB1 : FRef := ⟨0x048, 16, 16⟩
def CUSTOM_HB2 : FRef := ⟨0x048, 17, 17⟩
def NCO_ACTIVE : FRef := ⟨0x04C, 31, 0⟩
def DDC_STATUS_DECIM : FRef := ⟨0x050, 12, 0⟩
def DDC_STATUS_BRANCHES : FRef := ⟨0x050, 17, 16⟩
def DDC_STATUS_WARM_LEFT : FRef := ⟨0x050, 31, 24⟩
def OUT_RATE : FRef := ⟨0x054, 31, 0⟩
def SAT_COUNT : FRef := ⟨0x058, 31, 0⟩
def JUMP_COUNT : FRef := ⟨0x05C, 31, 0⟩
end DDC

namespace FILT
def FILT_CFG_DECIM : FRef := ⟨0x040, 1, 0⟩
def BANK_CFG_TAPS : FRef := ⟨0x044, 9, 0⟩
def BANK_CFG_FORMAT : FRef := ⟨0x044, 14, 12⟩
def BANK_CFG_1_TAPS : FRef := ⟨0x048, 9, 0⟩
def BANK_CFG_1_FORMAT : FRef := ⟨0x048, 14, 12⟩
def LOAD_BANK : FRef := ⟨0x04C, 0, 0⟩
def SWAP_CTL_TARGET : FRef := ⟨0x050, 0, 0⟩
def SWAP_CTL_FADE_LEN : FRef := ⟨0x050, 31, 16⟩
def FILT_STATUS_ACTIVE : FRef := ⟨0x054, 0, 0⟩
def FILT_STATUS_FADING : FRef := ⟨0x054, 1, 1⟩
def FILT_STATUS_PENDING : FRef := ⟨0x054, 2, 2⟩
def FILT_STATUS_PENDING_TARGET : FRef := ⟨0x054, 3, 3⟩
def FILT_STATUS_FADE_POS : FRef := ⟨0x054, 31, 16⟩
def WARM_LEFT : FRef := ⟨0x058, 15, 0⟩
def SWAP_SUPERSEDED_COUNT : FRef := ⟨0x060, 31, 0⟩
def SAT_COUNT : FRef := ⟨0x064, 31, 0⟩
def COEF : FRef := ⟨0x800, 31, 0⟩
end FILT

namespace DET
def PEAK_MS : FRef := ⟨0x040, 13, 0⟩
def RMS_MS : FRef := ⟨0x044, 11, 0⟩
def ENV_CFG_ATTACK : FRef := ⟨0x048, 9, 0⟩
def ENV_CFG_RELEASE : FRef := ⟨0x048, 28, 16⟩
def SIL_CFG_MEASURE : FRef := ⟨0x04C, 1, 0⟩
def SIL_CFG_ENABLE : FRef := ⟨0x04C, 4, 4⟩
def SIL_CFG_HYST : FRef := ⟨0x04C, 11, 8⟩
def SIL_CFG_LEVEL : FRef := ⟨0x04C, 31, 16⟩
def SIL_TIME_ENTER_MS : FRef := ⟨0x050, 15, 0⟩
def SIL_TIME_EXIT_MS : FRef := ⟨0x050, 31, 16⟩
def OVER_CFG_MEASURE : FRef := ⟨0x054, 0, 0⟩
def OVER_CFG_ENABLE : FRef := ⟨0x054, 4, 4⟩
def OVER_CFG_COUNT : FRef := ⟨0x054, 15, 8⟩
def OVER_CFG_LEVEL : FRef := ⟨0x054, 31, 16⟩
def LOUD_CTL_INT_RUN : FRef := ⟨0x058, 0, 0⟩
def LOUD_CTL_INT_RESET : FRef := ⟨0x058, 1, 1⟩
def PEAK : FRef := ⟨0x080, 31, 0⟩
def TRUE_PEAK : FRef := ⟨0x084, 31, 0⟩
def RMS : FRef := ⟨0x088, 31, 0⟩
def ENVELOPE : FRef := ⟨0x08C, 31, 0⟩
def MOMENTARY : FRef := ⟨0x090, 15, 0⟩
def SHORT_TERM : FRef := ⟨0x090, 31, 16⟩
def INTEGRATED : FRef := ⟨0x094, 15, 0⟩
def MAX_TP : FRef := ⟨0x09C, 31, 0⟩
def DET_STATUS_SILENT : FRef := ⟨0x0A0, 0, 0⟩
def DET_STATUS_OVER : FRef := ⟨0x0A0, 1, 1⟩
def OVER_COUNT : FRef := ⟨0x0B0, 31, 0⟩
def SILENCE_COUNT : FRef := ⟨0x0B4, 31, 0⟩
end DET

namespace FM
def FM_CFG_DEEMPH : FRef := ⟨0x040, 0, 0⟩
def FM_CFG_FORCE_MONO : FRef := ⟨0x040, 1, 1⟩
def FM_CFG_NB_ON : FRef := ⟨0x040, 2, 2⟩
def FM_CFG_MP_ON : FRef := ⟨0x040, 3, 3⟩
def FM_CFG_MP_WEIGHT : FRef := ⟨0x040, 7, 4⟩
def BLEND_START : FRef := ⟨0x044, 7, 0⟩
def BLEND_FULL : FRef := ⟨0x044, 15, 8⟩
def HICUT_START : FRef := ⟨0x048, 7, 0⟩
def HICUT_FULL : FRef := ⟨0x048, 15, 8⟩
def HICUT_CORNER_MIN : FRef := ⟨0x048, 19, 16⟩
def HICUT_ON : FRef := ⟨0x048, 24, 24⟩
def SMUTE_START : FRef := ⟨0x04C, 7, 0⟩
def SMUTE_FULL : FRef := ⟨0x04C, 15, 8⟩
def SMUTE_MAX_DB : FRef := ⟨0x04C, 20, 16⟩
def SMUTE_ON : FRef := ⟨0x04C, 24, 24⟩
def TIMING_ATTACK_MS : FRef := ⟨0x050, 7, 0⟩
def TIMING_RELEASE_MS : FRef := ⟨0x050, 15, 8⟩
def NB_THRESH : FRef := ⟨0x054, 7, 0⟩
def NB_BLANK_SAMPLES : FRef := ⟨0x054, 12, 8⟩
def PILOT_MIN : FRef := ⟨0x058, 7, 0⟩
def DEV_LIMIT : FRef := ⟨0x05C, 15, 0⟩
def FM_STATUS_PILOT : FRef := ⟨0x080, 0, 0⟩
def FM_STATUS_STEREO : FRef := ⟨0x080, 1, 1⟩
def FM_STATUS_BLANKING : FRef := ⟨0x080, 2, 2⟩
def FM_STATUS_BLEND_POS : FRef := ⟨0x080, 15, 8⟩
def FM_STATUS_SMUTE_ATTEN : FRef := ⟨0x080, 23, 16⟩
def FM_STATUS_HICUT_CORNER : FRef := ⟨0x080, 31, 24⟩
def LEVEL_LEVEL_DBUV : FRef := ⟨0x084, 15, 0⟩
def LEVEL_Q : FRef := ⟨0x084, 23, 16⟩
def LEVEL_MP : FRef := ⟨0x084, 31, 24⟩
def OFFSET : FRef := ⟨0x088, 31, 0⟩
def DEVIATION : FRef := ⟨0x08C, 15, 0⟩
def PILOT_DEV : FRef := ⟨0x08C, 23, 16⟩
def RDS_DEV : FRef := ⟨0x08C, 31, 24⟩
def MPX_POWER : FRef := ⟨0x090, 15, 0⟩
def SNR : FRef := ⟨0x094, 15, 0⟩
def PILOT_LOSS_COUNT : FRef := ⟨0x0A0, 31, 0⟩
def BLANK_COUNT : FRef := ⟨0x0A4, 31, 0⟩
def DIV_HOLD_COUNT : FRef := ⟨0x0A8, 31, 0⟩
def OVERDEV_COUNT : FRef := ⟨0x0AC, 31, 0⟩
def RDS_BIT_COUNT : FRef := ⟨0x0B0, 31, 0⟩
end FM

namespace AM
def AM_CFG_BW_CODE : FRef := ⟨0x040, 3, 0⟩
def AM_CFG_DETECT : FRef := ⟨0x040, 5, 4⟩
def AM_CFG_SIDEBAND : FRef := ⟨0x040, 7, 6⟩
def AM_CFG_FALLBACK : FRef := ⟨0x040, 8, 8⟩
def AM_CFG_NB_ON : FRef := ⟨0x040, 9, 9⟩
def AM_CFG_PLL_BW : FRef := ⟨0x040, 13, 12⟩
def HICUT_START : FRef := ⟨0x044, 7, 0⟩
def HICUT_FULL : FRef := ⟨0x044, 15, 8⟩
def HICUT_CORNER_MIN : FRef := ⟨0x044, 19, 16⟩
def HICUT_ON : FRef := ⟨0x044, 24, 24⟩
def SMUTE_START : FRef := ⟨0x048, 7, 0⟩
def SMUTE_FULL : FRef := ⟨0x048, 15, 8⟩
def SMUTE_MAX_DB : FRef := ⟨0x048, 20, 16⟩
def SMUTE_ON : FRef := ⟨0x048, 24, 24⟩
def TIMING_ATTACK_MS : FRef := ⟨0x04C, 7, 0⟩
def TIMING_RELEASE_MS : FRef := ⟨0x04C, 15, 8⟩
def NB_THRESH : FRef := ⟨0x050, 7, 0⟩
def NB_BLANK_SAMPLES : FRef := ⟨0x050, 12, 8⟩
def AM_STATUS_CARRIER_LOCK : FRef := ⟨0x080, 0, 0⟩
def AM_STATUS_ENVELOPE : FRef := ⟨0x080, 1, 1⟩
def AM_STATUS_SB_USED : FRef := ⟨0x080, 3, 2⟩
def AM_STATUS_BLANKING : FRef := ⟨0x080, 4, 4⟩
def AM_STATUS_BRANCH : FRef := ⟨0x080, 5, 5⟩
def AM_STATUS_SMUTE_ATTEN : FRef := ⟨0x080, 23, 16⟩
def AM_STATUS_HICUT_CORNER : FRef := ⟨0x080, 31, 24⟩
def LEVEL_LEVEL_DBUV : FRef := ⟨0x084, 15, 0⟩
def LEVEL_Q : FRef := ⟨0x084, 23, 16⟩
def OFFSET : FRef := ⟨0x088, 31, 0⟩
def MOD_DEPTH_NEG_DEPTH : FRef := ⟨0x08C, 7, 0⟩
def MOD_DEPTH_POS_DEPTH : FRef := ⟨0x08C, 15, 8⟩
def CNR : FRef := ⟨0x094, 15, 0⟩
def LOCK_LOSS_COUNT : FRef := ⟨0x0A0, 31, 0⟩
def BLANK_COUNT : FRef := ⟨0x0A4, 31, 0⟩
def BRANCH_SWITCH_COUNT : FRef := ⟨0x0A8, 31, 0⟩
def DIV_HOLD_COUNT : FRef := ⟨0x0AC, 31, 0⟩
end AM

namespace OFDM
def OFDM_CFG_SYSTEM : FRef := ⟨0x040, 1, 0⟩
def OFDM_CFG_DRM_MODE : FRef := ⟨0x040, 6, 4⟩
def SYNC_CFG_RESYNC_MS : FRef := ⟨0x044, 15, 0⟩
def DIV_CFG_DIV_HYST : FRef := ⟨0x048, 7, 0⟩
def DIV_CFG_DIV_FLOOR : FRef := ⟨0x048, 15, 8⟩
def DIV_CFG_PROBE_FRAMES : FRef := ⟨0x048, 23, 16⟩
def ANN_CFG_ANN_MASK : FRef := ⟨0x04C, 15, 0⟩
def ANN_CFG_ANN_TIMEOUT : FRef := ⟨0x04C, 23, 16⟩
def OFDM_STATUS_SYNC_STATE : FRef := ⟨0x080, 2, 0⟩
def OFDM_STATUS_MODE_DET : FRef := ⟨0x080, 6, 4⟩
def OFDM_STATUS_SO_DET : FRef := ⟨0x080, 10, 8⟩
def OFDM_STATUS_AL_FLAG : FRef := ⟨0x080, 12, 12⟩
def OFDM_STATUS_COMBINING : FRef := ⟨0x080, 13, 13⟩
def OFDM_STATUS_RECONF_PENDING : FRef := ⟨0x080, 14, 14⟩
def OFDM_STATUS_PROBING : FRef := ⟨0x080, 15, 15⟩
def LEVEL_LEVEL_DBUV : FRef := ⟨0x084, 15, 0⟩
def LEVEL_Q : FRef := ⟨0x084, 23, 16⟩
def MER : FRef := ⟨0x088, 15, 0⟩
def BRANCH_MER_A : FRef := ⟨0x08C, 15, 0⟩
def BRANCH_MER_B : FRef := ⟨0x08C, 31, 16⟩
def OFFSET : FRef := ⟨0x090, 31, 0⟩
def SCO : FRef := ⟨0x094, 15, 0⟩
def BER_PRE : FRef := ⟨0x098, 19, 0⟩
def FRAME_COUNT : FRef := ⟨0x09C, 31, 0⟩
def CIF_COUNT : FRef := ⟨0x0A0, 12, 0⟩
def MCI_SUBCH_COUNT : FRef := ⟨0x0A4, 6, 0⟩
def MCI_CU_SELECTED : FRef := ⟨0x0A4, 25, 16⟩
def ANN_STATUS_ACTIVE : FRef := ⟨0x0B0, 15, 0⟩
def ANN_STATUS_ALARM : FRef := ⟨0x0B0, 16, 16⟩
def ANN_LAST_ASW : FRef := ⟨0x0B4, 15, 0⟩
def ANN_LAST_CLUSTER : FRef := ⟨0x0B4, 23, 16⟩
def ANN_LAST_SUBCH : FRef := ⟨0x0B4, 29, 24⟩
def ANN_LAST_NEW : FRef := ⟨0x0B4, 30, 30⟩
def ANN_LAST_REGION : FRef := ⟨0x0B4, 31, 31⟩
def SYNC_LOSS_COUNT : FRef := ⟨0x0C0, 31, 0⟩
def CTRL_CRC_COUNT : FRef := ⟨0x0C4, 31, 0⟩
def SDC_CRC_COUNT : FRef := ⟨0x0C8, 31, 0⟩
def SF_CORRECTED_COUNT : FRef := ⟨0x0CC, 31, 0⟩
def SF_FAILED_COUNT : FRef := ⟨0x0D0, 31, 0⟩
def DIV_PROBE_COUNT : FRef := ⟨0x0D4, 31, 0⟩
def SEL_SINK : FRef := ⟨0x100, 9, 0⟩
def SEL_OUTPUT : FRef := ⟨0x100, 11, 10⟩
def SEL_ID : FRef := ⟨0x100, 21, 16⟩
def SEL_PRESENT : FRef := ⟨0x100, 24, 24⟩
def SEL_CLEAN : FRef := ⟨0x100, 25, 25⟩
def SEL_UNSUPPORTED : FRef := ⟨0x100, 26, 26⟩
end OFDM

namespace SD
def SD_CFG_RBDS : FRef := ⟨0x040, 0, 0⟩
def SD_CFG_PASS_BAD : FRef := ⟨0x040, 1, 1⟩
def SD_CFG_DEDUP : FRef := ⟨0x040, 2, 2⟩
def SD_CFG_DG_MODE : FRef := ⟨0x040, 4, 4⟩
def SD_CFG_GB_FEED : FRef := ⟨0x040, 8, 8⟩
def SD_CFG_CORR_MAX : FRef := ⟨0x040, 11, 9⟩
def SD_CFG_QREP_MS : FRef := ⟨0x040, 31, 16⟩
def RDS_GROUPS : FRef := ⟨0x044, 31, 0⟩
def ITEMS : FRef := ⟨0x048, 7, 0⟩
def ANN : FRef := ⟨0x048, 8, 8⟩
def PAD : FRef := ⟨0x048, 11, 9⟩
def MOT : FRef := ⟨0x048, 12, 12⟩
def DATA : FRef := ⟨0x048, 13, 13⟩
def FIG_MASK0 : FRef := ⟨0x04C, 31, 0⟩
def FIG_MASK1_FIG1 : FRef := ⟨0x050, 7, 0⟩
def FIG_MASK1_FIG2 : FRef := ⟨0x050, 15, 8⟩
def SDC_MASK_SDC : FRef := ⟨0x054, 15, 0⟩
def SDC_MASK_FAC : FRef := ⟨0x054, 16, 16⟩
def PKT_ADDR_ADDR : FRef := ⟨0x058, 9, 0⟩
def PKT_ADDR_ANY : FRef := ⟨0x058, 15, 15⟩
def DEDUP_MS : FRef := ⟨0x05C, 13, 0⟩
def SD_STATUS_RDS_SYNC : FRef := ⟨0x080, 0, 0⟩
def SD_STATUS_PI_VALID : FRef := ⟨0x080, 1, 1⟩
def SD_STATUS_TP : FRef := ⟨0x080, 2, 2⟩
def SD_STATUS_TA : FRef := ⟨0x080, 3, 3⟩
def SD_STATUS_MS : FRef := ⟨0x080, 4, 4⟩
def SD_STATUS_PS_VALID : FRef := ⟨0x080, 5, 5⟩
def SD_STATUS_INPUT0_KIND : FRef := ⟨0x080, 9, 8⟩
def SD_STATUS_INPUT1_KIND : FRef := ⟨0x080, 11, 10⟩
def SD_STATUS_PTY : FRef := ⟨0x080, 20, 16⟩
def ID : FRef := ⟨0x084, 15, 0⟩
def ECC : FRef := ⟨0x084, 23, 16⟩
def PS_0 : FRef := ⟨0x088, 31, 0⟩
def PS_1 : FRef := ⟨0x08C, 31, 0⟩
def BLOCK_ERR_COUNT : FRef := ⟨0x0A0, 31, 0⟩
def CORRECTED_COUNT : FRef := ⟨0x0A4, 31, 0⟩
def RDS_SYNC_LOSS_COUNT : FRef := ⟨0x0A8, 31, 0⟩
def DROP_COUNT : FRef := ⟨0x0AC, 31, 0⟩
def DG_CRC_COUNT : FRef := ⟨0x0B0, 31, 0⟩
def RECORD_COUNT : FRef := ⟨0x0B4, 31, 0⟩
end SD

namespace FOL
def FOLLOW_CTL_STAY : FRef := ⟨0x040, 0, 0⟩
def FOLLOW_CTL_ANN_FOLLOW : FRef := ⟨0x040, 1, 1⟩
def FOLLOW_CTL_RECENTRE : FRef := ⟨0x040, 8, 8⟩
def FOLLOW_STATUS_STATE : FRef := ⟨0x080, 2, 0⟩
def FOLLOW_STATUS_PLAYING : FRef := ⟨0x080, 3, 3⟩
def FOLLOW_STATUS_NEED : FRef := ⟨0x080, 11, 8⟩
def FOLLOW_STATUS_LAST_CODE : FRef := ⟨0x080, 31, 16⟩
def CUR_INDEX : FRef := ⟨0x084, 31, 0⟩
def CAND_INDEX : FRef := ⟨0x088, 31, 0⟩
def MARGINS_CUR_M : FRef := ⟨0x08C, 15, 0⟩
def MARGINS_CAND_M : FRef := ⟨0x08C, 31, 16⟩
def ALIGN_LAG : FRef := ⟨0x090, 31, 0⟩
def CORR_RHO : FRef := ⟨0x094, 7, 0⟩
def CORR_LEVEL_TRIM : FRef := ⟨0x094, 31, 16⟩
def DELAY_D_CUR_MS : FRef := ⟨0x098, 15, 0⟩
def DELAY_D_NEW_MS : FRef := ⟨0x098, 31, 16⟩
def CAP_MS : FRef := ⟨0x09C, 15, 0⟩
def TRIM : FRef := ⟨0x09C, 31, 16⟩
def SWITCH_COUNT : FRef := ⟨0x0A0, 31, 0⟩
def VERIFY_FAIL_COUNT : FRef := ⟨0x0A4, 31, 0⟩
def ALIGN_FAIL_COUNT : FRef := ⟨0x0A8, 31, 0⟩
def STAY_COUNT : FRef := ⟨0x0AC, 31, 0⟩
def SCOUT_LOST_COUNT : FRef := ⟨0x0B0, 31, 0⟩
def ANN_COUNT : FRef := ⟨0x0B4, 31, 0⟩
def UNALIGNED_COUNT : FRef := ⟨0x0B8, 31, 0⟩
def SYSTEMS_ALLOW : FRef := ⟨0x100, 4, 0⟩
def SYSTEMS_SOFT_OK : FRef := ⟨0x100, 8, 8⟩
def SYSTEMS_UNALIGNED_OK : FRef := ⟨0x100, 9, 9⟩
def MIN_Q : FRef := ⟨0x104, 31, 0⟩
def BIAS : FRef := ⟨0x108, 31, 0⟩
def SWITCH_SWITCH_MARGIN : FRef := ⟨0x10C, 7, 0⟩
def SWITCH_HOME_BIAS : FRef := ⟨0x10C, 15, 8⟩
def SWITCH_SEEK_M : FRef := ⟨0x10C, 23, 16⟩
def TIMES_HOLD_MS : FRef := ⟨0x110, 15, 0⟩
def TIMES_LOSS_MS : FRef := ⟨0x110, 31, 16⟩
def DWELL_MIN_DWELL_S : FRef := ⟨0x114, 15, 0⟩
def DWELL_RETRY_S : FRef := ⟨0x114, 31, 16⟩
def SURVEY_S : FRef := ⟨0x118, 15, 0⟩
def CORR_CFG_WINDOW_MS : FRef := ⟨0x11C, 15, 0⟩
def CORR_CFG_CORR_MIN : FRef := ⟨0x11C, 23, 16⟩
def BLEND_BLEND_MS : FRef := ⟨0x120, 9, 0⟩
def BLEND_ANN_RAMP_MS : FRef := ⟨0x120, 25, 16⟩
def STANDING_MS : FRef := ⟨0x124, 11, 0⟩
def ANN_ANN_MASK : FRef := ⟨0x128, 15, 0⟩
def ANN_ALARM_FORCE : FRef := ⟨0x128, 16, 16⟩
def FORBID : FRef := ⟨0x180, 31, 0⟩
end FOL

namespace DEC
def DEC_CFG_PROFILE : FRef := ⟨0x040, 1, 0⟩
def DEC_CFG_DRC : FRef := ⟨0x040, 4, 4⟩
def DEC_CFG_DUAL_SEL : FRef := ⟨0x040, 6, 5⟩
def DEC_CFG_CONCEAL_MS : FRef := ⟨0x040, 15, 8⟩
def DEC_STATUS_CODEC : FRef := ⟨0x080, 1, 0⟩
def DEC_STATUS_SBR : FRef := ⟨0x080, 2, 2⟩
def DEC_STATUS_PS : FRef := ⟨0x080, 3, 3⟩
def DEC_STATUS_CHANNELS : FRef := ⟨0x080, 5, 4⟩
def DEC_STATUS_DOWNMIX : FRef := ⟨0x080, 6, 6⟩
def DEC_STATUS_CONCEALING : FRef := ⟨0x080, 7, 7⟩
def DEC_STATUS_LATENCY_US : FRef := ⟨0x080, 31, 16⟩
def CODED_HZ : FRef := ⟨0x084, 16, 0⟩
def BITRATE_KBPS : FRef := ⟨0x088, 8, 0⟩
def FRAME_ERR_COUNT : FRef := ⟨0x0A0, 31, 0⟩
def CONCEAL_COUNT : FRef := ⟨0x0A4, 31, 0⟩
def DISCONT_COUNT : FRef := ⟨0x0A8, 31, 0⟩
def FRAME_COUNT : FRef := ⟨0x0AC, 31, 0⟩
end DEC

namespace LANE
def LANE_CFG_MONO : FRef := ⟨0x040, 0, 0⟩
def LANE_CFG_AUTO_RETURN : FRef := ⟨0x040, 1, 1⟩
def DELAY_DELAY0_MS : FRef := ⟨0x044, 11, 0⟩
def DELAY_DELAY1_MS : FRef := ⟨0x044, 27, 16⟩
def GAIN : FRef := ⟨0x048, 15, 0⟩
def RAMP_RAMP_MS : FRef := ⟨0x04C, 9, 0⟩
def RAMP_XFADE_MS : FRef := ⟨0x04C, 25, 16⟩
def SELECT : FRef := ⟨0x050, 0, 0⟩
def LANE_STATUS_PLAYING : FRef := ⟨0x080, 0, 0⟩
def LANE_STATUS_FADING : FRef := ⟨0x080, 1, 1⟩
def LANE_STATUS_PENDING : FRef := ⟨0x080, 2, 2⟩
def LANE_STATUS_RAMP_STATE : FRef := ⟨0x080, 4, 3⟩
def LANE_STATUS_IN0_VALID : FRef := ⟨0x080, 5, 5⟩
def LANE_STATUS_IN1_VALID : FRef := ⟨0x080, 6, 6⟩
def LANE_CAP_CAP_MS : FRef := ⟨0x084, 13, 0⟩
def LANE_CAP_DS_BLOCKS : FRef := ⟨0x084, 27, 16⟩
def LATENCY_US : FRef := ⟨0x088, 19, 0⟩
def GAIN_NOW : FRef := ⟨0x08C, 15, 0⟩
def SAT_COUNT : FRef := ⟨0x0A0, 31, 0⟩
def HOST_UNDERRUN_COUNT : FRef := ⟨0x0A4, 31, 0⟩
def HOST_LATE_COUNT : FRef := ⟨0x0A8, 31, 0⟩
def HOST_FORMAT_COUNT : FRef := ⟨0x0AC, 31, 0⟩
end LANE

namespace ASRC
def ASRC_CFG_TRACK_BW : FRef := ⟨0x040, 1, 0⟩
def ASRC_STATUS_MODE : FRef := ⟨0x080, 2, 0⟩
def ASRC_STATUS_FILL : FRef := ⟨0x080, 14, 8⟩
def RATIO : FRef := ⟨0x084, 31, 0⟩
def RATIO_PPM : FRef := ⟨0x088, 31, 0⟩
def NOMINAL_HZ : FRef := ⟨0x08C, 17, 0⟩
def IN_COUNT : FRef := ⟨0x090, 31, 0⟩
def OUT_COUNT : FRef := ⟨0x094, 31, 0⟩
def DISCARD_COUNT : FRef := ⟨0x098, 31, 0⟩
def REACQ_COUNT : FRef := ⟨0x0A0, 31, 0⟩
def GATE_DROP_COUNT : FRef := ⟨0x0A4, 31, 0⟩
end ASRC

namespace PORT
def PORT_CFG_DIR : FRef := ⟨0x040, 0, 0⟩
def PORT_CFG_FORMAT : FRef := ⟨0x040, 2, 1⟩
def PORT_CFG_CLOCKING : FRef := ⟨0x040, 4, 3⟩
def PORT_CFG_SLOTS : FRef := ⟨0x040, 11, 8⟩
def PORT_CFG_SLOT_BITS : FRef := ⟨0x040, 13, 12⟩
def PORT_CFG_WORD_BITS : FRef := ⟨0x040, 15, 14⟩
def PORT_CFG_RATE : FRef := ⟨0x040, 19, 16⟩
def PORT_CFG_FSYNC_WIDTH : FRef := ⟨0x040, 20, 20⟩
def PORT_CFG_DATA_DELAY : FRef := ⟨0x040, 21, 21⟩
def PORT_CFG_FSYNC_INV : FRef := ⟨0x040, 22, 22⟩
def PORT_CFG_BCLK_INV : FRef := ⟨0x040, 23, 23⟩
def PORT_GROUP_CLK_SRC : FRef := ⟨0x044, 4, 0⟩
def PORT_GROUP_SHARE_DATA : FRef := ⟨0x044, 8, 8⟩
def PORT_GROUP_START_GROUP : FRef := ⟨0x044, 14, 12⟩
def PORT_CTL_ZC_START : FRef := ⟨0x048, 0, 0⟩
def PORT_CTL_ZC_STOP : FRef := ⟨0x048, 1, 1⟩
def PORT_CTL_AUTO_RESTART : FRef := ⟨0x048, 2, 2⟩
def PORT_CTL_CLK_BEFORE_START : FRef := ⟨0x048, 3, 3⟩
def PORT_CTL_TRISTATE_UNUSED : FRef := ⟨0x048, 4, 4⟩
def PORT_CTL_RESTART : FRef := ⟨0x048, 8, 8⟩
def PORT_CTL_ZC_TIMEOUT_MS : FRef := ⟨0x048, 23, 16⟩
def TAP_QUEUE : FRef := ⟨0x04C, 9, 0⟩
def TAP_FORMAT : FRef := ⟨0x04C, 13, 12⟩
def TAP_SLOT_MASK : FRef := ⟨0x04C, 31, 16⟩
def BLOCK_FRAMES : FRef := ⟨0x050, 11, 0⟩
def PORT_STATUS_STARTED : FRef := ⟨0x080, 0, 0⟩
def PORT_STATUS_CLOCK_LOST : FRef := ⟨0x080, 1, 1⟩
def PORT_STATUS_CLK_OK : FRef := ⟨0x080, 2, 2⟩
def PORT_STATUS_DRIVING : FRef := ⟨0x080, 3, 3⟩
def PORT_STATUS_ZC_WAIT : FRef := ⟨0x080, 4, 4⟩
def PORT_STATUS_DETECTED : FRef := ⟨0x080, 11, 8⟩
def FRAME_COUNT : FRef := ⟨0x084, 31, 0⟩
def FRAME_EPOCH_LO : FRef := ⟨0x088, 31, 0⟩
def FRAME_EPOCH_HI : FRef := ⟨0x08C, 31, 0⟩
def FIRST_EPOCH_LO : FRef := ⟨0x090, 31, 0⟩
def FIRST_EPOCH_HI : FRef := ⟨0x094, 31, 0⟩
def FRAME_PERIOD : FRef := ⟨0x098, 31, 0⟩
def SLOT_MAP : FRef := ⟨0x09C, 15, 0⟩
def UNDERRUN_COUNT : FRef := ⟨0x0A0, 31, 0⟩
def OVERRUN_COUNT : FRef := ⟨0x0A4, 31, 0⟩
def GLITCH_COUNT : FRef := ⟨0x0A8, 31, 0⟩
def CLOCK_LOST_COUNT : FRef := ⟨0x0AC, 31, 0⟩
def RATE_STEP_COUNT : FRef := ⟨0x0B0, 31, 0⟩
def ZC_TIMEOUT_COUNT : FRef := ⟨0x0B4, 31, 0⟩
def GRP_CTL_SOURCE : FRef := ⟨0x210, 1, 0⟩
def GRP_CTL_ARM : FRef := ⟨0x210, 4, 4⟩
def GRP_CTL_GO : FRef := ⟨0x210, 5, 5⟩
def GRP_CTL_FIRED : FRef := ⟨0x210, 8, 8⟩
def GRP_EPOCH_LO : FRef := ⟨0x218, 31, 0⟩
def GRP_EPOCH_HI : FRef := ⟨0x21C, 31, 0⟩
def FIRE_EPOCH_LO : FRef := ⟨0x214, 31, 0⟩
def FIRE_EPOCH_HI : FRef := ⟨0x2A4, 31, 0⟩
def SYNC_IN_EPOCH_LO : FRef := ⟨0x280, 31, 0⟩
def SYNC_IN_EPOCH_HI : FRef := ⟨0x284, 31, 0⟩
def SYNC_IN_CFG_EDGE : FRef := ⟨0x288, 0, 0⟩
def SYNC_IN_CFG_ENABLE : FRef := ⟨0x288, 1, 1⟩
def SYNC_OUT_CFG_MODE : FRef := ⟨0x290, 1, 0⟩
def SYNC_OUT_CFG_GROUP : FRef := ⟨0x290, 6, 4⟩
def SYNC_OUT_CFG_WIDTH : FRef := ⟨0x290, 15, 8⟩
def PERIOD : FRef := ⟨0x294, 31, 0⟩
end PORT

namespace QUE
def Q_CFG_DIR : FRef := ⟨0x040, 0, 0⟩
def Q_CFG_IQ_FORMAT : FRef := ⟨0x040, 2, 1⟩
def Q_CFG_TAP_DEC : FRef := ⟨0x040, 25, 16⟩
def IQ_BLOCK : FRef := ⟨0x044, 11, 0⟩
def DEPTH : FRef := ⟨0x048, 12, 0⟩
def RING_BASE : FRef := ⟨0x04C, 31, 0⟩
def BUF_BASE : FRef := ⟨0x050, 31, 0⟩
def BUF_SIZE : FRef := ⟨0x054, 20, 0⟩
def Q_PROD : FRef := ⟨0x058, 31, 0⟩
def Q_CONS : FRef := ⟨0x05C, 31, 0⟩
def Q_CREDIT_FREE : FRef := ⟨0x060, 12, 0⟩
def Q_CREDIT_HELD : FRef := ⟨0x060, 28, 16⟩
def Q_THRESH_LEVEL : FRef := ⟨0x064, 12, 0⟩
def Q_STATUS_EMPTY : FRef := ⟨0x068, 0, 0⟩
def Q_STATUS_FULL : FRef := ⟨0x068, 1, 1⟩
def Q_STATUS_STOPPED : FRef := ⟨0x068, 2, 2⟩
def BUF_FREE : FRef := ⟨0x06C, 20, 0⟩
def DROP_COUNT : FRef := ⟨0x0A0, 31, 0⟩
def DESC_ERR_COUNT : FRef := ⟨0x0A4, 31, 0⟩
end QUE

namespace PH
def PH_TD_PUSH : FRef := ⟨0x000, 31, 0⟩
def PH_TD_POP : FRef := ⟨0x004, 31, 0⟩
def PH_TH_PUSH : FRef := ⟨0x008, 31, 0⟩
def PH_TH_POP : FRef := ⟨0x00C, 31, 0⟩
def PH_STAT_TD_COUNT : FRef := ⟨0x010, 3, 0⟩
def PH_STAT_TD_COLLISION : FRef := ⟨0x010, 4, 4⟩
def PH_STAT_TD_EMPTY_REQ : FRef := ⟨0x010, 5, 5⟩
def PH_STAT_TD_EMPTIED : FRef := ⟨0x010, 6, 6⟩
def PH_STAT_TH_COUNT : FRef := ⟨0x010, 19, 16⟩
def PH_STAT_TH_COLLISION : FRef := ⟨0x010, 20, 20⟩
def PH_STAT_TH_EMPTY_REQ : FRef := ⟨0x010, 21, 21⟩
def PH_STAT_TH_EMPTIED : FRef := ⟨0x010, 22, 22⟩
def PH_STAT_CROSSED : FRef := ⟨0x010, 31, 31⟩
end PH

namespace BELL
def BELL_TO_DEV_SET : FRef := ⟨0x100, 31, 0⟩
def BELL_TO_DEV_CLR : FRef := ⟨0x104, 31, 0⟩
def BELL_TO_DEV_MASK : FRef := ⟨0x108, 31, 0⟩
def BELL_TO_HOST_SET : FRef := ⟨0x110, 31, 0⟩
def BELL_TO_HOST_CLR : FRef := ⟨0x114, 31, 0⟩
def BELL_TO_HOST_MASK : FRef := ⟨0x118, 31, 0⟩
end BELL

namespace EV
def EV_LATCH : FRef := ⟨0x000, 31, 0⟩
def EV_MASK : FRef := ⟨0x010, 31, 0⟩
def EV_PENDING : FRef := ⟨0x020, 31, 0⟩
def IRQ_CFG_PUSH_PULL : FRef := ⟨0x040, 3, 0⟩
def IRQ_STATUS_ASSERTED : FRef := ⟨0x044, 3, 0⟩
def IRQ_FIRST_EVENT : FRef := ⟨0x050, 6, 0⟩
def IRQ_FIRST_NONE : FRef := ⟨0x050, 7, 7⟩
def EV_ROUTE_IRQ : FRef := ⟨0x200, 3, 0⟩
def EV_ROUTE_BELL : FRef := ⟨0x200, 12, 8⟩
def EV_ROUTE_BELL_EN : FRef := ⟨0x200, 15, 15⟩
def EV_ROUTE_FERRY : FRef := ⟨0x200, 16, 16⟩
end EV

namespace HOST
def HSPI_CFG_PROTO : FRef := ⟨0x000, 2, 0⟩
def HSPI_CFG_DUMMY : FRef := ⟨0x000, 12, 8⟩
def HSPI_STATUS_PROTO_NOW : FRef := ⟨0x004, 2, 0⟩
def HSPI_STATUS_LAST_CODE : FRef := ⟨0x004, 31, 16⟩
def HSPI_ERR_COUNT : FRef := ⟨0x008, 31, 0⟩
def HSPI_WAIT_COUNT : FRef := ⟨0x00C, 31, 0⟩
def TWT_CFG_STRETCH_MAX_US : FRef := ⟨0x040, 7, 0⟩
def TWT_CFG_IBR_EN : FRef := ⟨0x040, 8, 8⟩
def TWT_CFG_IBR_PINS : FRef := ⟨0x040, 15, 12⟩
def TWT_CFG_IBR_REPEAT_MS : FRef := ⟨0x040, 23, 16⟩
def TWT_STATUS_ADDR : FRef := ⟨0x044, 6, 0⟩
def TWT_STATUS_BUSY : FRef := ⟨0x044, 8, 8⟩
def TWT_STATUS_IBR_PENDING : FRef := ⟨0x044, 9, 9⟩
def TWT_STATUS_LAST_CODE : FRef := ⟨0x044, 31, 16⟩
def TWT_ERR_COUNT : FRef := ⟨0x048, 31, 0⟩
def TWT_MISPLACED_COUNT : FRef := ⟨0x04C, 31, 0⟩
def IBR_UNSERVED_COUNT : FRef := ⟨0x050, 31, 0⟩
def HOST_COUNTER_OVF : FRef := ⟨0x07C, 4, 0⟩
end HOST

namespace TWC
def TWC_CFG_SPEED : FRef := ⟨0x040, 1, 0⟩
def TWC_CFG_ARB_RETRIES : FRef := ⟨0x040, 7, 4⟩
def TWC_CFG_IBR_SERVE : FRef := ⟨0x040, 8, 8⟩
def TWC_CFG_IBR_ACCEPT_ALL : FRef := ⟨0x040, 9, 9⟩
def TWC_TIMEOUT_SCL_LOW_MS : FRef := ⟨0x044, 7, 0⟩
def TWC_TIMEOUT_SDA_LOW_MS : FRef := ⟨0x044, 15, 8⟩
def TWC_CMD_ADDR : FRef := ⟨0x048, 6, 0⟩
def TWC_CMD_READ : FRef := ⟨0x048, 7, 7⟩
def TWC_CMD_LEN : FRef := ⟨0x048, 13, 8⟩
def TWC_CMD_NO_STOP : FRef := ⟨0x048, 16, 16⟩
def TWC_CMD_GO : FRef := ⟨0x048, 31, 31⟩
def TWC_TXDATA_TX : FRef := ⟨0x04C, 7, 0⟩
def TWC_RXDATA_RX : FRef := ⟨0x050, 7, 0⟩
def TWC_STATUS_DONE : FRef := ⟨0x054, 0, 0⟩
def TWC_STATUS_ACTIVE : FRef := ⟨0x054, 1, 1⟩
def TWC_STATUS_HOLDING : FRef := ⟨0x054, 2, 2⟩
def TWC_STATUS_NACK_ADDR : FRef := ⟨0x054, 3, 3⟩
def TWC_STATUS_NACK_DATA : FRef := ⟨0x054, 4, 4⟩
def TWC_STATUS_ARB_LOST : FRef := ⟨0x054, 5, 5⟩
def TWC_STATUS_TIMEOUT : FRef := ⟨0x054, 6, 6⟩
def TWC_STATUS_BUS_STUCK : FRef := ⟨0x054, 7, 7⟩
def TWC_STATUS_NACK_INDEX : FRef := ⟨0x054, 13, 8⟩
def TWC_STATUS_TX_LEVEL : FRef := ⟨0x054, 21, 16⟩
def TWC_STATUS_RX_LEVEL : FRef := ⟨0x054, 29, 24⟩
def IBR_FIFO_REASON : FRef := ⟨0x058, 7, 0⟩
def IBR_FIFO_ADDR : FRef := ⟨0x058, 14, 8⟩
def IBR_FIFO_VALID : FRef := ⟨0x058, 31, 31⟩
def IBR_LIST : FRef := ⟨0x060, 31, 0⟩
def ARB_LOST_COUNT : FRef := ⟨0x080, 31, 0⟩
def NACK_COUNT : FRef := ⟨0x084, 31, 0⟩
def TIMEOUT_COUNT : FRef := ⟨0x088, 31, 0⟩
def BUS_CLEAR_COUNT : FRef := ⟨0x08C, 31, 0⟩
def IBR_COUNT : FRef := ⟨0x090, 31, 0⟩
def IBR_DROPPED_COUNT : FRef := ⟨0x094, 31, 0⟩
end TWC

namespace CLK
def REF_CFG_REF_KHZ : FRef := ⟨0x000, 15, 0⟩
def REF_CFG_SRC : FRef := ⟨0x000, 16, 16⟩
def REF_CFG_REF_MODE : FRef := ⟨0x000, 18, 17⟩
def REF_CFG_LOOP_BW : FRef := ⟨0x000, 21, 20⟩
def ROOT_CTL_SLEW_PPM : FRef := ⟨0x004, 6, 0⟩
def ROOT_CTL_TRIM_PPM : FRef := ⟨0x004, 12, 8⟩
def ROOT_STATUS_STATE : FRef := ⟨0x008, 2, 0⟩
def ROOT_STATUS_REF_OK : FRef := ⟨0x008, 4, 4⟩
def ROOT_STATUS_REF_USED : FRef := ⟨0x008, 6, 5⟩
def ROOT_STATUS_TRUSTED : FRef := ⟨0x008, 8, 8⟩
def ROOT_STATUS_GLIDING : FRef := ⟨0x008, 9, 9⟩
def ROOT_STATUS_CLAMPED : FRef := ⟨0x008, 10, 10⟩
def ROOT_STATUS_TRIMMING : FRef := ⟨0x008, 11, 11⟩
def HOLDOVER_MS : FRef := ⟨0x00C, 31, 0⟩
def FREQ_ERR : FRef := ⟨0x010, 31, 0⟩
def BOUNDARY_KHZ : FRef := ⟨0x014, 22, 0⟩
def PHASE_TRIM : FRef := ⟨0x018, 23, 0⟩
def PHASE_LEFT : FRef := ⟨0x01C, 23, 0⟩
def EPOCH_LOAD_LO : FRef := ⟨0x020, 31, 0⟩
def EPOCH_LOAD_HI : FRef := ⟨0x024, 31, 0⟩
def EPOCH_CTL_LOAD : FRef := ⟨0x028, 0, 0⟩
def HOLDOVER_COUNT : FRef := ⟨0x040, 31, 0⟩
def REF_LOSS_COUNT : FRef := ⟨0x044, 31, 0⟩
def CLAMP_COUNT : FRef := ⟨0x048, 31, 0⟩
def CLK_COUNTER_OVF : FRef := ⟨0x07C, 2, 0⟩
def CLK_OUT_CFG_ENABLE : FRef := ⟨0x100, 0, 0⟩
def CLK_OUT_CFG_SRC : FRef := ⟨0x100, 1, 1⟩
def CLK_OUT_CFG_FORMAT : FRef := ⟨0x100, 5, 4⟩
def CLK_OUT_CFG_DRIVE : FRef := ⟨0x100, 9, 8⟩
def CLK_OUT_CFG_ALIGN : FRef := ⟨0x100, 12, 12⟩
def CLK_OUT_DIV_N : FRef := ⟨0x104, 15, 0⟩
def CLK_OUT_DIV_D : FRef := ⟨0x104, 31, 16⟩
def CLK_OUT_STATUS_RUNNING : FRef := ⟨0x108, 0, 0⟩
def CLK_OUT_STATUS_PENDING : FRef := ⟨0x108, 1, 1⟩
def FREQ_HZ : FRef := ⟨0x10C, 31, 0⟩
end CLK

namespace FEED
def FEED_CTL_ON : FRef := ⟨0x040, 0, 0⟩
def FEED_CTL_AUTO_RETRY : FRef := ⟨0x040, 1, 1⟩
def FEED_CTL_OPEN_MA : FRef := ⟨0x040, 15, 8⟩
def FEED_CTL_RETRY_S : FRef := ⟨0x040, 21, 16⟩
def FEED_RAIL_INDEX : FRef := ⟨0x044, 3, 0⟩
def FEED_STATUS_STATE : FRef := ⟨0x048, 2, 0⟩
def FEED_STATUS_OPEN : FRef := ⟨0x048, 3, 3⟩
def FEED_STATUS_AT_LIMIT : FRef := ⟨0x048, 4, 4⟩
def FEED_STATUS_CURRENT_MA : FRef := ⟨0x048, 15, 8⟩
def FEED_STATUS_VOLT_10MV : FRef := ⟨0x048, 31, 16⟩
def FEED_RAIL_STATUS_RAIL_10MV : FRef := ⟨0x04C, 15, 0⟩
def FEED_RAIL_STATUS_TOTAL_MA : FRef := ⟨0x04C, 31, 16⟩
def SHORT_COUNT : FRef := ⟨0x060, 31, 0⟩
def OPEN_COUNT : FRef := ⟨0x064, 31, 0⟩
def REVERSE_COUNT : FRef := ⟨0x068, 31, 0⟩
def FEED_TABLE_VOLT_10MV : FRef := ⟨0x100, 10, 0⟩
def FEED_LIMIT_LIMIT : FRef := ⟨0x140, 3, 0⟩
end FEED

namespace KPR
def KPR_ID_KEEPER_REV : FRef := ⟨0x000, 7, 0⟩
def KPR_STATUS_VSYS_OK : FRef := ⟨0x004, 0, 0⟩
def KPR_STATUS_VCORE_OK : FRef := ⟨0x004, 1, 1⟩
def KPR_STATUS_FEED_OK : FRef := ⟨0x004, 2, 2⟩
def KPR_STATUS_VIN_STATE : FRef := ⟨0x004, 6, 4⟩
def KPR_STATUS_PWR_GOOD : FRef := ⟨0x004, 8, 8⟩
def KPR_STATUS_RTC_VALID : FRef := ⟨0x004, 9, 9⟩
def KPR_STATUS_SWITCH_SYNC : FRef := ⟨0x004, 10, 10⟩
def VIN_MEAS : FRef := ⟨0x008, 15, 0⟩
def WARN_CFG_WARN_CODE : FRef := ⟨0x00C, 3, 0⟩
def RTC_LO : FRef := ⟨0x020, 31, 0⟩
def RTC_HI : FRef := ⟨0x024, 15, 0⟩
def RTC_SET_LO : FRef := ⟨0x028, 31, 0⟩
def RTC_SET_HI : FRef := ⟨0x02C, 15, 0⟩
def RTC_CTL_SET : FRef := ⟨0x030, 0, 0⟩
def RTC_CTL_ALARM_EN : FRef := ⟨0x030, 4, 4⟩
def RTC_ALARM_LO : FRef := ⟨0x034, 31, 0⟩
def RTC_ALARM_HI : FRef := ⟨0x038, 15, 0⟩
def WAKE_CFG_MASK : FRef := ⟨0x040, 2, 0⟩
def WAKE_CAUSE_WAKE_PIN : FRef := ⟨0x044, 0, 0⟩
def WAKE_CAUSE_RTC : FRef := ⟨0x044, 1, 1⟩
def WAKE_CAUSE_TWT : FRef := ⟨0x044, 2, 2⟩
def WAKE_CAUSE_RESET : FRef := ⟨0x044, 3, 3⟩
def SAVE_STATUS_LAST_COPY : FRef := ⟨0x050, 0, 0⟩
def SAVE_STATUS_LAST_FAILED : FRef := ⟨0x050, 1, 1⟩
def SAVE_STATUS_LAST_US : FRef := ⟨0x050, 31, 16⟩
def SAVE_COUNT : FRef := ⟨0x060, 31, 0⟩
def SAVE_FAIL_COUNT : FRef := ⟨0x064, 31, 0⟩
def WARM_RESUME_COUNT : FRef := ⟨0x068, 31, 0⟩
def RAIL_FAULT_COUNT : FRef := ⟨0x06C, 31, 0⟩
def KPR_COUNTER_OVF : FRef := ⟨0x07C, 3, 0⟩
end KPR

namespace CORE
def DUTY_CORE : FRef := ⟨0x000, 2, 0⟩
def DUTY_MIGRATING : FRef := ⟨0x000, 4, 4⟩
def CORE_STATE : FRef := ⟨0x040, 2, 0⟩
def CORE_DUTIES : FRef := ⟨0x040, 7, 4⟩
def CORE_SLOT : FRef := ⟨0x040, 8, 8⟩
def WDT_CFG_TIMEOUT_MS : FRef := ⟨0x060, 6, 0⟩
def MIGRATION_COUNT : FRef := ⟨0x070, 31, 0⟩
def WATCHDOG_COUNT : FRef := ⟨0x074, 31, 0⟩
def DUTY_COUNTER_OVF : FRef := ⟨0x07C, 1, 0⟩
def FE_MAP : FRef := ⟨0x080, 31, 0⟩
def CH_MAP : FRef := ⟨0x100, 31, 0⟩
def PORT_MAP : FRef := ⟨0x140, 31, 0⟩
end CORE

namespace NV
def NV_DST : FRef := ⟨0x000, 31, 0⟩
def NV_LEN : FRef := ⟨0x004, 11, 0⟩
def NV_CTL_GO : FRef := ⟨0x008, 0, 0⟩
def NV_CTL_ABORT : FRef := ⟨0x008, 1, 1⟩
def NV_STATUS_BUSY : FRef := ⟨0x00C, 0, 0⟩
def NV_STATUS_DONE : FRef := ⟨0x00C, 1, 1⟩
def NV_STATUS_ABORTED : FRef := ⟨0x00C, 2, 2⟩
def NV_STATUS_CODE : FRef := ⟨0x00C, 31, 16⟩
def BOOT_FW : FRef := ⟨0x010, 0, 0⟩
def BOOT_MF : FRef := ⟨0x010, 1, 1⟩
def BOOT_MF_EN : FRef := ⟨0x010, 2, 2⟩
def NV_WRITE_COUNT : FRef := ⟨0x020, 31, 0⟩
def NV_ERR_COUNT : FRef := ⟨0x024, 31, 0⟩
def NV_COUNTER_OVF : FRef := ⟨0x07C, 1, 0⟩
def NV_DATA : FRef := ⟨0x800, 31, 0⟩
end NV

namespace FERRY
def PAIR_CFG_ENABLE : FRef := ⟨0x000, 0, 0⟩
def PAIR_CFG_ALIGN_LIMIT : FRef := ⟨0x000, 15, 8⟩
def MIRROR_CFG_CLASSES : FRef := ⟨0x004, 4, 0⟩
def PAIR_STATUS_ROLE : FRef := ⟨0x008, 1, 0⟩
def PAIR_STATUS_PREFERRED : FRef := ⟨0x008, 2, 2⟩
def PAIR_STATUS_PRESENT : FRef := ⟨0x008, 3, 3⟩
def PAIR_STATUS_LINK_UP : FRef := ⟨0x008, 4, 4⟩
def PAIR_STATUS_HB_OK : FRef := ⟨0x008, 5, 5⟩
def PAIR_STATUS_LEAD_N_LEVEL : FRef := ⟨0x008, 6, 6⟩
def PAIR_STATUS_EPOCH_TRUST : FRef := ⟨0x008, 7, 7⟩
def PAIR_STATUS_MIRROR_STATE : FRef := ⟨0x008, 9, 8⟩
def PAIR_STATUS_TAKE_OVERRIDE : FRef := ⟨0x008, 10, 10⟩
def PAIR_STATUS_PARTNER_FAULT : FRef := ⟨0x008, 23, 16⟩
def PAIR_STATUS_PARTNER_PROTO : FRef := ⟨0x008, 31, 24⟩
def EPOCH_OFFSET : FRef := ⟨0x00C, 31, 0⟩
def LATENCY_NS : FRef := ⟨0x010, 15, 0⟩
def TX_SEQ : FRef := ⟨0x014, 31, 0⟩
def APPLIED_SEQ : FRef := ⟨0x018, 31, 0⟩
def PARTNER_APPLIED : FRef := ⟨0x01C, 31, 0⟩
def PORT_PAIRED : FRef := ⟨0x020, 31, 0⟩
def PORT_DRIVE : FRef := ⟨0x024, 31, 0⟩
def HANDOVER_EPOCH_LO : FRef := ⟨0x028, 31, 0⟩
def HANDOVER_EPOCH_HI : FRef := ⟨0x02C, 31, 0⟩
def PARTNER_LAST : FRef := ⟨0x030, 6, 0⟩
def HB_LOSS_COUNT : FRef := ⟨0x040, 31, 0⟩
def CROSSING_COUNT : FRef := ⟨0x044, 31, 0⟩
def LINK_ERR_COUNT : FRef := ⟨0x048, 31, 0⟩
def REPLAY_COUNT : FRef := ⟨0x04C, 31, 0⟩
def RESYNC_COUNT : FRef := ⟨0x050, 31, 0⟩
def PAIR_COUNTER_OVF : FRef := ⟨0x07C, 4, 0⟩
end FERRY

namespace THERM
def TJ_NOW : FRef := ⟨0x000, 15, 0⟩
def TJ_PEAK : FRef := ⟨0x004, 15, 0⟩
def THERM_CFG_WARN_C : FRef := ⟨0x008, 7, 0⟩
def THERM_CFG_HYST : FRef := ⟨0x008, 11, 8⟩
def THERM_STATUS_WARN : FRef := ⟨0x00C, 0, 0⟩
def THERM_STATUS_LIMIT : FRef := ⟨0x00C, 1, 1⟩
def THERM_STATUS_CRITICAL : FRef := ⟨0x00C, 2, 2⟩
def WARN_COUNT : FRef := ⟨0x040, 31, 0⟩
def THERM_COUNTER_OVF : FRef := ⟨0x07C, 0, 0⟩
end THERM

namespace GPIO
def GPIO_CFG_DIR : FRef := ⟨0x100, 0, 0⟩
def GPIO_CFG_OUT : FRef := ⟨0x100, 1, 1⟩
def GPIO_CFG_PULL : FRef := ⟨0x100, 3, 2⟩
def GPIO_CFG_SAFE : FRef := ⟨0x100, 5, 4⟩
def GPIO_CFG_DRIVE : FRef := ⟨0x100, 7, 6⟩
def GPIO_CFG_IN : FRef := ⟨0x100, 8, 8⟩
def GPIO_IN : FRef := ⟨0x180, 15, 0⟩
end GPIO

/-! ## The register tables, chapter by chapter -/

def ucbMap : List RegD := [
  ⟨0x000, 1, 4, [⟨31, 24, .ro, 0x0, .any, 0⟩, ⟨23, 16, .ro, 0x0, .any, 0⟩, ⟨15, 0, .ro, 0x1, .any, 0⟩]⟩,
  ⟨0x004, 1, 4, [⟨0, 0, .rw, 0x0, .any, 0⟩, ⟨1, 1, .rw, 0x0, .any, 0⟩, ⟨2, 2, .rw, 0x0, .any, 0⟩, ⟨3, 3, .wo, 0x0, .any, 0⟩, ⟨4, 4, .wo, 0x0, .any, 0⟩, ⟨5, 5, .rw, 0x0, .any, 0⟩, ⟨6, 6, .rw, 0x1, .any, 0⟩, ⟨7, 7, .wo, 0x0, .any, 0⟩]⟩,
  ⟨0x008, 1, 4, [⟨2, 0, .ro, 0x0, .any, 0⟩, ⟨3, 3, .ro, 0x0, .any, 0⟩, ⟨4, 4, .ro, 0x0, .any, 0⟩, ⟨5, 5, .ro, 0x0, .any, 0⟩, ⟨7, 6, .ro, 0x0, .any, 0⟩]⟩,
  ⟨0x00C, 1, 4, [⟨5, 0, .w1c, 0x0, .any, 0⟩, ⟨31, 16, .w1c, 0x0, .any, 0⟩]⟩,
  ⟨0x010, 1, 4, [⟨5, 0, .rw, 0x0, .any, 0⟩, ⟨31, 16, .rw, 0x0, .any, 0⟩]⟩,
  ⟨0x014, 1, 4, [⟨9, 0, .ro, 0x3FF, .any, 0⟩, ⟨31, 31, .ro, 0x0, .any, 0⟩]⟩,
  ⟨0x018, 1, 4, [⟨9, 0, .ro, 0x3FF, .any, 0⟩, ⟨25, 16, .ro, 0x0, .any, 0⟩]⟩,
  ⟨0x01C, 1, 4, [⟨9, 0, .ro, 0x3FF, .any, 0⟩, ⟨13, 10, .ro, 0x0, .any, 0⟩, ⟨19, 16, .ro, 0x0, .any, 0⟩]⟩,
  ⟨0x020, 1, 4, [⟨9, 0, .ro, 0x3FF, .any, 0⟩, ⟨25, 16, .ro, 0x0, .any, 0⟩]⟩,
  ⟨0x024, 1, 4, [⟨15, 0, .ro, 0x0, .any, 0⟩]⟩,
  ⟨0x028, 1, 4, [⟨31, 0, .ro, 0x0, .any, 0⟩]⟩,
  ⟨0x02C, 1, 4, [⟨31, 0, .ro, 0x0, .any, 0⟩]⟩,
  ⟨0x030, 1, 4, [⟨15, 0, .ro, 0x0, .any, 0⟩]⟩]

def sysMap : List RegD := [
  ⟨0x000, 1, 4, [⟨31, 16, .ro, 0x0, .any, 0⟩, ⟨15, 8, .ro, 0x0, .any, 0⟩, ⟨7, 0, .ro, 0xB1, .any, 0⟩]⟩,
  ⟨0x004, 1, 4, [⟨0, 0, .ro, 0x0, .any, 0⟩, ⟨1, 1, .ro, 0x0, .any, 0⟩]⟩,
  ⟨0x008, 1, 4, [⟨31, 0, .ro, 0x0, .any, 0⟩]⟩,
  ⟨0x00C, 1, 4, [⟨31, 0, .ro, 0x0, .any, 0⟩]⟩,
  ⟨0x010, 1, 4, [⟨3, 0, .ro, 0x0, .any, 0⟩]⟩,
  ⟨0x014, 1, 4, [⟨0, 0, .w1c, 0x1, .any, 0⟩, ⟨1, 1, .w1c, 0x0, .any, 0⟩, ⟨2, 2, .w1c, 0x0, .any, 0⟩, ⟨3, 3, .w1c, 0x0, .any, 0⟩, ⟨4, 4, .w1c, 0x0, .any, 0⟩, ⟨5, 5, .w1c, 0x0, .any, 0⟩, ⟨6, 6, .w1c, 0x0, .any, 0⟩, ⟨10, 8, .ro, 0x0, .any, 0⟩]⟩,
  ⟨0x018, 1, 4, [⟨3, 0, .wo, 0x0, .any, 0⟩, ⟨31, 16, .wo, 0x0, .any, 0⟩]⟩,
  ⟨0x020, 1, 4, [⟨31, 0, .ro, 0x0, .any, 0⟩]⟩,
  ⟨0x024, 1, 4, [⟨15, 0, .ro, 0x0, .any, 0⟩, ⟨19, 16, .ro, 0x0, .any, 0⟩, ⟨20, 20, .ro, 0x0, .any, 0⟩]⟩,
  ⟨0x028, 1, 4, [⟨31, 0, (.ctr 0), 0x0, .any, 0⟩]⟩,
  ⟨0x02C, 1, 4, [⟨1, 0, .ro, 0x0, .any, 0⟩]⟩,
  ⟨0x030, 1, 4, [⟨31, 0, .ro, 0x0, .any, 0⟩]⟩,
  ⟨0x034, 1, 4, [⟨31, 0, .ro, 0x0, .any, 0⟩]⟩,
  ⟨0x038, 1, 4, [⟨0, 0, .wo, 0x0, .any, 0⟩]⟩,
  ⟨0x040, 1, 4, [⟨31, 0, .ro, 0x0, .any, 0⟩]⟩,
  ⟨0x044, 1, 4, [⟨31, 0, .ro, 0x0, .any, 0⟩]⟩,
  ⟨0x050, 1, 4, [⟨31, 0, (.ctr 1), 0x0, .any, 0⟩]⟩,
  ⟨0x054, 1, 4, [⟨31, 0, .ro, 0x0, .any, 0⟩]⟩,
  ⟨0x100, 32, 4, [⟨31, 0, .rw, 0x0, .any, 0⟩]⟩,
  ⟨0x180, 32, 4, [⟨31, 0, .ro, 0x0, .any, 0⟩]⟩]

def compMap : List RegD := [
  ⟨0x040, 1, 4, [⟨31, 0, .ro, 0x544F4F52, .any, 0⟩]⟩,
  ⟨0x044, 1, 4, [⟨31, 0, .ro, 0x0, .any, 0⟩]⟩,
  ⟨0x048, 1, 4, [⟨9, 0, .ro, 0x0, .any, 0⟩, ⟨25, 16, .ro, 0x0, .any, 0⟩]⟩]

def loaderMap : List RegD := [
  ⟨0x080, 1, 4, [⟨1, 0, .ro, 0x0, .any, 0⟩]⟩,
  ⟨0x084, 1, 4, [⟨15, 0, .ro, 0x0, .any, 0⟩, ⟨31, 16, .ro, 0xFFFF, .any, 0⟩]⟩,
  ⟨0x088, 1, 4, [⟨15, 0, .ro, 0x0, .any, 0⟩]⟩,
  ⟨0x08C, 1, 4, [⟨8, 0, .ro, 0xFF, .any, 0⟩, ⟨27, 16, .ro, 0x800, .any, 0⟩]⟩,
  ⟨0x090, 1, 4, [⟨13, 0, .ro, 0x2000, .any, 0⟩, ⟨29, 16, .ro, 0x2000, .any, 0⟩]⟩,
  ⟨0x094, 1, 4, [⟨31, 0, (.ctr 0), 0x0, .any, 0⟩]⟩]

def antMap : List RegD := [
  ⟨0x040, 4, 4, [⟨3, 0, .rw, 0xF, .aerial, 0⟩, ⟨7, 4, .rw, 0xF, .aerial, 0⟩]⟩,
  ⟨0x050, 1, 4, [⟨3, 0, .rw, 0xF, .aerialL, 0⟩]⟩,
  ⟨0x060, 1, 4, [⟨7, 0, .ro, 0x0, .any, 0⟩]⟩]

def feMap : List RegD := [
  ⟨0x040, 1, 4, [⟨20, 0, .rw, 0x27FA6, (.within 30000 1800000), 0⟩]⟩,
  ⟨0x044, 1, 4, [⟨0, 0, .rw, 0x1, .any, 0⟩, ⟨1, 1, .rw, 0x1, .any, 0⟩, ⟨3, 2, .rw, 0x1, .any, 0⟩]⟩,
  ⟨0x048, 1, 4, [⟨1, 0, .rw, 0x1, (.upTo 2), 0⟩, ⟨12, 8, .rw, 0x1F, .any, 0⟩, ⟨20, 16, .rw, 0x0, .any, 0⟩, ⟨28, 24, .rw, 0x1F, .any, 0⟩]⟩,
  ⟨0x04C, 1, 4, [⟨7, 0, .rw, 0x3C, (.within 24 120), 0⟩, ⟨11, 8, .rw, 0x6, (.within 1 12), 0⟩, ⟨23, 16, .rw, 0x32, (.within 1 250), 0⟩, ⟨31, 24, .rw, 0xA, (.within 1 255), 0⟩]⟩,
  ⟨0x050, 1, 4, [⟨7, 0, .rw, 0x4, (.within 1 255), 0⟩, ⟨10, 8, .rw, 0x3, (.within 1 7), 0⟩, ⟨23, 16, .rw, 0xA, (.within 1 255), 0⟩]⟩,
  ⟨0x054, 1, 4, [⟨1, 0, .rw, 0x0, .any, 0⟩, ⟨7, 4, .rw, 0x3, (.within 1 12), 0⟩, ⟨15, 8, .rw, 0x14, (.within 1 255), 0⟩, ⟨25, 16, .rw, 0x3FF, .any, 0⟩]⟩,
  ⟨0x058, 1, 4, [⟨7, 0, .rw, 0x80, .any, 0⟩]⟩,
  ⟨0x060, 1, 4, [⟨4, 0, .ro, 0x1F, .any, 0⟩, ⟨10, 8, .ro, 0x0, .any, 0⟩, ⟨11, 11, .ro, 0x0, .any, 0⟩, ⟨12, 12, .ro, 0x0, .any, 0⟩, ⟨13, 13, .ro, 0x0, .any, 0⟩, ⟨14, 14, .ro, 0x0, .any, 0⟩, ⟨15, 15, .ro, 0x0, .any, 0⟩, ⟨19, 16, .ro, 0xF, .any, 0⟩, ⟨31, 24, .ro, 0x3E, .any, 0⟩]⟩,
  ⟨0x064, 1, 4, [⟨15, 0, .ro, 0x8000, .any, 0⟩, ⟨31, 16, .ro, 0x8000, .any, 0⟩]⟩,
  ⟨0x068, 1, 4, [⟨15, 0, .ro, 0x0, .any, 0⟩, ⟨31, 16, .ro, 0x0, .any, 0⟩]⟩,
  ⟨0x070, 1, 4, [⟨31, 0, (.ctr 0), 0x0, .any, 0⟩]⟩,
  ⟨0x074, 1, 4, [⟨31, 0, (.ctr 1), 0x0, .any, 0⟩]⟩,
  ⟨0x078, 1, 4, [⟨31, 0, (.ctr 2), 0x0, .any, 0⟩]⟩,
  ⟨0x07C, 1, 4, [⟨31, 0, (.ctr 3), 0x0, .any, 0⟩]⟩,
  ⟨0x080, 1, 4, [⟨31, 0, (.ctr 4), 0x0, .any, 0⟩]⟩,
  ⟨0x100, 32, 4, [⟨31, 0, .rw, 0x0, .any, 3⟩]⟩]

def lowbandMap : List RegD := [
  ⟨0x044, 1, 4, [⟨0, 0, .rw, 0x1, .any, 0⟩, ⟨3, 2, .rw, 0x1, .any, 0⟩]⟩,
  ⟨0x048, 1, 4, [⟨1, 0, .rw, 0x1, (.upTo 2), 0⟩, ⟨12, 8, .rw, 0x1F, .any, 0⟩, ⟨20, 16, .rw, 0x0, .any, 0⟩, ⟨28, 24, .rw, 0x1F, .any, 0⟩]⟩,
  ⟨0x04C, 1, 4, [⟨7, 0, .rw, 0x3C, (.within 24 120), 0⟩, ⟨11, 8, .rw, 0x6, (.within 1 12), 0⟩, ⟨23, 16, .rw, 0x32, (.within 1 250), 0⟩, ⟨31, 24, .rw, 0xA, (.within 1 255), 0⟩]⟩,
  ⟨0x050, 1, 4, [⟨7, 0, .rw, 0x4, (.within 1 255), 0⟩, ⟨10, 8, .rw, 0x3, (.within 1 7), 0⟩, ⟨23, 16, .rw, 0xA, (.within 1 255), 0⟩]⟩,
  ⟨0x060, 1, 4, [⟨4, 0, .ro, 0x1F, .any, 0⟩, ⟨10, 8, .ro, 0x0, .any, 0⟩, ⟨12, 12, .ro, 0x0, .any, 0⟩, ⟨13, 13, .ro, 0x0, .any, 0⟩, ⟨31, 24, .ro, 0x38, .any, 0⟩]⟩,
  ⟨0x064, 1, 4, [⟨15, 0, .ro, 0x8000, .any, 0⟩, ⟨31, 16, .ro, 0x8000, .any, 0⟩]⟩,
  ⟨0x070, 1, 4, [⟨31, 0, (.ctr 0), 0x0, .any, 0⟩]⟩,
  ⟨0x074, 1, 4, [⟨31, 0, (.ctr 1), 0x0, .any, 0⟩]⟩,
  ⟨0x078, 1, 4, [⟨31, 0, (.ctr 2), 0x0, .any, 0⟩]⟩,
  ⟨0x07C, 1, 4, [⟨31, 0, (.ctr 3), 0x0, .any, 0⟩]⟩,
  ⟨0x080, 1, 4, [⟨31, 0, (.ctr 4), 0x0, .any, 0⟩]⟩,
  ⟨0x100, 32, 4, [⟨31, 0, .rw, 0x0, .any, 3⟩]⟩]

def loMap : List RegD := [
  ⟨0x040, 1, 4, [⟨20, 0, .ro, 0x0, .any, 0⟩]⟩,
  ⟨0x044, 1, 4, [⟨1, 0, .rw, 0x3, .any, 0⟩]⟩,
  ⟨0x048, 1, 4, [⟨1, 0, .ro, 0x0, .any, 0⟩, ⟨2, 2, .ro, 0x0, .any, 0⟩, ⟨3, 3, .ro, 0x0, .any, 0⟩, ⟨4, 4, .ro, 0x0, .any, 0⟩, ⟨5, 5, .ro, 0x0, .any, 0⟩, ⟨11, 8, .ro, 0x0, .any, 0⟩, ⟨13, 12, .ro, 0x1, .any, 0⟩]⟩,
  ⟨0x04C, 1, 4, [⟨22, 0, .ro, 0x0, .any, 0⟩]⟩,
  ⟨0x050, 1, 4, [⟨22, 0, .ro, 0x0, .any, 0⟩]⟩,
  ⟨0x054, 1, 4, [⟨15, 0, .ro, 0x0, .any, 0⟩]⟩,
  ⟨0x058, 1, 4, [⟨31, 0, (.ctr 0), 0x0, .any, 0⟩]⟩,
  ⟨0x05C, 1, 4, [⟨31, 0, (.ctr 1), 0x0, .any, 0⟩]⟩,
  ⟨0x080, 1, 4, [⟨9, 0, .rw, 0x3FF, .any, 0⟩, ⟨16, 16, .rw, 0x1, .any, 0⟩, ⟨24, 20, .rw, 0x8, (.within 1 16), 0⟩]⟩,
  ⟨0x084, 1, 4, [⟨0, 0, .wo, 0x0, .any, 0⟩, ⟨1, 1, .wo, 0x0, .any, 0⟩, ⟨2, 2, .wo, 0x0, .any, 0⟩, ⟨3, 3, .wo, 0x0, .any, 0⟩, ⟨8, 8, .wo, 0x0, .any, 0⟩]⟩,
  ⟨0x088, 1, 4, [⟨3, 0, .ro, 0x0, .any, 0⟩, ⟨7, 4, .ro, 0x0, .any, 0⟩, ⟨11, 8, .ro, 0x0, .any, 0⟩, ⟨31, 16, .ro, 0x0, .any, 0⟩]⟩,
  ⟨0x08C, 1, 4, [⟨15, 0, .ro, 0x0, .any, 0⟩, ⟨31, 16, .ro, 0x0, .any, 0⟩]⟩,
  ⟨0x090, 1, 4, [⟨1, 0, .ro, 0x0, .any, 0⟩, ⟨31, 16, .ro, 0x0, .any, 0⟩]⟩,
  ⟨0x094, 1, 4, [⟨15, 0, .ro, 0x0, .any, 0⟩]⟩,
  ⟨0x098, 1, 4, [⟨31, 0, (.ctr 2), 0x0, .any, 0⟩]⟩,
  ⟨0x09C, 1, 4, [⟨31, 0, (.ctr 3), 0x0, .any, 0⟩]⟩,
  ⟨0x0A0, 1, 4, [⟨31, 0, (.ctr 4), 0x0, .any, 0⟩]⟩,
  ⟨0x0A4, 1, 4, [⟨31, 0, (.ctr 5), 0x0, .any, 0⟩]⟩]

def ddcMap : List RegD := [
  ⟨0x040, 1, 4, [⟨31, 0, .rw, 0x0, .any, 0⟩]⟩,
  ⟨0x044, 1, 4, [⟨2, 0, .rw, 0x2, (.upTo 5), 19⟩]⟩,
  ⟨0x048, 1, 4, [⟨10, 0, .rw, 0xA0, (.within 4 1024), 19⟩, ⟨16, 16, .rw, 0x1, .any, 19⟩, ⟨17, 17, .rw, 0x1, .any, 19⟩]⟩,
  ⟨0x04C, 1, 4, [⟨31, 0, .ro, 0x0, .any, 0⟩]⟩,
  ⟨0x050, 1, 4, [⟨12, 0, .ro, 0x280, .any, 0⟩, ⟨17, 16, .ro, 0x1, .any, 0⟩, ⟨31, 24, .ro, 0x0, .any, 0⟩]⟩,
  ⟨0x054, 1, 4, [⟨31, 0, .ro, 0x5DC00, .any, 0⟩]⟩,
  ⟨0x058, 1, 4, [⟨31, 0, (.ctr 0), 0x0, .any, 0⟩]⟩,
  ⟨0x05C, 1, 4, [⟨31, 0, (.ctr 1), 0x0, .any, 0⟩]⟩]

def chanFilterMap : List RegD := [
  ⟨0x040, 1, 4, [⟨1, 0, .rw, 0x0, (.upTo 2), 19⟩]⟩,
  ⟨0x044, 1, 4, [⟨9, 0, .rw, 0x1, (.within 1 256), 0⟩, ⟨14, 12, .rw, 0x0, .fmtAll, 0⟩]⟩,
  ⟨0x048, 1, 4, [⟨9, 0, .rw, 0x1, (.within 1 256), 0⟩, ⟨14, 12, .rw, 0x0, .fmtAll, 0⟩]⟩,
  ⟨0x04C, 1, 4, [⟨0, 0, .rw, 0x1, .any, 0⟩]⟩,
  ⟨0x050, 1, 4, [⟨0, 0, .wo, 0x0, .any, 0⟩, ⟨31, 16, .wo, 0x0, .any, 0⟩]⟩,
  ⟨0x054, 1, 4, [⟨0, 0, .ro, 0x0, .any, 0⟩, ⟨1, 1, .ro, 0x0, .any, 0⟩, ⟨2, 2, .ro, 0x0, .any, 0⟩, ⟨3, 3, .ro, 0x0, .any, 0⟩, ⟨31, 16, .ro, 0x0, .any, 0⟩]⟩,
  ⟨0x058, 1, 4, [⟨15, 0, .ro, 0x0, .any, 0⟩]⟩,
  ⟨0x060, 1, 4, [⟨31, 0, (.ctr 0), 0x0, .any, 0⟩]⟩,
  ⟨0x064, 1, 4, [⟨31, 0, (.ctr 1), 0x0, .any, 0⟩]⟩,
  ⟨0x800, 512, 4, [⟨31, 0, .rw, 0x0, .any, 0⟩]⟩]

def audioFilterMap : List RegD := [
  ⟨0x040, 1, 4, [⟨1, 0, .rw, 0x0, (.upTo 2), 19⟩]⟩,
  ⟨0x044, 1, 4, [⟨9, 0, .rw, 0x1, (.within 1 512), 0⟩, ⟨14, 12, .rw, 0x0, .fmtReal, 0⟩]⟩,
  ⟨0x048, 1, 4, [⟨9, 0, .rw, 0x1, (.within 1 512), 0⟩, ⟨14, 12, .rw, 0x0, .fmtReal, 0⟩]⟩,
  ⟨0x04C, 1, 4, [⟨0, 0, .rw, 0x1, .any, 0⟩]⟩,
  ⟨0x050, 1, 4, [⟨0, 0, .wo, 0x0, .any, 0⟩, ⟨31, 16, .wo, 0x0, .any, 0⟩]⟩,
  ⟨0x054, 1, 4, [⟨0, 0, .ro, 0x0, .any, 0⟩, ⟨1, 1, .ro, 0x0, .any, 0⟩, ⟨2, 2, .ro, 0x0, .any, 0⟩, ⟨3, 3, .ro, 0x0, .any, 0⟩, ⟨31, 16, .ro, 0x0, .any, 0⟩]⟩,
  ⟨0x058, 1, 4, [⟨15, 0, .ro, 0x0, .any, 0⟩]⟩,
  ⟨0x060, 1, 4, [⟨31, 0, (.ctr 0), 0x0, .any, 0⟩]⟩,
  ⟨0x064, 1, 4, [⟨31, 0, (.ctr 1), 0x0, .any, 0⟩]⟩,
  ⟨0x800, 512, 4, [⟨31, 0, .rw, 0x0, .any, 0⟩]⟩]

def detMap : List RegD := [
  ⟨0x040, 1, 4, [⟨13, 0, .rw, 0x3E8, (.within 1 10000), 0⟩]⟩,
  ⟨0x044, 1, 4, [⟨11, 0, .rw, 0x12C, (.within 1 3000), 0⟩]⟩,
  ⟨0x048, 1, 4, [⟨9, 0, .rw, 0xA, (.within 1 1000), 0⟩, ⟨28, 16, .rw, 0x12C, (.within 1 5000), 0⟩]⟩,
  ⟨0x04C, 1, 4, [⟨1, 0, .rw, 0x2, .any, 0⟩, ⟨4, 4, .rw, 0x0, .any, 0⟩, ⟨11, 8, .rw, 0x3, .any, 0⟩, ⟨31, 16, .rw, 0xE890, .any, 0⟩]⟩,
  ⟨0x050, 1, 4, [⟨15, 0, .rw, 0x2710, (.within 1 65535), 0⟩, ⟨31, 16, .rw, 0x3E8, (.within 1 65535), 0⟩]⟩,
  ⟨0x054, 1, 4, [⟨0, 0, .rw, 0x1, .any, 0⟩, ⟨4, 4, .rw, 0x0, .any, 0⟩, ⟨15, 8, .rw, 0x1, (.within 1 255), 0⟩, ⟨31, 16, .rw, 0xFF9C, .any, 0⟩]⟩,
  ⟨0x058, 1, 4, [⟨0, 0, .rw, 0x0, .any, 0⟩, ⟨1, 1, .wo, 0x0, .any, 0⟩]⟩,
  ⟨0x080, 1, 4, [⟨31, 0, .ro, 0x80008000, .any, 0⟩]⟩,
  ⟨0x084, 1, 4, [⟨31, 0, .ro, 0x80008000, .any, 0⟩]⟩,
  ⟨0x088, 1, 4, [⟨31, 0, .ro, 0x80008000, .any, 0⟩]⟩,
  ⟨0x08C, 1, 4, [⟨31, 0, .ro, 0x80008000, .any, 0⟩]⟩,
  ⟨0x090, 1, 4, [⟨15, 0, .ro, 0x8000, .any, 0⟩, ⟨31, 16, .ro, 0x8000, .any, 0⟩]⟩,
  ⟨0x094, 1, 4, [⟨15, 0, .ro, 0x8000, .any, 0⟩]⟩,
  ⟨0x09C, 1, 4, [⟨31, 0, .peak, 0x80008000, .any, 0⟩]⟩,
  ⟨0x0A0, 1, 4, [⟨0, 0, .ro, 0x0, .any, 0⟩, ⟨1, 1, .ro, 0x0, .any, 0⟩]⟩,
  ⟨0x0B0, 1, 4, [⟨31, 0, (.ctr 0), 0x0, .any, 0⟩]⟩,
  ⟨0x0B4, 1, 4, [⟨31, 0, (.ctr 1), 0x0, .any, 0⟩]⟩]

def fmMap : List RegD := [
  ⟨0x040, 1, 4, [⟨0, 0, .rw, 0x0, .any, 19⟩, ⟨1, 1, .rw, 0x0, .any, 0⟩, ⟨2, 2, .rw, 0x1, .any, 0⟩, ⟨3, 3, .rw, 0x1, .any, 0⟩, ⟨7, 4, .rw, 0x4, .any, 0⟩]⟩,
  ⟨0x044, 1, 4, [⟨7, 0, .rw, 0x78, .any, 0⟩, ⟨15, 8, .rw, 0x3C, .any, 0⟩]⟩,
  ⟨0x048, 1, 4, [⟨7, 0, .rw, 0x64, .any, 0⟩, ⟨15, 8, .rw, 0x28, .any, 0⟩, ⟨19, 16, .rw, 0x3, (.within 2 10), 0⟩, ⟨24, 24, .rw, 0x1, .any, 0⟩]⟩,
  ⟨0x04C, 1, 4, [⟨7, 0, .rw, 0x28, .any, 0⟩, ⟨15, 8, .rw, 0x8, .any, 0⟩, ⟨20, 16, .rw, 0x14, (.within 0 30), 0⟩, ⟨24, 24, .rw, 0x1, .any, 0⟩]⟩,
  ⟨0x050, 1, 4, [⟨7, 0, .rw, 0x14, (.within 1 255), 0⟩, ⟨15, 8, .rw, 0x32, (.within 1 255), 0⟩]⟩,
  ⟨0x054, 1, 4, [⟨7, 0, .rw, 0x18, (.within 6 80), 0⟩, ⟨12, 8, .rw, 0x4, (.within 1 16), 0⟩]⟩,
  ⟨0x058, 1, 4, [⟨7, 0, .rw, 0x1E, (.within 10 100), 0⟩]⟩,
  ⟨0x05C, 1, 4, [⟨15, 0, .rw, 0x320, (.within 200 2000), 0⟩]⟩,
  ⟨0x080, 1, 4, [⟨0, 0, .ro, 0x0, .any, 0⟩, ⟨1, 1, .ro, 0x0, .any, 0⟩, ⟨2, 2, .ro, 0x0, .any, 0⟩, ⟨15, 8, .ro, 0x0, .any, 0⟩, ⟨23, 16, .ro, 0x0, .any, 0⟩, ⟨31, 24, .ro, 0x96, .any, 0⟩]⟩,
  ⟨0x084, 1, 4, [⟨15, 0, .ro, 0x8000, .any, 0⟩, ⟨23, 16, .ro, 0x0, .any, 0⟩, ⟨31, 24, .ro, 0x0, .any, 0⟩]⟩,
  ⟨0x088, 1, 4, [⟨31, 0, .ro, 0x0, .any, 0⟩]⟩,
  ⟨0x08C, 1, 4, [⟨15, 0, .ro, 0x0, .any, 0⟩, ⟨23, 16, .ro, 0x0, .any, 0⟩, ⟨31, 24, .ro, 0x0, .any, 0⟩]⟩,
  ⟨0x090, 1, 4, [⟨15, 0, .ro, 0x8000, .any, 0⟩]⟩,
  ⟨0x094, 1, 4, [⟨15, 0, .ro, 0x8000, .any, 0⟩]⟩,
  ⟨0x0A0, 1, 4, [⟨31, 0, (.ctr 0), 0x0, .any, 0⟩]⟩,
  ⟨0x0A4, 1, 4, [⟨31, 0, (.ctr 1), 0x0, .any, 0⟩]⟩,
  ⟨0x0A8, 1, 4, [⟨31, 0, (.ctr 2), 0x0, .any, 0⟩]⟩,
  ⟨0x0AC, 1, 4, [⟨31, 0, (.ctr 3), 0x0, .any, 0⟩]⟩,
  ⟨0x0B0, 1, 4, [⟨31, 0, .ro, 0x0, .any, 0⟩]⟩]

def amMap : List RegD := [
  ⟨0x040, 1, 4, [⟨3, 0, .rw, 0x5, .any, 0⟩, ⟨5, 4, .rw, 0x0, (.upTo 1), 0⟩, ⟨7, 6, .rw, 0x0, .any, 0⟩, ⟨8, 8, .rw, 0x1, .any, 0⟩, ⟨9, 9, .rw, 0x1, .any, 0⟩, ⟨13, 12, .rw, 0x1, (.upTo 2), 0⟩]⟩,
  ⟨0x044, 1, 4, [⟨7, 0, .rw, 0x64, .any, 0⟩, ⟨15, 8, .rw, 0x28, .any, 0⟩, ⟨19, 16, .rw, 0x2, (.within 2 10), 0⟩, ⟨24, 24, .rw, 0x1, .any, 0⟩]⟩,
  ⟨0x048, 1, 4, [⟨7, 0, .rw, 0x28, .any, 0⟩, ⟨15, 8, .rw, 0x8, .any, 0⟩, ⟨20, 16, .rw, 0x14, (.within 0 30), 0⟩, ⟨24, 24, .rw, 0x1, .any, 0⟩]⟩,
  ⟨0x04C, 1, 4, [⟨7, 0, .rw, 0x14, (.within 1 255), 0⟩, ⟨15, 8, .rw, 0x32, (.within 1 255), 0⟩]⟩,
  ⟨0x050, 1, 4, [⟨7, 0, .rw, 0x18, (.within 6 80), 0⟩, ⟨12, 8, .rw, 0x2, (.within 1 16), 0⟩]⟩,
  ⟨0x080, 1, 4, [⟨0, 0, .ro, 0x0, .any, 0⟩, ⟨1, 1, .ro, 0x0, .any, 0⟩, ⟨3, 2, .ro, 0x0, .any, 0⟩, ⟨4, 4, .ro, 0x0, .any, 0⟩, ⟨5, 5, .ro, 0x0, .any, 0⟩, ⟨23, 16, .ro, 0x0, .any, 0⟩, ⟨31, 24, .ro, 0x32, .any, 0⟩]⟩,
  ⟨0x084, 1, 4, [⟨15, 0, .ro, 0x8000, .any, 0⟩, ⟨23, 16, .ro, 0x0, .any, 0⟩]⟩,
  ⟨0x088, 1, 4, [⟨31, 0, .ro, 0x0, .any, 0⟩]⟩,
  ⟨0x08C, 1, 4, [⟨7, 0, .ro, 0x0, .any, 0⟩, ⟨15, 8, .ro, 0x0, .any, 0⟩]⟩,
  ⟨0x094, 1, 4, [⟨15, 0, .ro, 0x8000, .any, 0⟩]⟩,
  ⟨0x0A0, 1, 4, [⟨31, 0, (.ctr 0), 0x0, .any, 0⟩]⟩,
  ⟨0x0A4, 1, 4, [⟨31, 0, (.ctr 1), 0x0, .any, 0⟩]⟩,
  ⟨0x0A8, 1, 4, [⟨31, 0, (.ctr 2), 0x0, .any, 0⟩]⟩,
  ⟨0x0AC, 1, 4, [⟨31, 0, (.ctr 3), 0x0, .any, 0⟩]⟩]

def ofdmMap : List RegD := [
  ⟨0x040, 1, 4, [⟨1, 0, .rw, 0x0, (.upTo 2), 19⟩, ⟨6, 4, .rw, 0x0, (.upTo 4), 19⟩]⟩,
  ⟨0x044, 1, 4, [⟨15, 0, .rw, 0x3E8, (.within 100 10000), 0⟩]⟩,
  ⟨0x048, 1, 4, [⟨7, 0, .rw, 0x8, (.within 1 80), 0⟩, ⟨15, 8, .rw, 0x28, .any, 0⟩, ⟨23, 16, .rw, 0x10, .any, 0⟩]⟩,
  ⟨0x04C, 1, 4, [⟨15, 0, .rw, 0xFFFF, .any, 0⟩, ⟨23, 16, .rw, 0x14, (.within 1 255), 0⟩]⟩,
  ⟨0x080, 1, 4, [⟨2, 0, .ro, 0x0, .any, 0⟩, ⟨6, 4, .ro, 0x0, .any, 0⟩, ⟨10, 8, .ro, 0x0, .any, 0⟩, ⟨12, 12, .ro, 0x0, .any, 0⟩, ⟨13, 13, .ro, 0x0, .any, 0⟩, ⟨14, 14, .ro, 0x0, .any, 0⟩, ⟨15, 15, .ro, 0x0, .any, 0⟩]⟩,
  ⟨0x084, 1, 4, [⟨15, 0, .ro, 0x8000, .any, 0⟩, ⟨23, 16, .ro, 0x0, .any, 0⟩]⟩,
  ⟨0x088, 1, 4, [⟨15, 0, .ro, 0x8000, .any, 0⟩]⟩,
  ⟨0x08C, 1, 4, [⟨15, 0, .ro, 0x8000, .any, 0⟩, ⟨31, 16, .ro, 0x8000, .any, 0⟩]⟩,
  ⟨0x090, 1, 4, [⟨31, 0, .ro, 0x0, .any, 0⟩]⟩,
  ⟨0x094, 1, 4, [⟨15, 0, .ro, 0x0, .any, 0⟩]⟩,
  ⟨0x098, 1, 4, [⟨19, 0, .ro, 0x0, .any, 0⟩]⟩,
  ⟨0x09C, 1, 4, [⟨31, 0, .ro, 0x0, .any, 0⟩]⟩,
  ⟨0x0A0, 1, 4, [⟨12, 0, .ro, 0x0, .any, 0⟩]⟩,
  ⟨0x0A4, 1, 4, [⟨6, 0, .ro, 0x0, .any, 0⟩, ⟨25, 16, .ro, 0x0, .any, 0⟩]⟩,
  ⟨0x0B0, 1, 4, [⟨15, 0, .ro, 0x0, .any, 0⟩, ⟨16, 16, .ro, 0x0, .any, 0⟩]⟩,
  ⟨0x0B4, 1, 4, [⟨15, 0, .ro, 0x0, .any, 0⟩, ⟨23, 16, .ro, 0x0, .any, 0⟩, ⟨29, 24, .ro, 0x0, .any, 0⟩, ⟨30, 30, .ro, 0x0, .any, 0⟩, ⟨31, 31, .ro, 0x0, .any, 0⟩]⟩,
  ⟨0x0C0, 1, 4, [⟨31, 0, (.ctr 0), 0x0, .any, 0⟩]⟩,
  ⟨0x0C4, 1, 4, [⟨31, 0, (.ctr 1), 0x0, .any, 0⟩]⟩,
  ⟨0x0C8, 1, 4, [⟨31, 0, (.ctr 2), 0x0, .any, 0⟩]⟩,
  ⟨0x0CC, 1, 4, [⟨31, 0, (.ctr 3), 0x0, .any, 0⟩]⟩,
  ⟨0x0D0, 1, 4, [⟨31, 0, (.ctr 4), 0x0, .any, 0⟩]⟩,
  ⟨0x0D4, 1, 4, [⟨31, 0, (.ctr 5), 0x0, .any, 0⟩]⟩,
  ⟨0x100, 64, 4, [⟨9, 0, .ro, 0x3FF, .any, 0⟩, ⟨11, 10, .ro, 0x0, .any, 0⟩, ⟨21, 16, .rw, 0x0, .any, 0⟩, ⟨24, 24, .ro, 0x0, .any, 0⟩, ⟨25, 25, .ro, 0x0, .any, 0⟩, ⟨26, 26, .ro, 0x0, .any, 0⟩]⟩]

def sdMap : List RegD := [
  ⟨0x040, 1, 4, [⟨0, 0, .rw, 0x0, .any, 0⟩, ⟨1, 1, .rw, 0x0, .any, 0⟩, ⟨2, 2, .rw, 0x1, .any, 0⟩, ⟨4, 4, .rw, 0x0, .any, 0⟩, ⟨8, 8, .rw, 0x1, .any, 0⟩, ⟨11, 9, .rw, 0x2, (.within 0 5), 0⟩, ⟨31, 16, .rw, 0x0, (.zeroOr 10 10000), 0⟩]⟩,
  ⟨0x044, 1, 4, [⟨31, 0, .rw, 0x0, .any, 0⟩]⟩,
  ⟨0x048, 1, 4, [⟨7, 0, .rw, 0x0, .any, 0⟩, ⟨8, 8, .rw, 0x0, .any, 0⟩, ⟨11, 9, .rw, 0x0, .any, 0⟩, ⟨12, 12, .rw, 0x0, .any, 0⟩, ⟨13, 13, .rw, 0x0, .any, 0⟩]⟩,
  ⟨0x04C, 1, 4, [⟨31, 0, .rw, 0x0, .any, 0⟩]⟩,
  ⟨0x050, 1, 4, [⟨7, 0, .rw, 0x0, .any, 0⟩, ⟨15, 8, .rw, 0x0, .any, 0⟩]⟩,
  ⟨0x054, 1, 4, [⟨15, 0, .rw, 0x0, .any, 0⟩, ⟨16, 16, .rw, 0x0, .any, 0⟩]⟩,
  ⟨0x058, 1, 4, [⟨9, 0, .rw, 0x0, .any, 0⟩, ⟨15, 15, .rw, 0x0, .any, 0⟩]⟩,
  ⟨0x05C, 1, 4, [⟨13, 0, .rw, 0x3E8, (.within 100 10000), 0⟩]⟩,
  ⟨0x080, 1, 4, [⟨0, 0, .ro, 0x0, .any, 0⟩, ⟨1, 1, .ro, 0x0, .any, 0⟩, ⟨2, 2, .ro, 0x0, .any, 0⟩, ⟨3, 3, .ro, 0x0, .any, 0⟩, ⟨4, 4, .ro, 0x0, .any, 0⟩, ⟨5, 5, .ro, 0x0, .any, 0⟩, ⟨9, 8, .ro, 0x0, .any, 0⟩, ⟨11, 10, .ro, 0x0, .any, 0⟩, ⟨20, 16, .ro, 0x0, .any, 0⟩]⟩,
  ⟨0x084, 1, 4, [⟨15, 0, .ro, 0x0, .any, 0⟩, ⟨23, 16, .ro, 0x0, .any, 0⟩]⟩,
  ⟨0x088, 1, 4, [⟨31, 0, .ro, 0x0, .any, 0⟩]⟩,
  ⟨0x08C, 1, 4, [⟨31, 0, .ro, 0x0, .any, 0⟩]⟩,
  ⟨0x0A0, 1, 4, [⟨31, 0, (.ctr 0), 0x0, .any, 0⟩]⟩,
  ⟨0x0A4, 1, 4, [⟨31, 0, (.ctr 1), 0x0, .any, 0⟩]⟩,
  ⟨0x0A8, 1, 4, [⟨31, 0, (.ctr 2), 0x0, .any, 0⟩]⟩,
  ⟨0x0AC, 1, 4, [⟨31, 0, (.ctr 3), 0x0, .any, 0⟩]⟩,
  ⟨0x0B0, 1, 4, [⟨31, 0, (.ctr 4), 0x0, .any, 0⟩]⟩,
  ⟨0x0B4, 1, 4, [⟨31, 0, .ro, 0x0, .any, 0⟩]⟩]

def followMap : List RegD := [
  ⟨0x040, 1, 4, [⟨0, 0, .rw, 0x0, .any, 0⟩, ⟨1, 1, .rw, 0x0, .any, 0⟩, ⟨8, 8, .wo, 0x0, .any, 0⟩]⟩,
  ⟨0x080, 1, 4, [⟨2, 0, .ro, 0x0, .any, 0⟩, ⟨3, 3, .ro, 0x0, .any, 0⟩, ⟨11, 8, .ro, 0x0, .any, 0⟩, ⟨31, 16, .ro, 0x0, .any, 0⟩]⟩,
  ⟨0x084, 1, 4, [⟨31, 0, .ro, 0xFFFFFFFF, .any, 0⟩]⟩,
  ⟨0x088, 1, 4, [⟨31, 0, .ro, 0xFFFFFFFF, .any, 0⟩]⟩,
  ⟨0x08C, 1, 4, [⟨15, 0, .ro, 0x0, .any, 0⟩, ⟨31, 16, .ro, 0x0, .any, 0⟩]⟩,
  ⟨0x090, 1, 4, [⟨31, 0, .ro, 0x0, .any, 0⟩]⟩,
  ⟨0x094, 1, 4, [⟨7, 0, .ro, 0x0, .any, 0⟩, ⟨31, 16, .ro, 0x0, .any, 0⟩]⟩,
  ⟨0x098, 1, 4, [⟨15, 0, .ro, 0x0, .any, 0⟩, ⟨31, 16, .ro, 0x0, .any, 0⟩]⟩,
  ⟨0x09C, 1, 4, [⟨15, 0, .ro, 0x0, .any, 0⟩, ⟨31, 16, .ro, 0x0, .any, 0⟩]⟩,
  ⟨0x0A0, 1, 4, [⟨31, 0, (.ctr 0), 0x0, .any, 0⟩]⟩,
  ⟨0x0A4, 1, 4, [⟨31, 0, (.ctr 1), 0x0, .any, 0⟩]⟩,
  ⟨0x0A8, 1, 4, [⟨31, 0, (.ctr 2), 0x0, .any, 0⟩]⟩,
  ⟨0x0AC, 1, 4, [⟨31, 0, (.ctr 3), 0x0, .any, 0⟩]⟩,
  ⟨0x0B0, 1, 4, [⟨31, 0, (.ctr 4), 0x0, .any, 0⟩]⟩,
  ⟨0x0B4, 1, 4, [⟨31, 0, (.ctr 5), 0x0, .any, 0⟩]⟩,
  ⟨0x0B8, 1, 4, [⟨31, 0, (.ctr 6), 0x0, .any, 0⟩]⟩,
  ⟨0x100, 1, 4, [⟨4, 0, .rw, 0x1D, .bit1Reserved, 0⟩, ⟨8, 8, .rw, 0x0, .any, 0⟩, ⟨9, 9, .rw, 0x1, .any, 0⟩]⟩,
  ⟨0x104, 1, 4, [⟨31, 0, .rw, 0x30382880, .any, 0⟩]⟩,
  ⟨0x108, 1, 4, [⟨31, 0, .rw, 0x0, .any, 0⟩]⟩,
  ⟨0x10C, 1, 4, [⟨7, 0, .rw, 0x18, (.within 1 255), 0⟩, ⟨15, 8, .rw, 0x8, .any, 0⟩, ⟨23, 16, .rw, 0x10, .any, 0⟩]⟩,
  ⟨0x110, 1, 4, [⟨15, 0, .rw, 0x7D0, (.within 0 60000), 0⟩, ⟨31, 16, .rw, 0x1F4, (.within 50 10000), 0⟩]⟩,
  ⟨0x114, 1, 4, [⟨15, 0, .rw, 0x1E, (.within 0 3600), 0⟩, ⟨31, 16, .rw, 0x3C, (.within 1 3600), 0⟩]⟩,
  ⟨0x118, 1, 4, [⟨15, 0, .rw, 0x78, (.zeroOr 10 3600), 0⟩]⟩,
  ⟨0x11C, 1, 4, [⟨15, 0, .rw, 0x7D0, (.within 500 3000), 0⟩, ⟨23, 16, .rw, 0xB3, (.within 128 255), 0⟩]⟩,
  ⟨0x120, 1, 4, [⟨9, 0, .rw, 0x28, (.within 5 500), 0⟩, ⟨25, 16, .rw, 0xA, (.within 1 500), 0⟩]⟩,
  ⟨0x124, 1, 4, [⟨11, 0, .rw, 0x0, (.within 0 3000), 19⟩]⟩,
  ⟨0x128, 1, 4, [⟨15, 0, .rw, 0x3, .any, 0⟩, ⟨16, 16, .rw, 0x0, .any, 0⟩]⟩,
  ⟨0x180, 32, 4, [⟨31, 0, .rw, 0xFFFFFFFF, .any, 0⟩]⟩]

def decMap : List RegD := [
  ⟨0x040, 1, 4, [⟨1, 0, .rw, 0x0, .any, 19⟩, ⟨4, 4, .rw, 0x0, .any, 0⟩, ⟨6, 5, .rw, 0x0, (.upTo 2), 0⟩, ⟨15, 8, .rw, 0x3C, (.within 20 250), 0⟩]⟩,
  ⟨0x080, 1, 4, [⟨1, 0, .ro, 0x0, .any, 0⟩, ⟨2, 2, .ro, 0x0, .any, 0⟩, ⟨3, 3, .ro, 0x0, .any, 0⟩, ⟨5, 4, .ro, 0x0, .any, 0⟩, ⟨6, 6, .ro, 0x0, .any, 0⟩, ⟨7, 7, .ro, 0x0, .any, 0⟩, ⟨31, 16, .ro, 0x0, .any, 0⟩]⟩,
  ⟨0x084, 1, 4, [⟨16, 0, .ro, 0x0, .any, 0⟩]⟩,
  ⟨0x088, 1, 4, [⟨8, 0, .ro, 0x0, .any, 0⟩]⟩,
  ⟨0x0A0, 1, 4, [⟨31, 0, (.ctr 0), 0x0, .any, 0⟩]⟩,
  ⟨0x0A4, 1, 4, [⟨31, 0, (.ctr 1), 0x0, .any, 0⟩]⟩,
  ⟨0x0A8, 1, 4, [⟨31, 0, (.ctr 2), 0x0, .any, 0⟩]⟩,
  ⟨0x0AC, 1, 4, [⟨31, 0, .ro, 0x0, .any, 0⟩]⟩]

def laneMap : List RegD := [
  ⟨0x040, 1, 4, [⟨0, 0, .rw, 0x0, .any, 19⟩, ⟨1, 1, .rw, 0x0, .any, 0⟩]⟩,
  ⟨0x044, 1, 4, [⟨11, 0, .rw, 0x0, (.within 0 3000), 0⟩, ⟨27, 16, .rw, 0x0, (.within 0 3000), 0⟩]⟩,
  ⟨0x048, 1, 4, [⟨15, 0, .rw, 0x0, (.signedIn (-9600) 2400), 0⟩]⟩,
  ⟨0x04C, 1, 4, [⟨9, 0, .rw, 0xA, (.within 1 1000), 0⟩, ⟨25, 16, .rw, 0x28, (.within 5 500), 0⟩]⟩,
  ⟨0x050, 1, 4, [⟨0, 0, .rw, 0x0, .any, 0⟩]⟩,
  ⟨0x080, 1, 4, [⟨0, 0, .ro, 0x0, .any, 0⟩, ⟨1, 1, .ro, 0x0, .any, 0⟩, ⟨2, 2, .ro, 0x0, .any, 0⟩, ⟨4, 3, .ro, 0x0, .any, 0⟩, ⟨5, 5, .ro, 0x0, .any, 0⟩, ⟨6, 6, .ro, 0x0, .any, 0⟩]⟩,
  ⟨0x084, 1, 4, [⟨13, 0, .ro, 0x0, .any, 0⟩, ⟨27, 16, .ro, 0x0, .any, 0⟩]⟩,
  ⟨0x088, 1, 4, [⟨19, 0, .ro, 0x0, .any, 0⟩]⟩,
  ⟨0x08C, 1, 4, [⟨15, 0, .ro, 0x8000, .any, 0⟩]⟩,
  ⟨0x0A0, 1, 4, [⟨31, 0, (.ctr 0), 0x0, .any, 0⟩]⟩,
  ⟨0x0A4, 1, 4, [⟨31, 0, (.ctr 1), 0x0, .any, 0⟩]⟩,
  ⟨0x0A8, 1, 4, [⟨31, 0, (.ctr 2), 0x0, .any, 0⟩]⟩,
  ⟨0x0AC, 1, 4, [⟨31, 0, (.ctr 3), 0x0, .any, 0⟩]⟩]

def asrcMap : List RegD := [
  ⟨0x040, 1, 4, [⟨1, 0, .rw, 0x1, (.upTo 2), 0⟩]⟩,
  ⟨0x080, 1, 4, [⟨2, 0, .ro, 0x0, .any, 0⟩, ⟨14, 8, .ro, 0x0, .any, 0⟩]⟩,
  ⟨0x084, 1, 4, [⟨31, 0, .ro, 0x0, .any, 0⟩]⟩,
  ⟨0x088, 1, 4, [⟨31, 0, .ro, 0x0, .any, 0⟩]⟩,
  ⟨0x08C, 1, 4, [⟨17, 0, .ro, 0x0, .any, 0⟩]⟩,
  ⟨0x090, 1, 4, [⟨31, 0, .ro, 0x0, .any, 0⟩]⟩,
  ⟨0x094, 1, 4, [⟨31, 0, .ro, 0x0, .any, 0⟩]⟩,
  ⟨0x098, 1, 4, [⟨31, 0, .ro, 0x0, .any, 0⟩]⟩,
  ⟨0x0A0, 1, 4, [⟨31, 0, (.ctr 0), 0x0, .any, 0⟩]⟩,
  ⟨0x0A4, 1, 4, [⟨31, 0, (.ctr 1), 0x0, .any, 0⟩]⟩]

def portMap : List RegD := [
  ⟨0x040, 1, 4, [⟨0, 0, .rw, 0x0, .any, 3⟩, ⟨2, 1, .rw, 0x0, (.upTo 2), 3⟩, ⟨4, 3, .rw, 0x0, (.upTo 2), 3⟩, ⟨11, 8, .rw, 0x1, .any, 3⟩, ⟨13, 12, .rw, 0x2, (.upTo 2), 3⟩, ⟨15, 14, .rw, 0x2, .any, 3⟩, ⟨19, 16, .rw, 0x9, (.within 0 14), 3⟩, ⟨20, 20, .rw, 0x0, .any, 3⟩, ⟨21, 21, .rw, 0x1, .any, 3⟩, ⟨22, 22, .rw, 0x0, .any, 3⟩, ⟨23, 23, .rw, 0x0, .any, 3⟩]⟩,
  ⟨0x044, 1, 4, [⟨4, 0, .rw, 0x0, .any, 3⟩, ⟨8, 8, .rw, 0x0, .any, 3⟩, ⟨14, 12, .rw, 0x0, .any, 3⟩]⟩,
  ⟨0x048, 1, 4, [⟨0, 0, .rw, 0x1, .any, 0⟩, ⟨1, 1, .rw, 0x1, .any, 0⟩, ⟨2, 2, .rw, 0x1, .any, 0⟩, ⟨3, 3, .rw, 0x1, .any, 0⟩, ⟨4, 4, .rw, 0x0, .any, 0⟩, ⟨8, 8, .wo, 0x0, .any, 0⟩, ⟨23, 16, .rw, 0xA, (.within 1 100), 0⟩]⟩,
  ⟨0x04C, 1, 4, [⟨9, 0, .rw, 0x3FF, .any, 0⟩, ⟨13, 12, .rw, 0x0, (.within 0 2), 0⟩, ⟨31, 16, .rw, 0x0, .any, 0⟩]⟩,
  ⟨0x050, 1, 4, [⟨11, 0, .rw, 0x30, (.within 1 4095), 0⟩]⟩,
  ⟨0x080, 1, 4, [⟨0, 0, .ro, 0x0, .any, 0⟩, ⟨1, 1, .ro, 0x0, .any, 0⟩, ⟨2, 2, .ro, 0x0, .any, 0⟩, ⟨3, 3, .ro, 0x0, .any, 0⟩, ⟨4, 4, .ro, 0x0, .any, 0⟩, ⟨11, 8, .ro, 0x0, .any, 0⟩]⟩,
  ⟨0x084, 1, 4, [⟨31, 0, .ro, 0x0, .any, 0⟩]⟩,
  ⟨0x088, 1, 4, [⟨31, 0, .ro, 0x0, .any, 0⟩]⟩,
  ⟨0x08C, 1, 4, [⟨31, 0, .ro, 0x0, .any, 0⟩]⟩,
  ⟨0x090, 1, 4, [⟨31, 0, .ro, 0x0, .any, 0⟩]⟩,
  ⟨0x094, 1, 4, [⟨31, 0, .ro, 0x0, .any, 0⟩]⟩,
  ⟨0x098, 1, 4, [⟨31, 0, .ro, 0x0, .any, 0⟩]⟩,
  ⟨0x09C, 1, 4, [⟨15, 0, .ro, 0x0, .any, 0⟩]⟩,
  ⟨0x0A0, 1, 4, [⟨31, 0, (.ctr 0), 0x0, .any, 0⟩]⟩,
  ⟨0x0A4, 1, 4, [⟨31, 0, (.ctr 1), 0x0, .any, 0⟩]⟩,
  ⟨0x0A8, 1, 4, [⟨31, 0, (.ctr 2), 0x0, .any, 0⟩]⟩,
  ⟨0x0AC, 1, 4, [⟨31, 0, (.ctr 3), 0x0, .any, 0⟩]⟩,
  ⟨0x0B0, 1, 4, [⟨31, 0, (.ctr 4), 0x0, .any, 0⟩]⟩,
  ⟨0x0B4, 1, 4, [⟨31, 0, (.ctr 5), 0x0, .any, 0⟩]⟩]

def portGlobalMap : List RegD := [
  ⟨0x210, 7, 16, [⟨1, 0, .rw, 0x0, (.upTo 2), 0⟩, ⟨4, 4, .rw, 0x0, .any, 0⟩, ⟨5, 5, .wo, 0x0, .any, 0⟩, ⟨8, 8, .ro, 0x0, .any, 0⟩]⟩,
  ⟨0x218, 7, 16, [⟨31, 0, .rw, 0x0, .any, 0⟩]⟩,
  ⟨0x21C, 7, 16, [⟨31, 0, .rw, 0x0, .any, 0⟩]⟩,
  ⟨0x214, 7, 16, [⟨31, 0, .ro, 0x0, .any, 0⟩]⟩,
  ⟨0x2A4, 7, 4, [⟨31, 0, .ro, 0x0, .any, 0⟩]⟩,
  ⟨0x280, 1, 4, [⟨31, 0, .ro, 0x0, .any, 0⟩]⟩,
  ⟨0x284, 1, 4, [⟨31, 0, .ro, 0x0, .any, 0⟩]⟩,
  ⟨0x288, 1, 4, [⟨0, 0, .rw, 0x0, .any, 0⟩, ⟨1, 1, .rw, 0x0, .any, 0⟩]⟩,
  ⟨0x290, 1, 4, [⟨1, 0, .rw, 0x0, (.upTo 2), 0⟩, ⟨6, 4, .rw, 0x1, (.within 1 7), 0⟩, ⟨15, 8, .rw, 0x18, (.within 1 255), 0⟩]⟩,
  ⟨0x294, 1, 4, [⟨31, 0, .rw, 0x1770000, (.within 512 4294967295), 0⟩]⟩]

def queueMap : List RegD := [
  ⟨0x040, 1, 4, [⟨0, 0, .rw, 0x0, .any, 19⟩, ⟨2, 1, .rw, 0x0, (.upTo 1), 0⟩, ⟨25, 16, .rw, 0x3FF, .decoder, 0⟩]⟩,
  ⟨0x044, 1, 4, [⟨11, 0, .rw, 0x400, (.within 16 4095), 0⟩]⟩,
  ⟨0x048, 1, 4, [⟨12, 0, .ro, 0x0, .any, 0⟩]⟩,
  ⟨0x04C, 1, 4, [⟨31, 0, .ro, 0x0, .any, 0⟩]⟩,
  ⟨0x050, 1, 4, [⟨31, 0, .ro, 0x0, .any, 0⟩]⟩,
  ⟨0x054, 1, 4, [⟨20, 0, .ro, 0x0, .any, 0⟩]⟩,
  ⟨0x058, 1, 4, [⟨31, 0, .rw, 0x0, .any, 0⟩]⟩,
  ⟨0x05C, 1, 4, [⟨31, 0, .rw, 0x0, .any, 0⟩]⟩,
  ⟨0x060, 1, 4, [⟨12, 0, .ro, 0x0, .any, 0⟩, ⟨28, 16, .ro, 0x0, .any, 0⟩]⟩,
  ⟨0x064, 1, 4, [⟨12, 0, .rw, 0x1, (.within 1 4096), 0⟩]⟩,
  ⟨0x068, 1, 4, [⟨0, 0, .ro, 0x1, .any, 0⟩, ⟨1, 1, .ro, 0x0, .any, 0⟩, ⟨2, 2, .ro, 0x0, .any, 0⟩]⟩,
  ⟨0x06C, 1, 4, [⟨20, 0, .ro, 0x0, .any, 0⟩]⟩,
  ⟨0x0A0, 1, 4, [⟨31, 0, (.ctr 0), 0x0, .any, 0⟩]⟩,
  ⟨0x0A4, 1, 4, [⟨31, 0, (.ctr 1), 0x0, .any, 0⟩]⟩]

def twcMap : List RegD := [
  ⟨0x040, 1, 4, [⟨1, 0, .rw, 0x0, (.upTo 2), 3⟩, ⟨7, 4, .rw, 0x3, .any, 3⟩, ⟨8, 8, .rw, 0x0, .any, 3⟩, ⟨9, 9, .rw, 0x0, .any, 3⟩]⟩,
  ⟨0x044, 1, 4, [⟨7, 0, .rw, 0x19, (.within 1 255), 3⟩, ⟨15, 8, .rw, 0x19, (.within 2 255), 3⟩]⟩,
  ⟨0x048, 1, 4, [⟨6, 0, .rw, 0x0, .any, 0⟩, ⟨7, 7, .rw, 0x0, .any, 0⟩, ⟨13, 8, .rw, 0x0, (.within 0 32), 0⟩, ⟨16, 16, .rw, 0x0, .any, 0⟩, ⟨31, 31, .wo, 0x0, .any, 0⟩]⟩,
  ⟨0x04C, 1, 4, [⟨7, 0, .wo, 0x0, .any, 0⟩]⟩,
  ⟨0x050, 1, 4, [⟨7, 0, .rc, 0x0, .any, 0⟩]⟩,
  ⟨0x054, 1, 4, [⟨0, 0, .ro, 0x0, .any, 0⟩, ⟨1, 1, .ro, 0x0, .any, 0⟩, ⟨2, 2, .ro, 0x0, .any, 0⟩, ⟨3, 3, .ro, 0x0, .any, 0⟩, ⟨4, 4, .ro, 0x0, .any, 0⟩, ⟨5, 5, .ro, 0x0, .any, 0⟩, ⟨6, 6, .ro, 0x0, .any, 0⟩, ⟨7, 7, .ro, 0x0, .any, 0⟩, ⟨13, 8, .ro, 0x0, .any, 0⟩, ⟨21, 16, .ro, 0x0, .any, 0⟩, ⟨29, 24, .ro, 0x0, .any, 0⟩]⟩,
  ⟨0x058, 1, 4, [⟨7, 0, .rc, 0x0, .any, 0⟩, ⟨14, 8, .rc, 0x0, .any, 0⟩, ⟨31, 31, .rc, 0x0, .any, 0⟩]⟩,
  ⟨0x060, 1, 4, [⟨31, 0, .rw, 0x0, .any, 0⟩]⟩,
  ⟨0x080, 1, 4, [⟨31, 0, (.ctr 0), 0x0, .any, 0⟩]⟩,
  ⟨0x084, 1, 4, [⟨31, 0, (.ctr 1), 0x0, .any, 0⟩]⟩,
  ⟨0x088, 1, 4, [⟨31, 0, (.ctr 2), 0x0, .any, 0⟩]⟩,
  ⟨0x08C, 1, 4, [⟨31, 0, (.ctr 3), 0x0, .any, 0⟩]⟩,
  ⟨0x090, 1, 4, [⟨31, 0, (.ctr 4), 0x0, .any, 0⟩]⟩,
  ⟨0x094, 1, 4, [⟨31, 0, (.ctr 5), 0x0, .any, 0⟩]⟩]

def feedMap : List RegD := [
  ⟨0x040, 1, 4, [⟨0, 0, .rw, 0x0, .any, 0⟩, ⟨1, 1, .rw, 0x1, .any, 0⟩, ⟨15, 8, .rw, 0x5, (.within 1 50), 0⟩, ⟨21, 16, .rw, 0x1, (.within 1 60), 0⟩]⟩,
  ⟨0x044, 1, 4, [⟨3, 0, .rw, 0x0, .any, 0⟩]⟩,
  ⟨0x048, 1, 4, [⟨2, 0, .ro, 0x0, .any, 0⟩, ⟨3, 3, .ro, 0x0, .any, 0⟩, ⟨4, 4, .ro, 0x0, .any, 0⟩, ⟨15, 8, .ro, 0x0, .any, 0⟩, ⟨31, 16, .ro, 0x0, .any, 0⟩]⟩,
  ⟨0x04C, 1, 4, [⟨15, 0, .ro, 0x0, .any, 0⟩, ⟨31, 16, .ro, 0x0, .any, 0⟩]⟩,
  ⟨0x060, 1, 4, [⟨31, 0, (.ctr 0), 0x0, .any, 0⟩]⟩,
  ⟨0x064, 1, 4, [⟨31, 0, (.ctr 1), 0x0, .any, 0⟩]⟩,
  ⟨0x068, 1, 4, [⟨31, 0, (.ctr 2), 0x0, .any, 0⟩]⟩,
  ⟨0x100, 16, 4, [⟨10, 0, .rw, 0x0, (.within 500 1250), 0⟩]⟩,
  ⟨0x140, 1, 4, [⟨3, 0, .rw, 0x0, (.within 0 8), 0⟩]⟩]

def eventsMap : List RegD := [
  ⟨0x000, 4, 4, [⟨31, 0, .w1c, 0x0, .any, 0⟩]⟩,
  ⟨0x010, 4, 4, [⟨31, 0, .rw, 0x0, .any, 0⟩]⟩,
  ⟨0x020, 4, 4, [⟨31, 0, .ro, 0x0, .any, 0⟩]⟩,
  ⟨0x040, 1, 4, [⟨3, 0, .rw, 0x0, .any, 0⟩]⟩,
  ⟨0x044, 1, 4, [⟨3, 0, .ro, 0x0, .any, 0⟩]⟩,
  ⟨0x050, 4, 4, [⟨6, 0, .ro, 0x0, .any, 0⟩, ⟨7, 7, .ro, 0x1, .any, 0⟩]⟩,
  ⟨0x200, 128, 4, [⟨3, 0, .rw, 0x0, .any, 0⟩, ⟨12, 8, .rw, 0x0, .any, 0⟩, ⟨15, 15, .rw, 0x0, .any, 0⟩, ⟨16, 16, .rw, 0x0, .any, 0⟩]⟩]

def hostMap : List RegD := [
  ⟨0x000, 1, 4, [⟨2, 0, .rw, 0x0, (.upTo 4), 0⟩, ⟨12, 8, .rw, 0x10, .any, 0⟩]⟩,
  ⟨0x004, 1, 4, [⟨2, 0, .ro, 0x0, .any, 0⟩, ⟨31, 16, .ro, 0x0, .any, 0⟩]⟩,
  ⟨0x008, 1, 4, [⟨31, 0, (.ctr 0), 0x0, .any, 0⟩]⟩,
  ⟨0x00C, 1, 4, [⟨31, 0, (.ctr 1), 0x0, .any, 0⟩]⟩,
  ⟨0x040, 1, 4, [⟨7, 0, .rw, 0x19, .any, 0⟩, ⟨8, 8, .rw, 0x0, .any, 0⟩, ⟨15, 12, .rw, 0x0, .any, 0⟩, ⟨23, 16, .rw, 0xA, (.within 1 255), 0⟩]⟩,
  ⟨0x044, 1, 4, [⟨6, 0, .ro, 0x0, .any, 0⟩, ⟨8, 8, .ro, 0x0, .any, 0⟩, ⟨9, 9, .ro, 0x0, .any, 0⟩, ⟨31, 16, .ro, 0x0, .any, 0⟩]⟩,
  ⟨0x048, 1, 4, [⟨31, 0, (.ctr 2), 0x0, .any, 0⟩]⟩,
  ⟨0x04C, 1, 4, [⟨31, 0, (.ctr 3), 0x0, .any, 0⟩]⟩,
  ⟨0x050, 1, 4, [⟨31, 0, (.ctr 4), 0x0, .any, 0⟩]⟩,
  ⟨0x07C, 1, 4, [⟨4, 0, .ro, 0x0, .any, 0⟩]⟩]

def clockMap : List RegD := [
  ⟨0x000, 1, 4, [⟨15, 0, .rw, 0x9600, .any, 0⟩, ⟨16, 16, .rw, 0x0, .any, 0⟩, ⟨18, 17, .rw, 0x3, .any, 0⟩, ⟨21, 20, .rw, 0x1, (.upTo 2), 0⟩]⟩,
  ⟨0x004, 1, 4, [⟨6, 0, .rw, 0x64, (.within 1 100), 0⟩, ⟨12, 8, .rw, 0xA, (.within 1 20), 0⟩]⟩,
  ⟨0x008, 1, 4, [⟨2, 0, .ro, 0x0, .any, 0⟩, ⟨4, 4, .ro, 0x0, .any, 0⟩, ⟨6, 5, .ro, 0x1, .any, 0⟩, ⟨8, 8, .ro, 0x0, .any, 0⟩, ⟨9, 9, .ro, 0x0, .any, 0⟩, ⟨10, 10, .ro, 0x0, .any, 0⟩, ⟨11, 11, .ro, 0x0, .any, 0⟩]⟩,
  ⟨0x00C, 1, 4, [⟨31, 0, .ro, 0x0, .any, 0⟩]⟩,
  ⟨0x010, 1, 4, [⟨31, 0, .ro, 0x0, .any, 0⟩]⟩,
  ⟨0x014, 1, 4, [⟨22, 0, .ro, 0x0, .any, 0⟩]⟩,
  ⟨0x018, 1, 4, [⟨23, 0, .rw, 0x0, .any, 0⟩]⟩,
  ⟨0x01C, 1, 4, [⟨23, 0, .ro, 0x0, .any, 0⟩]⟩,
  ⟨0x020, 1, 4, [⟨31, 0, .rw, 0x0, .any, 0⟩]⟩,
  ⟨0x024, 1, 4, [⟨31, 0, .rw, 0x0, .any, 0⟩]⟩,
  ⟨0x028, 1, 4, [⟨0, 0, .wo, 0x0, .any, 0⟩]⟩,
  ⟨0x040, 1, 4, [⟨31, 0, (.ctr 0), 0x0, .any, 0⟩]⟩,
  ⟨0x044, 1, 4, [⟨31, 0, (.ctr 1), 0x0, .any, 0⟩]⟩,
  ⟨0x048, 1, 4, [⟨31, 0, (.ctr 2), 0x0, .any, 0⟩]⟩,
  ⟨0x07C, 1, 4, [⟨2, 0, .ro, 0x0, .any, 0⟩]⟩,
  ⟨0x100, 4, 16, [⟨0, 0, .rw, 0x0, .any, 0⟩, ⟨1, 1, .rw, 0x0, .any, 0⟩, ⟨5, 4, .rw, 0x0, (.upTo 2), 0⟩, ⟨9, 8, .rw, 0x1, .any, 0⟩, ⟨12, 12, .rw, 0x1, .any, 0⟩]⟩,
  ⟨0x104, 4, 16, [⟨15, 0, .rw, 0x3C, (.within 2 65535), 0⟩, ⟨31, 16, .rw, 0x1, .any, 0⟩]⟩,
  ⟨0x108, 4, 16, [⟨0, 0, .ro, 0x0, .any, 0⟩, ⟨1, 1, .ro, 0x0, .any, 0⟩]⟩,
  ⟨0x10C, 4, 16, [⟨31, 0, .ro, 0x1770000, .any, 0⟩]⟩]

def keeperMap : List RegD := [
  ⟨0x000, 1, 4, [⟨7, 0, .ro, 0xB1, .any, 0⟩]⟩,
  ⟨0x004, 1, 4, [⟨0, 0, .ro, 0x0, .any, 0⟩, ⟨1, 1, .ro, 0x0, .any, 0⟩, ⟨2, 2, .ro, 0x0, .any, 0⟩, ⟨6, 4, .ro, 0x0, .any, 0⟩, ⟨8, 8, .ro, 0x0, .any, 0⟩, ⟨9, 9, .ro, 0x0, .any, 0⟩, ⟨10, 10, .ro, 0x0, .any, 0⟩]⟩,
  ⟨0x008, 1, 4, [⟨15, 0, .ro, 0x0, .any, 0⟩]⟩,
  ⟨0x00C, 1, 4, [⟨3, 0, .rw, 0x3, (.upTo 10), 0⟩]⟩,
  ⟨0x020, 1, 4, [⟨31, 0, .ro, 0x0, .any, 0⟩]⟩,
  ⟨0x024, 1, 4, [⟨15, 0, .ro, 0x0, .any, 0⟩]⟩,
  ⟨0x028, 1, 4, [⟨31, 0, .rw, 0x0, .any, 0⟩]⟩,
  ⟨0x02C, 1, 4, [⟨15, 0, .rw, 0x0, .any, 0⟩]⟩,
  ⟨0x030, 1, 4, [⟨0, 0, .wo, 0x0, .any, 0⟩, ⟨4, 4, .rw, 0x0, .any, 0⟩]⟩,
  ⟨0x034, 1, 4, [⟨31, 0, .rw, 0x0, .any, 0⟩]⟩,
  ⟨0x038, 1, 4, [⟨15, 0, .rw, 0x0, .any, 0⟩]⟩,
  ⟨0x040, 1, 4, [⟨2, 0, .ro, 0x0, .any, 0⟩]⟩,
  ⟨0x044, 1, 4, [⟨0, 0, .w1c, 0x0, .any, 0⟩, ⟨1, 1, .w1c, 0x0, .any, 0⟩, ⟨2, 2, .w1c, 0x0, .any, 0⟩, ⟨3, 3, .w1c, 0x0, .any, 0⟩]⟩,
  ⟨0x050, 1, 4, [⟨0, 0, .ro, 0x0, .any, 0⟩, ⟨1, 1, .ro, 0x0, .any, 0⟩, ⟨31, 16, .ro, 0x0, .any, 0⟩]⟩,
  ⟨0x060, 1, 4, [⟨31, 0, (.ctr 0), 0x0, .any, 0⟩]⟩,
  ⟨0x064, 1, 4, [⟨31, 0, (.ctr 1), 0x0, .any, 0⟩]⟩,
  ⟨0x068, 1, 4, [⟨31, 0, (.ctr 2), 0x0, .any, 0⟩]⟩,
  ⟨0x06C, 1, 4, [⟨31, 0, (.ctr 3), 0x0, .any, 0⟩]⟩,
  ⟨0x07C, 1, 4, [⟨3, 0, .ro, 0x0, .any, 0⟩]⟩]

def coreMap : List RegD := [
  ⟨0x000, 4, 4, [⟨2, 0, .ro, 0x0, .any, 0⟩, ⟨4, 4, .ro, 0x0, .any, 0⟩]⟩,
  ⟨0x040, 5, 4, [⟨2, 0, .ro, 0x2, .any, 0⟩, ⟨7, 4, .ro, 0x0, .any, 0⟩, ⟨8, 8, .ro, 0x0, .any, 0⟩]⟩,
  ⟨0x060, 1, 4, [⟨6, 0, .rw, 0xA, (.within 2 100), 0⟩]⟩,
  ⟨0x070, 1, 4, [⟨31, 0, (.ctr 0), 0x0, .any, 0⟩]⟩,
  ⟨0x074, 1, 4, [⟨31, 0, (.ctr 1), 0x0, .any, 0⟩]⟩,
  ⟨0x07C, 1, 4, [⟨1, 0, .ro, 0x0, .any, 0⟩]⟩,
  ⟨0x080, 1, 4, [⟨31, 0, .ro, 0x3020100, .any, 0⟩]⟩,
  ⟨0x100, 16, 4, [⟨31, 0, .ro, 0x0, .any, 0⟩]⟩,
  ⟨0x140, 8, 4, [⟨31, 0, .ro, 0x0, .any, 0⟩]⟩]

def nvMap : List RegD := [
  ⟨0x000, 1, 4, [⟨31, 0, .rw, 0x4000000, .nvDst, 0⟩]⟩,
  ⟨0x004, 1, 4, [⟨11, 0, .rw, 0x100, (.step256 256 2048), 0⟩]⟩,
  ⟨0x008, 1, 4, [⟨0, 0, .wo, 0x0, .any, 0⟩, ⟨1, 1, .wo, 0x0, .any, 0⟩]⟩,
  ⟨0x00C, 1, 4, [⟨0, 0, .ro, 0x0, .any, 0⟩, ⟨1, 1, .ro, 0x0, .any, 0⟩, ⟨2, 2, .ro, 0x0, .any, 0⟩, ⟨31, 16, .ro, 0x0, .any, 0⟩]⟩,
  ⟨0x010, 1, 4, [⟨0, 0, .ro, 0x0, .any, 0⟩, ⟨1, 1, .ro, 0x0, .any, 0⟩, ⟨2, 2, .ro, 0x0, .any, 0⟩]⟩,
  ⟨0x020, 1, 4, [⟨31, 0, (.ctr 0), 0x0, .any, 0⟩]⟩,
  ⟨0x024, 1, 4, [⟨31, 0, (.ctr 1), 0x0, .any, 0⟩]⟩,
  ⟨0x07C, 1, 4, [⟨1, 0, .ro, 0x0, .any, 0⟩]⟩,
  ⟨0x800, 512, 4, [⟨31, 0, .rw, 0x0, .any, 0⟩]⟩]

def ferryMap : List RegD := [
  ⟨0x000, 1, 4, [⟨0, 0, .rw, 0x0, .any, 0⟩, ⟨15, 8, .rw, 0x8, (.within 1 255), 0⟩]⟩,
  ⟨0x004, 1, 4, [⟨4, 0, .rw, 0x0, .any, 0⟩]⟩,
  ⟨0x008, 1, 4, [⟨1, 0, .ro, 0x0, .any, 0⟩, ⟨2, 2, .ro, 0x0, .any, 0⟩, ⟨3, 3, .ro, 0x0, .any, 0⟩, ⟨4, 4, .ro, 0x0, .any, 0⟩, ⟨5, 5, .ro, 0x0, .any, 0⟩, ⟨6, 6, .ro, 0x0, .any, 0⟩, ⟨7, 7, .ro, 0x0, .any, 0⟩, ⟨9, 8, .ro, 0x0, .any, 0⟩, ⟨10, 10, .ro, 0x0, .any, 0⟩, ⟨23, 16, .ro, 0xFF, .any, 0⟩, ⟨31, 24, .ro, 0x0, .any, 0⟩]⟩,
  ⟨0x00C, 1, 4, [⟨31, 0, .ro, 0x0, .any, 0⟩]⟩,
  ⟨0x010, 1, 4, [⟨15, 0, .ro, 0x0, .any, 0⟩]⟩,
  ⟨0x014, 1, 4, [⟨31, 0, .ro, 0x0, .any, 0⟩]⟩,
  ⟨0x018, 1, 4, [⟨31, 0, .ro, 0x0, .any, 0⟩]⟩,
  ⟨0x01C, 1, 4, [⟨31, 0, .ro, 0x0, .any, 0⟩]⟩,
  ⟨0x020, 1, 4, [⟨31, 0, .rw, 0x0, .any, 0⟩]⟩,
  ⟨0x024, 1, 4, [⟨31, 0, .ro, 0x0, .any, 0⟩]⟩,
  ⟨0x028, 1, 4, [⟨31, 0, .ro, 0x0, .any, 0⟩]⟩,
  ⟨0x02C, 1, 4, [⟨31, 0, .ro, 0x0, .any, 0⟩]⟩,
  ⟨0x030, 1, 4, [⟨6, 0, .ro, 0x0, .any, 0⟩]⟩,
  ⟨0x040, 1, 4, [⟨31, 0, (.ctr 0), 0x0, .any, 0⟩]⟩,
  ⟨0x044, 1, 4, [⟨31, 0, (.ctr 1), 0x0, .any, 0⟩]⟩,
  ⟨0x048, 1, 4, [⟨31, 0, (.ctr 2), 0x0, .any, 0⟩]⟩,
  ⟨0x04C, 1, 4, [⟨31, 0, (.ctr 3), 0x0, .any, 0⟩]⟩,
  ⟨0x050, 1, 4, [⟨31, 0, (.ctr 4), 0x0, .any, 0⟩]⟩,
  ⟨0x07C, 1, 4, [⟨4, 0, .ro, 0x0, .any, 0⟩]⟩]

def thermMap : List RegD := [
  ⟨0x000, 1, 4, [⟨15, 0, .ro, 0x8000, .any, 0⟩]⟩,
  ⟨0x004, 1, 4, [⟨15, 0, .peak, 0x8000, .any, 0⟩]⟩,
  ⟨0x008, 1, 4, [⟨7, 0, .rw, 0x6E, (.within 60 119), 0⟩, ⟨11, 8, .rw, 0x5, (.within 1 15), 0⟩]⟩,
  ⟨0x00C, 1, 4, [⟨0, 0, .ro, 0x0, .any, 0⟩, ⟨1, 1, .ro, 0x0, .any, 0⟩, ⟨2, 2, .ro, 0x0, .any, 0⟩]⟩,
  ⟨0x040, 1, 4, [⟨31, 0, (.ctr 0), 0x0, .any, 0⟩]⟩,
  ⟨0x07C, 1, 4, [⟨0, 0, .ro, 0x0, .any, 0⟩]⟩,
  ⟨0x100, 16, 4, [⟨0, 0, .rw, 0x0, .any, 0⟩, ⟨1, 1, .rw, 0x0, .any, 0⟩, ⟨3, 2, .rw, 0x0, (.upTo 2), 0⟩, ⟨5, 4, .rw, 0x0, (.upTo 2), 0⟩, ⟨7, 6, .rw, 0x1, .any, 0⟩, ⟨8, 8, .ro, 0x0, .any, 0⟩]⟩,
  ⟨0x180, 1, 4, [⟨15, 0, .ro, 0x0, .any, 0⟩]⟩]

def phMap : List RegD := [
  ⟨0x000, 1, 4, [⟨31, 0, .wo, 0x0, .any, 0⟩]⟩,
  ⟨0x004, 1, 4, [⟨31, 0, .rc, 0x0, .any, 0⟩]⟩,
  ⟨0x008, 1, 4, [⟨31, 0, .wo, 0x0, .any, 0⟩]⟩,
  ⟨0x00C, 1, 4, [⟨31, 0, .rc, 0x0, .any, 0⟩]⟩,
  ⟨0x010, 1, 4, [⟨3, 0, .ro, 0x0, .any, 0⟩, ⟨4, 4, .w1c, 0x0, .any, 0⟩, ⟨5, 5, .w1s, 0x0, .any, 0⟩, ⟨6, 6, .w1c, 0x0, .any, 0⟩, ⟨19, 16, .ro, 0x0, .any, 0⟩, ⟨20, 20, .w1c, 0x0, .any, 0⟩, ⟨21, 21, .w1s, 0x0, .any, 0⟩, ⟨22, 22, .w1c, 0x0, .any, 0⟩, ⟨31, 31, .ro, 0x0, .any, 0⟩]⟩]

def bellMap : List RegD := [
  ⟨0x100, 1, 4, [⟨31, 0, .w1s, 0x0, .any, 0⟩]⟩,
  ⟨0x104, 1, 4, [⟨31, 0, .w1c, 0x0, .any, 0⟩]⟩,
  ⟨0x108, 1, 4, [⟨31, 0, .rw, 0xFF, .any, 0⟩]⟩,
  ⟨0x110, 1, 4, [⟨31, 0, .w1s, 0x0, .any, 0⟩]⟩,
  ⟨0x114, 1, 4, [⟨31, 0, .w1c, 0x0, .any, 0⟩]⟩,
  ⟨0x118, 1, 4, [⟨31, 0, .rw, 0x0, .any, 0⟩]⟩]

/-! ## Kinds, windows and blocks -/

/-- The kinds of register space: the unit kinds of R54 and the register blocks of R24. -/
inductive Kind where
  | none | root | composite | frontEnd | lowband | loSynth | aerialFeed | antMatrix
  | ddc | chanFilter | fmDemod | amDemod | ofdm | sideData
  | audioDec | audioLane | audioFilter | detector | asrc | audioPort
  | queue | twc | follow
  | sys | events | pigeon | hostPorts | nv | core | ferry | clocks | keeper | thermal
  deriving DecidableEq, Repr

/-- Block numbers beside the 1,024 unit windows: the register blocks of R24 take 0x400 on. -/
def blkSys : Nat := 0x400
def blkEvents : Nat := 0x401
def blkPigeon : Nat := 0x402
def blkHost : Nat := 0x403
def blkNv : Nat := 0x404
def blkCore : Nat := 0x405
def blkFerry : Nat := 0x406
def blkClk : Nat := 0x407
def blkKpr : Nat := 0x408
def blkTherm : Nat := 0x409

/-- The kind of a fixed window index (R53) or block number; composite windows are all `composite`
here, whether or not they are allocated. -/
def kindOf (b : Nat) : Kind :=
  if b = 0 then .root
  else if b < 0x010 then .none
  else if b < 0x014 then .frontEnd
  else if b = 0x014 then .lowband
  else if b < 0x018 then .none
  else if b < 0x020 then .loSynth
  else if b < 0x028 then .aerialFeed
  else if b = 0x028 then .antMatrix
  else if b < 0x040 then .none
  else if b < 0x080 then .ddc
  else if b < 0x0C0 then .chanFilter
  else if b < 0x0F0 then .fmDemod
  else if b < 0x100 then .amDemod
  else if b < 0x110 then .ofdm
  else if b < 0x140 then .none
  else if b < 0x180 then .sideData
  else if b < 0x1A0 then .audioDec
  else if b < 0x1C0 then .audioLane
  else if b < 0x1E0 then .audioFilter
  else if b < 0x200 then .detector
  else if b < 0x220 then .asrc
  else if b < 0x240 then .audioPort
  else if b < 0x280 then .queue
  else if b = 0x280 then .twc
  else if b < 0x290 then .none
  else if b < 0x2B0 then .follow
  else if b < 0x300 then .none
  else if b < 0x3FF then .composite
  else if b = blkSys then .sys
  else if b = blkEvents then .events
  else if b = blkPigeon then .pigeon
  else if b = blkHost then .hostPorts
  else if b = blkNv then .nv
  else if b = blkCore then .core
  else if b = blkFerry then .ferry
  else if b = blkClk then .clocks
  else if b = blkKpr then .keeper
  else if b = blkTherm then .thermal
  else .none

/-- Windows of unit instances by kind (R53). -/
def winFE (n : Nat) : Nat := 0x010 + n
def winFEL : Nat := 0x014
def winLO (n : Nat) : Nat := 0x018 + n
def winFeed (n : Nat) : Nat := 0x020 + n
def winAnt : Nat := 0x028
def winDDC (n : Nat) : Nat := 0x040 + n
def winCF (n : Nat) : Nat := 0x080 + n
def winFM (n : Nat) : Nat := 0x0C0 + n
def winAM (n : Nat) : Nat := 0x0F0 + n
def winOFDM (n : Nat) : Nat := 0x100 + n
def winSD (n : Nat) : Nat := 0x140 + n
def winDec (n : Nat) : Nat := 0x180 + n
def winLane (n : Nat) : Nat := 0x1A0 + n
def winAF (n : Nat) : Nat := 0x1C0 + n
def winDet (n : Nat) : Nat := 0x1E0 + n
def winASRC (n : Nat) : Nat := 0x200 + n
def winPort (n : Nat) : Nat := 0x220 + n
def winQ (n : Nat) : Nat := 0x240 + n
def winTWC : Nat := 0x280
def winFollow (n : Nat) : Nat := 0x290 + n

/-- The instance number of a fixed window (R55). -/
def instOf (b : Nat) : Nat :=
  match kindOf b with
  | .frontEnd => b - 0x010
  | .loSynth => b - 0x018
  | .aerialFeed => b - 0x020
  | .ddc => b - 0x040
  | .chanFilter => b - 0x080
  | .fmDemod => b - 0x0C0
  | .amDemod => b - 0x0F0
  | .ofdm => b - 0x100
  | .sideData => b - 0x140
  | .audioDec => b - 0x180
  | .audioLane => b - 0x1A0
  | .audioFilter => b - 0x1C0
  | .detector => b - 0x1E0
  | .asrc => b - 0x200
  | .audioPort => b - 0x220
  | .queue => b - 0x240
  | .follow => b - 0x290
  | .composite => b - 0x300
  | _ => 0

/-- The kind code of R54 (0 for a block that carries none). -/
def kindCode : Kind → Nat
  | .frontEnd => 0x01
  | .lowband => 0x02
  | .loSynth => 0x03
  | .aerialFeed => 0x04
  | .antMatrix => 0x05
  | .ddc => 0x10
  | .chanFilter => 0x11
  | .fmDemod => 0x12
  | .amDemod => 0x13
  | .ofdm => 0x14
  | .sideData => 0x15
  | .audioDec => 0x20
  | .audioLane => 0x21
  | .audioFilter => 0x22
  | .detector => 0x23
  | .asrc => 0x24
  | .audioPort => 0x25
  | .queue => 0x30
  | .twc => 0x31
  | .follow => 0x38
  | .composite => 0x40
  | .root => 0x40
  | _ => 0

/-- Is `b` one of the fixed unit windows of R53 (the root included)? -/
def isFixedUnit (b : Nat) : Bool := b < 0x300 && decide (kindOf b ≠ .none)

/-- The kind-specific register table of a window or block. -/
def kindMap (b : Nat) : List RegD :=
  match kindOf b with
  | .none => []
  | .root => compMap ++ loaderMap
  | .composite => compMap
  | .frontEnd => feMap
  | .lowband => lowbandMap
  | .loSynth => if b % 2 = 0 then loMap else loMap.filter (fun r => decide (r.off < 0x080))
  | .aerialFeed => feedMap
  | .antMatrix => antMap
  | .ddc => ddcMap
  | .chanFilter => chanFilterMap.map (fun r => if r.off = 0x800 then { r with cnt := 256 } else r)
  | .fmDemod => fmMap
  | .amDemod => amMap
  | .ofdm => ofdmMap
  | .sideData => sdMap
  | .audioDec => decMap
  | .audioLane => laneMap
  | .audioFilter => audioFilterMap.filter (fun r => decide (r.off ≠ 0x040))
  | .detector => detMap
  | .asrc => asrcMap
  | .audioPort => if b = 0x220 then portMap ++ portGlobalMap else portMap
  | .queue => queueMap
  | .twc => twcMap
  | .follow => followMap
  | .sys => sysMap
  | .events => eventsMap
  | .pigeon => phMap ++ bellMap
  | .hostPorts => hostMap
  | .nv => nvMap
  | .core => coreMap
  | .ferry => ferryMap
  | .clocks => clockMap
  | .keeper => keeperMap
  | .thermal => thermMap

/-- Does register array `r` hold offset `off`? -/
def RegD.holds (r : RegD) (off : Nat) : Bool :=
  decide (r.off ≤ off) && decide (off < r.off + r.cnt * r.stride) && decide ((off - r.off) % r.stride = 0)

/-- The highest of the KIND_EVENTS of a kind; the bits above it are reserved (R113, R139, R151, R164, R173, R200, R228, R258, R279,
R305, R337, R350, R395, R438). A composite has none of its own in these lists and keeps all. -/
def eventTop : Kind → Nat
  | .frontEnd | .lowband => 20
  | .loSynth => 23
  | .aerialFeed => 20
  | .ddc | .chanFilter | .audioFilter | .detector | .asrc => 18
  | .fmDemod | .amDemod | .audioDec | .audioLane => 19
  | .ofdm => 24
  | .sideData => 23
  | .follow => 21
  | .audioPort => 25
  | .queue => 20
  | .twc => 22
  | _ => 31

/-- UNIT_EVENT and UNIT_EVMASK of a kind hold its own events only. -/
def RegD.forKind (k : Kind) (r : RegD) : RegD :=
  if r.off = 0x00C ∨ r.off = 0x010 then { r with flds := r.flds.map (fun f => if f.lsb = 16 then { f with msb := eventTop k } else f) } else r

/-- The register at an offset of a window or block: every unit window opens with the unit control
block of R55, and a pigeonhole's registers repeat every 32 bytes (R351). `none` is a reserved offset. -/
def regAt (b off : Nat) : Option RegD :=
  if b = blkPigeon then
    if off < 0x100 then phMap.find? (fun r => r.off == off % 0x20)
    else bellMap.find? (fun r => r.holds off)
  else if b < 0x400 ∧ off < 0x040 then
    if kindOf b = .none then none else (ucbMap.find? (fun r => r.holds off)).map (RegD.forKind (kindOf b))
  else (kindMap b).find? (fun r => r.holds off)

/-- A field's reset value in its place. -/
def Fld.resetBits (f : Fld) : Nat := f.rst % 2 ^ (f.msb - f.lsb + 1) * 2 ^ f.lsb

/-- The reset word of a register (the Reset column, R10). -/
def RegD.reset (r : RegD) : Nat := r.flds.foldl (fun a f => a + f.resetBits) 0

/-- R97, R99: the reset gain table. -/
def gainReset (lowband : Bool) (i : Nat) : Nat :=
  let amax := if lowband then 56 else 62
  let bw := if lowband then 0 else 15
  let a := min (2 * i) amax
  let lna := min (a / 6) 7
  let a := a - 6 * lna
  let mix := if lowband then 0 else min (a / 6) 3
  let a := a - 6 * mix
  bw * 4096 + a * 256 + mix * 16 + lna

/-- Reset values that depend on the instance or the element: the gain tables (R99), FEED table
(R430), the root's label (R87), CLK_SRC (R315), duty, core and map registers (R445, R453), and the single
tap of bank 0 in every filter unit (R156; `bankBlk`). -/
def resetWord (b off : Nat) : Nat :=
  match kindOf b with
  | .frontEnd => if 0x100 ≤ off ∧ off < 0x180 then gainReset false ((off - 0x100) / 4) else plain
  | .lowband => if 0x100 ≤ off ∧ off < 0x180 then gainReset true ((off - 0x100) / 4) else plain
  | .aerialFeed => if 0x100 ≤ off ∧ off < 0x140 then 500 + 50 * ((off - 0x100) / 4) else plain
  | .root => if off = 0x040 then 0x544F4F52 else plain
  | .audioPort => if off = 0x044 then instOf b else plain
  | .core =>
    if off < 0x010 then off / 4
    else if off = 0x050 then 3
    else if 0x040 ≤ off ∧ off < 0x050 then 2 + 2 ^ ((off - 0x040) / 4) * 16
    else if 0x100 ≤ off ∧ off < 0x160 then
      let k := (off % 0x40) / 4
      0x03020100 + 0x04040404 * k
    else plain
  | .none => if (0x880 ≤ b ∧ b < 0x8C0 ∨ 0x9C0 ≤ b ∧ b < 0x9E0) ∧ off = 0 then 0x7FFF else plain
  | _ => plain
where
  plain : Nat := match regAt b off with
    | some r => r.reset
    | none => 0

/-- Where coefficient bank 0 or 1 of a filter unit stands in the register file: word i at offset 4i. -/
def bankBlk (w bank : Nat) : Nat := 0x800 + w + 0x400 * bank

/-- The key of a register in the register file: window or block, and word within it. -/
def rkey (b off : Nat) : Nat := b * 1024 + off / 4

/-- What an unlisted register reads as: its reset value. -/
def rdef (k : Nat) : Word := BitVec.ofNat 32 (resetWord (k / 1024) (k % 1024 * 4))

/-! ## Which values a field may take -/

/-- `none` if `v` is allowed in a field of width `w` bits, else 0x0201 or 0x0202 (R50). -/
def Lim.refuse (l : Lim) (w v : Nat) : Option Nat :=
  match l with
  | .any => none
  | .upTo hi => if v ≤ hi then none else some 0x0201
  | .within lo hi => if lo ≤ v ∧ v ≤ hi then none else some 0x0202
  | .zeroOr lo hi => if v = 0 ∨ (lo ≤ v ∧ v ≤ hi) then none else some 0x0202
  | .signedIn lo hi =>
    let i : Int := if v < 2 ^ (w - 1) then (v : Int) else (v : Int) - 2 ^ w
    if lo ≤ i ∧ i ≤ hi then none else some 0x0202
  | .aerial => if v < 8 ∨ v = 0xF then none else some 0x0201
  | .aerialL => if v < 8 ∨ v = 0xF then none else some 0x0202
  | .fmtAll => if v ≤ 4 then none else some 0x0201
  | .fmtReal => if v ≤ 3 then none else if v = 4 then some 0x0202 else some 0x0201
  | .bit1Reserved => if v / 2 % 2 = 0 then none else some 0x0201
  | .nvDst => if v % 256 = 0 ∧ 0x04000000 ≤ v ∧ v ≤ 0x047FFF00 then none else some 0x0202
  | .step256 lo hi => if v % 256 = 0 ∧ lo ≤ v ∧ v ≤ hi then none else some 0x0202
  | .decoder => if v = 0x3FF ∨ (0x180 ≤ v ∧ v < 0x1A0) then none else some 0x0202

/-- The field's value within a word. -/
def Fld.of (f : Fld) (w : Nat) : Nat := w / 2 ^ f.lsb % 2 ^ (f.msb - f.lsb + 1)

/-- Is every field of the register RO or RC (R519)? -/
def RegD.readOnly (r : RegD) : Bool := r.flds.all (fun f => decide (f.acc = .ro) || decide (f.acc = .rc))

/-- The bits of a register that a plain write may set: its RW fields. -/
def RegD.rwMask (r : RegD) : Nat :=
  r.flds.foldl (fun a f => if f.acc = .rw then a + (2 ^ (f.msb - f.lsb + 1) - 1) * 2 ^ f.lsb else a) 0

/-- The first reserved encoding (0x0201), else the first out-of-range value (0x0202), that word `v`
places in a writable field (R50, and the order of R517).
Mark DEDUCED: notes/assumptions/16.md. -/
def RegD.valueRefuse (r : RegD) (v : Nat) : Option Nat :=
  let codes := r.flds.filterMap (fun f =>
    if f.acc = .rw ∨ f.acc = .wo then f.lim.refuse (f.msb - f.lsb + 1) (f.of v) else none)
  if 0x0201 ∈ codes then some 0x0201 else if 0x0202 ∈ codes then some 0x0202 else none

/-- Would writing `v` over `old` change a field that may not change in STATE `st` (R518)? -/
def RegD.stateRefuse (r : RegD) (st old v : Nat) : Bool :=
  r.flds.any (fun f => decide (f.lock ≠ 0) && decide (f.lock / 2 ^ st % 2 = 0) &&
    decide (f.acc = .rw) && decide (f.of v ≠ f.of old))

end Sys2Proof.Machine
end

