-- ==== Sys2Proof/Machine/State.lean ====
section
/-! DEFINITION. The whole state of the block as plain data: the register file, the memories, the
hidden state of its units, the loader, the event board, the firmware's own records, the clock and
epoch, the Keeper and the Ferry link, and the queue of the commands that wait. -/

namespace Sys2Proof.Machine

/-- Why a step stops with a fault. No command of this block ends in one: every effect that the spec
gives is a next state, and the spec's own faults (R478) are effects on the state. -/
inductive Fault where
  /-- Raised by no meaning; kept so that the type is inhabited. Safe: the machine would stop. -/
  | halted
  deriving DecidableEq, Repr

/-- Why a command is refused. -/
inductive Refusal where
  /-- Raised by `exec` for a command that has no meaning yet. Safe: nothing is claimed of it. -/
  | notModelled (mnemonic : String)
  deriving DecidableEq, Repr

/-- What is fixed in the part or on its board, and changed by no command: fuses (R2, R36), the
unique number, the strap balls of the two-wire target (R376) and of pairing (R469). -/
structure Part where
  reduced : Bool
  gradeI : Bool
  sigRequired : Bool
  uid : BitVec 64
  twtStrap : BitVec 2
  pairRole : Bool
  pairPresent : Bool
  deriving DecidableEq, Repr

/-- The state of a unit or composite that no plain register holds. `hold` is the set of internal
holds in force (R57), one bit for each cause; `refusals` the epochs of the refused writes of the last
second (R479); `deferred` the latest UNIT_CTL write that waits for BUSY to clear (R59); `lent` the
borrower of the unit (R255, R20), 0 for none. -/
structure UnitX where
  valid : Bool
  applyBusy : Bool
  checkBusy : Bool
  amendBusy : Bool
  applyPending : Bool
  selfFail : Bool
  safe : Bool
  causeStands : Bool
  cause : Nat
  hold : Nat
  deferred : Option Word
  refusals : List Nat
  storm : Bool
  lent : Nat
  deriving DecidableEq, Repr

/-- A unit as reset leaves it: OFF, nothing pending, no hold (R8). -/
def UnitX.init : UnitX :=
  { valid := false, applyBusy := false, checkBusy := false, amendBusy := false,
    applyPending := false, selfFail := false, safe := false, causeStands := false, cause := 0, hold := 0,
    deferred := none, refusals := [], storm := false, lent := 0 }

/-- What the loader is doing (R78–R86): the opcode, the command's pigeonhole (8 for a load at boot, which no command
asked for) and tag, the target, the MRAM slot that the image came from (0xFF for none), the staged image, whether step 3
has begun, the ENABLE and RUN that the target held before it, and whether the commit point is past. -/
structure JobX where
  opcode : Nat
  ph : Nat
  tag : Nat
  target : Nat
  slot : Nat
  image : List Nat
  held : Bool
  enable : Bool
  run : Bool
  committed : Bool
  deriving DecidableEq, Repr

/-- The Manifest and the unit tree: which composite binds each unit, the links, the composites, the
allocations, the pending triggers, the running job and the running full Manifest. -/
structure Tree where
  parents : Table Nat
  links : List LinkX
  comps : List CompX
  allocs : List AllocX
  triggers : List TriggerX
  job : Option JobX
  manifestId : Word
  manifestSlot : Nat
  deriving DecidableEq, Repr

/-- A fault that stands or stood (R478): its class, code, window and detail word. -/
structure FaultX where
  cls : Nat
  code : Nat
  win : Nat
  detail : Word
  deriving DecidableEq, Repr

/-- A message of the firmware that waits for room in TH (R355): the pigeonhole and its words. -/
structure MsgX where
  ph : Nat
  words : List Word
  deriving DecidableEq, Repr

/-- A duty on its way from one core to another (R442, R443); `retire` where the core it leaves is to be held in reset. -/
structure MoveX where
  duty : Nat
  src : Nat
  dst : Nat
  retire : Bool
  deriving DecidableEq, Repr

/-- The command of R454 that runs: its opcode, pigeonhole and tag, the slot of a roll or the core of a restore, and how
many duties a roll has moved. -/
structure CoreJobX where
  opcode : Nat
  ph : Nat
  tag : Nat
  slot : Nat
  moved : Nat
  deriving DecidableEq, Repr

/-- What the boot under way will report (R497): the code of its first deviation and the fields of DETAIL. -/
structure BootX where
  code : Nat
  fallback : Bool
  mf : Nat
  restored : Bool
  cal : Nat
  withheld : Bool
  deriving DecidableEq, Repr

def BootX.init : BootX := { code := 0, fallback := false, mf := 0, restored := false, cal := 0, withheld := false }

/-- The firmware's own records: whether the cores run it (R489, step 4) and whether it is in service (R497), the notices
it may send (R358), the faults that stand, the log entries that wait to be written with the RTC count of their declaration
and the counts of R530, the replies that wait for room, the slot that the cores run, the duties that move, the command of
R454 under way, the duty last doubled (4 for none), the shadows of the duties (R441), the boot's notes, and whether an
amendment was committed since the last save (R428). -/
structure Firmware where
  running : Bool
  inService : Bool
  noticeMask : Word
  standing : List FaultX
  latestCode : Nat
  logQueue : List (FaultX × Word)
  logSeq : Word
  logHeld : Nat
  f0Period : Nat
  f0Count : Nat
  f0Dropped : Nat
  outbox : List MsgX
  runningSlot : Nat
  moves : List MoveX
  job : Option CoreJobX
  second : Nat
  shadows : Table Nat
  boot : BootX
  amended : Bool
  deriving DecidableEq, Repr

/-- The MRAM write under way (R449): the controller's own buffer, the next page's address, and whether it is to stop. -/
structure NvX where
  buf : List Byte
  dst : Nat
  abort : Bool
  deriving DecidableEq, Repr

/-- The event board (R360): the direct latches. Masks, routes and the unit bits that feed the
summary events are registers. -/
structure Board where
  latch : BitVec 128
  toDev : Word
  toHost : Word
  deriving DecidableEq, Repr

/-- One direction of a pigeonhole (R351–R354). -/
structure FifoX where
  words : List Word
  collision : Bool
  emptyReq : Bool
  emptied : Bool
  deriving DecidableEq, Repr

def FifoX.init : FifoX := { words := [], collision := false, emptyReq := false, emptied := false }

/-- The Guestbook's working state (R246–R252) beside its records, which stand in memory: restored or not, a restore that a
save stopped (R256), the queue
for change records, the settings of GB_CONFIG, the counts of GB_STATUS, the dirty pages, and for each record when FIELD
and QUALITY were last written and when it was last heard (epoch plus one, 0 for never). -/
structure Guest where
  ready : Bool
  stopped : Bool
  queue : Nat
  ckptMin : Nat
  maxAge : Nat
  listExpiry : Nat
  fullCount : Word
  ringFullCount : Word
  badRecords : Word
  dirty : Table Bool
  measuredAt : Table Nat
  heardAt : Table Nat
  deriving DecidableEq, Repr

/-- A scan task (R253, R254): its system and frequency, and the units borrowed. -/
structure TaskX where
  system : Nat
  khz : Nat
  units : List Nat
  deriving DecidableEq, Repr

/-- Background scans: the plan's words, the controls of SCAN_CTL, the place of the next frequency among all of the
plan, whether the pause between cycles runs, the tasks (the most recently started last) and the counts of SCAN_STATUS. -/
structure Scan where
  plan : List Word
  run : Bool
  maxTasks : Nat
  pauseS : Nat
  next : Nat
  pausing : Bool
  tasks : List TaskX
  cycles : Word
  visited : Word
  skipped : Word
  abandoned : Word
  deriving DecidableEq, Repr

/-- The epoch and the root (R396–R411): the epoch; the audio-master edges counted since reset, which no EPOCH_LOAD moves;
whether the root has ever locked; the latched snapshot (R38); a load that waits for the first lock (R410); and of the
holdover under way, the count of edges at which it began and the milliseconds it had lasted before (R411). -/
structure Clock where
  epoch : BitVec 64
  uptime : Nat
  everLocked : Bool
  snap : BitVec 64
  loadPending : Bool
  loadValue : BitVec 64
  holdStart : Nat
  holdBase : Nat
  deriving DecidableEq, Repr

/-- A Saddlebag record (R428, R429): the fields of its header that firmware uses, and the items of its body, whose layout
in MRAM is private to firmware. `regs`, `aux` and `lists` are the registers and the hidden counts and buffers of queues and
ports that it holds, `marks` the units in SAFE or FAULT, `feeds` the feeds that were on. -/
structure BagX where
  seq : Word
  cause : Nat
  epoch : BitVec 64
  rtc : BitVec 48
  holdMs : Nat
  trusted : Bool
  timing : Bool
  manifestId : Word
  version : Word
  regs : Table Word
  aux : Table Nat
  lists : Table (List Nat)
  marks : Table UnitX
  tree : Tree
  dirty : Table Bool
  standing : List FaultX
  feeds : List Nat
  deriving DecidableEq, Repr

/-- The supply (R418–R437). `die` says where the main die stands: 0 in service or starting, 1 held in reset, 2 in
retention, 3 in standby, 4 resuming. `saving` is what is under way: 0 nothing, 1 a save at a warning, 2 a standby entry.
`start` is the cause of the latest start as SYS_RESET_CAUSE.LAST codes it (R36). `failSafe` is FAULT_RAISED on the IRQ pins
(R482), `dataLow` AP_DATA driven low at once (R481), `resetAfter` a RESET_N that waits for a save to end, `woken` a wake
that waits for a standby entry to end, `nvCut` an MRAM write that a save abandoned (R449). -/
structure Power where
  die : Nat
  saving : Nat
  start : Nat
  savedFeeds : List Nat
  rtc : BitVec 48
  failSafe : Bool
  dataLow : Bool
  resetAfter : Bool
  woken : Bool
  nvCut : Bool
  bagA : Option BagX
  bagB : Option BagX
  deriving DecidableEq, Repr

/-- A frame on the Ferry link (R461, R463). -/
structure FrameX where
  kind : Nat
  seq : Word
  words : List Word
  deriving DecidableEq, Repr

/-- The Ferry link and the pair (R458–R476): the frames sent, the mirror frames kept for replay, the masters and addresses
of the reads awaited, the TX_SEQ that the lead last told, whether a gap is open; PAIR_LEAD_N as last seen low and as this
chip drives it, whether its paired ports drive, the silence after a release, a failed wire check, a handover epoch, an
epoch that R467 does not trust, the standing fault of a heartbeat loss; and whether FOLLOW is mirrored here, and the
command served came from the lead. -/
structure Ferry where
  sent : List FrameX
  replay : List FrameX
  reads : List (Nat × Nat)
  partnerTx : Word
  gap : Bool
  lineLow : Bool
  drivesLine : Bool
  driving : Bool
  silent : Bool
  wireFail : Bool
  handover : Option (BitVec 64)
  epochBad : Bool
  lossFault : Option FaultX
  followed : Bool
  quiet : Bool
  deriving DecidableEq, Repr

/-- The link as reset leaves it: down, no role, nothing driven. -/
def Ferry.init : Ferry :=
  { sent := [], replay := [], reads := [], partnerTx := 0, gap := false, lineLow := false, drivesLine := false,
    driving := false, silent := false, wireFail := false, handover := none, epochBad := false, lossFault := none,
    followed := false, quiet := false }

/-- What the Signboard shows of the structure: whether it has been built since the cold boot (R30), and the bindings and
composites as they stood when it was last built (R34). The rest of it is fixed. -/
structure SignX where
  built : Bool
  parents : Table Nat
  comps : List CompX
  deriving DecidableEq, Repr

/-- The whole block. `pending`, `answer` and `fresh` are the model's own fields.
Mark DESIGN CHOICE: notes/assumptions/10.md. -/
structure State where
  pending : List Instr
  part : Part
  regs : Table Word
  mem : Table Byte
  units : Table UnitX
  aux : Table Nat
  hist : Table (List Int)
  tree : Tree
  fw : Firmware
  board : Board
  td : Table FifoX
  th : Table FifoX
  bytes : Table (List Nat)
  sems : Table Nat
  readLatch : Table Word
  writeLatch : Table Word
  guest : Guest
  scan : Scan
  clock : Clock
  power : Power
  ferry : Ferry
  nv : NvX
  signboard : SignX
  signboardGen : Word
  answer : List Word
  fresh : Nat
  deriving DecidableEq, Repr

/-- The part the model runs as: an FY-6432-A whose fuses leave signatures unenforced, its straps low
and not paired (DESIGN CHOICE, notes/assumptions/3.md).
Mark DESIGN CHOICE: notes/assumptions/3.md. -/
def Part.init : Part :=
  { reduced := false, gradeI := false, sigRequired := false, uid := 1, twtStrap := 0,
    pairRole := false, pairPresent := false }

/-- The header of the fault log with which a part leaves Roldel (R485, R530): MAGIC, FORMAT, the part's number, zeros, and
the CRC-32 of all that. Every entry is free. -/
def factoryLog : Table Byte :=
  [(0x042B0000, 0x46), (0x042B0001, 0x59), (0x042B0002, 0x46), (0x042B0003, 0x4C), (0x042B0004, 0x00),
   (0x042B0005, 0x00), (0x042B0006, 0x01), (0x042B0007, 0x00), (0x042B0008, 0x01)] ++
  (List.range 51).map (fun i => (0x042B0009 + i, 0x00)) ++
  [(0x042B003C, 0x03), (0x042B003D, 0x19), (0x042B003E, 0xD5), (0x042B003F, 0xB5)]

/-- The block right after its reset is released: every register at the Reset column of its table
(R10), every unit OFF, nothing bound, no firmware in service, the root in free run.
Mark DESIGN CHOICE: notes/assumptions/8.md.
Mark DESIGN CHOICE: notes/assumptions/9.md. -/
def State.reset : State :=
  { pending := []
    part := Part.init
    regs := []
    mem := factoryLog
    units := []
    aux := []
    hist := []
    tree := { parents := [], links := [], comps := [], allocs := [], triggers := [], job := none,
              manifestId := 0, manifestSlot := 0xFF }
    fw := { running := false, inService := false, noticeMask := 0x1E, standing := [], latestCode := 0,
            logQueue := [], logSeq := 0, logHeld := 0, f0Period := 0, f0Count := 0, f0Dropped := 0, outbox := [],
            runningSlot := 0, moves := [], job := none, second := 4, shadows := [], boot := BootX.init,
            amended := false }
    board := { latch := 0, toDev := 0, toHost := 0 }
    td := []
    th := []
    bytes := []
    sems := []
    readLatch := []
    writeLatch := []
    guest := { ready := false, stopped := false, queue := 0x3FF, ckptMin := 10, maxAge := 65535, listExpiry := 1440,
               fullCount := 0, ringFullCount := 0, badRecords := 0, dirty := [], measuredAt := [],
               heardAt := [] }
    scan := { plan := [], run := false, maxTasks := 0, pauseS := 0, next := 0, pausing := false, tasks := [],
              cycles := 0, visited := 0, skipped := 0, abandoned := 0 }
    clock := { epoch := 0, uptime := 0, everLocked := false, snap := 0, loadPending := false, loadValue := 0,
               holdStart := 0, holdBase := 0 }
    power := { die := 0, saving := 0, start := 0, savedFeeds := [], rtc := 0, failSafe := false,
               dataLow := false, resetAfter := false, woken := false, nvCut := false, bagA := none, bagB := none }
    ferry := Ferry.init
    nv := { buf := [], dst := 0, abort := false }
    signboard := { built := false, parents := [], comps := [] }
    signboardGen := 0
    answer := []
    fresh := 0 }

end Sys2Proof.Machine
end

