-- ==== Sys2Proof/Machine/Store.lean ====
section
/-! DEFINITION. The operations over sparse stores: what an unlisted key reads as is an argument
(`d`), so one set of operations serves the register file (whose default is each register's reset
value), the memories and the tables of hidden unit state. -/

namespace Sys2Proof.Machine.Store

/-- The value at key `k`: the listed one, else the default of that key. -/
def get {α : Type} (d : Nat → α) : Table α → Nat → α
  | [], k => d k
  | (j, v) :: m, k => if j = k then v else get d m k

/-- The store without key `k`. -/
def drop {α : Type} : Table α → Nat → Table α
  | [], _ => []
  | (j, v) :: m, k => if j = k then drop m k else (j, v) :: drop m k

/-- The entry `(k, v)` put before the first larger key. -/
def insert {α : Type} (k : Nat) (v : α) : Table α → Table α
  | [] => [(k, v)]
  | (j, u) :: m => if k < j then (k, v) :: (j, u) :: m else (j, u) :: insert k v m

/-- Key `k` set to `v`; writing what an unlisted key reads as removes the entry, so equal
contents are equal data. -/
def set {α : Type} [DecidableEq α] (d : Nat → α) (m : Table α) (k : Nat) (v : α) : Table α :=
  if v = d k then drop m k else insert k v (drop m k)

/-- Keys strictly rising from above `lo`, and no entry equal to its default. -/
def wfFrom {α : Type} [DecidableEq α] (d : Nat → α) : Nat → Table α → Bool
  | _, [] => true
  | lo, (j, v) :: m => decide (lo ≤ j) && decide (v ≠ d j) && wfFrom d (j + 1) m

/-- The canonical form of a store. -/
def wf {α : Type} [DecidableEq α] (d : Nat → α) (m : Table α) : Bool := wfFrom d 0 m

/-- Every listed key of the half-open range is removed (its default shows again). -/
def dropRange {α : Type} (lo hi : Nat) : Table α → Table α
  | [] => []
  | (j, v) :: m => if lo ≤ j ∧ j < hi then dropRange lo hi m else (j, v) :: dropRange lo hi m

end Sys2Proof.Machine.Store
end

