-- ==== Sys2Proof/Machine/Ops.lean ====
section
/-! DEFINITION. The shared operations of the block: reaching registers, unit state and memory;
statistics counters; raising events and their routes; recording codes and faults. -/

namespace Sys2Proof.Machine

/-- What every command answers. -/
abbrev Out := Host.Outcome State Fault Refusal

/-! ## Numbers -/

/-- The two's-complement value of the low `n` bits. -/
def signed (n v : Nat) : Int :=
  if v % 2 ^ n < 2 ^ (n - 1) then ((v % 2 ^ n : Nat) : Int) else ((v % 2 ^ n : Nat) : Int) - 2 ^ n

/-- The `n`-bit two's-complement code of an integer. -/
def unsigned (n : Nat) (i : Int) : Nat := (i % 2 ^ n).toNat

/-- `a / b` rounded to the nearest integer, ties away from zero (`b > 0`). -/
def roundAway (a : Int) (b : Nat) : Int :=
  if 0 ≤ a then ((2 * a.toNat + b) / (2 * b) : Nat) else -(((2 * (-a).toNat + b) / (2 * b) : Nat) : Int)

/-- `i` held within `lo` and `hi`. -/
def clampI (lo hi i : Int) : Int := if i < lo then lo else if hi < i then hi else i

/-- `a − b` modulo 2³², as a signed difference of position counters (R47). -/
def diff32 (a b : Word) : Int := (a - b).toInt

/-- Words as 32-bit numbers. -/
def w32 (n : Nat) : Word := BitVec.ofNat 32 n

/-- Four bytes as a little-endian word (R11). -/
def wordOfBytes (b0 b1 b2 b3 : Byte) : Word := b3 ++ b2 ++ b1 ++ b0

/-- One bit of CRC-32 (IEEE 802.3), reflected. -/
def crcBit (c : Word) : Word := if c.getLsbD 0 then (c >>> 1) ^^^ 0xEDB88320 else c >>> 1

/-- One byte of CRC-32. -/
def crcByte (c : Word) (b : Byte) : Word :=
  crcBit (crcBit (crcBit (crcBit (crcBit (crcBit (crcBit (crcBit (c ^^^ b.setWidth 32))))))))

/-- CRC-32 (IEEE 802.3) over bytes (R65, R135, R447, R485). -/
def crc32 (bs : List Byte) : Word := bs.foldl crcByte 0xFFFFFFFF ^^^ 0xFFFFFFFF

/-! ## Registers -/

/-- The stored value of a register. -/
def State.rd (s : State) (b off : Nat) : Word := Store.get rdef s.regs (rkey b off)

/-- A register given a new value. -/
def State.wr (s : State) (b off : Nat) (v : Word) : State :=
  { s with regs := Store.set rdef s.regs (rkey b off) v }

/-- The value of a field within a register word. -/
def FRef.of (r : FRef) (w : Word) : Nat := w.toNat / 2 ^ r.lsb % 2 ^ (r.msb - r.lsb + 1)

/-- A register word with a field replaced. -/
def FRef.put (r : FRef) (w : Word) (v : Nat) : Word :=
  w32 (w.toNat - r.of w * 2 ^ r.lsb + v % 2 ^ (r.msb - r.lsb + 1) * 2 ^ r.lsb)

/-- A field's value. -/
def State.fld (s : State) (b : Nat) (r : FRef) : Nat := r.of (s.rd b r.off)

/-- A one-bit field. -/
def State.flag (s : State) (b : Nat) (r : FRef) : Bool := s.fld b r != 0

/-- A field's two's-complement value. -/
def State.sfld (s : State) (b : Nat) (r : FRef) : Int := signed (r.msb - r.lsb + 1) (s.fld b r)

/-- A field given a new value. -/
def State.put (s : State) (b : Nat) (r : FRef) (v : Nat) : State := s.wr b r.off (r.put (s.rd b r.off) v)

/-- A one-bit field given a new value. -/
def State.putB (s : State) (b : Nat) (r : FRef) (v : Bool) : State := s.put b r v.toNat

/-- A signed field given a new value. -/
def State.putI (s : State) (b : Nat) (r : FRef) (v : Int) : State := s.put b r (unsigned (r.msb - r.lsb + 1) v)

/-! ## Hidden unit state -/

def State.unit (s : State) (w : Nat) : UnitX := Store.get (fun _ => UnitX.init) s.units w

def State.setUnit (s : State) (w : Nat) (x : UnitX) : State :=
  { s with units := Store.set (fun _ => UnitX.init) s.units w x }

/-- The hidden scalar `slot` of a window; every slot reads 0 after reset. -/
def State.ax (s : State) (w slot : Nat) : Nat := Store.get (fun _ => 0) s.aux (w * 64 + slot)

def State.setAx (s : State) (w slot v : Nat) : State :=
  { s with aux := Store.set (fun _ => 0) s.aux (w * 64 + slot) v }

/-- The sample history `slot` of a window; every history is empty (all zeros) after reset. -/
def State.hs (s : State) (w slot : Nat) : List Int := Store.get (fun _ => []) s.hist (w * 64 + slot)

def State.setHs (s : State) (w slot : Nat) (v : List Int) : State :=
  { s with hist := Store.set (fun _ => []) s.hist (w * 64 + slot) v }

/-- A byte list of a window: FIFOs and tables of the two-wire controller. -/
def State.bl (s : State) (k : Nat) : List Nat := Store.get (fun _ => []) s.bytes k

def State.setBl (s : State) (k : Nat) (v : List Nat) : State :=
  { s with bytes := Store.set (fun _ => []) s.bytes k v }

/-- Every history and hidden count of the window cleared (R56: OFF discards all history; R59). Slots from
32 on hold what a synchronising reset does not touch. -/
def State.clearHistory (s : State) (w : Nat) : State :=
  { s with hist := Store.dropRange (w * 64) (w * 64 + 32) s.hist
           aux := Store.dropRange (w * 64) (w * 64 + 32) s.aux }

/-- A stage whose arithmetic is not stated, with what it carries on kept in history `slot` of a window. -/
def State.through (s : State) (w slot : Nat) (g : Config.Stage) (params xs : List Int) : State × List Int :=
  let r := Config.stage g params (s.hs w slot) xs
  (s.setHs w slot r.1, r.2)

/-- The next free value: a word nothing constrains. -/
def State.freshWord (s : State) : Word := Config.freeWord s.fresh

/-- The counter of free values moved past the one just used. -/
def State.useFresh (s : State) : State := { s with fresh := s.fresh + 1 }

/-- The words that the command answers with. -/
def State.ans (s : State) (ws : List Word) : State := { s with answer := ws }

/-! ## Memories (R24): queue RAM, Guestbook, delay store and MRAM -/

/-- What a byte that nothing has written reads as: the Guestbook and MRAM free (0xFF, R243, R485),
the other memories 0 (notes/assumptions/7.md).
Mark DESIGN CHOICE: notes/assumptions/7.md. -/
def mdef (a : Nat) : Byte :=
  if (0x02000000 ≤ a ∧ a < 0x02400000) ∨ (0x04000000 ≤ a ∧ a < 0x04800000) then 0xFF else 0

def State.rdByte (s : State) (a : Nat) : Byte := Store.get mdef s.mem a

def State.wrByte (s : State) (a : Nat) (v : Byte) : State :=
  { s with mem := Store.set mdef s.mem a v }

/-- A little-endian word of memory (R11). -/
def State.rdWord (s : State) (a : Nat) : Word :=
  wordOfBytes (s.rdByte a) (s.rdByte (a + 1)) (s.rdByte (a + 2)) (s.rdByte (a + 3))

def State.wrBytes (s : State) (a : Nat) : List Byte → State
  | [] => s
  | b :: bs => (s.wrByte a b).wrBytes (a + 1) bs

/-- The bytes of a word, least significant first. -/
def bytesOf (v : Word) : List Byte :=
  [v.extractLsb' 0 8, v.extractLsb' 8 8, v.extractLsb' 16 8, v.extractLsb' 24 8]

def State.wrWord (s : State) (a : Nat) (v : Word) : State := s.wrBytes a (bytesOf v)

def State.wrWords (s : State) (a : Nat) : List Word → State
  | [] => s
  | v :: vs => (s.wrWord a v).wrWords (a + 4) vs

def State.rdWords (s : State) (a : Nat) : Nat → List Word
  | 0 => []
  | n + 1 => s.rdWord a :: s.rdWords (a + 4) n

def State.rdBytes (s : State) (a : Nat) : Nat → List Byte
  | 0 => []
  | n + 1 => s.rdByte a :: s.rdBytes (a + 1) n

/-! ## The unit tree -/

/-- Units that fuses disable in an FY-3216 (R2). -/
def fusedUnit (w : Nat) : Bool :=
  (0x012 ≤ w && w ≤ 0x013) || (0x01C ≤ w && w ≤ 0x01F) || (0x060 ≤ w && w < 0x080) ||
  (0x0A0 ≤ w && w < 0x0C0) || (0x230 ≤ w && w < 0x240)

def State.fused (s : State) (w : Nat) : Bool := s.part.reduced && fusedUnit w

def State.comp? (s : State) (w : Nat) : Option CompX := s.tree.comps.find? (fun c => c.win == w)

/-- Does the window respond: a present unit, the root, or an allocated composite (R3, R26)? -/
def State.present (s : State) (w : Nat) : Bool :=
  if w < 0x300 then isFixedUnit w && !s.fused w else (s.comp? w).isSome

def State.isComposite (_s : State) (w : Nat) : Bool := w == 0 || decide (0x300 ≤ w)

/-- The parent composite of a window, 0x3FF for none (R55). -/
def State.parentOf (s : State) (w : Nat) : Nat :=
  if w = 0 then 0x3FF
  else if 0x300 ≤ w then match s.comp? w with
    | some c => c.parent
    | none => 0x3FF
  else Store.get (fun _ => 0x3FF) s.tree.parents w

def State.setParent (s : State) (w p : Nat) : State :=
  { s with tree := { s.tree with parents := Store.set (fun _ => 0x3FF) s.tree.parents w p } }

/-- The composites above a window, nearest first (at most 256 of them, R64). -/
def State.ancestorsFuel (s : State) : Nat → Nat → List Nat
  | 0, _ => []
  | n + 1, w => if s.parentOf w = 0x3FF then [] else s.parentOf w :: s.ancestorsFuel n (s.parentOf w)

def State.ancestors (s : State) (w : Nat) : List Nat := s.ancestorsFuel 256 w

/-- The direct atomic members of a composite, in ascending window order. -/
def State.unitsOf (s : State) (c : Nat) : List Nat :=
  (s.tree.parents.filter (fun p => p.2 == c)).map Prod.fst

/-- The direct composite members of a composite. -/
def State.compsOf (s : State) (c : Nat) : List Nat :=
  (s.tree.comps.filter (fun x => x.parent == c)).map CompX.win

/-- Everything nested in a composite: its atomic units and, below each composite member, theirs. -/
def State.unitsBelowFuel (s : State) : Nat → Nat → List Nat
  | 0, _ => []
  | n + 1, c => s.unitsOf c ++ (s.compsOf c).flatMap (s.unitsBelowFuel n)

def State.unitsBelow (s : State) (c : Nat) : List Nat := s.unitsBelowFuel 256 c

def State.compsBelowFuel (s : State) : Nat → Nat → List Nat
  | 0, _ => []
  | n + 1, c => s.compsOf c ++ (s.compsOf c).flatMap (s.compsBelowFuel n)

def State.compsBelow (s : State) (c : Nat) : List Nat := s.compsBelowFuel 256 c

/-- The link into input `i` of a window (R70: each input accepts exactly one). -/
def State.linkIn (s : State) (w i : Nat) : Option LinkX :=
  s.tree.links.find? (fun l => l.dst == w && l.inp == i)

/-- The window that drives input `i`, 0x3FF for none. -/
def State.srcOf (s : State) (w i : Nat) : Nat :=
  match s.linkIn w i with
  | some l => l.src
  | none => 0x3FF

/-- The windows that output `o` of a window feeds. -/
def State.sinksOf (s : State) (w o : Nat) : List Nat :=
  (s.tree.links.filter (fun l => l.src == w && l.out == o)).map LinkX.dst

/-- Does an F3 stand (R478)? -/
def State.f3 (s : State) : Bool := s.fw.standing.any (fun f => f.cls == 3)

/-! ## States (R56, R61) -/

def stOFF : Nat := 0
def stIDLE : Nat := 1
def stWARM : Nat := 2
def stRUN : Nat := 3
def stHOLD : Nat := 4
def stSAFE : Nat := 5
def stFAULT : Nat := 6

/-- Is the kind one of the demodulators that an invalid input holds (R194, R208)? -/
def isDemod (w : Nat) : Bool :=
  match kindOf w with
  | .fmDemod => true
  | .amDemod => true
  | .ofdm => true
  | _ => false

/-- Is what a unit takes as its input VALID? Lane stages are chained by lane number (R18, R70); a unit
that takes no input that matters here answers true. -/
def State.inputValid (s : State) (w : Nat) : Bool :=
  match kindOf w with
  | .ddc => (s.unit (s.srcOf w 0)).valid
  | .chanFilter => (s.unit (s.srcOf w 0)).valid
  | .fmDemod => (s.unit (s.srcOf w 0)).valid
  | .amDemod => (s.unit (s.srcOf w 0)).valid
  | .ofdm => (s.unit (s.srcOf w 0)).valid
  | .sideData => s.tree.links.any (fun l => l.dst == w && (s.unit l.src).valid)
  | .audioFilter => (s.unit (w - 0x20)).valid
  | .detector => (s.unit (w - 0x20)).valid
  | .asrc => (s.unit (w - 0x40)).valid
  | .audioPort => s.flag w PORT.PORT_CFG_DIR || (s.unit (s.srcOf w 0)).valid
  | _ => true

/-- Does an internal hold stand (R57): one that the device imposed, or a demodulator's for an input that
is not VALID (R194, R208)? -/
def State.innerHeld (s : State) (w : Nat) : Bool :=
  (s.unit w).hold != 0 || (isDemod w && !s.inputValid w)

/-- VALID as the row order of R56 takes it: a SIDE_DATA unit's follows its inputs (R528). -/
def State.validBit (s : State) (w : Nat) : Bool :=
  if kindOf w = .sideData then s.inputValid w else (s.unit w).valid

/-- Is a port stopping: RUN has fallen, and it keeps its frames until every slot is at 0 (R321)?
Mark DEDUCED: notes/assumptions/58.md. -/
def State.portStopping (s : State) (w : Nat) : Bool := kindOf w == .audioPort && s.ax w 40 != 0

/-- The STATE of an atomic unit: the first row of R56 that applies. -/
def State.atomState (s : State) (w : Nat) : Nat :=
  let x := s.unit w
  if x.selfFail then stFAULT
  else if x.safe then stSAFE
  else if !s.flag w UCB.UNIT_CTL_ENABLE then stOFF
  else if !(s.flag w UCB.UNIT_CTL_RUN || s.portStopping w) then stIDLE
  else if s.flag w UCB.UNIT_CTL_HOLD || s.innerHeld w then stHOLD
  else if !s.validBit w then stWARM
  else stRUN

/-- VALID of an atomic unit. -/
def State.atomValid (s : State) (w : Nat) : Bool :=
  if kindOf w = .sideData then s.atomState w == stRUN else (s.unit w).valid

/-- How far a state has advanced, in the order of R61. -/
def advance (st : Nat) : Nat :=
  if st = stFAULT then 0 else if st = stSAFE then 1 else if st = stOFF then 2
  else if st = stIDLE then 3 else if st = stHOLD then 4 else if st = stWARM then 5 else 6

def lessAdvanced (a b : Nat) : Nat := if advance b < advance a then b else a

/-- The least advanced of a list of states; OFF where there is none (R61). -/
def leastState : List Nat → Nat
  | [] => stOFF
  | a :: r => r.foldl lessAdvanced a

/-- STATE of a composite. -/
def State.compStateFuel (s : State) : Nat → Nat → Nat
  | 0, _ => stOFF
  | n + 1, c => leastState ((s.unitsOf c).map s.atomState ++ (s.compsOf c).map (s.compStateFuel n))

/-- VALID of a composite: every member's VALID is set (none set where it has no member). -/
def State.compValidFuel (s : State) : Nat → Nat → Bool
  | 0, _ => false
  | n + 1, c => !((s.unitsOf c).isEmpty && (s.compsOf c).isEmpty) &&
      (s.unitsOf c).all s.atomValid && (s.compsOf c).all (s.compValidFuel n)

/-- STATE of any window. -/
def State.stateOf (s : State) (w : Nat) : Nat :=
  if s.isComposite w then s.compStateFuel 256 w else s.atomState w

/-- VALID of any window. -/
def State.validOf (s : State) (w : Nat) : Bool :=
  if s.isComposite w then s.compValidFuel 256 w else s.atomValid w

/-- Is the window the target of the amendment or removal under way (R82)? -/
def State.isTarget (s : State) (w : Nat) : Bool :=
  match s.tree.job with
  | some j => j.target == w && w != 0
  | none => false

/-- BUSY of a window itself (R59, R82, R321). -/
def State.unitBusy (s : State) (w : Nat) : Bool :=
  (s.unit w).applyBusy || (s.unit w).checkBusy || ((s.unit w).amendBusy && !s.isComposite w) || s.portStopping w || s.isTarget w

/-- BUSY of any window (R61: any member's). -/
def State.busyOf (s : State) (w : Nat) : Bool :=
  s.unitBusy w || (s.isComposite w && ((s.unitsBelow w).any s.unitBusy || (s.compsBelow w).any s.isTarget))

/-- In WARM or RUN? -/
def State.live (s : State) (w : Nat) : Bool := s.atomState w == stWARM || s.atomState w == stRUN

/-! ## Events (R360, R361, R363) -/

/-- Is the event a summary event (S in R363)? -/
def isSummary (e : Nat) : Bool :=
  (31 ≤ e && e ≤ 44) || (46 ≤ e && e ≤ 58) || (64 ≤ e && e ≤ 90) || (96 ≤ e && e ≤ 116) ||
  (119 ≤ e && e ≤ 121)

/-- The summary event that a bit of a window's UNIT_EVENT feeds (R360, R363); 128 for none. -/
def summaryOf (w bit : Nat) : Nat :=
  let n := instOf w
  match kindOf w with
  | .root => if bit < 6 then 31 else 128
  | .composite => if bit < 6 then 31 else 128
  | .frontEnd => if bit = 16 ∨ bit = 17 ∨ bit = 20 then 32 + n else 58
  | .lowband => if bit = 16 ∨ bit = 17 ∨ bit = 20 then 36 else 58
  | .loSynth =>
    if bit < 6 then 58
    else if bit ≤ 19 then 37 + n / 2
    else if bit = 22 then 46 + n / 2
    else 41 + n / 2
  | .aerialFeed => if bit < 6 then 58 else 50 + n
  | .antMatrix => 58
  | .ddc => 64 + n / 8
  | .chanFilter => 64 + n / 8
  | .sideData => if bit = 22 then 89 else 64 + n / 8
  | .fmDemod => 64 + n / 6
  | .amDemod => 64 + n / 2
  | .ofdm => if bit = 20 ∨ bit = 21 then 89 else if bit = 22 then 90 else 72 + n
  | .follow => 88
  | .audioDec => 96 + n / 8
  | .audioLane => if bit = 18 then 101 else 96 + n / 8
  | .audioFilter => 96 + n / 8
  | .detector => if bit = 16 ∨ bit = 17 then 102 else if bit = 18 then 103 else 96 + n / 8
  | .asrc => 96 + n / 8
  | .audioPort =>
    if bit = 20 ∨ bit = 21 ∨ bit = 24 then 100 else if bit = 18 ∨ bit = 19 then 101 else 96 + n / 8
  | .queue => 104 + n / 16
  | .twc => if bit = 20 then 120 else if bit = 21 then 121 else 119
  | _ => 128

/-- The event bits of the unit control block (R55). -/
def evBits : List Nat := [0, 1, 2, 3, 4, 5, 16, 17, 18, 19, 20, 21, 22, 23, 24, 25, 26, 27, 28, 29, 30, 31]

/-- Does an enabled, latched bit of any UNIT_EVENT feed event `e`? -/
def State.unitFeeds (s : State) (e : Nat) : Bool :=
  s.regs.any (fun p => p.1 % 1024 == 3 && decide (p.1 / 1024 < 0x400) &&
    evBits.any (fun i => summaryOf (p.1 / 1024) i == e && p.2.getLsbD i &&
      (s.rd (p.1 / 1024) 0x010).getLsbD i))

/-- The level of a summary event: its unit bits, or the enabled bells of PH_MSG_n and BELL. -/
def State.summaryLevel (s : State) (e : Nat) : Bool :=
  let bells := s.board.toHost &&& s.rd blkPigeon BELL.BELL_TO_HOST_MASK.off
  if 108 ≤ e ∧ e ≤ 115 then bells.getLsbD (e - 108)
  else if e = 116 then decide (256 ≤ bells.toNat)
  else s.unitFeeds e

/-- Does EV_e read 1 in its latch? -/
def State.evLatched (s : State) (e : Nat) : Bool :=
  if isSummary e then s.summaryLevel e else s.board.latch.getLsbD e

/-- The enable bit of EV_e. -/
def State.evMasked (s : State) (e : Nat) : Bool :=
  (s.rd blkEvents (0x010 + 4 * (e / 32))).getLsbD (e % 32)

def State.evPending (s : State) (e : Nat) : Bool := s.evLatched e && s.evMasked e

/-- A frame handed to the Ferry link, in order (R461). -/
def State.sendFrame (s : State) (f : FrameX) : State :=
  { s with ferry := { s.ferry with sent := s.ferry.sent ++ [f] } }

/-- Frame kinds of the Ferry link (R461). -/
def frRead : Nat := 1
def frReadRsp : Nat := 2
def frWrite : Nat := 3
def frEvent : Nat := 4
def frMirror : Nat := 5
def frMessage : Nat := 6
def frHeartbeat : Nat := 7
def frReplayReq : Nat := 8
def frState : Nat := 9

/-- Is the chip a lead with its link up, and the mirror class on (R463)? -/
def State.mirrors (s : State) (cls : Nat) : Bool :=
  s.fld blkFerry FERRY.PAIR_STATUS_ROLE == 2 && s.flag blkFerry FERRY.PAIR_STATUS_LINK_UP &&
  (s.rd blkFerry FERRY.MIRROR_CFG_CLASSES.off).getLsbD cls

/-- A mirrored command or decision sent to the standby as a MESSAGE frame (R463). -/
def State.mirrorMsg (s : State) (cls : Nat) (ws : List Word) : State :=
  if s.mirrors cls then s.sendFrame { kind := frMessage, seq := 0, words := w32 cls :: ws } else s

/-- The Ferry route of R361: the occurrence is sent to the partner while the link is up. -/
def State.routeFerry (s : State) (e : Nat) : State :=
  if s.flag blkEvents (EV.EV_ROUTE_FERRY.at e) && s.flag blkFerry FERRY.PAIR_STATUS_LINK_UP then
    s.sendFrame { kind := frEvent, seq := 0, words := [w32 e] }
  else s

/-- A bell 8 to 31 rung by an event route: BELL becoming 1 is itself an occurrence, whose bell route
is refused at the write (R361). -/
def State.ringHigh (s : State) (b : Nat) : State :=
  let t := { s with board := { s.board with toHost := s.board.toHost ||| (1#32 <<< b) } }
  if !s.summaryLevel 116 && t.summaryLevel 116 && t.evMasked 116 then t.routeFerry 116 else t

/-- An event latches, or a summary becomes 1: its bell and Ferry routes act while its mask bit is 1
(R361). The IRQ route is a level, read from the latches. -/
def State.occur (s : State) (e : Nat) : State :=
  if s.evMasked e then
    (if s.flag blkEvents (EV.EV_ROUTE_BELL_EN.at e) then s.ringHigh (s.fld blkEvents (EV.EV_ROUTE_BELL.at e))
     else s).routeFerry e
  else s

/-- A direct event occurs: it latches, and its routes act on each occurrence (R360, R361). -/
def State.raise (s : State) (e : Nat) : State :=
  { s with board := { s.board with latch := s.board.latch ||| (1#128 <<< e) } }.occur e

/-- Host bells of firmware messages (R357): PH_MSG_n becoming 1 is an occurrence. -/
def State.ringBells (s : State) (v : Word) : State :=
  let t := { s with board := { s.board with toHost := s.board.toHost ||| v } }
  ([108, 109, 110, 111, 112, 113, 114, 115, 116].filter
    (fun e => !s.summaryLevel e && t.summaryLevel e)).foldl State.occur t

/-- A bit of a unit's UNIT_EVENT latches, whatever its mask (R55); where that makes its summary
event 1, the summary's routes act. -/
def State.raiseKind (s : State) (w bit : Nat) : State :=
  let t := s.wr w 0x00C (s.rd w 0x00C ||| (1#32 <<< bit))
  let e := summaryOf w bit
  if (s.rd w 0x010).getLsbD bit && !s.summaryLevel e && t.summaryLevel e then t.occur e else t

/-- Event bits 5:0 of R55. -/
def evSTATE : Nat := 0
def evVSET : Nat := 1
def evVCLR : Nat := 2
def evERROR : Nat := 3
def evSAT : Nat := 4
def evGEN : Nat := 5

/-! ## Statistics counters (R45, R46) -/

/-- Where a window's or block's overflow bits stand. -/
def ovfOff (b : Nat) : Nat := if b < 0x400 then 0x028 else if b = blkSys then 0x02C else 0x07C

/-- The overflow bit of the statistics counter at an offset, if there is one there. -/
def ctrBit? (b off : Nat) : Option Nat :=
  match regAt b off with
  | some r => r.flds.findSome? (fun f => match f.acc with
    | .ctr n => some n
    | _ => none)
  | none => none

/-- A statistics counter counts one: it stops at 0xFFFF_FFFF, where its overflow bit sets and
COUNTER_SATURATED is raised once. -/
def State.count (s : State) (b : Nat) (r : FRef) : State :=
  let v := s.rd b r.off
  if v = 0xFFFFFFFF then s
  else
    let t := s.wr b r.off (v + 1)
    if v + 1 = 0xFFFFFFFF then
      let bit := (ctrBit? b r.off).getD 0
      let t1 := t.wr b (ovfOff b) (t.rd b (ovfOff b) ||| (1#32 <<< bit))
      let t2 := if b < 0x400 then t1.raiseKind b evSAT else t1
      t2.raise 19
    else t

/-- A counter counts `n`. -/
def State.countN (s : State) (b : Nat) (r : FRef) : Nat → State
  | 0 => s
  | n + 1 => (s.count b r).countN b r n

/-- A write of any value to a statistics counter: it restarts, and its overflow bit clears. -/
def State.restartCounter (s : State) (b off : Nat) : State :=
  let t := s.wr b off 0
  match ctrBit? b off with
  | some bit => t.wr b (ovfOff b) (t.rd b (ovfOff b) &&& ~~~(1#32 <<< bit))
  | none => t

/-- A position counter advances; it wraps (R47). -/
def State.bump (s : State) (b : Nat) (r : FRef) (n : Nat := 1) : State :=
  s.wr b r.off (s.rd b r.off + w32 n)

/-! ## Status changes -/

/-- The windows listed once each. -/
def dedup : List Nat → List Nat
  | [] => []
  | a :: l => if a ∈ l then dedup l else a :: dedup l

/-- What STATE and VALID of a window read, for comparison across an operation. -/
def State.statusOf (s : State) (w : Nat) : Nat × Bool := (s.stateOf w, s.validOf w)

/-- STATE_CHANGED, VALID_SET and VALID_CLEARED of a window (R55). -/
def State.noteStatus (old : Nat × Bool) (w : Nat) (s : State) : State :=
  let s1 := if s.stateOf w ≠ old.1 then s.raiseKind w evSTATE else s
  let s2 := if !old.2 && s1.validOf w then s1.raiseKind w evVSET else s1
  if old.2 && !s2.validOf w then s2.raiseKind w evVCLR else s2

/-- The SIDE_DATA units that any output of a window feeds. -/
def State.sideSinks (s : State) (w : Nat) : List Nat :=
  (s.tree.links.filter (fun l => l.src == w && kindOf l.dst == .sideData)).map LinkX.dst

/-- The units whose input is the output of a window, in the order in which VALID passes on. -/
def State.dependents (s : State) (w : Nat) : List Nat :=
  match kindOf w with
  | .frontEnd => s.sinksOf w 0
  | .lowband => s.sinksOf w 0
  | .ddc => s.sinksOf w 0
  | .chanFilter => (s.sinksOf w 0).filter isDemod
  | .fmDemod => s.sideSinks w
  | .amDemod => s.sideSinks w
  | .ofdm => s.sideSinks w
  | .audioDec => s.sideSinks w
  | .audioLane => [w + 0x20]
  | .audioFilter => [w + 0x20, w + 0x40]
  | .asrc => s.sinksOf w 0
  | _ => []

/-- The window and everything below it whose VALID or hold may follow its own. -/
def State.affectedFuel (s : State) : Nat → Nat → List Nat
  | 0, w => [w]
  | n + 1, w => w :: (s.dependents w).flatMap (s.affectedFuel n)

def State.affected (s : State) (w : Nat) : List Nat := s.affectedFuel 5 w

/-- A fade of a filter unit completes at once, and a pending request is then carried out at once; each
change of ACTIVE raises FADE_DONE (R159). -/
def State.filterFlush (s : State) (w : Nat) : State :=
  if !s.flag w FILT.FILT_STATUS_FADING then s
  else
    let active := s.fld w FILT.FILT_STATUS_ACTIVE
    let t := (((s.put w FILT.FILT_STATUS_ACTIVE (1 - active)).put w FILT.FILT_STATUS_FADING 0).put w
      FILT.FILT_STATUS_FADE_POS 0).raiseKind w 16
    if t.flag w FILT.FILT_STATUS_PENDING then
      let dest := t.fld w FILT.FILT_STATUS_PENDING_TARGET
      let t1 := (t.put w FILT.FILT_STATUS_PENDING 0).put w FILT.FILT_STATUS_PENDING_TARGET 0
      if dest = 1 - active then t1 else (t1.put w FILT.FILT_STATUS_ACTIVE dest).raiseKind w 16
    else t

/-- Is the state WARM or RUN? -/
def liveState (st : Nat) : Bool := st == stWARM || st == stRUN

/-- The words 0x040 to 0x05C of a demodulator as they come into use at a 1 ms block (R197); slots 48 to 55 hold them. -/
def State.takeCfg (s : State) (w : Nat) : State :=
  (List.range 8).foldl (fun u i => u.setAx w (48 + i) (s.rd w (0x040 + 4 * i)).toNat) s

/-- A field of a demodulator's configuration as it is in use. -/
def State.used (s : State) (w : Nat) (r : FRef) : Nat := r.of (w32 (s.ax w (48 + (r.off - 0x040) / 4)))

/-- Each windowed report of a detector reads 0x8000 again (R169). -/
def State.detForget (s : State) (w : Nat) : State :=
  [DET.PEAK.off, DET.TRUE_PEAK.off, DET.RMS.off, DET.ENVELOPE.off, DET.MOMENTARY.off].foldl (fun u o => u.wr w o 0x80008000) s

/-- The 60 s of MPX_POWER start anew (R191). -/
def State.mpxForget (s : State) (w : Nat) : State := (s.setAx w 38 0).put w FM.MPX_POWER 0x8000

/-- A demodulator that comes from OFF has no metric yet (R191); one that enters WARM or RUN takes its configuration. -/
def State.fmHook (s : State) (w old st : Nat) : State :=
  let t := if old = stOFF then
    [FM.LEVEL_LEVEL_DBUV.off, FM.OFFSET.off, FM.DEVIATION.off, FM.SNR.off].foldl (fun u o => u.wr w o (rdef (rkey w o))) (s.mpxForget w)
    else s
  if liveState st ∧ !liveState old then t.takeCfg w else t

/-- An AM carrier PLL that starts anew: not locked, no envelope detection in use.
Mark DEDUCED: notes/assumptions/39.md. -/
def State.amUnlock (s : State) (w : Nat) : State :=
  (s.put w AM.AM_STATUS_CARRIER_LOCK 0).put w AM.AM_STATUS_ENVELOPE 0

/-- The same of an AM_DEMOD, whose carrier PLL starts anew outside HOLD (R186, R194). -/
def State.amHook (s : State) (w old st : Nat) : State :=
  let t := if old = stOFF then
    [AM.LEVEL_LEVEL_DBUV.off, AM.OFFSET.off, AM.MOD_DEPTH_NEG_DEPTH.off, AM.CNR.off].foldl (fun u o => u.wr w o (rdef (rkey w o))) s
    else s
  let t1 := if liveState st ∧ !liveState old then t.takeCfg w else t
  if st = stHOLD then t1 else if liveState st ∧ liveState old then t1 else t1.amUnlock w

/-- An engine searches from state 1: what it kept of the multiplex is discarded, except the selections (R206), and no metric
has a value yet (R225).
Mark DEDUCED: notes/assumptions/43.md. -/
def State.ofdmRestart (s : State) (w : Nat) : State :=
  let t := (((s.put w OFDM.OFDM_STATUS_SYNC_STATE 1).put w OFDM.OFDM_STATUS_MODE_DET 0).put w
    OFDM.OFDM_STATUS_SO_DET 0).put w OFDM.OFDM_STATUS_RECONF_PENDING 0
  let t0 := (((t.wr w OFDM.LEVEL_LEVEL_DBUV.off 0x8000).wr w OFDM.MER.off 0x8000).wr w OFDM.BRANCH_MER_A.off 0x80008000)
  let t00 := ((t0.wr w OFDM.OFFSET.off 0).wr w OFDM.SCO.off 0).wr w OFDM.BER_PRE.off 0
  let t1 := (((t00.setBl (w * 4 + 1) []).setBl (w * 4 + 2) []).setBl (w * 4 + 3) []).setAx w 34 0
  ((List.range 64).filter (fun i => s.flag w (OFDM.SEL_PRESENT.at i))).foldl
    (fun u i => u.put w (OFDM.SEL_PRESENT.at i) 0) ((t1.put w OFDM.MCI_SUBCH_COUNT 0).put w OFDM.MCI_CU_SELECTED 0)

/-- SYNC_STATE of an engine follows its STATE (R204, R207): 0 in OFF and IDLE; from HOLD it resumes at 7 if it
had begun and was in HOLD for less than RESYNC_MS (slot 32 holds when HOLD began), else at 1; Q is 0 outside state 6. -/
def State.ofdmHook (s : State) (w old st : Nat) : State :=
  let sync := s.fld w OFDM.OFDM_STATUS_SYNC_STATE
  let now := s.clock.uptime
  let t := if liveState old then s else s.setAx w 33 0
  if st = stOFF ∨ st = stIDLE then (t.put w OFDM.OFDM_STATUS_SYNC_STATE 0).put w OFDM.LEVEL_Q 0
  else if st = stHOLD then t.setAx w 32 now
  else if !liveState st then t
  else if old = stHOLD then
    if 1 ≤ sync ∧ now < s.ax w 32 + 24576 * s.fld w OFDM.SYNC_CFG_RESYNC_MS then
      (t.put w OFDM.OFDM_STATUS_SYNC_STATE 7).put w OFDM.LEVEL_Q 0
    else t.ofdmRestart w
  else if liveState old then t
  else t.ofdmRestart w

/-! ## Lanes, converters and ports at a change of STATE -/

/-- A fade that brings the playing input in from zero runs in the lane's blend stage: an announcement on the chain that
plays away already (R274). -/
def axFadeIn : Nat := 46

/-- A lane's cross-fade or blend completes at once (R292): PLAYING takes its target. -/
def State.laneFlush (s : State) (w : Nat) : State :=
  if s.flag w LANE.LANE_STATUS_FADING then
    ((s.put w LANE.LANE_STATUS_PLAYING (1 - s.fld w LANE.LANE_STATUS_PLAYING)).put w
      LANE.LANE_STATUS_FADING 0).raiseKind w 16
  else s.setAx w axFadeIn 0

/-- The delay store reads as invalid zeros (R288), and nothing waits to enter it. -/
def State.laneUnstored (s : State) (w : Nat) : State :=
  ((List.range 2).foldl (fun u i => (u.setHs w (8 + i) []).setHs w (21 + i) []) s).put w LANE.LANE_STATUS_IN0_VALID 0
    |>.put w LANE.LANE_STATUS_IN1_VALID 0

/-- The host streams of a lane that leaves WARM and RUN are not carried on: slots 34 to 39 hold, for each input,
that it restarts after an underrun, that it delivers, and the start it waits for. -/
def State.laneStop (s : State) (w : Nat) : State :=
  (List.range 6).foldl (fun u i => u.setAx w (34 + i) 0) s

/-- Slots of a lane's gain stage: the amplitude in force and the one from which the ramp started, in 2^-32; the ramp's place
and length in samples; its cause (1 a fault, 2 a save, 3 HOLD, 4 MUTE or the FOLLOW engine). -/
def axAmp : Nat := 41
def axAmpFrom : Nat := 42
def axRampAt : Nat := 43
def axRampLen : Nat := 44
def axRampWhy : Nat := 45

/-- A ramp starts from the gain in force and replaces one that runs (R291). -/
def State.rampStart (s : State) (w state why len : Nat) : State :=
  ((((s.put w LANE.LANE_STATUS_RAMP_STATE state).setAx w axAmpFrom (s.ax w axAmp)).setAx w axRampAt 0).setAx w axRampLen
    len).setAx w axRampWhy why

/-- A ramp of RAMP_MS towards GAIN starts. -/
def State.rampIn (s : State) (w : Nat) : State := s.rampStart w 1 0 (48 * s.fld w LANE.RAMP_RAMP_MS)

/-- What a FOLLOW engine asks of its lane: bit 0, the blend stage delivers zeros while an announcement is on its way; bit 1, the
lane is on its way to zero for a RECENTRE (R270, R274). -/
def axLaneAsk : Nat := 40

/-- d_cur returns to STANDING_MS, for the input that plays (R270). -/
def State.recentred (s : State) (f : Nat) : State :=
  let lane := winLane (instOf f)
  let d := s.fld f FOL.STANDING_MS
  ((s.put f FOL.DELAY_D_CUR_MS d).put lane
    (if s.fld lane LANE.LANE_STATUS_PLAYING = 0 then LANE.DELAY_DELAY0_MS else LANE.DELAY_DELAY1_MS) d).setAx lane axLaneAsk
    (s.ax lane axLaneAsk % 2)

/-- Does a lane wait to be at zero for a RECENTRE? -/
def State.recentres (s : State) (w : Nat) : Bool := s.ax w axLaneAsk / 2 % 2 == 1

/-- The output is at zero, and a RECENTRE that waited for it is carried out. -/
def State.rampZero (s : State) (w : Nat) : State :=
  let t := ((s.put w LANE.LANE_STATUS_RAMP_STATE 0).put w LANE.GAIN_NOW 0x8000).setAx w axAmp 0
  if s.recentres w then t.recentred (winFollow (instOf w)) else t

/-- Why a lane ramps to zero, the first that stands: a fault, a Saddlebag save, HOLD, or MUTE and the like. -/
def State.rampWhy (s : State) (w : Nat) : Nat :=
  let x := s.unit w
  if s.f3 || x.safe || x.selfFail then 1 else if x.hold / 4 % 2 = 1 then 2 else if s.atomState w = stHOLD then 3 else 4

/-- The length of a ramp to zero in samples: 2 ms, 0.5 ms, 1 ms, and RAMP_MS for MUTE (R291, R481). -/
def State.rampLen (s : State) (w why : Nat) : Nat :=
  if why = 1 then 96 else if why = 2 then 24 else if why = 3 then 48 else 48 * s.fld w LANE.RAMP_RAMP_MS

/-- The gain stage follows what the lane needs (R291): a valid, unmuted lane in WARM or RUN ramps in; one whose
playing input is not VALID is at zero at once; MUTE, HOLD, a save and the harmless state (R481) ramp to zero; OFF and IDLE are
at zero. A ramp to zero gives way to none away from zero while its cause stands, and to one to zero only for a cause that comes
before its own. RECENTRE holds the lane at zero too (R270); blends and announcements act in the blend stage and leave the
gain alone.
Mark DEDUCED: notes/assumptions/250.md. -/
def State.laneSteer (s : State) (w : Nat) : State :=
  let r := s.fld w LANE.LANE_STATUS_RAMP_STATE
  let st := s.atomState w
  let why := s.rampWhy w
  if liveState st && (s.unit w).valid && !s.flag w UCB.UNIT_CTL_MUTE && !s.recentres w && !s.f3 then
    if r = 0 ∨ r = 3 then s.rampIn w else s
  else if r = 0 then s
  else if st = stOFF ∨ st = stIDLE ∨ (liveState st ∧ !(s.unit w).valid) then s.rampZero w
  else if r = 3 ∧ s.ax w axRampWhy ≤ why then s
  else s.rampStart w 3 why (s.rampLen w why)

/-- The AUDIO_FILTER of a lane leaves WARM in one step from zero, and the lane ramps it in (R162). -/
def State.rampAnew (s : State) (w : Nat) : State :=
  if s.fld w LANE.LANE_STATUS_RAMP_STATE = 1 ∨ s.fld w LANE.LANE_STATUS_RAMP_STATE = 2 then (s.rampZero w).laneSteer w else s

/-- The ASRC's buffer is flushed into DISCARD_COUNT (R297, R298). -/
def State.asrcFlush (s : State) (w : Nat) : State :=
  ((((s.bump w ASRC.DISCARD_COUNT (s.fld w ASRC.ASRC_STATUS_FILL)).put w ASRC.ASRC_STATUS_FILL 0).setHs w 8 []).setHs w 10
    []).setAx w 1 0

/-- Frame rates by RATE code (R308). -/
def rateHz (c : Nat) : Nat :=
  [0, 8000, 11025, 12000, 16000, 22050, 24000, 32000, 44100, 48000, 64000, 88200, 96000, 176400, 192000].getD c 0

/-- The port whose clocks and framing a port uses (R315). -/
def State.clkPort (s : State) (w : Nat) : Nat := 0x220 + s.fld w PORT.PORT_GROUP_CLK_SRC

/-- CLOCKING of a port, its leader's (R315). -/
def State.portClocking (s : State) (w : Nat) : Nat := s.fld (s.clkPort w) PORT.PORT_CFG_CLOCKING

/-- The nominal frame rate of a port: its RATE, or with code 0 the rate that it reports (R308). -/
def State.portRate (s : State) (w : Nat) : Nat :=
  let c := s.fld (s.clkPort w) PORT.PORT_CFG_RATE
  rateHz (if c = 0 then s.fld w PORT.PORT_STATUS_DETECTED else c)

/-- The port that an ASRC feeds. -/
def State.asrcPort (s : State) (w : Nat) : Option Nat := s.sinksOf w 0 |>.find? (fun p => kindOf p == .audioPort)

/-- The deviation of a frame rate from the nominal `fs` in 0.01 ppm, for a mean frame period in 1/256 epoch count. -/
def devOf (fs period : Nat) : Int :=
  if fs * period = 0 then 0 else (6291456000 - (fs * period : Nat) : Int) * 100000000 / ((fs * period : Nat) : Int)

/-- The tracked deviation of an ASRC, in 2^-32 of 0.01 ppm: the integrator of its loop (R296). -/
def hsTrack : Nat := 11

/-- RATIO and RATIO_PPM for a deviation in 0.01 ppm, clamped at ±3 % (R296). -/
def State.asrcRatio (s : State) (w : Nat) (dev : Int) : State :=
  let d := clampI (-3000000) 3000000 dev
  (s.wr w ASRC.RATIO.off (w32 (roundAway (((s.fld w ASRC.NOMINAL_HZ : Nat) : Int) * (100000000 + d) * 16777216)
    4800000000000).toNat)).wr w ASRC.RATIO_PPM.off (BitVec.ofInt 32 d)

/-- MODE by the clocking of the port that the ASRC feeds (R296), with the nominal rate and the ratio: exact in
MODE 1 and rounded to Q8.24; a tracked one begins at what the port measured over its last 64 frames (R297).
Mark DEDUCED: notes/assumptions/57.md. -/
def State.asrcMode (s : State) (w : Nat) : State :=
  match s.asrcPort w with
  | none => ((s.put w ASRC.ASRC_STATUS_MODE 0).put w ASRC.NOMINAL_HZ 0).wr w ASRC.RATIO.off 0
  | some p =>
    let t := s.put w ASRC.NOMINAL_HZ (s.portRate p)
    if s.portClocking p = 0 then (t.put w ASRC.ASRC_STATUS_MODE 1).asrcRatio w 0
    else
      let d := devOf (s.portRate p) (s.rd p PORT.FRAME_PERIOD.off).toNat
      let t1 := (t.asrcRatio w d).setHs w hsTrack [d * 2 ^ 32]
      if s.flag p PORT.PORT_STATUS_CLOCK_LOST then (t1.put w ASRC.ASRC_STATUS_MODE 3).raiseKind w 17
      else t1.put w ASRC.ASRC_STATUS_MODE 2

/-- An ASRC sets its MODE when it enters WARM; leaving WARM, RUN and HOLD flushes it, and OFF and IDLE are MODE 0. In HOLD
its status stands (R57). -/
def State.asrcHook (s : State) (w old st : Nat) : State :=
  if liveState st then (if liveState old then s else s.asrcMode w)
  else if st = stHOLD then s
  else (if liveState old then s.asrcFlush w else s).put w ASRC.ASRC_STATUS_MODE 0

/-- Has a port output balls of its own or slots to drive: an output port, or one that makes BCLK as a master or hybrid
leader? -/
def State.portOut (s : State) (w : Nat) : Bool :=
  !s.flag w PORT.PORT_CFG_DIR || (s.clkPort w == w && s.fld w PORT.PORT_CFG_CLOCKING != 1)

/-- Are a port's balls to be driven (R333, R471): one with output balls, one that is paired only while this chip drives?
Mark DEDUCED: notes/assumptions/139.md. -/
def State.wantDrive (s : State) (w : Nat) : Bool :=
  s.portOut w && (!(s.rd blkFerry FERRY.PORT_PAIRED.off).getLsbD (instOf w) || s.ferry.driving)

/-- A tap block that is being gathered is dropped with the descriptors claimed for it. -/
def State.tapClear (s : State) (w : Nat) : State :=
  let q := s.fld w PORT.TAP_QUEUE
  let t := if s.ax w 43 = 0 then s else s.setAx q 32 (s.ax q 32 - s.ax w 43)
  ((((t.setAx w 43 0).setAx w 41 0).setAx w 46 0).setHs w 5 []).setHs w 6 []

/-- SLOT_MAP: the slots that an output port drives (R309). -/
def State.slotMap (s : State) (w : Nat) : Nat :=
  if s.flag w PORT.PORT_CFG_DIR then 0
  else match s.linkIn w 0 with
    | some l => (if s.flag (winLane (instOf l.src)) LANE.LANE_CFG_MONO then 1 else 3) * 2 ^ l.sel % 65536
    | none => 0

/-- Data is to return to some slots of a started port (R320): with ZC_START each waits for a zero crossing. Slot 34
holds the slots that wait. -/
def State.zcWait (s : State) (w slots : Nat) : State :=
  if s.flag w PORT.PORT_CTL_ZC_START && slots != 0 then
    (s.setAx w 34 (s.ax w 34 ||| slots)).put w PORT.PORT_STATUS_ZC_WAIT 1
  else s

/-- Data is to return to every slot that the port drives. -/
def State.zcArm (s : State) (w : Nat) : State := s.zcWait w (s.slotMap w)

/-- A port takes up its nominal rate, and a master's clock is there (R308, R312). -/
def State.portClocks (s : State) (w : Nat) : State :=
  (s.put w PORT.PORT_STATUS_DETECTED (s.fld (s.clkPort w) PORT.PORT_CFG_RATE)).putB w PORT.PORT_STATUS_CLK_OK
    (s.portClocking w == 0)

/-- What a port's STATE brings: it takes up its rate on entering WARM or HOLD from IDLE; on leaving WARM, RUN and HOLD it is not
started, waits for nothing and has no clock; OFF leaves its balls undriven (R318, R319). -/
def State.portHook (s : State) (w old st : Nat) : State :=
  let t := if st = stOFF then s.put w PORT.PORT_STATUS_DRIVING 0
    else if old = stOFF ∨ old = stIDLE then s.putB w PORT.PORT_STATUS_DRIVING (s.wantDrive w) else s
  if liveState st then
    if liveState old then t
    else if old = stHOLD then (if s.flag w PORT.PORT_STATUS_STARTED then (t.tapClear w).zcArm w else t.tapClear w)
    else t.portClocks w
  else if st = stHOLD then (if liveState old then t else t.portClocks w)
  else
    let t1 := (List.range 4).foldl (fun u i => u.setHs w (7 + i) []) ((((((t.setHs w 4 []).put w PORT.PORT_STATUS_STARTED 0).put w PORT.PORT_STATUS_CLOCK_LOST 0).put w
      PORT.PORT_STATUS_CLK_OK 0).put w PORT.PORT_STATUS_ZC_WAIT 0).tapClear w)
    (List.range 16).foldl (fun u i => if i = 8 ∨ i = 11 then u else u.setAx w (32 + i) 0) (t1.setAx w 40 0)

/-! ## Queues (R347, R527) -/

/-- The units that produce into a queue: the source of its link, the port or the decoder it taps. -/
def State.producersOf (s : State) (q : Nat) : List Nat :=
  (if s.srcOf q 0 = 0x3FF then [] else [s.srcOf q 0]) ++
  ((List.range 32).map winPort).filter (fun p => s.fld p PORT.TAP_QUEUE == q) ++
  (if s.fld q QUE.Q_CFG_TAP_DEC = 0x3FF then [] else [s.fld q QUE.Q_CFG_TAP_DEC])

/-- A queue whose RUN bit rises takes records again where neither it nor its producer is in SAFE or FAULT (slots 33 and 37:
a final descriptor is owed, STOPPED; slot 40 holds the bit as it last was); in WARM or RUN with its allocation granted and not
STOPPED it is VALID at once (R347, R527). -/
def State.queueHook (s : State) (w : Nat) : State :=
  let run := s.flag w UCB.UNIT_CTL_RUN
  let bad := (s.unit w).safe || (s.unit w).selfFail || (s.producersOf w).any (fun p => (s.unit p).safe || (s.unit p).selfFail)
  let t := (if run ∧ s.ax w 40 = 0 ∧ !bad then (s.setAx w 33 0).setAx w 37 0 else s).setAx w 40 run.toNat
  let v := liveState (s.atomState w) && s.fld w QUE.DEPTH != 0 && t.ax w 37 == 0
  if v = (s.unit w).valid then t else t.setUnit w { t.unit w with valid := v }

/-! ## The two-wire controller (R386, R387, R529) -/

/-- A transfer of the controller is abandoned: both FIFOs flushed, the bus let go, the line check of R387 owed.
Slot 32 says that the latest check found the bus ready, 33 counts restarts, 34 that the transfer waits for the bus,
35 that it waits after a lost arbitration, 36 that the bus is free. -/
def State.twcDrop (s : State) : State :=
  let w := winTWC
  let t := ((s.setBl (w * 4) []).setBl (w * 4 + 1) []).put w TWC.TWC_STATUS_ACTIVE 0
  (List.range 5).foldl (fun u i => u.setAx w (32 + i) 0) (t.put w TWC.TWC_STATUS_HOLDING 0)

/-- The controller's STATE: OFF lets everything go; ENABLE rising clears BUS_STUCK and owes a check; a controller that
comes to WARM with a check that found the bus ready is VALID. -/
def State.twcHook (s : State) (old st : Nat) : State :=
  let w := winTWC
  if st = stOFF then s.twcDrop
  else
    let t := if old = stOFF then s.put w TWC.TWC_STATUS_BUS_STUCK 0 else s
    if liveState st && !liveState old && old != stHOLD && t.ax w 32 == 1 then t.setUnit w { t.unit w with valid := true }
    else if old = stHOLD ∧ liveState st then t.twcDrop else t

/-- Where the collections of a SIDE_DATA unit stand among the byte lists. -/
def sdBase (w : Nat) : Nat := 4294967296 * (1 + w)

/-- A SIDE_DATA unit that starts anew: what it has collected is gone, and its status with it (R56, R59).
Mark DEDUCED: notes/assumptions/101.md. -/
def State.sdRestart (s : State) (w : Nat) : State :=
  let t := (((s.wr w 0x080 0).wr w 0x084 0).wr w 0x088 0).wr w 0x08C 0
  { t with bytes := Store.dropRange (sdBase w) (sdBase (w + 1)) t.bytes }

/-! ## Service following at a change of STATE (R261, R266) -/

/-- A borrowed unit switched off. -/
def State.scoutOff (s : State) (w : Nat) : State :=
  let old := s.statusOf w
  let t := (s.wr w 0x004 0).setUnit w { s.unit w with valid := false, lent := 0 }
  let t1 := match kindOf w with
    | .chanFilter => t.filterFlush w
    | .ofdm => t.ofdmHook w (s.atomState w) stOFF
    | .sideData => t.sdRestart w
    | .amDemod => t.amUnlock w
    | .audioDec => ((t.wr w 0x080 0).wr w 0x084 0).wr w 0x088 0
    | _ => t
  (t1.clearHistory w).noteStatus old w

/-- The selection entry of an engine that names a sink on an output. -/
def State.selOf (s : State) (e d o : Nat) : Option Nat :=
  (List.range 64).find? (fun i => s.fld e (OFDM.SEL_SINK.at i) == d && s.fld e (OFDM.SEL_OUTPUT.at i) == o)

/-- The scout chain of an engine given back: its units off, their links gone, and the selection entry of a running
engine that fed it unused again. -/
def State.dropScouts (s : State) (f : Nat) : State :=
  let ws := (s.hs f 0).map Int.toNat
  let sel := s.tree.links.filter (fun l => ws.contains l.dst && !ws.contains l.src && kindOf l.src == .ofdm)
  let t := sel.foldl (fun u l => match u.selOf l.src l.dst l.out with
    | some i => u.wr l.src (OFDM.SEL_SINK.at i).off 0x3FF
    | none => u) s
  let t1 := { t with tree := { t.tree with links := t.tree.links.filter (fun l => !ws.contains l.src && !ws.contains l.dst) } }
  (ws.foldl (fun u w => u.scoutOff w) t1).setHs f 0 []

/-- The engine starts in WATCH, or STAY, playing home with the standing delay (R266).
Mark DEDUCED: notes/assumptions/117.md. -/
def State.followStart (s : State) (f : Nat) : State :=
  let n := f - 0x290
  let lane := winLane n
  let t := ((s.put lane LANE.DELAY_DELAY0_MS (s.fld f FOL.STANDING_MS)).put lane LANE.LANE_STATUS_PLAYING 0).put lane
    LANE.LANE_STATUS_FADING 0
  let t1 := ((t.wr f 0x080 (if s.flag f FOL.FOLLOW_CTL_STAY then 7 else 1)).wr f 0x084 0xFFFFFFFF).wr f 0x088 0xFFFFFFFF
  ((t1.wr f 0x08C 0).wr f 0x098 (w32 (s.fld f FOL.STANDING_MS))).put f FOL.TRIM 0

/-- What the engine does is dropped: scouts given back, the lane at home, nothing waiting. -/
def State.followDrop (s : State) (f : Nat) : State :=
  let lane := winLane (f - 0x290)
  (((((s.dropScouts f).put lane LANE.LANE_STATUS_PLAYING 0).put lane LANE.LANE_STATUS_FADING 0).setAx lane axLaneAsk 0).setAx lane axFadeIn 0).clearHistory f

/-- FOLLOW_STATUS follows the unit's STATE: WATCH as RUN rises with input 0 of the lane bound, OFF outside RUN. The unit
is VALID when input 0 is (R260). -/
def State.followHook (s : State) (f old st : Nat) : State :=
  let lane := winLane (f - 0x290)
  let q := s.srcOf lane 0
  if liveState st then
    if liveState old ∨ q = 0x3FF then s
    else
      let t := s.followStart f
      t.setUnit f { t.unit f with valid := if kindOf q = .queue then t.ax lane 36 == 1 else (t.unit q).valid }
  else if s.fld f FOL.FOLLOW_STATUS_STATE = 0 then s
  else (s.followDrop f).put f FOL.FOLLOW_STATUS_STATE 0

/-- What belongs to a kind at a change of its STATE, from `old` to `st`. A filter's fade does not outlive WARM
and RUN (R159); an AM carrier PLL starts anew outside HOLD (R186, R194); an engine follows R204 and R207. -/
def State.stateHook (s : State) (w old st : Nat) : State :=
  match kindOf w with
  | .chanFilter => if liveState st then s else s.filterFlush w
  | .audioFilter => if liveState st then s else s.filterFlush w
  | .detector => if old = stOFF then ((s.detForget w).setHs w 32 []).put w DET.INTEGRATED 0x8000 else s
  | .fmDemod => s.fmHook w old st
  | .amDemod => s.amHook w old st
  | .ofdm => s.ofdmHook w old st
  | .sideData => if st = stOFF then s.sdRestart w else s
  | .audioLane => if liveState st then s else if st = stHOLD then (s.laneFlush w).laneStop w
    else ((s.laneFlush w).laneStop w).laneUnstored w
  | .audioDec => if st = stOFF then ((s.wr w 0x080 0).wr w 0x084 0).wr w 0x088 0 else s
  | .asrc => s.asrcHook w old st
  | .audioPort => s.portHook w old st
  | .twc => s.twcHook old st
  | .queue => s
  | .follow => s.followHook w old st
  | _ => s

/-- What a synchronising reset brings to a kind beside its history. -/
def State.resetHook (s : State) (w : Nat) : State :=
  match kindOf w with
  | .chanFilter => s.filterFlush w
  | .audioFilter => s.filterFlush w
  | .detector => s.detForget w
  | .fmDemod => s.mpxForget w
  | .amDemod => s.amUnlock w
  | .ofdm => if s.live w then s.ofdmRestart w else s
  | .sideData => s.sdRestart w
  | .audioLane => (s.laneFlush w).laneUnstored w
  | .asrc => s.asrcFlush w
  | .audioPort => s.tapClear w
  | .twc => s.twcDrop
  | .follow => if s.live w then (s.followDrop w).followStart w else s
  | _ => s

/-- The kinds that count outputs towards W (R161, R169). -/
def warms (w : Nat) : Bool :=
  match kindOf w with
  | .ddc => true
  | .chanFilter => true
  | .audioFilter => true
  | .detector => true
  | _ => false

/-- What a unit's new STATE itself brings: a unit that is not in WARM or RUN, or whose input is not VALID,
is not VALID (R55, R57, R161), and one whose input is not counts its outputs anew; OFF discards all history; leaving HOLD is a
synchronising reset (R57), of which an engine makes R207 and which leaves MPX_POWER as it is (R191).
Mark DEDUCED: notes/assumptions/249.md. -/
def State.settle (old : Nat) (w : Nat) (s : State) : State :=
  if s.isComposite w then s
  else
    let st := s.atomState w
    let s1 := if (s.unit w).valid && !(liveState st && s.inputValid w) then
      s.setUnit w { s.unit w with valid := false } else s
    let s1 := if warms w && !s.inputValid w then s1.setAx w 0 0 else s1
    let s2 := if old = st then s1
      else if old = stHOLD ∧ kindOf w ≠ .ofdm ∧ kindOf w ≠ .fmDemod then (s1.resetHook w).stateHook w old st
      else s1.stateHook w old st
    let s3 := if st = stOFF ∨ (old = stHOLD ∧ old ≠ st) then s2.clearHistory w else s2
    if kindOf w = .audioLane then s3.laneSteer w else if kindOf w = .queue then s3.queueHook w else s3

/-- An operation on one unit, with what follows from its change of STATE and VALID in it and in the units
below it: their own STATE and VALID, and the events of each and of every composite above any of them. -/
def State.watch (s : State) (w : Nat) (f : State → State) : State :=
  let ws := dedup (s.affected w)
  let ups := dedup (ws ++ ws.flatMap s.ancestors)
  let old := ups.map (fun u => (u, s.statusOf u))
  let t := ws.foldl (fun t u => t.settle (s.atomState u) u) (f s)
  old.foldl (fun t p => t.noteStatus p.2 p.1) t

/-- VALID of a unit set or cleared, with its events. -/
def State.setValid (s : State) (w : Nat) (v : Bool) : State :=
  let t := s.watch w (fun t => t.setUnit w { t.unit w with valid := v })
  if kindOf w = .audioFilter ∧ v ∧ !(s.unit w).valid then t.rampAnew (w - 0x20) else t

/-- A synchronising reset (R59, R160): every delay line and accumulator zeroed, a fade completed, and a unit
in WARM or RUN back in WARM. -/
def State.syncReset (s : State) (w : Nat) : State :=
  s.watch w (fun t => (((t.resetHook w).clearHistory w)).setUnit w { t.unit w with valid := false })

/-- The causes of an internal hold (R57), one bit each. -/
def holdAmend : Nat := 1
def holdLO : Nat := 2
def holdSave : Nat := 4
def holdFE : Nat := 8
def holdFollow : Nat := 16

def State.addHold (s : State) (cause w : Nat) : State :=
  s.watch w (fun t => t.setUnit w { t.unit w with hold := (t.unit w).hold ||| cause })

def State.dropHold (s : State) (cause w : Nat) : State :=
  s.watch w (fun t => t.setUnit w
    { t.unit w with hold := (t.unit w).hold - ((t.unit w).hold &&& cause) })

/-! ## UNIT_GEN (R60) -/

/-- Units whose values were committed in one cycle: each counts once, and so does each composite
above any of them, however many it holds. -/
def State.bumpGens (s : State) (ws : List Nat) : State :=
  (dedup (ws ++ ws.flatMap s.ancestors)).foldl
    (fun t w => (t.wr w 0x02C (t.rd w 0x02C + 1)).raiseKind w evGEN) s

/-! ## Codes and faults -/

/-- UNIT_ERR takes a code, which raises ERROR (R55). -/
def State.setErr (s : State) (w code : Nat) : State := (s.put w UCB.UNIT_ERR_CODE code).raiseKind w evERROR

/-- SYS_ACCESS_INFO and SYS_ACCESS_ADDR record a failed access or a refused write outside the unit
windows (R36, R50). -/
def State.setAccess (s : State) (m : Nat) (addr : Nat) (write : Bool) (code : Nat) : State :=
  (s.wr blkSys 0x020 (w32 addr)).wr blkSys 0x024
    (w32 (code % 65536 + (m % 16) * 65536 + write.toNat * 1048576))

/-- An access failure of R25. -/
def State.accessFail (s : State) (m addr : Nat) (write : Bool) (code : Nat) : State :=
  ((s.setAccess m addr write code).count blkSys SYS.SYS_ACCESS_COUNT).raise 20

/-- The highest class of a standing fault, 255 for none (R478). -/
def State.highestClass (s : State) : Nat :=
  s.fw.standing.foldl (fun a f => if a = 255 ∨ a < f.cls then f.cls else a) 255

/-- A message the firmware sends: pushed whole into TH when it has room for every word, else kept
until it has (R355); the bell of the pigeonhole then rings (R357). -/
def State.fifo (s : State) (toHost : Bool) (n : Nat) : FifoX :=
  Store.get (fun _ => FifoX.init) (if toHost then s.th else s.td) n

def State.setFifo (s : State) (toHost : Bool) (n : Nat) (f : FifoX) : State :=
  if toHost then { s with th := Store.set (fun _ => FifoX.init) s.th n f }
  else { s with td := Store.set (fun _ => FifoX.init) s.td n f }

/-- CROSSED of a pigeonhole (R354). -/
def State.crossed (s : State) (n : Nat) : Bool :=
  !(s.fifo false n).words.isEmpty && !(s.fifo true n).words.isEmpty &&
  (s.fifo false n).emptyReq && (s.fifo true n).emptyReq

/-- An operation on a pigeonhole, with PH_COLLISION at a rise of CROSSED (R354). -/
def State.onPigeon (s : State) (n : Nat) (f : State → State) : State :=
  if !s.crossed n && (f s).crossed n then (f s).raise 118 else f s

/-- Words appended to a direction of a pigeonhole that has room for them. -/
def State.appendFifo (s : State) (toHost : Bool) (n : Nat) (ws : List Word) : State :=
  s.onPigeon n (fun t => t.setFifo toHost n { t.fifo toHost n with words := (t.fifo toHost n).words ++ ws })

def State.pushMsg (s : State) (m : MsgX) : State :=
  (s.appendFifo true m.ph m.words).ringBells (1#32 <<< m.ph)

/-- The waiting messages that now find room are pushed, oldest first within a pigeonhole.
Mark DEDUCED: notes/assumptions/181.md. -/
def State.drainOutbox (s : State) (n : Nat) : State :=
  match s.fw.outbox.find? (fun m => m.ph == n) with
  | some m =>
    if (s.fifo true n).words.length + m.words.length ≤ 8 then
      ({ s with fw := { s.fw with outbox := s.fw.outbox.erase m } }).pushMsg m
    else s
  | none => s

def State.sendMsg (s : State) (m : MsgX) : State :=
  if !(s.fw.outbox.any (fun x => x.ph == m.ph)) && (s.fifo true m.ph).words.length + m.words.length ≤ 8 then
    s.pushMsg m
  else { s with fw := { s.fw with outbox := s.fw.outbox ++ [m] } }

/-- Word 0 of a message (R357). -/
def msgHead (opcode tag n : Nat) : Word := w32 (opcode % 256 * 16777216 + tag % 256 * 65536 + n)

/-- A reply: the command's opcode and tag, then its argument words with CODE first. A command that the lead mirrored is
not answered (R464). -/
def State.reply (s : State) (ph opcode tag : Nat) (args : List Word) : State :=
  if s.ferry.quiet then s else s.sendMsg { ph := ph, words := msgHead opcode tag args.length :: args }

/-- SYS_NOTICE on PH_0, sent only where its kind is enabled and firmware runs (R358). -/
def State.notice (s : State) (kind code detail : Nat) : State :=
  if s.fw.inService && s.fw.noticeMask.getLsbD kind then
    s.sendMsg { ph := 0, words := [msgHead 0x05 0 3, w32 kind, w32 code, w32 detail] }
  else s

/-- SYS_NOTICE kind 3 at a change of the highest class standing. -/
def State.noteClass (old : Nat) (s : State) : State :=
  if s.highestClass = old then s else s.notice 3 0 s.highestClass

/-- A declared fault (R478): its DETAIL is the one given for an ECC error and otherwise free, since no code but 0x0F11
defines it (R485); FAULT_RAISED, the code in UNIT_ERR or SYS_ACCESS_INFO, a log entry, and
its place among the faults that stand (`lasting`, or any class above F0). At F2 and F3 FAULT_RAISED
acts on every IRQ pin until its latch is cleared (R482).
Mark DEDUCED: notes/assumptions/140.md.
Mark DEDUCED: notes/assumptions/141.md. -/
def State.declare (s0 : State) (f0 : FaultX) (lasting : Bool) : State :=
  let f := if f0.code = 0x0F11 then f0 else { f0 with detail := s0.freshWord }
  let s := if f0.code = 0x0F11 then s0 else s0.useFresh
  let old := s.highestClass
  let s1 := s.raise 21
  let s2 := if f.win < 0x3FF then s1.setErr f.win f.code
            else s1.wr blkSys 0x024 (SYS.SYS_ACCESS_INFO_CODE.put (s1.rd blkSys 0x024) f.code)
  let s3 := { s2 with
    fw := { s2.fw with
      latestCode := f.code
      logQueue := s2.fw.logQueue ++ [(f, s2.power.rtc.extractLsb' 0 32)]
      standing := if (lasting || decide (1 ≤ f.cls)) && !(s2.fw.standing.any (fun g => g.code == f.code && g.win == f.win))
                  then s2.fw.standing ++ [f] else s2.fw.standing }
    power := if 2 ≤ f.cls then { s2.power with failSafe := true } else s2.power }
  s3.noteClass old

/-- A fault that stood ends: its cause no longer stands (R484). -/
def State.endFault (s : State) (p : FaultX → Bool) : State :=
  let old := s.highestClass
  { s with fw := { s.fw with standing := s.fw.standing.filter (fun f => !p f) } }.noteClass old

/-- An F0 that stands for no time (R478).
Mark DESIGN CHOICE: notes/assumptions/138.md. -/
def State.declareF0 (s : State) (code win : Nat) (detail : Word := 0) : State :=
  s.declare { cls := 0, code := code, win := win, detail := detail } false

/-- A unit goes to SAFE for a cause (R478, F1): its outputs take the harmless state, which the
registers of the unit and of its queues show. -/
def State.markSafe (s : State) (w code : Nat) (stands : Bool) : State :=
  s.watch w (fun t => t.setUnit w { t.unit w with safe := true, cause := code, causeStands := stands })

/-- A unit goes to FAULT: its self-check failed (R56, R479). -/
def State.markFault (s : State) (w code : Nat) : State :=
  s.watch w (fun t => t.setUnit w { t.unit w with selfFail := true, cause := code, causeStands := true })

/-! ## Refused writes (R50, R479) -/

/-- One second of the epoch (R395). -/
def secondTicks : Nat := 24576000

/-- A refused write in a unit window: its code, its place in the sliding second, and 0x0F20 when that
second's count rises above 256.
Mark DEDUCED: notes/assumptions/15.md. -/
def State.refuseUnit (s : State) (w code : Nat) : State :=
  let s1 := s.setErr w code
  let now := s1.clock.uptime
  let kept := (s1.unit w).refusals.filter (fun t => now < t + secondTicks) ++ [now]
  let s2 := s1.setUnit w { s1.unit w with refusals := kept, storm := decide (256 < kept.length) }
  if 256 < kept.length ∧ !((s1.unit w).storm && decide (256 < kept.length - 1)) then
    s2.declareF0 0x0F20 w
  else s2

/-! ## Time -/

/-- Audio-master edges pass: the count of them moves, and the RTC by one tick for each 750 (R411). -/
def State.passTicks (s : State) (n : Nat) : State :=
  let u := s.clock.uptime
  { s with clock := { s.clock with uptime := u + n }
           power := { s.power with rtc := s.power.rtc + BitVec.ofNat 48 ((u + n) / 750 - u / 750) } }

/-- The epoch taken to a value that a command names, if that lies ahead of it by modular difference
(R47): time passes between commands.
Mark DESIGN CHOICE: notes/assumptions/4.md. -/
def State.advanceTo (s : State) (e : BitVec 64) : State :=
  if 0 ≤ (e - s.clock.epoch).toInt then ({ s with clock := { s.clock with epoch := e } }).passTicks (e - s.clock.epoch).toNat
  else s

/-- One period of the audio master: the epoch counts it once the root has locked (R401, R408).
Mark DESIGN CHOICE: notes/assumptions/118.md. -/
def idleTick (s : State) : State :=
  if s.clock.everLocked && s.power.die == 0 then
    ({ s with clock := { s.clock with epoch := s.clock.epoch + 1 } }).passTicks 1
  else s

end Sys2Proof.Machine
end

