-- ==== Sys2Proof/Machine/Numeric.lean ====
section
/-! DEFINITION. Arithmetic of the signal paths: quotients, roots, gains, exponentials, rotations and angles in fixed
point with 96 fractional bits, and linear filters (notes/assumptions/234.md, notes/assumptions/235.md). -/

namespace Sys2Proof.Machine

/-- One in fixed point. -/
def one96 : Nat := 2 ^ 96

/-- The quotient of integers where its rounding is not stated: exact where it is whole, else one of the two
integers beside it as `up` says. -/
def between (num : Int) (den : Nat) (up : Bool) : Int :=
  if num % den = 0 then num / den else if up then num / den + 1 else num / den

/-- The largest value above `lo`, within `2 ^ n`, up to which `p` holds; `lo` where it holds nowhere. -/
def climb (p : Int → Bool) : Nat → Int → Int
  | 0, lo => lo
  | n + 1, lo => if p (lo + 2 ^ n) then climb p n (lo + 2 ^ n) else climb p n lo

/-- The square root of `n`, rounded as `up` says. -/
def rootOf (n : Nat) (up : Bool) : Nat :=
  let r := (climb (fun v => decide (v.toNat * v.toNat ≤ n)) 128 0).toNat
  if up && r * r != n then r + 1 else r

/-- The amplitude of a complex value. -/
def amplitude (x y : Int) (up : Bool) : Nat := rootOf (x.natAbs * x.natAbs + y.natAbs * y.natAbs) up

/-! ## Gains and exponentials -/

/-- Is `v` at most `a` · 10^(g / 2000)? -/
def gainHolds (a v : Nat) (g : Int) : Bool :=
  if 0 ≤ g then decide (v ^ 2000 ≤ a ^ 2000 * 10 ^ g.toNat) else decide (v ^ 2000 * 10 ^ (-g).toNat ≤ a ^ 2000)

/-- `x` · 10^(g / 2000), a gain of `g` in 0.01 dB: exact where it is whole, else one of the two integers beside it as `up`
says.
Mark DESIGN CHOICE: notes/assumptions/47.md. -/
def gained (x g : Int) (up : Bool) : Int :=
  let a := x.natAbs
  let n := (climb (fun v => gainHolds a v.toNat g) 64 0).toNat
  let whole := decide (g = 0) || (gainHolds a n g && gainHolds n a (-g))
  let m : Int := ((if whole || up == decide (x < 0) then n else n + 1 : Nat) : Int)
  if x < 0 then -m else m

/-- `n` terms of the series of e^x from term `k` on, x = `num / den`, where that term is `t`. -/
def expTerms (num : Int) (den : Nat) : Nat → Nat → Int → Int
  | 0, _, _ => 0
  | n + 1, k, t => t + expTerms num den n (k + 1) (t * num / ((den * (k + 1) : Nat) : Int))

/-- e^(num / den) in fixed point, for an exponent of at most 3 in magnitude.
Mark DESIGN CHOICE: notes/assumptions/234.md. -/
def expOf (num : Int) (den : Nat) : Int := expTerms num den 64 0 one96

/-- ln 10 in fixed point. -/
def ln10 : Nat := 182429585950654714090129938606

/-- 10^(num / den) in fixed point. -/
def tenTo (num : Int) (den : Nat) : Int :=
  let e := expOf (num % den * ln10) (den * one96)
  if 0 ≤ num / (den : Int) then e * 10 ^ (num / (den : Int)).toNat else e / 10 ^ (-(num / (den : Int))).toNat

/-- One step of a first-order follower that keeps 32 bits below its unit: e moves towards x by 1 − exp(−p / q) of the
distance. -/
def followStep (p q : Nat) (e x : Int) (up : Bool) : Int :=
  e + between ((x * 2 ^ 32 - e) * (one96 - expOf (-(p : Int)) q)) one96 up

/-! ## Rotations and angles -/

/-- The cosine and sine of 2π / 2^k for k = 1 to 20. -/
def roots : List (Int × Int) :=
  [(-79228162514264337593543950336, 0), (0, 79228162514264337593543950336),
   (56022770974786139918731938227, 56022770974786139918731938227),
   (73197277745406789746128126514, 30319305170937817432302117203),
   (77705815587385459894767493986, 15456647737653972240398692356),
   (78846657256498550044590935806, 7765717923213880508008574353),
   (79132728722732187244728061659, 3887541675809670510355249493),
   (79204300472980947526267393315, 1944356441712994098036199278),
   (79222196779339056064285443064, 972251429601035097806954306),
   (79226671066494975824533590136, 486134866151990591466405863),
   (79227789651444615435502306173, 243068577003004720891563897),
   (79228069298504570632279043702, 121534431492630892444982651),
   (79228139210320968575859978290, 60767233620214398787300339),
   (79228156688278281134271721838, 30383619044344814903834065),
   (79228161057767810090922444878, 15191809801452117091927406),
   (79228162150140204881150854605, 7595904935636022491628671),
   (79228162423233304363149568883, 3797952472181756746543196),
   (79228162491506579282676848252, 1898976236636346561097729),
   (79228162508574898015622893145, 949488118386356804034475),
   (79228162512841977699050918434, 474744059201701342453169)]

/-- The product of two complex values, the first in fixed point. -/
def cmul (a b : Int × Int) : Int × Int := ((a.1 * b.1 - a.2 * b.2) / one96, (a.1 * b.2 + a.2 * b.1) / one96)

/-- The product of those of the roots that the bits of a phase name, the highest bit first. -/
def turned (phase : Nat) : List (Int × Int) → Int × Int → Int × Int
  | [], z => z
  | r :: rs, z => turned phase rs (if phase / 2 ^ rs.length % 2 = 1 then cmul r z else z)

/-- The cosine and sine of 2π · phase / 2^20. -/
def cisOf (phase : Nat) : Int × Int := turned phase roots (one96, 0)

/-- `x` · e^(−j2π · phase / 2^20), each part rounded to one of the two integers beside it. -/
def rotatedBack (phase : Nat) (x : Int × Int) (up : Nat → Bool) : Int × Int :=
  let c := cisOf phase
  (between (x.1 * c.1 + x.2 * c.2) one96 (up 0), between (x.2 * c.1 - x.1 * c.2) one96 (up 1))

/-- `n` bits of the angle of x + jy as a fraction of a turn, 0 for 0: each squaring doubles the angle. -/
def turnBits : Nat → Int → Int → Nat
  | 0, _, _ => 0
  | n + 1, x, y =>
    let b := decide (y < 0) || (y == 0 && decide (x < 0))
    let u := x * x - y * y
    let v := 2 * x * y
    let k := Nat.log2 (Nat.max u.natAbs v.natAbs) - 160
    b.toNat * 2 ^ n + turnBits n (u / 2 ^ k) (v / 2 ^ k)

/-- The phase from `p` to `x` in 2^-48 turns, −2^47 to 2^47 − 1. -/
def phaseStep (p x : Int × Int) : Int :=
  signed 48 (turnBits 48 (x.1 * p.1 + x.2 * p.2) (x.2 * p.1 - x.1 * p.2))

/-! ## Linear filters -/

/-- The sum of products of coefficients and samples, newest sample first. -/
def dot (h xs : List Int) : Int := (h.zip xs).foldl (fun a p => a + p.1 * p.2) 0

/-- The output of a filter whose coefficients have 24 fractional bits. -/
def firOut (h xs : List Int) (up : Bool) : Int := between (dot h xs) (2 ^ 24) up

/-- A linear-phase filter of 2 · half + 1 taps with a gain of exactly 1 at DC: its coefficients are not stated, and its
middle one follows from the others. -/
def symTaps (side : List Int) : List Int := side ++ [2 ^ 24 - 2 * side.foldl (· + ·) 0] ++ side.reverse

/-- The coefficients that are not stated of one side of a filter of the kind `g`. -/
def freeSide (g : Config.Filter) (p half : Nat) : List Int := (List.range half).map (Config.tap g p)

/-- A free value within bounds that the spec gives: it, or where it breaks them one that is known to keep them. -/
def within (ok : List Int → Bool) (free known : List Int) : List Int := if ok free then free else known

/-- The response of a linear-phase filter where cos ω is `n` / 1024, with 120 fractional bits: Chebyshev's recurrence over
the middle coefficient and twice each pair, from T of `k` − 1 and of `k`. -/
def responseFrom (n : Int) : List Int → Int → Int → Int
  | [], _, _ => 0
  | a :: l, p, t => a * t + responseFrom n l t (2 * n * t / 1024 - p)

/-- The response of a filter from its middle coefficient outwards. -/
def response (mid : Int) (side : List Int) (n : Int) : Int :=
  responseFrom n (mid :: side.map (2 * ·)) (n * one96 / 1024) one96

/-- Is the magnitude of the response less `g` at most 1 / `d` for every n / 1024 from `lo` over `k` steps? -/
def ripples (mid : Int) (side : List Int) (g : Int) (d : Nat) (lo : Int) (k : Nat) : Bool :=
  (List.range k).all (fun j => decide ((response mid side (lo + j) - g * 2 ^ 120).natAbs * d ≤ 2 ^ 120))

/-- Both sides of a half-band filter of 63 taps: every second coefficient is 0 beside the middle one. -/
def everySecond (odd : List Int) : List Int := (odd.flatMap (fun h => [h, 0])).take 31

/-- 100 dB of attenuation from 0.3 of the input rate on, and with it, by the half-band symmetry, ±0.001 dB up to 0.2 (R145):
at every 1/1024 of cos ω. -/
def halfBandOk (odd : List Int) : Bool := ripples (2 ^ 23) (everySecond odd) 0 100000 (-1024) 708

/-- A half-band filter that keeps the bounds: its odd coefficients from the middle outwards. -/
def halfBandKnown : List Int :=
  [5316427, -1709489, 954085, -610788, 409737, -277766, 186629, -122690, 78106, -47679, 27604, -14949, 7426, -3280, 1214, -333]

/-- The 63 taps of a fixed half-band filter with 24 fractional bits (R145). -/
def halfBandTaps (g : Config.Filter) (p : Nat) : List Int :=
  let side := everySecond (within halfBandOk (freeSide g p 16) halfBandKnown)
  side.reverse ++ [2 ^ 23] ++ side

/-- cos ω · 1024, rounded down, at a phase of 2^-20 turns each sample. -/
def cosPlace (phase : Nat) : Int := (cisOf phase).1 / 2 ^ 86

/-- A sinc of cut-off `fc` (2^-20 turns each sample) under Blackman's window over 255 taps: coefficient `k` from the middle. -/
def sincTap (fc k : Nat) : Int :=
  let w := 42 * (one96 : Int) + 50 * (cisOf (4096 * k)).1 + 8 * (cisOf (8192 * k)).1
  (cisOf (fc * k % 2 ^ 20)).2 * w / (100 * one96) * 2 ^ 24 / (248902613312231085230521944622 * (k : Int))

/-- The same under Blackman and Harris's window of four terms over 511 taps, for a gain of `g` at DC. -/
def sharpTap (g fc k : Nat) : Int :=
  let c := fun (j : Nat) => (cisOf (2048 * j * k % 2 ^ 20)).1
  let w := 35875 * (one96 : Int) + 48829 * c 1 + 14128 * c 2 + 1168 * c 3
  (g : Int) * (cisOf (fc * k % 2 ^ 20)).2 * w / (100000 * one96) * 2 ^ 24 / (248902613312231085230521944622 * (k : Int))

/-! ## Conversion by a fixed ratio (R281) -/

/-- The ratio of 48 kHz to a decoded rate. -/
def rateRatio (hz : Nat) : Nat × Nat :=
  if hz = 32000 then (3, 2) else if hz = 24000 then (2, 1) else if hz = 16000 then (3, 1) else if hz = 12000 then (4, 1)
  else if hz = 9600 then (5, 1) else if hz = 19200 then (5, 2) else if hz = 38400 then (5, 4) else (1, 1)

/-- Is a side of the filter that interpolates by `l` within ±0.05 dB up to 0.45 of the decoded rate, with images 100 dB down
from 0.55 of it on? -/
def toLaneOk (l : Nat) (side : List Int) : Bool :=
  let mid := (l : Int) * 2 ^ 24 - 2 * side.foldl (· + ·) 0
  let p := cosPlace (471859 / l) + 1
  let q := cosPlace (576717 / l)
  ripples mid side l (173 / l + 1) p (1025 - p).toNat && ripples mid side 0 (100000 / l + 1) (-1024) (q + 1025).toNat

/-- Its 511 taps at `l` times the decoded rate, with a gain of `l` at DC. -/
def toLaneTaps (l : Nat) : List Int :=
  let side := within (toLaneOk l) (freeSide .toLane l 255) ((List.range 255).map (fun k => sharpTap l (524288 / l) (k + 1)))
  side.reverse ++ [(l : Int) * 2 ^ 24 - 2 * side.foldl (· + ·) 0] ++ side

/-- The taps that meet the samples at place `r` between two of them. -/
def phaseTaps (h : List Int) (l r : Nat) : List Int := (List.range (h.length / l + 1)).map (fun j => h.getD (r + j * l) 0)

/-- Pairs converted by the ratio `l` / `m`: the outputs, the pairs kept (newest first) and the place of the next output after
the newest input, in parts of `l`. -/
def resample (h : List Int) (l m : Nat) (up : Nat → Bool) :
    List (Int × Int) → List (Int × Int) → Nat → List (Int × Int) × List (Int × Int) × Nat
  | [], kept, place => ([], kept, place)
  | x :: xs, kept, place =>
    let k := (x :: kept).take 256
    let rs := ((List.range 5).map (fun i => place + m * i)).filter (fun r => decide (r < l))
    let ys := rs.map (fun r => let c := phaseTaps h l r
      (firOut c (k.map Prod.fst) (up (2 * (5 * xs.length + r))), firOut c (k.map Prod.snd) (up (2 * (5 * xs.length + r) + 1))))
    let t := resample h l m up xs k (place + m * rs.length - l)
    (ys ++ t.1, t.2)

end Sys2Proof.Machine
end

