-- ==== Sys2Proof/Machine/Flags.lean ====
section
/-! DEFINITION. What the registers that the device derives read as: the unit control block (R55, R56,
R61), the SYS block (R36–R42), the event board (R360–R362), the pigeonholes and bells (R351, R359),
queue credits (R344) and the composite and loader registers (R87). -/

namespace Sys2Proof.Machine

def b2n (b : Bool) : Nat := if b then 1 else 0

/-- The least element of a list, `d` for none. -/
def leastOf (d : Nat) (l : List Nat) : Nat := l.foldl Nat.min d

/-! ## The unit control block -/

/-- HOLD_CAUSE (R55): 1 control, 2 internal, 3 both, while STATE is HOLD. -/
def State.holdCause (s : State) (w : Nat) : Nat :=
  if s.atomState w = stHOLD then
    b2n (s.flag w UCB.UNIT_CTL_HOLD) + 2 * b2n (s.innerHeld w)
  else 0

def State.unitId (s : State) (w : Nat) : Word :=
  if s.present w then w32 (kindCode (kindOf w) * 16777216 + instOf w * 65536 + 1) else 0

def State.unitStatus (s : State) (w : Nat) : Word :=
  w32 (s.stateOf w + 8 * b2n (s.validOf w) + 16 * b2n (s.busyOf w) +
    32 * b2n (s.unit w).applyPending + 64 * (if s.isComposite w then 0 else s.holdCause w))

def State.unitParent (s : State) (w : Nat) : Word :=
  w32 (s.parentOf w + (if s.parentOf w = 0x3FF then 0 else 2147483648))

def State.unitChildren (s : State) (w : Nat) : Word :=
  let ms := s.unitsOf w ++ s.compsOf w
  w32 (leastOf 0x3FF ms + 65536 * ms.length)

def State.unitLinkIn (s : State) (w : Nat) : Word :=
  let n := (s.tree.links.filter (fun l => l.dst == w)).length
  match s.linkIn w 0 with
  | some l => w32 (l.src + 1024 * l.out + 65536 * n)
  | none => w32 (0x3FF + 65536 * n)

def State.unitLinkOut (s : State) (w : Nat) : Word :=
  let ls := s.tree.links.filter (fun l => l.src == w)
  w32 (leastOf 0x3FF (ls.map LinkX.dst) + 65536 * ls.length)

/-- UNIT_POWER of a unit: the latest estimate, and 0 in OFF (R524). -/
def State.unitPower (s : State) (w : Nat) : Nat :=
  if s.atomState w = stOFF then 0 else s.fld w UCB.UNIT_POWER_POWER

/-- UNIT_POWER of any window; a composite's is the sum over everything in it but what is lent (R61, R524). -/
def State.powerOf (s : State) (w : Nat) : Nat :=
  if s.isComposite w then
    Nat.min 0xFFFF (((s.unitsBelow w).filter (fun u => (s.unit u).lent == 0)).foldl
      (fun a u => a + s.unitPower u) 0)
  else s.unitPower w

def State.ucbRead (s : State) (w off : Nat) : Word :=
  if off = 0x000 then s.unitId w
  else if off = 0x008 then s.unitStatus w
  else if off = 0x014 then s.unitParent w
  else if off = 0x018 then s.unitChildren w
  else if off = 0x01C then s.unitLinkIn w
  else if off = 0x020 then s.unitLinkOut w
  else if off = 0x030 then w32 (s.powerOf w)
  else s.rd w off

/-! ## SYS -/

/-- The owner of a semaphore, 9 for none (R39). -/
def State.semOwner (s : State) (n : Nat) : Nat := Store.get (fun _ => 9) s.sems n

def State.setSem (s : State) (n owner : Nat) : State :=
  { s with sems := Store.set (fun _ => 9) s.sems n owner }

/-- What SEM_n and SEM_PEEK_n read (R39, R42). -/
def State.semWord (s : State) (n : Nat) : Word :=
  if s.semOwner n < 9 then w32 (0x80 + s.semOwner n) else 0

def State.semHeld (s : State) : Word :=
  w32 ((List.range 32).foldl (fun a n => a + b2n (s.semOwner n < 9) * 2 ^ n) 0)

def partCode (p : Part) : Nat := if p.reduced then 0x3216 else 0x6432
def gradeCode (p : Part) : Nat := if p.gradeI then 0x49 else 0x41

def State.sysRead (s : State) (m off : Nat) : Word :=
  if off = 0x000 then w32 (partCode s.part * 65536 + gradeCode s.part * 256 + 0xB1)
  else if off = 0x004 then w32 (b2n s.part.reduced + 2 * b2n s.part.sigRequired)
  else if off = 0x008 then s.part.uid.extractLsb' 0 32
  else if off = 0x00C then s.part.uid.extractLsb' 32 32
  else if off = 0x010 then w32 m
  else if off = 0x030 then s.clock.epoch.extractLsb' 0 32
  else if off = 0x034 then s.clock.epoch.extractLsb' 32 32
  else if off = 0x040 then s.clock.snap.extractLsb' 0 32
  else if off = 0x044 then s.clock.snap.extractLsb' 32 32
  else if off = 0x054 then s.semHeld
  else if 0x100 ≤ off ∧ off < 0x180 then s.semWord ((off - 0x100) / 4)
  else if 0x180 ≤ off ∧ off < 0x200 then s.semWord ((off - 0x180) / 4)
  else s.rd blkSys off

/-! ## The event board -/

/-- A bank of 32 flags as a word. -/
def bankWord (f : Nat → Bool) (k : Nat) : Word :=
  w32 ((List.range 32).foldl (fun a i => a + b2n (f (32 * k + i)) * 2 ^ i) 0)

/-- The pending events routed to pin `p`, lowest first. -/
def State.irqEvents (s : State) (p : Nat) : List Nat :=
  (List.range 128).filter (fun e => s.evPending e && (s.rd blkEvents (0x200 + 4 * e)).getLsbD p)

/-- Does IRQ_p assert (R361)? A declaration of F2 or F3 asserts every pin until FAULT_RAISED is
cleared, and F3 every pin until the device leaves it (R482). -/
def State.irqAsserted (s : State) (p : Nat) : Bool :=
  !(s.irqEvents p).isEmpty || (s.power.failSafe && s.board.latch.getLsbD 21) ||
    s.fw.standing.any (fun f => f.cls == 3)

/-- FAULT_N is asserted while the highest class standing is F2 or F3 (R478, R484). -/
def State.faultN (s : State) : Bool := s.fw.standing.any (fun f => decide (2 ≤ f.cls))

def State.eventsRead (s : State) (off : Nat) : Word :=
  if off < 0x010 then bankWord s.evLatched (off / 4)
  else if 0x020 ≤ off ∧ off < 0x030 then bankWord s.evPending ((off - 0x020) / 4)
  else if off = 0x044 then w32 ((List.range 4).foldl (fun a p => a + b2n (s.irqAsserted p) * 2 ^ p) 0)
  else if 0x050 ≤ off ∧ off < 0x060 then
    match s.irqEvents ((off - 0x050) / 4) with
    | e :: _ => w32 e
    | [] => w32 0x80
  else s.rd blkEvents off

/-! ## Pigeonholes and bells -/

def State.phStat (s : State) (n : Nat) : Word :=
  let td := s.fifo false n
  let th := s.fifo true n
  w32 (td.words.length % 16 + 16 * b2n td.collision + 32 * b2n td.emptyReq + 64 * b2n td.emptied +
    65536 * (th.words.length % 16 + 16 * b2n th.collision + 32 * b2n th.emptyReq + 64 * b2n th.emptied) +
    2147483648 * b2n (s.crossed n))

/-- A register of the pigeonhole block as a plain read shows it; a pop register shows its oldest word
(the pop itself is PH_TD_POP or PH_TH_POP). -/
def State.pigeonRead (s : State) (off : Nat) : Word :=
  if off < 0x100 then
    let n := off / 0x20
    if off % 0x20 = 0x04 then (s.fifo false n).words.headD 0
    else if off % 0x20 = 0x0C then (s.fifo true n).words.headD 0
    else if off % 0x20 = 0x10 then s.phStat n
    else 0
  else if off = 0x100 ∨ off = 0x104 then s.board.toDev
  else if off = 0x110 ∨ off = 0x114 then s.board.toHost
  else s.rd blkPigeon off

/-! ## Queues (R344) -/

/-- Hidden slots of a QUEUE window. -/
def axQHeld : Nat := 32
def axQFinal : Nat := 33
def axQBufTail : Nat := 34
def axQSeq : Nat := 35
def axQBytes : Nat := 36
def axQStop : Nat := 37

/-- One more than the epoch of the last producer commit of a queue. -/
def axQCommit : Nat := 38

def State.qProd (s : State) (w : Nat) : Word := s.rd w QUE.Q_PROD.off
def State.qCons (s : State) (w : Nat) : Word := s.rd w QUE.Q_CONS.off
def State.qDepth (s : State) (w : Nat) : Nat := s.fld w QUE.DEPTH
def State.qToHost (s : State) (w : Nat) : Bool := !s.flag w QUE.Q_CFG_DIR

/-- Descriptors posted and not yet freed: Q_PROD − Q_CONS. -/
def State.qSpan (s : State) (w : Nat) : Nat := (s.qProd w - s.qCons w).toNat

/-- The filled term of R344. -/
def State.qFilled (s : State) (w : Nat) : Nat :=
  if s.qToHost w then s.qSpan w else s.qSpan w - s.ax w axQHeld

/-- Free descriptors: DEPTH − filled − held (R344). -/
def State.qFree (s : State) (w : Nat) : Nat := s.qDepth w - s.qFilled w - s.ax w axQHeld

/-- Free buffer bytes of a device-to-host queue (R342). -/
def State.qBufFree (s : State) (w : Nat) : Nat := s.fld w QUE.BUF_SIZE - s.ax w axQBytes

/-- May FREE read one less, a producer having committed in this period of the audio master (R344)? Whether it does is
free.
Mark DEDUCED: notes/assumptions/211.md. -/
def State.freeLags (s : State) (w : Nat) : Bool := s.ax w axQCommit == s.clock.epoch.toNat + 1

def State.queueRead (s : State) (w off : Nat) : Word :=
  if off = 0x060 then w32 (s.qFree w - b2n (s.freeLags w && s.freshWord.getLsbD 0) + 65536 * s.ax w axQHeld)
  else if off = 0x068 then
    w32 (b2n (s.qFilled w == 0) + 2 * b2n (s.qFree w == 0 && s.qDepth w != 0) + 4 * b2n (s.ax w axQStop != 0))
  else if off = 0x06C then (if s.qToHost w then w32 (s.qBufFree w) else 0)
  else s.rd w off

/-! ## Channels -/

/-- Is FE_2k in mode 3, so that FE_2k+1 shares its channels (R110)? -/
def State.mode3 (s : State) (f : Nat) : Bool :=
  (f == 0x010 || f == 0x012) && s.fld f FE.DIV_CTL_MODE == 3

/-- BRANCHES of a DDC: 2 under diversity mode 3 (R148, R150). -/
def State.branches (s : State) (d : Nat) : Nat := if s.mode3 (s.srcOf d 0) then 2 else 1

/-! ## Composites and the loader (R87) -/

/-- 256-byte units that a ring of 2^d descriptors takes (R75). -/
def ringUnits (d : Nat) : Nat := (16 * 2 ^ d + 255) / 256

/-- Queue RAM in use: the runs of units held by rings and buffers (R526). -/
def State.qRuns (s : State) : List (Nat × Nat) :=
  (s.tree.allocs.filter (fun a => a.pool == 2)).flatMap
    (fun a => [(a.ring, ringUnits a.depthLog2), (a.buf, a.bytes / 256)])

def unitTaken (runs : List (Nat × Nat)) (u : Nat) : Bool := runs.any (fun r => r.1 ≤ u && u < r.1 + r.2)

def State.freeQUnits (s : State) : Nat := 8192 - s.qRuns.foldl (fun a r => a + r.2) 0

/-- The start of a free run can only be 0 or the end of a run in use. -/
def runStarts (runs : List (Nat × Nat)) : List Nat := 0 :: runs.map (fun r => r.1 + r.2)

/-- The length of the free run that starts at `u`: up to the nearest used unit, or the end. -/
def freeRunAt (runs : List (Nat × Nat)) (u : Nat) : Nat :=
  if unitTaken runs u then 0
  else leastOf 8192 ((runs.filter (fun r => u < r.1 && 0 < r.2)).map Prod.fst) - u

def State.largestQRun (s : State) : Nat :=
  ((runStarts s.qRuns).map (freeRunAt s.qRuns)).foldl Nat.max 0

/-- Delay-store blocks of 4,096 bytes held by a lane (R75, R300). -/
def State.dsBlocks (s : State) (w : Nat) : Nat :=
  (s.tree.allocs.filter (fun a => a.pool == 1 && a.win == w)).foldl (fun n a => n + a.bytes / 4096) 0

def State.freeDsBlocks (s : State) : Nat :=
  2048 - (s.tree.allocs.filter (fun a => a.pool == 1)).foldl (fun n a => n + a.bytes / 4096) 0

def State.freeComposites (s : State) : Nat := 255 - s.tree.comps.length

def State.compRead (s : State) (w off : Nat) : Word :=
  if off = 0x040 then (if w = 0 then 0x544F4F52 else ((s.comp? w).map CompX.label).getD 0)
  else if off = 0x044 then (if w = 0 then s.tree.manifestId else ((s.comp? w).map CompX.manifestId).getD 0)
  else if off = 0x048 then w32 ((s.unitsOf w).length + 65536 * (s.compsOf w).length)
  else if w = 0 ∧ off = 0x08C then w32 (s.freeComposites + 65536 * s.freeDsBlocks)
  else if w = 0 ∧ off = 0x090 then w32 (s.freeQUnits + 65536 * s.largestQRun)
  else s.rd w off

/-! ## The Keeper's clock -/

def State.keeperRead (s : State) (off : Nat) : Word :=
  if off = 0x020 then s.power.rtc.extractLsb' 0 32
  else if off = 0x024 then (s.power.rtc.extractLsb' 32 16).setWidth 32
  else s.rd blkKpr off

end Sys2Proof.Machine
end

