-- ==== Sys2Proof/Machine/Access.lean ====
section
/-! DEFINITION. What every register write goes through: absent windows (R3, R26), the ports before the
first root lock (R490), read-only registers (R25, R519), reserved offsets, refusals and the one code
each records (R50, R517, R518), and how a plain register takes the value written (R10). Reading a
64-bit register through its latch (R12, R48). -/

namespace Sys2Proof.Machine

/-- The first byte of a window or block (R24, R53). -/
def baseOf (b : Nat) : Nat :=
  if b < 0x400 then 0x00400000 + b * 0x1000
  else if b = blkSys then 0x00100000
  else if b = blkEvents then 0x00101000
  else if b = blkPigeon then 0x00102000
  else if b = blkHost then 0x00104000
  else if b = blkNv then 0x00106000
  else if b = blkCore then 0x00107000
  else if b = blkFerry then 0x00108000
  else if b = blkClk then 0x00200000
  else if b = blkKpr then 0x00201000
  else 0x00202000

/-- The one code a refused write records, in the order of R517.
Mark DEDUCED: notes/assumptions/14.md. -/
def pickCode (codes : List Nat) : Option Nat :=
  if 0x0121 ∈ codes then some 0x0121
  else if 0x0312 ∈ codes then some 0x0312
  else if 0x0203 ∈ codes then some 0x0203
  else if 0x0201 ∈ codes then some 0x0201
  else if 0x0202 ∈ codes then some 0x0202
  else match codes with
    | [] => none
    | c :: r => some (r.foldl Nat.min c)

/-- The codes that any write to a unit register may meet: the unit's use (R84, R255), a restricted
field in the wrong state (R518), and the values of its fields (R50). -/
def State.commonCodes (s : State) (w off : Nat) (v : Word) (r : RegD) : List Nat :=
  (if (s.unit w).amendBusy && (off == 0x004 || decide (0x040 ≤ off)) then [0x0121] else []) ++
  (if (s.unit w).lent != 0 && (off == 0x004 || decide (0x040 ≤ off)) then [0x0312] else []) ++
  (if r.stateRefuse (s.atomState w) (s.rd w off).toNat v.toNat then [0x0203] else []) ++
  (r.valueRefuse v.toNat).toList

/-- Do the host ports answer: the main die is in service, and no save or standby entry is under way (R382, R434)? -/
def State.portsAnswer (s : State) : Bool := s.power.die == 0 && s.power.saving == 0

/-- An access goes nowhere while the main die is not in service, and for the host ports from the start of a save on
(R382); before the first root lock the host ports reach only the blocks of R490.
Mark DEDUCED: notes/assumptions/13.md.
Mark DEDUCED: notes/assumptions/153.md. -/
def hostLimited (s : State) (m b : Nat) : Bool :=
  s.power.die != 0 || ((m == 5 || m == 6) && (!s.portsAnswer || (!s.clock.everLocked &&
  !(b == blkSys || b == blkEvents || b == blkPigeon || b == blkHost || b == blkNv || b == blkClk || b == blkKpr))))

/-! ## Mirroring (R463–R466) -/

def State.setMirror (s : State) (n : Nat) : State := s.put blkFerry FERRY.PAIR_STATUS_MIRROR_STATE n

/-- A code recorded where no window is concerned (R478).
Mark DEDUCED: notes/assumptions/134.md. -/
def State.recordCode (s : State) (code : Nat) : State :=
  s.wr blkSys 0x024 (SYS.SYS_ACCESS_INFO_CODE.put (s.rd blkSys 0x024) code)

/-- A resync starts: the full state is sent, and nothing older is kept for replay.
Mark DESIGN CHOICE: notes/assumptions/129.md. -/
def State.resyncStart (s : State) : State :=
  let t := ((s.setMirror 1).count blkFerry FERRY.RESYNC_COUNT).recordCode 0x0908
  { t with ferry := { t.ferry with replay := [] } }.sendFrame { kind := frState, seq := t.rd blkFerry FERRY.TX_SEQ.off, words := [] }

/-- A mirrored write goes out with the next SEQ, and is kept for replay; a full buffer starts a resync. -/
def State.mirrorWrite (s : State) (addr v : Word) : State :=
  let t := s.bump blkFerry FERRY.TX_SEQ
  let f : FrameX := { kind := frMirror, seq := t.rd blkFerry FERRY.TX_SEQ.off, words := [addr, v] }
  let u := { t with ferry := { t.ferry with replay := t.ferry.replay ++ [f] } }.sendFrame f
  if 1024 < u.ferry.replay.length then u.resyncStart else u

/-- Does the lead mirror a host's write of a register: of the unit windows, EV_MASK, EV_ROUTE and IRQ_CFG (CONFIG), or of
the Q_PROD of a host-to-device queue (HOST_PCM)?
Mark DEDUCED: notes/assumptions/137.md. -/
def State.mirrorsReg (s : State) (m b off : Nat) : Bool :=
  (m == 5 || m == 6) &&
  ((s.mirrors 0 && (decide (b < 0x400) || (b == blkEvents &&
      ((decide (0x010 ≤ off) && decide (off < 0x020)) || off == 0x040 || decide (0x200 ≤ off))))) ||
   (s.mirrors 4 && kindOf b == .queue && off == QUE.Q_PROD.off && s.flag b QUE.Q_CFG_DIR))

/-- A write to a window or block: refused, failed, ignored, or acted on by `act`. `extra` lists the
refusal codes beyond the common ones that the write meets. -/
def State.judged (s : State) (m b off : Nat) (v : Word) (extra : List Nat) (act : State → State) : State :=
  if b < 0x400 && !s.present b then s
  else match regAt b off with
    | none => s
    | some r =>
      if r.readOnly then s.accessFail m (baseOf b + off) true 0x0703
      else if b < 0x400 then
        match pickCode (s.commonCodes b off v r ++ extra) with
        | some c => s.refuseUnit b c
        | none => act s
      else
        match pickCode ((r.valueRefuse v.toNat).toList ++ extra) with
        | some c => s.setAccess m (baseOf b + off) true c
        | none => act s

/-- The same write where it reaches the block at all, mirrored to the standby whatever becomes of it here (R463, R464). -/
def State.guarded (s : State) (m b off : Nat) (v : Word) (extra : List Nat) (act : State → State) : State :=
  if hostLimited s m b then s
  else if s.mirrorsReg m b off then (s.judged m b off v extra act).mirrorWrite (w32 (baseOf b + off)) v
  else s.judged m b off v extra act

/-- A field of a register after a plain write of word `v` over word `old` (R10). -/
def Fld.written (f : Fld) (old v : Nat) : Nat :=
  match f.acc with
  | .rw => f.of v
  | .w1c => f.of old - (f.of old &&& f.of v)
  | .w1s => f.of old ||| f.of v
  | .ctr _ => 0
  | .peak => f.rst % 2 ^ (f.msb - f.lsb + 1)
  | .ro => f.of old
  | .rc => f.of old
  | .wo => 0

/-- A register after a plain write: field by field, reserved bits 0 (R49). -/
def RegD.written (r : RegD) (old v : Nat) : Nat :=
  r.flds.foldl (fun a f => a + f.written old v * 2 ^ f.lsb) 0

/-- A plain write takes effect. -/
def State.store (s : State) (b off : Nat) (v : Word) : State :=
  match regAt b off with
  | none => s
  | some r =>
    if (ctrBit? b off).isSome then s.restartCounter b off
    else s.wr b off (w32 (r.written (s.rd b off).toNat v.toNat))

/-! ## 64-bit registers (R12, R48) -/

/-- The high-word offset of a 64-bit register read low word first, by the offset of its low word. -/
def hiOf (b off : Nat) : Option Nat :=
  match kindOf b with
  | .sys => if off = 0x008 ∨ off = 0x030 ∨ off = 0x040 then some (off + 4) else none
  | .audioPort =>
    if off = 0x088 ∨ off = 0x090 then some (off + 4)
    else if b = 0x220 then
      if off = 0x280 then some 0x284
      else if 0x214 ≤ off ∧ off ≤ 0x274 ∧ off % 16 = 4 then some (0x2A0 + 4 * ((off - 0x204) / 16))
      else if 0x218 ≤ off ∧ off ≤ 0x278 ∧ off % 16 = 8 then some (off + 4)
      else none
    else none
  | .keeper => if off = 0x020 ∨ off = 0x028 then some (off + 4) else if off = 0x034 then some 0x038 else none
  | .clocks => if off = 0x020 then some 0x024 else none
  | .ferry => if off = 0x028 then some 0x02C else none
  | _ => none

/-- The low-word offset by the offset of the high word. -/
def loOf (b off : Nat) : Option Nat :=
  match kindOf b with
  | .audioPort =>
    if b = 0x220 ∧ 0x2A4 ≤ off ∧ off ≤ 0x2BC then some (0x204 + 16 * ((off - 0x2A0) / 4))
    else if 4 ≤ off ∧ (hiOf b (off - 4)) = some off then some (off - 4) else none
  | _ => if 4 ≤ off ∧ (hiOf b (off - 4)) = some off then some (off - 4) else none

/-- The latch of a master for a 64-bit register: one per master and register, and one for each master of the partner,
numbered from 16 (R48, R28). -/
def lkey (m b off : Nat) : Nat := rkey b off * 32 + m

def State.latched (s : State) (m b off : Nat) : Word := Store.get (fun _ => 0) s.readLatch (lkey m b off)

def State.setLatch (s : State) (m b off : Nat) (v : Word) : State :=
  { s with readLatch := Store.set (fun _ => 0) s.readLatch (lkey m b off) v }

def State.heldLow (s : State) (m b off : Nat) : Word := Store.get (fun _ => 0) s.writeLatch (lkey m b off)

def State.setHeldLow (s : State) (m b off : Nat) (v : Word) : State :=
  { s with writeLatch := Store.set (fun _ => 0) s.writeLatch (lkey m b off) v }

/-- A write to either half of a writable 64-bit register: the low word is held for its master, and
the write of the high word commits both halves (R48). A commit does not use the held word up: a high word written with no new
low word before it commits the master's last one again, 0 where it never wrote one.
Mark DESIGN CHOICE: notes/assumptions/261.md. -/
def State.store64 (s : State) (m b off : Nat) (v : Word) : State :=
  match loOf b off with
  | some lo => (s.store b lo (s.heldLow m b lo)).store b off v
  | none => s.setHeldLow m b off v

end Sys2Proof.Machine
end

