-- ==== Sys2Proof/Machine/Queues.lean ====
section
/-! DEFINITION. Queues (R338–R350, R526, R527): placing records, taking and retiring host
descriptors, the index writes, raw IQ blocks and the final descriptor. -/

namespace Sys2Proof.Machine

/-- KIND_EVENTS of QUEUE (R350). -/
def evQThreshold : Nat := 16
def evQEmpty : Nat := 17
def evQDropped : Nat := 18
def evQDescError : Nat := 19
def evQStopped : Nat := 20

/-- Queue RAM's first byte (R24). -/
def qramBase : Nat := 0x01000000

def align4 (n : Nat) : Nat := (n + 3) / 4 * 4

/-- The byte address of descriptor `k` (R341). -/
def State.descAddr (s : State) (w : Nat) (k : Word) : Nat :=
  (s.rd w QUE.RING_BASE.off).toNat + 16 * (k.toNat % Nat.max 1 (s.qDepth w))

/-- LENGTH of descriptor `k`. -/
def State.descLen (s : State) (w : Nat) (k : Word) : Nat := (s.rdWord (s.descAddr w k + 4)).toNat % 65536

/-- The parts of a record of `n` bytes placed at buffer offset `t` of `size` bytes (R342): a part
that meets the end of the buffer, or would pass 65,535 bytes, continues in the next descriptor.
`fuel` bounds the parts. -/
def recordParts (size : Nat) : Nat → Nat → Nat → List (Nat × Nat)
  | 0, t, n => [(t, n)]
  | fuel + 1, t, n =>
    if n ≤ Nat.min 65535 (size - t) then [(t, n)]
    else
      let p := Nat.min 65532 (size - t)
      (t, p) :: recordParts size fuel (if t + p = size then 0 else t + p) (n - p)

/-- Where the next record's data goes: the 4-byte boundary after the last part. -/
def tailAfter (size : Nat) (parts : List (Nat × Nat)) (t : Nat) : Nat :=
  match parts.getLast? with
  | some p => if align4 (p.1 + p.2) = size then 0 else align4 (p.1 + p.2)
  | none => t

/-- The buffer bytes that a record takes, its padding to the next boundary included.
Mark DEDUCED: notes/assumptions/180.md. -/
def partsBytes (parts : List (Nat × Nat)) : Nat := parts.foldl (fun a p => a + align4 p.2) 0

/-- Bits 15:8 of word 0 (R339). -/
structure DFlags where
  err : Bool
  mark : Bool
  warm : Bool
  deriving DecidableEq, Repr

/-- A record as its producer makes it. -/
structure Rec where
  type : Nat
  source : Nat
  flags : DFlags
  time : Word
  data : List Byte
  deriving DecidableEq, Repr

/-- The producer has committed descriptors (R344). -/
def State.qCommitted (s : State) (w : Nat) : State := s.setAx w axQCommit (s.clock.epoch.toNat + 1)

def descWord0 (type source seq : Nat) (cont : Bool) (f : DFlags) : Word :=
  w32 (type * 16777216 + source % 256 * 65536 + seq % 256 +
    256 * (1 + 2 * b2n cont + 4 * b2n f.err + 8 * b2n f.mark + 16 * b2n f.warm))

/-- One descriptor with its data: the data, words 1 to 3, and word 0 last (R339, R342). -/
def State.putDesc (s : State) (w : Nat) (k : Word) (r : Rec) (seq : Nat) (part : Nat × Nat) (cont : Bool)
    (data : List Byte) : State :=
  let a := s.descAddr w k
  let base := (s.rd w QUE.BUF_BASE.off).toNat + part.1
  ((((s.wrBytes base data).wrWord (a + 4) (w32 part.2)).wrWord (a + 8) r.time).wrWord (a + 12)
    (w32 (base - qramBase))).wrWord a (descWord0 r.type r.source seq cont r.flags)

/-- The descriptors of a record, from index `k` on. -/
def State.putParts (s : State) (w : Nat) (r : Rec) (k : Word) (seq : Nat) (data : List Byte) :
    List (Nat × Nat) → State
  | [] => s
  | [p] => s.putDesc w k r seq p false (data.take p.2)
  | p :: q :: ps =>
    (s.putDesc w k r seq p true (data.take p.2)).putParts w r (k + 1) (seq + 1) (data.drop p.2) (q :: ps)

def State.partsFor (s : State) (w : Nat) (n : Nat) : List (Nat × Nat) :=
  recordParts (s.fld w QUE.BUF_SIZE) 64 (s.ax w axQBufTail) n

/-- Does the queue take records: device-to-host, in RUN, and no final descriptor due (R347, R527)? -/
def State.qTakes (s : State) (w : Nat) : Bool :=
  s.qToHost w && s.atomState w == stRUN && s.ax w axQStop == 0 && s.ax w axQFinal == 0

def State.qFits (s : State) (w n : Nat) : Bool :=
  decide ((s.partsFor w n).length ≤ s.qFree w) && decide (partsBytes (s.partsFor w n) ≤ s.qBufFree w)

/-- THRESHOLD of a device-to-host queue when its filled count rises to LEVEL (R348). -/
def State.noteFilled (w before : Nat) (s : State) : State :=
  if before < s.fld w QUE.Q_THRESH_LEVEL ∧ s.fld w QUE.Q_THRESH_LEVEL ≤ s.qFilled w then
    s.raiseKind w evQThreshold else s

/-- THRESHOLD of a host-to-device queue when its free count rises to LEVEL (R348). -/
def State.noteFree (w before : Nat) (s : State) : State :=
  if before < s.fld w QUE.Q_THRESH_LEVEL ∧ s.fld w QUE.Q_THRESH_LEVEL ≤ s.qFree w then
    s.raiseKind w evQThreshold else s

/-- The record placed, and Q_PROD advanced past its descriptors in one cycle (R342). -/
def State.commitRec (s : State) (w : Nat) (r : Rec) : State :=
  let parts := s.partsFor w r.data.length
  let t := s.putParts w r (s.qProd w) (s.ax w axQSeq) r.data parts
  let t1 := t.bump w QUE.Q_PROD parts.length
  (((((t1.setAx w axQSeq ((s.ax w axQSeq + parts.length) % 256)).setAx w axQBufTail
    (tailAfter (s.fld w QUE.BUF_SIZE) parts (s.ax w axQBufTail))).setAx w axQBytes
    (s.ax w axQBytes + partsBytes parts))).qCommitted w).noteFilled w (s.qFilled w)

/-- A record is placed whole or not at all; one that finds no room is dropped and counted (R231, R342). -/
def State.placeRec (s : State) (w : Nat) (r : Rec) : State :=
  if !s.qTakes w then s
  else if s.qFits w r.data.length then s.commitRec w r
  else (s.count w QUE.DROP_COUNT).raiseKind w evQDropped

/-- Did `placeRec` have room (a queue that takes no records drops nothing)? -/
def State.recDropped (s : State) (w : Nat) (r : Rec) : Bool := s.qTakes w && !s.qFits w r.data.length

/-- The queue linked to output `o` of a window, if any: the one that takes the unit's records. -/
def State.queueOf (s : State) (w o : Nat) : Option Nat :=
  (s.sinksOf w o).find? (fun q => kindOf q == .queue)

/-- The indices, sequence number and ring as at a grant (R338). -/
def State.initQueue (s : State) (w : Nat) : State :=
  let a := (s.rd w QUE.RING_BASE.off).toNat
  let s1 := s.wrWords a (List.replicate (4 * s.qDepth w) 0)
  let s2 := (s1.wr w QUE.Q_PROD.off 0).wr w QUE.Q_CONS.off 0
  (((((s2.setAx w axQHeld 0).setAx w axQFinal 0).setAx w axQBufTail 0).setAx w axQSeq 0).setAx w axQBytes 0).setBl
    (w * 4) []

/-! ## The harmless state (R347, R480, R483) -/

/-- A queue must stop: a device-to-host queue owes its final descriptor, and with no descriptor free
STOPPED is set from the start; a host-to-device queue takes no further descriptor. -/
def State.stopQueue (s : State) (w : Nat) : State :=
  if !s.present w then s
  else if s.qToHost w then
    if s.ax w axQStop ≠ 0 ∨ s.ax w axQFinal ≠ 0 ∨ s.qDepth w = 0 then s
    else
      let t := s.setAx w axQFinal 1
      if s.qFree w = 0 then ((t.setAx w axQStop 1).setValid w false).raiseKind w evQStopped else t
  else (s.setAx w axQStop 1).setValid w false

/-- The final descriptor of R347; where its data would lie is not stated, so OFFSET is a free value. -/
def State.putFinal (s : State) (w : Nat) : State :=
  let a := s.descAddr w (s.qProd w)
  let t := (((s.wrWord (a + 4) 0).wrWord (a + 8) (s.clock.epoch.extractLsb' 0 32)).wrWord (a + 12)
    (s.freshWord &&& ~~~3#32)).wrWord a (w32 (0x00FF2500 + s.ax w axQSeq % 256))
  ((((t.useFresh.bump w QUE.Q_PROD).setAx w axQSeq ((s.ax w axQSeq + 1) % 256)).setAx w axQFinal 0).qCommitted w).noteFilled
    w (s.qFilled w)

/-- FINAL_DESCRIPTOR_COMMIT: a queue that owes its final descriptor commits it once one is free. -/
def execFinalDescriptorCommit (n : Fin 64) (s : State) : Out :=
  let w := winQ n
  .next (if s.ax w axQFinal = 1 ∧ 0 < s.qFree w then
    let t := s.putFinal w
    if s.ax w axQStop = 0 then ((t.setAx w axQStop 1).setValid w false).raiseKind w evQStopped else t
  else s)

/-- The queues that a unit produces into: those linked to it, its tap, and the tap of a decoder
(R331, R346). -/
def State.queuesFrom (s : State) (w : Nat) : List Nat :=
  ((s.tree.links.filter (fun l => l.src == w && kindOf l.dst == .queue)).map LinkX.dst) ++
  (if kindOf w = .audioPort ∧ s.fld w PORT.TAP_QUEUE ≠ 0x3FF then [s.fld w PORT.TAP_QUEUE] else []) ++
  (if kindOf w = .audioDec then (List.range 64).map winQ |>.filter (fun q => s.fld q QUE.Q_CFG_TAP_DEC == w) else [])

/-! ## Index writes (R341) -/

/-- The refusals of R341 for Q_CONS. -/
def State.consCodes (s : State) (m w : Nat) (v : Word) : List Nat :=
  if s.qToHost w then if s.qSpan w < (v - s.qCons w).toNat then [0x0711] else []
  else if 5 ≤ m then [0x0710] else []

/-- The refusals of R341 for Q_PROD. -/
def State.prodCodes (s : State) (m w : Nat) (v : Word) : List Nat :=
  if s.qToHost w then if 5 ≤ m then [0x0710] else []
  else if 2147483648 ≤ (v - s.qProd w).toNat ∨ s.qDepth w < (v - s.qCons w).toNat then [0x0711] else []

/-- The bytes that a write of Q_CONS frees: those of the `n` descriptors from index `k` (R342). -/
def State.freedBytes (s : State) (w : Nat) : Nat → Word → Nat
  | 0, _ => 0
  | n + 1, k => align4 (s.descLen w k) + s.freedBytes w n (k + 1)

/-- Q_CONS takes an accepted value. -/
def State.consTo (s : State) (w : Nat) (v : Word) : State :=
  let n := (v - s.qCons w).toNat
  (s.setAx w axQBytes (s.ax w axQBytes - s.freedBytes w (Nat.min n 4096) (s.qCons w))).wr w QUE.Q_CONS.off v

def State.writeQCons (s : State) (m w : Nat) (v : Word) : State :=
  s.guarded m w QUE.Q_CONS.off v (s.consCodes m w v) (fun t => t.consTo w v)

/-- Q_PROD takes an accepted value. -/
def State.prodTo (s : State) (w : Nat) (v : Word) : State := (s.wr w QUE.Q_PROD.off v).qCommitted w

def State.writeQProd (s : State) (m w : Nat) (v : Word) : State :=
  s.guarded m w QUE.Q_PROD.off v (s.prodCodes m w v) (fun t => t.prodTo w v)

/-- Q_CONS_WRITE. -/
def execQConsWrite (m : Master) (n : Fin 64) (v : Word) (s : State) : Out := .next (s.writeQCons m (winQ n) v)

/-- Q_PROD_WRITE. -/
def execQProdWrite (m : Master) (n : Fin 64) (v : Word) (s : State) : Out := .next (s.writeQProd m (winQ n) v)

/-! ## Host-to-device descriptors (R343) -/

/-- Does the queue take descriptors: host-to-device, in RUN, not stopped, one posted and not taken? -/
def State.qCanTake (s : State) (w : Nat) : Bool :=
  !s.qToHost w && s.atomState w == stRUN && s.ax w axQStop == 0 && decide (0 < s.qFilled w)

/-- The index of the next descriptor to take. -/
def State.takeIndex (s : State) (w : Nat) : Word := s.qCons w + w32 (s.ax w axQHeld)

/-- The conditions of R343 on a host descriptor; its sink is a lane, which takes type 0x10 (R340). -/
def State.descGood (s : State) (w : Nat) (k : Word) : Bool :=
  let a := s.descAddr w k
  let w0 := (s.rdWord a).toNat
  let len := (s.rdWord (a + 4)).toNat % 65536
  let off := (s.rdWord (a + 12)).toNat
  let lo := (s.rd w QUE.BUF_BASE.off).toNat - qramBase
  decide (w0 / 256 % 2 = 1) && decide (w0 / 16777216 = 0x10) && decide (off % 4 = 0) &&
  decide (lo ≤ off) && decide (off + len ≤ lo + s.fld w QUE.BUF_SIZE)

/-- The taken descriptors of a queue, oldest first: 0 where its sink has not come to it, 2 where its data is in
use, 1 where it is done with. -/
def State.taken (s : State) (w : Nat) : List Nat := s.bl (w * 4)

/-- Q_CONS advances past the leading taken descriptors that are done with (R343). -/
def State.retireDone (s : State) (w : Nat) : State :=
  let l := s.taken w
  let n := (l.takeWhile (fun x => x == 1)).length
  ((((s.setBl (w * 4) (l.drop n)).setAx w axQHeld (l.length - n)).bump w QUE.Q_CONS n)).noteFree w (s.qFree w)

/-- The next descriptor is taken; `done` says that it is already done with. -/
def State.takeDesc (s : State) (w : Nat) (done : Bool) : State :=
  let t := (s.setBl (w * 4) (s.taken w ++ [b2n done])).setAx w axQHeld (s.ax w axQHeld + 1)
  let sinkRuns := (s.sinksOf w 0).any (fun d => s.atomState d == stRUN)
  if s.qFilled w ≠ 0 ∧ t.qFilled w = 0 ∧ sinkRuns then t.raiseKind w evQEmpty else t

/-- A bad descriptor is counted, recorded with 0x0712, and retired unused. -/
def State.discardDesc (s : State) (w : Nat) : State :=
  ((((s.takeDesc w true).count w QUE.DESC_ERR_COUNT).setErr w 0x0712).raiseKind w evQDescError).retireDone w

/-- HOST_DESCRIPTOR_TAKE. -/
def execHostDescriptorTake (n : Fin 64) (s : State) : Out :=
  let w := winQ n
  .next (if !s.qCanTake w then s
    else if s.descGood w (s.takeIndex w) then s.takeDesc w false
    else s.discardDesc w)

/-- The first entry that reads `a` becomes `b`. -/
def turnFirst (a b : Nat) : List Nat → List Nat
  | [] => []
  | x :: l => if x = a then b :: l else x :: turnFirst a b l

def State.retireDesc (s : State) (w : Nat) : State :=
  (s.setBl (w * 4) (turnFirst 2 1 (s.taken w))).retireDone w

/-- The oldest descriptor whose data is in use, if any. -/
def State.usedDesc (s : State) (w : Nat) : Option Word :=
  ((s.taken w).findIdx? (fun x => x == 2)).map (fun k => s.qCons w + w32 k)

/-- The bytes read of the data of the descriptor in use. -/
def axQRead : Nat := 39

/-- Has the device read the last byte of the data of the oldest descriptor in use, or does its sink discard the data (R57)? -/
def State.usedUp (s : State) (w : Nat) : Bool :=
  match s.usedDesc w with
  | some k => decide (s.descLen w k ≤ s.ax w axQRead) || !(s.sinksOf w 0).any s.live
  | none => false

/-- The oldest descriptor in use is done with. -/
def State.retireUsed (s : State) (w : Nat) : State := if s.usedUp w then (s.retireDesc w).setAx w axQRead 0 else s

/-- DESCRIPTOR_RETIRE: the device has read the last byte of the data of the oldest descriptor in use. -/
def execDescriptorRetire (n : Fin 64) (s : State) : Out := .next (s.retireUsed (winQ n))

/-! ## Records -/

/-- Is the type one of a record that a device-to-host queue carries (R340)? -/
def recordType (t : Nat) : Bool := decide (1 ≤ t ∧ t ≤ 0x0D)

/-- RECORD_COMMIT: a record that its producer claimed is placed; there is none of another type. -/
def execRecordCommit (n : Fin 64) (r : RecordArg) (s : State) : Out :=
  .next (if recordType r.type.toNat then
    s.placeRec (winQ n) ⟨r.type.toNat, r.source.toNat, ⟨r.err, r.mark, r.warm⟩, r.time, r.data⟩
  else s)

/-- A 24-bit sample in 16 bits, rounded with ties away from zero (R345). A value that the rounding
takes past the 16-bit range is one the spec does not state: it is a free value. -/
def iq16 (free : Word) (i : Int) : Nat :=
  let r := roundAway i 256
  if r ≤ 32767 then unsigned 16 r else free.toNat % 65536

/-- One complex sample in the words of its FORMAT (R345).
Mark DEDUCED: notes/assumptions/179.md. -/
def iqWords (format : Nat) (free : Word) (p : Int × Int) : List Word :=
  if format = 0 then [w32 (iq16 free p.1 + 65536 * iq16 free p.2)]
  else [w32 (unsigned 32 p.1), w32 (unsigned 32 p.2)]

/-- The branches of the channel that feeds a raw IQ queue (R345, R107). -/
def State.branchesOf (s : State) (ch : Nat) : Nat := s.branches (winDDC (ch % 64))

def iqHeader (format branches : Nat) : Word := w32 (format + 16 * branches)

/-- Histories of a raw IQ queue: I and Q of the samples gathered for its next block, and the stamp of the first of them
with whether one of them came in WARM. -/
def hsIqData : Nat := 5
def hsIqHead : Nat := 6

def pairsOf : List Int → List (Int × Int)
  | a :: b :: l => (a, b) :: pairsOf l
  | _ => []

/-- Values that make a block of a raw IQ queue: I and Q of IQ_BLOCK samples of each branch. -/
def State.iqNeed (s : State) (w : Nat) : Nat := 2 * (s.fld w QUE.IQ_BLOCK * s.branchesOf (instOf (s.srcOf w 0)))

/-- The next raw IQ block follows the one before without a gap. -/
def axQFollows : Nat := 41

/-- The gathered block becomes one type 0x09 record in branch order, with the stamp of its first sample, WARM where a
sample of it came while the channel was in WARM, and MARK where it does not follow the record before without a gap: the first
one, and one after a dropped block, a stop or a new start of the channel (R149, R162, R339, R345).
Mark DEDUCED: notes/assumptions/201.md. -/
def State.iqBlock (s : State) (w : Nat) : State :=
  let ch := instOf (s.srcOf w 0)
  let fmt := s.fld w QUE.Q_CFG_IQ_FORMAT
  let h := s.hs w hsIqHead
  let xs := pairsOf ((s.hs w hsIqData).take (s.iqNeed w))
  let r : Rec := ⟨0x09, ch, ⟨false, s.ax w axQFollows == 0, h.getD 1 0 != 0⟩, w32 (h.headD 0).toNat,
    ((iqHeader fmt (s.branchesOf ch)) :: xs.flatMap (iqWords fmt s.freshWord)).flatMap bytesOf⟩
  ((((s.placeRec w r).useFresh).setHs w hsIqData ((s.hs w hsIqData).drop (s.iqNeed w))).setHs w hsIqHead []).setAx w axQFollows
    (b2n (!s.recDropped w r))

/-- What is gathered is given up, and the next block does not follow the one before. -/
def State.iqBreak (s : State) (w : Nat) : State := ((s.setHs w hsIqData []).setHs w hsIqHead []).setAx w axQFollows 0

def State.iqDue (s : State) (w : Nat) : Bool := s.iqNeed w != 0 && decide (s.iqNeed w ≤ (s.hs w hsIqData).length)

/-- An output of a channel reaches a raw IQ queue that takes records. -/
def State.iqSample (s0 : State) (w : Nat) (out : List Int) (stamp : Nat) (warm : Bool) : State :=
  let s1 := if s0.iqDue w then s0.iqBlock w else s0
  let s := if warm && !(s1.hs w hsIqHead).isEmpty && (s1.hs w hsIqHead).getD 1 0 == 0 then s1.iqBreak w else s1
  if !s.qTakes w then s.iqBreak w
  else
    let h := s.hs w hsIqHead
    (s.setHs w hsIqData (s.hs w hsIqData ++ out)).setHs w hsIqHead
      [if h.isEmpty then ((stamp : Nat) : Int) else h.headD 0, if warm then 1 else h.getD 1 0]

/-- IQ_BLOCK: the channel linked to the queue has delivered a whole block. -/
def execIqBlock (n : Fin 64) (s : State) : Out :=
  let w := winQ n
  .next (if kindOf (s.srcOf w 0) = .chanFilter ∧ s.iqDue w ∧ s.qTakes w then s.iqBlock w else s)

end Sys2Proof.Machine
end

