-- ==== Sys2Proof/Machine/FrontEnd.lean ====
section
/-! DEFINITION. Aerial inputs and front ends (R88–R114): the matrix, the fit of channels in their
window, the gain tables and the AGC, overload, and aerial diversity. -/

namespace Sys2Proof.Machine

/-- KIND_EVENTS of FRONT_END and LOWBAND (R113). -/
def evFEOverload : Nat := 16
def evFEStuck : Nat := 17
def evFESwitched : Nat := 18
def evFEMoved : Nat := 19
def evFELimit : Nat := 20

/-- Hidden slots of a front end: the AGC has met its level since RUN rose; blocks since the last
attack step; blocks in the present run below target; the centre in force; a start-up calibration is
owed; the waiting input request of mode 2 (0 none, 1 A, 2 B); blocks of the reference demodulator
since the last diversity switch, plus one (0 where none was made); its quality before that switch; the
return check is still due; a calibration result waits to be stored; a gain step that waits for the end of a seam
(1 up, 2 down, 3 overload), an aerial switch that does (1 to the other input, 2 a return), and a step that waits for the
next block (R111).
Mark DESIGN CHOICE: notes/assumptions/26.md. -/
def axFeMet : Nat := 32
def axFeSince : Nat := 33
def axFeCentre : Nat := 34
def axFeStartCal : Nat := 35
def axFeRun : Nat := 36
def axFeRequest : Nat := 37
def axFeDwell : Nat := 38
def axFeBefore : Nat := 39
def axFeReturn : Nat := 40
def axFeDirty : Nat := 41
def axFePend : Nat := 42
def axFePendSw : Nat := 43
def axFeOwed : Nat := 44

/-- Hidden values of a front end: the state of the offset loop (I, Q), the offset stored for each entry (R104), the
amplitude and phase mismatch of the path for each divisor, the image correction in force, the corner trim of each
bandwidth index and the step value of each entry in force, and those measured since the last seam (R126, R129). -/
def hsFeLoop : Nat := 32
def hsFeOffs : Nat := 33
def hsFeMis : Nat := 34
def hsFeImage : Nat := 35
def hsFeCorner : Nat := 36
def hsFeGain : Nat := 37
def hsFeTrims : Nat := 38

/-- A list of numbers with place `i` set; places that it does not have yet read 0. -/
def putAt (l : List Int) (i : Nat) (v : Int) : List Int :=
  (l ++ List.replicate (i + 1 - l.length) 0).set i v

/-- Of an engine: the input request that waits is a probe (R220). -/
def axOfdmProbe : Nat := 35

/-- The window of front end 0 to 3, or of FE_L for 4. -/
def feWin (fe : Nat) : Nat := 0x010 + fe

/-! ## Which channels a front end feeds -/

/-- The DDCs linked to a front end, which are the sinks of its output 0 (R70). -/
def State.ddcsOf (s : State) (f : Nat) : List Nat := s.sinksOf f 0

/-- The CHAN_FILTER of the same number as a DDC window.
Mark DEDUCED: notes/assumptions/32.md. -/
def cfOfDdc (d : Nat) : Nat := d + 0x40

/-- The sinks of the channels of a front end: demodulators, engines and raw IQ queues. -/
def State.channelSinks (s : State) (f : Nat) : List Nat :=
  (s.ddcsOf f).flatMap (fun d => s.sinksOf (cfOfDdc d) 0)

/-- The front end that feeds a demodulator or engine through its channel; 0x3FF for none. -/
def State.feOfDemod (s : State) (w : Nat) : Nat :=
  let c := s.srcOf w 0
  if kindOf c = .chanFilter then s.srcOf (c - 0x40) 0 else 0x3FF

/-! ## The fit of a channel (R92, R96) -/

/-- Window bandwidth in Hz by bandwidth index (R91). -/
def bwHz (i : Nat) : Nat :=
  1000000 * ([2, 3, 4, 5, 6, 8, 10, 12, 16, 20, 25, 32, 50, 64, 100, 180].getD i 180)

def gainEntry (s : State) (f i : Nat) : Nat := (s.rd f (0x100 + 4 * i)).toNat

/-- BW of a gain-table entry (R97). -/
def entryBW (e : Nat) : Nat := e / 4096 % 16

/-- Attenuation A of an entry in dB (R97). -/
def entryAtten (e : Nat) : Nat := 6 * (e % 8) + 6 * (e / 16 % 4) + e / 256 % 16

/-- B_min in Hz over the entries `lo` to `hi` (R92). -/
def State.minBand (s : State) (f lo hi : Nat) : Nat :=
  ((List.range 32).filter (fun i => lo ≤ i && i ≤ hi)).foldl
    (fun a i => Nat.min a (bwHz (entryBW (gainEntry s f i)))) (bwHz 15)

/-- Source sample rate of a front end (R146). -/
def sourceRate (f : Nat) : Nat := if f = 0x014 then 98304000 else 245760000

/-- The split of a DDC's RATE (R146): D, from the rate code or from CUSTOM. -/
def decimOf (rate r h1 h2 : Nat) : Nat :=
  match rate with
  | 1 => 120
  | 2 => 640
  | 3 => 1280
  | 4 => 2048
  | 5 => 4096
  | _ => r * (1 + h1) * (1 + h2)

/-- The source kind that a RATE code names: `some false` for FRONT_END, `some true` for LOWBAND. -/
def rateSource (rate : Nat) : Option Bool :=
  if rate = 1 ∨ rate = 2 ∨ rate = 3 then some false else if rate = 4 ∨ rate = 5 then some true else none

/-- D of a DDC as it is configured. -/
def State.ddcDecim (s : State) (d : Nat) : Nat :=
  decimOf (s.fld d DDC.RATE) (s.fld d DDC.CUSTOM_CIC_FACTOR) (s.fld d DDC.CUSTOM_HB1) (s.fld d DDC.CUSTOM_HB2)

/-- DECIM of a filter unit as a factor (R154). -/
def State.filtDecim (s : State) (c : Nat) : Nat :=
  if kindOf c = .chanFilter then 2 ^ s.fld c FILT.FILT_CFG_DECIM else 1

/-- Total decimation of a channel, DDC and CHAN_FILTER. -/
def State.chanDecim (s : State) (d : Nat) : Nat := s.ddcDecim d * s.filtDecim (cfOfDdc d)

/-- R92: `|d| + r / 2 ≤ 0.47 × B_min`, in exact integers, for an NCO word and a total decimation. -/
def fitsVhf (nco : Int) (dt bmin : Nat) : Bool :=
  decide (nco.natAbs * (2 * dt) * 245760000 * 100 + 2 ^ 32 * 245760000 * 100 ≤ 47 * bmin * 2 ^ 32 * (2 * dt))

/-- R96: the channel lies between 0.1 MHz and 30 MHz. -/
def fitsLow (nco : Int) (dt : Nat) : Bool :=
  decide (100000 * (2 ^ 32 * (2 * dt)) + 98304000 * 2 ^ 32 ≤ nco * 98304000 * (2 * dt)) &&
  decide (nco * 98304000 * (2 * dt) + 98304000 * 2 ^ 32 ≤ 30000000 * (2 ^ 32 * (2 * dt)))

/-- B_min of a front end as configured, both front ends under mode 3 (R92). -/
def State.bandOf (s : State) (f : Nat) : Nat :=
  let own := s.minBand f (s.fld f FE.AGC_CTL_MIN_INDEX) (s.fld f FE.AGC_CTL_MAX_INDEX)
  if s.mode3 f then
    Nat.min own (s.minBand (f + 1) (s.fld (f + 1) FE.AGC_CTL_MIN_INDEX) (s.fld (f + 1) FE.AGC_CTL_MAX_INDEX))
  else own

/-- Does the channel of DDC `d` fit the front end that it is linked to? One linked to none has no fit
to judge. -/
def State.ddcFits (s : State) (d : Nat) (nco : Int) : Bool :=
  let f := s.srcOf d 0
  if f = 0x3FF then true
  else if f = 0x014 then fitsLow nco (s.chanDecim d)
  else fitsVhf nco (s.chanDecim d) (s.bandOf f)

/-- Do the present words of a DDC fit: the one in use, and the staged one that may take its place? -/
def State.ddcFitsNow (s : State) (d : Nat) : Bool :=
  s.ddcFits d (s.sfld d DDC.NCO_FREQ) && s.ddcFits d (s.sfld d DDC.NCO_ACTIVE)

/-- Do all channels of a front end fit, and where it is FE_2k+1 under mode 3, those of FE_2k? -/
def State.channelsFit (s : State) (f : Nat) : Bool :=
  (s.ddcsOf f).all (fun d => (s.unit d).lent != 0 || s.ddcFitsNow d) &&
  (if (f = 0x011 ∨ f = 0x013) ∧ s.mode3 (f - 1) then (s.ddcsOf (f - 1)).all s.ddcFitsNow else true)

/-- The fit refusal 0x0210 of a write that would leave the state `t` (R92). -/
def fitCode (t : State) (f : Nat) : List Nat := if t.channelsFit f then [] else [0x0210]

/-! ## Rates, tap limits and raw IQ (R146, R147, R154, R345) -/

/-- fs of a DDC: its source's, or while it has none that of the source kind of its RATE row (R146). -/
def State.ddcFs (s : State) (d : Nat) : Nat :=
  if s.srcOf d 0 = 0x3FF then (if rateSource (s.fld d DDC.RATE) = some true then 98304000 else 245760000)
  else sourceRate (s.srcOf d 0)

/-- The channel rate that a sink takes, 0 for any (R147, R201). -/
def State.sinkRate (s : State) (w : Nat) : Nat :=
  match kindOf w with
  | .fmDemod => 384000
  | .amDemod => 24000
  | .ofdm => [2048000, 48000, 192000, 0].getD (s.fld w OFDM.OFDM_CFG_SYSTEM) 0
  | _ => 0

/-- Does the channel rate r of DDC `d` match every sink of its CHAN_FILTER (R147)? -/
def State.rateMatch (s : State) (d : Nat) : Bool :=
  (s.sinksOf (cfOfDdc d) 0).all (fun k => s.sinkRate k == 0 || s.sinkRate k * s.chanDecim d == s.ddcFs d)

/-- R154: TAPS × BRANCHES × r is at most 737,280,000 for each bank of the DDC's CHAN_FILTER. -/
def State.tapsFit (s : State) (d : Nat) : Bool :=
  [0, 1].all (fun b => decide (s.fld (cfOfDdc d) (FILT.BANK_CFG_TAPS.at b) * s.branches d * s.ddcFs d ≤
    737280000 * s.chanDecim d))

/-- The links into raw IQ queues that are in WARM or RUN. -/
def State.iqLinks (s : State) : List LinkX :=
  s.tree.links.filter (fun l => kindOf l.src == .chanFilter && kindOf l.dst == .queue && s.live l.dst)

/-- The bytes per second of raw IQ as a fraction: the sum of r × BRANCHES × (4 or 8) (R345). -/
def State.iqLoad (s : State) : Nat × Nat :=
  s.iqLinks.foldl (fun a l =>
    let d := l.src - 0x40
    let n := s.ddcFs d * s.branches d * (if s.fld l.dst QUE.Q_CFG_IQ_FORMAT = 1 then 8 else 4)
    let m := Nat.max 1 (s.chanDecim d)
    (a.1 * m + n * a.2, a.2 * m)) (0, 1)

def State.iqOk (s : State) : Bool := decide (s.iqLoad.1 ≤ 32768000 * s.iqLoad.2)

/-- 0x0306 of a write that would leave state `t` (R345). -/
def iqCode (t : State) : List Nat := if t.iqOk then [] else [0x0306]

/-! ## Registers with rules of their own -/

/-- The refusals of an AGC_CTL write: the order of the indices (R100) and the fit (R92). -/
def State.agcCodes (s : State) (f : Nat) (v : Word) : List Nat :=
  (if FE.AGC_CTL_MIN_INDEX.of v ≤ FE.AGC_CTL_MANUAL_INDEX.of v ∧
      FE.AGC_CTL_MANUAL_INDEX.of v ≤ FE.AGC_CTL_MAX_INDEX.of v then [] else [0x0202]) ++
  fitCode (s.store f 0x048 v) f

/-- Does a gain-table entry obey R97: reserved bits 0, and in LOWBAND MIXER and BW 0? -/
def entryOk (f e : Nat) : Bool :=
  decide (e < 65536) && decide (e / 8 % 2 = 0) && decide (e / 64 % 4 = 0) &&
  (f != 0x014 || (decide (e / 16 % 4 = 0) && decide (e / 4096 % 16 = 0)))

/-- The refusals of a gain-table write (R97, R98, R92).
Mark DEDUCED: notes/assumptions/17.md. -/
def State.gainCodes (s : State) (f off : Nat) (v : Word) : List Nat :=
  (if entryOk f v.toNat then [] else [0x0202]) ++ fitCode (s.wr f off v) f

/-- Does A never decrease from an entry to the next (R98)? -/
def State.tableRises (s : State) (f : Nat) : Bool :=
  (List.range 31).all (fun i => entryAtten (gainEntry s f i) ≤ entryAtten (gainEntry s f (i + 1)))

/-- Is the demodulator or engine `w` fed by a channel of front end `f`? -/
def State.fedBy (s : State) (w f : Nat) : Bool := s.feOfDemod w == f && f != 0x3FF

def State.enginesOf (s : State) (f : Nat) : List Nat :=
  (s.channelSinks f).filter (fun w => kindOf w == .ofdm)

/-- Is the condition of a diversity mode met (R107)? -/
def State.divAllowed (s : State) (f mode ref : Nat) : Bool :=
  match mode with
  | 0 => true
  | 1 => (kindOf ref == .fmDemod || kindOf ref == .amDemod) && s.fedBy ref f && (s.enginesOf f).isEmpty
  | 2 => kindOf ref == .ofdm && s.fedBy ref f && (s.enginesOf f).all (fun e => e == ref)
  | _ => (f == 0x010 || f == 0x012) && s.present (f + 1) && s.parentOf (f + 1) != 0x3FF &&
      (s.ddcsOf (f + 1)).isEmpty

/-- The refusals of a DIV_CTL write (R107, and under mode 3 the fit of R92, the taps of R154 and R345). -/
def State.divCodes (s : State) (f : Nat) (v : Word) : List Nat :=
  (if s.divAllowed f (FE.DIV_CTL_MODE.of v) (FE.DIV_CTL_REF_WINDOW.of v) then [] else [0x0211]) ++
  fitCode (s.store f 0x054 v) f ++
  (if FE.DIV_CTL_MODE.of v = 3 ∧ !((s.ddcsOf f).all (s.store f 0x054 v).tapsFit) then [0x0214] else []) ++
  iqCode (s.store f 0x054 v)

/-- The refusals of a route write that would change an aerial code while the front end is in WARM or RUN (R90, R518). -/
def State.routeCodes90 (s : State) (off : Nat) (v : Word) : List Nat :=
  if off = 0x050 then (if s.live 0x014 ∧ s.fld winAnt ANT.ROUTE_L_A ≠ ANT.ROUTE_L_A.of v then [0x0203] else [])
  else
    let n := (off - 0x040) / 4
    if s.live (0x010 + n) ∧ (s.fld winAnt (ANT.ROUTE_A.at n) ≠ (ANT.ROUTE_A.at n).of v ∨
      s.fld winAnt (ANT.ROUTE_B.at n) ≠ (ANT.ROUTE_B.at n).of v) then [0x0203] else []

/-! ## What feeds a front end -/

/-- The aerial code routed to the input in use of a front end: 0xF for none. -/
def State.aerialOf (s : State) (f : Nat) : Nat :=
  if f = 0x014 then s.fld winAnt ANT.ROUTE_L_A
  else if s.flag f FE.FE_STATUS_ON_B then s.fld winAnt (ANT.ROUTE_B.at (f - 0x010))
  else s.fld winAnt (ANT.ROUTE_A.at (f - 0x010))

/-- AERIAL_USE: the aerials that feed a front end in WARM or RUN. -/
def State.aerialsInUse (s : State) : Nat :=
  (List.range 8).foldl (fun a n => a + b2n ([0x010, 0x011, 0x012, 0x013, 0x014].any
    (fun f => s.present f && s.live f && s.aerialOf f == n)) * 2 ^ n) 0

/-- The attenuation A of the entry in use (R103, R112). -/
def State.attenNow (s : State) (f : Nat) : Nat := entryAtten (gainEntry s f (s.fld f FE.FE_STATUS_GAIN_INDEX))

/-- The bandwidth index of the entry in use, 0 in LOWBAND (R112). -/
def State.bwNow (s : State) (f : Nat) : Nat :=
  if f = 0x014 then 0 else entryBW (gainEntry s f (s.fld f FE.FE_STATUS_GAIN_INDEX))

/-- COMBINING: mode 3 in force with both branches VALID (R112). -/
def State.combiningFe (s : State) (f : Nat) : Bool := s.mode3 f && (s.unit f).valid && (s.unit (f + 1)).valid

/-- A register of a front end as it reads: LEVEL is 0x8000 while not VALID, AERIAL the aerial now
feeding it (0 where none does), BW_INDEX and ATTEN_DB those of the entry in use.
Mark DEDUCED: notes/assumptions/18.md. -/
def State.feRead (s : State) (f off : Nat) : Word :=
  if off = 0x064 ∧ !(s.unit f).valid then 0x80008000
  else if off = 0x060 then
    FE.FE_STATUS_COMBINING.put (FE.FE_STATUS_BW_INDEX.put (FE.FE_STATUS_ATTEN_DB.put
      (FE.FE_STATUS_AERIAL.put (s.rd f off) (if s.aerialOf f < 8 then s.aerialOf f else 0)) (s.attenNow f)) (s.bwNow f))
      (b2n (s.combiningFe f))
  else s.rd f off

def State.antRead (s : State) (off : Nat) : Word :=
  if off = 0x060 then w32 s.aerialsInUse
  else if s.part.reduced ∧ (off = 0x048 ∨ off = 0x04C) then 0
  else s.rd winAnt off

/-! ## Gain (R100–R105) -/

/-- Are the analogue stages powered and the AGC running: in WARM, RUN or HOLD (R114)? -/
def State.fePowered (s : State) (f : Nat) : Bool := s.live f || s.atomState f == stHOLD

/-- The offset loop is reloaded from the value stored for the entry in use (R104). -/
def State.loopReload (s : State) (f : Nat) : State :=
  let i := s.fld f FE.FE_STATUS_GAIN_INDEX
  s.setHs f hsFeLoop [(s.hs f hsFeOffs).getD (2 * i) 0, (s.hs f hsFeOffs).getD (2 * i + 1) 0]

/-- The entry in use becomes `i`: a compensated step (R102), which reloads the offset loop (R104); AGC_AT_LIMIT where the
automatic AGC reaches a limit, be it at its start (R113).
Mark DEDUCED: notes/assumptions/212.md. -/
def State.gainStep (s : State) (f i : Nat) : State :=
  if i = s.fld f FE.FE_STATUS_GAIN_INDEX then s
  else
    let t := ((s.put f FE.FE_STATUS_GAIN_INDEX i).loopReload f).count f FE.AGC_STEP_COUNT
    if s.fld f FE.AGC_CTL_MODE = 1 ∧ (i = s.fld f FE.AGC_CTL_MIN_INDEX ∨ i = s.fld f FE.AGC_CTL_MAX_INDEX) then
      t.raiseKind f evFELimit else t

/-- The even twin's window of a front end: it holds the registers of the pair (R138). -/
def pairWin (f : Nat) : Nat := 0x018 + 2 * (f - 0x010)

/-- Is FE_2k+1 under a FE_2k in mode 3, whose serving LO drives both (R110)? -/
def State.slaved (s : State) (f : Nat) : Bool := (f == 0x011 || f == 0x013) && s.mode3 (f - 1)

/-- The twin that serves a front end (R117). -/
def State.servingLo (s : State) (f : Nat) : Nat :=
  0x018 + 2 * (f - 0x010) + s.fld f FE.FE_STATUS_LO_SERVING

def State.idleLo (s : State) (f : Nat) : Nat :=
  0x018 + 2 * (f - 0x010) + (1 - s.fld f FE.FE_STATUS_LO_SERVING)

/-- The LO that drives a front end's mixer: its serving twin, or under mode 3 that of FE_2k (R110). -/
def State.drivingLo (s : State) (f : Nat) : Nat := if s.slaved f then s.servingLo (f - 1) else s.servingLo f

/-- R114: VALID once the LO is locked and usable, no start-up calibration is owed, and the AGC has met
its level. -/
def State.feCheck (s : State) (f : Nat) : State :=
  if s.atomState f = stWARM ∧ s.ax f axFeMet = 1 ∧ s.ax f axFeStartCal = 0 ∧
      (f = 0x014 ∨ (s.flag (s.drivingLo f) LO.LO_STATUS_LOCKED ∧ s.flag (s.drivingLo f) LO.LO_STATUS_CAL_OK)) then
    s.setValid f true
  else s

/-! ## Seams (R124) and what waits for their end (R111) -/

/-- The lanes' blends that a handover must not cross: is a channel of the front end a source of a lane in
a service-following blend (R124)? The playing chain is followed back from each lane's inputs. -/
def State.inBlend (s : State) (f : Nat) : Bool :=
  (List.range 32).any (fun n => s.fld (winFollow n) FOL.FOLLOW_STATUS_STATE == 5 &&
    [0, 1].any (fun i =>
      let d := s.srcOf (winLane n) i
      s.fedBy d f || s.fedBy (s.srcOf d 0) f))

/-- The reference engine of a front end's seams (R124). -/
def State.seamRef (s : State) (f : Nat) : Option Nat :=
  let e := s.fld (pairWin f) LO.PAIR_CTL_SEAM_REF
  if kindOf e = .ofdm ∧ s.fedBy e f ∧ s.atomState e = stRUN then some e
  else ((List.range 16).map winOFDM).find? (fun e => s.fedBy e f && s.atomState e == stRUN)

/-- The front end whose handover moves the stream of a front end: itself, or FE_2k under mode 3 (R110). -/
def State.seamFe (s : State) (f : Nat) : Nat := if s.slaved f then f - 1 else f

/-- A twin is READY and no blend keeps it from its seam. -/
def State.seamDue (s : State) (f : Nat) : Bool :=
  f != 0x014 && s.fld (pairWin (s.seamFe f)) LO.TUNE_STATE == 3 && !s.inBlend (s.seamFe f)

/-- Does the seam take this very sample: a READY twin with no reference engine to wait for hands over at once (R124)? An
action that falls on the seam of a reference engine comes after its row. -/
def State.seamNow (s : State) (f : Nat) : Bool := s.seamDue f && (s.seamRef (s.seamFe f)).isNone

/-- A gain step by its kind: 1 one index up, 2 one down, 3 OVL_STEP up, each within the limits (R101, R105). -/
def State.gainMove (s : State) (f k : Nat) : State :=
  let cur := s.fld f FE.FE_STATUS_GAIN_INDEX
  let top := s.fld f FE.AGC_CTL_MAX_INDEX
  if s.fld f FE.AGC_CTL_MODE ≠ 1 then s
  else if k = 1 then (if cur < top then s.gainStep f (cur + 1) else s)
  else if k = 2 then (if s.fld f FE.AGC_CTL_MIN_INDEX < cur then s.gainStep f (cur - 1) else s)
  else if k = 3 then s.gainStep f (Nat.min top (cur + s.fld f FE.OVL_CTL_OVL_STEP))
  else s

/-- A gain step that waits for the end of a seam where it falls on one; an overload step stands for a regular one with
it (R111).
Mark DEDUCED: notes/assumptions/216.md. -/
def State.gainOrWait (s : State) (f k : Nat) : State :=
  if s.seamNow f ∧ k ≠ 0 then s.setAx f axFePend (Nat.max k (s.ax f axFePend)) else s.gainMove f k

/-- R103: INPUT_DBM in 0.25 dB, from ADC_DBFS and the full-scale level of the entry in use. -/
def inputDbm (f : Nat) (level : Int) (atten : Nat) : Int :=
  level + 4 * ((if f = 0x014 then (-50 : Int) else -62) + atten)

/-- Does `n` blocks of 4,096 samples last `us` microseconds (16.7 µs each, 41.7 µs in FE_L)? -/
def blocksLast (f n us : Nat) : Bool := decide (us * 3 ≤ n * (if f = 0x014 then 125 else 50))

/-- The offset loop over a block: it tracks while OFFSET_TRACK is 1 and the unit runs, and the residual, which
OFFSET_RESIDUAL reports, lies below −70 dBFS, that is within 10 of its units; else it holds its estimate. What it tracks
is measured: free values (R104).
Mark DESIGN CHOICE: notes/assumptions/218.md. -/
def State.offsetBlock (s : State) (f : Nat) : State :=
  if f = 0x014 ∨ s.atomState f ≠ stRUN ∨ !s.flag f FE.FE_CFG_OFFSET_TRACK then s
  else
    let e := s.freshWord.toNat
    let r := s.useFresh.freshWord.toNat
    let i : Int := (r % 15 : Nat) - 7
    let q : Int := (r / 16 % 15 : Nat) - 7
    (((s.useFresh.useFresh.setHs f hsFeLoop [signed 16 e, signed 16 (e / 65536)]).putI f FE.OFFSET_RESIDUAL_RESIDUAL_I i).putI f
      FE.OFFSET_RESIDUAL_RESIDUAL_Q q)

/-- The step that an aerial switch put off to this block's end (R111): an overload step there stands for it, and another
switch puts it off again. -/
def State.owedStep (s : State) (f : Nat) (co : Coincide) : State :=
  match co with
  | .aerialSwitch => s
  | .overload => s.setAx f axFeOwed 0
  | .alone => (s.gainOrWait f (s.ax f axFeOwed)).setAx f axFeOwed 0

/-- AGC_BLOCK: a block's mean power, `level` in 0.25 dBFS, is measured: LEVEL reports it, in mode 1 a
block above target moves the entry one index up at most once per ATTACK_US, a block below target
lengthens the run that AGC_DECAY_STEP ends, and VALID may follow (R101, R103, R114). A step that falls on an aerial
switch waits for the next block, and beside an overload step none is made (R111): `co` says what falls on the sample at
which the block ends.
Mark DESIGN CHOICE: notes/assumptions/23.md. -/
def atAgcBlock (fe : Fin 5) (level : Int) (co : Coincide) (s0 : State) : Out :=
  let f := feWin fe
  .next (if !(s0.present f && s0.fePowered f) then s0 else
    let s := (s0.owedStep f co).offsetBlock f
    let target : Int := -(s.fld f FE.AGC_TIMING_TARGET : Int)
    let half : Int := 2 * (s.fld f FE.AGC_TIMING_HYST : Int)
    let above := decide (target + half < level)
    let below := decide (level < target - half)
    let since := s.ax f axFeSince + 1
    let auto := s.fld f FE.AGC_CTL_MODE == 1
    let cur := s.fld f FE.FE_STATUS_GAIN_INDEX
    let s1 := (s.putI f FE.LEVEL_ADC_DBFS level).putI f FE.LEVEL_INPUT_DBM
      (inputDbm f level (s.attenNow f))
    let s2 := (s1.setAx f axFeSince since).setAx f axFeRun (if below then s.ax f axFeRun + 1 else 0)
    let s3 := if auto && above && decide (cur < s.fld f FE.AGC_CTL_MAX_INDEX) &&
        blocksLast f since (s.fld f FE.AGC_TIMING_ATTACK_US) && co != .overload && s0.ax f axFeOwed == 0 then
      (if co = .aerialSwitch then s2.setAx f axFeOwed 1 else s2.gainOrWait f 1).setAx f axFeSince 0 else s2
    let s4 := if (!above && !below) || s3.fld f FE.FE_STATUS_GAIN_INDEX == s3.fld f FE.AGC_CTL_MIN_INDEX then
      s3.setAx f axFeMet 1 else s3
    s4.feCheck f)

/-- AGC_DECAY_STEP: the run of blocks below target has lasted DECAY_MS; in mode 1 the entry moves one
index down, not below MIN_INDEX, and the run starts again (R101). `co` is as in AGC_BLOCK. -/
def atAgcDecayStep (fe : Fin 5) (co : Coincide) (s : State) : Out :=
  let f := feWin fe
  .next (if s.present f && s.fePowered f && s.fld f FE.AGC_CTL_MODE == 1 &&
      blocksLast f (s.ax f axFeRun) (1000 * s.fld f FE.AGC_TIMING_DECAY_MS) then
    let t := match co with
      | .overload => s
      | .aerialSwitch => s.setAx f axFeOwed 2
      | .alone => s.gainOrWait f 2
    let t1 := t.setAx f axFeRun 0
    (if t1.fld f FE.FE_STATUS_GAIN_INDEX = t1.fld f FE.AGC_CTL_MIN_INDEX then t1.setAx f axFeMet 1 else t1).feCheck f
  else s)

/-- Does a sample clip: |I| or |Q| at least 8,176; FE_L has one real stream (R105)? -/
def clips (f : Nat) (x : Int × Int) : Bool := decide (8176 ≤ x.1.natAbs) || (f != 0x014 && decide (8176 ≤ x.2.natAbs))

/-- OVERLOAD_BLOCK: a block of 256 ADC samples ends; with CLIP_THRESH or more clipped ones it is an overload (R105). -/
def execOverloadBlock (fe : Fin 5) (xs : List (Int × Int)) (s : State) : Out :=
  let f := feWin fe
  .next (if s.present f && s.fePowered f &&
      decide (s.fld f FE.OVL_CTL_CLIP_THRESH ≤ ((xs.take 256).filter (clips f)).length) then
    let t := ((s.putB f FE.FE_STATUS_OVERLOAD true).count f FE.OVERLOAD_COUNT).raiseKind f evFEOverload
    if s.fld f FE.AGC_CTL_MODE = 1 then t.gainOrWait f 3 else t
  else s)

/-- OVERLOAD_CLEAR: 1 ms has passed with no overload block; OVL_STUCK clears with it, and its lasting
F0 ends (R105, R106, R478). -/
def execOverloadClear (fe : Fin 5) (s : State) : Out :=
  let f := feWin fe
  .next (if s.flag f FE.FE_STATUS_OVERLOAD then
    ((s.putB f FE.FE_STATUS_OVERLOAD false).putB f FE.FE_STATUS_OVL_STUCK false).endFault
      (fun g => g.code == 0x0406 && g.win == f)
  else s)

/-- OVL_STUCK: overload blocks have continued for STUCK_MS with the entry at MAX_INDEX (R106); F0 with
0x0406 stands while it lasts (R478, R479). -/
def execOvlStuck (fe : Fin 5) (s : State) : Out :=
  let f := feWin fe
  .next (if s.flag f FE.FE_STATUS_OVERLOAD && !s.flag f FE.FE_STATUS_OVL_STUCK &&
      s.fld f FE.FE_STATUS_GAIN_INDEX == s.fld f FE.AGC_CTL_MAX_INDEX then
    ((s.putB f FE.FE_STATUS_OVL_STUCK true).raiseKind f evFEStuck).declare
      { cls := 0, code := 0x0406, win := f, detail := 0 } true
  else s)

/-! ## Diversity (R107–R111) -/

/-- Hidden slot of a demodulator: the samples that the hold of R196 still takes. -/
def axDivHold : Nat := 5

/-- A demodulator rides over an aerial switch: it holds its output for two samples (R196). -/
def State.divHold (s : State) (w : Nat) : State :=
  match kindOf w with
  | .fmDemod => (s.count w FM.DIV_HOLD_COUNT).setAx w axDivHold 2
  | .amDemod => (s.count w AM.DIV_HOLD_COUNT).setAx w axDivHold 2
  | _ => s

/-- The input in use changes: AERIAL_SWITCHED, and every running FM or AM demodulator of the front
end holds (R108, R196). -/
def State.switchInput (s : State) (f : Nat) (onB : Bool) : State :=
  let t := (s.putB f FE.FE_STATUS_ON_B onB).raiseKind f evFESwitched
  ((s.channelSinks f).filter t.live).foldl State.divHold t

/-- The Guestbook's system code of what a demodulator or engine receives. -/
def State.systemOf (s : State) (u : Nat) : Nat :=
  match kindOf u with
  | .fmDemod => 0
  | .amDemod => 1
  | _ => s.fld u OFDM.OFDM_CFG_SYSTEM + 2

/-- The quality index of a demodulator or engine. -/
def State.qualityOf (s : State) (w : Nat) : Nat :=
  match kindOf w with
  | .fmDemod => s.fld w FM.LEVEL_Q
  | .amDemod => s.fld w AM.LEVEL_Q
  | .ofdm => s.fld w OFDM.LEVEL_Q
  | _ => 0

/-- A front end in mode 1 takes its other input (R108). -/
def State.divSwitch (s : State) (f : Nat) : State :=
  (((s.switchInput f (!s.flag f FE.FE_STATUS_ON_B)).count f FE.DIV_SWITCH_COUNT).setAx f axFeDwell 1).setAx f axFeReturn 1

/-- The return to the previous input (R108). It counts in DIV_RETURN_COUNT and not in DIV_SWITCH_COUNT, and the dwell of
the first switch runs on.
Mark DESIGN CHOICE: notes/assumptions/22.md. -/
def State.divBack (s : State) (f : Nat) : State :=
  (s.switchInput f (!s.flag f FE.FE_STATUS_ON_B)).count f FE.DIV_RETURN_COUNT

/-- The end of a seam: the aerial switch that waited for it is made, and then the gain step, which beside a switch waits
for the next block unless it is an overload step (R111). -/
def State.seamEnd (s : State) (f : Nat) : State :=
  let k := s.ax f axFePend
  let sw := s.ax f axFePendSw
  let t := (s.setAx f axFePend 0).setAx f axFePendSw 0
  if sw = 0 ∨ s.fld f FE.DIV_CTL_MODE ≠ 1 then t.gainMove f k
  else
    let u := if sw = 2 then t.divBack f else t.divSwitch f
    if k = 1 ∨ k = 2 then u.setAx f axFeOwed k else u.gainMove f k

/-- DIV_SWITCH, within a block of the reference demodulator `w` (R108). A switch that falls on a seam follows at its end
(R111). -/
def State.divBlock (s : State) (w : Nat) : State :=
  let f := s.feOfDemod w
  if !(0x010 ≤ f && f ≤ 0x013 && s.fld f FE.DIV_CTL_MODE == 1 && s.fld f FE.DIV_CTL_REF_WINDOW == w && s.live f) then s
  else
    let dwell := s.ax f axFeDwell
    let s1 := if dwell = 0 then s else s.setAx f axFeDwell (dwell + 1)
    if s.qualityOf w < s.fld f FE.DIV_THRESH_THRESH ∧ (dwell = 0 ∨ s.fld f FE.DIV_CTL_MIN_DWELL_MS ≤ dwell) then
      let s2 := s1.setAx f axFeBefore (s.qualityOf w)
      if s.seamNow f then s2.setAx f axFePendSw 1 else s2.divSwitch f
    else s1

/-- DIV_RETURN_CHECK: 1 ms after a switch, a quality index still HYST_DB × 4 or more below its value
before the switch sends the front end back to the previous input, once (R108); on a seam the return follows at its end
(R111). -/
def execDivReturnCheck (fe : Fin 4) (s : State) : Out :=
  let f := feWin fe
  .next (if s.ax f axFeReturn = 1 then
    let t := s.setAx f axFeReturn 0
    let q := s.qualityOf (s.fld f FE.DIV_CTL_REF_WINDOW)
    if q + 4 * s.fld f FE.DIV_CTL_HYST_DB ≤ s.ax f axFeBefore then
      (if s.seamNow f then t.setAx f axFePendSw 2 else t.divBack f)
    else t
  else s)

/-- An input request of the engine in mode 2 (R109): it waits for the switch window and is counted as
deferred when it arrives outside it; the latest request stands. -/
def State.requestInput (s : State) (f : Nat) (onB : Bool) (inWindow : Bool) : State :=
  let t := s.setAx f axFeRequest (if onB then 2 else 1)
  if inWindow then t else t.count f FE.DIV_DEFER_COUNT

/-- DIV_WINDOW_SWITCH: inside the engine's switch window the waiting request is carried out (R109); a probe is
counted and marks its frame (R220). A handover that is due takes the window, and the request waits for the next (R111). -/
def execDivWindowSwitch (fe : Fin 4) (s : State) : Out :=
  let f := feWin fe
  .next (if s.ax f axFeRequest ≠ 0 ∧ s.fld f FE.DIV_CTL_MODE = 2 ∧ !s.seamDue f then
    let onB := decide (s.ax f axFeRequest = 2)
    let e := s.fld f FE.DIV_CTL_REF_WINDOW
    let t := (s.setAx f axFeRequest 0).setAx e axOfdmProbe 0
    if onB = s.flag f FE.FE_STATUS_ON_B then t
    else
      let t1 := (t.switchInput f onB).count f FE.DIV_SWITCH_COUNT
      if s.ax e axOfdmProbe = 1 then (t1.count e OFDM.DIV_PROBE_COUNT).put e OFDM.OFDM_STATUS_PROBING 1 else t1
  else s)

/-- AGC_CTL takes effect: in mode 0 a new MANUAL_INDEX is a compensated step, and in mode 1 the entry
stays within the limits (R100, R101). -/
def State.agcWritten (s : State) (f : Nat) (v : Word) : State :=
  let t := s.store f 0x048 v
  if !t.fePowered f then t
  else
    let cur := t.fld f FE.FE_STATUS_GAIN_INDEX
    match t.fld f FE.AGC_CTL_MODE with
    | 0 => t.gainStep f (t.fld f FE.AGC_CTL_MANUAL_INDEX)
    | 1 => t.gainStep f (Nat.max (t.fld f FE.AGC_CTL_MIN_INDEX) (Nat.min cur (t.fld f FE.AGC_CTL_MAX_INDEX)))
    | _ => t

end Sys2Proof.Machine
end

