-- ==== Sys2Proof/Machine/Synth.lean ====
section
/-! DEFINITION. Twin LO synthesisers (R115–R128) and calibration (R129–R137): divisor and reference
choice, tunes and handovers, loss of lock, calibration runs and the calibration store. -/

namespace Sys2Proof.Machine

/-- KIND_EVENTS of LO_SYNTH (R139). -/
def evLOLost : Nat := 16
def evLOLocked : Nat := 17
def evLOHandover : Nat := 18
def evLOSuperseded : Nat := 19
def evLOCalDone : Nat := 20
def evLOCalFailed : Nat := 21
def evLOTempRecal : Nat := 22
def evLOCalAborted : Nat := 23

/-- Hidden slots of a LO_SYNTH: the frequency at which it settles; the epochs of the last two losses
of lock, each plus one; an LO calibration after a loss is due; the REF_MODE of the tune under way, plus one. Of
LO_SYNTH_2n besides: a failure in the run under way; a recovery goes on; the target of the tune of an APPLY that is in a
stage of R120, and of one kept until the recovery is over, 0 for none; a same-frequency handover belongs to the
calibration run; the last step that the run has done; the step under way is the one calibration after a loss, 1 within
a run and 2 by itself. -/
def axLoTarget : Nat := 32
def axLoLoss1 : Nat := 33
def axLoLoss2 : Nat := 34
def axLoRecal : Nat := 35
def axCalFailed : Nat := 36
def axLoRecover : Nat := 37
def axLoKept : Nat := 38
def axCalSeam : Nat := 39
def axCalAt : Nat := 40
def axLoRef : Nat := 41
def axLoTune : Nat := 42
def axCalOne : Nat := 43

/-- What a twin's LO calibrations found, by divisor: the quadrature errors, whether there is a usable calibration, and
three by three the DCO sub-band, the DCO gain and the TDC gain (R116, R129). -/
def hsLoQuad : Nat := 32
def hsLoOk : Nat := 33
def hsLoDco : Nat := 34

/-- The front end that owns a LO_SYNTH window. -/
def feOfLo (l : Nat) : Nat := 0x010 + (l - 0x018) / 2

def twinOf (l : Nat) : Nat := if l % 2 = 0 then l + 1 else l - 1

/-! ## Divisor and reference (R115, R118) -/

/-- The divisors by DIV_CODE (R115). -/
def divisors : List Nat := [4, 6, 8, 12, 16, 24, 32, 48, 64, 96, 128, 192]

/-- How far a DCO frequency in kHz lies from the preferred band. -/
def bandDistance (dco : Nat) : Nat := if dco < 5500000 then 5500000 - dco else dco - 7500000

/-- DIV_CODE for a frequency: the largest D in the preferred band, else the nearest to it. -/
def chooseDiv (khz : Nat) : Nat :=
  let inBand := (List.range 12).filter (fun c => bandDistance (khz * divisors.getD c 4) == 0)
  match inBand.getLast? with
  | some c => c
  | none => ((List.range 12).foldl (fun b c =>
      if bandDistance (khz * divisors.getD c 4) < bandDistance (khz * divisors.getD b 4) then c else b) 0)

/-- Twice f_eff in kHz for a reference mode 0 to 2 (doubled so that halving stays exact). -/
def feff2 (refKhz mode : Nat) : Nat := refKhz * 2 ^ mode

/-- Is f_eff within 9.6 MHz to 80 MHz (R118)? -/
def refModeOk (refKhz mode : Nat) : Bool := 19200 ≤ feff2 refKhz mode && feff2 refKhz mode ≤ 160000

/-- Twice δ in kHz: the distance of the DCO from the nearest multiple of f_eff. -/
def boundary2 (dcoKhz refKhz mode : Nat) : Nat :=
  let fe := feff2 refKhz mode
  if fe = 0 then 0 else Nat.min (2 * dcoKhz % fe) (fe - 2 * dcoKhz % fe)

def boundaryOk (d2 : Nat) : Bool := d2 == 0 || 8000 ≤ d2

/-- The mode in force for a tune: as set, or under mode 3 the choice of R118.
Mark DESIGN CHOICE: notes/assumptions/20.md. -/
def chooseRef (refMode dcoKhz refKhz : Nat) : Nat :=
  if refMode < 3 then refMode
  else
    let d1 := boundary2 dcoKhz refKhz 1
    let d2 := boundary2 dcoKhz refKhz 2
    if boundaryOk d1 || !refModeOk refKhz 2 then 1
    else if boundaryOk d2 then 2
    else if d1 < d2 then 2 else 1

/-- The refusal of a REF_MODE write (R118). -/
def State.refModeCodes (s : State) (v : Word) : List Nat :=
  let m := v.toNat % 4
  if m < 3 ∧ !refModeOk (s.fld blkClk CLK.REF_CFG_REF_KHZ) m then [0x0202] else []

/-- The REF_MODE of a twin's tune: the one noted as the tune began, else the present one (R118). -/
def State.refModeOf (s : State) (l : Nat) : Nat :=
  if s.ax l axLoRef = 0 then s.fld l LO.REF_MODE else s.ax l axLoRef - 1

/-- A tune of a twin begins: a later write of REF_MODE is for the next one (R118). -/
def State.noteRef (s : State) (l : Nat) : State := s.setAx l axLoRef (s.fld l LO.REF_MODE + 1)

/-! ## Twins -/

/-- VALID of a LO_SYNTH: locked, and its LO calibration usable (R116). -/
def State.loCheck (s : State) (l : Nat) : State :=
  let v := s.flag l LO.LO_STATUS_LOCKED && s.flag l LO.LO_STATUS_CAL_OK && s.live l
  if (s.unit l).valid == v then s else s.setValid l v

/-- What a twin reports once it is tuned to a frequency by a REF_MODE (R115, R118): its divisor and reference, and what is
known for that divisor, its quadrature error and whether its LO calibration is usable (R116, R129). BOUNDARY_KHZ leaves
half a kHz off.
Mark DESIGN CHOICE: notes/assumptions/238.md. -/
def State.tuned (s : State) (l khz mode : Nat) : State :=
  let c := chooseDiv khz
  let dco := khz * divisors.getD c 4
  let refKhz := s.fld blkClk CLK.REF_CFG_REF_KHZ
  let m := chooseRef mode dco refKhz
  let t := ((s.put l LO.LO_KHZ khz).put l LO.LO_STATUS_DIV_CODE c).putB l LO.LO_STATUS_EDGE (bandDistance dco != 0)
  let t1 := ((t.put l LO.LO_STATUS_REF_USED m).put l LO.DCO_KHZ dco).put l LO.BOUNDARY_KHZ (boundary2 dco refKhz m / 2)
  ((t1.putI l LO.QUAD_ERR ((s.hs l hsLoQuad).getD c 0)).putB l LO.LO_STATUS_CAL_OK ((s.hs l hsLoOk).getD c 0 != 0)).loCheck l

def State.loFault (s : State) (l : Nat) : Bool := (s.unit l).selfFail

/-- A twin locks: LOCKED is set and its event raised (R127, R139); one that was lost and does not serve is idle again. -/
def State.loLock (s : State) (l : Nat) : State :=
  if s.flag l LO.LO_STATUS_LOCKED then s
  else
    let t := ((s.putB l LO.LO_STATUS_LOCKED true).raiseKind l evLOLocked).loCheck l
    if t.fld l LO.LO_STATUS_ROLE = 3 ∧ l ≠ t.servingLo (0x010 + (l - 0x018) / 2) ∧ !t.loFault l then t.put l LO.LO_STATUS_ROLE 0 else t

/-- A twin is off its frequency: not locked, and so not VALID (R116). -/
def State.loUnlock (s : State) (l : Nat) : State := (s.putB l LO.LO_STATUS_LOCKED false).loCheck l

/-- The DDC and CHAN_FILTER of every channel that a front end feeds, both streams' under mode 3. -/
def State.feChannels (s : State) (f : Nat) : List Nat :=
  (s.ddcsOf f).flatMap (fun d => [d, cfOfDdc d])

def State.holdChannels (s : State) (f : Nat) : State :=
  (s.feChannels f).foldl (fun t w => t.addHold holdLO w) s

def State.freeChannels (s : State) (f : Nat) : State :=
  (s.feChannels f).foldl (fun t w => t.dropHold holdLO w) s


/-- Does one twin of the front end serve alone, the other in FAULT (R123)? -/
def State.single (s : State) (f : Nat) : Bool := s.loFault (s.idleLo f) || s.loFault (s.servingLo f)

/-- Are a front end's channels held for its LO: from a loss of the serving twin to the end of the recovery (R127), while
both twins are in FAULT (R479), and on a single twin for a retune or a calibration run (R123)? -/
def State.loHeld (s : State) (f : Nat) : Bool :=
  let p := pairWin f
  (s.fePowered f && (s.ax p axLoRecover == 1 || s.fld (s.servingLo f) LO.LO_STATUS_ROLE == 3 ||
    (s.single f && (s.fld p LO.CAL_STATUS_RUNNING != 0 || s.fld p LO.TUNE_STATE == 2)))) ||
  (s.loFault p && s.loFault (p + 1))

/-- The channels of a front end are held or resume as its twins now stand. -/
def State.chanUpdate (s : State) (f : Nat) : State := if s.loHeld f then s.holdChannels f else s.freeChannels f

/-! ## Calibration runs (R129–R133) -/

/-- The steps in order, numbered as CAL_STATUS.STEP shows them: 1 LO of the idle twin, 2 image, 3
filter, 4 offset, 5 the same-frequency handover, 6 LO of the twin released there.
Mark DEDUCED: notes/assumptions/21.md. -/
def nextStep (mask step : Nat) : Nat :=
  if step < 1 ∧ mask % 2 = 1 then 1
  else if step < 2 ∧ mask / 2 % 2 = 1 then 2
  else if step < 3 ∧ mask / 4 % 2 = 1 then 3
  else if step < 4 ∧ mask / 8 % 2 = 1 then 4
  else if step < 5 ∧ mask % 8 ≠ 0 then 5
  else if step < 6 ∧ mask % 2 = 1 then 6
  else 0

/-- The twin that an LO calibration acts on: the idle one, or the one that serves alone (R123, R129).
Mark DEDUCED: notes/assumptions/221.md. -/
def State.calTwin (s : State) (f : Nat) : Nat := if s.loFault (s.idleLo f) then s.servingLo f else s.idleLo f

/-- A twin is to settle at a frequency, and the other no longer: what waited for a seam that does not come now is made
(R111, R120). -/
def State.settleTwin (s : State) (f l khz : Nat) : State :=
  let t := if s.ax l axLoRef = 0 then s.noteRef l else s
  let t1 := (t.setAx (twinOf l) axLoTarget 0).setAx l axLoTarget khz
  (((t1.loUnlock l).put (pairWin f) LO.TUNE_STATE 2).seamEnd f).chanUpdate f

/-- What waits for the twin goes on: a recovery at the lost twin's frequency, or a tune. A single twin carries the
channels, so there a tune waits for the end of a blend first (R124, R137), but not in HOLD (R122).
Mark DESIGN CHOICE: notes/assumptions/239.md. -/
def State.tuneGo (s : State) (f : Nat) : State :=
  let p := pairWin f
  let l := s.calTwin f
  if s.ax p axLoRecover = 1 then s.settleTwin f l (s.fld (s.servingLo f) LO.LO_KHZ)
  else if l = s.servingLo f ∧ s.inBlend f ∧ s.atomState f ≠ stHOLD then s.put p LO.TUNE_STATE 1
  else s.settleTwin f l (s.ax p axLoTune)

/-- The bandwidth of the entry in use, in kHz (R91). -/
def State.bandKhz (s : State) (f : Nat) : Nat := bwHz (s.bwNow f) / 1000

/-- How far from the centre the tones of a step stand, in kHz: min(B / 2 + 10 MHz, 110 MHz) of an image step, B / 2 of
a filter step (R129). -/
def State.toneKhz (s : State) (f step : Nat) : Nat :=
  if step = 2 then Nat.min (s.bandKhz f / 2 + 10000) 110000 else s.bandKhz f / 2

/-- A step with tones begins: the idle twin is the tone source, at the upper tone (R117, R129). -/
def State.toneStart (s : State) (f step : Nat) : State :=
  let l := s.idleLo f
  if (step = 2 ∨ step = 3) ∧ !s.single f then
    ((s.loUnlock l).put l LO.LO_STATUS_ROLE 2).tuned l (s.fld (s.drivingLo f) LO.LO_KHZ + s.toneKhz f step)
      (s.fld l LO.REF_MODE)
  else s

/-- It ends, or is aborted: the twin has gone on to the lower tone, and is idle there. Where that tone would lie below 0 its
frequency is not stated: a free value.
Mark DEDUCED: notes/assumptions/219.md.
Mark DESIGN CHOICE: notes/assumptions/237.md. -/
def State.toneEnd (s : State) (f step : Nat) : State :=
  let l := s.idleLo f
  if s.fld l LO.LO_STATUS_ROLE ≠ 2 then s
  else
    let c := s.fld (s.drivingLo f) LO.LO_KHZ
    let d := s.toneKhz f step
    let khz := if d < c then c - d else s.freshWord.toNat % 2 ^ 21
    ((s.useFresh.tuned l khz (s.fld l LO.REF_MODE)).loLock l).put l LO.LO_STATUS_ROLE 0

/-- A run begins with its first step. -/
def State.calBegin (s : State) (p mask : Nat) : State :=
  (((s.put p LO.CAL_STATUS_RUNNING mask).setAx p axCalFailed 0).setAx p axCalAt 0).setAx p axCalOne 0

/-- CAL_RUN_DONE: the run ends. With every step successful LAST_CODE reads 0, CAL_TEMP takes FE_TEMP
and CAL_DONE is raised (R132). Channels held for a calibration on a single twin resume (R123). -/
def State.calEnd (s : State) (f : Nat) : State :=
  let p := pairWin f
  let failed := s.ax p axCalFailed ≠ 0
  let s1 := ((((s.put p LO.CAL_STATUS_RUNNING 0).put p LO.CAL_STATUS_STEP 0).setAx p axCalFailed 0).setAx p axCalSeam 0).setAx
    p axCalOne 0
  (if failed then s1 else
    (((s1.put p LO.CAL_STATUS_LAST_CODE 0).put p LO.CAL_TEMP (s1.fld p LO.FE_TEMP)).setAx f axFeDirty 1).raiseKind
      p evLOCalDone).chanUpdate f

/-- The step that follows in the run under way, 0 at its end: a calibration after a loss of lock is its LO step alone, and
there is no handover on a single twin, nor in FE_2k+1 under mode 3, whose twins serve nothing (R110). -/
def State.stepAfter (s : State) (f : Nat) : Nat :=
  let p := pairWin f
  let n := nextStep (s.fld p LO.CAL_STATUS_RUNNING) (s.ax p axCalAt)
  if 5 ≤ n ∧ (s.ax p axCalOne = 2 ∨ s.single f ∨ s.slaved f) then 0 else n

/-- The next step begins. -/
def State.stepBegin (s : State) (f n : Nat) : State :=
  let t := s.put (pairWin f) LO.CAL_STATUS_STEP n
  if n = 5 then (t.settleTwin f (t.idleLo f) (t.fld (t.servingLo f) LO.LO_KHZ)).setAx (pairWin f) axCalSeam 1
  else t.toneStart f n

/-- Is an LO calibration of the idle twin due after its loss of lock, with no recovery to be made first (R128)? -/
def State.recalNow (s : State) (f : Nat) : Bool :=
  s.ax (s.idleLo f) axLoRecal == 1 && !s.loFault (s.idleLo f) && s.ax (pairWin f) axLoRecover == 0

/-- It is made: a step of its own before whatever the twin is wanted for, within the run under way or as a run by itself.
Mark DEDUCED: notes/assumptions/217.md. -/
def State.detour (s : State) (f : Nat) : State :=
  let p := pairWin f
  (if s.fld p LO.CAL_STATUS_RUNNING = 0 then (s.calBegin p 1).setAx p axCalOne 2 else s.setAx p axCalOne 1).put
    p LO.CAL_STATUS_STEP 1

/-- A run that has no step left ends, and the requests pending make up the next one unless a tune comes first (R131,
R137). -/
def State.runNext (s : State) (f : Nat) : State :=
  let p := pairWin f
  let t := if s.fld p LO.CAL_STATUS_RUNNING ≠ 0 ∧ s.stepAfter f = 0 then s.calEnd f else s
  let m := t.fld p LO.CAL_STATUS_PENDING
  if t.fld p LO.CAL_STATUS_RUNNING = 0 ∧ t.fld p LO.TUNE_STATE = 0 ∧ m ≠ 0 then
    (t.put p LO.CAL_STATUS_PENDING 0).calBegin p m
  else t

/-- Between two steps: a recovery that waits takes the idle twin first, then comes the LO calibration of a twin that had
lost lock, then a tune that waits, after whose handover the run goes on; else the next step begins, or the run ends, and
with it the next run may begin (R120, R128, R131, R137). -/
def State.calGo (s : State) (f : Nat) : State :=
  let p := pairWin f
  let t := s.put p LO.CAL_STATUS_STEP 0
  if t.recalNow f then (t.detour f).chanUpdate f
  else
    let t1 := (t.runNext f).chanUpdate f
    if t1.fld p LO.TUNE_STATE = 1 then t1.tuneGo f
    else if t1.fld p LO.TUNE_STATE ≠ 0 ∨ t1.fld p LO.CAL_STATUS_RUNNING = 0 then t1
    else t1.stepBegin f (t1.stepAfter f)

/-- Calibrations are requested: they start a run, or while a run or a tune goes on they are added to
PENDING unless the run already holds them (R131, R137). -/
def State.calRequest (s : State) (f mask : Nat) : State :=
  let p := pairWin f
  let run := s.fld p LO.CAL_STATUS_RUNNING
  if run ≠ 0 ∨ s.fld p LO.TUNE_STATE ≠ 0 then
    s.put p LO.CAL_STATUS_PENDING (s.fld p LO.CAL_STATUS_PENDING ||| (mask - (mask &&& run)))
  else (s.calBegin p mask).calGo f

/-- An LO calibration of the idle twin is due after its loss of lock: at once, or after the step under way; a handover
that the twin had settled for, a tune's or a run's, waits for it (R128).
Mark DEDUCED: notes/assumptions/217.md. -/
def State.recalDue (s : State) (f l : Nat) : State :=
  let p := pairWin f
  let t := s.setAx l axLoRecal 1
  if t.ax p axLoRecover = 1 ∨ (t.fld p LO.CAL_STATUS_STEP ≠ 0 ∧ t.ax p axCalSeam = 0) then t
  else if t.ax p axCalSeam = 1 then ((t.setAx p axCalSeam 0).put p LO.TUNE_STATE 0).calGo f
  else (if t.fld p LO.TUNE_STATE = 0 then t else t.put p LO.TUNE_STATE 1).calGo f

/-- A twin that goes to FAULT while it was wanted for a recovery, a tune or a run's handover leaves them to the other: the
tune goes on there, and a twin that was lost and has locked again serves.
Mark DEDUCED: notes/assumptions/240.md. -/
def State.twinLeaves (s : State) (f l : Nat) : State :=
  let p := pairWin f
  let w := twinOf l
  if l ≠ s.idleLo f then s
  else
    let s1 := if s.ax p axLoRecover = 0 then s else
      let t := ((s.setAx p axLoRecover 0).setAx p axLoTune (s.ax p axLoKept)).setAx p axLoKept 0
      if t.flag w LO.LO_STATUS_LOCKED ∧ !t.loFault w then t.put w LO.LO_STATUS_ROLE 1 else t
    let s2 := if s1.ax p axCalSeam = 1 then (s1.setAx p axCalSeam 0).put p LO.CAL_STATUS_STEP 0 else s1
    ((s2.setAx l axLoTarget 0).setAx l axLoRef 0).put p LO.TUNE_STATE (if s2.ax p axLoTune = 0 then 0 else 1)

/-- What goes on with the twins of a front end is dropped: they are untuned and idle. -/
def State.twinsOff (s : State) (f : Nat) : State :=
  let p := pairWin f
  let off := fun (t : State) (l : Nat) =>
    (((((t.put l LO.LO_KHZ 0).loUnlock l).put l LO.LO_STATUS_ROLE (if t.loFault l then 3 else 0)).setAx l axLoTarget 0).setAx l
      axLoRef 0).setAx l axLoRecal 0
  let s1 := off (off s p) (p + 1)
  let s2 := ((s1.put p LO.TUNE_STATE 0).put p LO.CAL_STATUS_RUNNING 0).put p LO.CAL_STATUS_PENDING 0
  let s3 := (((s2.put p LO.CAL_STATUS_STEP 0).setAx p axLoTune 0).setAx p axLoRecover 0).setAx p axLoKept 0
  ((s3.setAx p axCalSeam 0).setAx p axCalOne 0).chanUpdate f

/-- LO_TWIN_FAULT (R128): the twin goes to FAULT, F1 with 0x0401; with both twins in FAULT the front
end goes to SAFE, F1 with 0x0407, and its channels hold (R479). -/
def State.loTwinFault (s : State) (l : Nat) : State :=
  let f := feOfLo l
  let t := ((s.loUnlock l).put l LO.LO_STATUS_ROLE 3).markFault l 0x0401
  let t1 := t.declare { cls := 1, code := 0x0401, win := l, detail := 0 } true
  if t1.loFault (twinOf l) then
    ((t1.markSafe f 0x0407 true).twinsOff f).declare { cls := 1, code := 0x0407, win := f, detail := 0 } true
  else (t1.twinLeaves f l).chanUpdate f

/-- What a tune or a recovery kept back goes on: a run, a calibration due, or requests that waited (R137). -/
def State.calResume (s : State) (f : Nat) : State :=
  let p := pairWin f
  if s.fld p LO.TUNE_STATE ≠ 0 ∨ s.fld p LO.CAL_STATUS_STEP ≠ 0 then s else s.calGo f

/-- The refusals of a CAL_CTL write: a request needs its front end in WARM, RUN or HOLD (R130). -/
def State.calCodes (s : State) (p : Nat) (v : Word) : List Nat :=
  if v.toNat % 16 ≠ 0 ∧ !s.fePowered (feOfLo p) then [0x0203] else []

/-- CAL_ABORT (R133): the running step stops, PENDING clears, a twin whose LO calibration was running keeps its
previous values and shows STALE, and a waiting tune proceeds at once. -/
def State.calAbort (s : State) (p : Nat) : State :=
  let f := feOfLo p
  let step := s.fld p LO.CAL_STATUS_STEP
  if s.fld p LO.CAL_STATUS_RUNNING = 0 then s
  else
    let l := s.calTwin f
    let s1 := if step = 1 ∨ step = 6 then (s.putB l LO.LO_STATUS_STALE true).setAx l axLoRecal 0 else s.toneEnd f step
    let s2 := ((((s1.put p LO.CAL_STATUS_RUNNING 0).put p LO.CAL_STATUS_PENDING 0).put p LO.CAL_STATUS_STEP 0).setAx
      p axCalFailed 0).setAx p axCalOne 0
    let s3 := if s2.ax p axCalSeam = 1 then
        (((s2.setAx p axCalSeam 0).put p LO.TUNE_STATE 0).setAx l axLoTarget 0).setAx l axLoRef 0
      else s2
    let s4 := ((s3.count p LO.CAL_ABORT_COUNT).put p LO.CAL_STATUS_LAST_CODE 0x0405).raiseKind p evLOCalAborted
    (if s4.fld p LO.TUNE_STATE = 1 then s4.tuneGo f else s4).chanUpdate f

/-- CAL_CTL takes effect. -/
def State.calCtl (s : State) (p : Nat) (v : Word) : State :=
  let t := if v.getLsbD 8 then s.calAbort p else s
  if v.toNat % 16 = 0 then t else t.calRequest (feOfLo p) (v.toNat % 16)

def State.writeCalCtl (s : State) (m p : Nat) (v : Word) : State :=
  s.guarded m p 0x084 v (s.calCodes p v) (fun t => t.calCtl p v)

/-- CAL_REQ_LO. -/
def execCalReqLo (m : Master) (fe : Fin 4) (s : State) : Out := .next (s.writeCalCtl m (pairWin (feWin fe)) 1)

/-- CAL_REQ_IMAGE. -/
def execCalReqImage (m : Master) (fe : Fin 4) (s : State) : Out := .next (s.writeCalCtl m (pairWin (feWin fe)) 2)

/-- CAL_REQ_FILTER. -/
def execCalReqFilter (m : Master) (fe : Fin 4) (s : State) : Out := .next (s.writeCalCtl m (pairWin (feWin fe)) 4)

/-- CAL_REQ_OFFSET. -/
def execCalReqOffset (m : Master) (fe : Fin 4) (s : State) : Out := .next (s.writeCalCtl m (pairWin (feWin fe)) 8)

/-- CAL_ABORT. -/
def execCalAbort (m : Master) (fe : Fin 4) (s : State) : Out := .next (s.writeCalCtl m (pairWin (feWin fe)) 0x100)

/-- The failure code of a step (R132). -/
def stepCode (step : Nat) : Nat :=
  if step = 2 then 0x0402 else if step = 3 then 0x0403 else if step = 4 then 0x0404 else 0x0401

/-- A step that found a value outside its trim range (R132): an LO step counts in the twin it calibrated, another one in
LO_SYNTH_2n.
Mark DEDUCED: notes/assumptions/213.md. -/
def State.calStepFailed (s : State) (p step l : Nat) : State :=
  (((s.put p LO.CAL_STATUS_LAST_CODE (stepCode step)).setAx p axCalFailed 1).count (if step = 1 ∨ step = 6 then l else p)
    LO.CAL_FAIL_COUNT).raiseKind p evLOCalFailed

/-- An LO calibration of a twin succeeds at its present divisor: its sub-band and gains, its quadrature error, and with
them CAL_OK at that divisor (R116, R129). -/
def State.quadSet (s : State) (l : Nat) (a : CalArg) : State :=
  let c := s.fld l LO.LO_STATUS_DIV_CODE
  let d := putAt (putAt (putAt (s.hs l hsLoDco) (3 * c) a.band) (3 * c + 1) a.dcoGain) (3 * c + 2) a.tdcGain
  let t := (((s.putI l LO.QUAD_ERR a.quad).setHs l hsLoQuad (putAt (s.hs l hsLoQuad) c a.quad)).setHs l hsLoOk
    (putAt (s.hs l hsLoOk) c 1)).setHs l hsLoDco d
  let t1 := ((t.putB l LO.LO_STATUS_CAL_OK true).putB l LO.LO_STATUS_STALE false).setAx l axLoRecal 0
  (if t1.fld l LO.LO_STATUS_ROLE = 3 ∧ l ≠ t1.servingLo (feOfLo l) then t1.put l LO.LO_STATUS_ROLE 0 else t1).loCheck l

/-- The image correction for a twin: the path's mismatch at the twin's divisor, less nothing in amplitude and plus the
twin's own QUAD_ERR in phase (R129). -/
def State.imageOf (s : State) (f l : Nat) : List Int :=
  let c := s.fld l LO.LO_STATUS_DIV_CODE
  [(s.hs f hsFeMis).getD (2 * c) 0, (s.hs f hsFeMis).getD (2 * c + 1) 0 + s.sfld l LO.QUAD_ERR]

/-- Trims measured since the last seam take effect: entries of four, the bandwidth index and its corner, the gain-table
entry and its step value (R126). -/
def State.trimsIn (s : State) (f : Nat) : List Int → State
  | i :: c :: e :: g :: r =>
    (((s.setHs f hsFeCorner (putAt (s.hs f hsFeCorner) i.toNat c)).setHs f hsFeGain (putAt (s.hs f hsFeGain) e.toNat g))).trimsIn f r
  | _ => s

/-- At a seam: the image correction of the twin that now drives the mixer, and the trims (R126). -/
def State.seamTrims (s : State) (f : Nat) : State :=
  ((s.setHs f hsFeImage (s.imageOf f (s.drivingLo f))).trimsIn f (s.hs f hsFeTrims)).setHs f hsFeTrims []

/-- A seam of a front end moves the stream of FE_2k+1 too under mode 3: what the seam switches there, and what waited for
its end (R110, R111, R126). -/
def State.seamDone (s : State) (f : Nat) : State :=
  let t := (s.seamTrims f).seamEnd f
  if t.mode3 f then (t.seamTrims (f + 1)).seamEnd (f + 1) else t

/-- An image step's mismatch is the path's, from tones through the twin that drives it, less that twin's QUAD_ERR (R129). -/
def State.imageSet (s : State) (f : Nat) (amp phase : Int) : State :=
  let l := s.drivingLo f
  let c := s.fld l LO.LO_STATUS_DIV_CODE
  s.setHs f hsFeMis (putAt (putAt (s.hs f hsFeMis) (2 * c) amp) (2 * c + 1) (phase - s.sfld l LO.QUAD_ERR))

/-- The coarse correction stored for the entry in use: the mean of its tracking loop (R104, R129). -/
def State.offsetSet (s : State) (f : Nat) : State :=
  let i := s.fld f FE.FE_STATUS_GAIN_INDEX
  s.setHs f hsFeOffs (putAt (putAt (s.hs f hsFeOffs) (2 * i) ((s.hs f hsFeLoop).getD 0 0)) (2 * i + 1) ((s.hs f hsFeLoop).getD 1 0))

/-- What a step that succeeds leaves. -/
def State.calStepValues (s : State) (f step : Nat) (a : CalArg) : State :=
  if step = 1 ∨ step = 6 then s.quadSet (s.calTwin f) a
  else if step = 2 then s.imageSet f a.amp a.phase
  else if step = 3 then s.setHs f hsFeTrims (s.hs f hsFeTrims ++
    [(s.bwNow f : Int), a.corner, (s.fld f FE.FE_STATUS_GAIN_INDEX : Int), a.gain])
  else s.offsetSet f

/-- Did a step find every value in range? An image step fails where the rejection lies below 65 dB (R132). -/
def stepOk (step : Nat) (a : CalArg) : Bool := if step = 2 then decide (260 ≤ a.image) else a.ok

/-- CAL_STEP_DONE: the step under way ends with the values it measured (R129, R131, R132). An LO calibration after a loss
of lock that fails puts the twin in FAULT (R128). -/
def atCalStepDone (fe : Fin 4) (a : CalArg) (s : State) : Out :=
  let f := feWin fe
  let p := pairWin f
  let step := s.fld p LO.CAL_STATUS_STEP
  .next (if step = 0 ∨ step = 5 then s else
    let l := s.calTwin f
    let s0 := (if step = 2 then s.put p LO.IMAGE_REJ a.image else s).toneEnd f step
    let s1 :=
      if stepOk step a then s0.calStepValues f step a
      else if (step = 1 ∨ step = 6) ∧ s0.ax l axLoRecal = 1 then ((s0.setAx l axLoRecal 0).calStepFailed p step l).loTwinFault l
      else s0.calStepFailed p step l
    (if s1.ax p axCalOne = 1 then s1.setAx p axCalOne 0 else s1.setAx p axCalAt step).calGo f)

/-- TEMP_RECAL: the front end's temperature is now `temp` (0.125 °C), TEMP_THRESH or more from CAL_TEMP;
a run of all four starts where TEMP_AUTO is 1, though not on a single twin (R123, R130). -/
def execTempRecal (fe : Fin 4) (temp : Int) (s : State) : Out :=
  let f := feWin fe
  let p := pairWin f
  .next (if !(s.present f && s.fePowered f) then s else
    let t := s.putI p LO.FE_TEMP temp
    if (temp - s.sfld p LO.CAL_TEMP).natAbs < 8 * s.fld p LO.PAIR_CTL_TEMP_THRESH then t
    else
      let t1 := t.raiseKind p evLOTempRecal
      if s.flag p LO.PAIR_CTL_TEMP_AUTO && !s.loFault p && !s.loFault (p + 1) then t1.calRequest f 0xF else t1)

/-- The LO calibrations of a twin at all twelve divisors, at start-up or from the store. -/
def State.loValues (s : State) (l : Nat) (quads dco : List Int) : State :=
  let c := s.fld l LO.LO_STATUS_DIV_CODE
  let t := ((s.setHs l hsLoQuad (quads.take 12)).setHs l hsLoDco (dco.take 36)).setHs l hsLoOk (List.replicate 12 1)
  ((t.putI l LO.QUAD_ERR (quads.getD c 0)).putB l LO.LO_STATUS_CAL_OK true).loCheck l

/-- The start-up calibration of a twin: values outside their range leave the twin as it was. -/
def State.startTwin (s : State) (p l : Nat) (ok : Bool) (quads dco : List Int) : State :=
  if ok then (s.loValues l quads dco).putB l LO.LO_STATUS_STALE false else s.calStepFailed p 1 l

/-- CAL_STARTUP_DONE: everything has been calibrated before VALID: both twins at every divisor, image, filter and
offset (R130); each that found a value out of range keeps what was there and fails as in a run (R132). -/
def atCalStartupDone (fe : Fin 4) (a : StartupArg) (s : State) : Out :=
  let f := feWin fe
  let p := pairWin f
  .next (if s.ax f axFeStartCal = 0 then s else
    let t := s.setAx p axCalFailed 0
    let s1 := (t.startTwin p p a.okA a.quadA a.dcoA).startTwin p (p + 1) a.okB a.quadB a.dcoB
    let s2 := s1.put p LO.IMAGE_REJ a.image
    let s3 := if 260 ≤ a.image then s2.setHs f hsFeMis (a.mismatch.take 24) else s2.calStepFailed p 2 p
    let s4 := if a.okFilter then (s3.setHs f hsFeCorner (a.corner.take 16)).setHs f hsFeGain (a.gain.take 32)
      else s3.calStepFailed p 3 p
    let s5 := if a.okOffset then s4.setHs f hsFeOffs (a.offsets.take 64) else s4.calStepFailed p 4 p
    let s6 := (s5.setAx f axFeStartCal 0).seamTrims f
    let s7 := if s6.ax p axCalFailed ≠ 0 then s6.setAx p axCalFailed 0 else
      (((s6.setAx f axFeDirty 1).put p LO.CAL_TEMP (s6.fld p LO.FE_TEMP)).put p LO.CAL_STATUS_LAST_CODE 0).raiseKind p evLOCalDone
    s7.feCheck f)

/-- CAL_FE_L_DONE: the start-up gain calibration of FE_L ends with the step values of its 32 entries; CAL_FE_L is raised
either way (R134, R363), and only a completed one lets FE_L become VALID. -/
def atCalFeLDone (ok : Bool) (gains : List Int) (s : State) : Out :=
  .next (if s.ax 0x014 axFeStartCal = 0 then s
    else if ok then
      ((((s.setHs 0x014 hsFeGain (gains.take 32)).setAx 0x014 axFeStartCal 0).setAx 0x014 axFeDirty 1).raise 45).feCheck 0x014
    else s.raise 45)

/-! ## The calibration store (R135, R136) -/

def calBase : Nat := 0x042A0000

/-- Byte address and size of a front end's section: FE_0 to FE_3, and FE_L as 4. -/
def calSection (fe : Nat) : Nat × Nat :=
  if fe = 4 then (calBase + 0xF100, 1024) else (calBase + 0x100 + fe * 0x3C00, 15360)

/-- MAGIC of the store: the word whose bytes in order are FYCS. -/
def calMagic : Word := 0x53435946

/-- Does the store's header name this part, in format 1.0, and hold its CRC? -/
def State.calHeaderOk (s : State) : Bool :=
  s.rdWord calBase == calMagic && s.rdWord (calBase + 4) == 0x00010000 &&
  s.rdWord (calBase + 8) == s.part.uid.extractLsb' 0 32 && s.rdWord (calBase + 12) == s.part.uid.extractLsb' 32 32 &&
  s.rdWord (calBase + 0x3C) == crc32 (s.rdBytes calBase 0x3C)

/-- May firmware use the section of a front end (R136)? -/
def State.calUsable (s : State) (fe : Nat) : Bool :=
  s.calHeaderOk && (s.rdWord (calBase + 0x10)).getLsbD fe &&
  s.rdWord (calSection fe).1 == crc32 (s.rdBytes ((calSection fe).1 + 4) ((calSection fe).2 - 4))

/-- The header written anew with a VALID_MASK: magic, format, the part's number, WRITE_COUNT, the reserved bytes at 0 and
the CRC; in a store that had no header of this kind CAL_TEMP is 0 until it is written. -/
def State.calHeader (s : State) (mask : Word) : State :=
  let mine := s.rdWord calBase == calMagic
  let wc := if mine then s.rdWord (calBase + 0x14) + 1 else 1
  let t := s.wrWords calBase [calMagic, 0x00010000, s.part.uid.extractLsb' 0 32, s.part.uid.extractLsb' 32 32, mask, wc]
  let t1 := if mine then t else t.wrBytes (calBase + 0x18) (List.replicate 10 0)
  let t2 := t1.wrBytes (calBase + 0x22) (List.replicate 26 0)
  t2.wrWord (calBase + 0x3C) (crc32 (t2.rdBytes calBase 0x3C))

/-- CAL_TEMP_n of the header; that of FE_L, which has no temperature register, is 0.
Mark DESIGN CHOICE: notes/assumptions/214.md. -/
def State.calTemp (s : State) (fe : Nat) : State :=
  let v := if fe = 4 then 0 else s.fld (pairWin (feWin fe)) LO.CAL_TEMP
  (s.wrByte (calBase + 0x18 + 2 * fe) (BitVec.ofNat 8 v)).wrByte (calBase + 0x19 + 2 * fe) (BitVec.ofNat 8 (v / 256))

/-- CAL_STORE_WRITE: the section of a front end is written after a successful run; its VALID_MASK bit is
clear meanwhile and set afterwards. The section's content is private to firmware: an operand.
Mark DEDUCED: notes/assumptions/25.md.
Mark DEDUCED: notes/assumptions/27.md. -/
def execCalStoreWrite (fe : Fin 5) (sect : List Byte) (s : State) : Out :=
  let f := feWin fe
  .next (if s.ax f axFeDirty = 0 then s else
    let (a, n) := calSection fe
    let old := if s.calHeaderOk then s.rdWord (calBase + 0x10) else 0
    let bit : Word := 1#32 <<< (fe : Nat)
    let s1 := s.calHeader (old &&& ~~~bit)
    let s2 := s1.wrBytes (a + 4) (sect.take (n - 4))
    let s3 := s2.wrWord a (crc32 (s2.rdBytes (a + 4) (n - 4)))
    ((s3.calTemp fe).calHeader (old ||| bit)).setAx f axFeDirty 0)

/-! ## Tunes (R120–R123) -/

/-- A new tune replaces the one still in a stage of R120, or kept for after a recovery (R121). -/
def State.supersede (s : State) (f : Nat) : State :=
  let p := pairWin f
  if s.ax p axLoTune = 0 ∧ s.ax p axLoKept = 0 then s
  else (s.count p LO.TUNE_SUPERSEDED_COUNT).raiseKind p evLOSuperseded

/-- A tune of a front end to `khz`. A calibration step in progress is waited for, and so is a recovery; on a single twin the
serving one is retuned with the channels held (R120–R123, R127). A same-frequency handover of a run gives way, and the run
goes on from there after the tune.
Mark DEDUCED: notes/assumptions/222.md. -/
def State.tune (s : State) (f khz : Nat) : State :=
  let p := pairWin f
  if !s.fePowered f ∨ s.slaved f then s
  else if s.ax p axLoRecover = 1 then (s.supersede f).setAx p axLoKept khz
  else
    let s0 := (s.supersede f).setAx p axLoTune khz
    let s1 := if s0.ax p axCalSeam = 1 then (s0.setAx p axCalSeam 0).put p LO.CAL_STATUS_STEP 0 else s0
    let s2 := s1.noteRef (s1.calTwin f)
    if s2.fld p LO.CAL_STATUS_STEP ≠ 0 then s2.put p LO.TUNE_STATE 1 else s2.tuneGo f

/-! ## Handover (R124–R126, R143) -/

/-- The change of a NCO word that keeps a channel's absolute frequency when the centre moves up by `dk` kHz:
2³² / 245,760 counts for each kHz, rounded to the nearest.
Mark DEDUCED: notes/assumptions/24.md. -/
def ncoShift (dk : Int) : Int := -roundAway (dk * 4294967296) 245760

/-- NCO_REWRITE (R93, R143): the word in use and a staged word of a DDC shift alike; not a jump. -/
def State.ncoRewrite (s : State) (d : Nat) (dk : Int) : State :=
  (s.wr d DDC.NCO_ACTIVE.off (s.rd d DDC.NCO_ACTIVE.off + BitVec.ofInt 32 (ncoShift dk))).wr d DDC.NCO_FREQ.off
    (s.rd d DDC.NCO_FREQ.off + BitVec.ofInt 32 (ncoShift dk))

/-- The twins swap roles: the mixer, the roles, the count and the event (R124, R126). A seam that an engine other than the
reference sees counts once (R125). -/
def State.swapTwins (s : State) (f : Nat) : State :=
  let p := pairWin f
  let old := s.servingLo f
  let new := s.idleLo f
  let unaligned := (s.enginesOf f).any (fun e => s.live e && s.seamRef f != some e)
  let s1 := (s.putB f FE.FE_STATUS_LO_SERVING (!s.flag f FE.FE_STATUS_LO_SERVING)).put new LO.LO_STATUS_ROLE 1
  let s2 := if s1.fld old LO.LO_STATUS_ROLE = 3 then s1 else s1.put old LO.LO_STATUS_ROLE 0
  let s3 := ((s2.put p LO.TUNE_STATE 0).count p LO.HANDOVER_COUNT).raiseKind p evLOHandover
  if unaligned then s3.count p LO.SEAM_UNALIGNED_COUNT else s3

/-- The window moves to the centre of the twin that now serves: the NCO words of linked DDCs follow
under KEEP_CHANNELS, and WINDOW_MOVED is raised (R93). The handover of an APPLY is such a move at an equal centre too. -/
def State.moveWindow (s : State) (f : Nat) (applied : Bool) : State :=
  let khz := s.fld (s.servingLo f) LO.LO_KHZ
  let dk : Int := (khz : Int) - s.ax f axFeCentre
  if dk = 0 ∧ !applied then s
  else
    let s1 := s.setAx f axFeCentre khz
    let s2 := if s1.flag f FE.FE_CFG_KEEP_CHANNELS then
      ((s1.ddcsOf f).foldl (fun t d => t.ncoRewrite d dk) s1).bumpGens (s1.ddcsOf f) else s1
    s2.raiseKind f evFEMoved

/-- After a recovery the channels are released, the lost twin runs an LO calibration as the idle twin (R128), and a tune
kept follows. -/
def State.afterRecovery (s : State) (f : Nat) : State :=
  let p := pairWin f
  let kept := s.ax p axLoKept
  let s1 := ((s.setAx p axLoRecover 0).setAx p axLoKept 0).setAx p axLoTune kept
  let s2 := if s1.loFault (s1.idleLo f) then s1 else s1.setAx (s1.idleLo f) axLoRecal 1
  let s3 := if kept = 0 then s2 else (s2.noteRef (s2.calTwin f)).put p LO.TUNE_STATE 1
  (s3.chanUpdate f).calGo f

/-- The handover itself, and what waits for it: the actions that fell on the seam, a calibration run's next step, the end
of a recovery, requests that waited for the tune. -/
def State.handover (s : State) (f : Nat) : State :=
  let p := pairWin f
  let seam := s.ax p axCalSeam = 1
  let recover := s.ax p axLoRecover = 1
  let s1 := ((s.swapTwins f).moveWindow f (!recover && !seam)).seamDone f
  if recover then s1.afterRecovery f
  else if seam then ((s1.setAx p axCalSeam 0).setAx p axCalAt 5).calGo f
  else (s1.setAx p axLoTune 0).calResume f

/-- LO_HANDOVER: a seam that satisfies every channel of the front end; one in HOLD needs none (R122, R124). A tune of a
single twin that waited for the end of a blend begins there. -/
def atLoHandover (fe : Fin 4) (s : State) : Out :=
  let f := feWin fe
  let p := pairWin f
  .next (if s.inBlend f ∧ s.atomState f ≠ stHOLD then s
    else if s.fld p LO.TUNE_STATE = 3 ∧ !s.loFault (s.idleLo f) then s.handover f
    else if s.fld p LO.TUNE_STATE = 1 ∧ s.fld p LO.CAL_STATUS_STEP = 0 then s.tuneGo f
    else s)

/-- The retune of the single twin ends: it serves at the new centre, and the channels resume (R123). -/
def State.retuned (s : State) (f : Nat) : State :=
  let p := pairWin f
  let t := ((s.put p LO.TUNE_STATE 0).setAx p axLoTune 0).put (s.servingLo f) LO.LO_STATUS_ROLE 1
  (((t.moveWindow f (s.ax p axLoTune != 0)).seamDone f).chanUpdate f).calResume f

/-- TWIN_READY: the twin has settled at its target, `us` microseconds after the APPLY: READY, awaiting a
seam; a front end in HOLD, or one that recovers from a loss of lock, hands over at once (R120, R122, R127). LAST_TUNE_US
is that of a tune that an APPLY asked for. -/
def atTwinReady (lo : Fin 8) (us : Nat) (s : State) : Out :=
  let l := 0x018 + (lo : Nat)
  let f := feOfLo l
  let p := pairWin f
  .next (if s.fld p LO.TUNE_STATE ≠ 2 ∨ s.ax l axLoTarget = 0 then s else
    let s1 := (((s.tuned l (s.ax l axLoTarget) (s.refModeOf l)).setAx l axLoTarget 0).setAx l axLoRef 0).put p LO.TUNE_STATE 3
    let s2 := (if s1.ax p axLoTune = 0 then s1 else s1.put p LO.LAST_TUNE_US us).loLock l
    if l = s2.servingLo f then s2.retuned f
    else if s2.ax p axLoRecover = 1 ∨ s2.atomState f = stHOLD then s2.handover f
    else s2)

/-! ## Loss of lock (R127, R128) -/

/-- The front ends that a serving LO drives: its own, and FE_2k+1 under mode 3 (R110). -/
def State.feChecks (s : State) (f : Nat) : State := if s.mode3 f then (s.feCheck f).feCheck (f + 1) else s.feCheck f

/-- LO_LOCK_ACQUIRED: the twin has been within 1/32 cycle for 5 µs. A serving twin that was lost and had no other to
recover with serves again. -/
def atLoLockAcquired (lo : Fin 8) (s : State) : Out :=
  let l := 0x018 + (lo : Nat)
  let f := feOfLo l
  let p := pairWin f
  .next (if s.live l && s.fld l LO.LO_KHZ != 0 && !s.flag l LO.LO_STATUS_LOCKED && s.ax l axLoTarget == 0 then
    let t := s.loLock l
    let t1 := if l = t.servingLo f ∧ t.fld l LO.LO_STATUS_ROLE = 3 ∧ t.ax p axLoRecover = 0 then
      (t.put l LO.LO_STATUS_ROLE 1).chanUpdate f else t
    t1.feChecks f else s)

/-- The epochs of the twin's last losses move along; the third within 1 s faults it (R128). -/
def State.noteLoss (s : State) (l : Nat) : State × Bool :=
  let now := s.clock.uptime + 1
  let third := s.ax l axLoLoss2 ≠ 0 && decide (now ≤ s.ax l axLoLoss2 + secondTicks)
  ((s.setAx l axLoLoss2 (s.ax l axLoLoss1)).setAx l axLoLoss1 now, third)

/-- After a FAULT of the idle twin: a tune that it was wanted for, or the run, goes on with the other. -/
def State.afterFault (s : State) (f : Nat) : State :=
  if s.fePowered f ∧ s.fld (pairWin f) LO.CAL_STATUS_STEP = 0 then s.calGo f else s

/-- The serving twin is lost: the idle one is to be tuned to its frequency, a pending tune being kept; a run's
same-frequency handover gives way, and a step under way is waited for (R127). A single twin has none to recover with. -/
def State.recover (s : State) (f : Nat) : State :=
  let p := pairWin f
  if s.loFault (s.idleLo f) then s
  else
    let s1 := if s.ax p axLoTune = 0 then s else (s.setAx p axLoKept (s.ax p axLoTune)).setAx p axLoTune 0
    let s2 := s1.setAx p axLoRecover 1
    let s3 := if s2.ax p axCalSeam = 1 then (s2.setAx p axCalSeam 0).put p LO.CAL_STATUS_STEP 0 else s2
    let s4 := s3.noteRef (s3.idleLo f)
    if s4.fld p LO.CAL_STATUS_STEP ≠ 0 then s4.put p LO.TUNE_STATE 1 else s4.tuneGo f

/-- LO_LOCK_LOST: the twin is lost (R117). Of the serving twin: its channels are held and it is recovered from (R127). Of
the idle twin: it is recalibrated, and no channel is affected (R128). -/
def atLoLockLost (lo : Fin 8) (s : State) : Out :=
  let l := 0x018 + (lo : Nat)
  let f := feOfLo l
  .next (if !s.flag l LO.LO_STATUS_LOCKED then s else
    let serving := decide (l = s.servingLo f)
    let s1 := (s.put l LO.LO_STATUS_ROLE 3).chanUpdate f
    let s2 := ((s1.putB l LO.LO_STATUS_LOCKED false).count l LO.LOCK_LOST_COUNT).raiseKind l evLOLost
    let (s3, third) := (s2.loCheck l).noteLoss l
    let s4 := if third then s3.loTwinFault l else s3
    if serving then s4.recover f
    else if third then s4.afterFault f
    else s4.recalDue f l)

/-! ## A front end starts (R98, R114) -/

/-- The twins take ENABLE and RUN from their front end (R116). -/
def State.followFe (s : State) (f : Nat) : State :=
  if f = 0x014 then s
  else [pairWin f, pairWin f + 1].foldl (fun t l => t.watch l (fun u =>
    (u.putB l UCB.UNIT_CTL_ENABLE (u.flag f UCB.UNIT_CTL_ENABLE)).putB l UCB.UNIT_CTL_RUN (u.flag f UCB.UNIT_CTL_RUN))) s

/-- The values of a front end's section, as firmware reads them from its private content (R135, R137): the twins' LO
calibrations, mismatches, corner trims, step values and offsets. CAL_TEMP keeps its value: that of the header is not read.
Mark DESIGN CHOICE: notes/assumptions/236.md. -/
def State.calLoad (s : State) (f : Nat) : State :=
  let sec := calSection (f - 0x010)
  let v := fun (k : Nat) => Config.calValues (s.rdBytes (sec.1 + 4) (sec.2 - 4)) k
  let p := pairWin f
  let t := if f = 0x014 then s else
    (((((s.loValues p (v 0) (v 6)).loValues (p + 1) (v 1) (v 7)).setHs f hsFeMis (v 2)).setHs f hsFeCorner (v 3)).setHs f
      hsFeOffs (v 5))
  t.setHs f hsFeGain (v 4)

/-- The centre in force of a front end, in kHz: that of the last APPLY or commit, else the reset value (R93). -/
def State.centreOf (s : State) (f : Nat) : Nat := if s.ax f axFeCentre = 0 then 163750 else s.ax f axFeCentre

/-- A front end is served at a frequency with the analogue stages coming up: by the twin that LO_SERVING names, or by the
other where that one is in FAULT (R117, R123). -/
def State.serveAt (s : State) (f khz : Nat) : State :=
  let t := if s.loFault (s.servingLo f) ∧ !s.loFault (s.idleLo f) then
    s.putB f FE.FE_STATUS_LO_SERVING (!s.flag f FE.FE_STATUS_LO_SERVING) else s
  let l := t.servingLo f
  let role := fun (w n : Nat) => if t.loFault w then 3 else n
  let t1 := (((t.setAx f axFeCentre khz).tuned l khz (t.fld l LO.REF_MODE)).put l LO.LO_STATUS_ROLE (role l 1)).put
    (t.idleLo f) LO.LO_STATUS_ROLE (role (t.idleLo f) 0)
  (t1.loUnlock l).chanUpdate f

/-- FE_RUN_START (R114): the serving twin is tuned to the centre in force, but in FE_2k+1 under mode 3, whose twins stay idle
(R110); the AGC starts at MAX_INDEX in mode 1 or at MANUAL_INDEX in mode 0; the values of a valid section are loaded, and
where there is none a start-up calibration is owed. -/
def State.feRunStart (s : State) (f : Nat) : State :=
  let good := s.calUsable (f - 0x010)
  let s0 := (((s.setAx f axFeMet 0).setAx f axFeSince 0).setAx f axFeRun 0).setAx f axFeStartCal (b2n (!good))
  let s1 := ((s0.setAx f axFePend 0).setAx f axFePendSw 0).setAx f axFeOwed 0
  let s2 := if good then s1.calLoad f else s1
  let s3 := match s2.fld f FE.AGC_CTL_MODE with
    | 0 => s2.gainStep f (s2.fld f FE.AGC_CTL_MANUAL_INDEX)
    | 1 => s2.gainStep f (s2.fld f FE.AGC_CTL_MAX_INDEX)
    | _ => s2
  if f = 0x014 then s3
  else
    (if s3.slaved f then s3 else s3.serveAt f (s3.centreOf f)).seamDone f

/-- RUN of a front end falls: its twins are untuned and what was under way on them is dropped. -/
def State.feRunStop (s : State) (f : Nat) : State := if f = 0x014 then s else s.twinsOff f

/-- An APPLY of CENTRE_KHZ at the front end's boundary (R93): refused whole with 0x0210 where a channel
that keeps its frequency would not fit the moved window, with its word in use or its staged one; otherwise a tune. An
APPLY with nothing staged starts none, and one of a front end without power, or of FE_2k+1 under mode 3, only sets the
centre that it will serve at.
Mark DEDUCED: notes/assumptions/19.md.
Mark DEDUCED: notes/assumptions/215.md. -/
def State.feApply (s : State) (f : Nat) : State × Bool :=
  let khz := s.fld f FE.CENTRE_KHZ
  if f = 0x014 ∨ !(s.unit f).applyPending then (s, true)
  else if !s.fePowered f ∨ s.slaved f then (s.setAx f axFeCentre khz, true)
  else
    let dk : Int := (khz : Int) - s.ax f axFeCentre
    let fit := (s.ddcsOf f).all (fun d => s.ddcFits d (s.sfld d DDC.NCO_ACTIVE + ncoShift dk) &&
      s.ddcFits d (s.sfld d DDC.NCO_FREQ + ncoShift dk))
    if s.flag f FE.FE_CFG_KEEP_CHANNELS && !fit then (s.refuseUnit f 0x0210, false)
    else (s.tune f khz, true)

/-- DIV_CTL takes effect: a front end that leaves modes 1 and 2 returns to input A, and what
waited under the old mode is dropped (R107). Entering mode 3 the twins of FE_2k+1 become idle, and leaving it they serve
it again at its own centre (R110).
Mark DEDUCED: notes/assumptions/220.md. -/
def State.divWritten (s : State) (f : Nat) (v : Word) : State :=
  let t := s.store f 0x054 v
  let mode := t.fld f FE.DIV_CTL_MODE
  let t1 := if (mode = 0 ∨ mode = 3) ∧ t.flag f FE.FE_STATUS_ON_B then t.putB f FE.FE_STATUS_ON_B false else t
  let t2 := (((t1.setAx f axFeRequest 0).setAx f axFeReturn 0).setAx f axFeDwell 0).setAx f axFePendSw 0
  if s.mode3 f = t2.mode3 f ∨ !t2.fePowered (f + 1) then t2
  else if t2.mode3 f then ((t2.twinsOff (f + 1)).seamDone (f + 1)).feCheck (f + 1)
  else ((t2.serveAt (f + 1) (t2.centreOf (f + 1))).seamDone (f + 1)).setValid (f + 1) false

end Sys2Proof.Machine
end

