-- ==== Sys2Proof/Machine/Channels.lean ====
section
/-! DEFINITION. Channel extraction and the filter units (R140–R164). -/

namespace Sys2Proof.Machine

/-- KIND_EVENTS of DDC (R151) and of the filter unit (R164). -/
def evDdcRetuned : Nat := 16
def evDdcJump : Nat := 17
def evDdcSat : Nat := 18
def evFiltFade : Nat := 16
def evFiltSuper : Nat := 17
def evFiltSat : Nat := 18

/-- Hidden slots: outputs counted towards W; a DDC's phase accumulator; the lengths of a filter's running and
pending fades. -/
def axWarm : Nat := 0
def axAcc : Nat := 1
def axFadeLen : Nat := 32
def axPendLen : Nat := 33

/-- The samples that a unit last delivered; what waits to enter a unit, oldest first. -/
def hsOut : Nat := 4
def hsIn : Nat := 21

/-- The stamp of the sample that a unit last delivered (R15, R149). -/
def axStamp : Nat := 2


/-! ## Warm-up (R161) -/

/-- `⌈a / b⌉`. -/
def ceilDiv (a b : Nat) : Nat := if b = 0 then a else (a + b - 1) / b

/-- R, HB1 and HB2 of a DDC. -/
def State.ddcSplit (s : State) (d : Nat) : Nat × Nat × Nat :=
  match s.fld d DDC.RATE with
  | 1 => (30, 1, 1)
  | 2 => (160, 1, 1)
  | 3 => (320, 1, 1)
  | 4 => (512, 1, 1)
  | 5 => (1024, 1, 1)
  | _ => (s.fld d DDC.CUSTOM_CIC_FACTOR, s.fld d DDC.CUSTOM_HB1, s.fld d DDC.CUSTOM_HB2)

/-- L_DDC of R161. -/
def ddcLength : Nat × Nat × Nat → Nat
  | (r, h1, h2) => 5 * (r - 1) + 1 + 62 * r * h1 + 62 * r * (1 + h1) * h2

def State.bankTaps (s : State) (w b : Nat) : Nat := s.fld w (FILT.BANK_CFG_TAPS.at b)

/-- The largest TAPS among the banks that feed a filter's output. -/
def State.feedingTaps (s : State) (w : Nat) : Nat :=
  let a := s.fld w FILT.FILT_STATUS_ACTIVE
  if s.flag w FILT.FILT_STATUS_FADING then Nat.max (s.bankTaps w a) (s.bankTaps w (1 - a)) else s.bankTaps w a

/-- W: the outputs that a unit takes with its input VALID before it sets VALID. -/
def State.warmNeed (s : State) (w : Nat) : Nat :=
  match kindOf w with
  | .ddc => ceilDiv (ddcLength (s.ddcSplit w)) (s.ddcDecim w)
  | .chanFilter => ceilDiv (s.feedingTaps w) (s.filtDecim w)
  | .audioFilter => s.feedingTaps w
  | .detector => 48
  | _ => 0

/-- WARM_LEFT. -/
def State.warmLeft (s : State) (w : Nat) : Nat :=
  if s.atomState w = stWARM then s.warmNeed w - s.ax w axWarm else 0

/-- The count after `n` more outputs: those made while the input is not VALID never count (R161). -/
def State.warmCount (s : State) (w n : Nat) : State :=
  s.setAx w axWarm (if s.inputValid w then Nat.min (s.ax w axWarm + n) 512 else 0)

/-- Are the outputs of a unit zero for its warm-up (R162)?
Mark DEDUCED: notes/assumptions/33.md. -/
def State.warmMuted (s : State) (w : Nat) : Bool :=
  s.atomState w == stWARM && s.flag w UCB.UNIT_CTL_HOLD_MUTE_WARM

/-! ## The extractor -/

/-- A DDC's registers as they read: DECIM, BRANCHES, WARM_LEFT and OUT_RATE follow the configuration (R150). -/
def State.ddcRead (s : State) (d off : Nat) : Word :=
  if off = 0x050 then w32 (s.ddcDecim d % 8192 + 65536 * s.branches d + 16777216 * (s.warmLeft d % 256))
  else if off = 0x054 then w32 (s.ddcFs d / Nat.max 1 (s.ddcDecim d))
  else s.rd d off

/-- The refusals of a DDC write: the fit (R92, R96), and for RATE and CUSTOM the source, the match with the
sink, the taps and the raw IQ limit (R147, R154, R345). R154 names CUSTOM for the taps and not RATE, which moves r as well.
Mark DESIGN CHOICE: notes/assumptions/204.md. -/
def State.ddcCodes (s : State) (d off : Nat) (v : Word) : List Nat :=
  let t := s.store d off v
  let fit := if t.ddcFitsNow d then [] else [0x0210]
  if off = 0x040 then fit
  else if off = 0x044 ∨ off = 0x048 then
    (match rateSource (t.fld d DDC.RATE) with
      | some low => if s.srcOf d 0 != 0x3FF && low != (s.srcOf d 0 == 0x014) then [0x0202] else []
      | none => []) ++
    (if t.rateMatch d then [] else [0x0213]) ++ (if t.tapsFit d then [] else [0x0214]) ++ fit ++ iqCode t
  else []

/-- Is the move from the NCO word in use to the staged one a jump: more than r / 2 (R142)?
Mark DEDUCED: notes/assumptions/29.md. -/
def State.ddcJumps (s : State) (d : Nat) : Bool :=
  decide (2 ^ 32 < (s.rd d DDC.NCO_FREQ.off - s.rd d DDC.NCO_ACTIVE.off).toInt.natAbs * (2 * s.chanDecim d))

/-- The staged word comes into use: RETUNED, and at a jump the count, JUMP_RESET and the synchronising reset
of DDC and CHAN_FILTER together (R141, R142). -/
def State.ddcTake (s : State) (d : Nat) : State :=
  let t := (s.wr d DDC.NCO_ACTIVE.off (s.rd d DDC.NCO_FREQ.off)).raiseKind d evDdcRetuned
  if s.ddcJumps d then
    ((((t.count d DDC.JUMP_COUNT).raiseKind d evDdcJump).syncReset d).syncReset (cfOfDdc d))
  else t

/-! ## Coefficients (R153, R156) -/

/-- A stored coefficient word of a bank.
Mark DEDUCED: notes/assumptions/30.md. -/
def State.coefWord (s : State) (w b i : Nat) : Nat := (s.rd (bankBlk w b) (4 * i)).toNat

/-- The half-word `k` of a packed bank. -/
def State.coefHalf (s : State) (w b k : Nat) : Int :=
  signed 16 (if k % 2 = 0 then s.coefWord w b (k / 2) else s.coefWord w b (k / 2) / 65536)

/-- The index of tap `k` of `l` in a symmetric bank. -/
def mirrorTap (l k : Nat) : Nat := if k < (l + 1) / 2 then k else l - 1 - k

/-- Tap `k` of a bank: its real and imaginary parts as stored. -/
def State.coef (s : State) (w b k : Nat) : Int × Int :=
  let l := s.bankTaps w b
  match s.fld w (FILT.BANK_CFG_FORMAT.at b) with
  | 0 => (s.coefHalf w b k, 0)
  | 1 => (s.coefHalf w b (mirrorTap l k), 0)
  | 2 => (signed 24 (s.coefWord w b k), 0)
  | 3 => (signed 24 (s.coefWord w b (mirrorTap l k)), 0)
  | _ => (signed 16 (s.coefWord w b k), signed 16 (s.coefWord w b k / 65536))

/-- The scale of a bank's coefficients: Q1.15 or Q1.23. -/
def State.coefScale (s : State) (w b : Nat) : Nat :=
  if s.fld w (FILT.BANK_CFG_FORMAT.at b) = 2 ∨ s.fld w (FILT.BANK_CFG_FORMAT.at b) = 3 then 8388608 else 32768

def State.taps (s : State) (w b : Nat) : List (Int × Int) := (List.range (s.bankTaps w b)).map (s.coef w b)

/-! ## Banks and loading (R155) -/

def State.bankBusy (s : State) (w b : Nat) : Bool :=
  s.fld w FILT.FILT_STATUS_ACTIVE == b || s.flag w FILT.FILT_STATUS_FADING

/-- A filter unit's registers as they read. -/
def State.filtRead (s : State) (w off : Nat) : Word :=
  if 0x800 ≤ off then s.rd (bankBlk w (s.fld w FILT.LOAD_BANK)) (off - 0x800)
  else if off = 0x058 then w32 (s.warmLeft w)
  else s.rd w off

/-- The refusals of a filter unit's registers (R147, R154, R155). -/
def State.filtCodes (s : State) (w off : Nat) (v : Word) : List Nat :=
  let d := w - 0x40
  let t := s.store w off v
  if 0x800 ≤ off then
    let b := s.fld w FILT.LOAD_BANK
    if s.bankBusy w b && s.rd (bankBlk w b) (off - 0x800) != v then [0x0203] else []
  else if off = 0x040 then
    (if t.rateMatch d then [] else [0x0213]) ++ (if t.tapsFit d then [] else [0x0214]) ++
    (if t.ddcFitsNow d then [] else [0x0210]) ++ iqCode t
  else if off = 0x044 ∨ off = 0x048 then
    (if s.bankBusy w ((off - 0x044) / 4) && t.rd w off != s.rd w off then [0x0203] else []) ++
    (if kindOf w = .chanFilter ∧ !t.tapsFit d then [0x0214] else [])
  else []

/-! ## Cross-fade and swap (R157–R159) -/

/-- A fade that needs more outputs than have been counted returns the unit to WARM (R161). -/
def State.rewarm (s : State) (w : Nat) : State :=
  if s.atomState w = stRUN ∧ s.ax w axWarm < s.warmNeed w then s.setValid w false else s

/-- A request is carried out while no fade runs: the fade starts at the next output, or it has no effect. -/
def State.startFade (s : State) (w target len : Nat) : State :=
  if target = s.fld w FILT.FILT_STATUS_ACTIVE then s
  else (((s.put w FILT.FILT_STATUS_FADING 1).put w FILT.FILT_STATUS_FADE_POS 0).setAx w axFadeLen len).rewarm w

/-- A request becomes pending; it replaces one that already is. -/
def State.pendFade (s : State) (w target len : Nat) : State :=
  let s1 := if s.flag w FILT.FILT_STATUS_PENDING then
    (s.count w FILT.SWAP_SUPERSEDED_COUNT).raiseKind w evFiltSuper else s
  ((s1.put w FILT.FILT_STATUS_PENDING 1).put w FILT.FILT_STATUS_PENDING_TARGET target).setAx w axPendLen len

/-- A write to SWAP_CTL takes effect.
Mark DEDUCED: notes/assumptions/31.md. -/
def State.swap (s : State) (w target len : Nat) : State :=
  if s.live w then
    if s.flag w FILT.FILT_STATUS_FADING then s.pendFade w target len else s.startFade w target len
  else if target = s.fld w FILT.FILT_STATUS_ACTIVE then s
  else (s.put w FILT.FILT_STATUS_ACTIVE target).raiseKind w evFiltFade

def State.writeSwap (s : State) (m w : Nat) (v : Word) : State :=
  s.guarded m w 0x050 v [] (fun t => t.swap w (FILT.SWAP_CTL_TARGET.of v) (FILT.SWAP_CTL_FADE_LEN.of v))

/-- SWAP_REQUEST: a write to SWAP_CTL of a filter unit. -/
def execSwapRequest (m : Master) (w : Fin 1024) (v : Word) (s : State) : Out :=
  .next (if kindOf w = .chanFilter ∨ kindOf w = .audioFilter then s.writeSwap m w v else s)

/-- Has the running fade made its last output? -/
def State.fadeDue (s : State) (w : Nat) : Bool :=
  s.flag w FILT.FILT_STATUS_FADING && decide (s.ax w axFadeLen ≤ s.fld w FILT.FILT_STATUS_FADE_POS)

/-- The fade ends: ACTIVE takes TARGET, FADE_DONE is raised, and a pending request is carried out with the
banks as they now stand (R157, R158). -/
def State.endFade (s : State) (w : Nat) : State :=
  let t := (((s.put w FILT.FILT_STATUS_ACTIVE (1 - s.fld w FILT.FILT_STATUS_ACTIVE)).put w
    FILT.FILT_STATUS_FADING 0).put w FILT.FILT_STATUS_FADE_POS 0).raiseKind w evFiltFade
  if t.flag w FILT.FILT_STATUS_PENDING then
    ((t.put w FILT.FILT_STATUS_PENDING 0).put w FILT.FILT_STATUS_PENDING_TARGET 0).startFade w
      (t.fld w FILT.FILT_STATUS_PENDING_TARGET) (t.ax w axPendLen)
  else t

/-- FADE_END. -/
def execFadeEnd (w : Fin 1024) (s : State) : Out := .next (if s.fadeDue w then s.endFade w else s)

/-! ## Outputs (R140, R152, R157, R162) -/

/-- The complex sum of products over the delay line, newest sample first. -/
def mac (h : List (Int × Int)) (re im : List Int) : Int × Int :=
  (h.zip (re.zip im)).foldl (fun a p =>
    (a.1 + p.1.1 * p.2.1 - p.1.2 * p.2.2, a.2 + p.1.1 * p.2.2 + p.1.2 * p.2.1)) (0, 0)

/-- Bits of an output sample: 24 for a channel, 32 for audio. -/
def outBits (w : Nat) : Nat := if kindOf w = .audioFilter then 32 else 24

/-- A value saturated to `n` bits. -/
def saturate (n : Nat) (i : Int) : Int := clampI (-(2 ^ (n - 1))) (2 ^ (n - 1) - 1) i

/-- The rounded sum of one bank, before saturation. -/
def State.bankSum (s : State) (w b : Nat) (re im : List Int) : Int × Int :=
  let y := mac (s.taps w b) re im
  (roundAway y.1 (s.coefScale w b), roundAway y.2 (s.coefScale w b))

/-- Output `k` of a fade of `f`: (1 − k / f)·old + (k / f)·new. The rounding of a value between two integers
is not stated: `up` chooses it freely.
Mark DEDUCED: notes/assumptions/34.md. -/
def fadeMix (k f : Nat) (up : Bool) (old new : Int) : Int :=
  let x := ((f : Int) - k) * old + k * new
  if f = 0 then new else if x % f = 0 then x / f else if up then x / f + 1 else x / f

/-- Does an AUDIO_FILTER have one audio channel: that of a mono lane, in which the second stream repeats the first? -/
def State.monoFilter (s : State) (w : Nat) : Bool :=
  kindOf w == .audioFilter && s.flag (winLane (w - winAF 0)) LANE.LANE_CFG_MONO

/-- One output of a filter unit from its delay line: the samples, and how many of them saturated: in a fade
those in which the sum of a bank that they hold did. In an AUDIO_FILTER each audio channel has a sample of its own. -/
def State.filterSample (s : State) (w : Nat) (free : Nat) (re im : List Int) : (Int × Int) × Nat :=
  let n := outBits w
  let a := s.fld w FILT.FILT_STATUS_ACTIVE
  let fading := s.flag w FILT.FILT_STATUS_FADING
  let k := if fading then s.fld w FILT.FILT_STATUS_FADE_POS + 1 else 0
  let f := s.ax w axFadeLen
  let old := s.bankSum w a re im
  let new := s.bankSum w (1 - a) re im
  let mix := fun (i : Nat) (x y : Int) =>
    if fading then fadeMix k f ((Config.freeWord free).getLsbD i) (saturate n x) (saturate n y) else saturate n x
  let clips := fun (x y : Int) => (saturate n x != x && (!fading || decide (k < f))) || (saturate n y != y && fading)
  let re' := clips old.1 new.1
  let im' := clips old.2 new.2
  let y := mix 0 old.1 new.1
  if s.monoFilter w then ((y, y), b2n re')
  else ((y, mix 1 old.2 new.2), if kindOf w = .audioFilter then b2n re' + b2n im' else b2n (re' || im'))

/-- The history after new samples, oldest of them first. -/
def shiftIn (len : Nat) (xs : List Int) (h : List Int) : List Int := (xs.reverse ++ h).take len

def countSat (s : State) (w : Nat) (r : FRef) (n : Nat) : State :=
  if n = 0 then s else (s.countN w r n).raiseKind w 18

/-- An output of a filter unit from the D new samples of each stream. -/
def State.filterOut (s0 : State) (w : Nat) (xs ys : List (Int × Int)) : State :=
  let s := if s0.fadeDue w then s0.endFade w else s0
  let len := if kindOf w = .audioFilter then 512 else 256
  let s1 := ((s.setHs w 0 (shiftIn len (xs.map Prod.fst) (s.hs w 0))).setHs w 1
    (shiftIn len (xs.map Prod.snd) (s.hs w 1)))
  let s2 := if ys.isEmpty then s1 else ((s1.setHs w 2 (shiftIn len (ys.map Prod.fst) (s.hs w 2))).setHs w 3
    (shiftIn len (ys.map Prod.snd) (s.hs w 3)))
  let a := s2.filterSample w s.fresh (s2.hs w 0) (s2.hs w 1)
  let b := s2.filterSample w (s.fresh + 1) (s2.hs w 2) (s2.hs w 3)
  let muted := s2.warmMuted w
  let out := if muted then [0, 0, 0, 0] else
    if ys.isEmpty then [a.1.1, a.1.2] else [a.1.1, a.1.2, b.1.1, b.1.2]
  let sat := if muted then 0 else a.2 + (if ys.isEmpty then 0 else b.2)
  let s3 := countSat ((s2.setHs w hsOut out).useFresh.useFresh) w FILT.SAT_COUNT sat
  let s4 := if s3.flag w FILT.FILT_STATUS_FADING then
    s3.put w FILT.FILT_STATUS_FADE_POS (s3.fld w FILT.FILT_STATUS_FADE_POS + 1) else s3
  s4.warmCount w 1

/-! ### The extractor's chain -/

/-- The complex samples of a stream brought to `n`: zeros stand for those that are missing. -/
def fitTo (n : Nat) (xs : List (Int × Int)) : List (Int × Int) := (xs ++ List.replicate n (0, 0)).take n

/-- Samples of the ADC on the scale of 24 bits, shifted by the NCO from accumulator `acc`: at each it advances first, and
20 bits of it give the phase (R140). Only the rounding of the product is free. -/
def mixed (free step : Nat) : Nat → List (Int × Int) → List (Int × Int)
  | _, [] => []
  | acc, x :: xs =>
    let a := (acc + step) % 4294967296
    (if x = (0, 0) then (0, 0) else
      rotatedBack (a / 4096) (1024 * x.1, 1024 * x.2) (fun i => Config.rounds free (2 * xs.length + i))) :: mixed free step a xs

/-- One sample through the integrators: each adds what the one before it now holds. -/
def integrate : List Int → Int → List Int
  | [], _ => []
  | a :: l, x => (a + x) :: integrate l (a + x)

/-- One sample through the combs, each with a delay of 1: what they hold on, and what leaves the last. -/
def comb : List Int → Int → List Int × Int
  | [], x => ([], x)
  | p :: l, x => let r := comb l (x - p); (x :: r.1, r.2)

/-- Five places, zero where nothing stands. -/
def five (l : List Int) : List Int := (l ++ List.replicate 5 0).take 5

/-- `n` outputs of the CIC of factor `r` for one real stream: five integrators, five combs, and its gain of R⁵ removed
(R144). How the quotient is rounded is not stated: `up` chooses it freely. -/
def cicRun (r : Nat) (up : Bool) : Nat → List Int → List Int → List Int → List Int × List Int × List Int
  | 0, i, c, _ => (i, c, [])
  | n + 1, i, c, xs =>
    let i1 := (xs.take r).foldl integrate i
    let k := comb c (i1.getLastD 0)
    let t := cicRun r up n i1 k.1 (xs.drop r)
    (t.1, t.2.1, between k.2 (r ^ 5) up :: t.2.2)

/-- A half-band stage of taps `h` over its 63-sample delay line: one output for each two samples (R145). -/
def halfBand (h : List Int) (up : Nat → Bool) : List Int → List Int → List Int × List Int
  | l, x :: y :: xs =>
    let d := shiftIn 63 [x, y] l
    let t := halfBand h up d xs
    (t.1, firOut h d (up xs.length) :: t.2)
  | l, _ => (l, [])

/-- Half-band stage `k` where it is in use; a bypassed one passes its samples unchanged. -/
def halfBandIf (k inUse : Nat) (up : Nat → Bool) (l xs : List Int) : List Int × List Int :=
  if inUse = 0 then (l, xs) else halfBand (halfBandTaps .halfBand k) up l xs

/-- One real stream of a DDC through the CIC, HB1 and HB2, to one output: the integrators, combs and delay lines stand
in four histories from slot 5 + 4 · `c`. -/
def State.ddcStream (s : State) (d c : Nat) (xs : List Int) : State × Int :=
  let p := s.ddcSplit d
  let z := 5 + 4 * c
  let k := cicRun p.1 ((Config.freeWord (s.fresh + c)).getLsbD 0) ((1 + p.2.1) * (1 + p.2.2)) (five (s.hs d z)) (five (s.hs d (z + 1))) xs
  let up := fun (j i : Nat) => Config.rounds (s.fresh + c) (8192 * j + i)
  let h := halfBandIf 1 p.2.1 (up 1) (s.hs d (z + 2)) k.2.2
  let g := halfBandIf 2 p.2.2 (up 2) (s.hs d (z + 3)) h.2
  ((((s.setHs d z k.1).setHs d (z + 1) k.2.1).setHs d (z + 2) h.1).setHs d (z + 3) g.1, g.2.headD 0)

/-- The stamp of a channel sample: the epoch at which the ADC sample at the centre of the DDC's impulse response was
taken, (L_DDC − 1) / 2 input samples before the newest one, of which 10 (FRONT_END) or 4 (LOWBAND) make a count (R149).
Mark DEDUCED: notes/assumptions/196.md. -/
def State.ddcStamp (s : State) (d : Nat) : Nat :=
  (s.clock.epoch - BitVec.ofNat 64 (ceilDiv (ddcLength (s.ddcSplit d) - 1) (if s.srcOf d 0 = winFEL then 8 else 20))).toNat

/-- An output enters the filter of its channel, with its stamp: branch a, then branch b. -/
def State.ddcDeliver (s : State) (d : Nat) (out : List Int) : State :=
  ((s.sinksOf d 0).filter s.live).foldl (fun t w =>
    t.setHs w hsIn (t.hs w hsIn ++ ((out ++ [0, 0]).take 4 ++ [((s.ax d axStamp : Nat) : Int)]))) s

/-- An output of a DDC from D samples of each branch: shifted, decimated, and saturated to 24 bits (R140–R149, R151).
LOWBAND's samples are real. -/
def State.ddcOut (s : State) (d : Nat) (xs ys : List (Int × Int)) : State :=
  let n := s.ddcDecim d
  let step := (s.rd d DDC.NCO_ACTIVE.off).toNat
  let real := fun (l : List (Int × Int)) => if s.srcOf d 0 = winFEL then l.map (fun p => (p.1, (0 : Int))) else l
  let a := mixed s.fresh step (s.ax d axAcc) (real (fitTo n xs))
  let b := mixed (s.fresh + 1) step (s.ax d axAcc) (fitTo n ys)
  let r0 := s.ddcStream d 0 (a.map Prod.fst)
  let r1 := r0.1.ddcStream d 1 (a.map Prod.snd)
  let two := s.branches d == 2
  let r2 := if two then r1.1.ddcStream d 2 (b.map Prod.fst) else (r1.1, 0)
  let r3 := if two then r2.1.ddcStream d 3 (b.map Prod.snd) else (r2.1, 0)
  let y := if two then [(r0.2, r1.2), (r2.2, r3.2)] else [(r0.2, r1.2)]
  let muted := s.warmMuted d
  let sat := if muted then 0 else (y.filter (fun p => saturate 24 p.1 != p.1 || saturate 24 p.2 != p.2)).length
  let out := y.flatMap (fun p => if muted then [0, 0] else [saturate 24 p.1, saturate 24 p.2])
  let t := ((({ r3.1 with fresh := s.fresh + 4 }.setAx d axAcc ((s.ax d axAcc + step * n) % 4294967296)).setAx d axStamp
    (s.ddcStamp d)).setHs d hsOut out).ddcDeliver d out
  (countSat t d DDC.SAT_COUNT sat).warmCount d 1

/-- The entries that wait for a CHAN_FILTER: I and Q of each branch, and the stamp. -/
def takeFives : Nat → List Int → List (List Int)
  | 0, _ => []
  | n + 1, l => l.take 5 :: takeFives n (l.drop 5)

/-- An output of a CHAN_FILTER from the DDC outputs that wait, as many as its DECIM: their newest stamp goes with it
(R149). Fewer make none.
Mark DEDUCED: notes/assumptions/223.md. -/
def State.chanOut (s : State) (w : Nat) : State :=
  let n := s.filtDecim w
  if (s.hs w hsIn).length < 5 * n then s
  else
    let es := takeFives n (s.hs w hsIn)
    let pick := fun (i : Nat) => es.map (fun e => (e.getD i 0, e.getD (i + 1) 0))
    let t := s.setHs w hsIn ((s.hs w hsIn).drop (5 * n))
    (t.filterOut w (pick 0) (if s.branches (w - 0x40) = 2 then pick 2 else [])).setAx w axStamp ((es.getLastD []).getD 4 0).toNat

end Sys2Proof.Machine
end

