-- ==== Sys2Proof/Machine/Detect.lean ====
section
/-! DEFINITION. The detectors (R165–R173): what they take from each sample of AUDIO_FILTER, the levels of a 1 ms
block, the loudness measures, silence and overs. -/

namespace Sys2Proof.Machine

/-- KIND_EVENTS of DETECTOR (R173). -/
def evDetSilEnter : Nat := 16
def evDetSilExit : Nat := 17
def evDetOver : Nat := 18

/-- Hidden slots of a detector: 1 ms blocks since the reset; the silence timers; the runs above LEVEL in L and
R; milliseconds since the last over; loudness updates since the reset. -/
def axDetBlocks : Nat := 1
def axSilEnter : Nat := 2
def axSilExit : Nat := 3
def axOverL : Nat := 4
def axOverR : Nat := 5
def axOverMs : Nat := 6
def axLoud : Nat := 7

/-- Histories of a detector: the last samples of L and R; the block under way (samples; peaks, true peaks and sums of
squares of L and R); the envelopes; the K-weighting of L and R; the 100 ms under way (samples, energy); the peaks of the
blocks passed, newest first, in fours; their sums of squares, in twos; the energies of the last 100 ms intervals. The
envelopes and the K-weighted samples keep 32 bits below a unit of Q1.31. -/
def hsDetL : Nat := 0
def hsDetR : Nat := 1
def hsDetBlock : Nat := 2
def hsDetEnv : Nat := 3
def hsDetKL : Nat := 4
def hsDetKR : Nat := 5
def hsDetLoud : Nat := 6
def hsDetPeaks : Nat := 7
def hsDetSquares : Nat := 8
def hsDetEnergy : Nat := 9

/-- The histogram of the integrated measure: neither HOLD nor a reset clears it (R168). -/
def hsHistogram : Nat := 32

/-! ## Levels in 0.01 dB (R165, R166) -/

/-- Does `num / den`, raised to the power `k`, reach 10^v? -/
def reaches (num den k : Nat) (v : Int) : Bool :=
  if 0 ≤ v then decide (10 ^ v.toNat * den ^ k ≤ num ^ k) else decide (den ^ k ≤ num ^ k * 10 ^ (-v).toNat)


/-- 20 log10 of `num / den` in 0.01 dB: the exact value where it is whole, else one of the two beside it as `up` says.
How a level is rounded to 0.01 dB is not stated.
Mark DEDUCED: notes/assumptions/197.md. -/
def peakLevel (num den : Nat) (up : Bool) : Int :=
  let v := climb (reaches num den 2000) 15 (-15001)
  if up && !decide (v < -15000) && reaches den num 2000 (-v) == false then v + 1 else v

/-- 10 log10 of `num / den` in 0.01 dB. -/
def powerLevel (num den : Nat) (up : Bool) : Int :=
  let v := climb (reaches num den 1000) 15 (-15001)
  if up && !decide (v < -15000) && reaches den num 1000 (-v) == false then v + 1 else v

/-- −0.691 + 10 log10 of `num / den` in 0.01 LU, rounded down. -/
def loudFloor (num den : Nat) : Int := climb (fun v => reaches num den 10000 (10 * v + 691)) 15 (-15001)

/-- The same, rounded as `up` says. -/
def loudLevel (num den : Nat) (up : Bool) : Int :=
  let v := loudFloor num den
  if up && !decide (v < -15000) && reaches den num 10000 (-(10 * v + 691)) == false then v + 1 else v

def State.laneStereo (s : State) (n : Nat) : Bool := !s.flag (winLane n) LANE.LANE_CFG_MONO

/-- A level in 0.01 dB as reported: below −150.00 dB it reads −15000; `none` reads 0x8000. -/
def levelCode : Option Int → Nat
  | none => 0x8000
  | some i => unsigned 16 (if i < -15000 then -15000 else i)

/-- A two-channel report. -/
def twoLevels (l r : Option Int) : Word := w32 (levelCode l + 65536 * levelCode r)

def orNone (b : Bool) (i : Int) : Option Int := if b then some i else none

/-- The larger of two measures, of those available.
Mark DEDUCED: notes/assumptions/37.md. -/
def maxLevel : Option Int → Option Int → Option Int
  | some a, some b => some (if a < b then b else a)
  | some a, none => some a
  | none, b => b

/-- An update of the measure that the silence machine judges (R170): `ms` is its update interval. -/
def State.judgeSilence (s : State) (w ms : Nat) (v : Option Int) : State :=
  if !s.flag w DET.SIL_CFG_ENABLE then s
  else
    let level := s.sfld w DET.SIL_CFG_LEVEL
    let hyst := 100 * (s.fld w DET.SIL_CFG_HYST : Int)
    match v with
    | none => (s.setAx w axSilEnter 0).setAx w axSilExit 0
    | some i =>
      (s.setAx w axSilEnter (if i < level then Nat.min (s.ax w axSilEnter + ms) 65535 else 0)).setAx w axSilExit
        (if level + hyst ≤ i then Nat.min (s.ax w axSilExit + ms) 65535 else 0)

/-- Does a counted over still run: COUNT or more samples above LEVEL and no end yet (R171)? -/
def State.overRuns (s : State) (w : Nat) : Bool :=
  decide (s.fld w DET.OVER_CFG_COUNT ≤ s.ax w axOverL) || decide (s.fld w DET.OVER_CFG_COUNT ≤ s.ax w axOverR)

/-- A millisecond passes since the last over: after 100 of them OVER clears, unless its run goes on.
Mark DEDUCED: notes/assumptions/36.md. -/
def State.ageOver (s : State) (w : Nat) : State :=
  if !s.flag w DET.DET_STATUS_OVER then s
  else
    let t := s.setAx w axOverMs (Nat.min (s.ax w axOverMs + 1) 100)
    if t.ax w axOverMs = 100 ∧ !(s.flag w DET.OVER_CFG_ENABLE && s.overRuns w) then t.put w DET.DET_STATUS_OVER 0 else t

/-- Two-channel maximum of MAX_TP; R reads 0x8000 in a mono lane (R165). -/
def maxTp (old : Word) (stereo : Bool) (l r : Option Int) : Word :=
  let up := fun (o : Nat) (x : Option Int) => match x with
    | none => o
    | some i => if signed 16 o < (if i < -15000 then -15000 else i) then levelCode (some i) else o
  w32 (up (old.toNat % 65536) l + 65536 * (if stereo then up (old.toNat / 65536) r else 0x8000))

/-- A detector's registers as they read: every R field is 0x8000 in a mono lane (R165). -/
def State.detRead (s : State) (w off : Nat) : Word :=
  if s.laneStereo (w - winDet 0) ∨ !(off = 0x080 ∨ off = 0x084 ∨ off = 0x088 ∨ off = 0x08C ∨ off = 0x09C) then s.rd w off
  else w32 ((s.rd w off).toNat % 65536 + 65536 * 0x8000)

/-- An over: OVER, its count and its event (R171). -/
def State.over (s : State) (w : Nat) : State :=
  (((s.put w DET.DET_STATUS_OVER 1).setAx w axOverMs 0).count w DET.OVER_COUNT).raiseKind w evDetOver

/-- A sample of each channel, as above LEVEL or not: a run that reaches COUNT is an over, and runs of both channels that
reach it at one sample are one over (R171). While ENABLE is 0 no run goes on.
Mark DESIGN CHOICE: notes/assumptions/241.md. -/
def State.overSample (s : State) (w : Nat) (l r : Bool) : State :=
  if !(s.flag w DET.OVER_CFG_ENABLE && s.live w) then (s.setAx w axOverL 0).setAx w axOverR 0
  else
    let c := s.fld w DET.OVER_CFG_COUNT
    let nl := if l then Nat.min (s.ax w axOverL + 1) 256 else 0
    let nr := if r then Nat.min (s.ax w axOverR + 1) 256 else 0
    let t := (s.setAx w axOverL nl).setAx w axOverR nr
    if (c ≤ nl ∧ s.ax w axOverL < c) ∨ (c ≤ nr ∧ s.ax w axOverR < c) then t.over w else t

/-- Is the magnitude above LEVEL: 20 log10 of it over full scale greater than that (R171)? -/
def aboveLevel (level : Int) (x : Int) : Bool := reaches x.natAbs 2147483648 2000 level && !reaches 2147483648 x.natAbs 2000 (-level)

/-! ## One sample (R166, R167, R171) -/

/-- The envelope after a sample: it moves towards the magnitude by 1 − exp(−1 / (48,000 τ)) of the distance, τ being ATTACK
× 0.1 ms above it and RELEASE ms below (R167). -/
def State.envelope (s : State) (w c : Nat) (e x : Int) : Int :=
  let ax := ((x.natAbs : Nat) : Int)
  let up := Config.rounds s.fresh c
  if e < ax * 2 ^ 32 then followStep 10 (48 * s.fld w DET.ENV_CFG_ATTACK) e ax up
  else followStep 1 (48 * s.fld w DET.ENV_CFG_RELEASE) e ax up

/-- The first two phases of the 48-tap interpolator of BS.1770 Annex 2, with 13 fractional bits; the others are these
reversed.
Mark PRESUMED: notes/assumptions/242.md. -/
def tpPhases : List (List Int) :=
  let a : List Int := [14, 90, -161, 272, -487, 1125, 7964, -838, 390, -218, 122, -68]
  let b : List Int := [-239, 240, -424, 730, -1364, 3810, 6388, -1641, 832, -477, 271, -155]
  [a, b, b.reverse, a.reverse]

/-- The four oversampled values at a sample, over the last twelve (R166). -/
def oversampled (h : List Int) (up : Nat → Bool) : List Int :=
  tpPhases.zipIdx.map (fun p => between (dot p.1 h) 8192 (up p.2))

/-- One second-order section: its state (x and y of the last two samples) and coefficients with 14 decimals, b0, b1, b2, a1
and a2. -/
def section2 (k : List Int) (z : List Int) (x : Int) (up : Bool) : List Int × Int :=
  let y := between (k.getD 0 0 * x + k.getD 1 0 * z.getD 0 0 + k.getD 2 0 * z.getD 1 0 - k.getD 3 0 * z.getD 2 0 -
    k.getD 4 0 * z.getD 3 0) (10 ^ 14) up
  ([x, z.getD 0 0, y, z.getD 2 0], y)

/-- The two sections of the K-weighting of BS.1770 at 48 kHz.
Mark PRESUMED: notes/assumptions/242.md. -/
def kShelf : List Int := [153512485958697, -269169618940638, 119839281085285, -169065929318241, 73248077421585]
def kHigh : List Int := [100000000000000, -200000000000000, 100000000000000, -199004745483398, 99007225036621]

/-- A sample through the K-weighting (R166). -/
def kWeighted (z : List Int) (x : Int) (up : Nat → Bool) : List Int × Int :=
  let a := section2 kShelf (z.take 4) (x * 2 ^ 32) (up 0)
  let b := section2 kHigh (z.drop 4) a.2 (up 1)
  (a.1 ++ b.1, b.2)

/-- The overs among the samples that the measure names: the sample itself, or the four oversampled ones. -/
def State.overSamples (s : State) (w : Nat) (l r : List Int) : State :=
  let level := s.sfld w DET.OVER_CFG_LEVEL
  (l.zip r).foldl (fun t p => t.overSample w (aboveLevel level p.1) (aboveLevel level p.2)) s

/-- One sample of AUDIO_FILTER reaches its detector; a mono lane has no R. -/
def State.detSample (s : State) (n : Nat) (l r0 : Int) : State :=
  let w := winDet n
  if !s.live w then s
  else
    let r := if s.laneStereo n then r0 else 0
    let hl := shiftIn 12 [l] (s.hs w hsDetL)
    let hr := shiftIn 12 [r] (s.hs w hsDetR)
    let up := fun (j i : Nat) => Config.rounds s.fresh (8 * j + i)
    let tl := oversampled hl (up 1)
    let tr := oversampled hr (up 2)
    let most := fun (a : Int) (xs : List Int) => xs.foldl (fun m x => if m < ((x.natAbs : Nat) : Int) then ((x.natAbs : Nat) : Int) else m) a
    let b := s.hs w hsDetBlock
    let e := s.hs w hsDetEnv
    let s1 := ((((s.setHs w hsDetL hl).setHs w hsDetR hr).setHs w hsDetBlock
      [b.getD 0 0 + 1, most (b.getD 1 0) [l], most (b.getD 2 0) [r], most (b.getD 3 0) tl, most (b.getD 4 0) tr,
       b.getD 5 0 + l * l, b.getD 6 0 + r * r]).setHs w hsDetEnv [s.envelope w 0 (e.getD 0 0) l, s.envelope w 1 (e.getD 1 0) r])
    let kl := kWeighted (s.hs w hsDetKL) l (up 3)
    let kr := kWeighted (s.hs w hsDetKR) r (up 4)
    let z := kl.2 * kl.2 + (if s.laneStereo n then kr.2 * kr.2 else 0)
    let g := s.hs w hsDetLoud
    let s2 := (((s1.setHs w hsDetKL kl.1).setHs w hsDetKR kr.1).setHs w hsDetLoud [g.getD 0 0 + 1, g.getD 1 0 + z]).useFresh
    (if s.fld w DET.OVER_CFG_MEASURE = 0 then s2.overSamples w [l] [r] else s2.overSamples w tl tr).warmCount w 1

/-! ## A 1 ms block (R166, R169, R170) -/

/-- A block ends: its levels join those of the blocks before it. -/
def State.blockDone (s : State) (w : Nat) : State :=
  let b := s.hs w hsDetBlock
  let at2 := fun (i : Nat) => b.getD i 0
  (((s.setHs w hsDetBlock []).setHs w hsDetPeaks (([at2 1, at2 2, at2 3, at2 4] ++ s.hs w hsDetPeaks).take 40000)).setHs w hsDetSquares
    (([at2 5, at2 6] ++ s.hs w hsDetSquares).take 6000)).setAx w axDetBlocks (Nat.min (s.ax w axDetBlocks + 1) 10000)

/-- Entry `i` of each of the first `n` groups of `k` values. -/
def column (k i n : Nat) (l : List Int) : List Int := (List.range n).map (fun j => l.getD (k * j + i) 0)

/-- The peak over the window in column `i` of the blocks, as a level. -/
def State.peakOf (s : State) (w i : Nat) (up : Bool) : Int :=
  peakLevel ((column 4 i (s.fld w DET.PEAK_MS) (s.hs w hsDetPeaks)).foldl (fun a x => Nat.max a x.natAbs) 0) 2147483648 up

/-- The RMS over the window in column `i`, as a level. -/
def State.rmsOf (s : State) (w i : Nat) (up : Bool) : Int :=
  let n := s.fld w DET.RMS_MS
  powerLevel ((column 2 i n (s.hs w hsDetSquares)).foldl (fun a x => a + x.natAbs) 0) (48 * n * 2 ^ 62) up

/-- The levels of a block that has just ended, its reports and what judges them (R165, R166, R169): each reads 0x8000
until its window has filled, and R in a mono lane. -/
def State.detReport (s : State) (n : Nat) : State :=
  let w := winDet n
  let stereo := s.laneStereo n
  let blocks := s.ax w axDetBlocks
  let up := fun (i : Nat) => (Config.freeWord s.fresh).getLsbD i
  let pk := decide (s.fld w DET.PEAK_MS ≤ blocks)
  let rm := decide (s.fld w DET.RMS_MS ≤ blocks)
  let env := s.atomState w == stRUN
  let two := fun (ok : Bool) (l r : Int) => (orNone ok l, orNone (ok && stereo) r)
  let p := two pk (s.peakOf w 0 (up 0)) (s.peakOf w 1 (up 1))
  let t := two pk (s.peakOf w 2 (up 2)) (s.peakOf w 3 (up 3))
  let r := two rm (s.rmsOf w 0 (up 4)) (s.rmsOf w 1 (up 5))
  let ev := fun (i : Nat) => peakLevel ((s.hs w hsDetEnv).getD i 0).natAbs (2 ^ 63) (up (6 + i))
  let e := two env (ev 0) (ev 1)
  let s2 := ((((s.useFresh.wr w DET.PEAK.off (twoLevels p.1 p.2)).wr w DET.TRUE_PEAK.off
    (twoLevels t.1 t.2)).wr w DET.RMS.off (twoLevels r.1 r.2)).wr w DET.ENVELOPE.off (twoLevels e.1 e.2)).wr w
    DET.MAX_TP.off (maxTp (s.rd w DET.MAX_TP.off) stereo t.1 t.2)
  let s3 := match s.fld w DET.SIL_CFG_MEASURE with
    | 0 => s2.judgeSilence w 1 (maxLevel r.1 r.2)
    | 3 => s2.judgeSilence w 1 (maxLevel e.1 e.2)
    | _ => s2
  s3.ageOver w

/-- Has the block that is under way its 48 samples? -/
def State.blockDue (s : State) (w : Nat) : Bool := decide (48 ≤ (s.hs w hsDetBlock).getD 0 0)

/-- DETECTOR_BLOCK: 48 samples have passed since the last one. -/
def execDetectorBlock (n : Fin 32) (s : State) : Out :=
  let w := winDet n
  .next (if s.present w && s.live w && s.blockDue w then (s.blockDone w).detReport n else s)

/-! ## Loudness (R166, R168) -/

/-- The bin of a block loudness in 0.01 LU, if the absolute gate lets it pass (R168). -/
def loudBin (l : Int) : Option Nat := if l < -7000 then none else some (Nat.min ((l + 7000) / 10).toNat 749)

/-- The histogram with one more block in a bin. -/
def binPlus (h : List Int) (i : Nat) : List Int :=
  let b := if h.isEmpty then List.replicate 750 0 else h
  b.set i (b.getD i 0 + 1)

/-- The energy that stands for a bin, in units of full scale squared over 2⁶²: that of its middle, which alone keeps every
block of the bin within ±0.05 LU (R168).
Mark DEDUCED: notes/assumptions/195.md. -/
def binEnergy (i : Nat) : Nat := (between (tenTo (100 * (i : Int) - 69259) 10000) (2 ^ 34) (Config.rounds 0 i)).toNat

/-- The blocks of the histogram whose bin satisfies `p`: how many, and their energy. -/
def histSum (h : List Int) (p : Nat → Bool) : Nat × Nat :=
  (List.range 750).foldl (fun a i => if p i then (a.1 + (h.getD i 0).toNat, a.2 + (h.getD i 0).toNat * binEnergy i) else a) (0, 0)

/-- The integrated loudness of a histogram: the blocks within 10 LU of the mean of all of them, which is a factor of 10 in
energy, and their mean (R168). -/
def integratedOf (h : List Int) (up : Bool) : Option Int :=
  let a := histSum h (fun _ => true)
  let g := histSum h (fun i => decide (a.2 ≤ 10 * (binEnergy i * a.1)))
  if g.1 = 0 then none else some (loudLevel g.2 (g.1 * 2 ^ 62) up)

/-- The 100 ms under way end; the last 30 of them are kept. -/
def State.loudDone (s : State) (w : Nat) : State :=
  ((s.setHs w hsDetLoud []).setHs w hsDetEnergy (((s.hs w hsDetLoud).getD 1 0 :: s.hs w hsDetEnergy).take 30)).setAx w axLoud
    (Nat.min (s.ax w axLoud + 1) 30)

/-- The energy of the last `k` intervals of 100 ms. -/
def State.loudEnergy (s : State) (w k : Nat) : Nat := ((s.hs w hsDetEnergy).take k).foldl (fun a x => a + x.natAbs) 0

/-- The momentary, short-term and integrated loudness at the end of 100 ms, and what judges them. -/
def State.loudReport (s : State) (w : Nat) : State :=
  let up := fun (i : Nat) => (Config.freeWord s.fresh).getLsbD i
  let d := 4800 * 2 ^ 126
  let m := orNone (decide (4 ≤ s.ax w axLoud)) (loudLevel (s.loudEnergy w 4) (4 * d) (up 0))
  let st := orNone (decide (30 ≤ s.ax w axLoud)) (loudLevel (s.loudEnergy w 30) (30 * d) (up 1))
  let s2 := if s.flag w DET.LOUD_CTL_INT_RUN ∧ s.atomState w = stRUN ∧ m.isSome then
    (match loudBin (loudFloor (s.loudEnergy w 4) (4 * d)) with
      | some i => s.setHs w hsHistogram (binPlus (s.hs w hsHistogram) i)
      | none => s) else s
  let s3 := (((s2.useFresh.put w DET.MOMENTARY (levelCode m)).put w DET.SHORT_TERM (levelCode st)).put w DET.INTEGRATED
    (levelCode (if (s2.hs w hsHistogram).isEmpty then none else integratedOf (s2.hs w hsHistogram) (up 2))))
  match s.fld w DET.SIL_CFG_MEASURE with
  | 1 => s3.judgeSilence w 100 m
  | 2 => s3.judgeSilence w 100 st
  | _ => s3

/-- Have 4,800 samples passed since the last update? -/
def State.loudDue (s : State) (w : Nat) : Bool := decide (4800 ≤ (s.hs w hsDetLoud).getD 0 0)

/-- LOUDNESS_UPDATE: 100 ms of samples have passed since the last one. -/
def execLoudnessUpdate (n : Fin 32) (s : State) : Out :=
  let w := winDet n
  .next (if s.present w && s.live w && s.loudDue w then (s.loudDone w).loudReport w else s)

/-! ## Silence and overs (R170, R171) -/

/-- SILENCE_ENTER. -/
def execSilenceEnter (n : Fin 32) (s : State) : Out :=
  let w := winDet n
  .next (if s.flag w DET.SIL_CFG_ENABLE && !s.flag w DET.DET_STATUS_SILENT && s.live w &&
      decide (s.fld w DET.SIL_TIME_ENTER_MS ≤ s.ax w axSilEnter) then
    ((s.put w DET.DET_STATUS_SILENT 1).count w DET.SILENCE_COUNT).raiseKind w evDetSilEnter else s)

/-- SILENCE_EXIT. -/
def execSilenceExit (n : Fin 32) (s : State) : Out :=
  let w := winDet n
  .next (if s.flag w DET.SIL_CFG_ENABLE && s.flag w DET.DET_STATUS_SILENT && s.live w &&
      decide (s.fld w DET.SIL_TIME_EXIT_MS ≤ s.ax w axSilExit) then
    (s.put w DET.DET_STATUS_SILENT 0).raiseKind w evDetSilExit else s)

/-- OVER_REPEAT: a run that goes on has lasted a further 100 ms since it was last counted. -/
def execOverRepeat (n : Fin 32) (s : State) : Out :=
  let w := winDet n
  .next (if s.flag w DET.OVER_CFG_ENABLE && s.flag w DET.DET_STATUS_OVER && s.live w && s.overRuns w &&
      decide (s.ax w axOverMs = 100) then s.over w else s)

/-- A detector register takes its written value: SIL_CFG and SIL_TIME restart the silence timers, clearing
ENABLE clears SILENT, and INT_RESET clears the histogram, after which INTEGRATED has no value (R168, R170). -/
def State.detWritten (s : State) (w off : Nat) (v : Word) : State :=
  let t := s.store w off v
  if off = 0x04C ∨ off = 0x050 then
    let t1 := (t.setAx w axSilEnter 0).setAx w axSilExit 0
    if t1.flag w DET.SIL_CFG_ENABLE then t1 else t1.put w DET.DET_STATUS_SILENT 0
  else if off = 0x054 ∧ !t.flag w DET.OVER_CFG_ENABLE then (t.setAx w axOverL 0).setAx w axOverR 0
  else if off = 0x058 ∧ v.getLsbD 1 then (t.setHs w hsHistogram []).put w DET.INTEGRATED 0x8000
  else t

/-- INT_RESET: a write of LOUD_CTL with INT_RESET at 1 and INT_RUN as it stands. -/
def execIntReset (m : Master) (n : Fin 32) (s : State) : Out :=
  let w := winDet n
  let v := w32 (s.fld w DET.LOUD_CTL_INT_RUN + 2)
  .next (s.guarded m w 0x058 v [] (fun t => t.detWritten w 0x058 v))

end Sys2Proof.Machine
end

