-- ==== Sys2Proof/Machine/Demod.lean ====
section
/-! DEFINITION. FM and AM demodulation (R174–R200): the quality index, the adaptive controls, the metrics, the
pilot, the carrier and the noise blanker. -/

namespace Sys2Proof.Machine

/-- KIND_EVENTS of FM_DEMOD and AM_DEMOD (R200). -/
def evFmPilotFound : Nat := 16
def evFmPilotLost : Nat := 17
def evSoftMuted : Nat := 18
def evFmOverdev : Nat := 19
def evAmLocked : Nat := 16
def evAmLost : Nat := 17
def evAmBranch : Nat := 19

/-- Hidden slots of a demodulator that a reset clears: the samples of the blank that are still to come and those that it
has taken, a blank in the present millisecond, the sample that waits is an impulse, the evaluations before the sideband may
change again, samples held for an aerial switch, 10 ms intervals in succession with the pilot at its level and below it,
output samples left of a cross-fade, milliseconds of lock since a fallback, a blank that starts after a hold. -/
def axBlankLeft : Nat := 12
def axBlankPast : Nat := 3
def axBlankNow : Nat := 4
def axImpulse : Nat := 6
def axSideLock : Nat := 7
def axHeldPast : Nat := 8
def axPilotUp : Nat := 9
def axPilotDown : Nat := 10
def axAmFade : Nat := 11
def axAmLocked : Nat := 13
def axBlankLate : Nat := 14

/-- Histories of a demodulator beside its samples: the amplitudes of the last millisecond of channel samples; the greatest
deviation, or the greatest negative and positive modulation, since the last 100 ms interval. -/
def hsAmps : Nat := 24
def hsPeak : Nat := 23

/-- Hidden slots that HOLD keeps: each control's place as numerator and denominator (0/0: never moved), seconds
of RUN towards MPX_POWER, envelope detection as a fallback. -/
def axBlend : Nat := 32
def axCorner : Nat := 34
def axSmute : Nat := 36
def axMpxSeconds : Nat := 38
def axFallback : Nat := 39

/-! ## Quality index (R192) -/

/-- Q from an SNR in 0.01 dB less a multipath penalty of `mp8` eighths. -/
def qIndex (snr : Int) (mp8 : Nat) (up : Bool) : Nat :=
  (clampI 0 255 (between (8 * snr - 25 * (mp8 : Int)) 200 up)).toNat

/-! ## Multipath (R182) -/

/-- e^(j2π / 384) in fixed point. -/
def ring384 : Int × Int := (79217556866808599375934408417, 1296309932318073303646568940)

/-- The sum of x_n · w^n. -/
def component (w : Int × Int) (xs : List Int) : Int × Int :=
  xs.foldr (fun x a => let p := cmul w a; (p.1 + x, p.2)) (0, 0)

/-- The energies of the components at the powers of ring384 from that of `w` on, `n` of them. -/
def bandEnergy (xs : List Int) : Nat → Int × Int → Nat
  | 0, _ => 0
  | n + 1, w =>
    let e := component w xs
    e.1.natAbs * e.1.natAbs + e.2.natAbs * e.2.natAbs + bandEnergy xs n (cmul ring384 w)

/-- MP of the amplitudes of 1 ms, 384 samples (R182): the RMS of their components from 10 kHz to 100 kHz, in steps of 1 kHz,
over their mean, times 255. What the device's own band filter lets by at the edges is not stated.
Mark DEDUCED: notes/assumptions/243.md. -/
def multipath (xs : List Int) (up : Bool) : Nat :=
  let sum := xs.foldl (· + ·) 0
  if xs.length < 384 ∨ sum ≤ 0 then 0
  else
    let e := bandEnergy (xs.map (65536 * ·)) 91 ((List.range 9).foldl (fun w _ => cmul ring384 w) ring384)
    Nat.min 255 (between (rootOf (255 * 255 * 2 * e) up : Nat) (65536 * sum.toNat) up).toNat

/-! ## Adaptive controls (R178, R180) -/

/-- The action fraction of a control as numerator over START − FULL. -/
def actionNum (start full q : Nat) : Nat := Nat.min (start - q) (start - full)

/-- A control's target: `span` of `full` less the action, rounded to the nearest. -/
def controlTarget (top span : Nat) (a d : Nat) : Nat := (roundAway ((top * d : Int) - a * span) d).toNat

/-- A place as a reduced fraction. -/
def reduce (p : Nat × Nat) : Nat × Nat := let g := Nat.gcd p.1 p.2; if g = 0 then p else (p.1 / g, p.2 / g)

/-- A place moved towards `target` by `range / ms`, not past it. -/
def slew (p : Nat × Nat) (target range ms : Nat) : Nat × Nat :=
  let here := p.1 * ms
  let goal := target * p.2 * ms
  let step := range * p.2
  if here ≤ goal then (if goal ≤ here + step then (target, 1) else reduce (here + step, p.2 * ms))
  else if here ≤ goal + step then (target, 1) else reduce (here - step, p.2 * ms)

/-- A control's place, where it starts if it has never moved. -/
def State.place (s : State) (w slot start : Nat) : Nat × Nat :=
  if s.ax w (slot + 1) = 0 then (start, 1) else (s.ax w slot, s.ax w (slot + 1))

def State.setPlace (s : State) (w slot : Nat) (p : Nat × Nat) : State := (s.setAx w slot p.1).setAx w (slot + 1) p.2

/-- Is a place short of a target? -/
def placeBelow (p : Nat × Nat) (t : Nat) : Bool := decide (p.1 < t * p.2)

/-- The place of a control after a block: its action increases downwards (blend, high cut) or upwards (soft
mute), at the attack rate, and decreases at the release rate. -/
def moveControl (p : Nat × Nat) (target range attack release : Nat) (actsUp : Bool) : Nat × Nat :=
  slew p target range (if placeBelow p target == actsUp then attack else 10 * release)

/-- The place as a register shows it; how a place between two values reads is not stated. -/
def shown (p : Nat × Nat) (up : Bool) : Nat := (between p.1 p.2 up).toNat

/-- The three controls of an FM_DEMOD move for one block at quality `q`.
Mark DEDUCED: notes/assumptions/38.md. -/
def State.fmControls (s : State) (w q : Nat) : State :=
  let at' := s.fld w FM.TIMING_ATTACK_MS
  let re := s.fld w FM.TIMING_RELEASE_MS
  let free := Config.freeWord s.fresh
  let bd := s.fld w FM.BLEND_START - s.fld w FM.BLEND_FULL
  let bt := if !s.flag w FM.FM_STATUS_PILOT || s.flag w FM.FM_CFG_FORCE_MONO then 0
    else controlTarget 255 255 (actionNum (s.fld w FM.BLEND_START) (s.fld w FM.BLEND_FULL) q) bd
  let hd := s.fld w FM.HICUT_START - s.fld w FM.HICUT_FULL
  let hr := 150 - 10 * s.fld w FM.HICUT_CORNER_MIN
  let ht := if s.flag w FM.HICUT_ON then
    controlTarget 150 hr (actionNum (s.fld w FM.HICUT_START) (s.fld w FM.HICUT_FULL) q) hd else 150
  let md := s.fld w FM.SMUTE_START - s.fld w FM.SMUTE_FULL
  let mx := s.fld w FM.SMUTE_MAX_DB
  let mt := if s.flag w FM.SMUTE_ON then
    (roundAway ((actionNum (s.fld w FM.SMUTE_START) (s.fld w FM.SMUTE_FULL) q * mx : Nat) : Int) md).toNat else 0
  let b := moveControl (s.place w axBlend 0) bt 255 at' re false
  let h := moveControl (s.place w axCorner 150) ht hr at' re false
  let m := moveControl (s.place w axSmute 0) mt mx at' re true
  let before := s.fld w FM.FM_STATUS_SMUTE_ATTEN
  let t := (((((((s.setPlace w axBlend b).setPlace w axCorner h).setPlace w axSmute m).put w FM.FM_STATUS_BLEND_POS
    (shown b (free.getLsbD 0))).putB w FM.FM_STATUS_STEREO (decide (0 < shown b (free.getLsbD 0)))).put w
    FM.FM_STATUS_HICUT_CORNER (shown h (free.getLsbD 1))).put w FM.FM_STATUS_SMUTE_ATTEN
    (shown m (free.getLsbD 2))).useFresh
  if before < mx ∧ t.fld w FM.FM_STATUS_SMUTE_ATTEN = mx then t.raiseKind w evSoftMuted else t

/-- The audio bandwidth in use of an AM_DEMOD in 0.1 kHz (R185, R197). -/
def State.amBand (s : State) (w : Nat) : Nat := 25 + 5 * s.used w AM.AM_CFG_BW_CODE

/-- The two controls of an AM_DEMOD; the corner in force is the lower of R178's and the audio bandwidth. -/
def State.amControls (s : State) (w q : Nat) : State :=
  let at' := s.fld w AM.TIMING_ATTACK_MS
  let re := s.fld w AM.TIMING_RELEASE_MS
  let free := Config.freeWord s.fresh
  let hd := s.fld w AM.HICUT_START - s.fld w AM.HICUT_FULL
  let hr := 150 - 10 * s.fld w AM.HICUT_CORNER_MIN
  let ht := if s.flag w AM.HICUT_ON then
    controlTarget 150 hr (actionNum (s.fld w AM.HICUT_START) (s.fld w AM.HICUT_FULL) q) hd else 150
  let md := s.fld w AM.SMUTE_START - s.fld w AM.SMUTE_FULL
  let mx := s.fld w AM.SMUTE_MAX_DB
  let mt := if s.flag w AM.SMUTE_ON then
    (roundAway ((actionNum (s.fld w AM.SMUTE_START) (s.fld w AM.SMUTE_FULL) q * mx : Nat) : Int) md).toNat else 0
  let h := moveControl (s.place w axCorner 150) ht hr at' re false
  let m := moveControl (s.place w axSmute 0) mt mx at' re true
  let before := s.fld w AM.AM_STATUS_SMUTE_ATTEN
  let t := ((((s.setPlace w axCorner h).setPlace w axSmute m).put w AM.AM_STATUS_HICUT_CORNER
    (Nat.min (shown h (free.getLsbD 1)) (s.amBand w))).put w AM.AM_STATUS_SMUTE_ATTEN
    (shown m (free.getLsbD 2))).useFresh
  if before < mx ∧ t.fld w AM.AM_STATUS_SMUTE_ATTEN = mx then t.raiseKind w evSoftMuted else t

/-! ## The AM detector (R187) -/

/-- Envelope detection begins or ends; a sideband is available only in synchronous detection (R188). -/
def State.setEnvelope (s : State) (w : Nat) (on fallback : Bool) : State :=
  let t := (s.putB w AM.AM_STATUS_ENVELOPE on).setAx w axFallback (b2n fallback)
  if on then t.put w AM.AM_STATUS_SB_USED 0 else t

/-- Synchronous detection with FALLBACK at 0 and no lock: back to WARM, still acquiring. -/
def State.amUnheard (s : State) (w : Nat) : State := (s.setEnvelope w false false).setValid w false

/-- AM_CFG takes effect at the next 1 ms block (R197): the detector and the sideband in use follow it. -/
def State.amConfig (s : State) (w : Nat) : State :=
  let lock := s.flag w AM.AM_STATUS_CARRIER_LOCK
  let s1 :=
    if s.fld w AM.AM_CFG_DETECT = 1 then s.setEnvelope w true false
    else if lock then (if s.ax w axFallback = 1 then s else s.setEnvelope w false false)
    else if !(s.unit w).valid then s
    else if s.flag w AM.AM_CFG_FALLBACK then s.setEnvelope w true true
    else s.amUnheard w
  if s1.flag w AM.AM_STATUS_ENVELOPE ∨ s1.fld w AM.AM_CFG_SIDEBAND = 3 then s1
  else s1.put w AM.AM_STATUS_SB_USED (s1.fld w AM.AM_CFG_SIDEBAND)

/-! ## Commands -/

/-- BLANKING after a millisecond: did it hold a blank? -/
def State.ageBlank (s : State) (w : Nat) (r : FRef) : State :=
  (s.putB w r (s.ax w axBlankNow != 0)).setAx w axBlankNow 0

/-- The FE_2k+1 and FE_2k of a channel's two branches are both VALID under mode 3; else branch a alone is used (R110,
R184). -/
def State.bothBranches (s : State) (w : Nat) : Bool :=
  let f := s.feOfDemod w
  s.mode3 f && (s.unit f).valid && (s.unit (f + 1)).valid

/-- AM_STATUS as it reads: BRANCH is that of FE_2k while only it is in use (R110, R190). -/
def State.amRead (s : State) (w off : Nat) : Word :=
  if off = 0x080 ∧ !s.bothBranches w then AM.AM_STATUS_BRANCH.put (s.rd w off) 0 else s.rd w off

/-- A millisecond with the carrier locked, towards the 50 ms of R187. -/
def State.amLockMs (s : State) (w : Nat) : State :=
  s.setAx w axAmLocked (if s.flag w AM.AM_STATUS_CARRIER_LOCK then Nat.min (s.ax w axAmLocked + 1) 50 else 0)

/-- DEMOD_BLOCK: a 1 ms block ends with this level in 0.25 dBµV and this SNR or CNR in 0.01 dB, both as measured of the
signal that is demodulated, after combining (R180, R184, R191, R192); what was written to the configuration comes into use
(R197), and aerial diversity judges the new quality index (R108).
Mark DESIGN CHOICE: notes/assumptions/244.md. -/
def execDemodBlock (w : Fin 1024) (level snr : Int) (s : State) : Out :=
  .next (if !(s.present w && s.live w) then s else
    let up := (Config.freeWord s.fresh).getLsbD 0
    match kindOf w with
    | .fmDemod =>
      let mp := multipath (s.hs w hsAmps) up
      let q := qIndex snr (if s.flag w FM.FM_CFG_MP_ON then mp * s.fld w FM.FM_CFG_MP_WEIGHT else 0) up
      let s1 := (((((s.takeCfg w).useFresh.putI w FM.LEVEL_LEVEL_DBUV level).put w FM.LEVEL_Q q).put w FM.LEVEL_MP mp).putI w FM.SNR snr)
      ((s1.ageBlank w FM.FM_STATUS_BLANKING).fmControls w q).divBlock w
    | .amDemod =>
      let q := qIndex snr 0 up
      let s0 := if s.bothBranches w then s else s.put w AM.AM_STATUS_BRANCH 0
      let s1 := ((((s0.takeCfg w).amLockMs w).useFresh.putI w AM.LEVEL_LEVEL_DBUV level).put w AM.LEVEL_Q q).putI w AM.CNR snr
      (((s1.ageBlank w AM.AM_STATUS_BLANKING).amConfig w).amControls w q).divBlock w
    | .ofdm =>
      if 3 ≤ s.fld w OFDM.OFDM_STATUS_SYNC_STATE then s.putI w OFDM.LEVEL_LEVEL_DBUV level else s
    | _ => s)

/-- The greatest deviation since the last interval in 0.1 kHz: 75 kHz is half of full scale (R174, R191). -/
def State.deviation (s : State) (w : Nat) : Nat :=
  Nat.min 65535 (between (750 * (s.hs w hsPeak).headD 0) (2 ^ 30) (s.freshWord.getLsbD 0)).toNat

/-- The greatest modulation since the last interval in per cent, negative (0) or positive (1) (R191). -/
def State.modDepth (s : State) (w i top : Nat) : Nat :=
  Nat.min top (between (100 * (s.hs w hsPeak).getD i 0) (2 ^ 30) (s.freshWord.getLsbD i)).toNat

/-- METRIC_INTERVAL_END: the interval 0 (10 ms), 1 (100 ms) or 2 (1 s) ends with what was measured over it: OFFSET `a` and
PILOT_DEV `b`; DEVIATION and RDS_DEV `b`, or the two modulation depths, the peaks starting anew; MPX_POWER `a`, or BER_PRE
of an engine (R191, R200, R225). -/
def execMetricIntervalEnd (w : Fin 1024) (interval : Fin 3) (a b : Int) (s : State) : Out :=
  .next (if !(s.present w && s.live w) then s else match kindOf w, interval.val with
    | .fmDemod, 0 =>
      let low := s.used w FM.PILOT_MIN
      let n := fun (slot : Nat) (ok : Bool) => if ok then Nat.min (s.ax w slot + 1) 2 else 0
      (((s.putI w FM.OFFSET a).put w FM.PILOT_DEV b.toNat).setAx w axPilotUp (n axPilotUp (decide (low ≤ b.toNat)))).setAx w
        axPilotDown (n axPilotDown (decide (b.toNat + 10 < low)))
    | .fmDemod, 1 =>
      let t := (((s.put w FM.DEVIATION (s.deviation w)).put w FM.RDS_DEV b.toNat).setHs w hsPeak []).useFresh
      if s.used w FM.DEV_LIMIT < t.fld w FM.DEVIATION then (t.count w FM.OVERDEV_COUNT).raiseKind w evFmOverdev else t
    | .fmDemod, _ =>
      let t := if s.atomState w = stRUN then s.setAx w axMpxSeconds (Nat.min (s.ax w axMpxSeconds + 1) 60) else s
      if t.ax w axMpxSeconds = 60 then t.putI w FM.MPX_POWER a else t.put w FM.MPX_POWER 0x8000
    | .ofdm, 2 => if 3 ≤ s.fld w OFDM.OFDM_STATUS_SYNC_STATE then s.put w OFDM.BER_PRE a.toNat else s
    | .amDemod, 0 => s.putI w AM.OFFSET a
    | .amDemod, 1 => (((s.put w AM.MOD_DEPTH_NEG_DEPTH (s.modDepth w 0 100)).put w AM.MOD_DEPTH_POS_DEPTH
        (s.modDepth w 1 255)).setHs w hsPeak []).useFresh
    | _, _ => s)

/-- PILOT_FOUND: PILOT_DEV has been at or above PILOT_MIN for 20 ms, two of its intervals, and the PLL has locked
(R177). -/
def execPilotFound (n : Fin 48) (s : State) : Out :=
  let w := winFM n
  .next (if s.live w && !s.flag w FM.FM_STATUS_PILOT && decide (2 ≤ s.ax w axPilotUp) then
    (s.put w FM.FM_STATUS_PILOT 1).raiseKind w evFmPilotFound else s)

/-- PILOT_LOST: PILOT_DEV has been below PILOT_MIN − 1.0 kHz for 10 ms, or `pll`: the PLL has reported loss of lock for
10 ms (R177). -/
def execPilotLost (n : Fin 48) (pll : Bool) (s : State) : Out :=
  let w := winFM n
  .next (if s.live w && s.flag w FM.FM_STATUS_PILOT && (pll || decide (1 ≤ s.ax w axPilotDown)) then
    ((s.put w FM.FM_STATUS_PILOT 0).count w FM.PILOT_LOSS_COUNT).raiseKind w evFmPilotLost else s)

/-- Histories of an FM demodulator: the MPX samples since the last RDS bit, and what the RDS demodulator carries on. -/
def hsMpx : Nat := 17
def hsRds : Nat := 18

/-- RDS_BIT: one bit with its 4-bit confidence leaves output 1, in RUN alone, for each SIDE_DATA unit in RUN that it feeds,
with the stamp of the newest MPX sample, nothing taken off (R183).
Mark DESIGN CHOICE: notes/assumptions/245.md. -/
def execRdsBit (n : Fin 48) (s : State) : Out :=
  let w := winFM n
  .next (if s.atomState w = stRUN then
    let r := s.through w hsRds .rdsBit [s.fld w FM.FM_STATUS_PILOT] (s.hs w hsMpx)
    let bit : Int := r.2.getD 0 0 % 2
    let conf : Int := r.2.getD 1 0 % 16
    let t := ((r.1.setHs w hsMpx []).bump w FM.RDS_BIT_COUNT).setHs w hsOut [bit, conf]
    ((t.sinksOf w 1).filter (fun d => kindOf d == .sideData && t.atomState d == stRUN)).foldl (fun u d =>
      u.setHs d hsIn (u.hs d hsIn ++ [bit, conf, ((s.ax w axStamp : Nat) : Int)])) t
  else s)

/-- FM_DEMOD becomes VALID 2.0 ms after its input did (R194). -/
def State.fmWarm (s : State) (w : Nat) : State := if s.atomState w = stWARM then s.setValid w true else s

/-- The AM carrier PLL locks (R186): in WARM the unit sets VALID, with the detector that DETECT selects; a unit
that ran on fallback returns to synchronous detection 50 ms later. -/
def State.amLock (s : State) (w : Nat) : State :=
  if !s.live w ∨ s.flag w AM.AM_STATUS_CARRIER_LOCK then s
  else
    let t := (s.put w AM.AM_STATUS_CARRIER_LOCK 1).raiseKind w evAmLocked
    if (s.unit w).valid then t
    else (t.setEnvelope w (decide (s.used w AM.AM_CFG_DETECT = 1)) false).setValid w true

/-- CARRIER_LOST: the loss is counted; in synchronous detection the unit falls back to the envelope, or
returns to WARM with FALLBACK at 0 (R186, R187). -/
def execCarrierLost (n : Fin 16) (s : State) : Out :=
  let w := winAM n
  .next (if s.live w && s.flag w AM.AM_STATUS_CARRIER_LOCK then
    let t := ((s.put w AM.AM_STATUS_CARRIER_LOCK 0).count w AM.LOCK_LOSS_COUNT).raiseKind w evAmLost
    if s.used w AM.AM_CFG_DETECT = 1 then t
    else if s.used w AM.AM_CFG_FALLBACK = 1 then t.setEnvelope w true true
    else t.amUnheard w
  else s)

/-- The lock bound of R186 passes without lock: with FALLBACK at 1 the unit sets VALID on the envelope (R194). -/
def State.amBound (s : State) (w : Nat) : State :=
  if s.atomState w = stWARM ∧ s.used w AM.AM_CFG_FALLBACK = 1 ∧ !s.flag w AM.AM_STATUS_CARRIER_LOCK then
    (s.setEnvelope w true (decide (s.used w AM.AM_CFG_DETECT ≠ 1))).setValid w true
  else s

/-- DETECTOR_RETURN_SYNC: the carrier has been locked again for 50 ms (R187). -/
def execDetectorReturnSync (n : Fin 16) (s : State) : Out :=
  let w := winAM n
  .next (if s.live w && s.flag w AM.AM_STATUS_CARRIER_LOCK && s.flag w AM.AM_STATUS_ENVELOPE &&
      s.used w AM.AM_CFG_DETECT == 0 && decide (50 ≤ s.ax w axAmLocked) then s.setEnvelope w false false else s)

/-- The sideband that automatic choice takes for two energies in 0.01 dB (R188). -/
def sideChoice (lsb usb : Int) : Nat := if (lsb - usb).natAbs < 600 then 0 else if lsb < usb then 1 else 2

/-- SIDEBAND_EVAL: the two sidebands' energies over 100 ms are compared; a change is made at most once per
500 ms, and none while ENVELOPE is 1 (R188, R197). -/
def execSidebandEval (n : Fin 16) (lsb usb : Int) (s : State) : Out :=
  let w := winAM n
  .next (if !(s.live w && s.used w AM.AM_CFG_SIDEBAND == 3) then s else
    let t := s.setAx w axSideLock (s.ax w axSideLock - 1)
    if !s.flag w AM.AM_STATUS_ENVELOPE ∧ t.ax w axSideLock = 0 ∧ sideChoice lsb usb ≠ s.fld w AM.AM_STATUS_SB_USED then
      (t.put w AM.AM_STATUS_SB_USED (sideChoice lsb usb)).setAx w axSideLock 5
    else t)

/-- BRANCH_SWITCH: under diversity mode 3 the other branch's CNR has led by 3 dB for 10 blocks (R190). -/
def execBranchSwitch (n : Fin 16) (s : State) : Out :=
  let w := winAM n
  .next (if s.live w ∧ s.bothBranches w then
    ((s.putB w AM.AM_STATUS_BRANCH (!s.flag w AM.AM_STATUS_BRANCH)).count w AM.BRANCH_SWITCH_COUNT).raiseKind w evAmBranch
  else s)

/-- The refusals of BLEND, HICUT and SMUTE: START must exceed FULL (R179). -/
def demodCodes (w off : Nat) (v : Word) : List Nat :=
  let ctl := match kindOf w with
    | .fmDemod => off == 0x044 || off == 0x048 || off == 0x04C
    | _ => off == 0x044 || off == 0x048
  if ctl && decide (v.toNat % 256 ≤ v.toNat / 256 % 256) then [0x0202] else []

end Sys2Proof.Machine
end

