-- ==== Sys2Proof/Machine/Analogue.lean ====
section
/-! DEFINITION. The samples of the FM and AM demodulators (R174–R190, R194–R197): from a channel sample to PCM, with the
noise blanker, the hold of an aerial switch, the combining of two branches, blend, soft mute and the cross-fades. -/

namespace Sys2Proof.Machine

/-! ## Gaps: blanks and holds (R181, R189, R196) -/

/-- `n` vectors on the line between the last sample before a gap and the first one after it; where none came before, that
one is repeated. How a value between two integers is rounded is not stated. -/
def bridge (last x : List Int) (n : Nat) (up : Bool) : List (List Int) :=
  (List.range n).map (fun (j : Nat) => if last.isEmpty then x
    else (last.zip x).map (fun p => p.1 + between ((p.2 - p.1) * ((j : Int) + 1)) (n + 1) up))

/-- Hidden counts of an FM_DEMOD: discriminator samples towards the next MPX sample, and MPX samples towards the next
output. -/
def axDiscNo : Nat := 15
def axMpxNo : Nat := 16

/-- Histories of both kinds: the sample that waits, the last one that passed, the latest energies. -/
def hsWait : Nat := 5
def hsLast : Nat := 6
def hsEnergy : Nat := 7

/-- A detection starts a blank, which is counted, or extends the one in progress, to 32 samples in all (R181). -/
def State.blank (s : State) (w len : Nat) (flag cnt : FRef) : State :=
  let t := ((s.put w flag 1).setAx w axBlankNow 1).setAx w axImpulse 0
  if 0 < s.ax w axBlankLeft then t.setAx w axBlankLeft (Nat.min len (32 - s.ax w axBlankPast))
  else (t.setAx w axBlankLeft len).count w cnt

/-- The blank of a demodulator by its kind. -/
def State.blankOf (s : State) (w : Nat) : State :=
  if kindOf w = .fmDemod then s.blank w (s.used w FM.NB_BLANK_SAMPLES) FM.FM_STATUS_BLANKING FM.BLANK_COUNT
  else s.blank w (s.used w AM.NB_BLANK_SAMPLES) AM.AM_STATUS_BLANKING AM.BLANK_COUNT

/-- NOISE_BLANK: the sample that waits is an impulse. -/
def execNoiseBlank (w : Fin 1024) (s : State) : Out :=
  .next (if isDemod w && kindOf w != .ofdm && s.live w && s.ax w axImpulse == 1 then s.blankOf w else s)

/-- What leaves the gap machine as the waiting sample `x` is judged: nothing while a blank takes it; else `x`, after the
samples that stand for those of a blank that it ends. -/
def State.passGap (s : State) (w : Nat) (x : List Int) : State × List (List Int) :=
  if 0 < s.ax w axBlankLeft then
    ((s.setAx w axBlankLeft (s.ax w axBlankLeft - 1)).setAx w axBlankPast (s.ax w axBlankPast + 1), [])
  else
    (((s.setHs w hsLast x).setAx w axBlankPast 0).useFresh,
     bridge (s.hs w hsLast) x (s.ax w axBlankPast) (s.freshWord.getLsbD 0) ++ [x])

/-- Is the energy above the running mean by THRESH × 0.5 dB? `es` are the energies before it.
Mark DEDUCED: notes/assumptions/198.md. -/
def impulse (thresh : Nat) (es : List Int) (e : Int) : Bool :=
  !es.isEmpty && decide ((es.foldl (fun a x => a + x.natAbs) 0) ^ 20 * 10 ^ thresh < (e.natAbs * es.length) ^ 20)

/-- A sample `x` of energy `e` reaches the blanker: the one that waited is judged and passes or is blanked; `x` waits, and
is an impulse by its energy against the mean of the last `span`. The blank of an impulse that an aerial switch holds starts
after the hold (R197's table). -/
def State.blanker (s : State) (w : Nat) (nb : Bool) (thresh span : Nat) (held : Bool) (x : List Int) (e : Int) :
    State × List (List Int) :=
  let s1 := if s.ax w axImpulse = 1 then s.blankOf w else s
  let r := match s1.hs w hsWait with
    | [] => (s1, [])
    | y => s1.passGap w y
  let es := s.hs w hsEnergy
  let hit := (nb && impulse thresh es e) || s.ax w axBlankLate == 1
  (((((r.1.setHs w hsWait x).setHs w hsEnergy ((e :: es).take span)).setAx w axImpulse (b2n (hit && !held))).setAx w axBlankLate
    (b2n (hit && held))), r.2)

/-! ## PCM to the lanes (R15, R17) -/

/-- A sample of output 0 enters every lane that it feeds, with its stamp. -/
def State.toLanes (s : State) (w : Nat) (l r : Int) (stamp : Nat) : State :=
  ((s.tree.links.filter (fun k => k.src == w && k.out == 0 && kindOf k.dst == .audioLane)).filter (fun k => s.live k.dst)).foldl
    (fun t k => t.setHs k.dst (hsIn + k.inp) (t.hs k.dst (hsIn + k.inp) ++ [l, r, ((stamp : Nat) : Int)])) s

/-- Histories that hold the PCM sample that a demodulator last delivered, with its stamp. -/
def hsPcm : Nat := 22

/-- Attenuation by soft mute in dB; only the rounding is free. -/
def softMuted (db : Nat) (x : Int) (up : Bool) : Int := gained x (-(100 * (db : Int))) up

/-- A demodulator's output: soft mute, then MUTE and the silence of WARM, saturated to Q1.31 (R174, R185, R162). `back` is
its fixed latency in epoch counts (R195). -/
def State.pcmOut (s : State) (w : Nat) (silent : Bool) (db back : Nat) (l r : Int) (stamp : Nat) : State :=
  let quiet := silent || s.flag w UCB.UNIT_CTL_MUTE || s.warmMuted w
  let f := fun (x : Int) => if quiet then 0 else saturate 32 (softMuted db x (Config.rounds s.fresh 64))
  let at2 := (BitVec.ofNat 64 stamp - BitVec.ofNat 64 back).toNat
  (s.setHs w hsPcm [f l, f r, ((at2 : Nat) : Int)]).toLanes w (f l) (f r) at2

/-! ## FM (R174, R184, R196) -/

/-- The samples of the last 32 pairs, in fours: the sum of a · conj(b), and the amplitudes of a and of b. -/
def pairSums (up : Nat → Bool) : List Int → Int × Int × Int × Int
  | ar :: ai :: br :: bi :: l =>
    let t := pairSums up l
    (t.1 + ar * br + ai * bi, t.2.1 + ai * br - ar * bi, t.2.2.1 + amplitude ar ai (up (2 * l.length)),
      t.2.2.2 + amplitude br bi (up (2 * l.length + 1)))
  | _ => (0, 0, 0, 0)

/-- The two branches combined (R184): b rotated onto a by the phase of a · conj(b) over 32 samples, each weighted by its
mean amplitude, with no weight for one that lies more than 20 dB below the other; the sum is that of weights in all 1.
Mark DEDUCED: notes/assumptions/199.md. -/
def State.fmCombine (s : State) (w : Nat) (a b : Int × Int) : State × (Int × Int) :=
  let up := Config.rounds s.fresh
  let h := ([a.1, a.2, b.1, b.2] ++ s.hs w 0).take 128
  let p := pairSums up h
  let wa := if 10 * p.2.2.1 < p.2.2.2 then 0 else p.2.2.1
  let wb := if 10 * p.2.2.2 < p.2.2.1 then 0 else p.2.2.2
  let m := amplitude p.1 p.2.1 (up 128)
  let r : Int × Int := if m = 0 then b else ((b.1 * p.1 - b.2 * p.2.1), (b.1 * p.2.1 + b.2 * p.1))
  let n := Nat.max 1 m
  let y := fun (x z : Int) (i : Nat) => between (wa * x * n + wb * z) ((wa + wb).toNat * n) (up i)
  (s.setHs w 0 h, if wb = 0 then a else (y a.1 r.1 129, y a.2 r.2 130))

/-- The discriminator: the phase from the sample before to this one, 75 kHz being half of full scale (R174); at an aerial
switch it holds its output for two samples (R196). -/
def State.discriminate (s : State) (w : Nat) (x : Int × Int) : State × Int :=
  let h := s.hs w 1
  let held := decide (0 < s.ax w axDivHold)
  let f := if held then h.getD 2 0
    else between (64 * phaseStep (h.getD 0 0, h.getD 1 0) x) (25 * 2 ^ 17) (Config.rounds s.fresh 131)
  let most := Int.ofNat (Nat.max f.natAbs ((s.hs w hsPeak).headD 0).natAbs)
  (((s.setHs w 1 [x.1, x.2, f]).setHs w hsPeak [most]).setAx w axDivHold (s.ax w axDivHold - 1), f)

/-- 48 kHz output of M and S as stages 5 and 6 leave them, over the last 127 MPX samples: M and S make L and R, and while
BLEND_POS is 0 or FORCE_MONO is 1 the two are equal (R174).
Mark DEDUCED: notes/assumptions/200.md. -/
def State.fmOut (s : State) (w : Nat) (mono : Bool) (stamp : Nat) : State :=
  let taps := symTaps (freeSide .quarter 0 63)
  let up := Config.rounds s.fresh
  let m := firOut taps (s.hs w 15) (up 0)
  let d := if mono then 0 else firOut taps (s.hs w 16) (up 1)
  s.useFresh.pcmOut w false (s.fld w FM.FM_STATUS_SMUTE_ATTEN) 12288 (between (m + d) 2 (up 2)) (between (m - d) 2 (up 2)) stamp

/-- De-emphasis of 50 µs or 75 µs at 192 kHz, with a gain of 1 at DC (R174, R176): its state, 32 bits below a unit.
Mark DEDUCED: notes/assumptions/246.md. -/
def deEmphasis (code : Nat) (z x : Int) (up : Bool) : Int := followStep 10 (if code = 0 then 96 else 144) z x up

/-- High cut of one stream in history `slot`: flat while its corner stands at 15.0 kHz (R176). -/
def State.highCut (s : State) (w slot corner : Nat) (x : Int) : State × Int :=
  if corner = 150 then (s, x)
  else let r := s.through w slot .highCut [(corner : Int)] [x]; (r.1, r.2.headD 0)

/-- One MPX sample after the blanker, `v` = stamp and value, through stereo decoder, blend, de-emphasis and high cut; each
fourth makes an output. M is L + R, and S = L − R comes down from 38 kHz by the phase that the pilot PLL gives. -/
def State.fmAudio (s : State) (w : Nat) (v : List Int) : State :=
  let x := v.getD 1 0
  let s := (s.setHs w hsMpx ((x :: s.hs w hsMpx).take 324)).setAx w axStamp (v.headD 0).toNat
  let up := Config.rounds s.fresh
  let pos := s.fld w FM.FM_STATUS_BLEND_POS
  let mono := s.used w FM.FM_CFG_FORCE_MONO == 1 || pos == 0
  let pll := s.through w 8 .pilotPll [s.fld w FM.FM_STATUS_PILOT] [x]
  let sub := between (4 * x * (cisOf ((pll.2.headD 0) % 1048576).toNat).2) one96 (up 0)
  let d := if mono then 0 else between (sub * pos) 255 (up 1)
  let code := s.used w FM.FM_CFG_DEEMPH
  let em := deEmphasis code ((s.hs w 9).headD 0) (2 * x) (up 2)
  let ed := deEmphasis code ((s.hs w 10).headD 0) d (up 3)
  let corner := s.fld w FM.FM_STATUS_HICUT_CORNER
  let c1 := ((pll.1.setHs w 9 [em]).setHs w 10 [ed]).highCut w 11 corner (between em (2 ^ 32) (up 4))
  let c2 := c1.1.highCut w 12 corner (between ed (2 ^ 32) (up 5))
  let t := ((c2.1.setHs w 15 (shiftIn 127 [c1.2] (s.hs w 15))).setHs w 16 (shiftIn 127 [c2.2] (s.hs w 16))).useFresh
  let n := s.ax w axMpxNo + 1
  if n < 4 then t.setAx w axMpxNo n else (t.setAx w axMpxNo 0).fmOut w mono (v.headD 0).toNat

/-- The filter that keeps what lies above 100 kHz of the complex baseband: linear, and nothing of it at 0 Hz (R181). Its
coefficients are not stated. -/
def impulseTaps : List Int :=
  let side := freeSide .impulse 0 31
  side ++ [-(2 * side.foldl (· + ·) 0)] ++ side.reverse

/-- The energy of the last channel samples above 100 kHz. -/
def State.impulseEnergy (s : State) (w : Nat) : Int :=
  let i := dot impulseTaps (s.hs w 13)
  let q := dot impulseTaps (s.hs w 14)
  i * i + q * q

/-- One channel sample of an FM_DEMOD: combined, discriminated, and each second time decimated to an MPX sample,
which the blanker judges. -/
def State.fmSample (s : State) (w : Nat) (a b : Int × Int) (stamp : Nat) : State :=
  let c := if s.bothBranches w then s.fmCombine w a b else (s, a)
  let amp : Int := (amplitude c.2.1 c.2.2 (Config.rounds s.fresh 132) : Nat)
  let held := decide (0 < s.ax w axDivHold)
  let f := (((c.1.setHs w hsAmps (shiftIn 384 [amp] (s.hs w hsAmps))).setHs w 13 (shiftIn 63 [c.2.1] (s.hs w 13))).setHs w 14
    (shiftIn 63 [c.2.2] (s.hs w 14))).discriminate w c.2
  let t := (f.1.setHs w 3 (shiftIn 63 [f.2] (s.hs w 3))).useFresh
  if s.ax w axDiscNo = 0 then (t.setAx w axDiscNo 1).setHs w 2 [((b2n held : Nat) : Int)]
  else
    let x := firOut (symTaps (freeSide .halve 0 31)) (t.hs w 3) (Config.rounds s.fresh 133)
    let r := (t.setAx w axDiscNo 0).blanker w (s.used w FM.FM_CFG_NB_ON == 1) (s.used w FM.NB_THRESH) 1920
      (held || s.hs w 2 == [1]) [((stamp : Nat) : Int), x] (t.impulseEnergy w)
    r.2.foldl (fun t v => t.fmAudio w v) r.1

/-! ## AM (R185–R190) -/

/-- The detector, sideband and branch in use. -/
def State.amPath (s : State) (w : Nat) : List Int :=
  [s.fld w AM.AM_STATUS_ENVELOPE, s.fld w AM.AM_STATUS_SB_USED,
    if s.bothBranches w then s.fld w AM.AM_STATUS_BRANCH else 0]

/-- Every third value from place `i` on. -/
def thirds (i : Nat) (h : List Int) : List Int := (List.range (h.length / 3)).map (fun j => h.getD (3 * j + i) 0)

/-- The cut-off phases of the audio filter at 24 kS/s for a bandwidth in 0.1 kHz: its edge, and 1.25 times that. -/
def amEdge (band : Nat) : Nat := band * 100 * 2 ^ 20 / 24000

/-- Is a side of the audio filter flat up to the bandwidth, within 1 %, and 60 dB down from 1.25 times it on (R185)? What
flat allows is not stated.
Mark DEDUCED: notes/assumptions/247.md. -/
def amFilterOk (band : Nat) (side : List Int) : Bool :=
  let mid := 2 ^ 24 - 2 * side.foldl (· + ·) 0
  let p := cosPlace (amEdge band)
  let q := amEdge band * 5 / 4
  ripples mid side 1 100 p (1024 - p).toNat &&
  (decide (524288 ≤ q) || ripples mid side 0 1000 (-1024) (cosPlace q + 1025).toNat)

/-- The linear-phase audio filter of 255 taps for a bandwidth in 0.1 kHz. -/
def amTaps (band : Nat) : List Int :=
  let side := within (amFilterOk band) (freeSide .amAudio band 127)
    ((List.range 127).map (fun k => sincTap (amEdge band * 9 / 8) (k + 1)))
  symTaps side.reverse

/-- The filter that brings the quadrature part in for a single sideband: odd about its middle (R188). -/
def sideTaps (band : Nat) : List Int :=
  let side := freeSide .amSide band 127
  side ++ [0] ++ side.reverse.map (fun x => -x)

/-- The detected samples of a path, newest first: the envelope or the part in phase with the carrier; and the part in
quadrature. -/
def State.amDetected (s : State) (w : Nat) (path : List Int) : List Int × List Int :=
  let h := s.hs w (if path.getD 2 0 = 0 then 10 else 11)
  (thirds (if path.headD 0 = 1 then 2 else 0) h, thirds 1 h)

/-- The audio of a path at the newest sample but `lag`, as a fraction of 2^24 times the carrier: what is detected less the
carrier, through the audio filter, with the quadrature part added for LSB and taken off for USB. `n` samples have the sum
`sum`, n times the carrier. -/
def amTone (band side n : Nat) (sum : Int) (x : List Int × List Int) (lag : Nat) : Int :=
  dot (amTaps band) ((x.1.drop lag).map (fun v => n * v - sum)) +
  (if side = 0 then 0 else (if side = 1 then (1 : Int) else -1) * n * dot (sideTaps band) (x.2.drop lag))

/-- The carrier of a path is the mean of what is detected over 100 ms, and the output is normalised to it so that 100 %
modulation peaks at 0.5 of full scale (R185); the last 32 samples before the interpolator, newest first.
Mark DESIGN CHOICE: notes/assumptions/248.md. -/
def State.amTones (s : State) (w : Nat) (path : List Int) : List Int :=
  let x := s.amDetected w path
  let n := x.1.length
  let sum := x.1.foldl (· + ·) 0
  (List.range 32).map (fun lag => if sum ≤ 0 then 0 else
    between (2 ^ 30 * amTone (s.amBand w) (path.getD 1 0).toNat n sum x lag) (2 ^ 24 * sum.toNat) (Config.rounds s.fresh lag))

/-- High cut, which is flat while R178's corner stands at the audio bandwidth or above it. -/
def State.amCut (s : State) (w : Nat) (ys : List Int) : List Int :=
  let corner := s.fld w AM.AM_STATUS_HICUT_CORNER
  if s.amBand w ≤ corner then ys else (List.range 32).map (fun j => Config.one .highCut [(corner : Int)] (ys.drop j) [])

/-- The two output samples of a path: a half-band interpolator, whose one phase passes a sample through. -/
def State.amPair (s : State) (w : Nat) (path : List Int) : Int × Int :=
  let ys := s.amCut w (s.amTones w path)
  let h := (halfBandTaps .interpolate 0).zipIdx.filterMap (fun p => if p.2 % 2 = 0 then some p.1 else none)
  (ys.getD 15 0, between (2 * dot h ys) (2 ^ 24) (Config.rounds s.fresh 32))

/-- A change of path starts a cross-fade of 48 output samples from the old one; changes of branch and detector at one
sample share it (R187, R188, R190). Slots 13 and 14 hold the path in use and the one that fades out. -/
def State.amTurn (s : State) (w : Nat) : State :=
  if s.hs w 13 = s.amPath w then s
  else if (s.hs w 13).isEmpty then s.setHs w 13 (s.amPath w)
  else ((s.setHs w 14 (s.hs w 13)).setHs w 13 (s.amPath w)).setAx w axAmFade 48

/-- Synchronous detection with no lock and no fallback gives zeros (R187, R194). -/
def State.amSilent (s : State) (w : Nat) : Bool :=
  s.atomState w == stWARM && s.used w AM.AM_CFG_FALLBACK == 0 && s.used w AM.AM_CFG_DETECT == 0

/-- The greatest modulation of the path in use so far, negative and positive, 2^30 for 100 % (R191). -/
def State.amPeak (s : State) (w : Nat) : State :=
  let x := (s.amDetected w (s.hs w 13)).1
  let sum := x.foldl (· + ·) 0
  let m := if sum ≤ 0 then 0 else (x.length * x.headD 0 - sum) * 2 ^ 30 / sum
  let p := s.hs w hsPeak
  s.setHs w hsPeak [if p.getD 0 0 < -m then -m else p.getD 0 0, if p.getD 1 0 < m then m else p.getD 1 0]

/-- The two output samples at one channel sample, 24 kS/s to 48 kHz, in a cross-fade as a mix of both paths. -/
def State.amOut (s0 : State) (w : Nat) (stamp : Nat) : State :=
  let s := (s0.amTurn w).amPeak w
  let left := s.ax w axAmFade
  let new := s.amPair w (s.hs w 13)
  let old := if left = 0 then new else s.amPair w (s.hs w 14)
  let mix := fun (j : Nat) (x y : Int) => if left < j then y else fadeMix (48 - left + j) 48 (s.freshWord.getLsbD (1 + j)) x y
  let db := s.fld w AM.AM_STATUS_SMUTE_ATTEN
  let out := fun (t : State) (j : Nat) (x y : Int) => t.pcmOut w (s.amSilent w) db 36864 (mix j x y) (mix j x y) (stamp + 512 * (j - 1))
  let t := out ((s.setAx w axAmFade (left - 2)).useFresh) 1 old.1 new.1
  out t 2 old.2 new.2

/-- What the detectors make of both branches joins their histories, 100 ms of them, and makes outputs. -/
def State.amHear (s : State) (w : Nat) (v : List Int) : State :=
  ((s.setHs w 10 (((v.drop 1).take 3 ++ s.hs w 10).take 7200)).setHs w 11 (((v.drop 4).take 3 ++ s.hs w 11).take 7200)).amOut w
    (v.headD 0).toNat

/-- A branch's sample detected against the phase of its carrier PLL: the parts in phase and in quadrature, and the envelope. -/
def State.amBranch (s : State) (w slot : Nat) (still : Bool) (x : Int × Int) : State × List Int :=
  let r := s.through w slot .carrierPll [s.used w AM.AM_CFG_PLL_BW, b2n still] [x.1, x.2]
  let up := fun (i : Nat) => Config.rounds s.fresh (4 * slot + i)
  let z := rotatedBack ((r.2.headD 0) % 1048576).toNat x up
  (r.1, [z.1, z.2, ((amplitude x.1 x.2 (up 2) : Nat) : Int)])

/-- A channel sample after the blanker, `v` = stamp, both branches and the mark of an aerial switch: the carrier PLLs hold
their phase over a blank and over the two samples of a switch, and what was detected is interpolated across those two
(R189, R196). Slot 15 holds what was detected last before them. -/
def State.amDetect (s : State) (w : Nat) (gap : Bool) (v : List Int) : State :=
  let held := !gap && v.getD 5 0 == 1
  let a := s.amBranch w 8 (held || gap) (v.getD 1 0, v.getD 2 0)
  let b := a.1.amBranch w 9 (held || gap) (v.getD 3 0, v.getD 4 0)
  let x := v.take 1 ++ a.2 ++ b.2
  if held then b.1.useFresh.setAx w axHeldPast (s.ax w axHeldPast + 1)
  else (bridge (s.hs w 15) x (s.ax w axHeldPast) (s.freshWord.getLsbD 0) ++ [x]).foldl (fun t y => t.amHear w y)
    (((b.1.setHs w 15 x).setAx w axHeldPast 0).useFresh)

/-- One channel sample of an AM_DEMOD: it reaches the blanker, which works by its own energy against a mean of 50 ms
(R189). An aerial switch marks it and the next (R196).
Mark DEDUCED: notes/assumptions/198.md. -/
def State.amSample (s : State) (w : Nat) (a b : Int × Int) (stamp : Nat) : State :=
  let used := if s.bothBranches w && s.flag w AM.AM_STATUS_BRANCH then b else a
  let held := decide (0 < s.ax w axDivHold)
  let r := (s.setAx w axDivHold (s.ax w axDivHold - 1)).blanker w (s.used w AM.AM_CFG_NB_ON == 1) (s.used w AM.NB_THRESH) 1200
    held [((stamp : Nat) : Int), a.1, a.2, b.1, b.2, ((b2n held : Nat) : Int)] (used.1 * used.1 + used.2 * used.2)
  let n := r.2.length
  (r.2.foldl (fun (p : State × Nat) v => (p.1.amDetect w (decide (p.2 + 1 < n)) v, p.2 + 1)) (r.1, 0)).1

end Sys2Proof.Machine
end

