-- ==== Sys2Proof/Machine/Broadcast.lean ====
section
/-! DEFINITION. How the broadcasts code their data, in the standards that the spec cites: the blocks and AF codes of RDS
(IEC 62106), the FIGs, packets and data groups of DAB (EN 300 401), the entities of the DRM SDC (ES 201 980). Only bytes go
in and come out; what a unit makes of them is in Ofdm and SideData. -/

namespace Sys2Proof.Machine

/-! ## Bits and bytes -/

/-- Big-endian bytes as a number. -/
def beNat (bs : List Nat) : Nat := bs.foldl (fun a b => a * 256 + b) 0

/-- The number of 1 bits among the lowest 26. -/
def onesOf (n : Nat) : Nat := ((List.range 26).filter (fun i => n.testBit i)).length

/-- One byte of the CRC of EN 300 401: x¹⁶ + x¹² + x⁵ + 1. -/
def crc16Byte (crc b : Nat) : Nat :=
  (List.range 8).foldl (fun c _ => if c.testBit 15 then (c * 2 % 65536) ^^^ 0x1021 else c * 2 % 65536) (crc ^^^ (b * 256))

/-- Do bytes end in the complement of the CRC of those before? -/
def crc16Holds (bs : List Nat) : Bool :=
  let n := bs.length - 2
  2 ≤ bs.length && ((bs.take n).foldl crc16Byte 0xFFFF) ^^^ 0xFFFF == beNat (bs.drop n)

/-! ## RDS blocks (R232, R233) -/

/-- The remainder of 26 bits by x¹⁰ + x⁸ + x⁷ + x⁵ + x⁴ + x³ + 1. -/
def rdsRem (n : Nat) : Nat :=
  (List.range 16).foldl (fun r i => if r.testBit (25 - i) then r ^^^ (0x5B9 <<< (15 - i)) else r) n

/-- The offset words A, B, C, C′ and D; E is 0. -/
def offsetWord (o : Nat) : Nat := [0x0FC, 0x198, 0x168, 0x350, 0x1B4].getD o 0

/-- The offset that 26 bits carry with no error. -/
def cleanOffset (raw : Nat) : Option Nat := (List.range 5).find? (fun o => rdsRem (raw ^^^ offsetWord o) == 0)

/-- The error patterns of R233: none, and the bursts of at most `n` bits. -/
def bursts (n : Nat) : List Nat :=
  0 :: (List.range 26).flatMap (fun k => ((List.range 16).map (fun m => 2 * m + 1)).filterMap (fun p =>
    if p < 2 ^ n ∧ p <<< k < 2 ^ 26 then some (p <<< k) else none))

/-- The confidence of the bits that a pattern corrects, all together; `conf` begins with the first bit. -/
def burstConf (conf : List Nat) (e : Nat) : Nat :=
  ((List.range 26).filter (fun i => e.testBit i)).foldl (fun a i => a + conf.getD (25 - i) 0) 0

/-- A block corrected to one of the offsets it may carry: that offset, its information and the bits corrected. Of several
patterns the one whose bits have the lowest confidence is taken. A block of offset E, and one that no pattern mends, are
uncorrectable. -/
def rdsDecode (offsets : List Nat) (corrMax raw : Nat) (conf : List Nat) : Option (Nat × Nat × Nat) :=
  if rdsRem raw = 0 then none
  else
    let fits := (bursts corrMax).flatMap (fun e => (offsets.filter (fun o => rdsRem (raw ^^^ e ^^^ offsetWord o) == 0)).map
      (fun o => (o, e)))
    (fits.foldl (fun (a : Option (Nat × Nat)) x => match a with
      | none => some x
      | some y => if burstConf conf x.2 < burstConf conf y.2 then some x else some y) none).map
      (fun x => (x.1, (raw ^^^ x.2) / 1024, onesOf x.2))

/-- Are two blocks 26 bits apart of consecutive offsets? -/
def offsetsFollow (a b : Nat) : Bool :=
  (a == 0 && b == 1) || (a == 1 && (b == 2 || b == 3)) || ((a == 2 || a == 3) && b == 4) || (a == 4 && b == 0)

/-! ## AF lists (R234) -/

/-- An AF code joins a list under collection, the number expected before the codes: 225 to 249 begin a list, 205 fills, 250
says that the next one is of the long or medium wave (1000 is added to it). -/
def afPut (l : List Nat) (c : Nat) : List Nat :=
  if 225 ≤ c ∧ c ≤ 249 then [c - 224]
  else if c = 224 ∨ l.isEmpty then []
  else if l.getLast? = some 250 then l.dropLast ++ [1000 + c]
  else if (1 ≤ c ∧ c ≤ 204) ∨ c = 250 then l ++ [c]
  else l

/-- Is a list complete? -/
def afComplete (l : List Nat) : Bool :=
  match l with
  | n :: cs => n != 0 && cs.length == n && cs.getLast? != some 250
  | [] => false

/-- The frequency of a code in kHz. -/
def afKhz (c : Nat) : Nat :=
  if 1016 ≤ c then 531 + 9 * (c - 1016) else if 1000 < c then 153 + 9 * (c - 1001) else 87500 + 100 * c

/-- The pairs of method B as the frequency beside the tuned one; none where a pair lacks it. -/
def afPairs (t : Nat) : List Nat → Option (List Nat)
  | a :: b :: l => if a = t then (afPairs t l).map (b :: ·) else if b = t then (afPairs t l).map (a :: ·) else none
  | [] => some []
  | _ => none

/-- A complete list: whether it is of method B, the tuned frequency, and the frequencies, in kHz. -/
def afList (l : List Nat) : Bool × Nat × List Nat :=
  match l.drop 1 with
  | t :: cs => match (if cs.isEmpty then none else afPairs t cs) with
    | some fs => (true, afKhz t, fs.map afKhz)
    | none => (false, 0, (t :: cs).map afKhz)
  | [] => (false, 0, [])

/-! ## FIGs (R211, R235) -/

/-- The first FIG of an FIB, with its header, and what follows it; none at the end. -/
def cutFig (fib : List Nat) : Option (List Nat × List Nat) :=
  match fib with
  | h :: _ => if h = 0xFF ∨ h % 32 = 0 then none else some (fib.take (1 + h % 32), fib.drop (1 + h % 32))
  | [] => none

/-- Every FIG of an FIB. -/
def figsOf : Nat → List Nat → List (List Nat)
  | 0, _ => []
  | n + 1, fib => match cutFig fib with
    | some p => p.1 :: figsOf n p.2
    | none => []

def figType (fig : List Nat) : Nat := fig.headD 0 / 32
def figExt (fig : List Nat) : Nat := if figType fig = 0 then fig.getD 1 0 % 32 else fig.getD 1 0 % 8

/-- The flags of a type 0 FIG: of the next configuration, of another ensemble, of 32-bit services. -/
def figNext (fig : List Nat) : Bool := (fig.getD 1 0).testBit 7
def figOther (fig : List Nat) : Bool := (fig.getD 1 0).testBit 6
def figLong (fig : List Nat) : Bool := (fig.getD 1 0).testBit 5

/-- A list cut into entries, each as long as `len` says of what is left; an entry that is not whole ends it. -/
def cutAll (len : List Nat → Nat) : Nat → List Nat → List (List Nat)
  | 0, _ => []
  | n + 1, l => let k := len l
    if l.isEmpty || k == 0 || l.length < k then [] else l.take k :: cutAll len n (l.drop k)

def entries (len : List Nat → Nat) (l : List Nat) : List (List Nat) := cutAll len l.length l

/-- The entries of a type 0 FIG. -/
def fig0 (fig : List Nat) (len : List Nat → Nat) : List (List Nat) := entries len (fig.drop 2)

/-- Is a FIG of type 0 and this extension? -/
def isFig0 (fig : List Nat) (e : Nat) : Bool := figType fig == 0 && figExt fig == e

/-- FIG 0/0: the EId, whether the organisation is about to change, the Al flag, the CIF count. -/
def fig00 (fig : List Nat) : Option (Nat × Bool × Bool × Nat) :=
  if isFig0 fig 0 && 6 ≤ fig.length then
    some (beNat ((fig.drop 2).take 2), fig.getD 4 0 / 64 != 0, (fig.getD 4 0).testBit 5, fig.getD 4 0 % 32 * 250 + fig.getD 5 0)
  else none

/-- The capacity units of the UEP profiles, by table index. -/
def uepUnits : List Nat :=
  [16, 21, 24, 29, 35, 24, 29, 35, 42, 52, 29, 35, 42, 52, 32, 42] ++ [48, 58, 70, 40, 52, 58, 70, 84, 48, 58, 70, 84, 104, 58, 70, 84] ++
  [104, 64, 84, 96, 116, 140, 80, 104, 116, 140, 168, 96, 116, 140, 168, 208] ++
  [116, 140, 168, 208, 232, 128, 168, 192, 232, 280, 160, 208, 280, 192, 280, 416]

/-- An entry of FIG 0/1: the short form names a UEP profile, the long form an EEP one and its size. -/
def subchannelOf (e : List Nat) : SubChannel :=
  let id := Fin.ofNat 64 (e.getD 0 0 / 4)
  let c := e.getD 2 0
  let first := BitVec.ofNat 10 (e.getD 0 0 % 4 * 256 + e.getD 1 0)
  if c < 128 then ⟨id, uepUnits.getD (c % 64) 0, false, BitVec.ofNat 8 (c % 64), first⟩
  else ⟨id, c % 4 * 256 + e.getD 3 0, false, BitVec.ofNat 8 (64 + c / 16 % 8 * 4 + c / 4 % 4), first⟩

/-- The sub-channels that FIG 0/1 organises; none of another FIG. -/
def figOrg (fig : List Nat) : List SubChannel :=
  if isFig0 fig 1 then (fig0 fig (fun l => if l.getD 2 0 < 128 then 3 else 4)).map subchannelOf else []

/-- A service of FIG 0/2: its SId, and its components. -/
def fig02Len (long : Bool) (l : List Nat) : Nat := let k := if long then 4 else 2; k + 1 + 2 * (l.getD k 0 % 16)

/-- What sub-channels carry by FIG 0/2 (1 Layer II, 2 DAB+) and FIG 0/3 (3 packet mode). -/
def figKinds (fig : List Nat) : List (Fin 64 × Fin 4) :=
  if isFig0 fig 2 then (fig0 fig (fig02Len (figLong fig))).flatMap (fun e =>
      (entries (fun _ => 2) (e.drop (if figLong fig then 5 else 3))).filterMap (fun c =>
        let t := c.getD 0 0
        if t = 0 then some (Fin.ofNat 64 (c.getD 1 0 / 4), 1) else if t = 63 then some (Fin.ofNat 64 (c.getD 1 0 / 4), 2) else none))
  else if isFig0 fig 3 then (fig0 fig (fun l => if (l.getD 1 0).testBit 0 then 7 else 5)).map (fun e =>
      (Fin.ofNat 64 (e.getD 3 0 / 4), 3))
  else []

/-- The sub-channels with packet FEC, by FIG 0/14. -/
def figFec (fig : List Nat) : List (Fin 64) :=
  if isFig0 fig 14 then ((fig.drop 2).filter (fun b => b % 4 == 1)).map (fun b => Fin.ofNat 64 (b / 4)) else []

/-- FIG 0/18: of each service its SId, its ASu flags and the clusters that it belongs to. -/
def figSupport (fig : List Nat) : List (Nat × Nat × List Nat) :=
  if isFig0 fig 18 then (fig0 fig (fun l => 5 + l.getD 4 0 % 32)).map (fun e =>
    (beNat (e.take 2), beNat ((e.drop 2).take 2), e.drop 5)) else []

/-- A switching entry as ANN_LAST holds it: ASw flags, cluster, SubChId, new flag, region flag. -/
def switchCode (asw cluster sub : Nat) (new region : Bool) : Nat :=
  asw % 65536 + 65536 * (cluster % 256) + 16777216 * (sub % 64) + 1073741824 * b2n new + 2147483648 * b2n region

/-- The entries of FIG 0/19; one with the region flag names a region in a byte of its own. -/
def figSwitches (fig : List Nat) : List Nat :=
  if isFig0 fig 19 && !figOther fig then (fig0 fig (fun l => if (l.getD 3 0).testBit 6 then 5 else 4)).map (fun e =>
    switchCode (beNat ((e.drop 1).take 2)) (e.getD 0 0) (e.getD 3 0 % 64) ((e.getD 3 0).testBit 7) ((e.getD 3 0).testBit 6)) else []

/-- A member of a linkage set: 0 a DAB service, 1 an FM one, 2 a DRM one; its ECC, 0 if not given; its identity. -/
structure LinkMember where
  kind : Nat
  ecc : Nat
  id : Nat
  deriving DecidableEq, Repr

/-- What a FIG tells the Guestbook (R235). -/
inductive FigItem where
  | ensemble (eid : Nat)
  | ecc (e : Nat)
  | service (sid : Nat) (long : Bool)
  | pty (sid code : Nat)
  | link (set : Nat) (hard : Bool) (members : List LinkMember)
  | freqs (id system : Nat) (khz : List Nat)
  | other (sid : Nat) (long : Bool) (eids : List Nat)
  | label (sid : Nat)
  deriving DecidableEq, Repr

/-- FIG 0/6: an active linkage set and those of its members that the FIG lists. -/
def linkLen (long : Bool) (l : List Nat) : Nat :=
  if (l.getD 0 0).testBit 7 then
    3 + (l.getD 2 0 % 16) * (if long then 4 else if (l.getD 0 0).testBit 4 then 3 else 2)
  else 2

def linkItem (long : Bool) (e : List Nat) : Option FigItem :=
  let h := e.getD 0 0
  if !h.testBit 6 || !h.testBit 7 then none
  else
    let k := if long then 4 else if h.testBit 4 then 3 else 2
    let kind := if long then 0 else e.getD 2 0 / 32 % 4
    let ms := (entries (fun _ => k) (e.drop 3)).map (fun m =>
      if k = 3 ∧ kind < 2 then ⟨kind, m.headD 0, beNat (m.drop 1)⟩ else (⟨kind, 0, beNat m⟩ : LinkMember))
    some (.link (h / 16 % 4 * 4096 + (h % 16 * 256 + e.getD 1 0) + 16384 * b2n long) (h.testBit 5) ms)

/-- The frequencies of an entry of FIG 0/21: identity, system (2 DAB, 0 FM, 3 DRM; AM has no record of a list) and kHz. -/
def freqItem (e : List Nat) : Option FigItem :=
  let id := beNat (e.take 2)
  let fs := e.drop 3
  match e.getD 2 0 / 16 with
  | 0 => some (.freqs id 2 ((entries (fun _ => 3) fs).map (fun x => beNat x % 524288 * 16)))
  | 8 => some (.freqs id 0 (fs.map (fun x => 87500 + 100 * x)))
  | 6 => some (.freqs (id + 65536 * fs.headD 0) 3 ((entries (fun _ => 2) (fs.drop 1)).map (fun x =>
      if (x.headD 0).testBit 7 then beNat x % 32768 * 10 else beNat x % 32768)))
  | _ => none

/-- The news of a FIG. -/
def figItems (fig : List Nat) : List FigItem :=
  let long := figLong fig
  let sid := fun (e : List Nat) => beNat (e.take (if long then 4 else 2))
  if figType fig = 1 then
    (if figExt fig = 1 then [.label (beNat ((fig.drop 2).take 2))]
     else if figExt fig = 5 then [.label (beNat ((fig.drop 2).take 4))] else [])
  else if figType fig ≠ 0 then []
  else match figExt fig with
    | 0 => (fig00 fig).toList.map (fun x => .ensemble x.1)
    | 2 => if figNext fig || figOther fig then [] else (fig0 fig (fig02Len long)).map (fun e => .service (sid e) long)
    | 6 => (fig0 fig (linkLen long)).filterMap (linkItem long)
    | 9 => if figOther fig then [] else [.ecc (fig.getD 3 0)]
    | 17 => (fig0 fig (fun l => 4 + b2n ((l.getD 2 0).testBit 5) + b2n ((l.getD 2 0).testBit 4))).map (fun e =>
        .pty (beNat (e.take 2)) (e.getD (3 + b2n ((e.getD 2 0).testBit 5)) 0 % 32))
    | 21 => (fig0 fig (fun l => 2 + l.getD 1 0 % 32)).flatMap (fun r =>
        (entries (fun l => 3 + l.getD 2 0 % 8) (r.drop 2)).filterMap freqItem)
    | 24 =>
      let k := if long then 4 else 2
      (fig0 fig (fun l => k + 1 + 2 * (l.getD k 0 % 16))).map (fun e =>
        .other (sid e) long ((entries (fun _ => 2) (e.drop (k + 1))).map beNat))
    | _ => []

/-! ## Packets and data groups (R236, R237) -/

/-- A packet of packet mode at the front of some bytes, and what follows it. -/
def cutPacket (l : List Nat) : Option (List Nat × List Nat) :=
  let n := 24 * (l.headD 0 / 64 + 1)
  if l.length < n then none else some (l.take n, l.drop n)

/-- A MOT segment as a data group carries it: its transport ID, number, last flag, group type and bytes. -/
structure MotSegment where
  transport : Nat
  segment : Nat
  last : Bool
  group : Nat
  data : List Nat
  deriving DecidableEq, Repr

/-- The MOT segment in an MSC data group, CRC included: groups of types 3, 4, 6 and 7 that number their segments and name
the object. The segment bytes follow the segmentation header. -/
def motOf (g : List Nat) : Option MotSegment :=
  let h := g.getD 0 0
  let l := (g.take (g.length - (if h.testBit 6 then 2 else 0))).drop (if h.testBit 7 then 4 else 2)
  let u := l.getD 2 0
  if [3, 4, 6, 7].contains (h % 16) && h.testBit 5 && h.testBit 4 && u.testBit 4 then
    some ⟨beNat ((l.drop 3).take 2), beNat (l.take 2) % 32768, (l.getD 0 0).testBit 7, h % 16, l.drop (3 + u % 16 + 2)⟩
  else none

/-- Does a data group hold to its CRC, where it has one? -/
def groupHolds (g : List Nat) : Bool := !(g.headD 0).testBit 6 || crc16Holds g

/-- The lengths of the sub-fields of a variable X-PAD. -/
def xpadLen (i : Nat) : Nat := [4, 6, 8, 12, 16, 24, 32, 48].getD i 0

/-- The contents indicators of a variable X-PAD: application type and length; at most four, or up to type 0. -/
def xpadCis : Nat → List Nat → List (Nat × Nat)
  | 0, _ => []
  | n + 1, b :: l => if b % 32 = 0 then [] else (b % 32, xpadLen (b / 32)) :: xpadCis n l
  | _, [] => []

/-- Sub-fields cut as their indicators say. -/
def xpadCut : List (Nat × Nat) → List Nat → List (Nat × List Nat)
  | [], _ => []
  | c :: cs, l => (c.1, l.take c.2) :: xpadCut cs (l.drop c.2)

/-- The sub-fields of a PAD field by application type, X-PAD last byte first before the two bytes of F-PAD; `held` are the
indicators of the field before, for one that carries none. And the indicators in force after it. -/
def xpadFields (held : List (Nat × Nat)) (pad : List Nat) : List (Nat × List Nat) × List (Nat × Nat) :=
  let fpad := pad.drop (pad.length - 2)
  let x := (pad.take (pad.length - 2)).reverse
  let ci := (fpad.getD 1 0).testBit 1
  let go := fun (h : List (Nat × Nat)) => h.map (fun c => (if c.1 % 2 = 0 ∧ 2 ≤ c.1 then c.1 + 1 else c.1, c.2))
  if pad.length < 2 ∨ fpad.getD 0 0 / 64 ≠ 0 then ([], held)
  else match fpad.getD 0 0 / 16 % 4 with
    | 1 => if ci then ([(x.headD 0 % 32, (x.drop 1).take 3)], go [(x.headD 0 % 32, 4)]) else (xpadCut held (x.take 4), held)
    | 2 =>
      if ci then
        let cs := xpadCis 4 x
        (xpadCut cs (x.drop (if cs.length < 4 then cs.length + 1 else 4)), go cs)
      else (xpadCut held x, held)
    | _ => ([], held)

/-! ## SDC entities (R238) -/

/-- The first data entity of an SDC block's data field, and what follows it; none at the end. The header gives its length in
bytes beyond the first half byte, and its type. -/
def cutEntity (l : List Nat) : Option (List Nat × List Nat) :=
  let n := 2 + l.headD 0 / 2
  if l.length < n ∨ l.take n = [0, 0] then none else some (l.take n, l.drop n)

def entityType (e : List Nat) : Nat := e.getD 1 0 / 16

/-- Every entity of a data field. -/
def entitiesOf : Nat → List Nat → List (List Nat)
  | 0, _ => []
  | n + 1, l => match cutEntity l with
    | some p => p.1 :: entitiesOf n p.2
    | none => []

/-- `n` bits of an entity's body from bit `off` on: the body begins behind the type. -/
def bodyBits (e : List Nat) (off n : Nat) : Nat := beNat (e.drop 1) / 2 ^ (8 * (e.length - 1) - 4 - off - n) % 2 ^ n

/-- The codec of a stream by the audio information entity, type 9: AAC is the 2 of DEC_STATUS, USAC its 3.
Mark PRESUMED: notes/assumptions/251.md. -/
def entityCodec (e : List Nat) : Option (Fin 64 × Fin 4) :=
  if entityType e != 9 then none
  else match bodyBits e 4 2 with
    | 0 => some (Fin.ofNat 64 (bodyBits e 2 2), 2)
    | 3 => some (Fin.ofNat 64 (bodyBits e 2 2), 3)
    | _ => none

/-- A DRM frequency of 16 bits in kHz. -/
def drmKhz (x : List Nat) : Nat := if (x.headD 0).testBit 7 then beNat x % 32768 * 10 else beNat x % 32768

/-- What an entity of type 3 lists: the short IDs that it holds for, and the frequencies in kHz.
Mark PRESUMED: notes/assumptions/251.md. -/
def entityNetwork (e : List Nat) : List Nat × List Nat :=
  let r := bodyBits e 2 1
  let ids := if r = 1 then (List.range 4).filter (fun i => (e.getD 2 0).testBit (7 - i)) else [0, 1, 2, 3]
  (ids, (entries (fun _ => 2) (e.drop (2 + r + bodyBits e 3 1))).map drmKhz)

/-- What an entity of type 11 tells of another service: the short ID of the service that it belongs to, where it names one;
whether both are the same; the system as in the Guestbook, the service's key and its frequencies in kHz. One that is not
identified tells nothing.
Mark PRESUMED: notes/assumptions/251.md. -/
structure OtherService where
  short : Option Nat
  same : Bool
  system : Nat
  key : Nat
  khz : List Nat
  deriving DecidableEq, Repr

def entityOther (e : List Nat) : Option OtherService :=
  let sys := bodyBits e 7 5
  let l := e.drop (3 + bodyBits e 3 1)
  let short := if bodyBits e 0 1 = 0 then some (bodyBits e 1 2) else none
  let put := fun (system width : Nat) (khz : List Nat) =>
    some (⟨short, bodyBits e 4 1 == 1, system, beNat (l.take width), khz⟩ : OtherService)
  if entityType e != 11 then none
  else match sys with
    | 0 => put 3 3 ((entries (fun _ => 2) (l.drop 3)).map drmKhz)
    | 3 => put 0 3 ((l.drop 3).map (fun x => 87500 + 100 * x))
    | 4 => put 0 2 ((l.drop 2).map (fun x => 87500 + 100 * x))
    | 1 => put 1 3 ((entries (fun _ => 2) (l.drop 3)).map drmKhz)
    | 9 => put 2 3 []
    | 10 => put 2 2 []
    | 11 => put 2 4 []
    | _ => none

end Sys2Proof.Machine
end

