-- ==== Sys2Proof/Machine/Ofdm.lean ====
section
/-! DEFINITION. DAB and DRM engines (R201–R228): synchronisation, the organisation and the selections, error
counts, the choice of aerial in the preamble, announcements and metrics. -/

namespace Sys2Proof.Machine

/-- KIND_EVENTS of OFDM (R228). -/
def evOfdmAcquired : Nat := 16
def evOfdmLost : Nat := 17
def evOfdmReconf : Nat := 18
def evOfdmMissing : Nat := 19
def evOfdmAnn : Nat := 20
def evOfdmAnnEnd : Nat := 21
def evOfdmAlarm : Nat := 22
def evOfdmMode : Nat := 23
def evOfdmFailed : Nat := 24

/-- Hidden slots of an engine that a reset clears: the last preamble MER on inputs A and B (as `merCode`), the
frames since each, the input of the previous frame (1 A, 2 B), whether that frame was the first on a newly
switched input, and the MER of the input then left. -/
def axMerA : Nat := 8
def axMerB : Nat := 9
def axAgeA : Nat := 10
def axAgeB : Nat := 11
def axPrevIn : Nat := 12
def axPrevFirst : Nat := 13
def axMerLeft : Nat := 14

/-- Kept ones: 0x0505 is settled for the present count; a reconfiguration's switch point passed in state 7. -/
def axAcqDone : Nat := 33
def axReconfPassed : Nat := 34

/-- Of a SIDE_DATA unit: the next record of its packet stream carries MARK (R239). -/
def axSdMark : Nat := 4

/-- Lists of an engine: the IDs in use by entry, the organisation in force and the one to come. -/
def blIds (w : Nat) : Nat := w * 4
def blOrg (w : Nat) : Nat := w * 4 + 1
def blNext (w : Nat) : Nat := w * 4 + 2

/-- What each sub-channel carries, as FIG 0/2 and FIG 0/14 have said (R211): ID + 64 × type (1 Layer II, 2 DAB+, 3 packet
mode) + 256 for packet FEC; of a DRM stream ID + 64 × codec, by the audio information entity (R280). -/
def blKinds (w : Nat) : Nat := w * 4 + 3

/-- The entries whose next block carries a discontinuity mark (R212); superframe sync of each entry, 3 where the last fire code
was found, one less for each failure since, 0 without sync (R216). -/
def hsMarks : Nat := 34
def hsFire : Nat := 35

/-- What FIG 0/2 and FIG 0/14 have said of the organisation to come, as `blKinds` has it (R211, R214); the announcement support
of FIG 0/18: SId, ASu flags and cluster, three by three (R211). -/
def hsKindsNext : Nat := 36
def hsSupport : Nat := 37

/-- Working memory (R219): the samples of two symbols, newest first, both branches; what the carrier stage carries on for
branches a and b; the carriers of the symbol before of each; the de-interleaver. And the switching entries of the control
channel that wait to be followed (R211, R222). -/
def hsWork : Nat := 0
def hsFftA : Nat := 1
def hsFftB : Nat := 2
def hsCellsA : Nat := 3
def hsCellsB : Nat := 4
def hsSoft : Nat := 5
def hsSwitch : Nat := 6

/-- Samples of the symbol under way. -/
def axSymbol : Nat := 15

/-- The active announcement entries, one for each cluster: flags + 65536 × cluster + 2²⁴ for an alarm + 2²⁵ × sub-channel. -/
def hsAnn : Nat := 33

/-- `n` values, zeros for those that are missing. -/
def fitInts (n : Nat) (xs : List Int) : List Int := (xs ++ List.replicate n 0).take n

/-! ## Blocks at the units that an engine feeds -/

/-- A block on its way: its stamp, whether it is good, and its bytes (R210, R216); `tag` is the kind of a control block (0
FIB, 1 FAC, 2 SDC), and of any other block 1 where it carries a discontinuity mark (R212). -/
structure Coded where
  stamp : BitVec 64
  good : Bool
  tag : Nat
  data : List Byte
  deriving DecidableEq, Repr

def Coded.ints (c : Coded) : List Int :=
  [((c.stamp.toNat : Nat) : Int), b2n c.good, ((c.tag : Nat) : Int), ((c.data.length : Nat) : Int)] ++
    c.data.map (fun b => ((b.toNat : Nat) : Int))

def Coded.bytes (c : Coded) : List Nat := c.data.map BitVec.toNat

/-- The blocks that wait at input `i` of a unit stand in its input history: stamp, good, tag, length, bytes. -/
def State.nextCoded (s : State) (w i : Nat) : Option Coded :=
  match s.hs w (hsIn + i) with
  | st :: g :: m :: n :: l => some ⟨BitVec.ofInt 64 st, g != 0, m.toNat, (l.take n.toNat).map (BitVec.ofInt 8)⟩
  | _ => none

def State.dropCoded (s : State) (w i : Nat) : State :=
  s.setHs w (hsIn + i) ((s.hs w (hsIn + i)).drop (4 + ((s.hs w (hsIn + i)).getD 3 0).toNat))

/-- A block is delivered to input `i`. -/
def State.giveCoded (s : State) (w i : Nat) (c : Coded) : State :=
  s.setHs w (hsIn + i) (s.hs w (hsIn + i) ++ c.ints)

/-- What is left of the block that waits, after its front is used; an empty rest is no block. -/
def State.keepRest (s : State) (w i : Nat) (c : Coded) (rest : List Nat) : State :=
  let t := s.dropCoded w i
  if rest.isEmpty then t
  else t.setHs w (hsIn + i) (({ c with data := rest.map (BitVec.ofNat 8) } : Coded).ints ++ t.hs w (hsIn + i))

/-- An entry of an organisation as a number: its ID, its capacity units, whether its coding is one that R203 leaves out, its
protection profile and its start address (R211, R215). -/
def subCode (e : SubChannel) : Nat :=
  e.id + 64 * (e.units % 1024) + 65536 * b2n e.unsupported + 131072 * e.profile.toNat + 33554432 * e.start.toNat

def State.syncState (s : State) (w : Nat) : Nat := s.fld w OFDM.OFDM_STATUS_SYNC_STATE

/-! ## Selections (R212, R213) -/

/-- Is entry `i` in use? -/
def State.selUsed (s : State) (w i : Nat) : Bool := s.fld w (OFDM.SEL_SINK.at i) != 0x3FF

def State.selsUsed (s : State) (w : Nat) : List Nat := (List.range 64).filter (s.selUsed w)

/-- The ID in use of entry `i`. -/
def State.selId (s : State) (w i : Nat) : Nat := (s.bl (blIds w)).getD i (s.fld w (OFDM.SEL_ID.at i))

/-- The entry of the organisation in force with an ID. -/
def State.orgFind (s : State) (w id : Nat) : Option Nat := (s.bl (blOrg w)).find? (fun e => e % 64 == id)

/-- SUBCH_COUNT and CU_SELECTED follow the organisation and the selections (R219). -/
def State.mciUpdate (s : State) (w : Nat) : State :=
  let ids := dedup ((s.selsUsed w).map (s.selId w))
  let cus := ids.foldl (fun a id => a + ((s.orgFind w id).map (fun e => e / 64 % 1024)).getD 0) 0
  (s.put w OFDM.MCI_SUBCH_COUNT (s.bl (blOrg w)).length).put w OFDM.MCI_CU_SELECTED cus

/-- A selection is judged against the organisation in force: absent, 0x0502 and SUBCH_MISSING; of a coding that
R203 leaves out, 0x0503 and UNSUPPORTED. -/
def State.judgeSel (s : State) (w i : Nat) : State :=
  match s.orgFind w (s.selId w i) with
  | none =>
    ((((s.put w (OFDM.SEL_PRESENT.at i) 0).put w (OFDM.SEL_CLEAN.at i) 0).put w (OFDM.SEL_UNSUPPORTED.at i) 0).setErr w
      0x0502).raiseKind w evOfdmMissing
  | some e =>
    let t := s.put w (OFDM.SEL_PRESENT.at i) 1
    if e / 65536 % 2 = 0 then t.put w (OFDM.SEL_UNSUPPORTED.at i) 0
    else (t.put w (OFDM.SEL_UNSUPPORTED.at i) 1).setErr w 0x0503

def State.judgeAll (s : State) (w : Nat) : State := (s.selsUsed w).foldl (fun t i => t.judgeSel w i) s

/-- Does what a selection shows differ from the organisation in force: PRESENT, or UNSUPPORTED of one that is there? -/
def State.selDiffers (s : State) (w i : Nat) : Bool :=
  match s.orgFind w (s.selId w i) with
  | none => s.flag w (OFDM.SEL_PRESENT.at i) || s.flag w (OFDM.SEL_UNSUPPORTED.at i)
  | some e => !s.flag w (OFDM.SEL_PRESENT.at i) || s.flag w (OFDM.SEL_UNSUPPORTED.at i) != (e / 65536 % 2 == 1)

/-- Selections whose ID has appeared become PRESENT, with no event, and one whose coding has changed shows it (R203,
R213). -/
def State.judgeNew (s : State) (w : Nat) : State :=
  ((s.selsUsed w).filter (fun i => s.selDiffers w i && (s.orgFind w (s.selId w i)).isSome)).foldl (fun t i => t.judgeSel w i) s

/-- Selections that a new organisation no longer holds, newly holds or codes otherwise; one in both goes on with no mark
(R214). -/
def State.judgeSwitch (s : State) (w : Nat) : State :=
  ((s.selsUsed w).filter (s.selDiffers w)).foldl (fun t i => t.judgeSel w i) s

/-- At a boundary the staged IDs come into use: each sink whose ID changes gets its new stream, whose first block
carries a discontinuity mark, and is not CLEAN until then (R212, R217). In state 7 the organisation kept is the one in force
(R206, R213). -/
def State.selTake (s : State) (w : Nat) : State :=
  let used := s.selsUsed w
  let changed := used.filter (fun i => s.selId w i != s.fld w (OFDM.SEL_ID.at i))
  let t := s.setBl (blIds w) ((List.range 64).map (fun i => s.fld w (OFDM.SEL_ID.at i)))
  let t1 := (changed.foldl (fun u i => u.put w (OFDM.SEL_CLEAN.at i) 0) t).setHs w hsMarks
    (changed.map (fun i => ((i : Nat) : Int)) ++ (s.hs w hsMarks).filter (fun x => !changed.contains x.toNat))
  let t2 := if 6 ≤ t1.syncState w then changed.foldl (fun u i => u.judgeSel w i) t1 else t1
  t2.mciUpdate w

/-- The refusals of an engine's registers: DRM streams are 0 to 3 (R212), and the channel's rate must match the
system (R147, R201). -/
def State.ofdmCodes (s : State) (w off : Nat) (v : Word) : List Nat :=
  if off = 0x040 then
    (if kindOf (s.srcOf w 0) = .chanFilter ∧ !((s.store w off v).rateMatch (s.srcOf w 0 - 0x40)) then [0x0213] else [])
  else if 0x100 ≤ off ∧ off < 0x200 then
    (if s.fld w OFDM.OFDM_CFG_SYSTEM ≠ 0 ∧ 3 < OFDM.SEL_ID.of v then [0x0202] else [])
  else []

/-- COMBINING is set while both branches are VALID (R221). -/
def State.combining (s : State) (w : Nat) : Bool :=
  let f := s.feOfDemod w
  s.mode3 f && s.live w && (s.unit f).valid && (s.unit (f + 1)).valid

def State.ofdmRead (s : State) (w off : Nat) : Word :=
  if off = OFDM.MCI_SUBCH_COUNT.off then (s.mciUpdate w).rd w off
  else if off = 0x080 then OFDM.OFDM_STATUS_COMBINING.put (s.rd w off) (b2n (s.combining w)) else s.rd w off

/-! ## Synchronisation (R204–R208) -/

/-- MODE_DET for a system and a DRM30 mode. -/
def modeDet (system mode : Nat) : Nat := if system = 0 then 0 else if system = 1 then mode else 5

/-- May an engine synchronise to a DRM30 signal of this mode (R202)? -/
def State.modeAccepted (s : State) (w mode : Nat) : Bool :=
  s.fld w OFDM.OFDM_CFG_SYSTEM != 1 || (decide (1 ≤ mode) && decide (mode ≤ 4) &&
    (s.fld w OFDM.OFDM_CFG_DRM_MODE == 0 || s.fld w OFDM.OFDM_CFG_DRM_MODE == mode))

/-- State 6 is reached: VALID, SYNC_ACQUIRED, and the selections are judged. -/
def State.ofdmLocked (s : State) (w : Nat) : State :=
  ((((s.put w OFDM.OFDM_STATUS_SYNC_STATE 6).setAx w axAcqDone 1).setValid w true).raiseKind w evOfdmAcquired)

/-- Do a carrier offset in 0.1 Hz and a sampling-clock offset in 0.01 ppm lie within the ranges of R209? -/
def inCapture (system : Nat) (offset sco : Int) : Bool :=
  decide (offset.natAbs ≤ (if system = 0 then 250000 else if system = 1 then 3500 else 40000)) && decide (sco.natAbs ≤ 10000)

/-- The next synchronisation state is reached: at 2 the mode is known, at 3 the offsets, which must lie within their capture
ranges, at 4 the occupancy; DAB passes through state 5 without pause.
Mark DEDUCED: notes/assumptions/40.md. -/
def State.syncAdvance (s : State) (w mode so : Nat) (offset sco : Int) : State :=
  let sys := s.fld w OFDM.OFDM_CFG_SYSTEM
  if !(s.atomState w == stWARM) then s
  else match s.syncState w with
    | 1 =>
      if s.modeAccepted w mode then
        (s.put w OFDM.OFDM_STATUS_SYNC_STATE 2).put w OFDM.OFDM_STATUS_MODE_DET (modeDet sys mode)
      else s
    | 2 => if inCapture sys offset sco then s.put w OFDM.OFDM_STATUS_SYNC_STATE 3 else s
    | 3 =>
      let t := s.put w OFDM.OFDM_STATUS_SYNC_STATE 4
      if sys = 1 then t.put w OFDM.OFDM_STATUS_SO_DET so else t
    | 4 => if sys = 0 then (s.ofdmLocked w).judgeAll w else s.put w OFDM.OFDM_STATUS_SYNC_STATE 5
    | 5 => (s.ofdmLocked w).judgeAll w
    | _ => s

/-- A probe that waits is dropped (R226).
Mark DEDUCED: notes/assumptions/41.md. -/
def State.dropProbe (s : State) (w : Nat) : State :=
  let t := s.put w OFDM.OFDM_STATUS_PROBING 0
  if t.ax w axOfdmProbe = 1 then (t.setAx w axOfdmProbe 0).setAx (t.feOfDemod w) axFeRequest 0 else t

/-- OFDM_SYNC_LOST: three frames without a valid frame start, of an engine that has one to lose (R206). -/
def execOfdmSyncLost (n : Fin 16) (s : State) : Out :=
  let w := winOFDM n
  .next (if s.live w && decide (3 ≤ s.syncState w) && s.syncState w != 7 then
    (((((s.put w OFDM.OFDM_STATUS_SYNC_STATE 7).dropProbe w).put w OFDM.LEVEL_Q 0).setValid w false).count w
      OFDM.SYNC_LOSS_COUNT).raiseKind w evOfdmLost
  else s)

/-- The organisation to come is taken with what its sub-channels carry: RECONFIGURED (R214). -/
def State.takeNext (s : State) (w : Nat) : State :=
  let kinds := (s.hs w hsKindsNext).map Int.toNat
  let u := (s.setBl (blKinds w) ((s.bl (blKinds w)).filter (fun x => kinds.all (fun k => k % 64 != x % 64)) ++ kinds)).setHs w
    hsKindsNext []
  let t := (u.setBl (blOrg w) (s.bl (blNext w))).setBl (blNext w) []
  (((t.put w OFDM.OFDM_STATUS_RECONF_PENDING 0).raiseKind w evOfdmReconf).judgeSwitch w).mciUpdate w

/-- The switch point has passed: the new organisation is taken if it has been received, else the old one stays
and 0x0506 is recorded. -/
def State.reconfigure (s : State) (w : Nat) : State :=
  if (s.bl (blNext w)).isEmpty then (s.put w OFDM.OFDM_STATUS_RECONF_PENDING 0).setErr w 0x0506
  else s.takeNext w

/-- Is the mode that an engine kept one that its configuration still accepts (R201, R202)? -/
def State.modeKept (s : State) (w : Nat) : Bool :=
  let m := s.fld w OFDM.OFDM_STATUS_MODE_DET
  match s.fld w OFDM.OFDM_CFG_SYSTEM with
  | 0 => m == 0
  | 1 => s.modeAccepted w m
  | _ => m == 5

/-- The de-interleaver starts anew (R206). -/
def State.softClear (s : State) (w : Nat) : State := (List.range 6).foldl (fun u i => u.setHs w i []) s

/-- Fast resynchronisation succeeds (R206): the de-interleaver starts anew, selections are judged, and a switch point that
passed meanwhile is acted on (R226). An engine set to another mode in HOLD has kept nothing that it may use, and searches. -/
def State.resynced (s : State) (w : Nat) : State :=
  if !(s.live w && s.syncState w == 7) then s
  else if !s.modeKept w then s.ofdmRestart w
  else
    let t := ((s.softClear w).ofdmLocked w).judgeSwitch w
    if t.ax w axReconfPassed = 1 then (t.setAx w axReconfPassed 0).reconfigure w else t

/-- OFDM_RESYNC_TIMEOUT: the engine discards what it kept, except the selections, and searches anew (R206). -/
def execOfdmResyncTimeout (n : Fin 16) (s : State) : Out :=
  let w := winOFDM n
  .next (if s.live w && s.syncState w == 7 then
    s.ofdmRestart w else s)

/-- MODE_UNSUPPORTED: a DAB signal of mode II, III or IV (R203). -/
def execModeUnsupported (n : Fin 16) (s : State) : Out :=
  let w := winOFDM n
  .next (if s.live w && s.fld w OFDM.OFDM_CFG_SYSTEM == 0 && decide (1 ≤ s.syncState w ∧ s.syncState w < 6) then
    (s.setErr w 0x0501).raiseKind w evOfdmMode else s)

/-- OFDM_ACQ_TIMEOUT: 0x0505, once for each count that expires, in whatever state short of 6 (R208). -/
def execOfdmAcqTimeout (n : Fin 16) (s : State) : Out :=
  let w := winOFDM n
  .next (if s.atomState w = stWARM ∧ s.ax w axAcqDone = 0 then
    (s.setErr w 0x0505).setAx w axAcqDone 1 else s)

/-- OFDM_FRAME_END: a frame ends with these values measured over it: MER and the branch MERs in 0.01 dB, the
carrier offset in 0.1 Hz, the sampling-clock offset in 0.01 ppm (R225). -/
def execOfdmFrameEnd (n : Fin 16) (mer offset sco a b : Int) (s : State) : Out :=
  let w := winOFDM n
  .next (if !(s.live w && decide (3 ≤ s.syncState w)) then s else
    let q := if s.syncState w = 6 then (clampI 0 255 (mer / 25)).toNat else 0
    let t := ((((s.putI w OFDM.MER mer).put w OFDM.LEVEL_Q q).putI w OFDM.OFFSET offset).putI w OFDM.SCO sco).bump w
      OFDM.FRAME_COUNT
    let f := s.feOfDemod w
    let div := s.mode3 f || (s.fld f FE.DIV_CTL_MODE == 2 && s.fld f FE.DIV_CTL_REF_WINDOW == w)
    let t1 := if div then (t.putI w OFDM.BRANCH_MER_A a).putI w OFDM.BRANCH_MER_B b else t
    t1.put w OFDM.OFDM_STATUS_PROBING 0)

/-! ## Control blocks (R211) -/

/-- Entries put into an organisation: a new entry takes the place of the one with its ID. -/
def orgMerge (org : List Nat) (es : List SubChannel) : List Nat :=
  es.foldl (fun o e => o.filter (fun x => x % 64 != e.id.val) ++ [subCode e]) org

/-- A flat list of triples. -/
def triplesOf : List Nat → List (Nat × Nat × Nat)
  | a :: b :: c :: l => (a, b, c) :: triplesOf l
  | _ => []

/-- What FIG 0/2 and FIG 0/14 say, put into the kinds that are known: a new entry takes the place of the one with its ID;
packet FEC is added to it. -/
def kindsMerge (old : List Nat) (kinds : List (Fin 64 × Fin 4)) (fec : List (Fin 64)) : List Nat :=
  let put := fun (o : List Nat) (id v : Nat) => o.filter (fun x => x % 64 != id) ++ [v]
  let of := fun (o : List Nat) (id : Nat) => (o.find? (fun x => x % 64 == id)).getD id
  let a := kinds.foldl (fun (o : List Nat) (k : Fin 64 × Fin 4) =>
    put o k.1.val (k.1.val + 64 * k.2.val + of o k.1.val / 256 * 256)) old
  fec.foldl (fun (o : List Nat) (x : Fin 64) => put o x.val (of o x.val % 256 + 256)) a

/-- The stamp of a block that is delivered as its CIF (DAB, 18 symbols) or transmission frame (DRM) has arrived whole: that of
the first channel sample of it (R210).
Mark DEDUCED: notes/assumptions/254.md. -/
def State.blockStamp (s : State) (w : Nat) : BitVec 64 :=
  let back := match s.fld w OFDM.OFDM_CFG_SYSTEM with
    | 0 => 551232 - 12
    | 1 => 9830400 - 512
    | _ => 2457600 - 128
  BitVec.ofNat 64 (s.ax w axStamp) - BitVec.ofNat 64 back

/-- The blocks of output 1 reach each SIDE_DATA unit in RUN that it feeds, with their CRC result (R211). -/
def State.giveControl (s : State) (w : Nat) (c : ControlArg) : State :=
  ((s.sinksOf w 1).filter (fun d => kindOf d == .sideData && s.atomState d == stRUN)).foldl (fun t d =>
    t.giveCoded d 0 ⟨s.blockStamp w, c.ok, c.kind, c.data⟩) s

/-- What a good control block says of the multiplex (R211): the CIF count and the Al flag; whether a reconfiguration is
announced; the organisation in force and the one to come; what sub-channels carry in each, and which have packet FEC;
announcement support and switching. A DAB engine reads it from the FIGs; of a DRM signal it is what the FAC and the SDC say. -/
structure MuxNews where
  count : Option (Nat × Bool)
  announces : Bool
  now : List SubChannel
  next : List SubChannel
  kinds : List (Fin 64 × Fin 4)
  fec : List (Fin 64)
  kindsNext : List (Fin 64 × Fin 4)
  fecNext : List (Fin 64)
  support : List (Nat × Nat × List Nat)
  switches : List Nat
  deriving DecidableEq, Repr

def muxNews (dab : Bool) (c : ControlArg) : MuxNews :=
  let data := c.data.map BitVec.toNat
  if !dab then
    let es := if c.kind = 2 then entitiesOf data.length data else []
    ⟨none, c.announces, c.now, c.next, es.filterMap entityCodec, [], [], [], [],
      (es.filter (fun e => entityType e == 8)).map Config.sdcSwitch⟩
  else
    let figs := figsOf data.length data
    let id := figs.filterMap fig00
    let now := figs.filter (fun f => !figNext f)
    let next := figs.filter figNext
    ⟨id.head?.map (fun x => (x.2.2.2, x.2.2.1)), id.any (fun x => x.2.1), now.flatMap figOrg, next.flatMap figOrg,
      now.flatMap figKinds, now.flatMap figFec, next.flatMap figKinds, next.flatMap figFec, now.flatMap figSupport,
      now.flatMap figSwitches⟩

/-- Support entries put in place of those of their services. -/
def supportMerge (old : List Nat) (es : List (Nat × Nat × List Nat)) : List Nat :=
  ((triplesOf old).filter (fun t => es.all (fun e => e.1 != t.1))).flatMap (fun t => [t.1, t.2.1, t.2.2]) ++
    es.flatMap (fun e => e.2.2.flatMap (fun c => [e.1, e.2.1, c]))

/-- What a good control block changes in the engine (R211, R213, R214). -/
def State.muxTake (s : State) (w : Nat) (c : MuxNews) : State :=
  let s1 := match c.count with
    | some (cif, al) => (s.put w OFDM.CIF_COUNT (cif % 5000)).putB w OFDM.OFDM_STATUS_AL_FLAG al
    | none => s
  let s2 := if c.announces then s1.put w OFDM.OFDM_STATUS_RECONF_PENDING 1 else s1
  let waits := (s.hs w hsSwitch).map Int.toNat
  let s3 := ((s2.setBl (blOrg w) (orgMerge (s2.bl (blOrg w)) c.now)).setBl (blNext w)
    (orgMerge (s2.bl (blNext w)) c.next)).setBl (blKinds w) (kindsMerge (s2.bl (blKinds w)) c.kinds c.fec)
  let s4 := ((s3.setHs w hsKindsNext ((kindsMerge ((s.hs w hsKindsNext).map Int.toNat) c.kindsNext c.fecNext).map Int.ofNat)).setHs
    w hsSupport ((supportMerge ((s.hs w hsSupport).map Int.toNat) c.support).map Int.ofNat)).setHs w hsSwitch
    ((waits ++ c.switches.filter (fun x => !waits.contains x)).map Int.ofNat)
  let s5 := s4.mciUpdate w
  if s5.syncState w = 6 then s5.judgeNew w else s5

/-- CONTROL_BLOCK_RECEIVED: a block reaches SIDE_DATA on output 1, CRC-correct or not; one with a failed CRC is counted, and a
good one is interpreted for the engine's own use (R211, R213, R214). -/
def execControlBlockReceived (n : Fin 16) (c : ControlArg) (s0 : State) : Out :=
  let w := winOFDM n
  .next (if !(s0.live w && decide (3 ≤ s0.syncState w) && s0.syncState w != 7) then s0
    else
      let s := s0.giveControl w c
      if !c.ok then s.count w (if c.kind = 2 then OFDM.SDC_CRC_COUNT else OFDM.CTRL_CRC_COUNT)
      else s.muxTake w (muxNews (s.fld w OFDM.OFDM_CFG_SYSTEM == 0) c))

/-- MULTIPLEX_RECONFIGURE: the signalled switch point comes; in state 7 it is kept until the engine is
synchronised again (R214, R226). -/
def execMultiplexReconfigure (n : Fin 16) (s : State) : Out :=
  let w := winOFDM n
  .next (if !(s.live w && s.flag w OFDM.OFDM_STATUS_RECONF_PENDING) then s
    else if s.syncState w = 7 then s.setAx w axReconfPassed 1
    else s.reconfigure w)

/-! ## Blocks of a selection (R210, R215–R217) -/

/-- What the sub-channel of a selection carries: in DAB as FIG 0/2 has said, 0 while it has not; a DRM stream is 4. -/
def State.selKind (s : State) (w i : Nat) : Nat :=
  if s.fld w OFDM.OFDM_CFG_SYSTEM ≠ 0 then 4
  else (((s.bl (blKinds w)).find? (fun x => x % 64 == s.selId w i)).getD 0) / 64 % 4

/-- Does FIG 0/14 signal packet FEC for it? -/
def State.selFec (s : State) (w i : Nat) : Bool :=
  256 ≤ ((s.bl (blKinds w)).find? (fun x => x % 64 == s.selId w i)).getD 0

/-- The codec that signalling gives the stream of a selection: FIG 0/2 in DAB, the audio information entity in DRM; 0 while
neither has (R280). -/
def State.selCodec (s : State) (w i : Nat) : Nat :=
  let k := ((s.bl (blKinds w)).find? (fun x => x % 64 == s.selId w i)).getD 0 / 64 % 4
  if s.fld w OFDM.OFDM_CFG_SYSTEM = 0 ∧ k = 3 then 0 else k

/-! ## Symbols and cells (R215, R219, R221) -/

/-- Samples of a symbol with its guard, and the symbols that the de-interleaver spans: 16 CIFs of a DAB signal with their share
of the other symbols, 5 frames of DRM30, 6 of mode E (R201, R219).
Mark DESIGN CHOICE: notes/assumptions/203.md. -/
def symbolSamples (system mode : Nat) : Nat :=
  if system = 0 then 2552 else if system = 1 then [1280, 1280, 1280, 960, 800].getD mode 1280 else 480

def keptSymbols (system mode : Nat) : Nat :=
  if system = 0 then 304 else if system = 1 then [75, 75, 75, 100, 120].getD mode 75 else 240

/-- A flat list in fours. -/
def foursOf : List Int → List (List Int)
  | a :: b :: c :: d :: l => [a, b, c, d] :: foursOf l
  | _ => []

/-- The carriers of a symbol of one branch, in fives: the carrier's value, its channel estimate, and the noise estimate. -/
structure Carrier where
  y : Int × Int
  h : Int × Int
  noise : Nat
  deriving DecidableEq, Repr

def carriersOf : List Int → List Carrier
  | a :: b :: c :: d :: n :: l => ⟨(a, b), (c, d), n.toNat⟩ :: carriersOf l
  | _ => []

/-- x · conj(y). -/
def byConj (x y : Int × Int) : Int × Int := (x.1 * y.1 + x.2 * y.2, x.2 * y.1 - x.1 * y.2)

/-- What a carrier of one branch brings to the combination by maximal ratio: its value over its estimate, weighted by
|H|² / σ², which is Y · conj(H) / σ²; for DAB the differential product Y · conj(Y′), which holds |H|² itself, over σ² (R221).
In 2^-16. -/
def Carrier.part (c : Carrier) (before : Int × Int) (dab : Bool) : Int × Int :=
  let p := byConj c.y (if dab then before else c.h)
  (p.1 * 65536 / ((Nat.max c.noise 1 : Nat) : Int), p.2 * 65536 / ((Nat.max c.noise 1 : Nat) : Int))

/-- The cells of a symbol: of each carrier the parts of the branches in use, added. -/
def cellsOf (dab both : Bool) (a b : List Carrier) (ya yb : List (Int × Int)) : List Int :=
  (List.range a.length).flatMap (fun k =>
    let none : Carrier := ⟨(0, 0), (0, 0), 1⟩
    let p := (a.getD k none).part (ya.getD k (0, 0)) dab
    let q := if both then (b.getD k none).part (yb.getD k (0, 0)) dab else (0, 0)
    [p.1 + q.1, p.2 + q.2])

/-- A symbol has passed: each branch gives its carriers and estimates, and the cells enter the de-interleaver. The engine uses
branch a alone where it does not combine (R221). -/
def State.ofdmSymbol (s : State) (w : Nat) : State :=
  let sys := s.fld w OFDM.OFDM_CFG_SYSTEM
  let mode := s.fld w OFDM.OFDM_STATUS_MODE_DET
  let ps : List Int := [((sys : Nat) : Int), ((mode : Nat) : Int)]
  let xs := fun (b : Nat) => (foursOf (s.hs w hsWork)).flatMap (fun x => [x.getD (2 * b) 0, x.getD (2 * b + 1) 0])
  let a := s.through w hsFftA .carriers ps (xs 0)
  let b := a.1.through w hsFftB .carriers ps (xs 1)
  let ca := carriersOf a.2
  let cb := carriersOf b.2
  let cells := cellsOf (sys == 0) (s.combining w) ca cb (pairsOf (s.hs w hsCellsA)) (pairsOf (s.hs w hsCellsB))
  let keep := fun (l : List Carrier) => l.flatMap (fun c => [c.y.1, c.y.2])
  (((b.1.setHs w hsCellsA (keep ca)).setHs w hsCellsB (keep cb)).setHs w hsSoft
    ((cells ++ s.hs w hsSoft).take (keptSymbols sys mode * cells.length))).setAx w axSymbol 0

/-- A channel sample of both branches reaches an engine: it enters working memory, and with the last of a symbol the symbol is
worked (R219). -/
def State.ofdmSample (s : State) (w : Nat) (a b : Int × Int) (stamp : Nat) : State :=
  let n := symbolSamples (s.fld w OFDM.OFDM_CFG_SYSTEM) (s.fld w OFDM.OFDM_STATUS_MODE_DET)
  let t := ((s.setHs w hsWork (([a.1, a.2, b.1, b.2] ++ s.hs w hsWork).take (8 * n))).setAx w axStamp stamp).setAx w axSymbol
    (s.ax w axSymbol + 1)
  if n ≤ t.ax w axSymbol then t.ofdmSymbol w else t

/-- The bytes that the channel decoder makes of the cells in the de-interleaver for a selection: the start address, profile and
capacity of its organisation entry, what it carries, and packet FEC; energy dispersal is removed (R215, R216). -/
def State.channelBytes (s : State) (w i n : Nat) : List Byte :=
  let e := (s.orgFind w (s.selId w i)).getD 0
  ((Config.stage .channelDecode [s.fld w OFDM.OFDM_CFG_SYSTEM, s.fld w OFDM.OFDM_STATUS_MODE_DET, s.fld w OFDM.OFDM_STATUS_SO_DET,
    ((e : Nat) : Int), s.selKind w i, b2n (s.selFec w i)] (s.hs w hsSoft) []).2 ++ List.replicate n 0).take n |>.map
    (BitVec.ofInt 8)

/-- The units of a block with their bytes. -/
def cutUnits : List UnitArg → List Byte → List (Bool × List Byte)
  | [], _ => []
  | u :: us, d => (u.mended && u.ok, d.take u.len) :: cutUnits us (d.drop u.len)

/-- A block reaches the sink of its selection: each access unit or frame at a decoder with its flag; packets at a SIDE_DATA
unit. The first after a change of ID carries the discontinuity mark (R212). The access units of a superframe share its 120 ms
(R285).
Mark DEDUCED: notes/assumptions/255.md. -/
def State.deliverBlock (s : State) (w i : Nat) (us : List (Bool × List Byte)) : State :=
  let d := s.fld w (OFDM.SEL_SINK.at i)
  let marked := (s.hs w hsMarks).contains ((i : Nat) : Int)
  let t := s.setHs w hsMarks ((s.hs w hsMarks).filter (fun x => x != ((i : Nat) : Int)))
  let each := if s.selKind w i = 2 then 2949120 / Nat.max 1 us.length else 0
  if kindOf d = .audioDec then
    (us.foldl (fun (p : State × Bool × Nat) u =>
      (p.1.giveCoded d 0 ⟨s.blockStamp w + BitVec.ofNat 64 (p.2.2 * each), u.1, b2n p.2.1, u.2⟩, false, p.2.2 + 1)) (t, marked, 0)).1
  else if s.atomState d = stRUN then
    us.foldl (fun u x => u.giveCoded d 1 ⟨s.blockStamp w, x.1, 0, x.2⟩) (if marked then t.setAx d axSdMark 1 else t)
  else t

/-- Superframe sync after one more superframe: found at the fire code, dropped by the third failure in succession (R216). -/
def fireNext (sync : Int) (fire : Bool) : Int := if fire then 3 else clampI 0 3 (sync - 1)

/-- Does a block hold an uncorrectable error (R216, R217): of a superframe, a codeword that was not corrected; of any other, a
frame whose check failed? -/
def blockFailed (kind : Nat) (b : BlockArg) : Bool := b.units.any (fun u => !u.mended || (kind != 2 && !u.ok))

/-- SUPERFRAME_DECODED: a block of a selection has come through the de-interleaver (R216, R217). `b` says what the fire code
of a DAB+ superframe gave, whether anything was corrected, and what each access unit or frame gave.
Mark DEDUCED: notes/assumptions/225.md.
Mark DESIGN CHOICE: notes/assumptions/233.md. -/
def execSuperframeDecoded (n : Fin 16) (sel : Fin 64) (b : BlockArg) (s : State) : Out :=
  let w := winOFDM n
  let k := s.selKind w sel
  .next (if !(s.atomState w == stRUN && s.syncState w == 6 && s.selUsed w sel && s.flag w (OFDM.SEL_PRESENT.at sel) &&
      !s.flag w (OFDM.SEL_UNSUPPORTED.at sel) && k != 0) then s
    else
      let sync := fitInts 64 (s.hs w hsFire)
      let now := fireNext (sync.getD sel 0) b.fire
      let t := if k = 2 then s.setHs w hsFire (sync.set sel now) else s
      if k = 2 ∧ now = 0 then t
      else
        let failed := blockFailed k b
        let t1 := t.putB w (OFDM.SEL_CLEAN.at sel) (!failed)
        let t2 := if b.corrected ∧ k = 2 then t1.count w OFDM.SF_CORRECTED_COUNT else t1
        let t3 := if failed then (if k = 2 ∨ k = 4 then t2.count w OFDM.SF_FAILED_COUNT else t2).raiseKind w evOfdmFailed else t2
        t3.deliverBlock w sel (cutUnits b.units (s.channelBytes w sel ((b.units.map UnitArg.len).sum))))

/-! ## Aerial choice in the preamble (R220) -/

/-- An MER in 0.01 dB as a hidden count; 0 stands for none. -/
def merCode (m : Int) : Nat := (m + 100000).toNat
def merOf (c : Nat) : Int := (c : Int) - 100000

/-- The rule of R220 that applies: 0 none, 1 a return or a switch, 2 a probe. An M_alt that was never measured is older than
any frame, and its age counts from the first.
Mark DESIGN CHOICE: notes/assumptions/256.md. -/
def preambleRule (hyst floor probe : Nat) (use : Int) (alt left : Nat) (age : Nat) (prevFirst : Bool) : Nat :=
  if prevFirst ∧ left ≠ 0 ∧ use + 25 * (hyst : Int) ≤ merOf left then 1
  else if alt ≠ 0 ∧ age ≤ probe ∧ use + 25 * (hyst : Int) ≤ merOf alt then 1
  else if use < 25 * (floor : Int) ∧ (alt = 0 ∨ 1 < age) then 2
  else if probe ≠ 0 ∧ age = probe then 2
  else 0

/-- PREAMBLE_MEASURED: in mode 2 the engine measures the preamble's MER on the input in use and acts on the
first rule that applies; its request reaches the front end inside or outside the switch window (R109, R220). -/
def execPreambleMeasured (n : Fin 16) (mer : Int) (inWindow : Bool) (s : State) : Out :=
  let w := winOFDM n
  let f := s.feOfDemod w
  .next (if !(s.live w && decide (3 ≤ s.syncState w) && f != 0x3FF && s.fld f FE.DIV_CTL_MODE == 2 &&
      s.fld f FE.DIV_CTL_REF_WINDOW == w) then s
    else
      let onB := s.flag f FE.FE_STATUS_ON_B
      let (mU, aU, mA, aA) := if onB then (axMerB, axAgeB, axMerA, axAgeA) else (axMerA, axAgeA, axMerB, axAgeB)
      let first := s.ax w axPrevIn != 0 && (s.ax w axPrevIn == 2) != onB
      let s1 := ((s.setAx w mU (merCode mer)).setAx w aU 0).setAx w aA (Nat.min (s.ax w aA + 1) 1000)
      let rule := preambleRule (s.fld w OFDM.DIV_CFG_DIV_HYST) (s.fld w OFDM.DIV_CFG_DIV_FLOOR)
        (s.fld w OFDM.DIV_CFG_PROBE_FRAMES) mer (s1.ax w mA) (s.ax w axMerLeft) (s1.ax w aA) (s.ax w axPrevFirst == 1)
      let s2 := ((s1.setAx w axMerLeft (if first then s.ax w mA else s.ax w axMerLeft)).setAx w axPrevFirst
        (b2n first)).setAx w axPrevIn (if onB then 2 else 1)
      if rule = 0 then s2
      else (s2.requestInput f (!onB) inWindow).setAx w axOfdmProbe (if rule = 2 then 1 else 0))

/-! ## Announcements and alarm (R222–R224) -/

/-- ACTIVE and ALARM show every active entry. -/
def State.annShow (s : State) (w : Nat) : State :=
  let es := (s.hs w hsAnn).map Int.toNat
  (s.put w OFDM.ANN_STATUS_ACTIVE (es.foldl (fun a e => a ||| e % 65536) 0)).putB w OFDM.ANN_STATUS_ALARM
    (es.any (fun e => e / 16777216 % 2 == 1))

/-- Is an entry of the cluster active?
Mark DEDUCED: notes/assumptions/224.md. -/
def State.annActive (s : State) (w cluster : Nat) : Bool :=
  (s.hs w hsAnn).any (fun e => e.toNat / 65536 % 256 == cluster)

/-- An active entry ends: its flags clear and ANNOUNCEMENT_END is raised, unless it was an alarm that the mask leaves out. -/
def State.annEnd (s : State) (w cluster : Nat) : State :=
  let t := (s.setHs w hsAnn ((s.hs w hsAnn).filter (fun e => e.toNat / 65536 % 256 != cluster))).annShow w
  if !s.annActive w cluster then s
  else if (s.hs w hsAnn).any (fun e => e.toNat / 65536 % 256 == cluster && e.toNat % 65536 != 0) then t.raiseKind w evOfdmAnnEnd
  else t

/-- Does a switching entry of the control channel wait to be followed (R211)? -/
def State.switchWaits (s : State) (w asw cluster sub : Nat) (new region : Bool) : Bool :=
  s.live w && decide (4 ≤ s.syncState w) && s.syncState w != 7 &&
    (s.hs w hsSwitch).contains ((switchCode asw cluster sub new region : Nat) : Int)

/-- A switching entry that waits is followed: one whose flags meet ANN_MASK is an announcement (R222), and every Alarm entry is
an alarm, whatever the mask (R223).
Mark DEDUCED: notes/assumptions/42.md. -/
def State.annEntry (s0 : State) (w asw cluster sub : Nat) (new region : Bool) : State :=
  let code := switchCode asw cluster sub new region
  let s := s0.setHs w hsSwitch ((s0.hs w hsSwitch).erase ((code : Nat) : Int))
  if !s0.switchWaits w asw cluster sub new region then s0
  else if asw = 0 then s.annEnd w cluster
  else
    let flags := asw &&& s.fld w OFDM.ANN_CFG_ANN_MASK
    let alarm := asw % 2 == 1 && (s.fld w OFDM.OFDM_CFG_SYSTEM != 0 || s.flag w OFDM.OFDM_STATUS_AL_FLAG)
    if flags = 0 ∧ !alarm then s
    else
      let e := flags + 65536 * cluster + 16777216 * b2n alarm + 33554432 * sub + 2147483648 * asw
      let t := if flags = 0 then s else s.wr w OFDM.ANN_LAST_ASW.off (w32 code)
      let t0 := (t.setHs w hsAnn ((s.hs w hsAnn).filter (fun x => x.toNat / 65536 % 256 != cluster) ++ [(e : Int)])).annShow w
      let t1 := if flags = 0 then t0 else t0.raiseKind w evOfdmAnn
      if alarm then t1.raiseKind w evOfdmAlarm else t1

end Sys2Proof.Machine
end

