-- ==== Sys2Proof/Machine/Audio.lean ====
section
/-! DEFINITION. Decoders, lanes, host PCM and converters (R280–R305). -/

namespace Sys2Proof.Machine

/-- KIND_EVENTS of AUDIO_DEC, AUDIO_LANE and ASRC (R305). -/
def evDecStarted : Nat := 16
def evDecLost : Nat := 17
def evDecFormat : Nat := 18
def evDecUnsupported : Nat := 19
def evLaneXfade : Nat := 16
def evLaneLost : Nat := 17
def evLaneUnderrun : Nat := 18
def evLaneSat : Nat := 19
def evAsrcReacquired : Nat := 16
def evAsrcHold : Nat := 17
def evAsrcLimit : Nat := 18


/-- Hidden slots of a decoder, cleared by a reset: microseconds of consecutive bad units; the stream is lost;
consecutive good units since. -/
def axBadUs : Nat := 1
def axLost : Nat := 2
def axGood : Nat := 3

/-- Samples that remain of the fade of 20 ms by which a lost stream returns (R283). -/
def axDecFade : Nat := 4

/-! ## Decoders (R280–R285) -/

/-- The decoded rates that R281 converts, beside 48 kHz itself. -/
def convertible (hz : Nat) : Bool := hz == 48000 || (rateRatio hz).1 != 1

/-- Is the stream within the row of the profile table for its codec (R280)? `drm` says which system carries it. -/
def unitWithin (codec : Nat) (u : AccessUnit) (drm : Bool) : Bool :=
  convertible u.hz && match codec with
  | 1 => !drm && ((u.coreHz == 48000 && 32 ≤ u.kbps && u.kbps ≤ 384) || (u.coreHz == 24000 && 8 ≤ u.kbps && u.kbps ≤ 160))
  | 2 =>
    if drm then (u.coreHz ∈ [12000, 24000, 48000]) && decide (4 ≤ u.kbps) && decide (u.kbps ≤ 186) && u.channels != 3
    else (u.coreHz ∈ [16000, 24000, 32000, 48000]) && decide (8 ≤ u.kbps) && decide (u.kbps ≤ 192) && u.channels != 3
  | 3 => drm && decide (9600 ≤ u.coreHz) && decide (u.coreHz ≤ 48000) && decide (2 ≤ u.kbps) && decide (u.kbps ≤ 186) &&
      u.channels != 3
  | _ => false

/-- The codec of the stream on input 0: as FIG 0/2 or the audio information entity of the SDC signals it for the selection that
feeds the decoder; where neither has, the one that PROFILE fixes (R280).
Mark DESIGN CHOICE: notes/assumptions/258.md. -/
def State.decCodec (s : State) (w : Nat) : Nat :=
  let e := s.srcOf w 0
  let c := if kindOf e = .ofdm then ((s.selOf e w 0).map (s.selCodec e)).getD 0 else 0
  if c = 0 then s.fld w DEC.DEC_CFG_PROFILE else c

/-- May this decoder decode the unit: its PROFILE, and the limits of the table? -/
def State.decodes (s : State) (w : Nat) (u : AccessUnit) : Bool :=
  let p := s.fld w DEC.DEC_CFG_PROFILE
  (p == 0 || p == s.decCodec w) && unitWithin (s.decCodec w) u (s.fld (s.srcOf w 0) OFDM.OFDM_CFG_SYSTEM != 0)

/-- The record of a coded frame (R346): its header word and the bytes as delivered; MARK after a discontinuity, WARM from an
engine that is in WARM (R339). -/
def codedRecord (codec : Nat) (c : Coded) (warm : Bool) (n : Nat) : Rec :=
  ⟨0x0B, n, ⟨!c.good, c.tag == 1, warm⟩, c.stamp.extractLsb' 0 32, bytesOf (w32 (codec + 4 * b2n (!c.good))) ++ c.data⟩

/-- The queue that taps a decoder. -/
def State.tapOfDec (s : State) (w : Nat) : Option Nat :=
  ((List.range 64).map winQ).find? (fun q => s.present q && s.fld q QUE.Q_CFG_TAP_DEC == w)

/-- DEC_STATUS, CODED_HZ and BITRATE_KBPS of a decoded unit; a change of codec, decoded rate or channel count
raises FORMAT_CHANGED (R284). -/
def State.decFormat (s : State) (w : Nat) (u : AccessUnit) : State :=
  let codec := s.decCodec w
  let changed := s.fld w DEC.DEC_STATUS_CODEC != 0 &&
    !(s.fld w DEC.DEC_STATUS_CODEC == codec && s.fld w DEC.CODED_HZ == u.hz && s.fld w DEC.DEC_STATUS_CHANNELS == u.channels.val)
  let t := ((((s.put w DEC.DEC_STATUS_CODEC codec).putB w DEC.DEC_STATUS_SBR u.sbr).putB w DEC.DEC_STATUS_PS u.ps).put w
    DEC.DEC_STATUS_CHANNELS u.channels.val).putB w DEC.DEC_STATUS_DOWNMIX u.downmix
  let t1 := ((t.put w DEC.DEC_STATUS_LATENCY_US (Config.decoderLatency codec u.hz)).put w DEC.CODED_HZ u.hz).put w
    DEC.BITRATE_KBPS u.kbps
  if changed then t1.raiseKind w evDecFormat else t1

/-- The duration of a unit in microseconds. -/
def unitUs (u : AccessUnit) : Nat := u.samples * 1000000 / u.hz

/-- A bad unit is concealed; when the bad units fill CONCEAL_MS the output is at zero and the stream is lost (R283). -/
def State.decBad (s : State) (w : Nat) (u : AccessUnit) : State :=
  let us := Nat.min (s.ax w axBadUs + unitUs u) 250000
  let t := ((((s.count w DEC.FRAME_ERR_COUNT).setAx w axBadUs us).setAx w axGood 0).put w DEC.DEC_STATUS_CONCEALING 1)
  if s.fld w DEC.DEC_CFG_CONCEAL_MS * 1000 ≤ us ∧ s.ax w axLost = 0 ∧ (s.unit w).valid then
    (((t.setAx w axLost 1).count w DEC.CONCEAL_COUNT).raiseKind w evDecLost).setValid w false
  else t

/-- A good unit is decoded: it ends concealment, a lost stream after the second in succession; the first decoded
output of a decoder in WARM sets VALID and raises STREAM_STARTED (R283, R284). -/
def State.decGood (s : State) (w : Nat) (u : AccessUnit) : State :=
  let good := Nat.min (s.ax w axGood + 1) 2
  let t := ((s.decFormat w u).bump w DEC.FRAME_COUNT).setAx w axGood good
  if s.ax w axLost = 1 then
    if good = 2 then ((((t.setAx w axLost 0).setAx w axBadUs 0).setAx w axDecFade 960).put w DEC.DEC_STATUS_CONCEALING 0).setValid w true else t
  else
    let t1 := (t.setAx w axBadUs 0).put w DEC.DEC_STATUS_CONCEALING 0
    if (s.unit w).valid then t1 else (t1.raiseKind w evDecStarted).setValid w true

/-! ### PCM of a decoder (R281–R285) -/

/-- Five channels L, R, C, Ls, Rs to two, with the coefficients of R282 for a stream that signals none. -/
def downmix5 (up : Bool) : List Int → List Int
  | l :: r :: c :: ls :: rs :: xs =>
    between (10000 * l + 7071 * c + 7071 * ls) 24142 up :: between (10000 * r + 7071 * c + 7071 * rs) 24142 up :: downmix5 up xs
  | _ => []

/-- The pairs that leave a decoder, by the channels of the stream (R282): mono to both, dual mono as DUAL_SEL selects. -/
def dualOf (channels sel : Nat) (p : Int × Int) : Int × Int :=
  if channels = 1 then (p.1, p.1)
  else if channels = 3 then (if sel = 0 then (p.1, p.1) else if sel = 1 then (p.2, p.2) else p)
  else p

/-- The decoded samples of a unit at its own rate: DRC as the stream signals it where DRC is 1, and a stream of more
channels mixed down by the coefficients that it signals, else by those of R282. A bad unit is concealed. -/
def State.decodedRaw (s : State) (w : Nat) (u : AccessUnit) (c : Coded) : State × List Int :=
  let n := u.samples
  let ps : List Int := [((s.decCodec w : Nat) : Int), ((u.hz : Nat) : Int), s.fld w DEC.DEC_CFG_DRC, b2n u.matrix]
  let r := s.through w 8 (if c.good then .decode else .conceal) ps (c.data.map (fun b => ((b.toNat : Nat) : Int)))
  if u.downmix && !u.matrix then (r.1.useFresh, downmix5 (s.freshWord.getLsbD 0) (fitInts (5 * n) r.2))
  else (r.1, fitInts ((if u.channels = 1 then 1 else 2) * n) r.2)

/-- Decoded pairs at 48 kHz: those of another rate through the fixed interpolator, whose last samples and place history 9
keeps (R281). -/
def State.converted (s : State) (w hz : Nat) (xs : List (Int × Int)) : State × List (Int × Int) :=
  if hz = 48000 then (s, xs)
  else
    let r := rateRatio hz
    let old := s.hs w 9
    let y := resample (toLaneTaps r.1) r.1 r.2 (fun i => Config.rounds s.fresh i) xs (pairsOf (old.drop 1)) (old.headD 0).toNat
    (s.useFresh.setHs w 9 (((y.2.2 : Nat) : Int) :: y.2.1.flatMap (fun p => [p.1, p.2])), y.1)

/-- The frames of one unit at 48 kHz: decoded, converted where the decoded rate is another one, and laid out as R282 says. -/
def State.decodedFrames (s : State) (w : Nat) (u : AccessUnit) (c : Coded) : State × List (Int × Int) :=
  let r := s.decodedRaw w u c
  let q := r.1.converted w u.hz (if u.channels = 1 then r.2.map (fun x => (x, x)) else pairsOf r.2)
  (q.1, q.2.map (fun p =>
    let y := dualOf u.channels.val (s.fld w DEC.DEC_CFG_DUAL_SEL) p
    (saturate 32 y.1, saturate 32 y.2)))

/-- The gain of the `k`-th frame of a unit as a fraction: falling to zero over CONCEAL_MS through bad units, of which `bad`
microseconds came before; zero while the stream is lost or the decoder not yet VALID; rising over 20 ms after it returned (R283,
R284). That the fades are linear, and that a good unit ends one at once, is not stated.
Mark DEDUCED: notes/assumptions/202.md. -/
def State.decGain (s : State) (w : Nat) (bad : Option Nat) (k : Nat) : Nat × Nat :=
  let c := 1000 * s.fld w DEC.DEC_CFG_CONCEAL_MS
  match bad with
  | some us => if s.ax w axLost = 1 ∨ !(s.unit w).valid then (0, 1) else (c - (us + 1000 * k / 48), c)
  | none => if !(s.unit w).valid then (0, 1) else (960 - (s.ax w axDecFade - k), 960)

/-- A unit's frames go to the lanes that the decoder feeds, with the gains that `g` gives them; each carries the stamp of its
block, its place in it and LATENCY_US (R285). -/
def State.decDeliver (s : State) (w : Nat) (stamp : BitVec 64) (g : Nat → Nat × Nat) (xs : List (Int × Int)) : State :=
  let at0 := stamp.toNat + s.fld w DEC.DEC_STATUS_LATENCY_US * 24576 / 1000
  let up := fun (i : Nat) => Config.rounds s.fresh i
  let t := (xs.foldl (fun (p : State × Nat) x =>
    let a := g p.2
    (p.1.toLanes w (between (x.1 * a.1) a.2 (up (2 * p.2))) (between (x.2 * a.1) a.2 (up (2 * p.2 + 1))) ((at0 + 512 * p.2) % 2 ^ 64),
      p.2 + 1)) (s.useFresh, 0)).1
  t.setAx w axDecFade (s.ax w axDecFade - xs.length)

/-- The PAD of a DAB or DAB+ stream leaves output 1 of its decoder for each SIDE_DATA unit in RUN that it feeds (R236). -/
def State.givePad (s : State) (w : Nat) (c : Coded) : State :=
  let e := s.srcOf w 0
  if !c.good || kindOf e != .ofdm || s.fld e OFDM.OFDM_CFG_SYSTEM != 0 then s
  else
    let pad := (Config.stage .pad [((s.decCodec w : Nat) : Int)] [] (c.data.map (fun b => ((b.toNat : Nat) : Int)))).2
    ((s.sinksOf w 1).filter (fun d => kindOf d == .sideData && s.atomState d == stRUN)).foldl (fun t d =>
      t.giveCoded d 1 ⟨c.stamp, true, c.tag, pad.map (BitVec.ofInt 8)⟩) s

/-- One access unit or frame reaches a decoder: its tap takes it as delivered, a discontinuity mark restarts the
decoder, and it is decoded or concealed. `u` is what its codec and its signalling say of it.
Mark DEDUCED: notes/assumptions/52.md.
Mark DESIGN CHOICE: notes/assumptions/232.md. -/
def State.decodeUnit (s0 : State) (w : Nat) (u : AccessUnit) (c : Coded) : State :=
  let s := s0.dropCoded w 0
  let s1 := match s.tapOfDec w with
    | some q => s.placeRec q (codedRecord (s.decCodec w) c (s.atomState (s.srcOf w 0) == stWARM) (instOf w))
    | none => s
  if !s1.live w then s1
  else
    let rest := s1.hs w hsIn
    let s2 := if c.tag = 1 then
      (((s1.syncReset w).setHs w hsIn rest).put w DEC.DEC_STATUS_CONCEALING 0).count w DEC.DISCONT_COUNT else s1
    if !s2.decodes w u then ((s2.setErr w 0x0601).raiseKind w evDecUnsupported).setValid w false
    else
      let d := (s2.givePad w c).decodedFrames w u c
      if c.good then
        let t := d.1.decGood w u
        t.decDeliver w c.stamp (t.decGain w none) d.2
      else (d.1.decBad w u).decDeliver w c.stamp (s2.decGain w (some (s2.ax w axBadUs))) d.2

/-- The block that waits longest at a decoder is taken; where none waits nothing happens. -/
def State.accessUnit (s : State) (w : Nat) (u : AccessUnit) : State :=
  match s.nextCoded w 0 with
  | some c => s.decodeUnit w u c
  | none => s

/-! ## Lanes (R286–R292) -/

/-- Is FOLLOW_n bound (R289)? -/
def State.followBound (s : State) (n : Nat) : Bool := s.present (winFollow n) && s.parentOf (winFollow n) != 0x3FF

def State.laneChannels (s : State) (n : Nat) : Nat := if s.flag (winLane n) LANE.LANE_CFG_MONO then 1 else 2

/-- CAP_MS (R287). -/
def State.laneCap (s : State) (n : Nat) : Nat := s.dsBlocks (winLane n) * 4096 / (144 * s.laneChannels n)

/-- The delay of input `i`. -/
def State.laneDelay (s : State) (n i : Nat) : Nat :=
  if i = 0 then s.fld (winLane n) LANE.DELAY_DELAY0_MS else s.fld (winLane n) LANE.DELAY_DELAY1_MS

/-- Is a SELECT pending: towards an input that does not play and is not fading in, or back during a fade? -/
def State.selectPending (s : State) (n : Nat) : Bool :=
  let w := winLane n
  let dest := if s.flag w LANE.LANE_STATUS_FADING then 1 - s.fld w LANE.LANE_STATUS_PLAYING else s.fld w LANE.LANE_STATUS_PLAYING
  !s.followBound n && s.fld w LANE.SELECT != dest

/-- A lane's registers as they read. LATENCY_US that passes its 20 bits reads as the largest, a fraction of a microsecond is cut
off, and in OFF it reads 0.
Mark DESIGN CHOICE: notes/assumptions/257.md. -/
def State.laneRead (s : State) (w off : Nat) : Word :=
  let n := instOf w
  if off = 0x080 then LANE.LANE_STATUS_PENDING.put (s.rd w off) (b2n (s.selectPending n))
  else if off = 0x084 then w32 (s.laneCap n % 16384 + 65536 * s.dsBlocks w)
  else if off = 0x088 then
    if s.atomState w = stOFF then 0
    else
      let f := winAF n
      w32 (Nat.min 0xFFFFF (1000 * s.laneDelay n (s.fld w LANE.LANE_STATUS_PLAYING) +
        (s.bankTaps f (s.fld f FILT.FILT_STATUS_ACTIVE) - 1) * 1000000 / 96000 + 1000))
  else s.rd w off

/-- The refusals of a lane's registers (R286, R287, R289, and R309 where a port's slots would pass its frame).
Mark DEDUCED: notes/assumptions/185.md. -/
def State.laneCodes (s : State) (w off : Nat) (v : Word) : List Nat :=
  let n := instOf w
  let t := s.store w off v
  let excess := if t.laneCap n < t.laneDelay n 0 + t.laneDelay n 1 then [0x0202] else []
  let moved := s.laneDelay n 0 != t.laneDelay n 0 || s.laneDelay n 1 != t.laneDelay n 1
  let locked := !([stOFF, stIDLE, stHOLD].contains (s.atomState w))
  if off = 0x044 then (if s.followBound n then [0x0602] else (if locked && moved then [0x0203] else []) ++ excess)
  else if off = 0x050 then (if s.followBound n then [0x0602] else [])
  else if off = 0x040 ∧ s.flag w LANE.LANE_CFG_MONO ≠ t.flag w LANE.LANE_CFG_MONO then excess
  else []

/-- Is an input linked or driven, and what its source holds as VALID: a decoder, demodulator or host stream. -/
def State.laneSource (s : State) (n i : Nat) : Bool :=
  let q := s.srcOf (winLane n) i
  if kindOf q = .queue then s.ax (winLane n) (36 + i) == 1 else q != 0x3FF && (s.unit q).valid

/-- A cross-fade starts towards the other input: its position counts from 0 (slots 32 and 33 hold position and
length in samples). -/
def State.startXfade (s : State) (n len : Nat) : State :=
  let w := winLane n
  ((s.put w LANE.LANE_STATUS_FADING 1).setAx w 32 0).setAx w 33 len

/-- SELECT is served: outside WARM and RUN the named input plays at once; in them a cross-fade starts when no fade
runs and that input is VALID; else the request is pending (R289, R301). -/
def State.serveSelect (s : State) (n : Nat) : State :=
  let w := winLane n
  if s.flag w LANE.LANE_STATUS_FADING || s.fld w LANE.SELECT == s.fld w LANE.LANE_STATUS_PLAYING then s
  else if !s.live w then s.put w LANE.LANE_STATUS_PLAYING (s.fld w LANE.SELECT)
  else if s.flag w (if s.fld w LANE.SELECT = 0 then LANE.LANE_STATUS_IN0_VALID else LANE.LANE_STATUS_IN1_VALID) then
    s.startXfade n (48 * s.fld w LANE.RAMP_XFADE_MS)
  else s

/-- LANE_SELECT: a write of SELECT.
Mark DEDUCED: notes/assumptions/44.md. -/
def State.writeSelect (s : State) (m n : Nat) (v : Word) : State :=
  s.guarded m (winLane n) 0x050 v (s.laneCodes (winLane n) 0x050 v) (fun t => (t.store (winLane n) 0x050 v).serveSelect n)

def execLaneSelect (m : Master) (n : Fin 32) (v : Word) (s : State) : Out := .next (s.writeSelect m n v)

/-- SELECT_PENDING_TAKES: the first sample at which the named input is VALID. -/
def execSelectPendingTakes (n : Fin 32) (s : State) : Out :=
  .next (if s.selectPending n then s.serveSelect n else s)

/-- GAIN takes a value: where it changes the gain in force of a lane that is not at zero or on its way there, a ramp
towards it starts (R291).
Mark DEDUCED: notes/assumptions/45.md. -/
def State.gainWritten (s : State) (w : Nat) (v : Word) : State :=
  let t := s.store w 0x048 v
  let r := s.fld w LANE.LANE_STATUS_RAMP_STATE
  if (r = 1 ∨ r = 2) ∧ t.fld w LANE.GAIN ≠ s.fld w LANE.GAIN then t.rampIn w else t

/-- GAIN_WRITE. -/
def execGainWrite (m : Master) (n : Fin 32) (v : Word) (s : State) : Out :=
  .next (s.guarded m (winLane n) 0x048 v [] (fun t => t.gainWritten (winLane n) v))

/-- A sample as the delay store gives it back: rounded to 24 bits with ties away from zero, low 8 bits zero. The
one rounding that would pass the largest 24-bit number has no stated result: it is a free value.
Mark DEDUCED: notes/assumptions/50.md. -/
def storedSample (free : Word) (x : Int) : Int :=
  let r := roundAway x 256
  if r ≤ 8388607 then r * 256 else signed 24 free.toNat * 256

/-- The place of the next sample in the ramp that runs. -/
def State.rampPlace (s : State) (w : Nat) : Nat := Nat.min (s.ax w axRampAt + 1) (s.ax w axRampLen)

/-- An amplitude of GAIN in 2^-32. -/
def State.gainAmp (s : State) (w : Nat) : Nat := (gained (2 ^ 32) (s.sfld w LANE.GAIN) (Config.rounds s.fresh 8)).toNat

/-- The amplitude of the next sample in a ramp, as a fraction: linear from the one in force at its start (R291). -/
def State.rampAmp (s : State) (w : Nat) : Nat × Nat :=
  let n := Nat.max 1 (s.ax w axRampLen)
  let k := s.rampPlace w
  let goal := if s.fld w LANE.LANE_STATUS_RAMP_STATE = 1 then s.gainAmp w else 0
  (s.ax w axAmpFrom * (n - k) + goal * k, n * 2 ^ 32)

/-- What the gain stage makes of a sample, before saturation; `k` names its rounding (R290). -/
def State.gainOf (s : State) (w k : Nat) (x : Int) : Int :=
  let r := s.fld w LANE.LANE_STATUS_RAMP_STATE
  let up := Config.rounds s.fresh k
  if r = 0 then 0
  else if r = 2 ∨ (r = 1 ∧ s.rampPlace w = s.ax w axRampLen) then gained x (s.sfld w LANE.GAIN) up
  else between (x * ((s.rampAmp w).1 : Int)) (s.rampAmp w).2 up

/-- GAIN_NOW of an amplitude in 2^-32: in 0.01 dB, or 0x8000 at zero. -/
def gainCode (a : Nat) (up : Bool) : Nat := if a = 0 then 0x8000 else levelCode (some (peakLevel a (2 ^ 32) up))

/-- A sample has passed in a ramp: its amplitude is the gain in force, which GAIN_NOW shows. -/
def State.rampStep (s : State) (w : Nat) : State :=
  let r := s.fld w LANE.LANE_STATUS_RAMP_STATE
  if r = 1 ∨ r = 3 then
    let a := (s.rampAmp w).1 / Nat.max 1 (s.ax w axRampLen)
    ((s.setAx w axAmp a).setAx w axRampAt (s.rampPlace w)).put w LANE.GAIN_NOW (gainCode a (Config.rounds s.fresh 9))
  else s

/-- One input's pair as it leaves the store. A mono lane holds the half-sum of the two (R286); an input that is not
VALID gives zeros (R301). -/
def State.laneIn (s : State) (w : Nat) (valid : Bool) (k : Nat) (x : Int × Int) : Int × Int :=
  let f := fun (i : Nat) => Config.freeWord (s.fresh + k + i)
  if !valid then (0, 0)
  else if s.flag w LANE.LANE_CFG_MONO then
    let r := roundAway (x.1 + x.2) 512
    let m := if r ≤ 8388607 then r * 256 else signed 24 (f 0).toNat * 256
    (m, m)
  else (storedSample (f 0) x.1, storedSample (f 1) x.2)

/-- KIND_EVENTS of FOLLOW (R279). -/
def evFolSwitched : Nat := 16
def evFolVerify : Nat := 17
def evFolNeed : Nat := 18
def evFolLost : Nat := 19
def evFolAnnStart : Nat := 20
def evFolAnnEnd : Nat := 21

/-- Hidden slots of an engine, all cleared as it leaves RUN: the demodulator or engine of its chain and the SIDE_DATA
unit that identifies it; that the candidate is home; correlation attempts; the last passing lag (plus 2²⁰, 0 none);
the loss of the source has been declared and stands; the switch is due; the input that a blend leads to; a command not yet
carried out (1 SF_FORCE, 2 with UNALIGNED, 3 SF_HOME) and its index; that the check is only a survey's; whether an announcement
has been faded in, whether it began away from home, and that a fade back runs. -/
def axFolUnit : Nat := 1
def axFolSd : Nat := 2
def axFolHome : Nat := 3
def axFolTries : Nat := 4
def axFolLag : Nat := 5
def axFolLost : Nat := 6
def axFolDue : Nat := 7
def axFolTo : Nat := 8
def axFolForce : Nat := 9
def axFolIndex : Nat := 10
def axFolSurvey : Nat := 11
def axFolFaded : Nat := 12
def axFolAway : Nat := 13
def axFolBack : Nat := 14

/-- Samples since READY, or since the conditions of a switch came to hold after it (R272). -/
def axFolWait : Nat := 15

/-- The source that fades in is aligned, and carries the measured trim (R272). -/
def axFolTrim : Nat := 16

/-- Histories: the units of the chain stand in 0; records that failed (index and epoch); the announcement followed, and those
that wait (engine window or 0 for EON; sub-channel; cluster or PI; alarm; frequency); the sums L + R of what reaches inputs 0
and 1 of its lane, newest first, 6 s of each. -/
def hsFolFailed : Nat := 1
def hsFolAnn : Nat := 2
def hsFolNext : Nat := 3
def hsFolSums : Nat := 4

/-- The trim of input `i` in the blend stage: the FOLLOW engine's TRIM, and on an aligned source that fades in the measured
trim with it, within ±12.00 dB (R272, R289). -/
def State.laneTrim (s : State) (n i : Nat) : Int :=
  let f := winFollow n
  if !s.followBound n then 0
  else if i = s.fld (winLane n) LANE.LANE_STATUS_PLAYING ∨ s.ax f axFolTrim = 0 then s.sfld f FOL.TRIM
  else clampI (-1200) 1200 (s.sfld f FOL.TRIM + s.sfld f FOL.CORR_LEVEL_TRIM)

/-- The blend stage: the playing input, or during a fade the mix of both, linear in amplitude (R289); zeros while an
announcement is on its way, and one that comes in on the playing input fades in from zero (R274). -/
def State.laneBlend (s : State) (n : Nat) (a b : Int × Int) : Int × Int :=
  let w := winLane n
  let p := s.fld w LANE.LANE_STATUS_PLAYING
  let at2 := fun (i : Nat) => let x := if i = 0 then a else b
    (gained x.1 (s.laneTrim n i) (Config.rounds s.fresh (2 * i)), gained x.2 (s.laneTrim n i) (Config.rounds s.fresh (2 * i + 1)))
  let len := s.ax w 33
  let pos := Nat.min (s.ax w 32 + 1) len
  let up := fun (i : Nat) => (Config.freeWord (s.fresh + 4)).getLsbD i
  if s.ax w axLaneAsk % 2 = 1 then (0, 0)
  else if s.flag w LANE.LANE_STATUS_FADING then
    (fadeMix pos len (up 0) (at2 p).1 (at2 (1 - p)).1, fadeMix pos len (up 1) (at2 p).2 (at2 (1 - p)).2)
  else if s.ax w axFadeIn = 1 then (fadeMix pos len (up 0) 0 (at2 p).1, fadeMix pos len (up 1) 0 (at2 p).2)
  else at2 p

/-- The validity of what leaves the delay (R288): with no delay the source's own; else as `v` says it was when it
entered. An input that is neither linked nor driven is not VALID.
Mark DEDUCED: notes/assumptions/46.md. -/
def State.laneInValid (s : State) (n i : Nat) (v : Bool) : Bool :=
  if s.srcOf (winLane n) i = 0x3FF then false else if s.laneDelay n i = 0 then s.laneSource n i else v

/-- The lane's VALID by its inputs: the playing input's; while a fade runs either input's, since the fade completes
and an invalid input contributes zero (R301). -/
def State.laneValid (s : State) (w : Nat) : Bool :=
  let v := fun (i : Nat) => s.flag w (if i = 0 then LANE.LANE_STATUS_IN0_VALID else LANE.LANE_STATUS_IN1_VALID)
  v (s.fld w LANE.LANE_STATUS_PLAYING) || (s.flag w LANE.LANE_STATUS_FADING && v (1 - s.fld w LANE.LANE_STATUS_PLAYING))

/-- INPUT_LOST when the playing input clears VALID. -/
def State.laneNoteLost (s : State) (w : Nat) (old : State) : State :=
  let r := if s.flag w LANE.LANE_STATUS_PLAYING then LANE.LANE_STATUS_IN1_VALID else LANE.LANE_STATUS_IN0_VALID
  if old.flag w r && !s.flag w r then s.raiseKind w evLaneLost else s

/-- The validity of a lane's inputs at one sample, and its own with it. -/
def State.laneSense (s : State) (n : Nat) (v0 v1 : Bool) : State :=
  let w := winLane n
  let t := ((s.putB w LANE.LANE_STATUS_IN0_VALID (s.laneInValid n 0 v0)).putB w LANE.LANE_STATUS_IN1_VALID
    (s.laneInValid n 1 v1)).laneNoteLost w s
  if t.laneValid w = (t.unit w).valid then t else t.setValid w (t.laneValid w)

/-- The gain stage on one pair: scaled, saturated to Q1.31 and counted (R290). -/
def State.laneGain (s : State) (w : Nat) (x : Int × Int) : State :=
  let y := (s.gainOf w 5 x.1, s.gainOf w 6 x.2)
  let out := [saturate 32 y.1, saturate 32 y.2]
  let excess := b2n (saturate 32 y.1 != y.1) + b2n (saturate 32 y.2 != y.2 && !s.flag w LANE.LANE_CFG_MONO)
  let t := s.setHs w hsOut out
  (if excess = 0 then t else (t.countN w LANE.SAT_COUNT excess).raiseKind w evLaneSat).rampStep w

/-! ## Host PCM (R293, R294) -/

/-- The taken descriptor that a lane comes to next: its place among those taken. -/
def State.nextUnseen (s : State) (q : Nat) : Option Nat := (s.taken q).findIdx? (fun x => x == 0)

/-- The words of a host descriptor that matter to a lane: flags, LENGTH, TIME and the address of its data. -/
structure HostDesc where
  mark : Bool
  len : Nat
  time : Word
  addr : Nat
  deriving DecidableEq, Repr

def State.hostDescAt (s : State) (q : Nat) (k : Word) : HostDesc :=
  let a := s.descAddr q k
  ⟨(s.rdWord a).getLsbD 11, (s.rdWord (a + 4)).toNat % 65536, s.rdWord (a + 8), qramBase + (s.rdWord (a + 12)).toNat⟩

def State.hostDesc (s : State) (q k : Nat) : HostDesc := s.hostDescAt q (s.qCons q + w32 k)

/-- Does the data hold a valid header and a whole number of frames (R293)? -/
def State.hostGood (s : State) (d : HostDesc) : Bool :=
  let h := (s.rdWord d.addr).toNat
  let f := h % 16
  let c := h / 16 % 4
  decide (4 ≤ d.len) && decide (h < 64) && decide (f ≤ 2) && (c == 1 || c == 2) &&
    decide ((d.len - 4) % (c * (if f = 2 then 2 else 4)) = 0)

/-- The taken descriptor is done with: it is retired unless earlier ones are still in use. -/
def State.hostDone (s : State) (q : Nat) : State := (s.setBl (q * 4) (turnFirst 0 1 (s.taken q))).retireDone q

/-- A host stream delivers from here on; a restart needs no further mark. -/
def State.hostPlay (s : State) (w i : Nat) : State := ((s.setAx w (36 + i) 1).setAx w (34 + i) 0).setAx w (38 + i) 0

/-- The end of a host stream (R293): its input is no longer VALID, and on input 1, with AUTO_RETURN, the lane
returns to input 0 (R289, R301). -/
def State.hostEnd (s : State) (n i : Nat) : State :=
  let w := winLane n
  let t := (s.setAx w (36 + i) 0).setAx w (34 + i) 0
  let plays1 := s.flag w LANE.LANE_STATUS_PLAYING != s.flag w LANE.LANE_STATUS_FADING || s.flag w LANE.LANE_STATUS_PLAYING
  if i = 1 ∧ s.flag w LANE.LANE_CFG_AUTO_RETURN ∧ !s.followBound n ∧ plays1 then
    (t.put w LANE.SELECT 0).serveSelect n
  else t

/-- A lane comes to the next descriptor of the queue on input `i`. The one that restarts an input after an underrun starts at
once, whatever its MARK says; one whose TIME is to come makes its input wait (R294). -/
def State.hostTake (s : State) (n i : Nat) : State :=
  let w := winLane n
  let q := s.srcOf w i
  match s.nextUnseen q with
  | none => s
  | some k =>
    let d := s.hostDesc q k
    if !s.hostGood d then ((s.setErr w 0x0604).count w LANE.HOST_FORMAT_COUNT).hostDone q
    else if d.len = 4 then (s.hostEnd n i).hostDone q
    else if !s.live w then s.hostDone q
    else
      let t := (s.setBl (q * 4) (turnFirst 0 2 (s.taken q))).setAx q axQRead 4
      let ahead := (d.time - s.clock.epoch.extractLsb' 0 32).toInt
      if d.mark ∧ 0 < ahead ∧ s.ax w (34 + i) = 0 then (t.setAx w (36 + i) 0).setAx w (38 + i) (d.time.toNat + 1)
      else if d.mark ∧ ahead < 0 ∧ s.ax w (34 + i) = 0 then
        (((t.setErr w 0x0603).count w LANE.HOST_LATE_COUNT)).hostPlay w i
      else t.hostPlay w i

/-- HOST_PCM_DESCRIPTOR: a lane in WARM, RUN or HOLD takes the next descriptor of the host queue on an input; in
HOLD its samples are discarded (R57). It comes to it once it has read the one before. -/
def execHostPcmDescriptor (n : Fin 32) (i : Fin 2) (s : State) : Out :=
  let w := winLane n
  .next (if kindOf (s.srcOf w i) = .queue ∧ (s.live w ∨ s.atomState w = stHOLD) ∧ s.ax w (38 + i) = 0 ∧ 2 ∉ s.taken (s.srcOf w i) then s.hostTake n i else s)

/-- The epoch taken to the next count whose low word is `t`. -/
def State.advanceLow (s : State) (t : Word) : State :=
  s.advanceTo (s.clock.epoch + (t - s.clock.epoch.extractLsb' 0 32).setWidth 64)

/-- HOST_PCM_MARK_START: the epoch reaches the TIME of the descriptor that waits. -/
def execHostPcmMarkStart (n : Fin 32) (i : Fin 2) (s : State) : Out :=
  let w := winLane n
  .next (if s.ax w (38 + i) = 0 then s else (s.advanceLow (w32 (s.ax w (38 + i) - 1))).hostPlay w i)

/-- Is a host stream that delivers at the end of its queue, with no end of stream? -/
def State.hostDry (s : State) (w i : Nat) : Bool :=
  let q := s.srcOf w i
  kindOf q == .queue && s.ax w (36 + i) == 1 && s.live w && s.qFilled q == 0 && (s.taken q).all (fun x => x == 1)

/-- HOST_UNDERRUN (R294). -/
def State.hostUnderrun (s : State) (w i : Nat) : State :=
  if s.hostDry w i then
    ((((s.setAx w (36 + i) 0).setAx w (34 + i) 1)).count w LANE.HOST_UNDERRUN_COUNT).raiseKind w evLaneUnderrun
  else s

def execHostUnderrun (n : Fin 32) (i : Fin 2) (s : State) : Out := .next (s.hostUnderrun (winLane n) i)

/-- A sample of a host stream at an address of queue RAM, in its FORMAT, as Q1.31 (R293). -/
def State.hostValue (s : State) (format a : Nat) : Int :=
  if format = 0 then (s.rdWord a).toInt
  else if format = 1 then signed 24 (s.rdWord a).toNat * 256
  else signed 16 ((s.rdByte (a + 1)).toNat * 256 + (s.rdByte a).toNat) * 65536

/-- The next frame of the descriptor in use, which counts as read; mono goes to both (R286). -/
def State.hostFrame (s : State) (q : Nat) (k : Word) : State × (Int × Int) :=
  let d := s.hostDescAt q k
  let h := (s.rdWord d.addr).toNat
  let f := h % 16
  let size := if f = 2 then 2 else 4
  let a := d.addr + s.ax q axQRead
  let c := h / 16 % 4
  let l := s.hostValue f a
  (s.setAx q axQRead (s.ax q axQRead + c * size), (l, if c = 2 then s.hostValue f (a + size) else l))

/-- The next sample of a host stream that delivers: a descriptor that has been read is retired, the next one follows without
a gap, and an empty queue is an underrun (R294). -/
def State.hostSample (s0 : State) (n i : Nat) : State × (Int × Int) :=
  let w := winLane n
  let q := s0.srcOf w i
  let s1 := s0.retireUsed q
  let s2 := if s1.ax w (36 + i) = 1 ∧ s1.ax w (38 + i) = 0 ∧ 2 ∉ s1.taken q then s1.hostTake n i else s1
  match s2.usedDesc q with
  | some k => if s2.ax w (36 + i) = 1 ∧ s2.ax w (38 + i) = 0 then s2.hostFrame q k else (s2, (0, 0))
  | none => (s2.hostUnderrun w i, (0, 0))

/-! ## Converters (R295–R298) -/

/-- The frames of an ASRC's buffer, oldest first, as L, R and stamp; the 16 that were retired last. The interpolator works between
the oldest two of those, so that with the target fill of 32 the signal lies 48 frames, 1.000 ms, behind (R299).
Mark DEDUCED: notes/assumptions/259.md. -/
def hsAsrc : Nat := 8
def hsAsrcPast : Nat := 10

/-- The place of the interpolator between two input frames, in parts of `asrcDen`; what is taken off the output by the ramps of a
re-acquire, in frames of 1 ms; its step (1 ramping out, 2 flushed, 3 ramping in). RATIO is at its limit (a kept slot). -/
def axAsrcPos : Nat := 1
def axAsrcCut : Nat := 2
def axAsrcStep : Nat := 3
def axAsrcLimit : Nat := 32

/-- Output frames of 1 ms. -/
def State.asrcMs (s : State) (w : Nat) : Nat := Nat.max 1 (s.fld w ASRC.NOMINAL_HZ / 1000)

/-- A re-acquire starts, or starts again: MODE 4, counted, and the output ramps to zero (R297). -/
def State.asrcReacquire (s : State) (w : Nat) : State :=
  ((s.put w ASRC.ASRC_STATUS_MODE 4).count w ASRC.REACQ_COUNT).setAx w axAsrcStep 1

/-- A fill limit: 0x0606, and a re-acquire. -/
def State.asrcLimit (s : State) (w : Nat) : State := (s.setErr w 0x0606).asrcReacquire w

/-- The ramp of a re-acquire moves by one output frame: at zero the buffer is flushed and the ratio set from the last 64 frame
periods; a ramp in ends at full (R297). -/
def State.asrcRamp (s : State) (w : Nat) : State :=
  let c := s.ax w axAsrcCut
  match s.ax w axAsrcStep with
  | 1 =>
    if c + 1 < s.asrcMs w then s.setAx w axAsrcCut (c + 1)
    else
      let t := (s.asrcFlush w).setAx w axAsrcCut (s.asrcMs w) |>.setAx w axAsrcStep 2
      (t.asrcMode w).put w ASRC.ASRC_STATUS_MODE 4
  | 3 => if 1 < c then s.setAx w axAsrcCut (c - 1) else (s.setAx w axAsrcCut 0).setAx w axAsrcStep 0
  | _ => s

/-- The re-acquire is done: the buffer holds 32 frames again, and the output ramps in. -/
def State.asrcReacquired (s : State) (w : Nat) : State :=
  ((s.asrcMode w).setAx w axAsrcStep 3).raiseKind w evAsrcReacquired

/-- Does the interpolator run: in MODE 1 or 2, and while a re-acquire ramps out? -/
def State.asrcRuns (s : State) (w : Nat) : Bool :=
  let m := s.fld w ASRC.ASRC_STATUS_MODE
  m == 1 || m == 2 || (m == 4 && s.ax w axAsrcStep == 1)

/-- The interpolator retires `k` frames. -/
def State.asrcTake (s : State) (w k : Nat) : State :=
  let fill := s.fld w ASRC.ASRC_STATUS_FILL
  let r := Nat.min k fill
  let past := s.hs w hsAsrcPast ++ (s.hs w hsAsrc).take (3 * r)
  (((s.bump w ASRC.OUT_COUNT r).put w ASRC.ASRC_STATUS_FILL (fill - r)).setHs w hsAsrc ((s.hs w hsAsrc).drop (3 * r))).setHs w
    hsAsrcPast (past.drop (past.length - 48))

/-- One frame reaches the ASRC: MODE 0 takes none, MODE 3 refuses it, else it enters the buffer (R295–R297). One that finds 64
frames there is flushed at once. In WARM the interpolator keeps up from 32 frames on.
Mark DESIGN CHOICE: notes/assumptions/260.md. -/
def State.asrcFeed (s : State) (w : Nat) (x : Int × Int) (stamp : Nat) : State :=
  let m := s.fld w ASRC.ASRC_STATUS_MODE
  let fill := s.fld w ASRC.ASRC_STATUS_FILL
  if !s.live w || m == 0 then s
  else if m = 3 then s.count w ASRC.GATE_DROP_COUNT
  else if 64 ≤ fill then (s.bump w ASRC.IN_COUNT).bump w ASRC.DISCARD_COUNT
  else
    let t := ((s.bump w ASRC.IN_COUNT).put w ASRC.ASRC_STATUS_FILL (fill + 1)).setHs w hsAsrc
      (s.hs w hsAsrc ++ [x.1, x.2, ((stamp : Nat) : Int)])
    if (s.unit w).valid then (if fill + 1 = 60 ∧ m ≠ 4 then t.asrcLimit w else t)
    else if 32 ≤ fill ∧ m ≠ 4 then t.asrcTake w 1 else t

/-- The interpolator retires `k` frames as the port takes its frame: none before the ASRC is VALID or while it does not run; a
fill that falls to 4 is a limit. -/
def State.asrcRetire (s : State) (w k : Nat) : State :=
  let fill := s.fld w ASRC.ASRC_STATUS_FILL
  if !(s.unit w).valid || !s.asrcRuns w then s
  else
    let t := s.asrcTake w k
    if 4 < fill ∧ fill - k ≤ 4 ∧ s.fld w ASRC.ASRC_STATUS_MODE ≠ 4 then t.asrcLimit w else t

/-- The tracker of MODE 2 takes a port frame of mean period `period`: its integrator follows the measured rate, the fill is held
at 32 beside it, and the ratio is clamped at ±3 % of nominal, where RATIO_LIMIT is raised (R296).
Mark DESIGN CHOICE: notes/assumptions/253.md. -/
def State.asrcTrack (s : State) (w period : Nat) : State :=
  if s.fld w ASRC.ASRC_STATUS_MODE ≠ 2 then s
  else
    let bw := s.fld w ASRC.ASRC_CFG_TRACK_BW
    let m := devOf (s.fld w ASRC.NOMINAL_HZ) period * 2 ^ 32
    let i := (s.hs w hsTrack).headD m
    let i1 := i + (m - i) * ((Config.loopGain bw false : Nat) : Int) / 2 ^ 32
    let d := (i1 - ((s.fld w ASRC.ASRC_STATUS_FILL : Nat) - 32 : Int) * ((Config.loopGain bw true : Nat) : Int)) / 2 ^ 32
    let t := (s.setHs w hsTrack [i1]).asrcRatio w d
    if 3000000 < d.natAbs then (if s.ax w axAsrcLimit = 0 then (t.setAx w axAsrcLimit 1).raiseKind w evAsrcLimit else t)
    else t.setAx w axAsrcLimit 0

/-- The parts of an input frame in which the interpolator's place is held: in MODE 1 the port's rate, so that the ratio is
applied without error; else 2^32. -/
def State.asrcDen (s : State) (w : Nat) : Nat :=
  if s.fld w ASRC.ASRC_STATUS_MODE = 1 then Nat.max 1 (s.fld w ASRC.NOMINAL_HZ) else 2 ^ 32

/-- The input frames that an output frame retires, and the place after it: the place moves on by 48,000 over the port's rate as
the ratio has it (R296). -/
def State.asrcMoves (s : State) (w : Nat) : Nat × Nat :=
  let fs := Nat.max 1 (s.fld w ASRC.NOMINAL_HZ)
  let step := if s.fld w ASRC.ASRC_STATUS_MODE = 1 then 48000
    else 2 ^ 32 * 4800000000000 / (fs * (100000000 + (s.rd w ASRC.RATIO_PPM.off).toInt).toNat)
  ((s.ax w axAsrcPos + step) / s.asrcDen w, (s.ax w axAsrcPos + step) % s.asrcDen w)

/-- The stamp of the input sample at the interpolated position: 16 frames before the oldest in the buffer, and the fraction
(R299). -/
def State.asrcStamp (s : State) (w : Nat) : BitVec 64 :=
  BitVec.ofInt 64 ((s.hs w hsAsrc).getD 2 0) - 8192 + BitVec.ofNat 64 (512 * s.ax w axAsrcPos / s.asrcDen w)

/-- An output frame of the ASRC with its stamp (R299); an ASRC that is not VALID or does not run gives zeros, and the ramps of a
re-acquire act on what it gives (R297). -/
def State.asrcMake (s : State) (w : Nat) : State × List Int :=
  let n := s.asrcMs w
  let k := s.asrcMoves w
  let y := if (s.unit w).valid && s.asrcRuns w then
    (fitInts 2 (Config.stage .asrc [((s.rd w ASRC.RATIO.off).toNat : Nat), ((s.ax w axAsrcPos : Nat) : Int), ((s.asrcDen w : Nat) : Int)]
      (s.hs w hsAsrcPast ++ s.hs w hsAsrc) []).2) else [0, 0]
  let z := (y.zip [0, 1]).map (fun p => between (p.1 * ((n - s.ax w axAsrcCut : Nat) : Int)) n (Config.rounds s.fresh p.2))
  let t := if s.asrcRuns w then (s.asrcRetire w k.1).setAx w axAsrcPos k.2 else s
  (t.useFresh.asrcRamp w, z ++ [(((s.asrcStamp w).toNat : Nat) : Int)])

/-- IN_COUNT is read: OUT_COUNT, DISCARD_COUNT and FILL of the same cycle are latched for the master (R298).
Mark DEDUCED: notes/assumptions/170.md. -/
def State.readInCount (s : State) (m w : Nat) : State :=
  (((s.setLatch m w ASRC.OUT_COUNT.off (s.rd w ASRC.OUT_COUNT.off)).setLatch m w ASRC.DISCARD_COUNT.off
    (s.rd w ASRC.DISCARD_COUNT.off)).setLatch m w ASRC.ASRC_STATUS_FILL.off (s.rd w ASRC.ASRC_STATUS_FILL.off)).ans
    [s.rd w ASRC.IN_COUNT.off]

/-- ASRC_IN_COUNT_READ. -/
def execAsrcInCountRead (m : Master) (n : Fin 32) (s : State) : Out := .next (s.readInCount m (winASRC n))

/-! ## The lane, sample by sample (R15, R18, R287–R290) -/

/-- Histories of a lane: the delay stores of its inputs, newest first, as L, R, validity and stamp; the sample that the
blend stage has made; the sample that the audio filter has made of it.
Mark DESIGN CHOICE: notes/assumptions/49.md. -/
def hsStore : Nat := 8
def hsBlend : Nat := 10
def hsPost : Nat := 11

/-- The sample that the gain stage took last: in HOLD, where input is discarded, the ramp to zero acts on it.
Mark DESIGN CHOICE: notes/assumptions/273.md. -/
def hsLaneLast : Nat := 12

/-- The next sample of an input from its source, with its stamp: a host stream's is that of the moment, and a source that
has delivered none gives an invalid zero. -/
def State.laneTake (s : State) (n i : Nat) : State × (Int × Int) × Bool × Nat :=
  let w := winLane n
  let q := s.srcOf w i
  if q = 0x3FF then (s, (0, 0), false, 0)
  else if kindOf q = .queue then
    let r := s.hostSample n i
    (r.1, r.2, r.1.laneSource n i, s.clock.epoch.toNat)
  else
    match s.hs w (hsIn + i) with
    | l :: r :: t :: rest => (s.setHs w (hsIn + i) rest, (l, r), s.laneSource n i, t.toNat)
    | _ => (s, (0, 0), false, 0)

/-- How many samples of an input the delay store holds: those of its delay; of the input that a FOLLOW engine's lane does not
play, what the other's delay leaves of CAP_MS, so that a candidate's delay finds its samples stored (R269, R272, R287).
Mark DEDUCED: notes/assumptions/265.md. -/
def State.storeDepth (s : State) (n i : Nat) : Nat :=
  let other := 1 - i
  48 * (if s.followBound n ∧ s.fld (winLane n) LANE.LANE_STATUS_PLAYING = other then
    Nat.max (s.laneDelay n i) (s.laneCap n - s.laneDelay n other) else s.laneDelay n i)

/-- A sample enters the delay store of its input as the store holds it, and the one that leaves comes out: `48 · d` samples
older, an invalid zero where the store holds none (R287, R288). -/
def State.laneDelayed (s : State) (n i : Nat) (x : Int × Int) (v : Bool) (stamp : Nat) : State × List Int :=
  let w := winLane n
  let y := s.laneIn w v (2 * i) x
  let h := ([y.1, y.2, b2n v, ((stamp : Nat) : Int)] ++ s.hs w (hsStore + i)).take (4 * s.storeDepth n i + 4)
  (if s.srcOf w i = 0x3FF then s else s.setHs w (hsStore + i) h, fitInts 4 (h.drop (4 * (48 * s.laneDelay n i))))

/-! ## What a FOLLOW engine knows of its lane (R264, R268, R272, R273) -/

def State.folState (s : State) (f : Nat) : Nat := s.fld f FOL.FOLLOW_STATUS_STATE
def folLane (f : Nat) : Nat := winLane (f - 0x290)

/-- The input that the lane plays. -/
def State.folPlays (s : State) (f : Nat) : Nat := s.fld (folLane f) LANE.LANE_STATUS_PLAYING

/-- The demodulator or engine behind input `i` of the lane. -/
def State.folSource (s : State) (f i : Nat) : Nat :=
  let u := s.srcOf (folLane f) i
  if kindOf u = .audioDec then s.srcOf u 0 else u

/-- Has a unit a Q and a system that R264 covers? -/
def State.hasMargin (_s : State) (u : Nat) : Bool := kindOf u == .fmDemod || kindOf u == .ofdm

/-- The place of a system in MIN_Q and BIAS. -/
def systemPlace (system : Nat) : Nat := system - 1

def State.minQ (s : State) (f system : Nat) : Nat := (s.rd f FOL.MIN_Q.off).toNat / 256 ^ systemPlace system % 256

/-- The margin of a source of quality `q`; a candidate that is home has HOME_BIAS added (R262). -/
def State.marginOf (s : State) (f system q : Nat) (home : Bool) : Int :=
  (q : Int) - s.minQ f system + signed 8 ((s.rd f FOL.BIAS.off).toNat / 256 ^ systemPlace system % 256) +
    (if home then (s.fld f FOL.SWITCH_HOME_BIAS : Int) else 0)

/-- The live margin of a unit. For a source to which R264 gives no MIN_Q (AM, host PCM) it is a free value.
Mark DEDUCED: notes/assumptions/111.md. -/
def State.liveMargin (s : State) (f u : Nat) (home : Bool) : Int :=
  if s.hasMargin u then s.marginOf f (s.systemOf u) (s.qualityOf u) home else signed 16 s.freshWord.toNat

/-- Is the source on input `i` invalid or below MIN_Q? -/
def State.folBad (s : State) (f i : Nat) : Bool :=
  let u := s.folSource f i
  !s.laneSource (f - 0x290) i || (s.hasMargin u && decide (s.qualityOf u < s.minQ f (s.systemOf u)))

/-- Has the loss of the playing source been declared, and does it still stand? -/
def State.folLost (s : State) (f : Nat) : Bool := s.ax f axFolLost == 1 && s.folBad f (s.folPlays f)

/-- A lane sample, as the FOLLOW engine that is bound to the lane hears its two inputs, before any delay. A loss of the
playing source that no longer stands is over. -/
def State.followHear (s : State) (n : Nat) (a b : Int × Int) : State :=
  let f := winFollow n
  if !(s.followBound n && s.live f) then s
  else
    let t := ((s.setHs f hsFolSums (([a.1 + a.2] ++ s.hs f hsFolSums).take 288000)).setHs f (hsFolSums + 1)
      (([b.1 + b.2] ++ s.hs f (hsFolSums + 1)).take 288000)).setAx f axFolWait (Nat.min (s.ax f axFolWait + 1) 4800)
    if t.folLost f then t else t.setAx f axFolLost 0

/-- The first half of a lane's sample: sources, delay store and blend. A sample that already waits stands. -/
def State.laneFront (s0 : State) (n : Nat) : State :=
  let w := winLane n
  if !(s0.hs w hsBlend).isEmpty || !s0.live w then s0
  else
    let a := s0.laneTake n 0
    let b := a.1.laneTake n 1
    let d0 := (b.1.followHear n a.2.1 b.2.1).laneDelayed n 0 a.2.1 a.2.2.1 a.2.2.2
    let d1 := d0.1.laneDelayed n 1 b.2.1 b.2.2.1 b.2.2.2
    let s1 := d1.1.laneSense n (d0.2.getD 2 0 != 0) (d1.2.getD 2 0 != 0)
    let heard := fun (r : FRef) (x : List Int) => if s1.flag w r then (x.getD 0 0, x.getD 1 0) else (0, 0)
    let y := s1.laneBlend n (heard LANE.LANE_STATUS_IN0_VALID d0.2) (heard LANE.LANE_STATUS_IN1_VALID d1.2)
    let st := if s1.flag w LANE.LANE_STATUS_PLAYING then d1.2.getD 3 0 else d0.2.getD 3 0
    let s2 := { s1 with fresh := s1.fresh + 5 }.setHs w hsBlend [y.1, y.2] |>.setAx w axStamp st.toNat
    if s2.flag w LANE.LANE_STATUS_FADING then s2.setAx w 32 (Nat.min (s2.ax w 32 + 1) (s2.ax w 33))
    else if s2.ax w axFadeIn = 1 ∧ s2.ax w axLaneAsk % 2 = 0 then
      (s2.setAx w 32 (s2.ax w 32 + 1)).setAx w axFadeIn (b2n (s2.ax w 32 + 1 < s2.ax w 33))
    else s2

/-- The audio filter and the detector take the blended sample; the stamp moves back by half the filter's length (R18,
R299). A filter that does not run delivers zeros. -/
def State.laneFilter (s : State) (n : Nat) : State :=
  let w := winLane n
  let f := winAF n
  let x := s.hs w hsBlend
  let t := s.setHs w hsBlend []
  if !s.live f then t.setHs w hsPost [0, 0]
  else
    let u := t.filterOut f [(x.getD 0 0, x.getD 1 0)] []
    let y := u.hs f hsOut
    let back := (s.bankTaps f (s.fld f FILT.FILT_STATUS_ACTIVE) - 1) * 256
    ((u.setHs w hsPost [y.getD 0 0, y.getD 1 0]).setAx w axStamp ((BitVec.ofNat 64 (s.ax w axStamp) - BitVec.ofNat 64 back).toNat)).detSample n
      (y.getD 0 0) (y.getD 1 0)

/-- One sample of a lane in WARM or RUN, or of one that ramps to zero: what remains of its first half, then gain and ramp,
saturation, and the ASRC (R18, R290, R291). -/
def State.laneSample (s : State) (n : Nat) : State :=
  let w := winLane n
  let s1 := if !s.live w then s else if (s.hs w hsPost).isEmpty then (s.laneFront n).laneFilter n else s
  let x := if s.live w then s1.hs w hsPost else s.hs w hsLaneLast
  let s2 := (((s1.setHs w hsPost []).setHs w hsLaneLast x).laneGain w (x.getD 0 0, x.getD 1 0)).useFresh
  let y := s2.hs w hsOut
  s2.asrcFeed (winASRC n) (y.getD 0 0, y.getD 1 0) (s2.ax w axStamp)

/-! ## Channels to their sinks -/

/-- An output of a CHAN_FILTER reaches what it feeds: a demodulator in WARM or RUN, an engine's working memory, or a raw IQ
queue. -/
def State.channelOut (s : State) (w : Nat) : State :=
  let y := s.hs w hsOut
  let a := (y.getD 0 0, y.getD 1 0)
  let b := (y.getD 2 0, y.getD 3 0)
  let stamp := s.ax w axStamp
  (s.sinksOf w 0).foldl (fun t d => match kindOf d with
    | .fmDemod => if t.live d then t.fmSample d a b stamp else t
    | .amDemod => if t.live d then t.amSample d a b stamp else t
    | .ofdm => if t.live d then t.ofdmSample d a b stamp else t
    | .queue => t.iqSample d y stamp (s.atomState w == stWARM)
    | _ => t) s

/-- FILTER_OUTPUT: one output of a DDC from `xs` and `ys`, the new ADC samples of branches a and b; of a CHAN_FILTER from
the DDC outputs that wait; of an AUDIO_FILTER from its lane's next sample.
Mark DESIGN CHOICE: notes/assumptions/35.md. -/
def State.filterOutput (s : State) (w : Nat) (xs ys : List (Int × Int)) : State :=
  if !(s.present w && s.live w) then s else match kindOf w with
    | .ddc => s.ddcOut w xs ys
    | .chanFilter => if 5 * s.filtDecim w ≤ (s.hs w hsIn).length then (s.chanOut w).channelOut w else s
    | .audioFilter => if (s.hs (w - 0x20) hsPost).isEmpty then (s.laneFront (instOf w)).laneFilter (instOf w) else s
    | _ => s

end Sys2Proof.Machine
end

