-- ==== Sys2Proof/Machine/Ports.lean ====
section
/-! DEFINITION. Audio ports (R306–R337): configuration, frames, starts, underruns, external clock faults, taps,
and the start groups. -/

namespace Sys2Proof.Machine

/-- KIND_EVENTS of AUDIO_PORT (R337). -/
def evPortStarted : Nat := 16
def evPortStopped : Nat := 17
def evPortUnderrun : Nat := 18
def evPortOverrun : Nat := 19
def evPortLost : Nat := 20
def evPortReturned : Nat := 21
def evPortGlitch : Nat := 22
def evPortStep : Nat := 23
def evPortMismatch : Nat := 24
def evPortZc : Nat := 25

/-- Hidden slots of a port: data muted since the clock was lost; its group has fired; slots that wait for a zero
crossing; the last frame missed a sample; frames are being dropped; the next block carries MARK; RUN has fallen;
frames gathered; frames dropped; descriptors claimed; the fire epoch; slots stopped; frames of the block. -/
def axPMute : Nat := 32
def axPFired : Nat := 33
def axPWait : Nat := 34
def axPUnder : Nat := 35
def axPOver : Nat := 36
def axPMark : Nat := 37
def axPStop : Nat := 40
def axPGot : Nat := 41
def axPDropped : Nat := 42
def axPHeld : Nat := 43
def axPFire : Nat := 44
def axPStopped : Nat := 45
def axPBlock : Nat := 46

/-- Frames discarded in succession (R328). -/
def axPGlitch : Nat := 48

/-- The stamp of the samples that a port last sent (R317). -/
def axPStamp : Nat := 47

/-- Histories of a port: the ASRC frames made for the two frames to come, oldest first, as L, R and stamp (R317); the
samples last offered to its slots, L and R; for each slot the frames of a ramp in that have passed, plus one, and of a ramp to
zero (R320, R321). A synchronising reset clears them: the port's sample buffers (R322). -/
def hsAhead : Nat := 7
def hsOffered : Nat := 8
def hsRampIn : Nat := 9
def hsRampOut : Nat := 10

/-! ## Configuration (R306–R311, R315, R316) -/

/-- Bits of a slot and of a word by code. -/
def slotBits (c : Nat) : Nat := [16, 24, 32, 32].getD c 32
def wordBits (c : Nat) : Nat := [16, 20, 24, 32].getD c 32

/-- Slots of a port's frame, by its leader's FORMAT and SLOTS. -/
def State.portSlots (s : State) (w : Nat) : Nat :=
  let m := s.clkPort w
  if s.fld m PORT.PORT_CFG_FORMAT = 2 then s.fld m PORT.PORT_CFG_SLOTS + 1 else 2

/-- The limits of R307: the word fits its slot, and the bit clock is at most 24,576,000 Hz. -/
def State.frameOk (s : State) (w : Nat) : Bool :=
  let m := s.clkPort w
  let b := slotBits (s.fld m PORT.PORT_CFG_SLOT_BITS)
  decide (wordBits (s.fld w PORT.PORT_CFG_WORD_BITS) ≤ b) &&
    decide (rateHz (s.fld m PORT.PORT_CFG_RATE) * (b * s.portSlots w) ≤ 24576000)

def allPorts : List Nat := (List.range 32).map winPort

/-- The ports that take their clocks from a port, itself included (R315). -/
def State.clockGroup (s : State) (m : Nat) : List Nat := allPorts.filter (fun p => s.present p && s.clkPort p == m)

/-- The data line that a port uses (R316). -/
def State.portLine (s : State) (w : Nat) : Nat := if s.flag w PORT.PORT_GROUP_SHARE_DATA then s.clkPort w else w

/-- Do the slots of an output port lie within its frame (R309)? In two-slot framing a stereo lane takes slot 0. -/
def State.slotsWithin (s : State) (w : Nat) : Bool :=
  s.flag w PORT.PORT_CFG_DIR || decide (s.slotMap w < 2 ^ s.portSlots w) &&
    (match s.linkIn w 0 with
     | some l => s.flag (winLane (instOf l.src)) LANE.LANE_CFG_MONO || decide (l.sel + 1 < s.portSlots w)
     | none => true)

/-- Two ports on one line: of one direction, and with no common slot among outputs (R316). -/
def State.lineOk (s : State) (a b : Nat) : Bool :=
  a == b || s.portLine a != s.portLine b ||
    (s.flag a PORT.PORT_CFG_DIR == s.flag b PORT.PORT_CFG_DIR && (s.slotMap a &&& s.slotMap b) == 0)

/-- Does a write that leaves state `t` place the slots of a port and of its group as R309 and R316 ask? -/
def slotCodes (t : State) (w : Nat) : List Nat :=
  let g := t.clockGroup (t.clkPort w) ++ t.clockGroup w
  if g.all (fun p => t.slotsWithin p && allPorts.all (fun q => !t.present q || t.lineOk p q)) then [] else [0x060A]

/-- The conditions of R315 on a group: the leader is present and follows itself, and START_GROUP agrees. -/
def groupCodes (t : State) (w : Nat) : List Nat :=
  let m := t.clkPort w
  if t.present m && t.clkPort m == m && t.fld m PORT.PORT_GROUP_START_GROUP == t.fld w PORT.PORT_GROUP_START_GROUP &&
      (t.clockGroup w).all (fun p => p == w || (t.clkPort w == w &&
        t.fld p PORT.PORT_GROUP_START_GROUP == t.fld w PORT.PORT_GROUP_START_GROUP)) then [] else [0x0609]

/-- Is the queue free for one producer: bound, device-to-host, and used by nothing else (R331, R346)? `self` is the
window that would tap it, whose own present tap does not count. -/
def State.tapFree (s : State) (self q : Nat) : Bool :=
  kindOf q == .queue && s.present q && s.parentOf q != 0x3FF && s.qToHost q && (s.linkIn q 0).isNone &&
    allPorts.all (fun p => p == self || s.fld p PORT.TAP_QUEUE != q) && (s.fld q QUE.Q_CFG_TAP_DEC == 0x3FF || q == self)

def bitCount (n : Nat) : Nat := ((List.range 16).filter (fun i => n.testBit i)).length

/-- The slots that a port's tap stores (R331). -/
def State.tapSlots (s : State) (w : Nat) : Nat :=
  if s.flag w PORT.PORT_CFG_DIR then s.fld w PORT.TAP_SLOT_MASK else s.fld w PORT.TAP_SLOT_MASK &&& s.slotMap w

/-- LENGTH of a tap block of `k` slots (R332). -/
def tapLen (format frames k : Nat) : Nat := 4 + frames * 4 * (if format = 2 then (k + 1) / 2 else k)

/-- Would a block of the slots that the tap stores pass LENGTH? -/
def State.tapTooLong (s : State) (w : Nat) : Bool :=
  decide (65535 < tapLen (s.fld w PORT.TAP_FORMAT) (s.fld w PORT.BLOCK_FRAMES) (bitCount (s.tapSlots w)))

/-- Has a port that takes its own clocks RATE code 0 as a master, or code 15 (R308)?
Mark DEDUCED: notes/assumptions/184.md. -/
def State.rateRefused (s : State) (w : Nat) : Bool :=
  s.fld w PORT.PORT_CFG_RATE == 15 ||
    (s.clkPort w == w && s.fld w PORT.PORT_CFG_RATE == 0 && s.fld w PORT.PORT_CFG_CLOCKING == 0)

/-- The refusals of a port's registers. -/
def State.portCodes (s : State) (w off : Nat) (v : Word) : List Nat :=
  let t := s.store w off v
  if off = 0x040 then
    (if t.rateRefused w then [0x0202] else []) ++
    (if (t.clockGroup w).all t.frameOk && t.frameOk w then [] else [0x060B]) ++
    (if t.flag w PORT.PORT_CFG_DIR && (s.linkIn w 0).isSome then [0x0607] else []) ++ slotCodes t w
  else if off = 0x044 then
    groupCodes t w ++ (if t.rateRefused w then [0x0202] else []) ++
    (if t.present (t.clkPort w) && !t.frameOk w then [0x060B] else []) ++ slotCodes t w
  else if off = 0x04C then
    (if t.fld w PORT.TAP_QUEUE = 0x3FF ∨ t.tapFree w (t.fld w PORT.TAP_QUEUE) then [] else [0x060D]) ++
    (if t.tapTooLong w then [0x0202] else [])
  else if off = 0x050 then
    (if t.tapTooLong w then [0x0202] else [])
  else []

/-- A lane's MONO moves the slots of the port that its ASRC feeds (R309). -/
def State.laneSlotCodes (s : State) (w off : Nat) (v : Word) : List Nat :=
  match s.asrcPort (w + 0x60) with
  | some p => if off = 0x040 then slotCodes (s.store w off v) p else []
  | none => []

/-- Has a queue a producer already: a link, a port's tap? -/
def State.qProduced (s : State) (q : Nat) : Bool := (s.linkIn q 0).isSome || allPorts.any (fun p => s.fld p PORT.TAP_QUEUE == q)

/-- TAP_DEC names a decoder that no other queue taps, on a queue with no producer (R346). -/
def State.tapDecCodes (s : State) (q : Nat) (v : Word) : List Nat :=
  let d := QUE.Q_CFG_TAP_DEC.of v
  if d = 0x3FF ∨ d = s.fld q QUE.Q_CFG_TAP_DEC then []
  else if !s.qProduced q && (s.tapOfDec d).isNone then [] else [0x060D]

/-- PORT_CFG in IDLE or OFF changes the framing that a running ASRC converts to. -/
def State.portCfgWritten (s : State) (w : Nat) (v : Word) : State :=
  let t := s.store w 0x040 v
  (t.clockGroup w).foldl (fun u p => match u.srcOf p 0 with
    | a => if kindOf a = .asrc ∧ u.live a ∧ u.fld a ASRC.ASRC_STATUS_MODE ≠ 4 then u.asrcMode a else u) t

/-- SLOT_MAP follows the link; in IDLE, which has no frame boundaries, DRIVING follows the configuration. -/
def State.portRead (s : State) (w off : Nat) : Word :=
  if off = 0x09C then w32 (s.slotMap w)
  else if off = 0x080 ∧ s.atomState w = stIDLE then PORT.PORT_STATUS_DRIVING.put (s.rd w off) (b2n (s.wantDrive w))
  else s.rd w off

/-! ## Frames (R310, R313, R317–R322, R325) -/

/-- Is an epoch count the place of a frame boundary of a master port at `fs` (R313): the exact place `k / fs`,
rounded down? -/
def onBoundary (fs e : Nat) : Bool := ceilDiv (e * fs) 24576000 * 24576000 / fs == e

/-- A Q1.31 sample in `b` bits: nearest, ties away from zero, saturated (R310). -/
def toWord (b : Nat) (x : Int) : Int := saturate b (roundAway x (2 ^ (32 - b)))

/-- The slots set in a mask, ascending. -/
def slotList (m : Nat) : List Nat := (List.range 16).filter (fun i => m.testBit i)

/-- Does slot `i` carry its signal in this frame? -/
def State.slotPasses (s : State) (w i : Nat) : Bool :=
  s.flag w PORT.PORT_STATUS_STARTED && s.live w && s.ax w axPMute == 0 && !s.flag w UCB.UNIT_CTL_MUTE &&
    !(s.ax w axPWait).testBit i && !(s.ax w axPStopped).testBit i &&
    (!s.portStopping w || s.flag w PORT.PORT_CTL_ZC_STOP)

/-- The frames of 1 ms. -/
def State.msFrames (s : State) (w : Nat) : Nat := Nat.max 1 (s.portRate w / 1000)

/-- A slot's sample on a ramp: linear over 1 ms, in or to zero (R320, R321). -/
def State.ramped (s : State) (w i : Nat) (x : Int) : Int :=
  let n := s.msFrames w
  let a := ((s.hs w hsRampIn).getD i 0).toNat
  let z := ((s.hs w hsRampOut).getD i 0).toNat
  if 0 < z then between (x * ((n - z : Nat) : Int)) n (Config.rounds s.fresh i)
  else if 0 < a then between (x * ((Nat.min a n : Nat) : Int)) n (Config.rounds s.fresh i) else x

/-- The words of the driven slots: `xs` holds the ASRC's samples for them; in each missing position goes 0 (R325). -/
def State.portWords (s : State) (w : Nat) (xs : List Int) (missing : BitVec 2) : List (Nat × Int) :=
  let b := wordBits (s.fld w PORT.PORT_CFG_WORD_BITS)
  ((slotList (s.slotMap w)).zipIdx.zip (xs ++ List.replicate 16 0)).map (fun p =>
    (p.1.1, if s.slotPasses w p.1.1 && !missing.getLsbD p.1.2 then toWord b (s.ramped w p.1.1 p.2) else 0))

/-- Does the port take its frame from a linked ASRC that does not deliver (R325)? -/
def State.asrcSilent (s : State) (w : Nat) : Bool := (s.linkIn w 0).isSome && !s.live (s.srcOf w 0)

/-- The epoch of a frame boundary, as its register holds it. -/
def State.frameEpoch (s : State) (w : Nat) (e : BitVec 64) : State :=
  (s.wr w PORT.FRAME_EPOCH_LO.off (e.extractLsb' 0 32)).wr w PORT.FRAME_EPOCH_HI.off (e.extractLsb' 32 32)

/-- May the port start in a frame that begins at `e` (R319)? -/
def State.portMayStart (s : State) (w : Nat) (e : BitVec 64) : Bool :=
  let g := s.fld (s.clkPort w) PORT.PORT_GROUP_START_GROUP
  !s.flag w PORT.PORT_STATUS_STARTED && s.flag w PORT.PORT_STATUS_CLK_OK && !s.portStopping w &&
    (if g = 0 then s.live w
     else s.ax w axPFired == 1 && decide (0 ≤ (e - BitVec.ofNat 64 (s.ax w axPFire)).toInt))

/-- A port starts: frame count 0, FIRST_EPOCH, STARTED; data comes under R320, and its first block carries MARK. -/
def State.portStart (s : State) (w : Nat) (e : BitVec 64) : State :=
  let t := (((((s.put w PORT.PORT_STATUS_STARTED 1).wr w PORT.FRAME_COUNT.off 0).wr w PORT.FIRST_EPOCH_LO.off
    (e.extractLsb' 0 32)).wr w PORT.FIRST_EPOCH_HI.off (e.extractLsb' 32 32)).setAx w axPMark 1).setAx w axPFired 0
  (t.zcArm w).raiseKind w evPortStarted

/-! ## Taps and capture (R327, R331, R332) -/

/-- One stored word in its FORMAT, from a left-aligned Q1.31 value.
Mark DEDUCED: notes/assumptions/54.md. -/
def tapValue (format : Nat) (x : Int) : Nat :=
  if format = 0 then unsigned 32 x else if format = 1 then unsigned 32 (toWord 24 x) else unsigned 16 (toWord 16 x)

/-- Two 16-bit samples to a word, the first in bits 15:0, an odd last half 0. -/
def packHalves : List Nat → List Nat
  | [] => []
  | [a] => [a]
  | a :: b :: r => (a + 65536 * b) :: packHalves r

/-- The words that a frame adds to a block. -/
def frameWords (format : Nat) (xs : List Int) : List Nat :=
  if format = 2 then packHalves (xs.map (tapValue 2)) else xs.map (tapValue format)

/-- Is the source of what a port stores in WARM: the port itself, or the ASRC that feeds an output port (R339)? -/
def State.tapWarm (s : State) (w : Nat) : Bool :=
  s.atomState w == stWARM || ((s.linkIn w 0).isSome && s.atomState (s.srcOf w 0) == stWARM)

/-- The block that has been gathered becomes one type 0x0A record, with WARM where a frame of it was made in WARM. -/
def State.tapCommit (s : State) (w : Nat) : State :=
  let q := s.fld w PORT.TAP_QUEUE
  let head := s.hs w 6
  let words := (head.getD 1 0).toNat :: (s.hs w 5).map Int.toNat
  let r : Rec := ⟨0x0A, instOf w, ⟨false, s.ax w axPMark == 1, head.getD 2 0 != 0⟩, w32 (head.getD 0 0).toNat,
    (words.map w32).flatMap bytesOf⟩
  ((((s.tapClear w).placeRec q r).setAx w axPMark 0).setAx w axPOver 0).setAx w axPDropped 0

/-- A frame whose block cannot be placed is dropped: counted, OVERRUN at the first, one dropped record of the queue
for each block of frames, and MARK on the next block (R327, R348). -/
def State.tapDrop (s : State) (w q : Nat) : State :=
  let t := s.count w PORT.OVERRUN_COUNT
  let t1 := if s.ax w axPOver = 0 then t.raiseKind w evPortOverrun else t
  let t2 := if s.ax w axPDropped % s.fld w PORT.BLOCK_FRAMES = 0 then (t1.count q QUE.DROP_COUNT).raiseKind q evQDropped else t1
  ((t2.setAx w axPOver 1).setAx w axPMark 1).setAx w axPDropped ((s.ax w axPDropped + 1) % s.fld w PORT.BLOCK_FRAMES)

/-- A frame of stored slots, each left-aligned in Q1.31, reaches the tap.
Mark DEDUCED: notes/assumptions/53.md. -/
def State.tapFrame (s0 : State) (w : Nat) (e : BitVec 64) (xs : List Int) : State :=
  let s := if s0.ax w axPBlock ≠ 0 ∧ s0.ax w axPGot = s0.ax w axPBlock then s0.tapCommit w else s0
  let q := s.fld w PORT.TAP_QUEUE
  let f := s.fld w PORT.TAP_FORMAT
  if q = 0x3FF ∨ s.tapSlots w = 0 ∨ !s.qTakes q then s
  else if s.ax w axPGot = 0 then
    let len := tapLen f (s.fld w PORT.BLOCK_FRAMES) (bitCount (s.tapSlots w))
    if s.qFits q len then
      let parts := (s.partsFor q len).length
      let head := f + 16 * bitCount (s.tapSlots w) + 65536 * s.tapSlots w
      ((((((s.setAx w axPHeld parts).setAx q axQHeld (s.ax q axQHeld + parts)).setAx w axPBlock
        (s.fld w PORT.BLOCK_FRAMES)).setHs w 6 [((e.extractLsb' 0 32).toNat : Int), (head : Int), b2n (s.tapWarm w)]).setHs w 5
        ((frameWords f xs).map Int.ofNat))).setAx w axPGot 1
    else s.tapDrop w q
  else (((if s.tapWarm w then s.setHs w 6 ((s.hs w 6).set 2 1) else s).setHs w 5 (s.hs w 5 ++ (frameWords f xs).map Int.ofNat))).setAx w axPGot (s.ax w axPGot + 1)

/-- TAP_BLOCK: all frames of a block are there. -/
def execTapBlock (n : Fin 32) (s : State) : Out :=
  let w := winPort n
  .next (if s.ax w axPBlock ≠ 0 ∧ s.ax w axPGot = s.ax w axPBlock then s.tapCommit w else s)

/-! ## One frame -/

/-- The listed rate within ±3 % of a measured frame period in 1/256 epoch count; 0 for none (R308).
Mark DEDUCED: notes/assumptions/60.md. -/
def detectRate (period : Nat) : Nat :=
  ((List.range 15).find? (fun c => 1 ≤ c && decide
    ((6291456000 - (rateHz c * period : Nat) : Int).natAbs * 100 ≤ 3 * rateHz c * period))).getD 0

/-- FRAME_PERIOD: for a master the period of its rate where that is a whole number, else the measured mean.
Mark DEDUCED: notes/assumptions/56.md. -/
def State.framePeriod (s : State) (w period : Nat) : State :=
  let fs := s.portRate w
  s.wr w PORT.FRAME_PERIOD.off (w32 (if s.portClocking w = 0 ∧ fs ≠ 0 ∧ 6291456000 % fs = 0 then 6291456000 / fs else period))

/-- An external frame is good: its clock is there, and with RATE 0 a listed rate is found. -/
def State.noteClock (s : State) (w period : Nat) : State :=
  let t := if s.portClocking w = 1 then s.put w PORT.PORT_STATUS_CLK_OK 1 else s
  if s.fld (s.clkPort w) PORT.PORT_CFG_RATE = 0 ∧ s.fld w PORT.PORT_STATUS_DETECTED = 0 ∧ detectRate period ≠ 0 then
    let t1 := t.put w PORT.PORT_STATUS_DETECTED (detectRate period)
    let a := t1.srcOf w 0
    if kindOf a = .asrc ∧ t1.live a then t1.asrcMode a else t1
  else t

/-- The places whose sample is missing in this frame, of a port that has started: all of them where the linked ASRC does not
run (R325). -/
def State.lacking (s : State) (w : Nat) (missing : BitVec 2) : BitVec 2 :=
  let all : BitVec 2 := BitVec.ofNat 2 (2 ^ bitCount (s.slotMap w) - 1)
  if !(s.flag w PORT.PORT_STATUS_STARTED && s.live w) then 0 else (if s.asrcSilent w then 3 else missing) &&& all

/-- An underrun: counted for each frame with a missing sample, raised at the first after a frame without; a slot whose samples
come again waits for its zero crossing (R325). -/
def State.noteUnderrun (s : State) (w : Nat) (lack : BitVec 2) : State :=
  let old := BitVec.ofNat 2 (s.ax w axPUnder)
  let t := if lack = 0 then s else s.count w PORT.UNDERRUN_COUNT
  let t1 := if lack ≠ 0 ∧ old = 0 then t.raiseKind w evPortUnderrun else t
  let back := (slotList (s.slotMap w)).zipIdx.filter (fun p => old.getLsbD p.2 && !lack.getLsbD p.2)
  (t1.setAx w axPUnder lack.toNat).zcWait w ((back.map (fun p => 2 ^ p.1)).sum)

/-! ### Zero crossings (R320, R321) -/

/-- The samples that the next frame offers to the driven slots: what the ASRC made two frame periods earlier, zeros where it
has made none yet. -/
def State.nextOffer (s : State) (w : Nat) : List Int :=
  if 6 ≤ (s.hs w hsAhead).length then (s.hs w hsAhead).take 2 else [0, 0]

/-- The place of a slot among those that a port drives. -/
def State.slotPlace (s : State) (w i : Nat) : Nat := ((slotList (s.slotMap w)).findIdx? (fun x => x == i)).getD 16

/-- Does the next sample of a slot have another sign than the last one offered, or the value 0? Where the ASRC has made none
yet there is no sample to cross. -/
def State.crosses (s : State) (w i : Nat) : Bool :=
  let k := s.slotPlace w i
  let x := (s.nextOffer w).getD k 0
  let y := (s.hs w hsOffered).getD k 0
  decide (6 ≤ (s.hs w hsAhead).length) &&
    (x == 0 || (decide (x < 0) && decide (0 < y)) || (decide (0 < x) && decide (y < 0)))

def clearBit (m i : Nat) : Nat := if m.testBit i then m - 2 ^ i else m

/-- A slot that waited passes its signal from here on. -/
def State.zcPass (s : State) (w i : Nat) : State :=
  let m := clearBit (s.ax w axPWait) i
  (s.setAx w axPWait m).putB w PORT.PORT_STATUS_ZC_WAIT (m != 0)

/-- May a slot start at the next sample: it waits, its data flows, and the sample crosses zero? -/
def State.zcDue (s : State) (w i : Nat) : Bool :=
  (s.ax w axPWait).testBit i && s.flag w PORT.PORT_STATUS_STARTED && s.live w && s.ax w axPMute == 0 &&
    !s.portStopping w && s.crosses w i

/-- Does a slot of a port that stops fall silent at the next sample? -/
def State.zcStopDue (s : State) (w i : Nat) : Bool :=
  s.portStopping w && s.flag w PORT.PORT_CTL_ZC_STOP && (s.slotMap w).testBit i && !(s.ax w axPStopped).testBit i && s.crosses w i

/-- What the zero crossings of the next sample bring to each slot. -/
def State.zcFrame (s : State) (w : Nat) : State :=
  (slotList (s.slotMap w)).foldl (fun t i =>
    if s.zcDue w i then t.zcPass w i
    else if s.zcStopDue w i then t.setAx w axPStopped (t.ax w axPStopped + 2 ^ i) else t) s

/-- One frame passes in the ramps of the slots; a ramp to zero that has ended leaves its slot stopped. -/
def State.rampFrame (s : State) (w : Nat) : State :=
  let n := s.msFrames w
  let up := fun (x : Int) => if 0 < x ∧ x < (n : Int) then x + 1 else if 0 < x then 0 else x
  let ended := (List.range 16).filter (fun i => (s.hs w hsRampOut).getD i 0 == (n : Int))
  ended.foldl (fun t i => if (t.ax w axPStopped).testBit i then t else t.setAx w axPStopped (t.ax w axPStopped + 2 ^ i))
    ((s.setHs w hsRampIn ((s.hs w hsRampIn).map up)).setHs w hsRampOut ((s.hs w hsRampOut).map up))

/-- A ramp of a slot begins with the next frame. -/
def State.startRamp (s : State) (w slot i : Nat) : State :=
  s.setHs w slot ((fitInts 16 (s.hs w slot)).set i 1)

/-- The stamp of the samples in a frame whose boundary lies at `e`: less two frame periods and LATENCY_US (R317). -/
def State.sentStamp (s : State) (w : Nat) (e : BitVec 64) : BitVec 64 :=
  let lat := (s.laneRead (winLane (instOf (s.srcOf w 0))) 0x088).toNat * 24576 / 1000
  e - BitVec.ofNat 64 (2 * (s.rd w PORT.FRAME_PERIOD.off).toNat / 256 + lat)

/-- A frame goes out: the words of the driven slots, of what the ASRC made two frames earlier; and the ASRC makes the frame after
the next (R317). `missing` names the driven slots whose sample has not come by the frame's deadline. -/
def State.portSend (s0 : State) (w : Nat) (missing : BitVec 2) : State × List (Nat × Int) :=
  let lack := s0.lacking w missing
  let s := (s0.noteUnderrun w lack).zcFrame w
  let words := s.portWords w (s.nextOffer w) lack
  let t := ((s.useFresh.setHs w hsOut (words.map Prod.snd)).setHs w hsOffered (s.nextOffer w)).rampFrame w
  let a := s.srcOf w 0
  let m := if kindOf a = .asrc then (t.asrcTrack a (t.rd w PORT.FRAME_PERIOD.off).toNat).asrcMake a else (t, [0, 0, 0])
  let ahead := m.1.hs w hsAhead
  (m.1.setHs w hsAhead ((if 6 ≤ ahead.length then ahead.drop 3 else ahead) ++ m.2), words)

/-- The output side of a frame, with the tap that copies the samples as sent. -/
def State.outFrame (s : State) (w : Nat) (e : BitVec 64) (missing : BitVec 2) : State :=
  let b := wordBits (s.fld w PORT.PORT_CFG_WORD_BITS)
  let r := s.portSend w missing
  (r.1.setAx w axPStamp (s.sentStamp w e).toNat).tapFrame w e
    ((r.2.filter (fun p => (s.tapSlots w).testBit p.1)).map (fun p => p.2 * 2 ^ (32 - b)))

/-- The input side of a frame: `xs` holds the word captured in each slot of the line; in F3 capture stops (R480). -/
def State.inFrame (s : State) (w : Nat) (e : BitVec 64) (xs : List Int) : State :=
  if s.flag w PORT.PORT_STATUS_STARTED && s.live w && !s.f3 then
    let b := wordBits (s.fld w PORT.PORT_CFG_WORD_BITS)
    s.tapFrame w e ((slotList (s.tapSlots w)).map (fun i => saturate b (xs.getD i 0) * 2 ^ (32 - b)))
  else s

/-- VALID of a port that has started, with a working clock and, for an output, a VALID ASRC (R318). -/
def State.portCheck (s : State) (w : Nat) : State :=
  if s.atomState w = stWARM ∧ s.flag w PORT.PORT_STATUS_STARTED ∧ s.ax w axPMute = 0 ∧ s.inputValid w then s.setValid w true
  else s

/-- Does a port keep its frames: in WARM, RUN and HOLD (R318, R322)? -/
def State.portRuns (s : State) (w : Nat) : Bool := s.live w || s.atomState w == stHOLD

/-- A frame boundary of port `w` at epoch `e`; a port that takes its clocks from a leader has none while the leader does not run
(R315). -/
def State.portFrame (s0 : State) (w : Nat) (e : BitVec 64) (period : Nat) (xs : List Int) (missing : BitVec 2) : State :=
  if !(s0.portRuns w && s0.portRuns (s0.clkPort w)) || s0.flag w PORT.PORT_STATUS_CLOCK_LOST then s0
  else if s0.portClocking w = 0 ∧ !onBoundary (s0.portRate w) e.toNat then s0
  else
    let s := (((((s0.advanceTo e).frameEpoch w e).framePeriod w period).noteClock w period).putB w
      PORT.PORT_STATUS_DRIVING (s0.wantDrive w)).setAx w axPGlitch 0
    let s1 := if s.portMayStart w e then s.portStart w e
      else if s.flag w PORT.PORT_STATUS_STARTED then s.bump w PORT.FRAME_COUNT else s
    let s2 := if s1.flag w PORT.PORT_CFG_DIR then s1.inFrame w e xs else s1.outFrame w e missing
    s2.portCheck w

/-! ## Zero crossings and stops -/

/-- ZC_START_PASS: the next sample of a slot that waits crosses zero. -/
def execZcStartPass (n : Fin 32) (i : Fin 16) (s : State) : Out :=
  .next (if s.zcDue (winPort n) i then s.zcPass (winPort n) i else s)

/-- ZC_TIMEOUT: a slot that waits starts with a ramp of 1 ms; one that is to stop ramps to 0 (R320, R321). -/
def execZcTimeout (n : Fin 32) (i : Fin 16) (s : State) : Out :=
  let w := winPort n
  .next (if s.portStopping w then
      (if s.flag w PORT.PORT_CTL_ZC_STOP && (s.slotMap w).testBit i && !(s.ax w axPWait).testBit i &&
          !(s.ax w axPStopped).testBit i && (s.hs w hsRampOut).getD i 0 == 0 then
        ((s.startRamp w hsRampOut i).count w PORT.ZC_TIMEOUT_COUNT).raiseKind w evPortZc
      else s)
    else if (s.ax w axPWait).testBit i then
      (((s.zcPass w i).startRamp w hsRampIn i).count w PORT.ZC_TIMEOUT_COUNT).raiseKind w evPortZc
    else s)

/-- Is every slot of a port that stops at 0 (R321)? -/
def State.slotsQuiet (s : State) (w : Nat) : Bool := (slotList (s.slotMap w)).all (fun i => !s.slotPasses w i)

/-- PORT_STOPPED: every slot is at 0 and a frame boundary comes; the port enters IDLE. -/
def execPortStopped (n : Fin 32) (s : State) : Out :=
  let w := winPort n
  .next (if s.portStopping w && s.slotsQuiet w then (s.watch w (fun t => t.setAx w axPStop 0)).raiseKind w evPortStopped else s)

/-! ## External clock faults (R328–R330) -/

/-- Ports of one clock that are in WARM, RUN or HOLD. -/
def State.clockUsers (s : State) (w : Nat) : List Nat :=
  (s.clockGroup (s.clkPort w)).filter (fun p => s.live p || s.atomState p == stHOLD)

/-- What a lost clock does to a port: AP_DATA low, the ASRC in MODE 3 and its output at zero, not VALID, MARK on the next block. -/
def State.clockGone (s : State) (p : Nat) : State :=
  let a := s.srcOf p 0
  let t := ((((s.put p PORT.PORT_STATUS_CLOCK_LOST 1).put p PORT.PORT_STATUS_CLK_OK 0).setAx p axPMute 1).setAx p axPMark 1).setHs
    p hsOut []
  let t1 := if kindOf a = .asrc ∧ t.live a then
      (((t.put a ASRC.ASRC_STATUS_MODE 3).setAx a axAsrcCut (t.asrcMs a)).setAx a axAsrcStep 0).raiseKind a evAsrcHold
    else t
  if (t1.unit p).valid then t1.setValid p false else t1

/-- One port declares CLOCK_LOST. -/
def State.declareLost (s : State) (p : Nat) : State :=
  if s.flag p PORT.PORT_STATUS_CLOCK_LOST then s
  else ((s.count p PORT.CLOCK_LOST_COUNT).raiseKind p evPortLost).clockGone p

/-- CLOCK_LOST: the clock of a follower or hybrid port and of its group is gone.
Mark DEDUCED: notes/assumptions/55.md. -/
def execClockLost (n : Fin 32) (s : State) : Out :=
  let w := winPort n
  .next (if s.portClocking w = 0 then s else (s.clockUsers w).foldl State.declareLost s)

/-- Data may return to the slots of a port (R328). -/
def State.dataReturn (s : State) (p : Nat) : State :=
  if s.ax p axPMute = 1 ∧ !s.flag p PORT.PORT_STATUS_CLOCK_LOST then
    let t := s.setAx p axPMute 0
    if s.flag p PORT.PORT_STATUS_STARTED then t.zcArm p else t
  else s

/-- One port's clock is back: its ASRC re-acquires; a port that no ASRC feeds needs none. -/
def State.clockBack (s : State) (p : Nat) : State :=
  if !s.flag p PORT.PORT_STATUS_CLOCK_LOST then s
  else
    let a := s.srcOf p 0
    let t := ((s.put p PORT.PORT_STATUS_CLOCK_LOST 0).put p PORT.PORT_STATUS_CLK_OK 1).raiseKind p evPortReturned
    if kindOf a = .asrc ∧ t.live a then t.asrcReacquire a
    else if t.flag p PORT.PORT_CTL_AUTO_RESTART || t.flag p PORT.PORT_CFG_DIR then t.dataReturn p else t

/-- CLOCK_RETURNED. -/
def execClockReturned (n : Fin 32) (s : State) : Out := .next ((s.clockUsers (winPort n)).foldl State.clockBack s)

/-- ASRC_REACQUIRE_DONE: the buffer is refilled; MODE 1 or 2 again, and the data of a port that waited for it
returns with AUTO_RESTART (R297, R328). -/
def execAsrcReacquireDone (n : Fin 32) (s : State) : Out :=
  let a := winASRC n
  .next (if s.fld a ASRC.ASRC_STATUS_MODE = 4 ∧ s.ax a axAsrcStep = 2 ∧ 32 ≤ s.fld a ASRC.ASRC_STATUS_FILL then
    let t := s.asrcReacquired a
    match s.asrcPort a with
    | some p => if s.flag p PORT.PORT_CTL_AUTO_RESTART then t.dataReturn p else t
    | none => t
  else s)

/-- A discarded frame of one port: not counted in FRAME_COUNT; an output port's samples go out as far as the frame allows and are
spent (R329). -/
def State.glitch (s : State) (p : Nat) : State :=
  let t := (((s.count p PORT.GLITCH_COUNT).raiseKind p evPortGlitch).setAx p axPMark 1).setAx p axPGlitch (s.ax p axPGlitch + 1)
  if s.flag p PORT.PORT_CFG_DIR then t else (t.portSend p 0).1

/-- GLITCH_FRAME: the third in succession is a lost clock (R328). -/
def execGlitchFrame (n : Fin 32) (s : State) : Out :=
  let w := winPort n
  .next (if s.portClocking w = 0 ∨ s.flag w PORT.PORT_STATUS_CLOCK_LOST then s
    else (s.clockUsers w).foldl (fun t p =>
      let u := t.glitch p
      if 3 ≤ u.ax p axPGlitch then u.declareLost p else u) s)

/-- Is the new rate within ±3 % of nominal, or with RATE 0 of a listed rate? -/
def State.stepFits (s : State) (p period : Nat) : Bool :=
  if s.fld (s.clkPort p) PORT.PORT_CFG_RATE = 0 then detectRate period != 0
  else decide ((6291456000 - (s.portRate p * period : Nat) : Int).natAbs * 100 ≤ 3 * s.portRate p * period)

/-- A rate step at one port (R330). -/
def State.rateStep (s : State) (p period : Nat) : State :=
  let a := s.srcOf p 0
  let t := (((s.count p PORT.RATE_STEP_COUNT).raiseKind p evPortStep).wr p PORT.FRAME_PERIOD.off (w32 period)).setAx p axPMark 1
  if !s.stepFits p period then ((t.setErr p 0x0608).raiseKind p evPortMismatch).declareLost p
  else
    let t1 := if s.fld (s.clkPort p) PORT.PORT_CFG_RATE = 0 then t.put p PORT.PORT_STATUS_DETECTED (detectRate period) else t
    if kindOf a = .asrc ∧ t1.live a then (t1.asrcMode a).asrcReacquire a else t1

/-- RATE_STEP: the mean period of the last 8 frames, in 1/256 epoch count, has moved by more than 0.5 %. -/
def execRateStep (n : Fin 32) (period : Nat) (s : State) : Out :=
  let w := winPort n
  let old := (s.rd w PORT.FRAME_PERIOD.off).toNat
  .next (if s.portClocking w = 0 ∨ s.flag w PORT.PORT_STATUS_CLOCK_LOST ∨ ((period : Int) - old).natAbs * 200 ≤ old then s
    else (s.clockUsers w).foldl (fun t p => t.rateStep p period) s)

/-- HYBRID_LOCK: BCLK is locked to FSYNC (R314). -/
def execHybridLock (n : Fin 32) (s : State) : Out :=
  let w := winPort n
  .next (if s.portClocking w = 2 then (s.clockUsers w).foldl (fun t p => t.put p PORT.PORT_STATUS_CLK_OK 1) s else s)

/-- PORT_CTL takes effect: RESTART resumes data after CLOCK_LOST (R328). -/
def State.portCtlWritten (s : State) (w : Nat) (v : Word) : State :=
  let t := s.store w 0x048 v
  if PORT.PORT_CTL_RESTART.of v = 1 then t.dataReturn w else t

/-- PORT_RESTART: a write of PORT_CTL with RESTART at 1 and its other fields as they stand. -/
def execPortRestart (m : Master) (n : Fin 32) (s : State) : Out :=
  let w := winPort n
  let v := s.rd w 0x048 ||| 0x100
  .next (s.guarded m w 0x048 v [] (fun t => t.portCtlWritten w v))

/-! ## Start groups and SYNC (R323, R324) -/

def grpOff (g : Nat) : Nat := 0x200 + 16 * g
def State.grpFld (s : State) (g : Nat) (r : FRef) : Nat := s.fld 0x220 (r.at (g - 1) 16)
def State.grpEpoch (s : State) (g : Nat) : BitVec 64 :=
  s.rd 0x220 (0x20C + 16 * g) ++ s.rd 0x220 (0x208 + 16 * g)

/-- Group `g` fires at epoch `e`: its ports in WARM, RUN or HOLD that have not started will start. -/
def State.fireGroup (s : State) (g : Nat) (e : BitVec 64) : State :=
  let t := (((s.put 0x220 (PORT.GRP_CTL_ARM.at (g - 1) 16) 0).put 0x220 (PORT.GRP_CTL_FIRED.at (g - 1) 16) 1).wr 0x220
    (0x204 + 16 * g) (e.extractLsb' 0 32)).wr 0x220 (0x2A0 + 4 * g) (e.extractLsb' 32 32)
  (allPorts.filter (fun p => s.present p && s.fld (s.clkPort p) PORT.PORT_GROUP_START_GROUP == g &&
    (s.live p || s.atomState p == stHOLD) && !s.flag p PORT.PORT_STATUS_STARTED)).foldl
    (fun u p => (u.setAx p axPFired 1).setAx p axPFire e.toNat) t

/-- A write of GRP_CTL_g takes effect: ARM = 1 arms, with an epoch that has passed firing at once with 0x060C; GO
fires an armed group of SOURCE 2. -/
def State.grpWritten (s : State) (g : Nat) (v : Word) : State :=
  let t := s.store 0x220 (0x200 + 16 * g) v
  let now := s.clock.epoch
  let src := t.grpFld g PORT.GRP_CTL_SOURCE
  if PORT.GRP_CTL_ARM.of v = 1 then
    let t1 := t.put 0x220 (PORT.GRP_CTL_FIRED.at (g - 1) 16) 0
    let d := (t.grpEpoch g - now).toInt
    if src = 0 then
      if d < 0 then ((t1.setErr 0x220 0x060C).fireGroup g now) else if d = 0 then t1.fireGroup g now else t1
    else if src = 2 ∧ PORT.GRP_CTL_GO.of v = 1 then t1.fireGroup g now
    else t1
  else t

/-- A write of GO to a group that an earlier write armed. -/
def State.grpGo (s : State) (g : Nat) (v : Word) : State :=
  let armed := s.grpFld g PORT.GRP_CTL_ARM == 1
  let t := s.store 0x220 (0x200 + 16 * g) v
  if armed ∧ t.grpFld g PORT.GRP_CTL_SOURCE = 2 then t.fireGroup g s.clock.epoch else t

/-- A write of GRP_CTL_g. A write with GO and without ARM fires a group that an earlier write armed. -/
def State.writeGrp (s : State) (m g : Nat) (v : Word) : State :=
  s.guarded m 0x220 (0x200 + 16 * g) v [] (fun t =>
    if PORT.GRP_CTL_GO.of v = 1 ∧ PORT.GRP_CTL_ARM.of v = 0 then t.grpGo g v else t.grpWritten g v)

/-- GROUP_ARM. -/
def execGroupArm (m : Master) (g : Fin 8) (v : Word) (s : State) : Out :=
  .next (if g.val = 0 then s else s.writeGrp m g (v ||| 0x10))

/-- GROUP_GO. -/
def execGroupGo (m : Master) (g : Fin 8) (v : Word) (s : State) : Out :=
  .next (if g.val = 0 then s else s.writeGrp m g (v ||| 0x20))

/-- GROUP_FIRE_EPOCH: the epoch reaches GRP_EPOCH_g of an armed group of SOURCE 0. -/
def execGroupFireEpoch (g : Fin 8) (s : State) : Out :=
  .next (if g.val ≠ 0 ∧ s.grpFld g PORT.GRP_CTL_ARM = 1 ∧ s.grpFld g PORT.GRP_CTL_SOURCE = 0 then
    (s.advanceTo (s.grpEpoch g)).fireGroup g (s.grpEpoch g) else s)

/-- An accepted edge on SYNC_IN (R324; SYNC_IN_CFG.ENABLE, R336): SYNC_IN_EPOCH, and every armed group of SOURCE 1 fires. -/
def State.syncIn (s : State) (e : BitVec 64) : State :=
  let t := ((s.advanceTo e).wr 0x220 0x280 (e.extractLsb' 0 32)).wr 0x220 0x284 (e.extractLsb' 32 32)
  ([1, 2, 3, 4, 5, 6, 7].filter (fun g => s.grpFld g PORT.GRP_CTL_ARM == 1 && s.grpFld g PORT.GRP_CTL_SOURCE == 1)).foldl
    (fun u g => u.fireGroup g e) t

/-- The pulse that SYNC_OUT last made: its epoch plus one, and its width (0 before the first).
Mark DESIGN CHOICE: notes/assumptions/59.md. -/
def axSyncOut : Nat := 60
def axSyncWidth : Nat := 61

/-- SYNC_OUT_PULSE: at the fire epoch of the marked group in mode 1, at a multiple of PERIOD in mode 2. -/
def execSyncOutPulse (e : BitVec 64) (s : State) : Out :=
  let g := s.fld 0x220 PORT.SYNC_OUT_CFG_GROUP
  let mode := s.fld 0x220 PORT.SYNC_OUT_CFG_MODE
  .next (if (mode = 1 ∧ s.grpFld g PORT.GRP_CTL_FIRED = 1 ∧
        e = s.rd 0x220 (0x2A0 + 4 * g) ++ s.rd 0x220 (0x204 + 16 * g)) ∨
      (mode = 2 ∧ e.toNat % (s.rd 0x220 PORT.PERIOD.off).toNat = 0) then
    (((s.advanceTo e).setAx blkClk axSyncOut (e.toNat + 1)).setAx blkClk axSyncWidth (s.fld 0x220 PORT.SYNC_OUT_CFG_WIDTH))
  else s)

end Sys2Proof.Machine
end

