-- ==== Sys2Proof/Machine/TwoWire.lean ====
section
/-! DEFINITION. The two-wire controller and the in-band request in both roles (R383–R391, R529). -/

namespace Sys2Proof.Machine

/-- KIND_EVENTS of TWO_WIRE_CTL (R395). -/
def evTwcDone : Nat := 16
def evTwcNack : Nat := 17
def evTwcArb : Nat := 18
def evTwcTimeout : Nat := 19
def evTwcStuck : Nat := 20
def evTwcIbr : Nat := 21
def evTwcCleared : Nat := 22

/-- Hidden slots of the controller (`State.twcDrop`). -/
def axTwcReady : Nat := 32
def axTwcRetries : Nat := 33
def axTwcWaits : Nat := 34
def axTwcLost : Nat := 35
def axTwcFree : Nat := 36

/-- The transmit FIFO, the receive FIFO and the request FIFO. -/
def twcTx : Nat := winTWC * 4
def twcRx : Nat := winTWC * 4 + 1
def twcIbr : Nat := winTWC * 4 + 2

/-- What the controller's registers read as: TWC_STATUS with the levels of the FIFOs, TWC_RXDATA and IBR_FIFO the oldest
entry, 0 where there is none. -/
def State.twcRead (s : State) (off : Nat) : Word :=
  if off = 0x054 then
    TWC.TWC_STATUS_RX_LEVEL.put (TWC.TWC_STATUS_TX_LEVEL.put (s.rd winTWC off) (s.bl twcTx).length) (s.bl twcRx).length
  else if off = 0x050 then w32 ((s.bl twcRx).headD 0)
  else if off = 0x058 then w32 ((s.bl twcIbr).headD 0)
  else s.rd winTWC off

/-- A byte appended to the transmit FIFO of 32; one that finds it full is lost (the spec states no result). -/
def State.twcPush (s : State) (v : Word) : State :=
  if (s.bl twcTx).length < 32 then s.setBl twcTx (s.bl twcTx ++ [v.toNat % 256]) else s

/-- TWC_TX_PUSH: a write of TWC_TXDATA. -/
def execTwcTxPush (m : Master) (v : Word) (s : State) : Out :=
  .next (s.guarded m winTWC 0x04C v [] (fun t => t.twcPush v))

/-- The oldest byte of a FIFO is taken and answered; an empty one answers 0. -/
def State.twcPop (s : State) (k : Nat) : State :=
  match s.bl k with
  | [] => s.ans [0]
  | b :: r => (s.setBl k r).ans [w32 b]

/-- TWC_RX_POP. -/
def execTwcRxPop (_m : Master) (s : State) : Out := .next (s.twcPop twcRx)

/-- IBR_FIFO_POP: an entry holds REASON, ADDR and VALID as the register shows them. -/
def execIbrFifoPop (_m : Master) (s : State) : Out := .next (s.twcPop twcIbr)

/-- The refusals of TWC_CMD with GO (R383, R392). -/
def State.goCodes (s : State) (v : Word) : List Nat :=
  if TWC.TWC_CMD_GO.of v = 1 ∧ (s.flag winTWC TWC.TWC_STATUS_ACTIVE ∨ s.flag winTWC TWC.TWC_STATUS_BUS_STUCK ∨
      (TWC.TWC_CMD_READ.of v = 0 ∧ (s.bl twcTx).length < TWC.TWC_CMD_LEN.of v)) then [0x0746] else []

/-- A transfer begins: DONE and what the last one left are cleared. It makes its START at once on a free or held
bus, and else waits for the bus (R384).
Mark DEDUCED: notes/assumptions/62.md. -/
def State.twcStart (s : State) : State :=
  let w := winTWC
  let keep := (s.rd w 0x054) &&& 0x00000084#32
  let t := (s.wr w 0x054 keep).put w TWC.TWC_STATUS_ACTIVE 1
  let go := s.ax w axTwcReady == 1 && (s.ax w axTwcFree == 1 || s.flag w TWC.TWC_STATUS_HOLDING)
  ((((t.setAx w axTwcRetries 0).setAx w axTwcLost 0).setAx w axTwcWaits (b2n (!go))).setAx w axTwcFree 0)

/-- TWC_CMD takes effect; a GO outside WARM and RUN starts nothing (R56). -/
def State.twcCmd (s : State) (v : Word) : State :=
  let t := s.store winTWC 0x048 v
  if TWC.TWC_CMD_GO.of v = 1 ∧ s.live winTWC then t.twcStart else t

def State.writeTwcCmd (s : State) (m : Nat) (v : Word) : State :=
  s.guarded m winTWC 0x048 v (s.goCodes v) (fun t => t.twcCmd v)

/-- TWC_GO: a write of TWC_CMD with GO. -/
def execTwcGo (m : Master) (v : Word) (s : State) : Out := .next (s.writeTwcCmd m (v ||| 0x80000000#32))

/-- Is a transfer on the bus? -/
def State.twcOnBus (s : State) : Bool := s.flag winTWC TWC.TWC_STATUS_ACTIVE && s.ax winTWC axTwcWaits == 0

/-- A transfer is over: its bytes leave the transmit FIFO, DONE is set and raised. -/
def State.twcEnd (s : State) (hold : Bool) : State :=
  let w := winTWC
  let t := if s.flag w TWC.TWC_CMD_READ then s else s.setBl twcTx ((s.bl twcTx).drop (s.fld w TWC.TWC_CMD_LEN))
  ((((t.put w TWC.TWC_STATUS_ACTIVE 0).put w TWC.TWC_STATUS_DONE 1).putB w TWC.TWC_STATUS_HOLDING hold).setAx w
    axTwcWaits 0).raiseKind w evTwcDone

/-- A NACK of the address (`none`) or of data byte `i`. -/
def State.twcNack (s : State) (i : Option (Fin 32)) : State :=
  let w := winTWC
  let t := match i with
    | none => (s.put w TWC.TWC_STATUS_NACK_ADDR 1).setErr w 0x0740
    | some k => ((s.put w TWC.TWC_STATUS_NACK_DATA 1).put w TWC.TWC_STATUS_NACK_INDEX k).setErr w 0x0741
  (t.count w TWC.NACK_COUNT).raiseKind w evTwcNack

/-- TWC_TRANSFER_DONE: the transfer has ended, with the bytes received, or at a byte that was not acknowledged. -/
def execTwcTransferDone (nackAddr : Bool) (nackData : Option (Fin 32)) (rx : List Byte) (s : State) : Out :=
  let w := winTWC
  .next (if !s.twcOnBus then s
    else if nackAddr then (s.twcNack none).twcEnd false
    else match nackData with
      | some k => (s.twcNack (some k)).twcEnd false
      | none =>
        let t := if s.flag w TWC.TWC_CMD_READ then
          s.setBl twcRx ((s.bl twcRx ++ (rx.take (s.fld w TWC.TWC_CMD_LEN)).map BitVec.toNat).take 32) else s
        t.twcEnd (s.flag w TWC.TWC_CMD_NO_STOP))

/-- TWC_ARB_LOST: counted, and the controller waits for the bus (R385).
Mark DEDUCED: notes/assumptions/63.md. -/
def execTwcArbLost (s : State) : Out :=
  let w := winTWC
  .next (if s.twcOnBus then
    (((s.count w TWC.ARB_LOST_COUNT).setAx w axTwcWaits 1).setAx w axTwcLost 1).put w TWC.TWC_STATUS_HOLDING 0 else s)

/-- TWC_ARB_RETRY: the bus is free after a loss; the transfer restarts from its first byte, or after ARB_RETRIES
restarts ends with ARB_LOST. -/
def execTwcArbRetry (s : State) : Out :=
  let w := winTWC
  .next (if s.flag w TWC.TWC_STATUS_ACTIVE && s.ax w axTwcLost == 1 then
    if s.ax w axTwcRetries < s.fld w TWC.TWC_CFG_ARB_RETRIES then
      ((s.setAx w axTwcRetries (s.ax w axTwcRetries + 1)).setAx w axTwcLost 0).setAx w axTwcWaits 0
    else
      ((((s.setAx w axTwcLost 0).put w TWC.TWC_STATUS_ARB_LOST 1).setErr w 0x0742).raiseKind w evTwcArb).twcEnd false
  else s)

/-- A self-reset (R386): recorded, counted, the transfer abandoned, VALID cleared and the check of R387 owed. -/
def State.twcSelfReset (s : State) (code : Nat) : State :=
  let w := winTWC
  let t := ((((s.twcDrop.put w TWC.TWC_STATUS_TIMEOUT 1).setErr w code).count w TWC.TIMEOUT_COUNT).raiseKind w evTwcTimeout)
  if (t.unit w).valid then t.setValid w false else t

/-- Is the controller enabled and its latest check not done? -/
def State.twcChecking (s : State) : Bool :=
  s.present winTWC && s.flag winTWC UCB.UNIT_CTL_ENABLE && s.ax winTWC axTwcReady == 0

/-- TWC_SCL_TIMEOUT: SCL stays low by another's drive, not while a check runs, which waits for it itself (R387), nor while the
controller holds it. -/
def execTwcSclTimeout (s : State) : Out :=
  .next (if s.live winTWC && !s.twcChecking && !s.flag winTWC TWC.TWC_STATUS_HOLDING then s.twcSelfReset 0x0743 else s)

/-- TWC_SDA_TIMEOUT: SDA stays low while the bus is otherwise idle. -/
def execTwcSdaTimeout (s : State) : Out :=
  .next (if s.live winTWC && !s.twcOnBus && !s.twcChecking && !s.flag winTWC TWC.TWC_STATUS_HOLDING then s.twcSelfReset 0x0744
    else s)

/-- The check finds the bus ready (R387, R529): VALID in WARM.
Mark DEDUCED: notes/assumptions/61.md. -/
def State.twcFound (s : State) : State :=
  let t := (s.setAx winTWC axTwcReady 1).setAx winTWC axTwcFree 1
  if t.atomState winTWC = stWARM then t.setValid winTWC true else t

/-- A bus clear has freed SDA. -/
def State.twcCleared (s : State) : State :=
  if s.twcChecking then ((s.count winTWC TWC.BUS_CLEAR_COUNT).raiseKind winTWC evTwcCleared).twcFound else s

/-- TWC_BUS_STUCK: BUS_STUCK, 0x0745, and the unit goes to OFF by its ENABLE (R387). -/
def execTwcBusStuck (s : State) : Out :=
  let w := winTWC
  .next (if s.twcChecking then
    (((s.watch w (fun t => t.putB w UCB.UNIT_CTL_ENABLE false)).put w TWC.TWC_STATUS_BUS_STUCK 1).raiseKind w
      evTwcStuck).setErr w 0x0745
  else s)

/-- The bus is seen free: a check that is owed finds it ready, and a transfer that waits makes its START (R384). -/
def State.twcBusFree (s : State) : State :=
  let w := winTWC
  let t := if s.twcChecking then s.twcFound else s.setAx w axTwcFree 1
  if t.flag w TWC.TWC_STATUS_ACTIVE && t.ax w axTwcWaits == 1 && t.ax w axTwcLost == 0 then
    (t.setAx w axTwcWaits 0).setAx w axTwcFree 0
  else t

/-! ## Serving requests (R391) -/

/-- Does an enabled entry of IBR_LIST hold the address? -/
def State.ibrListed (s : State) (a : Nat) : Bool :=
  [0, 8, 16, 24].any (fun k => (s.rd winTWC 0x060).toNat / 2 ^ k % 256 == 128 + a)

/-- IBR_SERVE: a request from `addr` with its reason byte on a bus that is otherwise free; accepted into the request FIFO or
refused. -/
def execIbrServe (addr : BitVec 7) (reason : Byte) (s : State) : Out :=
  let w := winTWC
  .next (if !(s.flag w TWC.TWC_CFG_IBR_SERVE && s.atomState w == stRUN) || s.twcOnBus || s.flag w TWC.TWC_STATUS_HOLDING then s
    else if (s.flag w TWC.TWC_CFG_IBR_ACCEPT_ALL || s.ibrListed addr.toNat) && decide ((s.bl twcIbr).length < 4) then
      ((s.setBl twcIbr (s.bl twcIbr ++ [reason.toNat + 256 * addr.toNat + 2147483648])).count w TWC.IBR_COUNT).raiseKind w evTwcIbr
    else s.count w TWC.IBR_DROPPED_COUNT)

/-! ## Making requests (R388–R390) -/

/-- The target drives SDA for its request. -/
def axIbrDrive : Nat := 32

/-- The pins of IBR_PINS that are asserted. -/
def State.ibrPins (s : State) : Nat :=
  (List.range 4).foldl (fun a p => a + b2n (s.irqAsserted p && (s.fld blkHost HOST.TWT_CFG_IBR_PINS).testBit p) * 2 ^ p) 0

/-- The reason byte (R390). -/
def State.ibrReason (s : State) : Nat := s.ibrPins + 16 * b2n s.faultN

/-- May the target request: enabled, a pin asserted, the die awake and no save under way? -/
def State.ibrWants (s : State) : Bool :=
  s.flag blkHost HOST.TWT_CFG_IBR_EN && s.ibrPins != 0 && s.power.die == 0 && s.power.saving == 0

def State.ibrAsk (s : State) : State := (s.put blkHost HOST.TWT_STATUS_IBR_PENDING 1).setAx blkHost axIbrDrive 1

/-- IBR_REQUEST_START. -/
def execIbrRequestStart (s : State) : Out :=
  .next (if s.ibrWants && !s.flag blkHost HOST.TWT_STATUS_IBR_PENDING then s.ibrAsk else s)

/-- IBR_REPEAT: the request is made again while a pin stays asserted, and dropped where none does. -/
def execIbrRepeat (s : State) : Out :=
  .next (if s.ibrWants then s.ibrAsk
    else (s.put blkHost HOST.TWT_STATUS_IBR_PENDING 0).setAx blkHost axIbrDrive 0)

/-- IBR_WITHDRAW: SDA is released and the request stays pending (R389). -/
def execIbrWithdraw (s : State) : Out := .next (s.setAx blkHost axIbrDrive 0)

/-- IBR_UNSERVED: no controller answered within 1 ms. -/
def execIbrUnserved (s : State) : Out :=
  .next (if s.ax blkHost axIbrDrive = 1 then (s.setAx blkHost axIbrDrive 0).count blkHost HOST.IBR_UNSERVED_COUNT else s)

/-- IBR_FRAME_END: an accepted request has sent the reason byte, which is the command's answer, and is no longer
pending; a refused one stays pending (R390). -/
def execIbrFrameEnd (accepted : Bool) (s : State) : Out :=
  .next (if s.ax blkHost axIbrDrive = 1 then
    let t := s.setAx blkHost axIbrDrive 0
    if accepted then (t.put blkHost HOST.TWT_STATUS_IBR_PENDING 0).ans [w32 s.ibrReason] else t
  else s)

end Sys2Proof.Machine
end

