-- ==== Sys2Proof/Machine/Feeds.lean ====
section
/-! DEFINITION. The aerial feeds (R430–R433, R438). -/

namespace Sys2Proof.Machine

/-- KIND_EVENTS of AERIAL_FEED (R438). -/
def evFeedShort : Nat := 16
def evFeedOpen : Nat := 17
def evFeedOpenCleared : Nat := 18
def evFeedReverse : Nat := 19
def evFeedExhausted : Nat := 20

/-- Hidden slots of a feed: shorts since ON rose; it stays off until ON is written 0 and then 1. -/
def axFeedShorts : Nat := 32
def axFeedBlocked : Nat := 33

/-- The FEED rail is out of regulation (a slot of the Keeper block). -/
def axRailOut : Nat := 32

/-- Where a glide of the rail began, in 10 mV, and when; 0 where none runs (slots of the Keeper block). -/
def axRailFrom : Nat := 33
def axRailAt : Nat := 34

def allFeeds : List Nat := (List.range 8).map winFeed

def State.feedState (s : State) (w : Nat) : Nat := s.fld w FEED.FEED_STATUS_STATE

/-- Is the output on: soft-start or on? -/
def State.feedLit (s : State) (w : Nat) : Bool := s.feedState w == 1 || s.feedState w == 2

/-- FEED_OK: the rail runs, because some feed is on, and is in regulation. A rail that stops glides no more. -/
def State.feedOk (s : State) : State :=
  let t := s.putB blkKpr KPR.KPR_STATUS_FEED_OK (allFeeds.any s.feedLit && s.ax blkKpr axRailOut == 0)
  if allFeeds.any s.feedLit then t else t.setAx blkKpr axRailFrom 0

/-- The shared registers stand in the window of AERIAL_FEED_0: INDEX and the voltage table.
Mark DEDUCED: notes/assumptions/67.md. -/
def feedHome (w off : Nat) : Nat := if off = 0x044 ∨ (0x100 ≤ off ∧ off < 0x140) then 0x020 else w

/-- The voltage in 10 mV of the table entry in force. -/
def State.railVolt (s : State) : Nat := s.fld 0x020 (FEED.FEED_TABLE_VOLT_10MV.at (s.fld 0x020 FEED.FEED_RAIL_INDEX))

/-- The rail's voltage in 10 mV as it stands: that of the entry in force, or on its way there at 1 V per ms (R430). -/
def State.railNow (s : State) : Nat :=
  let b := s.ax blkKpr axRailFrom
  let moved := 100 * (s.clock.uptime - s.ax blkKpr axRailAt) / 24576
  if b = 0 then s.railVolt else if b < s.railVolt then Nat.min s.railVolt (b + moved) else Nat.max s.railVolt (b - moved)

/-- A newly written INDEX: the rail glides there from where it stands, while it runs. -/
def State.railTo (s : State) (v : Word) : State :=
  let t := if allFeeds.any s.feedLit then (s.setAx blkKpr axRailFrom s.railNow).setAx blkKpr axRailAt s.clock.uptime else s
  t.store 0x020 0x044 v

/-- The output current of a feed in mA: measured, and never above its limit (R431).
Mark DESIGN CHOICE: notes/assumptions/66.md. -/
def State.feedMa (s : State) (w : Nat) : Nat :=
  if s.feedLit w then (Config.freeWord (s.fresh + w)).toNat % (25 * s.fld w FEED.FEED_LIMIT_LIMIT + 1) else 0

/-- What the rail measures: within 3 % of its voltage in regulation, and anything out of it.
Mark DESIGN CHOICE: notes/assumptions/66.md. -/
def State.railMeas (s : State) : Nat :=
  let lo := (97 * s.railNow + 99) / 100
  if s.ax blkKpr axRailOut = 0 then lo + s.freshWord.toNat % (103 * s.railNow / 100 - lo + 1) else s.freshWord.toNat % 65536

/-- FEED_STATUS and FEED_RAIL_STATUS as they read: AT_LIMIT where the current is the limit, the total the sum of the eight
currents; the currents and voltages of an output that is on are measured: free values.
Mark DESIGN CHOICE: notes/assumptions/66.md. -/
def State.feedRead (s : State) (w off : Nat) : Word :=
  if off = 0x048 then
    if s.feedLit w then
      w32 (s.freshWord.toNat / 65536 * 65536 + 256 * s.feedMa w +
        16 * b2n (s.feedMa w == 25 * s.fld w FEED.FEED_LIMIT_LIMIT)) ||| (s.rd w off &&& 0x0F#32)
    else s.rd w off
  else if off = 0x04C then
    if allFeeds.any s.feedLit then w32 (65536 * (allFeeds.map s.feedMa).foldl (· + ·) 0 + s.railMeas) else 0
  else s.rd (feedHome w off) off

/-- The sum of the limits in mA with `lim` in place of the limit of feed `w`. -/
def State.limitSum (s : State) (w lim : Nat) : Nat :=
  allFeeds.foldl (fun a f => a + 25 * (if f = w then lim else s.fld f FEED.FEED_LIMIT_LIMIT)) 0

/-- The refusals of a feed's registers (R430, R431). -/
def State.feedCodes (s : State) (w off : Nat) (v : Word) : List Nat :=
  if off = 0x040 then (if FEED.FEED_CTL_ON.of v = 1 ∧ s.fld w FEED.FEED_LIMIT_LIMIT = 0 then [0x0202] else [])
  else if 0x100 ≤ off ∧ off < 0x140 then
    let e := FEED.FEED_TABLE_VOLT_10MV.at ((off - 0x100) / 4)
    (if allFeeds.any s.feedLit ∧ e.of v ≠ s.fld 0x020 e then [0x0203] else [])
  else if off = 0x140 then (if 400 < s.limitSum w (FEED.FEED_LIMIT_LIMIT.of v) then [0x0305] else [])
  else []

/-- An output goes off, with the STATE that says why. -/
def State.feedOff (s : State) (w st : Nat) : State :=
  ((s.put w FEED.FEED_STATUS_STATE st).put w FEED.FEED_STATUS_OPEN 0).feedOk

/-- May an output be switched on: no fault keeps the feeds off (R479, R480, R484), and the supply is not going down? -/
def State.feedsAllowed (s : State) : Bool :=
  !(s.fw.standing.any (fun f => f.cls == 3 || f.code == 0x0F40 || f.code == 0x0F71)) && s.power.die == 0 &&
    s.power.saving == 0

/-- An output starts its soft-start; where a fault keeps it off it stays off until ON is written again. -/
def State.feedStart (s : State) (w : Nat) : State :=
  if !s.feedsAllowed || (s.unit w).safe || (s.unit w).selfFail then s.setAx w axFeedBlocked 1
  else (s.put w FEED.FEED_STATUS_STATE 1).feedOk

/-- FEED_CTL takes effect: ON rising starts the output, ON at 0 switches it off and lets it start again.
Mark DEDUCED: notes/assumptions/64.md. -/
def State.feedCtl (s : State) (w : Nat) (v : Word) : State :=
  let was := s.flag w FEED.FEED_CTL_ON
  let t := s.store w 0x040 v
  if !t.flag w FEED.FEED_CTL_ON then ((t.setAx w axFeedBlocked 0).setAx w axFeedShorts 0).feedOff w 0
  else if was then t
  else ((t.setAx w axFeedBlocked 0).setAx w axFeedShorts 0).feedStart w

def State.writeFeedCtl (s : State) (m w : Nat) (v : Word) : State :=
  s.guarded m w 0x040 v (s.feedCodes w 0x040 v) (fun t => t.feedCtl w v)

/-- FEED_ON_WRITE: a write of FEED_CTL. -/
def execFeedOnWrite (m : Master) (n : Fin 8) (v : Word) (s : State) : Out := .next (s.writeFeedCtl m (winFeed n) v)

/-- FEED_SOFT_START_DONE. -/
def execFeedSoftStartDone (n : Fin 8) (s : State) : Out :=
  .next (if s.feedState (winFeed n) = 1 then s.put (winFeed n) FEED.FEED_STATUS_STATE 2 else s)

/-- FEED_SHORT: off as shorted; after the third, or with AUTO_RETRY at 0, it stays off (R431).
Mark DEDUCED: notes/assumptions/65.md. -/
def execFeedShort (n : Fin 8) (s : State) : Out :=
  let w := winFeed n
  .next (if s.feedState w = 2 then
    let k := s.ax w axFeedShorts + 1
    let t := ((((s.feedOff w 3).count w FEED.SHORT_COUNT).setErr w 0x0410).raiseKind w evFeedShort).setAx w axFeedShorts k
    if 3 ≤ k ∨ !s.flag w FEED.FEED_CTL_AUTO_RETRY then (t.setAx w axFeedBlocked 1).raiseKind w evFeedExhausted else t
  else s)

/-- FEED_RETRY: RETRY_S after a short. -/
def execFeedRetry (n : Fin 8) (s : State) : Out :=
  let w := winFeed n
  .next (if s.feedState w = 3 ∧ s.ax w axFeedBlocked = 0 ∧ s.flag w FEED.FEED_CTL_ON then s.feedStart w else s)

/-- FEED_OPEN. -/
def execFeedOpen (n : Fin 8) (s : State) : Out :=
  let w := winFeed n
  .next (if s.feedState w = 2 ∧ !s.flag w FEED.FEED_STATUS_OPEN then
    (((s.put w FEED.FEED_STATUS_OPEN 1).count w FEED.OPEN_COUNT).setErr w 0x0411).raiseKind w evFeedOpen else s)

/-- FEED_OPEN_CLEARED. -/
def execFeedOpenCleared (n : Fin 8) (s : State) : Out :=
  let w := winFeed n
  .next (if s.flag w FEED.FEED_STATUS_OPEN then
    (s.put w FEED.FEED_STATUS_OPEN 0).raiseKind w evFeedOpenCleared else s)

/-- FEED_REVERSE: off, and no retry (R433). -/
def execFeedReverse (n : Fin 8) (s : State) : Out :=
  let w := winFeed n
  .next (if s.feedLit w then
    ((((s.feedOff w 4).count w FEED.REVERSE_COUNT).setErr w 0x0412).raiseKind w evFeedReverse).setAx w axFeedBlocked 1
  else s)

/-- FEED_RESUME: the next of the feeds that were on before the save returns (R426). -/
def execFeedResume (n : Fin 8) (s : State) : Out :=
  let w := winFeed n
  .next (match s.power.savedFeeds with
    | f :: rest =>
      if f = w ∧ s.power.die = 0 then ({ s with power := { s.power with savedFeeds := rest } }).feedStart w else s
    | [] => s)

end Sys2Proof.Machine
end

