-- ==== Sys2Proof/Machine/Units.lean ====
section
/-! DEFINITION. UNIT_CTL: the control bits of a unit and the fan-out of a composite (R56–R63), the
synchronising reset, APPLY and FAULT_CLEAR (R58, R59), the Manifest's triggers (R74), and the power
estimates (R524). -/

namespace Sys2Proof.Machine

/-! ## The order of a composite's members (R62) -/

/-- What a window feeds: its links, and the next stage of its lane (R18). -/
def State.feedsInto (s : State) (w : Nat) : List Nat :=
  (s.tree.links.filter (fun l => l.src == w)).map LinkX.dst ++
  (match kindOf w with
    | .audioLane => [w + 0x20]
    | .audioFilter => [w + 0x20]
    | .detector => [w + 0x20]
    | _ => [])

/-- Does a path of the link graph lead from `a` to `b`? No path is longer than the chain of kinds. -/
def State.reachFuel (s : State) : Nat → Nat → Nat → Bool
  | 0, a, b => a == b
  | n + 1, a, b => a == b || (s.feedsInto a).any (fun c => s.reachFuel n c b)

/-- The first of the members that no other remaining member lies upstream of; the lowest window where
several tie. A member is a window and the unit that gives its place. -/
def State.firstUp (s : State) (ms : List (Nat × Nat)) : Option (Nat × Nat) :=
  (ms.filter (fun p => ms.all (fun q => q.1 == p.1 || !s.reachFuel 16 q.2 p.2))).foldl
    (fun a p => match a with
      | none => some p
      | some q => if p.1 < q.1 then some p else some q) none

def State.upOrderFuel (s : State) : Nat → List (Nat × Nat) → List Nat
  | 0, _ => []
  | n + 1, ms => match s.firstUp ms with
    | none => ms.map Prod.fst
    | some p => p.1 :: s.upOrderFuel n (ms.filter (fun q => q.1 != p.1))

/-- The unit whose place a member takes: itself, or the most upstream member of a nested composite.
Mark DEDUCED: notes/assumptions/68.md. -/
def State.placeOf (s : State) : Nat → Nat → Nat
  | 0, w => w
  | n + 1, w =>
    if !s.isComposite w then w
    else
      let ms := (s.unitsOf w ++ s.compsOf w).map (fun m => (m, s.placeOf n m))
      match s.firstUp ms with
      | none => w
      | some p => p.2

/-- The members of a composite in upstream order (R62). -/
def State.upstream (s : State) (c : Nat) : List Nat :=
  let ms := (s.unitsOf c ++ s.compsOf c).map (fun m => (m, s.placeOf 256 m))
  s.upOrderFuel ms.length ms

/-- Every unit nested in a composite, in upstream order. -/
def State.unitsUpFuel (s : State) : Nat → Nat → List Nat
  | 0, _ => []
  | n + 1, c => (s.upstream c).flatMap (fun m => if s.isComposite m then s.unitsUpFuel n m else [m])

def State.unitsUp (s : State) (c : Nat) : List Nat := s.unitsUpFuel 256 c

/-! ## One unit -/

/-- An operation that may start or stop a front end: what its analogue stages and twins then do (R98, R114,
R116). A table whose attenuation falls somewhere keeps RUN at 0. -/
def State.withFe (s : State) (w : Nat) (f : State → State) : State :=
  if kindOf w = .frontEnd ∨ kindOf w = .lowband then
    let t := f s
    if !s.fePowered w && t.fePowered w then
      if t.tableRises w then (t.feRunStart w).followFe w
      else ((t.watch w (fun u => u.putB w UCB.UNIT_CTL_RUN false)).setErr w 0x0205).followFe w
    else if s.fePowered w && !t.fePowered w then (t.feRunStop w).followFe w
    else t.followFe w
  else f s

/-- Does a front end that `t` would power stay in IDLE, for a table whose attenuation falls somewhere (R98)? -/
def State.feStays (s t : State) (w : Nat) : Bool :=
  (kindOf w == .frontEnd || kindOf w == .lowband) && !s.fePowered w && t.fePowered w && !t.tableRises w

/-- The read-write bits of a UNIT_CTL word. -/
def ctlRw : Nat := 0x67

/-- The read-write control bits of an atomic unit take the written values. A port whose RUN falls keeps its frames
until it has stopped (R321); a front end whose table is not in order stays in IDLE with 0x0205 (R98); ENABLE rising clears UNIT_ERR
(R55); a raw IQ queue that would take the device past
R345 is refused with 0x0306. -/
def State.ctlBits (s : State) (w : Nat) (v : Word) : State :=
  let old := s.rd w 0x004
  let asked := v &&& w32 ctlRw
  let stays := s.feStays (s.wr w 0x004 asked) w
  let new := if stays then asked &&& ~~~(2#32) else asked
  let bad := kindOf w = .queue ∧ !s.live w ∧ iqCode (s.wr w 0x004 new) ≠ [] ∧ (s.wr w 0x004 new).live w
  if bad then s.refuseUnit w 0x0306
  else s.withFe w (fun s1 =>
    let s2 := if new.getLsbD 0 && !old.getLsbD 0 then s1.put w UCB.UNIT_ERR_CODE 0 else s1
    let stopping := kindOf w = .audioPort ∧ (s.live w ∨ s.atomState w = stHOLD) ∧ old.getLsbD 1 ∧ !new.getLsbD 1 ∧ new.getLsbD 0
    let s3 := s2.watch w (fun t => (if stopping then t.setAx w 40 1 else t).wr w 0x004 new)
    if stays then s3.setErr w 0x0205 else s3)

/-- SYNC_RESET of a unit (R59): its history is zeroed and it is back in WARM. In SAFE or FAULT its self-check also
runs again, holding BUSY, and a queue in SAFE has its indices, sequence number and ring made anew. -/
def State.ctlSync (s : State) (w : Nat) : State :=
  let t := s.syncReset w
  if (s.unit w).safe || (s.unit w).selfFail then
    let t1 := t.setUnit w { t.unit w with checkBusy := true }
    if kindOf w = .queue then t1.initQueue w else t1
  else t

/-- The staged values come into use, and UNIT_GEN counts (R59, R60). -/
def State.applyDone (s : State) (w : Nat) : State :=
  (s.setUnit w { s.unit w with applyBusy := false, applyPending := false }).bumpGens [w]

/-- APPLY of a unit. A DDC that makes no outputs takes it at once (R141); a front end whose channels would not
fit the new window refuses it whole (R93); else BUSY stands until the unit's next boundary.
Mark DEDUCED: notes/assumptions/71.md. -/
def State.ctlApply (s : State) (w : Nat) : State :=
  if kindOf w = .ddc ∧ !s.live w then (s.ddcTake w).applyDone w
  else if kindOf w = .frontEnd ∧ !(s.feApply w).2 then s.refuseUnit w 0x0210
  else s.setUnit w { s.unit w with applyBusy := true }

/-- FAULT_CLEAR (R58, R484): a unit in SAFE or FAULT whose cause no longer stands goes to OFF, its fault ends,
and a twin of a front end takes its front end's controls again (R116); both twins are then in FAULT no more (R479).
Mark DEDUCED: notes/assumptions/72.md. -/
def State.ctlClear (s : State) (w : Nat) : State :=
  let t := (s.withFe w (fun u => u.watch w (fun t =>
    ((t.setUnit w { t.unit w with safe := false, selfFail := false, causeStands := false, cause := 0 }).wr w 0x004
      (t.rd w 0x004 &&& ~~~(7#32))).put w UCB.UNIT_ERR_CODE 0))).endFault (fun f => f.win == w)
  if kindOf w = .loSynth then
    let f := feOfLo w
    let t0 := if (t.unit f).cause = 0x0407 then t.setUnit f { t.unit f with causeStands := false } else t
    let t1 := if t0.fld w LO.LO_STATUS_ROLE = 3 then t0.put w LO.LO_STATUS_ROLE 0 else t0
    t1.watch w (fun u => (u.putB w UCB.UNIT_CTL_ENABLE (u.flag f UCB.UNIT_CTL_ENABLE)).putB w UCB.UNIT_CTL_RUN
      (u.flag f UCB.UNIT_CTL_RUN))
  else t

/-- A UNIT_CTL write carried out in an atomic unit. FAULT_CLEAR comes first; while the cause stands the write
changes nothing (R58). -/
def State.ctlNow (s : State) (w : Nat) (v : Word) : State :=
  let down := (s.unit w).safe || (s.unit w).selfFail
  if v.getLsbD 7 && down && (s.unit w).causeStands then s
  else
    let s1 := if v.getLsbD 7 && down then s.ctlClear w else s
    let v1 := if kindOf w = .loSynth then (v &&& ~~~(7#32)) ||| (s1.rd w 0x004 &&& 7) else v
    let s2 := s1.ctlBits w v1
    let s3 := if v.getLsbD 3 then s2.ctlSync w else s2
    if v.getLsbD 4 then s3.ctlApply w else s3

/-- A UNIT_CTL word kept until BUSY clears; the latest one stands (R59).
Mark DEDUCED: notes/assumptions/70.md. -/
def State.defer (s : State) (w : Nat) (v : Word) : State := s.setUnit w { s.unit w with deferred := some v }

/-! ## The fan-out (R62) -/

/-- A member's control bits after one pass: 0 the stopping actions, 1 the starting ones, 2 all the rest. -/
def mergeCtl (pass : Nat) (cur v : Word) : Word :=
  if pass = 0 then (cur &&& (v ||| ~~~(3#32))) ||| (v &&& 4)
  else if pass = 1 then (cur &&& ~~~(7#32)) ||| (v &&& 7)
  else v

/-- One pass over one atomic member. A member that is BUSY keeps the write until it is not; one in use elsewhere
is not reached. -/
def State.memberPass (s : State) (pass : Nat) (v : Word) (m : Nat) : State :=
  if (s.unit m).amendBusy || (s.unit m).lent != 0 then s
  else if s.busyOf m then s.defer m v
  else
    let cur := s.rd m 0x004
    let new := mergeCtl pass cur v
    if new = cur then s else s.ctlNow m new

/-- One pass over a composite: its own control bits, then its members, downstream first for the stopping actions
and upstream first for the others; a nested composite completes its own before the next member is served. -/
def State.compPass (s : State) (pass : Nat) (v : Word) : Nat → Nat → State
  | 0, _ => s
  | n + 1, c =>
    let order := if pass = 0 then (s.upstream c).reverse else s.upstream c
    let s1 := if pass = 1 ∧ v.getLsbD 0 ∧ !s.flag c UCB.UNIT_CTL_ENABLE then s.put c UCB.UNIT_ERR_CODE 0 else s
    let s2 := s1.wr c 0x004 (mergeCtl pass (s1.rd c 0x004) v &&& w32 ctlRw)
    order.foldl (fun t m => if t.isComposite m then State.compPass t pass v n m else t.memberPass pass v m) s2

/-- A UNIT_CTL write carried out in a composite.
Mark DEDUCED: notes/assumptions/69.md. -/
def State.fanOut (s : State) (c : Nat) (v : Word) : State :=
  ((s.compPass 0 v 256 c).compPass 1 v 256 c).compPass 2 v 256 c

/-- A UNIT_CTL word carried out in any window, or kept while BUSY is set (R59). -/
def State.ctl (s : State) (w : Nat) (v : Word) : State :=
  if s.busyOf w then s.defer w v
  else if s.isComposite w then s.fanOut w v
  else s.ctlNow w v

/-! ## Triggers (R74) -/

/-- ENABLE, or ENABLE and RUN, set in a window and in everything nested in it, upstream first. -/
def State.startUp (s : State) (bits : Word) : Nat → Nat → State
  | 0, _ => s
  | n + 1, w =>
    if s.isComposite w then
      let s1 := if s.flag w UCB.UNIT_CTL_ENABLE then s else s.put w UCB.UNIT_ERR_CODE 0
      (s1.upstream w).foldl (fun t m => State.startUp t bits n m) (s1.wr w 0x004 (s1.rd w 0x004 ||| bits))
    else if s.busyOf w then s.defer w ((((s.unit w).deferred).getD (s.rd w 0x004)) ||| bits)
    else s.ctlNow w (s.rd w 0x004 ||| bits)

/-- ACTION 1 sets ENABLE, ACTION 2 sets ENABLE and RUN.
Mark DEDUCED: notes/assumptions/73.md. -/
def State.doTrigger (s : State) (t : TriggerX) : State :=
  if t.win < 0x300 ∨ (s.comp? t.win).isSome then s.startUp (if t.action = 1 then 1 else 3) 256 t.win else s

/-- Every pending trigger that satisfies `p` fires, and is no longer pending. -/
def State.fire (s : State) (p : TriggerX → Bool) : State :=
  (s.tree.triggers.filter p).foldl State.doTrigger
    { s with tree := { s.tree with triggers := s.tree.triggers.filter (fun t => !p t) } }

/-- Condition 3: the window set VALID between two states.
Mark DEDUCED: notes/assumptions/74.md. -/
def setsValid (s t : State) (x : TriggerX) : Bool :=
  x.cond == 3 && !s.validOf (x.arg0.toNat % 1024) && t.validOf (x.arg0.toNat % 1024)

def State.validFires : Nat → State → State → State
  | 0, _, t => t
  | n + 1, s, t =>
    if t.tree.triggers.any (setsValid s t) then State.validFires n t (t.fire (setsValid s t)) else t

/-- An operation that may set VALID somewhere, with the condition-3 triggers that it fires. -/
def State.triggered (s : State) (f : State → State) : State :=
  State.validFires (s.tree.triggers.length + 1) s (f s)

/-! ## The commands -/

/-- The refusal of a UNIT_CTL write: ENABLE, RUN and HOLD of a synthesiser (R116).
Mark DEDUCED: notes/assumptions/76.md. -/
def State.ctlCodes (s : State) (w : Nat) (v : Word) : List Nat :=
  if kindOf w = .loSynth ∧ (v &&& 7) ≠ (s.rd w 0x004 &&& 7) then [0x0203] else []

/-- A write to UNIT_CTL of a unit or composite. -/
def State.writeCtl (s : State) (m w : Nat) (v : Word) : State :=
  s.guarded m w 0x004 v (s.ctlCodes w v) (fun t => t.triggered (fun u => u.ctl w v))

/-- UNIT_CTL_WRITE: a write of the control bits of a unit.
Mark DEDUCED: notes/assumptions/177.md. -/
def execUnitCtlWrite (m : Master) (w : Fin 1024) (v : Word) (s : State) : Out := .next (s.writeCtl m w v)

/-- COMPOSITE_CTL_WRITE: a write to a composite's UNIT_CTL fans out to its members. -/
def execCompositeCtlWrite (m : Master) (w : Fin 1024) (v : Word) (s : State) : Out := .next (s.writeCtl m w v)

/-- SYNC_RESET: a write of UNIT_CTL with SYNC_RESET at 1. -/
def execSyncReset (m : Master) (w : Fin 1024) (v : Word) (s : State) : Out := .next (s.writeCtl m w (v ||| 0x08#32))

/-- APPLY: a write of UNIT_CTL with APPLY at 1. -/
def execApply (m : Master) (w : Fin 1024) (v : Word) (s : State) : Out := .next (s.writeCtl m w (v ||| 0x10#32))

/-- FAULT_CLEAR: a write of UNIT_CTL with FAULT_CLEAR at 1. -/
def execFaultClear (m : Master) (w : Fin 1024) (v : Word) (s : State) : Out := .next (s.writeCtl m w (v ||| 0x80#32))

/-- What a kind does with its staged values at its boundary, and whether it took them. -/
def State.takeStaged (s : State) (w : Nat) : State × Bool :=
  match kindOf w with
  | .ddc => (s.ddcTake w, true)
  | .frontEnd => s.feApply w
  | .ofdm => (s.selTake w, true)
  | _ => (s, true)

/-- A unit with an APPLY under way reaches its processing boundary. -/
def State.boundary (s : State) (w : Nat) : State :=
  if (s.unit w).applyBusy then
    let p := s.takeStaged w
    if p.2 then p.1.applyDone w else p.1.setUnit w { p.1.unit w with applyBusy := false }
  else s

/-- APPLY_TAKES_EFFECT: the staged values come into use, BUSY clears and UNIT_GEN counts. -/
def execApplyTakesEffect (w : Fin 1024) (s : State) : Out := .next (s.boundary w)

/-- SELECTION_SWITCH: at a CIF boundary, or in DRM a frame boundary, an engine's applied IDs come into use (R212). -/
def execSelectionSwitch (n : Fin 16) (s : State) : Out := .next (s.boundary (0x100 + n))

/-- UNIT_CTL_DEFERRED: BUSY has cleared, and the latest write that arrived meanwhile is carried out. -/
def execUnitCtlDeferred (w : Fin 1024) (s : State) : Out :=
  .next (match (s.unit w).deferred with
    | some v =>
      if s.busyOf w then s
      else (s.setUnit w { s.unit w with deferred := none }).triggered (fun u => u.ctl w v)
    | none => s)

/-! ## Power (R524) -/

/-- POWER_MAX of a kind in 0.1 mW. -/
def powerMax (w : Nat) : Nat :=
  match kindOf w with
  | .frontEnd => 2800
  | .lowband => 1400
  | .aerialFeed => 26000
  | .ddc => 70
  | .chanFilter => 80
  | .audioFilter => 30
  | .fmDemod => 60
  | .amDemod => 30
  | .ofdm => 250
  | .sideData => 20
  | .audioDec => 120
  | .audioLane => 15
  | .detector => 15
  | .asrc => 20
  | .audioPort => 20
  | _ => 0

/-- The banks of a filter unit that run: the active one, both during a fade. -/
def State.banksOn (s : State) (w : Nat) : List Nat :=
  if s.flag w FILT.FILT_STATUS_FADING then [0, 1] else [s.fld w FILT.FILT_STATUS_ACTIVE]

/-- TAPS of every bank of a filter unit that runs, summed. -/
def State.tapsOn (s : State) (w : Nat) : Nat :=
  ((s.banksOn w).map (fun b => s.fld w (FILT.BANK_CFG_TAPS.at b))).foldl (· + ·) 0

/-- A share `a / b` of a figure, in whole steps of 0.1 mW; its rounding is not stated. -/
def powerShare (figure a b : Nat) (up : Bool) : Nat := if b = 0 then 0 else (between (figure * a) b up).toNat

/-- The most that a decoder draws in 0.1 mW, by the codec and bit rate that it decodes (R280): 96 kbit/s divides HE-AAC in DAB+. -/
def State.decoderPower (s : State) (w : Nat) : Nat :=
  match s.fld w DEC.DEC_STATUS_CODEC with
  | 0 => 120
  | 1 => 70
  | 2 => if s.fld (s.srcOf w 0) OFDM.OFDM_CFG_SYSTEM = 0 ∧ s.fld w DEC.BITRATE_KBPS ≤ 96 then 80 else 100
  | _ => 120

/-- What an engine's decoding draws: in proportion to what is selected, of 864 CUs in DAB and of the whole MSC in DRM. -/
def State.mscPower (s : State) (w : Nat) (up : Bool) : Nat :=
  powerShare 100 (s.fld w OFDM.MCI_CU_SELECTED) (if s.fld w OFDM.OFDM_CFG_SYSTEM = 0 then 864
    else ((s.bl (blOrg w)).map (fun e => e / 64 % 1024)).foldl (· + ·) 0) up

/-- The figure of a kind in WARM, RUN and HOLD, least and most: one number where the table of R524 gives it in
proportion to the configuration, ten per cent about a figure that it calls about right (R23), and a range where it says up to
what it goes. A feed delivers at most its limit at the rail's voltage.
Mark DESIGN CHOICE: notes/assumptions/75.md. -/
def State.powerRange (s : State) (w : Nat) (up : Bool) : Nat × Nat :=
  let d := w - 0x40
  let one := fun (n : Nat) => (Nat.min n (powerMax w), Nat.min n (powerMax w))
  match kindOf w with
  | .frontEnd => if s.atomState w = stRUN then (2160, 2640) else (0, 2800)
  | .lowband => if s.atomState w = stRUN then (1080, 1320) else (0, 1400)
  | .aerialFeed => if s.feedLit w then (0, powerMax w * Nat.max s.railVolt s.railNow * s.fld w FEED.FEED_LIMIT_LIMIT / 10000) else (0, 0)
  | .ddc => one (powerShare 40 (s.ddcFs w) 245760000 up + (if s.branches w = 2 then 30 else 0))
  | .chanFilter => one (powerShare 40 (s.tapsOn w * s.branches d * s.ddcFs d) (737280000 * s.chanDecim d) up)
  | .audioFilter => one (powerShare 15 (s.tapsOn w * (if s.flag (w - 0x20) LANE.LANE_CFG_MONO then 1 else 2)) 1024 up)
  | .asrc => one (powerShare 20 (((s.asrcPort w).map s.portRate).getD 0) 192000 up)
  | .ofdm => (Nat.min 250 (s.mscPower w up), Nat.min 250 (150 + s.mscPower w up))
  | .audioDec => (0, s.decoderPower w)
  | .audioPort =>
    (0, Nat.min 20 (powerShare 20 (s.portRate w * (slotBits (s.fld (s.clkPort w) PORT.PORT_CFG_SLOT_BITS) * s.portSlots w)) 24576000 up))
  | _ => (0, powerMax w)

/-- The estimate of a unit: 0 in OFF, at most 2 % of POWER_MAX in IDLE, SAFE and FAULT, and else the figure of its
configuration; where the table gives no proportion, a free value within its bounds.
Mark DESIGN CHOICE: notes/assumptions/75.md. -/
def State.powerNow (s : State) (w : Nat) : Nat :=
  let st := s.atomState w
  let p := if st = stOFF then (0, 0) else if st = stIDLE ∨ st = stSAFE ∨ st = stFAULT then (0, powerMax w / 50)
    else s.powerRange w (s.freshWord.getLsbD 0)
  p.1 + Config.powerEstimate s.fresh w % (p.2 - p.1 + 1)

/-- The units that may be elsewhere than in OFF, or whose estimate is not 0: those with a register off its reset
value, or with hidden state. -/
def State.touched (s : State) : List Nat :=
  dedup (((s.regs.map (fun (p : Nat × Word) => p.1 / 1024)) ++ s.units.map Prod.fst).filter (fun w => w < 0x300 && s.present w && w != 0))

/-- UNIT_POWER_UPDATE: every estimate is updated in one cycle. -/
def execUnitPowerUpdate (s : State) : Out :=
  .next (s.touched.foldl (fun t w => t.put w UCB.UNIT_POWER_POWER (s.powerNow w)) s).useFresh

end Sys2Proof.Machine
end

