-- ==== Sys2Proof/Machine/Pigeonholes.lean ====
section
/-! DEFINITION. The pigeonholes and their messages (R351–R358), the Bell board (R359) and the event
latches (R360). -/

namespace Sys2Proof.Machine

/-! ## FIFOs -/

/-- A push: appended, or the most recently written word of a full FIFO overwritten, which sets
COLLISION and is an occurrence of PH_COLLISION each time (R352). -/
def State.pushFifo (s : State) (toHost : Bool) (n : Nat) (v : Word) : State :=
  s.onPigeon n (fun t =>
    let f := t.fifo toHost n
    if f.words.length < 8 then t.setFifo toHost n { f with words := f.words ++ [v] }
    else (t.setFifo toHost n { f with words := f.words.dropLast ++ [v], collision := true }).raise 118)

/-- The notice that a FIFO has become empty (R353): EMPTY_REQ clears and EMPTIED sets; for TD the
event PH_EMPTY is raised. -/
def State.emptyNotice (s : State) (toHost : Bool) (n : Nat) : State :=
  let t := s.setFifo toHost n { s.fifo toHost n with emptyReq := false, emptied := true }
  if toHost then t else t.raise 117

/-- A pop removes the oldest word and answers it; an empty FIFO answers 0 with no effect (R351). -/
def State.popFifo (s : State) (toHost : Bool) (n : Nat) : State :=
  match (s.fifo toHost n).words with
  | [] => s.ans [0]
  | v :: rest =>
    let t := s.setFifo toHost n { s.fifo toHost n with words := rest }
    let t1 := if rest.isEmpty && (s.fifo toHost n).emptyReq then t.emptyNotice toHost n else t
    (if toHost then t1.drainOutbox n else t1).ans [v]

/-- EMPTY_REQ written 1: the notice comes at the next emptying, at once where the FIFO is empty. -/
def State.reqEmpty (s : State) (toHost : Bool) (n : Nat) : State :=
  if (s.fifo toHost n).words.isEmpty then s.emptyNotice toHost n
  else s.onPigeon n (fun t => t.setFifo toHost n { t.fifo toHost n with emptyReq := true })

/-! ## Messages (R357) -/

def msgOpcode (v : Word) : Nat := v.toNat / 16777216
def msgTag (v : Word) : Nat := v.toNat / 65536 % 256
def msgArgs (v : Word) : Nat := v.toNat % 65536

/-- Words of a malformed message still to be discarded, by pigeonhole (R357). -/
def axDiscard (n : Nat) : Nat := 32 + n

/-- The words that the firmware has taken up of a pigeonhole's TD are gone. -/
def State.dropTd (s : State) (n : Nat) : State :=
  let f := s.fifo false n
  let t := s.setFifo false n { f with words := [] }
  if f.emptyReq && !f.words.isEmpty then t.emptyNotice false n else t

/-- Word 0 of a message with ARG_WORDS above 7 is refused: the reply carries 0x0716, and its words up
to the next 8-word boundary are discarded. -/
def State.rejectLong (s : State) (n : Nat) (v : Word) : State :=
  ((s.dropTd n).setAx blkPigeon (axDiscard n) 7).reply n (msgOpcode v) (msgTag v) [0x0716]

/-- PH_TD_PUSH acts: firmware in service looks at word 0 of each message as it arrives. -/
def State.tdPush (s : State) (n : Nat) (v : Word) : State :=
  if s.ax blkPigeon (axDiscard n) ≠ 0 then s.setAx blkPigeon (axDiscard n) (s.ax blkPigeon (axDiscard n) - 1)
  else if s.fw.inService && (s.fifo false n).words.isEmpty && decide (7 < msgArgs v) then
    (s.pushFifo false n v).rejectLong n v
  else s.pushFifo false n v

/-- PH_TD_PUSH. -/
def execPhTdPush (m : Master) (ph : Fin 8) (v : Word) (s : State) : Out :=
  .next (s.guarded m blkPigeon (0x20 * ph) v [] (fun t => t.tdPush ph v))

/-- PH_TD_POP. -/
def execPhTdPop (_m : Master) (ph : Fin 8) (s : State) : Out := .next (s.popFifo false ph)

/-- PH_TH_PUSH. -/
def execPhThPush (m : Master) (ph : Fin 8) (v : Word) (s : State) : Out :=
  .next (s.guarded m blkPigeon (0x20 * ph + 0x08) v [] (fun t => t.pushFifo true ph v))

/-- PH_TH_POP. -/
def execPhThPop (_m : Master) (ph : Fin 8) (s : State) : Out := .next (s.popFifo true ph)

/-- TD_EMPTY_REQ. -/
def execTdEmptyReq (m : Master) (ph : Fin 8) (s : State) : Out :=
  .next (s.guarded m blkPigeon (0x20 * ph + 0x10) 0x20 [] (fun t => t.reqEmpty false ph))

/-- TH_EMPTY_REQ. -/
def execThEmptyReq (m : Master) (ph : Fin 8) (s : State) : Out :=
  .next (s.guarded m blkPigeon (0x20 * ph + 0x10) 0x200000 [] (fun t => t.reqEmpty true ph))

/-- A write to PH_STAT: the W1C bits clear, and each EMPTY_REQ written 1 asks (R351, R353). -/
def State.writePhStat (s : State) (n : Nat) (v : Word) : State :=
  let clr := fun (t : State) (toHost : Bool) (sh : Nat) =>
    let f := t.fifo toHost n
    t.setFifo toHost n { f with collision := f.collision && !v.getLsbD (sh + 4),
                                emptied := f.emptied && !v.getLsbD (sh + 6) }
  let s1 := clr (clr s false 0) true 16
  let s2 := if v.getLsbD 5 then s1.reqEmpty false n else s1
  if v.getLsbD 21 then s2.reqEmpty true n else s2

/-- What firmware does with a command (R355, R357, R481, R489): served only in service, but SYS_PING, SYS_VERSION and
SYS_FAULT as soon as the cores run; a command that the lead mirrored is served without more; its bell to the
device clears; one hit by a collision is discarded with 0x0714; in F3 every command but SYS_PING,
SYS_VERSION and SYS_FAULT is refused with 0x0F01.
Mark DEDUCED: notes/assumptions/12.md. -/
def State.serve (s : State) (ph opcode tag : Nat) (body : State → State) : State :=
  if !(s.fw.inService || (s.fw.running && decide (opcode ≤ 2))) then s
  else if s.ferry.quiet then body s
  else
    let t := { s with board := { s.board with toDev := s.board.toDev &&& ~~~(1#32 <<< ph) } }
    let f := t.fifo false ph
    if f.collision then
      (t.setFifo false ph { f with words := [], collision := false }).reply ph opcode tag [0x0714]
    else if t.fw.standing.any (fun g => g.cls == 3) && decide (2 < opcode) then t.reply ph opcode tag [0x0F01]
    else body t

/-- MESSAGE_TIMEOUT: 10 ms after its word 0 arrived, the message in TD still lacks words. -/
def execMessageTimeout (ph : Fin 8) (s : State) : Out :=
  .next (match (s.fifo false ph).words with
    | [] => s
    | v :: rest =>
      if s.fw.inService && decide (rest.length < msgArgs v) then
        let code : Word := if (s.fifo false ph).collision then 0x0714 else 0x0713
        let t := s.dropTd ph
        (t.setFifo false ph { t.fifo false ph with collision := false }).reply ph (msgOpcode v) (msgTag v) [code]
      else s)

/-- The opcodes that firmware serves (R358 and the chapters it names). -/
def servedOpcodes : List Nat :=
  [0x00, 0x01, 0x02, 0x03, 0x04, 0x10, 0x11, 0x12, 0x13] ++ 
  [0x40, 0x41, 0x42, 0x43, 0x44, 0x45, 0x46, 0x47, 0x48, 0x49, 0x4C, 0x4D, 0x4E, 0x50, 0x51, 0x52] ++
  [0x70, 0x71, 0x72, 0x73, 0x74, 0x75, 0x76, 0x77, 0x78, 0x80, 0x81, 0x82, 0x83]

/-- UNKNOWN_OPCODE: a message whose opcode firmware does not serve is answered with 0x0715. -/
def execUnknownOpcode (ph : Fin 8) (tag opcode : BitVec 8) (s : State) : Out :=
  .next (if opcode.toNat ∈ servedOpcodes then s
    else s.serve ph opcode.toNat tag.toNat (fun t => t.reply ph opcode.toNat tag.toNat [0x0715]))

/-! ## System commands (R358) -/

/-- SYS_PING. -/
def execSysPing (ph : Fin 8) (tag : BitVec 8) (args : List Word) (s : State) : Out :=
  .next (s.serve ph 0x00 tag.toNat (fun t => t.reply ph 0x00 tag.toNat (0 :: args.take 6)))

/-- Byte address of a firmware slot in MRAM (R447). -/
def fwSlotBase (slot : Nat) : Nat := if slot = 0 then 0x04000000 else 0x04100000

/-- SYS_VERSION: the version word of the running image's header. -/
def execSysVersion (ph : Fin 8) (tag : BitVec 8) (s : State) : Out :=
  .next (s.serve ph 0x01 tag.toNat (fun t => t.reply ph 0x01 tag.toNat
    [0, t.rdWord (fwSlotBase t.fw.runningSlot + 8), w32 t.fw.runningSlot, t.tree.manifestId,
     w32 t.tree.manifestSlot]))

/-- SYS_FAULT. -/
def execSysFault (ph : Fin 8) (tag : BitVec 8) (s : State) : Out :=
  .next (s.serve ph 0x02 tag.toNat (fun t => t.reply ph 0x02 tag.toNat
    [0, w32 t.highestClass, w32 t.fw.latestCode, w32 t.fw.logHeld]))

/-- SYS_NOTICE_CFG. -/
def execSysNoticeCfg (ph : Fin 8) (tag : BitVec 8) (mask : Word) (s : State) : Out :=
  .next (s.serve ph 0x04 tag.toNat (fun t =>
    ({ t with fw := { t.fw with noticeMask := mask } }).reply ph 0x04 tag.toNat [0]))

/-! ## Bells and latches -/

/-- BELL_RING. -/
def execBellRing (m : Master) (toHost : Bool) (v : Word) (s : State) : Out :=
  .next (s.guarded m blkPigeon (if toHost then 0x110 else 0x100) v [] (fun t =>
    if toHost then t.ringBells v
    else { t with board := { t.board with toDev := t.board.toDev ||| v } }))

/-- BELL_CLEAR. -/
def execBellClear (m : Master) (toHost : Bool) (v : Word) (s : State) : Out :=
  .next (s.guarded m blkPigeon (if toHost then 0x114 else 0x104) v [] (fun t =>
    if toHost then { t with board := { t.board with toHost := t.board.toHost &&& ~~~v } }
    else { t with board := { t.board with toDev := t.board.toDev &&& ~~~v } }))

/-- A W1C write to EV_LATCH_k: direct latches clear, summary latches are not touched (R360). -/
def State.clearLatches (s : State) (k : Nat) (v : Word) : State :=
  { s with board := { s.board with latch := s.board.latch &&& ~~~((v.setWidth 128) <<< (32 * k)) }
           power := if k = 0 ∧ v.getLsbD 21 then { s.power with failSafe := false } else s.power }

/-- EVENT_LATCH_CLEAR. -/
def execEventLatchClear (m : Master) (k : Fin 4) (v : Word) (s : State) : Out :=
  .next (s.guarded m blkEvents (4 * k) v [] (fun t => t.clearLatches k v))

/-- An EVMASK or BELL mask change can make a summary 1, which is an occurrence (R361): the write of a
mask word, with the routes of every summary that it raises. -/
def State.withSummaries (s : State) (f : State → State) : State :=
  let t := f s
  ((List.range 128).filter (fun e => isSummary e && !s.summaryLevel e && t.summaryLevel e)).foldl State.occur t

/-- The refusals of an EV_ROUTE write (R361): a bell route below 8, and a bell route of BELL itself. -/
def routeCodes (e : Nat) (v : Word) : List Nat :=
  if v.getLsbD 15 ∧ (v.toNat / 256 % 32 < 8 ∨ e = 116) then [0x0202] else []

end Sys2Proof.Machine
end

