-- ==== Sys2Proof/Machine/Registers.lean ====
section
/-! DEFINITION. The registers of the unit windows gathered by kind: what each reads as, the codes that a
write may meet beyond the common ones, and what an accepted write does. A write over the bus (R519) and a
PARAM of a Manifest (R71) go through the same definitions. -/

namespace Sys2Proof.Machine

/-- What feeds input 0 and input 1 of a SIDE_DATA unit (R257). -/
def State.sdKind0 (s : State) (w : Nat) : Nat :=
  let u := s.srcOf w 0
  match kindOf u with
  | .fmDemod => 1
  | .ofdm => if s.fld u OFDM.OFDM_CFG_SYSTEM = 0 then 2 else 3
  | _ => 0

def State.sdKind1 (s : State) (w : Nat) : Nat :=
  let u := s.srcOf w 1
  match kindOf u with
  | .audioDec => 1
  | .ofdm => if s.fld u OFDM.OFDM_CFG_SYSTEM = 0 then 2 else 3
  | _ => 0

def State.sdRead (s : State) (w off : Nat) : Word :=
  let v := s.rd w off
  if off = 0x080 then
    SD.SD_STATUS_INPUT1_KIND.put (SD.SD_STATUS_INPUT0_KIND.put v (s.sdKind0 w)) (s.sdKind1 w) else v

/-- A FOLLOW engine's registers as they read: PLAYING and CAP_MS are its lane's, and CUR_M is the margin of the source that
plays (R259, R264, R269). -/
def State.followRead (s : State) (f off : Nat) : Word :=
  let v := s.rd f off
  let n := instOf f
  if off = 0x080 then FOL.FOLLOW_STATUS_PLAYING.put v (s.fld (winLane n) LANE.LANE_STATUS_PLAYING)
  else if off = 0x08C ∧ s.folState f ≠ 0 then
    FOL.MARGINS_CUR_M.put v ((s.liveMargin f (s.folSource f (s.folPlays f)) false) % 65536).toNat
  else if off = 0x09C then FOL.CAP_MS.put v (s.laneCap n % 65536)
  else v

/-- The refusals of a FOLLOW engine's registers: RECENTRE outside WATCH (R270), STANDING_MS above CAP_MS (R278). -/
def State.followCodes (s : State) (f off : Nat) (v : Word) : List Nat :=
  if off = 0x040 then
    (if FOL.FOLLOW_CTL_RECENTRE.of v = 1 ∧ s.fld f FOL.FOLLOW_STATUS_STATE ≠ 1 then [0x0203] else [])
  else if off = 0x124 then (if s.laneCap (instOf f) < FOL.STANDING_MS.of v then [0x0202] else [])
  else []

/-- RECENTRE: the lane ramps to zero, and at zero the delay changes; a lane at zero changes it at once. -/
def State.recentre (s : State) (f : Nat) : State :=
  let lane := winLane (instOf f)
  if s.fld lane LANE.LANE_STATUS_RAMP_STATE = 0 then s.recentred f
  else (s.setAx lane axLaneAsk (s.ax lane axLaneAsk % 2 + 2)).laneSteer lane

/-- WATCH, or STAY where FOLLOW_CTL says so; nothing of a check is left. -/
def State.folRest (s : State) (f : Nat) : State :=
  let t := s.put f FOL.FOLLOW_STATUS_STATE (if s.flag f FOL.FOLLOW_CTL_STAY then 7 else 1)
  [axFolHome, axFolTries, axFolLag, axFolDue, axFolSurvey].foldl (fun u i => u.setAx f i 0) (t.wr f 0x088 0xFFFFFFFF)

/-- The chain of a check is given back; a chain that plays stays. -/
def State.folRelease (s : State) (f : Nat) : State := if s.folPlays f = 0 then s.dropScouts f else s

/-- FOLLOW_CTL is written: STAY holds the engine on its source, dropping a check, and lets it go on; RECENTRE. -/
def State.followCtl (s : State) (f : Nat) (v : Word) : State :=
  let t := s.store f 0x040 v
  let st := s.folState f
  let t1 := if FOL.FOLLOW_CTL_RECENTRE.of v = 1 then t.recentre f else t
  if t1.flag f FOL.FOLLOW_CTL_STAY then
    if 1 ≤ st ∧ st ≤ 4 then (t1.folRelease f).folRest f else t1
  else if st = 7 then t1.folRest f else t1

/-- What a register of a unit or composite window reads as. -/
def State.unitRead (s : State) (w off : Nat) : Word :=
  if off < 0x040 then s.ucbRead w off
  else match kindOf w with
    | .root => s.compRead w off
    | .composite => s.compRead w off
    | .frontEnd => s.feRead w off
    | .lowband => s.feRead w off
    | .antMatrix => s.antRead off
    | .aerialFeed => s.feedRead w off
    | .ddc => s.ddcRead w off
    | .chanFilter => s.filtRead w off
    | .audioFilter => s.filtRead w off
    | .amDemod => s.amRead w off
    | .ofdm => s.ofdmRead w off
    | .detector => s.detRead w off
    | .sideData => s.sdRead w off
    | .audioLane => s.laneRead w off
    | .audioPort => s.portRead w off
    | .queue => s.queueRead w off
    | .twc => s.twcRead off
    | .follow => s.followRead w off
    | _ => s.rd w off

/-- The codes of a LEVEL write: 1 to DEPTH (R349). -/
def State.levelCodes (s : State) (w : Nat) (v : Word) : List Nat :=
  if QUE.Q_THRESH_LEVEL.of v = 0 ∨ s.qDepth w < QUE.Q_THRESH_LEVEL.of v then [0x0202] else []

/-- The codes that a write to a kind-specific register may meet beyond the common ones, whoever writes. -/
def State.kindCodes (s : State) (w off : Nat) (v : Word) : List Nat :=
  match kindOf w with
  | .frontEnd =>
    if off = 0x048 then s.agcCodes w v
    else if off = 0x054 then s.divCodes w v
    else if 0x100 ≤ off then s.gainCodes w off v else []
  | .lowband =>
    if off = 0x048 then s.agcCodes w v else if 0x100 ≤ off then s.gainCodes w off v else []
  | .antMatrix => if 0x040 ≤ off then s.routeCodes90 off v else []
  | .loSynth =>
    if off = 0x044 then s.refModeCodes v else if off = 0x084 then s.calCodes w v else []
  | .aerialFeed => s.feedCodes w off v
  | .ddc => s.ddcCodes w off v
  | .chanFilter => s.filtCodes w off v
  | .audioFilter => s.filtCodes w off v
  | .fmDemod => demodCodes w off v
  | .amDemod => demodCodes w off v
  | .ofdm => s.ofdmCodes w off v
  | .audioLane => s.laneCodes w off v ++ s.laneSlotCodes w off v
  | .audioPort => s.portCodes w off v
  | .queue =>
    if off = 0x040 then s.tapDecCodes w v ++ iqCode (s.store w off v)
    else if off = 0x064 then s.levelCodes w v else []
  | .twc => if off = 0x048 then s.goCodes v else []
  | .follow => s.followCodes w off v
  | _ => []

/-- A staged register takes its word, which waits for APPLY (R59). -/
def State.stage (s : State) (w off : Nat) (v : Word) : State :=
  (s.store w off v).setUnit w { s.unit w with applyPending := true }

/-- An accepted write to a register of a unit window other than UNIT_CTL. -/
def State.unitWritten (s : State) (w off : Nat) (v : Word) : State :=
  if off < 0x040 then s.withSummaries (fun t => t.store w off v)
  else match kindOf w with
    | .frontEnd =>
      if off = 0x040 then s.stage w off v
      else if off = 0x048 then s.agcWritten w v
      else if off = 0x054 then s.divWritten w v
      else s.store w off v
    | .lowband => if off = 0x048 then s.agcWritten w v else s.store w off v
    | .loSynth => if off = 0x084 then s.calCtl w v else s.store w off v
    | .aerialFeed =>
      if off = 0x040 then s.feedCtl w v else if off = 0x044 then s.railTo v else s.store (feedHome w off) off v
    | .ddc => if off = 0x040 then s.stage w off v else s.store w off v
    | .chanFilter =>
      if off = 0x050 then s.swap w (FILT.SWAP_CTL_TARGET.of v) (FILT.SWAP_CTL_FADE_LEN.of v)
      else if 0x800 ≤ off then s.wr (bankBlk w (s.fld w FILT.LOAD_BANK)) (off - 0x800) v
      else s.store w off v
    | .audioFilter =>
      if off = 0x050 then s.swap w (FILT.SWAP_CTL_TARGET.of v) (FILT.SWAP_CTL_FADE_LEN.of v)
      else if 0x800 ≤ off then s.wr (bankBlk w (s.fld w FILT.LOAD_BANK)) (off - 0x800) v
      else s.store w off v
    | .ofdm => if 0x100 ≤ off then s.stage w off v else s.store w off v
    | .audioLane =>
      if off = 0x048 then s.gainWritten w v
      else if off = 0x050 then (s.store w off v).serveSelect (instOf w)
      else s.store w off v
    | .detector => s.detWritten w off v
    | .audioPort =>
      if off = 0x040 then s.portCfgWritten w v
      else if off = 0x048 then s.portCtlWritten w v
      else if 0x210 ≤ off ∧ off < 0x280 ∧ off % 16 = 0 then
        (if PORT.GRP_CTL_GO.of v = 1 ∧ PORT.GRP_CTL_ARM.of v = 0 then s.grpGo ((off - 0x200) / 16) v
         else s.grpWritten ((off - 0x200) / 16) v)
      else s.store w off v
    | .twc =>
      if off = 0x048 then s.twcCmd v else if off = 0x04C then s.twcPush v else s.store w off v
    | .follow => if off = 0x040 then s.followCtl w v else s.store w off v
    | .queue =>
      if off = 0x058 then s.wr w off v else if off = 0x05C then s.consTo w v else s.store w off v
    | _ => s.store w off v

end Sys2Proof.Machine
end

