-- ==== Sys2Proof/Machine/Guestbook.lean ====
section
/-! DEFINITION. The Guestbook (R241–R252): its records in memory, placing, linking, ageing, eviction, feeding, the
checkpoint in MRAM and its restore, the change records, and the commands that firmware serves. -/

namespace Sys2Proof.Machine

/-! ## Records (R241) -/

/-- A record: its four words. -/
structure GRec where
  key : Word
  w1 : Word
  w2 : Word
  w3 : Word
  deriving DecidableEq, Repr

def gbBase : Nat := 0x02000000
def gbAddr (i : Nat) : Nat := gbBase + 16 * i

/-- A free record: all ones. -/
def GRec.free : GRec := ⟨0xFFFFFFFF, 0xFFFFFFFF, 0xFFFFFFFF, 0xFFFFFFFF⟩

def State.gbRec (s : State) (i : Nat) : GRec :=
  ⟨s.rdWord (gbAddr i), s.rdWord (gbAddr i + 4), s.rdWord (gbAddr i + 8), s.rdWord (gbAddr i + 12)⟩

def GRec.words (r : GRec) : List Word := [r.key, r.w1, r.w2, r.w3]

def GRec.system (r : GRec) : Nat := r.w1.toNat / 16777216 % 16
def GRec.freq (r : GRec) : Nat := r.w1.toNat % 16777216
/-- System and frequency: bits 27:0 of word 1. -/
def GRec.place (r : GRec) : Nat := r.w1.toNat % 268435456
def GRec.heardNow (r : GRec) : Bool := r.w1.getLsbD 29
def GRec.quality (r : GRec) : Nat := r.w2.toNat / 256 % 256
def GRec.age (r : GRec) : Nat := r.w2.toNat / 65536
def GRec.link (r : GRec) : Nat := r.w3.toNat % 262144
def GRec.hard (r : GRec) : Bool := r.w3.getLsbD 26
def GRec.fromList (r : GRec) : Bool := r.w3.getLsbD 27
def GRec.pinned (r : GRec) : Bool := r.w3.getLsbD 28
def GRec.forbidden (r : GRec) : Bool := r.w3.getLsbD 29
def GRec.ecc (r : GRec) : Nat := r.key.toNat / 65536 % 256

/-- A bit of a word set or cleared. -/
def setBit (w : Word) (i : Nat) (b : Bool) : Word := if b then w ||| (1#32 <<< i) else w &&& ~~~(1#32 <<< i)

def GRec.setHeard (r : GRec) (b : Bool) : GRec := { r with w1 := setBit r.w1 29 b }
def GRec.setAge (r : GRec) (a : Nat) : GRec := { r with w2 := w32 (r.w2.toNat % 65536 + 65536 * Nat.min a 65535) }
def GRec.setLink (r : GRec) (i : Nat) : GRec := { r with w3 := w32 (r.w3.toNat / 262144 * 262144 + i % 262144) }
def GRec.setHard (r : GRec) (b : Bool) : GRec := { r with w3 := setBit r.w3 26 b }
def GRec.setList (r : GRec) (b : Bool) : GRec := { r with w3 := setBit r.w3 27 b }
def GRec.measure (r : GRec) (field q : Nat) : GRec :=
  { r with w2 := w32 (r.w2.toNat / 65536 * 65536 + q % 256 * 256 + field % 256) }

/-- Does a record hold to the format of R241: a known system, a key of its system's form, PTY_TABLE and the reserved bits as
they may be?
Mark DEDUCED: notes/assumptions/86.md. -/
def GRec.ok (r : GRec) : Bool :=
  decide (r.system ≤ 4) && decide (r.w3.toNat / 1073741824 = 0) && decide (r.w3.toNat / 8388608 % 8 ≤ 3) &&
  (r.system == 2 || decide (r.key.toNat < 16777216)) && (r.system != 1 || r.key == 0)

/-- The frequency range of a system in kHz (R250). -/
def GRec.inRange (r : GRec) : Bool :=
  let f := r.freq
  match r.system with
  | 0 => decide (64000 ≤ f) && decide (f ≤ 108000)
  | 1 => decide (148 ≤ f) && decide (f ≤ 26100)
  | 2 => (decide (174000 ≤ f) && decide (f ≤ 240000)) || (decide (1452000 ≤ f) && decide (f ≤ 1492000))
  | 3 => decide (100 ≤ f) && decide (f ≤ 30000)
  | _ => decide (30000 ≤ f) && decide (f ≤ 1800000)

def State.gbOccupied (s : State) (i : Nat) : Bool := i < 262144 && s.gbRec i != GRec.free

/-- The occupied records in ascending index: a record with any byte off 0xFF is listed in memory. -/
def State.gbAll (s : State) : List Nat :=
  dedup ((s.mem.filter (fun c => gbBase ≤ c.1 && c.1 < gbBase + 0x400000)).map (fun c => (c.1 - gbBase) / 16))

def State.gbCount (s : State) : Nat := s.gbAll.length

/-! ## Writing, change records and dirty pages (R248, R252) -/

/-- The page of a record becomes dirty. -/
def State.gbDirty (s : State) (i : Nat) : State :=
  { s with guest := { s.guest with dirty := Store.set (fun _ => false) s.guest.dirty (i / 16) true } }

/-- The words of a record written (R243: one step of this model, so that no reader sees UPDATING). -/
def State.gbPut (s : State) (i : Nat) (r : GRec) : State := s.wrWords (gbAddr i) r.words

/-- A type 0x0C change record for the configured queue, and GB_CHANGED (R252); a lead mirrors the change (R463). -/
def State.gbChange (s : State) (code idx old : Nat) (r : GRec) : State :=
  let t := (s.raise 91).mirrorMsg 2 ([0x0C, w32 (0xFF00 + code), w32 idx, w32 old] ++ r.words)
  if t.guest.queue = 0x3FF then t
  else
    t.placeRec t.guest.queue ⟨0x0C, 0xFF, ⟨false, false, false⟩, t.clock.epoch.extractLsb' 0 32,
      ([w32 (0xFF00 + code), w32 idx, w32 old] ++ r.words).flatMap bytesOf⟩

/-- A record takes a new content: a change beyond FIELD, QUALITY and AGE marks its page and is told, with code 5
where LINK or HARD_LINK changed and code 2 for the rest. -/
def State.gbSet (s : State) (i : Nat) (r : GRec) : State :=
  let o := s.gbRec i
  let t := s.gbPut i r
  let ring := o.link ≠ r.link ∨ o.hard ≠ r.hard
  let other := o.key ≠ r.key ∨ o.w1 ≠ r.w1 ∨ ((o.setLink 0).setHard false).w3 ≠ ((r.setLink 0).setHard false).w3
  let t1 := if ring ∨ other then t.gbDirty i else t
  let t2 := if other then t1.gbChange 2 i i r else t1
  if ring then t2.gbChange 5 i i r else t2

/-- When unit `u` last wrote FIELD and QUALITY of record `i` is kept under one number. -/
def gbUnitKey (i u : Nat) : Nat := i * 1024 + u

/-- The times kept for a record follow it to another index, or are dropped. -/
def State.gbTimes (s : State) (i : Nat) (j : Option Nat) : State :=
  let z : Nat → Nat := fun _ => 0
  let m := s.guest.measuredAt.filter (fun c => c.1 / 1024 == i)
  let h := Store.get z s.guest.heardAt i
  let g := { s.guest with measuredAt := Store.dropRange (i * 1024) (i * 1024 + 1024) s.guest.measuredAt
                          heardAt := Store.drop s.guest.heardAt i }
  match j with
  | none => { s with guest := g }
  | some k => { s with guest := { g with measuredAt := m.foldl (fun a c => Store.set z a (gbUnitKey k (c.1 % 1024)) c.2) g.measuredAt
                                         heardAt := Store.set z g.heardAt k h } }

/-! ## Placing (R242) -/

def gbHome (key : Word) (m : Nat) : Nat :=
  let mw := w32 m
  (key ^^^ (key >>> 18) ^^^ mw ^^^ (mw >>> 6) ^^^ (mw <<< 12)).toNat % 262144

def GRec.home (r : GRec) : Nat := gbHome r.key r.place

/-- The search of R242 over `n` more slots from slot `i`: the record found, or the first free slot. -/
def State.gbProbe (s : State) (key : Word) (m : Nat) : Nat → Nat → Option Nat × Option Nat
  | 0, _ => (none, none)
  | n + 1, i =>
    let r := s.gbRec i
    if r = GRec.free then (none, some i)
    else if r.key = key ∧ r.place = m then (some i, none)
    else s.gbProbe key m n ((i + 1) % 262144)

def State.gbFind (s : State) (key : Word) (m : Nat) : Option Nat := (s.gbProbe key m 64 (gbHome key m)).1

/-! ## Rings (R245) -/

/-- The members of a record's ring from the record on, at most `n`. -/
def State.ringFuel (s : State) (start : Nat) : Nat → Nat → List Nat
  | 0, _ => []
  | n + 1, i => i :: (let j := (s.gbRec i).link; if j = start then [] else s.ringFuel start n j)

def State.ringOf (s : State) (i : Nat) : List Nat := s.ringFuel i 64 i

/-- The member whose LINK names the record. -/
def State.ringPrev (s : State) (i : Nat) : Nat := ((s.ringOf i).find? (fun j => (s.gbRec j).link == i)).getD i

/-- A record leaves its ring: the rest is linked past it, and a lone rest rests on no link. -/
def State.gbUnring (s : State) (i : Nat) : State :=
  let p := s.ringPrev i
  if p = i then s
  else
    let r := s.gbRec i
    let q := s.gbRec p
    let q1 := q.setLink r.link
    let t := s.gbSet p (if r.link = p then q1.setHard false else q1)
    t.gbSet i ((r.setLink i).setHard false)

/-- Two rings become one; a join of more than 64 is not made and counts. A hard join rests both records on it. -/
def State.gbJoin (s : State) (a b : Nat) (hard : Bool) : State :=
  let ra := s.gbRec a
  let rb := s.gbRec b
  if a = b ∨ ra.key = 0 ∨ rb.key = 0 then s
  else if (s.ringOf a).contains b then
    if hard then (s.gbSet a (ra.setHard true)).gbSet b (rb.setHard true) else s
  else if 64 < (s.ringOf a).length + (s.ringOf b).length then
    { s with guest := { s.guest with ringFullCount := s.guest.ringFullCount + 1 } }.raise 92
  else
    let ra1 := ra.setLink rb.link
    let rb1 := rb.setLink ra.link
    (s.gbSet a (if hard then ra1.setHard true else ra1)).gbSet b (if hard then rb1.setHard true else rb1)

/-! ## Freeing and moving (R242) -/

/-- A record moves into a hole: its ring and the times kept follow it. -/
def State.gbMove (s : State) (i hole : Nat) : State :=
  let r := s.gbRec i
  let p := s.ringPrev i
  let r1 := if r.link = i then r.setLink hole else r
  let t := ((s.gbPut hole r1).gbPut i GRec.free).gbTimes i (some hole)
  let t1 := ((t.gbDirty hole).gbDirty i).gbChange 4 hole i r1
  let t2 := if p = i then t1 else t1.gbSet p ((t1.gbRec p).setLink hole)
  ((List.range 32).map winFollow).foldl (fun u f =>
    let u1 := if u.rd f FOL.CUR_INDEX.off = w32 i then u.wr f FOL.CUR_INDEX.off (w32 hole) else u
    if u1.rd f FOL.CAND_INDEX.off = w32 i then u1.wr f FOL.CAND_INDEX.off (w32 hole) else u1) t2

/-- Later records of a probe run moved back into the hole, up to the first free slot. -/
def State.gbClose (s : State) : Nat → Nat → Nat → State
  | 0, _, _ => s
  | n + 1, hole, j =>
    let r := s.gbRec j
    if r = GRec.free then s
    else
      let next := (j + 1) % 262144
      if (j + 262144 - r.home) % 262144 < (j + 262144 - hole) % 262144 then s.gbClose n hole next
      else (s.gbMove j hole).gbClose n j next

/-- A record is taken out of its ring and its slot freed, with code 3 and the record as it was. -/
def State.gbVacate (s : State) (i : Nat) : State :=
  let r := s.gbRec i
  ((((s.gbUnring i).gbPut i GRec.free).gbTimes i none).gbDirty i).gbChange 3 i i r

/-- A record is freed, and the later records of its run move back. -/
def State.gbFree (s : State) (i : Nat) : State :=
  let t := s.gbVacate i
  t.gbClose (t.gbCount + 1) i ((i + 1) % 262144)

/-! ## Inserting and evicting (R247) -/

/-- Does a FOLLOW engine hold the record as its source or as a candidate?
Mark DEDUCED: notes/assumptions/91.md. -/
def State.gbHeld (s : State) (i : Nat) : Bool :=
  ((List.range 32).map winFollow).any (fun f =>
    s.rd f FOL.CUR_INDEX.off == w32 i || s.rd f FOL.CAND_INDEX.off == w32 i)

/-- Is record `a` at `i` evicted before `b` at `j`: the larger AGE, then FROM_LIST, then the lower QUALITY, then the
higher index? -/
def evictsFirst (a : GRec) (i : Nat) (b : GRec) (j : Nat) : Bool :=
  if a.age ≠ b.age then decide (b.age < a.age)
  else if a.fromList ≠ b.fromList then a.fromList
  else if a.quality ≠ b.quality then decide (a.quality < b.quality)
  else decide (j < i)

/-- The record that an insertion into a full probe run evicts. -/
def State.gbEvict? (s : State) (home : Nat) : Option Nat :=
  (((List.range 64).map (fun p => (home + p) % 262144)).filter (fun i =>
    let r := s.gbRec i
    !r.pinned && !r.heardNow && !s.gbHeld i)).foldl
    (fun a i => match a with
      | none => some i
      | some j => if evictsFirst (s.gbRec i) i (s.gbRec j) j then some i else some j) none

/-- A record inserted as a singleton, and its index; none where no slot can be had. -/
def State.gbInsert (s : State) (r : GRec) : State × Option Nat :=
  let at' := fun (t : State) (i : Nat) =>
    let r1 := (r.setLink i).setHard false
    (((t.gbPut i r1).gbDirty i).gbChange 1 i i r1, some i)
  match s.gbProbe r.key r.place 64 r.home with
  | (_, some i) => at' s i
  | (some i, none) => (s, some i)
  | (none, none) =>
    match s.gbEvict? r.home with
    | some i => at' (s.gbVacate i) i
    | none => ({ s with guest := { s.guest with fullCount := s.guest.fullCount + 1 } }.raise 92, none)

/-! ## Feeding (R244, R245) -/

/-- Equal programme keys join their rings, hard, where the ECC is known: FM and DAB records of one key. -/
def State.gbJoinEqual (s : State) (i : Nat) : State :=
  let r := s.gbRec i
  if (r.system = 0 ∨ r.system = 2) ∧ r.key.toNat < 16777216 ∧ r.ecc ≠ 0 then
    (s.gbAll.filter (fun j =>
      let q := s.gbRec j
      j != i && q.key == r.key && (q.system == 0 || q.system == 2))).foldl
      (fun t j => if (t.ringOf i).contains j ∧ (t.gbRec i).hard ∧ (t.gbRec j).hard then t else t.gbJoin i j true) s
  else s

/-- What a unit has heard of a service: the unit, the service's key, system, frequency, measures and programme data. -/
structure Heard where
  unit : Nat
  key : Word
  system : Nat
  khz : Nat
  field : Nat
  quality : Nat
  tp : Option Bool
  pty : Option (Nat × Nat)
  deriving DecidableEq, Repr

/-- The words of a record as what was heard makes it: HEARD_NOW, AGE 0, FROM_LIST cleared; TP and PTY where known. -/
def Heard.apply (h : Heard) (r : GRec) : GRec :=
  let r1 := ((r.setHeard true).setAge 0).setList false
  let r2 := match h.tp with
    | some b => { r1 with w1 := setBit r1.w1 30 b }
    | none => r1
  match h.pty with
  | some p => { r2 with w3 := w32 (r2.w3.toNat - r2.w3.toNat / 262144 % 256 * 262144 + (p.1 % 32 + p.2 % 8 * 32) * 262144) }
  | none => r2

/-- A service is heard: its record is made if it is missing and brought up to date. A unit writes FIELD and QUALITY at
most once a second. -/
def State.gbHear (s : State) (h : Heard) : State :=
  if !s.guest.ready then s
  else
    let m := h.khz % 16777216 + h.system * 16777216
    let now := s.clock.uptime
    let p := match s.gbFind h.key m with
      | some i => (s, some i)
      | none => s.gbInsert (((h.apply ⟨h.key, w32 m, 0, 0⟩)).measure h.field h.quality)
    match p.2 with
    | none => p.1
    | some i =>
      let t := p.1
      let last := Store.get (fun _ => 0) t.guest.measuredAt (gbUnitKey i h.unit)
      let due := decide (last = 0 ∨ last + secondTicks ≤ now + 1)
      let r := h.apply (t.gbRec i)
      let t1 := t.gbSet i (if due then r.measure h.field h.quality else r)
      let g := { t1.guest with
        heardAt := Store.set (fun _ => 0) t1.guest.heardAt i (now + 1)
        measuredAt := if due then Store.set (fun _ => 0) t1.guest.measuredAt (gbUnitKey i h.unit) (now + 1) else t1.guest.measuredAt }
      ({ t1 with guest := g }).gbJoinEqual i

/-- A service that a list names at a frequency: a record with FROM_LIST if there is none. A record that does not carry
FROM_LIST is never changed. The index of the record, if it stands.
Mark DEDUCED: notes/assumptions/90.md. -/
def State.gbListed (s : State) (key : Word) (system khz : Nat) : State × Option Nat :=
  if !s.guest.ready then (s, none)
  else
    let m := khz % 16777216 + system * 16777216
    match s.gbFind key m with
    | some i =>
      let r := s.gbRec i
      (if r.fromList then s.gbSet i (r.setAge 0) else s, some i)
    | none => match s.gbInsert ⟨key, w32 m, 0, 0x08000000⟩ with
      | (t, some i) => (t.gbJoinEqual i, some i)
      | p => p

/-- A listed frequency of the service whose record stands at `i`: its record joins that ring. -/
def State.gbListJoin (s : State) (i : Option Nat) (key : Word) (system khz : Nat) (hard : Bool) : State :=
  let p := s.gbListed key system khz
  match i, p.2 with
  | some a, some b => p.1.gbJoin a b hard
  | _, _ => p.1

/-! ## The sweep (R246) -/

/-- AGE and HEARD_NOW of one record at a sweep. -/
def State.gbAgeOne (s : State) (i : Nat) : State :=
  let r := s.gbRec i
  if !r.ok then s
  else
    let r1 := if r.heardNow then r else r.setAge (r.age + 1)
    let quiet := Store.get (fun _ => 0) s.guest.heardAt i + 10 * secondTicks ≤ s.clock.uptime + 1
    s.gbSet i (if r1.heardNow ∧ quiet then r1.setHeard false else r1)

/-- Does another record have this one's identity, and is that one the record that the search of R242 finds, or where it
finds neither the one of lower index?
Mark DEDUCED: notes/assumptions/207.md. -/
def State.gbTwin (s : State) (i : Nat) : Bool :=
  let r := s.gbRec i
  let found := s.gbFind r.key r.place
  s.gbAll.any (fun j => j != i && (s.gbRec j).key == r.key && (s.gbRec j).place == r.place &&
    (found == some j || (found != some i && decide (j < i))))

/-- Does a record break R241: by its format, or because it shares its identity? -/
def State.gbBroken (s : State) (i : Nat) : Bool := !(s.gbRec i).ok || s.gbTwin i

/-- Does a sweep free the record: it breaks R241, or its time is over and nothing keeps it? A PINNED record that breaks R241 is
freed too: R243 frees every such record, and R246 keeps the PINNED ones from ageing.
Mark DESIGN CHOICE: notes/assumptions/262.md. -/
def State.gbExpired (s : State) (i : Nat) : Bool :=
  let r := s.gbRec i
  s.gbBroken i || (!r.pinned && !s.gbHeld i &&
    ((r.fromList && decide (s.guest.listExpiry ≤ r.age)) ||
     (!r.fromList && s.guest.maxAge != 65535 && decide (s.guest.maxAge ≤ r.age))))

/-- The expired records freed, one after another; a record that breaks R241 counts. -/
def State.gbPurge (s : State) : Nat → State
  | 0 => s
  | n + 1 => match s.gbAll.find? s.gbExpired with
    | none => s
    | some i =>
      let t := if !s.gbBroken i then s else { s with guest := { s.guest with badRecords := s.guest.badRecords + 1 } }
      (t.gbFree i).gbPurge n

/-- GB_SWEEP: once a minute of operation. -/
def execGbSweep (s : State) : Out :=
  .next (if s.guest.ready && s.fw.inService then
    let t := s.gbAll.foldl State.gbAgeOne s
    t.gbPurge t.gbCount
  else s)

/-! ## Checkpoint and restore (R248–R250) -/

def ckptBase : Nat := 0x042C0000

/-- The pages copied whole to the checkpoint; a page written is no longer dirty. -/
def State.gbSave (s : State) (pages : List Nat) : State :=
  pages.foldl (fun t p =>
    let u := t.wrBytes (ckptBase + 256 * p) (t.rdBytes (gbBase + 256 * p) 256)
    { u with guest := { u.guest with dirty := Store.set (fun _ => false) u.guest.dirty p false } }) s

def State.gbDirtyPages (s : State) : List Nat := s.guest.dirty.map Prod.fst

/-- May the checkpoint run: firmware serves, the restore is done, and no Saddlebag save is under way (R249)? -/
def State.ckptRuns (s : State) : Bool := s.fw.inService && s.guest.ready && s.power.saving == 0

/-- GB_CHECKPOINT_WRITE: every CKPT_MIN minutes the dirty pages are written; CKPT_MIN 0 writes none.
Mark DEDUCED: notes/assumptions/89.md. -/
def execGbCheckpointWrite (s : State) : Out :=
  .next (if s.ckptRuns && s.guest.ckptMin != 0 then s.gbSave s.gbDirtyPages else s)

/-- GB_DAILY_CHECKPOINT: every 24 hours of operation every page that holds an occupied record is written, whatever CKPT_MIN
says (R248). -/
def execGbDailyCheckpoint (s : State) : Out :=
  .next (if s.ckptRuns then s.gbSave (dedup (s.gbAll.map (fun i => i / 16))) else s)

/-- Records freed with no change record and no ring work, then the later ones of their runs closed up. -/
def State.gbDrop (s : State) (i : Nat) : State :=
  let t := (s.gbPut i GRec.free).gbDirty i
  t.gbClose (t.gbCount + 1) i ((i + 1) % 262144)

/-- The bytes of the region replaced by those of the checkpoint. -/
def State.gbLoad (s : State) : State :=
  let below := s.mem.filter (fun c => c.1 < gbBase)
  let above := s.mem.filter (fun c => gbBase + 0x400000 ≤ c.1)
  let copy := (s.mem.filter (fun c => ckptBase ≤ c.1 && c.1 < ckptBase + 0x400000)).map
    (fun c => (c.1 - ckptBase + gbBase, c.2))
  { s with mem := below ++ copy ++ above }

/-- The region as free records (before its restore, and at GB_CLEAR). -/
def State.gbErase (s : State) : State :=
  { s with mem := Store.dropRange gbBase (gbBase + 0x400000) s.mem }

/-- Does the ring of a record close within 64 steps, through occupied records? -/
def State.ringCloses (s : State) (i : Nat) : Bool :=
  let ms := s.ringOf i
  ms.all s.gbOccupied && (match ms.getLast? with
    | some j => (s.gbRec j).link == i
    | none => false)

/-- The bad records of a restored Guestbook freed, one after another. -/
def State.gbSift (s : State) : Nat → State
  | 0 => s
  | n + 1 => match s.gbAll.find? (fun i => s.gbBroken i || (s.gbRec i).w1.getLsbD 31 || !(s.gbRec i).inRange) with
    | none => s
    | some i => (s.gbDrop i).gbSift n

/-- A record as the restore leaves it; its page becomes dirty where that changes it (R248). -/
def State.gbMend (s : State) (i : Nat) (r : GRec) : State := if s.gbRec i = r then s else (s.gbPut i r).gbDirty i

/-- The Guestbook as the checkpoint gives it (R250). -/
def State.gbRestore (s : State) : State :=
  let t := { s.gbLoad with guest := { s.guest with dirty := [] } }
  let t1 := t.gbSift t.gbCount
  let open' := t1.gbAll.filter (fun i => !t1.ringCloses i)
  let t2 := open'.foldl (fun u i => u.gbMend i (((u.gbRec i).setLink i).setHard false)) t1
  let t3 := t2.gbAll.foldl (fun u i => u.gbMend i ((u.gbRec i).setHeard false)) t2
  { t3 with guest := { t3.guest with ready := true, measuredAt := [], heardAt := [] } }

/-- GB_RESTORE_DONE: the restore completes and GB_READY is raised; one that a save stopped waits for the next boot (R256). The changes that the restore itself makes are told
to no queue, which GB_CONFIG has not named yet.
Mark DEDUCED: notes/assumptions/92.md. -/
def execGbRestoreDone (s : State) : Out :=
  .next (if !s.guest.ready && !s.guest.stopped && s.fw.inService then
    let latch := s.board.latch
    let t := s.gbRestore
    ({ t with board := { t.board with latch := latch } }).raise 93
  else s)

/-! ## Commands (R251) -/

def arg (args : List Word) (i : Nat) : Nat := (args.getD i 0).toNat

/-- A Guestbook command: refused with 0x0311 until the restore completes; a lead mirrors it (R463). -/
def State.gbServe (s : State) (ph : Fin 8) (op : Nat) (tag : BitVec 8) (args : List Word) (body : State → State × List Word) : State :=
  s.serve ph op tag.toNat (fun t =>
    if !t.guest.ready then t.reply ph op tag.toNat [0x0311]
    else
      let p := body (t.mirrorMsg 2 (w32 op :: args))
      p.1.reply ph op tag.toNat p.2)

/-- GB_CONFIG. A value outside its range is refused whole. -/
def execGbConfig (ph : Fin 8) (tag : BitVec 8) (args : List Word) (s : State) : Out :=
  .next (s.gbServe ph 0x40 tag args (fun t =>
    let q := arg args 0
    if (q ≠ 0x3FF ∧ kindOf q ≠ .queue) ∨ 255 < arg args 1 ∨ arg args 2 = 0 ∨ 65535 < arg args 2 ∨ arg args 3 = 0 ∨
        65535 < arg args 3 then (t, [0x0202])
    else ({ t with guest := { t.guest with queue := q, ckptMin := arg args 1, maxAge := arg args 2, listExpiry := arg args 3 } }, [0])))

/-- GB_LOOKUP: by identity, or with FREQ_KHZ 0 by key and system, the lowest index first. -/
def execGbLookup (ph : Fin 8) (tag : BitVec 8) (args : List Word) (s : State) : Out :=
  .next (s.gbServe ph 0x41 tag args (fun t =>
    let key := args.getD 0 0
    let m := arg args 1 % 268435456
    let i? := if m % 16777216 = 0 then
        t.gbAll.find? (fun i => (t.gbRec i).key == key && (t.gbRec i).system == m / 16777216)
      else t.gbFind key m
    match i? with
    | some i => (t, [0, w32 i] ++ (t.gbRec i).words)
    | none => (t, [0, 0xFFFFFFFF] ++ GRec.free.words)))

/-- GB_INSERT: the record starts as a singleton, and joins the ring of an equal key (R245).
Mark DEDUCED: notes/assumptions/88.md. -/
def execGbInsert (ph : Fin 8) (tag : BitVec 8) (args : List Word) (s : State) : Out :=
  .next (s.gbServe ph 0x42 tag args (fun t =>
    let r : GRec := ⟨args.getD 0 0, setBit (args.getD 1 0) 31 false, args.getD 2 0, args.getD 3 0⟩
    if !r.ok then (t, [0x0231])
    else
      match t.gbFind r.key r.place with
      | some i => (t.gbSet i { r with w3 := w32 (r.w3.toNat - r.w3.toNat % 262144 + (t.gbRec i).link) }, [0, w32 i])
      | none =>
        match t.gbInsert r with
        | (u, some i) => (u.gbJoinEqual i, [0, w32 i])
        | (u, none) => (u, [0x0310])))

/-- GB_DELETE. -/
def execGbDelete (ph : Fin 8) (tag : BitVec 8) (args : List Word) (s : State) : Out :=
  .next (s.gbServe ph 0x43 tag args (fun t =>
    if t.gbOccupied (arg args 0) then (t.gbFree (arg args 0), [0]) else (t, [0x0230])))

/-- GB_FLAGS: PINNED and FORBIDDEN, at their bits of word 3, where the mask has them.
Mark DEDUCED: notes/assumptions/87.md. -/
def execGbFlags (ph : Fin 8) (tag : BitVec 8) (args : List Word) (s : State) : Out :=
  .next (s.gbServe ph 0x44 tag args (fun t =>
    let i := arg args 0
    if t.gbOccupied i then
      let mask := args.getD 1 0 &&& 0x30000000#32
      let r := t.gbRec i
      let u := t.gbSet i { r with w3 := (r.w3 &&& ~~~mask) ||| (args.getD 2 0 &&& mask) }
      (u, 0 :: (u.gbRec i).words)
    else (t, [0x0230])))

/-- GB_LINK. -/
def execGbLink (ph : Fin 8) (tag : BitVec 8) (args : List Word) (s : State) : Out :=
  .next (s.gbServe ph 0x45 tag args (fun t =>
    if t.gbOccupied (arg args 0) && t.gbOccupied (arg args 1) then
      (t.gbJoin (arg args 0) (arg args 1) ((args.getD 2 0).getLsbD 0), [0])
    else (t, [0x0230])))

/-- GB_UNLINK. -/
def execGbUnlink (ph : Fin 8) (tag : BitVec 8) (args : List Word) (s : State) : Out :=
  .next (s.gbServe ph 0x46 tag args (fun t =>
    if t.gbOccupied (arg args 0) then (t.gbUnring (arg args 0), [0]) else (t, [0x0230])))

/-- GB_CHECKPOINT: the dirty pages are written; the reply says how many. -/
def execGbCheckpoint (ph : Fin 8) (tag : BitVec 8) (args : List Word) (s : State) : Out :=
  .next (s.gbServe ph 0x47 tag args (fun t =>
    if t.ckptRuns then (t.gbSave t.gbDirtyPages, [0, w32 t.gbDirtyPages.length]) else (t, [0, 0])))

/-- GB_CLEAR: every record is freed, with a change record each, and the checkpoint goes back to 0xFF. -/
def execGbClear (ph : Fin 8) (tag : BitVec 8) (args : List Word) (s : State) : Out :=
  .next (s.gbServe ph 0x48 tag args (fun t =>
    if args.getD 0 0 ≠ 0x47424358 then (t, [0x0202])
    else
      let u := t.gbAll.foldl (fun u i => u.gbChange 3 i i (t.gbRec i)) t
      let v := u.gbErase
      ({ v with mem := Store.dropRange ckptBase (ckptBase + 0x400000) v.mem
                guest := { v.guest with dirty := [], measuredAt := [], heardAt := [] } }, [0])))

/-- GB_STATUS: served before the restore as well. -/
def execGbStatus (ph : Fin 8) (tag : BitVec 8) (_args : List Word) (s : State) : Out :=
  .next (s.serve ph 0x49 tag.toNat (fun t => t.reply ph 0x49 tag.toNat
    [0, w32 (b2n t.guest.ready + 256 * (if t.guest.ready then t.gbCount else 0)), w32 t.gbDirtyPages.length, t.guest.fullCount, t.guest.ringFullCount,
     t.guest.badRecords]))

end Sys2Proof.Machine
end

