-- ==== Sys2Proof/Machine/SideData.lean ====
section
/-! DEFINITION. The SIDE_DATA units (R229–R240, R528): RDS blocks and their items, FIGs, PAD, packet mode, DRM
side data, quality reports and announcement records, the records they queue and what they feed the Guestbook. -/

namespace Sys2Proof.Machine

/-- KIND_EVENTS of SIDE_DATA (R258). -/
def evSdSync : Nat := 16
def evSdLost : Nat := 17
def evSdPi : Nat := 18
def evSdPs : Nat := 19
def evSdTa : Nat := 20
def evSdAf : Nat := 21
def evSdAnn : Nat := 22
def evSdDropped : Nat := 23

/-- Hidden slots of a SIDE_DATA unit: which block of the group comes next, the stamp of block A, what is known of TP (1)
and PTY (2), and from slot 8 on, for each field of R234, a weak value that waits for its repetition and the last value
interpreted. -/
def axSdNext : Nat := 0
def axSdTime : Nat := 2
def axSdKnown : Nat := 3
def axSdField (f : Nat) : Nat := 8 + 2 * f

/-- Histories of a SIDE_DATA unit: the outcomes of the last 50 blocks (1 uncorrectable), the blocks of the group
(each plus one, 0 missing), the PS segments received since the last commit, the last AF list, the clean blocks of the last
26 bits before synchronisation (the stamp of the first bit × 256, age in bits × 8, offset), FIGs queued (bytes, epoch). -/
def hsSdBlocks : Nat := 0
def hsSdGroup : Nat := 1
def hsSdPs : Nat := 2
def hsSdAf : Nat := 3
def hsSdSeek : Nat := 4
def hsSdFigs : Nat := 5

/-- Collections of a SIDE_DATA unit: kind `k`, part `i`. They go at a restart. -/
def blSd (w k i : Nat) : Nat := sdBase w + 16777216 * k + i

/-- Their kinds: ODA registrations (group code × 65,536 + AID); the RT under way; the AF list under way; the last group of
each code; by PI(ON) another network, its AF list under way and its last one; the PIs of other networks; by address the data
group under way; the services heard (SId × 4 + 2 for a 32-bit one + 1 with its label); the frequencies of ensembles
(EId × 2²⁴ + kHz); services of other ensembles (SId × 65,536 + EId); members of linkage sets; SDC entity types received; X-PAD
indicators in force; by application the X-PAD group under way; the length that indicator 1 gave; the DLS message under
way; the services of a DRM multiplex by short ID, each plus one. -/
def sdOda : Nat := 0
def sdRt : Nat := 1
def sdAf : Nat := 2
def sdPrev : Nat := 3
def sdNet : Nat := 4
def sdNetAf : Nat := 5
def sdNetLast : Nat := 6
def sdNets : Nat := 7
def sdGroups : Nat := 8
def sdServices : Nat := 9
def sdEnsembles : Nat := 10
def sdOthers : Nat := 11
def sdLinks : Nat := 12
def sdEntities : Nat := 13
def sdCis : Nat := 14
def sdPad : Nat := 15
def sdPadLen : Nat := 16
def sdDls : Nat := 17
def sdShort : Nat := 18

/-- A number joins a set, as its last. -/
def addTo (l : List Nat) (x : Nat) : List Nat := if l.contains x then l else l ++ [x]

/-! ## Frequencies -/

/-- The block centres of EN 300 401 in kHz.
Mark PRESUMED: notes/assumptions/95.md. -/
def dabCentres : List Nat :=
  ([174928, 181936, 188928, 195936, 202928, 209936, 216928, 223936].flatMap
    (fun a => (List.range 4).map (fun k => a + 1712 * k))) ++ [230784, 232496, 234208, 235776, 237488, 239200] ++
  ((List.range 23).map (fun k => 1452960 + 1712 * k))

/-- The block centre within 16 kHz of a frequency, else the frequency itself (R241). -/
def dabSnap (khz : Nat) : Nat :=
  (dabCentres.find? (fun c => decide (c ≤ khz + 16 ∧ khz ≤ c + 16))).getD khz

/-- The absolute frequency of the channel that feeds a demodulator or engine (R241). -/
def State.chanKhz (s : State) (u : Nat) : Nat :=
  let d := s.srcOf u 0 - 0x40
  let f := s.srcOf d 0
  let nco := s.sfld d DDC.NCO_ACTIVE
  let khz := if f = 0x014 then roundAway (nco * 98304) 4294967296
    else (s.ax f axFeCentre : Int) + roundAway (nco * 245760) 4294967296
  if kindOf u = .ofdm ∧ s.fld u OFDM.OFDM_CFG_SYSTEM = 0 then dabSnap khz.toNat else khz.toNat

/-- FIELD of a demodulator or engine: half its LEVEL_DBUV, from 0 to 255. -/
def State.fieldOf (s : State) (u : Nat) : Nat := (clampI 0 255 (s.sfld u FM.LEVEL_LEVEL_DBUV / 2)).toNat

/-! ## Records (R230, R231, R239) -/

/-- What a side-data record carries beside its data. -/
structure SdRec where
  type : Nat
  sub : Nat
  sel : Nat
  info : Nat
  time : Word
  err : Bool
  data : List Byte
  deriving DecidableEq, Repr

def byteOf (n : Nat) : Byte := BitVec.ofNat 8 n
def half (n : Nat) : List Byte := [byteOf n, byteOf (n / 256)]
/-- `n` numbers, zeros for those that are missing. -/
def fitNats (n : Nat) (l : List Nat) : List Nat := (l ++ List.replicate n 0).take n

/-- Numbers two by two. -/
def natPairs : List Nat → List (Nat × Nat)
  | a :: b :: l => (a, b) :: natPairs l
  | _ => []

def wordsBytes (ws : List Nat) : List Byte := ws.flatMap (fun n => bytesOf (w32 n))

/-- A record is queued where output 0 is linked; one that finds no room is dropped and counted. -/
def State.sdQueue (s : State) (w : Nat) (r : SdRec) : State :=
  match s.queueOf w 0 with
  | none => s
  | some q =>
    let rec' : Rec := ⟨r.type, w - 0x140, ⟨r.err, s.ax w axSdMark == 1, false⟩, r.time,
      bytesOf (w32 (r.sub + 256 * r.sel + 65536 * (r.info % 65536))) ++ r.data⟩
    let t := s.placeRec q rec'
    if s.recDropped q rec' then (t.count w SD.DROP_COUNT).raiseKind w evSdDropped
    else if s.qTakes q then (t.bump w SD.RECORD_COUNT).setAx w axSdMark 0
    else t

/-- A record under its mask: queued only where the mask bit is 1, and with failed content only under PASS_BAD. -/
def State.sdSend (s : State) (w : Nat) (mask : Bool) (r : SdRec) : State :=
  if mask && (!r.err || s.flag w SD.SD_CFG_PASS_BAD) then s.sdQueue w r else s

def State.itemOn (s : State) (w sub : Nat) : Bool := (s.fld w SD.ITEMS).testBit sub

/-- Does the unit decode (R528)? -/
def State.sdRuns (s : State) (w : Nat) : Bool := s.atomState w == stRUN

/-- A type 0x0D record and its event (R239, R240): `flags` bit 0 Alarm, bit 1 another service.
Mark DEDUCED: notes/assumptions/98.md. -/
def State.sdAnnounce (s : State) (w : Nat) (start : Bool) (asw system cluster sub flags : Nat) (key : Word) (khz : Nat)
    (time : Word) : State :=
  (s.sdSend w (s.flag w SD.ANN) ⟨0x0D, b2n (!start), 0xFF, asw, time, false,
    [byteOf system, byteOf cluster, byteOf sub, byteOf flags] ++ bytesOf key ++ wordsBytes [khz]⟩).raiseKind w evSdAnn

/-! ## Feeding the Guestbook (R244) -/

/-- A service of the unit's own channel is heard.
Mark DEDUCED: notes/assumptions/99.md. -/
def State.sdHear (s : State) (w : Nat) (key : Word) (tp : Option Bool) (pty : Option (Nat × Nat)) : State :=
  if s.flag w SD.SD_CFG_GB_FEED then
    let u := s.srcOf w 0
    s.gbHear ⟨w, key, s.systemOf u, s.chanKhz u, s.fieldOf u, s.qualityOf u, tp, pty⟩
  else s

/-- The record of a service heard on the unit's own channel. -/
def State.sdOwn (s : State) (w : Nat) (key : Word) : Option Nat :=
  let u := s.srcOf w 0
  s.gbFind key (s.chanKhz u % 16777216 + s.systemOf u * 16777216)

/-- The key of the service of an FM channel. -/
def State.rdsKey (s : State) (w : Nat) : Word := w32 (s.fld w SD.ID % 65536 + 65536 * s.fld w SD.ECC)

/-- Frequencies that a list names for the service whose record stands at `i`, each joined to it, by a hard link or a soft one.
An AM frequency has a record with KEY 0, which no ring takes.
Mark DEDUCED: notes/assumptions/268.md. -/
def State.sdListed (s : State) (i : Option Nat) (key : Word) (system : Nat) (khz : List Nat) (hard : Bool) : State :=
  khz.foldl (fun t f => if system = 1 ∨ (system = 0 ∧ f < 64000) then (t.gbListed 0 1 f).1
    else t.gbListJoin i key system f hard) s

/-- The frequencies of a list that describes the service itself. -/
def State.sdList (s : State) (i : Option Nat) (key : Word) (system : Nat) (khz : List Nat) : State :=
  s.sdListed i key system khz true

/-! ## RDS fields (R233, R234) -/

/-- A field is received in a block with `bad` corrected bits (6 and more uncorrectable): the values now interpreted.
A weak block's value waits until the next one repeats it. -/
def State.fieldSeen (s : State) (w f v bad : Nat) : State × List Nat :=
  let p := s.ax w (axSdField f)
  let out := (if p = v + 1 ∧ bad ≤ 5 then [v] else []) ++ (if bad ≤ 2 then [v] else [])
  (s.setAx w (axSdField f) (if 3 ≤ bad ∧ bad ≤ 5 then v + 1 else 0), out)

/-- The values of a field that count as taken: each equal to the one interpreted just before it.
Mark DEDUCED: notes/assumptions/96.md. -/
def State.twoEqual (s : State) (w f : Nat) : List Nat → State × Option Nat
  | [] => (s, none)
  | v :: vs =>
    let p := (s.setAx w (axSdField f + 1) (v + 1)).twoEqual w f vs
    (p.1, match p.2 with
      | some u => some u
      | none => if s.ax w (axSdField f + 1) = v + 1 then some v else none)

/-- A field that is taken when two consecutive values are equal. -/
def State.fieldTaken (s : State) (w f v bad : Nat) : State × Option Nat :=
  let p := s.fieldSeen w f v bad
  p.1.twoEqual w f p.2

/-- The collection of PS, ECC, AF and RT starts anew at a PI change. -/
def State.sdCollect (s : State) (w : Nat) : State :=
  let t := (((((s.put w SD.SD_STATUS_PS_VALID 0).put w SD.ECC 0).setHs w hsSdPs []).setHs w hsSdAf []).setBl (blSd w sdRt 0)
    []).setBl (blSd w sdAf 0) []
  [18, 19, 24, 26, 28, 30].foldl (fun u i => u.setAx w i 0) (t.setAx w axSdMark 1)

/-- PI is taken. -/
def State.piTaken (s : State) (w v : Nat) : State :=
  let old := s.fld w SD.ID
  let t := if old = v then s
    else (((if old = 0 then s else s.sdCollect w).put w SD.ID v).raiseKind w evSdPi)
  t.put w SD.SD_STATUS_PI_VALID 1

def State.piSeen (s : State) (w v bad : Nat) : State :=
  let p := s.fieldTaken w 0 v bad
  match p.2 with
  | some x => p.1.piTaken w x
  | none => p.1

/-- TA is taken: its change is told, with a type 0x0D record where TP is 1. -/
def State.taTaken (s : State) (w v : Nat) : State :=
  if s.fld w SD.SD_STATUS_TA = v then s
  else
    let t := (s.put w SD.SD_STATUS_TA v).raiseKind w evSdTa
    if t.flag w SD.SD_STATUS_TP then
      t.sdAnnounce w (v == 1) 2 0 0 0xFF 0 (t.rdsKey w) (t.chanKhz (t.srcOf w 0)) (w32 (t.ax w axSdTime))
    else t

/-- A taken field written by `f`, if it is taken. -/
def onTaken (p : State × Option Nat) (f : State → Nat → State) : State :=
  match p.2 with
  | some v => f p.1 v
  | none => p.1

/-- The block-B fields: TP, PTY, and in group 0 TA and MS. -/
def State.blockB (s : State) (w info bad : Nat) : State :=
  let t := onTaken (s.fieldTaken w 1 (info / 32 % 32) bad)
    (fun u v => (u.put w SD.SD_STATUS_PTY v).setAx w axSdKnown (u.ax w axSdKnown ||| 2))
  let t1 := onTaken (t.fieldTaken w 2 (info / 1024 % 2) bad)
    (fun u v => (u.put w SD.SD_STATUS_TP v).setAx w axSdKnown (u.ax w axSdKnown ||| 1))
  if info / 4096 = 0 then
    let t2 := onTaken (t1.fieldTaken w 4 (info / 8 % 2) bad) (fun u v => u.put w SD.SD_STATUS_MS v)
    onTaken (t2.fieldTaken w 3 (info / 16 % 2) bad) (fun u v => u.taTaken w v)
  else t1

/-- PS is committed once all four segments have come: PS_0 and PS_1, and its record.
Mark DEDUCED: notes/assumptions/97.md. -/
def State.psCommit (s : State) (w : Nat) (seg : List Nat) : State :=
  let c := seg.map (fun x => x - 1)
  let swap := fun (n : Nat) => n / 256 + n % 256 * 256
  let lo := swap (c.getD 0 0) + 65536 * swap (c.getD 1 0)
  let hi := swap (c.getD 2 0) + 65536 * swap (c.getD 3 0)
  let new := !(s.flag w SD.SD_STATUS_PS_VALID && s.rd w 0x088 == w32 lo && s.rd w 0x08C == w32 hi)
  let t := (((s.wr w 0x088 (w32 lo)).wr w 0x08C (w32 hi)).put w SD.SD_STATUS_PS_VALID 1).setHs w hsSdPs []
  let t1 := if new then t.raiseKind w evSdPs else t
  t1.sdSend w (t1.itemOn w 1) ⟨1, 1, 0xFF, t1.fld w SD.ID, w32 (t1.ax w axSdTime), false, wordsBytes [lo, hi]⟩

/-- A PS segment of two characters. -/
def State.psSegment (s : State) (w k v bad : Nat) : State :=
  let p := s.fieldSeen w (8 + k) v bad
  match p.2.getLast? with
  | none => p.1
  | some x =>
    let old := (p.1.hs w hsSdPs).map Int.toNat
    let seg := (List.range 4).map (fun i => if i = k then x + 1 else old.getD i 0)
    if seg.all (fun n => n != 0) then p.1.psCommit w seg
    else p.1.setHs w hsSdPs (seg.map Int.ofNat)

/-- Block `i` (0 A to 3 D) of the group in hand: its information plus its status byte times 65,536; none if missing.
Mark PRESUMED: notes/assumptions/94.md. -/
def State.groupBlock (s : State) (w i : Nat) : Option Nat :=
  match (s.hs w hsSdGroup)[i]? with
  | some (Int.ofNat (n + 1)) => some n
  | _ => none

/-- Corrected bits of a kept block; 7 uncorrectable. -/
def blockBad (n : Nat) : Nat := n / 65536 % 8

/-- Block B of the group in hand, if it says what the group is: it was good. -/
def State.groupB (s : State) (w : Nat) : Option Nat :=
  match s.groupBlock w 1 with
  | some n => if blockBad n ≤ 2 then some (n % 65536) else none
  | none => none

/-- The twelve bytes of the group in hand: four blocks, four status bytes. -/
def State.groupBytes (s : State) (w : Nat) : List Byte :=
  let b := (List.range 4).map (fun i => (s.groupBlock w i).getD (7 * 65536))
  b.flatMap half ++ b.map (fun n => byteOf (n / 65536))

def State.groupBad (s : State) (w : Nat) : Bool :=
  (List.range 4).any (fun i => match s.groupBlock w i with
    | some n => 6 ≤ blockBad n
    | none => true)

/-! ## RDS items (R234, R239) -/

def State.rdsRec (s : State) (w sub info : Nat) (err : Bool) (data : List Byte) : State :=
  s.sdSend w (s.itemOn w sub) ⟨1, sub, 0xFF, info, w32 (s.ax w axSdTime), err, data⟩

/-- What block `i` of the group in hand says of a group's items: it was good, or it repeats that block of the last group of
the same code under the same block B (R233). -/
def State.groupUse (s : State) (w g i : Nat) : Option Nat :=
  match s.groupBlock w i with
  | none => none
  | some n =>
    let v := n % 65536
    let p := s.bl (blSd w sdPrev (g / 2048))
    if blockBad n ≤ 2 then some v
    else if blockBad n ≤ 5 ∧ p.getD 1 0 = g + 1 ∧ p.getD i 0 = v + 1 then some v
    else none

/-- The group in hand becomes the last of its code: what its correctable blocks held, plus one. -/
def State.groupKeep (s : State) (w g : Nat) : State :=
  s.setBl (blSd w sdPrev (g / 2048)) ((List.range 4).map (fun i => match s.groupBlock w i with
    | some n => if blockBad n ≤ 5 then n % 65536 + 1 else 0
    | none => 0))

/-- Is the whole group good? -/
def State.groupGood (s : State) (w : Nat) : Bool :=
  (List.range 4).all (fun i => match s.groupBlock w i with
    | some n => blockBad n ≤ 2
    | none => false)

/-- The characters of a radiotext from its start: up to the first one missing (0) or to 0x0D. -/
def rtText (cs : List Nat) : List Byte := (cs.takeWhile (fun c => c != 0 && c != 14)).map (fun c => byteOf (c - 1))

/-- Is a radiotext complete: every character is there, or those before a 0x0D? -/
def rtComplete (cs : List Nat) : Bool :=
  let n := (cs.takeWhile (fun c => c != 0 && c != 14)).length
  n == cs.length || cs.getD n 0 == 14

def State.rtSend (s : State) (w code : Nat) (cs : List Nat) : State :=
  if (rtText cs).isEmpty then s else s.rdsRec w 2 (code % 4) false (rtText cs)

/-- Characters of radiotext at a place, under an A/B flag and version. What was collected under the other flag is taken as
the flag toggles, unless it has been already.
Mark DEDUCED: notes/assumptions/208.md. -/
def State.rtSegment (s : State) (w code place len : Nat) (cs : List (Option Nat)) : State :=
  let key := blSd w sdRt 0
  let old := s.bl key
  let same := old.headD 8 % 4 == code
  let s1 := if !old.isEmpty && !same && old.headD 0 < 4 then s.rtSend w (old.headD 0) (old.drop 1) else s
  let base := if same then old.drop 1 else List.replicate len 0
  let new := (List.range len).map (fun i => match (if place ≤ i then (cs[i - place]?).join else none) with
    | some c => c + 1
    | none => base.getD i 0)
  if rtComplete new then (s1.rtSend w code new).setBl key ((code + 4) :: List.replicate len 0)
  else s1.setBl key ((if same then old.headD 0 else code) :: new)

/-- The two characters of a block. -/
def twoChars (v : Option Nat) : List (Option Nat) :=
  match v with
  | some n => [some (n / 256), some (n % 256)]
  | none => [none, none]

/-- A complete AF list of the station itself, if it differs from the last one. -/
def State.afTaken (s : State) (w : Nat) (l : List Nat) : State :=
  let r := afList l
  let code := ([b2n r.1, r.2.1] ++ r.2.2).map Int.ofNat
  if s.hs w hsSdAf = code then s
  else
    let t := ((s.setHs w hsSdAf code).rdsRec w 5 (s.fld w SD.ID) false
      ([byteOf (b2n r.1), byteOf r.2.2.length, 0, 0] ++ wordsBytes (r.2.1 :: r.2.2))).raiseKind w evSdAf
    if t.flag w SD.SD_CFG_GB_FEED && t.flag w SD.SD_STATUS_PI_VALID then
      t.sdList (t.sdOwn w (t.rdsKey w)) (t.rdsKey w) 0 r.2.2
    else t

/-- Two AF codes of the station. -/
def State.afCodes (s : State) (w v : Nat) : State :=
  let key := blSd w sdAf 0
  let l := afPut (afPut (s.bl key) (v / 256)) (v % 256)
  if afComplete l then (s.setBl key []).afTaken w l else s.setBl key l

/-! ## Other networks (R234): TP, TA plus one, PTY, the PS segments under way and the PS taken, each plus one -/

def State.net (s : State) (w pi : Nat) : List Nat := fitNats 11 (s.bl (blSd w sdNet pi))

/-- The type 0x01 subtype 0x06 record of another network.
Mark DEDUCED: notes/assumptions/227.md. -/
def State.netSend (s : State) (w pi : Nat) : State :=
  let n := s.net w pi
  let ps := (n.drop 7).flatMap (fun x => if x = 0 then [0x20#8, 0x20#8] else [byteOf ((x - 1) / 256), byteOf (x - 1)])
  let khz := s.bl (blSd w sdNetLast pi)
  s.rdsRec w 6 pi false ([byteOf (n.getD 0 0 % 2 + 2 * b2n (n.getD 1 0 == 2) + 4 * b2n (n.getD 7 0 != 0)), byteOf (n.getD 2 0),
    byteOf khz.length, 0] ++ ps ++ wordsBytes khz)

/-- Its PS is taken with all four segments, and queued. -/
def State.netPs (s : State) (w pi k v : Nat) : State :=
  let n := (s.net w pi).set (3 + k) (v + 1)
  let seg := (n.drop 3).take 4
  if seg.all (fun x => x != 0) then
    (s.setBl (blSd w sdNet pi) (n.take 3 ++ [0, 0, 0, 0] ++ seg)).netSend w pi
  else s.setBl (blSd w sdNet pi) n

/-- Its AF list is taken when complete and different from the last: queued, and its frequencies listed. -/
def State.netAf (s : State) (w pi v : Nat) : State :=
  let key := blSd w sdNetAf pi
  let l := afPut (afPut (s.bl key) (v / 256)) (v % 256)
  let fs := (afList l).2.2
  if !afComplete l then s.setBl key l
  else if fs = s.bl (blSd w sdNetLast pi) then s.setBl key []
  else
    let t := ((s.setBl key []).setBl (blSd w sdNetLast pi) fs).netSend w pi
    if !t.flag w SD.SD_CFG_GB_FEED then t
    else
      let u := t.sdList none (w32 pi) 0 (fs.filter (fun k => decide (k < 64000)))
      match fs.filter (fun k => decide (64000 ≤ k)) with
      | [] => u
      | f :: rest =>
        let p := u.gbListed (w32 pi) 0 f
        p.1.sdList p.2 (w32 pi) 0 rest

/-- Its TA: a change is told with a type 0x0D record while its TP is 1. A TA that is unknown counts as 0. -/
def State.netTa (s : State) (w pi ta : Nat) : State :=
  let n := s.net w pi
  let t := s.setBl (blSd w sdNet pi) (n.set 1 (ta + 1))
  if n.getD 1 0 - 1 = ta then t
  else if n.getD 0 0 = 1 then
    t.sdAnnounce w (ta == 1) 2 0 0 0xFF 2 (w32 pi) ((s.bl (blSd w sdNetLast pi)).headD 0) (w32 (s.ax w axSdTime))
  else t

/-- A 14A or 14B group: block D names the network. -/
def State.eonGroup (s : State) (w g : Nat) : State :=
  match s.groupUse w g 3 with
  | none => s
  | some pi =>
    let s1 := s.setBl (blSd w sdNets 0) (addTo (s.bl (blSd w sdNets 0)) pi)
    let t := s1.setBl (blSd w sdNet pi) ((s1.net w pi).set 0 (g / 16 % 2))
    if g / 2048 % 2 = 1 then t.netTa w pi (g / 8 % 2)
    else match t.groupUse w g 2 with
      | none => t
      | some v =>
        let k := g % 16
        if k < 4 then t.netPs w pi k v
        else if k = 4 then t.netAf w pi v
        else if k = 13 then (t.setBl (blSd w sdNet pi) ((t.net w pi).set 2 (v / 2048))).netTa w pi (v % 2)
        else t

/-! ## Groups (R234) -/

/-- The tags of a RadioText Plus group: content type, start, length; type 0 is no tag.
Mark DEDUCED: notes/assumptions/228.md. -/
def rtPlusTags (g c d : Nat) : List Byte :=
  [[g % 8 * 8 + c / 8192, c / 128 % 64, c / 2 % 64], [c % 2 * 32 + d / 2048, d / 32 % 64, d % 32]].flatMap (fun x =>
    if x.headD 0 = 0 then [] else (x ++ [0]).map byteOf)

/-- A group of an open data application registered under its code: RadioText Plus is interpreted, any other is passed
through. -/
def State.odaGroup (s : State) (w g : Nat) : State :=
  match (s.bl (blSd w sdOda 0)).find? (fun x => x / 65536 == g / 2048) with
  | none => s
  | some x =>
    let word := fun (i : Nat) => (s.groupBlock w i).getD 0 % 65536
    if x % 65536 = 0x4BD7 then
      (if s.groupGood w then s.rdsRec w 3 (g / 8 % 2 + 2 * (g / 16 % 2)) false (rtPlusTags g (word 2) (word 3)) else s)
    else s.rdsRec w 7 (x % 65536) (s.groupBad w) ([byteOf (g / 2048), 0, 0, 0] ++ s.groupBytes w)

/-- Clock time: MJD, hour, minute and the local offset in half hours. -/
def State.ctGroup (s : State) (w g : Nat) : State :=
  let word := fun (i : Nat) => (s.groupBlock w i).getD 0 % 65536
  let d := word 3
  if s.groupGood w then
    s.rdsRec w 4 0 false (wordsBytes [g % 4 * 32768 + word 2 / 2] ++ [byteOf (word 2 % 2 * 16 + d / 4096), byteOf (d / 64 % 64),
      byteOf (if d.testBit 5 then 256 - d % 32 else d % 32), 0])
  else s

/-- The items of the group in hand, whose block B is `g`. -/
def State.groupItems (s : State) (w g : Nat) : State :=
  match g / 2048 with
  | 0 => match s.groupUse w g 2 with
    | some v => s.afCodes w v
    | none => s
  | 4 => s.rtSegment w (g / 16 % 2) (4 * (g % 16)) 64 (twoChars (s.groupUse w g 2) ++ twoChars (s.groupUse w g 3))
  | 5 => s.rtSegment w (g / 16 % 2 + 2) (2 * (g % 16)) 32 (twoChars (s.groupUse w g 3))
  | 6 => match s.groupUse w g 3 with
    | some aid => s.setBl (blSd w sdOda 0) ((s.bl (blSd w sdOda 0)).filter (fun x => x / 65536 != g % 32) ++ [g % 32 * 65536 + aid])
    | none => s
  | 8 => s.ctGroup w g
  | 28 => s.eonGroup w g
  | 29 => s.eonGroup w g
  | _ => s.odaGroup w g

/-- The group is complete: its raw record, its items, and what it tells of the service heard. -/
def State.groupDone (s : State) (w : Nat) : State :=
  let t0 := match s.groupBlock w 1 with
    | none => s
    | some n =>
      if 6 ≤ blockBad n then s
      else
        let code := n % 65536 / 2048
        s.sdSend w ((s.rd w SD.RDS_GROUPS.off).getLsbD code)
          ⟨1, 0, 0xFF, code, w32 (s.ax w axSdTime), s.groupBad w, s.groupBytes w⟩
  let t := match t0.groupB w with
    | some g => (t0.groupItems w g).groupKeep w g
    | none => t0
  if t.flag w SD.SD_STATUS_PI_VALID then
    let k := t.ax w axSdKnown
    t.sdHear w (t.rdsKey w) (if k % 2 = 1 then some (t.flag w SD.SD_STATUS_TP) else none)
      (if 2 ≤ k then some (t.fld w SD.SD_STATUS_PTY, if t.flag w SD.SD_CFG_RBDS then 2 else 1) else none)
  else t

/-- A block of the synchronised stream: its offset (0 A, 1 B, 2 C, 3 C′, 4 D), its information, the bits that had to be
corrected (7 uncorrectable), the lowest confidence of its bits, and the stamp of the first. -/
structure RdsBlk where
  offset : Nat
  info : Nat
  bad : Nat
  conf : Nat
  stamp : Nat
  deriving DecidableEq, Repr

/-- The place in its group of a block of an offset. -/
def blockPlace (o : Nat) : Nat := if o = 0 then 0 else if o = 1 then 1 else if o = 4 then 3 else 2

/-- A block of a synchronised stream is kept in its group and its fields interpreted. -/
def State.rdsFields (s : State) (w : Nat) (b : RdsBlk) : State :=
  let o := b.offset
  let bad := b.bad
  let pos := blockPlace o
  let n := b.info + 65536 * (bad + 8 * b2n (o == 3) + 16 * b.conf)
  let old := if pos = 0 then [] else s.hs w hsSdGroup
  let s0 := if pos = 0 then s.setAx w axSdTime (b.stamp % 4294967296) else s
  let t := s0.setHs w hsSdGroup ((List.range 4).map (fun i => if i = pos then Int.ofNat (n + 1) else old.getD i 0))
  let v := b.info
  if pos = 0 then t.piSeen w v bad
  else if pos = 1 then t.blockB w v bad
  else if pos = 2 then
    if o = 3 then t.piSeen w v bad
    else match t.groupB w with
      | some g =>
        if g / 2048 = 2 ∧ v / 4096 % 8 = 0 then onTaken (t.fieldTaken w 5 (v % 256) bad) (fun u e => u.put w SD.ECC e)
        else t
      | none => t
  else
    let t1 := match t.groupB w with
      | some g => if g / 4096 = 0 then t.psSegment w (g % 4) v bad else t
      | none => t
    t1.groupDone w

/-! ## The bit stream (R232, R233): each bit in three numbers, the bit, its confidence and its stamp -/

/-- The bits that wait, and their confidences. -/
def bitsIn : List Int → List (Nat × Nat)
  | b :: c :: _ :: l => (b.toNat % 2, c.toNat) :: bitsIn l
  | _ => []

/-- The first 26 bits as a number, and their confidences; none while fewer wait. -/
def State.rdsWindow (s : State) (w : Nat) : Option (Nat × List Nat) :=
  let bs := bitsIn ((s.hs w hsIn).take 78)
  if bs.length < 26 then none else some (bs.foldl (fun a b => a * 2 + b.1) 0, bs.map Prod.snd)

def State.rdsDrop (s : State) (w n : Nat) : State := s.setHs w hsIn ((s.hs w hsIn).drop (3 * n))

/-- A block read from the stream. -/
def State.rdsBlk (s : State) (w offset info bad : Nat) (conf : List Nat) : RdsBlk :=
  ⟨offset, info, bad, conf.foldl Nat.min 15, ((s.hs w hsIn).getD 2 0).toNat⟩

/-- A block of the group leaves the stream; the one after it comes next. -/
def State.rdsTake (s : State) (w : Nat) (b : RdsBlk) : State :=
  ((s.rdsDrop w 26).setAx w axSdNext (if b.offset = 4 then 0 else if 2 ≤ b.offset then 3 else b.offset + 1)).rdsFields w b

/-- The stamp of block A, 32 bits of it, from the stamp of a block at a place of its group and that of the block before it. -/
def groupStart (stamp : Nat) (before : Int) (place : Nat) : Nat :=
  (((stamp : Int) - (place : Int) * ((stamp : Int) - before)) % 4294967296).toNat

/-- The search for synchronisation, bit by bit over those that wait: two error-free blocks 26 bits apart of consecutive
offsets acquire it (R232). The second of them is the first block that is interpreted.
The group that it falls in has the stamp of its block A, received or not.
Mark DEDUCED: notes/assumptions/100.md. -/
def State.rdsSearch (s : State) (w : Nat) : Nat → State
  | 0 => s
  | n + 1 =>
    match s.rdsWindow w with
    | none => s
    | some x =>
      let seen := ((s.hs w hsSdSeek).map (fun c => c + 8)).filter (fun c => c / 8 % 32 ≤ 26)
      match cleanOffset x.1 with
      | none => ((s.setHs w hsSdSeek seen).rdsDrop w 1).rdsSearch w n
      | some o =>
        let b := s.rdsBlk w o (x.1 / 1024) 0 x.2
        match seen.find? (fun c => c / 8 % 32 == 26 && offsetsFollow (c % 8).toNat o) with
        | some c =>
          let t := ((((s.put w SD.SD_STATUS_RDS_SYNC 1).raiseKind w evSdSync).setHs w hsSdBlocks []).setAx w axSdMark 1)
          (((t.setHs w hsSdSeek []).setHs w hsSdGroup []).setAx w axSdTime
            (groupStart b.stamp (c / 256) (blockPlace o))).rdsTake w b
        | none => ((s.setHs w hsSdSeek (seen ++ [((b.stamp * 256 + o : Nat) : Int)])).rdsDrop w 1).rdsSearch w n

/-- Synchronisation is lost: 20 of the last 50 blocks were uncorrectable (R232). -/
def State.rdsLose (s : State) (w : Nat) : State :=
  (((((s.put w SD.SD_STATUS_RDS_SYNC 0).put w SD.SD_STATUS_PI_VALID 0).count w SD.RDS_SYNC_LOSS_COUNT).raiseKind w
    evSdLost).setHs w hsSdSeek [])

/-- The offsets that the next block may carry: of block C, C′ in a B group, and both where block B was not good. -/
def State.rdsExpected (s : State) (w : Nat) : List Nat :=
  match s.ax w axSdNext with
  | 0 => [0]
  | 1 => [1]
  | 2 => match s.groupB w with
    | some g => if g / 2048 % 2 = 1 then [3] else [2]
    | none => [2, 3]
  | _ => [4]

/-- The next block of the stream as it is corrected. The bits of a block of offset E are never delivered (R232). -/
def State.rdsCorrected (s : State) (w raw : Nat) (conf : List Nat) : RdsBlk :=
  match rdsDecode (s.rdsExpected w) (s.fld w SD.SD_CFG_CORR_MAX) raw conf with
  | some x => s.rdsBlk w x.1 x.2.1 x.2.2 conf
  | none => s.rdsBlk w ((s.rdsExpected w).headD 0) (if rdsRem raw = 0 then 0 else raw / 1024) 7 conf

/-- The next block of a synchronised stream is counted and interpreted. -/
def State.rdsNext (s : State) (w : Nat) (b : RdsBlk) : State :=
  let s1 := if b.bad = 7 then s.count w SD.BLOCK_ERR_COUNT else if b.bad = 0 then s else s.count w SD.CORRECTED_COUNT
  let h := s1.hs w hsSdBlocks ++ [Int.ofNat (b2n (b.bad == 7))]
  let h1 := h.drop (h.length - 50)
  let s2 := (s1.setHs w hsSdBlocks h1).rdsTake w b
  if 20 ≤ h1.foldl (fun a x => a + x) 0 then s2.rdsLose w else s2

/-- RDS_BLOCK: the bits that wait at a unit in RUN. Before synchronisation they are searched for it; in it, the next 26 of
them are a block. -/
def State.rdsBlock (s : State) (w : Nat) : State :=
  if !(s.sdRuns w && s.sdKind0 w == 1) then s
  else if !s.flag w SD.SD_STATUS_RDS_SYNC then s.rdsSearch w (s.hs w hsIn).length
  else match s.rdsWindow w with
    | some x => s.rdsNext w (s.rdsCorrected w x.1 x.2)
    | none => s

/-! ## DAB (R235) -/

/-- The key of a service that a DAB engine hears: a programme SId has the ensemble's ECC above it. -/
def State.dabKey (s : State) (w sid : Nat) (long : Bool) : Word :=
  w32 (if long then sid else sid % 65536 + 65536 * s.fld w SD.ECC)

/-- The programme services heard of the ensemble. -/
def State.programmes (s : State) (w : Nat) : List Nat :=
  ((s.bl (blSd w sdServices 0)).filter (fun x => x / 2 % 2 == 0)).map (fun x => x / 4)

/-- A service is noted, and a label of one that is. -/
def State.noteService (s : State) (w sid : Nat) (long : Bool) : State :=
  if (s.bl (blSd w sdServices 0)).any (fun x => x / 4 == sid) then s
  else s.setBl (blSd w sdServices 0) (s.bl (blSd w sdServices 0) ++ [sid * 4 + 2 * b2n long])

def State.noteLabel (s : State) (w sid : Nat) : State :=
  s.setBl (blSd w sdServices 0) ((s.bl (blSd w sdServices 0)).map (fun x => if x / 4 = sid then x / 2 * 2 + 1 else x))

/-- A member of a linkage set as a number. -/
def linkCode (set : Nat) (m : LinkMember) : Nat := ((set * 4 + m.kind) * 256 + m.ecc) * 2 ^ 32 + m.id

/-- Is a record one of the member that a number stands for? An ECC not given is the ensemble's; a record whose ECC is not
known matches any.
Mark DEDUCED: notes/assumptions/209.md. -/
def linkMatches (code ecc : Nat) (r : GRec) : Bool :=
  let id := code % 2 ^ 32
  let kind := code / 2 ^ 40 % 4
  let e := if code / 2 ^ 32 % 256 = 0 then ecc else code / 2 ^ 32 % 256
  if kind = 2 then (r.system == 3 || r.system == 4) && r.key.toNat == id
  else if 65536 ≤ id then r.system == 2 && r.key.toNat == id
  else r.system == (if kind = 0 then 2 else 0) && r.key.toNat % 65536 == id && r.key.toNat < 16777216 &&
    (e == 0 || r.ecc == 0 || r.ecc == e)

/-- The rings of the records of the members of a linkage set become one, as far as they stand. -/
def State.linkSet (s : State) (set : List Nat) (ecc : Nat) (hard : Bool) : State :=
  let all := s.gbAll
  let groups := (set.map (fun c => all.filter (fun i => linkMatches c ecc (s.gbRec i)))).filter (fun g => !g.isEmpty)
  groups.tail.foldl (fun t g => (groups.headD []).foldl (fun u i => g.foldl (fun v j => v.gbJoin i j hard) u) t) s

/-- Frequencies of a service that a list names, joined to the service's own record, or where none is heard to one another. -/
def State.listFreqs (s : State) (w : Nat) (key : Word) (system : Nat) (khz : List Nat) : State :=
  match s.sdOwn w key, khz with
  | some i, _ => s.sdList (some i) key system khz
  | none, f :: fs =>
    let p := s.gbListed key system f
    p.1.sdList p.2 key system fs
  | none, [] => s

/-- The services of other ensembles at a frequency that is known. -/
def State.listOthers (s : State) (w eid khz : Nat) : State :=
  ((s.bl (blSd w sdOthers 0)).filter (fun x => x % 65536 == eid)).foldl (fun t x =>
    (t.gbListed (t.dabKey w (x / 65536) false) 2 khz).1) s

/-- A piece of news of a FIG (R235). -/
def State.figNews (s : State) (w : Nat) (x : FigItem) : State :=
  let feed := s.flag w SD.SD_CFG_GB_FEED
  match x with
  | .ensemble eid => s.put w SD.ID eid
  | .ecc e => s.put w SD.ECC e
  | .service sid long =>
    let t := s.noteService w sid long
    if long then t else t.sdHear w (t.dabKey w sid false) none none
  | .pty sid code =>
    if (s.programmes w).contains sid then s.sdHear w (s.dabKey w sid false) none (some (code, 1)) else s
  | .label sid => s.noteLabel w sid
  | .freqs id system khz =>
    if system = 2 then
      let at2 := khz.map dabSnap
      let t := s.setBl (blSd w sdEnsembles 0) (at2.foldl (fun l f => addTo l (id * 16777216 + f)) (s.bl (blSd w sdEnsembles 0)))
      if !feed then t
      else if id = s.fld w SD.ID then
        (t.programmes w).foldl (fun u sid => u.sdList (u.sdOwn w (u.dabKey w sid false)) (u.dabKey w sid false) 2 at2) t
      else at2.foldl (fun u f => u.listOthers w id f) t
    else if !feed then s
    else s.listFreqs w (if system = 0 then s.dabKey w id false else w32 id) system khz
  | .other sid long eids =>
    if long then s
    else
      let t := s.setBl (blSd w sdOthers 0) (eids.foldl (fun l e => addTo l (sid * 65536 + e)) (s.bl (blSd w sdOthers 0)))
      if !feed then t
      else ((t.bl (blSd w sdEnsembles 0)).filter (fun x => eids.contains (x / 16777216))).foldl (fun u x =>
        (u.gbListed (u.dabKey w sid false) 2 (x % 16777216)).1) t
  | .link set hard ms =>
    let t := s.setBl (blSd w sdLinks 0) (ms.foldl (fun l m => addTo l (linkCode set m)) (s.bl (blSd w sdLinks 0)))
    let all := (t.bl (blSd w sdLinks 0)).filter (fun x => x / 2 ^ 42 == set)
    if feed && t.guest.ready then t.linkSet all (t.fld w SD.ECC) hard else t

/-- A FIG as one number, its bytes after a leading 1. -/
def figCode (bs : List Byte) : Nat := bs.foldl (fun a b => a * 256 + b.toNat) 1

/-- Was a FIG of the same bytes queued among the last 256 within DEDUP_MS? -/
def State.figRepeats (s : State) (w code : Nat) : Bool :=
  (s.hs w hsSdFigs).any (fun x =>
    decide (x.toNat / 2 ^ 64 = code ∧ s.clock.uptime < x.toNat % 2 ^ 64 + 24576 * s.fld w SD.DEDUP_MS))

/-- The mask bit of a FIG (R257). -/
def State.figMask (s : State) (w type ext : Nat) : Bool :=
  if type = 0 then (s.rd w SD.FIG_MASK0.off).getLsbD ext
  else if type = 1 then ext < 8 && (s.fld w SD.FIG_MASK1_FIG1).testBit ext
  else if type = 2 then ext < 8 && (s.fld w SD.FIG_MASK1_FIG2).testBit ext
  else false

/-- A FIG is queued under its mask, and where DEDUP is 1 not while it repeats. -/
def State.figQueue (s : State) (w : Nat) (fig : List Nat) (ok : Bool) (time : Word) : State :=
  let bs := fig.map byteOf
  let code := figCode bs
  if !s.figMask w (figType fig) (figExt fig) || (!ok && !s.flag w SD.SD_CFG_PASS_BAD) ||
      (s.flag w SD.SD_CFG_DEDUP && s.figRepeats w code) then s
  else
    let u := s.sdQueue w ⟨2, 0, 0xFF, figType fig + 8 * figExt fig, time, !ok, bs⟩
    if u.rd w SD.RECORD_COUNT.off = s.rd w SD.RECORD_COUNT.off then u
    else
      let h := u.hs w hsSdFigs ++ [Int.ofNat (code * 2 ^ 64 + u.clock.uptime)]
      u.setHs w hsSdFigs (h.drop (h.length - 256))

/-- FIG_RECEIVED: the next FIG of the FIB that waits on input 0, interpreted where the FIB's CRC held (R235). -/
def execFigReceived (n : Fin 64) (s : State) : Out :=
  let w := winSD n
  .next (if !(s.sdRuns w && s.sdKind0 w == 2) then s
    else match s.nextCoded w 0 with
      | none => s
      | some c => match cutFig c.bytes with
        | none => s.dropCoded w 0
        | some p =>
          let t := s.keepRest w 0 c p.2
          let u := if c.good then (figItems p.1).foldl (fun u x => u.figNews w x) t else t
          u.figQueue w p.1 c.good (c.stamp.extractLsb' 0 32))

/-! ## PAD (R236) -/

/-- SEL of what input 1 brings: the SubChId or stream of the selection that feeds it (R239). -/
def State.sdSel (s : State) (w : Nat) : Nat :=
  let u := s.srcOf w 1
  let p := if kindOf u = .ofdm then (u, w) else (s.srcOf u 0, u)
  match (List.range 64).find? (fun i => s.fld p.1 (OFDM.SEL_SINK.at i) == p.2) with
  | some i => if kindOf p.1 = .ofdm then s.fld p.1 (OFDM.SEL_ID.at i) else 0xFF
  | none => 0xFF

/-- The data of a type 0x05 record: the segment word, then the segment bytes. -/
def motBytes (m : MotSegment) : List Byte :=
  wordsBytes [m.segment % 32768 + 32768 * b2n m.last + 65536 * (m.group % 16)] ++ m.data.map byteOf

def State.sdMot (s : State) (w : Nat) (m : MotSegment) (ok : Bool) (time : Word) : State :=
  s.sdSend w (s.flag w SD.MOT) ⟨5, 0, s.sdSel w, m.transport, time, !ok, motBytes m⟩

/-- Does the decoder on input 1 carry a DAB or DAB+ stream? -/
def State.padOfDab (s : State) (w : Nat) : Bool :=
  let e := s.srcOf (s.srcOf w 1) 0
  s.sdKind1 w == 1 && kindOf e == .ofdm && s.fld e OFDM.OFDM_CFG_SYSTEM == 0

/-- The bytes of a DLS segment or command, by its prefix: 0 until that is there. -/
def dlsNeed (g : List Nat) : Nat :=
  let a := g.getD 0 0
  if g.length < 2 then 0
  else if a.testBit 4 then (if a % 16 = 1 then 4 else 4 + g.getD 1 0 % 16 + 1)
  else 4 + a % 16 + 1

/-- A DLS group: a command of DL Plus, or a segment of the message, which is delivered with its last segment; a segment whose
CRC fails ends the message, and is itself passed where PASS_BAD is 1.
Mark DEDUCED: notes/assumptions/210.md. -/
def State.dlsGroup (s : State) (w : Nat) (g : List Nat) (ok : Bool) (time : Word) : State :=
  let a := g.getD 0 0
  let pad := s.fld w SD.PAD
  let body := (g.drop 2).take (g.length - 4)
  let tog := a / 128
  let old := s.bl (blSd w sdDls 0)
  if a.testBit 4 then
    (if a % 16 = 2 then s.sdSend w (pad.testBit 1) ⟨4, 1, s.sdSel w, 0, time, !ok, body.map byteOf⟩ else s)
  else
    let send := fun (t : State) (m : List Nat) => t.sdSend w (pad.testBit 0)
      ⟨4, 0, t.sdSel w, m.getD 1 0 + 16 * m.getD 0 0, time, !ok, (m.drop 2).map byteOf⟩
    if !ok then send (s.setBl (blSd w sdDls 0) []) ([tog, if a.testBit 6 then g.getD 1 0 / 16 else 0] ++ body)
    else
      let m := if a.testBit 6 then [tog, g.getD 1 0 / 16] ++ body
        else if old.headD 2 = tog then old ++ body else []
      if a.testBit 5 ∧ !m.isEmpty then send (s.setBl (blSd w sdDls 0) []) m else s.setBl (blSd w sdDls 0) m

/-- A reassembled X-PAD data group of an application: counted where its CRC fails, and delivered as what it is.
Mark DEDUCED: notes/assumptions/229.md. -/
def State.padGroup (s : State) (w app : Nat) (g : List Nat) (time : Word) : State :=
  let ok := if app = 2 then crc16Holds g else groupHolds g
  let t := if ok then s else s.count w SD.DG_CRC_COUNT
  if app = 2 then t.dlsGroup w g ok time
  else match (if app = 12 then motOf g else none) with
    | some m => t.sdMot w m ok time
    | none => t.sdSend w ((t.fld w SD.PAD).testBit 2) ⟨4, 2, t.sdSel w, app, time, !ok, g.map byteOf⟩

/-- A sub-field of X-PAD: type 1 gives the length of the data group to come; an even type starts a group of its application
and the odd one after it goes on with it. A group is whole at its length. -/
def State.padField (s : State) (w : Nat) (time : Word) (f : Nat × List Nat) : State :=
  let app := f.1 / 2 * 2
  let key := blSd w sdPad app
  if f.1 = 0 then s
  else if f.1 = 1 then
    (if crc16Holds (f.2.take 4) then s.setBl (blSd w sdPadLen 0) [beNat (f.2.take 2) % 16384] else s)
  else
    let start := f.1 % 2 == 0
    let old := if start then [(s.bl (blSd w sdPadLen 0)).headD 0, time.toNat] else s.bl key
    if old.isEmpty then s
    else
      let g := old.drop 2 ++ f.2
      let need := if app = 2 then dlsNeed g else old.headD 0
      let t := if start ∧ app ≠ 2 then s.setBl (blSd w sdPadLen 0) [] else s
      if need ≠ 0 ∧ need ≤ g.length then (t.setBl key []).padGroup w app (g.take need) (w32 (old.getD 1 0))
      else t.setBl key (old.take 2 ++ g)

/-- PAD_DATA_GROUP: the PAD of the next access unit or frame on input 1; its X-PAD sub-fields join their data groups, and those
that are whole are delivered (R236). A discontinuity drops what was under way. -/
def execPadDataGroup (n : Fin 64) (s : State) : Out :=
  let w := winSD n
  .next (if !(s.sdRuns w && s.padOfDab w) then s
    else match s.nextCoded w 1 with
      | none => s
      | some c =>
        let t0 := s.dropCoded w 1
        let t := if c.tag = 1 then { t0 with bytes := Store.dropRange (blSd w sdCis 0) (blSd w (sdDls + 1) 0) t0.bytes }.setAx w axSdMark 1
          else t0
        let cis := (natPairs (t.bl (blSd w sdCis 0)))
        let r := xpadFields cis c.bytes
        (r.1.foldl (fun u f => u.padField w (c.stamp.extractLsb' 0 32) f)
          (t.setBl (blSd w sdCis 0) (r.2.flatMap (fun p => [p.1, p.2])))))

/-! ## Packets (R237) -/

/-- A packet of a data group: whether it and those before it held to their CRC, the stamp of the first, their useful
data. -/
def State.groupPacket (s : State) (w a : Nat) (p : List Nat) (ok : Bool) (time : Word) : State :=
  let key := blSd w sdGroups a
  let first := (p.getD 0 0).testBit 3
  let old := if first then [1, time.toNat] else s.bl key
  let all := old.set 0 (old.headD 0 * b2n ok) ++ (p.drop 3).take (p.getD 2 0 % 128)
  if old.isEmpty then s
  else if !(p.getD 0 0).testBit 2 then s.setBl key all
  else
    let g := all.drop 2
    let good := all.headD 0 == 1 && groupHolds g
    let t := if good then s.setBl key [] else (s.setBl key []).count w SD.DG_CRC_COUNT
    let at2 := w32 (all.getD 1 0)
    match motOf g with
    | some m => t.sdMot w m good at2
    | none => t.sdSend w (t.flag w SD.DATA) ⟨3, 1, t.sdSel w, a, at2, !good, g.map byteOf⟩

/-- PACKET_RECEIVED: the next packet of the logical frame that waits on input 1 (R237). -/
def execPacketReceived (n : Fin 64) (s : State) : Out :=
  let w := winSD n
  .next (if !(s.sdRuns w && s.sdKind1 w == 2) then s
    else match s.nextCoded w 1 with
      | none => s
      | some c => match cutPacket c.bytes with
        | none => s.dropCoded w 1
        | some x =>
          let t := s.keepRest w 1 c x.2
          let a := beNat (x.1.take 2) % 1024
          let ok := c.good && crc16Holds x.1
          let time := c.stamp.extractLsb' 0 32
          if !(t.flag w SD.PKT_ADDR_ANY || t.fld w SD.PKT_ADDR_ADDR == a) then t
          else if !t.flag w SD.SD_CFG_DG_MODE then
            t.sdSend w (t.flag w SD.DATA) ⟨3, 0, t.sdSel w, a, time, !ok, x.1.map byteOf⟩
          else t.groupPacket w a x.1 ok time)

/-! ## DRM (R238) -/

/-- The service of a DRM multiplex with a short ID. -/
def State.shortService (s : State) (w k : Nat) : Option Nat :=
  let x := (s.bl (blSd w sdShort 0)).getD k 0
  if x = 0 then none else some (x - 1)

/-- A DRM signal of a frequency is of DRM30 up to 30 MHz, and of DRM+ above it (R250). -/
def drmSystem (khz : Nat) : Nat := if khz ≤ 30000 then 3 else 4

/-- Entity type 0: the services of the multiplex by short ID, each heard; ID shows the first. -/
def State.sdcIds (s : State) (w : Nat) (ids : List (Nat × Nat)) : State :=
  let t := s.setBl (blSd w sdShort 0) (ids.map (fun p => if p.1 = 0 then 0 else p.1 + 1))
  let t1 := if (ids.headD (0, 0)).1 = 0 then t else t.wr w SD.ID.off (w32 ((ids.headD (0, 0)).1 % 16777216))
  (ids.filter (fun p => p.1 != 0)).foldl (fun u p =>
    (u.noteService w p.1 true).sdHear w (w32 p.1) none (if p.2 = 0 then none else some (p.2 - 1, 3))) t1

/-- What the bytes of an entity tell the Guestbook: type 0 the services, 1 that one has its label, 3 the frequencies of the
own services, 11 other services, those with no frequency by a link to the records that carry their key (R238, R245).
Mark DESIGN CHOICE: notes/assumptions/231.md. -/
def State.sdcNews (s : State) (w : Nat) (e : List Nat) : State :=
  let feed := s.flag w SD.SD_CFG_GB_FEED
  match entityType e with
  | 0 => s.sdcIds w (natPairs (Config.sdcServices e))
  | 1 => match s.shortService w (bodyBits e 0 2) with
    | some k => s.noteLabel w k
    | none => s
  | 3 =>
    let x := entityNetwork e
    if !feed then s
    else (x.1.filterMap (s.shortService w)).foldl (fun t k =>
      x.2.foldl (fun u f => u.sdList (u.sdOwn w (w32 k)) (w32 k) (drmSystem f) [f]) t) s
  | 11 => match (if feed then entityOther e else none) with
    | none => s
    | some o =>
      let own := (o.short.bind (s.shortService w)).bind (fun k => s.sdOwn w (w32 k))
      if !o.khz.isEmpty then
        o.khz.foldl (fun t f => t.sdListed own (w32 o.key) (if o.system = 3 then drmSystem f else o.system) [f] o.same) s
      else match own with
        | some i => if s.guest.ready then
            (s.gbAll.filter (fun j => (s.gbRec j).key == w32 o.key && (s.gbRec j).system == o.system)).foldl
              (fun t j => t.gbJoin i j o.same) s else s
        | none => s
  | _ => s

/-- The next entity of the SDC block that waits: interpreted where the block's CRC held, and queued. -/
def State.sdcEntity (s : State) (w : Nat) (c : Coded) : State :=
  match cutEntity c.bytes with
  | none => s.dropCoded w 0
  | some p =>
    let type := entityType p.1
    let t := s.keepRest w 0 c p.2
    let u := if c.good then (t.setBl (blSd w sdEntities 0) (addTo (t.bl (blSd w sdEntities 0)) type)).sdcNews w p.1 else t
    u.sdSend w ((u.fld w SD.SDC_MASK_SDC).testBit type) ⟨6, 0, 0xFF, type, c.stamp.extractLsb' 0 32, !c.good, p.1.map byteOf⟩

/-- DRM_SDC_ENTITY: an SDC entity, FAC block, text message, packet or stream part (R238). -/
def execDrmSdcEntity (n : Fin 64) (e : SdcArg) (s : State) : Out :=
  let w := winSD n
  .next (if !s.sdRuns w then s else
    match e with
    | .entity => match (if s.sdKind0 w = 3 then s.nextCoded w 0 else none) with
      | some c => if c.tag = 2 then s.sdcEntity w c else s
      | none => s
    | .fac => match (if s.sdKind0 w = 3 then s.nextCoded w 0 else none) with
      | some c => if c.tag = 1 then
          (s.dropCoded w 0).sdSend w (s.flag w SD.SDC_MASK_FAC) ⟨6, 1, 0xFF, 0, c.stamp.extractLsb' 0 32, !c.good, c.data⟩ else s
      | none => s
    | .text stream ok time data =>
      if s.sdKind1 w ≠ 1 ∨ s.padOfDab w then s
      else s.sdSend w (s.flag w SD.DATA) ⟨7, 0, s.sdSel w, stream.val, time, !ok, data⟩
    | .packet len => match (if s.sdKind1 w = 3 then s.nextCoded w 1 else none) with
      | some c =>
        let p := c.bytes.take len
        (s.keepRest w 1 c (c.bytes.drop len)).sdSend w (s.flag w SD.DATA)
          ⟨7, 1, s.sdSel w, p.headD 0 / 16 % 4, c.stamp.extractLsb' 0 32, !(c.good && crc16Holds p), p.map byteOf⟩
      | none => s
    | .stream => match (if s.sdKind1 w = 3 then s.nextCoded w 1 else none) with
      | some c => (s.dropCoded w 1).sdSend w (s.flag w SD.DATA)
          ⟨7, 2, s.sdSel w, s.sdSel w, c.stamp.extractLsb' 0 32, !c.good, c.data⟩
      | none => s)

/-! ## Quality reports (R240) -/

/-- The offsets of LEVEL, of SNR, CNR or MER, of the status register and of OFFSET in a source. -/
def reportOffsets (u : Nat) : List Nat :=
  if kindOf u = .ofdm then [0x084, 0x088, 0x080, 0x090] else [0x084, 0x094, 0x080, 0x088]

/-- QUALITY_REPORT: every QREP_MS, of the source on input 0 while it is in WARM, RUN or HOLD. -/
def execQualityReport (n : Fin 64) (time : Word) (s : State) : Out :=
  let w := winSD n
  let u := s.srcOf w 0
  .next (if s.live w && s.fld w SD.SD_CFG_QREP_MS != 0 && u != 0x3FF && (s.live u || s.atomState u == stHOLD) then
    s.sdQueue w ⟨8, 0, 0xFF, u, time, false, (reportOffsets u).flatMap (fun o => bytesOf (s.unitRead u o))⟩
  else s)

end Sys2Proof.Machine
end

