-- ==== Sys2Proof/Machine/Scan.lean ====
section
/-! DEFINITION. Borrowed units (R20, R255, R261) and background scans (R253–R256). -/

namespace Sys2Proof.Machine

/-! ## Borrowing and giving back -/

/-- Who has borrowed a unit: 1 for scans, 2 + n for FOLLOW_n. -/
def lentScan : Nat := 1
def lentFollow (n : Nat) : Nat := 2 + n

/-- May a unit be borrowed: present, unbound, lent to nobody, in neither SAFE nor FAULT? -/
def State.unitFree (s : State) (w : Nat) : Bool :=
  s.present w && s.parentOf w == 0x3FF && (s.unit w).lent == 0 && !(s.unit w).safe && !(s.unit w).selfFail

/-- The lowest-numbered of `n` units from window `base` that may be borrowed. -/
def State.freeUnitOf (s : State) (base n : Nat) : Option Nat :=
  ((List.range n).map (fun i => base + i)).find? s.unitFree

/-- The DDC of the lowest-numbered channel whose DDC and CHAN_FILTER are both free; none is lent while the thermal fault
stands (R479). -/
def State.freeChannel (s : State) : Option Nat :=
  if s.fw.standing.any (fun f => f.code == 0x0F40) then none
  else ((List.range 64).map winDDC).find? (fun d => s.unitFree d && s.unitFree (cfOfDdc d))

/-- The demodulator or engine that a system needs. -/
def State.freeDemod (s : State) (system : Nat) : Option Nat :=
  if system = 0 then s.freeUnitOf (winFM 0) 48
  else if system = 1 then s.freeUnitOf (winAM 0) 16
  else s.freeUnitOf (winOFDM 0) 16

def State.linkUp (s : State) (src out dst inp : Nat) : State :=
  { s with tree := { s.tree with links := s.tree.links ++ [⟨src, out, dst, inp, 0⟩] } }

def State.lend (s : State) (borrower w : Nat) : State := s.setUnit w { s.unit w with lent := borrower }

def State.startUnit (s : State) (w : Nat) : State := s.watch w (fun t => t.wr w 0x004 (t.rd w 0x004 ||| 3))

/-- Units given back: off, unlinked and lent to nobody. -/
def State.giveBack (s : State) (ws : List Nat) : State :=
  let t := ws.foldl (fun u w => u.watch w (fun v => v.wr w 0x004 0)) s
  let t1 := { t with tree := { t.tree with links := t.tree.links.filter (fun l => !ws.contains l.src && !ws.contains l.dst) } }
  ws.foldl (fun u w => u.lend 0 w) t1

/-! ## Which front end and which NCO word -/

/-- The RATE code of a system (R16, R146). -/
def systemRate (system : Nat) : Nat := [2, 5, 1, 4, 3].getD system 2

def systemLow (system : Nat) : Bool := system == 1 || system == 3

/-- The NCO word of a frequency on a front end (R93, R96). -/
def State.ncoFor (s : State) (f khz : Nat) : Int :=
  if f = 0x014 then roundAway ((khz : Int) * 4294967296) 98304
  else roundAway (((khz : Int) - s.ax f axFeCentre) * 4294967296) 245760

/-- Does a channel of a system at a frequency fit a front end in RUN (R92, R96)? -/
def State.fitsIn (s : State) (system khz f : Nat) : Bool :=
  s.atomState f == stRUN && (f == 0x014) == systemLow system &&
  (if f = 0x014 then fitsLow (s.ncoFor f khz) (decimOf (systemRate system) 0 0 0)
   else fitsVhf (s.ncoFor f khz) (decimOf (systemRate system) 0 0 0) (s.bandOf f))

/-- Twice the room that the window of a front end leaves, in units of 1/100 Hz.
Mark DEDUCED: notes/assumptions/105.md. -/
def State.fitMargin (s : State) (khz f : Nat) : Int :=
  if f = 0x014 then 0
  else 47 * (s.bandOf f : Int) - 100000 * (((khz : Int) - s.ax f axFeCentre).natAbs : Int)

/-- The front end whose window fits with the largest margin, the lowest-numbered on a tie (R254). -/
def State.bestFe (s : State) (system khz : Nat) : Option Nat :=
  ([0x010, 0x011, 0x012, 0x013, 0x014].filter (s.fitsIn system khz)).foldl
    (fun a f => match a with
      | none => some f
      | some g => if s.fitMargin khz g < s.fitMargin khz f then some f else some g) none

/-! ## A borrowed receive chain -/

/-- Firmware's own filter coefficients (R254): what they are is left open, so each word is a free value, and so is their
number, as far as the limits of R154 let it be for the channel's rate and branches.
Mark DESIGN CHOICE: notes/assumptions/106.md. -/
def State.fwTaps (s : State) (c : Nat) : Nat :=
  let d := c - 0x40
  let rate := s.ddcFs d / Nat.max 1 (s.chanDecim d)
  1 + s.freshWord.toNat % Nat.max 1 (Nat.min 256 (737280000 / Nat.max 1 (rate * s.branches d)))

def State.fwCoefs (s : State) (c : Nat) : State :=
  let t := ((s.put c FILT.BANK_CFG_TAPS (s.fwTaps c)).useFresh).put c FILT.SWAP_CTL_TARGET 0
  (List.range (t.fld c FILT.BANK_CFG_TAPS)).foldl
    (fun u i => (u.wr (bankBlk c 0) (4 * i) u.freshWord).useFresh) (t.put c FILT.FILT_STATUS_ACTIVE 0)

/-- A channel set to a frequency and a system. -/
def State.setChannel (s : State) (d f system khz : Nat) : State :=
  let n := unsigned 32 (s.ncoFor f khz)
  let t := ((s.put d DDC.RATE (systemRate system)).wr d DDC.NCO_FREQ.off (w32 n)).wr d DDC.NCO_ACTIVE.off (w32 n)
  (t.put (cfOfDdc d) FILT.FILT_CFG_DECIM 0).fwCoefs (cfOfDdc d)

/-- The units of a receive chain borrowed, linked, set and started: a channel of front end `f`, a demodulator or
engine, and a SIDE_DATA unit where one is given.
Mark DESIGN CHOICE: notes/assumptions/107.md. -/
def State.borrowChain (s : State) (borrower f d demod : Nat) (sd : Option Nat) (system khz : Nat) : State :=
  let c := cfOfDdc d
  let ws := [d, c, demod] ++ sd.toList
  let t := ws.foldl (fun u w => u.lend borrower w) s
  let t1 := ((t.linkUp f 0 d 0).linkUp d 0 c 0).linkUp c 0 demod 0
  let t2 := match sd with
    | some x => (t1.linkUp demod 1 x 0).put x SD.SD_CFG_GB_FEED 1
    | none => t1
  let t3 := t2.setChannel d f system khz
  let t4 := if 2 ≤ system then t3.put demod OFDM.OFDM_CFG_SYSTEM (system - 2) else t3
  ws.foldl (fun u w => u.startUnit w) t4

/-! ## Plans (R253) -/

/-- One plan entry: system, first and last frequency, step, dwell. -/
structure PlanEntry where
  system : Nat
  start : Nat
  stop : Nat
  step : Nat
  dwell : Nat
  deriving DecidableEq, Repr

def planEntries : List Word → List PlanEntry
  | a :: b :: c :: ws =>
    ⟨a.toNat / 16777216 % 16, a.toNat % 16777216, b.toNat % 16777216, c.toNat % 65536, c.toNat / 65536⟩ :: planEntries ws
  | _ => []

/-- The longest dwell of a system in ms. -/
def maxDwell (system : Nat) : Nat := [2000, 100, 3000, 5000, 2000].getD system 0

/-- The frequencies of an entry, ascending. -/
def PlanEntry.freqs (e : PlanEntry) : List Nat :=
  if e.step = 0 then dabCentres.filter (fun f => e.start ≤ f && f ≤ e.stop)
  else (List.range ((e.stop - e.start) / e.step + 1)).map (fun i => e.start + e.step * i)

/-- Does an entry hold to R241, R250 and the table of R253, with every frequency that it visits? -/
def PlanEntry.ok (e : PlanEntry) : Bool :=
  let at' := fun (f : Nat) => (⟨0, w32 (f + 16777216 * e.system), 0, 0⟩ : GRec).inRange
  decide (e.system ≤ 4) && decide (e.start ≤ e.stop) && at' e.start && at' e.stop &&
  (e.step != 0 || e.system == 2) && decide (e.dwell ≤ maxDwell e.system) && e.freqs.all at'

/-- Every frequency of a plan with its system, in plan order. -/
def planFreqs (ws : List Word) : List (Nat × Nat) :=
  (planEntries ws).flatMap (fun e => e.freqs.map (fun f => (e.system, f)))

/-- The words of an entry. -/
def PlanEntry.words (e : PlanEntry) : List Word :=
  [w32 (e.start + 16777216 * e.system), w32 e.stop, w32 (e.step + 65536 * e.dwell)]

def inQram (a n : Nat) : Bool := decide (a % 4 = 0 ∧ n % 4 = 0 ∧ 0x01000000 ≤ a ∧ a + n ≤ 0x01200000)

/-- A scan command: its reply.
Mark DEDUCED: notes/assumptions/104.md. -/
def State.scanServe (s : State) (ph : Fin 8) (op : Nat) (tag : BitVec 8) (body : State → State × List Word) : State :=
  s.serve ph op tag.toNat (fun t => let p := body t; p.1.reply ph op tag.toNat p.2)

/-- SCAN_PLAN: the entries that hold to the rules are copied and replace any earlier plan; an entry that breaks them
is refused whole, and the reply carries 0x0232 with the number accepted.
Mark DEDUCED: notes/assumptions/102.md. -/
def execScanPlan (ph : Fin 8) (tag : BitVec 8) (args : List Word) (s : State) : Out :=
  .next (s.scanServe ph 0x4C tag (fun t =>
    let a := arg args 0
    let n := arg args 1
    if !inQram a n || n % 12 != 0 || decide (768 < n) then (t, [0x0202])
    else
      let all := planEntries (t.rdWords a (n / 4))
      let good := all.filter PlanEntry.ok
      ({ t with scan := { t.scan with plan := good.flatMap PlanEntry.words, next := 0, pausing := false } },
        [if good.length = all.length then 0 else 0x0232, w32 good.length])))

/-- SCAN_CTL. -/
def execScanCtl (ph : Fin 8) (tag : BitVec 8) (args : List Word) (s : State) : Out :=
  .next (s.scanServe ph 0x4D tag (fun t =>
    if 3600 < arg args 1 then (t, [0x0202])
    else ({ t with scan := { t.scan with run := (args.getD 0 0).getLsbD 0, maxTasks := arg args 0 / 256 % 16,
                                         pauseS := arg args 1 } }, [0])))

/-- SCAN_STATUS.
Mark DESIGN CHOICE: notes/assumptions/103.md. -/
def execScanStatus (ph : Fin 8) (tag : BitVec 8) (_args : List Word) (s : State) : Out :=
  .next (s.scanServe ph 0x4E tag (fun t =>
    (t, [0, w32 (b2n t.scan.run + 256 * t.scan.tasks.length), t.scan.cycles, t.scan.visited, t.scan.skipped,
      t.scan.abandoned])))

/-! ## Tasks (R254, R255) -/

/-- The frequency of a bound channel in kHz, as a system sees it. -/
def State.ddcKhz (s : State) (d system : Nat) : Nat :=
  let f := s.srcOf d 0
  let nco := s.sfld d DDC.NCO_ACTIVE
  let khz := if f = 0x014 then roundAway (nco * 98304) 4294967296
    else (s.ax f axFeCentre : Int) + roundAway (nco * 245760) 4294967296
  if system = 2 then dabSnap khz.toNat else khz.toNat

/-- Is a frequency carried by a bound channel: one of the same kind of path and of the system's decimation, whether RATE or
CUSTOM sets it? -/
def State.carried (s : State) (system khz : Nat) : Bool :=
  ((List.range 64).map winDDC).any (fun d =>
    s.parentOf d != 0x3FF && s.srcOf d 0 != 0x3FF && (s.srcOf d 0 == 0x014) == systemLow system &&
    s.chanDecim d == decimOf (systemRate system) 0 0 0 && s.ddcKhz d system == khz)

/-- The cycle is over once the last frequency has been visited. -/
def State.scanCycleEnd (s : State) : State :=
  if !s.scan.pausing && s.scan.next != 0 && decide ((planFreqs s.scan.plan).length ≤ s.scan.next) && s.scan.tasks.isEmpty
  then { s with scan := { s.scan with pausing := true, cycles := s.scan.cycles + 1 } }.raise 94
  else s

/-- Frequencies to skip are passed over and counted, at most `n` of them. -/
def State.scanSkip (s : State) : Nat → State
  | 0 => s
  | n + 1 =>
    match (planFreqs s.scan.plan)[s.scan.next]? with
    | none => s
    | some p =>
      if s.carried p.1 p.2 || (s.bestFe p.1 p.2).isNone then
        { s with scan := { s.scan with next := s.scan.next + 1, skipped := s.scan.skipped + 1 } }.scanSkip n
      else s

/-- SCAN_TASK_START: a task for the next frequency, once the units it needs are free. -/
def execScanTaskStart (s : State) : Out :=
  .next (if !(s.fw.inService && s.scan.run && !s.scan.pausing && decide (s.scan.tasks.length < s.scan.maxTasks)) then s
    else
      let t := s.scanSkip (planFreqs s.scan.plan).length
      match (planFreqs t.scan.plan)[t.scan.next]? with
      | none => t.scanCycleEnd
      | some p =>
        let sd? := if p.1 = 1 then some none else (t.freeUnitOf (winSD 0) 64).map some
        match t.bestFe p.1 p.2, t.freeChannel, t.freeDemod p.1, sd? with
        | some f, some d, some m, some sd =>
          let u := t.borrowChain lentScan f d m sd p.1 p.2
          { u with scan := { u.scan with
              next := u.scan.next + 1
              visited := u.scan.visited + 1
              tasks := u.scan.tasks ++ [⟨p.1, p.2, [d, cfOfDdc d, m] ++ sd.toList⟩] } }
        | _, _, _, _ => t)

/-- A task is over: its units are given back. -/
def State.endTask (s : State) (t : TaskX) : State :=
  let u := s.giveBack t.units
  { u with scan := { u.scan with tasks := u.scan.tasks.filter (fun x => x != t) } }

/-- A task is abandoned and counted. -/
def State.abandonTask (s : State) (t : TaskX) : State :=
  let u := s.endTask t
  { u with scan := { u.scan with abandoned := u.scan.abandoned + 1 } }

/-- Every task that holds one of these units is abandoned (R20). -/
def State.takeFromScans (s : State) (ws : List Nat) : State :=
  (s.scan.tasks.filter (fun t => t.units.any ws.contains)).foldl (fun u t => u.abandonTask t) s

/-- Every task is abandoned. -/
def State.releaseScans (s : State) : State := s.scan.tasks.foldl (fun u t => u.abandonTask t) s

/-- The most recently started task is abandoned for a scout (R255). -/
def State.takeNewestTask (s : State) : State :=
  match s.scan.tasks.getLast? with
  | some t => s.abandonTask t
  | none => s

def TaskX.demod (t : TaskX) : Nat := t.units.getD 2 0
def TaskX.sd (t : TaskX) : Nat := t.units.getD 3 0

/-- Does a task end for this cause (R253): 0 its abandon time, 1 its early end, 2 its dwell? -/
def State.taskEnds (s : State) (t : TaskX) (cause : Nat) : Bool :=
  if cause = 2 then true
  else if t.system = 1 then false
  else if t.system = 0 then
    if cause = 0 then decide (s.fld t.demod FM.LEVEL_Q < 80)
    else s.flag t.sd SD.SD_STATUS_PS_VALID && s.fld t.sd SD.ECC != 0
  else if cause = 0 then decide (s.fld t.demod OFDM.OFDM_STATUS_SYNC_STATE < 3)
  else if t.system = 2 then
    let l := s.bl (blSd t.sd sdServices 0)
    !l.isEmpty && l.all (fun x => x % 2 == 1)
  else [0, 1].all (fun i => (s.bl (blSd t.sd sdEntities 0)).contains i)

/-- A station without identity: FM without RDS, and every AM station (R244, R255). -/
def State.taskRecord (s : State) (t : TaskX) : State :=
  let station := (t.system == 0 && !s.flag t.sd SD.SD_STATUS_PI_VALID && decide (80 ≤ s.fld t.demod FM.LEVEL_Q)) ||
    (t.system == 1 && s.flag t.demod AM.AM_STATUS_CARRIER_LOCK)
  if station then s.gbHear ⟨t.demod, 0, t.system, t.khz, s.fieldOf t.demod, s.qualityOf t.demod, none, none⟩ else s

/-- SCAN_TASK_END: task `i`, counted from the one started first, ends.
Mark DEDUCED: notes/assumptions/108.md. -/
def execScanTaskEnd (i : Fin 16) (cause : Fin 3) (s : State) : Out :=
  .next (match s.scan.tasks[i.val]? with
    | none => s
    | some t =>
      if !s.taskEnds t cause then s
      else if cause.val = 0 then (s.abandonTask t).scanCycleEnd
      else ((s.taskRecord t).endTask t).scanCycleEnd)

/-- SCAN_CYCLE_START: after the pause the next cycle starts at entry 0. -/
def execScanCycleStart (s : State) : Out :=
  .next (if s.scan.run && s.scan.pausing then { s with scan := { s.scan with next := 0, pausing := false } } else s)

end Sys2Proof.Machine
end

