-- ==== Sys2Proof/Machine/Follow.lean ====
section
/-! DEFINITION. Service following (R259–R279): margins and candidates, borrowing of scouts, verification, alignment,
blends, loss of the source, announcements and the commands SF_FORCE, SF_HOME and SF_STATUS. -/

namespace Sys2Proof.Machine

/-- The unit whose Q the candidate has: home's, or that of the chain. -/
def State.candUnit (s : State) (f : Nat) : Nat := if s.ax f axFolHome = 1 then s.folSource f 0 else s.ax f axFolUnit

def State.candMargin (s : State) (f : Nat) : Int := s.liveMargin f (s.candUnit f) (s.ax f axFolHome == 1)

/-! ## Candidates (R263) -/

/-- Does the engine's forbidden list name a record? -/
def State.forbids (s : State) (f : Nat) (r : GRec) : Bool :=
  (List.range 16).any (fun i =>
    let k := s.rd f (0x180 + 8 * i)
    let m := (s.rd f (0x184 + 8 * i)).toNat % 268435456
    k != 0xFFFFFFFF && k == r.key && m / 16777216 == r.system && (m % 16777216 == 0 || m % 16777216 == r.freq))

def State.allows (s : State) (f : Nat) (r : GRec) : Bool :=
  r.system != 1 && (s.fld f FOL.SYSTEMS_ALLOW).testBit r.system

/-- A DAB engine in synchronisation that receives an ensemble. -/
def State.ensembleAt (s : State) (khz : Nat) : Option Nat :=
  ((List.range 16).map winOFDM).find? (fun e =>
    s.live e && s.fld e OFDM.OFDM_CFG_SYSTEM == 0 && s.syncState e == 6 && (s.unit e).lent == 0 && s.chanKhz e == khz)

/-- Has the record failed verification within the last RETRY_S? -/
def State.failedLately (s : State) (f i : Nat) : Bool :=
  (s.hs f hsFolFailed).any (fun x => decide (x.toNat / 2 ^ 64 = i ∧
    s.clock.uptime < x.toNat % 2 ^ 64 + secondTicks * s.fld f FOL.DWELL_RETRY_S))

/-- Is the record a candidate for the source whose record is `cur`? -/
def State.eligible (s : State) (f cur i : Nat) : Bool :=
  let r := s.gbRec i
  i != cur && !r.forbidden && !s.forbids f r && s.allows f r && (r.hard || s.flag f FOL.SYSTEMS_SOFT_OK) &&
  !s.failedLately f i && ((s.bestFe r.system r.freq).isSome || (r.system == 2 && (s.ensembleAt r.freq).isSome))

/-- Is candidate `i` ranked before `j`: by margin, hard link, the system of the playing source, index? -/
def State.ranksBefore (s : State) (f sys i j : Nat) : Bool :=
  let a := s.gbRec i
  let b := s.gbRec j
  let ma := s.marginOf f a.system a.quality false
  let mb := s.marginOf f b.system b.quality false
  if ma ≠ mb then decide (mb < ma)
  else if a.hard ≠ b.hard then a.hard
  else if (a.system == sys) ≠ (b.system == sys) then a.system == sys
  else decide (i < j)

/-- The candidates for a source, and the best of them. -/
def State.candidates (s : State) (f cur : Nat) : List Nat :=
  if s.guest.ready && s.gbOccupied cur then (s.ringOf cur).filter (s.eligible f cur) else []

def State.bestCandidate (s : State) (f cur : Nat) : Option Nat :=
  let sys := s.systemOf (s.folSource f (s.folPlays f))
  (s.candidates f cur).foldl (fun a i => match a with
    | none => some i
    | some j => if s.ranksBefore f sys i j then some i else some j) none

/-! ## Borrowing a chain (R261) -/

/-- The chain of an engine: its units, the unit whose Q counts, its SIDE_DATA unit; its audio drives input 1. -/
def State.setChain (s : State) (f : Nat) (ws : List Nat) (u sd audio : Nat) : State :=
  ((((s.setHs f 0 (ws.map Int.ofNat)).setHs f (hsFolSums + 1) []).setAx f axFolUnit u).setAx f axFolSd sd).linkUp audio 0 (folLane f) 1

/-- A decoder on a selection of an engine. -/
def State.addDecoder (s : State) (borrower e dec i id : Nat) : State :=
  let t := ((s.lend borrower dec).linkUp e 0 dec 0)
  let t1 := { t with tree := { t.tree with links := t.tree.links.map (fun (l : LinkX) => if l.src = e ∧ l.dst = dec then { l with sel := id } else l) } }
  let t2 := ((t1.put e (OFDM.SEL_SINK.at i) dec).put e (OFDM.SEL_OUTPUT.at i) 0).put e (OFDM.SEL_ID.at i) id
  ((t2.setBl (blIds e) ((List.range 64).map (fun k => if k = i then id else t2.selId e k))).judgeNew e |>.mciUpdate e).startUnit dec

/-- The chain on a running engine: a decoder and an unused selection entry. -/
def State.chainOnEngine (s : State) (f e sub : Nat) : Option State :=
  match s.freeUnitOf (winDec 0) 32, (List.range 64).find? (fun i => !s.selUsed e i) with
  | some dec, some i =>
    let sd := ((s.sinksOf e 1).find? (fun x => kindOf x == .sideData)).getD 0
    some ((s.addDecoder (lentFollow (f - 0x290)) e dec i sub).setChain f [dec] e sd dec)
  | _, _ => none

/-- A chain of its own for a system and frequency. -/
def State.chainOfOwn (s : State) (f system khz : Nat) : Option State :=
  let b := lentFollow (f - 0x290)
  match s.bestFe system khz, s.freeChannel, s.freeDemod system, s.freeUnitOf (winSD 0) 64 with
  | some fe, some d, some m, some sd =>
    let t := s.borrowChain b fe d m (some sd) system khz
    if system = 0 then some (t.setChain f [d, cfOfDdc d, m, sd] m sd m)
    else match t.freeUnitOf (winDec 0) 32 with
      | some dec => some ((t.addDecoder b m dec 0 0).setChain f [d, cfOfDdc d, m, sd, dec] m sd dec)
      | none => none
  | _, _, _, _ => none

/-- A chain for a system and frequency, with the sub-channel of the service where its ensemble is received already. -/
def State.chainFor (s : State) (f system khz sub : Nat) : Option State :=
  match (if system = 2 then s.ensembleAt khz else none) with
  | some e => s.chainOnEngine f e sub
  | none => s.chainOfOwn f system khz

/-- The chain, if need be with the units of the most recently started scan task (R20, R255). -/
def State.borrowAny (s : State) (f system khz sub : Nat) : Option State :=
  match s.chainFor f system khz sub with
  | some t => some t
  | none => if s.scan.tasks.isEmpty then none else s.takeNewestTask.chainFor f system khz sub

/-- The FOLLOW engines whose need of scouts stands and that come before an engine: those whose playing source is lost, then
in ascending lane number (R276). -/
def State.folFirst (s : State) (f : Nat) : List Nat :=
  let waits := ((List.range 32).map winFollow).filter (fun g => g != f && s.live g && s.folState g == 1 &&
    (s.fld g FOL.FOLLOW_STATUS_NEED).testBit 0)
  let before := fun (g h : Nat) => (s.folLost g && !s.folLost h) || (s.folLost g == s.folLost h && decide (g < h))
  waits.filter (fun g => before g f && s.folLost g) ++ waits.filter (fun g => before g f && !s.folLost g)

/-- The units that the engines before an engine would borrow for their best candidates are set aside. -/
def State.setAside (s : State) (f : Nat) : State :=
  (s.folFirst f).foldl (fun t g => match t.bestCandidate g (t.rd g FOL.CUR_INDEX.off).toNat with
    | some i => (t.borrowAny g (t.gbRec i).system (t.gbRec i).freq 0).getD t
    | none => t) s

/-- The chain, where enough is left for it beside what goes first to other engines.
Mark DEDUCED: notes/assumptions/267.md. -/
def State.borrow (s : State) (f system khz sub : Nat) : Option State :=
  if ((s.setAside f).borrowAny f system khz sub).isSome then s.borrowAny f system khz sub else none

/-! ## Moving between states (R266, R276) -/


/-- The NEED bits that still stand where bit `bit` is unmet: needs are judged in the order epoch, record, scouts, headroom, and
those judged before are met.
Mark DEDUCED: notes/assumptions/110.md. -/
def needKept (need bit : Nat) : Nat :=
  need &&& (if bit = 3 then 15 else if bit = 1 then 7 else if bit = 0 then 5 else 4) ||| 2 ^ bit

/-- A need is unmet: the engine stays on the playing source. A command not yet carried out is tried again at the next SEEK
(R276). -/
def State.folNeed (s : State) (f bit code : Nat) : State :=
  let t := ((((s.folRelease f).folRest f).put f FOL.FOLLOW_STATUS_LAST_CODE code).count f FOL.STAY_COUNT)
  let need := s.fld f FOL.FOLLOW_STATUS_NEED
  if needKept need bit = need then t
  else (t.put f FOL.FOLLOW_STATUS_NEED (needKept need bit)).raiseKind f evFolNeed

/-- The delay of the source on input `i`, d_new. -/
def State.folDelay (s : State) (f i dNew : Nat) : State :=
  (s.put (folLane f) (if i = 0 then LANE.DELAY_DELAY0_MS else LANE.DELAY_DELAY1_MS) dNew).put f FOL.DELAY_D_NEW_MS dNew

/-- A blend towards input `i` starts: the state, the delay of that input, the lane's fade, and whether the measured trim goes
with it. -/
def State.folFade (s : State) (f i dNew ms : Nat) (aligned : Bool) : State :=
  let t := (s.folDelay f i dNew).setAx f axFolTrim (b2n aligned)
  let e := s.clock.epoch
  ((((t.startXfade (f - 0x290) (48 * ms)).put f FOL.FOLLOW_STATUS_STATE 5).setAx f axFolTo i).setAx f axFolForce 0).mirrorMsg
    3 [2, w32 (f - 0x290), w32 i, w32 dNew, w32 ms, s.rd f FOL.TRIM.off, e.extractLsb' 0 32, e.extractLsb' 32 32]

/-- Is the epoch trusted (R276)? It is while no timing fault of class F2 stands (R403, R404). -/
def State.epochTrusted (s : State) : Bool := s.flag blkClk CLK.ROOT_STATUS_TRUSTED

/-- A cross-fade without alignment, with the delay that R273 gives. Without a trusted epoch no blend begins, and the engine
stays on the playing source (R21). -/
def State.folUnaligned (s : State) (f i : Nat) : State :=
  if !s.epochTrusted then s.folNeed f 3 0x0323
  else
    let d := s.fld f FOL.DELAY_D_CUR_MS
    s.folFade f i (Nat.min d (s.laneCap (f - 0x290) - d)) (s.fld f FOL.BLEND_BLEND_MS) false

/-- The return home of R273, for a chain that is gone or has played its announcement: where no blend may begin yet it waits
as a SF_HOME does.
Mark DEDUCED: notes/assumptions/205.md. -/
def State.folGoHome (s : State) (f : Nat) : State :=
  let t := s.folUnaligned f 0
  if t.folState f = 5 then t else t.setAx f axFolForce 3

/-- UNALIGNED_COUNT counts the switches that are made as R273 makes them, without alignment. -/
def State.folHurry (s : State) (f i : Nat) : State :=
  let t := s.folUnaligned f i
  if t.folState f = 5 then t.count f FOL.UNALIGNED_COUNT else t

/-- Where the engine plays away, its source is lost and home is not: with no candidate that qualifies it returns home by the
fade of R273. -/
def State.folHomeIfLost (s : State) (f : Nat) : State :=
  if s.folPlays f = 1 ∧ s.folLost f ∧ !s.folBad f 0 then s.folGoHome f else s

/-- Identity has passed: for a lost source under UNALIGNED_OK a candidate of margin 0 or more is taken at once, without
alignment (R273). -/
def State.folPrompt (s : State) (f : Nat) : State :=
  if s.folState f = 3 ∧ s.folLost f ∧ s.flag f FOL.SYSTEMS_UNALIGNED_OK ∧ 0 ≤ s.candMargin f then
    s.folHurry f (1 - s.folPlays f) else s

/-- A check fails: the scout is given back, the failure counted and told (R266). SF_HOME then goes home as R273 has it, and so
does an engine that plays a lost source away (R273, R275).
Mark DEDUCED: notes/assumptions/113.md. -/
def State.folFail (s : State) (f code : Nat) (align : Bool) : State :=
  let idx := s.rd f FOL.CAND_INDEX.off
  let home := s.ax f axFolForce == 3
  let t := ((s.put f FOL.FOLLOW_STATUS_LAST_CODE code).count f
    (if align then FOL.ALIGN_FAIL_COUNT else FOL.VERIFY_FAIL_COUNT)).raiseKind f evFolVerify
  if home then t.folHurry f 0
  else
    let t1 := t.setHs f hsFolFailed (((t.hs f hsFolFailed).filter (fun x => x.toNat / 2 ^ 64 != idx.toNat)) ++
      [Int.ofNat (idx.toNat * 2 ^ 64 + t.clock.uptime)])
    (((t1.folRelease f).folRest f).setAx f axFolForce 0).folHomeIfLost f

/-- A check has begun: every need but that of headroom is met. -/
def needStill (s : State) (f : Nat) : Nat := s.fld f FOL.FOLLOW_STATUS_NEED &&& 4

/-- The check of a record begins: a chain is borrowed and linked to input 1. -/
def State.folVerify (s : State) (f i sub : Nat) : State :=
  let r := s.gbRec i
  if s.folPlays f = 1 then s.folNeed f 0 0x0320
  else match s.borrow f r.system r.freq sub with
    | none => s.folNeed f 0 0x0320
    | some t =>
      (((((t.put f FOL.FOLLOW_STATUS_STATE 2).wr f 0x088 (w32 i)).putI f FOL.MARGINS_CAND_M
        (s.marginOf f r.system r.quality false)).put f FOL.FOLLOW_STATUS_NEED (needStill s f)).setAx f axFolHome 0).mirrorMsg 3
        [1, w32 (f - 0x290), w32 i, w32 sub]

/-- The check of home begins, which runs already on input 0. -/
def State.folVerifyHome (s : State) (f : Nat) (home : Word) : State :=
  ((((s.put f FOL.FOLLOW_STATUS_STATE 2).wr f 0x088 home).putI f FOL.MARGINS_CAND_M
    (s.liveMargin f (s.folSource f 0) true)).put f FOL.FOLLOW_STATUS_NEED (needStill s f)).setAx f axFolHome 1

/-! ## Seeking and surveys (R265, R266) -/

/-- May the engine choose: it runs, it is in WATCH, no fade of its lane runs, and no lead chooses for it (R464)? -/
def State.folIdle (s : State) (f : Nat) : Bool :=
  !s.ferry.followed && s.live f && s.folState f == 1 && !s.flag (folLane f) LANE.LANE_STATUS_FADING

/-- The index of the playing source, as firmware knows it: home's, while the lane plays home. -/
def State.folCur (s : State) (f : Nat) (home : Word) : State :=
  if s.folPlays f = 0 then s.wr f FOL.CUR_INDEX.off home else s

/-- The record that SF_FORCE names may be followed: 0, or the code of the refusal. -/
def State.forceCode (s : State) (f i : Nat) : Nat :=
  let r := s.gbRec i
  if !s.guest.ready || !s.gbOccupied i || !s.allows f r then 0x0240
  else if r.forbidden || s.forbids f r then 0x0241 else 0

/-- Away from home, home is always a candidate (R262); the worked example of ch. 10 checks it while the margin of the
playing source is above SEEK_M, once home's exceeds it by SWITCH_MARGIN.
Mark DEDUCED: notes/assumptions/206.md. -/
def State.homeBetter (s : State) (f : Nat) : Bool :=
  s.folPlays f == 1 && decide (s.liveMargin f (s.folSource f 1) false + s.fld f FOL.SWITCH_SWITCH_MARGIN ≤
    s.liveMargin f (s.folSource f 0) true)

/-- FOLLOW_SEEK: the margin of the playing source is below SEEK_M, or the source is lost, or a command waits. `home` is
the Guestbook index of the home source, all ones if unknown; `sub` the sub-channel of the candidate's service in an
ensemble that is received already. An SF_FORCE of the record that plays is done with; away from home, one of home's record
leads home.
Mark DESIGN CHOICE: notes/assumptions/109.md.
Mark DEDUCED: notes/assumptions/110.md. -/
def execFollowSeek (n : Fin 32) (home : Word) (sub : Fin 64) (s : State) : Out :=
  let f := winFollow n
  .next (if !s.folIdle f then s
    else
      let t := (s.folCur f home).useFresh
      let force := t.ax f axFolForce
      let m := s.liveMargin f (s.folSource f (s.folPlays f)) false
      if !(force != 0 || s.folLost f || s.homeBetter f || decide (m < s.fld f FOL.SWITCH_SEEK_M)) then t
      else if !t.epochTrusted then t.folNeed f 3 0x0323
      else if force = 3 then (if t.folPlays f = 0 then t.setAx f axFolForce 0 else t.folVerifyHome f home)
      else if force ≠ 0 ∧ t.rd f FOL.CUR_INDEX.off = w32 (t.ax f axFolIndex) then t.setAx f axFolForce 0
      else if force ≠ 0 ∧ t.folPlays f = 1 ∧ home = w32 (t.ax f axFolIndex) then t.folVerifyHome f home
      else if force ≠ 0 then
        (if t.forceCode f (t.ax f axFolIndex) = 0 then t.folVerify f (t.ax f axFolIndex) sub else t.folNeed f 1 0x0321)
      else if t.folPlays f = 1 then t.folVerifyHome f home
      else match t.bestCandidate f (t.rd f FOL.CUR_INDEX.off).toNat with
        | some i => t.folVerify f i sub
        | none => t.folNeed f 1 0x0321)

/-- FOLLOW_SURVEY: record `i`, an eligible FM record learnt from a list or not heard for a minute, is checked. The check of
the best candidate goes on to ALIGN, that of another ends with its identity (R265, R266).
Mark DEDUCED: notes/assumptions/266.md. -/
def execFollowSurvey (n : Fin 32) (home i : Word) (s : State) : Out :=
  let f := winFollow n
  .next (if !(s.folIdle f && s.fld f FOL.SURVEY_S != 0) then s
    else
      let t := s.folCur f home
      let r := t.gbRec i.toNat
      if !t.epochTrusted then t.folNeed f 3 0x0323
      else if !((t.candidates f (t.rd f FOL.CUR_INDEX.off).toNat).contains i.toNat && r.system == 0 &&
          (r.fromList || decide (1 ≤ r.age))) then t
      else
        let u := t.folVerify f i.toNat 0
        if u.folState f = 2 ∧ t.bestCandidate f (t.rd f FOL.CUR_INDEX.off).toNat ≠ some i.toNat then u.setAx f axFolSurvey 1
        else u)

/-! ## Verification (R267) -/

/-- The SIDE_DATA unit that identifies the candidate: that of the chain, or of home (R261). -/
def State.folSd (s : State) (f : Nat) : Nat :=
  if s.ax f axFolHome = 1 then
    ((s.sinksOf (s.folSource f 0) 1).find? (fun x => kindOf x == .sideData)).getD 0
  else s.ax f axFolSd

/-- Does the scout report the candidate's key (R261, R267): its PI, with the ECC where the record has one; its SId in FIG 0/2;
its service ID in the SDC? Home whose record is unknown has no key to report. -/
def State.identityHeld (s : State) (f : Nat) : Bool :=
  let i := (s.rd f FOL.CAND_INDEX.off).toNat
  let r := s.gbRec i
  let sd := s.folSd f
  if s.ax f axFolHome = 1 && !s.gbOccupied i then true
  else if r.system ≠ 0 then (s.bl (blSd sd sdServices 0)).any (fun x =>
    x / 4 == (if r.system = 2 ∧ r.key.toNat < 16777216 then r.key.toNat % 65536 else r.key.toNat))
  else s.flag sd SD.SD_STATUS_PI_VALID && s.fld sd SD.ID == r.key.toNat % 65536 && (r.ecc == 0 || s.fld sd SD.ECC == r.ecc)

/-- VERIFY_IDENTITY_PASS: to ALIGN; a survey's check ends with it; a lost source under UNALIGNED_OK, or SF_FORCE with
UNALIGNED, cross-fades at once. `sub` is the sub-channel that the chain's own engine is to deliver. -/
def execVerifyIdentityPass (n : Fin 32) (sub : Fin 64) (s : State) : Out :=
  let f := winFollow n
  .next (if !(s.live f && s.folState f == 2 && s.identityHeld f) then s
    else if s.ax f axFolSurvey = 1 then (s.folRelease f).folRest f
    else
      let e := s.ax f axFolUnit
      let own := ((s.hs f 0).map Int.toNat).contains e && kindOf e == .ofdm
      let t := if own then
          (s.put e (OFDM.SEL_ID.at ((s.selsUsed e).headD 0)) sub).selTake e
        else s
      if t.ax f axFolForce = 2 then t.folHurry f (1 - t.folPlays f)
      else (((t.put f FOL.FOLLOW_STATUS_STATE 3).setAx f axFolTries 0).setAx f axFolLag 0).folPrompt f)

/-- VERIFY_TIMEOUT: identity is not found within its limit. -/
def execVerifyTimeout (n : Fin 32) (s : State) : Out :=
  let f := winFollow n
  .next (if s.live f && s.folState f == 2 then s.folFail f 0x0510 false else s)

/-- VERIFY_QUALITY_CHECK: every 100 ms the candidate's live margin is looked at. Below 0 it fails the check, and in
READY it sends the engine back to WATCH; in ALIGN, a lost source takes one of 0 or more. Commands ignore margins.
Mark DEDUCED: notes/assumptions/116.md. -/
def execVerifyQualityCheck (n : Fin 32) (s : State) : Out :=
  let f := winFollow n
  .next (if !(s.live f && decide (2 ≤ s.folState f ∧ s.folState f ≤ 4)) then s
    else
      let m := s.candMargin f
      let t := (s.putI f FOL.MARGINS_CAND_M m).useFresh
      if s.ferry.followed then t
      else if s.folState f = 3 then t.folPrompt f
      else if 0 ≤ m ∨ s.ax f axFolForce ≠ 0 then t
      else if s.folState f = 2 then t.folFail f 0x0511 false
      else ((t.folRelease f).folRest f).folHomeIfLost f)

/-! ## Alignment (R268, R269) -/

/-- Alignment has passed with lag `lag`: delay headroom is judged, and READY, in which the candidate has its delay, or the need
of R269. The wait of R271 starts anew. -/
def State.folAligned (s : State) (f : Nat) (lag : Int) : State :=
  let cur := s.fld f FOL.DELAY_D_CUR_MS
  let d := (cur : Int) - roundAway lag 48
  if 0 ≤ d ∧ (cur : Int) + d ≤ s.laneCap (f - 0x290) then
    ((((s.folDelay f (1 - s.folPlays f) d.toNat).put f FOL.FOLLOW_STATUS_STATE 4).put f FOL.FOLLOW_STATUS_NEED 0).setAx f
      axFolWait 0).setAx f axFolDue 0
  else if s.ax f axFolForce = 3 then s.folHurry f 0
  else s.folNeed f 2 0x0322

/-- The newest `w` pairs of candidate and playing source at a lag: the candidate delivers `lag` samples later. -/
def corrPairs (c p : List Int) (w : Nat) (lag : Int) : List (Int × Int) :=
  if 0 ≤ lag then (c.zip (p.drop lag.toNat)).take w else ((c.drop (-lag).toNat).zip p).take w

/-- Do the two sources, of which `c` and `p` samples are held, fill a window of `w` at a lag? -/
def windowHeld (c p w : Nat) (lag : Int) : Bool := decide (w + (-lag).toNat ≤ c ∧ w + lag.toNat ≤ p)

/-- What ρ is made of: the sum of the products, and the sums of the squares of the candidate and of the playing source. -/
structure Corr where
  prod : Int
  cand : Nat
  play : Nat
  deriving DecidableEq, Repr

def corrOf (xs : List (Int × Int)) : Corr :=
  xs.foldl (fun a x => ⟨a.prod + x.1 * x.2, a.cand + x.1.natAbs ^ 2, a.play + x.2.natAbs ^ 2⟩) ⟨0, 0, 0⟩

/-- Is the first ρ the greater? A ρ is `prod / √(cand · play)`, 0 where a source is silent. -/
def Corr.exceeds (a b : Corr) : Bool :=
  decide (b.prod * b.prod.natAbs * Nat.max (a.cand * a.play) 1 < a.prod * a.prod.natAbs * Nat.max (b.cand * b.play) 1)

/-- Is ρ at least `m` / 255? -/
def Corr.atLeast (a : Corr) (m : Nat) : Bool :=
  decide (0 ≤ a.prod ∧ m ^ 2 * (a.cand * a.play) ≤ 255 ^ 2 * a.prod.natAbs ^ 2)

/-- ρ × 255: the exact value where it is whole, else one of the two beside it. -/
def Corr.rho (a : Corr) (up : Bool) : Nat :=
  if a.prod ≤ 0 then 0
  else
    let r := Nat.sqrt (255 ^ 2 * a.prod.natAbs ^ 2 / Nat.max (a.cand * a.play) 1)
    if up && !decide (r ^ 2 * (a.cand * a.play) = 255 ^ 2 * a.prod.natAbs ^ 2) then Nat.min (r + 1) 255 else r

/-- Of the lags from `lo` on, `n` of them, the one whose ρ over a whole window is greatest; none where no lag has one.
Mark DEDUCED: notes/assumptions/112.md. -/
def peakLag (c p : List Int) (w : Nat) (lo : Int) (n : Nat) : Option Int :=
  ((((List.range n).map (fun (k : Nat) => lo + (k : Int))).filter (windowHeld c.length p.length w)).foldl
    (fun (a : Option (Int × Corr)) l =>
      let g := corrOf (corrPairs c p w l)
      match a with
      | none => some (l, g)
      | some b => if g.exceeds b.2 then some (l, g) else a) none).map Prod.fst

/-- The sums that an engine holds of the input that plays (`true`) or of the other. -/
def State.folSums (s : State) (f : Nat) (playing : Bool) : List Int :=
  s.hs f (hsFolSums + (if playing then s.folPlays f else 1 - s.folPlays f))

/-- The filter that decimates the sums from 48 kHz to 4 kHz (R268); its length is not stated.
Mark DESIGN CHOICE: notes/assumptions/235.md. -/
def corrTaps : List Int := symTaps (freeSide .correlator 0 48)

/-- The sums at 4 kHz: one of twelve outputs of the decimator. -/
def decimated12 (up : Nat → Bool) (xs : List Int) : List Int :=
  (List.range (xs.length / 12)).map (fun k => firOut corrTaps ((xs.drop (12 * k)).take 97) (up k))

/-- The lag of a measurement: the peak over ±3 s at 4 kHz, as far as the two sources fill the window, refined at 48 kHz within
±0.5 ms (R268). -/
def State.folLag (s : State) (f : Nat) : Option Int :=
  let c := s.folSums f false
  let p := s.folSums f true
  let w := s.fld f FOL.CORR_CFG_WINDOW_MS
  match peakLag (decimated12 (fun k => Config.rounds s.fresh (2 * k)) c) (decimated12 (fun k => Config.rounds s.fresh (2 * k + 1)) p)
    (4 * w) (-12000) 24001 with
  | some m => peakLag c p (48 * w) (12 * m - 24) 49
  | none => none

/-- The window that a measurement looks at, at its lag. -/
def State.folWindow (s : State) (f : Nat) (lag : Int) : List (Int × Int) :=
  corrPairs (s.folSums f false) (s.folSums f true) (48 * s.fld f FOL.CORR_CFG_WINDOW_MS) lag

/-- Is a source of the window below −50 dBFS: the RMS of its mono sum (L + R) / 2 against full scale? -/
def quietWindow (xs : List (Int × Int)) : Bool :=
  let g := corrOf xs
  decide (100000 * Nat.min g.cand g.play < xs.length * 2 ^ 64) || xs.isEmpty

/-- A measurement ends with a lag: it is shown, and alignment may pass or fail. -/
def State.folMeasured (s : State) (f : Nat) (lag : Int) : State :=
  let g := corrOf (s.folWindow f lag)
  let up := fun (i : Nat) => (Config.freeWord s.fresh).getLsbD i
  let tries := s.ax f axFolTries + 1
  let t := ((((s.useFresh.putI f FOL.ALIGN_LAG lag).put f FOL.CORR_RHO (g.rho (up 0))).putI f FOL.CORR_LEVEL_TRIM
    (powerLevel g.play g.cand (up 1))).setAx f axFolTries tries)
  let pass := g.atLeast (s.fld f FOL.CORR_CFG_CORR_MIN)
  let prev := s.ax f axFolLag
  if 144000 < lag.natAbs then t.folFail f 0x0513 true
  else if pass ∧ prev ≠ 0 ∧ (lag + 1048576 - prev).natAbs ≤ 48 then t.folAligned f lag
  else if 4 ≤ tries then t.folFail f 0x0512 true
  else t.setAx f axFolLag (if pass then (lag + 1048576).toNat else 0)

/-- CORRELATION_MEASURED: the correlator measures over what it holds of the two inputs. A window in which a source is
below −50 dBFS is inconclusive and repeated, and none ends before the sources fill one.
Mark DEDUCED: notes/assumptions/112.md. -/
def execCorrelationMeasured (n : Fin 32) (s : State) : Out :=
  let f := winFollow n
  .next (if !(s.live f && s.folState f == 3) then s
    else match s.folLag f with
    | none => s
    | some lag => if quietWindow (s.folWindow f lag) then s else s.folMeasured f lag)

/-! ## Switching (R271, R272) -/

/-- FOLLOW_SWITCH_DUE: in READY, with the margin held for HOLD_MS and the dwell passed (R271). -/
def execFollowSwitchDue (n : Fin 32) (s : State) : Out :=
  let f := winFollow n
  .next (if s.live f && s.folState f == 4 && !s.ferry.followed then
    let cur := s.liveMargin f (s.folSource f (s.folPlays f)) false
    let t := s.useFresh.putI f FOL.MARGINS_CAND_M (s.candMargin f)
    if cur + s.fld f FOL.SWITCH_SWITCH_MARGIN ≤ s.candMargin f then (t.setAx f axFolDue 1).setAx f axFolWait 0
    else t.setAx f axFolDue 0
  else s)

/-- Is the switch to be made: due, for a lost source, or by a command? -/
def State.folMaySwitch (s : State) (f : Nat) : Bool :=
  s.ax f axFolDue == 1 || s.ax f axFolForce != 0 || (s.folLost f && decide (0 ≤ s.candMargin f))

/-- The direction in which a signal crosses zero `k` samples ago: up, down or neither. -/
def crossing (xs : List Int) (k : Nat) : Option Bool :=
  match xs.drop k with
  | x :: y :: _ => if y < 0 ∧ 0 ≤ x then some true else if 0 ≤ y ∧ x < 0 then some false else none
  | _ => none

/-- Do the two aligned mono sums cross zero in the same direction within 1 ms of each other, the later of them now
(R272)? -/
def State.folCross (s : State) (f : Nat) : Bool :=
  let p := (s.folSums f true).drop (48 * s.fld f FOL.DELAY_D_CUR_MS)
  let c := (s.folSums f false).drop (48 * s.fld f FOL.DELAY_D_NEW_MS)
  (List.range 49).any (fun k => (crossing p 0 != none && crossing p 0 == crossing c k) ||
    (crossing c 0 != none && crossing c 0 == crossing p k))

/-- Is this the moment of the blend: a common crossing, 100 ms without one, or at once where the source is lost (R272,
R277)? -/
def State.folMoment (s : State) (f : Nat) : Bool := s.folLost f || s.folCross f || decide (4800 ≤ s.ax f axFolWait)

/-- BLEND_START: the moment of a blend comes while its conditions hold. No blend begins without a trusted epoch: the engine
stays on its source (R21, R276). -/
def execBlendStart (n : Fin 32) (s : State) : Out :=
  let f := winFollow n
  .next (if s.live f && s.folState f == 4 && s.folMaySwitch f && s.folMoment f && !s.ferry.followed then
    if s.epochTrusted then
      s.folFade f (1 - s.folPlays f) (s.fld f FOL.DELAY_D_NEW_MS) (s.fld f FOL.BLEND_BLEND_MS) true
    else s.folNeed f 3 0x0323
  else s)

/-! ## Announcements (R274) -/

/-- Is a list of the form kept for an announcement that of this engine (or EON) and cluster (or network)? -/
def annIs (a : List Int) (engine cluster : Nat) : Bool :=
  !a.isEmpty && a.getD 0 0 == Int.ofNat engine && a.getD 2 0 == Int.ofNat cluster

def annAlarm (a : List Int) : Bool := a.getD 3 0 == 1

/-- The blend stage is muted on an announcement's way in, or lets go (R274, R291).
Mark DEDUCED: notes/assumptions/115.md. -/
def State.folMute (s : State) (f : Nat) (on : Bool) : State :=
  let lane := folLane f
  s.setAx lane axLaneAsk (s.ax lane axLaneAsk / 2 * 2 + b2n on)

/-- The chain that plays or waits is pointed at another announced source: another selection of its engine, or for EON
another frequency; none where the chain is of another kind. -/
def State.folRepoint (s : State) (f : Nat) (a : List Int) : Option State :=
  let ws := (s.hs f 0).map Int.toNat
  if a.getD 0 0 = 0 then
    if kindOf (s.ax f axFolUnit) ≠ .fmDemod then none
    else match ws with
    | d :: _ => some (((s.setChannel d (s.srcOf d 0) 0 (a.getD 4 0).toNat).syncReset d).syncReset (cfOfDdc d))
    | [] => none
  else
    match s.tree.links.find? (fun l => ws.contains l.dst && kindOf l.dst == .audioDec && (l.src : Int) == a.getD 0 0) with
    | some l => (s.selOf l.src l.dst l.out).map (fun i => (s.put l.src (OFDM.SEL_ID.at i) (a.getD 1 0).toNat).selTake l.src)
    | none => none

/-- A chain for an announcement. -/
def State.annChain (s : State) (f : Nat) (a : List Int) : Option State :=
  if a.getD 0 0 = 0 then s.borrow f 0 (a.getD 4 0).toNat 0
  else match s.chainOnEngine f (a.getD 0 0).toNat (a.getD 1 0).toNat with
    | some t => some t
    | none => if s.scan.tasks.isEmpty then none else s.takeNewestTask.chainOnEngine f (a.getD 0 0).toNat (a.getD 1 0).toNat

/-- The chain that the engine holds is re-pointed; one of another kind, or none, gives way to a chain for the announcement. -/
def State.annPoint (s : State) (f : Nat) (a : List Int) : Option State :=
  match s.folRepoint f a with
  | some t => some t
  | none => (s.dropScouts f).annChain f a

/-- An announcement is the one that the engine follows: its chain is set up, and the lane is muted until it is VALID. -/
def State.annFollow (s : State) (f : Nat) (a : List Int) : State :=
  (((s.folMute f true).put f FOL.FOLLOW_STATUS_STATE 6).setHs f hsFolAnn a).setAx f axFolFaded 0

/-- An announcement is taken up from any state but BLEND and ANNOUNCE. Without a chain the engine stays as it is (R276). -/
def State.annTake (s : State) (f : Nat) (a : List Int) : State :=
  let away := s.folPlays f
  let t := (s.folRelease f).folRest f
  match t.annPoint f a with
  | some u => (u.annFollow f a).setAx f axFolAway away
  | none => t.folNeed f 0 0x0320

/-- An announcement waits, one of each engine and cluster once, an Alarm before those of other types. -/
def annQueue (waits a : List Int) : List Int :=
  let xs := (List.range (waits.length / 5)).map (fun i => (waits.drop (5 * i)).take 5)
  let same := fun (x : List Int) => x.getD 0 0 == a.getD 0 0 && x.getD 2 0 == a.getD 2 0
  let ys := if xs.any same then xs.map (fun x => if same x then a else x) else xs ++ [a]
  (ys.filter annAlarm ++ ys.filter (fun x => !annAlarm x)).flatten

/-- What waits without the announcement of an engine and cluster. -/
def annDrop (waits : List Int) (engine cluster : Nat) : List Int :=
  ((List.range (waits.length / 5)).map (fun i => (waits.drop (5 * i)).take 5)).filter (fun x => !annIs x engine cluster) |>.flatten

def State.annWait (s : State) (f : Nat) (a : List Int) : State := s.setHs f hsFolNext (annQueue (s.hs f hsFolNext) a)

/-- An announcement is signalled for the playing source: taken up, kept for the end of a blend or of another
announcement, or as an Alarm put in the place of another type (R274). -/
def State.folAnnounce (s : State) (f : Nat) (a : List Int) : State :=
  let cur := s.hs f hsFolAnn
  if s.folState f = 5 ∨ s.ax f axFolBack = 1 then s.annWait f a
  else if s.folState f = 6 then
    if cur.getD 0 0 = a.getD 0 0 ∧ cur.getD 2 0 = a.getD 2 0 then s
    else if annAlarm a ∧ !annAlarm cur then
      match s.annPoint f a with
      | some t => t.annFollow f a
      | none => s.annWait f a
    else s.annWait f a
  else s.annTake f a

/-- The first announcement that waits is taken up. -/
def State.annWaiting (s : State) (f : Nat) : State :=
  let a := s.hs f hsFolNext
  if a.isEmpty then s else (s.setHs f hsFolNext (a.drop 5)).annTake f (a.take 5)

/-- The announcement of an engine is over. From home the lane fades back to it at d_cur, which a lead tells its standby;
from away it returns home as R273 says. One that was not faded in yet is only dropped, unless it took another's place. -/
def State.annBack (s : State) (f : Nat) : State :=
  let faded := s.ax f axFolFaded == 1
  let t := (((if faded then s.raiseKind f evFolAnnEnd else s).setHs f hsFolAnn []).folMute f false)
  if t.ax f axFolAway = 1 then (t.setAx f axFolFaded 0).folGoHome f
  else if faded ∨ t.folPlays f = 1 then
    let lane := folLane f
    let e := t.clock.epoch
    let u := ((((t.put lane LANE.DELAY_DELAY0_MS (t.fld f FOL.DELAY_D_CUR_MS)).setAx f axFolBack 1).setAx f axFolFaded 0).setAx f
      axFolTrim 0).folRest f
    ((if u.folPlays f = 0 then u.put lane LANE.LANE_STATUS_PLAYING 1 else u).startXfade (f - 0x290)
      (48 * u.fld f FOL.BLEND_ANN_RAMP_MS)).mirrorMsg 3
      [3, w32 (f - 0x290), 0, w32 (t.fld f FOL.DELAY_D_CUR_MS), w32 (t.fld f FOL.BLEND_ANN_RAMP_MS), t.rd f FOL.TRIM.off,
       e.extractLsb' 0 32, e.extractLsb' 32 32]
  else ((t.dropScouts f).folRest f).annWaiting f

/-- ANN_FADE_BACK: an announcement ends. An engine that a lead leads fades back when the lead's fade is told (R464). -/
def State.annOver (s : State) (f engine cluster : Nat) : State :=
  let t := s.setHs f hsFolNext (annDrop (s.hs f hsFolNext) engine cluster)
  if t.folState f ≠ 6 ∨ !annIs (t.hs f hsFolAnn) engine cluster ∨ (t.ferry.followed ∧ t.ax f axFolFaded = 1) then t
  else t.annBack f

/-- The FOLLOW engines in RUN whose playing source comes from a unit. -/
def State.followersOf (s : State) (u : Nat) : List Nat :=
  ((List.range 32).map winFollow).filter (fun f => s.live f && s.folState f != 0 && s.folSource f (s.folPlays f) == u)

/-- Does an engine follow an announcement of these types: ANN_MASK under ANN_FOLLOW, or an Alarm under ALARM_FORCE? -/
def State.annFollowed (s : State) (f flags : Nat) (alarm : Bool) : Bool :=
  (s.flag f FOL.FOLLOW_CTL_ANN_FOLLOW && flags &&& s.fld f FOL.ANN_ANN_MASK != 0) ||
  (alarm && s.flag f FOL.ANN_ALARM_FORCE)

/-- The sub-channel that the playing source of an engine is. -/
def State.folSub (s : State) (f : Nat) : Nat :=
  let u := s.srcOf (folLane f) (s.folPlays f)
  match s.linkIn u 0 with
  | some l => ((s.selOf l.src l.dst l.out).map (s.selId l.src)).getD 64
  | none => 64

/-- The SIDE_DATA units fed by an engine. -/
def State.sdsOf (s : State) (u : Nat) : List Nat := (s.sinksOf u 1).filter (fun x => kindOf x == .sideData)

/-- The type 0x0D records of the start or end of an entry on an engine, in every SIDE_DATA unit that it feeds and that runs,
whether or not the engine is VALID (R224, R240): their INFO is the ASw flags as received. An alarm that ANN_MASK leaves out
raises no start or end. -/
def State.annRecords (s : State) (w : Nat) (start : Bool) (entry : Nat) : State :=
  if entry % 65536 = 0 then s
  else (s.sdsOf w).foldl (fun t x => if t.live x then
    t.sdAnnounce x start (entry / 2147483648) (t.systemOf w) (entry / 65536 % 256) (entry / 33554432 % 64) (entry / 16777216 % 2) 0
      (t.chanKhz w) (t.clock.epoch.extractLsb' 0 32) else t) s

/-- The FOLLOW engines are told that an announcement of an engine ended. -/
def State.annEnded (s : State) (w cluster : Nat) : State :=
  ((List.range 32).map winFollow).foldl (fun t f => if t.live f then t.annOver f w cluster else t) s

/-- The active entry of a cluster; 0 where there is none. -/
def State.annOf (s : State) (w cluster : Nat) : Nat :=
  (((s.hs w hsAnn).find? (fun e => e.toNat / 65536 % 256 == cluster)).getD 0).toNat

/-- ANNOUNCEMENT_ENTRY: a switching entry is received by an engine (R222, R240, R274). -/
def execAnnouncementEntry (n : Fin 16) (asw : BitVec 16) (cluster : BitVec 8) (sub : BitVec 6) (new region : Bool)
    (s : State) : Out :=
  let w := winOFDM n
  let c := cluster.toNat
  let was := s.annActive w c
  let t := s.annEntry w asw.toNat c sub.toNat new region
  .next (if asw = 0 then
      if was && !t.annActive w c then (t.annRecords w false (s.annOf w c)).annEnded w c else t
    else if !t.annActive w c || (t.annOf w c % 2147483648 == s.annOf w c % 2147483648) then t
    else
      let flags := asw.toNat &&& s.fld w OFDM.ANN_CFG_ANN_MASK
      let alarm := t.annOf w c / 16777216 % 2 == 1
      let t1 := t.annRecords w true (t.annOf w c)
      (t1.followersOf w).foldl (fun u f =>
        if u.annFollowed f flags alarm && u.folSub f != sub.toNat then
          u.folAnnounce f ([w, sub.toNat, c, b2n alarm, 0].map Int.ofNat) else u) t1)

/-- ANNOUNCEMENT_TIMEOUT: an active entry is not repeated within ANN_TIMEOUT (R222). -/
def execAnnouncementTimeout (n : Fin 16) (cluster : BitVec 8) (s : State) : Out :=
  let w := winOFDM n
  .next (if s.annActive w cluster.toNat then
    ((s.annEnd w cluster.toNat).annRecords w false (s.annOf w cluster.toNat)).annEnded w cluster.toNat else s)

/-- The TA of another network, 0 where it is unknown. -/
def State.netTaOf (s : State) (w pi : Nat) : Nat := (s.net w pi).getD 1 0 - 1

/-- What EON brings the FOLLOW engines of the tuned station: TA of a listed network rises with its TP at 1, or falls. It counts
as an announcement of type bit 1 (road traffic) against ANN_MASK, and never as an Alarm.
Mark DESIGN CHOICE: notes/assumptions/264.md. -/
def State.eonFollow (s t : State) (w pi : Nat) : State :=
  let khz := (t.bl (blSd w sdNetLast pi)).filter (fun k => 64000 ≤ k)
  if s.netTaOf w pi = t.netTaOf w pi then t
  else if t.netTaOf w pi = 0 then t.annEnded 0 pi
  else if (t.net w pi).getD 0 0 = 1 ∧ !khz.isEmpty then
    (t.followersOf (t.srcOf w 0)).foldl (fun u f =>
      if u.annFollowed f 2 false then u.folAnnounce f ([0, 0, pi, 0, khz.headD 0].map Int.ofNat) else u) t
  else t

/-- RDS_BLOCK: a block is received and corrected, with what its EON brings the FOLLOW engines. -/
def execRdsBlock (n : Fin 64) (s : State) : Out :=
  let w := winSD n
  let t := s.rdsBlock w
  .next ((t.bl (blSd w sdNets 0)).foldl (fun u pi => s.eonFollow u w pi) t)

/-- The lane fades to the announcement's chain with a delay of 0: from home across to input 1, away in on input 1. -/
def State.annIn (s : State) (f : Nat) : State :=
  let n := f - 0x290
  let lane := folLane f
  let t := (((s.put lane LANE.DELAY_DELAY1_MS 0).setAx f axFolFaded 1).setAx f axFolTrim 0).folMute f false
  let e := t.clock.epoch
  let t1 := if t.folPlays f = 0 then t.startXfade n (48 * t.fld f FOL.BLEND_ANN_RAMP_MS)
    else ((t.setAx lane axFadeIn 1).setAx lane 32 0).setAx lane 33 (48 * t.fld f FOL.BLEND_ANN_RAMP_MS)
  ((t1.mirrorMsg 3 [3, w32 n, 1, 0, w32 (t.fld f FOL.BLEND_ANN_RAMP_MS), t.rd f FOL.TRIM.off, e.extractLsb' 0 32,
    e.extractLsb' 32 32]).raiseKind f evFolAnnStart).count f FOL.ANN_COUNT

/-- Does an announcement's chain wait to be faded in? -/
def State.annReady (s : State) (f : Nat) : Bool :=
  s.live f && s.folState f == 6 && s.ax f axFolFaded == 0 && s.laneSource (f - 0x290) 1

/-- ANN_FADE_IN: the announcement chain is VALID, and the lane fades to it; behind a lead, when its fade is told. -/
def execAnnFadeIn (n : Fin 32) (s : State) : Out :=
  .next (if s.annReady (winFollow n) && !s.ferry.followed then s.annIn (winFollow n) else s)

/-- A blend ends, and the engine goes on with the new source; one whose chain was taken meanwhile returns home (R261). -/
def State.blendEnd (s : State) (f : Nat) : State :=
  let lane := folLane f
  (if !(s.live f && s.folState f == 5) then s
    else
      let dest := s.ax f axFolTo
      let t := if s.folPlays f = dest then s.put lane LANE.LANE_STATUS_FADING 0 else (s.laneFlush lane).put lane
        LANE.LANE_STATUS_PLAYING dest
      let trim := if s.ax f axFolTrim = 0 then s.sfld f FOL.TRIM
        else clampI (-1200) 1200 (s.sfld f FOL.TRIM + s.sfld f FOL.CORR_LEVEL_TRIM)
      let t1 := (((t.putI f FOL.TRIM trim).put f FOL.DELAY_D_CUR_MS (s.fld f FOL.DELAY_D_NEW_MS)).wr f
        FOL.CUR_INDEX.off (s.rd f FOL.CAND_INDEX.off)).setAx f axFolLost 0
      let t2 := if dest = 0 then t1.dropScouts f else t1
      let t3 := (((t2.folRest f).count f FOL.SWITCH_COUNT).raiseKind f evFolSwitched).setAx f axFolTrim 0
      if dest = 1 ∧ (t3.hs f 0).isEmpty then t3.folGoHome f else t3.annWaiting f)

/-- XFADE_DONE: the last sample of a lane's fade. Under a FOLLOW engine it is the end of an announcement's fade, in or
back; a blend ends with BLEND_END.
Mark DESIGN CHOICE: notes/assumptions/51.md. -/
def execXfadeDone (n : Fin 32) (s : State) : Out :=
  let w := winLane n
  let f := winFollow n
  .next (if !s.flag w LANE.LANE_STATUS_FADING then s
    else if !s.followBound n then (s.laneFlush w).serveSelect n
    else if s.folState f = 5 then s
    else
      let t := s.laneFlush w
      if t.ax f axFolBack = 1 then ((t.setAx f axFolBack 0).dropScouts f).annWaiting f else t)

/-- RAMP_END: the running ramp has reached its target, GAIN or zero; where it was at zero for a RECENTRE, the lane ramps back
in (R270, R291). -/
def execRampEnd (n : Fin 32) (s : State) : Out :=
  let w := winLane n
  let r := s.fld w LANE.LANE_STATUS_RAMP_STATE
  .next (if s.ax w axRampAt < s.ax w axRampLen then s
    else if r = 1 then ((s.put w LANE.LANE_STATUS_RAMP_STATE 2).put w LANE.GAIN_NOW (s.fld w LANE.GAIN)).setAx w axAmp (s.gainAmp w)
    else if r = 3 then (if s.recentres w then (s.rampZero w).laneSteer w else s.rampZero w)
    else s)

/-! ## Loss of the source (R273) -/

/-- SOURCE_LOST: the playing source has been invalid or below MIN_Q for LOSS_MS. An engine that knows its candidate
moves at once; one that plays away, with no candidate that qualifies, returns home. -/
def execSourceLost (n : Fin 32) (s : State) : Out :=
  let f := winFollow n
  .next (if !(s.live f && s.folState f != 0 && s.folBad f (s.folPlays f) && s.ax f axFolLost == 0) then s
    else
      let t := (s.setAx f axFolLost 1).raiseKind f evFolLost
      let st := s.folState f
      if s.ferry.followed then t
      else if st = 3 then t.folPrompt f
      else if st = 1 && s.folPlays f == 1 && !s.folBad f 0 && decide (s.liveMargin f (s.folSource f 0) true < 0) then
        t.useFresh.folUnaligned f 0
      else t)

/-- SCOUT_LOST: units of an engine's chain are taken under R20, and the displaced task is abandoned and counted: a check
as failed with 0x0320 (R277); an announcement is over; and an away source fades home (R261). A blend, or a fade back, completes
(R21).
Mark DEDUCED: notes/assumptions/114.md. -/
def State.scoutTaken (s : State) (f : Nat) : State :=
  let st := s.folState f
  let t := s.dropScouts f
  if 2 ≤ st ∧ st ≤ 4 ∧ s.folPlays f = 0 then t.folFail f 0x0320 false
  else
    let u := t.count f FOL.SCOUT_LOST_COUNT
    if st = 6 then u.annBack f
    else if st = 5 ∨ s.ax f axFolBack = 1 then u
    else u.folGoHome f

/-- Every engine whose chain holds one of these units loses it. -/
def State.takeFromScouts (s : State) (ws : List Nat) : State :=
  (((List.range 32).map winFollow).filter (fun f => (s.hs f 0).any (fun x => ws.contains x.toNat))).foldl
    (fun t f => t.scoutTaken f) s

/-- Everything that an engine does but a blend is dropped, and it starts again in WATCH at home (R277). -/
def State.followRestart (s : State) (f : Nat) : State :=
  if s.live f && s.folState f != 0 then (s.followDrop f).followStart f else s

/-! ## Commands (R270, R275) -/

/-- RECENTRE: FOLLOW_CTL is written with RECENTRE at 1. -/
def execRecentre (m : Master) (n : Fin 32) (v : Word) (s : State) : Out :=
  let f := winFollow n
  let v' := v ||| 0x100
  .next (s.guarded m f 0x040 v' (s.followCodes f 0x040 v') (fun t => t.followCtl f v'))

/-- A command for a lane: refused with 0x0242 while its FOLLOW unit is not in RUN, and with 0x0202 where it names none of the 32
lanes.
Mark DESIGN CHOICE: notes/assumptions/263.md. -/
def State.folServe (s : State) (ph : Fin 8) (op : Nat) (tag : BitVec 8) (args : List Word)
    (body : State → Nat → State × List Word) : State :=
  s.serve ph op tag.toNat (fun t =>
    let n := arg args 0
    if 31 < n then t.reply ph op tag.toNat [0x0202]
    else if t.atomState (winFollow n) ≠ stRUN then t.reply ph op tag.toNat [0x0242]
    else
      let p := body t (winFollow n)
      p.1.reply ph op tag.toNat p.2)

/-- A command replaces one not yet carried out, and a check under way gives way to it. -/
def State.folCommand (s : State) (f kind i : Nat) : State :=
  let t := if 2 ≤ s.folState f ∧ s.folState f ≤ 4 then (s.folRelease f).folRest f else s
  (t.setAx f axFolForce kind).setAx f axFolIndex i

/-- SF_FORCE. -/
def execSfForce (ph : Fin 8) (tag : BitVec 8) (args : List Word) (s : State) : Out :=
  .next (s.folServe ph 0x50 tag args (fun t f =>
    let c := t.forceCode f (arg args 1)
    if c ≠ 0 then (t, [w32 c])
    else (t.folCommand f (if (args.getD 2 0).getLsbD 0 then 2 else 1) (arg args 1), [0])))

/-- SF_HOME. -/
def execSfHome (ph : Fin 8) (tag : BitVec 8) (args : List Word) (s : State) : Out :=
  .next (s.folServe ph 0x51 tag args (fun t f => (t.folCommand f 3 0, [0])))

/-- SF_STATUS. -/
def execSfStatus (ph : Fin 8) (tag : BitVec 8) (args : List Word) (s : State) : Out :=
  .next (s.folServe ph 0x52 tag args (fun t f => (t, 0 :: [0x080, 0x084, 0x088, 0x090, 0x098].map (t.followRead f))))

end Sys2Proof.Machine
end

