-- ==== Sys2Proof/Machine/Signature.lean ====
section
/-! DEFINITION. ECDSA P-256 signatures with SHA-256 (FIPS 186, FIPS 180), which R447 names for firmware images and R66 for
Manifests. The keys are fused: constants of Config. -/

namespace Sys2Proof.Machine

/-! ## SHA-256 -/

/-- The round constants. -/
def shaK : List Word :=
  [0x428A2F98, 0x71374491, 0xB5C0FBCF, 0xE9B5DBA5, 0x3956C25B, 0x59F111F1, 0x923F82A4, 0xAB1C5ED5,
   0xD807AA98, 0x12835B01, 0x243185BE, 0x550C7DC3, 0x72BE5D74, 0x80DEB1FE, 0x9BDC06A7, 0xC19BF174,
   0xE49B69C1, 0xEFBE4786, 0x0FC19DC6, 0x240CA1CC, 0x2DE92C6F, 0x4A7484AA, 0x5CB0A9DC, 0x76F988DA,
   0x983E5152, 0xA831C66D, 0xB00327C8, 0xBF597FC7, 0xC6E00BF3, 0xD5A79147, 0x06CA6351, 0x14292967] ++
  [0x27B70A85, 0x2E1B2138, 0x4D2C6DFC, 0x53380D13, 0x650A7354, 0x766A0ABB, 0x81C2C92E, 0x92722C85,
   0xA2BFE8A1, 0xA81A664B, 0xC24B8B70, 0xC76C51A3, 0xD192E819, 0xD6990624, 0xF40E3585, 0x106AA070,
   0x19A4C116, 0x1E376C08, 0x2748774C, 0x34B0BCB5, 0x391C0CB3, 0x4ED8AA4A, 0x5B9CCA4F, 0x682E6FF3,
   0x748F82EE, 0x78A5636F, 0x84C87814, 0x8CC70208, 0x90BEFFFA, 0xA4506CEB, 0xBEF9A3F7, 0xC67178F2]

/-- The eight words that the hash starts from. -/
def shaInit : List Word :=
  [0x6A09E667, 0xBB67AE85, 0x3C6EF372, 0xA54FF53A, 0x510E527F, 0x9B05688C, 0x1F83D9AB, 0x5BE0CD19]

/-- The 64 words of the message schedule, from the 16 of a block, oldest first. -/
def shaSchedule : Nat → List Word → List Word
  | 0, w => w
  | n + 1, w =>
    let x := fun (i : Nat) => w.getD (w.length - i) 0
    let s0 := (x 15).rotateRight 7 ^^^ (x 15).rotateRight 18 ^^^ (x 15) >>> 3
    let s1 := (x 2).rotateRight 17 ^^^ (x 2).rotateRight 19 ^^^ (x 2) >>> 10
    shaSchedule n (w ++ [x 16 + s0 + x 7 + s1])

/-- One round over the eight working words. -/
def shaRound (h : List Word) (kw : Word × Word) : List Word :=
  let g := fun (i : Nat) => h.getD i 0
  let s1 := (g 4).rotateRight 6 ^^^ (g 4).rotateRight 11 ^^^ (g 4).rotateRight 25
  let ch := (g 4 &&& g 5) ^^^ (~~~(g 4) &&& g 6)
  let t1 := g 7 + s1 + ch + kw.1 + kw.2
  let s0 := (g 0).rotateRight 2 ^^^ (g 0).rotateRight 13 ^^^ (g 0).rotateRight 22
  let maj := (g 0 &&& g 1) ^^^ (g 0 &&& g 2) ^^^ (g 1 &&& g 2)
  [t1 + s0 + maj, g 0, g 1, g 2, g 3 + t1, g 4, g 5, g 6]

/-- The hash after a further block of 16 words. -/
def shaBlock (h w : List Word) : List Word :=
  List.zipWith (· + ·) h ((shaK.zip (shaSchedule 48 w)).foldl shaRound h)

/-- Bytes as a number, the most significant first. -/
def bigEndian (bs : List Byte) : Nat := bs.foldl (fun a b => a * 256 + b.toNat) 0

/-- A number in `n` bytes, the most significant first. -/
def bigBytes (n v : Nat) : List Byte := (List.range n).map (fun i => BitVec.ofNat 8 (v / 256 ^ (n - 1 - i)))

/-- The message with its padding: 0x80, zeros, and its length in bits. -/
def shaPadded (bs : List Byte) : List Byte :=
  bs ++ 0x80 :: List.replicate ((119 - bs.length % 64) % 64) 0 ++ bigBytes 8 (8 * bs.length)

/-- SHA-256 of a message, as a number. -/
def sha256 (bs : List Byte) : Nat :=
  let p := shaPadded bs
  let word := fun (i : Nat) => BitVec.ofNat 32 (bigEndian ((p.drop (4 * i)).take 4))
  let h := (List.range (p.length / 64)).foldl (fun h b => shaBlock h ((List.range 16).map (fun i => word (16 * b + i)))) shaInit
  h.foldl (fun a w => a * 4294967296 + w.toNat) 0

/-! ## The curve P-256 -/

def p256 : Nat := 0xFFFFFFFF00000001000000000000000000000000FFFFFFFFFFFFFFFFFFFFFFFF

/-- The order of the base point. -/
def p256Order : Nat := 0xFFFFFFFF00000000FFFFFFFFFFFFFFFFBCE6FAADA7179E84F3B9CAC2FC632551

def p256Base : Nat × Nat :=
  (0x6B17D1F2E12C4247F8BCE6E563A440F277037D812DEB33A0F4A13945D898C296,
   0x4FE342E2FE1A7F9B8EE7EB4A7C0F9E162BCE33576B315ECECBB6406837BF51F5)

/-- A power modulo `m`, the bits of the exponent taken most significant first. -/
def powMod (b e m : Nat) : Nat :=
  (List.range 256).foldl (fun a i => (if e.testBit (255 - i) then a * a % m * b else a * a) % m) 1

/-- The inverse modulo a prime. -/
def invMod (a m : Nat) : Nat := powMod (a % m) (m - 2) m

/-- The sum of two points; none is the point at infinity. -/
def p256Add : Option (Nat × Nat) → Option (Nat × Nat) → Option (Nat × Nat)
  | none, q => q
  | p, none => p
  | some a, some b =>
    if a.1 = b.1 ∧ (a.2 + b.2) % p256 = 0 then none
    else
      let slope := if a.1 = b.1 then (3 * a.1 * a.1 + p256 - 3) * invMod (2 * a.2) p256 % p256
        else (b.2 + p256 - a.2) * invMod (b.1 + p256 - a.1) p256 % p256
      let x := (slope * slope + 2 * p256 - a.1 - b.1) % p256
      some (x, (slope * (a.1 + p256 - x) + p256 - a.2) % p256)

/-- A multiple of a point. -/
def p256Mul (k : Nat) (q : Nat × Nat) : Option (Nat × Nat) :=
  (List.range 256).foldl (fun a i =>
    let d := p256Add a a
    if k.testBit (255 - i) then p256Add d (some q) else d) none

/-- Does a signature r, s of a hash verify against a public key? -/
def ecdsaVerifies (key : Nat × Nat) (hash r s : Nat) : Bool :=
  decide (0 < r ∧ r < p256Order ∧ 0 < s ∧ s < p256Order) &&
    (let w := invMod s p256Order
     match p256Add (p256Mul (hash * w % p256Order) p256Base) (p256Mul (r * w % p256Order) key) with
     | some q => q.1 % p256Order == r
     | none => false)

/-- Does the block of 64 bytes that ends an image verify: r and then s, each big-endian, over all bytes before it (R447)? -/
def imageVerifies (key : Nat × Nat) (image : List Byte) : Bool :=
  let n := image.length - 64
  ecdsaVerifies key (sha256 (image.take n)) (bigEndian ((image.drop n).take 32)) (bigEndian (image.drop (n + 32)))

end Sys2Proof.Machine
end

