-- ==== Sys2Proof/Machine/Image.lean ====
section
/-! DEFINITION. The Manifest image (R65–R77): its records, the structure and the registers it asks for, and the
checks of R80 in the order and the passes of R525. -/

namespace Sys2Proof.Machine

/-- A record: its index, the word of its header, TYPE, FLAGS and body (R67). -/
structure MRec where
  idx : Nat
  pos : Nat
  type : Nat
  flags : Nat
  body : List Nat
  deriving DecidableEq, Repr

/-- A failure: CODE, RECORD and MF_WORD. -/
structure MFail where
  code : Nat
  record : Nat
  word : Nat
  deriving DecidableEq, Repr

/-! ## Reading the image -/

def hw (im : List Nat) (i : Nat) : Nat := im.getD i 0

/-- The first word after END: the signature's, or the end (R66). -/
def imEnd (im : List Nat) : Nat := if hw im 8 = 0 then hw im 5 else hw im 8 / 4

def bitsOf (v lsb n : Nat) : Nat := v / 2 ^ lsb % 2 ^ n

/-- Does a body fit the shape of its TYPE (R67)? -/
def shapeOk (type : Nat) (b : List Nat) : Bool :=
  let n := b.length
  match type with
  | 1 => decide (1 ≤ n) && n == 1 + (b.headD 0 / 65536 + 1) / 2
  | 2 => decide (2 ≤ n) && n % 2 == 0
  | 8 => decide (2 ≤ n) && n % 2 == 0
  | 3 => n == 2
  | 4 => decide (3 ≤ n) && n % 2 == 1
  | 9 => decide (3 ≤ n) && n % 2 == 1
  | 5 => decide (1 ≤ n)
  | 6 => decide (1 ≤ n) && n == 1 + b.headD 0 / 16777216
  | 7 => n == 3
  | 0x7F => n == 0
  | _ => true

def knownType (t : Nat) : Bool := (decide (1 ≤ t) && decide (t ≤ 9)) || t == 0x7F

/-- The records up to END, or where the frame first fails (check 10): the record and the word. -/
def frames : Nat → Nat → Nat → List Nat → List MRec × Option (Nat × Nat)
  | 0, idx, pos, _ => ([], some (idx - 1, pos))
  | n + 1, idx, pos, ws =>
    match ws with
    | [] => ([], some (idx - 1, pos))
    | h :: t =>
      let len := h % 65536
      let r : MRec := ⟨idx, pos, h / 16777216, h / 65536 % 256, t.take len⟩
      if t.length < len ∨ !shapeOk r.type r.body then ([], some (idx, pos))
      else if r.type = 0x7F then ([r], if t.isEmpty then none else some (idx, pos + 1))
      else
        let p := frames n (idx + 1) (pos + 1 + len) (t.drop len)
        (r :: p.1, p.2)

/-- The records of an image, to the end that its header gives. -/
def recordsOf (im : List Nat) : List MRec × Option (Nat × Nat) :=
  let ws := (im.take (imEnd im)).drop 16
  frames (ws.length + 1) 0 16 ws

/-- Checks 1 to 9, on the header.
Mark DEDUCED: notes/assumptions/81.md. -/
def State.headerFail (s : State) (im : List Nat) (bytes : Nat) : Option MFail :=
  let f := fun (bad : Bool) (code word : Nat) => if bad then some (⟨code, 0xFFFF, word⟩ : MFail) else none
  let len := hw im 5
  let sig := hw im 8
  let body := ((im.take (imEnd im)).drop 16).flatMap (fun w => bytesOf (w32 w))
  let reserved := [4, 9, 10, 11, 12, 13, 14, 15].find? (fun i => if i = 4 then decide (3 < hw im 4) else hw im i != 0)
  [f (hw im 0 != 0x4E4D5946) 0x0101 0,
   f (hw im 1 / 65536 != 1) 0x0102 1,
   f (!(hw im 4).testBit (b2n s.part.reduced)) 0x0103 4,
   f (decide (len < 17) || decide (65536 < len) || decide (bytes / 4 < len)) 0x0104 5,
   f (sig != 0 && (sig % 4 != 0 || decide (sig < 64) || sig + 64 != 4 * len)) 0x0104 8,
   f ((crc32 body).toNat != hw im 7) 0x0105 7,
   f (s.part.sigRequired && sig == 0) 0x0106 8,
   f (s.part.sigRequired && !imageVerifies Config.ownerKey (((im.take len).map w32).flatMap bytesOf)) 0x0107 8,
   f reserved.isSome 0x0108 (reserved.getD 0),
   f (hw im 3 != 0 && (s.comp? (hw im 3)).isNone) 0x0109 3].findSome? id

/-! ## What the records ask for -/

/-- A place in the image, in image order: the record and the word; 0 stands for no record (R525). -/
def imPlace (idx word : Nat) : Nat := (idx + 1) * 131072 + word

def latest (ps : List Nat) : Nat := ps.foldl Nat.max 0

/-- The windows of a UNIT record with their words. -/
def unitWins (r : MRec) : List (Nat × Nat) :=
  (List.range (r.body.headD 0 / 65536)).map
    (fun i => (bitsOf (r.body.getD (1 + i / 2) 0) (16 * (i % 2)) 10, r.pos + 2 + i / 2))

/-- A unit as the image lists it: its window, its parent and where. -/
structure MUnit where
  win : Nat
  parent : Nat
  at' : Nat
  deriving DecidableEq, Repr

def listings (rs : List MRec) : List MUnit :=
  (rs.filter (fun r => r.type == 1)).flatMap
    (fun r => (unitWins r).map (fun p => ⟨p.1, r.body.headD 0 % 1024, imPlace r.idx p.2⟩))

def isListed (rs : List MRec) (w : Nat) : Bool := (listings rs).any (fun u => u.win == w)

def listedAt (rs : List MRec) (w : Nat) : Nat :=
  match (listings rs).find? (fun u => u.win == w) with
  | some u => u.at'
  | none => 0

/-- The pairs of words of a record from word `k` on, each with its image word. -/
def pairsFrom (r : MRec) (k : Nat) : List (Nat × Nat × Nat) :=
  (List.range ((r.body.length - k) / 2)).map
    (fun i => (r.body.getD (k + 2 * i) 0, r.body.getD (k + 2 * i + 1) 0, r.pos + 1 + k + 2 * i))

/-- A link with the place of its word A. -/
def linksOf (rs : List MRec) : List (LinkX × Nat) :=
  (rs.filter (fun r => r.type == 2)).flatMap (fun r => (pairsFrom r 0).map (fun p =>
    (⟨bitsOf p.1 0 10, bitsOf p.1 10 4, bitsOf p.1 16 10, bitsOf p.1 26 4, p.2.1 % 65536⟩, imPlace r.idx p.2.2)))

/-- A register that the image writes: window, offset, value, the place of the value, and the TYPE of its record. -/
structure MWrite where
  win : Nat
  off : Nat
  val : Nat
  at' : Nat
  type : Nat
  deriving DecidableEq, Repr

/-- The register writes of a record: PARAM and FOLLOW_POLICY pairs, the BANK_CFG and words of a COEF, a TABLE. -/
def writesOf (r : MRec) : List MWrite :=
  let h := r.body.headD 0
  let w := h % 1024
  let rest := r.body.drop 1
  match r.type with
  | 4 => (pairsFrom r 1).map (fun p => ⟨w, p.1 % 4096, p.2.1, imPlace r.idx (p.2.2 + 1), 4⟩)
  | 9 => (pairsFrom r 1).map (fun p => ⟨w, p.1 % 4096, p.2.1, imPlace r.idx (p.2.2 + 1), 9⟩)
  | 5 => [⟨w, 0x044 + 4 * bitsOf h 12 1, bitsOf h 16 10 + 4096 * bitsOf h 13 3, imPlace r.idx (r.pos + 1), 5⟩]
  | 6 =>
    let base := if bitsOf h 16 8 = 3 then 0x140 else 0x100
    (rest.zip (List.range rest.length)).map (fun p => ⟨w, base + 4 * p.2, p.1, imPlace r.idx (r.pos + 2 + p.2), 6⟩)
  | _ => []

def allWrites (rs : List MRec) : List MWrite := rs.flatMap writesOf

/-- An ALLOC pair with the place of its word A. -/
structure MAlloc where
  win : Nat
  pool : Nat
  depth : Nat
  bytes : Nat
  at' : Nat
  deriving DecidableEq, Repr

def allocsOf (rs : List MRec) : List MAlloc :=
  (rs.filter (fun r => r.type == 8)).flatMap (fun r => (pairsFrom r 0).map (fun p =>
    ⟨bitsOf p.1 0 10, bitsOf p.1 16 2, bitsOf p.1 24 4, p.2.1, imPlace r.idx p.2.2⟩))

def triggersOf (rs : List MRec) : List (TriggerX × Nat) :=
  (rs.filter (fun r => r.type == 7)).map (fun r =>
    let h := r.body.headD 0
    (⟨h % 1024, bitsOf h 16 4, bitsOf h 24 4, w32 (r.body.getD 1 0), w32 (r.body.getD 2 0)⟩, imPlace r.idx (r.pos + 1)))

/-! ## Scope (R80) -/

/-- The units that a load, amendment or removal of `am` releases: every bound unit, or those of the target. -/
def State.relUnits (s : State) (am : Nat) : List Nat :=
  if am = 0 then s.tree.parents.map Prod.fst else s.unitsBelow am

/-- The composites that it frees; the target of an amendment keeps its own index. -/
def State.relComps (s : State) (am : Nat) : List Nat :=
  if am = 0 then s.tree.comps.map CompX.win else s.compsBelow am

/-- Is a window bound outside the scope? -/
def State.boundOutside (s : State) (am w : Nat) : Bool :=
  s.parentOf w != 0x3FF && !((s.relUnits am).contains w)

/-- Does a unit's window lie in the scope? A twin follows its front end.
Mark DEDUCED: notes/assumptions/79.md. -/
def State.unitInScope (s : State) (am w : Nat) : Bool :=
  am == 0 || !s.boundOutside am (if kindOf w = .loSynth then feOfLo w else w)

/-- The index each COMPOSITE record gets (R64): the named one if it is free, else the lowest free index that no
record of the image names. -/
def State.assignComps (s : State) (am : Nat) (rs : List MRec) : List (MRec × Option Nat) :=
  let cs := rs.filter (fun r => r.type == 3)
  let named := (cs.map (fun r => r.body.headD 0 % 1024)).filter (fun i => i != 0x3FF)
  let free := fun i => (s.comp? i).isNone || (s.relComps am).contains i
  let pool := ((List.range 255).map (fun i => 0x300 + i)).filter (fun i => free i && !named.contains i)
  (cs.foldl (fun (a : List (MRec × Option Nat) × List Nat) r =>
    let q := r.body.headD 0 % 1024
    if q = 0x3FF then (a.1 ++ [(r, a.2.head?)], a.2.drop 1)
    else (a.1 ++ [(r, if 0x300 ≤ q ∧ free q then some q else none)], a.2)) ([], pool)).1

/-- The composites that the image creates. -/
def State.newComps (s : State) (am : Nat) (im : List Nat) (rs : List MRec) : List CompX :=
  (s.assignComps am rs).filterMap (fun p => p.2.map (fun i =>
    ⟨i, bitsOf (p.1.body.headD 0) 16 10, w32 (p.1.body.getD 1 0), w32 (hw im 2)⟩))

/-- Does a window exist once the image is in force: a fixed unit, the root, the target, a composite kept or made? -/
def State.willExist (s : State) (am : Nat) (im : List Nat) (rs : List MRec) (w : Nat) : Bool :=
  if w < 0x300 then w == 0 || isFixedUnit w
  else (s.newComps am im rs).any (fun c => c.win == w) || ((s.comp? w).isSome && !(s.relComps am).contains w)

/-- Does a window lie in the scope of the image (R71, R80)? -/
def State.inScope (s : State) (am : Nat) (im : List Nat) (rs : List MRec) (w : Nat) : Bool :=
  am == 0 || w == am || (s.newComps am im rs).any (fun c => c.win == w) ||
    (decide (w < 0x300) && w != 0 && s.unitInScope am w)

/-! ## Placement in queue RAM (R526) -/

/-- The lowest-addressed free run of `n` units. -/
def fitRun (runs : List (Nat × Nat)) (n : Nat) : Option Nat :=
  ((runStarts runs).filter (fun u => n ≤ freeRunAt runs u)).foldl
    (fun a u => match a with
      | none => some u
      | some b => some (Nat.min b u)) none

/-- A queue whose pair an amendment leaves unchanged keeps its ring and buffer where they stand. -/
def State.keptAlloc (s : State) (am : Nat) (a : MAlloc) : Option AllocX :=
  if am = 0 then none
  else s.tree.allocs.find? (fun x => x.win == a.win && x.pool == 2 && a.pool == 2 && x.bytes == a.bytes && x.depthLog2 == a.depth)

/-- The allocations outside the scope. -/
def State.allocsOutside (s : State) (am : Nat) : List AllocX :=
  s.tree.allocs.filter (fun a => !(s.relUnits am).contains a.win)

/-- Rings and buffers placed in the order of the pairs, ring before buffer; the place of the first pair that finds
no run, 0 where all do. A pair that finds none stands with its sizes alone, for the checks that come before 33. -/
def placeAll (kept : MAlloc → Option AllocX) : List MAlloc → List (Nat × Nat) → List AllocX → List AllocX × Nat
  | [], _, out => (out, 0)
  | a :: as, runs, out =>
    if a.pool ≠ 2 then placeAll kept as runs (out ++ [⟨a.win, a.pool, a.bytes, 0, 0, 0⟩])
    else match kept a with
      | some x => placeAll kept as runs (out ++ [x])
      | none =>
        let bare : AllocX := ⟨a.win, a.pool, a.bytes, a.depth, 0, 0⟩
        match fitRun runs (ringUnits a.depth) with
        | none => ((placeAll kept as runs (out ++ [bare])).1, a.at')
        | some r =>
          match fitRun (runs ++ [(r, ringUnits a.depth)]) (a.bytes / 256) with
          | none => ((placeAll kept as runs (out ++ [bare])).1, a.at')
          | some b =>
            placeAll kept as (runs ++ [(r, ringUnits a.depth), (b, a.bytes / 256)])
              (out ++ [⟨a.win, a.pool, a.bytes, a.depth, r, b⟩])

def runsOf (as : List AllocX) : List (Nat × Nat) :=
  (as.filter (fun a => a.pool == 2)).flatMap (fun a => [(a.ring, ringUnits a.depthLog2), (a.buf, a.bytes / 256)])

/-- The first pair of each window; a second one fails check 27. -/
def firstPairs (rs : List MRec) : List MAlloc :=
  (allocsOf rs).filter (fun a => !(allocsOf rs).any (fun b => b.win == a.win && decide (b.at' < a.at')))

def State.placeAllocs (s : State) (am : Nat) (rs : List MRec) : List AllocX × Nat :=
  let ps := firstPairs rs
  placeAll (s.keptAlloc am) ps (runsOf (s.allocsOutside am ++ ps.filterMap (s.keptAlloc am))) []

/-! ## The structure and registers once the image is in force -/

/-- The tree after the commit point (R81, R82). A unit that the image lists again keeps its links to sinks outside
the scope; every other link of a released unit goes with it. -/
def State.newTree (s : State) (am : Nat) (im : List Nat) (rs : List MRec) : Tree :=
  let rel := s.relUnits am
  let relc := s.relComps am
  let ls := listings rs
  let parents0 := s.tree.parents.filter (fun p => !rel.contains p.1)
  let kept := s.tree.links.filter (fun l =>
    !rel.contains l.dst && (!rel.contains l.src || ls.any (fun u => u.win == l.src)))
  let gone := fun (w : Nat) => am == 0 || relc.contains w || w == am || (decide (w < 0x300) && w != 0 && s.unitInScope am w)
  { s.tree with
    parents := ls.foldr (fun u t => Store.set (fun _ => 0x3FF) t u.win u.parent) parents0
    links := kept ++ (linksOf rs).map Prod.fst
    comps := (s.tree.comps.filter (fun c => !relc.contains c.win)).map
      (fun c => if c.win = am then { c with manifestId := w32 (hw im 2) } else c) ++ s.newComps am im rs
    allocs := s.allocsOutside am ++ (s.placeAllocs am rs).1
    triggers := s.tree.triggers.filter (fun t => !gone t.win) ++ (triggersOf rs).map Prod.fst }

/-- What a unit keeps over a restart: the shared feed registers in AERIAL_FEED_0, and a queue's ring, buffer and
indices, which its allocation governs (R338). -/
def keepsOver (w k : Nat) : Bool :=
  match kindOf w with
  | .aerialFeed => w == 0x020 && (k == 17 || (decide (64 ≤ k) && decide (k < 80)))
  | .queue => decide (18 ≤ k) && decide (k ≤ 23)
  | _ => false

/-- Is a unit a port that an amendment lists again? No amendment restarts it: its clocks and frames go on (R322). -/
def State.portGoesOn (s : State) (am w : Nat) : Bool := am != 0 && kindOf w == .audioPort && s.parentOf w != 0x3FF

/-- PORT_STATUS, the frame count and its epochs, and the frame period. -/
def framesKept (k : Nat) : Bool := decide (32 ≤ k) && decide (k ≤ 38)

/-- A unit restarts from the reset values of its kind-specific registers, with what belongs to them; a port that goes on keeps
its frames. -/
def State.restartKind (s0 : State) (w : Nat) (goesOn : Bool) : State :=
  let s := if goesOn then s0.tapClear w else s0
  let t := { s with regs := s.regs.filter (fun p =>
    !(p.1 / 1024 == w && (p.1 % 1024 == 10 || decide (16 ≤ p.1 % 1024)) && !keepsOver w (p.1 % 1024) &&
      !(goesOn && framesKept (p.1 % 1024))) &&
    p.1 / 1024 != bankBlk w 0 && p.1 / 1024 != bankBlk w 1) }
  if kindOf w = .queue ∨ goesOn then t
  else
    { t with hist := Store.dropRange (w * 64) (w * 64 + 64) t.hist
             aux := Store.dropRange (w * 64) (w * 64 + 64) t.aux
             bytes := Store.dropRange (w * 4) (w * 4 + 4) t.bytes }

/-- The coefficient words of a bank, from its first word. -/
def State.putCoefs (s : State) (w b : Nat) : Nat → List Nat → State
  | _, [] => s
  | i, v :: vs => (s.wr (bankBlk w b) (4 * i) (w32 v)).putCoefs w b (i + 1) vs

/-- A register of the image written as plain data. -/
def State.plainWrite (s : State) (m : MWrite) : State :=
  if kindOf m.win = .aerialFeed then s.store (feedHome m.win m.off) m.off (w32 m.val)
  else if 0x800 ≤ m.off then s.wr (bankBlk m.win (s.fld m.win FILT.LOAD_BANK)) (m.off - 0x800) (w32 m.val)
  else s.store m.win m.off (w32 m.val)

/-- What a granted allocation shows in a queue's registers (R338). -/
def State.showAlloc (s : State) (a : AllocX) : State :=
  if a.pool ≠ 2 then s
  else
    (((s.put a.win QUE.DEPTH (2 ^ a.depthLog2)).wr a.win QUE.RING_BASE.off (w32 (qramBase + 256 * a.ring))).wr a.win
      QUE.BUF_BASE.off (w32 (qramBase + 256 * a.buf))).put a.win QUE.BUF_SIZE a.bytes

/-- The state that the checks of the second pass judge: the planned structure and registers. -/
def State.planned (s : State) (am : Nat) (im : List Nat) (rs : List MRec) : State :=
  let t := { s with tree := s.newTree am im rs }
  let t1 := (listings rs).foldl (fun u l => u.restartKind l.win (s.portGoesOn am l.win)) t
  let t2 := (allWrites rs).foldl State.plainWrite t1
  t2.tree.allocs.foldl State.showAlloc t2

/-! ## The first pass (R525) -/

/-- The bits that body word `k` of a record may carry (R67). -/
def bodyMask (type k : Nat) : Nat :=
  match type with
  | 1 => if k = 0 then 0xFFFF03FF else 0x03FF03FF
  | 2 => if k % 2 = 0 then 0x3FFF3FFF else 0xFFFF
  | 3 => if k = 0 then 0x03FF03FF else 0xFFFFFFFF
  | 4 => if k = 0 then 0x3FF else if k % 2 = 1 then 0xFFF else 0xFFFFFFFF
  | 9 => if k = 0 then 0x3FF else if k % 2 = 1 then 0xFFF else 0xFFFFFFFF
  | 5 => if k = 0 then 0x03FFF3FF else 0xFFFFFFFF
  | 6 => if k = 0 then 0xFFFF03FF else 0xFFFFFFFF
  | 7 => if k = 0 then 0x0F0F03FF else 0xFFFFFFFF
  | 8 => if k % 2 = 0 then 0x0F0303FF else 0xFFFFFFFF
  | _ => 0xFFFFFFFF

/-- A failing check of one record: its code and word. -/
abbrev Fail1 := Option (Nat × Nat)

def when1 (bad : Bool) (code word : Nat) : Fail1 := if bad then some (code, word) else none

/-- Checks 11 and 12. -/
def frameFail (r : MRec) : Fail1 :=
  let k := r.body.length
  [when1 (!knownType r.type && r.flags % 2 == 0) 0x010B r.pos,
   when1 (decide (1 < r.flags)) 0x010C r.pos,
   if knownType r.type then
     ((List.range k).find? (fun i => (r.body.getD i 0) &&& bodyMask r.type i != r.body.getD i 0)).map
       (fun i => (0x010C, r.pos + 1 + i)) else none,
   when1 (r.type == 1 && bitsOf (r.body.headD 0) 16 1 == 1 && bitsOf (r.body.getLastD 0) 16 10 != 0x3FF) 0x010C (r.pos + k),
   if r.type = 8 then
     ((pairsFrom r 0).find? (fun p => bitsOf p.1 16 2 == 1 && bitsOf p.1 24 4 != 0)).map (fun p => (0x010C, p.2.2)) else none].findSome?
    id

/-- A window that a UNIT or LINK record may name: a fixed unit, no synthesiser in a UNIT record (R68). -/
def nameable (type w : Nat) : Bool := isFixedUnit w && w != 0 && (type != 1 || kindOf w != .loSynth)

def isFilter (w : Nat) : Bool := kindOf w == .chanFilter || kindOf w == .audioFilter

/-- May a TABLE record of this ID name the window (R73)? -/
def tableKind (id w : Nat) : Bool :=
  match id with
  | 1 => kindOf w == .frontEnd || kindOf w == .lowband
  | 2 => kindOf w == .aerialFeed
  | 3 => kindOf w == .aerialFeed
  | _ => isFixedUnit w && w != 0

/-- The windows a record names, with their words. -/
def namedWins (r : MRec) : List (Nat × Nat) :=
  match r.type with
  | 1 => unitWins r
  | 2 => (pairsFrom r 0).flatMap (fun p => [(bitsOf p.1 0 10, p.2.2), (bitsOf p.1 16 10, p.2.2)])
  | 3 => []
  | 8 => (pairsFrom r 0).map (fun p => (bitsOf p.1 0 10, p.2.2))
  | 0x7F => []
  | _ => if knownType r.type then [(r.body.headD 0 % 1024, r.pos + 1)] else []

/-- Check 13: is a window of a kind that the record allows, and in the scope where it must be? A reserved index, or that
of a composite that is not allocated, is of no kind and fails here.
Mark DEDUCED: notes/assumptions/190.md. -/
def State.winOk (s : State) (am : Nat) (im : List Nat) (rs : List MRec) (r : MRec) (w word : Nat) : Bool :=
  let okWin := s.willExist am im rs w && s.inScope am im rs w
  match r.type with
  | 1 => nameable 1 w
  | 2 => nameable 2 w
  | 4 => okWin
  | 5 => okWin && isFilter w
  | 6 =>
    let id := bitsOf (r.body.headD 0) 16 8
    okWin && tableKind id w && (id != 2 || allFeeds.all (s.inScope am im rs))
  | 7 => okWin
  | 8 => (match bitsOf (r.body.getD (word - r.pos - 1) 0) 16 2 with
    | 1 => kindOf w == .audioLane
    | 2 => kindOf w == .queue
    | _ => isFixedUnit w && w != 0)
  | 9 => okWin && kindOf w == .follow
  | _ => true

/-- Check 23: a register that PARAM or FOLLOW_POLICY may write, with an RW field (R71, R76). -/
def offsetOk (policy : Bool) (w off : Nat) : Bool :=
  off % 4 == 0 && (if policy then decide (0x100 ≤ off) && decide (off ≤ 0x1FC) else off == 0x010 || decide (0x040 ≤ off)) &&
    (match regAt w off with
     | some r => r.flds.any (fun f => match f.acc with
        | .rw => true
        | .ctr _ => true
        | .peak => true
        | _ => false)
     | none => false)

/-- Check 24 or 29 on one register's value alone (R50, R97, R100, R179). -/
def valueOk (w off v : Nat) : Bool :=
  (match regAt w off with
   | some r => (r.valueRefuse v).isNone
   | none => true) &&
  (match kindOf w with
   | .frontEnd => (off != 0x048 || (decide (bitsOf v 16 5 ≤ bitsOf v 8 5) && decide (bitsOf v 8 5 ≤ bitsOf v 24 5))) &&
       (!(decide (0x100 ≤ off) && decide (off < 0x180)) || entryOk w v)
   | .lowband => (off != 0x048 || (decide (bitsOf v 16 5 ≤ bitsOf v 8 5) && decide (bitsOf v 8 5 ≤ bitsOf v 24 5))) &&
       (!(decide (0x100 ≤ off) && decide (off < 0x180)) || entryOk w v)
   | .fmDemod => (demodCodes w off (w32 v)).isEmpty
   | .amDemod => (demodCodes w off (w32 v)).isEmpty
   | _ => true)

/-- The packed words that FORMAT needs for TAPS (R153); none for a FORMAT or TAPS that the kind does not take. -/
def coefWords (w fmt taps : Nat) : Option Nat :=
  let most := if kindOf w = .chanFilter then 256 else 512
  if taps = 0 ∨ most < taps ∨ 4 < fmt ∨ (fmt = 4 ∧ kindOf w ≠ .chanFilter) then none
  else match fmt with
    | 0 => some ((taps + 1) / 2)
    | 1 => some (((taps + 1) / 2 + 1) / 2)
    | 2 => some taps
    | 3 => some ((taps + 1) / 2)
    | _ => some taps

/-- Check 25 on a COEF record alone (R72, R153). -/
def coefFail (r : MRec) : Fail1 :=
  let h := r.body.headD 0
  let fmt := bitsOf h 13 3
  let taps := bitsOf h 16 10
  match coefWords (h % 1024) fmt taps with
  | none => some (0x0119, r.pos + 1)
  | some n =>
    let data := r.body.drop 1
    let halves := if fmt = 0 then taps else (taps + 1) / 2
    if data.length ≠ n then some (0x0119, r.pos)
    else if fmt = 2 ∨ fmt = 3 then
      ((List.range n).find? (fun i => data.getD i 0 / 16777216 != (if (data.getD i 0).testBit 23 then 0xFF else 0))).map
        (fun i => (0x0119, r.pos + 2 + i))
    else when1 (decide (fmt < 2) && halves % 2 == 1 && data.getLastD 0 / 65536 != 0) 0x0119 (r.pos + r.body.length)

/-- Check 26 on a TABLE record alone (R73, R97, R98, R430, R431). -/
def tableFail (r : MRec) : Fail1 :=
  let h := r.body.headD 0
  let w := h % 1024
  let id := bitsOf h 16 8
  let es := r.body.drop 1
  let want := if id = 1 then 32 else if id = 2 then 16 else 1
  let bad := fun (i : Nat) =>
    let e := es.getD i 0
    if id = 1 then !entryOk w e else if id = 2 then decide (e < 500) || decide (1250 < e) else decide (8 < e)
  if id = 0 ∨ 3 < id ∨ es.length ≠ want then some (0x011A, r.pos + 1)
  else match (List.range want).find? bad with
    | some i => some (0x011A, r.pos + 2 + i)
    | none =>
      if id = 1 then
        ((List.range 31).find? (fun i => decide (entryAtten (es.getD (i + 1) 0) < entryAtten (es.getD i 0)))).map
          (fun i => (0x011A, r.pos + 3 + i))
      else none

/-- Check 27 on an ALLOC pair alone (R75).
Mark DEDUCED: notes/assumptions/80.md. -/
def allocFail (r : MRec) : Fail1 :=
  (pairsFrom r 0).findSome? (fun p =>
    let pool := bitsOf p.1 16 2
    let depth := bitsOf p.1 24 4
    let unit := if pool = 1 then 4096 else 256
    let most := if pool = 1 then 864256 else 1048576
    if pool = 0 ∨ pool = 3 ∨ (pool = 2 ∧ (depth < 4 ∨ 12 < depth)) then some (0x011B, p.2.2)
    else when1 (p.2.1 % unit != 0 || decide (p.2.1 < unit) || decide (most < p.2.1)) 0x011B (p.2.2 + 1))

/-- Check 28 on a TRIGGER record alone (R74), the bits of ARG0 beyond its argument and the existence of the window that
condition 3 watches among it.
Mark DEDUCED: notes/assumptions/188.md. -/
def State.triggerFail (s : State) (am : Nat) (im : List Nat) (rs : List MRec) (r : MRec) : Fail1 :=
  let h := r.body.headD 0
  let act := bitsOf h 16 4
  let cond := bitsOf h 24 4
  let a0 := r.body.getD 1 0
  if act = 0 ∨ 2 < act ∨ 4 < cond then some (0x011C, r.pos + 1)
  else when1 ((cond == 3 && (decide (1023 < a0) || !s.willExist am im rs a0)) || (cond == 4 && decide (255 < a0))) 0x011C (r.pos + 2)

/-- Checks 11 to 14, 16 and 23 to 29 on one record alone, in their order. -/
def State.recordFail (s : State) (am : Nat) (im : List Nat) (rs : List MRec) (r : MRec) : Fail1 :=
  let wins := namedWins r
  let pairs := if r.type = 4 ∨ r.type = 9 then pairsFrom r 1 else []
  let w := r.body.headD 0 % 1024
  let policy := r.type == 9
  let q := r.body.headD 0 % 1024
  [frameFail r,
   (wins.find? (fun p => !s.winOk am im rs r p.1 p.2)).map (fun p => (0x010D, p.2)),
   (wins.find? (fun p => s.fused p.1)).map (fun p => (0x010E, p.2)),
   when1 (r.type == 3 && (decide (q < 0x300))) 0x0110 (r.pos + 1),
   (pairs.find? (fun p => !offsetOk policy w p.1)).map (fun p => (0x0117, p.2.2)),
   (pairs.find? (fun p => !valueOk w p.1 p.2.1)).map (fun p => (if policy then 0x011D else 0x0118, p.2.2 + 1)),
   if r.type = 5 then coefFail r else none,
   if r.type = 6 then tableFail r else none,
   if r.type = 8 then allocFail r else none,
   if r.type = 7 then s.triggerFail am im rs r else none].findSome? id

/-! ## The second pass (R525): each failing combination, by its completing place -/

/-- A failing combination in the order that R525 takes them: its record, then its check, then its word. A
combination to which no record contributes is none of the image's. -/
def bad2 (check : Nat) (ps : List Nat) : List Nat :=
  let p := latest ps
  if p = 0 then [] else [(p / 131072 * 64 + check) * 131072 + p % 131072]

def badIf (b : Bool) (check : Nat) (ps : List Nat) : List Nat := if b then bad2 check ps else []

/-- Where a register's value comes from: the last record that writes it, or the UNIT record that binds its unit. -/
def regPlace (rs : List MRec) (w off : Nat) : Nat :=
  let home := feedHome w off
  match ((allWrites rs).filter (fun m => m.off == off && (m.win == w ||
      (kindOf w == .aerialFeed && kindOf m.win == .aerialFeed && home != w)))).getLast? with
  | some m => m.at'
  | none => listedAt rs w

def linkPlace (rs : List MRec) (l : LinkX) : Nat :=
  match (linksOf rs).find? (fun p => p.1 == l) with
  | some p => p.2
  | none => 0

def linkInPlace (rs : List MRec) (p : State) (w i : Nat) : Nat :=
  match p.linkIn w i with
  | some l => linkPlace rs l
  | none => 0

/-- Checks 15 and 16: a unit listed twice, an index requested twice. -/
def twiceFails (rs : List MRec) : List Nat :=
  let ls := listings rs
  let cs := rs.filter (fun r => r.type == 3 && r.body.headD 0 % 1024 != 0x3FF)
  ls.flatMap (fun u => badIf (ls.any (fun v => v.win == u.win && decide (v.at' < u.at'))) 15 [u.at']) ++
  (ls.zip (ls.drop 1)).flatMap (fun p => badIf (p.1.win == p.2.win && p.1.at' == p.2.at') 15 [p.2.at']) ++
  cs.flatMap (fun r => badIf (cs.any (fun q => decide (q.idx < r.idx) && q.body.headD 0 % 1024 == r.body.headD 0 % 1024)) 16
    [imPlace r.idx (r.pos + 1)])

/-- Check 17: a PARENT is the root of a full image or the target, or a composite made by an earlier record.
Mark DEDUCED: notes/assumptions/77.md. -/
def State.parentFails (s : State) (am : Nat) (rs : List MRec) : List Nat :=
  let made := s.assignComps am rs
  let ok := fun (idx parent : Nat) => parent == am || made.any (fun p => decide (p.1.idx < idx) && p.2 == some parent)
  rs.flatMap (fun r =>
    if r.type = 1 then badIf (!ok r.idx (r.body.headD 0 % 1024)) 17 [imPlace r.idx (r.pos + 1)]
    else if r.type = 3 then badIf (!ok r.idx (bitsOf (r.body.headD 0) 16 10)) 17 [imPlace r.idx (r.pos + 1)]
    else [])

/-- The largest SELECT of an allowed link (R70); none for a pair that the table does not allow. -/
def linkMost (l : LinkX) : Option Nat :=
  let lane := if kindOf l.dst = .audioLane ∧ l.inp ≤ 1 then some 0 else none
  match kindOf l.src, l.out with
  | .frontEnd, 0 => if kindOf l.dst = .ddc ∧ l.inp = 0 then some 0 else none
  | .lowband, 0 => if kindOf l.dst = .ddc ∧ l.inp = 0 then some 0 else none
  | .ddc, 0 => if kindOf l.dst = .chanFilter ∧ l.inp = 0 then some 0 else none
  | .chanFilter, 0 => if (isDemod l.dst ∨ kindOf l.dst = .queue) ∧ l.inp = 0 then some 0 else none
  | .fmDemod, 0 => lane
  | .amDemod, 0 => lane
  | .fmDemod, 1 => if kindOf l.dst = .sideData ∧ l.inp = 0 then some 0 else none
  | .ofdm, 0 => if kindOf l.dst = .audioDec ∧ l.inp = 0 then some 63 else none
  | .ofdm, 1 => if kindOf l.dst = .sideData ∧ l.inp = 0 then some 0 else none
  | .ofdm, 2 => if kindOf l.dst = .sideData ∧ l.inp = 1 then some 63 else none
  | .audioDec, 0 => lane
  | .audioDec, 1 => if kindOf l.dst = .sideData ∧ l.inp = 1 then some 0 else none
  | .sideData, 0 => if kindOf l.dst = .queue ∧ l.inp = 0 then some 0 else none
  | .queue, 0 => lane
  | .asrc, 0 => if kindOf l.dst = .audioPort ∧ l.inp = 0 then some 15 else none
  | _, _ => none

/-- Check 18 on the slots of a link to a port (R309): of the image, or one kept to a port whose frame or lane it changes. -/
def slotFails (rs : List MRec) (p : State) (l : LinkX) (place : Nat) : List Nat :=
  let mono := winLane (instOf l.src)
  badIf (kindOf l.dst == .audioPort &&
      decide (p.portSlots l.dst < l.sel + (if p.flag mono LANE.LANE_CFG_MONO then 1 else 2))) 18
    [place, regPlace rs mono 0x040, regPlace rs l.dst 0x044, regPlace rs (p.clkPort l.dst) 0x040]

/-- Check 18 on one link (R70, R309). -/
def linkFails (rs : List MRec) (p : State) (x : LinkX × Nat) : List Nat :=
  let l := x.1
  match linkMost l with
  | none => bad2 18 [x.2]
  | some most =>
    if most < l.sel then bad2 18 [x.2 + 1]
    else
      badIf (kindOf l.src == .ofdm && decide (3 < l.sel) && p.fld l.src OFDM.OFDM_CFG_SYSTEM != 0) 18
        [x.2 + 1, regPlace rs l.src 0x040] ++
      badIf (kindOf l.src == .queue && p.qToHost l.src) 18 [x.2, regPlace rs l.src 0x040] ++
      badIf (kindOf l.dst == .queue && !p.qToHost l.dst) 18 [x.2, regPlace rs l.dst 0x040] ++
      slotFails rs p l (x.2 + 1)

/-- Checks 19, 20 and 22 on one link, and 21 for input 1 of a lane that FOLLOW_n drives (R260). -/
def State.bindFails (s : State) (am : Nat) (rs : List MRec) (p : State) (x : LinkX × Nat) : List Nat :=
  let l := x.1
  let fw := winFollow (instOf l.dst)
  badIf ((linksOf rs).any (fun y => decide (y.2 < x.2) && y.1.dst == l.dst && y.1.inp == l.inp)) 19 [x.2] ++
  badIf (!(isListed rs l.dst && (isListed rs l.src || s.boundOutside am l.src))) 20 [x.2] ++
  badIf (kindOf l.dst == .audioLane && l.inp == 1 && p.parentOf fw != 0x3FF) 21 [x.2, listedAt rs fw] ++
  badIf (({ p with tree := { p.tree with links := p.tree.links.filter (fun k => decide (linkPlace rs k ≤ x.2)) } } : State).reachFuel
    16 l.dst l.src) 22 [x.2]

/-- Check 20: a unit that the image releases drives no sink that stays bound outside the scope. No record completes
that failure; END stands for it (notes/assumptions). -/
def State.releaseFails (s : State) (am : Nat) (rs : List MRec) : List Nat :=
  let rel := s.relUnits am
  let endAt := match rs.getLast? with
    | some r => imPlace r.idx r.pos
    | none => 0
  badIf (s.tree.links.any (fun l => rel.contains l.src && !isListed rs l.src && !rel.contains l.dst && s.parentOf l.dst != 0x3FF))
    20 [endAt]

/-- Check 21: the four units of a lane go together, and FOLLOW_n with lane n (R68). -/
def groupFails (rs : List MRec) (p : State) : List Nat :=
  (List.range 32).flatMap (fun n =>
    let g := [winLane n, winAF n, winDet n, winASRC n]
    let here := g.filter (isListed rs)
    let fw := winFollow n
    badIf (!here.isEmpty && (decide (here.length < 4) || !g.all (fun w => p.parentOf w == p.parentOf (winLane n)))) 21
      (here.map (listedAt rs)) ++
    badIf (isListed rs fw && p.parentOf fw != p.parentOf (winLane n)) 21 [listedAt rs fw, listedAt rs (winLane n)])

/-- The places that a channel's rate comes from (R146). -/
def ratePlaces (rs : List MRec) (p : State) (d : Nat) : List Nat :=
  [regPlace rs d 0x044, regPlace rs (cfOfDdc d) 0x040, linkInPlace rs p d 0] ++
  (if p.fld d DDC.RATE = 0 then [regPlace rs d 0x048] else [])

/-- Check 24 on a channel: its fit (R92, R96), one combination for each gain-table entry too narrow for it. -/
def fitFails (rs : List MRec) (p : State) (d : Nat) : List Nat :=
  let f := p.srcOf d 0
  let base := ratePlaces rs p d ++ [regPlace rs d 0x040]
  let dt := p.chanDecim d
  let nco := p.sfld d DDC.NCO_FREQ
  if f = 0x3FF then []
  else if f = 0x014 then badIf (!fitsLow nco dt) 24 base
  else
    let fes := if p.mode3 f then [f, f + 1] else [f]
    fes.flatMap (fun e => (List.range 32).flatMap (fun i =>
      if p.fld e FE.AGC_CTL_MIN_INDEX ≤ i ∧ i ≤ p.fld e FE.AGC_CTL_MAX_INDEX then
        badIf (!fitsVhf nco dt (bwHz (entryBW (gainEntry p e i)))) 24
          (base ++ [regPlace rs e 0x048, regPlace rs e (0x100 + 4 * i)] ++ (if e = f then [] else [regPlace rs f 0x054]))
      else []))

/-- Checks 24 and 25 on a DDC and its CHAN_FILTER: source and sink rates (R147), tap limit (R154). -/
def rateFails (rs : List MRec) (p : State) (d : Nat) : List Nat :=
  let c := cfOfDdc d
  let src := p.srcOf d 0
  (match rateSource (p.fld d DDC.RATE) with
   | some low => badIf (src != 0x3FF && low != (src == 0x014)) 24 [regPlace rs d 0x044, linkInPlace rs p d 0]
   | none => []) ++
  (p.tree.links.filter (fun l => l.src == c)).flatMap (fun l =>
    badIf (p.sinkRate l.dst != 0 && p.sinkRate l.dst * p.chanDecim d != p.ddcFs d) 24
      (ratePlaces rs p d ++ [linkInPlace rs p c 0, linkPlace rs l] ++
        (if kindOf l.dst = .ofdm then [regPlace rs l.dst 0x040] else []))) ++
  [0, 1].flatMap (fun b =>
    let coef := ((allWrites rs).filter (fun m => m.win == c && m.off == 0x044 + 4 * b)).getLast?.any (fun m => m.type == 5)
    badIf (decide (737280000 * p.chanDecim d < p.fld c (FILT.BANK_CFG_TAPS.at b) * p.branches d * p.ddcFs d)) (if coef then 25 else 24)
      (ratePlaces rs p d ++ [regPlace rs c (0x044 + 4 * b)] ++ (if p.branches d = 2 then [regPlace rs (p.srcOf d 0) 0x054] else [])))

/-- Check 24 on a front end: its diversity (R107). A table that PARAM records make fall is no image failure: RUN finds it
(R98). -/
def feFails (rs : List MRec) (p : State) (f : Nat) : List Nat :=
  let mode := p.fld f FE.DIV_CTL_MODE
  let at' := regPlace rs f 0x054
  let ref := p.fld f FE.DIV_CTL_REF_WINDOW
  let chans := (p.tree.links.filter (fun l => p.ddcsOf f |>.any (fun d => l.dst == d || l.dst == cfOfDdc d || l.src == cfOfDdc d))).map
    (linkPlace rs)
  (if kindOf f = .frontEnd then
    badIf (!p.divAllowed f mode ref) 24
      (if mode = 3 then [at'] ++ ((p.tree.links.filter (fun l => l.src == f + 1)).map (linkPlace rs))
       else if p.fedBy ref f then at' :: chans else [at']) else [])

/-- Check 24 on a port (R307, R308, R311, R315, R316, R331, R332). -/
def portFails (rs : List MRec) (p : State) (w : Nat) : List Nat :=
  let m := p.clkPort w
  let cfg := regPlace rs w 0x040
  let grp := regPlace rs w 0x044
  let tap := regPlace rs w 0x04C
  let q := p.fld w PORT.TAP_QUEUE
  let link := linkInPlace rs p w 0
  badIf (p.flag w PORT.PORT_CFG_DIR && (p.linkIn w 0).isSome) 24 [cfg, link] ++
  badIf (p.rateRefused w) 24 [cfg, grp] ++
  badIf (!p.present m || (m != w && (p.clkPort m != m ||
    p.fld m PORT.PORT_GROUP_START_GROUP != p.fld w PORT.PORT_GROUP_START_GROUP))) 24 [grp, regPlace rs m 0x044] ++
  badIf (p.present m && !p.frameOk w) 24 [cfg, grp, regPlace rs m 0x040] ++
  (allPorts.filter (fun o => decide (w < o) && p.present o && !p.lineOk w o)).flatMap (fun o =>
    bad2 24 [cfg, grp, regPlace rs o 0x040, regPlace rs o 0x044, link, linkInPlace rs p o 0,
      regPlace rs (winLane (instOf (p.srcOf w 0))) 0x040, regPlace rs (winLane (instOf (p.srcOf o 0))) 0x040]) ++
  badIf (p.tapTooLong w) 24 [tap, regPlace rs w 0x050, cfg, link, regPlace rs (winLane (instOf (p.srcOf w 0))) 0x040] ++
  (if q = 0x3FF then []
   else
    badIf (!(kindOf q == .queue && p.present q && p.parentOf q != 0x3FF)) 24 [tap] ++
    badIf (!p.qToHost q) 24 [tap, regPlace rs q 0x040] ++
    badIf (p.linkIn q 0).isSome 24 [tap, linkInPlace rs p q 0] ++
    badIf (p.fld q QUE.Q_CFG_TAP_DEC != 0x3FF) 24 [tap, regPlace rs q 0x040] ++
    (allPorts.filter (fun o => decide (w < o) && p.fld o PORT.TAP_QUEUE == q)).flatMap (fun o => bad2 24 [tap, regPlace rs o 0x04C]))

/-- Check 24 on a queue: LEVEL against its depth (R349), and its TAP_DEC (R346). -/
def queueFails (rs : List MRec) (p : State) (w : Nat) : List Nat :=
  let dec := p.fld w QUE.Q_CFG_TAP_DEC
  let at' := regPlace rs w 0x040
  let pair := latest (((firstPairs rs).filter (fun a => a.win == w)).map MAlloc.at')
  badIf (p.parentOf w != 0x3FF && p.qDepth w != 0 && decide (p.qDepth w < p.fld w QUE.Q_THRESH_LEVEL)) 24
    [regPlace rs w 0x064, pair] ++
  (if dec = 0x3FF then []
   else
    badIf (p.linkIn w 0).isSome 24 [at', linkInPlace rs p w 0] ++
    (((List.range 64).map winQ).filter (fun o => decide (w < o) && p.fld o QUE.Q_CFG_TAP_DEC == dec)).flatMap (fun o =>
      bad2 24 [at', regPlace rs o 0x040]))

/-- Check 24 on a lane: its delays (R287), and what FOLLOW_n governs (R289). Check 29 on STANDING_MS (R278). -/
def laneFails (rs : List MRec) (p : State) (w : Nat) : List Nat :=
  let n := instOf w
  let fw := winFollow n
  let pair := latest (((firstPairs rs).filter (fun a => a.win == w)).map (fun a => a.at' + 1))
  badIf (p.parentOf w != 0x3FF && decide (p.laneCap n < p.laneDelay n 0 + p.laneDelay n 1)) 24
    [regPlace rs w 0x044, pair, regPlace rs w 0x040] ++
  (if p.followBound n then
    ((allWrites rs).filter (fun m => m.win == w && (m.off == 0x044 || m.off == 0x050))).flatMap (fun m =>
      bad2 24 [m.at', listedAt rs fw]) else []) ++
  badIf (p.followBound n && decide (p.laneCap n < p.fld fw FOL.STANDING_MS)) 29 [regPlace rs fw 0x124, pair, regPlace rs w 0x040]

/-- The writes whose values are in force once every record is applied: the last to each register. -/
def standingWrites (rs : List MRec) : List MWrite := (allWrites rs).filter (fun m => m.at' == regPlace rs m.win m.off)

/-- Check 24 on what is left: a synthesiser's REF_MODE (R118), an engine's IDs (R212), a feed's ON (R431). -/
def otherFails (rs : List MRec) (p : State) (m : MWrite) : List Nat :=
  match kindOf m.win with
  | .loSynth => badIf (m.off == 0x044 && !(p.refModeCodes (w32 m.val)).isEmpty) 24 [m.at']
  | .ofdm => badIf (decide (0x100 ≤ m.off) && p.fld m.win OFDM.OFDM_CFG_SYSTEM != 0 && decide (3 < OFDM.SEL_ID.of (w32 m.val))) 24
      [m.at', regPlace rs m.win 0x040]
  | .aerialFeed => badIf (m.off == 0x040 && p.flag m.win FEED.FEED_CTL_ON && p.fld m.win FEED.FEED_LIMIT_LIMIT == 0) 24
      [m.at', regPlace rs m.win 0x140]
  | _ => []

/-- Check 26: the shared voltage table needs every feed that the image does not list to be off (R73). -/
def State.voltFails (s : State) (rs : List MRec) : List Nat :=
  (rs.filter (fun r => r.type == 6 && bitsOf (r.body.headD 0) 16 8 == 2)).flatMap (fun r =>
    badIf (allFeeds.any (fun f => !isListed rs f && s.feedState f != 0)) 26 [imPlace r.idx (r.pos + 1)])

/-- The bytes per second of one raw IQ queue over its total decimation: rate × bytes, and the decimation (R345). -/
def iqShare (p : State) (l : LinkX) : Nat × Nat :=
  let d := l.src - 0x40
  (p.ddcFs d * p.branches d * (if p.fld l.dst QUE.Q_CFG_IQ_FORMAT = 1 then 8 else 4), Nat.max 1 (p.chanDecim d))

/-- Check 24 on raw IQ: the bound raw IQ queues taken in the order of their own last contributors; the one that
brings the sum above 32,768,000 bytes/s completes the failure (R345, R525). -/
def iqFails (rs : List MRec) (p : State) : List Nat :=
  let ls := p.tree.links.filter (fun l => kindOf l.src == .chanFilter && kindOf l.dst == .queue)
  let at' := fun (l : LinkX) => latest (ratePlaces rs p (l.src - 0x40) ++ [linkPlace rs l, regPlace rs l.dst 0x040] ++
    (if p.branches (l.src - 0x40) = 2 then [regPlace rs (p.srcOf (l.src - 0x40) 0) 0x054] else []))
  let beyond := fun (top : Nat) =>
    let sum := (ls.filter (fun l => decide (at' l ≤ top))).foldl (fun (a : Nat × Nat) l =>
      (a.1 * (iqShare p l).2 + (iqShare p l).1 * a.2, a.2 * (iqShare p l).2)) (0, 1)
    decide (32768000 * sum.2 < sum.1)
  match (ls.map at').filter beyond with
  | [] => []
  | a :: r => bad2 24 [r.foldl Nat.min a]

/-- Check 27 and 28 over several records: one pair for each bound lane and queue, one trigger for each window. -/
def pairFails (rs : List MRec) : List Nat :=
  let as := allocsOf rs
  let ts := triggersOf rs
  as.flatMap (fun a => badIf (!isListed rs a.win || as.any (fun b => b.win == a.win && decide (b.at' < a.at'))) 27 [a.at']) ++
  (listings rs).flatMap (fun u => badIf ((kindOf u.win == .audioLane || kindOf u.win == .queue) &&
    !as.any (fun a => a.win == u.win)) 27 [u.at']) ++
  ts.flatMap (fun t => badIf (ts.any (fun u => u.1.win == t.1.win && decide (u.2 < t.2))) 28 [t.2])

/-- Every failing combination of the second pass.
Mark DEDUCED: notes/assumptions/78.md.
Mark DEDUCED: notes/assumptions/183.md. -/
def State.secondFails (s : State) (am : Nat) (im : List Nat) (rs : List MRec) : List Nat :=
  let p := s.planned am im rs
  let ddcs := ((List.range 64).map winDDC).filter (fun d => p.present d && (p.parentOf d != 0x3FF || p.parentOf (cfOfDdc d) != 0x3FF))
  twiceFails rs ++ s.parentFails am rs ++ (linksOf rs).flatMap (linkFails rs p) ++
  (p.tree.links.filter (fun l => linkPlace rs l == 0)).flatMap (fun l => slotFails rs p l 0) ++
  (linksOf rs).flatMap (s.bindFails am rs p) ++ s.releaseFails am rs ++ groupFails rs p ++
  ddcs.flatMap (fitFails rs p) ++ ddcs.flatMap (rateFails rs p) ++
  [0x010, 0x011, 0x012, 0x013].flatMap (fun f => if p.present f then feFails rs p f else []) ++
  (allPorts.filter p.present).flatMap (portFails rs p) ++ ((List.range 64).map winQ).flatMap (queueFails rs p) ++
  ((List.range 32).map winLane).flatMap (laneFails rs p) ++ (standingWrites rs).flatMap (otherFails rs p) ++
  s.voltFails rs ++
  iqFails rs p ++ pairFails rs

/-- The failure that R525 reports: the completing record that stands first, and among those the lowest check. -/
def State.secondFail (s : State) (am : Nat) (im : List Nat) (rs : List MRec) : Option MFail :=
  match s.secondFails am im rs with
  | [] => none
  | a :: r =>
    let m := r.foldl Nat.min a
    some ⟨0x0100 + m / 131072 % 64, m / 131072 / 64 - 1, m % 131072⟩

/-! ## The resource checks 30 to 34 -/

def unplace (code p : Nat) : MFail := ⟨code, p / 131072 - 1, p % 131072⟩

/-- The first of the places, in image order, at which a running sum of `amount` passes `free`. -/
def firstOver (free : Nat) : Nat → List (Nat × Nat) → Option Nat
  | _, [] => none
  | used, (p, n) :: r => if free < used + n then some p else firstOver free (used + n) r

/-- The limit writes of an image in image order, and the sum in mA after each from the limits in force outside. -/
def State.limitOver (s : State) (am : Nat) (rs : List MRec) : Option Nat :=
  let start := allFeeds.map (fun f => if s.unitInScope am f then 0 else s.fld f FEED.FEED_LIMIT_LIMIT)
  let ws := (allWrites rs).filter (fun m => kindOf m.win == .aerialFeed && m.off == 0x140)
  (ws.foldl (fun (a : List Nat × Option Nat) m =>
    let l := a.1.set (m.win - 0x020) (m.val % 16)
    (l, if a.2.isSome then a.2 else if 400 < 25 * l.foldl (· + ·) 0 then some m.at' else none)) (start, none)).2

/-- Checks 30 to 34. A COMPOSITE record that names an index in use outside the scope takes one too many: check 31.
Mark DEDUCED: notes/assumptions/187.md. -/
def State.resourceFail (s : State) (am : Nat) (rs : List MRec) : Option MFail :=
  let blocks := (s.allocsOutside am).foldl (fun a x => if x.pool = 1 then a + x.bytes / 4096 else a) 0
  [((listings rs).find? (fun u => s.boundOutside am u.win)).map (fun u => unplace 0x0301 u.at'),
   ((s.assignComps am rs).find? (fun p => p.2.isNone)).map (fun p => ⟨0x0302, p.1.idx, p.1.pos + 1⟩),
   (firstOver 2048 blocks (((allocsOf rs).filter (fun a => a.pool == 1)).map (fun a => (a.at', a.bytes / 4096)))).map (unplace 0x0303),
   (if (s.placeAllocs am rs).2 = 0 then none else some (unplace 0x0304 (s.placeAllocs am rs).2)),
   (s.limitOver am rs).map (unplace 0x0305)].findSome? id

/-! ## The whole validation (R80) -/

/-- The first failure of an image of `bytes` bytes, or none. -/
def State.validate (s : State) (im : List Nat) (bytes : Nat) : Option MFail :=
  match s.headerFail im bytes with
  | some f => some f
  | none =>
    let fr := recordsOf im
    match fr.2 with
    | some p => some ⟨0x010A, p.1, p.2⟩
    | none =>
      let rs := fr.1
      let am := hw im 3
      if rs.length ≠ hw im 6 then some ⟨0x010A, 0xFFFF, 6⟩
      else match rs.findSome? (fun r => (s.recordFail am im rs r).map (fun f => (⟨f.1, r.idx, f.2⟩ : MFail))) with
        | some f => some f
        | none =>
          match s.secondFail am im rs with
          | some f => some f
          | none => s.resourceFail am rs

end Sys2Proof.Machine
end

