-- ==== Sys2Proof/Machine/Loader.lean ====
section
/-! DEFINITION. The Manifest loader (R74, R78–R86, R526): its commands, full loads, amendments and removals, and the
triggers that they arm. -/

namespace Sys2Proof.Machine

/-! ## Results (R78, R80, R87) -/

def State.mfState (s : State) : Nat := s.fld 0 MFL.MF_STATE

def State.setMfState (s : State) (v : Nat) : State := s.put 0 MFL.MF_STATE v

/-- CODE, RECORD and MF_WORD of the last command. -/
def State.mfResult (s : State) (f : MFail) : State :=
  (s.wr 0 MFL.CODE.off (w32 (f.code % 65536 + 65536 * (f.record % 65536)))).put 0 MFL.MF_WORD f.word

def mfGood : MFail := ⟨0, 0xFFFF, 0⟩

/-- A loader command's reply: CODE and RECORD. -/
def State.mfReply (s : State) (ph op tag : Nat) (f : MFail) : State :=
  if ph < 8 then s.reply ph op tag [w32 f.code, w32 f.record] else s

/-- A refusal that says nothing of an image. -/
def mfCode (c : Nat) : MFail := ⟨c, 0xFFFF, 0⟩

/-- MF_REJECT: an image fails its checks; nothing changes but the result, the count and EV_17.
Mark DEDUCED: notes/assumptions/82.md. -/
def State.mfReject (s : State) (ph op tag : Nat) (f : MFail) : State :=
  (((s.mfResult f).count 0 MFL.MF_REJECT_COUNT).raise 17).mfReply ph op tag f

/-- SIGNBOARD_REBUILD_START: GENERATION becomes odd (R34).
Mark DEDUCED: notes/assumptions/85.md. -/
def State.signStart (s : State) : State :=
  if s.signboardGen.getLsbD 0 then s else { s with signboardGen := s.signboardGen + 1 }

/-- A rebuild starts where a UNIT_PARENT or the composites allocated differ from what the Signboard shows (R34). A label or a
Manifest ID alone starts none. -/
def State.signCheck (s : State) : State :=
  if s.signboard.parents = s.tree.parents ∧ s.signboard.comps.map (fun c => (c.win, c.parent)) =
    s.tree.comps.map (fun c => (c.win, c.parent)) then s else s.signStart

/-! ## The image -/

/-- The first bytes of the two Manifest slots in MRAM, each of 256 KiB. -/
def mfSlotBase (k : Nat) : Nat := 0x04200000 + 0x40000 * k

/-- Which slot an address lies in; 0xFF for queue RAM. -/
def mfSlotOf (a : Nat) : Nat :=
  if mfSlotBase 0 ≤ a ∧ a < mfSlotBase 1 then 0 else if mfSlotBase 1 ≤ a ∧ a < mfSlotBase 2 then 1 else 0xFF

/-- May an image of `n` bytes stand at an address (R78)? -/
def mfAddressOk (a n : Nat) : Bool :=
  a % 4 == 0 && (decide (0x01000000 ≤ a ∧ a + n ≤ 0x01200000) || decide (mfSlotBase 0 ≤ a ∧ a + n ≤ mfSlotBase 1) ||
    decide (mfSlotBase 1 ≤ a ∧ a + n ≤ mfSlotBase 2))

/-- The words of an image as staged. -/
def State.stagedImage (s : State) (a n : Nat) : List Nat := (s.rdWords a (Nat.min (n / 4) 65536)).map BitVec.toNat

/-- What the checks find in an image at an address. -/
def State.mfCheck (s : State) (a n : Nat) : Option MFail :=
  if mfAddressOk a n then s.validate (s.stagedImage a n) n else some ⟨0x0104, 0xFFFF, 5⟩

/-! ## Holds (R81, R82, step 3) -/

/-- The units that a job touches. -/
def State.jobUnits (s : State) (target : Nat) : List Nat := if target = 0 then s.unitsUp 0 else s.unitsUp target

/-- The internal hold fans out downstream first. -/
def State.amendHold (s : State) (target : Nat) : State :=
  ((s.jobUnits target).reverse.foldl (fun t w => t.addHold holdAmend w) s).setMfState 2

/-- Does a service-following blend run in the target? -/
def State.blendIn (s : State) (target : Nat) : Bool :=
  (s.jobUnits target).any (fun w => kindOf w == .follow && s.folState w == 5)

/-- Step 3, in an amendment once no blend of the target runs: the target's ENABLE and RUN are noted and the hold fans
out. -/
def State.amendStart (s : State) : State :=
  match s.tree.job with
  | none => s
  | some j =>
    if j.held || (j.target != 0 && s.blendIn j.target) then s
    else
      let t := s.amendHold j.target
      { t with tree := { t.tree with job := some { j with
          held := true
          enable := s.flag j.target UCB.UNIT_CTL_ENABLE
          run := s.flag j.target UCB.UNIT_CTL_RUN } } }

/-- Every member of a job's target, nested composites with it, in the amendment or out of it again (R84). -/
def State.markMembers (s : State) (target : Nat) (v : Bool) : State :=
  (s.unitsBelow target ++ s.compsBelow target).foldl (fun u w => u.setUnit w { u.unit w with amendBusy := v }) s

/-- A job begins: its members turn writes away from step 1 on (R84). -/
def State.startJob (s : State) (j : JobX) : State :=
  let t := { s with tree := { s.tree with job := some j } }
  ((if j.target = 0 then t else t.markMembers j.target true).setMfState 1).amendStart

/-- BLEND_END: the fade ends; an amendment that waits for it goes on to step 3 (R82, R272). -/
def execBlendEnd (n : Fin 32) (s : State) : Out := .next (((s.blendEnd (winFollow n))).amendStart)

/-! ## Commands (R78, R79) -/

/-- A loader command: refused at once while another is in progress. -/
def State.loaderServe (s : State) (ph : Fin 8) (op : Nat) (tag : BitVec 8) (body : State → State) : State :=
  s.serve ph op tag.toNat (fun t =>
    if t.tree.job.isSome then t.mfReply ph op tag.toNat (mfCode 0x0120) else body t)

/-- MF_APPLY: validate, then load or amend. -/
def execMfApply (ph : Fin 8) (tag : BitVec 8) (addr len : Word) (s : State) : Out :=
  .next (s.loaderServe ph 0x10 tag (fun t =>
    match t.mfCheck addr.toNat len.toNat with
    | some f => t.mfReject ph 0x10 tag.toNat f
    | none =>
      let im := t.stagedImage addr.toNat len.toNat
      (t.mirrorMsg 1 (0x10 :: im.map w32)).startJob ⟨0x10, ph, tag.toNat, hw im 3, mfSlotOf addr.toNat, im, false, false, false, false⟩))

/-- MF_VALIDATE: the checks alone. -/
def execMfValidate (ph : Fin 8) (tag : BitVec 8) (addr len : Word) (s : State) : Out :=
  .next (s.loaderServe ph 0x11 tag (fun t =>
    match t.mfCheck addr.toNat len.toNat with
    | some f => t.mfReject ph 0x11 tag.toNat f
    | none => (t.mfResult mfGood).mfReply ph 0x11 tag.toNat mfGood))

/-- Would a removal release a unit that drives a sink bound outside the composite? -/
def State.drivesOutside (s : State) (c : Nat) : Bool :=
  let rel := s.unitsBelow c
  s.tree.links.any (fun l => rel.contains l.src && !rel.contains l.dst && s.parentOf l.dst != 0x3FF)

/-- MF_REMOVE (R86). -/
def execMfRemove (ph : Fin 8) (tag : BitVec 8) (win : Word) (s : State) : Out :=
  .next (s.loaderServe ph 0x12 tag (fun t =>
    let c := win.toNat
    let refuse := fun (k : Nat) => (t.mfResult (mfCode k)).mfReply ph 0x12 tag.toNat (mfCode k)
    if (t.comp? c).isNone then refuse 0x0124
    else if t.drivesOutside c then refuse 0x0114
    else (t.mirrorMsg 1 [0x12, win]).startJob ⟨0x12, ph, tag.toNat, c, 0xFF, [], false, false, false, false⟩))

/-! ## The commit point (R82, step 6) -/

/-- A unit switched off as its binding goes: ENABLE, RUN and HOLD at 0, no hold, nothing pending. MUTE and HOLD_MUTE_WARM
keep their values.
Mark DEDUCED: notes/assumptions/192.md. -/
def State.switchOff (s : State) (w : Nat) : State :=
  s.withFe w (fun t => t.watch w (fun u =>
    (u.wr w 0x004 (u.rd w 0x004 &&& ~~~(7#32))).setUnit w 
      { u.unit w with hold := 0, amendBusy := false, applyBusy := false, applyPending := false, deferred := none }))

/-- A released queue shows no allocation. -/
def State.ungrant (s : State) (w : Nat) : State :=
  if kindOf w = .queue then
    { s with regs := s.regs.filter (fun p => !(p.1 / 1024 == w && (decide (18 ≤ p.1 % 1024) && decide (p.1 % 1024 ≤ 23))))
             aux := Store.dropRange (w * 64) (w * 64 + 64) s.aux
             bytes := Store.dropRange (w * 4) (w * 4 + 4) s.bytes }
  else s

/-- The registers and the hidden state of a composite that is freed. -/
def State.dropComp (s : State) (c : Nat) : State :=
  { s with regs := s.regs.filter (fun p => p.1 / 1024 != c)
           units := Store.drop s.units c }

/-- The units that a job releases for good. -/
def State.released (s : State) (am : Nat) (rs : List MRec) : List Nat :=
  (s.relUnits am).filter (fun w => !isListed rs w)

/-- The links of borrowed units, which no image governs. -/
def State.lentLinks (s : State) : List LinkX :=
  s.tree.links.filter (fun l => (s.unit l.dst).lent != 0 || (s.unit l.src).lent != 0)

/-- The links of an engine that have selection entries: by output, then by sink (R212). -/
def State.selLinks (s : State) (e : Nat) : List LinkX :=
  [0, 2].flatMap (fun o => (s.tree.links.filter (fun l => l.src == e && l.out == o)).mergeSort (fun a b => a.dst ≤ b.dst))

/-- The selection entries follow the links. An entry whose link stays keeps its word, its stream and its marks; that of a link
that is made anew, to one of the windows `made`, has the SELECT of its link, and is judged; an unused one reads
0x0000_03FF (R212).
Mark DEDUCED: notes/assumptions/226.md. -/
def State.putSelections (s : State) (made : List Nat) (e : Nat) : State :=
  let ls := (s.selLinks e).take 64
  let old := fun (i : Nat) => ls[i]?.bind (fun l => if made.contains l.dst then none else s.selOf e l.dst l.out)
  let t := (List.range 64).foldl (fun (t : State) i => t.wr e (OFDM.SEL_SINK.at i).off (match old i, ls[i]? with
    | some k, _ => s.rd e (OFDM.SEL_SINK.at k).off
    | none, some l => w32 (l.dst + 1024 * l.out + 65536 * (l.sel % 64))
    | none, none => 0x3FF)) s
  let ids := (List.range 64).map (fun i => match old i, ls[i]? with
    | some k, _ => s.selId e k
    | none, some l => l.sel % 64
    | none, none => 0)
  let kept := (List.range 64).filter (fun i => (old i).isSome)
  let t1 := ((t.setBl (blIds e) ids).setHs e hsMarks ((kept.filter (fun i =>
    (s.hs e hsMarks).contains (((old i).getD 0 : Nat) : Int))).map Int.ofNat)).setHs e hsFire
      ((List.range 64).map (fun i => ((old i).map (fun k => (s.hs e hsFire).getD k 0)).getD 0))
  let new := (List.range ls.length).filter (fun i => (old i).isNone)
  (if t1.live e && t1.syncState e == 6 then new.foldl (fun u i => u.judgeSel e i) t1 else t1).mciUpdate e

/-- The running engines that an image does not list, whose sinks have come or gone or are listed, fill their entries anew. -/
def State.refillSelections (s old : State) (listed : List Nat) : State :=
  (((List.range 16).map winOFDM).filter (fun e => s.present e && !listed.contains e &&
    (s.selLinks e != old.selLinks e || (s.selLinks e).any (fun l => listed.contains l.dst)))).foldl (fun t e => t.putSelections listed e) s

/-- Staged values of a listed unit come into use at the commit point. -/
def State.takeAtCommit (s : State) (w : Nat) : State :=
  let t := s.setUnit w { s.unit w with applyPending := false, applyBusy := false }
  match kindOf w with
  | .ddc => t.wr w DDC.NCO_ACTIVE.off (t.rd w DDC.NCO_FREQ.off)
  | .frontEnd => t.setAx w axFeCentre (t.fld w FE.CENTRE_KHZ)
  | .ofdm => t.putSelections ((t.selLinks w).map LinkX.dst) w
  | _ => t

/-- The same for an unbound unit that the image writes and does not list: a staged field is committed as though APPLY had
been written (R71). -/
def State.takeUnlisted (s : State) (w : Nat) : State :=
  if (s.unit w).applyPending then
    (s.takeStaged w).1.setUnit w { (s.takeStaged w).1.unit w with applyPending := false, applyBusy := false }
  else s

/-- The cause of an ECC fault ends with a new bank or a new allocation (R479). -/
def State.clearEcc (s : State) (w : Nat) : State :=
  if (s.unit w).cause = 0x0F11 ∨ (s.unit w).cause = 0x0F30 then s.setUnit w { s.unit w with causeStands := false } else s

/-- A front end that is listed again stops, to start anew with its members. -/
def State.stopListed (s : State) (w : Nat) : State :=
  if kindOf w = .frontEnd ∨ kindOf w = .lowband then
    s.withFe w (fun t => t.watch w (fun u => u.putB w UCB.UNIT_CTL_RUN false))
  else s

/-- The words of a COEF record after its BANK_CFG. -/
def State.putCoefRec (s : State) (r : MRec) : State :=
  let h := r.body.headD 0
  if r.type = 5 then s.putCoefs (h % 1024) (bitsOf h 12 1) 0 (r.body.drop 1) else s

/-- The filter units of a job's scope that it leaves unbound: bank 0 is active in them after it (R156). -/
def State.idleFilters (s : State) : List Nat :=
  ((List.range 64).map winCF ++ (List.range 32).map winAF).filter (fun w => s.parentOf w == 0x3FF && (s.unit w).lent == 0)

/-- Every shadow takes effect at once: units released, the new tree, the registers of every listed unit from their
reset values and the image's records, allocations exchanged, UNIT_GEN counted. -/
def State.commit (s0 : State) (am : Nat) (im : List Nat) : State :=
  let rs := (recordsOf im).1
  let listed := (listings rs).map MUnit.win
  let s := (s0.takeFromScans listed).takeFromScouts listed
  let gone := s.released am rs
  let up := (gone ++ (s.relUnits am)).flatMap s.ancestors
  let lent := s.lentLinks
  let comps := s.relComps am
  let s1 := (s.unitsUp am).reverse.foldl (fun t w => if gone.contains w then t.switchOff w else t.stopListed w) s
  let tree := s1.newTree am im rs
  let kept := fun (a : AllocX) => s1.tree.allocs.contains a
  let s2 := { s1 with tree := { tree with links := tree.links.filter (fun l => !lent.contains l) ++ lent } }
  let s3 := gone.foldl State.ungrant (comps.foldl State.dropComp s2)
  let s4 := s3.idleFilters.foldl (fun t w => t.wr w 0x054 0) (listed.foldl (fun t w => (t.restartKind w (s.portGoesOn am w)).clearEcc w) s3)
  let s5 := rs.foldl (fun t r => ((writesOf r).foldl (fun u m => u.unitWritten m.win m.off (w32 m.val)) t).putCoefRec r) s4
  let others := (dedup ((allWrites rs).map MWrite.win)).filter (fun w => w < 0x300 && !listed.contains w)
  let s6 := (others.foldl State.takeUnlisted (listed.foldl State.takeAtCommit s5)).refillSelections s0 listed
  let grants := (allocsOf rs).filterMap (fun a => s6.tree.allocs.find? (fun x => x.win == a.win))
  let s7 := grants.foldl (fun t a => if am ≠ 0 ∧ kept a then t.showAlloc a
    else if a.pool = 2 then t.watch a.win (fun u => (u.showAlloc a).initQueue a.win) else t) s6
  let written := (allWrites rs).map MWrite.win
  let new := (s.newComps am im rs).map CompX.win
  let top := if am = 0 then [0] else [am]
  let s8 := s7.bumpGens ((gone ++ listed ++ written ++ new ++ top ++ up).filter (fun w => s7.present w))
  if am = 0 then { s8 with tree := { s8.tree with manifestId := w32 (hw im 2) } } else s8

/-- A removal's commit: every unit below is released, and the index and every nested index are freed. -/
def State.commitRemove (s : State) (c : Nat) : State :=
  let ws := s.unitsUp c
  let comps := c :: s.compsBelow c
  let up := s.ancestors c
  let s1 := ws.reverse.foldl State.switchOff s
  let s2 := ws.foldl State.ungrant s1
  let tree := { s2.tree with
    parents := s2.tree.parents.filter (fun (p : Nat × Nat) => !ws.contains p.1)
    links := s2.tree.links.filter (fun (l : LinkX) => !ws.contains l.src && !ws.contains l.dst)
    comps := s2.tree.comps.filter (fun (x : CompX) => !comps.contains x.win)
    allocs := s2.tree.allocs.filter (fun (a : AllocX) => !ws.contains a.win)
    triggers := s2.tree.triggers.filter (fun (t : TriggerX) => !ws.contains t.win && !comps.contains t.win) }
  ((comps.foldl State.dropComp { s2 with tree := tree }).refillSelections s ws).bumpGens (ws ++ up)

/-! ## Steps 7 and 8 -/

/-- Members leave the hold upstream first with the target's ENABLE and RUN; windows that a condition-0 trigger names
keep what they have (R85). -/
def State.resume (s : State) (target : Nat) (enable run : Bool) : State :=
  let named := (s.tree.triggers.filter (fun (t : TriggerX) => t.cond == 0)).map TriggerX.win
  let t := (s.compsBelow target).foldl (fun u c => if named.contains c then u else
    (u.putB c UCB.UNIT_CTL_ENABLE enable).putB c UCB.UNIT_CTL_RUN run) s
  ((t.unitsUp target).foldl (fun u w => u.withFe w (fun v => v.watch w (fun x =>
    let y := x.setUnit w { x.unit w with hold := (x.unit w).hold - ((x.unit w).hold &&& holdAmend) }
    if named.contains w then y
    else
      let z := if enable && !y.flag w UCB.UNIT_CTL_ENABLE then y.put w UCB.UNIT_ERR_CODE 0 else y
      let on := z.putB w UCB.UNIT_CTL_ENABLE enable
      if s.feStays (on.putB w UCB.UNIT_CTL_RUN run) w then (on.putB w UCB.UNIT_CTL_RUN false).setErr w 0x0205
      else on.putB w UCB.UNIT_CTL_RUN run))) t).setMfState 3

/-- Has the epoch passed a condition-1 trigger's value (R74)? One equal to it counts as passed.
Mark DEDUCED: notes/assumptions/189.md. -/
def State.epochPassed (s : State) (t : TriggerX) : Bool :=
  t.cond == 1 && decide ((t.arg1 ++ t.arg0 - s.clock.epoch).toInt ≤ 0)

/-- The end of a load or amendment: condition-0 triggers fire, and an epoch trigger that comes too late fires at once
and records 0x0123. -/
def State.fireAtEnd (s : State) : State :=
  let t := s.triggered (fun u => u.fire (fun x => x.cond == 0))
  let late := t.tree.triggers.filter t.epochPassed
  late.foldl (fun u x => u.setErr x.win 0x0123) (t.triggered (fun u => u.fire t.epochPassed))

/-- A job is over: MF_STATE, the reply, EV_16, the Signboard. -/
def State.endJob (s : State) (j : JobX) : State :=
  let t := { s with tree := { s.tree with job := none } }
  let t1 := ((t.setMfState 0).mfResult mfGood).mfReply j.ph j.opcode j.tag mfGood
  (t1.raise 16).signCheck

/-- MF_AMEND_COMMIT: the ramps are complete; steps 6 and 7. -/
def execMfAmendCommit (s : State) : Out :=
  .next (match s.tree.job with
  | none => s
  | some j =>
    if j.target = 0 || j.committed || !j.held then s
    else
      let t := if j.opcode = 0x12 then s.commitRemove j.target
        else
          let u0 := s.commit j.target j.image
          let u := { u0 with fw := { u0.fw with amended := true } }
          (u.markMembers j.target true).triggered (fun v => v.resume j.target j.enable j.run)
      { t with tree := { t.tree with job := some { j with committed := true } } })

/-- MF_AMEND_COMPLETE: every member has left HOLD; step 8. -/
def execMfAmendComplete (s : State) : Out :=
  .next (match s.tree.job with
  | none => s
  | some j =>
    if j.target = 0 || !j.committed then s
    else
      ((s.markMembers j.target false).endJob j).fireAtEnd)

/-- In a pair nothing starts running at a boot: the condition-0 triggers of a boot Manifest wait for an MF_TRIGGER with
tag 0x00 (R496). -/
def State.withhold (s : State) : State :=
  { s with
    tree := { s.tree with triggers := s.tree.triggers.map (fun x => if x.cond = 0 then { x with cond := 4, arg0 := 0 } else x) }
    fw := { s.fw with boot := { s.fw.boot with
      withheld := s.fw.boot.withheld || s.tree.triggers.any (fun x => x.cond == 0) } } }

/-- A full image takes the place of everything: the old structure released, the new one applied.
Mark DEDUCED: notes/assumptions/83.md. -/
def State.loadFull (s : State) (j : JobX) : State :=
  let t := s.commit 0 j.image
  let t1 := (t.unitsUp 0).foldl (fun u w => u.dropHold holdAmend w) t
  let t2 : State := { t1 with tree := { t1.tree with manifestSlot := j.slot } }
  let t3 := if j.ph == 8 && t2.part.pairPresent then t2.withhold else t2
  (t3.endJob j).fireAtEnd

/-- Every bound unit goes to OFF before the new image binds it. -/
def State.allOff (s : State) : State := (s.unitsUp 0).reverse.foldl State.switchOff s

/-- MF_LOAD_COMPLETE: a full Manifest load carries out its change and ends. -/
def execMfLoadComplete (s : State) : Out :=
  .next (match s.tree.job with
  | none => s
  | some j => if j.target ≠ 0 ∨ j.opcode ≠ 0x10 ∨ !j.held then s else s.allOff.loadFull j)

/-- MF_AMEND_ABANDONED: before its commit point an amendment or removal is dropped, and the old content resumes (R83),
every member with its own ENABLE and RUN; MF_STATE goes to 0 at once.
Mark DEDUCED: notes/assumptions/84.md.
Mark DESIGN CHOICE: notes/assumptions/191.md. -/
def State.abandonJob (s : State) : State :=
  match s.tree.job with
  | none => s
  | some j =>
    if j.target = 0 ∨ j.committed then s
    else
      let t := { s with tree := { s.tree with job := none } }
      let t1 := (t.unitsUp j.target).foldl (fun u w => u.dropHold holdAmend w) (t.markMembers j.target false)
      ((t1.setMfState 0).mfResult (mfCode 0x0122)).mfReply j.ph j.opcode j.tag (mfCode 0x0122)

/-! ## Triggers (R74) -/

/-- MF_TRIGGER: the condition-4 triggers of a tag fire. -/
def execMfTrigger (ph : Fin 8) (tag : BitVec 8) (arg : Word) (s : State) : Out :=
  .next (s.serve ph 0x13 tag.toNat (fun t =>
    (((t.mirrorMsg 1 [0x13, arg]).triggered
      (fun u => u.fire (fun x => x.cond == 4 && x.arg0.toNat % 256 == arg.toNat % 256))).mfResult mfGood).mfReply ph 0x13
      tag.toNat mfGood))

/-- TRIGGER_EPOCH_REACHED: the epoch reaches the value of the pending condition-1 trigger of a window. -/
def execTriggerEpochReached (w : Fin 1024) (s : State) : Out :=
  .next (match s.tree.triggers.find? (fun x => x.win == w.val && x.cond == 1) with
  | none => s
  | some x => (s.advanceTo (x.arg1 ++ x.arg0)).triggered (fun u => u.fire (fun y => y == x)))

end Sys2Proof.Machine
end

