-- ==== Sys2Proof/Machine/Rows.lean ====
section
/-! DEFINITION. The rows whose effect may set VALID somewhere, each with the condition-3 triggers that it fires (R74). -/

namespace Sys2Proof.Machine

/-- The state that an outcome leaves. -/
def stateOr (s : State) (o : Out) : State :=
  match o with
  | .next t => t
  | _ => s

/-- A row's effect with the triggers that wait for a VALID it sets. -/
def State.fires (s : State) (f : State → Out) : Out := .next (s.triggered (fun t => stateOr t (f t)))

/-! ## Front ends and synthesisers -/

/-- AGC_BLOCK. -/
def execAgcBlock (fe : Fin 5) (level : Int) (co : Coincide) (s : State) : Out := s.fires (atAgcBlock fe level co)

/-- AGC_DECAY_STEP. -/
def execAgcDecayStep (fe : Fin 5) (co : Coincide) (s : State) : Out := s.fires (atAgcDecayStep fe co)

/-- TWIN_READY. -/
def execTwinReady (lo : Fin 8) (us : Nat) (s : State) : Out := s.fires (atTwinReady lo us)

/-- LO_LOCK_ACQUIRED. -/
def execLoLockAcquired (lo : Fin 8) (s : State) : Out := s.fires (atLoLockAcquired lo)

/-- LO_LOCK_LOST. -/
def execLoLockLost (lo : Fin 8) (s : State) : Out := s.fires (atLoLockLost lo)

/-- LO_HANDOVER. -/
def execLoHandover (fe : Fin 4) (s : State) : Out := s.fires (atLoHandover fe)

/-- CAL_STEP_DONE. -/
def execCalStepDone (fe : Fin 4) (a : CalArg) (s : State) : Out := s.fires (atCalStepDone fe a)

/-- CAL_STARTUP_DONE. -/
def execCalStartupDone (fe : Fin 4) (a : StartupArg) (s : State) : Out := s.fires (atCalStartupDone fe a)

/-- CAL_FE_L_DONE. -/
def execCalFeLDone (ok : Bool) (gains : List Int) (s : State) : Out := s.fires (atCalFeLDone ok gains)

/-! ## Warm-up (R161, R194, R260, R301, R318) -/

/-- May a unit in WARM set VALID? -/
def State.warmReady (s : State) (w : Nat) : Bool :=
  match kindOf w with
  | .ddc => decide (s.warmNeed w ≤ s.ax w axWarm)
  | .chanFilter => decide (s.warmNeed w ≤ s.ax w axWarm)
  | .audioFilter => decide (s.warmNeed w ≤ s.ax w axWarm)
  | .detector => decide (s.warmNeed w ≤ s.ax w axWarm)
  | .audioLane => s.laneValid w
  | .asrc => (s.fld w ASRC.ASRC_STATUS_MODE == 1 || s.fld w ASRC.ASRC_STATUS_MODE == 2) && decide (32 ≤ s.fld w ASRC.ASRC_STATUS_FILL)
  | .audioPort => s.flag w PORT.PORT_STATUS_STARTED && s.ax w axPMute == 0
  | .follow => s.folState w != 0 && s.laneSource (instOf w) 0
  | _ => false

/-- WARM_COMPLETE: a unit in WARM whose input is VALID has all that it waited for, and sets VALID. -/
def execWarmComplete (w : Fin 1024) (s : State) : Out :=
  .next (if s.atomState w == stWARM && s.inputValid w && s.warmReady w then s.triggered (fun t => t.setValid w true) else s)

/-- DEMOD_WARM_DONE: 2.0 ms of an FM demodulator with its input VALID. -/
def execDemodWarmDone (n : Fin 48) (s : State) : Out := .next (s.triggered (fun t => t.fmWarm (winFM n)))

/-- CARRIER_LOCKED. -/
def execCarrierLocked (n : Fin 16) (s : State) : Out := .next (s.triggered (fun t => t.amLock (winAM n)))

/-- AM_LOCK_BOUND. -/
def execAmLockBound (n : Fin 16) (s : State) : Out := .next (s.triggered (fun t => t.amBound (winAM n)))

/-- OFDM_SYNC_ADVANCE: the next synchronisation state, with the mode and occupancy found. -/
def execOfdmSyncAdvance (n : Fin 16) (mode : Fin 8) (so : Fin 6) (offset sco : Int) (s : State) : Out :=
  .next (s.triggered (fun t => t.syncAdvance (winOFDM n) mode so offset sco))

/-- OFDM_RESYNC_SUCCESS. -/
def execOfdmResyncSuccess (n : Fin 16) (s : State) : Out := .next (s.triggered (fun t => t.resynced (winOFDM n)))

/-! ## Audio, ports and the two-wire controller -/

/-- ACCESS_UNIT_DECODED. -/
def execAccessUnitDecoded (n : Fin 32) (u : AccessUnit) (s : State) : Out :=
  .next (s.triggered (fun t => t.accessUnit (winDec n) u))

/-- LANE_SAMPLE: one sample of a lane in WARM or RUN, or of one that ramps to zero. -/
def execLaneSample (n : Fin 32) (s : State) : Out :=
  .next (if s.live (winLane n) || s.fld (winLane n) LANE.LANE_STATUS_RAMP_STATE == 3 then s.triggered (fun t => t.laneSample n)
    else s)

/-- FILTER_OUTPUT: a DDC or filter unit in WARM or RUN computes one output. -/
def execFilterOutput (w : Fin 1024) (xs ys : List (Int × Int)) (s : State) : Out :=
  .next (s.triggered (fun t => t.filterOutput w xs ys))

/-- PORT_FRAME: a frame boundary of a port. -/
def execPortFrame (n : Fin 32) (e : BitVec 64) (period : Nat) (xs : List Int) (missing : BitVec 2) (s : State) : Out :=
  .next (s.triggered (fun t => t.portFrame (winPort n) e period xs missing))

/-- SYNC_IN_EDGE: an edge on SYNC_IN; one that is accepted also fires the condition-2 triggers (R74). With ENABLE 0 none is
(R336). -/
def execSyncInEdge (e : BitVec 64) (s : State) : Out :=
  .next (if s.flag 0x220 PORT.SYNC_IN_CFG_ENABLE then s.triggered (fun t => (t.syncIn e).fire (fun x => x.cond == 2)) else s)

/-- TWC_BUS_CLEARED. -/
def execTwcBusCleared (s : State) : Out := .next (s.triggered (fun t => t.twcCleared))

/-- TWC_BUS_FREE. -/
def execTwcBusFree (s : State) : Out := .next (s.triggered (fun t => t.twcBusFree))

end Sys2Proof.Machine
end

