-- ==== Sys2Proof/Machine/Clock.lean ====
section
/-! DEFINITION. The root clock (R396–R417): qualification and loss of the reference, lock and holdover, the timing
fault, glides and clamp, REF_CFG, the trim and the load of the epoch, and the clock outputs. -/

namespace Sys2Proof.Machine

/-! ## States of the root (R417) -/

def rootFree : Nat := 0
def rootAcquiring : Nat := 1
def rootLocked : Nat := 2
def rootHoldover : Nat := 3
def rootTimingFault : Nat := 4

def State.root (s : State) : Nat := s.fld blkClk CLK.ROOT_STATUS_STATE

def State.setRoot (s : State) (n : Nat) : State := s.put blkClk CLK.ROOT_STATUS_STATE n

def State.refOk (s : State) : Bool := s.flag blkClk CLK.ROOT_STATUS_REF_OK

def State.trusted (s : State) : Bool := s.flag blkClk CLK.ROOT_STATUS_TRUSTED

/-- The root DCO in kHz (R398). -/
def rootDcoKhz : Nat := 5898240

/-- Audio-master edges of one millisecond. -/
def msTicks : Nat := 24576

/-- HOLDOVER_MS of the holdover under way (R402, R411). -/
def State.holdoverNow (s : State) : Nat :=
  Nat.min 0xFFFFFFFF (s.clock.holdBase + (s.clock.uptime - s.clock.holdStart) / msTicks)

/-- Is the root in holdover, timed out or not? -/
def State.inHoldover (s : State) : Bool := s.root == rootHoldover || s.root == rootTimingFault

/-- PHASE_LEFT on its way to 0 (R409): a free value between what it was and 0.
Mark DEDUCED: notes/assumptions/120.md. -/
def State.phaseLeftNow (s : State) : Int :=
  let v := s.sfld blkClk CLK.PHASE_LEFT
  if 0 ≤ v then (s.freshWord.toNat : Int) % (v + 1) else -((s.freshWord.toNat : Int) % (1 - v))

/-- What a register of the clock block reads as: FREQ_ERR is measured while the root acquires or is locked, and free. -/
def State.clkRead (s : State) (off : Nat) : Word :=
  if off = 0x00C then (if s.inHoldover then w32 s.holdoverNow else s.rd blkClk off)
  else if off = 0x010 then (if s.root = rootAcquiring ∨ s.root = rootLocked then s.freshWord else s.rd blkClk off)
  else if off = 0x01C then
    (if s.flag blkClk CLK.ROOT_STATUS_TRIMMING then w32 (unsigned 24 s.phaseLeftNow) else s.rd blkClk off)
  else s.rd blkClk off

/-! ## Clock outputs (R412–R415, R480) -/

/-- The registers of CLK_OUT_n. -/
def clkOut (r : FRef) (n : Nat) : FRef := r.at n 16

/-- The output frequency in Hz by settings. -/
def outHz (refKhz src n d : Nat) : Nat := if src = 1 then refKhz * 1000 else 1474560000 * d / Nat.max 1 n

/-- May output `n` toggle: its source runs, and no F3 holds it low (R413, R415, R480)? -/
def State.outReady (s : State) (n : Nat) : Bool :=
  if s.fld blkClk (clkOut CLK.CLK_OUT_CFG_SRC n) = 1 then s.refOk
  else s.clock.everLocked && s.power.die == 0 && (s.trusted || !s.f3)

/-- Is a setting of output `n` aligned to the epoch: ALIGN, SRC 0, D = 1, and N a divisor or a multiple of 60 (R414)? -/
def State.outAligned (s : State) (n : Nat) : Bool :=
  let d := s.fld blkClk (clkOut CLK.CLK_OUT_DIV_N n)
  s.flag blkClk (clkOut CLK.CLK_OUT_CFG_ALIGN n) && s.fld blkClk (clkOut CLK.CLK_OUT_CFG_SRC n) == 0 &&
    s.fld blkClk (clkOut CLK.CLK_OUT_DIV_D n) == 1 && (60 % Nat.max 1 d == 0 || d % 60 == 0)

/-- The divider phase of output `n`: 0 arbitrary, else one more than the root periods by which a rising edge follows the edge
of epoch 0, modulo the period. Phase 1 puts a rising edge on every epoch count that is a multiple of max(1, N ÷ 60). -/
def axOutPhase (n : Nat) : Nat := 40 + n

/-- Output `n` is on its settings, with the phase that it starts with: nothing waits. -/
def State.outApply (s : State) (n : Nat) : State :=
  let run := s.flag blkClk (clkOut CLK.CLK_OUT_CFG_ENABLE n) && s.outReady n
  ((((s.setAx blkClk (axOutPhase n) (b2n (run && s.outAligned n))).put blkClk (clkOut CLK.CLK_OUT_STATUS_PENDING n) 0).put blkClk (clkOut CLK.FREQ_HZ n)
    (outHz (s.fld blkClk CLK.REF_CFG_REF_KHZ) (s.fld blkClk (clkOut CLK.CLK_OUT_CFG_SRC n))
      (s.fld blkClk (clkOut CLK.CLK_OUT_DIV_N n)) (s.fld blkClk (clkOut CLK.CLK_OUT_DIV_D n))))).putB blkClk
    (clkOut CLK.CLK_OUT_STATUS_RUNNING n) run

/-- The outputs follow their sources. One that waits for a change keeps waiting, stopped where its source stops.
Mark DEDUCED: notes/assumptions/124.md. -/
def State.outsFollow (s : State) : State :=
  (List.range 4).foldl (fun t n =>
    if t.flag blkClk (clkOut CLK.CLK_OUT_STATUS_PENDING n) then
      (if t.outReady n then t else (t.put blkClk (clkOut CLK.CLK_OUT_STATUS_RUNNING n) 0).setAx blkClk (axOutPhase n) 0)
    else t.outApply n) s

/-- The refusals of a setting (R412): N, D, and the frequency limit of the format. -/
def outCodes (refKhz : Nat) (cfg div : Word) : List Nat :=
  let n := CLK.CLK_OUT_DIV_N.of div
  let d := CLK.CLK_OUT_DIV_D.of div
  let cmos := CLK.CLK_OUT_CFG_FORMAT.of cfg ≠ 0
  let src := CLK.CLK_OUT_CFG_SRC.of cfg
  (if n < 2 ∨ d = 0 ∨ n / 2 < d then [0x0202] else []) ++
  (if src = 0 ∧ cmos ∧ 125000 * n < 1474560 * d then [0x0202] else []) ++
  (if src = 1 ∧ cmos ∧ 125000 < refKhz then [0x0202] else [])

/-- A setting of output `n` is written: at once on an output that does not toggle, else after its high phase and its
low hold (R413). -/
def State.outWritten (s : State) (n off : Nat) (v : Word) : State :=
  let t := s.store blkClk off v
  if s.flag blkClk (clkOut CLK.CLK_OUT_STATUS_RUNNING n) || s.flag blkClk (clkOut CLK.CLK_OUT_STATUS_PENDING n) then
    t.put blkClk (clkOut CLK.CLK_OUT_STATUS_PENDING n) 1
  else t.outApply n

/-- CLK_OUT_CONFIG_WRITE: a write of CLK_OUT_CFG_n, or of CLK_OUT_DIV_n where `div`.
Mark DEDUCED: notes/assumptions/125.md. -/
def execClkOutConfigWrite (m : Master) (n : Fin 4) (div : Bool) (v : Word) (s : State) : Out :=
  let off := 0x100 + 0x10 * n.val + (if div then 4 else 0)
  let cfg := if div then s.rd blkClk (0x100 + 0x10 * n.val) else v
  let dv := if div then v else s.rd blkClk (0x104 + 0x10 * n.val)
  .next (s.guarded m blkClk off v (outCodes (s.fld blkClk CLK.REF_CFG_REF_KHZ) cfg dv) (fun t => t.outWritten n off v))

/-- CLK_OUT_CHANGE_APPLIED. -/
def execClkOutChangeApplied (n : Fin 4) (s : State) : Out :=
  .next (if s.flag blkClk (clkOut CLK.CLK_OUT_STATUS_PENDING n) then s.outApply n else s)

/-! ## The trim (R409) -/

/-- A trim under way stops with its remainder kept (R416). -/
def State.trimPause (s : State) : State :=
  if s.flag blkClk CLK.ROOT_STATUS_TRIMMING then
    ((s.putI blkClk CLK.PHASE_LEFT s.phaseLeftNow).useFresh).put blkClk CLK.ROOT_STATUS_TRIMMING 0
  else s

/-- A remainder is trimmed away while the root is locked; the DCO glides to the trim's offset. -/
def State.trimGo (s : State) : State :=
  if s.root = rootLocked ∧ s.fld blkClk CLK.PHASE_LEFT ≠ 0 then
    (s.put blkClk CLK.ROOT_STATUS_TRIMMING 1).put blkClk CLK.ROOT_STATUS_GLIDING 1
  else s

/-- A correction replaces whatever remained of one under way. -/
def State.trimBy (s : State) (v : Nat) : State :=
  let t := (s.put blkClk CLK.PHASE_LEFT v).put blkClk CLK.ROOT_STATUS_TRIMMING 0
  if v = 0 ∧ s.flag blkClk CLK.ROOT_STATUS_TRIMMING then t.put blkClk CLK.ROOT_STATUS_GLIDING 1 else t.trimGo

/-- The refusals of PHASE_TRIM: its range, and STATE other than locked. -/
def State.trimCodes (s : State) (v : Word) : List Nat :=
  (if v.toNat % 2 ^ 24 = 0x800000 then [0x0202] else []) ++ (if s.root = rootLocked then [] else [0x0203])

/-- PHASE_TRIM_WRITE. -/
def execPhaseTrimWrite (m : Master) (v : Word) (s : State) : Out :=
  .next (s.guarded m blkClk 0x018 v (s.trimCodes v) (fun t => (t.store blkClk 0x018 v).trimBy (v.toNat % 2 ^ 24)))

/-- TRIM_DONE: nothing is left, and the DCO glides back. -/
def execTrimDone (s : State) : Out :=
  .next (if s.flag blkClk CLK.ROOT_STATUS_TRIMMING then
    ((s.put blkClk CLK.PHASE_LEFT 0).put blkClk CLK.ROOT_STATUS_TRIMMING 0).put blkClk CLK.ROOT_STATUS_GLIDING 1
  else s)

/-- GLIDE_END. -/
def execGlideEnd (s : State) : Out := .next (s.put blkClk CLK.ROOT_STATUS_GLIDING 0)

/-! ## Holdover (R402–R404) -/

/-- HOLDOVER_MS starts from a value. -/
def State.holdFrom (s : State) (ms : Nat) : State :=
  { s with clock := { s.clock with holdStart := s.clock.uptime, holdBase := ms } }

/-- The DCO word freezes, with FREQ_ERR held as it was measured. -/
def State.enterHoldover (s : State) : State :=
  let t := (s.trimPause.setRoot rootHoldover).put blkClk CLK.ROOT_STATUS_GLIDING 0
  (((((t.wr blkClk 0x010 t.freshWord).useFresh).count blkClk CLK.HOLDOVER_COUNT).holdFrom 0).wr blkClk 0x00C 0).raise 4

/-- The root loses what it follows: from locked it goes to holdover, and a holdover runs on (R416). -/
def State.rootLoses (s : State) : State :=
  let t := s.put blkClk CLK.ROOT_STATUS_GLIDING 0
  if t.root = rootLocked then t.enterHoldover
  else if t.root = rootAcquiring then (t.setRoot rootFree).put blkClk CLK.ROOT_STATUS_CLAMPED 0
  else t

/-- REF_LOST. In retention the monitor runs on, and that is all it shows (R411). -/
def execRefLost (s : State) : Out :=
  .next (if !s.refOk || s.power.die == 1 || s.power.die == 3 then s
    else if s.power.die ≠ 0 then s.put blkClk CLK.ROOT_STATUS_REF_OK 0
    else ((((s.put blkClk CLK.ROOT_STATUS_REF_OK 0).count blkClk CLK.REF_LOSS_COUNT).raise 3).rootLoses).outsFollow)

/-- ROOT_LOCK_LOST: from locked, with the reference still qualified, handled as a loss of the reference but for the count (R401):
REF_OK clears, and the reference is qualified again before the root relocks.
Mark DEDUCED: notes/assumptions/122.md. -/
def execRootLockLost (s : State) : Out :=
  .next (if s.root = rootLocked ∧ s.refOk then
    (((s.put blkClk CLK.ROOT_STATUS_REF_OK 0).raise 3).rootLoses).outsFollow else s)

/-- A standby whose own root leaves TRUSTED trusts its epoch no more (R468). -/
def State.trustLost (s : State) : State :=
  if s.fld blkFerry FERRY.PAIR_STATUS_ROLE = 3 ∧ s.flag blkFerry FERRY.PAIR_STATUS_EPOCH_TRUST then
    (s.put blkFerry FERRY.PAIR_STATUS_EPOCH_TRUST 0).raise 27
  else s

/-- TIMING_FAULT: the holdover has lasted 10 s (R403); F2 abandons an amendment before its commit point (R83).
Mark DEDUCED: notes/assumptions/119.md. -/
def execTimingFault (s : State) : Out :=
  .next (if s.root = rootHoldover then
    let left := (10000 - s.clock.holdBase) * msTicks - (s.clock.uptime - s.clock.holdStart)
    let t := s.advanceTo (s.clock.epoch + BitVec.ofNat 64 left)
    ((((((t.setRoot rootTimingFault).put blkClk CLK.ROOT_STATUS_TRUSTED 0).raise 6).declare
      ⟨2, 0x0F60, 0x3FF, 0⟩ true).abandonJob).trustLost).outsFollow
  else s)

/-! ## The reference and the lock (R397–R401, R404) -/

/-- REF_USED and BOUNDARY_KHZ by the settings in force (R398). -/
def State.rootMode (s : State) : State :=
  let khz := s.fld blkClk CLK.REF_CFG_REF_KHZ
  let m := chooseRef (s.fld blkClk CLK.REF_CFG_REF_MODE) rootDcoKhz khz
  (s.put blkClk CLK.ROOT_STATUS_REF_USED m).put blkClk CLK.BOUNDARY_KHZ (boundary2 rootDcoKhz khz m / 2)

/-- The first acquisition starts from the factory word, which may lie outside the clamp: a free value says so (R406).
Mark DEDUCED: notes/assumptions/121.md. -/
def State.firstAcquire (s : State) : State :=
  let t := (s.setRoot rootAcquiring).useFresh
  if s.freshWord.getLsbD 0 then (t.put blkClk CLK.ROOT_STATUS_CLAMPED 1).count blkClk CLK.CLAMP_COUNT else t

/-- REF_QUALIFIED. -/
def execRefQualified (s : State) : Out :=
  .next (if s.refOk || s.power.die == 1 || s.power.die == 3 then s
    else if s.power.die ≠ 0 then s.put blkClk CLK.ROOT_STATUS_REF_OK 1
    else
      let t := s.put blkClk CLK.ROOT_STATUS_REF_OK 1
      (if t.inHoldover then t.put blkClk CLK.ROOT_STATUS_GLIDING 1
       else if t.root = rootFree then t.firstAcquire else t).outsFollow)

/-- The epoch placed at a value; pending epoch triggers are judged against it (R410). -/
def State.placeEpoch (s : State) (e : BitVec 64) : State :=
  { s with clock := { s.clock with epoch := e } }.triggered (fun u => u.fire u.epochPassed)

/-- At the first lock the stopped domains start, and the epoch counts from 0 or from a value loaded before (R400, R410);
the converters are synchronised (R418), the fault of R493 ends, and the first Signboard build begins (R489). -/
def State.firstLock (s : State) : State :=
  let t := s.put blkKpr KPR.KPR_STATUS_SWITCH_SYNC 1
  let t1 := { t with clock := { t.clock with everLocked := true, loadPending := false } }
  ((t1.placeEpoch (if s.clock.loadPending then s.clock.loadValue else 0)).endFault (fun f => f.code == 0x0F62)).signStart

/-- STATE is locked and TRUSTED set; HOLDOVER_MS stops, the timing fault ends (R484), and a trim resumes (R416). -/
def State.lockRoot (s : State) : State :=
  let t := if s.inHoldover then s.wr blkClk 0x00C (w32 s.holdoverNow) else s
  let t1 := (((t.setRoot rootLocked).put blkClk CLK.ROOT_STATUS_TRUSTED 1).put blkClk CLK.ROOT_STATUS_CLAMPED 0).put
    blkClk CLK.ROOT_STATUS_GLIDING 0
  (((t1.rootMode).raise 5).endFault (fun f => f.code == 0x0F60)).trimGo

/-- ROOT_LOCKED. -/
def execRootLocked (s : State) : Out :=
  .next (if s.refOk && (s.inHoldover || s.root == rootAcquiring) then
    let t := s.lockRoot
    (if s.clock.everLocked then t else t.firstLock).outsFollow
  else s)

/-! ## REF_CFG (R396, R407) -/

/-- The refusals of a REF_CFG write: REF_KHZ outside the range of its SRC, f_eff out of range (R398). -/
def refCfgCodes (v : Word) : List Nat :=
  let khz := CLK.REF_CFG_REF_KHZ.of v
  let lo := if CLK.REF_CFG_SRC.of v = 0 then 19200 else 10000
  let hi := if CLK.REF_CFG_SRC.of v = 0 then 52000 else 60000
  let m := CLK.REF_CFG_REF_MODE.of v
  (if khz < lo ∨ hi < khz then [0x0202] else []) ++ (if m < 3 ∧ !refModeOk khz m then [0x0202] else [])

/-- The new settings are applied from holdover; before the first lock there is none, and a new reference puts the root
back in free-run (R416).
Mark DEDUCED: notes/assumptions/123.md. -/
def State.refCfgWritten (s : State) (v : Word) : State :=
  let same := v.toNat % 2 ^ 17 = (s.rd blkClk 0).toNat % 2 ^ 17
  let t := (s.store blkClk 0x000 v).rootMode
  let t1 := if t.root = rootLocked then t.enterHoldover else t.put blkClk CLK.ROOT_STATUS_GLIDING 0
  (if same then (if t1.inHoldover && t1.refOk then t1.put blkClk CLK.ROOT_STATUS_GLIDING 1 else t1)
   else
     let t2 := t1.put blkClk CLK.ROOT_STATUS_REF_OK 0
     if t2.root = rootAcquiring then (t2.setRoot rootFree).put blkClk CLK.ROOT_STATUS_CLAMPED 0 else t2).outsFollow

/-- REF_CFG_WRITE. -/
def execRefCfgWrite (m : Master) (v : Word) (s : State) : Out :=
  .next (s.guarded m blkClk 0x000 v (refCfgCodes v) (fun t => t.refCfgWritten v))

/-! ## The epoch (R38, R410) -/

/-- Does a port run, or is a start group armed? -/
def State.portsBusy (s : State) : Bool :=
  ((List.range 32).map winPort).any (fun p => s.present p && s.live p) ||
  [1, 2, 3, 4, 5, 6, 7].any (fun g => s.grpFld g PORT.GRP_CTL_ARM == 1)

/-- After a load each running output that is aligned holds its low phase until it takes the new phase (R414). -/
def State.outsRephase (s : State) : State :=
  (List.range 4).foldl (fun t n =>
    if t.flag blkClk (clkOut CLK.CLK_OUT_STATUS_RUNNING n) && t.outAligned n then
      (t.put blkClk (clkOut CLK.CLK_OUT_STATUS_PENDING n) 1).setAx blkClk (axOutPhase n) 0
    else t) s

/-- LOAD: at once, or held for the edge on which the epoch starts. -/
def State.loadEpoch (s : State) (v : Word) : State :=
  let e := s.rd blkClk 0x024 ++ s.rd blkClk 0x020
  if CLK.EPOCH_CTL_LOAD.of v = 0 then s
  else if s.clock.everLocked then (s.placeEpoch e).outsRephase
  else { s with clock := { s.clock with loadPending := true, loadValue := e } }

/-- EPOCH_LOAD: a write of EPOCH_CTL. -/
def execEpochLoad (m : Master) (v : Word) (s : State) : Out :=
  .next (s.guarded m blkClk 0x028 v (if CLK.EPOCH_CTL_LOAD.of v = 1 ∧ s.portsBusy then [0x0203] else [])
    (fun t => t.loadEpoch v))

/-- EPOCH_SNAP: a write of EPOCH_SNAP copies the epoch. -/
def execEpochSnap (m : Master) (v : Word) (s : State) : Out :=
  .next (s.guarded m blkSys SYS.EPOCH_SNAP.off v [] (fun t =>
    if SYS.EPOCH_SNAP.of v = 1 then { t with clock := { t.clock with snap := t.clock.epoch } } else t))

end Sys2Proof.Machine
end

