-- ==== Sys2Proof/Machine/Pair.lean ====
section
/-! DEFINITION. The Ferry link and the pair (R458–R476): roles and PAIR_LEAD_N, heartbeats, epoch alignment and trust,
mirror frames and replay, resync, and the pair commands. What a frame does through the address map stands in Link.lean. -/

namespace Sys2Proof.Machine

/-! ## Registers -/

def roleAlone : Nat := 0
def roleLead : Nat := 2
def roleStandby : Nat := 3

def State.role (s : State) : Nat := s.fld blkFerry FERRY.PAIR_STATUS_ROLE

def State.setRole (s : State) (n : Nat) : State := s.put blkFerry FERRY.PAIR_STATUS_ROLE n

def State.ferryUp (s : State) : Bool := s.flag blkFerry FERRY.PAIR_STATUS_LINK_UP

def State.hbOk (s : State) : Bool := s.flag blkFerry FERRY.PAIR_STATUS_HB_OK

/-- MIRROR_STATE: 0 off, 1 resyncing, 2 current, 3 mismatch. -/
def State.mirrorState (s : State) : Nat := s.fld blkFerry FERRY.PAIR_STATUS_MIRROR_STATE


/-- Is pairing on: ENABLE with PAIR_PRESENT high? -/
def State.pairOn (s : State) : Bool := s.part.pairPresent && s.flag blkFerry FERRY.PAIR_CFG_ENABLE

/-- EPOCH_TRUST (R468): a lead's is its own root's; a standby's clears when its root leaves TRUSTED. -/
def State.epochTrust (s : State) : Bool :=
  if s.role = roleLead then s.trusted else s.flag blkFerry FERRY.PAIR_STATUS_EPOCH_TRUST && s.trusted

/-- The level of PAIR_LEAD_N as this chip reads it. -/
def State.leadLevel (s : State) : Bool := if s.ferry.drivesLine then s.ferry.wireFail else !s.ferry.lineLow

/-- PORT_DRIVE: the ports whose balls are driven. -/
def State.portDrive (s : State) : Word :=
  w32 ((List.range 32).foldl (fun a n => a + b2n (s.flag (winPort n) PORT.PORT_STATUS_DRIVING) * 2 ^ n) 0)

/-- What a register of the Ferry block reads as. -/
def State.ferryRead (s : State) (off : Nat) : Word :=
  if off = 0x008 then
    let v := s.rd blkFerry off
    FERRY.PAIR_STATUS_PREFERRED.put (FERRY.PAIR_STATUS_PRESENT.put (FERRY.PAIR_STATUS_LEAD_N_LEVEL.put
      (FERRY.PAIR_STATUS_EPOCH_TRUST.put v (b2n s.epochTrust)) (b2n s.leadLevel)) (b2n s.part.pairPresent))
      (b2n s.part.pairRole)
  else if off = 0x024 then s.portDrive
  else s.rd blkFerry off

/-- Is a fault the one that the heartbeat loss under way declared? -/
def State.isLoss (s : State) (f : FaultX) : Bool :=
  match s.ferry.lossFault with
  | some g => f.cls == g.cls && f.code == g.code && f.win == g.win
  | none => false

/-! ## Leading and the interlock (R469–R473) -/

/-- The line is let go: no heartbeat is sent from here on, until the silence ends. -/
def State.letGo (s : State) : State :=
  { s.setRole roleAlone with
    ferry := { s.ferry with drivesLine := false, silent := true, wireFail := false } }.endFault (fun f => f.code == 0x0905)

/-- A lead releases PAIR_LEAD_N; its paired ports withdraw at their next frame boundary (R471).
Mark DEDUCED: notes/assumptions/126.md. -/
def State.leadRelease (s : State) : State :=
  if s.ferry.drivesLine then
    let t := s.letGo
    { t with ferry := { t.ferry with driving := false, handover := none } }
  else if s.ferry.silent ∧ s.ferry.handover.isSome then
    { s with ferry := { s.ferry with driving := false, handover := none } }
  else s

/-- The chip drives the line low and leads. Its paired ports drive from the next boundary, or from a handover epoch. -/
def State.takeLead (s : State) : State :=
  let t := (s.setRole roleLead).put blkFerry FERRY.PAIR_STATUS_TAKE_OVERRIDE 0
  { t with ferry := { t.ferry with drivesLine := true, lineLow := false, silent := false, followed := false,
                                   driving := t.ferry.handover.isNone } }

/-- The chip is standby, and sees the line low. -/
def State.standBy (s : State) : State :=
  let t := s.setRole roleStandby
  { t with ferry := { t.ferry with lineLow := true, silent := false } }

/-- LEAD_CLAIM: the claim delay passes with the line high, and the chip leads; or it sees the line low.
Mark DESIGN CHOICE: notes/assumptions/127.md. -/
def execLeadClaim (low : Bool) (s : State) : Out :=
  .next (if s.pairOn && s.role == roleAlone && !s.ferry.silent then (if low then s.standBy else s.takeLead) else s)

/-- RELEASE_SILENCE_END: the line is seen low, or 100 µs pass. -/
def execReleaseSilenceEnd (low : Bool) (s : State) : Out :=
  .next (if !s.ferry.silent then s
    else if low then s.standBy
    else { s with ferry := { s.ferry with silent := false, lineLow := false } })

/-- WIRE_CHECK_FAIL. -/
def execWireCheckFail (s : State) : Out :=
  .next (if s.ferry.drivesLine && !s.ferry.wireFail then
    let t := { s with ferry := { s.ferry with wireFail := true } }
    (t.raise 29).declare ⟨0, 0x0905, 0x3FF, 0⟩ true
  else s)

/-- WIRE_CHECK_CLEARED (R478). -/
def execWireCheckCleared (s : State) : Out :=
  .next (if s.ferry.wireFail then
    { s with ferry := { s.ferry with wireFail := false } }.endFault (fun f => f.code == 0x0905)
  else s)

/-- The engines after a crossing: a blend or an announcement's fade that has begun completes, and a check is dropped, so that no
other blend begins before its engine has been in WATCH (R476).
Mark DEDUCED: notes/assumptions/271.md. -/
def State.crossingFollow (s : State) : State :=
  (((List.range 32).map winFollow).filter (fun f => s.live f && decide (2 ≤ s.folState f ∧ s.folState f ≤ 4))).foldl
    (fun t f => (t.folRelease f).folRest f) s

/-- A takeover before the release that R472 plans, 492 counts before E, is an unplanned crossing: the handover is off (R476). -/
def State.handoverKept (s : State) : State :=
  match s.ferry.handover with
  | some e => if (s.clock.epoch - (e - 492)).toInt < 0 then { s with ferry := { s.ferry with handover := none } } else s
  | none => s

/-- TAKEOVER: the conditions of R470 hold at epoch `e`, the line having stayed high. -/
def execTakeover (e : BitVec 64) (s : State) : Out :=
  let overridden := s.flag blkFerry FERRY.PAIR_STATUS_TAKE_OVERRIDE
  .next (if s.role == roleStandby && s.ferryUp && !s.hbOk && (s.epochTrust || overridden) && (s.mirrorState == 2 || overridden) then
    ((((s.advanceTo e).handoverKept.takeLead).crossingFollow).count blkFerry FERRY.CROSSING_COUNT).raise 26
  else s)

/-- The last `n` posted writes, in order. -/
def State.lastPosts (s : State) (n : Nat) : List FrameX :=
  let ws := s.ferry.sent.filter (fun f => f.kind == frWrite)
  ws.drop (ws.length - n)

/-- The link answers no more (R25, R29): every read that is awaited fails and returns 0, and each of the last `lost`
posted writes, those in flight, is discarded and counts as one failure. -/
def State.farFails (s : State) (lost : Nat) : State :=
  let t := s.ferry.reads.foldl (fun u r => u.accessFail r.1 r.2 false 0x0901) s
  let t1 := (t.lastPosts lost).foldl
    (fun u x => u.accessFail ((x.words.getD 2 0).toNat) (0x80000000 + (x.words.getD 0 0).toNat) true 0x0901) t
  ({ t1 with ferry := { t1.ferry with reads := [] } }).ans (s.ferry.reads.map (fun _ => 0))

/-- Pairing is switched off: the link is down, no line is driven, nothing is mirrored. How many of the posted writes were
still in flight is the link's own, a free value.
Mark DEDUCED: notes/assumptions/133.md. -/
def State.pairOff (s0 : State) : State :=
  let posts := (s0.ferry.sent.filter (fun f => f.kind == frWrite)).length
  let s := if s0.ferryUp then (s0.farFails (s0.freshWord.toNat % (posts + 1))).useFresh else s0
  let t := s.leadRelease.endFault (fun f => f.cls == 2 && (f.code == 0x0908 || f.code == 0x0909))
  let t1 := t.endFault (fun f => s.isLoss f || f.code == 0x090B)
  let t2 := (((((t1.setRole roleAlone).put blkFerry FERRY.PAIR_STATUS_LINK_UP 0).put blkFerry
    FERRY.PAIR_STATUS_HB_OK 0).put blkFerry FERRY.PAIR_STATUS_EPOCH_TRUST 0).put blkFerry
    FERRY.PAIR_STATUS_TAKE_OVERRIDE 0).setMirror 0
  { t2 with ferry := { Ferry.init with sent := t2.ferry.sent, lineLow := t2.ferry.lineLow } }

/-- An accepted write of PAIR_CFG. -/
def State.pairCfg (s : State) (v : Word) : State :=
  let t := s.store blkFerry 0x000 v
  if s.pairOn && !t.pairOn then t.pairOff else t

/-- The refusal of PORT_PAIRED: every port it changes is in OFF or IDLE (R471). -/
def State.pairedCodes (s : State) (v : Word) : List Nat :=
  if (List.range 32).any (fun n => v.getLsbD n != (s.rd blkFerry FERRY.PORT_PAIRED.off).getLsbD n &&
    s.atomState (winPort n) != stOFF && s.atomState (winPort n) != stIDLE) then [0x0203] else []

/-! ## Mirror frames and resync (R463–R466) -/

/-- Replay entries up to the partner's APPLIED_SEQ are freed. -/
def State.replayFree (s : State) (applied : Word) : State :=
  { s with ferry := { s.ferry with replay := s.ferry.replay.filter (fun f => decide (0 < diff32 f.seq applied)) } }

/-- REPLAY_REQ is sent for the frame after the last one applied. -/
def State.askReplay (s : State) : State :=
  let t := (s.count blkFerry FERRY.REPLAY_COUNT).sendFrame
    { kind := frReplayReq, seq := 0, words := [s.rd blkFerry FERRY.APPLIED_SEQ.off + 1] }
  { t with ferry := { t.ferry with gap := true } }

/-- MIRROR_GAP_TIMEOUT: a frame that the lead's TX_SEQ covers has not come. -/
def execMirrorGapTimeout (s : State) : Out :=
  .next (if s.role == roleStandby && decide (0 < diff32 s.ferry.partnerTx (s.rd blkFerry FERRY.APPLIED_SEQ.off)) then
    s.askReplay else s)

/-- REPLAY_REQUEST: the frames from `seq` on are sent again, or where the first is held no more a resync starts. -/
def execReplayRequest (seq : Word) (s : State) : Out :=
  .next (if s.role ≠ roleLead then s
    else if s.ferry.replay.any (fun f => f.seq == seq) then
      (s.ferry.replay.filter (fun f => decide (0 ≤ diff32 f.seq seq))).foldl State.sendFrame s
    else s.resyncStart)

/-- May a register be set by a resync or a restore: not one of the Keeper, and not read-only? -/
def restorable (b off : Nat) : Bool :=
  b != blkKpr && (match regAt b off with
    | some r => !r.readOnly
    | none => false)

/-- The lead's full state is taken over. UNIT_CTL of each unit comes last, with what follows from it. -/
def State.takeState (s : State) (a : ResyncArg) : State :=
  let t0 := { s with tree := { s.tree with parents := [], links := a.links, comps := a.comps, allocs := a.allocs,
                                           triggers := a.triggers, manifestId := a.manifestId } }
  let t := a.parents.foldl (fun u p => u.setParent p.1 p.2) t0
  let t1 := (a.regs.filter (fun r => restorable r.1 r.2.1 && !(decide (r.1 < 0x400) && r.2.1 == 0x004))).foldl
    (fun u r => u.wr r.1 r.2.1 r.2.2) t
  let t2 := (a.regs.filter (fun r => decide (r.1 < 0x400) && r.2.1 == 0x004)).foldl
    (fun u r => u.watch r.1 (fun v => v.wr r.1 0x004 (r.2.2 &&& 0x1F#32))) t1
  (a.pages.filter (fun p => decide (0x02000000 ≤ p.1 ∧ p.1 + p.2.length ≤ 0x02400000))).foldl
    (fun u p => u.wrBytes p.1 p.2) t2

/-- RESYNC_DONE: the standby has applied the full state; the lead learns so. -/
def execResyncDone (a : ResyncArg) (s : State) : Out :=
  .next (if s.mirrorState ≠ 1 then s
    else if s.role = roleStandby then
      let t := (((s.takeState a).wr blkFerry FERRY.APPLIED_SEQ.off a.seq).setMirror 2).signCheck
      { t with ferry := { t.ferry with gap := false } }.endFault
        (fun f => f.cls == 2 && (f.code == 0x0908 || f.code == 0x0909))
    else s.setMirror 2)

/-- RESYNC_TIMEOUT (R479). -/
def execResyncTimeout (s : State) : Out :=
  .next (if s.role == roleStandby && s.mirrorState == 1 then (s.declare ⟨2, 0x0908, 0x3FF, 0⟩ true).abandonJob else s)

/-! ## The link and its heartbeats (R460–R462, R467, R468) -/

/-- One millisecond in root periods. -/
def msRoot : Int := 1474560

/-- EPOCH_TRUST set or cleared at a heartbeat, with EPOCH_UNTRUSTED on clearing. -/
def State.setTrust (s : State) (v : Bool) : State :=
  let t := s.putB blkFerry FERRY.PAIR_STATUS_EPOCH_TRUST v
  if s.flag blkFerry FERRY.PAIR_STATUS_EPOCH_TRUST && !v then t.raise 27 else t

/-- The standby's epoch loaded with the lead's (R410, R467): the sender's, moved on by the latency. -/
def State.leadEpoch (s : State) (e : BitVec 64) : State :=
  s.placeEpoch (e + BitVec.ofNat 64 (s.fld blkFerry FERRY.LATENCY_NS * 24576 / 1000000))

/-- The standby measures the offset, holds it at 0 by trim, and judges its trust. An offset beyond 1 ms while a port runs
is not trimmed away; once its ports have stopped the epoch is loaded.
Mark DEDUCED: notes/assumptions/131.md. -/
def State.alignEpoch (s : State) (hb : HeartbeatArg) (offset : Int) : State :=
  let fits := decide (-2147483648 ≤ offset ∧ offset ≤ 2147483647)
  let t := if fits then s.putI blkFerry FERRY.EPOCH_OFFSET offset
    else (s.wr blkFerry FERRY.EPOCH_OFFSET.off s.freshWord).useFresh
  let far := decide (msRoot < offset ∨ offset < -msRoot)
  if far || t.ferry.epochBad then
    if !t.portsBusy && t.clock.everLocked then
      let u := (t.leadEpoch hb.epoch).endFault (fun f => f.code == 0x090B)
      { u with ferry := { u.ferry with epochBad := false } }.setTrust false
    else if t.ferry.epochBad then t.setTrust false
    else { t with ferry := { t.ferry with epochBad := true } }.setTrust false |>.declare ⟨0, 0x090B, 0x3FF, 0⟩ true
  else
    let limit : Int := t.fld blkFerry FERRY.PAIR_CFG_ALIGN_LIMIT
    let u := if t.root = rootLocked ∧ (offset ≠ 0 ∨ t.fld blkClk CLK.PHASE_LEFT ≠ 0) then t.trimBy (unsigned 24 offset) else t
    u.setTrust (u.ferryUp && u.trusted && hb.trusted && decide (-limit ≤ offset ∧ offset ≤ limit))

/-- Two leads: the chip that is not preferred gives way (R473). -/
def State.twoLeads (s : State) (hb : HeartbeatArg) : State :=
  if s.role = roleLead ∧ hb.role = 2 ∧ !s.part.pairRole then
    let t := { s with ferry := { s.ferry with drivesLine := false, driving := false, wireFail := false, handover := none } }
    (((t.endFault (fun f => f.code == 0x0905)).standBy).raise 29).declare ⟨0, 0x0907, 0x3FF, 0⟩ false
  else s

/-- A standby of another protocol than its lead's holds a mismatch (R475). -/
def State.protoCheck (s : State) (mismatch : Bool) : State :=
  if s.role = roleStandby ∧ mismatch ∧ s.mirrorState ≠ 3 then ((s.setMirror 3).declare ⟨2, 0x0909, 0x3FF, 0⟩ true).abandonJob
  else s

/-- What every good heartbeat brings: a loss ends, and the partner's fields are taken. -/
def State.heartbeat (s : State) (hb : HeartbeatArg) : State :=
  let t := ((((s.put blkFerry FERRY.PAIR_STATUS_HB_OK 1).put blkFerry FERRY.PAIR_STATUS_TAKE_OVERRIDE 0).put blkFerry
    FERRY.PAIR_STATUS_PARTNER_FAULT hb.fault.toNat).put blkFerry FERRY.PAIR_STATUS_PARTNER_PROTO (hb.proto.toNat % 256)).wr
    blkFerry FERRY.PARTNER_APPLIED.off hb.appliedSeq
  let t1 := { t with ferry := { t.ferry with partnerTx := hb.txSeq, lossFault := none } }
  ((((t1.endFault (s.isLoss)).replayFree hb.appliedSeq).twoLeads hb).protoCheck
    (hb.proto != 1))

/-- HEARTBEAT_RECEIVED. -/
def execHeartbeatReceived (hb : HeartbeatArg) (offset : Int) (s : State) : Out :=
  .next (if s.pairOn && s.ferryUp then
    let t := s.heartbeat hb
    if t.role = roleStandby then t.alignEpoch hb offset else t
  else s)

/-- The ABI of the running slot (R447). -/
def State.ownAbi (s : State) : Nat := (s.rdWord (fwSlotBase s.fw.runningSlot + 12)).toNat / 256 % 256

/-- LINK_TRAINED: the first heartbeat has come. A standby loads the lead's epoch where none of its ports runs; a lead
starts a resync. -/
def execLinkTrained (latency : Nat) (hb : HeartbeatArg) (abi : BitVec 8) (s : State) : Out :=
  .next (if s.pairOn && !s.ferryUp then
    let t := (((s.put blkFerry FERRY.PAIR_STATUS_LINK_UP 1).put blkFerry FERRY.LATENCY_NS latency).raise 24).heartbeat hb
    let t1 := t.protoCheck (abi.toNat != t.ownAbi)
    if t1.role = roleStandby then
      let u := if t1.mirrorState = 3 then t1 else t1.setMirror 1
      if u.portsBusy || !u.clock.everLocked then u else u.leadEpoch hb.epoch
    else if t1.role = roleLead then t1.resyncStart else t1
  else s)

/-- LINK_TRAIN_RETRY. -/
def execLinkTrainRetry (s : State) : Out := .next (if s.pairOn && !s.ferryUp then s.recordCode 0x090A else s)

/-- HEARTBEAT_SEND: one goes out each microsecond of a link that is up, but in the silence of R469. A count of the epoch is 60
root periods; which of them the frame's first symbol falls in is a free value.
Mark DESIGN CHOICE: notes/assumptions/274.md. -/
def execHeartbeatSend (s : State) : Out :=
  .next (if s.ferryUp && !s.ferry.silent then
    s.useFresh.sendFrame { kind := frHeartbeat, seq := 0, words := [w32 s.role, w32 (b2n s.trusted), w32 s.highestClass,
      s.clock.epoch.extractLsb' 0 32, s.clock.epoch.extractLsb' 32 32, w32 (s.freshWord.toNat % 60), s.rd blkFerry FERRY.TX_SEQ.off,
      s.rd blkFerry FERRY.APPLIED_SEQ.off, 1] }
  else s)

/-- Every semaphore of a master is freed (R44). -/
def State.freeSems (s : State) (m : Nat) : State :=
  (List.range 32).foldl (fun t n => if t.semOwner n = m then t.setSem n 9 else t) s

/-- HEARTBEAT_LOSS: the partner's semaphores are freed, the reads awaited fail, and so do the `lost` posted writes that
were in flight (R29, R44). No code is given for its F0: a free value.
Mark DEDUCED: notes/assumptions/128.md. -/
def execHeartbeatLoss (lost : Nat) (s : State) : Out :=
  .next (if s.ferryUp && s.hbOk then
    let f : FaultX := ⟨0, s.freshWord.toNat % 65536, 0x3FF, 0⟩
    let t := (((s.put blkFerry FERRY.PAIR_STATUS_HB_OK 0).count blkFerry FERRY.HB_LOSS_COUNT).raise 25).freeSems 7
    let t1 := t.farFails lost
    ({ t1 with ferry := { t1.ferry with lossFault := some f } }).useFresh.declare f true
  else s)

/-- FERRY_BAD_FRAME. -/
def execFerryBadFrame (s : State) : Out :=
  .next (if s.pairOn then (s.count blkFerry FERRY.LINK_ERR_COUNT).raise 29 else s)

/-- FERRY_EVENT_FRAME: the partner's event. -/
def execFerryEventFrame (e : Fin 128) (s : State) : Out :=
  .next (if s.ferryUp then (s.put blkFerry FERRY.PARTNER_LAST e).raise 28 else s)

/-! ## Pair commands (R472, R474) -/

/-- A pair command: refused with 0x0904 where PAIR_PRESENT is low. -/
def State.pairServe (s : State) (ph : Fin 8) (op : Nat) (tag : BitVec 8) (body : State → State × List Word) : State :=
  s.serve ph op tag.toNat (fun t =>
    if !t.part.pairPresent then t.reply ph op tag.toNat [0x0904]
    else
      let p := body t
      p.1.reply ph op tag.toNat p.2)

/-- PR_STATUS. -/
def execPrStatus (ph : Fin 8) (tag : BitVec 8) (_args : List Word) (s : State) : Out :=
  .next (s.pairServe ph 0x80 tag (fun t => (t, [0, t.ferryRead 0x008, t.rd blkFerry 0x00C,
    t.rd blkFerry FERRY.TX_SEQ.off - t.rd blkFerry FERRY.PARTNER_APPLIED.off])))

/-- The handover epoch: the first multiple of 983,040 counts at least 1 ms ahead.
Mark DEDUCED: notes/assumptions/132.md. -/
def handoverEpoch (now : BitVec 64) : BitVec 64 :=
  BitVec.ofNat 64 ((now.toNat + msTicks + 983039) / 983040 * 983040)

/-- A lead chooses the handover epoch and tells the standby. -/
def State.handOver (s : State) (e : BitVec 64) : State :=
  let lo := e.extractLsb' 0 32
  let hi := e.extractLsb' 32 32
  let t := ((s.wr blkFerry 0x028 lo).wr blkFerry 0x02C hi).sendFrame { kind := frMessage, seq := 0, words := [5, lo, hi] }
  { t with ferry := { t.ferry with handover := some e } }

/-- PR_HANDOVER; `partner` is the partner's PAIR_STATUS as firmware finds it. -/
def execPrHandover (ph : Fin 8) (tag : BitVec 8) (args : List Word) (partner : Word) (s : State) : Out :=
  .next (s.pairServe ph 0x81 tag (fun t =>
    let ready := FERRY.PAIR_STATUS_MIRROR_STATE.of partner = 2 ∧ FERRY.PAIR_STATUS_EPOCH_TRUST.of partner = 1
    if t.role ≠ roleLead then (t, [0x0902])
    else if !t.hbOk then (t, [0x0904])
    else if !(args.getD 0 0).getLsbD 0 ∧ ¬ready then (t, [0x0903])
    else
      let e := handoverEpoch t.clock.epoch
      (t.handOver e, [0, e.extractLsb' 0 32, e.extractLsb' 32 32])))

/-- HANDOVER_RELEASE: at E − 20 µs the lead lets the line go, and drives on until E. -/
def execHandoverRelease (s : State) : Out :=
  .next (match s.ferry.handover with
    | none => s
    | some e => if s.role = roleLead ∧ s.ferry.drivesLine then (s.advanceTo (e - 492)).letGo else s)

/-- HANDOVER_EPOCH: at E the old lead stops driving and the new lead starts. -/
def execHandoverEpoch (s : State) : Out :=
  .next (match s.ferry.handover with
    | none => s
    | some e =>
      let t := s.advanceTo e
      { t with ferry := { t.ferry with handover := none, driving := t.role == roleLead && t.ferry.drivesLine } })

/-- PR_TAKE. -/
def execPrTake (ph : Fin 8) (tag : BitVec 8) (_args : List Word) (s : State) : Out :=
  .next (s.pairServe ph 0x82 tag (fun t =>
    if t.hbOk then (t, [0x0906])
    else if t.role ≠ roleStandby then (t, [0x0902])
    else (t.put blkFerry FERRY.PAIR_STATUS_TAKE_OVERRIDE 1, [0])))

/-- PR_RESYNC. -/
def execPrResync (ph : Fin 8) (tag : BitVec 8) (_args : List Word) (s : State) : Out :=
  .next (s.pairServe ph 0x83 tag (fun t => if t.role ≠ roleLead then (t, [0x0902]) else (t.resyncStart, [0])))

end Sys2Proof.Machine
end

