-- ==== Sys2Proof/Machine/Faults.lean ====
section
/-! DEFINITION. The fault response (R478–R488): harmless states, F1 in a unit, the thermal F2, F3, the junction sensor
(R512), the audit of the books and the fault log (R485, R530). -/

namespace Sys2Proof.Machine

/-! ## Harmless states (R480, R481, R483) -/

/-- The feeds and their rail go off, and stay off until ON is written 0 and then 1 (R484). -/
def State.feedsDark (s : State) : State :=
  allFeeds.foldl (fun t w => (if t.feedLit w then t.feedOff w 0 else t).setAx w axFeedBlocked 1) s

/-- The two-wire controller's transfer stops with a STOP, and both lines are let go. -/
def State.twcHalt (s : State) : State :=
  let w := winTWC
  ((((s.put w TWC.TWC_STATUS_ACTIVE 0).put w TWC.TWC_STATUS_HOLDING 0).setAx w 34 0).setAx w 35 0).setAx w 36 0

/-- A unit goes to SAFE for a cause that stands, with the outputs it owns: its queue, and the queues it feeds (R483). -/
def State.safeUnit (s : State) (w code : Nat) : State :=
  let t := s.withFe w (fun u => u.markSafe w code true)
  let t1 := ((if kindOf w = .queue then [w] else []) ++ s.queuesFrom w).foldl State.stopQueue t
  if kindOf w = .aerialFeed then (if t1.feedLit w then t1.feedOff w 0 else t1).setAx w axFeedBlocked 1
  else if kindOf w = .twc then t1.twcHalt else t1

/-- F1 in a unit: a task of a scan or scout that borrows it is abandoned first, and it enters SAFE unbound (R488). -/
def State.faultUnit (s : State) (w code : Nat) (detail : Word) : State :=
  let t := if (s.unit w).lent = 0 then s else (s.takeFromScans [w]).takeFromScouts [w]
  (t.safeUnit w code).declare ⟨1, code, w, detail⟩ true

/-- The codes whose F3 drives AP_DATA low at once (R481). -/
def lowAtOnce (code : Nat) : Bool := code == 0x0F70 || code == 0x0F41 || code == 0x0F15

/-- Every output of the device takes its harmless state, and a lead lets its line go (R469). -/
def State.f3Outputs (s : State) : State :=
  let t := ((List.range 64).map winQ).foldl (fun u q => u.stopQueue q) (s.feedsDark.twcHalt)
  let t1 := ((List.range 32).map winLane).foldl (fun u l => if u.present l then u.laneSteer l else u) t
  let t2 := { t1 with power := { t1.power with dataLow := t1.fw.standing.any (fun f => f.cls == 3 && lowAtOnce f.code) } }
  t2.leadRelease.outsFollow

/-- F3 of the device: during a save it applies when the save is done with (R488). -/
def State.declareF3 (s : State) (code : Nat) : State :=
  let t := (s.declare ⟨3, code, 0x3FF, 0⟩ true).abandonJob
  if t.power.saving = 0 ∧ t.power.die = 0 then t.f3Outputs else t

/-- Is AP_DATA of a port driven low, its lane's ramp or not (R481)? -/
def State.apDataLow (s : State) (w : Nat) : Bool :=
  let n := instOf (s.srcOf w 0)
  let lane := winLane n
  s.power.dataLow || s.flag w PORT.PORT_STATUS_CLOCK_LOST || (s.unit w).safe || (s.unit (lane + 0x20)).safe ||
  (s.unit (lane + 0x40)).safe || ((s.unit lane).safe && (s.unit lane).cause == 0x0F11)

/-! ## Self-checks (R59, R479) -/

/-- SELF_CHECK_DONE: the check that a SYNC_RESET reran ends; passed, it clears the cause it found and that of the books
(R484). A check that fails puts the unit in FAULT.
Mark DEDUCED: notes/assumptions/144.md.
Mark DEDUCED: notes/assumptions/178.md. -/
def execSelfCheckDone (w : Fin 1024) (ok : Bool) (s : State) : Out :=
  let x := s.unit w
  .next (if !s.present w || s.isComposite w then s
    else if ok then
      if x.checkBusy then
        s.setUnit w { x with checkBusy := false, causeStands := x.causeStands && !(x.selfFail || x.cause == 0x0F30) }
      else s
    else
      let t := (s.setUnit w { x with checkBusy := false }).withFe w (fun u => u.markFault w 0x0F21)
      ((s.queuesFrom w).foldl State.stopQueue t).declare ⟨1, 0x0F21, w, 0⟩ true)

/-! ## The junction (R512, R516, R479) -/

/-- The queues that channels feed with raw IQ (R345). -/
def State.rawQueues (s : State) : List Nat :=
  ((List.range 64).map winQ).filter (fun q => s.present q && s.srcOf q 0 != 0x3FF && kindOf (s.srcOf q 0) == .chanFilter)

/-- The thermal F2: scans and scouts are released, raw IQ queues go to SAFE, every feed goes off. -/
def State.thermalF2 (s : State) : State :=
  let t := (s.declare ⟨2, 0x0F40, 0x3FF, 0⟩ true).abandonJob
  let t1 := t.releaseScans
  let t2 := (((List.range 32).map winFollow).filter (fun f => !(t1.hs f 0).isEmpty)).foldl (fun u f => u.scoutTaken f) t1
  t2.feedsDark |> fun u => u.rawQueues.foldl (fun v q => if (v.unit q).safe || (v.unit q).selfFail then v else
    (v.safeUnit q 0x0F40).setErr q 0x0F40) u

def State.stands (s : State) (code : Nat) : Bool := s.fw.standing.any (fun f => f.code == code && decide (2 ≤ f.cls))

/-- Slot 0 of the thermal block: 1 while THERMAL_WARNING waits to be armed again. -/
def axWarned : Nat := 32

/-- The warning: raised once as the junction rises above WARN_C, and armed again below WARN_C − HYST.
Mark DEDUCED: notes/assumptions/142.md. -/
def State.thermalWarn (s : State) (old new : Int) : State :=
  let warn : Int := s.fld blkTherm THERM.THERM_CFG_WARN_C
  let low := warn - s.fld blkTherm THERM.THERM_CFG_HYST
  let t := if old < 8 * low ∨ new < 8 * low then s.setAx blkTherm axWarned 0 else s
  if 8 * warn < new ∧ t.ax blkTherm axWarned = 0 then
    ((t.setAx blkTherm axWarned 1).count blkTherm THERM.WARN_COUNT).raise 7
  else t

/-- A reading of the junction in 0.125 °C.
Mark DEDUCED: notes/assumptions/143.md. -/
def State.thermalReading (s : State) (t : Int) : State :=
  let new := clampI (-32767) 32767 t
  let old := s.sfld blkTherm THERM.TJ_NOW
  let s1 := s.putI blkTherm THERM.TJ_NOW new
  let s2 := if s1.sfld blkTherm THERM.TJ_PEAK < new then s1.putI blkTherm THERM.TJ_PEAK new else s1
  let s3 := s2.thermalWarn old new
  let s4 := ((s3.putB blkTherm THERM.THERM_STATUS_WARN (decide ((8 * s3.fld blkTherm THERM.THERM_CFG_WARN_C : Nat) < new))).putB
    blkTherm THERM.THERM_STATUS_LIMIT (decide (960 < new))).putB blkTherm THERM.THERM_STATUS_CRITICAL (decide (1000 < new))
  let s5 := if 960 < new ∧ !s3.flag blkTherm THERM.THERM_STATUS_LIMIT then s4.raise 8 else s4
  let s6 := if 960 < new ∧ !s5.stands 0x0F40 then s5.thermalF2 else s5
  if 1000 < new ∧ !s6.stands 0x0F41 then s6.declareF3 0x0F41 else s6

/-- THERMAL_READING: the junction in 0.125 °C, while the main die is in service. -/
def execThermalReading (t : Int) (s : State) : Out := .next (if s.power.die = 0 then s.thermalReading t else s)

/-- The cause of every unit that a fault of this code placed in SAFE stands no longer (R58, R484). -/
def State.causeGone (s : State) (code : Nat) : State :=
  (s.units.filter (fun (p : Nat × UnitX) => p.2.safe && p.2.cause == code)).foldl
    (fun t (p : Nat × UnitX) => t.setUnit p.1 { t.unit p.1 with causeStands := false }) s

/-- THERMAL_RECOVER: the junction has stayed below 115 °C for 1 s. -/
def execThermalRecover (s : State) : Out :=
  .next (if s.stands 0x0F40 && decide (s.sfld blkTherm THERM.TJ_NOW < 920) then
    (s.endFault (fun f => f.code == 0x0F40)).causeGone 0x0F40 else s)

/-! ## The books (R486, R487) -/

/-- Do the pools balance: delay-store blocks, queue units, composite indices? -/
def State.poolsBalance (s : State) : Bool :=
  (s.tree.allocs.filter (fun a => a.pool == 1)).foldl (fun n a => n + a.bytes / 4096) 0 + s.freeDsBlocks == 2048 &&
  s.qRuns.foldl (fun a r => a + r.2) 0 + s.freeQUnits == 8192 &&
  s.tree.comps.length + 1 + s.freeComposites == 256

/-- The queues whose credits do not balance. -/
def State.badQueues (s : State) : List Nat :=
  ((List.range 64).map winQ).filter (fun q => s.present q && s.qDepth q != 0 && !(s.unit q).safe && !(s.unit q).selfFail &&
    s.qFree q + s.qFilled q + s.ax q axQHeld != s.qDepth q)

/-- BOOK_AUDIT, at a commit point or once per second. A commit exchanges what it releases and grants in one command, so no
release stands without its grant between two commands. -/
def execBookAudit (s : State) : Out :=
  .next (if !s.fw.inService || s.f3 then s
    else s.badQueues.foldl (fun t q => t.faultUnit q 0x0F30 0) (if s.poolsBalance then s else s.declareF3 0x0F31))

/-! ## The fault log (R485, R530) -/

def logBase : Nat := 0x042B0000

/-- Where the entry of a SEQ lies. -/
def logAddr (seq : Word) : Nat := logBase + 0x40 + 16 * ((seq - 1).toNat % 4092)

/-- Does the log's header pass? -/
def State.logHeaderOk (s : State) : Bool :=
  s.rdWord logBase == 0x4C465946 && s.rdWord (logBase + 4) == 0x00010000 &&
  s.rdWord (logBase + 8) == s.part.uid.extractLsb' 0 32 && s.rdWord (logBase + 12) == s.part.uid.extractLsb' 32 32 &&
  s.rdWord (logBase + 0x3C) == crc32 (s.rdBytes logBase 0x3C)

/-- One entry written under the next SEQ. -/
def State.logPut (s : State) (f : FaultX) (rtc : Word) : State :=
  let seq := s.fw.logSeq + 1
  let t := s.wrWords (logAddr seq) [w32 (f.code % 65536 + f.cls % 4 * 65536 + f.win % 1024 * 262144 + 0xA0000000), seq, rtc,
    f.detail]
  { t with fw := { t.fw with logSeq := seq, logHeld := Nat.min 4092 (t.fw.logHeld + 1) } }

/-- A log whose header fails is written anew and emptied, and says so in its first entry. -/
def State.logRenew (s : State) (rtc : Word) : State :=
  if s.logHeaderOk then s
  else
    let t := { s with mem := Store.dropRange logBase (logBase + 0x10000) s.mem }
    let t1 := t.wrWords logBase ([0x4C465946, 0x00010000, t.part.uid.extractLsb' 0 32, t.part.uid.extractLsb' 32 32] ++
      List.replicate 11 0)
    let t2 := t1.wrWord (logBase + 0x3C) (crc32 (t1.rdBytes logBase 0x3C))
    { t2 with fw := { t2.fw with logSeq := 0, logHeld := 0 } }.logPut ⟨0, 0x0F23, 0x3FF, 0⟩ rtc

/-- The period of the RTC that F0 entries are counted in. -/
def State.logPeriod (s : State) : State :=
  let p := s.power.rtc.toNat / 32768
  if p = s.fw.f0Period then s else { s with fw := { s.fw with f0Period := p, f0Count := 0 } }

/-- The count of what was dropped goes before the first F0 entry of a later period, as one of its 16. -/
def State.logDropped (s : State) (rtc : Word) : State :=
  if s.fw.f0Dropped = 0 ∨ 16 ≤ s.fw.f0Count then s
  else
    { s with fw := { s.fw with f0Dropped := 0, f0Count := s.fw.f0Count + 1 } }.logPut
      ⟨0, 0x0F22, 0x3FF, w32 (Nat.min 0xFFFFFFFF s.fw.f0Dropped)⟩ rtc

/-- An entry of the queue is written, or as an F0 beyond 16 dropped and counted. -/
def State.logEntry (s : State) (f : FaultX) (rtc : Word) : State :=
  let t := s.logRenew rtc
  if 1 ≤ f.cls then t.logPut f rtc
  else
    let u := t.logPeriod.logDropped rtc
    if 16 ≤ u.fw.f0Count then { u with fw := { u.fw with f0Dropped := u.fw.f0Dropped + 1 } }
    else { u with fw := { u.fw with f0Count := u.fw.f0Count + 1 } }.logPut f rtc

/-- FAULT_LOG_WRITE: the oldest declaration not yet in the log. -/
def execFaultLogWrite (s : State) : Out :=
  .next (match s.fw.logQueue with
    | [] => s
    | (f, rtc) :: rest =>
      if s.fw.running then { s with fw := { s.fw with logQueue := rest } }.logEntry f rtc else s)

end Sys2Proof.Machine
end

