-- ==== Sys2Proof/Machine/Cores.lean ====
section
/-! DEFINITION. The control cores and their duties, firmware images and their roll, the NV controller, the restoring and
replacing of units, and memory errors (R440–R457, R479). -/

namespace Sys2Proof.Machine

/-! ## Cores and duties (R440, R456) -/

def State.coreState (s : State) (n : Nat) : Nat := s.fld blkCore (CORE.CORE_STATE.at n)
def State.setCore (s : State) (n v : Nat) : State := s.put blkCore (CORE.CORE_STATE.at n) v
def State.coreOf (s : State) (d : Nat) : Nat := s.fld blkCore (CORE.DUTY_CORE.at d)
def State.dutiesOf (s : State) (n : Nat) : Nat := s.fld blkCore (CORE.CORE_DUTIES.at n)

/-- Where a duty is, or is on its way to. -/
def State.bound (s : State) (d : Nat) : Nat :=
  match s.fw.moves.find? (fun m => m.duty == d) with
  | some m => m.dst
  | none => s.coreOf d

/-- How many duties a core carries or is to carry. -/
def State.coreLoad (s : State) (n : Nat) : Nat := ((List.range 4).filter (fun d => s.bound d == n)).length

/-- The spare that no duty is moving to. -/
def State.spare? (s : State) : Option Nat :=
  (List.range 5).find? (fun n => s.coreState n == 3 && !s.fw.moves.any (fun m => m.dst == n))

def State.setFw (s : State) (f : Firmware → Firmware) : State := { s with fw := f s.fw }

/-- A duty pauses and moves (R442, R443). -/
def State.startMove (s : State) (d dst : Nat) (retire : Bool) : State :=
  (s.put blkCore (CORE.DUTY_MIGRATING.at d) 1).setFw
    (fun f => { f with moves := f.moves.filter (fun m => m.duty != d) ++ [⟨d, s.coreOf d, dst, retire⟩] })

/-- A duty stays where it is (R455). -/
def State.dropMove (s : State) (d : Nat) : State :=
  (s.put blkCore (CORE.DUTY_MIGRATING.at d) 0).setFw (fun f => { f with moves := f.moves.filter (fun m => m.duty != d) })

/-- The command of R454 under way ends with a reply. -/
def State.coreAnswer (s : State) (ws : List Word) : State :=
  match s.fw.job with
  | none => s
  | some j => (s.setFw (fun f => { f with job := none })).reply j.ph j.opcode j.tag ws

/-- The duty resumes on its new core; the core it left is free, retired, in fault, or still carries another. Where no spare is
left, no shadow is kept (R441).
Mark DEDUCED: notes/assumptions/147.md. -/
def State.endMove (s : State) (m : MoveX) : State :=
  let t := (s.dropMove m.duty).put blkCore (CORE.DUTY_CORE.at m.duty) m.dst
  let t1 := (t.put blkCore (CORE.CORE_DUTIES.at m.dst) (t.dutiesOf m.dst ||| 2 ^ m.duty)).setCore m.dst 2
  let left := t1.dutiesOf m.src - (t1.dutiesOf m.src &&& 2 ^ m.duty)
  let t2 := t1.put blkCore (CORE.CORE_DUTIES.at m.src) left
  let t3 := if t2.coreState m.src = 5 ∨ left ≠ 0 then t2
    else if m.retire then (t2.setCore m.src 4).freeSems m.src else t2.setCore m.src 3
  let t4 := if t3.spare?.isSome then t3 else t3.setFw (fun f => { f with shadows := [] })
  ((t4.count blkCore CORE.MIGRATION_COUNT).raise 14).notice 4 0 m.dst

/-- What the end of a move is to the command under way: a migration or retirement is answered, and a roll goes on with
the freed core, or stops where there is none (R451, R455). -/
def State.jobAfterMove (s : State) (m : MoveX) : State :=
  match s.fw.job with
  | none => s
  | some j =>
    if j.opcode = 0x73 ∧ j.slot = m.duty then s.coreAnswer [0, w32 m.dst]
    else if j.opcode = 0x71 ∧ j.slot = m.src ∧ !s.fw.moves.any (fun x => x.src == m.src) then s.coreAnswer [0]
    else if j.opcode = 0x75 ∧ j.moved = m.duty then
      if s.coreState m.src = 3 then
        ((s.setCore m.src 1).put blkCore (CORE.CORE_SLOT.at m.src) j.slot).setFw
          (fun f => { f with job := some { j with moved := j.moved + 1 } })
      else s.coreAnswer [0x0803]
    else s

/-- MIGRATION_COMPLETE. -/
def execMigrationComplete (d : Fin 4) (s : State) : Out :=
  .next (match s.fw.moves.find? (fun m => m.duty == d.val) with
    | none => s
    | some m => (s.endMove m).jobAfterMove m)

/-- The duty that a core shares with another: the last doubled where it is on such a core (R444). -/
def State.doubled? (s : State) : Option Nat :=
  let two := (List.range 4).filter (fun d => decide (2 ≤ s.coreLoad (s.bound d)) && !s.fw.moves.any (fun m => m.duty == d))
  if two.contains s.fw.second then some s.fw.second else two.getLast?

/-- CORE_START_DONE: a started core becomes the spare; it takes a doubled duty at once, or the next duty of a roll. -/
def execCoreStartDone (core : Fin 5) (s : State) : Out :=
  let n := core.val
  .next (if s.coreState n ≠ 1 then s
    else match s.fw.job with
      | some j =>
        if j.opcode = 0x75 then
          if j.moved < 4 then (s.setCore n 3).startMove j.moved n false else s
        else
          let t := if j.opcode = 0x72 ∧ j.slot = n then (s.setCore n 3).coreAnswer [0] else s.setCore n 3
          match t.doubled? with
          | some d => t.startMove d n false
          | none => t
      | none =>
        let t := s.setCore n 3
        match t.doubled? with
        | some d => t.startMove d n false
        | none => t)

/-- SHADOW_COPY: each duty's soft state goes to the spare, where there is one (R441). What a shadow holds is private to
firmware: the model keeps when it was copied.
Mark DESIGN CHOICE: notes/assumptions/149.md. -/
def execShadowCopy (s : State) : Out :=
  .next (if s.fw.running && s.spare?.isSome then
      s.setFw (fun f => { f with shadows := [0, 1, 2, 3].map (fun d => (d, s.clock.uptime + 1)) })
    else s.setFw (fun f => { f with shadows := [] }))

/-! ## Core faults (R443, R444, R446, R455) -/

/-- The duties of a faulted core restart on the spare from their shadows, or without a spare on the lowest on-duty core,
from the unit registers alone; three on one core is F3. -/
def State.placeDuties (s : State) (n : Nat) : State :=
  let ds := (List.range 4).filter (fun d => s.coreOf d == n && !s.fw.moves.any (fun m => m.duty == d))
  let dst := match s.spare? with
    | some k => some k
    | none => (List.range 5).find? (fun k => s.coreState k == 2)
  match dst with
  | none => if ds.isEmpty then s else s.declareF3 0x0F50
  | some k => ds.foldl (fun t d =>
      let u := if 1 ≤ t.coreLoad k then t.setFw (fun f => { f with second := d }) else t
      let v := u.startMove d k false
      if 3 ≤ v.coreLoad k then v.declareF3 0x0F50 else v) s

/-- The commands in service on DUTY_0 when its core faults are answered 0x0F02; with neither spare nor shadow, what the
loader had not committed is dropped. -/
def State.lostCommands (s : State) : State :=
  let t := s.coreAnswer [0x0F02]
  match t.tree.job with
  | none => t
  | some j =>
    let u := if j.ph < 8 then { t with tree := { t.tree with job := some { j with ph := 8 } } }.reply j.ph j.opcode j.tag
      [0x0F02, 0xFFFF] else t
    if s.spare?.isSome ∧ s.fw.shadows ≠ [] then u else u.abandonJob

/-- A move onto a core that faults is abandoned, and the command that asked for it answered 0x0803. -/
def State.lostTarget (s : State) (n : Nat) : State :=
  let ms := s.fw.moves.filter (fun m => m.dst == n)
  let t := ms.foldl (fun u m => u.dropMove m.duty) s
  match t.fw.job with
  | none => t
  | some j =>
    if ms.any (fun m => (j.opcode == 0x73 && j.slot == m.duty) || (j.opcode == 0x71 && j.slot == m.src) ||
        (j.opcode == 0x75 && j.moved == m.duty)) ||
      (s.coreState n == 1 && (j.opcode == 0x75 || (j.opcode == 0x72 && j.slot == n))) then t.coreAnswer [0x0803] else t

/-- A core fault.
Mark DEDUCED: notes/assumptions/148.md. -/
def State.coreFault (s : State) (n : Nat) : State :=
  let lost := (s.fw.moves.filter (fun m => m.dst == n && s.coreState m.src == 5)).map MoveX.src
  let t := ((s.lostTarget n).setCore n 5).declareF0 0x0F14 0x3FF
  let t1 := if t.coreOf 0 = n then t.lostCommands else t
  (n :: lost).foldl (fun u k => u.placeDuties k) t1

/-- WATCHDOG_EXPIRED: only an on-duty core has a running watchdog. SYS_RESET_CAUSE records it (R36). -/
def execWatchdogExpired (core : Fin 5) (s : State) : Out :=
  .next (if s.fw.running && s.coreState core == 2 then
    (((s.count blkCore CORE.WATCHDOG_COUNT).raise 13).put blkSys SYS.SYS_RESET_CAUSE_WATCHDOG 1).coreFault core else s)

/-! ## Firmware images (R447, R448) -/

/-- The first check that a firmware slot fails, or 0. -/
def State.fwCheck (s : State) (slot : Nat) : Nat :=
  let a := fwSlotBase slot
  let w := fun (k : Nat) => (s.rdWord (a + k)).toNat
  let part := if s.part.reduced then 1 else 0
  let len := w 0x10
  let sig := w 0x18
  if w 0 ≠ 0x57465946 ∨ w 4 / 65536 ≠ 1 then 0x0801
  else if w 0x0C / 2 ^ (16 + part) % 2 = 0 ∨ 0xB1 < w 0x0C % 256 then 0x0808
  else if len < 4096 ∨ 1048576 < len ∨ 2 ^ 18 ≤ w 0x0C ∨ (List.range 8).any (fun i => w (0x20 + 4 * i) != 0) then 0x0801
  else if s.rdWord (a + 0x14) ≠ crc32 (s.rdBytes (a + 0x40) ((if sig = 0 then len else Nat.min sig len) - 0x40)) then 0x0805
  else if !s.part.sigRequired then 0
  else if sig + 64 ≠ len then 0x0806
  else if imageVerifies Config.romKey (s.rdBytes a len) then 0 else 0x0807

def State.fwVersion (s : State) (slot : Nat) : Word := s.rdWord (fwSlotBase slot + 8)

/-- ABI of the image in a slot. -/
def State.fwAbi (s : State) (slot : Nat) : Nat := (s.rdWord (fwSlotBase slot + 0x0C)).toNat / 256 % 256

/-! ## Commands (R454) -/

/-- A command of R454: refused while the loader or another of them is in progress.
Mark DEDUCED: notes/assumptions/146.md. -/
def State.coreServe (s : State) (ph : Fin 8) (op : Nat) (tag : BitVec 8) (body : State → State) : State :=
  s.serve ph op tag.toNat (fun t =>
    if t.tree.job.isSome || t.fw.job.isSome then t.reply ph op tag.toNat [0x080A] else body t)

/-- The command goes on until its reply. -/
def State.coreBegin (s : State) (ph : Fin 8) (op : Nat) (tag : BitVec 8) (slot : Nat) : State :=
  s.setFw (fun f => { f with job := some ⟨op, ph, tag.toNat, slot, 0⟩ })

/-- CORE_STATUS. -/
def execCoreStatus (ph : Fin 8) (tag : BitVec 8) (_args : List Word) (s : State) : Out :=
  .next (s.coreServe ph 0x70 tag (fun t => t.reply ph 0x70 tag.toNat
    (0 :: (List.range 5).map (fun n => t.rd blkCore (0x040 + 4 * n)))))

/-- CORE_RETIRE. -/
def execCoreRetire (ph : Fin 8) (tag : BitVec 8) (args : List Word) (s : State) : Out :=
  .next (s.coreServe ph 0x71 tag (fun t =>
    let n := arg args 0
    let no := fun (c : Word) => t.reply ph 0x71 tag.toNat [c]
    if 4 < n then no 0x0202
    else if t.coreState n ≠ 2 then no 0x080A
    else match t.spare? with
      | none => no 0x0803
      | some k => ((List.range 4).filter (fun d => t.bound d == n)).foldl (fun u d => u.startMove d k true)
          (t.coreBegin ph 0x71 tag n)))

/-- CORE_RESTORE.
Mark DEDUCED: notes/assumptions/145.md. -/
def execCoreRestore (ph : Fin 8) (tag : BitVec 8) (args : List Word) (s : State) : Out :=
  .next (s.coreServe ph 0x72 tag (fun t =>
    let n := arg args 0
    if 4 < n then t.reply ph 0x72 tag.toNat [0x0202]
    else if t.coreState n ≠ 4 ∧ t.coreState n ≠ 5 then t.reply ph 0x72 tag.toNat [0x080A]
    else ((t.setCore n 1).put blkCore (CORE.CORE_SLOT.at n) t.fw.runningSlot).coreBegin ph 0x72 tag n))

/-- CORE_MIGRATE. -/
def execCoreMigrate (ph : Fin 8) (tag : BitVec 8) (args : List Word) (s : State) : Out :=
  .next (s.coreServe ph 0x73 tag (fun t =>
    let d := arg args 0
    if 3 < d then t.reply ph 0x73 tag.toNat [0x0202]
    else match t.spare? with
      | none => t.reply ph 0x73 tag.toNat [0x0803]
      | some k => (t.startMove d k false).coreBegin ph 0x73 tag d))

/-- FW_VERIFY. -/
def execFwVerify (ph : Fin 8) (tag : BitVec 8) (args : List Word) (s : State) : Out :=
  .next (s.coreServe ph 0x74 tag (fun t =>
    let k := arg args 0
    t.reply ph 0x74 tag.toNat (if 1 < k then [0x0202]
      else if t.fwCheck k ≠ 0 then [w32 (t.fwCheck k)] else [0, t.fwVersion k])))

/-- FW_ACTIVATE: the spare starts from the slot, and the roll begins. -/
def execFwActivate (ph : Fin 8) (tag : BitVec 8) (args : List Word) (s : State) : Out :=
  .next (s.coreServe ph 0x75 tag (fun t =>
    let k := arg args 0
    let no := fun (c : Word) => t.reply ph 0x75 tag.toNat [c]
    if 1 < k then no 0x0202
    else if t.fwCheck k ≠ 0 then no (w32 (t.fwCheck k))
    else if t.fwAbi k ≠ t.fwAbi t.fw.runningSlot then no 0x0804
    else match t.spare? with
      | none => no 0x0803
      | some n => ((t.setCore n 1).put blkCore (CORE.CORE_SLOT.at n) k).coreBegin ph 0x75 tag k))

/-- FW_ROLL_DONE: the last freed core is the spare on the new slot. -/
def execFwRollDone (s : State) : Out :=
  .next (match s.fw.job with
    | none => s
    | some j =>
      if j.opcode = 0x75 ∧ j.moved = 4 then
        let t := (((List.range 5).filter (fun n => s.coreState n == 1)).foldl (fun u n => u.setCore n 3) s).put blkNv
          NV.BOOT_FW j.slot
        ((t.setFw (fun f => { f with runningSlot := j.slot })).raise 15).coreAnswer [0, t.fwVersion j.slot]
      else s)

/-- UPD_SET_BOOT (R450, R495). -/
def execUpdSetBoot (ph : Fin 8) (tag : BitVec 8) (args : List Word) (s : State) : Out :=
  .next (s.coreServe ph 0x76 tag (fun t =>
    let kind := arg args 0
    let k := arg args 1
    let say := fun (u : State) (c : Nat) => u.reply ph 0x76 tag.toNat [w32 c]
    if kind = 0 ∧ k < 2 then
      if t.fwCheck k ≠ 0 then say t (t.fwCheck k) else say (t.put blkNv NV.BOOT_FW k) 0
    else if kind = 1 ∧ k < 2 then
      match t.mfCheck (mfSlotBase k) (4 * (t.rdWord (mfSlotBase k + 0x14)).toNat) with
      | some f => say t f.code
      | none => say ((t.put blkNv NV.BOOT_MF k).put blkNv NV.BOOT_MF_EN 1) 0
    else if kind = 1 ∧ k = 0xFF then say (t.put blkNv NV.BOOT_MF_EN 0) 0
    else say t 0x0202))

/-! ## Restoring and replacing (R452, R453) -/

/-- A section written into the store as R136 gives it, its VALID_MASK bit clear meanwhile.
Mark DEDUCED: notes/assumptions/28.md. -/
def State.putSection (s : State) (fe : Nat) (sect : List Byte) : State :=
  let a := (calSection fe).1
  let old := if s.calHeaderOk then s.rdWord (calBase + 0x10) else 0
  let bit : Word := 1#32 <<< fe
  let t := (s.calHeader (old &&& ~~~bit)).wrBytes a sect
  let t1 := ((t.wrByte (calBase + 0x18 + 2 * fe) (s.freshWord.extractLsb' 0 8)).wrByte (calBase + 0x19 + 2 * fe)
    (s.freshWord.extractLsb' 8 8)).useFresh
  t1.calHeader (old ||| bit)

/-- CAL_RESTORE.
Mark DEDUCED: notes/assumptions/152.md. -/
def execCalRestore (ph : Fin 8) (tag : BitVec 8) (args : List Word) (s : State) : Out :=
  .next (s.coreServe ph 0x77 tag (fun t =>
    let fe := arg args 0
    let a := arg args 1
    let n := (calSection fe).2
    let sect := t.rdBytes a n
    let say := fun (u : State) (c : Word) => u.reply ph 0x77 tag.toNat [c]
    if 4 < fe ∨ (t.fused (feWin fe)) ∨ a < 0x046C0000 ∨ 0x04800000 < a + n then say t 0x0202
    else if t.rdWord a ≠ crc32 (sect.drop 4) ∨ Config.sectionUid sect ≠ t.part.uid then say t 0x0805
    else say (t.putSection fe sect) 0))

/-- The windows behind a logical number of a kind: a front end with its twins, a channel, a port. -/
def replaceWins (kind n : Nat) : List Nat :=
  if kind = 1 then (if n < 4 then [winFE n, winLO (2 * n), winLO (2 * n + 1)] else [])
  else if kind = 2 then (if n < 64 then [winDDC n, winCF n] else [])
  else if n < 32 then [winPort n] else []

/-- The first map register of a kind. -/
def mapOff (kind : Nat) : Nat := if kind = 1 then 0x080 else if kind = 2 then 0x100 else 0x140

/-- May the units behind a logical number be exchanged? -/
def State.replaceable (s : State) (kind n : Nat) : Bool :=
  !(replaceWins kind n).isEmpty && (replaceWins kind n).all (fun w =>
    s.present w && s.atomState w == stOFF && s.parentOf w == 0x3FF && (s.unit w).lent == 0)

def State.mapByte (s : State) (off i : Nat) : Nat := (s.rd blkCore (off + 4 * (i / 4))).toNat / 2 ^ (8 * (i % 4)) % 256

def State.setMapByte (s : State) (off i v : Nat) : State :=
  let w := (s.rd blkCore (off + 4 * (i / 4))).toNat
  s.wr blkCore (off + 4 * (i / 4)) (w32 (w - s.mapByte off i * 2 ^ (8 * (i % 4)) + v % 256 * 2 ^ (8 * (i % 4))))

/-- UNIT_REPLACE. -/
def execUnitReplace (ph : Fin 8) (tag : BitVec 8) (args : List Word) (s : State) : Out :=
  .next (s.coreServe ph 0x78 tag (fun t =>
    let kind := arg args 0
    let i := arg args 1
    let j := arg args 2
    let say := fun (u : State) (c : Word) => u.reply ph 0x78 tag.toNat [c]
    if kind = 0 ∨ 3 < kind then say t 0x0202
    else if !(t.replaceable kind i && t.replaceable kind j) then say t 0x080B
    else
      let x := t.mapByte (mapOff kind) i
      let y := t.mapByte (mapOff kind) j
      say ((t.setMapByte (mapOff kind) i y).setMapByte (mapOff kind) j x) 0))

/-! ## The NV controller (R449, R457) -/

def overlaps (a n lo hi : Nat) : Bool := decide (a < hi) && decide (lo < a + n)

/-- Does a core run from a firmware slot? -/
def State.slotRuns (s : State) (slot : Nat) : Bool :=
  s.fw.running && (List.range 5).any (fun n =>
    s.fld blkCore (CORE.CORE_SLOT.at n) == slot && decide (1 ≤ s.coreState n ∧ s.coreState n ≤ 3))

/-- Does the write fall in an area closed to it? -/
def State.nvClosed (s : State) (m a n : Nat) : Bool :=
  (decide (5 ≤ m) && overlaps a n 0x04280000 0x046C0000) ||
  [0, 1].any (fun k => s.slotRuns k && overlaps a n (fwSlotBase k) (fwSlotBase k + 0x100000)) ||
  [0, 1].any (fun k => s.tree.manifestSlot == k && overlaps a n (mfSlotBase k) (mfSlotBase k + 0x40000))

/-- The codes that a GO meets. -/
def State.nvCodes (s : State) (m : Nat) (v : Word) : List Nat :=
  if !v.getLsbD 0 then []
  else
    let a := (s.rd blkNv NV.NV_DST.off).toNat
    let n := s.fld blkNv NV.NV_LEN
    (if s.flag blkNv NV.NV_STATUS_BUSY then [0x0203] else []) ++ (if 0x04800000 < a + n then [0x0202] else []) ++
    (if s.nvClosed m a n then [0x0802] else [])

def State.setNv (s : State) (f : NvX → NvX) : State := { s with nv := f s.nv }

/-- NV_CTL takes effect: ABORT of a write that runs, or GO, with the controller's own copy of NV_DATA. -/
def State.nvCtl (s : State) (v : Word) : State :=
  let t := if v.getLsbD 1 && s.flag blkNv NV.NV_STATUS_BUSY then s.setNv (fun x => { x with abort := true }) else s
  if v.getLsbD 0 then
    let n := t.fld blkNv NV.NV_LEN
    let buf := (List.range (n / 4)).flatMap (fun i => bytesOf (t.rd blkNv (0x800 + 4 * i)))
    (t.setNv (fun _ => ⟨buf, (t.rd blkNv NV.NV_DST.off).toNat, false⟩)).wr blkNv NV.NV_STATUS_BUSY.off 1
  else t

/-- The write ends: DONE, with or without ABORTED, and a code. -/
def State.nvEnd (s : State) (aborted : Bool) (code : Nat) : State :=
  (s.setNv (fun _ => ⟨[], 0, false⟩)).wr blkNv NV.NV_STATUS_BUSY.off (w32 (2 + 4 * aborted.toNat + 65536 * code))

/-- A write to NV_CTL. -/
def State.writeNvCtl (s : State) (m : Nat) (v : Word) : State :=
  s.guarded m blkNv 0x008 v (s.nvCodes m v) (fun t => t.nvCtl v)

/-- NV_GO. -/
def execNvGo (m : Master) (s : State) : Out := .next (s.writeNvCtl m 1)

/-- NV_ABORT. -/
def execNvAbort (m : Master) (s : State) : Out := .next (s.writeNvCtl m 2)

/-- NV_PAGE_WRITTEN: the next page of 256 bytes is written and compared. The bytes of a page that fails are free.
Mark DEDUCED: notes/assumptions/150.md. -/
def execNvPageWritten (ok : Bool) (s : State) : Out :=
  .next (if !s.flag blkNv NV.NV_STATUS_BUSY then s
    else if ok then
      let t := (s.wrBytes s.nv.dst (s.nv.buf.take 256)).setNv (fun x => { x with buf := x.buf.drop 256, dst := x.dst + 256 })
      if t.nv.buf.isEmpty then ((t.nvEnd false 0).count blkNv NV.NV_WRITE_COUNT).raise 9
      else if t.nv.abort then (t.nvEnd true 0x0811).raise 9 else t
    else
      let t := (List.range 64).foldl (fun u i => (u.wrWord (s.nv.dst + 4 * i) u.freshWord).useFresh) s
      ((t.nvEnd false 0x0810).count blkNv NV.NV_ERR_COUNT).raise 10)

/-! ## Memory errors (R479) -/

/-- MEMORY_ECC_ERROR: a corrected error is an event only; an uncorrectable one takes the class of its memory. -/
def execMemoryEccError (a : EccArg) (s : State) : Out :=
  let u := s.raise 12
  .next (if s.power.die ≠ 0 then s else match a with
    | .corrected => s.raise 11
    | .bank w bank word =>
      if s.present w && (kindOf w == .chanFilter || kindOf w == .audioFilter) then
        u.faultUnit w 0x0F11 (w32 (word.toNat + 65536 * bank.toNat)) else s
    | .working n => if s.present (winOFDM n) then (u.faultUnit (winOFDM n) 0x0F11 u.freshWord).useFresh else s
    | .delay n =>
      if s.tree.allocs.any (fun x => x.pool == 1 && x.win == winLane n) then
        (u.faultUnit (winLane n) 0x0F11 u.freshWord).useFresh else s
    | .queueRam n => if s.qDepth (winQ n) ≠ 0 then u.faultUnit (winQ n) 0x0F12 0 else s
    | .guestbook i => if s.gbOccupied i then (u.gbFree i).declareF0 0x0F13 0x3FF else s
    | .signboard => (u.declareF0 0x0F16 0x3FF).signStart
    | .core n => if 1 ≤ s.coreState n ∧ s.coreState n ≤ 3 then u.coreFault n else s
    | .slot => if s.fw.running then u.declareF3 0x0F15 else s)

end Sys2Proof.Machine
end

