-- ==== Sys2Proof/Machine/Supply.lean ====
section
/-! DEFINITION. The supply (R418–R439): the rails, the Saddlebag and its saves, retention and the warm resume, standby and
wake, and the resets of the main die and of the Keeper. -/

namespace Sys2Proof.Machine

/-! ## Resets (R10, R427, R436, R439) -/

def State.setPower (s : State) (f : Power → Power) : State := { s with power := f s.power }

/-- The registers that the Keeper holds: its window and SYS_RESET_CAUSE (R36, R439); and BOOT, which stands in MRAM (R457). -/
def keptByKeeper (k : Nat) : Bool := k / 1024 == blkKpr || k == rkey blkSys 0x014

def keptBoot (k : Nat) : Bool := k == rkey blkNv 0x010

/-- The main die reset: what the Keeper and MRAM hold stays, with the frames already sent and the commands that wait; a lead
lets its line go (R469).
Mark DEDUCED: notes/assumptions/160.md. -/
def State.dieReset (s : State) (die : Nat) : State :=
  { State.reset with
    pending := s.pending
    part := s.part
    regs := s.regs.filter (fun (p : Nat × Word) => keptByKeeper p.1 || keptBoot p.1)
    mem := s.mem.filter (fun (c : Nat × Byte) => 0x04000000 ≤ c.1)
    aux := s.aux.filter (fun (p : Nat × Nat) => p.1 / 64 == blkKpr)
    power := { s.power with die := die, saving := 0, savedFeeds := [], failSafe := false, dataLow := false,
                            resetAfter := false, woken := false, nvCut := false }
    ferry := { Ferry.init with sent := s.ferry.sent, lineLow := s.ferry.lineLow }
    fresh := s.fresh }

/-- A reset of the main die for a cause, as LAST codes it: a cold boot follows. -/
def State.resetFor (s : State) (cause : Nat) : State :=
  (s.dieReset 1).setPower (fun p => { p with start := cause })

/-! ## The Saddlebag (R428, R429) -/

/-- First byte of copy A (0) or B (1). -/
def bagBase (c : Nat) : Nat := 0x04280000 + 0x10000 * c

def State.bag (s : State) (c : Nat) : Option BagX := if c = 0 then s.power.bagA else s.power.bagB

def State.setBag (s : State) (c : Nat) (b : Option BagX) : State :=
  s.setPower (fun p => if c = 0 then { p with bagA := b } else { p with bagB := b })

/-- Does the header of a copy pass? -/
def State.bagOk (s : State) (c : Nat) : Bool :=
  let a := bagBase c
  let len := (s.rdWord (a + 0x10)).toNat
  (s.bag c).isSome && s.rdWord a == 0x56535946 && s.rdWord (a + 4) == 0x00010000 &&
  s.rdWord (a + 0x30) == s.part.uid.extractLsb' 0 32 && s.rdWord (a + 0x34) == s.part.uid.extractLsb' 32 32 &&
  s.rdWord (a + 0x3C) == crc32 (s.rdBytes a 0x3C) && decide (len ≤ 65472) &&
  s.rdWord (a + 0x38) == crc32 (s.rdBytes (a + 0x40) len)

/-- The newest copy whose header passes, by modular difference of SEQ (R426). -/
def State.newestBag (s : State) : Option Nat :=
  match s.bagOk 0, s.bagOk 1 with
  | false, false => none
  | true, false => some 0
  | false, true => some 1
  | true, true =>
    if 0 < diff32 (((s.bag 1).map BagX.seq).getD 0) (((s.bag 0).map BagX.seq).getD 0) then some 1 else some 0

/-- The copy that a save writes: the one that does not hold the newest valid record.
Mark DEDUCED: notes/assumptions/155.md. -/
def State.nextCopy (s : State) : Nat := if s.newestBag = some 0 then 1 else 0

/-- The read-write fields of a register, with its other fields at reset. -/
def RegD.saved (r : RegD) (rst v : Nat) : Nat :=
  r.flds.foldl (fun a f => a + (match f.acc with
    | .rw => f.of v
    | .ctr _ => f.of v
    | .peak => f.of v
    | _ => f.of rst) * 2 ^ f.lsb) 0

/-- The units whose registers a save holds: every bound unit, the twins of a bound front end, the feeds that were on, and
the composites. -/
def State.bagWins (s : State) : List Nat :=
  let bound := s.tree.parents.map Prod.fst
  0 :: (bound ++ (bound.filter (fun w => kindOf w == .frontEnd)).flatMap (fun w => [pairWin w, pairWin w + 1]) ++
    s.power.savedFeeds ++ s.tree.comps.map CompX.win)

/-- Registers of the blocks that a save holds: REF_CFG, ROOT_CTL and the clock outputs; masks, routes and IRQ_CFG; the
bell masks; HSPI_CFG and TWT_CFG; the duties, the cores and the unit maps (R453, R455); the pair's settings (R476); and
GPIO_CFG (R513). -/
def bagBlock (b off : Nat) : Bool :=
  if b = blkClk then off == 0 || off == 4 || decide (0x100 ≤ off)
  else if b = blkEvents then decide (0x010 ≤ off ∧ off < 0x020) || off == 0x040 || decide (0x200 ≤ off)
  else if b = blkPigeon then off == 0x108 || off == 0x118
  else if b = blkHost then off == 0 || off == 0x040
  else if b = blkCore then decide (off < 0x054) || decide (0x080 ≤ off)
  else if b = blkFerry then off == 0 || off == FERRY.MIRROR_CFG_CLASSES.off || off == FERRY.PORT_PAIRED.off
  else if b = blkTherm then decide (0x100 ≤ off ∧ off < 0x140)
  else false

/-- Registers held whole: a queue's indices, a port's frame count and stamps, the tables of duties and cores. -/
def bagWhole (b off : Nat) : Bool :=
  (kindOf b == .queue && decide (b < 0x400 ∧ 0x040 ≤ off)) ||
  (kindOf b == .audioPort && (off == PORT.FRAME_COUNT.off || off == PORT.FIRST_EPOCH_LO.off || off == PORT.FIRST_EPOCH_HI.off)) ||
  b == blkCore

/-- What a save holds of a register. -/
def State.bagReg (s : State) (ws : List Nat) (p : Nat × Word) : Option (Nat × Word) :=
  let b := p.1 / 1024
  let off := 4 * (p.1 % 1024)
  if (ws.contains b && b < 0x400 && (off == 4 || decide (0x040 ≤ off))) || bagBlock b off then
    let v := if bagWhole b off then p.2
      else match regAt b off with
        | some r =>
          let u := w32 (r.saved (rdef p.1).toNat p.2.toNat)
          if kindOf b == .audioPort && off == PORT.PORT_STATUS_STARTED.off then
            PORT.PORT_STATUS_STARTED.put u (s.fld b PORT.PORT_STATUS_STARTED) else u
        | none => rdef p.1
    if v = rdef p.1 then none else some (p.1, v)
  else none

/-- The centre in force of a front end: a tune that has not handed over is dropped with a save (R137).
Mark DEDUCED: notes/assumptions/230.md. -/
def State.feInForce (s : State) (f : Nat) : State :=
  if s.ax f axFeCentre = 0 ∨ s.slaved f then s else s.put f FE.CENTRE_KHZ (s.ax f axFeCentre)

/-- Staged values that wait for APPLY are not restored (R426): the ones in force are. -/
def State.unstage (s0 : State) : State :=
  let s := ([0x010, 0x011, 0x012, 0x013].filter s0.fePowered).foldl State.feInForce s0
  (s.units.filter (fun (p : Nat × UnitX) => p.2.applyPending)).foldl (fun t (p : Nat × UnitX) =>
    let w := p.1
    let u := t.setUnit w { t.unit w with applyPending := false, applyBusy := false }
    match kindOf w with
    | .frontEnd => u.feInForce w
    | .ddc => u.wr w DDC.NCO_FREQ.off (u.rd w DDC.NCO_ACTIVE.off)
    | .ofdm => (u.selsUsed w).foldl (fun v i => v.put w (OFDM.SEL_ID.at i) (u.selId w i)) u
    | _ => u) s

/-- A unit's place in SAFE or FAULT, which stands through a resume. -/
def markOf (x : UnitX) : UnitX :=
  { UnitX.init with selfFail := x.selfFail, safe := x.safe, cause := x.cause, causeStands := x.causeStands }

def queueOrPort (w : Nat) : Bool := kindOf w == .queue || kindOf w == .audioPort

/-- The record that a save writes. -/
def State.makeBag (s0 : State) (cause : Nat) : BagX :=
  let s := s0.unstage
  let ws := s.bagWins
  let seq : Word := match s.newestBag with
    | some c => ((s.bag c).map BagX.seq).getD 0 + 1
    | none => 1
  ⟨seq, cause, s.clock.epoch, s.power.rtc, (s.clkRead 0x00C).toNat, s.trusted,
   s.fw.standing.any (fun f => f.code == 0x0F60), s.tree.manifestId, s.fwVersion s.fw.runningSlot,
   s.regs.filterMap (s.bagReg ws),
   s.aux.filter (fun (p : Nat × Nat) => queueOrPort (p.1 / 64) && decide (32 ≤ p.1 % 64)),
   s.bytes.filter (fun (p : Nat × List Nat) => decide (p.1 < 4096) && kindOf (p.1 / 4) == .queue),
   (s.units.filter (fun (p : Nat × UnitX) => p.2.safe || p.2.selfFail)).map (fun (p : Nat × UnitX) => (p.1, markOf p.2)),
   { s.tree with job := none }, s.guest.dirty, s.fw.standing, s.power.savedFeeds⟩

/-- The body of a copy: its length and bytes are firmware's own, and free. -/
def State.bagBody (s : State) (a n : Nat) : State :=
  (List.range n).foldl (fun t i => (t.wrWord (a + 4 * i) t.freshWord).useFresh) s

/-- A save writes its record, the body first and the header last.
Mark DEDUCED: notes/assumptions/154.md. -/
def State.writeBag (s : State) (cause : Nat) : State :=
  let c := s.nextCopy
  let a := bagBase c
  let b := s.makeBag cause
  let n := s.freshWord.toNat % 16369
  let t := s.useFresh.bagBody (a + 0x40) n
  let flags := b.trusted.toNat + 2 * b.timing.toNat + 4 * s.fw.amended.toNat
  let t1 := t.wrWords a [0x56535946, 0x00010000, b.seq, w32 cause, w32 (4 * n), b.epoch.extractLsb' 0 32,
    b.epoch.extractLsb' 32 32, b.rtc.extractLsb' 0 32, (b.rtc.extractLsb' 32 16).setWidth 32, w32 b.holdMs, w32 flags,
    b.manifestId, t.part.uid.extractLsb' 0 32, t.part.uid.extractLsb' 32 32, crc32 (t.rdBytes (a + 0x40) (4 * n))]
  ((t1.wrWord (a + 0x3C) (crc32 (t1.rdBytes a 0x3C))).setBag c (some b)).setFw (fun f => { f with amended := false })

/-- A save cut short leaves its copy without a valid header (R424). -/
def State.spoilBag (s : State) : State :=
  let c := s.nextCopy
  ((List.range 16).foldl (fun t i => (t.wrWord (bagBase c + 4 * i) t.freshWord).useFresh) s).setBag c none

/-! ## Going down (R423, R434) -/

/-- VIN_STATE of KPR_STATUS. -/
def State.vinState (s : State) (v : Nat) : State := s.put blkKpr KPR.KPR_STATUS_VIN_STATE v

/-- What the loader does ends without a reply: an amendment before its commit point and a full load are dropped, and one
past it is complete (R83).
Mark DEDUCED: notes/assumptions/156.md. -/
def State.dropLoad (s : State) : State :=
  match s.tree.job with
  | none => s
  | some j =>
    let t := { s with tree := { s.tree with job := some { j with ph := 8 } } }
    if j.target = 0 then
      ((t.unitsUp 0).foldl (fun (u : State) w => u.dropHold holdAmend w)
        { t with tree := { t.tree with job := none } }).setMfState 0
    else if j.committed then
      (((t.unitsBelow j.target).foldl (fun u w => u.setUnit w { u.unit w with amendBusy := false }) t).endJob
        { j with ph := 8 }).fireAtEnd
    else t.abandonJob

/-- The enabled atomic units. -/
def State.enabledWins (s : State) : List Nat :=
  (s.regs.filter (fun (p : Nat × Word) => p.1 % 1024 == 1 && decide (p.1 / 1024 < 0x300) && p.2.getLsbD 0)).map
    (fun p => p.1 / 1024)

/-- Steps 1 and 2 of a save, which a standby entry shares: the feeds go off, a lead releases its line, the loader, scans,
scouts, tunes, calibrations, migrations and an MRAM write stop, and every unit is held. No command in service is answered. -/
def State.quiesce (s : State) : State :=
  let lit := allFeeds.filter s.feedLit
  let t := (s.setPower (fun p => { p with savedFeeds := lit })).dropLoad.leadRelease
  let t1 := lit.foldl (fun u w => u.feedOff w 0) t
  let t2 := ((List.range 32).map winFollow).foldl (fun u f => u.dropScouts f) t1.releaseScans
  let t3 := ([0x010, 0x011, 0x012, 0x013, 0x014].filter t2.fePowered).foldl (fun u f => u.feRunStop f) t2
  let t4 := ([0, 1, 2, 3].foldl (fun u d => u.dropMove d) t3).setFw
    (fun f => { f with job := none, inService := false, outbox := [] })
  let t5 := if t4.flag blkNv NV.NV_STATUS_BUSY then (t4.nvEnd true 0x0811).setPower (fun p => { p with nvCut := true }) else t4
  t5.enabledWins.foldl (fun u w => u.addHold holdSave w) t5.twcHalt

/-- VIN_WARNING. Before firmware is in service no save is made (R500); before step 4 of a resume the device returns to
retention, and during a standby entry a save replaces the rest of it (R437). -/
def execVinWarning (s : State) : Out :=
  let down := fun (t : State) => ((t.raise 0).put blkKpr KPR.KPR_STATUS_PWR_GOOD 0).vinState 1
  .next (if s.power.die = 4 then (s.setPower (fun p => { p with die := 2 })).vinState 2
    else if s.power.die ≠ 0 ∨ s.power.saving = 1 then s
    else if s.power.saving = 2 then
      let t := (down s).setPower (fun p => { p with saving := 1 })
      { t with guest := { t.guest with stopped := !t.guest.ready } }
    else if !s.fw.inService then (s.resetFor s.power.start).put blkKpr KPR.KPR_STATUS_PWR_GOOD 0
    else
      let t := (down s).quiesce
      { t with power := { t.power with saving := 1 }, guest := { t.guest with stopped := !t.guest.ready } })

/-- Retention (R425): the Guestbook, queue RAM, the coefficient banks and the cores' local memories keep their contents, and
the monitor of the reference runs on (R411). -/
def State.retain (s : State) : State :=
  let t := s.pairOff
  let u := t.dieReset 2
  { u with
    regs := t.regs.filter (fun (p : Nat × Word) => keptByKeeper p.1 || keptBoot p.1 || decide (0x800 ≤ p.1 / 1024))
    mem := t.mem.filter (fun (c : Nat × Byte) => decide (c.1 < 0x02400000) || decide (0x04000000 ≤ c.1))
    fw := { t.fw with running := false, inService := false }
    guest := t.guest
    scan := t.scan
    clock := { u.clock with uptime := t.clock.uptime }
    power := { u.power with savedFeeds := t.power.savedFeeds, nvCut := t.power.nvCut }
    signboard := t.signboard
    signboardGen := t.signboardGen }.putB blkClk CLK.ROOT_STATUS_REF_OK t.refOk

/-- SADDLEBAG_SAVE_DONE: step 4 ends after `us` microseconds, and the main die enters retention; a RESET_N that came
meanwhile ends in a cold boot (R437). -/
def execSaddlebagSaveDone (us : Nat) (s : State) : Out :=
  .next (if s.power.die = 0 ∧ s.power.saving = 1 then
    let t := (s.writeBag 1).wr blkKpr KPR.SAVE_STATUS_LAST_COPY.off (w32 (s.nextCopy + 65536 * (us % 65536)))
    let t1 := t.count blkKpr KPR.SAVE_COUNT
    if t1.power.resetAfter then (t1.resetFor t1.power.start).vinState 0 else t1.retain.vinState 2
  else s)

/-! ## Warm resume (R426, R411, R498) -/

/-- RTC ticks pass. -/
def State.rtcTicks (s : State) (n : Nat) : State := s.setPower (fun p => { p with rtc := p.rtc + BitVec.ofNat 48 n })

/-- WARM_RESUME: VIN has held above the recovery level for 1 ms, `ticks` of the RTC after the save. Without a valid copy, or
where VCORE fell below its retention level, the device cold-boots. -/
def execWarmResume (ticks : Nat) (vcore : Bool) (s : State) : Out :=
  .next (if s.power.die ≠ 2 then s
    else
      let t := s.rtcTicks ticks
      if vcore && t.newestBag.isSome then (t.setPower (fun p => { p with die := 4 })).vinState 3
      else (t.resetFor 3).vinState 0)

/-- The words of a record written back. -/
def State.putRegs (s : State) (rs : Table Word) : State :=
  rs.foldl (fun t (p : Nat × Word) => t.wr (p.1 / 1024) (4 * (p.1 % 1024)) p.2) s

/-- A front end starts from stored values, as from RUN (R114). -/
def State.feResume (s : State) (w : Nat) : State :=
  if (kindOf w == .frontEnd || kindOf w == .lowband) && s.fePowered w then
    ((if w = 0x014 then s else s.setAx w axFeCentre (s.fld w FE.CENTRE_KHZ)).feRunStart w).followFe w
  else s

/-- A unit leaves the hold of the save. -/
def State.unitResume (s : State) (w : Nat) : State := (s.dropHold holdSave w).feResume w

/-- A port of the record is driven, clocked and at its rate again. -/
def State.portResume (s : State) (w : Nat) : State :=
  if kindOf w ≠ .audioPort then s
  else
    let t := if s.flag w UCB.UNIT_CTL_ENABLE then s.putB w PORT.PORT_STATUS_DRIVING (s.wantDrive w) else s
    if s.flag w UCB.UNIT_CTL_RUN then
      (t.put w PORT.PORT_STATUS_DETECTED (t.fld (t.clkPort w) PORT.PORT_CFG_RATE)).putB w PORT.PORT_STATUS_CLK_OK
        (t.portClocking w == 0)
    else t

/-- Registers and structure as the record holds them, every enabled unit still held. -/
def State.putBagBack (s : State) (b : BagX) : State :=
  let t := { s with tree := b.tree, aux := Store.dropRange (0x220 * 64) (0x280 * 64) s.aux }
  let t1 := (b.tree.allocs.foldl State.showAlloc t).putRegs b.regs
  let t2 := b.aux.foldl (fun u (p : Nat × Nat) => u.setAx (p.1 / 64) (p.1 % 64) p.2) t1
  let t3 := b.lists.foldl (fun u (p : Nat × List Nat) => u.setBl p.1 p.2) t2
  let t4 := b.marks.foldl (fun u (p : Nat × UnitX) => u.setUnit p.1 p.2) t3
  let held := t4.enabledWins.foldl (fun u w => u.setUnit w { u.unit w with hold := holdSave }) t4
  held.enabledWins.foldl State.portResume held

/-- The root locks from the word of the record, or starts in holdover with the bound of R403 running on.
Mark DEDUCED: notes/assumptions/159.md. -/
def State.rootResume (s : State) (b : BagX) : State :=
  let gone := (s.power.rtc - b.rtc).toNat
  let t := { s with clock := { s.clock with everLocked := true, uptime := s.clock.uptime + 750 * gone } }
  if t.refOk then t.lockRoot
  else
    let u := (t.setRoot (if b.timing then rootTimingFault else rootHoldover)).putB blkClk CLK.ROOT_STATUS_TRUSTED
      (b.trusted && !b.timing)
    { u with clock := { u.clock with holdStart := u.clock.uptime, holdBase := b.holdMs + gone * 1000 / 32768 } }.rootMode

/-- HEARD_NOW cleared in every record (R249). -/
def State.unhear (s : State) : State := s.gbAll.foldl (fun u i => u.gbSet i ((u.gbRec i).setHeard false)) s

/-- The cause of a start, in SYS_RESET_CAUSE (R36). -/
def State.startCause (s : State) (last : Nat) : State :=
  let bit := if last = 0 then 0 else if last = 1 then 1 else if last = 2 then 2 else if last = 3 then 4
    else if last = 4 then 5 else 6
  (s.wr blkSys 0x014 (s.rd blkSys 0x014 ||| (1#32 <<< bit))).put blkSys SYS.SYS_RESET_CAUSE_LAST last

/-- Step 3 of a resume: the record's registers, structure and epoch, and every unit as it was at step 1 of the save.
Mark DEDUCED: notes/assumptions/158.md. -/
def State.restore (s : State) (b : BagX) : State :=
  let t := (s.putBagBack b).rootResume b
  let t1 := { t with clock := { t.clock with epoch := b.epoch + BitVec.ofNat 64 (750 * (s.power.rtc - b.rtc).toNat) } }
  let ws := t1.unitsUp 0
  let order := ws ++ t1.enabledWins.filter (fun w => !ws.contains w)
  let t2 := order.foldl State.unitResume t1
  (t2.triggered (fun u => u.fire u.epochPassed)).unhear

/-- Step 4: firmware resumes, and the harmless state of an F3 that stands applies (R488). -/
def State.resumeEnds (s : State) : State :=
  let t := ((s.setPower (fun p => { p with die := 0, saving := 0 })).setFw
    (fun f => { f with running := true, inService := true })).vinState 0
  let t1 := ((t.put blkKpr KPR.KPR_STATUS_PWR_GOOD 1).count blkKpr KPR.WARM_RESUME_COUNT).startCause 4
  let t2 := if t1.power.nvCut then
      ((t1.wr blkNv NV.NV_STATUS_BUSY.off 0x08110006).setPower (fun p => { p with nvCut := false })).raise 9 else t1
  let t3 := ((t2.raise 1).notice 2 0 0).signStart
  if t3.f3 then t3.f3Outputs else t3.outsFollow

/-- WARM_RESUME_READY, `ticks` of the RTC after the resume began. -/
def execWarmResumeReady (ticks : Nat) (s : State) : Out :=
  .next (if s.power.die ≠ 4 then s
    else
      let t := s.rtcTicks ticks
      match t.newestBag.bind t.bag with
      | none => t
      | some b => ((t.setPower (fun p => { p with die := 0 })).restore b).resumeEnds)

/-- VIN_RESET: VIN reaches the reset level (R424, R427). -/
def execVinReset (s : State) : Out :=
  .next (if s.power.die = 3 then s
    else
      let t := if s.power.die = 0 ∧ s.power.saving = 1 then
          (s.spoilBag.count blkKpr KPR.SAVE_FAIL_COUNT).put blkKpr KPR.SAVE_STATUS_LAST_FAILED 1 else s
      ((t.resetFor 3).put blkKpr KPR.KPR_STATUS_PWR_GOOD 0).vinState 0)

/-! ## Rails (R418, R479) -/

/-- RAIL_FAULT: VSYS (0), VCORE (1) or the FEED rail (2) leaves regulation.
Mark DEDUCED: notes/assumptions/166.md. -/
def execRailFault (rail : Fin 3) (s : State) : Out :=
  .next (if s.power.die ≠ 0 then s
    else if rail.val = 2 then
      if s.flag blkKpr KPR.KPR_STATUS_FEED_OK then
        let t := (((s.setAx blkKpr axRailOut 1).put blkKpr KPR.KPR_STATUS_FEED_OK 0).count blkKpr KPR.RAIL_FAULT_COUNT).raise 2
        let t1 := (t.declare ⟨2, 0x0F71, 0x3FF, 0⟩ true).abandonJob
        allFeeds.foldl (fun u w => u.safeUnit w 0x0F71) t1
      else s
    else
      let ok := if rail.val = 0 then KPR.KPR_STATUS_VSYS_OK else KPR.KPR_STATUS_VCORE_OK
      ((((s.put blkKpr ok 0).count blkKpr KPR.RAIL_FAULT_COUNT).raise 2).declareF3 0x0F70))

/-- FEED_RAIL_REGULATED: FEED_OK sets again, and the feed fault ends (R484). -/
def execFeedRailRegulated (s : State) : Out :=
  .next (if s.ax blkKpr axRailOut = 0 then s
    else
      let t := (s.setAx blkKpr axRailOut 0).put blkKpr KPR.KPR_STATUS_FEED_OK 1
      (t.endFault (fun f => f.code == 0x0F71)).causeGone 0x0F71)

/-! ## Standby and wake (R434, R435) -/

/-- SYS_STANDBY: the reply goes out, and the entry begins.
Mark DEDUCED: notes/assumptions/161.md. -/
def execSysStandby (ph : Fin 8) (tag : BitVec 8) (mask : Word) (s : State) : Out :=
  .next (s.serve ph 0x03 tag.toNat (fun t =>
    if mask.toNat % 8 = 0 then t.reply ph 0x03 tag.toNat [0x0202]
    else if t.tree.job.isSome then t.reply ph 0x03 tag.toNat [0x0203]
    else
      let u := ((t.reply ph 0x03 tag.toNat [0]).put blkKpr KPR.WAKE_CFG_MASK (mask.toNat % 8)).quiesce
      let u1 := ((List.range 32).map winPort).foldl (fun v p => if v.flag p PORT.PORT_STATUS_STARTED then
        v.put p PORT.PORT_STATUS_STARTED 0 else v) u
      (u1.setPower (fun p => { p with saving := 2 })).vinState 4))

/-- The main die is released to a cold boot by a wake. -/
def State.wakeUp (s : State) : State := s.setPower (fun p => { p with die := 1, start := 5, woken := false })

/-- STANDBY_ENTERED: the dirty Guestbook pages and a Saddlebag with CAUSE 2 are written, the rails go off, and a wake that
came meanwhile acts (R437).
Mark DEDUCED: notes/assumptions/157.md. -/
def execStandbyEntered (s : State) : Out :=
  .next (if s.power.die = 0 ∧ s.power.saving = 2 then
    let t := (s.gbSave s.gbDirtyPages).writeBag 2
    let u := (((t.dieReset 3).put blkKpr KPR.KPR_STATUS_VSYS_OK 0).put blkKpr KPR.KPR_STATUS_VCORE_OK 0).put blkKpr
      KPR.KPR_STATUS_PWR_GOOD 0
    let u1 := u.vinState 0
    if t.power.woken then u1.wakeUp else u1
  else s)

/-- A wake source, with its bit of WAKE_CAUSE: in standby it ends standby; during the entry it waits for its end. -/
def State.wake (s : State) (cause : FRef) : State :=
  if s.power.die = 3 then (s.put blkKpr cause 1).wakeUp
  else if s.power.die = 0 ∧ s.power.saving = 2 then (s.put blkKpr cause 1).setPower (fun p => { p with woken := true })
  else s

def State.wakeMasked (s : State) (bit : Nat) : Bool := (s.fld blkKpr KPR.WAKE_CFG_MASK).testBit bit

/-- WAKE_PIN. -/
def execWakePin (s : State) : Out := .next (if s.wakeMasked 0 then s.wake KPR.WAKE_CAUSE_WAKE_PIN else s)

/-- RTC_ALARM: the RTC reaches RTC_ALARM. -/
def execRtcAlarm (s : State) : Out :=
  .next (if s.wakeMasked 1 && s.flag blkKpr KPR.RTC_CTL_ALARM_EN && (s.power.die == 3 || s.power.saving == 2) then
    let at_ : BitVec 48 := (s.rd blkKpr KPR.RTC_ALARM_HI.off).extractLsb' 0 16 ++ s.rd blkKpr KPR.RTC_ALARM_LO.off
    (s.setPower (fun p => { p with rtc := at_ })).wake KPR.WAKE_CAUSE_RTC else s)

/-- TWT_WAKE_MATCH: an address byte on the two-wire target matches the strap address (R382). -/
def execTwtWakeMatch (s : State) : Out := .next (if s.wakeMasked 2 then s.wake KPR.WAKE_CAUSE_TWT else s)

/-- RESET_N: a cold boot follows its rise; during a save it waits for the end of the save, and in standby it wakes.
Mark DEDUCED: notes/assumptions/167.md. -/
def execResetN (s : State) : Out :=
  .next (if s.power.die = 3 ∨ (s.power.die = 0 ∧ s.power.saving = 2) then s.wake KPR.WAKE_CAUSE_RESET
    else if s.power.die = 0 ∧ s.power.saving = 1 then s.setPower (fun p => { p with resetAfter := true, start := 1 })
    else (s.resetFor 1).vinState 0)

/-- KEEPER_RESET: VIN falls below 4.0 V, and the Keeper itself resets. -/
def execKeeperReset (s : State) : Out :=
  let t := if s.power.die = 0 ∧ s.power.saving = 1 then s.spoilBag else s
  let u := t.resetFor 0
  .next { u with
    regs := u.regs.filter (fun (p : Nat × Word) => keptBoot p.1)
    aux := []
    power := { u.power with rtc := 0 } }

/-! ## The Keeper's window (R439) -/

/-- VIN_MEAS: what the Keeper measures is free.
Mark DESIGN CHOICE: notes/assumptions/162.md. -/
def State.vinMeas (s : State) : Nat := s.freshWord.toNat % 65536

/-- The refusal of WARN_CFG: VIN below the new recovery level (R421). -/
def State.warnCodes (s : State) (v : Word) : List Nat :=
  if s.vinMeas < 750 + 50 * KPR.WARN_CFG_WARN_CODE.of v then [0x0202] else []

/-- RTC_CTL is written: SET loads RTC_SET. -/
def State.rtcCtl (s : State) (v : Word) : State :=
  let t := s.store blkKpr 0x030 v
  if KPR.RTC_CTL_SET.of v = 1 then
    (t.setPower (fun p => { p with rtc := (t.rd blkKpr KPR.RTC_SET_HI.off).extractLsb' 0 16 ++ t.rd blkKpr KPR.RTC_SET_LO.off })).put
      blkKpr KPR.KPR_STATUS_RTC_VALID 1
  else t

/-- RTC_SET: a write of RTC_CTL. -/
def execRtcSet (m : Master) (v : Word) (s : State) : Out :=
  .next (s.guarded m blkKpr 0x030 v [] (fun t => t.rtcCtl v))

end Sys2Proof.Machine
end

