-- ==== Sys2Proof/Machine/Boot.lean ====
section
/-! DEFINITION. Start-up (R489–R497): the firmware slot chosen, the first Signboard build and what follows it, the restore
after a wake, the boot Manifest, and firmware in service. -/

namespace Sys2Proof.Machine

/-! ## The fault log at a boot (R485) -/

/-- The written entries of the log: their places. -/
def State.logEntries (s : State) : List Nat :=
  ((s.mem.filter (fun (c : Nat × Byte) => decide (logBase + 0x40 ≤ c.1 ∧ c.1 < logBase + 0x10000) && c.1 % 16 == 3 &&
    c.2.toNat / 16 == 0xA)).map (fun c => (c.1 - logBase - 0x40) / 16)).filter (fun e => e < 4092)

/-- The write position: the highest SEQ by modular difference, and how many entries are held. -/
def State.logScan (s : State) : State :=
  let es := s.logEntries
  let seqs := es.map (fun e => s.rdWord (logBase + 0x44 + 16 * e))
  s.setFw (fun f => { f with
    logHeld := es.length
    logSeq := match seqs with
      | [] => 0
      | q :: rest => rest.foldl (fun a b => if 0 < diff32 b a then b else a) q })

/-! ## COLD_BOOT (R489–R492) -/

/-- The cores start from a slot, with CC_4 as spare. -/
def State.startCores (s : State) (slot : Nat) (fallback : Bool) : State :=
  let t := (List.range 5).foldl (fun u n => u.put blkCore (CORE.CORE_SLOT.at n) slot) s
  (t.setFw (fun f => { f with
    running := true
    runningSlot := slot
    boot := { BootX.init with fallback := fallback, code := if fallback then 0x0809 else 0 } })).logScan

/-- BOOT_SLOT_CHECK (R491, R492): the slot that BOOT.FW names, then the other. -/
def State.bootSlot (s : State) : State :=
  let k := s.fld blkNv NV.BOOT_FW
  if s.fwCheck k = 0 then s.startCores k false
  else if s.fwCheck (1 - k) = 0 then s.startCores (1 - k) true
  else s.declareF3 0x0F10

/-- COLD_BOOT, `ticks` of the RTC after the reset: step 3 and step 4.
Mark DEDUCED: notes/assumptions/165.md. -/
def execColdBoot (ticks : Nat) (s : State) : Out :=
  .next (if s.power.die = 1 ∨ (s.power.die = 0 ∧ !s.fw.running ∧ !s.f3) then
    let t := (s.rtcTicks ticks).setPower (fun p => { p with die := 0 })
    let u := ((t.put blkKpr KPR.KPR_STATUS_VSYS_OK 1).put blkKpr KPR.KPR_STATUS_VCORE_OK 1).put blkKpr KPR.KPR_STATUS_PWR_GOOD 1
    ((u.vinState 0).startCause u.power.start).bootSlot
  else s)

/-- ROOT_LOCK_TIMEOUT (R493). -/
def execRootLockTimeout (s : State) : Out :=
  .next (if s.fw.running && s.power.die == 0 && !s.clock.everLocked && !s.fw.standing.any (fun f => f.code == 0x0F62) then
    s.declare ⟨0, 0x0F62, 0x3FF, 0⟩ true else s)

/-! ## Steps 7 and 8 (R494–R496) -/

def State.setBoot (s : State) (f : BootX → BootX) : State := s.setFw (fun x => { x with boot := f x.boot })

/-- The calibration sections that pass R136. -/
def State.calUsed (s : State) : Nat :=
  [0, 1, 2, 3, 4].foldl (fun a fe => if s.calUsable fe then a + 2 ^ fe else a) 0

/-- What a boot restores of a register: no index of a queue, no frame count, no duty, and not UNIT_CTL, which starts its
unit. -/
def bootReg (p : Nat × Word) : Option (Nat × Word) :=
  let b := p.1 / 1024
  let off := 4 * (p.1 % 1024)
  if b = blkCore ∨ off = 4 ∧ b < 0x400 ∨ off = 0 ∧ b = blkClk then none
  else match regAt b off with
    | some r => some (p.1, w32 (r.saved (rdef p.1).toNat p.2.toNat))
    | none => none

/-- A unit takes its recorded ENABLE and RUN from OFF; in a pair its RUN is held back (R496). -/
def State.bootUnit (s : State) (b : BagX) (w : Nat) : State :=
  let ctl := Store.get rdef b.regs (rkey w 0x004)
  let hold := s.part.pairPresent && ctl.getLsbD 1
  let t := if hold then
      { s with tree := { s.tree with triggers := s.tree.triggers.filter (fun (x : TriggerX) => x.win != w) ++ [(⟨w, 2, 4, 0, 0⟩ : TriggerX)] } }.setBoot
        (fun x => { x with withheld := true }) else s
  let v := if hold then ctl &&& ~~~(2#32) else ctl
  if s.isComposite w then t.wr w 0x004 v
  else t.withFe w (fun u => u.watch w (fun x => x.wr w 0x004 v))

/-- The items of R429 restored after a wake, with the differences of R494.
Mark DEDUCED: notes/assumptions/164.md. -/
def State.bootRestore (s : State) (b : BagX) : State :=
  let tree := { b.tree with triggers := b.tree.triggers.filter (fun x => x.cond != 1) }
  let t := b.tree.allocs.foldl State.showAlloc { s with tree := tree }
  let t1 := (b.tree.allocs.filter (fun a => a.pool == 2)).foldl (fun u a => u.initQueue a.win) (t.putRegs (b.regs.filterMap bootReg))
  let cfg := Store.get rdef b.regs (rkey blkClk 0)
  let t2 := if cfg = t1.rd blkClk 0 then t1 else t1.refCfgWritten cfg
  let t3 := { t2 with
    power := { t2.power with savedFeeds := b.feeds }
    fw := { t2.fw with standing := t2.fw.standing ++ b.standing.filter (fun (f : FaultX) => f.code == 0x0F40 || f.code == 0x0F71) } }
  let comps := 0 :: b.tree.comps.map CompX.win
  let ws := t3.unitsUp 0
  let t4 := (ws.filter (fun w => kindOf w == .ddc)).foldl (fun u w => u.wr w DDC.NCO_ACTIVE.off (u.rd w DDC.NCO_FREQ.off)) t3
  let t5 := (comps ++ ws).foldl (fun u w => u.bootUnit b w) t4
  (t5.setBoot (fun x => { x with restored := true })).outsFollow

/-- The record of a standby entry that this boot may restore. -/
def State.standbyBag (s : State) : Option BagX :=
  if s.power.start ≠ 5 then none
  else match s.newestBag.bind s.bag with
    | some b => if b.cause = 2 ∧ b.version = s.fwVersion s.fw.runningSlot then some b else none
    | none => none

/-- What the checks find in a Manifest slot. -/
def State.slotCheck (s : State) (k : Nat) : Option MFail :=
  s.mfCheck (mfSlotBase k) (4 * (s.rdWord (mfSlotBase k + 0x14)).toNat)

/-- A boot Manifest is applied as an MF_APPLY that no message asked for. -/
def State.bootLoad (s : State) (k which : Nat) : State :=
  let im := s.stagedImage (mfSlotBase k) (4 * (s.rdWord (mfSlotBase k + 0x14)).toNat)
  (s.setBoot (fun x => { x with mf := which })).startJob ⟨0x10, 8, 0, hw im 3, k, im, false, false, false, false⟩

/-- A deviation of the boot; the first one is reported (R497). -/
def State.deviates (s : State) (c : Nat) : State := s.setBoot (fun x => { x with code := if x.code = 0 then c else x.code })

/-- The boot Manifest of R495. -/
def State.bootManifest (s : State) : State :=
  let k := s.fld blkNv NV.BOOT_MF
  match s.slotCheck k with
  | none => s.bootLoad k 1
  | some f =>
    let t := s.mfReject 8 0x10 0 f
    match t.slotCheck (1 - k) with
    | none => (t.deviates 0x080D).bootLoad (1 - k) 2
    | some g => ((t.mfReject 8 0x10 0 g).deviates 0x080C).setBoot (fun x => { x with mf := 3 })

/-- What follows the first Signboard build.
Mark DEDUCED: notes/assumptions/163.md. -/
def State.bootGoesOn (s : State) : State :=
  let t := s.setBoot (fun x => { x with cal := s.calUsed })
  match t.standbyBag with
  | some b => t.bootRestore b
  | none => if t.flag blkNv NV.BOOT_MF_EN then t.bootManifest else t

/-- SIGNBOARD_REBUILT: the Signboard shows the structure as it stands, and GENERATION is even (R34). At a boot, the first
build is followed by steps 7 and 8. -/
def execSignboardRebuilt (s : State) : Out :=
  .next (if s.signboardGen.getLsbD 0 && s.fw.running && s.power.die == 0 then
    let t := ({ s with signboard := ⟨true, s.tree.parents, s.tree.comps⟩, signboardGen := s.signboardGen + 1 }).raise 18
    if !s.signboard.built && !s.fw.inService then t.bootGoesOn.signCheck else t
  else s)

/-! ## FIRMWARE_READY (R497) -/

/-- DETAIL of the boot notice. -/
def State.bootDetail (s : State) : Nat :=
  let b := s.fw.boot
  s.fw.runningSlot + 2 * b.fallback.toNat + 4 * b.mf + 16 * b.restored.toNat + 256 * b.cal + 65536 * b.withheld.toNat

/-- FIRMWARE_READY: step 9, with WAKE where the boot follows a wake (R435). -/
def execFirmwareReady (s : State) : Out :=
  .next (if s.fw.running && !s.fw.inService && s.power.die == 0 && s.power.saving == 0 && s.clock.everLocked &&
      s.signboard.built && !s.signboardGen.getLsbD 0 && s.tree.job.isNone then
    let t := (s.setFw (fun f => { f with inService := true })).raise 22
    let t1 := if t.power.start = 5 then t.raise 23 else t
    t1.notice 1 t1.fw.boot.code t1.bootDetail
  else s)

end Sys2Proof.Machine
end

