-- ==== Sys2Proof/Machine/System.lean ====
section
/-! DEFINITION. What the Signboard reads as (R30–R35, R520–R523), the semaphores (R39–R44), the soft reset (R37) and the
widths and regions of the address map (R24, R25). -/

namespace Sys2Proof.Machine

/-! ## The Signboard's tables -/

/-- Names that differ by a number: prefix and count.
Mark DESIGN CHOICE: notes/assumptions/168.md. -/
def named (p : String) (n : Nat) : List String := (List.range n).map (fun i => p ++ toString i)

/-- The bytes of a name, ended by 0x00 (R31). -/
def nameBytes (n : String) : List Nat := n.toList.map Char.toNat ++ [0]

/-- NAME_OFFSET of each name of a list that starts at an offset. -/
def nameOffs : Nat → List String → List Nat
  | _, [] => []
  | o, n :: r => o :: nameOffs (o + (nameBytes n).length) r

def nameTotal (ns : List String) : Nat := ns.foldl (fun a n => a + (nameBytes n).length) 0

/-- A memory region: base, size, type, flags and name (R520). Flags: 1 READ_ONLY, 2 NV_WRITE, 4 ECC, 8 WIDTH_8_16. -/
structure RegionD where
  base : Nat
  size : Nat
  type : Nat
  flags : Nat
  name : String
  deriving DecidableEq, Repr

def regions : List RegionD :=
  [⟨0x00000000, 0x40000, 4, 13, "SIGNBOARD"⟩, ⟨0x00100000, 0x1000, 1, 0, "SYS"⟩, ⟨0x00101000, 0x1000, 1, 0, "EVENTS"⟩,
   ⟨0x00102000, 0x1000, 1, 0, "PIGEONHOLES"⟩, ⟨0x00104000, 0x1000, 1, 0, "HOST_PORTS"⟩,
   ⟨0x00106000, 0x1000, 1, 0, "NV_CTL"⟩, ⟨0x00107000, 0x1000, 1, 0, "CORE_DUTY"⟩, ⟨0x00108000, 0x1000, 1, 0, "FERRY"⟩,
   ⟨0x00200000, 0x1000, 1, 0, "CLOCKS"⟩, ⟨0x00201000, 0x1000, 1, 0, "KEEPER"⟩, ⟨0x00202000, 0x1000, 1, 0, "THERMAL"⟩,
   ⟨0x00400000, 0x400000, 5, 0, "UNIT_WINDOWS"⟩, ⟨0x01000000, 0x200000, 2, 12, "QUEUE_RAM"⟩,
   ⟨0x02000000, 0x400000, 2, 12, "GUESTBOOK"⟩, ⟨0x03000000, 0x800000, 2, 12, "DELAY_STORE"⟩,
   ⟨0x04000000, 0x800000, 3, 15, "MRAM"⟩, ⟨0x80000000, 0x80000000, 6, 0, "PARTNER"⟩]

/-- The events' names (R363). -/
def eventNames : List String :=
  ["VIN_WARNING", "WARM_RESUME", "RAIL_FAULT", "REF_LOST", "ROOT_HOLDOVER", "ROOT_LOCKED", "TIMING_FAULT",
   "THERMAL_WARNING", "THERMAL_LIMIT", "MRAM_DONE", "MRAM_ERROR", "ECC_CORRECTED", "ECC_UNCORRECTABLE", "WATCHDOG",
   "CORE_CHANGE", "UPDATE_DONE", "MANIFEST_DONE", "MANIFEST_REJECTED", "SIGNBOARD_REBUILT", "COUNTER_SATURATED",
   "ACCESS_FAILED", "FAULT_RAISED", "FIRMWARE_READY", "WAKE", "PARTNER_UP", "HEARTBEAT_LOST", "CROSSING",
   "EPOCH_UNTRUSTED", "PARTNER_EVENT", "FERRY_ERROR", "SEM_VIOLATION", "COMPOSITE"] ++
  named "OVERLOAD_FE_" 4 ++ ["OVERLOAD_FE_L"] ++ named "LO_FE_" 4 ++ named "CAL_FE_" 4 ++ ["CAL_FE_L"] ++
  named "TEMP_RECAL_FE_" 4 ++ named "FEED_FAULT_" 8 ++ ["RF_UNIT"] ++ List.replicate 5 "RESERVED" ++
  named "CH_GROUP_" 8 ++ named "OFDM_" 16 ++
  ["SERVICE_SWITCH", "ANNOUNCEMENT", "ALARM", "GB_CHANGED", "GB_FULL", "GB_READY", "SCAN_CYCLE_DONE", "RESERVED"] ++
  named "PORT_GROUP_" 4 ++ ["CLOCK_LOST", "UNDERRUN", "SILENCE", "OVER"] ++ named "QUEUE_GROUP_" 4 ++ named "PH_MSG_" 8 ++
  ["BELL", "PH_EMPTY", "PH_COLLISION", "TWC", "TWC_BUS_STUCK", "TWC_REQUEST", "TWT_MISPLACED_START", "TWT_ERROR",
   "QSPI_ERROR", "RESERVED", "RESERVED", "RESERVED"]

/-- The one unit that contributes to an event, 0x3FF for none or several (R32). -/
def eventSource (e : Nat) : Nat :=
  if 32 ≤ e ∧ e ≤ 35 then winFE (e - 32)
  else if e = 36 ∨ e = 45 then winFEL
  else if 41 ≤ e ∧ e ≤ 44 then winLO (2 * (e - 41))
  else if 46 ≤ e ∧ e ≤ 49 then winLO (2 * (e - 46))
  else if 50 ≤ e ∧ e ≤ 57 then winFeed (e - 50)
  else if 72 ≤ e ∧ e ≤ 87 then winOFDM (e - 72)
  else if 119 ≤ e ∧ e ≤ 121 then winTWC
  else 0x3FF

/-- IMPLEMENTED: neither a reserved number nor an event whose only source is a fused unit. -/
def eventHere (p : Part) (e : Nat) : Bool :=
  !((59 ≤ e && e ≤ 63) || e == 95 || 125 ≤ e) && !(p.reduced && [34, 35, 39, 40, 43, 44, 48, 49].contains e)

/-- A clock of R521: type, divisor, frequency and name. -/
structure ClockD where
  type : Nat
  div : Nat
  hz : Nat
  name : String
  deriving DecidableEq, Repr

def clockTable : List ClockD :=
  [⟨1, 0, 1474560000, "ROOT"⟩, ⟨2, 6, 245760000, "RF_SAMPLE"⟩, ⟨2, 2, 737280000, "DSP"⟩,
   ⟨2, 3, 491520000, "CONTROL_CORE"⟩, ⟨2, 4, 368640000, "FABRIC"⟩, ⟨2, 15, 98304000, "LOWBAND_ADC"⟩,
   ⟨2, 60, 24576000, "AUDIO_MASTER"⟩] ++ (named "CLK_OUT_" 4).map (fun n => ⟨3, 0, 0, n⟩)

/-- A ball group of R522: kind, balls, bank, owner and name. -/
structure BallD where
  kind : Nat
  balls : Nat
  bank : Nat
  owner : Nat
  name : String
  deriving DecidableEq, Repr

def ballTable : List BallD :=
  ((List.range 32).zip (named "AP_" 32)).map (fun p => ⟨1, 3, 1, winPort p.1, p.2⟩) ++
  [⟨2, 6, 0, 0x3FF, "HSPI"⟩, ⟨3, 4, 0, 0x3FF, "TWT"⟩, ⟨4, 2, 0, winTWC, "TWC"⟩, ⟨5, 8, 0, 0x3FF, "FERRY"⟩,
   ⟨6, 16, 0, 0x3FF, "GPIO"⟩, ⟨7, 4, 0, 0x3FF, "IRQ"⟩] ++
  ((List.range 8).zip (named "ANT_" 8)).map (fun p => ⟨8, 2, 3, winFeed p.1, p.2⟩) ++
  (named "CLK_OUT_" 4).map (fun n => ⟨9, 2, 0, 0x3FF, n⟩) ++
  [⟨0x0A, 5, 0, 0x3FF, "TEST"⟩, ⟨0x0B, 3, 0, 0x3FF, "PAIR"⟩, ⟨0x0C, 2, 1, 0x3FF, "SYNC"⟩,
   ⟨0x0D, 4, 2, 0x3FF, "KEEPER_CTL"⟩, ⟨0x0E, 2, 3, 0x3FF, "XTAL"⟩, ⟨0x0F, 2, 2, 0x3FF, "RTC"⟩]

/-- The composites of the last build, in ascending window order. -/
def State.signComps (s : State) : List CompX := s.signboard.comps.mergeSort (fun a b => a.win ≤ b.win)

/-- The windows that the unit table lists (R32). -/
def State.signWins (s : State) : List Nat :=
  (0 :: (List.range 0x300).filter (fun w => w != 0 && isFixedUnit w)) ++ s.signComps.map CompX.win

/-- The parent of a window at the last build. -/
def State.signParent (s : State) (w : Nat) : Nat :=
  if w = 0 then 0x3FF
  else if 0x300 ≤ w then ((s.signComps.find? (fun c => c.win == w)).map CompX.parent).getD 0x3FF
  else Store.get (fun _ => 0x3FF) s.signboard.parents w

/-- POWER_MAX of a composite: the sum over everything nested in it. -/
def State.signPower (s : State) : Nat → Nat → Nat
  | 0, _ => 0
  | n + 1, c =>
    ((s.signboard.parents.filter (fun p => p.2 == c)).map (fun p => powerMax p.1)).foldl (· + ·) 0 +
    ((s.signboard.comps.filter (fun x => x.parent == c)).map (fun x => s.signPower n x.win)).foldl (· + ·) 0

/-- The four words of a unit entry. -/
def State.signUnit (s : State) (w : Nat) : List Word :=
  let comp := w == 0 || decide (0x300 ≤ w)
  let fused := s.fused w
  [w32 (kindCode (kindOf w) * 16777216 + instOf w * 65536 + (!fused).toNat),
   w32 (w + 65536 * s.signParent w + 2 ^ 29 * comp.toNat + 2 ^ 30 * fused.toNat + 2 ^ 31 * (!fused).toNat), 0,
   w32 (if fused then 0 else if comp then Nat.min 0xFFFF (s.signPower 256 w) else powerMax w)]

def signStrings : List String :=
  regions.map RegionD.name ++ eventNames ++ clockTable.map ClockD.name ++ ballTable.map BallD.name

/-- The tables after the directory, with names laid out in the order of their entries (DESIGN CHOICE). -/
def State.signTables (s : State) : List (List Word) :=
  let offs := nameOffs 0 signStrings
  let nr := regions.length
  let ne := eventNames.length
  let nc := clockTable.length
  [s.signWins.flatMap s.signUnit,
   ((List.range nr).zip (regions.zip offs)).flatMap (fun p =>
     [w32 p.2.1.base, w32 p.2.1.size, w32 (p.2.1.type + 256 * p.2.1.flags + 65536 * p.1), w32 p.2.2]),
   ((List.range ne).zip (offs.drop nr)).flatMap (fun p =>
     [w32 (p.1 + 256 * (p.1 / 32) + 32768 * (eventHere s.part p.1).toNat + 65536 * eventSource p.1), w32 p.2]),
   ((List.range nc).zip (clockTable.zip (offs.drop (nr + ne)))).flatMap (fun p =>
     [w32 (p.1 + 256 * p.2.1.type + 65536 * p.2.1.div), w32 p.2.1.hz, 0, w32 p.2.2]),
   ((List.range ballTable.length).zip (ballTable.zip (offs.drop (nr + ne + nc)))).flatMap (fun p =>
     [w32 (p.1 + 256 * p.2.1.kind + 65536 * p.2.1.balls + 16777216 * p.2.1.bank),
      w32 (p.2.1.owner + 2 ^ 31 * (!(s.fused p.2.1.owner)).toNat), 0, w32 p.2.2])]

/-- Where each table starts, from an offset. -/
def tableOffs : Nat → List (List Word) → List Nat
  | o, [] => [o]
  | o, t :: r => o :: tableOffs (o + 4 * t.length) r

/-- Everything from the directory on, as bytes. -/
def State.signBody (s : State) : List Nat :=
  let ts := s.signTables
  let offs := tableOffs 0x70 ts
  let counts := [s.signWins.length, regions.length, eventNames.length, clockTable.length, ballTable.length,
    nameTotal signStrings]
  let sizes := [16, 16, 8, 16, 16, 1]
  let dir := ((List.range 6).zip (counts.zip (sizes.zip offs))).flatMap (fun p =>
    [w32 ((p.1 + 1) * 16777216 + p.2.2.1 * 65536 + p.2.1), w32 p.2.2.2])
  (dir ++ ts.flatten).flatMap (fun w => (bytesOf w).map BitVec.toNat) ++ signStrings.flatMap nameBytes

/-- The words of the header (R30). -/
def State.signHeader (s : State) (body : List Nat) : List Word :=
  [0x42535946, 0x00010000, w32 (partCode s.part * 65536 + gradeCode s.part * 256 + 0xB1), s.signboardGen,
   w32 (0x40 + body.length), crc32 (body.map (BitVec.ofNat 8)), 0x40, 6]

/-- A byte of the Signboard: 0 until the first build of a cold boot completes. -/
def State.signByte (s : State) (a : Nat) : Byte :=
  if !s.signboard.built then 0
  else
    let body := s.signBody
    if a < 0x20 then (bytesOf ((s.signHeader body).getD (a / 4) 0)).getD (a % 4) 0
    else if a < 0x40 then 0
    else BitVec.ofNat 8 (body.getD (a - 0x40) 0)

/-! ## Semaphores (R39–R41) -/

/-- A read of SEM_n: a free semaphore is the reader's from then on. -/
def State.semTake (s : State) (m n : Nat) : State := if s.semOwner n < 9 then s else s.setSem n m

/-- A write of SEM_n. -/
def State.semPut (s : State) (m n : Nat) (v : Word) : State :=
  let held := decide (s.semOwner n < 9)
  if held && ((v == 0 && s.semOwner n == m) || v == 0xFF) then s.setSem n 9
  else (s.count blkSys SYS.SEM_VIOLATION_COUNT).raise 30

/-- SEM_WRITE. -/
def execSemWrite (m : Master) (n : Fin 32) (v : Word) (s : State) : Out :=
  .next (if hostLimited s m blkSys then s else s.semPut m n v)

/-- SEM_READ. -/
def execSemRead (m : Master) (n : Fin 32) (s : State) : Out :=
  .next (if hostLimited s m blkSys then s.ans [0] else (s.semTake m n).ans [s.semWord n])

/-! ## SYS_SOFT_RESET (R37) -/

/-- The codes of a write: every value but KEY 0xA5C3 with SCOPE 1. -/
def softCodes (v : Word) : List Nat :=
  if SYS.SYS_SOFT_RESET_KEY.of v = 0xA5C3 ∧ SYS.SYS_SOFT_RESET_SCOPE.of v = 1 then [] else [0x0201]

/-- The reset begins; during a save it waits for its end, as a RESET_N does (R437). -/
def State.softReset (s : State) : State :=
  if s.power.saving = 1 then s.setPower (fun p => { p with resetAfter := true, start := 2 }) else s.resetFor 2

/-- SYS_SOFT_RESET. -/
def execSysSoftReset (m : Master) (v : Word) (s : State) : Out :=
  .next (s.guarded m blkSys 0x018 v (softCodes v) (fun t => t.softReset))

end Sys2Proof.Machine
end

