-- ==== Sys2Proof/Machine/Bus.lean ====
section
/-! DEFINITION. Accesses over the whole address map (R24–R29): what a read answers and does, what a write does, which
accesses fail, and the partner window. -/

namespace Sys2Proof.Machine

/-- Where an address lies (R24): nowhere, in the Signboard, at an offset of a register block or unit window, in a memory
that a master may write, in MRAM, or in the partner's map. -/
inductive Place where
  | hole
  | sign (a : Nat)
  | reg (b off : Nat)
  | ram (a : Nat)
  | mram (a : Nat)
  | partner (a : Nat)
  deriving DecidableEq, Repr

/-- The register block whose 4 KiB start at an address. -/
def blockAt (a : Nat) : Option Nat :=
  [blkSys, blkEvents, blkPigeon, blkHost, blkNv, blkCore, blkFerry, blkClk, blkKpr, blkTherm].find? (fun b => baseOf b == a)

def placeAt (a : Nat) : Place :=
  if a < 0x40000 then .sign a
  else if 0x80000000 ≤ a then .partner (a - 0x80000000)
  else if 0x00400000 ≤ a ∧ a < 0x00800000 then .reg ((a - 0x00400000) / 0x1000) (a % 0x1000)
  else if (0x01000000 ≤ a ∧ a < 0x01200000) ∨ (0x02000000 ≤ a ∧ a < 0x02400000) ∨ (0x03000000 ≤ a ∧ a < 0x03800000) then
    .ram a
  else if 0x04000000 ≤ a ∧ a < 0x04800000 then .mram a
  else match blockAt (a / 0x1000 * 0x1000) with
    | some b => .reg b (a % 0x1000)
    | none => .hole

def widthBytes : Width → Nat
  | .b8 => 1
  | .b16 => 2
  | .b32 => 4

/-- The block that stands for an address where R490 asks whether the host ports serve it: none that they serve, for a
memory, a window or a hole. -/
def Place.block : Place → Nat
  | .reg b _ => b
  | _ => 0

/-- Does the access break the width rule of R25: registers take 32 bits, every region an aligned address? -/
def badWidth (p : Place) (wd : Width) (a : Nat) : Bool :=
  a % (widthBytes wd) != 0 || (match p with
    | .reg _ _ => wd != .b32
    | _ => false)

/-! ## Reads -/

/-- The level of a GPIO ball: that of an output where the device drives it, and free where it does not (R513). -/
def State.gpioLevel (s : State) (i : Nat) : Bool :=
  let c := s.rd blkTherm (0x100 + 4 * i)
  let safe := c.toNat / 16 % 4
  if s.f3 then (if safe = 0 then s.freshWord.getLsbD i else safe == 2)
  else if c.getLsbD 0 then c.getLsbD 1 else s.freshWord.getLsbD i

def State.thermRead (s : State) (off : Nat) : Word :=
  if 0x100 ≤ off ∧ off < 0x140 then
    (s.rd blkTherm off &&& 0xFF#32) ||| w32 (256 * (s.gpioLevel ((off - 0x100) / 4)).toNat)
  else if off = 0x180 then w32 ((List.range 16).foldl (fun a i => a + (s.gpioLevel i).toNat * 2 ^ i) 0)
  else s.rd blkTherm off

/-- The host port block: ADDR shows the strap (R376). -/
def State.hostRead (s : State) (off : Nat) : Word :=
  if off = 0x044 then HOST.TWT_STATUS_ADDR.put (s.rd blkHost off) (0x58 + s.part.twtStrap.toNat) else s.rd blkHost off

def State.kprRead (s : State) (off : Nat) : Word := if off = 0x008 then w32 s.vinMeas else s.keeperRead off

/-- What a register holds for a reader, whatever it has latched. -/
def State.liveRead (s : State) (m b off : Nat) : Word :=
  if b < 0x400 then s.unitRead b off
  else if b = blkSys then s.sysRead m off
  else if b = blkEvents then s.eventsRead off
  else if b = blkPigeon then s.pigeonRead off
  else if b = blkHost then s.hostRead off
  else if b = blkFerry then s.ferryRead off
  else if b = blkClk then s.clkRead off
  else if b = blkKpr then s.kprRead off
  else if b = blkTherm then s.thermRead off
  else s.rd b off

/-- Does the register show what the reader latched: a high word (R12), or the counts that a read of IN_COUNT latched
(R298)? -/
def latchShown (b off : Nat) : Bool :=
  (loOf b off).isSome || (kindOf b == .asrc && (off == ASRC.OUT_COUNT.off || off == ASRC.DISCARD_COUNT.off))

/-- The word that a read of a register answers; `lm` names the latch of the reader. A reserved offset, an absent window
and a refused port read 0 (R3, R49, R490).
Mark DESIGN CHOICE: notes/assumptions/11.md. -/
def State.regWord (s : State) (m lm b off : Nat) : Word :=
  if hostLimited s m b || (decide (b < 0x400) && !s.present b) || (regAt b off).isNone then 0
  else if latchShown b off then s.latched lm b off
  else if kindOf b = .asrc ∧ off = ASRC.ASRC_STATUS_FILL.off then
    ASRC.ASRC_STATUS_FILL.put (s.liveRead m b off) (ASRC.ASRC_STATUS_FILL.of (s.latched lm b off))
  else s.liveRead m b off

/-- What reading a register does: a pop, a semaphore taken, a latch (R12, R39, R298, R351). -/
def State.readEffect (s : State) (m lm b off : Nat) : State :=
  if hostLimited s m b || (decide (b < 0x400) && !s.present b) then s
  else if b = blkPigeon ∧ off < 0x100 then
    if off % 0x20 = 0x04 then s.popFifo false (off / 0x20)
    else if off % 0x20 = 0x0C then s.popFifo true (off / 0x20)
    else s
  else if b = blkSys ∧ 0x100 ≤ off ∧ off < 0x180 then s.semTake m ((off - 0x100) / 4)
  else if b = winTWC ∧ off = 0x050 then s.twcPop twcRx
  else if b = winTWC ∧ off = 0x058 then s.twcPop twcIbr
  else if kindOf b = .asrc ∧ off = ASRC.IN_COUNT.off then s.readInCount lm b
  else match hiOf b off with
    | some hi => s.setLatch lm b hi (s.liveRead m b hi)
    | none => s

/-- A read of a register, its word answered after its side effect. -/
def State.regRead (s : State) (m lm b off : Nat) : State := (s.readEffect m lm b off).ans [s.regWord m lm b off]

/-- The bytes of an access as a word. -/
def wordOf (bs : List Byte) : Word := wordOfBytes (bs.getD 0 0) (bs.getD 1 0) (bs.getD 2 0) (bs.getD 3 0)

/-- Does the address lie in the delay store while a lane holds blocks of it? What it then holds is private (R300).
Mark DEDUCED: notes/assumptions/169.md. -/
def State.delayHeld (s : State) (a : Nat) : Bool :=
  decide (0x03000000 ≤ a) && decide (a < 0x03800000) && s.tree.allocs.any (fun x => x.pool == 1)

def State.memRead (s : State) (a n : Nat) : Word :=
  if !s.guest.ready ∧ gbBase ≤ a ∧ a < gbBase + 0x400000 then wordOf (List.replicate n 0xFF#8)
  else if s.delayHeld a then wordOf ((bytesOf s.freshWord).take n) else wordOf (s.rdBytes a n)

/-- Is the link up with heartbeats good, so that the partner window answers (R29)? -/
def State.partnerAnswers (s : State) : Bool := s.ferryUp && s.hbOk

/-- An access of a master whose place is not decided by a register block: is it outside what the master reaches now?
Mark DEDUCED: notes/assumptions/172.md. -/
def State.closed (s : State) (m : Nat) (p : Place) : Bool := hostLimited s m p.block

/-- A read over the bus (R25). Through the partner window it is sent on, and what the partner returns comes later
(R27); `wait` says that the reader waits for it, and where it does not its word is free.
Mark DEDUCED: notes/assumptions/171.md. -/
def State.busRead (s : State) (m lm : Nat) (wd : Width) (a : Nat) (wait : Bool) : State :=
  let p := placeAt a
  if s.closed m p then s.ans [0]
  else match p with
    | .hole => (s.accessFail m a false 0x0701).ans [0]
    | .partner off =>
      if !s.partnerAnswers then (s.accessFail m a false 0x0901).ans [0]
      else
        let t := s.sendFrame ⟨frRead, 0, [w32 off, w32 m, w32 (widthBytes wd)]⟩
        if wait then ({ t with ferry := { t.ferry with reads := t.ferry.reads ++ [(m, a)] } }).ans []
        else (t.ans [t.freshWord]).useFresh
    | .sign off =>
      if badWidth p wd a then (s.accessFail m a false 0x0702).ans [0]
      else s.ans [wordOf ((List.range (widthBytes wd)).map (fun i => s.signByte (off + i)))]
    | .reg b off =>
      if badWidth p wd a then (s.accessFail m a false 0x0702).ans [0] else (s.regRead m lm b off).useFresh
    | .ram _ => if badWidth p wd a then (s.accessFail m a false 0x0702).ans [0] else (s.ans [s.memRead a (widthBytes wd)]).useFresh
    | .mram _ => if badWidth p wd a then (s.accessFail m a false 0x0702).ans [0] else s.ans [s.memRead a (widthBytes wd)]

/-! ## Writes -/

/-- A write to a register of a unit window. ROUTE_2 and ROUTE_3 of an FY-3216 ignore writes (R90). -/
def State.unitWrite (s : State) (m lm w off : Nat) (v : Word) : State :=
  if off = 0x004 then s.writeCtl m w v
  else if w = winAnt ∧ s.part.reduced ∧ (off = 0x048 ∨ off = 0x04C) then s
  else if kindOf w = .queue ∧ off = QUE.Q_PROD.off then s.writeQProd m w v
  else if kindOf w = .queue ∧ off = QUE.Q_CONS.off then s.writeQCons m w v
  else s.guarded m w off v (s.kindCodes w off v) (fun t =>
    if (ctrBit? w off).isSome then t.store w off v
    else if (loOf w off).isSome || (hiOf w off).isSome then t.store64 lm w off v
    else t.triggered (fun u => u.unitWritten w off v))

/-- A write to a register of the pigeonhole block (R351, R359). -/
def State.pigeonWrite (s : State) (m off : Nat) (v : Word) : State :=
  let n := off / 0x20
  s.guarded m blkPigeon off v [] (fun t =>
    if off < 0x100 then
      if off % 0x20 = 0 then t.tdPush n v else if off % 0x20 = 0x08 then t.pushFifo true n v else t.writePhStat n v
    else if off = 0x100 then { t with board := { t.board with toDev := t.board.toDev ||| v } }
    else if off = 0x104 then { t with board := { t.board with toDev := t.board.toDev &&& ~~~v } }
    else if off = 0x110 then t.ringBells v
    else if off = 0x114 then { t with board := { t.board with toHost := t.board.toHost &&& ~~~v } }
    else t.withSummaries (fun u => u.store blkPigeon off v))

/-- A write to the clock block (R396–R416). -/
def State.clkWrite (s : State) (m lm off : Nat) (v : Word) : State :=
  if off = 0x000 then s.guarded m blkClk off v (refCfgCodes v) (fun t => t.refCfgWritten v)
  else if off = 0x018 then
    s.guarded m blkClk off v (s.trimCodes v) (fun t => (t.store blkClk off v).trimBy (v.toNat % 2 ^ 24))
  else if off = 0x020 ∨ off = 0x024 then s.guarded m blkClk off v [] (fun t => t.store64 lm blkClk off v)
  else if off = 0x028 then
    s.guarded m blkClk off v (if CLK.EPOCH_CTL_LOAD.of v = 1 ∧ s.portsBusy then [0x0203] else []) (fun t => t.loadEpoch v)
  else if 0x100 ≤ off ∧ off < 0x140 ∧ off % 16 = 0 then
    s.guarded m blkClk off v (outCodes (s.fld blkClk CLK.REF_CFG_REF_KHZ) v (s.rd blkClk (off + 4)))
      (fun t => t.outWritten ((off - 0x100) / 16) off v)
  else if 0x100 ≤ off ∧ off < 0x140 ∧ off % 16 = 4 then
    s.guarded m blkClk off v (outCodes (s.fld blkClk CLK.REF_CFG_REF_KHZ) (s.rd blkClk (off - 4)) v)
      (fun t => t.outWritten ((off - 0x100) / 16) off v)
  else s.guarded m blkClk off v [] (fun t => t.store blkClk off v)

/-- A write to the Keeper's window (R421, R439). -/
def State.kprWrite (s : State) (m lm off : Nat) (v : Word) : State :=
  if off = 0x00C then (s.guarded m blkKpr off v (s.warnCodes v) (fun t => t.store blkKpr off v)).useFresh
  else if off = 0x030 then s.guarded m blkKpr off v [] (fun t => t.rtcCtl v)
  else if (loOf blkKpr off).isSome || (hiOf blkKpr off).isSome then
    s.guarded m blkKpr off v [] (fun t => t.store64 lm blkKpr off v)
  else s.guarded m blkKpr off v [] (fun t => t.store blkKpr off v)

/-- A write to the SYS block (R36–R40). -/
def State.sysWrite (s : State) (m off : Nat) (v : Word) : State :=
  if off = 0x018 then s.guarded m blkSys off v (softCodes v) (fun t => t.softReset)
  else if off = SYS.EPOCH_SNAP.off then
    s.guarded m blkSys off v [] (fun t =>
      if SYS.EPOCH_SNAP.of v = 1 then { t with clock := { t.clock with snap := t.clock.epoch } } else t)
  else if 0x100 ≤ off ∧ off < 0x180 then (if hostLimited s m blkSys then s else s.semPut m ((off - 0x100) / 4) v)
  else s.guarded m blkSys off v [] (fun t => t.store blkSys off v)

/-- A write to the EVENTS block (R360–R362). -/
def State.eventsWrite (s : State) (m off : Nat) (v : Word) : State :=
  if off < 0x010 then s.guarded m blkEvents off v [] (fun t => t.clearLatches (off / 4) v)
  else s.guarded m blkEvents off v (if 0x200 ≤ off then routeCodes ((off - 0x200) / 4) v else [])
    (fun t => t.store blkEvents off v)

/-- A write to the Ferry block: PAIR_CFG acts, and PORT_PAIRED is judged (R471). -/
def State.ferryWrite (s : State) (m off : Nat) (v : Word) : State :=
  if off = 0x000 then s.guarded m blkFerry off v [] (fun t => t.pairCfg v)
  else s.guarded m blkFerry off v (if off = FERRY.PORT_PAIRED.off then s.pairedCodes v else [])
    (fun t => t.store blkFerry off v)

/-- A write to a register (R519). -/
def State.regWrite (s : State) (m lm b off : Nat) (v : Word) : State :=
  if b < 0x400 then s.unitWrite m lm b off v
  else if b = blkSys then s.sysWrite m off v
  else if b = blkEvents then s.eventsWrite m off v
  else if b = blkPigeon then s.pigeonWrite m off v
  else if b = blkNv ∧ off = 0x008 then s.writeNvCtl m v
  else if b = blkFerry then s.ferryWrite m off v
  else if b = blkClk then s.clkWrite m lm off v
  else if b = blkKpr then s.kprWrite m lm off v
  else s.guarded m b off v [] (fun t => t.store b off v)

/-- Does an address lie in the ring or the buffer of a host-to-device queue? -/
def State.inHostQueue (s : State) (a : Nat) : Bool :=
  s.tree.allocs.any (fun x => x.pool == 2 && s.flag x.win QUE.Q_CFG_DIR &&
    ((decide (qramBase + 256 * x.ring ≤ a) && decide (a < qramBase + 256 * x.ring + 16 * 2 ^ x.depthLog2)) ||
     (decide (qramBase + 256 * x.buf ≤ a) && decide (a < qramBase + 256 * x.buf + x.bytes))))

/-- Up to two samples of a delay store from place `k` on get free values. -/
def spoiled (free : Nat → Word) (k : Nat) (l : List Int) : List Int :=
  l.zipIdx.map (fun p => if (p.2 / 4 = k ∨ p.2 / 4 = k + 1) ∧ p.2 % 4 < 2 then
    signed 24 (free (p.2 % 4 + 2 * (p.2 / 4 - k))).toNat * 256 else p.1)

/-- A write to the delay store while lanes run corrupts the audio of one of them, at a place that is private to the device
(R300): which lane, input and samples, and their new values, are free.
Mark DEDUCED: notes/assumptions/169.md. -/
def State.storeHit (s : State) : State :=
  let lanes := ((List.range 32).map winLane).filter (fun w => s.live w && s.dsBlocks w != 0)
  let free := fun (i : Nat) => Config.freeWord (s.fresh + i)
  match lanes with
  | [] => s
  | w :: ws =>
    let at2 := (w :: ws).getD ((free 0).toNat % (ws.length + 1)) w
    let k := hsStore + (free 1).toNat % 2
    { s.setHs at2 k (spoiled (fun i => free (3 + i)) (free 2).toNat (s.hs at2 k)) with fresh := s.fresh + 7 }

/-- A write to a memory; the lead copies a host's write to the ring or buffer of a host-to-device queue (R463).
Mark DEDUCED: notes/assumptions/93.md. -/
def State.memWrite (s : State) (m : Nat) (wd : Width) (a : Nat) (v : Word) : State :=
  let t0 := s.wrBytes a ((bytesOf v).take (widthBytes wd))
  let t := if s.delayHeld a then t0.storeHit else t0
  if (m == 5 || m == 6) && s.mirrors 4 && s.inHostQueue a then
    t.mirrorWrite (w32 (a / 4 * 4)) (t.rdWord (a / 4 * 4)) else t

/-- A write over the bus (R25). Through the partner window it is posted (R27). Where a write breaks two rules of R25 the
spec gives no order: a hole counts before the width, and the width before a read-only place.
Mark DESIGN CHOICE: notes/assumptions/186.md. -/
def State.busWrite (s : State) (m lm : Nat) (wd : Width) (a : Nat) (v : Word) : State :=
  let p := placeAt a
  if s.closed m p then s
  else match p with
    | .hole => s.accessFail m a true 0x0701
    | .partner off =>
      if s.partnerAnswers then s.sendFrame ⟨frWrite, 0, [w32 off, v, w32 m, w32 (widthBytes wd)]⟩ else s.accessFail m a true 0x0901
    | .sign _ => s.accessFail m a true (if badWidth p wd a then 0x0702 else 0x0703)
    | .mram _ => s.accessFail m a true (if badWidth p wd a then 0x0702 else 0x0703)
    | .ram _ => if badWidth p wd a then s.accessFail m a true 0x0702 else s.memWrite m wd a v
    | .reg b off => if badWidth p wd a then s.accessFail m a true 0x0702 else s.regWrite m lm b off v

/-! ## Rows -/

/-- REGISTER_WRITE: a write at any address. -/
def execRegisterWrite (m : Master) (wd : Width) (addr v : Word) (s : State) : Out :=
  .next (s.busWrite m m wd addr.toNat v)

/-- The register at a word address, if it is one. -/
def busReg (a : Nat) : Option (Nat × Nat) :=
  match placeAt a with
  | .reg b off => if off % 4 = 0 then some (b, off) else none
  | _ => none

/-- LOW_WORD_READ: a read of the low word of a 64-bit register; at an address that holds none it does not occur. -/
def execLowWordRead (m : Master) (addr : Word) (s : State) : Out :=
  .next (match busReg addr.toNat with
    | some (b, off) => if (hiOf b off).isSome then s.busRead m m .b32 addr.toNat true else s
    | none => s)

/-- COUNTER_RESTART: a write of any value to a statistics counter. -/
def execCounterRestart (m : Master) (addr v : Word) (s : State) : Out :=
  .next (match busReg addr.toNat with
    | some (b, off) => if (ctrBit? b off).isSome then s.busWrite m m .b32 addr.toNat v else s
    | none => s)

/-- Is there a peak register at an offset (R10)? -/
def isPeak (b off : Nat) : Bool :=
  match regAt b off with
  | some r => r.flds.any (fun f => decide (f.acc = .peak))
  | none => false

/-- PEAK_RESTART: a write of any value to a peak register. -/
def execPeakRestart (m : Master) (addr v : Word) (s : State) : Out :=
  .next (match busReg addr.toNat with
    | some (b, off) => if isPeak b off then s.busWrite m m .b32 addr.toNat v else s
    | none => s)

/-- PARTNER_WINDOW_READ. -/
def execPartnerWindowRead (m : Master) (wd : Width) (addr : Word) (s : State) : Out :=
  .next (if 0x80000000 ≤ addr.toNat then s.busRead m m wd addr.toNat true else s)

/-- PARTNER_WINDOW_WRITE. -/
def execPartnerWindowWrite (m : Master) (wd : Width) (addr v : Word) (s : State) : Out :=
  .next (if 0x80000000 ≤ addr.toNat then s.busWrite m m wd addr.toNat v else s)

end Sys2Proof.Machine
end

