-- ==== Sys2Proof/Machine/HostPorts.lean ====
section
/-! DEFINITION. The quad-SPI port (R365–R374) and the two-wire target (R376–R381): each transaction as the accesses that
it makes, with what it records. What a transaction returns is answered as its words, without wait and start bytes. -/

namespace Sys2Proof.Machine

/-! ## Errors -/

/-- QSPI_ERROR: the code in HSPI_STATUS.LAST_CODE, counted.
Mark DEDUCED: notes/assumptions/174.md. -/
def State.qspiError (s : State) (code : Nat) : State :=
  ((s.put blkHost HOST.HSPI_STATUS_LAST_CODE code).count blkHost HOST.HSPI_ERR_COUNT).raise 124

/-- A code of the two-wire target in TWT_STATUS.LAST_CODE. -/
def State.twtCode (s : State) (code : Nat) : State := s.put blkHost HOST.TWT_STATUS_LAST_CODE code

/-- TWT_ERROR: the code recorded and counted. -/
def State.twtError (s : State) (code : Nat) : State :=
  ((s.twtCode code).count blkHost HOST.TWT_ERR_COUNT).raise 123

/-- A transaction ends with the rise of HSPI_CS_N, at which the HSPI_CFG written comes into force (R366). -/
def State.csRise (s : State) : State := s.put blkHost HOST.HSPI_STATUS_PROTO_NOW (s.fld blkHost HOST.HSPI_CFG_PROTO)

/-! ## Bursts -/

/-- Words read one after another from an address that moves by `step`, each judged on its own (R368); `got` holds those
already read. -/
def State.readBurst (s : State) (m step : Nat) : Nat → Nat → List Word → State
  | 0, _, got => s.ans got
  | n + 1, a, got =>
    let t := s.busRead m m .b32 a false
    t.readBurst m step n ((a + step) % 4294967296) (got ++ t.answer)

/-- Words committed one after another, each as one access (R372, R377). -/
def State.writeBurst (s : State) (m step : Nat) : List Word → Nat → State
  | [], _ => s
  | v :: vs, a => (s.busWrite m m .b32 a v).writeBurst m step vs ((a + step) % 4294967296)

/-- The wait of a read before its first word (R369): none, wait bytes, or 10 µs without a word, which records 0x0722.
Mark DEDUCED: notes/assumptions/173.md. -/
def State.readWait (s : State) (delay : Nat) : State :=
  let t := if delay = 0 then s else s.count blkHost HOST.HSPI_WAIT_COUNT
  if delay = 2 then t.qspiError 0x0722 else t

/-- A quad-SPI read of `n` words clocked out in full. A first word that is not ready in time is sent as 0. -/
def State.qspiRead (s : State) (step a n delay : Nat) : State :=
  let t := s.readWait delay
  if delay = 2 ∧ n ≠ 0 then t.readBurst 5 step (n - 1) ((a + step) % 4294967296) [0] else t.readBurst 5 step n a []

/-- A quad-SPI write; `cut` where CS rises within a further word. -/
def State.qspiWrite (s : State) (step a : Nat) (data : List Word) (cut : Bool) : State :=
  let t := s.writeBurst 5 step data a
  if cut && t.portsAnswer then t.qspiError 0x0721 else t

/-- QSPI_READ: `n` words are clocked out in full, after a delay of R369. -/
def execQspiRead (addr : Word) (n : Nat) (delay : Fin 3) (s : State) : Out :=
  .next (if s.portsAnswer then (s.qspiRead 4 addr.toNat n delay).csRise else s)

/-- QSPI_READ_FIXED. -/
def execQspiReadFixed (addr : Word) (n : Nat) (delay : Fin 3) (s : State) : Out :=
  .next (if s.portsAnswer then (s.qspiRead 0 addr.toNat n delay).csRise else s)

/-- QSPI_WRITE. -/
def execQspiWrite (addr : Word) (data : List Word) (cut : Bool) (s : State) : Out :=
  .next (if s.portsAnswer then (s.qspiWrite 4 addr.toNat data cut).csRise else s)

/-- QSPI_WRITE_FIXED. -/
def execQspiWriteFixed (addr : Word) (data : List Word) (cut : Bool) (s : State) : Out :=
  .next (if s.portsAnswer then (s.qspiWrite 0 addr.toNat data cut).csRise else s)

/-! ## STATUS, protocol and unknown opcodes -/

/-- The byte of STATUS (R371). -/
def State.statusByte (s : State) : Nat :=
  b2n s.fw.inService + 2 * b2n s.faultN +
  4 * b2n ((s.board.toHost &&& s.rd blkPigeon BELL.BELL_TO_HOST_MASK.off &&& 0xFF#32) != 0) +
  8 * b2n ((List.range 4).any s.irqAsserted) + 16 * s.fld blkHost HOST.HSPI_STATUS_PROTO_NOW

/-- QSPI_STATUS: the host clocks out `n` status bytes, each answered in a word. -/
def execQspiStatus (n : Nat) (s : State) : Out :=
  .next (if s.portsAnswer then (s.ans (List.replicate n (w32 s.statusByte))).csRise else s)

/-- QSPI_PROTOCOL_RESET: PROTO is 0 at the rise of CS, and in force. -/
def execQspiProtocolReset (s : State) : Out :=
  .next (if s.portsAnswer then (s.put blkHost HOST.HSPI_CFG_PROTO 0).put blkHost HOST.HSPI_STATUS_PROTO_NOW 0 else s)

/-- HSPI_CFG_TAKES_EFFECT: CS rises, or stands high, and the protocol written is in force. -/
def execHspiCfgTakesEffect (s : State) : Out :=
  .next (if s.power.die = 0 then
    s.put blkHost HOST.HSPI_STATUS_PROTO_NOW (s.fld blkHost HOST.HSPI_CFG_PROTO) else s)

/-- QSPI_UNKNOWN_OPCODE: an opcode that R368 lists is not one. -/
def execQspiUnknownOpcode (opcode : BitVec 8) (s : State) : Out :=
  .next (if !s.portsAnswer || [0x01, 0x02, 0x03, 0x04, 0x05, 0x10, 0x11, 0xFF].contains opcode.toNat then s
    else (s.qspiError 0x0720).csRise)

/-! ## Queue bursts (R373, R374) -/

/-- Is the queue bound by the running Manifest? -/
def State.queueBound (s : State) (w : Nat) : Bool := s.parentOf w != 0x3FF

/-- A length padded to a multiple of 4, in words. -/
def padWords (n : Nat) : Nat := (n + 3) / 4

/-- Bytes as words, padded with 0. -/
def wordsOf : Nat → List Byte → List Word
  | 0, _ => []
  | n + 1, bs => wordOf (bs.take 4) :: wordsOf n (bs.drop 4)

/-- What QREAD sends of descriptor `k`: its 16 bytes, and its data from OFFSET. -/
def State.qreadUnit (s : State) (w : Nat) (k : Word) : List Word :=
  let a := s.descAddr w k
  let n := s.descLen w k
  s.rdWords a 4 ++ wordsOf (padWords n) (s.rdBytes (qramBase + (s.rdWord (a + 12)).toNat) n)

/-- QREAD: the count word, and the descriptors of which `sent` are clocked out in full. -/
def State.qread (s : State) (w max sent : Nat) : State :=
  let n := Nat.min max (s.qSpan w)
  let k := Nat.min n sent
  let ws := (List.range k).flatMap (fun i => s.qreadUnit w (s.qCons w + w32 i))
  (s.consTo w (s.qCons w + w32 k)).ans (w32 n :: ws)

/-- QSPI_QREAD. A count word that is not ready in time is sent as 0, and nothing is read. -/
def execQspiQread (q : Fin 64) (max : BitVec 8) (sent : Nat) (delay : Fin 3) (s : State) : Out :=
  let w := winQ q
  .next (if !s.portsAnswer then s
    else State.csRise (
      if !(s.queueBound w && s.qToHost w) then (s.qspiError 0x0723).ans []
      else if delay.val = 2 then (s.readWait 2).ans [0]
      else (s.readWait delay).qread w max.toNat sent))

/-- Words of a burst stored at an address of queue RAM, as writes of master 5. -/
def State.putWords (s : State) (a : Nat) (ws : List Word) : State := s.writeBurst 5 4 ws a

/-- One unit of QWRITE, `k` units after Q_PROD: its refusal, or the state with its data and its descriptor written.
Mark DEDUCED: notes/assumptions/176.md. -/
def State.qwriteUnit (s : State) (w k : Nat) (desc data : List Word) : Nat ⊕ State :=
  let len := (desc.getD 1 0).toNat % 65536
  let off := (desc.getD 3 0).toNat
  let lo := (s.rd w QUE.BUF_BASE.off).toNat - qramBase
  if !s.queueBound w || s.qToHost w || decide (s.qFree w ≤ k) then .inl 0x0724
  else if off < lo ∨ lo + s.fld w QUE.BUF_SIZE < off + len then .inl 0x0725
  else .inr ((s.putWords (qramBase + off) data).putWords (s.descAddr w (s.qProd w + w32 k)) desc)

/-- The units of QWRITE in turn; a unit cut short writes nothing. Q_PROD advances at the end by the units received. -/
def State.qwrite (s : State) (w : Nat) (cut : Bool) : Nat → Nat → List Word → State
  | 0, _, _ => s
  | fuel + 1, k, ws =>
    let stop := fun (t : State) => t.writeQProd 5 w (s.qProd w + w32 k)
    let n := padWords ((ws.getD 1 0).toNat % 65536)
    if ws.length < 4 + n then
      let t := if k = 0 then s else stop s
      if cut then t.qspiError 0x0721 else t
    else match s.qwriteUnit w k (ws.take 4) ((ws.drop 4).take n) with
      | .inl code => (if k = 0 then s else stop s).qspiError code
      | .inr t => t.qwrite w cut fuel (k + 1) (ws.drop (4 + n))

/-- QSPI_QWRITE. A transaction whose first words find the queue not open to it is refused with the first unit. -/
def execQspiQwrite (q : Fin 64) (data : List Word) (cut : Bool) (s : State) : Out :=
  .next (if s.portsAnswer then (s.qwrite (winQ q) cut (data.length + 1) 0 data).csRise else s)

/-! ## The two-wire target (R377–R381) -/

/-- Where the pointer stands: slot 40 its address, slot 41 its mode. -/
def axTwtAddr : Nat := 40
def axTwtMode : Nat := 41

def State.twtStep (s : State) : Nat := if s.ax blkHost axTwtMode = 1 then 0 else 4

/-- The pointer moved on past `n` words. -/
def State.twtMove (s : State) (n : Nat) : State :=
  s.setAx blkHost axTwtAddr ((s.ax blkHost axTwtAddr + n * s.twtStep) % 4294967296)

/-- TWT_WRITE: the mode byte, whether all four address bytes came, and the words acknowledged in full; `cut` where a STOP
or START ends the transaction within a further word. -/
def execTwtWrite (mode : BitVec 8) (whole : Bool) (addr : Word) (data : List Word) (cut : Bool) (s : State) : Out :=
  .next (if !s.portsAnswer then s
    else if 1 < mode.toNat then s.twtError 0x0735
    else if !whole then s.twtCode 0x0735
    else
      let t := (s.setAx blkHost axTwtAddr addr.toNat).setAx blkHost axTwtMode mode.toNat
      let t1 := t.writeBurst 6 t.twtStep data addr.toNat
      if !t1.portsAnswer then t1
      else if cut then (t1.twtMove data.length).twtError 0x0731 else t1.twtMove data.length)

/-- Words read from the pointer; one that is late by R379 is sent as 0xFF bytes and not accessed. -/
def State.twtRead (s : State) : List Bool → List Word → State
  | [], got => s.ans got
  | late :: r, got =>
    let t := if late then (s.twtError 0x0733).ans [0xFFFFFFFF]
      else s.busRead 6 6 .b32 (s.ax blkHost axTwtAddr) false
    (t.twtMove 1).twtRead r (got ++ t.answer)

/-- TWT_READ: the words clocked out in full, each ready in time or late.
Mark DEDUCED: notes/assumptions/175.md. -/
def execTwtRead (late : List Bool) (s : State) : Out := .next (if s.portsAnswer then s.twtRead late [] else s)

/-- TWT_MISPLACED_START. -/
def execTwtMisplacedStart (s : State) : Out :=
  .next (if s.portsAnswer then
    ((s.twtCode 0x0730).count blkHost HOST.TWT_MISPLACED_COUNT).raise 122 else s)

/-- TWT_BUS_TIMEOUT. -/
def execTwtBusTimeout (s : State) : Out := .next (if s.portsAnswer then s.twtError 0x0734 else s)

end Sys2Proof.Machine
end

