-- ==== Sys2Proof/Machine/Link.lean ====
section
/-! DEFINITION. Frames that the Ferry link brings (R27, R28, R463–R466): the partner's accesses, mirrored writes, and what
the lead's firmware tells the standby's. -/

namespace Sys2Proof.Machine

/-! ## Accesses through the partner window -/

/-- The latch that an access of the partner's master `m` uses (R28). -/
def farLatch (m : Nat) : Nat := 16 + m

/-- FERRY_READ_REQ: the access is carried out as master 7, at the width the frame carries, and its word is sent back
under its tag. -/
def execFerryReadReq (wd : Width) (addr : Word) (m : Master) (tag : BitVec 8) (s : State) : Out :=
  .next (if s.ferryUp ∧ addr.toNat < 0x80000000 then
    let t := s.busRead 7 (farLatch m) wd addr.toNat false
    t.sendFrame ⟨frReadRsp, 0, [tag.setWidth 32, t.answer.headD 0]⟩
  else s)

/-- FERRY_WRITE_FRAME: the partner's posted write, as master 7. -/
def execFerryWriteFrame (wd : Width) (addr v : Word) (m : Master) (s : State) : Out :=
  .next (if s.ferryUp ∧ addr.toNat < 0x80000000 then s.busWrite 7 (farLatch m) wd addr.toNat v else s)

/-- PARTNER_READ_RESPONSE: the oldest read that is awaited completes with the partner's word. -/
def execPartnerReadResponse (v : Word) (s : State) : Out :=
  .next (match s.ferry.reads with
    | [] => s
    | _ :: r => ({ s with ferry := { s.ferry with reads := r } }).ans [v])

/-- MIRROR_FRAME: a standby carries it out as master 7 when it is the next in order. One from beyond a gap is not applied,
and asks for a replay the first time; one already applied is dropped.
Mark DEDUCED: notes/assumptions/130.md. -/
def execMirrorFrame (seq addr v : Word) (s : State) : Out :=
  let d := diff32 seq (s.rd blkFerry FERRY.APPLIED_SEQ.off)
  .next (if !(s.ferryUp && s.role == roleStandby && decide (addr.toNat < 0x80000000)) then s
    else if d = 1 then
      let t := (s.wr blkFerry FERRY.APPLIED_SEQ.off seq).busWrite 7 7 .b32 addr.toNat v
      { t with ferry := { t.ferry with gap := false } }
    else if 1 < d ∧ !s.ferry.gap then s.askReplay
    else s)

/-! ## Messages of the lead's firmware (R463, R464) -/

/-- What a standby's firmware in service carries out for the lead, with no reply of its own. -/
def State.asMirrored (s : State) (f : State → State) : State :=
  if s.ferryUp && s.role == roleStandby && s.fw.inService then
    let t := f { s with ferry := { s.ferry with quiet := true } }
    { t with ferry := { t.ferry with quiet := false } }
  else s

/-- A mirrored image goes through the checks of this chip, and is applied from no slot.
Mark DESIGN CHOICE: notes/assumptions/136.md. -/
def State.applyMirrored (s : State) (image : List Word) : State :=
  let im := image.map BitVec.toNat
  if s.tree.job.isSome then s
  else match s.validate im (4 * im.length) with
    | some f => s.mfReject 8 0x10 0 f
    | none => s.startJob ⟨0x10, 8, 0, hw im 3, 0xFF, im, false, false, false, false⟩

/-- A mirrored removal, which answers nobody at its end. -/
def State.removeMirrored (s : State) (win : Word) : State :=
  let t := stateOr s (execMfRemove 0 0 win s)
  if s.tree.job.isSome then t
  else { t with tree := { t.tree with job := t.tree.job.map (fun j => { j with ph := 8 }) } }

/-- A mirrored Guestbook command. -/
def State.gbMirrored (s : State) (op : Nat) (args : List Word) : State :=
  stateOr s (
    if op = 0x40 then execGbConfig 0 0 args s
    else if op = 0x42 then execGbInsert 0 0 args s
    else if op = 0x43 then execGbDelete 0 0 args s
    else if op = 0x44 then execGbFlags 0 0 args s
    else if op = 0x45 then execGbLink 0 0 args s
    else if op = 0x46 then execGbUnlink 0 0 args s
    else if op = 0x47 then execGbCheckpoint 0 0 args s
    else if op = 0x48 then execGbClear 0 0 args s
    else .next s)

/-- A change of a record at the lead. A record that stands here as told is left as it is. -/
def State.gbFollowChange (s : State) (code idx old : Nat) (r : GRec) : State :=
  if 262144 ≤ idx ∨ 262144 ≤ old then s
  else if code = 3 then (if s.gbOccupied idx then s.gbVacate idx else s)
  else
    let t := if s.gbRec idx = r then s else ((s.gbPut idx r).gbDirty idx).gbChange code idx old r
    if code = 4 ∧ idx ≠ old ∧ t.gbOccupied old then ((t.gbTimes old (some idx)).gbPut old GRec.free).gbDirty old else t

/-- The engines are the lead's to steer from here on. -/
def State.nowFollowed (s : State) : State := { s with ferry := { s.ferry with followed := true } }

/-- A fade of an engine at its epoch, as the lead made it. -/
def State.fadeMirrored (s : State) (f i d ms : Nat) (trim : Int) (e : BitVec 64) : State :=
  if s.live f && s.folState f != 0 then ((s.advanceTo e).putI f FOL.TRIM trim).folFade f i d ms true else s

/-- An announcement's fade, in or back. -/
def State.annMirrored (s : State) (f : Nat) (into : Bool) (e : BitVec 64) : State :=
  let t := s.advanceTo e
  if into then (if t.annReady f then t.annIn f else t)
  else if t.live f && t.folState f == 6 && t.ax f axFolFaded == 1 then t.annBack f else t

/-- FERRY_MESSAGE_FRAME. The delay and length of an announcement's fade are the engine's own settings, which the lead's
equal.
Mark DEDUCED: notes/assumptions/135.md. -/
def execFerryMessageFrame (msg : MessageArg) (s : State) : Out :=
  .next (match msg with
    | .apply image => s.asMirrored (fun t => t.applyMirrored image)
    | .remove win => s.asMirrored (fun t => t.removeMirrored win)
    | .trigger arg => s.asMirrored (fun t => stateOr t (execMfTrigger 0 0 arg t))
    | .guestbook opcode args => s.asMirrored (fun t => t.gbMirrored opcode.toNat args)
    | .gbChange code idx old record =>
      s.asMirrored (fun t => t.gbFollowChange (code.toNat % 256) idx.toNat old.toNat
        ⟨record.getD 0 0, record.getD 1 0, record.getD 2 0, record.getD 3 0⟩)
    | .source n idx sub =>
      s.asMirrored (fun t =>
        let u := t.nowFollowed
        let f := winFollow n
        if u.live f && u.folState f != 0 && u.folState f != 5 && u.folState f != 6 then u.folVerify f idx.toNat sub else u)
    | .fade n input delayMs lengthMs trim epoch =>
      s.asMirrored (fun t => t.nowFollowed.fadeMirrored (winFollow n) input.toNat delayMs lengthMs trim epoch)
    | .announce n input _ _ epoch => s.asMirrored (fun t => t.nowFollowed.annMirrored (winFollow n) input epoch)
    | .resync => if s.ferryUp && s.role == roleStandby && s.mirrorState != 3 then s.setMirror 1 else s
    | .handover epoch =>
      if s.ferryUp && s.role == roleStandby then { s with ferry := { s.ferry with handover := some epoch } } else s)

end Sys2Proof.Machine
end

