-- ==== Sys2Proof/Machine/Dispatch.lean ====
section
/-! DEFINITION. One arm per command: each calls the meaning of its row. -/

namespace Sys2Proof.Machine

def exec (i : Instr) (s : State) : Host.Outcome State Fault Refusal :=
  match i with
  | .registerWrite m wd addr v => Sys2Proof.Machine.execRegisterWrite m wd addr v s
  | .lowWordRead m addr => Sys2Proof.Machine.execLowWordRead m addr s
  | .counterRestart m addr v => Sys2Proof.Machine.execCounterRestart m addr v s
  | .peakRestart m addr v => Sys2Proof.Machine.execPeakRestart m addr v s
  | .sysSoftReset m v => Sys2Proof.Machine.execSysSoftReset m v s
  | .epochSnap m v => Sys2Proof.Machine.execEpochSnap m v s
  | .semRead m n => Sys2Proof.Machine.execSemRead m n s
  | .semWrite m n v => Sys2Proof.Machine.execSemWrite m n v s
  | .partnerWindowWrite m wd addr v => Sys2Proof.Machine.execPartnerWindowWrite m wd addr v s
  | .partnerWindowRead m wd addr => Sys2Proof.Machine.execPartnerWindowRead m wd addr s
  | .partnerReadResponse v => Sys2Proof.Machine.execPartnerReadResponse v s
  | .signboardRebuilt => Sys2Proof.Machine.execSignboardRebuilt s
  | .unitCtlWrite m w v => Sys2Proof.Machine.execUnitCtlWrite m w v s
  | .compositeCtlWrite m w v => Sys2Proof.Machine.execCompositeCtlWrite m w v s
  | .syncReset m w v => Sys2Proof.Machine.execSyncReset m w v s
  | .apply m w v => Sys2Proof.Machine.execApply m w v s
  | .applyTakesEffect w => Sys2Proof.Machine.execApplyTakesEffect w s
  | .faultClear m w v => Sys2Proof.Machine.execFaultClear m w v s
  | .unitCtlDeferred w => Sys2Proof.Machine.execUnitCtlDeferred w s
  | .unitPowerUpdate => Sys2Proof.Machine.execUnitPowerUpdate s
  | .mfApply ph tag addr len => Sys2Proof.Machine.execMfApply ph tag addr len s
  | .mfValidate ph tag addr len => Sys2Proof.Machine.execMfValidate ph tag addr len s
  | .mfRemove ph tag win => Sys2Proof.Machine.execMfRemove ph tag win s
  | .mfTrigger ph tag arg => Sys2Proof.Machine.execMfTrigger ph tag arg s
  | .mfAmendCommit => Sys2Proof.Machine.execMfAmendCommit s
  | .mfAmendComplete => Sys2Proof.Machine.execMfAmendComplete s
  | .triggerEpochReached w => Sys2Proof.Machine.execTriggerEpochReached w s
  | .twinReady lo us => Sys2Proof.Machine.execTwinReady lo us s
  | .loHandover fe => Sys2Proof.Machine.execLoHandover fe s
  | .agcBlock fe level co => Sys2Proof.Machine.execAgcBlock fe level co s
  | .agcDecayStep fe co => Sys2Proof.Machine.execAgcDecayStep fe co s
  | .overloadBlock fe xs => Sys2Proof.Machine.execOverloadBlock fe xs s
  | .overloadClear fe => Sys2Proof.Machine.execOverloadClear fe s
  | .ovlStuck fe => Sys2Proof.Machine.execOvlStuck fe s
  | .divReturnCheck fe => Sys2Proof.Machine.execDivReturnCheck fe s
  | .divWindowSwitch fe => Sys2Proof.Machine.execDivWindowSwitch fe s
  | .loLockLost lo => Sys2Proof.Machine.execLoLockLost lo s
  | .loLockAcquired lo => Sys2Proof.Machine.execLoLockAcquired lo s
  | .tempRecal fe temp => Sys2Proof.Machine.execTempRecal fe temp s
  | .calReqLo m fe => Sys2Proof.Machine.execCalReqLo m fe s
  | .calReqImage m fe => Sys2Proof.Machine.execCalReqImage m fe s
  | .calReqFilter m fe => Sys2Proof.Machine.execCalReqFilter m fe s
  | .calReqOffset m fe => Sys2Proof.Machine.execCalReqOffset m fe s
  | .calAbort m fe => Sys2Proof.Machine.execCalAbort m fe s
  | .calStepDone fe a => Sys2Proof.Machine.execCalStepDone fe a s
  | .calStartupDone fe a => Sys2Proof.Machine.execCalStartupDone fe a s
  | .calFeLDone ok gains => Sys2Proof.Machine.execCalFeLDone ok gains s
  | .calStoreWrite fe sect => Sys2Proof.Machine.execCalStoreWrite fe sect s
  | .swapRequest m w v => Sys2Proof.Machine.execSwapRequest m w v s
  | .fadeEnd w => Sys2Proof.Machine.execFadeEnd w s
  | .filterOutput w xs ys => Sys2Proof.Machine.execFilterOutput w xs ys s
  | .warmComplete w => Sys2Proof.Machine.execWarmComplete w s
  | .detectorBlock n => Sys2Proof.Machine.execDetectorBlock n s
  | .loudnessUpdate n => Sys2Proof.Machine.execLoudnessUpdate n s
  | .silenceEnter n => Sys2Proof.Machine.execSilenceEnter n s
  | .silenceExit n => Sys2Proof.Machine.execSilenceExit n s
  | .overRepeat n => Sys2Proof.Machine.execOverRepeat n s
  | .intReset m n => Sys2Proof.Machine.execIntReset m n s
  | .demodBlock w level snr => Sys2Proof.Machine.execDemodBlock w level snr s
  | .metricIntervalEnd w interval a b => Sys2Proof.Machine.execMetricIntervalEnd w interval a b s
  | .pilotFound n => Sys2Proof.Machine.execPilotFound n s
  | .pilotLost n pll => Sys2Proof.Machine.execPilotLost n pll s
  | .noiseBlank w => Sys2Proof.Machine.execNoiseBlank w s
  | .rdsBit n => Sys2Proof.Machine.execRdsBit n s
  | .demodWarmDone n => Sys2Proof.Machine.execDemodWarmDone n s
  | .carrierLocked n => Sys2Proof.Machine.execCarrierLocked n s
  | .carrierLost n => Sys2Proof.Machine.execCarrierLost n s
  | .amLockBound n => Sys2Proof.Machine.execAmLockBound n s
  | .detectorReturnSync n => Sys2Proof.Machine.execDetectorReturnSync n s
  | .sidebandEval n lsb usb => Sys2Proof.Machine.execSidebandEval n lsb usb s
  | .branchSwitch n => Sys2Proof.Machine.execBranchSwitch n s
  | .ofdmSyncAdvance n mode so offset sco => Sys2Proof.Machine.execOfdmSyncAdvance n mode so offset sco s
  | .ofdmSyncLost n => Sys2Proof.Machine.execOfdmSyncLost n s
  | .ofdmResyncSuccess n => Sys2Proof.Machine.execOfdmResyncSuccess n s
  | .ofdmResyncTimeout n => Sys2Proof.Machine.execOfdmResyncTimeout n s
  | .modeUnsupported n => Sys2Proof.Machine.execModeUnsupported n s
  | .ofdmAcqTimeout n => Sys2Proof.Machine.execOfdmAcqTimeout n s
  | .ofdmFrameEnd n mer offset sco a b => Sys2Proof.Machine.execOfdmFrameEnd n mer offset sco a b s
  | .controlBlockReceived n c => Sys2Proof.Machine.execControlBlockReceived n c s
  | .selectionSwitch n => Sys2Proof.Machine.execSelectionSwitch n s
  | .multiplexReconfigure n => Sys2Proof.Machine.execMultiplexReconfigure n s
  | .superframeDecoded n sel b => Sys2Proof.Machine.execSuperframeDecoded n sel b s
  | .preambleMeasured n mer inWindow => Sys2Proof.Machine.execPreambleMeasured n mer inWindow s
  | .announcementEntry n asw cluster sub new region => Sys2Proof.Machine.execAnnouncementEntry n asw cluster sub new region s
  | .announcementTimeout n cluster => Sys2Proof.Machine.execAnnouncementTimeout n cluster s
  | .rdsBlock n => Sys2Proof.Machine.execRdsBlock n s
  | .figReceived n => Sys2Proof.Machine.execFigReceived n s
  | .padDataGroup n => Sys2Proof.Machine.execPadDataGroup n s
  | .packetReceived n => Sys2Proof.Machine.execPacketReceived n s
  | .drmSdcEntity n e => Sys2Proof.Machine.execDrmSdcEntity n e s
  | .qualityReport n time => Sys2Proof.Machine.execQualityReport n time s
  | .gbSweep => Sys2Proof.Machine.execGbSweep s
  | .gbCheckpointWrite => Sys2Proof.Machine.execGbCheckpointWrite s
  | .gbDailyCheckpoint => Sys2Proof.Machine.execGbDailyCheckpoint s
  | .gbRestoreDone => Sys2Proof.Machine.execGbRestoreDone s
  | .gbConfig ph tag args => Sys2Proof.Machine.execGbConfig ph tag args s
  | .gbLookup ph tag args => Sys2Proof.Machine.execGbLookup ph tag args s
  | .gbInsert ph tag args => Sys2Proof.Machine.execGbInsert ph tag args s
  | .gbDelete ph tag args => Sys2Proof.Machine.execGbDelete ph tag args s
  | .gbFlags ph tag args => Sys2Proof.Machine.execGbFlags ph tag args s
  | .gbLink ph tag args => Sys2Proof.Machine.execGbLink ph tag args s
  | .gbUnlink ph tag args => Sys2Proof.Machine.execGbUnlink ph tag args s
  | .gbCheckpoint ph tag args => Sys2Proof.Machine.execGbCheckpoint ph tag args s
  | .gbClear ph tag args => Sys2Proof.Machine.execGbClear ph tag args s
  | .gbStatus ph tag args => Sys2Proof.Machine.execGbStatus ph tag args s
  | .scanPlan ph tag args => Sys2Proof.Machine.execScanPlan ph tag args s
  | .scanCtl ph tag args => Sys2Proof.Machine.execScanCtl ph tag args s
  | .scanStatus ph tag args => Sys2Proof.Machine.execScanStatus ph tag args s
  | .scanTaskStart => Sys2Proof.Machine.execScanTaskStart s
  | .scanTaskEnd k cause => Sys2Proof.Machine.execScanTaskEnd k cause s
  | .scanCycleStart => Sys2Proof.Machine.execScanCycleStart s
  | .followSeek n home sub => Sys2Proof.Machine.execFollowSeek n home sub s
  | .followSurvey n home k => Sys2Proof.Machine.execFollowSurvey n home k s
  | .verifyIdentityPass n sub => Sys2Proof.Machine.execVerifyIdentityPass n sub s
  | .verifyTimeout n => Sys2Proof.Machine.execVerifyTimeout n s
  | .verifyQualityCheck n => Sys2Proof.Machine.execVerifyQualityCheck n s
  | .correlationMeasured n => Sys2Proof.Machine.execCorrelationMeasured n s
  | .followSwitchDue n => Sys2Proof.Machine.execFollowSwitchDue n s
  | .blendStart n => Sys2Proof.Machine.execBlendStart n s
  | .blendEnd n => Sys2Proof.Machine.execBlendEnd n s
  | .sourceLost n => Sys2Proof.Machine.execSourceLost n s
  | .annFadeIn n => Sys2Proof.Machine.execAnnFadeIn n s
  | .recentre m n v => Sys2Proof.Machine.execRecentre m n v s
  | .sfForce ph tag args => Sys2Proof.Machine.execSfForce ph tag args s
  | .sfHome ph tag args => Sys2Proof.Machine.execSfHome ph tag args s
  | .sfStatus ph tag args => Sys2Proof.Machine.execSfStatus ph tag args s
  | .accessUnitDecoded n u => Sys2Proof.Machine.execAccessUnitDecoded n u s
  | .laneSelect m n v => Sys2Proof.Machine.execLaneSelect m n v s
  | .selectPendingTakes n => Sys2Proof.Machine.execSelectPendingTakes n s
  | .xfadeDone n => Sys2Proof.Machine.execXfadeDone n s
  | .gainWrite m n v => Sys2Proof.Machine.execGainWrite m n v s
  | .rampEnd n => Sys2Proof.Machine.execRampEnd n s
  | .laneSample n => Sys2Proof.Machine.execLaneSample n s
  | .hostPcmDescriptor n k => Sys2Proof.Machine.execHostPcmDescriptor n k s
  | .hostPcmMarkStart n k => Sys2Proof.Machine.execHostPcmMarkStart n k s
  | .hostUnderrun n k => Sys2Proof.Machine.execHostUnderrun n k s
  | .asrcReacquireDone n => Sys2Proof.Machine.execAsrcReacquireDone n s
  | .asrcInCountRead m n => Sys2Proof.Machine.execAsrcInCountRead m n s
  | .portFrame n e period xs missing => Sys2Proof.Machine.execPortFrame n e period xs missing s
  | .zcStartPass n slot => Sys2Proof.Machine.execZcStartPass n slot s
  | .zcTimeout n slot => Sys2Proof.Machine.execZcTimeout n slot s
  | .portStopped n => Sys2Proof.Machine.execPortStopped n s
  | .tapBlock n => Sys2Proof.Machine.execTapBlock n s
  | .clockLost n => Sys2Proof.Machine.execClockLost n s
  | .clockReturned n => Sys2Proof.Machine.execClockReturned n s
  | .glitchFrame n => Sys2Proof.Machine.execGlitchFrame n s
  | .rateStep n period => Sys2Proof.Machine.execRateStep n period s
  | .hybridLock n => Sys2Proof.Machine.execHybridLock n s
  | .portRestart m n => Sys2Proof.Machine.execPortRestart m n s
  | .groupArm m g v => Sys2Proof.Machine.execGroupArm m g v s
  | .groupGo m g v => Sys2Proof.Machine.execGroupGo m g v s
  | .groupFireEpoch g => Sys2Proof.Machine.execGroupFireEpoch g s
  | .syncInEdge e => Sys2Proof.Machine.execSyncInEdge e s
  | .syncOutPulse e => Sys2Proof.Machine.execSyncOutPulse e s
  | .qConsWrite m n v => Sys2Proof.Machine.execQConsWrite m n v s
  | .qProdWrite m n v => Sys2Proof.Machine.execQProdWrite m n v s
  | .hostDescriptorTake n => Sys2Proof.Machine.execHostDescriptorTake n s
  | .descriptorRetire n => Sys2Proof.Machine.execDescriptorRetire n s
  | .recordCommit n r => Sys2Proof.Machine.execRecordCommit n r s
  | .iqBlock n => Sys2Proof.Machine.execIqBlock n s
  | .finalDescriptorCommit n => Sys2Proof.Machine.execFinalDescriptorCommit n s
  | .phTdPush m ph v => Sys2Proof.Machine.execPhTdPush m ph v s
  | .phTdPop m ph => Sys2Proof.Machine.execPhTdPop m ph s
  | .phThPush m ph v => Sys2Proof.Machine.execPhThPush m ph v s
  | .phThPop m ph => Sys2Proof.Machine.execPhThPop m ph s
  | .tdEmptyReq m ph => Sys2Proof.Machine.execTdEmptyReq m ph s
  | .thEmptyReq m ph => Sys2Proof.Machine.execThEmptyReq m ph s
  | .messageTimeout ph => Sys2Proof.Machine.execMessageTimeout ph s
  | .unknownOpcode ph tag opcode => Sys2Proof.Machine.execUnknownOpcode ph tag opcode s
  | .sysPing ph tag args => Sys2Proof.Machine.execSysPing ph tag args s
  | .sysVersion ph tag => Sys2Proof.Machine.execSysVersion ph tag s
  | .sysFault ph tag => Sys2Proof.Machine.execSysFault ph tag s
  | .sysStandby ph tag mask => Sys2Proof.Machine.execSysStandby ph tag mask s
  | .sysNoticeCfg ph tag mask => Sys2Proof.Machine.execSysNoticeCfg ph tag mask s
  | .bellRing m toHost v => Sys2Proof.Machine.execBellRing m toHost v s
  | .bellClear m toHost v => Sys2Proof.Machine.execBellClear m toHost v s
  | .eventLatchClear m k v => Sys2Proof.Machine.execEventLatchClear m k v s
  | .qspiWrite addr data cut => Sys2Proof.Machine.execQspiWrite addr data cut s
  | .qspiRead addr n delay => Sys2Proof.Machine.execQspiRead addr n delay s
  | .qspiWriteFixed addr data cut => Sys2Proof.Machine.execQspiWriteFixed addr data cut s
  | .qspiReadFixed addr n delay => Sys2Proof.Machine.execQspiReadFixed addr n delay s
  | .qspiStatus n => Sys2Proof.Machine.execQspiStatus n s
  | .qspiQread q max sent delay => Sys2Proof.Machine.execQspiQread q max sent delay s
  | .qspiQwrite q data cut => Sys2Proof.Machine.execQspiQwrite q data cut s
  | .qspiProtocolReset => Sys2Proof.Machine.execQspiProtocolReset s
  | .qspiUnknownOpcode opcode => Sys2Proof.Machine.execQspiUnknownOpcode opcode s
  | .hspiCfgTakesEffect => Sys2Proof.Machine.execHspiCfgTakesEffect s
  | .twtWrite mode whole addr data cut => Sys2Proof.Machine.execTwtWrite mode whole addr data cut s
  | .twtRead late => Sys2Proof.Machine.execTwtRead late s
  | .twtMisplacedStart => Sys2Proof.Machine.execTwtMisplacedStart s
  | .twtBusTimeout => Sys2Proof.Machine.execTwtBusTimeout s
  | .twcGo m v => Sys2Proof.Machine.execTwcGo m v s
  | .twcTransferDone nackAddr nackData rx => Sys2Proof.Machine.execTwcTransferDone nackAddr nackData rx s
  | .twcArbLost => Sys2Proof.Machine.execTwcArbLost s
  | .twcArbRetry => Sys2Proof.Machine.execTwcArbRetry s
  | .twcSclTimeout => Sys2Proof.Machine.execTwcSclTimeout s
  | .twcSdaTimeout => Sys2Proof.Machine.execTwcSdaTimeout s
  | .twcBusCleared => Sys2Proof.Machine.execTwcBusCleared s
  | .twcBusStuck => Sys2Proof.Machine.execTwcBusStuck s
  | .twcTxPush m v => Sys2Proof.Machine.execTwcTxPush m v s
  | .twcRxPop m => Sys2Proof.Machine.execTwcRxPop m s
  | .ibrFifoPop m => Sys2Proof.Machine.execIbrFifoPop m s
  | .ibrRequestStart => Sys2Proof.Machine.execIbrRequestStart s
  | .ibrRepeat => Sys2Proof.Machine.execIbrRepeat s
  | .ibrWithdraw => Sys2Proof.Machine.execIbrWithdraw s
  | .ibrUnserved => Sys2Proof.Machine.execIbrUnserved s
  | .ibrFrameEnd accepted => Sys2Proof.Machine.execIbrFrameEnd accepted s
  | .ibrServe addr reason => Sys2Proof.Machine.execIbrServe addr reason s
  | .refQualified => Sys2Proof.Machine.execRefQualified s
  | .refLost => Sys2Proof.Machine.execRefLost s
  | .rootLocked => Sys2Proof.Machine.execRootLocked s
  | .rootLockLost => Sys2Proof.Machine.execRootLockLost s
  | .timingFault => Sys2Proof.Machine.execTimingFault s
  | .glideEnd => Sys2Proof.Machine.execGlideEnd s
  | .refCfgWrite m v => Sys2Proof.Machine.execRefCfgWrite m v s
  | .phaseTrimWrite m v => Sys2Proof.Machine.execPhaseTrimWrite m v s
  | .trimDone => Sys2Proof.Machine.execTrimDone s
  | .epochLoad m v => Sys2Proof.Machine.execEpochLoad m v s
  | .clkOutConfigWrite m n div v => Sys2Proof.Machine.execClkOutConfigWrite m n div v s
  | .clkOutChangeApplied n => Sys2Proof.Machine.execClkOutChangeApplied n s
  | .vinWarning => Sys2Proof.Machine.execVinWarning s
  | .saddlebagSaveDone us => Sys2Proof.Machine.execSaddlebagSaveDone us s
  | .warmResume ticks vcore => Sys2Proof.Machine.execWarmResume ticks vcore s
  | .warmResumeReady ticks => Sys2Proof.Machine.execWarmResumeReady ticks s
  | .feedResume n => Sys2Proof.Machine.execFeedResume n s
  | .vinReset => Sys2Proof.Machine.execVinReset s
  | .railFault rail => Sys2Proof.Machine.execRailFault rail s
  | .feedOnWrite m n v => Sys2Proof.Machine.execFeedOnWrite m n v s
  | .feedSoftStartDone n => Sys2Proof.Machine.execFeedSoftStartDone n s
  | .feedShort n => Sys2Proof.Machine.execFeedShort n s
  | .feedRetry n => Sys2Proof.Machine.execFeedRetry n s
  | .feedOpen n => Sys2Proof.Machine.execFeedOpen n s
  | .feedOpenCleared n => Sys2Proof.Machine.execFeedOpenCleared n s
  | .feedReverse n => Sys2Proof.Machine.execFeedReverse n s
  | .standbyEntered => Sys2Proof.Machine.execStandbyEntered s
  | .wakePin => Sys2Proof.Machine.execWakePin s
  | .rtcAlarm => Sys2Proof.Machine.execRtcAlarm s
  | .twtWakeMatch => Sys2Proof.Machine.execTwtWakeMatch s
  | .resetN => Sys2Proof.Machine.execResetN s
  | .keeperReset => Sys2Proof.Machine.execKeeperReset s
  | .rtcSet m v => Sys2Proof.Machine.execRtcSet m v s
  | .shadowCopy => Sys2Proof.Machine.execShadowCopy s
  | .migrationComplete duty => Sys2Proof.Machine.execMigrationComplete duty s
  | .watchdogExpired core => Sys2Proof.Machine.execWatchdogExpired core s
  | .memoryEccError a => Sys2Proof.Machine.execMemoryEccError a s
  | .coreStatus ph tag args => Sys2Proof.Machine.execCoreStatus ph tag args s
  | .coreRetire ph tag args => Sys2Proof.Machine.execCoreRetire ph tag args s
  | .coreRestore ph tag args => Sys2Proof.Machine.execCoreRestore ph tag args s
  | .coreStartDone core => Sys2Proof.Machine.execCoreStartDone core s
  | .coreMigrate ph tag args => Sys2Proof.Machine.execCoreMigrate ph tag args s
  | .fwVerify ph tag args => Sys2Proof.Machine.execFwVerify ph tag args s
  | .fwActivate ph tag args => Sys2Proof.Machine.execFwActivate ph tag args s
  | .fwRollDone => Sys2Proof.Machine.execFwRollDone s
  | .updSetBoot ph tag args => Sys2Proof.Machine.execUpdSetBoot ph tag args s
  | .calRestore ph tag args => Sys2Proof.Machine.execCalRestore ph tag args s
  | .unitReplace ph tag args => Sys2Proof.Machine.execUnitReplace ph tag args s
  | .nvGo m => Sys2Proof.Machine.execNvGo m s
  | .nvAbort m => Sys2Proof.Machine.execNvAbort m s
  | .nvPageWritten ok => Sys2Proof.Machine.execNvPageWritten ok s
  | .linkTrained latency hb abi => Sys2Proof.Machine.execLinkTrained latency hb abi s
  | .linkTrainRetry => Sys2Proof.Machine.execLinkTrainRetry s
  | .heartbeatSend => Sys2Proof.Machine.execHeartbeatSend s
  | .heartbeatReceived hb offset => Sys2Proof.Machine.execHeartbeatReceived hb offset s
  | .heartbeatLoss lost => Sys2Proof.Machine.execHeartbeatLoss lost s
  | .mirrorFrame seq addr v => Sys2Proof.Machine.execMirrorFrame seq addr v s
  | .ferryWriteFrame wd addr v m => Sys2Proof.Machine.execFerryWriteFrame wd addr v m s
  | .ferryReadReq wd addr m tag => Sys2Proof.Machine.execFerryReadReq wd addr m tag s
  | .ferryEventFrame e => Sys2Proof.Machine.execFerryEventFrame e s
  | .ferryMessageFrame msg => Sys2Proof.Machine.execFerryMessageFrame msg s
  | .replayRequest seq => Sys2Proof.Machine.execReplayRequest seq s
  | .ferryBadFrame => Sys2Proof.Machine.execFerryBadFrame s
  | .mirrorGapTimeout => Sys2Proof.Machine.execMirrorGapTimeout s
  | .resyncDone a => Sys2Proof.Machine.execResyncDone a s
  | .leadClaim low => Sys2Proof.Machine.execLeadClaim low s
  | .releaseSilenceEnd low => Sys2Proof.Machine.execReleaseSilenceEnd low s
  | .wireCheckFail => Sys2Proof.Machine.execWireCheckFail s
  | .takeover epoch => Sys2Proof.Machine.execTakeover epoch s
  | .prStatus ph tag args => Sys2Proof.Machine.execPrStatus ph tag args s
  | .prHandover ph tag args partner => Sys2Proof.Machine.execPrHandover ph tag args partner s
  | .handoverRelease => Sys2Proof.Machine.execHandoverRelease s
  | .handoverEpoch => Sys2Proof.Machine.execHandoverEpoch s
  | .prTake ph tag args => Sys2Proof.Machine.execPrTake ph tag args s
  | .prResync ph tag args => Sys2Proof.Machine.execPrResync ph tag args s
  | .thermalReading t => Sys2Proof.Machine.execThermalReading t s
  | .thermalRecover => Sys2Proof.Machine.execThermalRecover s
  | .bookAudit => Sys2Proof.Machine.execBookAudit s
  | .faultLogWrite => Sys2Proof.Machine.execFaultLogWrite s
  | .coldBoot ticks => Sys2Proof.Machine.execColdBoot ticks s
  | .firmwareReady => Sys2Proof.Machine.execFirmwareReady s
  | .rootLockTimeout => Sys2Proof.Machine.execRootLockTimeout s
  | .selfCheckDone w ok => Sys2Proof.Machine.execSelfCheckDone w ok s
  | .mfLoadComplete => Sys2Proof.Machine.execMfLoadComplete s
  | .twcBusFree => Sys2Proof.Machine.execTwcBusFree s
  | .feedRailRegulated => Sys2Proof.Machine.execFeedRailRegulated s
  | .resyncTimeout => Sys2Proof.Machine.execResyncTimeout s
  | .wireCheckCleared => Sys2Proof.Machine.execWireCheckCleared s

end Sys2Proof.Machine
end

