-- ==== Sys2Proof/Machine/Step.lean ====
section
/-! DEFINITION. One step of the block: the command at the front of the queue is carried out; with no
command waiting, one period of the audio-master clock passes. -/

namespace Sys2Proof.Machine

/-- One step. On an empty queue the block idles for one audio-master period (R395: the epoch counts
it once the root has locked), which is the model's choice (notes/assumptions/5.md).
Mark DESIGN CHOICE: notes/assumptions/1.md.
Mark DESIGN CHOICE: notes/assumptions/5.md. -/
def step (s : State) : Host.Outcome State Fault Refusal :=
  match s.pending with
  | [] => .next (idleTick s)
  | c :: rest => exec c { s with pending := rest }

/-- The command a word spells, put at the front of the queue; the table gives no row bits, so no
word spells one and the state is unchanged. -/
def State.withFetchWord (s : State) (nbits w : Nat) : State :=
  match decodeTableWord nbits w with
  | some c => { s with pending := c :: s.pending }
  | none => s

end Sys2Proof.Machine
end

