-- ==== Sys2Proof/Machine/Lines.lean ====
section
/-! DEFINITION. What stands on the balls, read from the state (R502): of an audio port AP_BCLK, AP_FSYNC and AP_DATA, its bit
clock, the level of FSYNC at each bit clock of a frame, and each bit on the data line (R306, R307, R310, R312, R314–R316, R318,
R328, R333, R471, R480, R481); the clock outputs (R413); every other ball; and the groups of bits of a quad-SPI transaction (R365)
and of a request frame (R388). -/

namespace Sys2Proof.Machine

/-- The three balls of a port. -/
inductive PortBall where
  | clock
  | frame
  | data
  deriving DecidableEq, Repr

/-- What the device does with a ball: high impedance with no pull, with a weak pull-down or a weak pull-up; an input, with no
pull or a weak one; an open drain released; driven low or high; driven with its signal; terminated; unpowered, or watched by the
Keeper. -/
inductive BallUse where
  | floating
  | pulledDown
  | pulledUp
  | input
  | inputDown
  | inputUp
  | released
  | low
  | high
  | runs
  | terminated
  | unpowered
  | watched
  deriving DecidableEq, Repr

/-! ## Which balls a port drives -/

/-- Does a port leave the ball alone: AP_BCLK and AP_FSYNC of one that takes a leader's clocks (R315), and AP_DATA of one that
uses its leader's line (R316)? -/
def State.ballLent (s : State) (w : Nat) : PortBall → Bool
  | .clock | .frame => s.clkPort w != w
  | .data => s.portLine w != w

/-- Is the ball an output: BCLK of a master or hybrid, FSYNC of a master (R312), AP_DATA of an output port (R311)? -/
def State.ballIsOutput (s : State) (w : Nat) : PortBall → Bool
  | .clock => s.portClocking w == 0 || s.portClocking w == 2
  | .frame => s.portClocking w == 0
  | .data => !s.flag w PORT.PORT_CFG_DIR

/-- DRIVING as PORT_STATUS reads it (R333). -/
def State.driveOn (s : State) (w : Nat) : Bool := PORT.PORT_STATUS_DRIVING.of (s.portRead w 0x080) == 1

/-- Is the port disabled, or has SAFE or FAULT found it so (R56)? -/
def State.portOff (s : State) (w : Nat) : Bool := !s.present w || !s.flag w UCB.UNIT_CTL_ENABLE

/-- Does the port stand still: IDLE, or SAFE or FAULT with RUN at 0 (R318, R56)? -/
def State.portStill (s : State) (w : Nat) : Bool :=
  s.atomState w == stIDLE || ((s.atomState w == stSAFE || s.atomState w == stFAULT) && !s.flag w UCB.UNIT_CTL_RUN)

/-- Are AP_BCLK and AP_FSYNC outputs held low: in a harmless state while the root is not trusted (R480), or by a master that
waits to start with CLK_BEFORE_START at 0 (R318); or as a standby entry has stopped them (R434)? -/
def State.clocksHeld (s : State) (w : Nat) : Bool :=
  s.power.saving == 2 || ((s.f3 || s.atomState w == stSAFE || s.atomState w == stFAULT) && !s.trusted) ||
    (s.portClocking w == 0 && !s.flag w PORT.PORT_CTL_CLK_BEFORE_START && !s.flag w PORT.PORT_STATUS_STARTED)

/-- Is the whole of AP_DATA held low: its clock lost (R328), its clocks not running, or an F3 that takes it low at once (R481)? -/
def State.dataHeld (s : State) (w : Nat) : Bool :=
  s.power.dataLow || s.flag w PORT.PORT_STATUS_CLOCK_LOST || (s.portClocking w != 1 && s.clocksHeld (s.clkPort w))

/-- An output ball with its drive allowed: low in IDLE, and otherwise its signal, where nothing holds it low. -/
def State.outputUse (s : State) (w : Nat) (b : PortBall) : BallUse :=
  let held := match b with
    | .clock | .frame => s.clocksHeld w
    | .data => s.dataHeld w
  if s.portStill w || held then .low else .runs

/-- Does the main die stand in retention, or resume from it (R425)? -/
def State.retained (s : State) : Bool := s.power.die == 2 || s.power.die == 4

/-- What a port does with one of its balls while the main die is powered. In retention every ball is driven low, but those of a
paired port and those of a port that the part does not have (R502, R471); after a reset none is driven. -/
def State.portBall (s : State) (w : Nat) (b : PortBall) : BallUse :=
  if s.retained then
    (if !s.present w || (s.rd blkFerry FERRY.PORT_PAIRED.off).getLsbD (instOf w) then .pulledDown else .low)
  else if s.power.die ≠ 0 ∨ s.portOff w ∨ s.ballLent w b then .pulledDown
  else if !s.ballIsOutput w b then .input
  else if !s.driveOn w then .pulledDown
  else s.outputUse w b

/-! ## The bit clock (R307, R312, R314, R328) -/

/-- Bit clocks in a frame: the leader's SLOT_BITS times its slots (R307). -/
def State.frameBits (s : State) (w : Nat) : Nat := slotBits (s.fld (s.clkPort w) PORT.PORT_CFG_SLOT_BITS) * s.portSlots w

/-- The bit clock in Hz, as a fraction: the nominal rate times the frame's bits in a master and in a hybrid that has not locked;
in a hybrid that has locked, and while its clock is lost, the rate of the last good frames (R314, R328). Where RATE is 0 and no
rate is detected yet, the spec gives no nominal rate: a free value.
Mark DESIGN CHOICE: notes/assumptions/269.md. -/
def State.bitClock (s : State) (w : Nat) : Nat × Nat :=
  let m := s.clkPort w
  let period := (s.rd m PORT.FRAME_PERIOD.off).toNat
  if s.portClocking w ≠ 0 ∧ period ≠ 0 ∧ (s.flag m PORT.PORT_STATUS_CLK_OK ∨ s.flag m PORT.PORT_STATUS_CLOCK_LOST) then
    (6291456000 * s.frameBits w, period)
  else ((if s.portRate m = 0 then s.freshWord.toNat else s.portRate m) * s.frameBits w, 1)

/-- Periods of the root clock of 1,474.56 MHz per second. -/
def rootHz : Nat := 1474560000

/-- The root-clock edge on which the divider places edge `k` of BCLK, two to a bit clock, counted from a frame boundary that lies
on a root edge: the exact place where there is one, else one of the two beside it (R312).
Mark DESIGN CHOICE: notes/assumptions/269.md. -/
def State.rootEdge (s : State) (w k : Nat) : Int :=
  let c := s.bitClock w
  between ((k * rootHz * c.2 : Nat) : Int) (2 * c.1) (Config.rounds s.fresh k)

/-- Does data change on the falling edge of BCLK, the one sampled being the rising: the other way round with BCLK_INV (R306). -/
def State.drivesOnFall (s : State) (w : Nat) : Bool := !s.flag (s.clkPort w) PORT.PORT_CFG_BCLK_INV

/-! ## The edges of a clock output (R412, R414) -/

/-- The root-clock edge of rising edge `k` of a running output of the divided root, counted from the place it is aligned to, where
it is: the divider's periods are the whole numbers beside N ÷ D, so that they vary by at most one root period. An output that is
not aligned stands at an arbitrary phase: a free value.
Mark DESIGN CHOICE: notes/assumptions/269.md. -/
def State.clkRise (s : State) (n k : Nat) : Nat :=
  let nn := s.fld blkClk (clkOut CLK.CLK_OUT_DIV_N n)
  let d := Nat.max 1 (s.fld blkClk (clkOut CLK.CLK_OUT_DIV_D n))
  (k * nn + (if s.outAligned n then 0 else s.freshWord.toNat % Nat.max 1 nn)) / d

/-- The root-clock edge of the falling edge after rising edge `k`: half a period on with D = 1, within one root period of it where
N is odd; with D above 1 the spec gives no duty cycle: some root edge before the next rising edge, a free value.
Mark DESIGN CHOICE: notes/assumptions/269.md. -/
def State.clkFall (s : State) (n k : Nat) : Nat :=
  let period := s.clkRise n (k + 1) - s.clkRise n k
  let f := (Config.freeWord (s.fresh + 1 + k)).toNat
  if s.fld blkClk (clkOut CLK.CLK_OUT_DIV_D n) ≤ 1 then s.clkRise n k + (period + (if period % 2 = 1 then f % 2 else 0)) / 2
  else s.clkRise n k + 1 + f % (period - 1)

/-! ## FSYNC and the place of the data (R306) -/

/-- FSYNC at bit clock `k` of a frame, before FSYNC_INV: I²S low and then high, left-justified high and then low, TDM a pulse of one
bit clock or one slot. -/
def State.fsyncShape (s : State) (w k : Nat) : Bool :=
  let m := s.clkPort w
  let b := slotBits (s.fld m PORT.PORT_CFG_SLOT_BITS)
  match s.fld m PORT.PORT_CFG_FORMAT with
  | 0 => decide (b ≤ k)
  | 1 => decide (k < b)
  | _ => decide (k < (if s.flag m PORT.PORT_CFG_FSYNC_WIDTH then b else 1))

/-- The level of AP_FSYNC at bit clock `k` of a frame. -/
def State.fsyncLevel (s : State) (w k : Nat) : Bool := s.fsyncShape w k != s.flag (s.clkPort w) PORT.PORT_CFG_FSYNC_INV

/-- The bit clocks between the edge of FSYNC that begins a frame and its first data bit. -/
def State.dataStart (s : State) (w : Nat) : Nat :=
  match s.fld (s.clkPort w) PORT.PORT_CFG_FORMAT with
  | 0 => 1
  | 1 => 0
  | _ => s.fld (s.clkPort w) PORT.PORT_CFG_DATA_DELAY

/-! ## Bits on the data line (R307, R310, R316) -/

/-- One place on a data line: high impedance, or a bit. -/
inductive LineBit where
  | floating
  | bit (b : Bool)
  deriving DecidableEq, Repr

/-- The port of the device that drives slot `i` of the line of port `w`, if any: an output port on that line whose drive is
allowed and which runs. -/
def State.slotDriver (s : State) (w i : Nat) : Option Nat :=
  allPorts.find? (fun p => s.present p && s.portLine p == s.portLine w && (s.slotMap p).testBit i && s.driveOn p &&
    (s.portRuns p || s.atomState p == stSAFE))

/-- Bit `j` of a slot that port `p` drives, 0 the first sent: the word most significant bit first, and then 0 (R307). A port whose
AP_DATA is held low sends 0 (R481). -/
def State.wordBit (s : State) (p i j : Nat) : Bool :=
  let b := wordBits (s.fld p PORT.PORT_CFG_WORD_BITS)
  let x := unsigned b ((s.hs p hsOut).getD (s.slotPlace p i) 0)
  !s.apDataLow p && decide (j < b) && x.testBit (b - 1 - j)

/-- Bit `j` of slot `i` on the line of an output port. A slot that no port of the device drives carries 0, or leaves the line at
high impedance with TRISTATE_UNUSED, as the line's own port has it (R310).
Mark DEDUCED: notes/assumptions/270.md. -/
def State.slotBit (s : State) (w i j : Nat) : LineBit :=
  match s.slotDriver w i with
  | some p => .bit (s.wordBit p i j)
  | none => if s.flag (s.portLine w) PORT.PORT_CTL_TRISTATE_UNUSED then .floating else .bit false

/-- What stands on AP_DATA of port `w` at bit clock `k` after the first data bit of a frame. -/
def State.lineBit (s : State) (w k : Nat) : LineBit :=
  let b := slotBits (s.fld (s.clkPort w) PORT.PORT_CFG_SLOT_BITS)
  match s.portBall w .data with
  | .runs => s.slotBit w (k / b % s.portSlots w) (k % b)
  | .low => .bit false
  | _ => .floating

/-! ## Every ball (R502, R413, R480, R513) -/

/-- The balls, by what they carry; TCK with TRST_N, TMS with TDI, and the straps together. -/
inductive Ball where
  | port (n : Fin 32) (b : PortBall)
  | clkOut (n : Fin 4) (neg : Bool)
  | hspiCsN
  | hspiClk
  | hspiIo (n : Fin 4)
  | twt
  | strap
  | twc
  | irq (n : Fin 4)
  | pairLeadN
  | ferryTx
  | ferryRx
  | gpio (n : Fin 16)
  | syncOut
  | syncIn
  | tckTrst
  | tmsTdi
  | tdo
  | faultN
  | pwrGood
  | wake
  | resetN
  | feed (n : Fin 8)
  | antIn
  deriving DecidableEq, Repr

/-- A ball of CLK_OUT_n, P or N: it toggles, or stands low while its output is enabled or waits for a change, or is let go; in
format 2 the N ball is driven low (R412, R413). -/
def State.clkBall (s : State) (n : Nat) (neg : Bool) : BallUse :=
  if s.retained then .low
  else if s.flag blkClk (clkOut CLK.CLK_OUT_STATUS_RUNNING n) then
    (if neg && s.fld blkClk (clkOut CLK.CLK_OUT_CFG_FORMAT n) == 2 then .low else .runs)
  else if s.flag blkClk (clkOut CLK.CLK_OUT_CFG_ENABLE n) || s.flag blkClk (clkOut CLK.CLK_OUT_STATUS_PENDING n) then .low
  else .pulledDown

/-- IRQ_p, active low, open-drain or push-pull (R361, R362). -/
def State.irqBall (s : State) (p : Nat) : BallUse :=
  if s.retained || s.irqAsserted p then .low
  else if (s.rd blkEvents 0x040).getLsbD p then .high else .released

/-- GPIO_CFG_n as its ball has it: in retention the settings of the record, as registers of the main die are lost (R425). -/
def State.gpioCfg (s : State) (n : Nat) : Nat :=
  (if s.retained then
    match s.newestBag.bind s.bag with
    | some b => Store.get rdef b.regs (rkey blkTherm (0x100 + 4 * n))
    | none => 0
  else s.rd blkTherm (0x100 + 4 * n)).toNat

/-- GPIO_n: its safe level in F3 and in retention (R480, R425); else an output at OUT, or an input with its pull (R513). -/
def State.gpioBall (s : State) (n : Nat) : BallUse :=
  let c := s.gpioCfg n
  if s.retained || s.f3 then [.floating, .low, .high].getD (c / 16 % 4) .floating
  else if c % 2 = 1 then (if c / 2 % 2 = 1 then .high else .low)
  else [.input, .inputDown, .inputUp].getD (c / 4 % 4) .input

/-- What the device does with a ball of the Keeper, which every state of the main die leaves served (R434, R508). -/
def State.keeperBall (s : State) : Ball → Option BallUse
  | .faultN => some (if s.faultN && s.power.die != 3 then .low else .released)
  | .pwrGood => some (if s.flag blkKpr KPR.KPR_STATUS_PWR_GOOD then .high else .low)
  | .wake => some .inputDown
  | .resetN => some .inputUp
  | .feed n => some (if s.feedLit (winFeed n) then .runs else .pulledDown)
  | _ => none

/-- What the device does with a ball of the main die while it is powered. -/
def State.mainBall (s : State) : Ball → BallUse
  | .port n b => s.portBall (winPort n) b
  | .clkOut n neg => s.clkBall n neg
  | .hspiCsN => .inputUp
  | .hspiClk => .inputDown
  | .hspiIo _ => if s.retained then .floating else .pulledUp
  | .twt => if s.power.die = 0 ∧ s.ax blkHost axIbrDrive = 1 then .low else .released
  | .strap => .input
  | .twc => if s.power.die = 0 ∧ (s.twcOnBus ∨ s.flag winTWC TWC.TWC_STATUS_HOLDING) then .runs else .released
  | .irq n => s.irqBall n
  | .pairLeadN => if s.ferry.drivesLine then .low else .pulledUp
  | .ferryTx => if s.power.die = 0 ∧ s.pairOn then .runs else .floating
  | .ferryRx => .terminated
  | .gpio n => s.gpioBall n
  | .syncOut => if s.power.die = 0 ∧ s.fld 0x220 PORT.SYNC_OUT_CFG_MODE ≠ 0 then .runs else .low
  | .syncIn => .input
  | .tckTrst => .inputDown
  | .tmsTdi => .inputUp
  | .tdo => .floating
  | .antIn => .terminated
  | .faultN | .pwrGood | .wake | .resetN | .feed _ => .input

/-- What the device does with a ball between two commands (R502): in standby every ball of the main die is unpowered, and the
Keeper watches the two-wire target's.
Mark DEDUCED: notes/assumptions/272.md. -/
def State.ballUse (s : State) (b : Ball) : BallUse :=
  match s.keeperBall b with
  | some u => u
  | none =>
    if s.power.die = 3 then (if b = .twt then .watched else .unpowered)
    else s.mainBall b

/-! ## The ball map (R501) -/

/-- The letters of the ball rows: row index `k` is entry `k - 1`. -/
def ballRows : List String :=
  ["A", "B", "C", "D", "E", "F", "G", "H", "J", "K", "L", "M", "N", "P", "T", "U", "V", "W", "Y"] ++
  ["AA", "AB", "AC", "AD", "AE", "AF", "AG"]

/-- The rows AE, AF and AG, and row AD: supply, Keeper control, and ports 16 to 31. -/
def lowBalls (r c : Nat) : Option String :=
  let port := fun (name : String) => if 9 ≤ c ∧ c ≤ 24 then some (name ++ toString (c + 7)) else none
  if r = 26 then (if c ≤ 6 then some "VIN" else if c ≤ 8 then some "PGND" else port "AP_BCLK_")
  else if r = 25 then (if c ≤ 6 then some "PGND" else if c ≤ 8 then some "LX_FEED" else port "AP_FSYNC_")
  else if r = 24 then (if c ≤ 8 then
      ["LX_SYS", "LX_SYS", "LX_CORE", "LX_CORE", "FEED_RAIL", "FEED_RAIL", "WAKE", "RESET_N"][c - 1]? else port "AP_DATA_")
  else if c ≤ 8 then ["VSYS", "VSYS", "VSYS", "VSYS", "RTC_XI", "RTC_XO", "FAULT_N", "PWR_GOOD"][c - 1]?
  else if c = 12 ∨ c = 20 then some "VIO_B" else none

/-- Row A from column 4. -/
def rowA : List String :=
  ["HSPI_CS_N", "HSPI_CLK", "HSPI_IO_0", "HSPI_IO_1", "HSPI_IO_2", "HSPI_IO_3", "TWT_SCL", "TWT_SDA", "TWT_ADDR_0",
   "TWT_ADDR_1", "TWC_SCL", "TWC_SDA", "IRQ_0", "IRQ_1", "IRQ_2", "IRQ_3", "PAIR_LEAD_N", "PAIR_ROLE", "PAIR_PRESENT"] ++
  ["TCK", "TMS", "TDI", "TDO"]

/-- Row B from column 5. -/
def rowB : List String :=
  ["XTAL_IN", "XTAL_OUT", "VIO_A", "FERRY_TX_0_P", "FERRY_TX_0_N", "FERRY_TX_1_P", "FERRY_TX_1_N", "FERRY_RX_0_P",
   "FERRY_RX_0_N", "FERRY_RX_1_P", "FERRY_RX_1_N", "VIO_A", "CLK_OUT_0_P", "CLK_OUT_0_N", "CLK_OUT_1_P", "CLK_OUT_1_N"] ++
  ["CLK_OUT_2_P", "CLK_OUT_2_N", "CLK_OUT_3_P", "CLK_OUT_3_N", "VIO_A", "TRST_N"]

/-- The ball at row index `r` and column `c`, both from 1; every position that the table does not list is GND. -/
def ballAt (r c : Nat) : Option String :=
  if 23 ≤ r then lowBalls r c
  else if r = 22 then (if 9 ≤ c ∧ c ≤ 20 then some ("DNC_" ++ toString (c - 9)) else none)
  else if 20 ≤ r then (if c ≤ 6 then some "VCORE" else none)
  else if c = 1 then (if r % 2 = 0 ∧ r ≤ 16 then some ("ANT_IN_" ++ toString ((r - 2) / 2)) else none)
  else if c = 3 then (if r % 2 = 0 ∧ r ≤ 16 then some ("FEED_" ++ toString ((r - 2) / 2)) else none)
  else if r = 1 then (if 4 ≤ c then rowA[c - 4]? else none)
  else if r = 2 then (if 5 ≤ c then rowB[c - 5]? else none)
  else if r = 3 then
    (if 8 ≤ c ∧ c ≤ 15 then some ("GPIO_" ++ toString (c - 8)) else if c = 16 then some "VIO_A"
     else if 17 ≤ c ∧ c ≤ 24 then some ("GPIO_" ++ toString (c - 9))
     else if c = 25 then some "SYNC_OUT" else if c = 26 then some "SYNC_IN" else none)
  else if c = 23 then (if r = 5 ∨ r = 9 ∨ r = 13 ∨ r = 17 then some "VIO_B" else none)
  else if 24 ≤ c then some (["AP_DATA_", "AP_FSYNC_", "AP_BCLK_"].getD (c - 24) "" ++ toString (r - 4))
  else none

/-! ## The bits of a quad-SPI transaction (R365, R369) -/

/-- Lanes of the opcode, of the address, and of data by PROTO. -/
def protoLanes (p : Nat) : Nat × Nat × Nat := [(1, 1, 1), (1, 2, 2), (1, 4, 4), (4, 4, 4), (4, 4, 4)].getD p (1, 1, 1)

/-- Groups of bits that one clock edge carries, two to a cycle in DDR. -/
def protoEdges (p : Nat) : Nat := if p = 4 then 2 else 1

/-- The bits of a byte, most significant first. -/
def byteBits (b : Nat) : List Bool := (List.range 8).map (fun i => b.testBit (7 - i))

/-- The groups of bytes sent on `lanes` lanes: the most significant bit of a group on HSPI_IO_1 of two lanes and on HSPI_IO_3 of
four, one lane by itself. -/
def laneGroups (lanes : Nat) (bs : List Nat) : List (List Bool) :=
  let bits := bs.flatMap byteBits
  (List.range (bits.length / lanes)).map (fun i => (bits.drop (lanes * i)).take lanes)

/-- The bytes of an address, most significant first. -/
def addrBytes (a : Nat) : List Nat := [a / 16777216 % 256, a / 65536 % 256, a / 256 % 256, a % 256]

/-- What the host sends before the dummy cycles of a read. -/
def readRequest (p opcode a : Nat) : List (List Bool) :=
  laneGroups (protoLanes p).1 [opcode] ++ laneGroups (protoLanes p).2.1 (addrBytes a)

/-- What the device sends after them: wait bytes, the start byte, and the words, least significant byte first (R369). -/
def readReply (p waits : Nat) (ws : List Word) : List (List Bool) :=
  laneGroups (protoLanes p).2.2 (List.replicate waits 0 ++ 0x5A :: (ws.flatMap bytesOf).map BitVec.toNat)

/-- The clock cycles of a read. -/
def readCycles (p opcode a dummy waits : Nat) (ws : List Word) : Nat :=
  ((readRequest p opcode a).length + (readReply p waits ws).length) / protoEdges p + dummy

/-! ## The in-band request frame (R388) -/

/-- SDA from clock 1 on: the address, most significant bit first, and 1; the controller's answer, 0 to accept; then after
acceptance the reason byte and the controller's 1. -/
def ibrFrame (addr reason : Nat) (accepted : Bool) : List Bool :=
  (List.range 7).map (fun i => addr.testBit (6 - i)) ++ [true, !accepted] ++
    (if accepted then byteBits reason ++ [true] else [])

/-- The frame that this device's target sends (R390). -/
def State.ownIbrFrame (s : State) (accepted : Bool) : List Bool :=
  ibrFrame (0x58 + s.part.twtStrap.toNat) s.ibrReason accepted

end Sys2Proof.Machine
end

