-- ==== Sys2Proof/Safety.lean ====
section
/-! DEFINITION. What counts as a good state and a safe run: the register file and the memories stand in their one canonical
form, and no step ends in a fault or a refusal. -/

namespace Sys2Proof

open Sys2Proof.Machine

/-- The memories stand in canonical form: addresses strictly rising, no byte listed that an unlisted address reads as. -/
def Memory.wf (m : Table Byte) : Bool := Store.wf mdef m

/-- The register file stands in canonical form: no register listed that reads as its reset value. -/
def Registers.wf (r : Table Word) : Bool := Store.wf rdef r

/-- The canonical form of a state: equal contents are equal data. -/
def Canonical (s : State) : Prop := Registers.wf s.regs = true ∧ Memory.wf s.mem = true

/-- A step goes on: it ends in a next state. -/
def Goes (o : Host.Outcome State Fault Refusal) : Prop := ∃ t, o = .next t

end Sys2Proof

namespace Sys2Proof.Machine

/-! ## What a command leaves alone -/

/-- Every register outside `ks` (each a window or block with an offset) reads as before, every byte of memory reads as
before, and so do the bindings, the firmware, the FIFOs, the semaphores, the latches of 64-bit registers, the Guestbook's
and the scan's working state, the clock, the supply, the MRAM controller, the Signboard, the part and the queue. What
else may change is hidden unit state, the event board, the frames sent, the answer and the count of free values. -/
structure Frame (ks : List (Nat × Nat)) (s t : State) : Prop where
  regs : ∀ b off, (∀ k ∈ ks, rkey b off ≠ rkey k.1 k.2) → t.rd b off = s.rd b off
  mem : ∀ a, t.rdByte a = s.rdByte a
  tree : t.tree = s.tree
  fw : t.fw = s.fw
  td : t.td = s.td
  th : t.th = s.th
  sems : t.sems = s.sems
  readLatch : t.readLatch = s.readLatch
  writeLatch : t.writeLatch = s.writeLatch
  guest : t.guest = s.guest
  scan : t.scan = s.scan
  clock : t.clock = s.clock
  power : t.power = s.power
  nv : t.nv = s.nv
  signboard : t.signboard = s.signboard
  signboardGen : t.signboardGen = s.signboardGen
  part : t.part = s.part
  pending : t.pending = s.pending

/-- One more, stopping at the top (R45). -/
def counted (v : Word) : Word := if v = 0xFFFFFFFF then v else v + 1

/-- The registers that counting may touch beside the counter: its block's overflow bits and UNIT_EVENT. -/
def counterKeys (b off : Nat) : List (Nat × Nat) := [(b, off), (b, ovfOff b), (b, 0x00C)]

/-! ## When a write or a message is taken -/

/-- The write reaches its register, which may be written, and meets no refusal (R25, R50, R490, R517). -/
def State.accepts (s : State) (m b off : Nat) (v : Word) (extra : List Nat) : Bool :=
  !hostLimited s m b && (!decide (b < 0x400) || s.present b) &&
  (match regAt b off with
    | none => false
    | some r => !r.readOnly &&
      (pickCode ((if b < 0x400 then s.commonCodes b off v r else (r.valueRefuse v.toNat).toList) ++ extra)).isNone)

/-- A lead tells its standby of a host's write to what it mirrors (R463). -/
def State.told (s : State) (m b off : Nat) (v : Word) (t : State) : State :=
  if s.mirrorsReg m b off then t.mirrorWrite (w32 (baseOf b + off)) v else t

/-- `t` with the triggers fired that waited for a VALID that it sets, seen from `s` (R74, condition 3). -/
def State.firing (s t : State) : State := State.validFires (s.tree.triggers.length + 1) s t

/-- Firmware serves a message with this opcode that came whole through the pigeonhole (R355, R357, R481, R489). -/
def State.serves (s : State) (ph op : Nat) : Bool :=
  (s.fw.inService || (s.fw.running && decide (op ≤ 2))) &&
  (s.ferry.quiet || (!(s.fifo false ph).collision && !(s.fw.standing.any (fun g => g.cls == 3) && decide (2 < op))))

/-- The message's bell to the device clears (R357). -/
def State.heard (s : State) (ph : Nat) : State :=
  if s.ferry.quiet then s else { s with board := { s.board with toDev := s.board.toDev &&& ~~~(1#32 <<< ph) } }

end Sys2Proof.Machine

namespace Sys2Proof

open Sys2Proof.Machine

/-! ## Runs -/

/-- The state after `n` steps, where every one of them goes on. -/
def after : Nat → State → Option State
  | 0, s => some s
  | n + 1, s => match step s with
    | .next t => after n t
    | _ => none

/-- A run of `n` steps is safe: none of them faults or is refused. -/
def SafeRun (n : Nat) (s : State) : Prop := (after n s).isSome = true

end Sys2Proof
end

