-- ==== Sys2Proof/Certificates/Slice0/Obligations.lean ====
section
/-! DEFINITION. The statements about the model, from the rules of the spec. -/

open Sys2Proof Sys2Proof.Machine

/-- FM demodulators. In every state and on all operands that meet the hypotheses of its clause, each of these commands
    answers the next state written out in its clause, or one with the values listed there (where a Frame is given,
    every other register and the rest of the frame stand): PILOT_FOUND, PILOT_LOST, RDS_BIT, NOISE_BLANK,
    DEMOD_WARM_DONE (R182, R183, R181, R200). -/
def Obligations.FmEvents : Prop :=
  (∀ (s : State) (n : Fin 48),
     s.live (winFM n) = true → s.flag (winFM n) FM.FM_STATUS_PILOT = false → 2 ≤ s.ax (winFM n) axPilotUp →
     ∃ t, exec (.pilotFound n) s = .next t ∧
       t.flag (winFM n) FM.FM_STATUS_PILOT = true ∧
       (t.rd (winFM n) 0x00C).getLsbD evFmPilotFound = true ∧
       Frame [((winFM n), 0x080), ((winFM n), 0x00C)] s t) ∧
  (∀ (s : State) (n : Fin 48) (pll : Bool),
     s.live (winFM n) = true → s.flag (winFM n) FM.FM_STATUS_PILOT = true →
     (pll = true ∨ 1 ≤ s.ax (winFM n) axPilotDown) →
     ∃ t, exec (.pilotLost n pll) s = .next t ∧
       t.flag (winFM n) FM.FM_STATUS_PILOT = false ∧
       t.rd (winFM n) FM.PILOT_LOSS_COUNT.off = counted (s.rd (winFM n) FM.PILOT_LOSS_COUNT.off) ∧
       (t.rd (winFM n) 0x00C).getLsbD evFmPilotLost = true ∧
       Frame [((winFM n), 0x080), ((winFM n), 0x00C), ((winFM n), FM.PILOT_LOSS_COUNT.off), ((winFM n), 0x028)] s t) ∧
  (∀ (s : State) (n : Fin 48),
     s.atomState (winFM n) = stRUN → s.sinksOf (winFM n) 1 = [] →
     ∃ t, exec (.rdsBit n) s = .next t ∧
       t.rd (winFM n) FM.RDS_BIT_COUNT.off = s.rd (winFM n) FM.RDS_BIT_COUNT.off + 1 ∧
       t.hs (winFM n) hsMpx = [] ∧
       Frame [((winFM n), FM.RDS_BIT_COUNT.off)] s t) ∧
  (∀ (s : State) (n : Fin 48),
     s.atomState (winFM n) = stRUN →
     exec (.rdsBit n) s = .next (
       let r := s.through (winFM n) hsRds .rdsBit [s.fld (winFM n) FM.FM_STATUS_PILOT] (s.hs (winFM n) hsMpx);
       let bit : Int := r.2.getD 0 0 % 2;
       let conf : Int := r.2.getD 1 0 % 16;
       let t := ((r.1.setHs (winFM n) hsMpx []).bump (winFM n) FM.RDS_BIT_COUNT).setHs (winFM n) hsOut [bit, conf];
       ((t.sinksOf (winFM n) 1).filter (fun d => kindOf d == .sideData && t.atomState d == stRUN)).foldl (fun u d =>
           u.setHs d hsIn (u.hs d hsIn ++ [bit, conf, ((s.ax (winFM n) axStamp : Nat) : Int)])) t)) ∧
  (∀ (s : State) (w : Fin 1024),
     s.live w = true → kindOf w = .fmDemod → s.ax w axImpulse = 1 →
     exec (.noiseBlank w) s = .next (s.blank w (s.used w FM.NB_BLANK_SAMPLES) FM.FM_STATUS_BLANKING FM.BLANK_COUNT)) ∧
  (∀ (s : State) (w : Fin 1024),
     s.live w = true → kindOf w = .amDemod → s.ax w axImpulse = 1 →
     exec (.noiseBlank w) s = .next (s.blank w (s.used w AM.NB_BLANK_SAMPLES) AM.AM_STATUS_BLANKING AM.BLANK_COUNT)) ∧
  (∀ (s : State) (w : Fin 1024),
     s.live w = true → kindOf w = .fmDemod → s.ax w axImpulse = 1 → s.ax w axBlankLeft = 0 →
     ∃ t, exec (.noiseBlank w) s = .next t ∧
       t.flag w FM.FM_STATUS_BLANKING = true ∧
       t.rd w FM.BLANK_COUNT.off = counted (s.rd w FM.BLANK_COUNT.off) ∧
       t.ax w axBlankLeft = s.used w FM.NB_BLANK_SAMPLES ∧
       Frame [((w : Nat), FM.FM_STATUS_BLANKING.off), ((w : Nat), 0x00C), ((w : Nat), FM.BLANK_COUNT.off), ((w : Nat),
           0x028)] s t) ∧
  (∀ (s : State) (n : Fin 48),
     s.atomState (winFM n) = stWARM →
     exec (.demodWarmDone n) s = .next (s.triggered (fun t => t.setValid (winFM n) true)))

/-- Measurements of FM, AM and OFDM demodulators. In every state and on all operands that meet the hypotheses of its
    clause, each of these commands answers the next state written out in its clause, or one with the values listed
    there (where a Frame is given, every other register and the rest of the frame stand): DEMOD_BLOCK,
    METRIC_INTERVAL_END (R180, R191, R192, R225). -/
def Obligations.DemodMetrics : Prop :=
  (∀ (s : State) (w : Fin 1024) (level snr : Int),
     s.present w = true → s.live w = true → kindOf w = .fmDemod →
     exec (.demodBlock w level snr) s = .next (
       let mp := multipath (s.hs w hsAmps) ((Config.freeWord s.fresh).getLsbD 0);
       let q := qIndex snr (if s.flag w FM.FM_CFG_MP_ON then mp * s.fld w FM.FM_CFG_MP_WEIGHT else 0)
           ((Config.freeWord s.fresh).getLsbD 0);
       (((((((s.takeCfg w).useFresh.putI w FM.LEVEL_LEVEL_DBUV level).put w FM.LEVEL_Q q).put w FM.LEVEL_MP mp).putI w
           FM.SNR snr).ageBlank w FM.FM_STATUS_BLANKING).fmControls w q).divBlock w)) ∧
  (∀ (s : State) (w : Fin 1024) (level snr : Int),
     s.present w = true → s.live w = true → kindOf w = .amDemod →
     exec (.demodBlock w level snr) s = .next (
       let q := qIndex snr 0 ((Config.freeWord s.fresh).getLsbD 0);
       let u := if s.bothBranches w then s else s.put w AM.AM_STATUS_BRANCH 0;
       (((((((u.takeCfg w).amLockMs w).useFresh.putI w AM.LEVEL_LEVEL_DBUV level).put w AM.LEVEL_Q q).putI w AM.CNR
           snr).ageBlank w AM.AM_STATUS_BLANKING).amConfig w |>.amControls w q).divBlock w)) ∧
  (∀ (s : State) (w : Fin 1024) (level snr : Int),
     s.present w = true → s.live w = true → kindOf w = .ofdm → 3 ≤ s.syncState w →
     ∃ t, exec (.demodBlock w level snr) s = .next t ∧
       t.fld w OFDM.LEVEL_LEVEL_DBUV = unsigned 16 level % 65536 ∧
       Frame [((w : Nat), OFDM.LEVEL_LEVEL_DBUV.off)] s t) ∧
  (∀ (s : State) (w : Fin 1024) (a b : Int),
     s.present w = true → s.live w = true → kindOf w = .fmDemod →
     ∃ t, exec (.metricIntervalEnd w 0 a b) s = .next t ∧
       t.fld w FM.OFFSET = unsigned 32 a % 4294967296 ∧
       t.fld w FM.PILOT_DEV = b.toNat % 256 ∧
       t.ax w axPilotUp = (if s.used w FM.PILOT_MIN ≤ b.toNat then Nat.min (s.ax w axPilotUp + 1) 2 else 0) ∧
       t.ax w axPilotDown = (if b.toNat + 10 < s.used w FM.PILOT_MIN then Nat.min (s.ax w axPilotDown + 1) 2 else 0) ∧
       Frame [((w : Nat), FM.OFFSET.off), ((w : Nat), FM.PILOT_DEV.off)] s t) ∧
  (∀ (s : State) (w : Fin 1024) (a b : Int),
     s.present w = true → s.live w = true → kindOf w = .fmDemod →
     exec (.metricIntervalEnd w 1 a b) s = .next (
       let t := (((s.put w FM.DEVIATION (s.deviation w)).put w FM.RDS_DEV b.toNat).setHs w hsPeak []).useFresh;
       if s.used w FM.DEV_LIMIT < t.fld w FM.DEVIATION then (t.count w FM.OVERDEV_COUNT).raiseKind w evFmOverdev else
           t)) ∧
  (∀ (s : State) (w : Fin 1024) (a b : Int),
     s.present w = true → s.live w = true → kindOf w = .fmDemod →
     exec (.metricIntervalEnd w 2 a b) s = .next (
       let t := if s.atomState w = stRUN then s.setAx w axMpxSeconds (Nat.min (s.ax w axMpxSeconds + 1) 60) else s;
       if t.ax w axMpxSeconds = 60 then t.putI w FM.MPX_POWER a else t.put w FM.MPX_POWER 0x8000)) ∧
  (∀ (s : State) (w : Fin 1024) (a b : Int),
     s.present w = true → s.live w = true → kindOf w = .amDemod →
     exec (.metricIntervalEnd w 0 a b) s = .next (s.putI w AM.OFFSET a)) ∧
  (∀ (s : State) (w : Fin 1024) (a b : Int),
     s.present w = true → s.live w = true → kindOf w = .amDemod →
     exec (.metricIntervalEnd w 1 a b) s = .next (
       (((s.put w AM.MOD_DEPTH_NEG_DEPTH (s.modDepth w 0 100)).put w AM.MOD_DEPTH_POS_DEPTH (s.modDepth w 1
           255)).setHs w hsPeak []).useFresh)) ∧
  (∀ (s : State) (w : Fin 1024) (a b : Int),
     s.present w = true → s.live w = true → kindOf w = .ofdm → 3 ≤ s.syncState w →
     exec (.metricIntervalEnd w 2 a b) s = .next (s.put w OFDM.BER_PRE a.toNat))

/-- AM demodulators. In every state and on all operands that meet the hypotheses of its clause, each of these commands
    answers the next state written out in its clause, or one with the values listed there (where a Frame is given,
    every other register and the rest of the frame stand): CARRIER_LOCKED, AM_LOCK_BOUND, CARRIER_LOST,
    DETECTOR_RETURN_SYNC, SIDEBAND_EVAL, BRANCH_SWITCH (R186, R187, R188, R190, R197). -/
def Obligations.AmEvents : Prop :=
  (∀ (s : State) (n : Fin 16),
     exec (.carrierLocked n) s = .next (s.triggered (fun t => t.amLock (winAM n)))) ∧
  (∀ (s : State) (n : Fin 16),
     exec (.amLockBound n) s = .next (s.triggered (fun t => t.amBound (winAM n)))) ∧
  (∀ (s : State) (n : Fin 16),
     s.live (winAM n) = true → s.flag (winAM n) AM.AM_STATUS_CARRIER_LOCK = true →
     s.used (winAM n) AM.AM_CFG_DETECT = 1 →
     ∃ t, exec (.carrierLost n) s = .next t ∧
       t.flag (winAM n) AM.AM_STATUS_CARRIER_LOCK = false ∧
       t.rd (winAM n) AM.LOCK_LOSS_COUNT.off = counted (s.rd (winAM n) AM.LOCK_LOSS_COUNT.off) ∧
       (t.rd (winAM n) 0x00C).getLsbD evAmLost = true ∧
       Frame [((winAM n), 0x080), ((winAM n), 0x00C), ((winAM n), AM.LOCK_LOSS_COUNT.off), ((winAM n), 0x028)] s t) ∧
  (∀ (s : State) (n : Fin 16),
     s.live (winAM n) = true → s.flag (winAM n) AM.AM_STATUS_CARRIER_LOCK = true →
     s.used (winAM n) AM.AM_CFG_DETECT ≠ 1 → s.used (winAM n) AM.AM_CFG_FALLBACK = 1 →
     ∃ t, exec (.carrierLost n) s = .next t ∧
       t.flag (winAM n) AM.AM_STATUS_CARRIER_LOCK = false ∧
       t.flag (winAM n) AM.AM_STATUS_ENVELOPE = true ∧
       t.fld (winAM n) AM.AM_STATUS_SB_USED = 0 ∧
       t.rd (winAM n) AM.LOCK_LOSS_COUNT.off = counted (s.rd (winAM n) AM.LOCK_LOSS_COUNT.off) ∧
       Frame [((winAM n), 0x080), ((winAM n), 0x00C), ((winAM n), AM.LOCK_LOSS_COUNT.off), ((winAM n), 0x028)] s t) ∧
  (∀ (s : State) (n : Fin 16),
     s.live (winAM n) = true → s.flag (winAM n) AM.AM_STATUS_CARRIER_LOCK = true →
     s.used (winAM n) AM.AM_CFG_DETECT ≠ 1 → s.used (winAM n) AM.AM_CFG_FALLBACK ≠ 1 →
     exec (.carrierLost n) s = .next (
       (((s.put (winAM n) AM.AM_STATUS_CARRIER_LOCK 0).count (winAM n) AM.LOCK_LOSS_COUNT).raiseKind (winAM n)
           evAmLost).amUnheard (winAM n))) ∧
  (∀ (s : State) (n : Fin 16),
     s.live (winAM n) = true → s.flag (winAM n) AM.AM_STATUS_CARRIER_LOCK = true →
     s.flag (winAM n) AM.AM_STATUS_ENVELOPE = true → s.used (winAM n) AM.AM_CFG_DETECT = 0 →
     50 ≤ s.ax (winAM n) axAmLocked →
     ∃ t, exec (.detectorReturnSync n) s = .next t ∧
       t.flag (winAM n) AM.AM_STATUS_ENVELOPE = false ∧
       t.flag (winAM n) AM.AM_STATUS_CARRIER_LOCK = true ∧
       Frame [((winAM n), 0x080)] s t) ∧
  (∀ (s : State) (n : Fin 16) (lsb usb : Int),
     s.live (winAM n) = true → s.used (winAM n) AM.AM_CFG_SIDEBAND = 3 →
     s.flag (winAM n) AM.AM_STATUS_ENVELOPE = false → s.ax (winAM n) axSideLock ≤ 1 →
     ∃ t, exec (.sidebandEval n lsb usb) s = .next t ∧
       t.fld (winAM n) AM.AM_STATUS_SB_USED = sideChoice lsb usb ∧
       Frame [((winAM n), 0x080)] s t) ∧
  (∀ (s : State) (n : Fin 16),
     s.live (winAM n) = true → s.bothBranches (winAM n) = true →
     ∃ t, exec (.branchSwitch n) s = .next t ∧
       t.flag (winAM n) AM.AM_STATUS_BRANCH = !s.flag (winAM n) AM.AM_STATUS_BRANCH ∧
       t.rd (winAM n) AM.BRANCH_SWITCH_COUNT.off = counted (s.rd (winAM n) AM.BRANCH_SWITCH_COUNT.off) ∧
       (t.rd (winAM n) 0x00C).getLsbD evAmBranch = true ∧
       Frame [((winAM n), 0x080), ((winAM n), 0x00C), ((winAM n), AM.BRANCH_SWITCH_COUNT.off), ((winAM n), 0x028)] s t)

/-- Detectors. In every state and on all operands that meet the hypotheses of its clause, each of these commands
    answers the next state written out in its clause, or one with the values listed there (where a Frame is given,
    every other register and the rest of the frame stand): SILENCE_ENTER, SILENCE_EXIT, OVER_REPEAT, INT_RESET (R171,
    R172, R168, R173). -/
def Obligations.DetectorEvents : Prop :=
  (∀ (s : State) (n : Fin 32),
     s.flag (winDet n) DET.SIL_CFG_ENABLE = true → s.flag (winDet n) DET.DET_STATUS_SILENT = false →
     s.live (winDet n) = true → s.fld (winDet n) DET.SIL_TIME_ENTER_MS ≤ s.ax (winDet n) axSilEnter →
     ∃ t, exec (.silenceEnter n) s = .next t ∧
       t.flag (winDet n) DET.DET_STATUS_SILENT = true ∧
       t.rd (winDet n) DET.SILENCE_COUNT.off = counted (s.rd (winDet n) DET.SILENCE_COUNT.off) ∧
       (t.rd (winDet n) 0x00C).getLsbD evDetSilEnter = true ∧
       Frame [((winDet n), DET.DET_STATUS_SILENT.off), ((winDet n), 0x00C), ((winDet n), DET.SILENCE_COUNT.off),
           ((winDet n), 0x028)] s t) ∧
  (∀ (s : State) (n : Fin 32),
     s.flag (winDet n) DET.SIL_CFG_ENABLE = true → s.flag (winDet n) DET.DET_STATUS_SILENT = true →
     s.live (winDet n) = true → s.fld (winDet n) DET.SIL_TIME_EXIT_MS ≤ s.ax (winDet n) axSilExit →
     ∃ t, exec (.silenceExit n) s = .next t ∧
       t.flag (winDet n) DET.DET_STATUS_SILENT = false ∧
       (t.rd (winDet n) 0x00C).getLsbD evDetSilExit = true ∧
       Frame [((winDet n), DET.DET_STATUS_SILENT.off), ((winDet n), 0x00C)] s t) ∧
  (∀ (s : State) (n : Fin 32),
     s.flag (winDet n) DET.OVER_CFG_ENABLE = true → s.flag (winDet n) DET.DET_STATUS_OVER = true →
     s.live (winDet n) = true → s.overRuns (winDet n) = true → s.ax (winDet n) axOverMs = 100 →
     exec (.overRepeat n) s = .next (s.over (winDet n))) ∧
  (∀ (s : State) (m : Master) (n : Fin 32),
     s.accepts m (winDet n) 0x058 (w32 (s.fld (winDet n) DET.LOUD_CTL_INT_RUN + 2)) [] = true →
     exec (.intReset m n) s = .next (
       s.told m (winDet n) 0x058 (w32 (s.fld (winDet n) DET.LOUD_CTL_INT_RUN + 2)) (s.detWritten (winDet n) 0x058 (w32
           (s.fld (winDet n) DET.LOUD_CTL_INT_RUN + 2)))))

/-- Measurements of a detector. In every state and on all operands that meet the hypotheses of its clause, each of
    these commands answers the next state written out in its clause, or one with the values listed there:
    DETECTOR_BLOCK, LOUDNESS_UPDATE (R166, R168). -/
def Obligations.DetectorMeasures : Prop :=
  (∀ (s : State) (n : Fin 32),
     s.present (winDet n) = true → s.live (winDet n) = true → s.blockDue (winDet n) = true →
     exec (.detectorBlock n) s = .next ((s.blockDone (winDet n)).detReport n)) ∧
  (∀ (s : State) (n : Fin 32),
     s.present (winDet n) = true → s.live (winDet n) = true → s.blockDue (winDet n) = true →
     s.laneStereo n = false →
     ∃ t, exec (.detectorBlock n) s = .next t ∧
       t.rd (winDet n) DET.PEAK.off = (if s.fld (winDet n) DET.PEAK_MS ≤ Nat.min (s.ax (winDet n) axDetBlocks + 1)
           10000 then twoLevels (some ((s.blockDone (winDet n)).peakOf (winDet n) 0 (s.freshWord.getLsbD 0))) none
           else twoLevels none none)) ∧
  (∀ (s : State) (n : Fin 32),
     s.present (winDet n) = true → s.live (winDet n) = true → s.blockDue (winDet n) = true → s.laneStereo n = true →
     ∃ t, exec (.detectorBlock n) s = .next t ∧
       t.rd (winDet n) DET.PEAK.off = (if s.fld (winDet n) DET.PEAK_MS ≤ Nat.min (s.ax (winDet n) axDetBlocks + 1)
           10000 then twoLevels (some ((s.blockDone (winDet n)).peakOf (winDet n) 0 (s.freshWord.getLsbD 0))) (some
           ((s.blockDone (winDet n)).peakOf (winDet n) 1 (s.freshWord.getLsbD 1))) else twoLevels none none)) ∧
  (∀ (s : State) (n : Fin 32),
     s.present (winDet n) = true → s.live (winDet n) = true → s.loudDue (winDet n) = true →
     exec (.loudnessUpdate n) s = .next ((s.loudDone (winDet n)).loudReport (winDet n))) ∧
  (∀ (s : State) (n : Fin 32),
     s.present (winDet n) = true → s.live (winDet n) = true → s.loudDue (winDet n) = true →
     s.fld (winDet n) DET.SIL_CFG_MEASURE = 0 →
     ∃ t, exec (.loudnessUpdate n) s = .next t ∧
       t.fld (winDet n) DET.MOMENTARY = levelCode (if 4 ≤ Nat.min (s.ax (winDet n) axLoud + 1) 30 then some (loudLevel
           ((s.loudDone (winDet n)).loudEnergy (winDet n) 4) (4 * (4800 * 2 ^ 126)) (s.freshWord.getLsbD 0)) else
           none) % 65536 ∧
       t.fld (winDet n) DET.SHORT_TERM = levelCode (if 30 ≤ Nat.min (s.ax (winDet n) axLoud + 1) 30 then some
           (loudLevel ((s.loudDone (winDet n)).loudEnergy (winDet n) 30) (30 * (4800 * 2 ^ 126)) (s.freshWord.getLsbD
           1)) else none) % 65536)

/-- Front ends. In every state and on all operands that meet the hypotheses of its clause, each of these commands
    answers the next state written out in its clause, or one with the values listed there (where a Frame is given,
    every other register and the rest of the frame stand): OVERLOAD_BLOCK, OVERLOAD_CLEAR, OVL_STUCK,
    DIV_RETURN_CHECK, DIV_WINDOW_SWITCH, AGC_BLOCK, AGC_DECAY_STEP (R101, R105, R106, R108, R109). -/
def Obligations.FrontEndEvents : Prop :=
  (∀ (s : State) (fe : Fin 5) (xs : List (Int × Int)),
     s.present (feWin fe) = true → s.fePowered (feWin fe) = true →
     s.fld (feWin fe) FE.OVL_CTL_CLIP_THRESH ≤ ((xs.take 256).filter (clips (feWin fe))).length →
     s.fld (feWin fe) FE.AGC_CTL_MODE ≠ 1 →
     ∃ t, exec (.overloadBlock fe xs) s = .next t ∧
       t.flag (feWin fe) FE.FE_STATUS_OVERLOAD = true ∧
       t.rd (feWin fe) FE.OVERLOAD_COUNT.off = counted (s.rd (feWin fe) FE.OVERLOAD_COUNT.off) ∧
       (t.rd (feWin fe) 0x00C).getLsbD evFEOverload = true ∧
       Frame [((feWin fe), FE.FE_STATUS_OVERLOAD.off), ((feWin fe), 0x00C), ((feWin fe), FE.OVERLOAD_COUNT.off),
           ((feWin fe), 0x028)] s t) ∧
  (∀ (s : State) (fe : Fin 5) (xs : List (Int × Int)),
     s.present (feWin fe) = true → s.fePowered (feWin fe) = true →
     s.fld (feWin fe) FE.OVL_CTL_CLIP_THRESH ≤ ((xs.take 256).filter (clips (feWin fe))).length →
     s.fld (feWin fe) FE.AGC_CTL_MODE = 1 →
     exec (.overloadBlock fe xs) s = .next (
       (((s.putB (feWin fe) FE.FE_STATUS_OVERLOAD true).count (feWin fe) FE.OVERLOAD_COUNT).raiseKind (feWin fe)
           evFEOverload).gainOrWait (feWin fe) 3)) ∧
  (∀ (s : State) (fe : Fin 5),
     s.flag (feWin fe) FE.FE_STATUS_OVERLOAD = true →
     exec (.overloadClear fe) s = .next (
       ((s.putB (feWin fe) FE.FE_STATUS_OVERLOAD false).putB (feWin fe) FE.FE_STATUS_OVL_STUCK false).endFault (fun g
           => g.code == 0x0406 && g.win == (feWin fe)))) ∧
  (∀ (s : State) (fe : Fin 5),
     s.flag (feWin fe) FE.FE_STATUS_OVERLOAD = true → s.flag (feWin fe) FE.FE_STATUS_OVL_STUCK = false →
     s.fld (feWin fe) FE.FE_STATUS_GAIN_INDEX = s.fld (feWin fe) FE.AGC_CTL_MAX_INDEX →
     exec (.ovlStuck fe) s = .next (
       ((s.putB (feWin fe) FE.FE_STATUS_OVL_STUCK true).raiseKind (feWin fe) evFEStuck).declare ⟨0, 0x0406, (feWin
           fe), 0⟩ true)) ∧
  (∀ (s : State) (fe : Fin 4),
     s.ax (feWin fe) axFeReturn = 1 →
     s.qualityOf (s.fld (feWin fe) FE.DIV_CTL_REF_WINDOW) + 4 * s.fld (feWin fe) FE.DIV_CTL_HYST_DB ≤ s.ax (feWin fe)
         axFeBefore →
     s.seamNow (feWin fe) = false →
     exec (.divReturnCheck fe) s = .next (
       ((s.setAx (feWin fe) axFeReturn 0).switchInput (feWin fe) (!s.flag (feWin fe) FE.FE_STATUS_ON_B)).count (feWin
           fe) FE.DIV_RETURN_COUNT)) ∧
  (∀ (s : State) (fe : Fin 4),
     s.ax (feWin fe) axFeReturn = 1 →
     s.ax (feWin fe) axFeBefore < s.qualityOf (s.fld (feWin fe) FE.DIV_CTL_REF_WINDOW) + 4 * s.fld (feWin fe)
         FE.DIV_CTL_HYST_DB →
     exec (.divReturnCheck fe) s = .next (s.setAx (feWin fe) axFeReturn 0)) ∧
  (∀ (s : State) (fe : Fin 4),
     s.ax (feWin fe) axFeRequest ≠ 0 → s.fld (feWin fe) FE.DIV_CTL_MODE = 2 → s.seamDue (feWin fe) = false →
     s.flag (feWin fe) FE.FE_STATUS_ON_B ≠ decide (s.ax (feWin fe) axFeRequest = 2) →
     s.ax (s.fld (feWin fe) FE.DIV_CTL_REF_WINDOW) axOfdmProbe ≠ 1 →
     exec (.divWindowSwitch fe) s = .next (
       (((s.setAx (feWin fe) axFeRequest 0).setAx (s.fld (feWin fe) FE.DIV_CTL_REF_WINDOW) axOfdmProbe 0).switchInput
           (feWin fe) (decide (s.ax (feWin fe) axFeRequest = 2))).count (feWin fe) FE.DIV_SWITCH_COUNT)) ∧
  (∀ (s : State) (fe : Fin 4),
     s.ax (feWin fe) axFeRequest ≠ 0 → s.fld (feWin fe) FE.DIV_CTL_MODE = 2 → s.seamDue (feWin fe) = false →
     s.flag (feWin fe) FE.FE_STATUS_ON_B ≠ decide (s.ax (feWin fe) axFeRequest = 2) →
     s.ax (s.fld (feWin fe) FE.DIV_CTL_REF_WINDOW) axOfdmProbe = 1 →
     exec (.divWindowSwitch fe) s = .next (
       (((((s.setAx (feWin fe) axFeRequest 0).setAx (s.fld (feWin fe) FE.DIV_CTL_REF_WINDOW) axOfdmProbe
           0).switchInput (feWin fe) (decide (s.ax (feWin fe) axFeRequest = 2))).count (feWin fe)
           FE.DIV_SWITCH_COUNT).count (s.fld (feWin fe) FE.DIV_CTL_REF_WINDOW) OFDM.DIV_PROBE_COUNT).put (s.fld (feWin
           fe) FE.DIV_CTL_REF_WINDOW) OFDM.OFDM_STATUS_PROBING 1)) ∧
  (∀ (s : State) (fe : Fin 5) (level : Int) (co : Coincide) (v : State),
     s.present (feWin fe) = true → s.fePowered (feWin fe) = true →
     v = (s.owedStep (feWin fe) co).offsetBlock (feWin fe) →
     -(v.fld (feWin fe) FE.AGC_TIMING_TARGET : Int) - 2 * (v.fld (feWin fe) FE.AGC_TIMING_HYST : Int) ≤ level →
     level ≤ -(v.fld (feWin fe) FE.AGC_TIMING_TARGET : Int) + 2 * (v.fld (feWin fe) FE.AGC_TIMING_HYST : Int) →
     exec (.agcBlock fe level co) s = .next (
       s.firing (((((((v.putI (feWin fe) FE.LEVEL_ADC_DBFS level).putI (feWin fe) FE.LEVEL_INPUT_DBM (inputDbm (feWin
           fe) level (v.attenNow (feWin fe)))).setAx (feWin fe) axFeSince (v.ax (feWin fe) axFeSince + 1)).setAx
           (feWin fe) axFeRun 0))).setAx (feWin fe) axFeMet 1 |>.feCheck (feWin fe)))) ∧
  (∀ (s : State) (fe : Fin 5) (level : Int) (v : State),
     s.present (feWin fe) = true → s.fePowered (feWin fe) = true → s.ax (feWin fe) axFeOwed = 0 →
     v = (s.owedStep (feWin fe) .alone).offsetBlock (feWin fe) → v.fld (feWin fe) FE.AGC_CTL_MODE = 1 →
     -(v.fld (feWin fe) FE.AGC_TIMING_TARGET : Int) + 2 * (v.fld (feWin fe) FE.AGC_TIMING_HYST : Int) < level →
     v.fld (feWin fe) FE.FE_STATUS_GAIN_INDEX < v.fld (feWin fe) FE.AGC_CTL_MAX_INDEX →
     blocksLast (feWin fe) (v.ax (feWin fe) axFeSince + 1) (v.fld (feWin fe) FE.AGC_TIMING_ATTACK_US) = true →
     exec (.agcBlock fe level .alone) s = .next (
       let u := (((((((v.putI (feWin fe) FE.LEVEL_ADC_DBFS level).putI (feWin fe) FE.LEVEL_INPUT_DBM (inputDbm (feWin
           fe) level (v.attenNow (feWin fe)))).setAx (feWin fe) axFeSince (v.ax (feWin fe) axFeSince + 1)).setAx
           (feWin fe) axFeRun 0))).gainOrWait (feWin fe) 1).setAx (feWin fe) axFeSince 0;
       s.firing ((if u.fld (feWin fe) FE.FE_STATUS_GAIN_INDEX = u.fld (feWin fe) FE.AGC_CTL_MIN_INDEX then u.setAx
           (feWin fe) axFeMet 1 else u).feCheck (feWin fe)))) ∧
  (∀ (s : State) (fe : Fin 5),
     s.present (feWin fe) = true → s.fePowered (feWin fe) = true → s.fld (feWin fe) FE.AGC_CTL_MODE = 1 →
     blocksLast (feWin fe) (s.ax (feWin fe) axFeRun) (1000 * s.fld (feWin fe) FE.AGC_TIMING_DECAY_MS) = true →
     exec (.agcDecayStep fe .alone) s = .next (
       let u := (s.gainOrWait (feWin fe) 2).setAx (feWin fe) axFeRun 0;
       s.firing ((if u.fld (feWin fe) FE.FE_STATUS_GAIN_INDEX = u.fld (feWin fe) FE.AGC_CTL_MIN_INDEX then u.setAx
           (feWin fe) axFeMet 1 else u).feCheck (feWin fe)))) ∧
  (∀ (s : State) (fe : Fin 5),
     s.present (feWin fe) = true → s.fePowered (feWin fe) = true → s.fld (feWin fe) FE.AGC_CTL_MODE = 1 →
     blocksLast (feWin fe) (s.ax (feWin fe) axFeRun) (1000 * s.fld (feWin fe) FE.AGC_TIMING_DECAY_MS) = true →
     exec (.agcDecayStep fe .aerialSwitch) s = .next (
       let u := (s.setAx (feWin fe) axFeOwed 2).setAx (feWin fe) axFeRun 0;
       s.firing ((if u.fld (feWin fe) FE.FE_STATUS_GAIN_INDEX = u.fld (feWin fe) FE.AGC_CTL_MIN_INDEX then u.setAx
           (feWin fe) axFeMet 1 else u).feCheck (feWin fe))))

/-- Local oscillators and calibration steps. In every state and on all operands that meet the hypotheses of its
    clause, each of these commands answers the next state written out in its clause: TWIN_READY, LO_LOCK_ACQUIRED,
    LO_LOCK_LOST, LO_HANDOVER, CAL_STEP_DONE, CAL_STARTUP_DONE, CAL_FE_L_DONE (R120, R124, R127, R129, R131). -/
def Obligations.SynthEvents : Prop :=
  (∀ (s : State) (lo : Fin 8) (us l : Nat),
     l = 0x018 + (lo : Nat) → s.fld (pairWin (feOfLo l)) LO.TUNE_STATE = 2 → s.ax l axLoTarget ≠ 0 →
     exec (.twinReady lo us) s = .next (
       let p := pairWin (feOfLo l);
       let a := (((s.tuned l (s.ax l axLoTarget) (s.refModeOf l)).setAx l axLoTarget 0).setAx l axLoRef 0).put p
           LO.TUNE_STATE 3;
       let u := (if a.ax p axLoTune = 0 then a else a.put p LO.LAST_TUNE_US us).loLock l;
       s.firing (if l = u.servingLo (feOfLo l) then u.retuned (feOfLo l) else if u.ax p axLoRecover = 1 ∨ u.atomState
           (feOfLo l) = stHOLD then u.handover (feOfLo l) else u))) ∧
  (∀ (s : State) (lo : Fin 8) (l : Nat),
     l = 0x018 + (lo : Nat) → s.live l = true → s.fld l LO.LO_KHZ ≠ 0 → s.flag l LO.LO_STATUS_LOCKED = false →
     s.ax l axLoTarget = 0 →
     exec (.loLockAcquired lo) s = .next (
       let u := s.loLock l;
       s.firing ((if l = u.servingLo (feOfLo l) ∧ u.fld l LO.LO_STATUS_ROLE = 3 ∧ u.ax (pairWin (feOfLo l))
           axLoRecover = 0 then (u.put l LO.LO_STATUS_ROLE 1).chanUpdate (feOfLo l) else u).feChecks (feOfLo l)))) ∧
  (∀ (s : State) (lo : Fin 8) (l : Nat),
     l = 0x018 + (lo : Nat) → s.flag l LO.LO_STATUS_LOCKED = true → l ≠ s.servingLo (feOfLo l) →
     exec (.loLockLost lo) s = .next (
       let p := ((((((s.put l LO.LO_STATUS_ROLE 3).chanUpdate (feOfLo l)).putB l LO.LO_STATUS_LOCKED false).count l
           LO.LOCK_LOST_COUNT).raiseKind l evLOLost).loCheck l).noteLoss l;
       s.firing (if p.2 then (p.1.loTwinFault l).afterFault (feOfLo l) else p.1.recalDue (feOfLo l) l))) ∧
  (∀ (s : State) (lo : Fin 8) (l : Nat),
     l = 0x018 + (lo : Nat) → s.flag l LO.LO_STATUS_LOCKED = true → l = s.servingLo (feOfLo l) →
     exec (.loLockLost lo) s = .next (
       let p := ((((((s.put l LO.LO_STATUS_ROLE 3).chanUpdate (feOfLo l)).putB l LO.LO_STATUS_LOCKED false).count l
           LO.LOCK_LOST_COUNT).raiseKind l evLOLost).loCheck l).noteLoss l;
       s.firing ((if p.2 then p.1.loTwinFault l else p.1).recover (feOfLo l)))) ∧
  (∀ (s : State) (fe : Fin 4),
     s.fld (pairWin (feWin fe)) LO.TUNE_STATE = 3 →
     (s.inBlend (feWin fe) = false ∨ s.atomState (feWin fe) = stHOLD) → s.loFault (s.idleLo (feWin fe)) = false →
     exec (.loHandover fe) s = .next (s.firing (s.handover (feWin fe)))) ∧
  (∀ (s : State) (fe : Fin 4),
     s.fld (pairWin (feWin fe)) LO.TUNE_STATE = 1 → s.fld (pairWin (feWin fe)) LO.CAL_STATUS_STEP = 0 →
     (s.inBlend (feWin fe) = false ∨ s.atomState (feWin fe) = stHOLD) →
     exec (.loHandover fe) s = .next (s.firing (s.tuneGo (feWin fe)))) ∧
  (∀ (s : State) (fe : Fin 4) (a : CalArg) (k : Nat),
     s.fld (pairWin (feWin fe)) LO.CAL_STATUS_STEP = k → k ≠ 0 → k ≠ 5 → stepOk k a = true →
     exec (.calStepDone fe a) s = .next (
       let u := (if k = 2 then s.put (pairWin (feWin fe)) LO.IMAGE_REJ a.image else s).toneEnd (feWin fe) k;
       let v := u.calStepValues (feWin fe) k a;
       s.firing ((if v.ax (pairWin (feWin fe)) axCalOne = 1 then v.setAx (pairWin (feWin fe)) axCalOne 0 else v.setAx
           (pairWin (feWin fe)) axCalAt k).calGo (feWin fe)))) ∧
  (∀ (s : State) (fe : Fin 4) (a : CalArg) (k : Nat),
     s.fld (pairWin (feWin fe)) LO.CAL_STATUS_STEP = k → k ≠ 0 → k ≠ 5 → stepOk k a = false → k ≠ 1 → k ≠ 6 →
     exec (.calStepDone fe a) s = .next (
       let u := (if k = 2 then s.put (pairWin (feWin fe)) LO.IMAGE_REJ a.image else s).toneEnd (feWin fe) k;
       let v := u.calStepFailed (pairWin (feWin fe)) k (s.calTwin (feWin fe));
       s.firing ((if v.ax (pairWin (feWin fe)) axCalOne = 1 then v.setAx (pairWin (feWin fe)) axCalOne 0 else v.setAx
           (pairWin (feWin fe)) axCalAt k).calGo (feWin fe)))) ∧
  (∀ (s : State) (fe : Fin 4) (a : CalArg) (k : Nat),
     s.fld (pairWin (feWin fe)) LO.CAL_STATUS_STEP = k → k ≠ 0 → k ≠ 5 → a.ok = false → (k = 1 ∨ k = 6) →
     exec (.calStepDone fe a) s = .next (
       let u := s.toneEnd (feWin fe) k;
       let l := s.calTwin (feWin fe);
       let v := if u.ax l axLoRecal = 1 then ((u.setAx l axLoRecal 0).calStepFailed (pairWin (feWin fe)) k
           l).loTwinFault l else u.calStepFailed (pairWin (feWin fe)) k l;
       s.firing ((if v.ax (pairWin (feWin fe)) axCalOne = 1 then v.setAx (pairWin (feWin fe)) axCalOne 0 else v.setAx
           (pairWin (feWin fe)) axCalAt k).calGo (feWin fe)))) ∧
  (∀ (s : State) (fe : Fin 4) (a : StartupArg),
     s.ax (feWin fe) axFeStartCal ≠ 0 → a.okA = true → a.okB = true → 260 ≤ a.image → a.okFilter = true →
     a.okOffset = true →
     exec (.calStartupDone fe a) s = .next (
       let p := pairWin (feWin fe);
       let b := ((((((((s.setAx p axCalFailed 0).startTwin p p true a.quadA a.dcoA).startTwin p (p + 1) true a.quadB
           a.dcoB).put p LO.IMAGE_REJ a.image).setHs (feWin fe) hsFeMis (a.mismatch.take 24)).setHs (feWin fe)
           hsFeCorner (a.corner.take 16)).setHs (feWin fe) hsFeGain (a.gain.take 32)).setHs (feWin fe) hsFeOffs
           (a.offsets.take 64)).setAx (feWin fe) axFeStartCal 0 |>.seamTrims (feWin fe);
       let c := (((b.setAx (feWin fe) axFeDirty 1).put p LO.CAL_TEMP (b.fld p LO.FE_TEMP)).put p
           LO.CAL_STATUS_LAST_CODE 0).raiseKind p evLOCalDone;
       s.firing (c.feCheck (feWin fe)))) ∧
  (∀ (s : State) (gains : List Int),
     s.ax 0x014 axFeStartCal ≠ 0 →
     exec (.calFeLDone true gains) s = .next (
       s.firing (((((s.setHs 0x014 hsFeGain (gains.take 32)).setAx 0x014 axFeStartCal 0).setAx 0x014 axFeDirty
           1).raise 45).feCheck 0x014))) ∧
  (∀ (s : State) (gains : List Int),
     s.ax 0x014 axFeStartCal ≠ 0 →
     exec (.calFeLDone false gains) s = .next (s.firing (s.raise 45)))

/-- Calibration commands. In every state and on all operands that meet the hypotheses of its clause, each of these
    commands answers the next state written out in its clause: CAL_REQ_LO, CAL_REQ_IMAGE, CAL_REQ_FILTER,
    CAL_REQ_OFFSET, CAL_ABORT, TEMP_RECAL, CAL_STORE_WRITE (R130, R131, R133, R135). -/
def Obligations.Calibration : Prop :=
  (∀ (s : State) (m : Master) (fe : Fin 4),
     s.accepts m (pairWin (feWin fe)) 0x084 1 (s.calCodes (pairWin (feWin fe)) 1) = true →
     exec (.calReqLo m fe) s = .next (
       s.told m (pairWin (feWin fe)) 0x084 1 (s.calRequest (feOfLo (pairWin (feWin fe))) 1))) ∧
  (∀ (s : State) (m : Master) (fe : Fin 4),
     s.accepts m (pairWin (feWin fe)) 0x084 2 (s.calCodes (pairWin (feWin fe)) 2) = true →
     exec (.calReqImage m fe) s = .next (
       s.told m (pairWin (feWin fe)) 0x084 2 (s.calRequest (feOfLo (pairWin (feWin fe))) 2))) ∧
  (∀ (s : State) (m : Master) (fe : Fin 4),
     s.accepts m (pairWin (feWin fe)) 0x084 4 (s.calCodes (pairWin (feWin fe)) 4) = true →
     exec (.calReqFilter m fe) s = .next (
       s.told m (pairWin (feWin fe)) 0x084 4 (s.calRequest (feOfLo (pairWin (feWin fe))) 4))) ∧
  (∀ (s : State) (m : Master) (fe : Fin 4),
     s.accepts m (pairWin (feWin fe)) 0x084 8 (s.calCodes (pairWin (feWin fe)) 8) = true →
     exec (.calReqOffset m fe) s = .next (
       s.told m (pairWin (feWin fe)) 0x084 8 (s.calRequest (feOfLo (pairWin (feWin fe))) 8))) ∧
  (∀ (s : State) (m : Master) (fe : Fin 4),
     s.accepts m (pairWin (feWin fe)) 0x084 0x100 (s.calCodes (pairWin (feWin fe)) 0x100) = true →
     exec (.calAbort m fe) s = .next (s.told m (pairWin (feWin fe)) 0x084 0x100 (s.calAbort (pairWin (feWin fe))))) ∧
  (∀ (s : State) (fe : Fin 4) (temp : Int),
     s.present (feWin fe) = true → s.fePowered (feWin fe) = true →
     (temp - s.sfld (pairWin (feWin fe)) LO.CAL_TEMP).natAbs < 8 * s.fld (pairWin (feWin fe)) LO.PAIR_CTL_TEMP_THRESH
         →
     exec (.tempRecal fe temp) s = .next (s.putI (pairWin (feWin fe)) LO.FE_TEMP temp)) ∧
  (∀ (s : State) (fe : Fin 4) (temp : Int),
     s.present (feWin fe) = true → s.fePowered (feWin fe) = true →
     8 * s.fld (pairWin (feWin fe)) LO.PAIR_CTL_TEMP_THRESH ≤ (temp - s.sfld (pairWin (feWin fe)) LO.CAL_TEMP).natAbs
         →
     s.flag (pairWin (feWin fe)) LO.PAIR_CTL_TEMP_AUTO = true → s.loFault (pairWin (feWin fe)) = false →
     s.loFault (pairWin (feWin fe) + 1) = false →
     exec (.tempRecal fe temp) s = .next (
       ((s.putI (pairWin (feWin fe)) LO.FE_TEMP temp).raiseKind (pairWin (feWin fe)) evLOTempRecal).calRequest (feWin
           fe) 0xF)) ∧
  (∀ (s : State) (fe : Fin 5) (sect : List Byte),
     s.ax (feWin fe) axFeDirty ≠ 0 →
     exec (.calStoreWrite fe sect) s = .next (
       let old := if s.calHeaderOk then s.rdWord (calBase + 0x10) else 0;
       let bit : Word := 1#32 <<< (fe : Nat);
       let a := (calSection fe).1;
       let n := (calSection fe).2;
       let u := (s.calHeader (old &&& ~~~bit)).wrBytes (a + 4) (sect.take (n - 4));
       (((u.wrWord a (crc32 (u.rdBytes (a + 4) (n - 4)))).calTemp fe).calHeader (old ||| bit)).setAx (feWin fe)
           axFeDirty 0))

/-- Synchronisation of OFDM engines. In every state and on all operands that meet the hypotheses of its clause, each
    of these commands answers the next state written out in its clause, or one with the values listed there (where a
    Frame is given, every other register and the rest of the frame stand): OFDM_SYNC_ADVANCE, OFDM_SYNC_LOST,
    OFDM_RESYNC_SUCCESS, OFDM_RESYNC_TIMEOUT, MODE_UNSUPPORTED, OFDM_ACQ_TIMEOUT (R203, R204, R206, R208). -/
def Obligations.OfdmSync : Prop :=
  (∀ (s : State) (n : Fin 16) (mode : Fin 8) (so : Fin 6) (offset sco : Int),
     s.atomState (winOFDM n) = stWARM → s.syncState (winOFDM n) = 1 → s.modeAccepted (winOFDM n) mode = true →
     exec (.ofdmSyncAdvance n mode so offset sco) s = .next (
       s.firing ((s.put (winOFDM n) OFDM.OFDM_STATUS_SYNC_STATE 2).put (winOFDM n) OFDM.OFDM_STATUS_MODE_DET (modeDet
           (s.fld (winOFDM n) OFDM.OFDM_CFG_SYSTEM) mode)))) ∧
  (∀ (s : State) (n : Fin 16) (mode : Fin 8) (so : Fin 6) (offset sco : Int),
     s.atomState (winOFDM n) = stWARM → s.syncState (winOFDM n) = 2 →
     inCapture (s.fld (winOFDM n) OFDM.OFDM_CFG_SYSTEM) offset sco = true →
     exec (.ofdmSyncAdvance n mode so offset sco) s = .next (
       s.firing (s.put (winOFDM n) OFDM.OFDM_STATUS_SYNC_STATE 3))) ∧
  (∀ (s : State) (n : Fin 16) (mode : Fin 8) (so : Fin 6) (offset sco : Int),
     s.atomState (winOFDM n) = stWARM → s.syncState (winOFDM n) = 3 →
     exec (.ofdmSyncAdvance n mode so offset sco) s = .next (
       let u := s.put (winOFDM n) OFDM.OFDM_STATUS_SYNC_STATE 4;
       s.firing (if s.fld (winOFDM n) OFDM.OFDM_CFG_SYSTEM = 1 then u.put (winOFDM n) OFDM.OFDM_STATUS_SO_DET so else
           u))) ∧
  (∀ (s : State) (n : Fin 16) (mode : Fin 8) (so : Fin 6) (offset sco : Int),
     s.atomState (winOFDM n) = stWARM → s.syncState (winOFDM n) = 4 → s.fld (winOFDM n) OFDM.OFDM_CFG_SYSTEM ≠ 0 →
     exec (.ofdmSyncAdvance n mode so offset sco) s = .next (
       s.firing (s.put (winOFDM n) OFDM.OFDM_STATUS_SYNC_STATE 5))) ∧
  (∀ (s : State) (n : Fin 16) (mode : Fin 8) (so : Fin 6) (offset sco : Int),
     s.atomState (winOFDM n) = stWARM →
     (s.syncState (winOFDM n) = 5 ∨ (s.syncState (winOFDM n) = 4 ∧ s.fld (winOFDM n) OFDM.OFDM_CFG_SYSTEM = 0)) →
     exec (.ofdmSyncAdvance n mode so offset sco) s = .next (
       s.firing ((s.ofdmLocked (winOFDM n)).judgeAll (winOFDM n)))) ∧
  (∀ (s : State) (n : Fin 16),
     s.live (winOFDM n) = true → 3 ≤ s.syncState (winOFDM n) → s.syncState (winOFDM n) ≠ 7 →
     exec (.ofdmSyncLost n) s = .next (
       ((((((s.put (winOFDM n) OFDM.OFDM_STATUS_SYNC_STATE 7).dropProbe (winOFDM n)).put (winOFDM n) OFDM.LEVEL_Q
           0).setValid (winOFDM n) false).count (winOFDM n) OFDM.SYNC_LOSS_COUNT).raiseKind (winOFDM n) evOfdmLost))) ∧
  (∀ (s : State) (n : Fin 16),
     s.live (winOFDM n) = true → s.syncState (winOFDM n) = 7 → s.modeKept (winOFDM n) = true →
     s.ax (winOFDM n) axReconfPassed = 0 →
     exec (.ofdmResyncSuccess n) s = .next (
       let u := ((s.setHs (winOFDM n) 0 []).ofdmLocked (winOFDM n)).judgeNew (winOFDM n);
       s.firing (if u.ax (winOFDM n) axReconfPassed = 1 then (u.setAx (winOFDM n) axReconfPassed 0).reconfigure
           (winOFDM n) else u))) ∧
  (∀ (s : State) (n : Fin 16),
     s.live (winOFDM n) = true → s.syncState (winOFDM n) = 7 →
     exec (.ofdmResyncSuccess n) s = .next (s.firing (s.resynced (winOFDM n)))) ∧
  (∀ (s : State) (n : Fin 16),
     s.live (winOFDM n) = true → s.syncState (winOFDM n) = 7 →
     exec (.ofdmResyncTimeout n) s = .next (s.ofdmRestart (winOFDM n))) ∧
  (∀ (s : State) (n : Fin 16),
     s.live (winOFDM n) = true → s.fld (winOFDM n) OFDM.OFDM_CFG_SYSTEM = 0 → 1 ≤ s.syncState (winOFDM n) →
     s.syncState (winOFDM n) < 6 →
     ∃ t, exec (.modeUnsupported n) s = .next t ∧
       t.fld (winOFDM n) UCB.UNIT_ERR_CODE = 0x0501 ∧
       (t.rd (winOFDM n) 0x00C).getLsbD evOfdmMode = true ∧
       Frame [((winOFDM n), UCB.UNIT_ERR_CODE.off), ((winOFDM n), 0x00C)] s t) ∧
  (∀ (s : State) (n : Fin 16),
     s.atomState (winOFDM n) = stWARM → s.ax (winOFDM n) axAcqDone = 0 → s.syncState (winOFDM n) < 6 →
     ∃ t, exec (.ofdmAcqTimeout n) s = .next t ∧
       t.fld (winOFDM n) UCB.UNIT_ERR_CODE = 0x0505 ∧
       (t.rd (winOFDM n) 0x00C).getLsbD evERROR = true ∧
       t.ax (winOFDM n) axAcqDone = 1 ∧
       Frame [((winOFDM n), UCB.UNIT_ERR_CODE.off), ((winOFDM n), 0x00C)] s t)

/-- Frames of OFDM engines. In every state and on all operands that meet the hypotheses of its clause, each of these
    commands answers the next state written out in its clause, or one with the values listed there (where a Frame is
    given, every other register and the rest of the frame stand): OFDM_FRAME_END, CONTROL_BLOCK_RECEIVED,
    SELECTION_SWITCH, MULTIPLEX_RECONFIGURE, SUPERFRAME_DECODED, PREAMBLE_MEASURED (R211, R212, R214, R216, R225). -/
def Obligations.OfdmFrames : Prop :=
  (∀ (s : State) (n : Fin 16) (mer off sco a b : Int),
     s.live (winOFDM n) = true → 3 ≤ s.syncState (winOFDM n) →
     ∃ t, exec (.ofdmFrameEnd n mer off sco a b) s = .next t ∧
       t.fld (winOFDM n) OFDM.MER = unsigned 16 mer % 65536 ∧
       t.rd (winOFDM n) OFDM.FRAME_COUNT.off = s.rd (winOFDM n) OFDM.FRAME_COUNT.off + 1 ∧
       t.fld (winOFDM n) OFDM.OFDM_STATUS_PROBING = 0) ∧
  (∀ (s : State) (n : Fin 16) (c : ControlArg),
     s.live (winOFDM n) = true → 3 ≤ s.syncState (winOFDM n) → s.syncState (winOFDM n) ≠ 7 → c.ok = true →
     exec (.controlBlockReceived n c) s = .next (
       let u := s.giveControl (winOFDM n) c;
       let m := muxNews (u.fld (winOFDM n) OFDM.OFDM_CFG_SYSTEM == 0) c;
       let a := m.count.elim u (fun x => (u.put (winOFDM n) OFDM.CIF_COUNT (x.1 % 5000)).putB (winOFDM n)
           OFDM.OFDM_STATUS_AL_FLAG x.2);
       let b := if m.announces then a.put (winOFDM n) OFDM.OFDM_STATUS_RECONF_PENDING 1 else a;
       let d := ((b.setBl (blOrg (winOFDM n)) (orgMerge (b.bl (blOrg (winOFDM n))) m.now)).setBl (blNext (winOFDM n))
           (orgMerge (b.bl (blNext (winOFDM n))) m.next)).setBl (blKinds (winOFDM n)) (kindsMerge (b.bl (blKinds
           (winOFDM n))) m.kinds m.fec);
       let waits := (u.hs (winOFDM n) hsSwitch).map Int.toNat;
       let e := (((d.setHs (winOFDM n) hsKindsNext ((kindsMerge ((u.hs (winOFDM n) hsKindsNext).map Int.toNat)
           m.kindsNext m.fecNext).map Int.ofNat)).setHs (winOFDM n) hsSupport ((supportMerge ((u.hs (winOFDM n)
           hsSupport).map Int.toNat) m.support).map Int.ofNat)).setHs (winOFDM n) hsSwitch ((waits ++
           m.switches.filter (fun x => !waits.contains x)).map Int.ofNat)).mciUpdate (winOFDM n);
       if e.syncState (winOFDM n) = 6 then e.judgeNew (winOFDM n) else e)) ∧
  (∀ (s : State) (n : Fin 16) (c : ControlArg),
     s.live (winOFDM n) = true → 3 ≤ s.syncState (winOFDM n) → s.syncState (winOFDM n) ≠ 7 → c.ok = false →
     exec (.controlBlockReceived n c) s = .next (
       (s.giveControl (winOFDM n) c).count (winOFDM n) (if c.kind = 2 then OFDM.SDC_CRC_COUNT else
           OFDM.CTRL_CRC_COUNT))) ∧
  (∀ (s : State) (n : Fin 16) (c : ControlArg),
     s.live (winOFDM n) = true → 3 ≤ s.syncState (winOFDM n) → s.syncState (winOFDM n) ≠ 7 → c.ok = false →
     c.kind ≠ 2 →
     ∃ t, exec (.controlBlockReceived n c) s = .next t ∧
       t.rd (winOFDM n) OFDM.CTRL_CRC_COUNT.off = counted (s.rd (winOFDM n) OFDM.CTRL_CRC_COUNT.off) ∧
       Frame [((winOFDM n), OFDM.CTRL_CRC_COUNT.off), ((winOFDM n), 0x028), ((winOFDM n), 0x00C)] s t) ∧
  (∀ (s : State) (n : Fin 16),
     (s.unit (winOFDM n)).applyBusy = true →
     exec (.selectionSwitch n) s = .next ((s.selTake (winOFDM n)).applyDone (winOFDM n))) ∧
  (∀ (s : State) (n : Fin 16),
     s.live (winOFDM n) = true → s.flag (winOFDM n) OFDM.OFDM_STATUS_RECONF_PENDING = true →
     s.syncState (winOFDM n) ≠ 7 → (s.bl (blNext (winOFDM n))).isEmpty = true →
     ∃ t, exec (.multiplexReconfigure n) s = .next t ∧
       t.flag (winOFDM n) OFDM.OFDM_STATUS_RECONF_PENDING = false ∧
       t.fld (winOFDM n) UCB.UNIT_ERR_CODE = 0x0506 ∧
       Frame [((winOFDM n), 0x080), ((winOFDM n), UCB.UNIT_ERR_CODE.off), ((winOFDM n), 0x00C)] s t) ∧
  (∀ (s : State) (n : Fin 16),
     s.live (winOFDM n) = true → s.flag (winOFDM n) OFDM.OFDM_STATUS_RECONF_PENDING = true →
     s.syncState (winOFDM n) ≠ 7 → (s.bl (blNext (winOFDM n))).isEmpty = false →
     exec (.multiplexReconfigure n) s = .next (s.takeNext (winOFDM n))) ∧
  (∀ (s : State) (n : Fin 16) (sel : Fin 64) (b : BlockArg),
     s.atomState (winOFDM n) = stRUN → s.syncState (winOFDM n) = 6 → s.selUsed (winOFDM n) sel = true →
     s.flag (winOFDM n) (OFDM.SEL_PRESENT.at sel) = true →
     s.flag (winOFDM n) (OFDM.SEL_UNSUPPORTED.at sel) = false → s.selKind (winOFDM n) sel ≠ 0 →
     (s.selKind (winOFDM n) sel = 2 → fireNext ((fitInts 64 (s.hs (winOFDM n) hsFire)).getD sel 0) b.fire ≠ 0) →
     exec (.superframeDecoded n sel b) s = .next (
       let k := s.selKind (winOFDM n) sel;
       let failed := blockFailed k b;
       let sync := fitInts 64 (s.hs (winOFDM n) hsFire);
       let t := if k = 2 then s.setHs (winOFDM n) hsFire (sync.set sel (fireNext (sync.getD sel 0) b.fire)) else s;
       let u := t.putB (winOFDM n) (OFDM.SEL_CLEAN.at sel) (!failed);
       let v := if b.corrected ∧ k = 2 then u.count (winOFDM n) OFDM.SF_CORRECTED_COUNT else u;
       let x := if failed then (if k = 2 ∨ k = 4 then v.count (winOFDM n) OFDM.SF_FAILED_COUNT else v).raiseKind
           (winOFDM n) evOfdmFailed else v;
       x.deliverBlock (winOFDM n) sel (cutUnits b.units (s.channelBytes (winOFDM n) sel ((b.units.map
           UnitArg.len).sum))))) ∧
  (∀ (s : State) (n : Fin 16) (sel : Fin 64) (b : BlockArg),
     s.atomState (winOFDM n) = stRUN → s.syncState (winOFDM n) = 6 → s.selUsed (winOFDM n) sel = true →
     s.flag (winOFDM n) (OFDM.SEL_PRESENT.at sel) = true →
     s.flag (winOFDM n) (OFDM.SEL_UNSUPPORTED.at sel) = false → s.selKind (winOFDM n) sel = 2 →
     fireNext ((fitInts 64 (s.hs (winOFDM n) hsFire)).getD sel 0) b.fire = 0 →
     exec (.superframeDecoded n sel b) s = .next (
       s.setHs (winOFDM n) hsFire ((fitInts 64 (s.hs (winOFDM n) hsFire)).set sel 0))) ∧
  (∀ (s : State) (n : Fin 16) (mer : Int) (inWindow : Bool),
     s.live (winOFDM n) = true → 3 ≤ s.syncState (winOFDM n) → s.feOfDemod (winOFDM n) ≠ 0x3FF →
     s.fld (s.feOfDemod (winOFDM n)) FE.DIV_CTL_MODE = 2 →
     s.fld (s.feOfDemod (winOFDM n)) FE.DIV_CTL_REF_WINDOW = (winOFDM n) →
     ∃ t, exec (.preambleMeasured n mer inWindow) s = .next t ∧
       t.ax (winOFDM n) (if s.flag (s.feOfDemod (winOFDM n)) FE.FE_STATUS_ON_B then axMerB else axMerA) = merCode mer
           ∧
       t.ax (winOFDM n) axPrevIn = (if s.flag (s.feOfDemod (winOFDM n)) FE.FE_STATUS_ON_B then 2 else 1))

/-- Filter units and warm-up. In every state and on all operands that meet the hypotheses of its clause, each of these
    commands answers the next state written out in its clause: SWAP_REQUEST, FADE_END, FILTER_OUTPUT, WARM_COMPLETE
    (R140, R156, R159, R161). -/
def Obligations.FilterRows : Prop :=
  (∀ (s : State) (m : Master) (w : Fin 1024) (v : Word),
     (kindOf w = .chanFilter ∨ kindOf w = .audioFilter) → s.accepts m w 0x050 v [] = true →
     exec (.swapRequest m w v) s = .next (
       s.told m w 0x050 v (s.swap w (FILT.SWAP_CTL_TARGET.of v) (FILT.SWAP_CTL_FADE_LEN.of v)))) ∧
  (∀ (s : State) (w : Fin 1024),
     s.fadeDue w = true →
     exec (.fadeEnd w) s = .next (s.endFade w)) ∧
  (∀ (s : State) (w : Fin 1024) (xs ys : List (Int × Int)),
     s.present w = true → s.live w = true → kindOf w = .ddc →
     exec (.filterOutput w xs ys) s = .next (s.firing (s.ddcOut w xs ys))) ∧
  (∀ (s : State) (w : Fin 1024) (xs ys : List (Int × Int)),
     s.present w = true → s.live w = true → kindOf w = .chanFilter → 5 * s.filtDecim w ≤ (s.hs w hsIn).length →
     exec (.filterOutput w xs ys) s = .next (s.firing ((s.chanOut w).channelOut w))) ∧
  (∀ (s : State) (w : Fin 1024) (xs ys : List (Int × Int)),
     s.present w = true → s.live w = true → kindOf w = .audioFilter → s.hs (w - 0x20) hsPost = [] →
     exec (.filterOutput w xs ys) s = .next (s.firing ((s.laneFront (instOf w)).laneFilter (instOf w)))) ∧
  (∀ (s : State) (w : Fin 1024),
     s.atomState w = stWARM → s.inputValid w = true → s.warmReady w = true →
     exec (.warmComplete w) s = .next (s.firing (s.setValid w true)))

/-- Audio lanes, host streams and the synchronisation of lanes. In every state and on all operands that meet the
    hypotheses of its clause, each of these commands answers the next state written out in its clause, or one with the
    values listed there (where a Frame is given, every other register and the rest of the frame stand): LANE_SELECT,
    SELECT_PENDING_TAKES, GAIN_WRITE, LANE_SAMPLE, HOST_PCM_DESCRIPTOR, HOST_PCM_MARK_START, HOST_UNDERRUN,
    XFADE_DONE, RAMP_END, ACCESS_UNIT_DECODED, ASRC_IN_COUNT_READ (R288, R291, R292, R303, R304). -/
def Obligations.LaneRows : Prop :=
  (∀ (s : State) (m : Master) (n : Fin 32) (v : Word),
     s.accepts m (winLane n) 0x050 v (s.laneCodes (winLane n) 0x050 v) = true →
     exec (.laneSelect m n v) s = .next (s.told m (winLane n) 0x050 v ((s.store (winLane n) 0x050 v).serveSelect n))) ∧
  (∀ (s : State) (n : Fin 32),
     s.selectPending n = true →
     exec (.selectPendingTakes n) s = .next (s.serveSelect n)) ∧
  (∀ (s : State) (m : Master) (n : Fin 32) (v : Word),
     s.accepts m (winLane n) 0x048 v [] = true →
     exec (.gainWrite m n v) s = .next (s.told m (winLane n) 0x048 v (s.gainWritten (winLane n) v))) ∧
  (∀ (s : State) (n : Fin 32),
     s.live (winLane n) = true →
     exec (.laneSample n) s = .next (s.firing (s.laneSample n))) ∧
  (∀ (s : State) (n : Fin 32) (i : Fin 2),
     kindOf (s.srcOf (winLane n) i) = .queue → (s.live (winLane n) = true ∨ s.atomState (winLane n) = stHOLD) →
     s.ax (winLane n) (38 + i) = 0 → 2 ∉ s.taken (s.srcOf (winLane n) i) →
     exec (.hostPcmDescriptor n i) s = .next (s.hostTake n i)) ∧
  (∀ (s : State) (n : Fin 32) (i : Fin 2),
     s.ax (winLane n) (38 + i) ≠ 0 →
     exec (.hostPcmMarkStart n i) s = .next (
       (s.advanceLow (w32 (s.ax (winLane n) (38 + i) - 1))).hostPlay (winLane n) i)) ∧
  (∀ (s : State) (n : Fin 32) (i : Fin 2),
     kindOf (s.srcOf (winLane n) i) = .queue → s.ax (winLane n) (36 + i) = 1 → s.live (winLane n) = true →
     s.qFilled (s.srcOf (winLane n) i) = 0 → (s.taken (s.srcOf (winLane n) i)).all (fun x => x == 1) = true →
     ∃ t, exec (.hostUnderrun n i) s = .next t ∧
       t.rd (winLane n) LANE.HOST_UNDERRUN_COUNT.off = counted (s.rd (winLane n) LANE.HOST_UNDERRUN_COUNT.off) ∧
       (t.rd (winLane n) 0x00C).getLsbD evLaneUnderrun = true ∧
       t.ax (winLane n) (34 + i) = 1 ∧
       t.ax (winLane n) (36 + i) = 0 ∧
       Frame [((winLane n), LANE.HOST_UNDERRUN_COUNT.off), ((winLane n), 0x028), ((winLane n), 0x00C)] s t) ∧
  (∀ (s : State) (n : Fin 32),
     s.flag (winLane n) LANE.LANE_STATUS_FADING = true → s.followBound n = false →
     exec (.xfadeDone n) s = .next ((s.laneFlush (winLane n)).serveSelect n)) ∧
  (∀ (s : State) (n : Fin 32),
     s.ax (winLane n) axRampLen ≤ s.ax (winLane n) axRampAt → s.fld (winLane n) LANE.LANE_STATUS_RAMP_STATE = 1 →
     ∃ t, exec (.rampEnd n) s = .next t ∧
       t.fld (winLane n) LANE.LANE_STATUS_RAMP_STATE = 2 ∧
       t.fld (winLane n) LANE.GAIN_NOW = s.fld (winLane n) LANE.GAIN % 65536 ∧
       Frame [((winLane n), LANE.LANE_STATUS_RAMP_STATE.off), ((winLane n), LANE.GAIN_NOW.off)] s t) ∧
  (∀ (s : State) (n : Fin 32),
     s.ax (winLane n) axRampLen ≤ s.ax (winLane n) axRampAt → s.fld (winLane n) LANE.LANE_STATUS_RAMP_STATE = 3 →
     s.recentres (winLane n) = false →
     ∃ t, exec (.rampEnd n) s = .next t ∧
       t.fld (winLane n) LANE.LANE_STATUS_RAMP_STATE = 0 ∧
       t.fld (winLane n) LANE.GAIN_NOW = 0x8000 ∧
       Frame [((winLane n), LANE.LANE_STATUS_RAMP_STATE.off), ((winLane n), LANE.GAIN_NOW.off)] s t) ∧
  (∀ (s : State) (n : Fin 32) (u : AccessUnit),
     s.live (winDec n) = true →
     exec (.accessUnitDecoded n u) s = .next (s.firing (s.accessUnit (winDec n) u))) ∧
  (∀ (s : State) (m : Master) (n : Fin 32),
     ∃ t, exec (.asrcInCountRead m n) s = .next t ∧
       t.answer = [s.rd (winASRC n) ASRC.IN_COUNT.off] ∧
       t.latched m (winASRC n) ASRC.OUT_COUNT.off = s.rd (winASRC n) ASRC.OUT_COUNT.off ∧
       t.latched m (winASRC n) ASRC.DISCARD_COUNT.off = s.rd (winASRC n) ASRC.DISCARD_COUNT.off ∧
       t.regs = s.regs ∧
       t.mem = s.mem)

/-- Frames, taps and stops of audio ports. In every state and on all operands that meet the hypotheses of its clause,
    each of these commands answers the next state written out in its clause, or one with the values listed there
    (where a Frame is given, every other register and the rest of the frame stand): PORT_FRAME, TAP_BLOCK,
    ZC_START_PASS, ZC_TIMEOUT, PORT_STOPPED (R311, R313, R316, R317, R320, R321, R327, R331). -/
def Obligations.PortRows : Prop :=
  (∀ (s : State) (n : Fin 32) (e : BitVec 64) (period : Nat) (xs : List Int) (missing : BitVec 2),
     s.portRuns (winPort n) = true → s.portRuns (s.clkPort (winPort n)) = true →
     s.flag (winPort n) PORT.PORT_STATUS_CLOCK_LOST = false →
     (s.portClocking (winPort n) ≠ 0 ∨ onBoundary (s.portRate (winPort n)) e.toNat = true) →
     exec (.portFrame n e period xs missing) s = .next (
       let u := (((((s.advanceTo e).frameEpoch (winPort n) e).framePeriod (winPort n) period).noteClock (winPort n)
           period).putB (winPort n) PORT.PORT_STATUS_DRIVING (s.wantDrive (winPort n))).setAx (winPort n) axPGlitch 0;
       let v := if u.portMayStart (winPort n) e then u.portStart (winPort n) e else if u.flag (winPort n)
           PORT.PORT_STATUS_STARTED then u.bump (winPort n) PORT.FRAME_COUNT else u;
       s.firing ((if v.flag (winPort n) PORT.PORT_CFG_DIR then v.inFrame (winPort n) e xs else v.outFrame (winPort n)
           e missing).portCheck (winPort n)))) ∧
  (∀ (s : State) (n : Fin 32),
     s.ax (winPort n) axPBlock ≠ 0 → s.ax (winPort n) axPGot = s.ax (winPort n) axPBlock →
     exec (.tapBlock n) s = .next (s.tapCommit (winPort n))) ∧
  (∀ (s : State) (n : Fin 32) (i : Fin 16),
     (s.ax (winPort n) axPWait).testBit i = true → s.flag (winPort n) PORT.PORT_STATUS_STARTED = true →
     s.live (winPort n) = true → s.ax (winPort n) axPMute = 0 → s.portStopping (winPort n) = false →
     s.crosses (winPort n) i = true →
     ∃ t, exec (.zcStartPass n i) s = .next t ∧
       t.ax (winPort n) axPWait = clearBit (s.ax (winPort n) axPWait) i ∧
       t.flag (winPort n) PORT.PORT_STATUS_ZC_WAIT = (clearBit (s.ax (winPort n) axPWait) i != 0) ∧
       Frame [((winPort n), PORT.PORT_STATUS_ZC_WAIT.off)] s t) ∧
  (∀ (s : State) (n : Fin 32) (i : Fin 16),
     s.portStopping (winPort n) = false → (s.ax (winPort n) axPWait).testBit i = true →
     ∃ t, exec (.zcTimeout n i) s = .next t ∧
       t.ax (winPort n) axPWait = clearBit (s.ax (winPort n) axPWait) i ∧
       t.flag (winPort n) PORT.PORT_STATUS_ZC_WAIT = (clearBit (s.ax (winPort n) axPWait) i != 0) ∧
       t.hs (winPort n) hsRampIn = (fitInts 16 (s.hs (winPort n) hsRampIn)).set i 1 ∧
       t.rd (winPort n) PORT.ZC_TIMEOUT_COUNT.off = counted (s.rd (winPort n) PORT.ZC_TIMEOUT_COUNT.off) ∧
       (t.rd (winPort n) 0x00C).getLsbD evPortZc = true ∧
       Frame [((winPort n), PORT.PORT_STATUS_ZC_WAIT.off), ((winPort n), 0x00C), ((winPort n),
           PORT.ZC_TIMEOUT_COUNT.off), ((winPort n), 0x028)] s t) ∧
  (∀ (s : State) (n : Fin 32) (i : Fin 16),
     s.portStopping (winPort n) = true → s.flag (winPort n) PORT.PORT_CTL_ZC_STOP = true →
     (s.slotMap (winPort n)).testBit i = true → (s.ax (winPort n) axPWait).testBit i = false →
     (s.ax (winPort n) axPStopped).testBit i = false → (s.hs (winPort n) hsRampOut).getD i 0 = 0 →
     ∃ t, exec (.zcTimeout n i) s = .next t ∧
       t.hs (winPort n) hsRampOut = (fitInts 16 (s.hs (winPort n) hsRampOut)).set i 1 ∧
       t.rd (winPort n) PORT.ZC_TIMEOUT_COUNT.off = counted (s.rd (winPort n) PORT.ZC_TIMEOUT_COUNT.off) ∧
       (t.rd (winPort n) 0x00C).getLsbD evPortZc = true ∧
       Frame [((winPort n), 0x00C), ((winPort n), PORT.ZC_TIMEOUT_COUNT.off), ((winPort n), 0x028)] s t) ∧
  (∀ (s : State) (n : Fin 32),
     s.portStopping (winPort n) = true → s.slotsQuiet (winPort n) = true →
     exec (.portStopped n) s = .next (
       (s.watch (winPort n) (fun t => t.setAx (winPort n) axPStop 0)).raiseKind (winPort n) evPortStopped))

/-- External clocks of audio ports. In every state and on all operands that meet the hypotheses of its clause, each of
    these commands answers the next state written out in its clause, or one with the values listed there (where a
    Frame is given, every other register and the rest of the frame stand): CLOCK_LOST, CLOCK_RETURNED,
    ASRC_REACQUIRE_DONE, GLITCH_FRAME, RATE_STEP, HYBRID_LOCK, PORT_RESTART (R297, R314, R328, R329, R330). -/
def Obligations.PortClocks : Prop :=
  (∀ (s : State) (n : Fin 32),
     s.portClocking (winPort n) ≠ 0 →
     exec (.clockLost n) s = .next ((s.clockUsers (winPort n)).foldl State.declareLost s)) ∧
  (∀ (s : State) (n : Fin 32) (k : Fin 32),
     s.portClocking (winPort n) ≠ 0 → s.clockUsers (winPort n) = [winPort k] →
     s.flag (winPort k) PORT.PORT_STATUS_CLOCK_LOST = false → kindOf (s.srcOf (winPort k) 0) ≠ .asrc →
     (s.unit (winPort k)).valid = false →
     ∃ t, exec (.clockLost n) s = .next t ∧
       t.flag (winPort k) PORT.PORT_STATUS_CLOCK_LOST = true ∧
       t.flag (winPort k) PORT.PORT_STATUS_CLK_OK = false ∧
       t.ax (winPort k) axPMute = 1 ∧
       t.rd (winPort k) PORT.CLOCK_LOST_COUNT.off = counted (s.rd (winPort k) PORT.CLOCK_LOST_COUNT.off) ∧
       (t.rd (winPort k) 0x00C).getLsbD evPortLost = true ∧
       Frame [(winPort k, PORT.PORT_STATUS_CLOCK_LOST.off), (winPort k, 0x00C), (winPort k,
           PORT.CLOCK_LOST_COUNT.off), (winPort k, 0x028)] s t) ∧
  (∀ (s : State) (n : Fin 32),
     exec (.clockReturned n) s = .next ((s.clockUsers (winPort n)).foldl State.clockBack s)) ∧
  (∀ (s : State) (n : Fin 32) (k : Fin 32),
     s.clockUsers (winPort n) = [winPort k] → s.flag (winPort k) PORT.PORT_STATUS_CLOCK_LOST = true →
     kindOf (s.srcOf (winPort k) 0) ≠ .asrc → s.flag (winPort k) PORT.PORT_CTL_AUTO_RESTART = false →
     s.flag (winPort k) PORT.PORT_CFG_DIR = false →
     ∃ t, exec (.clockReturned n) s = .next t ∧
       t.flag (winPort k) PORT.PORT_STATUS_CLOCK_LOST = false ∧
       t.flag (winPort k) PORT.PORT_STATUS_CLK_OK = true ∧
       (t.rd (winPort k) 0x00C).getLsbD evPortReturned = true ∧
       Frame [(winPort k, PORT.PORT_STATUS_CLOCK_LOST.off), (winPort k, 0x00C)] s t) ∧
  (∀ (s : State) (n : Fin 32),
     s.fld (winASRC n) ASRC.ASRC_STATUS_MODE = 4 → s.ax (winASRC n) axAsrcStep = 2 →
     32 ≤ s.fld (winASRC n) ASRC.ASRC_STATUS_FILL → s.asrcPort (winASRC n) = none →
     exec (.asrcReacquireDone n) s = .next (
       ((s.asrcMode (winASRC n)).setAx (winASRC n) axAsrcStep 3).raiseKind (winASRC n) evAsrcReacquired)) ∧
  (∀ (s : State) (n : Fin 32) (p : Nat),
     s.fld (winASRC n) ASRC.ASRC_STATUS_MODE = 4 → s.ax (winASRC n) axAsrcStep = 2 →
     32 ≤ s.fld (winASRC n) ASRC.ASRC_STATUS_FILL → s.asrcPort (winASRC n) = some p →
     s.flag p PORT.PORT_CTL_AUTO_RESTART = true →
     exec (.asrcReacquireDone n) s = .next (
       (((s.asrcMode (winASRC n)).setAx (winASRC n) axAsrcStep 3).raiseKind (winASRC n) evAsrcReacquired).dataReturn p)) ∧
  (∀ (s : State) (n : Fin 32) (p : Nat),
     s.fld (winASRC n) ASRC.ASRC_STATUS_MODE = 4 → s.ax (winASRC n) axAsrcStep = 2 →
     32 ≤ s.fld (winASRC n) ASRC.ASRC_STATUS_FILL → s.asrcPort (winASRC n) = some p →
     s.flag p PORT.PORT_CTL_AUTO_RESTART = false →
     exec (.asrcReacquireDone n) s = .next (
       ((s.asrcMode (winASRC n)).setAx (winASRC n) axAsrcStep 3).raiseKind (winASRC n) evAsrcReacquired)) ∧
  (∀ (s : State) (n : Fin 32),
     s.portClocking (winPort n) ≠ 0 → s.flag (winPort n) PORT.PORT_STATUS_CLOCK_LOST = false →
     exec (.glitchFrame n) s = .next (
       (s.clockUsers (winPort n)).foldl (fun t p => let u := t.glitch p; if 3 ≤ u.ax p axPGlitch then u.declareLost p
           else u) s)) ∧
  (∀ (s : State) (n : Fin 32) (period : Nat),
     s.portClocking (winPort n) ≠ 0 → s.flag (winPort n) PORT.PORT_STATUS_CLOCK_LOST = false →
     (s.rd (winPort n) PORT.FRAME_PERIOD.off).toNat < ((period : Int) - (s.rd (winPort n)
         PORT.FRAME_PERIOD.off).toNat).natAbs * 200 →
     exec (.rateStep n period) s = .next ((s.clockUsers (winPort n)).foldl (fun t p => t.rateStep p period) s)) ∧
  (∀ (s : State) (n : Fin 32),
     s.portClocking (winPort n) = 2 →
     exec (.hybridLock n) s = .next (
       (s.clockUsers (winPort n)).foldl (fun t p => t.put p PORT.PORT_STATUS_CLK_OK 1) s)) ∧
  (∀ (s : State) (m : Master) (n : Fin 32),
     s.accepts m (winPort n) 0x048 (s.rd (winPort n) 0x048 ||| 0x100) [] = true →
     exec (.portRestart m n) s = .next (
       s.told m (winPort n) 0x048 (s.rd (winPort n) 0x048 ||| 0x100) (s.portCtlWritten (winPort n) (s.rd (winPort n)
           0x048 ||| 0x100))))

/-- Port groups and SYNC pins. In every state and on all operands that meet the hypotheses of its clause, each of
    these commands answers the next state written out in its clause: GROUP_ARM, GROUP_GO, GROUP_FIRE_EPOCH,
    SYNC_IN_EDGE, SYNC_OUT_PULSE (R322, R323, R328, R329). -/
def Obligations.GroupRows : Prop :=
  (∀ (s : State) (m : Master) (g : Fin 8) (v : Word),
     g ≠ 0 → s.accepts m 0x220 (0x200 + 16 * g) (v ||| 0x10) [] = true →
     exec (.groupArm m g v) s = .next (s.told m 0x220 (0x200 + 16 * g) (v ||| 0x10) (s.grpWritten g (v ||| 0x10)))) ∧
  (∀ (s : State) (m : Master) (g : Fin 8) (v : Word),
     g ≠ 0 → v.getLsbD 4 = false → s.accepts m 0x220 (0x200 + 16 * g) (v ||| 0x20) [] = true →
     exec (.groupGo m g v) s = .next (s.told m 0x220 (0x200 + 16 * g) (v ||| 0x20) (s.grpGo g (v ||| 0x20)))) ∧
  (∀ (s : State) (g : Fin 8),
     g ≠ 0 → s.grpFld g PORT.GRP_CTL_ARM = 1 → s.grpFld g PORT.GRP_CTL_SOURCE = 0 →
     exec (.groupFireEpoch g) s = .next ((s.advanceTo (s.grpEpoch g)).fireGroup g (s.grpEpoch g))) ∧
  (∀ (s : State) (e : BitVec 64),
     s.flag 0x220 PORT.SYNC_IN_CFG_ENABLE = true →
     exec (.syncInEdge e) s = .next (
       s.firing ((([1, 2, 3, 4, 5, 6, 7].filter (fun g => s.grpFld g PORT.GRP_CTL_ARM == 1 && s.grpFld g
           PORT.GRP_CTL_SOURCE == 1)).foldl (fun u g => u.fireGroup g e) (((s.advanceTo e).wr 0x220 0x280
           (e.extractLsb' 0 32)).wr 0x220 0x284 (e.extractLsb' 32 32))).fire (fun x => x.cond == 2)))) ∧
  (∀ (s : State) (e : BitVec 64),
     s.fld 0x220 PORT.SYNC_OUT_CFG_MODE = 2 → e.toNat % (s.rd 0x220 PORT.PERIOD.off).toNat = 0 →
     exec (.syncOutPulse e) s = .next (
       ((s.advanceTo e).setAx blkClk axSyncOut (e.toNat + 1)).setAx blkClk axSyncWidth (s.fld 0x220
           PORT.SYNC_OUT_CFG_WIDTH)))

/-- The two-wire controller. In every state and on all operands that meet the hypotheses of its clause, each of these
    commands answers the next state written out in its clause, or one with the values listed there (where a Frame is
    given, every other register and the rest of the frame stand): TWC_TX_PUSH, TWC_RX_POP, IBR_FIFO_POP, TWC_GO,
    TWC_TRANSFER_DONE, TWC_ARB_LOST, TWC_ARB_RETRY, TWC_SCL_TIMEOUT, TWC_SDA_TIMEOUT, TWC_BUS_STUCK, TWC_BUS_CLEARED,
    TWC_BUS_FREE (R384, R385, R386, R387, R388). -/
def Obligations.TwoWireController : Prop :=
  (∀ (s : State) (m : Master) (v : Word),
     s.accepts m winTWC 0x04C v [] = true →
     exec (.twcTxPush m v) s = .next (s.told m winTWC 0x04C v (s.twcPush v))) ∧
  (∀ (s : State) (m : Master) (b : Nat) (r : List Nat),
     s.bl twcRx = b :: r →
     ∃ t, exec (.twcRxPop m) s = .next t ∧
       t.answer = [w32 b] ∧
       t.bl twcRx = r ∧
       Frame [] s t) ∧
  (∀ (s : State) (m : Master) (b : Nat) (r : List Nat),
     s.bl twcIbr = b :: r →
     ∃ t, exec (.ibrFifoPop m) s = .next t ∧
       t.answer = [w32 b] ∧
       t.bl twcIbr = r ∧
       Frame [] s t) ∧
  (∀ (s : State) (m : Master) (v : Word),
     s.accepts m winTWC 0x048 (v ||| 0x80000000#32) (s.goCodes (v ||| 0x80000000#32)) = true →
     exec (.twcGo m v) s = .next (s.told m winTWC 0x048 (v ||| 0x80000000#32) (s.twcCmd (v ||| 0x80000000#32)))) ∧
  (∀ (s : State) (nack : Option (Fin 32)) (rx : List Byte),
     s.twcOnBus = true →
     exec (.twcTransferDone true nack rx) s = .next ((s.twcNack none).twcEnd false)) ∧
  (∀ (s : State) (k : Fin 32) (rx : List Byte),
     s.twcOnBus = true →
     exec (.twcTransferDone false (some k) rx) s = .next ((s.twcNack (some k)).twcEnd false)) ∧
  (∀ (s : State) (rx : List Byte),
     s.twcOnBus = true → s.flag winTWC TWC.TWC_CMD_READ = true →
     exec (.twcTransferDone false none rx) s = .next (
       (s.setBl twcRx ((s.bl twcRx ++ (rx.take (s.fld winTWC TWC.TWC_CMD_LEN)).map BitVec.toNat).take 32)).twcEnd
           (s.flag winTWC TWC.TWC_CMD_NO_STOP))) ∧
  (∀ (s : State),
     s.twcOnBus = true →
     ∃ t, exec .twcArbLost s = .next t ∧
       t.rd winTWC TWC.ARB_LOST_COUNT.off = counted (s.rd winTWC TWC.ARB_LOST_COUNT.off) ∧
       t.ax winTWC axTwcLost = 1 ∧
       t.fld winTWC TWC.TWC_STATUS_HOLDING = 0 ∧
       Frame [(winTWC, TWC.ARB_LOST_COUNT.off), (winTWC, 0x028), (winTWC, 0x00C), (winTWC,
           TWC.TWC_STATUS_HOLDING.off)] s t) ∧
  (∀ (s : State),
     s.flag winTWC TWC.TWC_STATUS_ACTIVE = true → s.ax winTWC axTwcLost = 1 →
     s.ax winTWC axTwcRetries < s.fld winTWC TWC.TWC_CFG_ARB_RETRIES →
     ∃ t, exec .twcArbRetry s = .next t ∧
       t.ax winTWC axTwcRetries = s.ax winTWC axTwcRetries + 1 ∧
       t.ax winTWC axTwcLost = 0 ∧
       t.ax winTWC axTwcWaits = 0 ∧
       Frame [] s t) ∧
  (∀ (s : State),
     s.flag winTWC TWC.TWC_STATUS_ACTIVE = true → s.ax winTWC axTwcLost = 1 →
     s.fld winTWC TWC.TWC_CFG_ARB_RETRIES ≤ s.ax winTWC axTwcRetries →
     exec .twcArbRetry s = .next (
       ((((s.setAx winTWC axTwcLost 0).put winTWC TWC.TWC_STATUS_ARB_LOST 1).setErr winTWC 0x0742).raiseKind winTWC
           evTwcArb).twcEnd false)) ∧
  (∀ (s : State),
     s.live winTWC = true → s.twcChecking = false → s.flag winTWC TWC.TWC_STATUS_HOLDING = false →
     exec .twcSclTimeout s = .next (s.twcSelfReset 0x0743)) ∧
  (∀ (s : State),
     s.live winTWC = true → s.twcOnBus = false → s.twcChecking = false →
     s.flag winTWC TWC.TWC_STATUS_HOLDING = false →
     exec .twcSdaTimeout s = .next (s.twcSelfReset 0x0744)) ∧
  (∀ (s : State),
     s.twcChecking = true →
     exec .twcBusStuck s = .next (
       (((s.watch winTWC (fun t => t.putB winTWC UCB.UNIT_CTL_ENABLE false)).put winTWC TWC.TWC_STATUS_BUS_STUCK
           1).raiseKind winTWC evTwcStuck).setErr winTWC 0x0745)) ∧
  (∀ (s : State),
     s.twcChecking = true →
     exec .twcBusCleared s = .next (
       s.firing ((s.count winTWC TWC.BUS_CLEAR_COUNT).raiseKind winTWC evTwcCleared).twcFound)) ∧
  (∀ (s : State),
     s.twcChecking = false → s.flag winTWC TWC.TWC_STATUS_ACTIVE = true → s.ax winTWC axTwcWaits = 1 →
     s.ax winTWC axTwcLost = 0 →
     exec .twcBusFree s = .next (
       s.firing (((s.setAx winTWC axTwcFree 1).setAx winTWC axTwcWaits 0).setAx winTWC axTwcFree 0)))

/-- Bus requests of the two-wire controller. In every state and on all operands that meet the hypotheses of its
    clause, each of these commands answers the next state written out in its clause, or one with the values listed
    there (where a Frame is given, every other register and the rest of the frame stand): IBR_SERVE,
    IBR_REQUEST_START, IBR_REPEAT, IBR_WITHDRAW, IBR_UNSERVED, IBR_FRAME_END (R389, R390, R391, R392). -/
def Obligations.BusRequests : Prop :=
  (∀ (s : State) (a : BitVec 7) (reason : Byte),
     s.flag winTWC TWC.TWC_CFG_IBR_SERVE = true → s.atomState winTWC = stRUN → s.twcOnBus = false →
     s.flag winTWC TWC.TWC_STATUS_HOLDING = false →
     (s.flag winTWC TWC.TWC_CFG_IBR_ACCEPT_ALL = true ∨ s.ibrListed a.toNat = true) → (s.bl twcIbr).length < 4 →
     ∃ t, exec (.ibrServe a reason) s = .next t ∧
       t.bl twcIbr = s.bl twcIbr ++ [reason.toNat + 256 * a.toNat + 2147483648] ∧
       t.rd winTWC TWC.IBR_COUNT.off = counted (s.rd winTWC TWC.IBR_COUNT.off) ∧
       (t.rd winTWC 0x00C).getLsbD evTwcIbr = true ∧
       Frame [(winTWC, TWC.IBR_COUNT.off), (winTWC, 0x028), (winTWC, 0x00C)] s t) ∧
  (∀ (s : State) (a : BitVec 7) (reason : Byte),
     s.flag winTWC TWC.TWC_CFG_IBR_SERVE = true → s.atomState winTWC = stRUN → s.twcOnBus = false →
     s.flag winTWC TWC.TWC_STATUS_HOLDING = false →
     (4 ≤ (s.bl twcIbr).length ∨ (s.flag winTWC TWC.TWC_CFG_IBR_ACCEPT_ALL = false ∧ s.ibrListed a.toNat = false)) →
     ∃ t, exec (.ibrServe a reason) s = .next t ∧
       t.rd winTWC TWC.IBR_DROPPED_COUNT.off = counted (s.rd winTWC TWC.IBR_DROPPED_COUNT.off) ∧
       Frame [(winTWC, TWC.IBR_DROPPED_COUNT.off), (winTWC, 0x028), (winTWC, 0x00C)] s t) ∧
  (∀ (s : State),
     s.ibrWants = true → s.flag blkHost HOST.TWT_STATUS_IBR_PENDING = false →
     exec .ibrRequestStart s = .next (s.ibrAsk)) ∧
  (∀ (s : State),
     s.ibrWants = true →
     exec .ibrRepeat s = .next (s.ibrAsk)) ∧
  (∀ (s : State),
     ∃ t, exec .ibrWithdraw s = .next t ∧
       t.ax blkHost axIbrDrive = 0 ∧
       Frame [] s t) ∧
  (∀ (s : State),
     s.ax blkHost axIbrDrive = 1 →
     ∃ t, exec .ibrUnserved s = .next t ∧
       t.ax blkHost axIbrDrive = 0 ∧
       t.rd blkHost HOST.IBR_UNSERVED_COUNT.off = counted (s.rd blkHost HOST.IBR_UNSERVED_COUNT.off) ∧
       Frame [(blkHost, HOST.IBR_UNSERVED_COUNT.off), (blkHost, 0x07C), (blkHost, 0x00C)] s t) ∧
  (∀ (s : State),
     s.ax blkHost axIbrDrive = 1 →
     ∃ t, exec (.ibrFrameEnd true) s = .next t ∧
       t.fld blkHost HOST.TWT_STATUS_IBR_PENDING = 0 ∧
       t.ax blkHost axIbrDrive = 0 ∧
       Frame [(blkHost, HOST.TWT_STATUS_IBR_PENDING.off)] s t)

/-- Aerial feeds. In every state and on all operands that meet the hypotheses of its clause, each of these commands
    answers the next state written out in its clause, or one with the values listed there (where a Frame is given,
    every other register and the rest of the frame stand): FEED_ON_WRITE, FEED_SOFT_START_DONE, FEED_SHORT,
    FEED_RETRY, FEED_OPEN, FEED_OPEN_CLEARED, FEED_REVERSE, FEED_RESUME (R430, R431, R432, R433, R426). -/
def Obligations.FeedRows : Prop :=
  (∀ (s : State) (m : Master) (n : Fin 8) (v : Word),
     s.accepts m (winFeed n) 0x040 v (s.feedCodes (winFeed n) 0x040 v) = true →
     exec (.feedOnWrite m n v) s = .next (s.told m (winFeed n) 0x040 v (s.feedCtl (winFeed n) v))) ∧
  (∀ (s : State) (n : Fin 8),
     s.feedState (winFeed n) = 1 →
     ∃ t, exec (.feedSoftStartDone n) s = .next t ∧
       t.feedState (winFeed n) = 2 ∧
       Frame [((winFeed n), FEED.FEED_STATUS_STATE.off)] s t) ∧
  (∀ (s : State) (n : Fin 8),
     s.feedState (winFeed n) = 2 → s.ax (winFeed n) axFeedShorts < 2 →
     s.flag (winFeed n) FEED.FEED_CTL_AUTO_RETRY = true →
     ∃ t, exec (.feedShort n) s = .next t ∧
       t.feedState (winFeed n) = 3 ∧
       t.fld (winFeed n) UCB.UNIT_ERR_CODE = 0x0410 ∧
       (t.rd (winFeed n) 0x00C).getLsbD evFeedShort = true ∧
       t.ax (winFeed n) axFeedShorts = s.ax (winFeed n) axFeedShorts + 1) ∧
  (∀ (s : State) (n : Fin 8),
     s.feedState (winFeed n) = 3 → s.ax (winFeed n) axFeedBlocked = 0 → s.flag (winFeed n) FEED.FEED_CTL_ON = true →
     s.feedsAllowed = true → (s.unit (winFeed n)).safe = false → (s.unit (winFeed n)).selfFail = false →
     ∃ t, exec (.feedRetry n) s = .next t ∧
       t.feedState (winFeed n) = 1) ∧
  (∀ (s : State) (n : Fin 8),
     s.feedState (winFeed n) = 2 → s.flag (winFeed n) FEED.FEED_STATUS_OPEN = false →
     ∃ t, exec (.feedOpen n) s = .next t ∧
       t.flag (winFeed n) FEED.FEED_STATUS_OPEN = true ∧
       t.rd (winFeed n) FEED.OPEN_COUNT.off = counted (s.rd (winFeed n) FEED.OPEN_COUNT.off) ∧
       t.fld (winFeed n) UCB.UNIT_ERR_CODE = 0x0411 ∧
       (t.rd (winFeed n) 0x00C).getLsbD evFeedOpen = true ∧
       Frame [((winFeed n), FEED.FEED_STATUS_OPEN.off), ((winFeed n), FEED.OPEN_COUNT.off), ((winFeed n), 0x028),
           ((winFeed n), 0x00C), ((winFeed n), UCB.UNIT_ERR_CODE.off)] s t) ∧
  (∀ (s : State) (n : Fin 8),
     s.flag (winFeed n) FEED.FEED_STATUS_OPEN = true →
     ∃ t, exec (.feedOpenCleared n) s = .next t ∧
       t.flag (winFeed n) FEED.FEED_STATUS_OPEN = false ∧
       (t.rd (winFeed n) 0x00C).getLsbD evFeedOpenCleared = true ∧
       Frame [((winFeed n), FEED.FEED_STATUS_OPEN.off), ((winFeed n), 0x00C)] s t) ∧
  (∀ (s : State) (n : Fin 8),
     s.feedLit (winFeed n) = true →
     ∃ t, exec (.feedReverse n) s = .next t ∧
       t.feedState (winFeed n) = 4 ∧
       t.fld (winFeed n) UCB.UNIT_ERR_CODE = 0x0412 ∧
       (t.rd (winFeed n) 0x00C).getLsbD evFeedReverse = true ∧
       t.ax (winFeed n) axFeedBlocked = 1) ∧
  (∀ (s : State) (n : Fin 8) (rest : List Nat),
     s.power.savedFeeds = winFeed n :: rest → s.power.die = 0 →
     exec (.feedResume n) s = .next (({ s with power := { s.power with savedFeeds := rest } }).feedStart (winFeed n)))

/-- Queues. In every state and on all operands that meet the hypotheses of its clause, each of these commands answers
    the next state written out in its clause, or one with the values listed there (where a Frame is given, every other
    register and the rest of the frame stand): Q_CONS_WRITE, Q_PROD_WRITE, HOST_DESCRIPTOR_TAKE, DESCRIPTOR_RETIRE,
    RECORD_COMMIT, IQ_BLOCK, FINAL_DESCRIPTOR_COMMIT (R341, R342, R343, R345, R347). -/
def Obligations.QueueRows : Prop :=
  (∀ (s : State) (m : Master) (n : Fin 64) (v : Word),
     s.accepts m (winQ n) QUE.Q_CONS.off v (s.consCodes m (winQ n) v) = true →
     exec (.qConsWrite m n v) s = .next (s.told m (winQ n) QUE.Q_CONS.off v (s.consTo (winQ n) v))) ∧
  (∀ (s : State) (m : Master) (n : Fin 64) (v : Word),
     s.accepts m (winQ n) QUE.Q_PROD.off v (s.prodCodes m (winQ n) v) = true →
     exec (.qProdWrite m n v) s = .next (s.told m (winQ n) QUE.Q_PROD.off v (s.prodTo (winQ n) v))) ∧
  (∀ (s : State) (n : Fin 64),
     s.qCanTake (winQ n) = true → s.descGood (winQ n) (s.takeIndex (winQ n)) = true →
     exec (.hostDescriptorTake n) s = .next (s.takeDesc (winQ n) false)) ∧
  (∀ (s : State) (n : Fin 64),
     s.qCanTake (winQ n) = true → s.descGood (winQ n) (s.takeIndex (winQ n)) = false →
     exec (.hostDescriptorTake n) s = .next (
       ((((s.takeDesc (winQ n) true).count (winQ n) QUE.DESC_ERR_COUNT).setErr (winQ n) 0x0712).raiseKind (winQ n)
           evQDescError).retireDone (winQ n))) ∧
  (∀ (s : State) (n : Fin 64),
     s.usedUp (winQ n) = true →
     exec (.descriptorRetire n) s = .next ((s.retireDesc (winQ n)).setAx (winQ n) axQRead 0)) ∧
  (∀ (s : State) (n : Fin 64) (r : RecordArg),
     recordType r.type.toNat = true → s.qTakes (winQ n) = true → s.qFits (winQ n) r.data.length = true →
     exec (.recordCommit n r) s = .next (
       s.commitRec (winQ n) ⟨r.type.toNat, r.source.toNat, ⟨r.err, r.mark, r.warm⟩, r.time, r.data⟩)) ∧
  (∀ (s : State) (n : Fin 64) (r : RecordArg),
     recordType r.type.toNat = true → s.qTakes (winQ n) = true → s.qFits (winQ n) r.data.length = false →
     ∃ t, exec (.recordCommit n r) s = .next t ∧
       t.rd (winQ n) QUE.DROP_COUNT.off = counted (s.rd (winQ n) QUE.DROP_COUNT.off) ∧
       (t.rd (winQ n) 0x00C).getLsbD evQDropped = true ∧
       Frame [((winQ n), QUE.DROP_COUNT.off), ((winQ n), 0x028), ((winQ n), 0x00C)] s t) ∧
  (∀ (s : State) (n : Fin 64),
     kindOf (s.srcOf (winQ n) 0) = .chanFilter → s.iqDue (winQ n) = true → s.qTakes (winQ n) = true →
     exec (.iqBlock n) s = .next (
       let ch := instOf (s.srcOf (winQ n) 0);
       let fmt := s.fld (winQ n) QUE.Q_CFG_IQ_FORMAT;
       let xs := pairsOf ((s.hs (winQ n) hsIqData).take (s.iqNeed (winQ n)));
       let r : Rec := ⟨0x09, ch, ⟨false, s.ax (winQ n) axQFollows == 0, (s.hs (winQ n) hsIqHead).getD 1 0 != 0⟩, w32
           ((s.hs (winQ n) hsIqHead).headD 0).toNat, ((iqHeader fmt (s.branchesOf ch)) :: xs.flatMap (iqWords fmt
           s.freshWord)).flatMap bytesOf⟩;
       ((((s.placeRec (winQ n) r).useFresh).setHs (winQ n) hsIqData ((s.hs (winQ n) hsIqData).drop (s.iqNeed (winQ
           n)))).setHs (winQ n) hsIqHead []).setAx (winQ n) axQFollows (b2n (!s.recDropped (winQ n) r)))) ∧
  (∀ (s : State) (n : Fin 64),
     s.ax (winQ n) axQFinal = 1 → 0 < s.qFree (winQ n) →
     exec (.finalDescriptorCommit n) s = .next (
       if s.ax (winQ n) axQStop = 0 then (((s.putFinal (winQ n)).setAx (winQ n) axQStop 1).setValid (winQ n)
           false).raiseKind (winQ n) evQStopped else s.putFinal (winQ n)))

/-- Unit control. In every state and on all operands that meet the hypotheses of its clause, each of these commands
    answers the next state written out in its clause: UNIT_CTL_WRITE, COMPOSITE_CTL_WRITE, SYNC_RESET, APPLY,
    FAULT_CLEAR, APPLY_TAKES_EFFECT, UNIT_CTL_DEFERRED, UNIT_POWER_UPDATE (R58, R59, R60, R61, R62, R524). -/
def Obligations.UnitRows : Prop :=
  (∀ (s : State) (m : Master) (w : Fin 1024) (v : Word),
     s.isComposite w = false → s.accepts m w 0x004 v (s.ctlCodes w v) = true →
     exec (.unitCtlWrite m w v) s = .next (
       s.told m w 0x004 v (s.triggered (fun u => if u.busyOf w then u.defer w v else u.ctlNow w v)))) ∧
  (∀ (s : State) (m : Master) (w : Fin 1024) (v : Word),
     s.isComposite w = true → s.accepts m w 0x004 v (s.ctlCodes w v) = true →
     exec (.compositeCtlWrite m w v) s = .next (
       s.told m w 0x004 v (s.triggered (fun u => if u.busyOf w then u.defer w v else u.fanOut w v)))) ∧
  (∀ (s : State) (m : Master) (w : Fin 1024) (v : Word),
     s.accepts m w 0x004 (v ||| 0x08) (s.ctlCodes w (v ||| 0x08)) = true →
     exec (.syncReset m w v) s = .next (s.told m w 0x004 (v ||| 0x08) (s.triggered (fun u => u.ctl w (v ||| 0x08))))) ∧
  (∀ (s : State) (m : Master) (w : Fin 1024) (v : Word),
     s.accepts m w 0x004 (v ||| 0x10) (s.ctlCodes w (v ||| 0x10)) = true →
     exec (.apply m w v) s = .next (s.told m w 0x004 (v ||| 0x10) (s.triggered (fun u => u.ctl w (v ||| 0x10))))) ∧
  (∀ (s : State) (m : Master) (w : Fin 1024) (v : Word),
     s.accepts m w 0x004 (v ||| 0x80) (s.ctlCodes w (v ||| 0x80)) = true →
     exec (.faultClear m w v) s = .next (s.told m w 0x004 (v ||| 0x80) (s.triggered (fun u => u.ctl w (v ||| 0x80))))) ∧
  (∀ (s : State) (w : Fin 1024),
     (s.unit w).applyBusy = true → (s.takeStaged w).2 = true →
     exec (.applyTakesEffect w) s = .next ((s.takeStaged w).1.applyDone w)) ∧
  (∀ (s : State) (w : Fin 1024) (v : Word),
     (s.unit w).deferred = some v → s.busyOf w = false →
     exec (.unitCtlDeferred w) s = .next (
       (s.setUnit w { s.unit w with deferred := none }).triggered (fun u => u.ctl w v))) ∧
  (∀ (s : State),
     exec .unitPowerUpdate s = .next (
       (s.touched.foldl (fun t w => t.put w UCB.UNIT_POWER_POWER (s.powerNow w)) s).useFresh))

/-- Pigeonholes. In every state and on all operands that meet the hypotheses of its clause, each of these commands
    answers the next state written out in its clause, or one with the values listed there: PH_TH_PUSH, PH_TD_PUSH,
    PH_TD_POP, PH_TH_POP, TD_EMPTY_REQ, TH_EMPTY_REQ, MESSAGE_TIMEOUT, UNKNOWN_OPCODE (R351, R352, R353, R357). -/
def Obligations.Pigeonholes : Prop :=
  (∀ (s : State) (m : Master) (ph : Fin 8) (v : Word),
     s.accepts m blkPigeon (0x20 * ph + 0x08) v [] = true → (s.fifo true ph).words.length < 8 →
     ∃ t, exec (.phThPush m ph v) s = .next t ∧
       (t.fifo true ph).words = (s.fifo true ph).words ++ [v] ∧
       (t.fifo true ph).collision = (s.fifo true ph).collision ∧
       t.fifo false ph = s.fifo false ph ∧
       t.regs = s.regs ∧
       t.mem = s.mem) ∧
  (∀ (s : State) (m : Master) (ph : Fin 8) (v : Word),
     s.accepts m blkPigeon (0x20 * ph + 0x08) v [] = true → 8 ≤ (s.fifo true ph).words.length →
     ∃ t, exec (.phThPush m ph v) s = .next t ∧
       (t.fifo true ph).words = (s.fifo true ph).words.dropLast ++ [v] ∧
       (t.fifo true ph).collision = true ∧
       t.board.latch.getLsbD 118 = true ∧
       t.fifo false ph = s.fifo false ph ∧
       t.regs = s.regs ∧
       t.mem = s.mem) ∧
  (∀ (s : State) (m : Master) (ph : Fin 8) (v : Word),
     s.accepts m blkPigeon (0x20 * ph) v [] = true → s.ax blkPigeon (axDiscard ph) = 0 →
     (s.fifo false ph).words.length < 8 → v.toNat % 65536 ≤ 7 →
     ∃ t, exec (.phTdPush m ph v) s = .next t ∧
       (t.fifo false ph).words = (s.fifo false ph).words ++ [v] ∧
       t.fifo true ph = s.fifo true ph ∧
       t.regs = s.regs ∧
       t.mem = s.mem) ∧
  (∀ (s : State) (m : Master) (ph : Fin 8) (v : Word),
     s.accepts m blkPigeon (0x20 * ph) v [] = true → s.ax blkPigeon (axDiscard ph) = 0 →
     8 ≤ (s.fifo false ph).words.length →
     ∃ t, exec (.phTdPush m ph v) s = .next t ∧
       (t.fifo false ph).words = (s.fifo false ph).words.dropLast ++ [v] ∧
       (t.fifo false ph).collision = true ∧
       t.board.latch.getLsbD 118 = true ∧
       t.regs = s.regs ∧
       t.mem = s.mem) ∧
  (∀ (s : State) (m : Master) (ph : Fin 8) (v : Word) (rest : List Word),
     (s.fifo false ph).words = v :: rest →
     ∃ t, exec (.phTdPop m ph) s = .next t ∧
       t.answer = [v] ∧
       (t.fifo false ph).words = rest ∧
       t.fifo true ph = s.fifo true ph ∧
       t.regs = s.regs ∧
       t.mem = s.mem) ∧
  (∀ (s : State) (m : Master) (ph : Fin 8) (v : Word) (rest : List Word),
     (s.fifo true ph).words = v :: rest → (s.fw.outbox.any (fun x => x.ph == ph)) = false →
     ∃ t, exec (.phThPop m ph) s = .next t ∧
       t.answer = [v] ∧
       (t.fifo true ph).words = rest ∧
       t.fifo false ph = s.fifo false ph ∧
       t.regs = s.regs ∧
       t.mem = s.mem) ∧
  (∀ (s : State) (m : Master) (ph : Fin 8),
     s.accepts m blkPigeon (0x20 * ph + 0x10) 0x20 [] = true → (s.fifo false ph).words = [] →
     ∃ t, exec (.tdEmptyReq m ph) s = .next t ∧
       (t.fifo false ph).emptied = true ∧
       (t.fifo false ph).emptyReq = false ∧
       t.board.latch.getLsbD 117 = true ∧
       t.regs = s.regs) ∧
  (∀ (s : State) (m : Master) (ph : Fin 8),
     s.accepts m blkPigeon (0x20 * ph + 0x10) 0x20 [] = true → (s.fifo false ph).words ≠ [] →
     ∃ t, exec (.tdEmptyReq m ph) s = .next t ∧
       t.fifo false ph = { s.fifo false ph with emptyReq := true } ∧
       t.regs = s.regs) ∧
  (∀ (s : State) (m : Master) (ph : Fin 8),
     s.accepts m blkPigeon (0x20 * ph + 0x10) 0x200000 [] = true → (s.fifo true ph).words = [] →
     ∃ t, exec (.thEmptyReq m ph) s = .next t ∧
       (t.fifo true ph).emptied = true ∧
       (t.fifo true ph).emptyReq = false ∧
       t.board = s.board ∧
       t.regs = s.regs) ∧
  (∀ (s : State) (m : Master) (ph : Fin 8),
     s.accepts m blkPigeon (0x20 * ph + 0x10) 0x200000 [] = true → (s.fifo true ph).words ≠ [] →
     ∃ t, exec (.thEmptyReq m ph) s = .next t ∧
       t.fifo true ph = { s.fifo true ph with emptyReq := true } ∧
       t.regs = s.regs) ∧
  (∀ (s : State) (ph : Fin 8) (v : Word) (rest : List Word),
     (s.fifo false ph).words = v :: rest → s.fw.inService = true → rest.length < v.toNat % 65536 →
     exec (.messageTimeout ph) s = .next (
       ((s.dropTd ph).setFifo false ph { (s.dropTd ph).fifo false ph with collision := false }).reply ph (v.toNat /
           16777216) (v.toNat / 65536 % 256) [if (s.fifo false ph).collision then 0x0714 else 0x0713])) ∧
  (∀ (s : State) (ph : Fin 8) (tag : BitVec 8) (op : BitVec 8),
     op.toNat ∉ servedOpcodes → s.serves ph op.toNat = true →
     exec (.unknownOpcode ph tag op) s = .next ((s.heard ph).reply ph op.toNat tag.toNat [0x0715]))

/-- SYS messages. In every state and on all operands that meet the hypotheses of its clause, each of these commands
    answers the next state written out in its clause, or one with the values listed there: SYS_PING, SYS_VERSION,
    SYS_FAULT, SYS_NOTICE_CFG, SYS_STANDBY (R357, R358). -/
def Obligations.SystemCommands : Prop :=
  (∀ (s : State) (ph : Fin 8) (tag : BitVec 8) (args : List Word),
     s.serves ph 0x00 = true →
     exec (.sysPing ph tag args) s = .next ((s.heard ph).reply ph 0x00 tag.toNat (0 :: args.take 6))) ∧
  (∀ (s : State) (ph : Fin 8) (tag : BitVec 8) ,
     s.serves ph 0x01 = true →
     exec (.sysVersion ph tag) s = .next (
       (s.heard ph).reply ph 0x01 tag.toNat [0, s.rdWord (fwSlotBase s.fw.runningSlot + 8), w32 s.fw.runningSlot,
           s.tree.manifestId, w32 s.tree.manifestSlot])) ∧
  (∀ (s : State) (ph : Fin 8) (tag : BitVec 8) ,
     s.serves ph 0x02 = true →
     exec (.sysFault ph tag) s = .next (
       (s.heard ph).reply ph 0x02 tag.toNat [0, w32 s.highestClass, w32 s.fw.latestCode, w32 s.fw.logHeld])) ∧
  (∀ (s : State) (ph : Fin 8) (tag : BitVec 8) (mask : Word),
     s.serves ph 0x04 = true →
     exec (.sysNoticeCfg ph tag mask) s = .next (
       ({ s.heard ph with fw := { s.fw with noticeMask := mask } }).reply ph 0x04 tag.toNat [0])) ∧
  (∀ (s : State) (ph : Fin 8) (tag : BitVec 8) (mask : Word),
     s.serves ph 0x03 = true → mask.toNat % 8 ≠ 0 → s.tree.job = none →
     ∃ t, exec (.sysStandby ph tag mask) s = .next t ∧
       t.power.saving = 2 ∧
       t.fld blkKpr KPR.KPR_STATUS_VIN_STATE = 4)

/-- Bells and event latches. In every state and on all operands that meet the hypotheses of its clause, each of these
    commands answers a next state with the values of its clause: BELL_RING, BELL_CLEAR, EVENT_LATCH_CLEAR (R359,
    R360). -/
def Obligations.BellsAndLatches : Prop :=
  (∀ (s : State) (m : Master) (v : Word),
     s.accepts m blkPigeon 0x100 v [] = true →
     ∃ t, exec (.bellRing m false v) s = .next t ∧
       t.board.toDev = s.board.toDev ||| v ∧
       t.board.toHost = s.board.toHost ∧
       t.board.latch = s.board.latch ∧
       t.regs = s.regs ∧
       t.mem = s.mem) ∧
  (∀ (s : State) (m : Master) (v : Word),
     s.accepts m blkPigeon 0x110 v [] = true →
     ∃ t, exec (.bellRing m true v) s = .next t ∧
       (∀ i, (s.board.toHost ||| v).getLsbD i = true → t.board.toHost.getLsbD i = true) ∧
       t.board.toDev = s.board.toDev ∧
       t.board.latch = s.board.latch ∧
       t.regs = s.regs ∧
       t.mem = s.mem) ∧
  (∀ (s : State) (m : Master) (v : Word),
     s.accepts m blkPigeon 0x104 v [] = true →
     ∃ t, exec (.bellClear m false v) s = .next t ∧
       t.board.toDev = s.board.toDev &&& ~~~v ∧
       t.board.toHost = s.board.toHost ∧
       t.board.latch = s.board.latch ∧
       t.regs = s.regs ∧
       t.mem = s.mem) ∧
  (∀ (s : State) (m : Master) (v : Word),
     s.accepts m blkPigeon 0x114 v [] = true →
     ∃ t, exec (.bellClear m true v) s = .next t ∧
       t.board.toHost = s.board.toHost &&& ~~~v ∧
       t.board.toDev = s.board.toDev ∧
       t.board.latch = s.board.latch ∧
       t.regs = s.regs ∧
       t.mem = s.mem) ∧
  (∀ (s : State) (m : Master) (k : Fin 4) (v : Word),
     s.accepts m blkEvents (4 * k) v [] = true →
     ∃ t, exec (.eventLatchClear m k v) s = .next t ∧
       (∀ i : Fin 32, t.board.latch.getLsbD (32 * k + i) = (s.board.latch.getLsbD (32 * k + i) && !v.getLsbD i)) ∧
       (∀ i : Fin 128, (i : Nat) / 32 ≠ k → t.board.latch.getLsbD i = s.board.latch.getLsbD i) ∧
       t.regs = s.regs ∧
       t.mem = s.mem)

/-- Guestbook messages and passes. In every state and on all operands that meet the hypotheses of its clause, each of
    these commands answers the next state written out in its clause, or one with the values listed there: GB_CONFIG,
    GB_LOOKUP, GB_INSERT, GB_DELETE, GB_FLAGS, GB_LINK, GB_UNLINK, GB_CHECKPOINT, GB_CLEAR, GB_STATUS, GB_SWEEP,
    GB_CHECKPOINT_WRITE, GB_DAILY_CHECKPOINT, GB_RESTORE_DONE (R244, R247, R248, R249, R250). -/
def Obligations.Guestbook : Prop :=
  (∀ (s : State) (ph : Fin 8) (tag : BitVec 8) (args : List Word),
     s.serves ph 0x40 = true → s.guest.ready = true → ((arg args 0 = 0x3FF ∨ kindOf (arg args 0) = .queue)) →
     arg args 1 ≤ 255 → 1 ≤ arg args 2 → arg args 2 ≤ 65535 → 1 ≤ arg args 3 → arg args 3 ≤ 65535 →
     exec (.gbConfig ph tag args) s = .next (
       let t := (s.heard ph).mirrorMsg 2 (w32 0x40 :: args);
       (({ t with guest := { t.guest with queue := arg args 0, ckptMin := arg args 1, maxAge := arg args 2, listExpiry := arg args 3 } }).reply
           ph 0x40 tag.toNat [0]))) ∧
  (∀ (s : State) (ph : Fin 8) (tag : BitVec 8) (args : List Word) (i : Nat),
     s.serves ph 0x41 = true → s.guest.ready = true → arg args 1 % 16777216 ≠ 0 →
     s.gbFind (args.getD 0 0) (arg args 1 % 268435456) = some i →
     exec (.gbLookup ph tag args) s = .next (
       ((s.heard ph).mirrorMsg 2 (w32 0x41 :: args)).reply ph 0x41 tag.toNat ([0, w32 i] ++ (s.gbRec i).words))) ∧
  (∀ (s : State) (ph : Fin 8) (tag : BitVec 8) (args : List Word),
     s.serves ph 0x41 = true → s.guest.ready = true → arg args 1 % 16777216 ≠ 0 →
     s.gbFind (args.getD 0 0) (arg args 1 % 268435456) = none →
     exec (.gbLookup ph tag args) s = .next (
       ((s.heard ph).mirrorMsg 2 (w32 0x41 :: args)).reply ph 0x41 tag.toNat ([0, 0xFFFFFFFF] ++ GRec.free.words))) ∧
  (∀ (s : State) (ph : Fin 8) (tag : BitVec 8) (args : List Word),
     s.serves ph 0x42 = true → s.guest.ready = true →
     (⟨args.getD 0 0, setBit (args.getD 1 0) 31 false, args.getD 2 0, args.getD 3 0⟩ : GRec).ok = false →
     exec (.gbInsert ph tag args) s = .next (
       ((s.heard ph).mirrorMsg 2 (w32 0x42 :: args)).reply ph 0x42 tag.toNat [0x0231])) ∧
  (∀ (s : State) (ph : Fin 8) (tag : BitVec 8) (args : List Word) (i : Nat),
     s.serves ph 0x42 = true → s.guest.ready = true →
     (⟨args.getD 0 0, setBit (args.getD 1 0) 31 false, args.getD 2 0, args.getD 3 0⟩ : GRec).ok = true →
     ((s.heard ph).mirrorMsg 2 (w32 0x42 :: args)).gbFind (args.getD 0 0) (⟨args.getD 0 0, setBit (args.getD 1 0) 31
         false, args.getD 2 0, args.getD 3 0⟩ : GRec).place = none →
     (((s.heard ph).mirrorMsg 2 (w32 0x42 :: args)).gbInsert ⟨args.getD 0 0, setBit (args.getD 1 0) 31 false,
         args.getD 2 0, args.getD 3 0⟩).2 = some i →
     exec (.gbInsert ph tag args) s = .next (
       ((((s.heard ph).mirrorMsg 2 (w32 0x42 :: args)).gbInsert ⟨args.getD 0 0, setBit (args.getD 1 0) 31 false,
           args.getD 2 0, args.getD 3 0⟩).1.gbJoinEqual i).reply ph 0x42 tag.toNat [0, w32 i])) ∧
  (∀ (s : State) (ph : Fin 8) (tag : BitVec 8) (args : List Word) (i : Nat),
     s.serves ph 0x42 = true → s.guest.ready = true →
     (⟨args.getD 0 0, setBit (args.getD 1 0) 31 false, args.getD 2 0, args.getD 3 0⟩ : GRec).ok = true →
     ((s.heard ph).mirrorMsg 2 (w32 0x42 :: args)).gbFind (args.getD 0 0) (⟨args.getD 0 0, setBit (args.getD 1 0) 31
         false, args.getD 2 0, args.getD 3 0⟩ : GRec).place = some i →
     exec (.gbInsert ph tag args) s = .next (
       let t := (s.heard ph).mirrorMsg 2 (w32 0x42 :: args);
       (t.gbSet i ⟨args.getD 0 0, setBit (args.getD 1 0) 31 false, args.getD 2 0, w32 ((args.getD 3 0).toNat -
           (args.getD 3 0).toNat % 262144 + (t.gbRec i).link)⟩).reply ph 0x42 tag.toNat [0, w32 i])) ∧
  (∀ (s : State) (ph : Fin 8) (tag : BitVec 8) (args : List Word),
     s.serves ph 0x43 = true → s.guest.ready = true →
     ((s.heard ph).mirrorMsg 2 (w32 0x43 :: args)).gbOccupied (arg args 0) = true →
     exec (.gbDelete ph tag args) s = .next (
       (((s.heard ph).mirrorMsg 2 (w32 0x43 :: args)).gbFree (arg args 0)).reply ph 0x43 tag.toNat [0])) ∧
  (∀ (s : State) (ph : Fin 8) (tag : BitVec 8) (args : List Word),
     s.serves ph 0x44 = true → s.guest.ready = true →
     ((s.heard ph).mirrorMsg 2 (w32 0x44 :: args)).gbOccupied (arg args 0) = true →
     exec (.gbFlags ph tag args) s = .next (
       let t := (s.heard ph).mirrorMsg 2 (w32 0x44 :: args);
       let r := t.gbRec (arg args 0);
       let mask := args.getD 1 0 &&& 0x30000000#32;
       let u := t.gbSet (arg args 0) { r with w3 := (r.w3 &&& ~~~mask) ||| (args.getD 2 0 &&& mask) };
       u.reply ph 0x44 tag.toNat (0 :: (u.gbRec (arg args 0)).words))) ∧
  (∀ (s : State) (ph : Fin 8) (tag : BitVec 8) (args : List Word),
     s.serves ph 0x45 = true → s.guest.ready = true →
     ((s.heard ph).mirrorMsg 2 (w32 0x45 :: args)).gbOccupied (arg args 0) = true →
     ((s.heard ph).mirrorMsg 2 (w32 0x45 :: args)).gbOccupied (arg args 1) = true →
     exec (.gbLink ph tag args) s = .next (
       (((s.heard ph).mirrorMsg 2 (w32 0x45 :: args)).gbJoin (arg args 0) (arg args 1) ((args.getD 2 0).getLsbD
           0)).reply ph 0x45 tag.toNat [0])) ∧
  (∀ (s : State) (ph : Fin 8) (tag : BitVec 8) (args : List Word),
     s.serves ph 0x46 = true → s.guest.ready = true →
     ((s.heard ph).mirrorMsg 2 (w32 0x46 :: args)).gbOccupied (arg args 0) = true →
     exec (.gbUnlink ph tag args) s = .next (
       (((s.heard ph).mirrorMsg 2 (w32 0x46 :: args)).gbUnring (arg args 0)).reply ph 0x46 tag.toNat [0])) ∧
  (∀ (s : State) (ph : Fin 8) (tag : BitVec 8) (args : List Word),
     s.serves ph 0x47 = true → s.guest.ready = true →
     ((s.heard ph).mirrorMsg 2 (w32 0x47 :: args)).ckptRuns = true →
     exec (.gbCheckpoint ph tag args) s = .next (
       let t := (s.heard ph).mirrorMsg 2 (w32 0x47 :: args);
       (t.gbSave t.gbDirtyPages).reply ph 0x47 tag.toNat [0, w32 t.gbDirtyPages.length])) ∧
  (∀ (s : State) (ph : Fin 8) (tag : BitVec 8) (args : List Word),
     s.serves ph 0x48 = true → s.guest.ready = true → args.getD 0 0 = 0x47424358 →
     exec (.gbClear ph tag args) s = .next (
       let t := (s.heard ph).mirrorMsg 2 (w32 0x48 :: args);
       let v := (t.gbAll.foldl (fun u i => u.gbChange 3 i i (t.gbRec i)) t).gbErase;
       ({ v with mem := Store.dropRange ckptBase (ckptBase + 0x400000) v.mem, guest := { v.guest with dirty := [], measuredAt := [], heardAt := [] } }).reply
           ph 0x48 tag.toNat [0])) ∧
  (∀ (s : State) (ph : Fin 8) (tag : BitVec 8) (args : List Word),
     s.serves ph 0x48 = true → s.guest.ready = true → args.getD 0 0 ≠ 0x47424358 →
     exec (.gbClear ph tag args) s = .next (
       ((s.heard ph).mirrorMsg 2 (w32 0x48 :: args)).reply ph 0x48 tag.toNat [0x0202])) ∧
  (∀ (s : State) (ph : Fin 8) (tag : BitVec 8) (args : List Word),
     s.serves ph 0x49 = true →
     exec (.gbStatus ph tag args) s = .next (
       (s.heard ph).reply ph 0x49 tag.toNat [0, w32 (b2n s.guest.ready + 256 * (if s.guest.ready then s.gbCount else
           0)), w32 s.gbDirtyPages.length, s.guest.fullCount, s.guest.ringFullCount, s.guest.badRecords])) ∧
  (∀ (s : State),
     s.guest.ready = true → s.fw.inService = true →
     exec .gbSweep s = .next (
       let t := s.gbAll.foldl State.gbAgeOne s;
       t.gbPurge t.gbCount)) ∧
  (∀ (s : State),
     s.ckptRuns = true → s.guest.ckptMin ≠ 0 →
     exec .gbCheckpointWrite s = .next (s.gbSave s.gbDirtyPages)) ∧
  (∀ (s : State),
     s.ckptRuns = true →
     exec .gbDailyCheckpoint s = .next (s.gbSave (dedup (s.gbAll.map (fun i => i / 16))))) ∧
  (∀ (s : State),
     s.guest.ready = false → s.guest.stopped = false → s.fw.inService = true →
     ∃ t, exec .gbRestoreDone s = .next t ∧
       t.guest = s.gbRestore.guest ∧
       t.mem = s.gbRestore.mem ∧
       t.board.latch.getLsbD 93 = true)

/-- Side data. In every state and on all operands that meet the hypotheses of its clause, each of these commands
    answers the next state written out in its clause: FIG_RECEIVED, PAD_DATA_GROUP, PACKET_RECEIVED, DRM_SDC_ENTITY,
    QUALITY_REPORT, RDS_BLOCK (R229, R230, R232, R233, R235, R236). -/
def Obligations.SideData : Prop :=
  (∀ (s : State) (n : Fin 64) (c : Coded) (x : List Nat × List Nat),
     s.sdRuns (winSD n) = true → s.sdKind0 (winSD n) = 2 → s.nextCoded (winSD n) 0 = some c →
     cutFig c.bytes = some x → c.good = true →
     exec (.figReceived n) s = .next (
       ((figItems x.1).foldl (fun u i => u.figNews (winSD n) i) (s.keepRest (winSD n) 0 c x.2)).figQueue (winSD n) x.1
           true (c.stamp.extractLsb' 0 32))) ∧
  (∀ (s : State) (n : Fin 64) (c : Coded) (x : List Nat × List Nat),
     s.sdRuns (winSD n) = true → s.sdKind0 (winSD n) = 2 → s.nextCoded (winSD n) 0 = some c →
     cutFig c.bytes = some x → c.good = false →
     exec (.figReceived n) s = .next (
       (s.keepRest (winSD n) 0 c x.2).figQueue (winSD n) x.1 false (c.stamp.extractLsb' 0 32))) ∧
  (∀ (s : State) (n : Fin 64) (c : Coded),
     s.sdRuns (winSD n) = true → s.sdKind0 (winSD n) = 2 → s.nextCoded (winSD n) 0 = some c →
     cutFig c.bytes = none →
     exec (.figReceived n) s = .next (s.dropCoded (winSD n) 0)) ∧
  (∀ (s : State) (n : Fin 64) (c : Coded),
     s.sdRuns (winSD n) = true → s.padOfDab (winSD n) = true → s.nextCoded (winSD n) 1 = some c → c.tag ≠ 1 →
     exec (.padDataGroup n) s = .next (
       let t := s.dropCoded (winSD n) 1;
       let r := xpadFields (natPairs (t.bl (blSd (winSD n) sdCis 0))) c.bytes;
       r.1.foldl (fun u f => u.padField (winSD n) (c.stamp.extractLsb' 0 32) f) (t.setBl (blSd (winSD n) sdCis 0)
           (r.2.flatMap (fun p => [p.1, p.2]))))) ∧
  (∀ (s : State) (n : Fin 64) (c : Coded) (x : List Nat × List Nat),
     s.sdRuns (winSD n) = true → s.sdKind1 (winSD n) = 2 → s.nextCoded (winSD n) 1 = some c →
     cutPacket c.bytes = some x →
     ((s.keepRest (winSD n) 1 c x.2).flag (winSD n) SD.PKT_ADDR_ANY || (s.keepRest (winSD n) 1 c x.2).fld (winSD n)
         SD.PKT_ADDR_ADDR == beNat (x.1.take 2) % 1024) = true →
     (s.keepRest (winSD n) 1 c x.2).flag (winSD n) SD.SD_CFG_DG_MODE = false →
     exec (.packetReceived n) s = .next (
       let t := (s.keepRest (winSD n) 1 c x.2);
       t.sdSend (winSD n) (t.flag (winSD n) SD.DATA) ⟨3, 0, t.sdSel (winSD n), beNat (x.1.take 2) % 1024,
           c.stamp.extractLsb' 0 32, !(c.good && crc16Holds x.1), x.1.map byteOf⟩)) ∧
  (∀ (s : State) (n : Fin 64) (c : Coded) (x : List Nat × List Nat),
     s.sdRuns (winSD n) = true → s.sdKind1 (winSD n) = 2 → s.nextCoded (winSD n) 1 = some c →
     cutPacket c.bytes = some x →
     ((s.keepRest (winSD n) 1 c x.2).flag (winSD n) SD.PKT_ADDR_ANY || (s.keepRest (winSD n) 1 c x.2).fld (winSD n)
         SD.PKT_ADDR_ADDR == beNat (x.1.take 2) % 1024) = true →
     (s.keepRest (winSD n) 1 c x.2).flag (winSD n) SD.SD_CFG_DG_MODE = true →
     exec (.packetReceived n) s = .next (
       (s.keepRest (winSD n) 1 c x.2).groupPacket (winSD n) (beNat (x.1.take 2) % 1024) x.1 (c.good && crc16Holds x.1)
           (c.stamp.extractLsb' 0 32))) ∧
  (∀ (s : State) (n : Fin 64) (c : Coded),
     s.sdRuns (winSD n) = true → s.sdKind0 (winSD n) = 3 → s.nextCoded (winSD n) 0 = some c → c.tag = 2 →
     exec (.drmSdcEntity n .entity) s = .next (s.sdcEntity (winSD n) c)) ∧
  (∀ (s : State) (n : Fin 64) (c : Coded),
     s.sdRuns (winSD n) = true → s.sdKind0 (winSD n) = 3 → s.nextCoded (winSD n) 0 = some c → c.tag = 1 →
     exec (.drmSdcEntity n .fac) s = .next (
       (s.dropCoded (winSD n) 0).sdSend (winSD n) (s.flag (winSD n) SD.SDC_MASK_FAC) ⟨6, 1, 0xFF, 0,
           c.stamp.extractLsb' 0 32, !c.good, c.data⟩)) ∧
  (∀ (s : State) (n : Fin 64) (stream : Fin 4) (ok : Bool) (time : Word) (data : List Byte),
     s.sdRuns (winSD n) = true → s.sdKind1 (winSD n) = 1 → s.padOfDab (winSD n) = false →
     exec (.drmSdcEntity n (.text stream ok time data)) s = .next (
       s.sdSend (winSD n) (s.flag (winSD n) SD.DATA) ⟨7, 0, s.sdSel (winSD n), stream.val, time, !ok, data⟩)) ∧
  (∀ (s : State) (n : Fin 64) (len : Nat) (c : Coded),
     s.sdRuns (winSD n) = true → s.sdKind1 (winSD n) = 3 → s.nextCoded (winSD n) 1 = some c →
     exec (.drmSdcEntity n (.packet len)) s = .next (
       (s.keepRest (winSD n) 1 c (c.bytes.drop len)).sdSend (winSD n) (s.flag (winSD n) SD.DATA) ⟨7, 1, s.sdSel (winSD
           n), (c.bytes.take len).headD 0 / 16 % 4, c.stamp.extractLsb' 0 32, !(c.good && crc16Holds (c.bytes.take
           len)), (c.bytes.take len).map byteOf⟩)) ∧
  (∀ (s : State) (n : Fin 64) (c : Coded),
     s.sdRuns (winSD n) = true → s.sdKind1 (winSD n) = 3 → s.nextCoded (winSD n) 1 = some c →
     exec (.drmSdcEntity n .stream) s = .next (
       (s.dropCoded (winSD n) 1).sdSend (winSD n) (s.flag (winSD n) SD.DATA) ⟨7, 2, s.sdSel (winSD n), s.sdSel (winSD
           n), c.stamp.extractLsb' 0 32, !c.good, c.data⟩)) ∧
  (∀ (s : State) (n : Fin 64) (time : Word),
     s.live (winSD n) = true → s.fld (winSD n) SD.SD_CFG_QREP_MS ≠ 0 → s.srcOf (winSD n) 0 ≠ 0x3FF →
     (s.live (s.srcOf (winSD n) 0) = true ∨ s.atomState (s.srcOf (winSD n) 0) = stHOLD) →
     exec (.qualityReport n time) s = .next (
       s.sdQueue (winSD n) ⟨8, 0, 0xFF, s.srcOf (winSD n) 0, time, false, (reportOffsets (s.srcOf (winSD n)
           0)).flatMap (fun o => bytesOf (s.unitRead (s.srcOf (winSD n) 0) o))⟩)) ∧
  (∀ (s : State) (n : Fin 64) ,
     s.sdRuns (winSD n) = true → s.sdKind0 (winSD n) = 1 →
     exec (.rdsBlock n) s = .next (
       let t := s.rdsBlock (winSD n);
       (t.bl (blSd (winSD n) sdNets 0)).foldl (fun u pi => s.eonFollow u (winSD n) pi) t)) ∧
  (∀ (s : State) (n : Fin 64) ,
     s.sdRuns (winSD n) = true → s.sdKind0 (winSD n) = 1 → s.flag (winSD n) SD.SD_STATUS_RDS_SYNC = false →
     (s.rdsSearch (winSD n) (s.hs (winSD n) hsIn).length).bl (blSd (winSD n) sdNets 0) = [] →
     exec (.rdsBlock n) s = .next (s.rdsSearch (winSD n) (s.hs (winSD n) hsIn).length))

/-- Background scans. In every state and on all operands that meet the hypotheses of its clause, each of these
    commands answers the next state written out in its clause: SCAN_PLAN, SCAN_CTL, SCAN_STATUS, SCAN_TASK_START,
    SCAN_TASK_END, SCAN_CYCLE_START (R255, R256, R257). -/
def Obligations.Scan : Prop :=
  (∀ (s : State) (ph : Fin 8) (tag : BitVec 8) (args : List Word),
     s.serves ph 0x4C = true → inQram (arg args 0) (arg args 1) = true → arg args 1 % 12 = 0 → arg args 1 ≤ 768 →
     exec (.scanPlan ph tag args) s = .next (
       let all := planEntries ((s.heard ph).rdWords (arg args 0) (arg args 1 / 4));
       let good := all.filter PlanEntry.ok;
       ({ s.heard ph with scan := { s.scan with plan := good.flatMap PlanEntry.words, next := 0, pausing := false } }).reply
           ph 0x4C tag.toNat [if good.length = all.length then 0 else 0x0232, w32 good.length])) ∧
  (∀ (s : State) (ph : Fin 8) (tag : BitVec 8) (args : List Word),
     s.serves ph 0x4C = true → inQram (arg args 0) (arg args 1) = false →
     exec (.scanPlan ph tag args) s = .next ((s.heard ph).reply ph 0x4C tag.toNat [0x0202])) ∧
  (∀ (s : State) (ph : Fin 8) (tag : BitVec 8) (args : List Word),
     s.serves ph 0x4D = true → arg args 1 ≤ 3600 →
     exec (.scanCtl ph tag args) s = .next (
       ({ s.heard ph with scan := { s.scan with run := (args.getD 0 0).getLsbD 0, maxTasks := arg args 0 / 256 % 16, pauseS := arg args 1 } }).reply
           ph 0x4D tag.toNat [0])) ∧
  (∀ (s : State) (ph : Fin 8) (tag : BitVec 8) (args : List Word),
     s.serves ph 0x4E = true →
     exec (.scanStatus ph tag args) s = .next (
       (s.heard ph).reply ph 0x4E tag.toNat [0, w32 (b2n s.scan.run + 256 * s.scan.tasks.length), s.scan.cycles,
           s.scan.visited, s.scan.skipped, s.scan.abandoned])) ∧
  (∀ (s : State) (p : Nat × Nat) (f d m : Nat),
     s.fw.inService = true → s.scan.run = true → s.scan.pausing = false → s.scan.tasks.length < s.scan.maxTasks →
     (planFreqs s.scan.plan)[s.scan.next]? = some p → s.carried p.1 p.2 = false → s.bestFe p.1 p.2 = some f →
     s.freeChannel = some d → s.freeDemod p.1 = some m → p.1 = 1 →
     exec .scanTaskStart s = .next (
       let u := s.borrowChain lentScan f d m none p.1 p.2;
       { u with scan := { u.scan with next := u.scan.next + 1, visited := u.scan.visited + 1, tasks := u.scan.tasks ++ [⟨p.1, p.2, [d, cfOfDdc d, m]⟩] } })) ∧
  (∀ (s : State) (p : Nat × Nat) (f d m x : Nat),
     s.fw.inService = true → s.scan.run = true → s.scan.pausing = false → s.scan.tasks.length < s.scan.maxTasks →
     (planFreqs s.scan.plan)[s.scan.next]? = some p → s.carried p.1 p.2 = false → s.bestFe p.1 p.2 = some f →
     s.freeChannel = some d → s.freeDemod p.1 = some m → p.1 ≠ 1 → s.freeUnitOf (winSD 0) 64 = some x →
     exec .scanTaskStart s = .next (
       let u := s.borrowChain lentScan f d m (some x) p.1 p.2;
       { u with scan := { u.scan with next := u.scan.next + 1, visited := u.scan.visited + 1, tasks := u.scan.tasks ++ [⟨p.1, p.2, [d, cfOfDdc d, m, x]⟩] } })) ∧
  (∀ (s : State) (i : Fin 16) (x : TaskX),
     s.scan.tasks[i.val]? = some x → s.taskEnds x 0 = true →
     exec (.scanTaskEnd i 0) s = .next ((s.abandonTask x).scanCycleEnd)) ∧
  (∀ (s : State) (i : Fin 16) (x : TaskX),
     s.scan.tasks[i.val]? = some x → s.taskEnds x 1 = true →
     exec (.scanTaskEnd i 1) s = .next (((s.taskRecord x).endTask x).scanCycleEnd)) ∧
  (∀ (s : State) (i : Fin 16) (x : TaskX),
     s.scan.tasks[i.val]? = some x →
     exec (.scanTaskEnd i 2) s = .next (((s.taskRecord x).endTask x).scanCycleEnd)) ∧
  (∀ (s : State),
     s.scan.run = true → s.scan.pausing = true →
     exec .scanCycleStart s = .next ({ s with scan := { s.scan with next := 0, pausing := false } }))

/-- Service following: seeking and checking. In every state and on all operands that meet the hypotheses of its
    clause, each of these commands answers the next state written out in its clause, or one with the values listed
    there (where a Frame is given, every other register and the rest of the frame stand): FOLLOW_SEEK, FOLLOW_SURVEY,
    VERIFY_IDENTITY_PASS, VERIFY_TIMEOUT, VERIFY_QUALITY_CHECK, CORRELATION_MEASURED, FOLLOW_SWITCH_DUE, SF_FORCE,
    SF_HOME, SF_STATUS (R261, R263, R265, R266, R267, R268). -/
def Obligations.FollowChecks : Prop :=
  (∀ (s : State) (n : Fin 32) (home : Word) (sub : Fin 64),
     s.folIdle (winFollow n) = true → ((s.folCur (winFollow n) home).useFresh).epochTrusted = true →
     ((s.folCur (winFollow n) home).useFresh).ax (winFollow n) axFolForce = 0 → s.folLost (winFollow n) = true →
     ((s.folCur (winFollow n) home).useFresh).folPlays (winFollow n) = 1 →
     exec (.followSeek n home sub) s = .next (
       ((s.folCur (winFollow n) home).useFresh).folVerifyHome (winFollow n) home)) ∧
  (∀ (s : State) (n : Fin 32) (home : Word) (sub : Fin 64) (i : Nat),
     s.folIdle (winFollow n) = true → ((s.folCur (winFollow n) home).useFresh).epochTrusted = true →
     ((s.folCur (winFollow n) home).useFresh).ax (winFollow n) axFolForce = 0 → s.folLost (winFollow n) = true →
     ((s.folCur (winFollow n) home).useFresh).folPlays (winFollow n) = 0 →
     ((s.folCur (winFollow n) home).useFresh).bestCandidate (winFollow n) (((s.folCur (winFollow n) home).useFresh).rd
         (winFollow n) FOL.CUR_INDEX.off).toNat = some i →
     exec (.followSeek n home sub) s = .next (((s.folCur (winFollow n) home).useFresh).folVerify (winFollow n) i sub)) ∧
  (∀ (s : State) (n : Fin 32) (home : Word) (sub : Fin 64),
     s.folIdle (winFollow n) = true → ((s.folCur (winFollow n) home).useFresh).epochTrusted = true →
     ((s.folCur (winFollow n) home).useFresh).ax (winFollow n) axFolForce = 0 → s.folLost (winFollow n) = true →
     ((s.folCur (winFollow n) home).useFresh).folPlays (winFollow n) = 0 →
     ((s.folCur (winFollow n) home).useFresh).bestCandidate (winFollow n) (((s.folCur (winFollow n) home).useFresh).rd
         (winFollow n) FOL.CUR_INDEX.off).toNat = none →
     exec (.followSeek n home sub) s = .next (
       ((s.folCur (winFollow n) home).useFresh).folNeed (winFollow n) 1 0x0321)) ∧
  (∀ (s : State) (n : Fin 32) (home i : Word),
     s.folIdle (winFollow n) = true → s.fld (winFollow n) FOL.SURVEY_S ≠ 0 →
     (s.folCur (winFollow n) home).epochTrusted = true →
     ((s.folCur (winFollow n) home).candidates (winFollow n) ((s.folCur (winFollow n) home).rd (winFollow n)
         FOL.CUR_INDEX.off).toNat).contains i.toNat = true →
     ((s.folCur (winFollow n) home).gbRec i.toNat).system = 0 →
     1 ≤ ((s.folCur (winFollow n) home).gbRec i.toNat).age →
     exec (.followSurvey n home i) s = .next (
       let u := (s.folCur (winFollow n) home).folVerify (winFollow n) i.toNat 0;
       if u.folState (winFollow n) = 2 ∧ (s.folCur (winFollow n) home).bestCandidate (winFollow n) ((s.folCur
           (winFollow n) home).rd (winFollow n) FOL.CUR_INDEX.off).toNat ≠ some i.toNat then u.setAx (winFollow n)
           axFolSurvey 1 else u)) ∧
  (∀ (s : State) (n : Fin 32) (sub : Fin 64),
     s.live (winFollow n) = true → s.folState (winFollow n) = 2 → s.identityHeld (winFollow n) = true →
     s.ax (winFollow n) axFolSurvey = 1 →
     exec (.verifyIdentityPass n sub) s = .next ((s.folRelease (winFollow n)).folRest (winFollow n))) ∧
  (∀ (s : State) (n : Fin 32) (sub : Fin 64),
     s.live (winFollow n) = true → s.folState (winFollow n) = 2 → s.identityHeld (winFollow n) = true →
     s.ax (winFollow n) axFolSurvey ≠ 1 → s.ax (winFollow n) axFolForce ≠ 2 → s.folLost (winFollow n) = false →
     ((s.hs (winFollow n) 0).map Int.toNat).contains (s.ax (winFollow n) axFolUnit) = false →
     ∃ t, exec (.verifyIdentityPass n sub) s = .next t ∧
       t.folState (winFollow n) = 3 ∧
       t.ax (winFollow n) axFolTries = 0 ∧
       t.ax (winFollow n) axFolLag = 0 ∧
       Frame [((winFollow n), FOL.FOLLOW_STATUS_STATE.off)] s t) ∧
  (∀ (s : State) (n : Fin 32) (sub : Fin 64),
     s.live (winFollow n) = true → s.folState (winFollow n) = 2 → s.identityHeld (winFollow n) = true →
     s.ax (winFollow n) axFolSurvey ≠ 1 → s.ax (winFollow n) axFolForce = 2 →
     ((s.hs (winFollow n) 0).map Int.toNat).contains (s.ax (winFollow n) axFolUnit) = false →
     exec (.verifyIdentityPass n sub) s = .next (s.folHurry (winFollow n) (1 - s.folPlays (winFollow n)))) ∧
  (∀ (s : State) (n : Fin 32) ,
     s.live (winFollow n) = true → s.folState (winFollow n) = 2 →
     exec (.verifyTimeout n) s = .next (s.folFail (winFollow n) 0x0510 false)) ∧
  (∀ (s : State) (n : Fin 32) ,
     s.live (winFollow n) = true → s.folState (winFollow n) = 2 → s.candMargin (winFollow n) < 0 →
     s.ax (winFollow n) axFolForce = 0 → s.ferry.followed = false →
     exec (.verifyQualityCheck n) s = .next (
       ((s.putI (winFollow n) FOL.MARGINS_CAND_M (s.candMargin (winFollow n))).useFresh).folFail (winFollow n) 0x0511
           false)) ∧
  (∀ (s : State) (n : Fin 32) ,
     s.live (winFollow n) = true → s.folState (winFollow n) = 4 → s.candMargin (winFollow n) < 0 →
     s.ax (winFollow n) axFolForce = 0 → s.ferry.followed = false →
     exec (.verifyQualityCheck n) s = .next (
       ((((s.putI (winFollow n) FOL.MARGINS_CAND_M (s.candMargin (winFollow n))).useFresh).folRelease (winFollow
           n)).folRest (winFollow n)).folHomeIfLost (winFollow n))) ∧
  (∀ (s : State) (n : Fin 32) ,
     s.live (winFollow n) = true → ((s.folState (winFollow n) = 2 ∨ s.folState (winFollow n) = 4)) →
     0 ≤ s.candMargin (winFollow n) →
     exec (.verifyQualityCheck n) s = .next (
       (s.putI (winFollow n) FOL.MARGINS_CAND_M (s.candMargin (winFollow n))).useFresh)) ∧
  (∀ (s : State) (n : Fin 32) ,
     s.live (winFollow n) = true → s.folState (winFollow n) = 3 → s.ferry.followed = false →
     exec (.verifyQualityCheck n) s = .next (
       ((s.putI (winFollow n) FOL.MARGINS_CAND_M (s.candMargin (winFollow n))).useFresh).folPrompt (winFollow n))) ∧
  (∀ (s : State) (n : Fin 32) (lag : Int),
     s.live (winFollow n) = true → s.folState (winFollow n) = 3 → s.folLag (winFollow n) = some lag →
     quietWindow (s.folWindow (winFollow n) lag) = false →
     exec (.correlationMeasured n) s = .next (
       let t := ((((s.useFresh.putI (winFollow n) FOL.ALIGN_LAG lag).put (winFollow n) FOL.CORR_RHO ((corrOf
           (s.folWindow (winFollow n) lag)).rho ((Config.freeWord s.fresh).getLsbD 0))).putI (winFollow n)
           FOL.CORR_LEVEL_TRIM (powerLevel (corrOf (s.folWindow (winFollow n) lag)).play (corrOf (s.folWindow
           (winFollow n) lag)).cand ((Config.freeWord s.fresh).getLsbD 1))).setAx (winFollow n) axFolTries (s.ax
           (winFollow n) axFolTries + 1));
       let pass := (corrOf (s.folWindow (winFollow n) lag)).atLeast (s.fld (winFollow n) FOL.CORR_CFG_CORR_MIN);
       if 144000 < lag.natAbs then t.folFail (winFollow n) 0x0513 true else if pass ∧ s.ax (winFollow n) axFolLag ≠ 0
           ∧ (lag + 1048576 - s.ax (winFollow n) axFolLag).natAbs ≤ 48 then t.folAligned (winFollow n) lag else if 4 ≤
           s.ax (winFollow n) axFolTries + 1 then t.folFail (winFollow n) 0x0512 true else t.setAx (winFollow n)
           axFolLag (if pass then (lag + 1048576).toNat else 0))) ∧
  (∀ (s : State) (n : Fin 32) (lag : Int),
     s.live (winFollow n) = true → s.folState (winFollow n) = 3 → s.folLag (winFollow n) = some lag →
     quietWindow (s.folWindow (winFollow n) lag) = false → lag.natAbs ≤ 144000 →
     (corrOf (s.folWindow (winFollow n) lag)).atLeast (s.fld (winFollow n) FOL.CORR_CFG_CORR_MIN) = true →
     s.ax (winFollow n) axFolLag ≠ 0 → (lag + 1048576 - s.ax (winFollow n) axFolLag).natAbs ≤ 48 →
     exec (.correlationMeasured n) s = .next (
       ((((s.useFresh.putI (winFollow n) FOL.ALIGN_LAG lag).put (winFollow n) FOL.CORR_RHO ((corrOf (s.folWindow
           (winFollow n) lag)).rho ((Config.freeWord s.fresh).getLsbD 0))).putI (winFollow n) FOL.CORR_LEVEL_TRIM
           (powerLevel (corrOf (s.folWindow (winFollow n) lag)).play (corrOf (s.folWindow (winFollow n) lag)).cand
           ((Config.freeWord s.fresh).getLsbD 1))).setAx (winFollow n) axFolTries (s.ax (winFollow n) axFolTries +
           1)).folAligned (winFollow n) lag)) ∧
  (∀ (s : State) (n : Fin 32) ,
     s.live (winFollow n) = true → s.folState (winFollow n) = 4 → s.epochTrusted = true → s.ferry.followed = false →
     s.liveMargin (winFollow n) (s.folSource (winFollow n) (s.folPlays (winFollow n))) false + s.fld (winFollow n)
         FOL.SWITCH_SWITCH_MARGIN ≤ s.candMargin (winFollow n) →
     ∃ t, exec (.followSwitchDue n) s = .next t ∧
       t.ax (winFollow n) axFolDue = 1 ∧
       t.ax (winFollow n) axFolWait = 0 ∧
       Frame [((winFollow n), FOL.MARGINS_CAND_M.off)] s t) ∧
  (∀ (s : State) (ph : Fin 8) (tag : BitVec 8) (args : List Word),
     s.serves ph 0x50 = true → arg args 0 ≤ 31 → s.atomState (winFollow (arg args 0)) = stRUN →
     s.forceCode (winFollow (arg args 0)) (arg args 1) = 0 →
     exec (.sfForce ph tag args) s = .next (
       ((s.heard ph).folCommand (winFollow (arg args 0)) (if (args.getD 2 0).getLsbD 0 then 2 else 1) (arg args
           1)).reply ph 0x50 tag.toNat [0])) ∧
  (∀ (s : State) (ph : Fin 8) (tag : BitVec 8) (args : List Word),
     s.serves ph 0x50 = true → arg args 0 ≤ 31 → s.atomState (winFollow (arg args 0)) = stRUN →
     s.forceCode (winFollow (arg args 0)) (arg args 1) ≠ 0 →
     exec (.sfForce ph tag args) s = .next (
       (s.heard ph).reply ph 0x50 tag.toNat [w32 (s.forceCode (winFollow (arg args 0)) (arg args 1))])) ∧
  (∀ (s : State) (ph : Fin 8) (tag : BitVec 8) (args : List Word),
     s.serves ph 0x51 = true → arg args 0 ≤ 31 → s.atomState (winFollow (arg args 0)) = stRUN →
     exec (.sfHome ph tag args) s = .next (
       ((s.heard ph).folCommand (winFollow (arg args 0)) 3 0).reply ph 0x51 tag.toNat [0])) ∧
  (∀ (s : State) (ph : Fin 8) (tag : BitVec 8) (args : List Word),
     s.serves ph 0x52 = true → arg args 0 ≤ 31 → s.atomState (winFollow (arg args 0)) = stRUN →
     exec (.sfStatus ph tag args) s = .next (
       (s.heard ph).reply ph 0x52 tag.toNat (0 :: [0x080, 0x084, 0x088, 0x090, 0x098].map ((s.heard ph).followRead
           (winFollow (arg args 0))))))

/-- Service following: fades and announcements. In every state and on all operands that meet the hypotheses of its
    clause, each of these commands answers the next state written out in its clause, or one with the values listed
    there (where a Frame is given, every other register and the rest of the frame stand): BLEND_START, BLEND_END,
    SOURCE_LOST, RECENTRE, ANN_FADE_IN, ANNOUNCEMENT_ENTRY, ANNOUNCEMENT_TIMEOUT (R270, R271, R273, R274, R275). -/
def Obligations.FollowFades : Prop :=
  (∀ (s : State) (n : Fin 32) ,
     s.live (winFollow n) = true → s.folState (winFollow n) = 4 → s.epochTrusted = true →
     s.folMaySwitch (winFollow n) = true → s.folMoment (winFollow n) = true → s.ferry.followed = false →
     exec (.blendStart n) s = .next (
       s.folFade (winFollow n) (1 - s.folPlays (winFollow n)) (s.fld (winFollow n) FOL.DELAY_D_NEW_MS) (s.fld
           (winFollow n) FOL.BLEND_BLEND_MS) true)) ∧
  (∀ (s : State) (n : Fin 32) ,
     s.live (winFollow n) = true → s.folState (winFollow n) = 5 →
     exec (.blendEnd n) s = .next ((s.blendEnd (winFollow n)).amendStart)) ∧
  (∀ (s : State) (n : Fin 32) ,
     s.live (winFollow n) = true → s.folState (winFollow n) ≠ 0 → s.folState (winFollow n) ≠ 3 →
     s.folPlays (winFollow n) = 0 → s.folBad (winFollow n) 0 = true → s.ax (winFollow n) axFolLost = 0 →
     ∃ t, exec (.sourceLost n) s = .next t ∧
       t.ax (winFollow n) axFolLost = 1 ∧
       (t.rd (winFollow n) 0x00C).getLsbD evFolLost = true ∧
       Frame [((winFollow n), 0x00C)] s t) ∧
  (∀ (s : State) (n : Fin 32) ,
     s.live (winFollow n) = true → s.folState (winFollow n) = 3 →
     s.folBad (winFollow n) (s.folPlays (winFollow n)) = true → s.ax (winFollow n) axFolLost = 0 →
     s.ferry.followed = false →
     exec (.sourceLost n) s = .next (
       ((s.setAx (winFollow n) axFolLost 1).raiseKind (winFollow n) evFolLost).folPrompt (winFollow n))) ∧
  (∀ (s : State) (m : Master) (n : Fin 32) (v : Word),
     s.accepts m (winFollow n) 0x040 (v ||| 0x100) (s.followCodes (winFollow n) 0x040 (v ||| 0x100)) = true →
     exec (.recentre m n v) s = .next (
       s.told m (winFollow n) 0x040 (v ||| 0x100) (s.followCtl (winFollow n) (v ||| 0x100)))) ∧
  (∀ (s : State) (n : Fin 32) ,
     s.annReady (winFollow n) = true → s.ferry.followed = false →
     exec (.annFadeIn n) s = .next (s.annIn (winFollow n))) ∧
  (∀ (s : State) (n : Fin 16) (c : BitVec 8) (sub : BitVec 6) (new region : Bool),
     s.annActive (winOFDM n) c.toNat = true → s.switchWaits (winOFDM n) 0 c.toNat sub.toNat new region = true →
     ((s.setHs (winOFDM n) hsSwitch ((s.hs (winOFDM n) hsSwitch).erase ((switchCode 0 c.toNat sub.toNat new region :
         Nat) : Int))).annEnd (winOFDM n) c.toNat).annActive (winOFDM n) c.toNat = false →
     exec (.announcementEntry n 0 c sub new region) s = .next (
       let u := s.setHs (winOFDM n) hsSwitch ((s.hs (winOFDM n) hsSwitch).erase ((switchCode 0 c.toNat sub.toNat new
           region : Nat) : Int));
       ((u.annEnd (winOFDM n) c.toNat).annRecords (winOFDM n) false (s.annOf (winOFDM n) c.toNat)).annEnded (winOFDM
           n) c.toNat)) ∧
  (∀ (s : State) (n : Fin 16) (asw : BitVec 16) (c : BitVec 8) (sub : BitVec 6) (new region : Bool),
     asw ≠ 0 →
     (s.annEntry (winOFDM n) asw.toNat c.toNat sub.toNat new region).annActive (winOFDM n) c.toNat = true →
     (s.annEntry (winOFDM n) asw.toNat c.toNat sub.toNat new region).annOf (winOFDM n) c.toNat % 2147483648 ≠ s.annOf
         (winOFDM n) c.toNat % 2147483648 →
     exec (.announcementEntry n asw c sub new region) s = .next (
       let t := s.annEntry (winOFDM n) asw.toNat c.toNat sub.toNat new region;
       let a := t.annOf (winOFDM n) c.toNat;
       let alarm := a / 16777216 % 2 == 1;
       let u := t.annRecords (winOFDM n) true a;
       (u.followersOf (winOFDM n)).foldl (fun u f => if u.annFollowed f (asw.toNat &&& s.fld (winOFDM n)
           OFDM.ANN_CFG_ANN_MASK) alarm && u.folSub f != sub.toNat then u.folAnnounce f ([(winOFDM n), sub.toNat,
           c.toNat, b2n alarm, 0].map Int.ofNat) else u) u)) ∧
  (∀ (s : State) (n : Fin 16) (c : BitVec 8),
     s.annActive (winOFDM n) c.toNat = true →
     exec (.announcementTimeout n c) s = .next (
       ((s.annEnd (winOFDM n) c.toNat).annRecords (winOFDM n) false (s.annOf (winOFDM n) c.toNat)).annEnded (winOFDM
           n) c.toNat))

/-- The Manifest loader. In every state and on all operands that meet the hypotheses of its clause, each of these
    commands answers the next state written out in its clause: MF_APPLY, MF_VALIDATE, MF_REMOVE, MF_AMEND_COMMIT,
    MF_AMEND_COMPLETE, MF_LOAD_COMPLETE, MF_TRIGGER, TRIGGER_EPOCH_REACHED (R78, R79, R81, R82, R84). -/
def Obligations.Loader : Prop :=
  (∀ (s : State) (ph : Fin 8) (tag : BitVec 8) (addr len : Word),
     s.serves ph 0x10 = true → s.tree.job = none → (s.heard ph).mfCheck addr.toNat len.toNat = none →
     exec (.mfApply ph tag addr len) s = .next (
       let im := (s.heard ph).stagedImage addr.toNat len.toNat;
       ((s.heard ph).mirrorMsg 1 (0x10 :: im.map w32)).startJob ⟨0x10, ph, tag.toNat, hw im 3, mfSlotOf addr.toNat,
           im, false, false, false, false⟩)) ∧
  (∀ (s : State) (ph : Fin 8) (tag : BitVec 8) (addr len : Word) (f : MFail),
     s.serves ph 0x10 = true → s.tree.job = none → (s.heard ph).mfCheck addr.toNat len.toNat = some f →
     exec (.mfApply ph tag addr len) s = .next ((s.heard ph).mfReject ph 0x10 tag.toNat f)) ∧
  (∀ (s : State) (ph : Fin 8) (tag : BitVec 8) (addr len : Word),
     s.serves ph 0x11 = true → s.tree.job = none → (s.heard ph).mfCheck addr.toNat len.toNat = none →
     exec (.mfValidate ph tag addr len) s = .next (((s.heard ph).mfResult mfGood).mfReply ph 0x11 tag.toNat mfGood)) ∧
  (∀ (s : State) (ph : Fin 8) (tag : BitVec 8) (addr len : Word) (f : MFail),
     s.serves ph 0x11 = true → s.tree.job = none → (s.heard ph).mfCheck addr.toNat len.toNat = some f →
     exec (.mfValidate ph tag addr len) s = .next ((s.heard ph).mfReject ph 0x11 tag.toNat f)) ∧
  (∀ (s : State) (ph : Fin 8) (tag : BitVec 8) (win : Word),
     s.serves ph 0x12 = true → s.tree.job = none → ((s.heard ph).comp? win.toNat).isSome = true →
     (s.heard ph).drivesOutside win.toNat = false →
     exec (.mfRemove ph tag win) s = .next (
       ((s.heard ph).mirrorMsg 1 [0x12, win]).startJob ⟨0x12, ph, tag.toNat, win.toNat, 0xFF, [], false, false, false,
           false⟩)) ∧
  (∀ (s : State) (ph : Fin 8) (tag : BitVec 8) (win : Word),
     s.serves ph 0x12 = true → s.tree.job = none → ((s.heard ph).comp? win.toNat) = none →
     exec (.mfRemove ph tag win) s = .next (
       ((s.heard ph).mfResult (mfCode 0x0124)).mfReply ph 0x12 tag.toNat (mfCode 0x0124))) ∧
  (∀ (s : State) (j : JobX),
     s.tree.job = some j → j.target ≠ 0 → j.committed = false → j.held = true → j.opcode = 0x12 →
     exec .mfAmendCommit s = .next (
       let u := s.commitRemove j.target;
       { u with tree := { u.tree with job := some { j with committed := true } } })) ∧
  (∀ (s : State) (j : JobX),
     s.tree.job = some j → j.target ≠ 0 → j.committed = true →
     exec .mfAmendComplete s = .next (((s.markMembers j.target false).endJob j).fireAtEnd)) ∧
  (∀ (s : State) (j : JobX),
     s.tree.job = some j → j.target = 0 → j.opcode = 0x10 → j.held = true →
     exec .mfLoadComplete s = .next (s.allOff.loadFull j)) ∧
  (∀ (s : State) (ph : Fin 8) (tag : BitVec 8) (a : Word),
     s.serves ph 0x13 = true →
     exec (.mfTrigger ph tag a) s = .next (
       ((((s.heard ph).mirrorMsg 1 [0x13, a]).triggered (fun u => u.fire (fun x => x.cond == 4 && x.arg0.toNat % 256
           == a.toNat % 256))).mfResult mfGood).mfReply ph 0x13 tag.toNat mfGood)) ∧
  (∀ (s : State) (w : Fin 1024) (x : TriggerX),
     s.tree.triggers.find? (fun x => x.win == w.val && x.cond == 1) = some x →
     exec (.triggerEpochReached w) s = .next (
       (s.advanceTo (x.arg1 ++ x.arg0)).triggered (fun u => u.fire (fun y => y == x))))

/-- The root clock and its outputs. In every state and on all operands that meet the hypotheses of its clause, each of
    these commands answers the next state written out in its clause, or one with the values listed there (where a
    Frame is given, every other register and the rest of the frame stand): REF_QUALIFIED, REF_LOST, ROOT_LOCKED,
    ROOT_LOCK_LOST, TIMING_FAULT, GLIDE_END, TRIM_DONE, REF_CFG_WRITE, PHASE_TRIM_WRITE, EPOCH_LOAD, EPOCH_SNAP,
    CLK_OUT_CONFIG_WRITE, CLK_OUT_CHANGE_APPLIED (R396, R401, R402, R406, R407, R411, R413, R416). -/
def Obligations.RootClock : Prop :=
  (∀ (s : State),
     s.refOk = false → s.power.die = 0 → s.inHoldover = true →
     exec .refQualified s = .next (
       ((s.put blkClk CLK.ROOT_STATUS_REF_OK 1).put blkClk CLK.ROOT_STATUS_GLIDING 1).outsFollow)) ∧
  (∀ (s : State),
     s.refOk = false → s.power.die = 0 → s.root = rootFree →
     exec .refQualified s = .next ((s.put blkClk CLK.ROOT_STATUS_REF_OK 1).firstAcquire.outsFollow)) ∧
  (∀ (s : State),
     s.refOk = true → s.power.die = 0 →
     exec .refLost s = .next (
       ((((s.put blkClk CLK.ROOT_STATUS_REF_OK 0).count blkClk CLK.REF_LOSS_COUNT).raise 3).rootLoses).outsFollow)) ∧
  (∀ (s : State),
     s.refOk = true → s.root = rootAcquiring → s.clock.everLocked = false →
     exec .rootLocked s = .next (s.lockRoot.firstLock.outsFollow)) ∧
  (∀ (s : State),
     s.refOk = true → s.inHoldover = true → s.clock.everLocked = true →
     exec .rootLocked s = .next (s.lockRoot.outsFollow)) ∧
  (∀ (s : State),
     s.root = rootLocked → s.refOk = true →
     exec .rootLockLost s = .next ((((s.put blkClk CLK.ROOT_STATUS_REF_OK 0).raise 3).rootLoses).outsFollow)) ∧
  (∀ (s : State),
     s.root = rootHoldover →
     exec .timingFault s = .next (
       let left := (10000 - s.clock.holdBase) * msTicks - (s.clock.uptime - s.clock.holdStart);
       let t := s.advanceTo (s.clock.epoch + BitVec.ofNat 64 left);
       ((((((t.setRoot rootTimingFault).put blkClk CLK.ROOT_STATUS_TRUSTED 0).raise 6).declare ⟨2, 0x0F60, 0x3FF, 0⟩
           true).abandonJob).trustLost).outsFollow)) ∧
  (∀ (s : State),
     ∃ t, exec .glideEnd s = .next t ∧
       t.fld blkClk CLK.ROOT_STATUS_GLIDING = 0 ∧
       Frame [(blkClk, CLK.ROOT_STATUS_GLIDING.off)] s t) ∧
  (∀ (s : State),
     s.flag blkClk CLK.ROOT_STATUS_TRIMMING = true →
     ∃ t, exec .trimDone s = .next t ∧
       t.fld blkClk CLK.PHASE_LEFT = 0 ∧
       t.flag blkClk CLK.ROOT_STATUS_TRIMMING = false ∧
       t.flag blkClk CLK.ROOT_STATUS_GLIDING = true ∧
       Frame [(blkClk, CLK.PHASE_LEFT.off), (blkClk, CLK.ROOT_STATUS_TRIMMING.off)] s t) ∧
  (∀ (s : State) (m : Master) (v : Word),
     s.accepts m blkClk 0x000 v (refCfgCodes v) = true →
     exec (.refCfgWrite m v) s = .next (s.told m blkClk 0x000 v (s.refCfgWritten v))) ∧
  (∀ (s : State) (m : Master) (v : Word),
     s.accepts m blkClk 0x018 v (s.trimCodes v) = true →
     exec (.phaseTrimWrite m v) s = .next (
       s.told m blkClk 0x018 v ((s.store blkClk 0x018 v).trimBy (v.toNat % 2 ^ 24)))) ∧
  (∀ (s : State) (m : Master) (v : Word),
     s.accepts m blkClk 0x028 v (if CLK.EPOCH_CTL_LOAD.of v = 1 ∧ s.portsBusy then [0x0203] else []) = true →
     exec (.epochLoad m v) s = .next (s.told m blkClk 0x028 v (s.loadEpoch v))) ∧
  (∀ (s : State) (m : Master) (v : Word),
     s.accepts m blkSys SYS.EPOCH_SNAP.off v [] = true → SYS.EPOCH_SNAP.of v = 1 →
     ∃ t, exec (.epochSnap m v) s = .next t ∧
       t.clock = { s.clock with snap := s.clock.epoch } ∧
       t.regs = s.regs ∧
       t.mem = s.mem) ∧
  (∀ (s : State) (m : Master) (n : Fin 4) (v : Word),
     s.accepts m blkClk (0x100 + 0x10 * n) v (outCodes (s.fld blkClk CLK.REF_CFG_REF_KHZ) v (s.rd blkClk (0x104 + 0x10
         * n))) = true →
     exec (.clkOutConfigWrite m n false v) s = .next (
       s.told m blkClk (0x100 + 0x10 * n) v (s.outWritten n (0x100 + 0x10 * n) v))) ∧
  (∀ (s : State) (m : Master) (n : Fin 4) (v : Word),
     s.accepts m blkClk (0x100 + 0x10 * n + 4) v (outCodes (s.fld blkClk CLK.REF_CFG_REF_KHZ) (s.rd blkClk (0x100 +
         0x10 * n)) v) = true →
     exec (.clkOutConfigWrite m n true v) s = .next (
       s.told m blkClk (0x100 + 0x10 * n + 4) v (s.outWritten n (0x100 + 0x10 * n + 4) v))) ∧
  (∀ (s : State) (n : Fin 4),
     s.flag blkClk (clkOut CLK.CLK_OUT_STATUS_PENDING n) = true →
     exec (.clkOutChangeApplied n) s = .next (s.outApply n))

/-- Roles of a pair. In every state and on all operands that meet the hypotheses of its clause, each of these commands
    answers the next state written out in its clause, or one with the values listed there (where a Frame is given,
    every other register and the rest of the frame stand): LEAD_CLAIM, RELEASE_SILENCE_END, WIRE_CHECK_FAIL,
    WIRE_CHECK_CLEARED, TAKEOVER, HANDOVER_RELEASE, HANDOVER_EPOCH, PR_STATUS, PR_HANDOVER, PR_TAKE, PR_RESYNC (R469,
    R470, R471, R472, R473, R474). -/
def Obligations.PairRoles : Prop :=
  (∀ (s : State),
     s.pairOn = true → s.role = roleAlone → s.ferry.silent = false →
     ∃ t, exec (.leadClaim true) s = .next t ∧
       t.role = roleStandby ∧
       t.ferry = { s.ferry with lineLow := true, silent := false } ∧
       Frame [(blkFerry, FERRY.PAIR_STATUS_ROLE.off)] s t) ∧
  (∀ (s : State),
     s.pairOn = true → s.role = roleAlone → s.ferry.silent = false →
     ∃ t, exec (.leadClaim false) s = .next t ∧
       t.role = roleLead ∧
       t.fld blkFerry FERRY.PAIR_STATUS_TAKE_OVERRIDE = 0 ∧
       t.ferry.drivesLine = true ∧
       t.ferry.lineLow = false ∧
       t.ferry.followed = false ∧
       Frame [(blkFerry, FERRY.PAIR_STATUS_ROLE.off)] s t) ∧
  (∀ (s : State),
     s.ferry.silent = true →
     ∃ t, exec (.releaseSilenceEnd false) s = .next t ∧
       t.ferry = { s.ferry with silent := false, lineLow := false } ∧
       t.regs = s.regs ∧
       t.mem = s.mem) ∧
  (∀ (s : State),
     s.ferry.silent = true →
     ∃ t, exec (.releaseSilenceEnd true) s = .next t ∧
       t.role = roleStandby ∧
       t.ferry = { s.ferry with lineLow := true, silent := false } ∧
       Frame [(blkFerry, FERRY.PAIR_STATUS_ROLE.off)] s t) ∧
  (∀ (s : State),
     s.ferry.drivesLine = true → s.ferry.wireFail = false →
     exec .wireCheckFail s = .next (
       (({ s with ferry := { s.ferry with wireFail := true } }).raise 29).declare ⟨0, 0x0905, 0x3FF, 0⟩ true)) ∧
  (∀ (s : State),
     s.ferry.wireFail = true →
     exec .wireCheckCleared s = .next (
       ({ s with ferry := { s.ferry with wireFail := false } }).endFault (fun f => f.code == 0x0905))) ∧
  (∀ (s : State) (e : BitVec 64),
     s.role = roleStandby → s.ferryUp = true → s.hbOk = false → s.epochTrust = true → s.mirrorState = 2 →
     exec (.takeover e) s = .next (
       ((((s.advanceTo e).handoverKept.takeLead).crossingFollow).count blkFerry FERRY.CROSSING_COUNT).raise 26)) ∧
  (∀ (s : State) (e : BitVec 64),
     s.ferry.handover = some e → s.role = roleLead → s.ferry.drivesLine = true →
     exec .handoverRelease s = .next ((s.advanceTo (e - 492)).letGo)) ∧
  (∀ (s : State) (e : BitVec 64),
     s.ferry.handover = some e →
     exec .handoverEpoch s = .next (
       let u := s.advanceTo e;
       { u with ferry := { u.ferry with handover := none, driving := u.role == roleLead && u.ferry.drivesLine } })) ∧
  (∀ (s : State) (ph : Fin 8) (tag : BitVec 8) (args : List Word),
     s.serves ph 0x80 = true → s.part.pairPresent = true →
     exec (.prStatus ph tag args) s = .next (
       let u := s.heard ph;
       u.reply ph 0x80 tag.toNat [0, u.ferryRead 0x008, s.rd blkFerry 0x00C, s.rd blkFerry FERRY.TX_SEQ.off - s.rd
           blkFerry FERRY.PARTNER_APPLIED.off])) ∧
  (∀ (s : State) (ph : Fin 8) (tag : BitVec 8) (args : List Word) (partner : Word),
     s.serves ph 0x81 = true → s.part.pairPresent = true → s.role = roleLead → s.hbOk = true →
     FERRY.PAIR_STATUS_MIRROR_STATE.of partner = 2 → FERRY.PAIR_STATUS_EPOCH_TRUST.of partner = 1 →
     exec (.prHandover ph tag args partner) s = .next (
       let e := handoverEpoch s.clock.epoch;
       ((s.heard ph).handOver e).reply ph 0x81 tag.toNat [0, e.extractLsb' 0 32, e.extractLsb' 32 32])) ∧
  (∀ (s : State) (ph : Fin 8) (tag : BitVec 8) (args : List Word),
     s.serves ph 0x82 = true → s.part.pairPresent = true → s.hbOk = false → s.role = roleStandby →
     exec (.prTake ph tag args) s = .next (
       ((s.heard ph).put blkFerry FERRY.PAIR_STATUS_TAKE_OVERRIDE 1).reply ph 0x82 tag.toNat [0])) ∧
  (∀ (s : State) (ph : Fin 8) (tag : BitVec 8) (args : List Word),
     s.serves ph 0x83 = true → s.part.pairPresent = true → s.role = roleLead →
     exec (.prResync ph tag args) s = .next (((s.heard ph).resyncStart).reply ph 0x83 tag.toNat [0]))

/-- The Ferry link. In every state and on all operands that meet the hypotheses of its clause, each of these commands
    answers the next state written out in its clause, or one with the values listed there (where a Frame is given,
    every other register and the rest of the frame stand): LINK_TRAINED, LINK_TRAIN_RETRY, HEARTBEAT_SEND,
    HEARTBEAT_RECEIVED, HEARTBEAT_LOSS, FERRY_BAD_FRAME, FERRY_EVENT_FRAME, MIRROR_FRAME, MIRROR_GAP_TIMEOUT,
    REPLAY_REQUEST, RESYNC_DONE, RESYNC_TIMEOUT, FERRY_READ_REQ, FERRY_WRITE_FRAME, FERRY_MESSAGE_FRAME,
    PARTNER_READ_RESPONSE, PARTNER_WINDOW_READ, PARTNER_WINDOW_WRITE (R458, R460, R461, R463, R465, R466). -/
def Obligations.FerryLink : Prop :=
  (∀ (s : State) (l : Nat) (hb : HeartbeatArg) (abi : BitVec 8),
     s.pairOn = true → s.ferryUp = false →
     (let u := (((s.put blkFerry FERRY.PAIR_STATUS_LINK_UP 1).put blkFerry FERRY.LATENCY_NS l).raise 24).heartbeat hb;
           u.protoCheck (abi.toNat != u.ownAbi)).role = roleLead →
     exec (.linkTrained l hb abi) s = .next (
       (let u := (((s.put blkFerry FERRY.PAIR_STATUS_LINK_UP 1).put blkFerry FERRY.LATENCY_NS l).raise 24).heartbeat
           hb; u.protoCheck (abi.toNat != u.ownAbi)).resyncStart)) ∧
  (∀ (s : State) (l : Nat) (hb : HeartbeatArg) (abi : BitVec 8),
     s.pairOn = true → s.ferryUp = false →
     (let u := (((s.put blkFerry FERRY.PAIR_STATUS_LINK_UP 1).put blkFerry FERRY.LATENCY_NS l).raise 24).heartbeat hb;
           u.protoCheck (abi.toNat != u.ownAbi)).role = roleAlone →
     exec (.linkTrained l hb abi) s = .next (
       let u := (((s.put blkFerry FERRY.PAIR_STATUS_LINK_UP 1).put blkFerry FERRY.LATENCY_NS l).raise 24).heartbeat
           hb;
       u.protoCheck (abi.toNat != u.ownAbi))) ∧
  (∀ (s : State) (l : Nat) (hb : HeartbeatArg) (abi : BitVec 8),
     s.pairOn = true → s.ferryUp = false →
     (let u := (((s.put blkFerry FERRY.PAIR_STATUS_LINK_UP 1).put blkFerry FERRY.LATENCY_NS l).raise 24).heartbeat hb;
           u.protoCheck (abi.toNat != u.ownAbi)).role = roleStandby →
     exec (.linkTrained l hb abi) s = .next (
       let u := (((s.put blkFerry FERRY.PAIR_STATUS_LINK_UP 1).put blkFerry FERRY.LATENCY_NS l).raise 24).heartbeat
           hb;
       let u1 := u.protoCheck (abi.toNat != u.ownAbi);
       let u2 := if u1.mirrorState = 3 then u1 else u1.setMirror 1;
       if u2.portsBusy || !u2.clock.everLocked then u2 else u2.leadEpoch hb.epoch)) ∧
  (∀ (s : State),
     s.pairOn = true → s.ferryUp = false →
     exec .linkTrainRetry s = .next (s.recordCode 0x090A)) ∧
  (∀ (s : State),
     s.ferryUp = true → s.ferry.silent = false →
     ∃ t, exec .heartbeatSend s = .next t ∧
       t.ferry.sent = s.ferry.sent ++
           [{ kind := frHeartbeat, seq := 0, words := [w32 s.role, w32 (b2n s.trusted), w32 s.highestClass, s.clock.epoch.extractLsb' 0 32, s.clock.epoch.extractLsb' 32 32, w32 (s.freshWord.toNat % 60), s.rd blkFerry FERRY.TX_SEQ.off, s.rd blkFerry FERRY.APPLIED_SEQ.off, 1] }]
           ∧
       Frame [] s t) ∧
  (∀ (s : State) (hb : HeartbeatArg) (offset : Int),
     s.pairOn = true → s.ferryUp = true → (s.heartbeat hb).role = roleStandby →
     exec (.heartbeatReceived hb offset) s = .next ((s.heartbeat hb).alignEpoch hb offset)) ∧
  (∀ (s : State) (hb : HeartbeatArg) (offset : Int),
     s.pairOn = true → s.ferryUp = true → (s.heartbeat hb).role ≠ roleStandby →
     exec (.heartbeatReceived hb offset) s = .next (s.heartbeat hb)) ∧
  (∀ (s : State) (k : Nat),
     s.ferryUp = true → s.hbOk = true →
     exec (.heartbeatLoss k) s = .next (
       let f : FaultX := ⟨0, s.freshWord.toNat % 65536, 0x3FF, 0⟩;
       let u := (((s.put blkFerry FERRY.PAIR_STATUS_HB_OK 0).count blkFerry FERRY.HB_LOSS_COUNT).raise 25).freeSems 7;
       let u1 := u.farFails k;
       ({ u1 with ferry := { u1.ferry with lossFault := some f } }).useFresh.declare f true)) ∧
  (∀ (s : State),
     s.pairOn = true →
     ∃ t, exec .ferryBadFrame s = .next t ∧
       t.rd blkFerry FERRY.LINK_ERR_COUNT.off = counted (s.rd blkFerry FERRY.LINK_ERR_COUNT.off) ∧
       t.board.latch.getLsbD 29 = true ∧
       Frame [(blkFerry, FERRY.LINK_ERR_COUNT.off), (blkFerry, ovfOff blkFerry), (blkFerry, 0x00C)] s t) ∧
  (∀ (s : State) (e : Fin 128),
     s.ferryUp = true →
     exec (.ferryEventFrame e) s = .next ((s.put blkFerry FERRY.PARTNER_LAST e).raise 28)) ∧
  (∀ (s : State) (q a v : Word),
     s.ferryUp = true → s.role = roleStandby → a.toNat < 0x80000000 →
     diff32 q (s.rd blkFerry FERRY.APPLIED_SEQ.off) = 1 →
     exec (.mirrorFrame q a v) s = .next (
       let u := (s.wr blkFerry FERRY.APPLIED_SEQ.off q).busWrite 7 7 .b32 a.toNat v;
       { u with ferry := { u.ferry with gap := false } })) ∧
  (∀ (s : State) (q a v : Word),
     s.ferryUp = true → s.role = roleStandby → a.toNat < 0x80000000 →
     1 < diff32 q (s.rd blkFerry FERRY.APPLIED_SEQ.off) → s.ferry.gap = false →
     exec (.mirrorFrame q a v) s = .next (s.askReplay)) ∧
  (∀ (s : State),
     s.role = roleStandby → 0 < diff32 s.ferry.partnerTx (s.rd blkFerry FERRY.APPLIED_SEQ.off) →
     exec .mirrorGapTimeout s = .next (s.askReplay)) ∧
  (∀ (s : State) (q : Word),
     s.role = roleLead → s.ferry.replay.any (fun f => f.seq == q) = true →
     exec (.replayRequest q) s = .next (
       (s.ferry.replay.filter (fun f => decide (0 ≤ diff32 f.seq q))).foldl State.sendFrame s)) ∧
  (∀ (s : State) (q : Word),
     s.role = roleLead → s.ferry.replay.any (fun f => f.seq == q) = false →
     exec (.replayRequest q) s = .next (s.resyncStart)) ∧
  (∀ (s : State) (a : ResyncArg),
     s.mirrorState = 1 → s.role = roleStandby →
     exec (.resyncDone a) s = .next (
       let u := (((s.takeState a).wr blkFerry FERRY.APPLIED_SEQ.off a.seq).setMirror 2).signCheck;
       ({ u with ferry := { u.ferry with gap := false } }).endFault (fun f => f.cls == 2 && (f.code == 0x0908 ||
           f.code == 0x0909)))) ∧
  (∀ (s : State) (a : ResyncArg),
     s.mirrorState = 1 → s.role ≠ roleStandby →
     ∃ t, exec (.resyncDone a) s = .next t ∧
       t.mirrorState = 2 ∧
       Frame [(blkFerry, FERRY.PAIR_STATUS_MIRROR_STATE.off)] s t) ∧
  (∀ (s : State),
     s.role = roleStandby → s.mirrorState = 1 →
     exec .resyncTimeout s = .next ((s.declare ⟨2, 0x0908, 0x3FF, 0⟩ true).abandonJob)) ∧
  (∀ (s : State) (wd : Width) (a : Word) (m : Master) (tag : BitVec 8),
     s.ferryUp = true → a.toNat < 0x80000000 →
     exec (.ferryReadReq wd a m tag) s = .next (
       let u := s.busRead 7 (farLatch m) wd a.toNat false;
       u.sendFrame ⟨frReadRsp, 0, [tag.setWidth 32, u.answer.headD 0]⟩)) ∧
  (∀ (s : State) (wd : Width) (a v : Word) (m : Master),
     s.ferryUp = true → a.toNat < 0x80000000 →
     exec (.ferryWriteFrame wd a v m) s = .next (s.busWrite 7 (farLatch m) wd a.toNat v)) ∧
  (∀ (s : State) (image : List Word),
     s.ferryUp = true → s.role = roleStandby → s.fw.inService = true →
     exec (.ferryMessageFrame (.apply image)) s = .next (
       let u : State := { s with ferry := { s.ferry with quiet := true } };
       let u1 := u.applyMirrored image;
       { u1 with ferry := { u1.ferry with quiet := false } })) ∧
  (∀ (s : State) (win : Word),
     s.ferryUp = true → s.role = roleStandby → s.fw.inService = true →
     exec (.ferryMessageFrame (.remove win)) s = .next (
       let u : State := { s with ferry := { s.ferry with quiet := true } };
       let u1 := u.removeMirrored win;
       { u1 with ferry := { u1.ferry with quiet := false } })) ∧
  (∀ (s : State) (arg : Word),
     s.ferryUp = true → s.role = roleStandby → s.fw.inService = true →
     exec (.ferryMessageFrame (.trigger arg)) s = .next (
       let u : State := { s with ferry := { s.ferry with quiet := true } };
       let u1 := stateOr u (execMfTrigger 0 0 arg u);
       { u1 with ferry := { u1.ferry with quiet := false } })) ∧
  (∀ (s : State) (op : BitVec 8) (args : List Word),
     s.ferryUp = true → s.role = roleStandby → s.fw.inService = true →
     exec (.ferryMessageFrame (.guestbook op args)) s = .next (
       let u : State := { s with ferry := { s.ferry with quiet := true } };
       let u1 := u.gbMirrored op.toNat args;
       { u1 with ferry := { u1.ferry with quiet := false } })) ∧
  (∀ (s : State) (c i o : Word) (rec : List Word),
     s.ferryUp = true → s.role = roleStandby → s.fw.inService = true →
     exec (.ferryMessageFrame (.gbChange c i o rec)) s = .next (
       let u : State := { s with ferry := { s.ferry with quiet := true } };
       let u1 := u.gbFollowChange (c.toNat % 256) i.toNat o.toNat ⟨rec.getD 0 0, rec.getD 1 0, rec.getD 2 0, rec.getD
           3 0⟩;
       { u1 with ferry := { u1.ferry with quiet := false } })) ∧
  (∀ (s : State) (n : Fin 32) (i : Bool) (d ms : Nat) (trim : Int) (e : BitVec 64),
     s.ferryUp = true → s.role = roleStandby → s.fw.inService = true →
     exec (.ferryMessageFrame (.fade n i d ms trim e)) s = .next (
       let u : State := { s with ferry := { s.ferry with quiet := true } };
       let u1 := u.nowFollowed.fadeMirrored (winFollow n) i.toNat d ms trim e;
       { u1 with ferry := { u1.ferry with quiet := false } })) ∧
  (∀ (s : State) (n : Fin 32) (b : Bool) (d ms : Nat) (e : BitVec 64),
     s.ferryUp = true → s.role = roleStandby → s.fw.inService = true →
     exec (.ferryMessageFrame (.announce n b d ms e)) s = .next (
       let u : State := { s with ferry := { s.ferry with quiet := true } };
       let u1 := u.nowFollowed.annMirrored (winFollow n) b e;
       { u1 with ferry := { u1.ferry with quiet := false } })) ∧
  (∀ (s : State),
     s.ferryUp = true → s.role = roleStandby → s.mirrorState ≠ 3 →
     ∃ t, exec (.ferryMessageFrame .resync) s = .next t ∧
       t.mirrorState = 1 ∧
       Frame [(blkFerry, FERRY.PAIR_STATUS_MIRROR_STATE.off)] s t) ∧
  (∀ (s : State) (e : BitVec 64),
     s.ferryUp = true → s.role = roleStandby →
     ∃ t, exec (.ferryMessageFrame (.handover e)) s = .next t ∧
       t.ferry = { s.ferry with handover := some e } ∧
       t.regs = s.regs ∧
       t.mem = s.mem) ∧
  (∀ (s : State) (v : Word) (r : Nat × Nat) (rest : List (Nat × Nat)),
     s.ferry.reads = r :: rest →
     ∃ t, exec (.partnerReadResponse v) s = .next t ∧
       t.answer = [v] ∧
       t.ferry = { s.ferry with reads := rest } ∧
       t.regs = s.regs ∧
       t.mem = s.mem) ∧
  (∀ (s : State) (m : Master) (wd : Width) (a : Word),
     0x80000000 ≤ a.toNat → s.partnerAnswers = true → hostLimited s m 0 = false →
     ∃ t, exec (.partnerWindowRead m wd a) s = .next t ∧
       t.ferry.reads = s.ferry.reads ++ [((m : Nat), a.toNat)] ∧
       t.ferry.sent = s.ferry.sent ++ [⟨frRead, 0, [w32 (a.toNat - 0x80000000), w32 m, w32 (widthBytes wd)]⟩] ∧
       t.answer = [] ∧
       Frame [] s t) ∧
  (∀ (s : State) (m : Master) (wd : Width) (a : Word),
     0x80000000 ≤ a.toNat → s.partnerAnswers = false → hostLimited s m 0 = false →
     exec (.partnerWindowRead m wd a) s = .next ((s.accessFail m a.toNat false 0x0901).ans [0])) ∧
  (∀ (s : State) (m : Master) (wd : Width) (a v : Word),
     0x80000000 ≤ a.toNat → s.partnerAnswers = true → hostLimited s m 0 = false →
     ∃ t, exec (.partnerWindowWrite m wd a v) s = .next t ∧
       t.ferry.sent = s.ferry.sent ++ [⟨frWrite, 0, [w32 (a.toNat - 0x80000000), v, w32 m, w32 (widthBytes wd)]⟩] ∧
       Frame [] s t) ∧
  (∀ (s : State) (m : Master) (wd : Width) (a v : Word),
     0x80000000 ≤ a.toNat → s.partnerAnswers = false → hostLimited s m 0 = false →
     exec (.partnerWindowWrite m wd a v) s = .next (s.accessFail m a.toNat true 0x0901))

/-- Self-checks, thermal readings, audit and fault log. In every state and on all operands that meet the hypotheses of
    its clause, each of these commands answers the next state written out in its clause: SELF_CHECK_DONE,
    THERMAL_READING, THERMAL_RECOVER, BOOK_AUDIT, FAULT_LOG_WRITE (R478, R481, R484, R485, R486). -/
def Obligations.FaultRows : Prop :=
  (∀ (s : State) (w : Fin 1024),
     s.present w = true → s.isComposite w = false → (s.unit w).checkBusy = true →
     exec (.selfCheckDone w true) s = .next (
       s.setUnit w
           { s.unit w with checkBusy := false, causeStands := (s.unit w).causeStands && !((s.unit w).selfFail || (s.unit w).cause == 0x0F30) })) ∧
  (∀ (s : State) (w : Fin 1024),
     s.present w = true → s.isComposite w = false →
     exec (.selfCheckDone w false) s = .next (
       let u := (s.setUnit w { s.unit w with checkBusy := false }).withFe w (fun u => u.markFault w 0x0F21);
       ((s.queuesFrom w).foldl State.stopQueue u).declare ⟨1, 0x0F21, w, 0⟩ true)) ∧
  (∀ (s : State) (x : Int),
     s.power.die = 0 →
     exec (.thermalReading x) s = .next (s.thermalReading x)) ∧
  (∀ (s : State),
     s.stands 0x0F40 = true → s.sfld blkTherm THERM.TJ_NOW < 920 →
     exec .thermalRecover s = .next ((s.endFault (fun f => f.code == 0x0F40)).causeGone 0x0F40)) ∧
  (∀ (s : State),
     s.fw.inService = true → s.f3 = false → s.poolsBalance = false →
     exec .bookAudit s = .next (s.badQueues.foldl (fun u q => u.faultUnit q 0x0F30 0) (s.declareF3 0x0F31))) ∧
  (∀ (s : State),
     s.fw.inService = true → s.f3 = false → s.poolsBalance = true →
     exec .bookAudit s = .next (s.badQueues.foldl (fun u q => u.faultUnit q 0x0F30 0) s)) ∧
  (∀ (s : State) (f : FaultX) (rtc : Word) (rest : List (FaultX × Word)),
     s.fw.logQueue = (f, rtc) :: rest → s.fw.running = true →
     exec .faultLogWrite s = .next (({ s with fw := { s.fw with logQueue := rest } }).logEntry f rtc))

/-- Control cores and live update. In every state and on all operands that meet the hypotheses of its clause, each of
    these commands answers the next state written out in its clause, or one with the values listed there (where a
    Frame is given, every other register and the rest of the frame stand): MIGRATION_COMPLETE, CORE_START_DONE,
    SHADOW_COPY, WATCHDOG_EXPIRED, CORE_STATUS, CORE_RETIRE, CORE_RESTORE, CORE_MIGRATE, FW_VERIFY, FW_ACTIVATE,
    FW_ROLL_DONE, UPD_SET_BOOT, CAL_RESTORE, UNIT_REPLACE, MEMORY_ECC_ERROR (R441, R442, R443, R445, R446, R454). -/
def Obligations.Cores : Prop :=
  (∀ (s : State) (d : Fin 4) (x : MoveX),
     s.fw.moves.find? (fun m => m.duty == d.val) = some x →
     exec (.migrationComplete d) s = .next ((s.endMove x).jobAfterMove x)) ∧
  (∀ (s : State) (core : Fin 5),
     s.coreState core = 1 → s.fw.job = none → (s.setCore core 3).doubled? = none →
     exec (.coreStartDone core) s = .next (s.setCore core 3)) ∧
  (∀ (s : State) (core : Fin 5) (d : Nat),
     s.coreState core = 1 → s.fw.job = none → (s.setCore core 3).doubled? = some d →
     exec (.coreStartDone core) s = .next ((s.setCore core 3).startMove d core false)) ∧
  (∀ (s : State) (core : Fin 5) (j : CoreJobX),
     s.coreState core = 1 → s.fw.job = some j → j.opcode = 0x72 → j.slot = core →
     ((s.setCore core 3).coreAnswer [0]).doubled? = none →
     exec (.coreStartDone core) s = .next ((s.setCore core 3).coreAnswer [0])) ∧
  (∀ (s : State),
     s.fw.running = true → s.spare?.isSome = true →
     ∃ t, exec .shadowCopy s = .next t ∧
       t.fw = { s.fw with shadows := [0, 1, 2, 3].map (fun d => (d, s.clock.uptime + 1)) } ∧
       t.regs = s.regs ∧
       t.mem = s.mem) ∧
  (∀ (s : State) (core : Fin 5),
     s.fw.running = true → s.coreState core = 2 →
     exec (.watchdogExpired core) s = .next (
       (((s.count blkCore CORE.WATCHDOG_COUNT).raise 13).put blkSys SYS.SYS_RESET_CAUSE_WATCHDOG 1).coreFault core)) ∧
  (∀ (s : State) (ph : Fin 8) (tag : BitVec 8) (args : List Word),
     s.serves ph 0x70 = true → s.tree.job = none → s.fw.job = none →
     exec (.coreStatus ph tag args) s = .next (
       (s.heard ph).reply ph 0x70 tag.toNat (0 :: (List.range 5).map (fun n => s.rd blkCore (0x040 + 4 * n))))) ∧
  (∀ (s : State) (ph : Fin 8) (tag : BitVec 8) (args : List Word) (k : Nat),
     s.serves ph 0x71 = true → s.tree.job = none → s.fw.job = none → arg args 0 ≤ 4 → s.coreState (arg args 0) = 2 →
     (s.heard ph).spare? = some k →
     exec (.coreRetire ph tag args) s = .next (
       ((List.range 4).filter (fun d => (s.heard ph).bound d == arg args 0)).foldl (fun u d => u.startMove d k true)
           ((s.heard ph).coreBegin ph 0x71 tag (arg args 0)))) ∧
  (∀ (s : State) (ph : Fin 8) (tag : BitVec 8) (args : List Word),
     s.serves ph 0x72 = true → s.tree.job = none → s.fw.job = none → arg args 0 ≤ 4 →
     ((s.coreState (arg args 0) = 4 ∨ s.coreState (arg args 0) = 5)) →
     exec (.coreRestore ph tag args) s = .next (
       (((s.heard ph).setCore (arg args 0) 1).put blkCore (CORE.CORE_SLOT.at (arg args 0)) s.fw.runningSlot).coreBegin
           ph 0x72 tag (arg args 0))) ∧
  (∀ (s : State) (ph : Fin 8) (tag : BitVec 8) (args : List Word) (k : Nat),
     s.serves ph 0x73 = true → s.tree.job = none → s.fw.job = none → arg args 0 ≤ 3 → (s.heard ph).spare? = some k →
     exec (.coreMigrate ph tag args) s = .next (
       ((s.heard ph).startMove (arg args 0) k false).coreBegin ph 0x73 tag (arg args 0))) ∧
  (∀ (s : State) (ph : Fin 8) (tag : BitVec 8) (args : List Word),
     s.serves ph 0x74 = true → s.tree.job = none → s.fw.job = none → arg args 0 ≤ 1 →
     exec (.fwVerify ph tag args) s = .next (
       (s.heard ph).reply ph 0x74 tag.toNat (if (s.heard ph).fwCheck (arg args 0) ≠ 0 then [w32 ((s.heard ph).fwCheck
           (arg args 0))] else [0, (s.heard ph).fwVersion (arg args 0)]))) ∧
  (∀ (s : State) (ph : Fin 8) (tag : BitVec 8) (args : List Word) (k : Nat),
     s.serves ph 0x75 = true → s.tree.job = none → s.fw.job = none → arg args 0 ≤ 1 →
     (s.heard ph).fwCheck (arg args 0) = 0 → (s.heard ph).fwAbi (arg args 0) = (s.heard ph).fwAbi s.fw.runningSlot →
     (s.heard ph).spare? = some k →
     exec (.fwActivate ph tag args) s = .next (
       (((s.heard ph).setCore k 1).put blkCore (CORE.CORE_SLOT.at k) (arg args 0)).coreBegin ph 0x75 tag (arg args 0))) ∧
  (∀ (s : State) (ph : Fin 8) (tag : BitVec 8) (args : List Word),
     s.serves ph 0x75 = true → s.tree.job = none → s.fw.job = none → arg args 0 ≤ 1 →
     (s.heard ph).fwCheck (arg args 0) ≠ 0 →
     exec (.fwActivate ph tag args) s = .next (
       (s.heard ph).reply ph 0x75 tag.toNat [w32 ((s.heard ph).fwCheck (arg args 0))])) ∧
  (∀ (s : State) (j : CoreJobX),
     s.fw.job = some j → j.opcode = 0x75 → j.moved = 4 →
     exec .fwRollDone s = .next (
       let u := (((List.range 5).filter (fun n => s.coreState n == 1)).foldl (fun u n => u.setCore n 3) s).put blkNv
           NV.BOOT_FW j.slot;
       ((u.setFw (fun f => { f with runningSlot := j.slot })).raise 15).coreAnswer [0, u.fwVersion j.slot])) ∧
  (∀ (s : State) (ph : Fin 8) (tag : BitVec 8) (args : List Word),
     s.serves ph 0x76 = true → s.tree.job = none → s.fw.job = none → arg args 0 = 1 → arg args 1 = 0xFF →
     exec (.updSetBoot ph tag args) s = .next (((s.heard ph).put blkNv NV.BOOT_MF_EN 0).reply ph 0x76 tag.toNat [0])) ∧
  (∀ (s : State) (ph : Fin 8) (tag : BitVec 8) (args : List Word),
     s.serves ph 0x76 = true → s.tree.job = none → s.fw.job = none → arg args 0 = 0 → arg args 1 < 2 →
     exec (.updSetBoot ph tag args) s = .next (
       let u := s.heard ph;
       let k := arg args 1;
       if u.fwCheck k ≠ 0 then u.reply ph 0x76 tag.toNat [w32 (u.fwCheck k)] else (u.put blkNv NV.BOOT_FW k).reply ph
           0x76 tag.toNat [0])) ∧
  (∀ (s : State) (ph : Fin 8) (tag : BitVec 8) (args : List Word) (f : MFail),
     s.serves ph 0x76 = true → s.tree.job = none → s.fw.job = none → arg args 0 = 1 → arg args 1 < 2 →
     (s.heard ph).mfCheck (mfSlotBase (arg args 1)) (4 * ((s.heard ph).rdWord (mfSlotBase (arg args 1) + 0x14)).toNat)
         = some f →
     exec (.updSetBoot ph tag args) s = .next ((s.heard ph).reply ph 0x76 tag.toNat [w32 f.code])) ∧
  (∀ (s : State) (ph : Fin 8) (tag : BitVec 8) (args : List Word),
     s.serves ph 0x76 = true → s.tree.job = none → s.fw.job = none → arg args 0 = 1 → arg args 1 < 2 →
     (s.heard ph).mfCheck (mfSlotBase (arg args 1)) (4 * ((s.heard ph).rdWord (mfSlotBase (arg args 1) + 0x14)).toNat)
         = none →
     exec (.updSetBoot ph tag args) s = .next (
       (((s.heard ph).put blkNv NV.BOOT_MF (arg args 1)).put blkNv NV.BOOT_MF_EN 1).reply ph 0x76 tag.toNat [0])) ∧
  (∀ (s : State) (ph : Fin 8) (tag : BitVec 8) (args : List Word),
     s.serves ph 0x76 = true → s.tree.job = none → s.fw.job = none → 1 < arg args 0 →
     exec (.updSetBoot ph tag args) s = .next ((s.heard ph).reply ph 0x76 tag.toNat [0x0202])) ∧
  (∀ (s : State) (ph : Fin 8) (tag : BitVec 8) (args : List Word),
     s.serves ph 0x77 = true → s.tree.job = none → s.fw.job = none → 4 < arg args 0 →
     exec (.calRestore ph tag args) s = .next ((s.heard ph).reply ph 0x77 tag.toNat [0x0202])) ∧
  (∀ (s : State) (ph : Fin 8) (tag : BitVec 8) (args : List Word),
     s.serves ph 0x77 = true → s.tree.job = none → s.fw.job = none → arg args 0 ≤ 4 →
     s.fused (feWin (arg args 0)) = false → 0x046C0000 ≤ arg args 1 →
     arg args 1 + (calSection (arg args 0)).2 ≤ 0x04800000 →
     (s.heard ph).rdWord (arg args 1) = crc32 (((s.heard ph).rdBytes (arg args 1) (calSection (arg args 0)).2).drop 4)
         →
     Config.sectionUid ((s.heard ph).rdBytes (arg args 1) (calSection (arg args 0)).2) = s.part.uid →
     exec (.calRestore ph tag args) s = .next (
       ((s.heard ph).putSection (arg args 0) ((s.heard ph).rdBytes (arg args 1) (calSection (arg args 0)).2)).reply ph
           0x77 tag.toNat [0])) ∧
  (∀ (s : State) (ph : Fin 8) (tag : BitVec 8) (args : List Word),
     s.serves ph 0x78 = true → s.tree.job = none → s.fw.job = none → 1 ≤ arg args 0 → arg args 0 ≤ 3 →
     (s.heard ph).replaceable (arg args 0) (arg args 1) = true →
     (s.heard ph).replaceable (arg args 0) (arg args 2) = true →
     exec (.unitReplace ph tag args) s = .next (
       let u := s.heard ph;
       ((u.setMapByte (mapOff (arg args 0)) (arg args 1) (u.mapByte (mapOff (arg args 0)) (arg args 2))).setMapByte
           (mapOff (arg args 0)) (arg args 2) (u.mapByte (mapOff (arg args 0)) (arg args 1))).reply ph 0x78 tag.toNat
           [0])) ∧
  (∀ (s : State),
     s.power.die = 0 →
     ∃ t, exec (.memoryEccError .corrected) s = .next t ∧
       t.board.latch.getLsbD 11 = true ∧
       Frame [] s t) ∧
  (∀ (s : State) (n : Fin 64),
     s.power.die = 0 → s.qDepth (winQ n) ≠ 0 →
     exec (.memoryEccError (.queueRam n)) s = .next ((s.raise 12).faultUnit (winQ n) 0x0F12 0)) ∧
  (∀ (s : State),
     s.power.die = 0 → s.fw.running = true →
     exec (.memoryEccError .slot) s = .next ((s.raise 12).declareF3 0x0F15)) ∧
  (∀ (s : State) (w : Fin 1024) (b : Bool) (x : BitVec 16),
     s.power.die = 0 → s.present w = true → (kindOf w = .chanFilter ∨ kindOf w = .audioFilter) →
     exec (.memoryEccError (.bank w b x)) s = .next (
       (s.raise 12).faultUnit w 0x0F11 (w32 (x.toNat + 65536 * b.toNat)))) ∧
  (∀ (s : State) (n : Fin 16),
     s.power.die = 0 → s.present (winOFDM n) = true →
     exec (.memoryEccError (.working n)) s = .next (
       let u := s.raise 12;
       (u.faultUnit (winOFDM n) 0x0F11 u.freshWord).useFresh)) ∧
  (∀ (s : State) (n : Fin 32),
     s.power.die = 0 → s.tree.allocs.any (fun x => x.pool == 1 && x.win == winLane n) = true →
     exec (.memoryEccError (.delay n)) s = .next (
       let u := s.raise 12;
       (u.faultUnit (winLane n) 0x0F11 u.freshWord).useFresh)) ∧
  (∀ (s : State) (i : Nat),
     s.power.die = 0 → s.gbOccupied i = true →
     exec (.memoryEccError (.guestbook i)) s = .next (((s.raise 12).gbFree i).declareF0 0x0F13 0x3FF)) ∧
  (∀ (s : State),
     s.power.die = 0 →
     exec (.memoryEccError .signboard) s = .next (((s.raise 12).declareF0 0x0F16 0x3FF).signStart)) ∧
  (∀ (s : State) (n : Fin 5),
     s.power.die = 0 → 1 ≤ s.coreState n → s.coreState n ≤ 3 →
     exec (.memoryEccError (.core n)) s = .next ((s.raise 12).coreFault n))

/-- The MRAM controller. In every state and on all operands that meet the hypotheses of its clause, each of these
    commands answers the next state written out in its clause: NV_GO, NV_ABORT, NV_PAGE_WRITTEN (R449, R450). -/
def Obligations.NvRows : Prop :=
  (∀ (s : State) (m : Master) ,
     s.accepts m blkNv 0x008 1 (s.nvCodes m 1) = true →
     exec (.nvGo m) s = .next (s.told m blkNv 0x008 1 (s.nvCtl 1))) ∧
  (∀ (s : State) (m : Master) ,
     s.accepts m blkNv 0x008 2 (s.nvCodes m 2) = true →
     exec (.nvAbort m) s = .next (s.told m blkNv 0x008 2 (s.nvCtl 2))) ∧
  (∀ (s : State),
     s.flag blkNv NV.NV_STATUS_BUSY = true → 256 < s.nv.buf.length → s.nv.abort = false →
     exec (.nvPageWritten true) s = .next (
       (s.wrBytes s.nv.dst (s.nv.buf.take 256)).setNv (fun x => { x with buf := x.buf.drop 256, dst := x.dst + 256 }))) ∧
  (∀ (s : State),
     s.flag blkNv NV.NV_STATUS_BUSY = true → s.nv.buf.length ≤ 256 →
     exec (.nvPageWritten true) s = .next (
       let u := (s.wrBytes s.nv.dst (s.nv.buf.take 256)).setNv (fun x =>
           { x with buf := x.buf.drop 256, dst := x.dst + 256 });
       ((u.nvEnd false 0).count blkNv NV.NV_WRITE_COUNT).raise 9)) ∧
  (∀ (s : State),
     s.flag blkNv NV.NV_STATUS_BUSY = true →
     exec (.nvPageWritten false) s = .next (
       let u := (List.range 64).foldl (fun u i => (u.wrWord (s.nv.dst + 4 * i) u.freshWord).useFresh) s;
       ((u.nvEnd false 0x0810).count blkNv NV.NV_ERR_COUNT).raise 10))

/-- Supply, saves, standby, wakes and resets. In every state and on all operands that meet the hypotheses of its
    clause, each of these commands answers the next state written out in its clause, or one with the values listed
    there: VIN_WARNING, SADDLEBAG_SAVE_DONE, WARM_RESUME, WARM_RESUME_READY, VIN_RESET, RAIL_FAULT,
    FEED_RAIL_REGULATED, STANDBY_ENTERED, WAKE_PIN, TWT_WAKE_MATCH, RTC_ALARM, RESET_N, KEEPER_RESET, RTC_SET (R419,
    R424, R426, R428, R433, R435, R437, R440). -/
def Obligations.SupplyRows : Prop :=
  (∀ (s : State),
     s.power.die = 4 →
     exec .vinWarning s = .next ((s.setPower (fun p => { p with die := 2 })).vinState 2)) ∧
  (∀ (s : State),
     s.power.die = 0 → s.power.saving = 0 → s.fw.inService = true →
     exec .vinWarning s = .next (
       let u := (((s.raise 0).put blkKpr KPR.KPR_STATUS_PWR_GOOD 0).vinState 1).quiesce;
       { u with power := { u.power with saving := 1 }, guest := { u.guest with stopped := !u.guest.ready } })) ∧
  (∀ (s : State) (us : Nat),
     s.power.die = 0 → s.power.saving = 1 → s.power.resetAfter = false →
     exec (.saddlebagSaveDone us) s = .next (
       (((s.writeBag 1).wr blkKpr KPR.SAVE_STATUS_LAST_COPY.off (w32 (s.nextCopy + 65536 * (us % 65536)))).count
           blkKpr KPR.SAVE_COUNT).retain.vinState 2)) ∧
  (∀ (s : State) (ticks : Nat),
     s.power.die = 2 → (s.rtcTicks ticks).newestBag.isSome = true →
     exec (.warmResume ticks true) s = .next (
       ((s.rtcTicks ticks).setPower (fun p => { p with die := 4 })).vinState 3)) ∧
  (∀ (s : State) (ticks : Nat),
     s.power.die = 2 →
     exec (.warmResume ticks false) s = .next (((s.rtcTicks ticks).resetFor 3).vinState 0)) ∧
  (∀ (s : State) (ticks : Nat) (b : BagX),
     s.power.die = 4 → ((s.rtcTicks ticks).newestBag.bind (s.rtcTicks ticks).bag) = some b →
     exec (.warmResumeReady ticks) s = .next (
       (((s.rtcTicks ticks).setPower (fun p => { p with die := 0 })).restore b).resumeEnds)) ∧
  (∀ (s : State),
     s.power.die ≠ 3 → s.power.saving ≠ 1 →
     exec .vinReset s = .next (((s.resetFor 3).put blkKpr KPR.KPR_STATUS_PWR_GOOD 0).vinState 0)) ∧
  (∀ (s : State),
     s.power.die = 0 →
     exec (.railFault 0) s = .next (
       (((s.put blkKpr KPR.KPR_STATUS_VSYS_OK 0).count blkKpr KPR.RAIL_FAULT_COUNT).raise 2).declareF3 0x0F70)) ∧
  (∀ (s : State),
     s.power.die = 0 →
     exec (.railFault 1) s = .next (
       (((s.put blkKpr KPR.KPR_STATUS_VCORE_OK 0).count blkKpr KPR.RAIL_FAULT_COUNT).raise 2).declareF3 0x0F70)) ∧
  (∀ (s : State),
     s.power.die = 0 → s.flag blkKpr KPR.KPR_STATUS_FEED_OK = true →
     exec (.railFault 2) s = .next (
       allFeeds.foldl (fun u w => u.safeUnit w 0x0F71) (((((((s.setAx blkKpr axRailOut 1).put blkKpr
           KPR.KPR_STATUS_FEED_OK 0).count blkKpr KPR.RAIL_FAULT_COUNT).raise 2)).declare ⟨2, 0x0F71, 0x3FF, 0⟩
           true).abandonJob))) ∧
  (∀ (s : State),
     s.ax blkKpr axRailOut ≠ 0 →
     exec .feedRailRegulated s = .next (
       (((s.setAx blkKpr axRailOut 0).put blkKpr KPR.KPR_STATUS_FEED_OK 1).endFault (fun f => f.code ==
           0x0F71)).causeGone 0x0F71)) ∧
  (∀ (s : State),
     s.power.die = 0 → s.power.saving = 2 → s.power.woken = false →
     exec .standbyEntered s = .next (
       (((((((s.gbSave s.gbDirtyPages).writeBag 2).dieReset 3).put blkKpr KPR.KPR_STATUS_VSYS_OK 0).put blkKpr
           KPR.KPR_STATUS_VCORE_OK 0).put blkKpr KPR.KPR_STATUS_PWR_GOOD 0).vinState 0))) ∧
  (∀ (s : State),
     s.wakeMasked 0 = true →
     exec .wakePin s = .next (s.wake KPR.WAKE_CAUSE_WAKE_PIN)) ∧
  (∀ (s : State),
     s.wakeMasked 2 = true →
     exec .twtWakeMatch s = .next (s.wake KPR.WAKE_CAUSE_TWT)) ∧
  (∀ (s : State),
     s.wakeMasked 1 = true → s.flag blkKpr KPR.RTC_CTL_ALARM_EN = true → s.power.die = 3 →
     exec .rtcAlarm s = .next (
       (s.setPower (fun p =>
           { p with rtc := (s.rd blkKpr KPR.RTC_ALARM_HI.off).extractLsb' 0 16 ++ s.rd blkKpr KPR.RTC_ALARM_LO.off })).wake
           KPR.WAKE_CAUSE_RTC)) ∧
  (∀ (s : State),
     s.power.die = 3 →
     exec .resetN s = .next (s.wake KPR.WAKE_CAUSE_RESET)) ∧
  (∀ (s : State),
     s.power.die = 0 → s.power.saving = 1 →
     ∃ t, exec .resetN s = .next t ∧
       t.power = { s.power with resetAfter := true, start := 1 } ∧
       t.regs = s.regs ∧
       t.mem = s.mem) ∧
  (∀ (s : State),
     s.power.die = 0 → s.power.saving = 0 →
     exec .resetN s = .next ((s.resetFor 1).vinState 0)) ∧
  (∀ (s : State),
     s.power.saving = 0 →
     exec .keeperReset s = .next (
       let u := s.resetFor 0;
       { u with regs := u.regs.filter (fun (p : Nat × Word) => keptBoot p.1), aux := [], power := { u.power with rtc := 0 } })) ∧
  (∀ (s : State) (m : Master) (v : Word),
     s.accepts m blkKpr 0x030 v [] = true →
     exec (.rtcSet m v) s = .next (s.told m blkKpr 0x030 v (s.rtcCtl v)))

/-- Boot. In every state and on all operands that meet the hypotheses of its clause, each of these commands answers
    the next state written out in its clause, or one with the values listed there: COLD_BOOT, SIGNBOARD_REBUILT,
    FIRMWARE_READY, ROOT_LOCK_TIMEOUT, SYS_SOFT_RESET (R489, R34, R497, R37). -/
def Obligations.BootRows : Prop :=
  (∀ (s : State) (ticks : Nat),
     s.power.die = 1 →
     exec (.coldBoot ticks) s = .next (
       let t := (s.rtcTicks ticks).setPower (fun p => { p with die := 0 });
       let u := ((t.put blkKpr KPR.KPR_STATUS_VSYS_OK 1).put blkKpr KPR.KPR_STATUS_VCORE_OK 1).put blkKpr
           KPR.KPR_STATUS_PWR_GOOD 1;
       ((u.vinState 0).startCause u.power.start).bootSlot)) ∧
  (∀ (s : State),
     s.signboardGen.getLsbD 0 = true → s.fw.running = true → s.power.die = 0 → s.fw.inService = true →
     ∃ t, exec .signboardRebuilt s = .next t ∧
       t.signboardGen = s.signboardGen + 1 ∧
       t.signboard = ⟨true, s.tree.parents, s.tree.comps⟩ ∧
       t.board.latch.getLsbD 18 = true ∧
       t.regs = s.regs ∧
       t.mem = s.mem) ∧
  (∀ (s : State),
     s.fw.running = true → s.fw.inService = false → s.power.die = 0 → s.power.saving = 0 →
     s.clock.everLocked = true → s.signboard.built = true → s.signboardGen.getLsbD 0 = false → s.tree.job = none →
     s.power.start ≠ 5 →
     exec .firmwareReady s = .next (
       let u := (s.setFw (fun f => { f with inService := true })).raise 22;
       u.notice 1 u.fw.boot.code u.bootDetail)) ∧
  (∀ (s : State),
     s.fw.running = true → s.fw.inService = false → s.power.die = 0 → s.power.saving = 0 →
     s.clock.everLocked = true → s.signboard.built = true → s.signboardGen.getLsbD 0 = false → s.tree.job = none →
     s.power.start = 5 →
     exec .firmwareReady s = .next (
       let u := (s.setFw (fun f => { f with inService := true })).raise 22;
       let v := u.raise 23;
       v.notice 1 v.fw.boot.code v.bootDetail)) ∧
  (∀ (s : State),
     s.fw.running = true → s.power.die = 0 → s.clock.everLocked = false →
     s.fw.standing.any (fun f => f.code == 0x0F62) = false →
     exec .rootLockTimeout s = .next (s.declare ⟨0, 0x0F62, 0x3FF, 0⟩ true)) ∧
  (∀ (s : State) (m : Master) (v : Word),
     s.accepts m blkSys 0x018 v (softCodes v) = true →
     exec (.sysSoftReset m v) s = .next (s.told m blkSys 0x018 v s.softReset))

/-- Host ports. In every state and on all operands that meet the hypotheses of its clause, each of these commands
    answers the next state written out in its clause, or one with the values listed there (where a Frame is given,
    every other register and the rest of the frame stand): QSPI_WRITE, QSPI_WRITE_FIXED, QSPI_READ, QSPI_READ_FIXED,
    QSPI_STATUS, QSPI_QREAD, QSPI_QWRITE, QSPI_PROTOCOL_RESET, HSPI_CFG_TAKES_EFFECT, QSPI_UNKNOWN_OPCODE, TWT_WRITE,
    TWT_READ, TWT_MISPLACED_START, TWT_BUS_TIMEOUT (R365, R367, R368, R369, R372, R377, R378, R379). -/
def Obligations.HostPorts : Prop :=
  (∀ (s : State) (a : Word) (data : List Word),
     s.portsAnswer = true →
     exec (.qspiWrite a data false) s = .next ((s.writeBurst 5 4 data a.toNat).csRise)) ∧
  (∀ (s : State) (a : Word) (data : List Word),
     s.portsAnswer = true →
     exec (.qspiWriteFixed a data false) s = .next ((s.writeBurst 5 0 data a.toNat).csRise)) ∧
  (∀ (s : State) (a : Word) (data : List Word),
     s.portsAnswer = true → (s.writeBurst 5 4 data a.toNat).portsAnswer = true →
     exec (.qspiWrite a data true) s = .next (
       ((((s.writeBurst 5 4 data a.toNat).put blkHost HOST.HSPI_STATUS_LAST_CODE 0x0721).count blkHost
           HOST.HSPI_ERR_COUNT).raise 124).csRise)) ∧
  (∀ (s : State) (a : Word) (n : Nat),
     s.portsAnswer = true →
     exec (.qspiRead a n 0) s = .next ((s.readBurst 5 4 n a.toNat []).csRise)) ∧
  (∀ (s : State) (a : Word) (n : Nat),
     s.portsAnswer = true →
     exec (.qspiReadFixed a n 0) s = .next ((s.readBurst 5 0 n a.toNat []).csRise)) ∧
  (∀ (s : State) (a : Word) (n : Nat),
     s.portsAnswer = true →
     exec (.qspiRead a n 1) s = .next (((s.count blkHost HOST.HSPI_WAIT_COUNT).readBurst 5 4 n a.toNat []).csRise)) ∧
  (∀ (s : State) (n : Nat),
     s.portsAnswer = true →
     ∃ t, exec (.qspiStatus n) s = .next t ∧
       t.fld blkHost HOST.HSPI_STATUS_PROTO_NOW = s.fld blkHost HOST.HSPI_CFG_PROTO % 8 ∧
       t.answer = List.replicate n (w32 s.statusByte) ∧
       Frame [(blkHost, HOST.HSPI_STATUS_PROTO_NOW.off)] s t) ∧
  (∀ (s : State) (q : Fin 64) (max : BitVec 8) (sent : Nat),
     s.portsAnswer = true → s.queueBound (winQ q) = true → s.qToHost (winQ q) = true →
     exec (.qspiQread q max sent 0) s = .next (
       let n := Nat.min max.toNat (s.qSpan (winQ q));
       let k := Nat.min n sent;
       ((s.consTo (winQ q) (s.qCons (winQ q) + w32 k)).ans (w32 n :: (List.range k).flatMap (fun i => s.qreadUnit
           (winQ q) (s.qCons (winQ q) + w32 i)))).csRise)) ∧
  (∀ (s : State) (q : Fin 64) (max : BitVec 8) (sent : Nat) (delay : Fin 3),
     s.portsAnswer = true → s.queueBound (winQ q) = false →
     exec (.qspiQread q max sent delay) s = .next (
       (((((s.put blkHost HOST.HSPI_STATUS_LAST_CODE 0x0723).count blkHost HOST.HSPI_ERR_COUNT).raise 124)).ans
           []).csRise)) ∧
  (∀ (s : State) (q : Fin 64) (data : List Word),
     s.portsAnswer = true →
     exec (.qspiQwrite q data false) s = .next ((s.qwrite (winQ q) false (data.length + 1) 0 data).csRise)) ∧
  (∀ (s : State),
     s.portsAnswer = true →
     ∃ t, exec .qspiProtocolReset s = .next t ∧
       t.fld blkHost HOST.HSPI_CFG_PROTO = 0 ∧
       t.fld blkHost HOST.HSPI_STATUS_PROTO_NOW = 0 ∧
       Frame [(blkHost, HOST.HSPI_CFG_PROTO.off), (blkHost, HOST.HSPI_STATUS_PROTO_NOW.off)] s t) ∧
  (∀ (s : State),
     s.power.die = 0 →
     ∃ t, exec .hspiCfgTakesEffect s = .next t ∧
       t.fld blkHost HOST.HSPI_STATUS_PROTO_NOW = s.fld blkHost HOST.HSPI_CFG_PROTO ∧
       Frame [(blkHost, HOST.HSPI_STATUS_PROTO_NOW.off)] s t) ∧
  (∀ (s : State) (op : BitVec 8),
     s.portsAnswer = true → [0x01, 0x02, 0x03, 0x04, 0x05, 0x10, 0x11, 0xFF].contains op.toNat = false →
     ∃ t, exec (.qspiUnknownOpcode op) s = .next t ∧
       t.fld blkHost HOST.HSPI_STATUS_LAST_CODE = 0x0720 ∧
       t.rd blkHost HOST.HSPI_ERR_COUNT.off = counted (s.rd blkHost HOST.HSPI_ERR_COUNT.off) ∧
       t.board.latch.getLsbD 124 = true ∧
       Frame [(blkHost, HOST.HSPI_STATUS_LAST_CODE.off), (blkHost, HOST.HSPI_ERR_COUNT.off), (blkHost, ovfOff
           blkHost), (blkHost, 0x00C)] s t) ∧
  (∀ (s : State) (mode : BitVec 8) (a : Word) (data : List Word),
     s.portsAnswer = true → mode.toNat ≤ 1 →
     (((s.setAx blkHost axTwtAddr a.toNat).setAx blkHost axTwtMode mode.toNat).writeBurst 6 ((s.setAx blkHost
         axTwtAddr a.toNat).setAx blkHost axTwtMode mode.toNat).twtStep data a.toNat).portsAnswer = true →
     exec (.twtWrite mode true a data false) s = .next (
       let u := (s.setAx blkHost axTwtAddr a.toNat).setAx blkHost axTwtMode mode.toNat;
       (u.writeBurst 6 u.twtStep data a.toNat).twtMove data.length)) ∧
  (∀ (s : State) (mode : BitVec 8) (whole : Bool) (a : Word) (data : List Word) (cut : Bool),
     s.portsAnswer = true → 1 < mode.toNat →
     ∃ t, exec (.twtWrite mode whole a data cut) s = .next t ∧
       t.fld blkHost HOST.TWT_STATUS_LAST_CODE = 0x0735 ∧
       t.rd blkHost HOST.TWT_ERR_COUNT.off = counted (s.rd blkHost HOST.TWT_ERR_COUNT.off) ∧
       t.board.latch.getLsbD 123 = true ∧
       Frame [(blkHost, HOST.TWT_STATUS_LAST_CODE.off), (blkHost, HOST.TWT_ERR_COUNT.off), (blkHost, ovfOff blkHost),
           (blkHost, 0x00C)] s t) ∧
  (∀ (s : State) (late : List Bool),
     s.portsAnswer = true →
     exec (.twtRead late) s = .next (s.twtRead late [])) ∧
  (∀ (s : State),
     s.portsAnswer = true →
     ∃ t, exec .twtMisplacedStart s = .next t ∧
       t.fld blkHost HOST.TWT_STATUS_LAST_CODE = 0x0730 ∧
       t.rd blkHost HOST.TWT_MISPLACED_COUNT.off = counted (s.rd blkHost HOST.TWT_MISPLACED_COUNT.off) ∧
       t.board.latch.getLsbD 122 = true ∧
       Frame [(blkHost, HOST.TWT_STATUS_LAST_CODE.off), (blkHost, HOST.TWT_MISPLACED_COUNT.off), (blkHost, ovfOff
           blkHost), (blkHost, 0x00C)] s t) ∧
  (∀ (s : State),
     s.portsAnswer = true →
     ∃ t, exec .twtBusTimeout s = .next t ∧
       t.fld blkHost HOST.TWT_STATUS_LAST_CODE = 0x0734 ∧
       t.rd blkHost HOST.TWT_ERR_COUNT.off = counted (s.rd blkHost HOST.TWT_ERR_COUNT.off) ∧
       t.board.latch.getLsbD 123 = true ∧
       Frame [(blkHost, HOST.TWT_STATUS_LAST_CODE.off), (blkHost, HOST.TWT_ERR_COUNT.off), (blkHost, ovfOff blkHost),
           (blkHost, 0x00C)] s t)

/-- Bus writes and reads of registers. In every state and on all operands that meet the hypotheses of its clause, each
    of these commands answers the next state written out in its clause, or one with the values listed there (where a
    Frame is given, every other register and the rest of the frame stand): REGISTER_WRITE, COUNTER_RESTART,
    PEAK_RESTART, LOW_WORD_READ, SEM_READ, SEM_WRITE (R10, R12, R45, R519). -/
def Obligations.BusRows : Prop :=
  (∀ (s : State) (m : Master) (a v : Word) (b off : Nat),
     placeAt a.toNat = .reg b off → a.toNat % 4 = 0 → hostLimited s m b = false →
     exec (.registerWrite m .b32 a v) s = .next (s.regWrite m m b off v)) ∧
  (∀ (s : State) (m : Master) (a v : Word) (w off : Nat),
     placeAt a.toNat = .reg w off → off % 4 = 0 → a.toNat % 4 = 0 → w < 0x400 → (ctrBit? w off).isSome = true →
     kindOf w ≠ .queue → s.accepts m w off v (s.kindCodes w off v) = true → off ≠ 0x004 →
     ∃ t, exec (.counterRestart m a v) s = .next t ∧
       t.rd w off = 0 ∧
       t.mem = s.mem) ∧
  (∀ (s : State) (m : Master) (a v : Word) (b off : Nat),
     placeAt a.toNat = .reg b off → off % 4 = 0 → a.toNat % 4 = 0 → isPeak b off = true →
     hostLimited s m b = false →
     exec (.peakRestart m a v) s = .next (s.regWrite m m b off v)) ∧
  (∀ (s : State) (m : Master) (a : Word) (b off hi : Nat),
     placeAt a.toNat = .reg b off → off % 4 = 0 → a.toNat % 4 = 0 → hiOf b off = some hi →
     hostLimited s m b = false → ((b < 0x400 → s.present b = true)) → (regAt b off).isSome = true →
     latchShown b off = false → b ≠ blkPigeon → b ≠ winTWC → kindOf b ≠ .asrc → ((b = blkSys → off < 0x100)) →
     ∃ t, exec (.lowWordRead m a) s = .next t ∧
       t.answer = [s.liveRead m b off] ∧
       t.latched m b hi = s.liveRead m b hi ∧
       t.regs = s.regs ∧
       t.mem = s.mem) ∧
  (∀ (s : State) (m : Master) (n : Fin 32),
     hostLimited s m blkSys = false → 9 ≤ s.semOwner n →
     ∃ t, exec (.semRead m n) s = .next t ∧
       t.answer = [0] ∧
       t.semOwner n = m ∧
       (∀ k : Fin 32, k ≠ n → t.semOwner k = s.semOwner k) ∧
       t.regs = s.regs ∧
       t.mem = s.mem) ∧
  (∀ (s : State) (m : Master) (n : Fin 32),
     hostLimited s m blkSys = false → s.semOwner n < 9 →
     ∃ t, exec (.semRead m n) s = .next t ∧
       t.answer = [w32 (0x80 + s.semOwner n)] ∧
       t.sems = s.sems ∧
       t.regs = s.regs ∧
       t.mem = s.mem) ∧
  (∀ (s : State) (m : Master) (n : Fin 32) (v : Word),
     hostLimited s m blkSys = false → s.semOwner n = m → v = 0 →
     ∃ t, exec (.semWrite m n v) s = .next t ∧
       t.semOwner n = 9 ∧
       (∀ k : Fin 32, k ≠ n → t.semOwner k = s.semOwner k) ∧
       t.regs = s.regs ∧
       t.mem = s.mem) ∧
  (∀ (s : State) (m : Master) (n : Fin 32) (v : Word),
     hostLimited s m blkSys = false → 9 ≤ s.semOwner n →
     ∃ t, exec (.semWrite m n v) s = .next t ∧
       t.sems = s.sems ∧
       t.rd blkSys SYS.SEM_VIOLATION_COUNT.off = counted (s.rd blkSys SYS.SEM_VIOLATION_COUNT.off) ∧
       t.board.latch.getLsbD 30 = true ∧
       Frame [(blkSys, SYS.SEM_VIOLATION_COUNT.off), (blkSys, ovfOff blkSys), (blkSys, 0x00C)] s t)

/-- For every state whose queue has a command at its front, step is exec of that command on the state with the rest of
    the queue (the frame of the model: a block takes one command a step, log entry 5) (98_reader.md). -/
def Obligations.StepRunsFront : Prop :=
  ∀ (s : State) (c : Instr) (rest : List Instr), s.pending = c :: rest → step s = exec c { s with pending := rest }

/-- On an empty queue, step answers a next state in which the epoch has counted one (from the first root lock on,
    while the main die is in service), the queue is empty and every register and byte stands; before the lock nothing
    changes. That the block does so is the model's choice (log entry 5) (R401, R408). -/
def Obligations.EmptyQueueTick : Prop :=
  (∀ (s : State), s.pending = [] → s.clock.everLocked = true → s.power.die = 0 →
     ∃ t, step s = .next t ∧
       t.clock.epoch = s.clock.epoch + 1 ∧
       t.clock.uptime = s.clock.uptime + 1 ∧
       t.pending = [] ∧
       t.regs = s.regs ∧
       t.mem = s.mem) ∧
  (∀ (s : State), s.pending = [] → s.clock.everLocked = false →
     step s = .next s)

/-- Every command, with every operand, answers a next state from every state (95_what_each_step_holds.md). -/
def Obligations.CommandsGoOn : Prop :=
  ∀ (c : Instr) (s : State), Goes (exec c s)

/-- Whatever a command does, the commands that wait and the part's own facts (variant, grade, fuses, UID,
    PAIR_PRESENT) stand as they were (R1, R2, R457). -/
def Obligations.CommandsKeepQueue : Prop :=
  ∀ (c : Instr) (s t : State), exec c s = .next t → t.pending = s.pending ∧ t.part = s.part

/-- At reset the register file and the memories stand in their one canonical form (R10, R24). -/
def Obligations.ResetIsCanonical : Prop :=
  Canonical State.reset

/-- From every state in canonical form, whatever command stands at the front of its queue and whatever its operands,
    the next state is in canonical form: equal register files and equal memories are equal data (R10, R24). -/
def Obligations.StepsKeepCanonical : Prop :=
  ∀ (s t : State), Canonical s → step s = .next t → Canonical t

/-- At reset no command waits; every register reads the Reset column of its table; every semaphore is free, every
    pigeonhole empty, every bell and latch clear; no composite, link or job stands; no core runs and the epoch is 0
    and not yet counting. The registers to which the spec gives no reset value read 0 by the log entry on reset values
    (R10, R39, R351, R359, R360, R400). -/
def Obligations.ResetState : Prop :=
  State.reset.pending = [] ∧
  (∀ b off, off < 4096 → State.reset.rd b off = BitVec.ofNat 32 (resetWord b (off / 4 * 4))) ∧
  (∀ n : Fin 32, 9 ≤ State.reset.semOwner n) ∧
  (∀ (toHost : Bool) (n : Fin 8), (State.reset.fifo toHost n).words = []) ∧
  State.reset.board.latch = 0 ∧ State.reset.board.toDev = 0 ∧ State.reset.board.toHost = 0 ∧
  State.reset.tree.links = [] ∧ State.reset.tree.job = none ∧
  State.reset.fw.running = false ∧ State.reset.fw.inService = false ∧
  State.reset.clock.epoch = 0 ∧ State.reset.clock.everLocked = false

/-- A read of a free semaphore answers 0 and the reader then owns it; a read of an owned one answers 0x80 with the
    owner and changes nothing, also where the reader is the owner. No other semaphore changes (R39). -/
def Obligations.SemaphoreReads : Prop :=
  (∀ (s : State) (m : Master) (n : Fin 32), hostLimited s m blkSys = false → 9 ≤ s.semOwner n →
     ∃ t, exec (.semRead m n) s = .next t ∧ t.answer = [0] ∧ t.semOwner n = m ∧
       (∀ k : Fin 32, k ≠ n → t.semOwner k = s.semOwner k) ∧
       (∃ u, exec (.semRead m n) t = .next u ∧ u.answer = [w32 (0x80 + m)] ∧ u.semOwner n = m)) ∧
  (∀ (s : State) (m : Master) (n : Fin 32), hostLimited s m blkSys = false → s.semOwner n < 9 →
     ∃ t, exec (.semRead m n) s = .next t ∧ t.answer = [w32 (0x80 + s.semOwner n)] ∧ t.sems = s.sems)

/-- A write of 0 by the owner, or of 0xFF by any master to an owned semaphore, frees it and no other; every other
    write changes no semaphore and counts SEM_VIOLATION_COUNT, a 0 from another master and a 0xFF to a free semaphore
    among them (R40). -/
def Obligations.SemaphoreWrites : Prop :=
  (∀ (s : State) (m : Master) (n : Fin 32) (v : Word), hostLimited s m blkSys = false →
     ((v = 0 ∧ s.semOwner n = m) ∨ (v = 0xFF ∧ s.semOwner n < 9)) →
     ∃ t, exec (.semWrite m n v) s = .next t ∧ 9 ≤ t.semOwner n ∧
       (∀ k : Fin 32, k ≠ n → t.semOwner k = s.semOwner k) ∧ t.regs = s.regs ∧ t.mem = s.mem) ∧
  (∀ (s : State) (m : Master) (n : Fin 32) (v : Word), hostLimited s m blkSys = false →
     ¬((v = 0 ∧ s.semOwner n = m) ∨ (v = 0xFF ∧ s.semOwner n < 9)) →
     ∃ t, exec (.semWrite m n v) s = .next t ∧ t.sems = s.sems ∧
       t.rd blkSys SYS.SEM_VIOLATION_COUNT.off = counted (s.rd blkSys SYS.SEM_VIOLATION_COUNT.off) ∧
       Frame (counterKeys blkSys SYS.SEM_VIOLATION_COUNT.off) s t)

/-- A statistics counter below its top counts one and changes nothing else; on reaching 0xFFFF_FFFF its bit in
    UNIT_COUNTER_OVF (SYS_COUNTER_OVF in SYS) sets and COUNTER_SATURATED latches; at the top a further count changes
    nothing (R45). -/
def Obligations.CountersSaturate : Prop :=
  (∀ (s : State) (b bit : Nat) (r : FRef), ctrBit? b r.off = some bit → s.rd b r.off = 0xFFFFFFFF → s.count b r = s) ∧
  (∀ (s : State) (b bit : Nat) (r : FRef), ctrBit? b r.off = some bit → s.rd b r.off ≠ 0xFFFFFFFF →
     s.rd b r.off ≠ 0xFFFFFFFE → s.count b r = s.wr b r.off (s.rd b r.off + 1)) ∧
  (∀ (s : State) (b bit : Nat) (r : FRef), ctrBit? b r.off = some bit → bit < 32 → r.off / 4 ≠ ovfOff b / 4 → r.off / 4 ≠ 3 →
     s.rd b r.off = 0xFFFFFFFE →
     (s.count b r).rd b r.off = 0xFFFFFFFF ∧
     ((s.count b r).rd b (ovfOff b)).getLsbD bit = true ∧
     (s.count b r).board.latch.getLsbD 19 = true)

/-- A master that writes its direction's EMPTY_REQ is noted while the FIFO holds words; the pop that leaves it empty
    clears EMPTY_REQ and sets EMPTIED, and for TD raises PH_EMPTY; where the FIFO is empty already the notice comes at
    once (R353). -/
def Obligations.EmptyNotices : Prop :=
  (∀ (s : State) (m : Master) (ph : Fin 8), s.accepts m blkPigeon (0x20 * ph + 0x10) 0x20 [] = true →
     (s.fifo false ph).words ≠ [] →
     ∃ t, exec (.tdEmptyReq m ph) s = .next t ∧ t.fifo false ph = { s.fifo false ph with emptyReq := true }) ∧
  (∀ (s : State) (m : Master) (ph : Fin 8), s.accepts m blkPigeon (0x20 * ph + 0x10) 0x200000 [] = true →
     (s.fifo true ph).words ≠ [] →
     ∃ t, exec (.thEmptyReq m ph) s = .next t ∧ t.fifo true ph = { s.fifo true ph with emptyReq := true }) ∧
  (∀ (s : State) (m : Master) (ph : Fin 8) (v : Word), (s.fifo false ph).words = [v] → (s.fifo false ph).emptyReq = true →
     ∃ t, exec (.phTdPop m ph) s = .next t ∧ t.answer = [v] ∧ (t.fifo false ph).words = [] ∧
       (t.fifo false ph).emptyReq = false ∧ (t.fifo false ph).emptied = true ∧ t.board.latch.getLsbD 117 = true) ∧
  (∀ (s : State) (m : Master) (ph : Fin 8) (v : Word), (s.fifo true ph).words = [v] → (s.fifo true ph).emptyReq = true →
     (s.fw.outbox.any (fun x => x.ph == ph)) = false →
     ∃ t, exec (.phThPop m ph) s = .next t ∧ t.answer = [v] ∧ (t.fifo true ph).words = [] ∧
       (t.fifo true ph).emptyReq = false ∧ (t.fifo true ph).emptied = true ∧ t.board = s.board) ∧
  (∀ (s : State) (m : Master) (ph : Fin 8), s.accepts m blkPigeon (0x20 * ph + 0x10) 0x20 [] = true →
     (s.fifo false ph).words = [] →
     ∃ t, exec (.tdEmptyReq m ph) s = .next t ∧ (t.fifo false ph).emptyReq = false ∧ (t.fifo false ph).emptied = true ∧
       t.board.latch.getLsbD 117 = true) ∧
  (∀ (s : State) (m : Master) (ph : Fin 8), s.accepts m blkPigeon (0x20 * ph + 0x10) 0x200000 [] = true →
     (s.fifo true ph).words = [] →
     ∃ t, exec (.thEmptyReq m ph) s = .next t ∧ (t.fifo true ph).emptyReq = false ∧ (t.fifo true ph).emptied = true)

/-- A read of EPOCH_LO answers the low word of the epoch and latches the high word of that moment for its master; a
    write of 1 to EPOCH_SNAP copies the epoch, over any earlier snapshot, and EPOCH_SNAP_LO and EPOCH_SNAP_HI then
    read it (R12, R38, R48). -/
def Obligations.EpochReads : Prop :=
  (∀ (s : State) (m : Master), hostLimited s m blkSys = false →
     ∃ t, exec (.lowWordRead m 0x00100030) s = .next t ∧ t.answer = [s.clock.epoch.extractLsb' 0 32] ∧
       (∀ u : State, u.readLatch = t.readLatch → hostLimited u m blkSys = false →
         u.regWord m m blkSys 0x034 = s.clock.epoch.extractLsb' 32 32)) ∧
  (∀ (s : State) (m k : Master) (v : Word), s.accepts m blkSys 0x038 v [] = true → SYS.EPOCH_SNAP.of v = 1 →
     hostLimited s k blkSys = false →
     ∃ t u, exec (.epochSnap m v) s = .next t ∧ exec (.lowWordRead k 0x00100040) t = .next u ∧
       u.answer = [s.clock.epoch.extractLsb' 0 32] ∧
       u.regWord k k blkSys 0x044 = s.clock.epoch.extractLsb' 32 32)

/-- For every 64-bit register that is read low word first, the latch taken by a master's read of the low word is what
    the same master then reads as the high word, whatever has changed since, and no other master's latch moves (R12,
    R48). -/
def Obligations.WideReads : Prop :=
  ∀ (s : State) (m : Master) (a : Word) (b off hi : Nat),
    placeAt a.toNat = .reg b off → off % 4 = 0 → a.toNat % 4 = 0 → hiOf b off = some hi → hostLimited s m b = false →
    (b < 0x400 → s.present b = true) → (regAt b off).isSome = true → (regAt b hi).isSome = true → latchShown b off = false →
    latchShown b hi = true → b ≠ blkPigeon → b ≠ winTWC → kindOf b ≠ .asrc → (b = blkSys → off < 0x100) →
    ∃ t, exec (.lowWordRead m a) s = .next t ∧ t.answer = [s.liveRead m b off] ∧
      (∀ u : State, u.readLatch = t.readLatch → hostLimited u m b = false → (b < 0x400 → u.present b = true) →
        u.regWord m m b hi = s.liveRead m b hi) ∧
      (∀ (k : Master) (c o : Nat), (k : Nat) ≠ m → t.latched k c o = s.latched k c o)

/-- UNIT_STATUS of a present unit shows the STATE of the first row that applies: a failed self-check FAULT, the
    harmless state SAFE, ENABLE 0 OFF, RUN 0 IDLE, HOLD or an internal hold HOLD, VALID 0 WARM, otherwise RUN (a port
    that is stopping keeps its place, which R56 does not name, and is left out) (R56). -/
def Obligations.UnitStates : Prop :=
  ∀ (s : State) (m : Master) (w : Fin 1024), s.present w = true → s.isComposite w = false → hostLimited s m w = false →
    (regAt w 0x008).isSome = true → s.portStopping w = false →
    UCB.UNIT_STATUS_STATE.of (s.regWord m m w 0x008) =
      if (s.unit w).selfFail = true then 6
      else if (s.unit w).safe = true then 5
      else if s.flag w UCB.UNIT_CTL_ENABLE = false then 0
      else if s.flag w UCB.UNIT_CTL_RUN = false then 1
      else if s.flag w UCB.UNIT_CTL_HOLD = true ∨ s.innerHeld w = true then 4
      else if s.validBit w = false then 2
      else 3

/-- At every offset of an absent unit's window a read gives 0 and a write changes nothing, not even a record of an
    error (R3). -/
def Obligations.AbsentWindows : Prop :=
  (∀ (s : State) (m : Master) (w off : Nat), w < 0x400 → s.present w = false → s.regWord m m w off = 0) ∧
  (∀ (s : State) (m : Master) (a v : Word) (w off : Nat), placeAt a.toNat = .reg w off → a.toNat % 4 = 0 → w < 0x400 →
     s.present w = false → s.mirrorsReg m w off = false → exec (.registerWrite m .b32 a v) s = .next s)

/-- A write that its register refuses leaves every field of every kind-specific register as it was, writes the code
    picked into UNIT_ERR.CODE and latches the ERROR event of the unit (in the sliding second of R479 in which fewer
    than 256 refusals stand, so that none of its codes replaces it). ROUTE_2 and ROUTE_3 of an FY-3216 ignore writes
    and record nothing (R50, R90, R517). -/
def Obligations.RefusedWrites : Prop :=
  (∀ (s : State) (m : Master) (a v : Word) (w off c : Nat) (r : RegD), placeAt a.toNat = .reg w off → a.toNat % 4 = 0 →
     off % 4 = 0 → w < 0x400 → s.present w = true → hostLimited s m w = false → s.mirrorsReg m w off = false →
     regAt w off = some r → r.readOnly = false → kindOf w ≠ .queue → 0x040 ≤ off → c < 65536 →
     ¬(w = winAnt ∧ s.part.reduced = true ∧ (off = 0x048 ∨ off = 0x04C)) →
     (s.unit w).refusals.length < 256 →
     pickCode (s.commonCodes w off v r ++ s.kindCodes w off v) = some c →
     ∃ t, exec (.registerWrite m .b32 a v) s = .next t ∧
       t.fld w UCB.UNIT_ERR_CODE = c ∧
       (t.rd w 0x00C).getLsbD evERROR = true ∧
       (∀ o, 0x040 ≤ o → o < 4096 → t.rd w o = s.rd w o) ∧
       t.mem = s.mem) ∧
  (∀ (s : State) (m : Master) (a v : Word) (off : Nat), placeAt a.toNat = .reg winAnt off → a.toNat % 4 = 0 →
     s.part.reduced = true → (off = 0x048 ∨ off = 0x04C) → hostLimited s m winAnt = false →
     s.mirrorsReg m winAnt off = false → exec (.registerWrite m .b32 a v) s = .next s)

/-- A write of 8, 16 or 32 bits at an aligned address of queue, Guestbook or delay memory stores the low bytes of its
    word there, least significant first; every other byte of memory, every register and the rest of the frame read as
    before (R11, R24, R25). -/
def Obligations.RamWrites : Prop :=
  ∀ (s : State) (m : Master) (wd : Width) (a v : Word), placeAt a.toNat = .ram a.toNat → a.toNat % widthBytes wd = 0 →
    s.power.die = 0 → (m : Nat) ≠ 5 → (m : Nat) ≠ 6 →
    ∃ t, exec (.registerWrite m wd a v) s = .next t ∧
      (∀ i, i < widthBytes wd → t.rdByte (a.toNat + i) = v.extractLsb' (8 * i) 8) ∧
      (∀ x, (x < a.toNat ∨ a.toNat + widthBytes wd ≤ x) → t.rdByte x = s.rdByte x) ∧
      t.regs = s.regs ∧ t.tree = s.tree ∧ t.fw = s.fw ∧ t.board = s.board ∧ t.guest = s.guest

/-- A write to an address outside every region, to the Signboard or to MRAM, at a width or alignment that its region
    does not take, changes no byte of memory and no unit; SYS_ACCESS_ADDR holds its address and SYS_ACCESS_INFO its
    code and its master, and SYS_ACCESS_COUNT counts it. Of a write that breaks two rules the hole is recorded before
    the width, a choice of the model (log entry 186) (R24, R25, R36). -/
def Obligations.FailedWrites : Prop :=
  (∀ (s : State) (m : Master) (wd : Width) (a v : Word), placeAt a.toNat = .hole → s.power.die = 0 → (m : Nat) ≠ 5 →
     (m : Nat) ≠ 6 → exec (.registerWrite m wd a v) s = .next (s.accessFail m a.toNat true 0x0701)) ∧
  (∀ (s : State) (m : Master) (wd : Width) (a v : Word) (b off : Nat), placeAt a.toNat = .reg b off →
     hostLimited s m b = false → (wd ≠ .b32 ∨ a.toNat % 4 ≠ 0) → 
     exec (.registerWrite m wd a v) s = .next (s.accessFail m a.toNat true 0x0702)) ∧
  (∀ (s : State) (m : Master) (v : Word) (a : Word), (a.toNat < 0x40000 ∨ (0x04000000 ≤ a.toNat ∧ a.toNat < 0x04800000)) →
     a.toNat % 4 = 0 → s.power.die = 0 → (m : Nat) ≠ 5 → (m : Nat) ≠ 6 →
     exec (.registerWrite m .b32 a v) s = .next (s.accessFail m a.toNat true 0x0703)) ∧
  (∀ (s : State) (m : Master) (a c : Nat), a < 4294967296 → c < 65536 → m.val < 9 →
     (s.accessFail m a true c).rd blkSys 0x020 = w32 a ∧
     SYS.SYS_ACCESS_INFO_CODE.of ((s.accessFail m a true c).rd blkSys 0x024) = c ∧
     (s.accessFail m a true c).rd blkSys SYS.SYS_ACCESS_COUNT.off = counted (s.rd blkSys SYS.SYS_ACCESS_COUNT.off) ∧
     (s.accessFail m a true c).mem = s.mem ∧ (s.accessFail m a true c).units = s.units)

/-- Where no earlier message waits for that pigeonhole and it has room for the whole reply, a reply of firmware stands
    in TH after what was there: word 0 with the command's opcode and tag and the number of argument words, then the
    arguments; its bell to the host is rung (R355, R357). -/
def Obligations.RepliesReachHost : Prop :=
  ∀ (s : State) (ph op tag : Nat) (args : List Word), s.ferry.quiet = false →
    (s.fw.outbox.any (fun x => x.ph == ph)) = false → (s.fifo true ph).words.length + 1 + args.length ≤ 8 →
    op < 256 → tag < 256 → ph < 8 →
    ((s.reply ph op tag args).fifo true ph).words =
      (s.fifo true ph).words ++ w32 (op * 16777216 + tag * 65536 + args.length) :: args ∧
    (s.reply ph op tag args).board.toHost.getLsbD ph = true ∧
    (s.reply ph op tag args).fw = s.fw ∧
    (s.reply ph op tag args).regs = s.regs

/-- In every state with the main die in service: a slot that a port of the device drives carries the word most
    significant bit first and then 0, a slot that none drives carries 0, or leaves the line at high impedance with
    TRISTATE_UNUSED; FSYNC of I2S is low for the first half of a frame and then high, and that of a TDM pulse is one
    bit clock or one slot long, FSYNC_INV inverting it; a ball of a disabled port is at high impedance with its
    pull-down, and an output ball of a port in IDLE that may drive is low (R306, R307, R310, R318). -/
def Obligations.PortLines : Prop :=
  (∀ (s : State) (w p i j : Nat), s.slotDriver w i = some p → s.apDataLow p = false →
     s.slotBit w i j = .bit (decide (j < wordBits (s.fld p PORT.PORT_CFG_WORD_BITS)) &&
       (unsigned (wordBits (s.fld p PORT.PORT_CFG_WORD_BITS)) ((s.hs p hsOut).getD (s.slotPlace p i) 0)).testBit
         (wordBits (s.fld p PORT.PORT_CFG_WORD_BITS) - 1 - j))) ∧
  (∀ (s : State) (w i j : Nat), s.slotDriver w i = none →
     s.slotBit w i j = if s.flag (s.portLine w) PORT.PORT_CTL_TRISTATE_UNUSED then .floating else .bit false) ∧
  (∀ (s : State) (w k : Nat), s.fld (s.clkPort w) PORT.PORT_CFG_FORMAT = 0 → k < s.frameBits w →
     s.fsyncLevel w k = (decide (s.frameBits w ≤ 2 * k) != s.flag (s.clkPort w) PORT.PORT_CFG_FSYNC_INV)) ∧
  (∀ (s : State) (w k : Nat), 2 ≤ s.fld (s.clkPort w) PORT.PORT_CFG_FORMAT →
     s.fsyncLevel w k = (decide (k < if s.flag (s.clkPort w) PORT.PORT_CFG_FSYNC_WIDTH then
       slotBits (s.fld (s.clkPort w) PORT.PORT_CFG_SLOT_BITS) else 1) != s.flag (s.clkPort w) PORT.PORT_CFG_FSYNC_INV)) ∧
  (∀ (s : State) (w : Nat) (b : PortBall), s.power.die = 0 → s.flag w UCB.UNIT_CTL_ENABLE = false →
     s.portBall w b = .pulledDown) ∧
  (∀ (s : State) (w : Nat) (b : PortBall), s.power.die = 0 → s.present w = true → s.atomState w = stIDLE →
     s.ballLent w b = false → s.ballIsOutput w b = true → s.driveOn w = true → s.portBall w b = .low)
end

