-- ==== Sys2Proof/Laws/Store.lean ====
section
/-! SUPPORT. Sparse stores: read after write, and that every operation keeps the canonical form. -/

namespace Sys2Proof.Machine.Store

variable {α : Type} {d : Nat → α}

@[simp] theorem get_nil (k : Nat) : get d [] k = d k := rfl

theorem get_drop_same (m : Table α) (k : Nat) : get d (drop m k) k = d k := by
  induction m with
  | nil => rfl
  | cons p m ih =>
    obtain ⟨j, v⟩ := p
    by_cases h : j = k
    · simp [drop, h, ih]
    · simp [drop, h, get, ih]

theorem get_drop_ne (m : Table α) {j k : Nat} (h : j ≠ k) : get d (drop m k) j = get d m j := by
  induction m with
  | nil => rfl
  | cons p m ih =>
    obtain ⟨i, v⟩ := p
    by_cases hi : i = k
    · have : i ≠ j := fun e => h (e ▸ hi)
      simp [drop, hi, get, ih, Ne.symm h]
    · by_cases hj : i = j
      · subst hj; simp [drop, hi, get]
      · simp [drop, hi, get, hj, ih]

theorem get_insert_same (m : Table α) (k : Nat) (v : α) (hm : ∀ p ∈ m, p.1 ≠ k) : get d (insert k v m) k = v := by
  induction m with
  | nil => simp [insert, get]
  | cons p m ih =>
    obtain ⟨j, u⟩ := p
    have hj : j ≠ k := hm (j, u) (by simp)
    by_cases h : k < j
    · simp [insert, h, get]
    · simp [insert, h, get, hj, ih (fun q hq => hm q (by simp [hq]))]

theorem get_insert_ne (m : Table α) {j k : Nat} (v : α) (h : j ≠ k) : get d (insert k v m) j = get d m j := by
  induction m with
  | nil => simp [insert, get, Ne.symm h]
  | cons p m ih =>
    obtain ⟨i, u⟩ := p
    by_cases hk : k < i
    · simp [insert, hk, get, Ne.symm h]
    · by_cases hi : i = j
      · subst hi; simp [insert, hk, get]
      · simp [insert, hk, get, hi, ih]

theorem mem_drop (m : Table α) (k : Nat) : ∀ p ∈ drop m k, p.1 ≠ k := by
  induction m with
  | nil => simp [drop]
  | cons q m ih =>
    obtain ⟨j, v⟩ := q
    by_cases h : j = k
    · simpa [drop, h] using ih
    · intro p hp
      simp only [drop, h, if_false, List.mem_cons] at hp
      rcases hp with hp | hp
      · rw [hp]; exact h
      · exact ih p hp

/-- A read after a write to the same key gives the value written. -/
@[simp] theorem get_set_same [DecidableEq α] (m : Table α) (k : Nat) (v : α) : get d (set d m k v) k = v := by
  by_cases h : v = d k
  · simp [set, h, get_drop_same]
  · simp [set, h, get_insert_same _ _ _ (mem_drop m k)]

/-- A write leaves every other key alone. -/
@[simp] theorem get_set_ne [DecidableEq α] (m : Table α) {j k : Nat} (v : α) (h : j ≠ k) :
    get d (set d m k v) j = get d m j := by
  by_cases hv : v = d k
  · simp [set, hv, get_drop_ne _ h]
  · simp [set, hv, get_insert_ne _ _ h, get_drop_ne _ h]

theorem get_set [DecidableEq α] (m : Table α) (j k : Nat) (v : α) :
    get d (set d m k v) j = if j = k then v else get d m j := by
  by_cases h : j = k <;> simp [h]

/-! ## The canonical form -/

theorem wfFrom_mono [DecidableEq α] {lo hi : Nat} {m : Table α} (h : lo ≤ hi) (hm : wfFrom d hi m = true) :
    wfFrom d lo m = true := by
  cases m with
  | nil => rfl
  | cons p m =>
    obtain ⟨j, v⟩ := p
    simp only [wfFrom, Bool.and_eq_true, decide_eq_true_eq] at hm ⊢
    exact ⟨⟨by omega, hm.1.2⟩, hm.2⟩

theorem wfFrom_drop [DecidableEq α] {lo k : Nat} {m : Table α} (hm : wfFrom d lo m = true) :
    wfFrom d lo (drop m k) = true := by
  induction m generalizing lo with
  | nil => rfl
  | cons p m ih =>
    obtain ⟨j, v⟩ := p
    simp only [wfFrom, Bool.and_eq_true, decide_eq_true_eq] at hm
    by_cases h : j = k
    · simp only [drop, h, if_true]
      exact wfFrom_mono (by omega) (ih hm.2)
    · simp only [drop, h, if_false, wfFrom, Bool.and_eq_true, decide_eq_true_eq]
      exact ⟨hm.1, ih hm.2⟩

theorem wfFrom_insert [DecidableEq α] {lo k : Nat} {v : α} {m : Table α} (hk : lo ≤ k) (hv : v ≠ d k)
    (hm : wfFrom d lo m = true) (hn : ∀ p ∈ m, p.1 ≠ k) : wfFrom d lo (insert k v m) = true := by
  induction m generalizing lo with
  | nil => simp [insert, wfFrom, hk, hv]
  | cons p m ih =>
    obtain ⟨j, u⟩ := p
    simp only [wfFrom, Bool.and_eq_true, decide_eq_true_eq] at hm
    have hj : j ≠ k := hn (j, u) (by simp)
    by_cases h : k < j
    · simp only [insert, h, if_true, wfFrom, Bool.and_eq_true, decide_eq_true_eq]
      exact ⟨⟨hk, hv⟩, ⟨⟨by omega, hm.1.2⟩, hm.2⟩⟩
    · simp only [insert, h, if_false, wfFrom, Bool.and_eq_true, decide_eq_true_eq]
      exact ⟨hm.1, ih (by omega) hm.2 (fun q hq => hn q (by simp [hq]))⟩

/-- A write keeps the canonical form. -/
theorem set_wf [DecidableEq α] {m : Table α} (k : Nat) (v : α) (hm : wf d m = true) : wf d (set d m k v) = true := by
  by_cases h : v = d k
  · simp only [set, h, if_true]; exact wfFrom_drop hm
  · simp only [set, h, if_false]
    exact wfFrom_insert (Nat.zero_le k) h (wfFrom_drop hm) (mem_drop m k)

/-- Leaving out entries keeps the canonical form. -/
theorem filter_wfFrom [DecidableEq α] {lo : Nat} (p : Nat × α → Bool) {m : Table α} (hm : wfFrom d lo m = true) :
    wfFrom d lo (m.filter p) = true := by
  induction m generalizing lo with
  | nil => rfl
  | cons q m ih =>
    obtain ⟨j, v⟩ := q
    simp only [wfFrom, Bool.and_eq_true, decide_eq_true_eq] at hm
    by_cases h : p (j, v) = true
    · simp only [List.filter_cons, h, if_true, wfFrom, Bool.and_eq_true, decide_eq_true_eq]
      exact ⟨hm.1, ih hm.2⟩
    · simp only [List.filter_cons, h]
      exact wfFrom_mono (by omega) (ih hm.2)

theorem filter_wf [DecidableEq α] (p : Nat × α → Bool) {m : Table α} (hm : wf d m = true) : wf d (m.filter p) = true :=
  filter_wfFrom p hm

theorem wfFrom_dropRange [DecidableEq α] {lo a b : Nat} {m : Table α} (hm : wfFrom d lo m = true) :
    wfFrom d lo (dropRange a b m) = true := by
  induction m generalizing lo with
  | nil => rfl
  | cons q m ih =>
    obtain ⟨j, v⟩ := q
    simp only [wfFrom, Bool.and_eq_true, decide_eq_true_eq] at hm
    by_cases h : a ≤ j ∧ j < b
    · simp only [dropRange, h, and_self, if_true]
      exact wfFrom_mono (by omega) (ih hm.2)
    · simp only [dropRange, h, if_false, wfFrom, Bool.and_eq_true, decide_eq_true_eq]
      exact ⟨hm.1, ih hm.2⟩

theorem dropRange_wf [DecidableEq α] (a b : Nat) {m : Table α} (hm : wf d m = true) : wf d (dropRange a b m) = true :=
  wfFrom_dropRange hm

theorem wfFrom_of_ge [DecidableEq α] {lo k : Nat} {m : Table α} (hm : wfFrom d lo m = true) (hk : ∀ p ∈ m, k ≤ p.1) :
    wfFrom d k m = true := by
  cases m with
  | nil => rfl
  | cons p m =>
    simp only [wfFrom, Bool.and_eq_true, decide_eq_true_eq] at hm ⊢
    exact ⟨⟨hk p (by simp), hm.1.2⟩, hm.2⟩

theorem wfFrom_append [DecidableEq α] {lo k : Nat} {m n : Table α} (hm : wfFrom d lo m = true) (hk : ∀ p ∈ m, p.1 < k)
    (hlo : lo ≤ k) (hn : wfFrom d k n = true) : wfFrom d lo (m ++ n) = true := by
  induction m generalizing lo with
  | nil => exact wfFrom_mono hlo hn
  | cons p m ih =>
    simp only [List.cons_append, wfFrom, Bool.and_eq_true, decide_eq_true_eq] at hm ⊢
    have := hk p (by simp)
    exact ⟨hm.1, ih hm.2 (fun q hq => hk q (by simp [hq])) (by omega)⟩

/-- The keys of one range moved to another whose defaults are the same. -/
theorem wfFrom_move [DecidableEq α] {lo a b n : Nat} {m : Table α} (hm : wfFrom d lo m = true)
    (hk : ∀ p ∈ m, a ≤ p.1 ∧ p.1 < a + n) (hlo : a ≤ lo) (hd : ∀ i, i < n → d (a + i) = d (b + i)) :
    wfFrom d (lo - a + b) (m.map (fun c => (c.1 - a + b, c.2))) = true := by
  induction m generalizing lo with
  | nil => rfl
  | cons p m ih =>
    simp only [List.map_cons, wfFrom, Bool.and_eq_true, decide_eq_true_eq] at hm ⊢
    obtain ⟨h1, h2⟩ := hk p (by simp)
    have e := hd (p.1 - a) (by omega)
    rw [show a + (p.1 - a) = p.1 by omega, show b + (p.1 - a) = p.1 - a + b by omega] at e
    refine ⟨⟨by omega, e ▸ hm.1.2⟩, ?_⟩
    have := ih hm.2 (fun q hq => hk q (by simp [hq])) (by omega)
    rwa [show p.1 + 1 - a + b = p.1 - a + b + 1 by omega] at this

end Sys2Proof.Machine.Store
end

