-- ==== Sys2Proof/Laws/State.lean ====
section
/-! SUPPORT. What each update of the state leaves alone, field by field, and what it makes of the field it changes. -/

namespace Sys2Proof.Machine

variable (s : State)

@[simp] theorem State.wr_pending (b off : Nat) (v : Word) : (s.wr b off v).pending = s.pending := rfl
@[simp] theorem State.wr_part (b off : Nat) (v : Word) : (s.wr b off v).part = s.part := rfl
@[simp] theorem State.wr_mem (b off : Nat) (v : Word) : (s.wr b off v).mem = s.mem := rfl
@[simp] theorem State.wr_units (b off : Nat) (v : Word) : (s.wr b off v).units = s.units := rfl
@[simp] theorem State.wr_aux (b off : Nat) (v : Word) : (s.wr b off v).aux = s.aux := rfl
@[simp] theorem State.wr_hist (b off : Nat) (v : Word) : (s.wr b off v).hist = s.hist := rfl
@[simp] theorem State.wr_tree (b off : Nat) (v : Word) : (s.wr b off v).tree = s.tree := rfl
@[simp] theorem State.wr_fw (b off : Nat) (v : Word) : (s.wr b off v).fw = s.fw := rfl
@[simp] theorem State.wr_board (b off : Nat) (v : Word) : (s.wr b off v).board = s.board := rfl
@[simp] theorem State.wr_td (b off : Nat) (v : Word) : (s.wr b off v).td = s.td := rfl
@[simp] theorem State.wr_th (b off : Nat) (v : Word) : (s.wr b off v).th = s.th := rfl
@[simp] theorem State.wr_bytes (b off : Nat) (v : Word) : (s.wr b off v).bytes = s.bytes := rfl
@[simp] theorem State.wr_sems (b off : Nat) (v : Word) : (s.wr b off v).sems = s.sems := rfl
@[simp] theorem State.wr_readLatch (b off : Nat) (v : Word) : (s.wr b off v).readLatch = s.readLatch := rfl
@[simp] theorem State.wr_writeLatch (b off : Nat) (v : Word) : (s.wr b off v).writeLatch = s.writeLatch := rfl
@[simp] theorem State.wr_guest (b off : Nat) (v : Word) : (s.wr b off v).guest = s.guest := rfl
@[simp] theorem State.wr_scan (b off : Nat) (v : Word) : (s.wr b off v).scan = s.scan := rfl
@[simp] theorem State.wr_clock (b off : Nat) (v : Word) : (s.wr b off v).clock = s.clock := rfl
@[simp] theorem State.wr_power (b off : Nat) (v : Word) : (s.wr b off v).power = s.power := rfl
@[simp] theorem State.wr_ferry (b off : Nat) (v : Word) : (s.wr b off v).ferry = s.ferry := rfl
@[simp] theorem State.wr_nv (b off : Nat) (v : Word) : (s.wr b off v).nv = s.nv := rfl
@[simp] theorem State.wr_signboard (b off : Nat) (v : Word) : (s.wr b off v).signboard = s.signboard := rfl
@[simp] theorem State.wr_signboardGen (b off : Nat) (v : Word) : (s.wr b off v).signboardGen = s.signboardGen := rfl
@[simp] theorem State.wr_answer (b off : Nat) (v : Word) : (s.wr b off v).answer = s.answer := rfl
@[simp] theorem State.wr_fresh (b off : Nat) (v : Word) : (s.wr b off v).fresh = s.fresh := rfl

@[simp] theorem State.put_pending (b : Nat) (r : FRef) (v : Nat) : (s.put b r v).pending = s.pending := rfl
@[simp] theorem State.put_part (b : Nat) (r : FRef) (v : Nat) : (s.put b r v).part = s.part := rfl
@[simp] theorem State.put_mem (b : Nat) (r : FRef) (v : Nat) : (s.put b r v).mem = s.mem := rfl
@[simp] theorem State.put_units (b : Nat) (r : FRef) (v : Nat) : (s.put b r v).units = s.units := rfl
@[simp] theorem State.put_aux (b : Nat) (r : FRef) (v : Nat) : (s.put b r v).aux = s.aux := rfl
@[simp] theorem State.put_hist (b : Nat) (r : FRef) (v : Nat) : (s.put b r v).hist = s.hist := rfl
@[simp] theorem State.put_tree (b : Nat) (r : FRef) (v : Nat) : (s.put b r v).tree = s.tree := rfl
@[simp] theorem State.put_fw (b : Nat) (r : FRef) (v : Nat) : (s.put b r v).fw = s.fw := rfl
@[simp] theorem State.put_board (b : Nat) (r : FRef) (v : Nat) : (s.put b r v).board = s.board := rfl
@[simp] theorem State.put_td (b : Nat) (r : FRef) (v : Nat) : (s.put b r v).td = s.td := rfl
@[simp] theorem State.put_th (b : Nat) (r : FRef) (v : Nat) : (s.put b r v).th = s.th := rfl
@[simp] theorem State.put_bytes (b : Nat) (r : FRef) (v : Nat) : (s.put b r v).bytes = s.bytes := rfl
@[simp] theorem State.put_sems (b : Nat) (r : FRef) (v : Nat) : (s.put b r v).sems = s.sems := rfl
@[simp] theorem State.put_readLatch (b : Nat) (r : FRef) (v : Nat) : (s.put b r v).readLatch = s.readLatch := rfl
@[simp] theorem State.put_writeLatch (b : Nat) (r : FRef) (v : Nat) : (s.put b r v).writeLatch = s.writeLatch := rfl
@[simp] theorem State.put_guest (b : Nat) (r : FRef) (v : Nat) : (s.put b r v).guest = s.guest := rfl
@[simp] theorem State.put_scan (b : Nat) (r : FRef) (v : Nat) : (s.put b r v).scan = s.scan := rfl
@[simp] theorem State.put_clock (b : Nat) (r : FRef) (v : Nat) : (s.put b r v).clock = s.clock := rfl
@[simp] theorem State.put_power (b : Nat) (r : FRef) (v : Nat) : (s.put b r v).power = s.power := rfl
@[simp] theorem State.put_ferry (b : Nat) (r : FRef) (v : Nat) : (s.put b r v).ferry = s.ferry := rfl
@[simp] theorem State.put_nv (b : Nat) (r : FRef) (v : Nat) : (s.put b r v).nv = s.nv := rfl
@[simp] theorem State.put_signboard (b : Nat) (r : FRef) (v : Nat) : (s.put b r v).signboard = s.signboard := rfl
@[simp] theorem State.put_signboardGen (b : Nat) (r : FRef) (v : Nat) : (s.put b r v).signboardGen = s.signboardGen := rfl
@[simp] theorem State.put_answer (b : Nat) (r : FRef) (v : Nat) : (s.put b r v).answer = s.answer := rfl
@[simp] theorem State.put_fresh (b : Nat) (r : FRef) (v : Nat) : (s.put b r v).fresh = s.fresh := rfl

@[simp] theorem State.putB_pending (b : Nat) (r : FRef) (v : Bool) : (s.putB b r v).pending = s.pending := rfl
@[simp] theorem State.putB_part (b : Nat) (r : FRef) (v : Bool) : (s.putB b r v).part = s.part := rfl
@[simp] theorem State.putB_mem (b : Nat) (r : FRef) (v : Bool) : (s.putB b r v).mem = s.mem := rfl
@[simp] theorem State.putB_units (b : Nat) (r : FRef) (v : Bool) : (s.putB b r v).units = s.units := rfl
@[simp] theorem State.putB_aux (b : Nat) (r : FRef) (v : Bool) : (s.putB b r v).aux = s.aux := rfl
@[simp] theorem State.putB_hist (b : Nat) (r : FRef) (v : Bool) : (s.putB b r v).hist = s.hist := rfl
@[simp] theorem State.putB_tree (b : Nat) (r : FRef) (v : Bool) : (s.putB b r v).tree = s.tree := rfl
@[simp] theorem State.putB_fw (b : Nat) (r : FRef) (v : Bool) : (s.putB b r v).fw = s.fw := rfl
@[simp] theorem State.putB_board (b : Nat) (r : FRef) (v : Bool) : (s.putB b r v).board = s.board := rfl
@[simp] theorem State.putB_td (b : Nat) (r : FRef) (v : Bool) : (s.putB b r v).td = s.td := rfl
@[simp] theorem State.putB_th (b : Nat) (r : FRef) (v : Bool) : (s.putB b r v).th = s.th := rfl
@[simp] theorem State.putB_bytes (b : Nat) (r : FRef) (v : Bool) : (s.putB b r v).bytes = s.bytes := rfl
@[simp] theorem State.putB_sems (b : Nat) (r : FRef) (v : Bool) : (s.putB b r v).sems = s.sems := rfl
@[simp] theorem State.putB_readLatch (b : Nat) (r : FRef) (v : Bool) : (s.putB b r v).readLatch = s.readLatch := rfl
@[simp] theorem State.putB_writeLatch (b : Nat) (r : FRef) (v : Bool) : (s.putB b r v).writeLatch = s.writeLatch := rfl
@[simp] theorem State.putB_guest (b : Nat) (r : FRef) (v : Bool) : (s.putB b r v).guest = s.guest := rfl
@[simp] theorem State.putB_scan (b : Nat) (r : FRef) (v : Bool) : (s.putB b r v).scan = s.scan := rfl
@[simp] theorem State.putB_clock (b : Nat) (r : FRef) (v : Bool) : (s.putB b r v).clock = s.clock := rfl
@[simp] theorem State.putB_power (b : Nat) (r : FRef) (v : Bool) : (s.putB b r v).power = s.power := rfl
@[simp] theorem State.putB_ferry (b : Nat) (r : FRef) (v : Bool) : (s.putB b r v).ferry = s.ferry := rfl
@[simp] theorem State.putB_nv (b : Nat) (r : FRef) (v : Bool) : (s.putB b r v).nv = s.nv := rfl
@[simp] theorem State.putB_signboard (b : Nat) (r : FRef) (v : Bool) : (s.putB b r v).signboard = s.signboard := rfl
@[simp] theorem State.putB_signboardGen (b : Nat) (r : FRef) (v : Bool) : (s.putB b r v).signboardGen = s.signboardGen := rfl
@[simp] theorem State.putB_answer (b : Nat) (r : FRef) (v : Bool) : (s.putB b r v).answer = s.answer := rfl
@[simp] theorem State.putB_fresh (b : Nat) (r : FRef) (v : Bool) : (s.putB b r v).fresh = s.fresh := rfl

@[simp] theorem State.putI_pending (b : Nat) (r : FRef) (v : Int) : (s.putI b r v).pending = s.pending := rfl
@[simp] theorem State.putI_part (b : Nat) (r : FRef) (v : Int) : (s.putI b r v).part = s.part := rfl
@[simp] theorem State.putI_mem (b : Nat) (r : FRef) (v : Int) : (s.putI b r v).mem = s.mem := rfl
@[simp] theorem State.putI_units (b : Nat) (r : FRef) (v : Int) : (s.putI b r v).units = s.units := rfl
@[simp] theorem State.putI_aux (b : Nat) (r : FRef) (v : Int) : (s.putI b r v).aux = s.aux := rfl
@[simp] theorem State.putI_hist (b : Nat) (r : FRef) (v : Int) : (s.putI b r v).hist = s.hist := rfl
@[simp] theorem State.putI_tree (b : Nat) (r : FRef) (v : Int) : (s.putI b r v).tree = s.tree := rfl
@[simp] theorem State.putI_fw (b : Nat) (r : FRef) (v : Int) : (s.putI b r v).fw = s.fw := rfl
@[simp] theorem State.putI_board (b : Nat) (r : FRef) (v : Int) : (s.putI b r v).board = s.board := rfl
@[simp] theorem State.putI_td (b : Nat) (r : FRef) (v : Int) : (s.putI b r v).td = s.td := rfl
@[simp] theorem State.putI_th (b : Nat) (r : FRef) (v : Int) : (s.putI b r v).th = s.th := rfl
@[simp] theorem State.putI_bytes (b : Nat) (r : FRef) (v : Int) : (s.putI b r v).bytes = s.bytes := rfl
@[simp] theorem State.putI_sems (b : Nat) (r : FRef) (v : Int) : (s.putI b r v).sems = s.sems := rfl
@[simp] theorem State.putI_readLatch (b : Nat) (r : FRef) (v : Int) : (s.putI b r v).readLatch = s.readLatch := rfl
@[simp] theorem State.putI_writeLatch (b : Nat) (r : FRef) (v : Int) : (s.putI b r v).writeLatch = s.writeLatch := rfl
@[simp] theorem State.putI_guest (b : Nat) (r : FRef) (v : Int) : (s.putI b r v).guest = s.guest := rfl
@[simp] theorem State.putI_scan (b : Nat) (r : FRef) (v : Int) : (s.putI b r v).scan = s.scan := rfl
@[simp] theorem State.putI_clock (b : Nat) (r : FRef) (v : Int) : (s.putI b r v).clock = s.clock := rfl
@[simp] theorem State.putI_power (b : Nat) (r : FRef) (v : Int) : (s.putI b r v).power = s.power := rfl
@[simp] theorem State.putI_ferry (b : Nat) (r : FRef) (v : Int) : (s.putI b r v).ferry = s.ferry := rfl
@[simp] theorem State.putI_nv (b : Nat) (r : FRef) (v : Int) : (s.putI b r v).nv = s.nv := rfl
@[simp] theorem State.putI_signboard (b : Nat) (r : FRef) (v : Int) : (s.putI b r v).signboard = s.signboard := rfl
@[simp] theorem State.putI_signboardGen (b : Nat) (r : FRef) (v : Int) : (s.putI b r v).signboardGen = s.signboardGen := rfl
@[simp] theorem State.putI_answer (b : Nat) (r : FRef) (v : Int) : (s.putI b r v).answer = s.answer := rfl
@[simp] theorem State.putI_fresh (b : Nat) (r : FRef) (v : Int) : (s.putI b r v).fresh = s.fresh := rfl

@[simp] theorem State.setUnit_pending (w : Nat) (x : UnitX) : (s.setUnit w x).pending = s.pending := rfl
@[simp] theorem State.setUnit_part (w : Nat) (x : UnitX) : (s.setUnit w x).part = s.part := rfl
@[simp] theorem State.setUnit_regs (w : Nat) (x : UnitX) : (s.setUnit w x).regs = s.regs := rfl
@[simp] theorem State.setUnit_mem (w : Nat) (x : UnitX) : (s.setUnit w x).mem = s.mem := rfl
@[simp] theorem State.setUnit_aux (w : Nat) (x : UnitX) : (s.setUnit w x).aux = s.aux := rfl
@[simp] theorem State.setUnit_hist (w : Nat) (x : UnitX) : (s.setUnit w x).hist = s.hist := rfl
@[simp] theorem State.setUnit_tree (w : Nat) (x : UnitX) : (s.setUnit w x).tree = s.tree := rfl
@[simp] theorem State.setUnit_fw (w : Nat) (x : UnitX) : (s.setUnit w x).fw = s.fw := rfl
@[simp] theorem State.setUnit_board (w : Nat) (x : UnitX) : (s.setUnit w x).board = s.board := rfl
@[simp] theorem State.setUnit_td (w : Nat) (x : UnitX) : (s.setUnit w x).td = s.td := rfl
@[simp] theorem State.setUnit_th (w : Nat) (x : UnitX) : (s.setUnit w x).th = s.th := rfl
@[simp] theorem State.setUnit_bytes (w : Nat) (x : UnitX) : (s.setUnit w x).bytes = s.bytes := rfl
@[simp] theorem State.setUnit_sems (w : Nat) (x : UnitX) : (s.setUnit w x).sems = s.sems := rfl
@[simp] theorem State.setUnit_readLatch (w : Nat) (x : UnitX) : (s.setUnit w x).readLatch = s.readLatch := rfl
@[simp] theorem State.setUnit_writeLatch (w : Nat) (x : UnitX) : (s.setUnit w x).writeLatch = s.writeLatch := rfl
@[simp] theorem State.setUnit_guest (w : Nat) (x : UnitX) : (s.setUnit w x).guest = s.guest := rfl
@[simp] theorem State.setUnit_scan (w : Nat) (x : UnitX) : (s.setUnit w x).scan = s.scan := rfl
@[simp] theorem State.setUnit_clock (w : Nat) (x : UnitX) : (s.setUnit w x).clock = s.clock := rfl
@[simp] theorem State.setUnit_power (w : Nat) (x : UnitX) : (s.setUnit w x).power = s.power := rfl
@[simp] theorem State.setUnit_ferry (w : Nat) (x : UnitX) : (s.setUnit w x).ferry = s.ferry := rfl
@[simp] theorem State.setUnit_nv (w : Nat) (x : UnitX) : (s.setUnit w x).nv = s.nv := rfl
@[simp] theorem State.setUnit_signboard (w : Nat) (x : UnitX) : (s.setUnit w x).signboard = s.signboard := rfl
@[simp] theorem State.setUnit_signboardGen (w : Nat) (x : UnitX) : (s.setUnit w x).signboardGen = s.signboardGen := rfl
@[simp] theorem State.setUnit_answer (w : Nat) (x : UnitX) : (s.setUnit w x).answer = s.answer := rfl
@[simp] theorem State.setUnit_fresh (w : Nat) (x : UnitX) : (s.setUnit w x).fresh = s.fresh := rfl

@[simp] theorem State.setAx_pending (w i v : Nat) : (s.setAx w i v).pending = s.pending := rfl
@[simp] theorem State.setAx_part (w i v : Nat) : (s.setAx w i v).part = s.part := rfl
@[simp] theorem State.setAx_regs (w i v : Nat) : (s.setAx w i v).regs = s.regs := rfl
@[simp] theorem State.setAx_mem (w i v : Nat) : (s.setAx w i v).mem = s.mem := rfl
@[simp] theorem State.setAx_units (w i v : Nat) : (s.setAx w i v).units = s.units := rfl
@[simp] theorem State.setAx_hist (w i v : Nat) : (s.setAx w i v).hist = s.hist := rfl
@[simp] theorem State.setAx_tree (w i v : Nat) : (s.setAx w i v).tree = s.tree := rfl
@[simp] theorem State.setAx_fw (w i v : Nat) : (s.setAx w i v).fw = s.fw := rfl
@[simp] theorem State.setAx_board (w i v : Nat) : (s.setAx w i v).board = s.board := rfl
@[simp] theorem State.setAx_td (w i v : Nat) : (s.setAx w i v).td = s.td := rfl
@[simp] theorem State.setAx_th (w i v : Nat) : (s.setAx w i v).th = s.th := rfl
@[simp] theorem State.setAx_bytes (w i v : Nat) : (s.setAx w i v).bytes = s.bytes := rfl
@[simp] theorem State.setAx_sems (w i v : Nat) : (s.setAx w i v).sems = s.sems := rfl
@[simp] theorem State.setAx_readLatch (w i v : Nat) : (s.setAx w i v).readLatch = s.readLatch := rfl
@[simp] theorem State.setAx_writeLatch (w i v : Nat) : (s.setAx w i v).writeLatch = s.writeLatch := rfl
@[simp] theorem State.setAx_guest (w i v : Nat) : (s.setAx w i v).guest = s.guest := rfl
@[simp] theorem State.setAx_scan (w i v : Nat) : (s.setAx w i v).scan = s.scan := rfl
@[simp] theorem State.setAx_clock (w i v : Nat) : (s.setAx w i v).clock = s.clock := rfl
@[simp] theorem State.setAx_power (w i v : Nat) : (s.setAx w i v).power = s.power := rfl
@[simp] theorem State.setAx_ferry (w i v : Nat) : (s.setAx w i v).ferry = s.ferry := rfl
@[simp] theorem State.setAx_nv (w i v : Nat) : (s.setAx w i v).nv = s.nv := rfl
@[simp] theorem State.setAx_signboard (w i v : Nat) : (s.setAx w i v).signboard = s.signboard := rfl
@[simp] theorem State.setAx_signboardGen (w i v : Nat) : (s.setAx w i v).signboardGen = s.signboardGen := rfl
@[simp] theorem State.setAx_answer (w i v : Nat) : (s.setAx w i v).answer = s.answer := rfl
@[simp] theorem State.setAx_fresh (w i v : Nat) : (s.setAx w i v).fresh = s.fresh := rfl

@[simp] theorem State.setHs_pending (w i : Nat) (v : List Int) : (s.setHs w i v).pending = s.pending := rfl
@[simp] theorem State.setHs_part (w i : Nat) (v : List Int) : (s.setHs w i v).part = s.part := rfl
@[simp] theorem State.setHs_regs (w i : Nat) (v : List Int) : (s.setHs w i v).regs = s.regs := rfl
@[simp] theorem State.setHs_mem (w i : Nat) (v : List Int) : (s.setHs w i v).mem = s.mem := rfl
@[simp] theorem State.setHs_units (w i : Nat) (v : List Int) : (s.setHs w i v).units = s.units := rfl
@[simp] theorem State.setHs_aux (w i : Nat) (v : List Int) : (s.setHs w i v).aux = s.aux := rfl
@[simp] theorem State.setHs_tree (w i : Nat) (v : List Int) : (s.setHs w i v).tree = s.tree := rfl
@[simp] theorem State.setHs_fw (w i : Nat) (v : List Int) : (s.setHs w i v).fw = s.fw := rfl
@[simp] theorem State.setHs_board (w i : Nat) (v : List Int) : (s.setHs w i v).board = s.board := rfl
@[simp] theorem State.setHs_td (w i : Nat) (v : List Int) : (s.setHs w i v).td = s.td := rfl
@[simp] theorem State.setHs_th (w i : Nat) (v : List Int) : (s.setHs w i v).th = s.th := rfl
@[simp] theorem State.setHs_bytes (w i : Nat) (v : List Int) : (s.setHs w i v).bytes = s.bytes := rfl
@[simp] theorem State.setHs_sems (w i : Nat) (v : List Int) : (s.setHs w i v).sems = s.sems := rfl
@[simp] theorem State.setHs_readLatch (w i : Nat) (v : List Int) : (s.setHs w i v).readLatch = s.readLatch := rfl
@[simp] theorem State.setHs_writeLatch (w i : Nat) (v : List Int) : (s.setHs w i v).writeLatch = s.writeLatch := rfl
@[simp] theorem State.setHs_guest (w i : Nat) (v : List Int) : (s.setHs w i v).guest = s.guest := rfl
@[simp] theorem State.setHs_scan (w i : Nat) (v : List Int) : (s.setHs w i v).scan = s.scan := rfl
@[simp] theorem State.setHs_clock (w i : Nat) (v : List Int) : (s.setHs w i v).clock = s.clock := rfl
@[simp] theorem State.setHs_power (w i : Nat) (v : List Int) : (s.setHs w i v).power = s.power := rfl
@[simp] theorem State.setHs_ferry (w i : Nat) (v : List Int) : (s.setHs w i v).ferry = s.ferry := rfl
@[simp] theorem State.setHs_nv (w i : Nat) (v : List Int) : (s.setHs w i v).nv = s.nv := rfl
@[simp] theorem State.setHs_signboard (w i : Nat) (v : List Int) : (s.setHs w i v).signboard = s.signboard := rfl
@[simp] theorem State.setHs_signboardGen (w i : Nat) (v : List Int) : (s.setHs w i v).signboardGen = s.signboardGen := rfl
@[simp] theorem State.setHs_answer (w i : Nat) (v : List Int) : (s.setHs w i v).answer = s.answer := rfl
@[simp] theorem State.setHs_fresh (w i : Nat) (v : List Int) : (s.setHs w i v).fresh = s.fresh := rfl

@[simp] theorem State.setBl_pending (k : Nat) (v : List Nat) : (s.setBl k v).pending = s.pending := rfl
@[simp] theorem State.setBl_part (k : Nat) (v : List Nat) : (s.setBl k v).part = s.part := rfl
@[simp] theorem State.setBl_regs (k : Nat) (v : List Nat) : (s.setBl k v).regs = s.regs := rfl
@[simp] theorem State.setBl_mem (k : Nat) (v : List Nat) : (s.setBl k v).mem = s.mem := rfl
@[simp] theorem State.setBl_units (k : Nat) (v : List Nat) : (s.setBl k v).units = s.units := rfl
@[simp] theorem State.setBl_aux (k : Nat) (v : List Nat) : (s.setBl k v).aux = s.aux := rfl
@[simp] theorem State.setBl_hist (k : Nat) (v : List Nat) : (s.setBl k v).hist = s.hist := rfl
@[simp] theorem State.setBl_tree (k : Nat) (v : List Nat) : (s.setBl k v).tree = s.tree := rfl
@[simp] theorem State.setBl_fw (k : Nat) (v : List Nat) : (s.setBl k v).fw = s.fw := rfl
@[simp] theorem State.setBl_board (k : Nat) (v : List Nat) : (s.setBl k v).board = s.board := rfl
@[simp] theorem State.setBl_td (k : Nat) (v : List Nat) : (s.setBl k v).td = s.td := rfl
@[simp] theorem State.setBl_th (k : Nat) (v : List Nat) : (s.setBl k v).th = s.th := rfl
@[simp] theorem State.setBl_sems (k : Nat) (v : List Nat) : (s.setBl k v).sems = s.sems := rfl
@[simp] theorem State.setBl_readLatch (k : Nat) (v : List Nat) : (s.setBl k v).readLatch = s.readLatch := rfl
@[simp] theorem State.setBl_writeLatch (k : Nat) (v : List Nat) : (s.setBl k v).writeLatch = s.writeLatch := rfl
@[simp] theorem State.setBl_guest (k : Nat) (v : List Nat) : (s.setBl k v).guest = s.guest := rfl
@[simp] theorem State.setBl_scan (k : Nat) (v : List Nat) : (s.setBl k v).scan = s.scan := rfl
@[simp] theorem State.setBl_clock (k : Nat) (v : List Nat) : (s.setBl k v).clock = s.clock := rfl
@[simp] theorem State.setBl_power (k : Nat) (v : List Nat) : (s.setBl k v).power = s.power := rfl
@[simp] theorem State.setBl_ferry (k : Nat) (v : List Nat) : (s.setBl k v).ferry = s.ferry := rfl
@[simp] theorem State.setBl_nv (k : Nat) (v : List Nat) : (s.setBl k v).nv = s.nv := rfl
@[simp] theorem State.setBl_signboard (k : Nat) (v : List Nat) : (s.setBl k v).signboard = s.signboard := rfl
@[simp] theorem State.setBl_signboardGen (k : Nat) (v : List Nat) : (s.setBl k v).signboardGen = s.signboardGen := rfl
@[simp] theorem State.setBl_answer (k : Nat) (v : List Nat) : (s.setBl k v).answer = s.answer := rfl
@[simp] theorem State.setBl_fresh (k : Nat) (v : List Nat) : (s.setBl k v).fresh = s.fresh := rfl

@[simp] theorem State.wrByte_pending (a : Nat) (v : Byte) : (s.wrByte a v).pending = s.pending := rfl
@[simp] theorem State.wrByte_part (a : Nat) (v : Byte) : (s.wrByte a v).part = s.part := rfl
@[simp] theorem State.wrByte_regs (a : Nat) (v : Byte) : (s.wrByte a v).regs = s.regs := rfl
@[simp] theorem State.wrByte_units (a : Nat) (v : Byte) : (s.wrByte a v).units = s.units := rfl
@[simp] theorem State.wrByte_aux (a : Nat) (v : Byte) : (s.wrByte a v).aux = s.aux := rfl
@[simp] theorem State.wrByte_hist (a : Nat) (v : Byte) : (s.wrByte a v).hist = s.hist := rfl
@[simp] theorem State.wrByte_tree (a : Nat) (v : Byte) : (s.wrByte a v).tree = s.tree := rfl
@[simp] theorem State.wrByte_fw (a : Nat) (v : Byte) : (s.wrByte a v).fw = s.fw := rfl
@[simp] theorem State.wrByte_board (a : Nat) (v : Byte) : (s.wrByte a v).board = s.board := rfl
@[simp] theorem State.wrByte_td (a : Nat) (v : Byte) : (s.wrByte a v).td = s.td := rfl
@[simp] theorem State.wrByte_th (a : Nat) (v : Byte) : (s.wrByte a v).th = s.th := rfl
@[simp] theorem State.wrByte_bytes (a : Nat) (v : Byte) : (s.wrByte a v).bytes = s.bytes := rfl
@[simp] theorem State.wrByte_sems (a : Nat) (v : Byte) : (s.wrByte a v).sems = s.sems := rfl
@[simp] theorem State.wrByte_readLatch (a : Nat) (v : Byte) : (s.wrByte a v).readLatch = s.readLatch := rfl
@[simp] theorem State.wrByte_writeLatch (a : Nat) (v : Byte) : (s.wrByte a v).writeLatch = s.writeLatch := rfl
@[simp] theorem State.wrByte_guest (a : Nat) (v : Byte) : (s.wrByte a v).guest = s.guest := rfl
@[simp] theorem State.wrByte_scan (a : Nat) (v : Byte) : (s.wrByte a v).scan = s.scan := rfl
@[simp] theorem State.wrByte_clock (a : Nat) (v : Byte) : (s.wrByte a v).clock = s.clock := rfl
@[simp] theorem State.wrByte_power (a : Nat) (v : Byte) : (s.wrByte a v).power = s.power := rfl
@[simp] theorem State.wrByte_ferry (a : Nat) (v : Byte) : (s.wrByte a v).ferry = s.ferry := rfl
@[simp] theorem State.wrByte_nv (a : Nat) (v : Byte) : (s.wrByte a v).nv = s.nv := rfl
@[simp] theorem State.wrByte_signboard (a : Nat) (v : Byte) : (s.wrByte a v).signboard = s.signboard := rfl
@[simp] theorem State.wrByte_signboardGen (a : Nat) (v : Byte) : (s.wrByte a v).signboardGen = s.signboardGen := rfl
@[simp] theorem State.wrByte_answer (a : Nat) (v : Byte) : (s.wrByte a v).answer = s.answer := rfl
@[simp] theorem State.wrByte_fresh (a : Nat) (v : Byte) : (s.wrByte a v).fresh = s.fresh := rfl

@[simp] theorem State.setParent_pending (w p : Nat) : (s.setParent w p).pending = s.pending := rfl
@[simp] theorem State.setParent_part (w p : Nat) : (s.setParent w p).part = s.part := rfl
@[simp] theorem State.setParent_regs (w p : Nat) : (s.setParent w p).regs = s.regs := rfl
@[simp] theorem State.setParent_mem (w p : Nat) : (s.setParent w p).mem = s.mem := rfl
@[simp] theorem State.setParent_units (w p : Nat) : (s.setParent w p).units = s.units := rfl
@[simp] theorem State.setParent_aux (w p : Nat) : (s.setParent w p).aux = s.aux := rfl
@[simp] theorem State.setParent_hist (w p : Nat) : (s.setParent w p).hist = s.hist := rfl
@[simp] theorem State.setParent_fw (w p : Nat) : (s.setParent w p).fw = s.fw := rfl
@[simp] theorem State.setParent_board (w p : Nat) : (s.setParent w p).board = s.board := rfl
@[simp] theorem State.setParent_td (w p : Nat) : (s.setParent w p).td = s.td := rfl
@[simp] theorem State.setParent_th (w p : Nat) : (s.setParent w p).th = s.th := rfl
@[simp] theorem State.setParent_bytes (w p : Nat) : (s.setParent w p).bytes = s.bytes := rfl
@[simp] theorem State.setParent_sems (w p : Nat) : (s.setParent w p).sems = s.sems := rfl
@[simp] theorem State.setParent_readLatch (w p : Nat) : (s.setParent w p).readLatch = s.readLatch := rfl
@[simp] theorem State.setParent_writeLatch (w p : Nat) : (s.setParent w p).writeLatch = s.writeLatch := rfl
@[simp] theorem State.setParent_guest (w p : Nat) : (s.setParent w p).guest = s.guest := rfl
@[simp] theorem State.setParent_scan (w p : Nat) : (s.setParent w p).scan = s.scan := rfl
@[simp] theorem State.setParent_clock (w p : Nat) : (s.setParent w p).clock = s.clock := rfl
@[simp] theorem State.setParent_power (w p : Nat) : (s.setParent w p).power = s.power := rfl
@[simp] theorem State.setParent_ferry (w p : Nat) : (s.setParent w p).ferry = s.ferry := rfl
@[simp] theorem State.setParent_nv (w p : Nat) : (s.setParent w p).nv = s.nv := rfl
@[simp] theorem State.setParent_signboard (w p : Nat) : (s.setParent w p).signboard = s.signboard := rfl
@[simp] theorem State.setParent_signboardGen (w p : Nat) : (s.setParent w p).signboardGen = s.signboardGen := rfl
@[simp] theorem State.setParent_answer (w p : Nat) : (s.setParent w p).answer = s.answer := rfl
@[simp] theorem State.setParent_fresh (w p : Nat) : (s.setParent w p).fresh = s.fresh := rfl

@[simp] theorem State.sendFrame_pending (f : FrameX) : (s.sendFrame f).pending = s.pending := rfl
@[simp] theorem State.sendFrame_part (f : FrameX) : (s.sendFrame f).part = s.part := rfl
@[simp] theorem State.sendFrame_regs (f : FrameX) : (s.sendFrame f).regs = s.regs := rfl
@[simp] theorem State.sendFrame_mem (f : FrameX) : (s.sendFrame f).mem = s.mem := rfl
@[simp] theorem State.sendFrame_units (f : FrameX) : (s.sendFrame f).units = s.units := rfl
@[simp] theorem State.sendFrame_aux (f : FrameX) : (s.sendFrame f).aux = s.aux := rfl
@[simp] theorem State.sendFrame_hist (f : FrameX) : (s.sendFrame f).hist = s.hist := rfl
@[simp] theorem State.sendFrame_tree (f : FrameX) : (s.sendFrame f).tree = s.tree := rfl
@[simp] theorem State.sendFrame_fw (f : FrameX) : (s.sendFrame f).fw = s.fw := rfl
@[simp] theorem State.sendFrame_board (f : FrameX) : (s.sendFrame f).board = s.board := rfl
@[simp] theorem State.sendFrame_td (f : FrameX) : (s.sendFrame f).td = s.td := rfl
@[simp] theorem State.sendFrame_th (f : FrameX) : (s.sendFrame f).th = s.th := rfl
@[simp] theorem State.sendFrame_bytes (f : FrameX) : (s.sendFrame f).bytes = s.bytes := rfl
@[simp] theorem State.sendFrame_sems (f : FrameX) : (s.sendFrame f).sems = s.sems := rfl
@[simp] theorem State.sendFrame_readLatch (f : FrameX) : (s.sendFrame f).readLatch = s.readLatch := rfl
@[simp] theorem State.sendFrame_writeLatch (f : FrameX) : (s.sendFrame f).writeLatch = s.writeLatch := rfl
@[simp] theorem State.sendFrame_guest (f : FrameX) : (s.sendFrame f).guest = s.guest := rfl
@[simp] theorem State.sendFrame_scan (f : FrameX) : (s.sendFrame f).scan = s.scan := rfl
@[simp] theorem State.sendFrame_clock (f : FrameX) : (s.sendFrame f).clock = s.clock := rfl
@[simp] theorem State.sendFrame_power (f : FrameX) : (s.sendFrame f).power = s.power := rfl
@[simp] theorem State.sendFrame_nv (f : FrameX) : (s.sendFrame f).nv = s.nv := rfl
@[simp] theorem State.sendFrame_signboard (f : FrameX) : (s.sendFrame f).signboard = s.signboard := rfl
@[simp] theorem State.sendFrame_signboardGen (f : FrameX) : (s.sendFrame f).signboardGen = s.signboardGen := rfl
@[simp] theorem State.sendFrame_answer (f : FrameX) : (s.sendFrame f).answer = s.answer := rfl
@[simp] theorem State.sendFrame_fresh (f : FrameX) : (s.sendFrame f).fresh = s.fresh := rfl

@[simp] theorem State.setSem_pending (n o : Nat) : (s.setSem n o).pending = s.pending := rfl
@[simp] theorem State.setSem_part (n o : Nat) : (s.setSem n o).part = s.part := rfl
@[simp] theorem State.setSem_regs (n o : Nat) : (s.setSem n o).regs = s.regs := rfl
@[simp] theorem State.setSem_mem (n o : Nat) : (s.setSem n o).mem = s.mem := rfl
@[simp] theorem State.setSem_units (n o : Nat) : (s.setSem n o).units = s.units := rfl
@[simp] theorem State.setSem_aux (n o : Nat) : (s.setSem n o).aux = s.aux := rfl
@[simp] theorem State.setSem_hist (n o : Nat) : (s.setSem n o).hist = s.hist := rfl
@[simp] theorem State.setSem_tree (n o : Nat) : (s.setSem n o).tree = s.tree := rfl
@[simp] theorem State.setSem_fw (n o : Nat) : (s.setSem n o).fw = s.fw := rfl
@[simp] theorem State.setSem_board (n o : Nat) : (s.setSem n o).board = s.board := rfl
@[simp] theorem State.setSem_td (n o : Nat) : (s.setSem n o).td = s.td := rfl
@[simp] theorem State.setSem_th (n o : Nat) : (s.setSem n o).th = s.th := rfl
@[simp] theorem State.setSem_bytes (n o : Nat) : (s.setSem n o).bytes = s.bytes := rfl
@[simp] theorem State.setSem_readLatch (n o : Nat) : (s.setSem n o).readLatch = s.readLatch := rfl
@[simp] theorem State.setSem_writeLatch (n o : Nat) : (s.setSem n o).writeLatch = s.writeLatch := rfl
@[simp] theorem State.setSem_guest (n o : Nat) : (s.setSem n o).guest = s.guest := rfl
@[simp] theorem State.setSem_scan (n o : Nat) : (s.setSem n o).scan = s.scan := rfl
@[simp] theorem State.setSem_clock (n o : Nat) : (s.setSem n o).clock = s.clock := rfl
@[simp] theorem State.setSem_power (n o : Nat) : (s.setSem n o).power = s.power := rfl
@[simp] theorem State.setSem_ferry (n o : Nat) : (s.setSem n o).ferry = s.ferry := rfl
@[simp] theorem State.setSem_nv (n o : Nat) : (s.setSem n o).nv = s.nv := rfl
@[simp] theorem State.setSem_signboard (n o : Nat) : (s.setSem n o).signboard = s.signboard := rfl
@[simp] theorem State.setSem_signboardGen (n o : Nat) : (s.setSem n o).signboardGen = s.signboardGen := rfl
@[simp] theorem State.setSem_answer (n o : Nat) : (s.setSem n o).answer = s.answer := rfl
@[simp] theorem State.setSem_fresh (n o : Nat) : (s.setSem n o).fresh = s.fresh := rfl

@[simp] theorem State.setLatch_pending (m b off : Nat) (v : Word) : (s.setLatch m b off v).pending = s.pending := rfl
@[simp] theorem State.setLatch_part (m b off : Nat) (v : Word) : (s.setLatch m b off v).part = s.part := rfl
@[simp] theorem State.setLatch_regs (m b off : Nat) (v : Word) : (s.setLatch m b off v).regs = s.regs := rfl
@[simp] theorem State.setLatch_mem (m b off : Nat) (v : Word) : (s.setLatch m b off v).mem = s.mem := rfl
@[simp] theorem State.setLatch_units (m b off : Nat) (v : Word) : (s.setLatch m b off v).units = s.units := rfl
@[simp] theorem State.setLatch_aux (m b off : Nat) (v : Word) : (s.setLatch m b off v).aux = s.aux := rfl
@[simp] theorem State.setLatch_hist (m b off : Nat) (v : Word) : (s.setLatch m b off v).hist = s.hist := rfl
@[simp] theorem State.setLatch_tree (m b off : Nat) (v : Word) : (s.setLatch m b off v).tree = s.tree := rfl
@[simp] theorem State.setLatch_fw (m b off : Nat) (v : Word) : (s.setLatch m b off v).fw = s.fw := rfl
@[simp] theorem State.setLatch_board (m b off : Nat) (v : Word) : (s.setLatch m b off v).board = s.board := rfl
@[simp] theorem State.setLatch_td (m b off : Nat) (v : Word) : (s.setLatch m b off v).td = s.td := rfl
@[simp] theorem State.setLatch_th (m b off : Nat) (v : Word) : (s.setLatch m b off v).th = s.th := rfl
@[simp] theorem State.setLatch_bytes (m b off : Nat) (v : Word) : (s.setLatch m b off v).bytes = s.bytes := rfl
@[simp] theorem State.setLatch_sems (m b off : Nat) (v : Word) : (s.setLatch m b off v).sems = s.sems := rfl
@[simp] theorem State.setLatch_writeLatch (m b off : Nat) (v : Word) : (s.setLatch m b off v).writeLatch = s.writeLatch := rfl
@[simp] theorem State.setLatch_guest (m b off : Nat) (v : Word) : (s.setLatch m b off v).guest = s.guest := rfl
@[simp] theorem State.setLatch_scan (m b off : Nat) (v : Word) : (s.setLatch m b off v).scan = s.scan := rfl
@[simp] theorem State.setLatch_clock (m b off : Nat) (v : Word) : (s.setLatch m b off v).clock = s.clock := rfl
@[simp] theorem State.setLatch_power (m b off : Nat) (v : Word) : (s.setLatch m b off v).power = s.power := rfl
@[simp] theorem State.setLatch_ferry (m b off : Nat) (v : Word) : (s.setLatch m b off v).ferry = s.ferry := rfl
@[simp] theorem State.setLatch_nv (m b off : Nat) (v : Word) : (s.setLatch m b off v).nv = s.nv := rfl
@[simp] theorem State.setLatch_signboard (m b off : Nat) (v : Word) : (s.setLatch m b off v).signboard = s.signboard := rfl
@[simp] theorem State.setLatch_signboardGen (m b off : Nat) (v : Word) : (s.setLatch m b off v).signboardGen = s.signboardGen := rfl
@[simp] theorem State.setLatch_answer (m b off : Nat) (v : Word) : (s.setLatch m b off v).answer = s.answer := rfl
@[simp] theorem State.setLatch_fresh (m b off : Nat) (v : Word) : (s.setLatch m b off v).fresh = s.fresh := rfl

@[simp] theorem State.setHeldLow_pending (m b off : Nat) (v : Word) : (s.setHeldLow m b off v).pending = s.pending := rfl
@[simp] theorem State.setHeldLow_part (m b off : Nat) (v : Word) : (s.setHeldLow m b off v).part = s.part := rfl
@[simp] theorem State.setHeldLow_regs (m b off : Nat) (v : Word) : (s.setHeldLow m b off v).regs = s.regs := rfl
@[simp] theorem State.setHeldLow_mem (m b off : Nat) (v : Word) : (s.setHeldLow m b off v).mem = s.mem := rfl
@[simp] theorem State.setHeldLow_units (m b off : Nat) (v : Word) : (s.setHeldLow m b off v).units = s.units := rfl
@[simp] theorem State.setHeldLow_aux (m b off : Nat) (v : Word) : (s.setHeldLow m b off v).aux = s.aux := rfl
@[simp] theorem State.setHeldLow_hist (m b off : Nat) (v : Word) : (s.setHeldLow m b off v).hist = s.hist := rfl
@[simp] theorem State.setHeldLow_tree (m b off : Nat) (v : Word) : (s.setHeldLow m b off v).tree = s.tree := rfl
@[simp] theorem State.setHeldLow_fw (m b off : Nat) (v : Word) : (s.setHeldLow m b off v).fw = s.fw := rfl
@[simp] theorem State.setHeldLow_board (m b off : Nat) (v : Word) : (s.setHeldLow m b off v).board = s.board := rfl
@[simp] theorem State.setHeldLow_td (m b off : Nat) (v : Word) : (s.setHeldLow m b off v).td = s.td := rfl
@[simp] theorem State.setHeldLow_th (m b off : Nat) (v : Word) : (s.setHeldLow m b off v).th = s.th := rfl
@[simp] theorem State.setHeldLow_bytes (m b off : Nat) (v : Word) : (s.setHeldLow m b off v).bytes = s.bytes := rfl
@[simp] theorem State.setHeldLow_sems (m b off : Nat) (v : Word) : (s.setHeldLow m b off v).sems = s.sems := rfl
@[simp] theorem State.setHeldLow_readLatch (m b off : Nat) (v : Word) : (s.setHeldLow m b off v).readLatch = s.readLatch := rfl
@[simp] theorem State.setHeldLow_guest (m b off : Nat) (v : Word) : (s.setHeldLow m b off v).guest = s.guest := rfl
@[simp] theorem State.setHeldLow_scan (m b off : Nat) (v : Word) : (s.setHeldLow m b off v).scan = s.scan := rfl
@[simp] theorem State.setHeldLow_clock (m b off : Nat) (v : Word) : (s.setHeldLow m b off v).clock = s.clock := rfl
@[simp] theorem State.setHeldLow_power (m b off : Nat) (v : Word) : (s.setHeldLow m b off v).power = s.power := rfl
@[simp] theorem State.setHeldLow_ferry (m b off : Nat) (v : Word) : (s.setHeldLow m b off v).ferry = s.ferry := rfl
@[simp] theorem State.setHeldLow_nv (m b off : Nat) (v : Word) : (s.setHeldLow m b off v).nv = s.nv := rfl
@[simp] theorem State.setHeldLow_signboard (m b off : Nat) (v : Word) : (s.setHeldLow m b off v).signboard = s.signboard := rfl
@[simp] theorem State.setHeldLow_signboardGen (m b off : Nat) (v : Word) : (s.setHeldLow m b off v).signboardGen = s.signboardGen := rfl
@[simp] theorem State.setHeldLow_answer (m b off : Nat) (v : Word) : (s.setHeldLow m b off v).answer = s.answer := rfl
@[simp] theorem State.setHeldLow_fresh (m b off : Nat) (v : Word) : (s.setHeldLow m b off v).fresh = s.fresh := rfl

@[simp] theorem State.ans_pending (ws : List Word) : (s.ans ws).pending = s.pending := rfl
@[simp] theorem State.ans_part (ws : List Word) : (s.ans ws).part = s.part := rfl
@[simp] theorem State.ans_regs (ws : List Word) : (s.ans ws).regs = s.regs := rfl
@[simp] theorem State.ans_mem (ws : List Word) : (s.ans ws).mem = s.mem := rfl
@[simp] theorem State.ans_units (ws : List Word) : (s.ans ws).units = s.units := rfl
@[simp] theorem State.ans_aux (ws : List Word) : (s.ans ws).aux = s.aux := rfl
@[simp] theorem State.ans_hist (ws : List Word) : (s.ans ws).hist = s.hist := rfl
@[simp] theorem State.ans_tree (ws : List Word) : (s.ans ws).tree = s.tree := rfl
@[simp] theorem State.ans_fw (ws : List Word) : (s.ans ws).fw = s.fw := rfl
@[simp] theorem State.ans_board (ws : List Word) : (s.ans ws).board = s.board := rfl
@[simp] theorem State.ans_td (ws : List Word) : (s.ans ws).td = s.td := rfl
@[simp] theorem State.ans_th (ws : List Word) : (s.ans ws).th = s.th := rfl
@[simp] theorem State.ans_bytes (ws : List Word) : (s.ans ws).bytes = s.bytes := rfl
@[simp] theorem State.ans_sems (ws : List Word) : (s.ans ws).sems = s.sems := rfl
@[simp] theorem State.ans_readLatch (ws : List Word) : (s.ans ws).readLatch = s.readLatch := rfl
@[simp] theorem State.ans_writeLatch (ws : List Word) : (s.ans ws).writeLatch = s.writeLatch := rfl
@[simp] theorem State.ans_guest (ws : List Word) : (s.ans ws).guest = s.guest := rfl
@[simp] theorem State.ans_scan (ws : List Word) : (s.ans ws).scan = s.scan := rfl
@[simp] theorem State.ans_clock (ws : List Word) : (s.ans ws).clock = s.clock := rfl
@[simp] theorem State.ans_power (ws : List Word) : (s.ans ws).power = s.power := rfl
@[simp] theorem State.ans_ferry (ws : List Word) : (s.ans ws).ferry = s.ferry := rfl
@[simp] theorem State.ans_nv (ws : List Word) : (s.ans ws).nv = s.nv := rfl
@[simp] theorem State.ans_signboard (ws : List Word) : (s.ans ws).signboard = s.signboard := rfl
@[simp] theorem State.ans_signboardGen (ws : List Word) : (s.ans ws).signboardGen = s.signboardGen := rfl
@[simp] theorem State.ans_fresh (ws : List Word) : (s.ans ws).fresh = s.fresh := rfl

@[simp] theorem State.useFresh_pending : (s.useFresh).pending = s.pending := rfl
@[simp] theorem State.useFresh_part : (s.useFresh).part = s.part := rfl
@[simp] theorem State.useFresh_regs : (s.useFresh).regs = s.regs := rfl
@[simp] theorem State.useFresh_mem : (s.useFresh).mem = s.mem := rfl
@[simp] theorem State.useFresh_units : (s.useFresh).units = s.units := rfl
@[simp] theorem State.useFresh_aux : (s.useFresh).aux = s.aux := rfl
@[simp] theorem State.useFresh_hist : (s.useFresh).hist = s.hist := rfl
@[simp] theorem State.useFresh_tree : (s.useFresh).tree = s.tree := rfl
@[simp] theorem State.useFresh_fw : (s.useFresh).fw = s.fw := rfl
@[simp] theorem State.useFresh_board : (s.useFresh).board = s.board := rfl
@[simp] theorem State.useFresh_td : (s.useFresh).td = s.td := rfl
@[simp] theorem State.useFresh_th : (s.useFresh).th = s.th := rfl
@[simp] theorem State.useFresh_bytes : (s.useFresh).bytes = s.bytes := rfl
@[simp] theorem State.useFresh_sems : (s.useFresh).sems = s.sems := rfl
@[simp] theorem State.useFresh_readLatch : (s.useFresh).readLatch = s.readLatch := rfl
@[simp] theorem State.useFresh_writeLatch : (s.useFresh).writeLatch = s.writeLatch := rfl
@[simp] theorem State.useFresh_guest : (s.useFresh).guest = s.guest := rfl
@[simp] theorem State.useFresh_scan : (s.useFresh).scan = s.scan := rfl
@[simp] theorem State.useFresh_clock : (s.useFresh).clock = s.clock := rfl
@[simp] theorem State.useFresh_power : (s.useFresh).power = s.power := rfl
@[simp] theorem State.useFresh_ferry : (s.useFresh).ferry = s.ferry := rfl
@[simp] theorem State.useFresh_nv : (s.useFresh).nv = s.nv := rfl
@[simp] theorem State.useFresh_signboard : (s.useFresh).signboard = s.signboard := rfl
@[simp] theorem State.useFresh_signboardGen : (s.useFresh).signboardGen = s.signboardGen := rfl
@[simp] theorem State.useFresh_answer : (s.useFresh).answer = s.answer := rfl

@[simp] theorem State.bump_pending (b : Nat) (r : FRef) (n : Nat) : (s.bump b r n).pending = s.pending := rfl
@[simp] theorem State.bump_part (b : Nat) (r : FRef) (n : Nat) : (s.bump b r n).part = s.part := rfl
@[simp] theorem State.bump_mem (b : Nat) (r : FRef) (n : Nat) : (s.bump b r n).mem = s.mem := rfl
@[simp] theorem State.bump_units (b : Nat) (r : FRef) (n : Nat) : (s.bump b r n).units = s.units := rfl
@[simp] theorem State.bump_aux (b : Nat) (r : FRef) (n : Nat) : (s.bump b r n).aux = s.aux := rfl
@[simp] theorem State.bump_hist (b : Nat) (r : FRef) (n : Nat) : (s.bump b r n).hist = s.hist := rfl
@[simp] theorem State.bump_tree (b : Nat) (r : FRef) (n : Nat) : (s.bump b r n).tree = s.tree := rfl
@[simp] theorem State.bump_fw (b : Nat) (r : FRef) (n : Nat) : (s.bump b r n).fw = s.fw := rfl
@[simp] theorem State.bump_board (b : Nat) (r : FRef) (n : Nat) : (s.bump b r n).board = s.board := rfl
@[simp] theorem State.bump_td (b : Nat) (r : FRef) (n : Nat) : (s.bump b r n).td = s.td := rfl
@[simp] theorem State.bump_th (b : Nat) (r : FRef) (n : Nat) : (s.bump b r n).th = s.th := rfl
@[simp] theorem State.bump_bytes (b : Nat) (r : FRef) (n : Nat) : (s.bump b r n).bytes = s.bytes := rfl
@[simp] theorem State.bump_sems (b : Nat) (r : FRef) (n : Nat) : (s.bump b r n).sems = s.sems := rfl
@[simp] theorem State.bump_readLatch (b : Nat) (r : FRef) (n : Nat) : (s.bump b r n).readLatch = s.readLatch := rfl
@[simp] theorem State.bump_writeLatch (b : Nat) (r : FRef) (n : Nat) : (s.bump b r n).writeLatch = s.writeLatch := rfl
@[simp] theorem State.bump_guest (b : Nat) (r : FRef) (n : Nat) : (s.bump b r n).guest = s.guest := rfl
@[simp] theorem State.bump_scan (b : Nat) (r : FRef) (n : Nat) : (s.bump b r n).scan = s.scan := rfl
@[simp] theorem State.bump_clock (b : Nat) (r : FRef) (n : Nat) : (s.bump b r n).clock = s.clock := rfl
@[simp] theorem State.bump_power (b : Nat) (r : FRef) (n : Nat) : (s.bump b r n).power = s.power := rfl
@[simp] theorem State.bump_ferry (b : Nat) (r : FRef) (n : Nat) : (s.bump b r n).ferry = s.ferry := rfl
@[simp] theorem State.bump_nv (b : Nat) (r : FRef) (n : Nat) : (s.bump b r n).nv = s.nv := rfl
@[simp] theorem State.bump_signboard (b : Nat) (r : FRef) (n : Nat) : (s.bump b r n).signboard = s.signboard := rfl
@[simp] theorem State.bump_signboardGen (b : Nat) (r : FRef) (n : Nat) : (s.bump b r n).signboardGen = s.signboardGen := rfl
@[simp] theorem State.bump_answer (b : Nat) (r : FRef) (n : Nat) : (s.bump b r n).answer = s.answer := rfl
@[simp] theorem State.bump_fresh (b : Nat) (r : FRef) (n : Nat) : (s.bump b r n).fresh = s.fresh := rfl

@[simp] theorem State.clearHistory_pending (w : Nat) : (s.clearHistory w).pending = s.pending := rfl
@[simp] theorem State.clearHistory_part (w : Nat) : (s.clearHistory w).part = s.part := rfl
@[simp] theorem State.clearHistory_regs (w : Nat) : (s.clearHistory w).regs = s.regs := rfl
@[simp] theorem State.clearHistory_mem (w : Nat) : (s.clearHistory w).mem = s.mem := rfl
@[simp] theorem State.clearHistory_units (w : Nat) : (s.clearHistory w).units = s.units := rfl
@[simp] theorem State.clearHistory_tree (w : Nat) : (s.clearHistory w).tree = s.tree := rfl
@[simp] theorem State.clearHistory_fw (w : Nat) : (s.clearHistory w).fw = s.fw := rfl
@[simp] theorem State.clearHistory_board (w : Nat) : (s.clearHistory w).board = s.board := rfl
@[simp] theorem State.clearHistory_td (w : Nat) : (s.clearHistory w).td = s.td := rfl
@[simp] theorem State.clearHistory_th (w : Nat) : (s.clearHistory w).th = s.th := rfl
@[simp] theorem State.clearHistory_bytes (w : Nat) : (s.clearHistory w).bytes = s.bytes := rfl
@[simp] theorem State.clearHistory_sems (w : Nat) : (s.clearHistory w).sems = s.sems := rfl
@[simp] theorem State.clearHistory_readLatch (w : Nat) : (s.clearHistory w).readLatch = s.readLatch := rfl
@[simp] theorem State.clearHistory_writeLatch (w : Nat) : (s.clearHistory w).writeLatch = s.writeLatch := rfl
@[simp] theorem State.clearHistory_guest (w : Nat) : (s.clearHistory w).guest = s.guest := rfl
@[simp] theorem State.clearHistory_scan (w : Nat) : (s.clearHistory w).scan = s.scan := rfl
@[simp] theorem State.clearHistory_clock (w : Nat) : (s.clearHistory w).clock = s.clock := rfl
@[simp] theorem State.clearHistory_power (w : Nat) : (s.clearHistory w).power = s.power := rfl
@[simp] theorem State.clearHistory_ferry (w : Nat) : (s.clearHistory w).ferry = s.ferry := rfl
@[simp] theorem State.clearHistory_nv (w : Nat) : (s.clearHistory w).nv = s.nv := rfl
@[simp] theorem State.clearHistory_signboard (w : Nat) : (s.clearHistory w).signboard = s.signboard := rfl
@[simp] theorem State.clearHistory_signboardGen (w : Nat) : (s.clearHistory w).signboardGen = s.signboardGen := rfl
@[simp] theorem State.clearHistory_answer (w : Nat) : (s.clearHistory w).answer = s.answer := rfl
@[simp] theorem State.clearHistory_fresh (w : Nat) : (s.clearHistory w).fresh = s.fresh := rfl

@[simp] theorem State.setFifo_pending (h : Bool) (n : Nat) (f : FifoX) : (s.setFifo h n f).pending = s.pending := by cases h <;> rfl
@[simp] theorem State.setFifo_part (h : Bool) (n : Nat) (f : FifoX) : (s.setFifo h n f).part = s.part := by cases h <;> rfl
@[simp] theorem State.setFifo_regs (h : Bool) (n : Nat) (f : FifoX) : (s.setFifo h n f).regs = s.regs := by cases h <;> rfl
@[simp] theorem State.setFifo_mem (h : Bool) (n : Nat) (f : FifoX) : (s.setFifo h n f).mem = s.mem := by cases h <;> rfl
@[simp] theorem State.setFifo_units (h : Bool) (n : Nat) (f : FifoX) : (s.setFifo h n f).units = s.units := by cases h <;> rfl
@[simp] theorem State.setFifo_aux (h : Bool) (n : Nat) (f : FifoX) : (s.setFifo h n f).aux = s.aux := by cases h <;> rfl
@[simp] theorem State.setFifo_hist (h : Bool) (n : Nat) (f : FifoX) : (s.setFifo h n f).hist = s.hist := by cases h <;> rfl
@[simp] theorem State.setFifo_tree (h : Bool) (n : Nat) (f : FifoX) : (s.setFifo h n f).tree = s.tree := by cases h <;> rfl
@[simp] theorem State.setFifo_fw (h : Bool) (n : Nat) (f : FifoX) : (s.setFifo h n f).fw = s.fw := by cases h <;> rfl
@[simp] theorem State.setFifo_board (h : Bool) (n : Nat) (f : FifoX) : (s.setFifo h n f).board = s.board := by cases h <;> rfl
@[simp] theorem State.setFifo_bytes (h : Bool) (n : Nat) (f : FifoX) : (s.setFifo h n f).bytes = s.bytes := by cases h <;> rfl
@[simp] theorem State.setFifo_sems (h : Bool) (n : Nat) (f : FifoX) : (s.setFifo h n f).sems = s.sems := by cases h <;> rfl
@[simp] theorem State.setFifo_readLatch (h : Bool) (n : Nat) (f : FifoX) : (s.setFifo h n f).readLatch = s.readLatch := by cases h <;> rfl
@[simp] theorem State.setFifo_writeLatch (h : Bool) (n : Nat) (f : FifoX) : (s.setFifo h n f).writeLatch = s.writeLatch := by cases h <;> rfl
@[simp] theorem State.setFifo_guest (h : Bool) (n : Nat) (f : FifoX) : (s.setFifo h n f).guest = s.guest := by cases h <;> rfl
@[simp] theorem State.setFifo_scan (h : Bool) (n : Nat) (f : FifoX) : (s.setFifo h n f).scan = s.scan := by cases h <;> rfl
@[simp] theorem State.setFifo_clock (h : Bool) (n : Nat) (f : FifoX) : (s.setFifo h n f).clock = s.clock := by cases h <;> rfl
@[simp] theorem State.setFifo_power (h : Bool) (n : Nat) (f : FifoX) : (s.setFifo h n f).power = s.power := by cases h <;> rfl
@[simp] theorem State.setFifo_ferry (h : Bool) (n : Nat) (f : FifoX) : (s.setFifo h n f).ferry = s.ferry := by cases h <;> rfl
@[simp] theorem State.setFifo_nv (h : Bool) (n : Nat) (f : FifoX) : (s.setFifo h n f).nv = s.nv := by cases h <;> rfl
@[simp] theorem State.setFifo_signboard (h : Bool) (n : Nat) (f : FifoX) : (s.setFifo h n f).signboard = s.signboard := by cases h <;> rfl
@[simp] theorem State.setFifo_signboardGen (h : Bool) (n : Nat) (f : FifoX) : (s.setFifo h n f).signboardGen = s.signboardGen := by cases h <;> rfl
@[simp] theorem State.setFifo_answer (h : Bool) (n : Nat) (f : FifoX) : (s.setFifo h n f).answer = s.answer := by cases h <;> rfl
@[simp] theorem State.setFifo_fresh (h : Bool) (n : Nat) (f : FifoX) : (s.setFifo h n f).fresh = s.fresh := by cases h <;> rfl

@[simp] theorem State.mirrorMsg_pending (c : Nat) (ws : List Word) : (s.mirrorMsg c ws).pending = s.pending := by
  unfold State.mirrorMsg; split <;> rfl
@[simp] theorem State.mirrorMsg_part (c : Nat) (ws : List Word) : (s.mirrorMsg c ws).part = s.part := by
  unfold State.mirrorMsg; split <;> rfl
@[simp] theorem State.mirrorMsg_regs (c : Nat) (ws : List Word) : (s.mirrorMsg c ws).regs = s.regs := by
  unfold State.mirrorMsg; split <;> rfl
@[simp] theorem State.mirrorMsg_mem (c : Nat) (ws : List Word) : (s.mirrorMsg c ws).mem = s.mem := by
  unfold State.mirrorMsg; split <;> rfl
@[simp] theorem State.mirrorMsg_units (c : Nat) (ws : List Word) : (s.mirrorMsg c ws).units = s.units := by
  unfold State.mirrorMsg; split <;> rfl
@[simp] theorem State.mirrorMsg_aux (c : Nat) (ws : List Word) : (s.mirrorMsg c ws).aux = s.aux := by
  unfold State.mirrorMsg; split <;> rfl
@[simp] theorem State.mirrorMsg_hist (c : Nat) (ws : List Word) : (s.mirrorMsg c ws).hist = s.hist := by
  unfold State.mirrorMsg; split <;> rfl
@[simp] theorem State.mirrorMsg_tree (c : Nat) (ws : List Word) : (s.mirrorMsg c ws).tree = s.tree := by
  unfold State.mirrorMsg; split <;> rfl
@[simp] theorem State.mirrorMsg_fw (c : Nat) (ws : List Word) : (s.mirrorMsg c ws).fw = s.fw := by
  unfold State.mirrorMsg; split <;> rfl
@[simp] theorem State.mirrorMsg_board (c : Nat) (ws : List Word) : (s.mirrorMsg c ws).board = s.board := by
  unfold State.mirrorMsg; split <;> rfl
@[simp] theorem State.mirrorMsg_td (c : Nat) (ws : List Word) : (s.mirrorMsg c ws).td = s.td := by
  unfold State.mirrorMsg; split <;> rfl
@[simp] theorem State.mirrorMsg_th (c : Nat) (ws : List Word) : (s.mirrorMsg c ws).th = s.th := by
  unfold State.mirrorMsg; split <;> rfl
@[simp] theorem State.mirrorMsg_bytes (c : Nat) (ws : List Word) : (s.mirrorMsg c ws).bytes = s.bytes := by
  unfold State.mirrorMsg; split <;> rfl
@[simp] theorem State.mirrorMsg_sems (c : Nat) (ws : List Word) : (s.mirrorMsg c ws).sems = s.sems := by
  unfold State.mirrorMsg; split <;> rfl
@[simp] theorem State.mirrorMsg_readLatch (c : Nat) (ws : List Word) : (s.mirrorMsg c ws).readLatch = s.readLatch := by
  unfold State.mirrorMsg; split <;> rfl
@[simp] theorem State.mirrorMsg_writeLatch (c : Nat) (ws : List Word) : (s.mirrorMsg c ws).writeLatch = s.writeLatch := by
  unfold State.mirrorMsg; split <;> rfl
@[simp] theorem State.mirrorMsg_guest (c : Nat) (ws : List Word) : (s.mirrorMsg c ws).guest = s.guest := by
  unfold State.mirrorMsg; split <;> rfl
@[simp] theorem State.mirrorMsg_scan (c : Nat) (ws : List Word) : (s.mirrorMsg c ws).scan = s.scan := by
  unfold State.mirrorMsg; split <;> rfl
@[simp] theorem State.mirrorMsg_clock (c : Nat) (ws : List Word) : (s.mirrorMsg c ws).clock = s.clock := by
  unfold State.mirrorMsg; split <;> rfl
@[simp] theorem State.mirrorMsg_power (c : Nat) (ws : List Word) : (s.mirrorMsg c ws).power = s.power := by
  unfold State.mirrorMsg; split <;> rfl
@[simp] theorem State.mirrorMsg_nv (c : Nat) (ws : List Word) : (s.mirrorMsg c ws).nv = s.nv := by
  unfold State.mirrorMsg; split <;> rfl
@[simp] theorem State.mirrorMsg_signboard (c : Nat) (ws : List Word) : (s.mirrorMsg c ws).signboard = s.signboard := by
  unfold State.mirrorMsg; split <;> rfl
@[simp] theorem State.mirrorMsg_signboardGen (c : Nat) (ws : List Word) : (s.mirrorMsg c ws).signboardGen = s.signboardGen := by
  unfold State.mirrorMsg; split <;> rfl
@[simp] theorem State.mirrorMsg_answer (c : Nat) (ws : List Word) : (s.mirrorMsg c ws).answer = s.answer := by
  unfold State.mirrorMsg; split <;> rfl
@[simp] theorem State.mirrorMsg_fresh (c : Nat) (ws : List Word) : (s.mirrorMsg c ws).fresh = s.fresh := by
  unfold State.mirrorMsg; split <;> rfl

@[simp] theorem State.routeFerry_pending (e : Nat) : (s.routeFerry e).pending = s.pending := by
  unfold State.routeFerry; split <;> rfl
@[simp] theorem State.routeFerry_part (e : Nat) : (s.routeFerry e).part = s.part := by
  unfold State.routeFerry; split <;> rfl
@[simp] theorem State.routeFerry_regs (e : Nat) : (s.routeFerry e).regs = s.regs := by
  unfold State.routeFerry; split <;> rfl
@[simp] theorem State.routeFerry_mem (e : Nat) : (s.routeFerry e).mem = s.mem := by
  unfold State.routeFerry; split <;> rfl
@[simp] theorem State.routeFerry_units (e : Nat) : (s.routeFerry e).units = s.units := by
  unfold State.routeFerry; split <;> rfl
@[simp] theorem State.routeFerry_aux (e : Nat) : (s.routeFerry e).aux = s.aux := by
  unfold State.routeFerry; split <;> rfl
@[simp] theorem State.routeFerry_hist (e : Nat) : (s.routeFerry e).hist = s.hist := by
  unfold State.routeFerry; split <;> rfl
@[simp] theorem State.routeFerry_tree (e : Nat) : (s.routeFerry e).tree = s.tree := by
  unfold State.routeFerry; split <;> rfl
@[simp] theorem State.routeFerry_fw (e : Nat) : (s.routeFerry e).fw = s.fw := by
  unfold State.routeFerry; split <;> rfl
@[simp] theorem State.routeFerry_board (e : Nat) : (s.routeFerry e).board = s.board := by
  unfold State.routeFerry; split <;> rfl
@[simp] theorem State.routeFerry_td (e : Nat) : (s.routeFerry e).td = s.td := by
  unfold State.routeFerry; split <;> rfl
@[simp] theorem State.routeFerry_th (e : Nat) : (s.routeFerry e).th = s.th := by
  unfold State.routeFerry; split <;> rfl
@[simp] theorem State.routeFerry_bytes (e : Nat) : (s.routeFerry e).bytes = s.bytes := by
  unfold State.routeFerry; split <;> rfl
@[simp] theorem State.routeFerry_sems (e : Nat) : (s.routeFerry e).sems = s.sems := by
  unfold State.routeFerry; split <;> rfl
@[simp] theorem State.routeFerry_readLatch (e : Nat) : (s.routeFerry e).readLatch = s.readLatch := by
  unfold State.routeFerry; split <;> rfl
@[simp] theorem State.routeFerry_writeLatch (e : Nat) : (s.routeFerry e).writeLatch = s.writeLatch := by
  unfold State.routeFerry; split <;> rfl
@[simp] theorem State.routeFerry_guest (e : Nat) : (s.routeFerry e).guest = s.guest := by
  unfold State.routeFerry; split <;> rfl
@[simp] theorem State.routeFerry_scan (e : Nat) : (s.routeFerry e).scan = s.scan := by
  unfold State.routeFerry; split <;> rfl
@[simp] theorem State.routeFerry_clock (e : Nat) : (s.routeFerry e).clock = s.clock := by
  unfold State.routeFerry; split <;> rfl
@[simp] theorem State.routeFerry_power (e : Nat) : (s.routeFerry e).power = s.power := by
  unfold State.routeFerry; split <;> rfl
@[simp] theorem State.routeFerry_nv (e : Nat) : (s.routeFerry e).nv = s.nv := by
  unfold State.routeFerry; split <;> rfl
@[simp] theorem State.routeFerry_signboard (e : Nat) : (s.routeFerry e).signboard = s.signboard := by
  unfold State.routeFerry; split <;> rfl
@[simp] theorem State.routeFerry_signboardGen (e : Nat) : (s.routeFerry e).signboardGen = s.signboardGen := by
  unfold State.routeFerry; split <;> rfl
@[simp] theorem State.routeFerry_answer (e : Nat) : (s.routeFerry e).answer = s.answer := by
  unfold State.routeFerry; split <;> rfl
@[simp] theorem State.routeFerry_fresh (e : Nat) : (s.routeFerry e).fresh = s.fresh := by
  unfold State.routeFerry; split <;> rfl

@[simp] theorem State.ringHigh_pending (b : Nat) : (s.ringHigh b).pending = s.pending := by
  unfold State.ringHigh; dsimp only; split <;> simp
@[simp] theorem State.ringHigh_part (b : Nat) : (s.ringHigh b).part = s.part := by
  unfold State.ringHigh; dsimp only; split <;> simp
@[simp] theorem State.ringHigh_regs (b : Nat) : (s.ringHigh b).regs = s.regs := by
  unfold State.ringHigh; dsimp only; split <;> simp
@[simp] theorem State.ringHigh_mem (b : Nat) : (s.ringHigh b).mem = s.mem := by
  unfold State.ringHigh; dsimp only; split <;> simp
@[simp] theorem State.ringHigh_units (b : Nat) : (s.ringHigh b).units = s.units := by
  unfold State.ringHigh; dsimp only; split <;> simp
@[simp] theorem State.ringHigh_aux (b : Nat) : (s.ringHigh b).aux = s.aux := by
  unfold State.ringHigh; dsimp only; split <;> simp
@[simp] theorem State.ringHigh_hist (b : Nat) : (s.ringHigh b).hist = s.hist := by
  unfold State.ringHigh; dsimp only; split <;> simp
@[simp] theorem State.ringHigh_tree (b : Nat) : (s.ringHigh b).tree = s.tree := by
  unfold State.ringHigh; dsimp only; split <;> simp
@[simp] theorem State.ringHigh_fw (b : Nat) : (s.ringHigh b).fw = s.fw := by
  unfold State.ringHigh; dsimp only; split <;> simp
@[simp] theorem State.ringHigh_td (b : Nat) : (s.ringHigh b).td = s.td := by
  unfold State.ringHigh; dsimp only; split <;> simp
@[simp] theorem State.ringHigh_th (b : Nat) : (s.ringHigh b).th = s.th := by
  unfold State.ringHigh; dsimp only; split <;> simp
@[simp] theorem State.ringHigh_bytes (b : Nat) : (s.ringHigh b).bytes = s.bytes := by
  unfold State.ringHigh; dsimp only; split <;> simp
@[simp] theorem State.ringHigh_sems (b : Nat) : (s.ringHigh b).sems = s.sems := by
  unfold State.ringHigh; dsimp only; split <;> simp
@[simp] theorem State.ringHigh_readLatch (b : Nat) : (s.ringHigh b).readLatch = s.readLatch := by
  unfold State.ringHigh; dsimp only; split <;> simp
@[simp] theorem State.ringHigh_writeLatch (b : Nat) : (s.ringHigh b).writeLatch = s.writeLatch := by
  unfold State.ringHigh; dsimp only; split <;> simp
@[simp] theorem State.ringHigh_guest (b : Nat) : (s.ringHigh b).guest = s.guest := by
  unfold State.ringHigh; dsimp only; split <;> simp
@[simp] theorem State.ringHigh_scan (b : Nat) : (s.ringHigh b).scan = s.scan := by
  unfold State.ringHigh; dsimp only; split <;> simp
@[simp] theorem State.ringHigh_clock (b : Nat) : (s.ringHigh b).clock = s.clock := by
  unfold State.ringHigh; dsimp only; split <;> simp
@[simp] theorem State.ringHigh_power (b : Nat) : (s.ringHigh b).power = s.power := by
  unfold State.ringHigh; dsimp only; split <;> simp
@[simp] theorem State.ringHigh_nv (b : Nat) : (s.ringHigh b).nv = s.nv := by
  unfold State.ringHigh; dsimp only; split <;> simp
@[simp] theorem State.ringHigh_signboard (b : Nat) : (s.ringHigh b).signboard = s.signboard := by
  unfold State.ringHigh; dsimp only; split <;> simp
@[simp] theorem State.ringHigh_signboardGen (b : Nat) : (s.ringHigh b).signboardGen = s.signboardGen := by
  unfold State.ringHigh; dsimp only; split <;> simp
@[simp] theorem State.ringHigh_answer (b : Nat) : (s.ringHigh b).answer = s.answer := by
  unfold State.ringHigh; dsimp only; split <;> simp
@[simp] theorem State.ringHigh_fresh (b : Nat) : (s.ringHigh b).fresh = s.fresh := by
  unfold State.ringHigh; dsimp only; split <;> simp

@[simp] theorem State.occur_pending (e : Nat) : (s.occur e).pending = s.pending := by
  unfold State.occur; repeat' split
  all_goals simp
@[simp] theorem State.occur_part (e : Nat) : (s.occur e).part = s.part := by
  unfold State.occur; repeat' split
  all_goals simp
@[simp] theorem State.occur_regs (e : Nat) : (s.occur e).regs = s.regs := by
  unfold State.occur; repeat' split
  all_goals simp
@[simp] theorem State.occur_mem (e : Nat) : (s.occur e).mem = s.mem := by
  unfold State.occur; repeat' split
  all_goals simp
@[simp] theorem State.occur_units (e : Nat) : (s.occur e).units = s.units := by
  unfold State.occur; repeat' split
  all_goals simp
@[simp] theorem State.occur_aux (e : Nat) : (s.occur e).aux = s.aux := by
  unfold State.occur; repeat' split
  all_goals simp
@[simp] theorem State.occur_hist (e : Nat) : (s.occur e).hist = s.hist := by
  unfold State.occur; repeat' split
  all_goals simp
@[simp] theorem State.occur_tree (e : Nat) : (s.occur e).tree = s.tree := by
  unfold State.occur; repeat' split
  all_goals simp
@[simp] theorem State.occur_fw (e : Nat) : (s.occur e).fw = s.fw := by
  unfold State.occur; repeat' split
  all_goals simp
@[simp] theorem State.occur_td (e : Nat) : (s.occur e).td = s.td := by
  unfold State.occur; repeat' split
  all_goals simp
@[simp] theorem State.occur_th (e : Nat) : (s.occur e).th = s.th := by
  unfold State.occur; repeat' split
  all_goals simp
@[simp] theorem State.occur_bytes (e : Nat) : (s.occur e).bytes = s.bytes := by
  unfold State.occur; repeat' split
  all_goals simp
@[simp] theorem State.occur_sems (e : Nat) : (s.occur e).sems = s.sems := by
  unfold State.occur; repeat' split
  all_goals simp
@[simp] theorem State.occur_readLatch (e : Nat) : (s.occur e).readLatch = s.readLatch := by
  unfold State.occur; repeat' split
  all_goals simp
@[simp] theorem State.occur_writeLatch (e : Nat) : (s.occur e).writeLatch = s.writeLatch := by
  unfold State.occur; repeat' split
  all_goals simp
@[simp] theorem State.occur_guest (e : Nat) : (s.occur e).guest = s.guest := by
  unfold State.occur; repeat' split
  all_goals simp
@[simp] theorem State.occur_scan (e : Nat) : (s.occur e).scan = s.scan := by
  unfold State.occur; repeat' split
  all_goals simp
@[simp] theorem State.occur_clock (e : Nat) : (s.occur e).clock = s.clock := by
  unfold State.occur; repeat' split
  all_goals simp
@[simp] theorem State.occur_power (e : Nat) : (s.occur e).power = s.power := by
  unfold State.occur; repeat' split
  all_goals simp
@[simp] theorem State.occur_nv (e : Nat) : (s.occur e).nv = s.nv := by
  unfold State.occur; repeat' split
  all_goals simp
@[simp] theorem State.occur_signboard (e : Nat) : (s.occur e).signboard = s.signboard := by
  unfold State.occur; repeat' split
  all_goals simp
@[simp] theorem State.occur_signboardGen (e : Nat) : (s.occur e).signboardGen = s.signboardGen := by
  unfold State.occur; repeat' split
  all_goals simp
@[simp] theorem State.occur_answer (e : Nat) : (s.occur e).answer = s.answer := by
  unfold State.occur; repeat' split
  all_goals simp
@[simp] theorem State.occur_fresh (e : Nat) : (s.occur e).fresh = s.fresh := by
  unfold State.occur; repeat' split
  all_goals simp

@[simp] theorem State.raise_pending (e : Nat) : (s.raise e).pending = s.pending := by
  simp [State.raise]
@[simp] theorem State.raise_part (e : Nat) : (s.raise e).part = s.part := by
  simp [State.raise]
@[simp] theorem State.raise_regs (e : Nat) : (s.raise e).regs = s.regs := by
  simp [State.raise]
@[simp] theorem State.raise_mem (e : Nat) : (s.raise e).mem = s.mem := by
  simp [State.raise]
@[simp] theorem State.raise_units (e : Nat) : (s.raise e).units = s.units := by
  simp [State.raise]
@[simp] theorem State.raise_aux (e : Nat) : (s.raise e).aux = s.aux := by
  simp [State.raise]
@[simp] theorem State.raise_hist (e : Nat) : (s.raise e).hist = s.hist := by
  simp [State.raise]
@[simp] theorem State.raise_tree (e : Nat) : (s.raise e).tree = s.tree := by
  simp [State.raise]
@[simp] theorem State.raise_fw (e : Nat) : (s.raise e).fw = s.fw := by
  simp [State.raise]
@[simp] theorem State.raise_td (e : Nat) : (s.raise e).td = s.td := by
  simp [State.raise]
@[simp] theorem State.raise_th (e : Nat) : (s.raise e).th = s.th := by
  simp [State.raise]
@[simp] theorem State.raise_bytes (e : Nat) : (s.raise e).bytes = s.bytes := by
  simp [State.raise]
@[simp] theorem State.raise_sems (e : Nat) : (s.raise e).sems = s.sems := by
  simp [State.raise]
@[simp] theorem State.raise_readLatch (e : Nat) : (s.raise e).readLatch = s.readLatch := by
  simp [State.raise]
@[simp] theorem State.raise_writeLatch (e : Nat) : (s.raise e).writeLatch = s.writeLatch := by
  simp [State.raise]
@[simp] theorem State.raise_guest (e : Nat) : (s.raise e).guest = s.guest := by
  simp [State.raise]
@[simp] theorem State.raise_scan (e : Nat) : (s.raise e).scan = s.scan := by
  simp [State.raise]
@[simp] theorem State.raise_clock (e : Nat) : (s.raise e).clock = s.clock := by
  simp [State.raise]
@[simp] theorem State.raise_power (e : Nat) : (s.raise e).power = s.power := by
  simp [State.raise]
@[simp] theorem State.raise_nv (e : Nat) : (s.raise e).nv = s.nv := by
  simp [State.raise]
@[simp] theorem State.raise_signboard (e : Nat) : (s.raise e).signboard = s.signboard := by
  simp [State.raise]
@[simp] theorem State.raise_signboardGen (e : Nat) : (s.raise e).signboardGen = s.signboardGen := by
  simp [State.raise]
@[simp] theorem State.raise_answer (e : Nat) : (s.raise e).answer = s.answer := by
  simp [State.raise]
@[simp] theorem State.raise_fresh (e : Nat) : (s.raise e).fresh = s.fresh := by
  simp [State.raise]

theorem State.foldl_occur_pending (l : List Nat) : (l.foldl State.occur s).pending = s.pending := by
  induction l generalizing s with
  | nil => rfl
  | cons a l ih => simp [ih]
@[simp] theorem State.ringBells_pending (v : Word) : (s.ringBells v).pending = s.pending := by
  simp [State.ringBells, State.foldl_occur_pending]
theorem State.foldl_occur_part (l : List Nat) : (l.foldl State.occur s).part = s.part := by
  induction l generalizing s with
  | nil => rfl
  | cons a l ih => simp [ih]
@[simp] theorem State.ringBells_part (v : Word) : (s.ringBells v).part = s.part := by
  simp [State.ringBells, State.foldl_occur_part]
theorem State.foldl_occur_regs (l : List Nat) : (l.foldl State.occur s).regs = s.regs := by
  induction l generalizing s with
  | nil => rfl
  | cons a l ih => simp [ih]
@[simp] theorem State.ringBells_regs (v : Word) : (s.ringBells v).regs = s.regs := by
  simp [State.ringBells, State.foldl_occur_regs]
theorem State.foldl_occur_mem (l : List Nat) : (l.foldl State.occur s).mem = s.mem := by
  induction l generalizing s with
  | nil => rfl
  | cons a l ih => simp [ih]
@[simp] theorem State.ringBells_mem (v : Word) : (s.ringBells v).mem = s.mem := by
  simp [State.ringBells, State.foldl_occur_mem]
theorem State.foldl_occur_units (l : List Nat) : (l.foldl State.occur s).units = s.units := by
  induction l generalizing s with
  | nil => rfl
  | cons a l ih => simp [ih]
@[simp] theorem State.ringBells_units (v : Word) : (s.ringBells v).units = s.units := by
  simp [State.ringBells, State.foldl_occur_units]
theorem State.foldl_occur_aux (l : List Nat) : (l.foldl State.occur s).aux = s.aux := by
  induction l generalizing s with
  | nil => rfl
  | cons a l ih => simp [ih]
@[simp] theorem State.ringBells_aux (v : Word) : (s.ringBells v).aux = s.aux := by
  simp [State.ringBells, State.foldl_occur_aux]
theorem State.foldl_occur_hist (l : List Nat) : (l.foldl State.occur s).hist = s.hist := by
  induction l generalizing s with
  | nil => rfl
  | cons a l ih => simp [ih]
@[simp] theorem State.ringBells_hist (v : Word) : (s.ringBells v).hist = s.hist := by
  simp [State.ringBells, State.foldl_occur_hist]
theorem State.foldl_occur_tree (l : List Nat) : (l.foldl State.occur s).tree = s.tree := by
  induction l generalizing s with
  | nil => rfl
  | cons a l ih => simp [ih]
@[simp] theorem State.ringBells_tree (v : Word) : (s.ringBells v).tree = s.tree := by
  simp [State.ringBells, State.foldl_occur_tree]
theorem State.foldl_occur_fw (l : List Nat) : (l.foldl State.occur s).fw = s.fw := by
  induction l generalizing s with
  | nil => rfl
  | cons a l ih => simp [ih]
@[simp] theorem State.ringBells_fw (v : Word) : (s.ringBells v).fw = s.fw := by
  simp [State.ringBells, State.foldl_occur_fw]
theorem State.foldl_occur_td (l : List Nat) : (l.foldl State.occur s).td = s.td := by
  induction l generalizing s with
  | nil => rfl
  | cons a l ih => simp [ih]
@[simp] theorem State.ringBells_td (v : Word) : (s.ringBells v).td = s.td := by
  simp [State.ringBells, State.foldl_occur_td]
theorem State.foldl_occur_th (l : List Nat) : (l.foldl State.occur s).th = s.th := by
  induction l generalizing s with
  | nil => rfl
  | cons a l ih => simp [ih]
@[simp] theorem State.ringBells_th (v : Word) : (s.ringBells v).th = s.th := by
  simp [State.ringBells, State.foldl_occur_th]
theorem State.foldl_occur_bytes (l : List Nat) : (l.foldl State.occur s).bytes = s.bytes := by
  induction l generalizing s with
  | nil => rfl
  | cons a l ih => simp [ih]
@[simp] theorem State.ringBells_bytes (v : Word) : (s.ringBells v).bytes = s.bytes := by
  simp [State.ringBells, State.foldl_occur_bytes]
theorem State.foldl_occur_sems (l : List Nat) : (l.foldl State.occur s).sems = s.sems := by
  induction l generalizing s with
  | nil => rfl
  | cons a l ih => simp [ih]
@[simp] theorem State.ringBells_sems (v : Word) : (s.ringBells v).sems = s.sems := by
  simp [State.ringBells, State.foldl_occur_sems]
theorem State.foldl_occur_readLatch (l : List Nat) : (l.foldl State.occur s).readLatch = s.readLatch := by
  induction l generalizing s with
  | nil => rfl
  | cons a l ih => simp [ih]
@[simp] theorem State.ringBells_readLatch (v : Word) : (s.ringBells v).readLatch = s.readLatch := by
  simp [State.ringBells, State.foldl_occur_readLatch]
theorem State.foldl_occur_writeLatch (l : List Nat) : (l.foldl State.occur s).writeLatch = s.writeLatch := by
  induction l generalizing s with
  | nil => rfl
  | cons a l ih => simp [ih]
@[simp] theorem State.ringBells_writeLatch (v : Word) : (s.ringBells v).writeLatch = s.writeLatch := by
  simp [State.ringBells, State.foldl_occur_writeLatch]
theorem State.foldl_occur_guest (l : List Nat) : (l.foldl State.occur s).guest = s.guest := by
  induction l generalizing s with
  | nil => rfl
  | cons a l ih => simp [ih]
@[simp] theorem State.ringBells_guest (v : Word) : (s.ringBells v).guest = s.guest := by
  simp [State.ringBells, State.foldl_occur_guest]
theorem State.foldl_occur_scan (l : List Nat) : (l.foldl State.occur s).scan = s.scan := by
  induction l generalizing s with
  | nil => rfl
  | cons a l ih => simp [ih]
@[simp] theorem State.ringBells_scan (v : Word) : (s.ringBells v).scan = s.scan := by
  simp [State.ringBells, State.foldl_occur_scan]
theorem State.foldl_occur_clock (l : List Nat) : (l.foldl State.occur s).clock = s.clock := by
  induction l generalizing s with
  | nil => rfl
  | cons a l ih => simp [ih]
@[simp] theorem State.ringBells_clock (v : Word) : (s.ringBells v).clock = s.clock := by
  simp [State.ringBells, State.foldl_occur_clock]
theorem State.foldl_occur_power (l : List Nat) : (l.foldl State.occur s).power = s.power := by
  induction l generalizing s with
  | nil => rfl
  | cons a l ih => simp [ih]
@[simp] theorem State.ringBells_power (v : Word) : (s.ringBells v).power = s.power := by
  simp [State.ringBells, State.foldl_occur_power]
theorem State.foldl_occur_nv (l : List Nat) : (l.foldl State.occur s).nv = s.nv := by
  induction l generalizing s with
  | nil => rfl
  | cons a l ih => simp [ih]
@[simp] theorem State.ringBells_nv (v : Word) : (s.ringBells v).nv = s.nv := by
  simp [State.ringBells, State.foldl_occur_nv]
theorem State.foldl_occur_signboard (l : List Nat) : (l.foldl State.occur s).signboard = s.signboard := by
  induction l generalizing s with
  | nil => rfl
  | cons a l ih => simp [ih]
@[simp] theorem State.ringBells_signboard (v : Word) : (s.ringBells v).signboard = s.signboard := by
  simp [State.ringBells, State.foldl_occur_signboard]
theorem State.foldl_occur_signboardGen (l : List Nat) : (l.foldl State.occur s).signboardGen = s.signboardGen := by
  induction l generalizing s with
  | nil => rfl
  | cons a l ih => simp [ih]
@[simp] theorem State.ringBells_signboardGen (v : Word) : (s.ringBells v).signboardGen = s.signboardGen := by
  simp [State.ringBells, State.foldl_occur_signboardGen]
theorem State.foldl_occur_answer (l : List Nat) : (l.foldl State.occur s).answer = s.answer := by
  induction l generalizing s with
  | nil => rfl
  | cons a l ih => simp [ih]
@[simp] theorem State.ringBells_answer (v : Word) : (s.ringBells v).answer = s.answer := by
  simp [State.ringBells, State.foldl_occur_answer]
theorem State.foldl_occur_fresh (l : List Nat) : (l.foldl State.occur s).fresh = s.fresh := by
  induction l generalizing s with
  | nil => rfl
  | cons a l ih => simp [ih]
@[simp] theorem State.ringBells_fresh (v : Word) : (s.ringBells v).fresh = s.fresh := by
  simp [State.ringBells, State.foldl_occur_fresh]

@[simp] theorem State.raiseKind_pending (w b : Nat) : (s.raiseKind w b).pending = s.pending := by
  unfold State.raiseKind; dsimp only; split <;> simp
@[simp] theorem State.count_pending (b : Nat) (r : FRef) : (s.count b r).pending = s.pending := by
  unfold State.count; dsimp only; repeat' split
  all_goals simp
@[simp] theorem State.setErr_pending (w c : Nat) : (s.setErr w c).pending = s.pending := by simp [State.setErr]
@[simp] theorem State.raiseKind_part (w b : Nat) : (s.raiseKind w b).part = s.part := by
  unfold State.raiseKind; dsimp only; split <;> simp
@[simp] theorem State.count_part (b : Nat) (r : FRef) : (s.count b r).part = s.part := by
  unfold State.count; dsimp only; repeat' split
  all_goals simp
@[simp] theorem State.setErr_part (w c : Nat) : (s.setErr w c).part = s.part := by simp [State.setErr]
@[simp] theorem State.raiseKind_mem (w b : Nat) : (s.raiseKind w b).mem = s.mem := by
  unfold State.raiseKind; dsimp only; split <;> simp
@[simp] theorem State.count_mem (b : Nat) (r : FRef) : (s.count b r).mem = s.mem := by
  unfold State.count; dsimp only; repeat' split
  all_goals simp
@[simp] theorem State.setErr_mem (w c : Nat) : (s.setErr w c).mem = s.mem := by simp [State.setErr]
@[simp] theorem State.raiseKind_units (w b : Nat) : (s.raiseKind w b).units = s.units := by
  unfold State.raiseKind; dsimp only; split <;> simp
@[simp] theorem State.count_units (b : Nat) (r : FRef) : (s.count b r).units = s.units := by
  unfold State.count; dsimp only; repeat' split
  all_goals simp
@[simp] theorem State.setErr_units (w c : Nat) : (s.setErr w c).units = s.units := by simp [State.setErr]
@[simp] theorem State.raiseKind_aux (w b : Nat) : (s.raiseKind w b).aux = s.aux := by
  unfold State.raiseKind; dsimp only; split <;> simp
@[simp] theorem State.count_aux (b : Nat) (r : FRef) : (s.count b r).aux = s.aux := by
  unfold State.count; dsimp only; repeat' split
  all_goals simp
@[simp] theorem State.setErr_aux (w c : Nat) : (s.setErr w c).aux = s.aux := by simp [State.setErr]
@[simp] theorem State.raiseKind_hist (w b : Nat) : (s.raiseKind w b).hist = s.hist := by
  unfold State.raiseKind; dsimp only; split <;> simp
@[simp] theorem State.count_hist (b : Nat) (r : FRef) : (s.count b r).hist = s.hist := by
  unfold State.count; dsimp only; repeat' split
  all_goals simp
@[simp] theorem State.setErr_hist (w c : Nat) : (s.setErr w c).hist = s.hist := by simp [State.setErr]
@[simp] theorem State.raiseKind_tree (w b : Nat) : (s.raiseKind w b).tree = s.tree := by
  unfold State.raiseKind; dsimp only; split <;> simp
@[simp] theorem State.count_tree (b : Nat) (r : FRef) : (s.count b r).tree = s.tree := by
  unfold State.count; dsimp only; repeat' split
  all_goals simp
@[simp] theorem State.setErr_tree (w c : Nat) : (s.setErr w c).tree = s.tree := by simp [State.setErr]
@[simp] theorem State.raiseKind_fw (w b : Nat) : (s.raiseKind w b).fw = s.fw := by
  unfold State.raiseKind; dsimp only; split <;> simp
@[simp] theorem State.count_fw (b : Nat) (r : FRef) : (s.count b r).fw = s.fw := by
  unfold State.count; dsimp only; repeat' split
  all_goals simp
@[simp] theorem State.setErr_fw (w c : Nat) : (s.setErr w c).fw = s.fw := by simp [State.setErr]
@[simp] theorem State.raiseKind_td (w b : Nat) : (s.raiseKind w b).td = s.td := by
  unfold State.raiseKind; dsimp only; split <;> simp
@[simp] theorem State.count_td (b : Nat) (r : FRef) : (s.count b r).td = s.td := by
  unfold State.count; dsimp only; repeat' split
  all_goals simp
@[simp] theorem State.setErr_td (w c : Nat) : (s.setErr w c).td = s.td := by simp [State.setErr]
@[simp] theorem State.raiseKind_th (w b : Nat) : (s.raiseKind w b).th = s.th := by
  unfold State.raiseKind; dsimp only; split <;> simp
@[simp] theorem State.count_th (b : Nat) (r : FRef) : (s.count b r).th = s.th := by
  unfold State.count; dsimp only; repeat' split
  all_goals simp
@[simp] theorem State.setErr_th (w c : Nat) : (s.setErr w c).th = s.th := by simp [State.setErr]
@[simp] theorem State.raiseKind_bytes (w b : Nat) : (s.raiseKind w b).bytes = s.bytes := by
  unfold State.raiseKind; dsimp only; split <;> simp
@[simp] theorem State.count_bytes (b : Nat) (r : FRef) : (s.count b r).bytes = s.bytes := by
  unfold State.count; dsimp only; repeat' split
  all_goals simp
@[simp] theorem State.setErr_bytes (w c : Nat) : (s.setErr w c).bytes = s.bytes := by simp [State.setErr]
@[simp] theorem State.raiseKind_sems (w b : Nat) : (s.raiseKind w b).sems = s.sems := by
  unfold State.raiseKind; dsimp only; split <;> simp
@[simp] theorem State.count_sems (b : Nat) (r : FRef) : (s.count b r).sems = s.sems := by
  unfold State.count; dsimp only; repeat' split
  all_goals simp
@[simp] theorem State.setErr_sems (w c : Nat) : (s.setErr w c).sems = s.sems := by simp [State.setErr]
@[simp] theorem State.raiseKind_readLatch (w b : Nat) : (s.raiseKind w b).readLatch = s.readLatch := by
  unfold State.raiseKind; dsimp only; split <;> simp
@[simp] theorem State.count_readLatch (b : Nat) (r : FRef) : (s.count b r).readLatch = s.readLatch := by
  unfold State.count; dsimp only; repeat' split
  all_goals simp
@[simp] theorem State.setErr_readLatch (w c : Nat) : (s.setErr w c).readLatch = s.readLatch := by simp [State.setErr]
@[simp] theorem State.raiseKind_writeLatch (w b : Nat) : (s.raiseKind w b).writeLatch = s.writeLatch := by
  unfold State.raiseKind; dsimp only; split <;> simp
@[simp] theorem State.count_writeLatch (b : Nat) (r : FRef) : (s.count b r).writeLatch = s.writeLatch := by
  unfold State.count; dsimp only; repeat' split
  all_goals simp
@[simp] theorem State.setErr_writeLatch (w c : Nat) : (s.setErr w c).writeLatch = s.writeLatch := by simp [State.setErr]
@[simp] theorem State.raiseKind_guest (w b : Nat) : (s.raiseKind w b).guest = s.guest := by
  unfold State.raiseKind; dsimp only; split <;> simp
@[simp] theorem State.count_guest (b : Nat) (r : FRef) : (s.count b r).guest = s.guest := by
  unfold State.count; dsimp only; repeat' split
  all_goals simp
@[simp] theorem State.setErr_guest (w c : Nat) : (s.setErr w c).guest = s.guest := by simp [State.setErr]
@[simp] theorem State.raiseKind_scan (w b : Nat) : (s.raiseKind w b).scan = s.scan := by
  unfold State.raiseKind; dsimp only; split <;> simp
@[simp] theorem State.count_scan (b : Nat) (r : FRef) : (s.count b r).scan = s.scan := by
  unfold State.count; dsimp only; repeat' split
  all_goals simp
@[simp] theorem State.setErr_scan (w c : Nat) : (s.setErr w c).scan = s.scan := by simp [State.setErr]
@[simp] theorem State.raiseKind_clock (w b : Nat) : (s.raiseKind w b).clock = s.clock := by
  unfold State.raiseKind; dsimp only; split <;> simp
@[simp] theorem State.count_clock (b : Nat) (r : FRef) : (s.count b r).clock = s.clock := by
  unfold State.count; dsimp only; repeat' split
  all_goals simp
@[simp] theorem State.setErr_clock (w c : Nat) : (s.setErr w c).clock = s.clock := by simp [State.setErr]
@[simp] theorem State.raiseKind_power (w b : Nat) : (s.raiseKind w b).power = s.power := by
  unfold State.raiseKind; dsimp only; split <;> simp
@[simp] theorem State.count_power (b : Nat) (r : FRef) : (s.count b r).power = s.power := by
  unfold State.count; dsimp only; repeat' split
  all_goals simp
@[simp] theorem State.setErr_power (w c : Nat) : (s.setErr w c).power = s.power := by simp [State.setErr]
@[simp] theorem State.raiseKind_nv (w b : Nat) : (s.raiseKind w b).nv = s.nv := by
  unfold State.raiseKind; dsimp only; split <;> simp
@[simp] theorem State.count_nv (b : Nat) (r : FRef) : (s.count b r).nv = s.nv := by
  unfold State.count; dsimp only; repeat' split
  all_goals simp
@[simp] theorem State.setErr_nv (w c : Nat) : (s.setErr w c).nv = s.nv := by simp [State.setErr]
@[simp] theorem State.raiseKind_signboard (w b : Nat) : (s.raiseKind w b).signboard = s.signboard := by
  unfold State.raiseKind; dsimp only; split <;> simp
@[simp] theorem State.count_signboard (b : Nat) (r : FRef) : (s.count b r).signboard = s.signboard := by
  unfold State.count; dsimp only; repeat' split
  all_goals simp
@[simp] theorem State.setErr_signboard (w c : Nat) : (s.setErr w c).signboard = s.signboard := by simp [State.setErr]
@[simp] theorem State.raiseKind_signboardGen (w b : Nat) : (s.raiseKind w b).signboardGen = s.signboardGen := by
  unfold State.raiseKind; dsimp only; split <;> simp
@[simp] theorem State.count_signboardGen (b : Nat) (r : FRef) : (s.count b r).signboardGen = s.signboardGen := by
  unfold State.count; dsimp only; repeat' split
  all_goals simp
@[simp] theorem State.setErr_signboardGen (w c : Nat) : (s.setErr w c).signboardGen = s.signboardGen := by simp [State.setErr]
@[simp] theorem State.raiseKind_answer (w b : Nat) : (s.raiseKind w b).answer = s.answer := by
  unfold State.raiseKind; dsimp only; split <;> simp
@[simp] theorem State.count_answer (b : Nat) (r : FRef) : (s.count b r).answer = s.answer := by
  unfold State.count; dsimp only; repeat' split
  all_goals simp
@[simp] theorem State.setErr_answer (w c : Nat) : (s.setErr w c).answer = s.answer := by simp [State.setErr]
@[simp] theorem State.raiseKind_fresh (w b : Nat) : (s.raiseKind w b).fresh = s.fresh := by
  unfold State.raiseKind; dsimp only; split <;> simp
@[simp] theorem State.count_fresh (b : Nat) (r : FRef) : (s.count b r).fresh = s.fresh := by
  unfold State.count; dsimp only; repeat' split
  all_goals simp
@[simp] theorem State.setErr_fresh (w c : Nat) : (s.setErr w c).fresh = s.fresh := by simp [State.setErr]

end Sys2Proof.Machine
end

