-- ==== Sys2Proof/Laws/Regs.lean ====
section
/-! SUPPORT. Registers and fields: what reads back after a write, and that every other register and field stands. -/

namespace Sys2Proof.Machine

/-- A field that lies within its word. -/
def FRef.ok (r : FRef) : Bool := decide (r.lsb ≤ r.msb) && decide (r.msb < 32)

/-- Two fields that share no bit: of different registers, or of different places of one. -/
def FRef.apart (r q : FRef) : Bool :=
  q.ok && (decide (r.off / 4 ≠ q.off / 4) || decide (r.msb < q.lsb) || decide (q.msb < r.lsb))

@[simp] theorem rkey_same (b o p : Nat) : rkey b o = rkey b p ↔ o / 4 = p / 4 := by unfold rkey; omega

theorem rkey_block {b c o p : Nat} (h : b ≠ c) (ho : o < 4096) (hp : p < 4096) : rkey b o ≠ rkey c p := by
  unfold rkey; omega

variable (s : State)

theorem State.rd_wr (b off b' off' : Nat) (v : Word) :
    (s.wr b off v).rd b' off' = if rkey b' off' = rkey b off then v else s.rd b' off' := by
  simp [State.rd, State.wr, Store.get_set]

@[simp] theorem State.rd_wr_same (b off : Nat) (v : Word) : (s.wr b off v).rd b off = v := by simp [State.rd_wr]

theorem State.rd_wr_ne {b off b' off' : Nat} (v : Word) (h : rkey b' off' ≠ rkey b off) :
    (s.wr b off v).rd b' off' = s.rd b' off' := by simp [State.rd_wr, h]

@[simp] theorem State.rd_wr_reg (b off off' : Nat) (v : Word) :
    (s.wr b off v).rd b off' = if off' / 4 = off / 4 then v else s.rd b off' := by simp [State.rd_wr]

theorem State.rd_wr_block {b b' off off' : Nat} (v : Word) (h : b' ≠ b) (ho : off < 4096) (ho' : off' < 4096) :
    (s.wr b off v).rd b' off' = s.rd b' off' := State.rd_wr_ne s v (rkey_block h ho' ho)

theorem State.rd_of_regs {s t : State} (h : t.regs = s.regs) (b off : Nat) : t.rd b off = s.rd b off := by
  simp [State.rd, h]

/-- A word with a field replaced, bit by bit. -/
theorem FRef.put_testBit {r : FRef} (h : r.ok = true) (w : Word) (v i : Nat) :
    (r.put w v).toNat.testBit i =
      if r.lsb ≤ i ∧ i ≤ r.msb then v.testBit (i - r.lsb) else w.toNat.testBit i := by
  simp only [FRef.ok, Bool.and_eq_true, decide_eq_true_eq] at h
  obtain ⟨h1, h2⟩ := h
  obtain ⟨k, hk⟩ : ∃ k, k = r.msb - r.lsb + 1 := ⟨_, rfl⟩
  have hw : w.toNat = 2 ^ r.lsb * (2 ^ k * (w.toNat / 2 ^ r.lsb / 2 ^ k) + w.toNat / 2 ^ r.lsb % 2 ^ k) +
      w.toNat % 2 ^ r.lsb := by
    rw [Nat.div_add_mod, Nat.div_add_mod]
  have hl : w.toNat % 2 ^ r.lsb < 2 ^ r.lsb := Nat.mod_lt _ (by positivity)
  have hm : w.toNat / 2 ^ r.lsb % 2 ^ k < 2 ^ k := Nat.mod_lt _ (by positivity)
  have hv : v % 2 ^ k < 2 ^ k := Nat.mod_lt _ (by positivity)
  have hlt : w.toNat < 2 ^ 32 := w.isLt
  generalize w.toNat / 2 ^ r.lsb / 2 ^ k = hi at *
  have hbit : ∀ m, m < 2 ^ k → ∀ j, (2 ^ r.lsb * (2 ^ k * hi + m) + w.toNat % 2 ^ r.lsb).testBit j =
      if j < r.lsb then (w.toNat % 2 ^ r.lsb).testBit j
      else if j - r.lsb < k then m.testBit (j - r.lsb) else hi.testBit (j - r.lsb - k) := by
    intro m hm j
    rw [Nat.testBit_two_pow_mul_add _ hl]
    split
    · rfl
    · rw [Nat.testBit_two_pow_mul_add _ hm]
  have key : (r.put w v).toNat = 2 ^ r.lsb * (2 ^ k * hi + v % 2 ^ k) + w.toNat % 2 ^ r.lsb := by
    unfold FRef.put FRef.of w32
    rw [← hk]
    generalize w.toNat / 2 ^ r.lsb % 2 ^ k = mid at *
    have e : w.toNat - mid * 2 ^ r.lsb + v % 2 ^ k * 2 ^ r.lsb =
        2 ^ r.lsb * (2 ^ k * hi + v % 2 ^ k) + w.toNat % 2 ^ r.lsb := by
      conv_lhs => rw [hw]
      rw [Nat.mul_add, Nat.mul_add, Nat.mul_comm mid, Nat.mul_comm (v % 2 ^ k)]
      omega
    rw [e, BitVec.toNat_ofNat, Nat.mod_eq_of_lt]
    apply Nat.lt_of_testBit 32
    · rw [hbit _ hv]
      have : w.toNat.testBit 32 = false := Nat.testBit_lt_two_pow hlt
      rw [hw, hbit _ hm] at this
      have h3 : ¬ (32 < r.lsb) := by omega
      have h4 : ¬ (32 - r.lsb < k) := by omega
      simp only [h3, h4, if_false] at this ⊢
      exact this
    · decide
    · intro j hj
      rw [hbit _ hv]
      have : w.toNat.testBit j = false :=
        Nat.testBit_lt_two_pow (Nat.lt_of_lt_of_le hlt (Nat.pow_le_pow_right (by omega) (by omega)))
      rw [hw, hbit _ hm] at this
      have h3 : ¬ (j < r.lsb) := by omega
      have h4 : ¬ (j - r.lsb < k) := by omega
      simp only [h3, h4, if_false] at this ⊢
      rw [this, Nat.testBit_two_pow]
      simp; omega
  have hw' := congrArg (fun n => n.testBit i) hw
  simp only [hbit _ hm] at hw'
  rw [key, hbit _ hv, hw']
  by_cases h5 : i < r.lsb
  · simp [h5, Nat.not_le.2 h5]
  · by_cases h6 : i - r.lsb < k
    · have h7 : r.lsb ≤ i ∧ i ≤ r.msb := ⟨by omega, by omega⟩
      simp [h5, h6, h7, Nat.testBit_mod_two_pow]
    · have h7 : ¬ (r.lsb ≤ i ∧ i ≤ r.msb) := by omega
      simp [h5, h6, h7]

/-- A field's value, bit by bit. -/
theorem FRef.of_testBit (r : FRef) (w : Word) (i : Nat) :
    (r.of w).testBit i = (decide (i < r.msb - r.lsb + 1) && w.toNat.testBit (r.lsb + i)) := by
  unfold FRef.of
  rw [Nat.testBit_mod_two_pow, Nat.testBit_div_two_pow, Nat.add_comm i]

theorem FRef.of_put {r : FRef} (h : r.ok = true) (w : Word) (v : Nat) :
    r.of (r.put w v) = v % 2 ^ (r.msb - r.lsb + 1) := by
  have h' := h
  simp only [FRef.ok, Bool.and_eq_true, decide_eq_true_eq] at h'
  apply Nat.eq_of_testBit_eq
  intro i
  rw [FRef.of_testBit, FRef.put_testBit h, Nat.testBit_mod_two_pow]
  by_cases hi : i < r.msb - r.lsb + 1
  · have : r.lsb ≤ r.lsb + i ∧ r.lsb + i ≤ r.msb := by omega
    simp [hi, this]
  · simp [hi]

theorem FRef.of_put_apart {r q : FRef} (h : r.ok = true) (hq : q.ok = true) (w : Word) (v : Nat)
    (ha : r.msb < q.lsb ∨ q.msb < r.lsb) : q.of (r.put w v) = q.of w := by
  simp only [FRef.ok, Bool.and_eq_true, decide_eq_true_eq] at h hq
  apply Nat.eq_of_testBit_eq
  intro i
  rw [FRef.of_testBit, FRef.of_testBit, FRef.put_testBit (by simp [FRef.ok, h])]
  by_cases hi : i < q.msb - q.lsb + 1
  · have : ¬ (r.lsb ≤ q.lsb + i ∧ q.lsb + i ≤ r.msb) := by omega
    simp [this]
  · simp [hi]

/-! ## Fields of the state -/

theorem State.fld_of_regs {s t : State} (h : t.regs = s.regs) (b : Nat) (r : FRef) : t.fld b r = s.fld b r := by
  simp [State.fld, State.rd_of_regs h]

theorem State.flag_of_regs {s t : State} (h : t.regs = s.regs) (b : Nat) (r : FRef) : t.flag b r = s.flag b r := by
  simp [State.flag, State.fld_of_regs h]

theorem State.fld_wr (b off : Nat) (v : Word) (r : FRef) :
    (s.wr b off v).fld b r = if r.off / 4 = off / 4 then r.of v else s.fld b r := by
  simp only [State.fld, State.rd_wr_reg]; split <;> rfl

theorem State.fld_put {b : Nat} {r : FRef} (v : Nat) (h : r.ok = true) :
    (s.put b r v).fld b r = v % 2 ^ (r.msb - r.lsb + 1) := by
  simp [State.put, State.fld_wr, FRef.of_put h]

theorem State.fld_put_apart {b : Nat} {r q : FRef} (v : Nat) (h : r.ok = true) (ha : r.apart q = true) :
    (s.put b r v).fld b q = s.fld b q := by
  unfold State.put
  rw [State.fld_wr]
  split
  · next e =>
    simp only [FRef.apart, Bool.and_eq_true, Bool.or_eq_true, decide_eq_true_eq] at ha
    have : s.rd b r.off = s.rd b q.off := by
      simp only [State.rd, show rkey b r.off = rkey b q.off from (rkey_same b _ _).2 e.symm]
    rw [FRef.of_put_apart h ha.1 _ _ (by omega), State.fld, this]
  · rfl

theorem State.fld_put_block {b c : Nat} {r q : FRef} (v : Nat) (h : c ≠ b) (ho : r.off < 4096) (hq : q.off < 4096) :
    (s.put b r v).fld c q = s.fld c q := by
  unfold State.put State.fld
  rw [State.rd_wr_block _ _ h ho hq]

theorem State.rd_put_reg {b : Nat} {r : FRef} (v off : Nat) (h : off / 4 ≠ r.off / 4) :
    (s.put b r v).rd b off = s.rd b off := by
  simp [State.put, h]

theorem State.flag_put {b : Nat} {r : FRef} (v : Nat) (h : r.ok = true) :
    (s.put b r v).flag b r = (v % 2 ^ (r.msb - r.lsb + 1) != 0) := by
  simp [State.flag, State.fld_put s v h]

theorem State.flag_put_apart {b : Nat} {r q : FRef} (v : Nat) (h : r.ok = true) (ha : r.apart q = true) :
    (s.put b r v).flag b q = s.flag b q := by
  simp [State.flag, State.fld_put_apart s v h ha]

/-! ## Hidden state -/

@[simp] theorem State.unit_setUnit (w v : Nat) (x : UnitX) :
    (s.setUnit w x).unit v = if v = w then x else s.unit v := by
  simp [State.unit, State.setUnit, Store.get_set]

@[simp] theorem State.ax_setAx (w i v j : Nat) (h : i < 64) (hj : j < 64) (x : Nat) :
    (s.setAx w i v).ax x j = if x = w ∧ j = i then v else s.ax x j := by
  simp only [State.ax, State.setAx, Store.get_set]
  by_cases e : x = w ∧ j = i
  · simp [e]
  · have : ¬ (x * 64 + j = w * 64 + i) := by omega
    simp [e, this]

@[simp] theorem State.bl_setBl (k j : Nat) (v : List Nat) :
    (s.setBl k v).bl j = if j = k then v else s.bl j := by
  simp [State.bl, State.setBl, Store.get_set]

theorem State.hs_setHs (w i j : Nat) (v : List Int) (h : i < 64) (hj : j < 64) (x : Nat) :
    (s.setHs w i v).hs x j = if x = w ∧ j = i then v else s.hs x j := by
  simp only [State.hs, State.setHs, Store.get_set]
  by_cases e : x = w ∧ j = i
  · simp [e]
  · have : ¬ (x * 64 + j = w * 64 + i) := by omega
    simp [e, this]

@[simp] theorem State.semOwner_setSem (n o k : Nat) :
    (s.setSem n o).semOwner k = if k = n then o else s.semOwner k := by
  simp [State.semOwner, State.setSem, Store.get_set]

@[simp] theorem State.fifo_setFifo (h g : Bool) (n k : Nat) (f : FifoX) :
    (s.setFifo h n f).fifo g k = if g = h ∧ k = n then f else s.fifo g k := by
  cases h <;> cases g <;> simp [State.fifo, State.setFifo, Store.get_set]

@[simp] theorem State.rdByte_wrByte (a b : Nat) (v : Byte) :
    (s.wrByte a v).rdByte b = if b = a then v else s.rdByte b := by
  simp [State.rdByte, State.wrByte, Store.get_set]

/-! ## Events and counters -/

/-- Where an event bit of a unit latches: UNIT_EVENT alone changes. -/
theorem State.raiseKind_rd (w bit b off : Nat) :
    (s.raiseKind w bit).rd b off =
      if rkey b off = rkey w 0x00C then s.rd w 0x00C ||| (1#32 <<< bit) else s.rd b off := by
  rw [← State.rd_wr]
  unfold State.raiseKind
  dsimp only
  split
  · exact State.rd_of_regs (by simp) b off
  · rfl

theorem State.raiseKind_fld (w bit b : Nat) (r : FRef) (h : rkey b r.off ≠ rkey w 0x00C) :
    (s.raiseKind w bit).fld b r = s.fld b r := by
  simp [State.fld, State.raiseKind_rd, h]

@[simp] theorem State.raiseKind_fld_reg (w bit : Nat) (r : FRef) (h : r.off / 4 ≠ 3) :
    (s.raiseKind w bit).fld w r = s.fld w r := State.raiseKind_fld s w bit w r (by simpa using h)

@[simp] theorem State.raiseKind_flag_reg (w bit : Nat) (r : FRef) (h : r.off / 4 ≠ 3) :
    (s.raiseKind w bit).flag w r = s.flag w r := by simp [State.flag, h]

/-- The event bit reads 1 after its event. -/
theorem State.raiseKind_event (w bit : Nat) (h : bit < 32) : ((s.raiseKind w bit).rd w 0x00C).getLsbD bit = true := by
  simp [State.raiseKind_rd, h]

@[simp] theorem State.raise_rd (e b off : Nat) : (s.raise e).rd b off = s.rd b off := State.rd_of_regs (by simp) b off

@[simp] theorem State.raise_fld (e b : Nat) (r : FRef) : (s.raise e).fld b r = s.fld b r :=
  State.fld_of_regs (by simp) b r

@[simp] theorem State.raise_flag (e b : Nat) (r : FRef) : (s.raise e).flag b r = s.flag b r :=
  State.flag_of_regs (by simp) b r

theorem State.routeFerry_latch (e : Nat) : (s.routeFerry e).board = s.board := by
  unfold State.routeFerry; split <;> rfl

theorem State.ringHigh_latch (b : Nat) : (s.ringHigh b).board.latch = s.board.latch := by
  unfold State.ringHigh; dsimp only; split
  · rw [State.routeFerry_latch]
  · rfl

theorem State.occur_latch (e : Nat) : (s.occur e).board.latch = s.board.latch := by
  unfold State.occur
  repeat' split
  all_goals simp [State.ringHigh_latch]

theorem State.raise_latch (e : Nat) : (s.raise e).board.latch = s.board.latch ||| (1#128 <<< e) := by
  simp [State.raise, State.occur_latch]

/-- A direct event's latch reads 1 after the event. -/
theorem State.raise_event (e : Nat) (h : e < 128) : (s.raise e).board.latch.getLsbD e = true := by
  simp [State.raise_latch, h]

/-- A statistics counter counts one, and stops at its top (R45). -/
theorem State.count_rd (b : Nat) (r : FRef) (h1 : r.off / 4 ≠ ovfOff b / 4) (h2 : r.off / 4 ≠ 3) :
    (s.count b r).rd b r.off = if s.rd b r.off = 0xFFFFFFFF then s.rd b r.off else s.rd b r.off + 1 := by
  unfold State.count
  dsimp only
  split
  · rfl
  · split
    · split <;> simp [State.raiseKind_rd, h1, h2]
    · simp

/-- A counter touches its own register, its block's overflow bits and UNIT_EVENT alone. -/
theorem State.count_rd_other (b : Nat) (r : FRef) (c off : Nat) (h1 : rkey c off ≠ rkey b r.off)
    (h2 : rkey c off ≠ rkey b (ovfOff b)) (h3 : rkey c off ≠ rkey b 0x00C) : (s.count b r).rd c off = s.rd c off := by
  unfold State.count
  dsimp only
  split
  · rfl
  · split
    · split <;> simp [State.raiseKind_rd, State.rd_wr, h1, h2, h3]
    · simp [State.rd_wr, h1]

theorem State.count_fld (b : Nat) (r q : FRef) (h1 : q.off / 4 ≠ r.off / 4) (h2 : q.off / 4 ≠ ovfOff b / 4)
    (h3 : q.off / 4 ≠ 3) : (s.count b r).fld b q = s.fld b q := by
  simp only [State.fld]
  rw [State.count_rd_other] <;> simpa

/-- An error code stands in UNIT_ERR. -/
theorem State.setErr_fld (w code : Nat) :
    (s.setErr w code).fld w UCB.UNIT_ERR_CODE = code % 2 ^ (UCB.UNIT_ERR_CODE.msb - UCB.UNIT_ERR_CODE.lsb + 1) := by
  unfold State.setErr
  rw [State.raiseKind_fld_reg _ _ _ _ (by decide), State.fld_put _ _ (by decide)]

end Sys2Proof.Machine
end

