-- ==== Sys2Proof/Laws/Frames.lean ====
section
/-! SUPPORT. The frames of the shared operations, how frames chain, and what an accepted write or a served message
comes to. -/

namespace Sys2Proof.Machine

theorem Frame.refl (s : State) : Frame [] s s :=
  ⟨fun _ _ _ => rfl, fun _ => rfl, rfl, rfl, rfl, rfl, rfl, rfl, rfl, rfl, rfl, rfl, rfl, rfl, rfl, rfl, rfl, rfl⟩

theorem Frame.mono {ks ls : List (Nat × Nat)} {s t : State} (h : Frame ks s t) (hk : ∀ k ∈ ks, k ∈ ls) :
    Frame ls s t :=
  { h with regs := fun b off hb => h.regs b off (fun k hm => hb k (hk k hm)) }

theorem Frame.trans {ks ls : List (Nat × Nat)} {s t u : State} (h : Frame ks s t) (k : Frame ls t u) :
    Frame (ks ++ ls) s u where
  regs b off hb := (k.regs b off (fun x hx => hb x (by simp [hx]))).trans (h.regs b off (fun x hx => hb x (by simp [hx])))
  mem a := (k.mem a).trans (h.mem a)
  tree := k.tree.trans h.tree
  fw := k.fw.trans h.fw
  td := k.td.trans h.td
  th := k.th.trans h.th
  sems := k.sems.trans h.sems
  readLatch := k.readLatch.trans h.readLatch
  writeLatch := k.writeLatch.trans h.writeLatch
  guest := k.guest.trans h.guest
  scan := k.scan.trans h.scan
  clock := k.clock.trans h.clock
  power := k.power.trans h.power
  nv := k.nv.trans h.nv
  signboard := k.signboard.trans h.signboard
  signboardGen := k.signboardGen.trans h.signboardGen
  part := k.part.trans h.part
  pending := k.pending.trans h.pending

/-- A step of a chain: what has changed so far, and one operation more. -/
theorem Frame.step {ks ls ms : List (Nat × Nat)} {s t u : State} (k : Frame ls t u) (h : Frame ks s t)
    (hm : ∀ x ∈ ks ++ ls, x ∈ ms) : Frame ms s u := (h.trans k).mono hm

variable (s : State)

theorem State.rdByte_of_mem {s t : State} (h : t.mem = s.mem) (a : Nat) : t.rdByte a = s.rdByte a := by
  simp [State.rdByte, h]

theorem frame_wr (b off : Nat) (v : Word) : Frame [(b, off)] s (s.wr b off v) where
  regs c o h := State.rd_wr_ne s v (h (b, off) (by simp))
  mem _ := rfl
  tree := rfl
  fw := rfl
  td := rfl
  th := rfl
  sems := rfl
  readLatch := rfl
  writeLatch := rfl
  guest := rfl
  scan := rfl
  clock := rfl
  power := rfl
  nv := rfl
  signboard := rfl
  signboardGen := rfl
  part := rfl
  pending := rfl

theorem frame_put (b : Nat) (r : FRef) (v : Nat) : Frame [(b, r.off)] s (s.put b r v) := frame_wr s b r.off _

theorem frame_putB (b : Nat) (r : FRef) (v : Bool) : Frame [(b, r.off)] s (s.putB b r v) := frame_put s b r _

theorem frame_putI (b : Nat) (r : FRef) (v : Int) : Frame [(b, r.off)] s (s.putI b r v) := frame_put s b r _

theorem frame_bump (b : Nat) (r : FRef) (n : Nat) : Frame [(b, r.off)] s (s.bump b r n) := frame_wr s b r.off _

theorem frame_setUnit (w : Nat) (x : UnitX) : Frame [] s (s.setUnit w x) :=
  ⟨fun _ _ _ => rfl, fun _ => rfl, rfl, rfl, rfl, rfl, rfl, rfl, rfl, rfl, rfl, rfl, rfl, rfl, rfl, rfl, rfl, rfl⟩

theorem frame_setAx (w i v : Nat) : Frame [] s (s.setAx w i v) :=
  ⟨fun _ _ _ => rfl, fun _ => rfl, rfl, rfl, rfl, rfl, rfl, rfl, rfl, rfl, rfl, rfl, rfl, rfl, rfl, rfl, rfl, rfl⟩

theorem frame_setHs (w i : Nat) (v : List Int) : Frame [] s (s.setHs w i v) :=
  ⟨fun _ _ _ => rfl, fun _ => rfl, rfl, rfl, rfl, rfl, rfl, rfl, rfl, rfl, rfl, rfl, rfl, rfl, rfl, rfl, rfl, rfl⟩

theorem frame_setBl (k : Nat) (v : List Nat) : Frame [] s (s.setBl k v) :=
  ⟨fun _ _ _ => rfl, fun _ => rfl, rfl, rfl, rfl, rfl, rfl, rfl, rfl, rfl, rfl, rfl, rfl, rfl, rfl, rfl, rfl, rfl⟩

theorem frame_useFresh : Frame [] s s.useFresh :=
  ⟨fun _ _ _ => rfl, fun _ => rfl, rfl, rfl, rfl, rfl, rfl, rfl, rfl, rfl, rfl, rfl, rfl, rfl, rfl, rfl, rfl, rfl⟩

theorem frame_ans (ws : List Word) : Frame [] s (s.ans ws) :=
  ⟨fun _ _ _ => rfl, fun _ => rfl, rfl, rfl, rfl, rfl, rfl, rfl, rfl, rfl, rfl, rfl, rfl, rfl, rfl, rfl, rfl, rfl⟩

theorem frame_sendFrame (f : FrameX) : Frame [] s (s.sendFrame f) :=
  ⟨fun _ _ _ => rfl, fun _ => rfl, rfl, rfl, rfl, rfl, rfl, rfl, rfl, rfl, rfl, rfl, rfl, rfl, rfl, rfl, rfl, rfl⟩

theorem frame_raise (e : Nat) : Frame [] s (s.raise e) where
  regs b off _ := State.raise_rd s e b off
  mem a := State.rdByte_of_mem (by simp) a
  tree := by simp
  fw := by simp
  td := by simp
  th := by simp
  sems := by simp
  readLatch := by simp
  writeLatch := by simp
  guest := by simp
  scan := by simp
  clock := by simp
  power := by simp
  nv := by simp
  signboard := by simp
  signboardGen := by simp
  part := by simp
  pending := by simp

theorem frame_raiseKind (w bit : Nat) : Frame [(w, 0x00C)] s (s.raiseKind w bit) where
  regs b off h := by
    have := h (w, 0x00C) (by simp)
    simp only [State.raiseKind_rd, this, if_false]
  mem a := State.rdByte_of_mem (by simp) a
  tree := by simp
  fw := by simp
  td := by simp
  th := by simp
  sems := by simp
  readLatch := by simp
  writeLatch := by simp
  guest := by simp
  scan := by simp
  clock := by simp
  power := by simp
  nv := by simp
  signboard := by simp
  signboardGen := by simp
  part := by simp
  pending := by simp

theorem frame_count (b : Nat) (r : FRef) : Frame (counterKeys b r.off) s (s.count b r) where
  regs c off h := State.count_rd_other s b r c off (h (b, r.off) (by simp [counterKeys]))
    (h (b, ovfOff b) (by simp [counterKeys])) (h (b, 0x00C) (by simp [counterKeys]))
  mem a := State.rdByte_of_mem (by simp) a
  tree := by simp
  fw := by simp
  td := by simp
  th := by simp
  sems := by simp
  readLatch := by simp
  writeLatch := by simp
  guest := by simp
  scan := by simp
  clock := by simp
  power := by simp
  nv := by simp
  signboard := by simp
  signboardGen := by simp
  part := by simp
  pending := by simp

theorem frame_setErr (w code : Nat) : Frame [(w, UCB.UNIT_ERR_CODE.off), (w, 0x00C)] s (s.setErr w code) :=
  (frame_put s w UCB.UNIT_ERR_CODE code).trans (frame_raiseKind _ w evERROR)

/-! ## One more update within a frame -/

section
variable {s} {ks : List (Nat × Nat)} {u : State}

theorem Frame.refl0 : Frame ks s s := (Frame.refl s).mono (by simp)

theorem Frame.wr {b off : Nat} {v : Word} (h : Frame ks s u) (h0 : (b, off) ∈ ks) : Frame ks s (u.wr b off v) :=
  Frame.step (frame_wr u b off v) h (by simp; aesop)

theorem Frame.put {b : Nat} {r : FRef} {v : Nat} (h : Frame ks s u) (h0 : (b, r.off) ∈ ks) : Frame ks s (u.put b r v) :=
  Frame.step (frame_put u b r v) h (by simp; aesop)

theorem Frame.putB {b : Nat} {r : FRef} {v : Bool} (h : Frame ks s u) (h0 : (b, r.off) ∈ ks) : Frame ks s (u.putB b r v) :=
  Frame.step (frame_putB u b r v) h (by simp; aesop)

theorem Frame.putI {b : Nat} {r : FRef} {v : Int} (h : Frame ks s u) (h0 : (b, r.off) ∈ ks) : Frame ks s (u.putI b r v) :=
  Frame.step (frame_putI u b r v) h (by simp; aesop)

theorem Frame.bump {b : Nat} {r : FRef} {n : Nat} (h : Frame ks s u) (h0 : (b, r.off) ∈ ks) : Frame ks s (u.bump b r n) :=
  Frame.step (frame_bump u b r n) h (by simp; aesop)

theorem Frame.setUnit {w : Nat} {x : UnitX} (h : Frame ks s u) : Frame ks s (u.setUnit w x) :=
  Frame.step (frame_setUnit u w x) h (by simp)

theorem Frame.setAx {w i v : Nat} (h : Frame ks s u) : Frame ks s (u.setAx w i v) :=
  Frame.step (frame_setAx u w i v) h (by simp)

theorem Frame.setHs {w i : Nat} {v : List Int} (h : Frame ks s u) : Frame ks s (u.setHs w i v) :=
  Frame.step (frame_setHs u w i v) h (by simp)

theorem Frame.setBl {k : Nat} {v : List Nat} (h : Frame ks s u) : Frame ks s (u.setBl k v) :=
  Frame.step (frame_setBl u k v) h (by simp)

theorem Frame.useFresh  (h : Frame ks s u) : Frame ks s (u.useFresh) :=
  Frame.step (frame_useFresh u) h (by simp)

theorem Frame.ans {ws : List Word} (h : Frame ks s u) : Frame ks s (u.ans ws) :=
  Frame.step (frame_ans u ws) h (by simp)

theorem Frame.sendFrame {f : FrameX} (h : Frame ks s u) : Frame ks s (u.sendFrame f) :=
  Frame.step (frame_sendFrame u f) h (by simp)

theorem Frame.raise {e : Nat} (h : Frame ks s u) : Frame ks s (u.raise e) :=
  Frame.step (frame_raise u e) h (by simp)

theorem Frame.raiseKind {w bit : Nat} (h : Frame ks s u) (h0 : (w, 0x00C) ∈ ks) : Frame ks s (u.raiseKind w bit) :=
  Frame.step (frame_raiseKind u w bit) h (by simp; aesop)

theorem Frame.setErr {w c : Nat} (h : Frame ks s u) (h0 : (w, UCB.UNIT_ERR_CODE.off) ∈ ks) (h1 : (w, 0x00C) ∈ ks) : Frame ks s (u.setErr w c) :=
  Frame.step (frame_setErr u w c) h (by simp; aesop)

theorem Frame.count {b : Nat} {r : FRef} (h : Frame ks s u) (h0 : (b, r.off) ∈ ks) (h1 : (b, ovfOff b) ∈ ks) (h2 : (b, 0x00C) ∈ ks) : Frame ks s (u.count b r) :=
  Frame.step (frame_count u b r) h (by simp [counterKeys]; aesop)

end

/-- The counter's own register after one count. -/
theorem State.count_counted (b : Nat) (r : FRef) (h1 : r.off / 4 ≠ ovfOff b / 4) (h2 : r.off / 4 ≠ 3) :
    (s.count b r).rd b r.off = counted (s.rd b r.off) := State.count_rd s b r h1 h2

theorem ovfOff_window {w : Nat} (h : w < 0x400) : ovfOff w = 0x028 := by simp [ovfOff, h]

/-- An accepted write does what its register does, and a lead tells of it. -/
theorem State.guarded_accepts {m b off : Nat} {v : Word} {extra : List Nat} {act : State → State}
    (h : s.accepts m b off v extra = true) : s.guarded m b off v extra act = s.told m b off v (act s) := by
  simp only [State.accepts, Bool.and_eq_true, Bool.or_eq_true, Bool.not_eq_true', decide_eq_false_iff_not] at h
  obtain ⟨⟨h1, h2⟩, h3⟩ := h
  have hj : s.judged m b off v extra act = act s := by
    unfold State.judged
    cases hr : regAt b off with
    | none => simp [hr] at h3
    | some r =>
      simp only [hr, Bool.and_eq_true, Bool.not_eq_true', Option.isNone_iff_eq_none] at h3
      by_cases hb : b < 0x400
      · have hp : s.present b = true := h2.resolve_left (by simpa using hb)
        simp only [hb, if_true] at h3
        simp [hb, hp, h3.1, h3.2]
      · simp only [hb, if_false] at h3
        simp [hb, h3.1, h3.2]
  simp only [State.guarded, h1, State.told, hj]
  rfl

/-- A message that firmware serves has the effect of its body. -/
theorem State.serve_serves {ph op tag : Nat} {body : State → State} (h : s.serves ph op = true) :
    s.serve ph op tag body = body (s.heard ph) := by
  simp only [State.serves, Bool.and_eq_true] at h
  obtain ⟨h1, h2⟩ := h
  unfold State.serve State.heard
  simp only [h1, Bool.not_true, Bool.false_eq_true, if_false]
  by_cases hq : s.ferry.quiet = true
  · simp [hq]
  · simp only [hq, Bool.false_or, Bool.and_eq_true, Bool.not_eq_true'] at h2
    simp only [hq, Bool.false_eq_true, if_false]
    obtain ⟨h3, h4⟩ := h2
    have h3' : (Store.get (fun _ => FifoX.init) s.td ph).collision = false := h3
    simp [State.fifo, h3', h4]

end Sys2Proof.Machine
end

