-- ==== Sys2Proof/Laws/Reads.lean ====
section
/-! SUPPORT. What each reading of the state still reads after an update of something else. -/

namespace Sys2Proof.Machine

variable (s : State)

@[simp] theorem State.heard_pending (ph : Nat) : (s.heard ph).pending = s.pending := by unfold State.heard; split <;> rfl
@[simp] theorem State.heard_part (ph : Nat) : (s.heard ph).part = s.part := by unfold State.heard; split <;> rfl
@[simp] theorem State.heard_regs (ph : Nat) : (s.heard ph).regs = s.regs := by unfold State.heard; split <;> rfl
@[simp] theorem State.heard_mem (ph : Nat) : (s.heard ph).mem = s.mem := by unfold State.heard; split <;> rfl
@[simp] theorem State.heard_units (ph : Nat) : (s.heard ph).units = s.units := by unfold State.heard; split <;> rfl
@[simp] theorem State.heard_aux (ph : Nat) : (s.heard ph).aux = s.aux := by unfold State.heard; split <;> rfl
@[simp] theorem State.heard_hist (ph : Nat) : (s.heard ph).hist = s.hist := by unfold State.heard; split <;> rfl
@[simp] theorem State.heard_tree (ph : Nat) : (s.heard ph).tree = s.tree := by unfold State.heard; split <;> rfl
@[simp] theorem State.heard_fw (ph : Nat) : (s.heard ph).fw = s.fw := by unfold State.heard; split <;> rfl
@[simp] theorem State.heard_td (ph : Nat) : (s.heard ph).td = s.td := by unfold State.heard; split <;> rfl
@[simp] theorem State.heard_th (ph : Nat) : (s.heard ph).th = s.th := by unfold State.heard; split <;> rfl
@[simp] theorem State.heard_bytes (ph : Nat) : (s.heard ph).bytes = s.bytes := by unfold State.heard; split <;> rfl
@[simp] theorem State.heard_sems (ph : Nat) : (s.heard ph).sems = s.sems := by unfold State.heard; split <;> rfl
@[simp] theorem State.heard_readLatch (ph : Nat) : (s.heard ph).readLatch = s.readLatch := by unfold State.heard; split <;> rfl
@[simp] theorem State.heard_writeLatch (ph : Nat) : (s.heard ph).writeLatch = s.writeLatch := by unfold State.heard; split <;> rfl
@[simp] theorem State.heard_guest (ph : Nat) : (s.heard ph).guest = s.guest := by unfold State.heard; split <;> rfl
@[simp] theorem State.heard_scan (ph : Nat) : (s.heard ph).scan = s.scan := by unfold State.heard; split <;> rfl
@[simp] theorem State.heard_clock (ph : Nat) : (s.heard ph).clock = s.clock := by unfold State.heard; split <;> rfl
@[simp] theorem State.heard_power (ph : Nat) : (s.heard ph).power = s.power := by unfold State.heard; split <;> rfl
@[simp] theorem State.heard_ferry (ph : Nat) : (s.heard ph).ferry = s.ferry := by unfold State.heard; split <;> rfl
@[simp] theorem State.heard_nv (ph : Nat) : (s.heard ph).nv = s.nv := by unfold State.heard; split <;> rfl
@[simp] theorem State.heard_signboard (ph : Nat) : (s.heard ph).signboard = s.signboard := by unfold State.heard; split <;> rfl
@[simp] theorem State.heard_signboardGen (ph : Nat) : (s.heard ph).signboardGen = s.signboardGen := by unfold State.heard; split <;> rfl
@[simp] theorem State.heard_answer (ph : Nat) : (s.heard ph).answer = s.answer := by unfold State.heard; split <;> rfl
@[simp] theorem State.heard_fresh (ph : Nat) : (s.heard ph).fresh = s.fresh := by unfold State.heard; split <;> rfl

@[simp] theorem State.wr_ax (b off : Nat) (v : Word) (v' j : Nat) : (s.wr b off v).ax v' j = s.ax v' j := rfl
@[simp] theorem State.wr_hs (b off : Nat) (v : Word) (v' j : Nat) : (s.wr b off v).hs v' j = s.hs v' j := rfl
@[simp] theorem State.wr_bl (b off : Nat) (v : Word) (j : Nat) : (s.wr b off v).bl j = s.bl j := rfl
@[simp] theorem State.wr_unit (b off : Nat) (v : Word) (v' : Nat) : (s.wr b off v).unit v' = s.unit v' := rfl
@[simp] theorem State.wr_rdByte (b off : Nat) (v : Word) (d : Nat) : (s.wr b off v).rdByte d = s.rdByte d := rfl
@[simp] theorem State.wr_fifo (b off : Nat) (v : Word) (g : Bool) (k' : Nat) : (s.wr b off v).fifo g k' = s.fifo g k' := rfl
@[simp] theorem State.wr_semOwner (b off : Nat) (v : Word) (k' : Nat) : (s.wr b off v).semOwner k' = s.semOwner k' := rfl
@[simp] theorem State.wr_latched (b off : Nat) (v : Word) (m' c' p : Nat) : (s.wr b off v).latched m' c' p = s.latched m' c' p := rfl
@[simp] theorem State.put_ax (b : Nat) (r : FRef) (v : Nat) (v' j : Nat) : (s.put b r v).ax v' j = s.ax v' j := rfl
@[simp] theorem State.put_hs (b : Nat) (r : FRef) (v : Nat) (v' j : Nat) : (s.put b r v).hs v' j = s.hs v' j := rfl
@[simp] theorem State.put_bl (b : Nat) (r : FRef) (v : Nat) (j : Nat) : (s.put b r v).bl j = s.bl j := rfl
@[simp] theorem State.put_unit (b : Nat) (r : FRef) (v : Nat) (v' : Nat) : (s.put b r v).unit v' = s.unit v' := rfl
@[simp] theorem State.put_rdByte (b : Nat) (r : FRef) (v : Nat) (d : Nat) : (s.put b r v).rdByte d = s.rdByte d := rfl
@[simp] theorem State.put_fifo (b : Nat) (r : FRef) (v : Nat) (g : Bool) (k' : Nat) : (s.put b r v).fifo g k' = s.fifo g k' := rfl
@[simp] theorem State.put_semOwner (b : Nat) (r : FRef) (v : Nat) (k' : Nat) : (s.put b r v).semOwner k' = s.semOwner k' := rfl
@[simp] theorem State.put_latched (b : Nat) (r : FRef) (v : Nat) (m' c' p : Nat) : (s.put b r v).latched m' c' p = s.latched m' c' p := rfl
@[simp] theorem State.putB_ax (b : Nat) (r : FRef) (v : Bool) (v' j : Nat) : (s.putB b r v).ax v' j = s.ax v' j := rfl
@[simp] theorem State.putB_hs (b : Nat) (r : FRef) (v : Bool) (v' j : Nat) : (s.putB b r v).hs v' j = s.hs v' j := rfl
@[simp] theorem State.putB_bl (b : Nat) (r : FRef) (v : Bool) (j : Nat) : (s.putB b r v).bl j = s.bl j := rfl
@[simp] theorem State.putB_unit (b : Nat) (r : FRef) (v : Bool) (v' : Nat) : (s.putB b r v).unit v' = s.unit v' := rfl
@[simp] theorem State.putB_rdByte (b : Nat) (r : FRef) (v : Bool) (d : Nat) : (s.putB b r v).rdByte d = s.rdByte d := rfl
@[simp] theorem State.putB_fifo (b : Nat) (r : FRef) (v : Bool) (g : Bool) (k' : Nat) : (s.putB b r v).fifo g k' = s.fifo g k' := rfl
@[simp] theorem State.putB_semOwner (b : Nat) (r : FRef) (v : Bool) (k' : Nat) : (s.putB b r v).semOwner k' = s.semOwner k' := rfl
@[simp] theorem State.putB_latched (b : Nat) (r : FRef) (v : Bool) (m' c' p : Nat) : (s.putB b r v).latched m' c' p = s.latched m' c' p := rfl
@[simp] theorem State.putI_ax (b : Nat) (r : FRef) (v : Int) (v' j : Nat) : (s.putI b r v).ax v' j = s.ax v' j := rfl
@[simp] theorem State.putI_hs (b : Nat) (r : FRef) (v : Int) (v' j : Nat) : (s.putI b r v).hs v' j = s.hs v' j := rfl
@[simp] theorem State.putI_bl (b : Nat) (r : FRef) (v : Int) (j : Nat) : (s.putI b r v).bl j = s.bl j := rfl
@[simp] theorem State.putI_unit (b : Nat) (r : FRef) (v : Int) (v' : Nat) : (s.putI b r v).unit v' = s.unit v' := rfl
@[simp] theorem State.putI_rdByte (b : Nat) (r : FRef) (v : Int) (d : Nat) : (s.putI b r v).rdByte d = s.rdByte d := rfl
@[simp] theorem State.putI_fifo (b : Nat) (r : FRef) (v : Int) (g : Bool) (k' : Nat) : (s.putI b r v).fifo g k' = s.fifo g k' := rfl
@[simp] theorem State.putI_semOwner (b : Nat) (r : FRef) (v : Int) (k' : Nat) : (s.putI b r v).semOwner k' = s.semOwner k' := rfl
@[simp] theorem State.putI_latched (b : Nat) (r : FRef) (v : Int) (m' c' p : Nat) : (s.putI b r v).latched m' c' p = s.latched m' c' p := rfl
@[simp] theorem State.setUnit_rd (w : Nat) (x : UnitX) (b' o' : Nat) : (s.setUnit w x).rd b' o' = s.rd b' o' := rfl
@[simp] theorem State.setUnit_fld (w : Nat) (x : UnitX) (b' : Nat) (q : FRef) : (s.setUnit w x).fld b' q = s.fld b' q := rfl
@[simp] theorem State.setUnit_flag (w : Nat) (x : UnitX) (b' : Nat) (q : FRef) : (s.setUnit w x).flag b' q = s.flag b' q := rfl
@[simp] theorem State.setUnit_ax (w : Nat) (x : UnitX) (v' j : Nat) : (s.setUnit w x).ax v' j = s.ax v' j := rfl
@[simp] theorem State.setUnit_hs (w : Nat) (x : UnitX) (v' j : Nat) : (s.setUnit w x).hs v' j = s.hs v' j := rfl
@[simp] theorem State.setUnit_bl (w : Nat) (x : UnitX) (j : Nat) : (s.setUnit w x).bl j = s.bl j := rfl
@[simp] theorem State.setUnit_rdByte (w : Nat) (x : UnitX) (d : Nat) : (s.setUnit w x).rdByte d = s.rdByte d := rfl
@[simp] theorem State.setUnit_fifo (w : Nat) (x : UnitX) (g : Bool) (k' : Nat) : (s.setUnit w x).fifo g k' = s.fifo g k' := rfl
@[simp] theorem State.setUnit_semOwner (w : Nat) (x : UnitX) (k' : Nat) : (s.setUnit w x).semOwner k' = s.semOwner k' := rfl
@[simp] theorem State.setUnit_latched (w : Nat) (x : UnitX) (m' c' p : Nat) : (s.setUnit w x).latched m' c' p = s.latched m' c' p := rfl
@[simp] theorem State.setAx_rd (w i v : Nat) (b' o' : Nat) : (s.setAx w i v).rd b' o' = s.rd b' o' := rfl
@[simp] theorem State.setAx_fld (w i v : Nat) (b' : Nat) (q : FRef) : (s.setAx w i v).fld b' q = s.fld b' q := rfl
@[simp] theorem State.setAx_flag (w i v : Nat) (b' : Nat) (q : FRef) : (s.setAx w i v).flag b' q = s.flag b' q := rfl
@[simp] theorem State.setAx_hs (w i v : Nat) (v' j : Nat) : (s.setAx w i v).hs v' j = s.hs v' j := rfl
@[simp] theorem State.setAx_bl (w i v : Nat) (j : Nat) : (s.setAx w i v).bl j = s.bl j := rfl
@[simp] theorem State.setAx_unit (w i v : Nat) (v' : Nat) : (s.setAx w i v).unit v' = s.unit v' := rfl
@[simp] theorem State.setAx_rdByte (w i v : Nat) (d : Nat) : (s.setAx w i v).rdByte d = s.rdByte d := rfl
@[simp] theorem State.setAx_fifo (w i v : Nat) (g : Bool) (k' : Nat) : (s.setAx w i v).fifo g k' = s.fifo g k' := rfl
@[simp] theorem State.setAx_semOwner (w i v : Nat) (k' : Nat) : (s.setAx w i v).semOwner k' = s.semOwner k' := rfl
@[simp] theorem State.setAx_latched (w i v : Nat) (m' c' p : Nat) : (s.setAx w i v).latched m' c' p = s.latched m' c' p := rfl
@[simp] theorem State.setHs_rd (w i : Nat) (v : List Int) (b' o' : Nat) : (s.setHs w i v).rd b' o' = s.rd b' o' := rfl
@[simp] theorem State.setHs_fld (w i : Nat) (v : List Int) (b' : Nat) (q : FRef) : (s.setHs w i v).fld b' q = s.fld b' q := rfl
@[simp] theorem State.setHs_flag (w i : Nat) (v : List Int) (b' : Nat) (q : FRef) : (s.setHs w i v).flag b' q = s.flag b' q := rfl
@[simp] theorem State.setHs_ax (w i : Nat) (v : List Int) (v' j : Nat) : (s.setHs w i v).ax v' j = s.ax v' j := rfl
@[simp] theorem State.setHs_bl (w i : Nat) (v : List Int) (j : Nat) : (s.setHs w i v).bl j = s.bl j := rfl
@[simp] theorem State.setHs_unit (w i : Nat) (v : List Int) (v' : Nat) : (s.setHs w i v).unit v' = s.unit v' := rfl
@[simp] theorem State.setHs_rdByte (w i : Nat) (v : List Int) (d : Nat) : (s.setHs w i v).rdByte d = s.rdByte d := rfl
@[simp] theorem State.setHs_fifo (w i : Nat) (v : List Int) (g : Bool) (k' : Nat) : (s.setHs w i v).fifo g k' = s.fifo g k' := rfl
@[simp] theorem State.setHs_semOwner (w i : Nat) (v : List Int) (k' : Nat) : (s.setHs w i v).semOwner k' = s.semOwner k' := rfl
@[simp] theorem State.setHs_latched (w i : Nat) (v : List Int) (m' c' p : Nat) : (s.setHs w i v).latched m' c' p = s.latched m' c' p := rfl
@[simp] theorem State.setBl_rd (k : Nat) (v : List Nat) (b' o' : Nat) : (s.setBl k v).rd b' o' = s.rd b' o' := rfl
@[simp] theorem State.setBl_fld (k : Nat) (v : List Nat) (b' : Nat) (q : FRef) : (s.setBl k v).fld b' q = s.fld b' q := rfl
@[simp] theorem State.setBl_flag (k : Nat) (v : List Nat) (b' : Nat) (q : FRef) : (s.setBl k v).flag b' q = s.flag b' q := rfl
@[simp] theorem State.setBl_ax (k : Nat) (v : List Nat) (v' j : Nat) : (s.setBl k v).ax v' j = s.ax v' j := rfl
@[simp] theorem State.setBl_hs (k : Nat) (v : List Nat) (v' j : Nat) : (s.setBl k v).hs v' j = s.hs v' j := rfl
@[simp] theorem State.setBl_unit (k : Nat) (v : List Nat) (v' : Nat) : (s.setBl k v).unit v' = s.unit v' := rfl
@[simp] theorem State.setBl_rdByte (k : Nat) (v : List Nat) (d : Nat) : (s.setBl k v).rdByte d = s.rdByte d := rfl
@[simp] theorem State.setBl_fifo (k : Nat) (v : List Nat) (g : Bool) (k' : Nat) : (s.setBl k v).fifo g k' = s.fifo g k' := rfl
@[simp] theorem State.setBl_semOwner (k : Nat) (v : List Nat) (k' : Nat) : (s.setBl k v).semOwner k' = s.semOwner k' := rfl
@[simp] theorem State.setBl_latched (k : Nat) (v : List Nat) (m' c' p : Nat) : (s.setBl k v).latched m' c' p = s.latched m' c' p := rfl
@[simp] theorem State.sendFrame_rd (f : FrameX) (b' o' : Nat) : (s.sendFrame f).rd b' o' = s.rd b' o' := rfl
@[simp] theorem State.sendFrame_fld (f : FrameX) (b' : Nat) (q : FRef) : (s.sendFrame f).fld b' q = s.fld b' q := rfl
@[simp] theorem State.sendFrame_flag (f : FrameX) (b' : Nat) (q : FRef) : (s.sendFrame f).flag b' q = s.flag b' q := rfl
@[simp] theorem State.sendFrame_ax (f : FrameX) (v' j : Nat) : (s.sendFrame f).ax v' j = s.ax v' j := rfl
@[simp] theorem State.sendFrame_hs (f : FrameX) (v' j : Nat) : (s.sendFrame f).hs v' j = s.hs v' j := rfl
@[simp] theorem State.sendFrame_bl (f : FrameX) (j : Nat) : (s.sendFrame f).bl j = s.bl j := rfl
@[simp] theorem State.sendFrame_unit (f : FrameX) (v' : Nat) : (s.sendFrame f).unit v' = s.unit v' := rfl
@[simp] theorem State.sendFrame_rdByte (f : FrameX) (d : Nat) : (s.sendFrame f).rdByte d = s.rdByte d := rfl
@[simp] theorem State.sendFrame_fifo (f : FrameX) (g : Bool) (k' : Nat) : (s.sendFrame f).fifo g k' = s.fifo g k' := rfl
@[simp] theorem State.sendFrame_semOwner (f : FrameX) (k' : Nat) : (s.sendFrame f).semOwner k' = s.semOwner k' := rfl
@[simp] theorem State.sendFrame_latched (f : FrameX) (m' c' p : Nat) : (s.sendFrame f).latched m' c' p = s.latched m' c' p := rfl
@[simp] theorem State.setSem_rd (n o : Nat) (b' o' : Nat) : (s.setSem n o).rd b' o' = s.rd b' o' := rfl
@[simp] theorem State.setSem_fld (n o : Nat) (b' : Nat) (q : FRef) : (s.setSem n o).fld b' q = s.fld b' q := rfl
@[simp] theorem State.setSem_flag (n o : Nat) (b' : Nat) (q : FRef) : (s.setSem n o).flag b' q = s.flag b' q := rfl
@[simp] theorem State.setSem_ax (n o : Nat) (v' j : Nat) : (s.setSem n o).ax v' j = s.ax v' j := rfl
@[simp] theorem State.setSem_hs (n o : Nat) (v' j : Nat) : (s.setSem n o).hs v' j = s.hs v' j := rfl
@[simp] theorem State.setSem_bl (n o : Nat) (j : Nat) : (s.setSem n o).bl j = s.bl j := rfl
@[simp] theorem State.setSem_unit (n o : Nat) (v' : Nat) : (s.setSem n o).unit v' = s.unit v' := rfl
@[simp] theorem State.setSem_rdByte (n o : Nat) (d : Nat) : (s.setSem n o).rdByte d = s.rdByte d := rfl
@[simp] theorem State.setSem_fifo (n o : Nat) (g : Bool) (k' : Nat) : (s.setSem n o).fifo g k' = s.fifo g k' := rfl
@[simp] theorem State.setSem_latched (n o : Nat) (m' c' p : Nat) : (s.setSem n o).latched m' c' p = s.latched m' c' p := rfl
@[simp] theorem State.setLatch_rd (m b off : Nat) (v : Word) (b' o' : Nat) : (s.setLatch m b off v).rd b' o' = s.rd b' o' := rfl
@[simp] theorem State.setLatch_fld (m b off : Nat) (v : Word) (b' : Nat) (q : FRef) : (s.setLatch m b off v).fld b' q = s.fld b' q := rfl
@[simp] theorem State.setLatch_flag (m b off : Nat) (v : Word) (b' : Nat) (q : FRef) : (s.setLatch m b off v).flag b' q = s.flag b' q := rfl
@[simp] theorem State.setLatch_ax (m b off : Nat) (v : Word) (v' j : Nat) : (s.setLatch m b off v).ax v' j = s.ax v' j := rfl
@[simp] theorem State.setLatch_hs (m b off : Nat) (v : Word) (v' j : Nat) : (s.setLatch m b off v).hs v' j = s.hs v' j := rfl
@[simp] theorem State.setLatch_bl (m b off : Nat) (v : Word) (j : Nat) : (s.setLatch m b off v).bl j = s.bl j := rfl
@[simp] theorem State.setLatch_unit (m b off : Nat) (v : Word) (v' : Nat) : (s.setLatch m b off v).unit v' = s.unit v' := rfl
@[simp] theorem State.setLatch_rdByte (m b off : Nat) (v : Word) (d : Nat) : (s.setLatch m b off v).rdByte d = s.rdByte d := rfl
@[simp] theorem State.setLatch_fifo (m b off : Nat) (v : Word) (g : Bool) (k' : Nat) : (s.setLatch m b off v).fifo g k' = s.fifo g k' := rfl
@[simp] theorem State.setLatch_semOwner (m b off : Nat) (v : Word) (k' : Nat) : (s.setLatch m b off v).semOwner k' = s.semOwner k' := rfl
@[simp] theorem State.ans_rd (ws : List Word) (b' o' : Nat) : (s.ans ws).rd b' o' = s.rd b' o' := rfl
@[simp] theorem State.ans_fld (ws : List Word) (b' : Nat) (q : FRef) : (s.ans ws).fld b' q = s.fld b' q := rfl
@[simp] theorem State.ans_flag (ws : List Word) (b' : Nat) (q : FRef) : (s.ans ws).flag b' q = s.flag b' q := rfl
@[simp] theorem State.ans_ax (ws : List Word) (v' j : Nat) : (s.ans ws).ax v' j = s.ax v' j := rfl
@[simp] theorem State.ans_hs (ws : List Word) (v' j : Nat) : (s.ans ws).hs v' j = s.hs v' j := rfl
@[simp] theorem State.ans_bl (ws : List Word) (j : Nat) : (s.ans ws).bl j = s.bl j := rfl
@[simp] theorem State.ans_unit (ws : List Word) (v' : Nat) : (s.ans ws).unit v' = s.unit v' := rfl
@[simp] theorem State.ans_rdByte (ws : List Word) (d : Nat) : (s.ans ws).rdByte d = s.rdByte d := rfl
@[simp] theorem State.ans_fifo (ws : List Word) (g : Bool) (k' : Nat) : (s.ans ws).fifo g k' = s.fifo g k' := rfl
@[simp] theorem State.ans_semOwner (ws : List Word) (k' : Nat) : (s.ans ws).semOwner k' = s.semOwner k' := rfl
@[simp] theorem State.ans_latched (ws : List Word) (m' c' p : Nat) : (s.ans ws).latched m' c' p = s.latched m' c' p := rfl
@[simp] theorem State.useFresh_rd  (b' o' : Nat) : (s.useFresh).rd b' o' = s.rd b' o' := rfl
@[simp] theorem State.useFresh_fld  (b' : Nat) (q : FRef) : (s.useFresh).fld b' q = s.fld b' q := rfl
@[simp] theorem State.useFresh_flag  (b' : Nat) (q : FRef) : (s.useFresh).flag b' q = s.flag b' q := rfl
@[simp] theorem State.useFresh_ax  (v' j : Nat) : (s.useFresh).ax v' j = s.ax v' j := rfl
@[simp] theorem State.useFresh_hs  (v' j : Nat) : (s.useFresh).hs v' j = s.hs v' j := rfl
@[simp] theorem State.useFresh_bl  (j : Nat) : (s.useFresh).bl j = s.bl j := rfl
@[simp] theorem State.useFresh_unit  (v' : Nat) : (s.useFresh).unit v' = s.unit v' := rfl
@[simp] theorem State.useFresh_rdByte  (d : Nat) : (s.useFresh).rdByte d = s.rdByte d := rfl
@[simp] theorem State.useFresh_fifo  (g : Bool) (k' : Nat) : (s.useFresh).fifo g k' = s.fifo g k' := rfl
@[simp] theorem State.useFresh_semOwner  (k' : Nat) : (s.useFresh).semOwner k' = s.semOwner k' := rfl
@[simp] theorem State.useFresh_latched  (m' c' p : Nat) : (s.useFresh).latched m' c' p = s.latched m' c' p := rfl
@[simp] theorem State.bump_ax (b : Nat) (r : FRef) (n : Nat) (v' j : Nat) : (s.bump b r n).ax v' j = s.ax v' j := rfl
@[simp] theorem State.bump_hs (b : Nat) (r : FRef) (n : Nat) (v' j : Nat) : (s.bump b r n).hs v' j = s.hs v' j := rfl
@[simp] theorem State.bump_bl (b : Nat) (r : FRef) (n : Nat) (j : Nat) : (s.bump b r n).bl j = s.bl j := rfl
@[simp] theorem State.bump_unit (b : Nat) (r : FRef) (n : Nat) (v' : Nat) : (s.bump b r n).unit v' = s.unit v' := rfl
@[simp] theorem State.bump_rdByte (b : Nat) (r : FRef) (n : Nat) (d : Nat) : (s.bump b r n).rdByte d = s.rdByte d := rfl
@[simp] theorem State.bump_fifo (b : Nat) (r : FRef) (n : Nat) (g : Bool) (k' : Nat) : (s.bump b r n).fifo g k' = s.fifo g k' := rfl
@[simp] theorem State.bump_semOwner (b : Nat) (r : FRef) (n : Nat) (k' : Nat) : (s.bump b r n).semOwner k' = s.semOwner k' := rfl
@[simp] theorem State.bump_latched (b : Nat) (r : FRef) (n : Nat) (m' c' p : Nat) : (s.bump b r n).latched m' c' p = s.latched m' c' p := rfl
@[simp] theorem State.setFifo_rd (h : Bool) (n : Nat) (f : FifoX) (b' o' : Nat) : (s.setFifo h n f).rd b' o' = s.rd b' o' := by cases h <;> rfl
@[simp] theorem State.setFifo_fld (h : Bool) (n : Nat) (f : FifoX) (b' : Nat) (q : FRef) : (s.setFifo h n f).fld b' q = s.fld b' q := by cases h <;> rfl
@[simp] theorem State.setFifo_flag (h : Bool) (n : Nat) (f : FifoX) (b' : Nat) (q : FRef) : (s.setFifo h n f).flag b' q = s.flag b' q := by cases h <;> rfl
@[simp] theorem State.setFifo_ax (h : Bool) (n : Nat) (f : FifoX) (v' j : Nat) : (s.setFifo h n f).ax v' j = s.ax v' j := by cases h <;> rfl
@[simp] theorem State.setFifo_hs (h : Bool) (n : Nat) (f : FifoX) (v' j : Nat) : (s.setFifo h n f).hs v' j = s.hs v' j := by cases h <;> rfl
@[simp] theorem State.setFifo_bl (h : Bool) (n : Nat) (f : FifoX) (j : Nat) : (s.setFifo h n f).bl j = s.bl j := by cases h <;> rfl
@[simp] theorem State.setFifo_unit (h : Bool) (n : Nat) (f : FifoX) (v' : Nat) : (s.setFifo h n f).unit v' = s.unit v' := by cases h <;> rfl
@[simp] theorem State.setFifo_rdByte (h : Bool) (n : Nat) (f : FifoX) (d : Nat) : (s.setFifo h n f).rdByte d = s.rdByte d := by cases h <;> rfl
@[simp] theorem State.setFifo_semOwner (h : Bool) (n : Nat) (f : FifoX) (k' : Nat) : (s.setFifo h n f).semOwner k' = s.semOwner k' := by cases h <;> rfl
@[simp] theorem State.setFifo_latched (h : Bool) (n : Nat) (f : FifoX) (m' c' p : Nat) : (s.setFifo h n f).latched m' c' p = s.latched m' c' p := by cases h <;> rfl
@[simp] theorem State.mirrorMsg_rd (c : Nat) (ws : List Word) (b' o' : Nat) : (s.mirrorMsg c ws).rd b' o' = s.rd b' o' := by simp [State.rd]
@[simp] theorem State.mirrorMsg_fld (c : Nat) (ws : List Word) (b' : Nat) (q : FRef) : (s.mirrorMsg c ws).fld b' q = s.fld b' q := by simp [State.fld, State.rd]
@[simp] theorem State.mirrorMsg_flag (c : Nat) (ws : List Word) (b' : Nat) (q : FRef) : (s.mirrorMsg c ws).flag b' q = s.flag b' q := by simp [State.flag, State.fld, State.rd]
@[simp] theorem State.mirrorMsg_ax (c : Nat) (ws : List Word) (v' j : Nat) : (s.mirrorMsg c ws).ax v' j = s.ax v' j := by simp [State.ax]
@[simp] theorem State.mirrorMsg_hs (c : Nat) (ws : List Word) (v' j : Nat) : (s.mirrorMsg c ws).hs v' j = s.hs v' j := by simp [State.hs]
@[simp] theorem State.mirrorMsg_bl (c : Nat) (ws : List Word) (j : Nat) : (s.mirrorMsg c ws).bl j = s.bl j := by simp [State.bl]
@[simp] theorem State.mirrorMsg_unit (c : Nat) (ws : List Word) (v' : Nat) : (s.mirrorMsg c ws).unit v' = s.unit v' := by simp [State.unit]
@[simp] theorem State.mirrorMsg_rdByte (c : Nat) (ws : List Word) (d : Nat) : (s.mirrorMsg c ws).rdByte d = s.rdByte d := by simp [State.rdByte]
@[simp] theorem State.mirrorMsg_fifo (c : Nat) (ws : List Word) (g : Bool) (k' : Nat) : (s.mirrorMsg c ws).fifo g k' = s.fifo g k' := by simp [State.fifo]
@[simp] theorem State.mirrorMsg_semOwner (c : Nat) (ws : List Word) (k' : Nat) : (s.mirrorMsg c ws).semOwner k' = s.semOwner k' := by simp [State.semOwner]
@[simp] theorem State.mirrorMsg_latched (c : Nat) (ws : List Word) (m' c' p : Nat) : (s.mirrorMsg c ws).latched m' c' p = s.latched m' c' p := by simp [State.latched]
@[simp] theorem State.raise_ax (e : Nat) (v' j : Nat) : (s.raise e).ax v' j = s.ax v' j := by simp [State.ax]
@[simp] theorem State.raise_hs (e : Nat) (v' j : Nat) : (s.raise e).hs v' j = s.hs v' j := by simp [State.hs]
@[simp] theorem State.raise_bl (e : Nat) (j : Nat) : (s.raise e).bl j = s.bl j := by simp [State.bl]
@[simp] theorem State.raise_unit (e : Nat) (v' : Nat) : (s.raise e).unit v' = s.unit v' := by simp [State.unit]
@[simp] theorem State.raise_rdByte (e : Nat) (d : Nat) : (s.raise e).rdByte d = s.rdByte d := by simp [State.rdByte]
@[simp] theorem State.raise_fifo (e : Nat) (g : Bool) (k' : Nat) : (s.raise e).fifo g k' = s.fifo g k' := by simp [State.fifo]
@[simp] theorem State.raise_semOwner (e : Nat) (k' : Nat) : (s.raise e).semOwner k' = s.semOwner k' := by simp [State.semOwner]
@[simp] theorem State.raise_latched (e : Nat) (m' c' p : Nat) : (s.raise e).latched m' c' p = s.latched m' c' p := by simp [State.latched]
@[simp] theorem State.raiseKind_ax (w bit : Nat) (v' j : Nat) : (s.raiseKind w bit).ax v' j = s.ax v' j := by simp [State.ax]
@[simp] theorem State.raiseKind_hs (w bit : Nat) (v' j : Nat) : (s.raiseKind w bit).hs v' j = s.hs v' j := by simp [State.hs]
@[simp] theorem State.raiseKind_bl (w bit : Nat) (j : Nat) : (s.raiseKind w bit).bl j = s.bl j := by simp [State.bl]
@[simp] theorem State.raiseKind_unit (w bit : Nat) (v' : Nat) : (s.raiseKind w bit).unit v' = s.unit v' := by simp [State.unit]
@[simp] theorem State.raiseKind_rdByte (w bit : Nat) (d : Nat) : (s.raiseKind w bit).rdByte d = s.rdByte d := by simp [State.rdByte]
@[simp] theorem State.raiseKind_fifo (w bit : Nat) (g : Bool) (k' : Nat) : (s.raiseKind w bit).fifo g k' = s.fifo g k' := by simp [State.fifo]
@[simp] theorem State.raiseKind_semOwner (w bit : Nat) (k' : Nat) : (s.raiseKind w bit).semOwner k' = s.semOwner k' := by simp [State.semOwner]
@[simp] theorem State.raiseKind_latched (w bit : Nat) (m' c' p : Nat) : (s.raiseKind w bit).latched m' c' p = s.latched m' c' p := by simp [State.latched]
@[simp] theorem State.count_ax (b : Nat) (r : FRef) (v' j : Nat) : (s.count b r).ax v' j = s.ax v' j := by simp [State.ax]
@[simp] theorem State.count_hs (b : Nat) (r : FRef) (v' j : Nat) : (s.count b r).hs v' j = s.hs v' j := by simp [State.hs]
@[simp] theorem State.count_bl (b : Nat) (r : FRef) (j : Nat) : (s.count b r).bl j = s.bl j := by simp [State.bl]
@[simp] theorem State.count_unit (b : Nat) (r : FRef) (v' : Nat) : (s.count b r).unit v' = s.unit v' := by simp [State.unit]
@[simp] theorem State.count_rdByte (b : Nat) (r : FRef) (d : Nat) : (s.count b r).rdByte d = s.rdByte d := by simp [State.rdByte]
@[simp] theorem State.count_fifo (b : Nat) (r : FRef) (g : Bool) (k' : Nat) : (s.count b r).fifo g k' = s.fifo g k' := by simp [State.fifo]
@[simp] theorem State.count_semOwner (b : Nat) (r : FRef) (k' : Nat) : (s.count b r).semOwner k' = s.semOwner k' := by simp [State.semOwner]
@[simp] theorem State.count_latched (b : Nat) (r : FRef) (m' c' p : Nat) : (s.count b r).latched m' c' p = s.latched m' c' p := by simp [State.latched]
@[simp] theorem State.setErr_ax (w c : Nat) (v' j : Nat) : (s.setErr w c).ax v' j = s.ax v' j := by simp [State.ax]
@[simp] theorem State.setErr_hs (w c : Nat) (v' j : Nat) : (s.setErr w c).hs v' j = s.hs v' j := by simp [State.hs]
@[simp] theorem State.setErr_bl (w c : Nat) (j : Nat) : (s.setErr w c).bl j = s.bl j := by simp [State.bl]
@[simp] theorem State.setErr_unit (w c : Nat) (v' : Nat) : (s.setErr w c).unit v' = s.unit v' := by simp [State.unit]
@[simp] theorem State.setErr_rdByte (w c : Nat) (d : Nat) : (s.setErr w c).rdByte d = s.rdByte d := by simp [State.rdByte]
@[simp] theorem State.setErr_fifo (w c : Nat) (g : Bool) (k' : Nat) : (s.setErr w c).fifo g k' = s.fifo g k' := by simp [State.fifo]
@[simp] theorem State.setErr_semOwner (w c : Nat) (k' : Nat) : (s.setErr w c).semOwner k' = s.semOwner k' := by simp [State.semOwner]
@[simp] theorem State.setErr_latched (w c : Nat) (m' c' p : Nat) : (s.setErr w c).latched m' c' p = s.latched m' c' p := by simp [State.latched]
@[simp] theorem State.ringBells_rd (v : Word) (b' o' : Nat) : (s.ringBells v).rd b' o' = s.rd b' o' := by simp [State.rd]
@[simp] theorem State.ringBells_fld (v : Word) (b' : Nat) (q : FRef) : (s.ringBells v).fld b' q = s.fld b' q := by simp [State.fld, State.rd]
@[simp] theorem State.ringBells_flag (v : Word) (b' : Nat) (q : FRef) : (s.ringBells v).flag b' q = s.flag b' q := by simp [State.flag, State.fld, State.rd]
@[simp] theorem State.ringBells_ax (v : Word) (v' j : Nat) : (s.ringBells v).ax v' j = s.ax v' j := by simp [State.ax]
@[simp] theorem State.ringBells_hs (v : Word) (v' j : Nat) : (s.ringBells v).hs v' j = s.hs v' j := by simp [State.hs]
@[simp] theorem State.ringBells_bl (v : Word) (j : Nat) : (s.ringBells v).bl j = s.bl j := by simp [State.bl]
@[simp] theorem State.ringBells_unit (v : Word) (v' : Nat) : (s.ringBells v).unit v' = s.unit v' := by simp [State.unit]
@[simp] theorem State.ringBells_rdByte (v : Word) (d : Nat) : (s.ringBells v).rdByte d = s.rdByte d := by simp [State.rdByte]
@[simp] theorem State.ringBells_fifo (v : Word) (g : Bool) (k' : Nat) : (s.ringBells v).fifo g k' = s.fifo g k' := by simp [State.fifo]
@[simp] theorem State.ringBells_semOwner (v : Word) (k' : Nat) : (s.ringBells v).semOwner k' = s.semOwner k' := by simp [State.semOwner]
@[simp] theorem State.ringBells_latched (v : Word) (m' c' p : Nat) : (s.ringBells v).latched m' c' p = s.latched m' c' p := by simp [State.latched]
@[simp] theorem State.heard_rd (ph : Nat) (b' o' : Nat) : (s.heard ph).rd b' o' = s.rd b' o' := by simp [State.rd]
@[simp] theorem State.heard_fld (ph : Nat) (b' : Nat) (q : FRef) : (s.heard ph).fld b' q = s.fld b' q := by simp [State.fld, State.rd]
@[simp] theorem State.heard_flag (ph : Nat) (b' : Nat) (q : FRef) : (s.heard ph).flag b' q = s.flag b' q := by simp [State.flag, State.fld, State.rd]
@[simp] theorem State.heard_ax (ph : Nat) (v' j : Nat) : (s.heard ph).ax v' j = s.ax v' j := by simp [State.ax]
@[simp] theorem State.heard_hs (ph : Nat) (v' j : Nat) : (s.heard ph).hs v' j = s.hs v' j := by simp [State.hs]
@[simp] theorem State.heard_bl (ph : Nat) (j : Nat) : (s.heard ph).bl j = s.bl j := by simp [State.bl]
@[simp] theorem State.heard_unit (ph : Nat) (v' : Nat) : (s.heard ph).unit v' = s.unit v' := by simp [State.unit]
@[simp] theorem State.heard_rdByte (ph : Nat) (d : Nat) : (s.heard ph).rdByte d = s.rdByte d := by simp [State.rdByte]
@[simp] theorem State.heard_fifo (ph : Nat) (g : Bool) (k' : Nat) : (s.heard ph).fifo g k' = s.fifo g k' := by simp [State.fifo]
@[simp] theorem State.heard_semOwner (ph : Nat) (k' : Nat) : (s.heard ph).semOwner k' = s.semOwner k' := by simp [State.semOwner]
@[simp] theorem State.heard_latched (ph : Nat) (m' c' p : Nat) : (s.heard ph).latched m' c' p = s.latched m' c' p := by simp [State.latched]

@[simp] theorem winFE_lt (n : Fin 4) : winFE n < 0x400 := by revert n; decide
@[simp] theorem feWin_lt (n : Fin 5) : feWin n < 0x400 := by revert n; decide
@[simp] theorem winDDC_lt (n : Fin 64) : winDDC n < 0x400 := by revert n; decide
@[simp] theorem winFM_lt (n : Fin 48) : winFM n < 0x400 := by revert n; decide
@[simp] theorem winAM_lt (n : Fin 16) : winAM n < 0x400 := by revert n; decide
@[simp] theorem winOFDM_lt (n : Fin 16) : winOFDM n < 0x400 := by revert n; decide
@[simp] theorem winSD_lt (n : Fin 64) : winSD n < 0x400 := by revert n; decide
@[simp] theorem winDet_lt (n : Fin 32) : winDet n < 0x400 := by revert n; decide
@[simp] theorem winLane_lt (n : Fin 32) : winLane n < 0x400 := by revert n; decide
@[simp] theorem winPort_lt (n : Fin 32) : winPort n < 0x400 := by revert n; decide
@[simp] theorem winQ_lt (n : Fin 64) : winQ n < 0x400 := by revert n; decide
@[simp] theorem winFeed_lt (n : Fin 8) : winFeed n < 0x400 := by revert n; decide
@[simp] theorem winFollow_lt (n : Fin 32) : winFollow n < 0x400 := by revert n; decide
@[simp] theorem winASRC_lt (n : Fin 32) : winASRC n < 0x400 := by revert n; decide
@[simp] theorem winDec_lt (n : Fin 32) : winDec n < 0x400 := by revert n; decide

/-- A register of a unit window that counts, after one count. -/
theorem State.count_rd_own {w : Nat} {r : FRef} (hw : w < 0x400) (h1 : r.off / 4 ≠ 10) (h2 : r.off / 4 ≠ 3) :
    (s.count w r).rd w r.off = counted (s.rd w r.off) :=
  State.count_rd s w r (by simpa [ovfOff, hw] using h1) h2

/-- A field of a unit window outside the counter and its flags, after one count. -/
theorem State.count_fld_own {w : Nat} {r q : FRef} (hw : w < 0x400) (h0 : q.off / 4 ≠ r.off / 4) (h1 : q.off / 4 ≠ 10)
    (h2 : q.off / 4 ≠ 3) : (s.count w r).fld w q = s.fld w q :=
  State.count_fld s w r q h0 (by simpa [ovfOff, hw] using h1) h2

theorem State.count_flag_own {w : Nat} {r q : FRef} (hw : w < 0x400) (h0 : q.off / 4 ≠ r.off / 4) (h1 : q.off / 4 ≠ 10)
    (h2 : q.off / 4 ≠ 3) : (s.count w r).flag w q = s.flag w q := by
  simp [State.flag, State.count_fld_own s hw h0 h1 h2]

theorem State.count_rd_apart {w : Nat} {r : FRef} {off : Nat} (hw : w < 0x400) (h0 : off / 4 ≠ r.off / 4)
    (h1 : off / 4 ≠ 10) (h2 : off / 4 ≠ 3) : (s.count w r).rd w off = s.rd w off :=
  State.count_rd_other s w r w off (by simpa using h0) (by simpa [ovfOff, hw] using h1) (by simpa using h2)

theorem State.raiseKind_rd_own {w bit off : Nat} (h : off / 4 ≠ 3) : (s.raiseKind w bit).rd w off = s.rd w off := by
  simp [State.raiseKind_rd, h]

/-- Another event bit of the window keeps what it was. -/
theorem State.raiseKind_event_other (w bit j : Nat) (h : j < 32) :
    ((s.raiseKind w bit).rd w 0x00C).getLsbD j = (decide (j = bit) || (s.rd w 0x00C).getLsbD j) := by
  simp only [State.raiseKind_rd, if_true, BitVec.getLsbD_or, BitVec.getLsbD_shiftLeft, BitVec.getLsbD_one, h, decide_true,
    Bool.true_and]
  by_cases e : j = bit
  · subst e; simp
  · rcases Nat.lt_or_gt_of_ne e with l | l
    · simp [l, e]
    · have : j - bit ≠ 0 := by omega
      have h2 : ¬ j < bit := by omega
      simp [e, this, h2]

theorem State.setErr_rd_own {w c off : Nat} (h : off / 4 ≠ 3) (h1 : off / 4 ≠ UCB.UNIT_ERR_CODE.off / 4) :
    (s.setErr w c).rd w off = s.rd w off := by
  unfold State.setErr
  rw [State.raiseKind_rd_own _ h, State.rd_put_reg _ _ _ h1]

theorem State.setErr_fld_apart {w c : Nat} {q : FRef} (h : q.off / 4 ≠ 3) (ha : UCB.UNIT_ERR_CODE.apart q = true) :
    (s.setErr w c).fld w q = s.fld w q := by
  unfold State.setErr
  rw [State.raiseKind_fld_reg _ _ _ _ h, State.fld_put_apart _ _ (by decide) ha]

theorem State.setErr_flag_apart {w c : Nat} {q : FRef} (h : q.off / 4 ≠ 3) (ha : UCB.UNIT_ERR_CODE.apart q = true) :
    (s.setErr w c).flag w q = s.flag w q := by
  simp [State.flag, State.setErr_fld_apart s h ha]

/-- Recording a code raises ERROR. -/
theorem State.setErr_event (w c : Nat) : ((s.setErr w c).rd w 0x00C).getLsbD evERROR = true :=
  State.raiseKind_event _ _ _ (by decide)

theorem State.putB_fld_apart {b : Nat} {r q : FRef} (v : Bool) (h : r.ok = true) (ha : r.apart q = true) :
    (s.putB b r v).fld b q = s.fld b q := State.fld_put_apart s _ h ha

theorem State.putI_fld_apart {b : Nat} {r q : FRef} (v : Int) (h : r.ok = true) (ha : r.apart q = true) :
    (s.putI b r v).fld b q = s.fld b q := State.fld_put_apart s _ h ha

theorem State.putB_rd_reg {b : Nat} {r : FRef} (v : Bool) (off : Nat) (h : off / 4 ≠ r.off / 4) :
    (s.putB b r v).rd b off = s.rd b off := State.rd_put_reg s _ _ h

theorem State.putI_rd_reg {b : Nat} {r : FRef} (v : Int) (off : Nat) (h : off / 4 ≠ r.off / 4) :
    (s.putI b r v).rd b off = s.rd b off := State.rd_put_reg s _ _ h

theorem State.bump_fld_own {b : Nat} {r q : FRef} (n : Nat) (h : q.off / 4 ≠ r.off / 4) :
    (s.bump b r n).fld b q = s.fld b q := by
  simp [State.bump, State.fld_wr, h]

theorem State.putB_flag {b : Nat} {r : FRef} (v : Bool) (h : r.ok = true) (h1 : r.msb = r.lsb) :
    (s.putB b r v).flag b r = v := by
  simp only [State.flag, State.putB, State.fld_put s _ h, h1]
  cases v <;> simp

theorem State.putB_flag_apart {b : Nat} {r q : FRef} (v : Bool) (h : r.ok = true) (ha : r.apart q = true) :
    (s.putB b r v).flag b q = s.flag b q := State.flag_put_apart s _ h ha

theorem State.putI_flag_apart {b : Nat} {r q : FRef} (v : Int) (h : r.ok = true) (ha : r.apart q = true) :
    (s.putI b r v).flag b q = s.flag b q := State.flag_put_apart s _ h ha

theorem State.bump_flag_own {b : Nat} {r q : FRef} (n : Nat) (h : q.off / 4 ≠ r.off / 4) :
    (s.bump b r n).flag b q = s.flag b q := by
  simp [State.flag, State.bump_fld_own s n h]

theorem State.bump_rd (b : Nat) (r : FRef) : (s.bump b r).rd b r.off = s.rd b r.off + 1 := by
  simp only [State.bump, State.rd_wr_same]; rfl

theorem State.putI_fld {b : Nat} {r : FRef} (v : Int) (h : r.ok = true) :
    (s.putI b r v).fld b r = unsigned (r.msb - r.lsb + 1) v % 2 ^ (r.msb - r.lsb + 1) := State.fld_put s _ h

theorem State.putB_fld {b : Nat} {r : FRef} (v : Bool) (h : r.ok = true) :
    (s.putB b r v).fld b r = v.toNat % 2 ^ (r.msb - r.lsb + 1) := State.fld_put s _ h

end Sys2Proof.Machine
end

