-- ==== Sys2Proof/Laws/Board.lean ====
section
/-! SUPPORT. What the Bell board, the pigeonholes and the replies leave unchanged, and what they set. -/

namespace Sys2Proof.Machine

variable (s : State)

@[simp] theorem State.onFifo_pending (h : Bool) (n : Nat) (g : FifoX) : (s.onPigeon n (fun t => t.setFifo h n g)).pending = s.pending := by
  unfold State.onPigeon; split <;> simp
@[simp] theorem State.appendFifo_pending (h : Bool) (n : Nat) (ws : List Word) : (s.appendFifo h n ws).pending = s.pending := by
  unfold State.appendFifo State.onPigeon; dsimp only; split <;> simp
@[simp] theorem State.pushMsg_pending (m : MsgX) : (s.pushMsg m).pending = s.pending := by simp [State.pushMsg]
@[simp] theorem State.drainOutbox_pending (n : Nat) : (s.drainOutbox n).pending = s.pending := by
  unfold State.drainOutbox; repeat' split
  all_goals simp
@[simp] theorem State.sendMsg_pending (m : MsgX) : (s.sendMsg m).pending = s.pending := by
  unfold State.sendMsg; split <;> simp
@[simp] theorem State.reply_pending (ph op tag : Nat) (ws : List Word) : (s.reply ph op tag ws).pending = s.pending := by
  unfold State.reply; split <;> simp
@[simp] theorem State.notice_pending (k c d : Nat) : (s.notice k c d).pending = s.pending := by
  unfold State.notice; split <;> simp
@[simp] theorem State.emptyNotice_pending (h : Bool) (n : Nat) : (s.emptyNotice h n).pending = s.pending := by
  cases h <;> simp [State.emptyNotice]
@[simp] theorem State.reqEmpty_pending (h : Bool) (n : Nat) : (s.reqEmpty h n).pending = s.pending := by
  unfold State.reqEmpty State.onPigeon; repeat' split
  all_goals simp
@[simp] theorem State.dropTd_pending (n : Nat) : (s.dropTd n).pending = s.pending := by
  unfold State.dropTd; dsimp only; split <;> simp
@[simp] theorem State.pushFifo_pending (h : Bool) (n : Nat) (v : Word) : (s.pushFifo h n v).pending = s.pending := by
  unfold State.pushFifo State.onPigeon; dsimp only; repeat' split
  all_goals simp
@[simp] theorem State.popFifo_pending (h : Bool) (n : Nat) : (s.popFifo h n).pending = s.pending := by
  unfold State.popFifo; dsimp only; repeat' split
  all_goals simp
@[simp] theorem State.onFifo_part (h : Bool) (n : Nat) (g : FifoX) : (s.onPigeon n (fun t => t.setFifo h n g)).part = s.part := by
  unfold State.onPigeon; split <;> simp
@[simp] theorem State.appendFifo_part (h : Bool) (n : Nat) (ws : List Word) : (s.appendFifo h n ws).part = s.part := by
  unfold State.appendFifo State.onPigeon; dsimp only; split <;> simp
@[simp] theorem State.pushMsg_part (m : MsgX) : (s.pushMsg m).part = s.part := by simp [State.pushMsg]
@[simp] theorem State.drainOutbox_part (n : Nat) : (s.drainOutbox n).part = s.part := by
  unfold State.drainOutbox; repeat' split
  all_goals simp
@[simp] theorem State.sendMsg_part (m : MsgX) : (s.sendMsg m).part = s.part := by
  unfold State.sendMsg; split <;> simp
@[simp] theorem State.reply_part (ph op tag : Nat) (ws : List Word) : (s.reply ph op tag ws).part = s.part := by
  unfold State.reply; split <;> simp
@[simp] theorem State.notice_part (k c d : Nat) : (s.notice k c d).part = s.part := by
  unfold State.notice; split <;> simp
@[simp] theorem State.emptyNotice_part (h : Bool) (n : Nat) : (s.emptyNotice h n).part = s.part := by
  cases h <;> simp [State.emptyNotice]
@[simp] theorem State.reqEmpty_part (h : Bool) (n : Nat) : (s.reqEmpty h n).part = s.part := by
  unfold State.reqEmpty State.onPigeon; repeat' split
  all_goals simp
@[simp] theorem State.dropTd_part (n : Nat) : (s.dropTd n).part = s.part := by
  unfold State.dropTd; dsimp only; split <;> simp
@[simp] theorem State.pushFifo_part (h : Bool) (n : Nat) (v : Word) : (s.pushFifo h n v).part = s.part := by
  unfold State.pushFifo State.onPigeon; dsimp only; repeat' split
  all_goals simp
@[simp] theorem State.popFifo_part (h : Bool) (n : Nat) : (s.popFifo h n).part = s.part := by
  unfold State.popFifo; dsimp only; repeat' split
  all_goals simp
@[simp] theorem State.onFifo_regs (h : Bool) (n : Nat) (g : FifoX) : (s.onPigeon n (fun t => t.setFifo h n g)).regs = s.regs := by
  unfold State.onPigeon; split <;> simp
@[simp] theorem State.appendFifo_regs (h : Bool) (n : Nat) (ws : List Word) : (s.appendFifo h n ws).regs = s.regs := by
  unfold State.appendFifo State.onPigeon; dsimp only; split <;> simp
@[simp] theorem State.pushMsg_regs (m : MsgX) : (s.pushMsg m).regs = s.regs := by simp [State.pushMsg]
@[simp] theorem State.drainOutbox_regs (n : Nat) : (s.drainOutbox n).regs = s.regs := by
  unfold State.drainOutbox; repeat' split
  all_goals simp
@[simp] theorem State.sendMsg_regs (m : MsgX) : (s.sendMsg m).regs = s.regs := by
  unfold State.sendMsg; split <;> simp
@[simp] theorem State.reply_regs (ph op tag : Nat) (ws : List Word) : (s.reply ph op tag ws).regs = s.regs := by
  unfold State.reply; split <;> simp
@[simp] theorem State.notice_regs (k c d : Nat) : (s.notice k c d).regs = s.regs := by
  unfold State.notice; split <;> simp
@[simp] theorem State.emptyNotice_regs (h : Bool) (n : Nat) : (s.emptyNotice h n).regs = s.regs := by
  cases h <;> simp [State.emptyNotice]
@[simp] theorem State.reqEmpty_regs (h : Bool) (n : Nat) : (s.reqEmpty h n).regs = s.regs := by
  unfold State.reqEmpty State.onPigeon; repeat' split
  all_goals simp
@[simp] theorem State.dropTd_regs (n : Nat) : (s.dropTd n).regs = s.regs := by
  unfold State.dropTd; dsimp only; split <;> simp
@[simp] theorem State.pushFifo_regs (h : Bool) (n : Nat) (v : Word) : (s.pushFifo h n v).regs = s.regs := by
  unfold State.pushFifo State.onPigeon; dsimp only; repeat' split
  all_goals simp
@[simp] theorem State.popFifo_regs (h : Bool) (n : Nat) : (s.popFifo h n).regs = s.regs := by
  unfold State.popFifo; dsimp only; repeat' split
  all_goals simp
@[simp] theorem State.onFifo_mem (h : Bool) (n : Nat) (g : FifoX) : (s.onPigeon n (fun t => t.setFifo h n g)).mem = s.mem := by
  unfold State.onPigeon; split <;> simp
@[simp] theorem State.appendFifo_mem (h : Bool) (n : Nat) (ws : List Word) : (s.appendFifo h n ws).mem = s.mem := by
  unfold State.appendFifo State.onPigeon; dsimp only; split <;> simp
@[simp] theorem State.pushMsg_mem (m : MsgX) : (s.pushMsg m).mem = s.mem := by simp [State.pushMsg]
@[simp] theorem State.drainOutbox_mem (n : Nat) : (s.drainOutbox n).mem = s.mem := by
  unfold State.drainOutbox; repeat' split
  all_goals simp
@[simp] theorem State.sendMsg_mem (m : MsgX) : (s.sendMsg m).mem = s.mem := by
  unfold State.sendMsg; split <;> simp
@[simp] theorem State.reply_mem (ph op tag : Nat) (ws : List Word) : (s.reply ph op tag ws).mem = s.mem := by
  unfold State.reply; split <;> simp
@[simp] theorem State.notice_mem (k c d : Nat) : (s.notice k c d).mem = s.mem := by
  unfold State.notice; split <;> simp
@[simp] theorem State.emptyNotice_mem (h : Bool) (n : Nat) : (s.emptyNotice h n).mem = s.mem := by
  cases h <;> simp [State.emptyNotice]
@[simp] theorem State.reqEmpty_mem (h : Bool) (n : Nat) : (s.reqEmpty h n).mem = s.mem := by
  unfold State.reqEmpty State.onPigeon; repeat' split
  all_goals simp
@[simp] theorem State.dropTd_mem (n : Nat) : (s.dropTd n).mem = s.mem := by
  unfold State.dropTd; dsimp only; split <;> simp
@[simp] theorem State.pushFifo_mem (h : Bool) (n : Nat) (v : Word) : (s.pushFifo h n v).mem = s.mem := by
  unfold State.pushFifo State.onPigeon; dsimp only; repeat' split
  all_goals simp
@[simp] theorem State.popFifo_mem (h : Bool) (n : Nat) : (s.popFifo h n).mem = s.mem := by
  unfold State.popFifo; dsimp only; repeat' split
  all_goals simp
@[simp] theorem State.onFifo_units (h : Bool) (n : Nat) (g : FifoX) : (s.onPigeon n (fun t => t.setFifo h n g)).units = s.units := by
  unfold State.onPigeon; split <;> simp
@[simp] theorem State.appendFifo_units (h : Bool) (n : Nat) (ws : List Word) : (s.appendFifo h n ws).units = s.units := by
  unfold State.appendFifo State.onPigeon; dsimp only; split <;> simp
@[simp] theorem State.pushMsg_units (m : MsgX) : (s.pushMsg m).units = s.units := by simp [State.pushMsg]
@[simp] theorem State.drainOutbox_units (n : Nat) : (s.drainOutbox n).units = s.units := by
  unfold State.drainOutbox; repeat' split
  all_goals simp
@[simp] theorem State.sendMsg_units (m : MsgX) : (s.sendMsg m).units = s.units := by
  unfold State.sendMsg; split <;> simp
@[simp] theorem State.reply_units (ph op tag : Nat) (ws : List Word) : (s.reply ph op tag ws).units = s.units := by
  unfold State.reply; split <;> simp
@[simp] theorem State.notice_units (k c d : Nat) : (s.notice k c d).units = s.units := by
  unfold State.notice; split <;> simp
@[simp] theorem State.emptyNotice_units (h : Bool) (n : Nat) : (s.emptyNotice h n).units = s.units := by
  cases h <;> simp [State.emptyNotice]
@[simp] theorem State.reqEmpty_units (h : Bool) (n : Nat) : (s.reqEmpty h n).units = s.units := by
  unfold State.reqEmpty State.onPigeon; repeat' split
  all_goals simp
@[simp] theorem State.dropTd_units (n : Nat) : (s.dropTd n).units = s.units := by
  unfold State.dropTd; dsimp only; split <;> simp
@[simp] theorem State.pushFifo_units (h : Bool) (n : Nat) (v : Word) : (s.pushFifo h n v).units = s.units := by
  unfold State.pushFifo State.onPigeon; dsimp only; repeat' split
  all_goals simp
@[simp] theorem State.popFifo_units (h : Bool) (n : Nat) : (s.popFifo h n).units = s.units := by
  unfold State.popFifo; dsimp only; repeat' split
  all_goals simp
@[simp] theorem State.onFifo_aux (h : Bool) (n : Nat) (g : FifoX) : (s.onPigeon n (fun t => t.setFifo h n g)).aux = s.aux := by
  unfold State.onPigeon; split <;> simp
@[simp] theorem State.appendFifo_aux (h : Bool) (n : Nat) (ws : List Word) : (s.appendFifo h n ws).aux = s.aux := by
  unfold State.appendFifo State.onPigeon; dsimp only; split <;> simp
@[simp] theorem State.pushMsg_aux (m : MsgX) : (s.pushMsg m).aux = s.aux := by simp [State.pushMsg]
@[simp] theorem State.drainOutbox_aux (n : Nat) : (s.drainOutbox n).aux = s.aux := by
  unfold State.drainOutbox; repeat' split
  all_goals simp
@[simp] theorem State.sendMsg_aux (m : MsgX) : (s.sendMsg m).aux = s.aux := by
  unfold State.sendMsg; split <;> simp
@[simp] theorem State.reply_aux (ph op tag : Nat) (ws : List Word) : (s.reply ph op tag ws).aux = s.aux := by
  unfold State.reply; split <;> simp
@[simp] theorem State.notice_aux (k c d : Nat) : (s.notice k c d).aux = s.aux := by
  unfold State.notice; split <;> simp
@[simp] theorem State.emptyNotice_aux (h : Bool) (n : Nat) : (s.emptyNotice h n).aux = s.aux := by
  cases h <;> simp [State.emptyNotice]
@[simp] theorem State.reqEmpty_aux (h : Bool) (n : Nat) : (s.reqEmpty h n).aux = s.aux := by
  unfold State.reqEmpty State.onPigeon; repeat' split
  all_goals simp
@[simp] theorem State.dropTd_aux (n : Nat) : (s.dropTd n).aux = s.aux := by
  unfold State.dropTd; dsimp only; split <;> simp
@[simp] theorem State.pushFifo_aux (h : Bool) (n : Nat) (v : Word) : (s.pushFifo h n v).aux = s.aux := by
  unfold State.pushFifo State.onPigeon; dsimp only; repeat' split
  all_goals simp
@[simp] theorem State.popFifo_aux (h : Bool) (n : Nat) : (s.popFifo h n).aux = s.aux := by
  unfold State.popFifo; dsimp only; repeat' split
  all_goals simp
@[simp] theorem State.onFifo_hist (h : Bool) (n : Nat) (g : FifoX) : (s.onPigeon n (fun t => t.setFifo h n g)).hist = s.hist := by
  unfold State.onPigeon; split <;> simp
@[simp] theorem State.appendFifo_hist (h : Bool) (n : Nat) (ws : List Word) : (s.appendFifo h n ws).hist = s.hist := by
  unfold State.appendFifo State.onPigeon; dsimp only; split <;> simp
@[simp] theorem State.pushMsg_hist (m : MsgX) : (s.pushMsg m).hist = s.hist := by simp [State.pushMsg]
@[simp] theorem State.drainOutbox_hist (n : Nat) : (s.drainOutbox n).hist = s.hist := by
  unfold State.drainOutbox; repeat' split
  all_goals simp
@[simp] theorem State.sendMsg_hist (m : MsgX) : (s.sendMsg m).hist = s.hist := by
  unfold State.sendMsg; split <;> simp
@[simp] theorem State.reply_hist (ph op tag : Nat) (ws : List Word) : (s.reply ph op tag ws).hist = s.hist := by
  unfold State.reply; split <;> simp
@[simp] theorem State.notice_hist (k c d : Nat) : (s.notice k c d).hist = s.hist := by
  unfold State.notice; split <;> simp
@[simp] theorem State.emptyNotice_hist (h : Bool) (n : Nat) : (s.emptyNotice h n).hist = s.hist := by
  cases h <;> simp [State.emptyNotice]
@[simp] theorem State.reqEmpty_hist (h : Bool) (n : Nat) : (s.reqEmpty h n).hist = s.hist := by
  unfold State.reqEmpty State.onPigeon; repeat' split
  all_goals simp
@[simp] theorem State.dropTd_hist (n : Nat) : (s.dropTd n).hist = s.hist := by
  unfold State.dropTd; dsimp only; split <;> simp
@[simp] theorem State.pushFifo_hist (h : Bool) (n : Nat) (v : Word) : (s.pushFifo h n v).hist = s.hist := by
  unfold State.pushFifo State.onPigeon; dsimp only; repeat' split
  all_goals simp
@[simp] theorem State.popFifo_hist (h : Bool) (n : Nat) : (s.popFifo h n).hist = s.hist := by
  unfold State.popFifo; dsimp only; repeat' split
  all_goals simp
@[simp] theorem State.onFifo_tree (h : Bool) (n : Nat) (g : FifoX) : (s.onPigeon n (fun t => t.setFifo h n g)).tree = s.tree := by
  unfold State.onPigeon; split <;> simp
@[simp] theorem State.appendFifo_tree (h : Bool) (n : Nat) (ws : List Word) : (s.appendFifo h n ws).tree = s.tree := by
  unfold State.appendFifo State.onPigeon; dsimp only; split <;> simp
@[simp] theorem State.pushMsg_tree (m : MsgX) : (s.pushMsg m).tree = s.tree := by simp [State.pushMsg]
@[simp] theorem State.drainOutbox_tree (n : Nat) : (s.drainOutbox n).tree = s.tree := by
  unfold State.drainOutbox; repeat' split
  all_goals simp
@[simp] theorem State.sendMsg_tree (m : MsgX) : (s.sendMsg m).tree = s.tree := by
  unfold State.sendMsg; split <;> simp
@[simp] theorem State.reply_tree (ph op tag : Nat) (ws : List Word) : (s.reply ph op tag ws).tree = s.tree := by
  unfold State.reply; split <;> simp
@[simp] theorem State.notice_tree (k c d : Nat) : (s.notice k c d).tree = s.tree := by
  unfold State.notice; split <;> simp
@[simp] theorem State.emptyNotice_tree (h : Bool) (n : Nat) : (s.emptyNotice h n).tree = s.tree := by
  cases h <;> simp [State.emptyNotice]
@[simp] theorem State.reqEmpty_tree (h : Bool) (n : Nat) : (s.reqEmpty h n).tree = s.tree := by
  unfold State.reqEmpty State.onPigeon; repeat' split
  all_goals simp
@[simp] theorem State.dropTd_tree (n : Nat) : (s.dropTd n).tree = s.tree := by
  unfold State.dropTd; dsimp only; split <;> simp
@[simp] theorem State.pushFifo_tree (h : Bool) (n : Nat) (v : Word) : (s.pushFifo h n v).tree = s.tree := by
  unfold State.pushFifo State.onPigeon; dsimp only; repeat' split
  all_goals simp
@[simp] theorem State.popFifo_tree (h : Bool) (n : Nat) : (s.popFifo h n).tree = s.tree := by
  unfold State.popFifo; dsimp only; repeat' split
  all_goals simp
@[simp] theorem State.onFifo_bytes (h : Bool) (n : Nat) (g : FifoX) : (s.onPigeon n (fun t => t.setFifo h n g)).bytes = s.bytes := by
  unfold State.onPigeon; split <;> simp
@[simp] theorem State.appendFifo_bytes (h : Bool) (n : Nat) (ws : List Word) : (s.appendFifo h n ws).bytes = s.bytes := by
  unfold State.appendFifo State.onPigeon; dsimp only; split <;> simp
@[simp] theorem State.pushMsg_bytes (m : MsgX) : (s.pushMsg m).bytes = s.bytes := by simp [State.pushMsg]
@[simp] theorem State.drainOutbox_bytes (n : Nat) : (s.drainOutbox n).bytes = s.bytes := by
  unfold State.drainOutbox; repeat' split
  all_goals simp
@[simp] theorem State.sendMsg_bytes (m : MsgX) : (s.sendMsg m).bytes = s.bytes := by
  unfold State.sendMsg; split <;> simp
@[simp] theorem State.reply_bytes (ph op tag : Nat) (ws : List Word) : (s.reply ph op tag ws).bytes = s.bytes := by
  unfold State.reply; split <;> simp
@[simp] theorem State.notice_bytes (k c d : Nat) : (s.notice k c d).bytes = s.bytes := by
  unfold State.notice; split <;> simp
@[simp] theorem State.emptyNotice_bytes (h : Bool) (n : Nat) : (s.emptyNotice h n).bytes = s.bytes := by
  cases h <;> simp [State.emptyNotice]
@[simp] theorem State.reqEmpty_bytes (h : Bool) (n : Nat) : (s.reqEmpty h n).bytes = s.bytes := by
  unfold State.reqEmpty State.onPigeon; repeat' split
  all_goals simp
@[simp] theorem State.dropTd_bytes (n : Nat) : (s.dropTd n).bytes = s.bytes := by
  unfold State.dropTd; dsimp only; split <;> simp
@[simp] theorem State.pushFifo_bytes (h : Bool) (n : Nat) (v : Word) : (s.pushFifo h n v).bytes = s.bytes := by
  unfold State.pushFifo State.onPigeon; dsimp only; repeat' split
  all_goals simp
@[simp] theorem State.popFifo_bytes (h : Bool) (n : Nat) : (s.popFifo h n).bytes = s.bytes := by
  unfold State.popFifo; dsimp only; repeat' split
  all_goals simp
@[simp] theorem State.onFifo_sems (h : Bool) (n : Nat) (g : FifoX) : (s.onPigeon n (fun t => t.setFifo h n g)).sems = s.sems := by
  unfold State.onPigeon; split <;> simp
@[simp] theorem State.appendFifo_sems (h : Bool) (n : Nat) (ws : List Word) : (s.appendFifo h n ws).sems = s.sems := by
  unfold State.appendFifo State.onPigeon; dsimp only; split <;> simp
@[simp] theorem State.pushMsg_sems (m : MsgX) : (s.pushMsg m).sems = s.sems := by simp [State.pushMsg]
@[simp] theorem State.drainOutbox_sems (n : Nat) : (s.drainOutbox n).sems = s.sems := by
  unfold State.drainOutbox; repeat' split
  all_goals simp
@[simp] theorem State.sendMsg_sems (m : MsgX) : (s.sendMsg m).sems = s.sems := by
  unfold State.sendMsg; split <;> simp
@[simp] theorem State.reply_sems (ph op tag : Nat) (ws : List Word) : (s.reply ph op tag ws).sems = s.sems := by
  unfold State.reply; split <;> simp
@[simp] theorem State.notice_sems (k c d : Nat) : (s.notice k c d).sems = s.sems := by
  unfold State.notice; split <;> simp
@[simp] theorem State.emptyNotice_sems (h : Bool) (n : Nat) : (s.emptyNotice h n).sems = s.sems := by
  cases h <;> simp [State.emptyNotice]
@[simp] theorem State.reqEmpty_sems (h : Bool) (n : Nat) : (s.reqEmpty h n).sems = s.sems := by
  unfold State.reqEmpty State.onPigeon; repeat' split
  all_goals simp
@[simp] theorem State.dropTd_sems (n : Nat) : (s.dropTd n).sems = s.sems := by
  unfold State.dropTd; dsimp only; split <;> simp
@[simp] theorem State.pushFifo_sems (h : Bool) (n : Nat) (v : Word) : (s.pushFifo h n v).sems = s.sems := by
  unfold State.pushFifo State.onPigeon; dsimp only; repeat' split
  all_goals simp
@[simp] theorem State.popFifo_sems (h : Bool) (n : Nat) : (s.popFifo h n).sems = s.sems := by
  unfold State.popFifo; dsimp only; repeat' split
  all_goals simp
@[simp] theorem State.onFifo_readLatch (h : Bool) (n : Nat) (g : FifoX) : (s.onPigeon n (fun t => t.setFifo h n g)).readLatch = s.readLatch := by
  unfold State.onPigeon; split <;> simp
@[simp] theorem State.appendFifo_readLatch (h : Bool) (n : Nat) (ws : List Word) : (s.appendFifo h n ws).readLatch = s.readLatch := by
  unfold State.appendFifo State.onPigeon; dsimp only; split <;> simp
@[simp] theorem State.pushMsg_readLatch (m : MsgX) : (s.pushMsg m).readLatch = s.readLatch := by simp [State.pushMsg]
@[simp] theorem State.drainOutbox_readLatch (n : Nat) : (s.drainOutbox n).readLatch = s.readLatch := by
  unfold State.drainOutbox; repeat' split
  all_goals simp
@[simp] theorem State.sendMsg_readLatch (m : MsgX) : (s.sendMsg m).readLatch = s.readLatch := by
  unfold State.sendMsg; split <;> simp
@[simp] theorem State.reply_readLatch (ph op tag : Nat) (ws : List Word) : (s.reply ph op tag ws).readLatch = s.readLatch := by
  unfold State.reply; split <;> simp
@[simp] theorem State.notice_readLatch (k c d : Nat) : (s.notice k c d).readLatch = s.readLatch := by
  unfold State.notice; split <;> simp
@[simp] theorem State.emptyNotice_readLatch (h : Bool) (n : Nat) : (s.emptyNotice h n).readLatch = s.readLatch := by
  cases h <;> simp [State.emptyNotice]
@[simp] theorem State.reqEmpty_readLatch (h : Bool) (n : Nat) : (s.reqEmpty h n).readLatch = s.readLatch := by
  unfold State.reqEmpty State.onPigeon; repeat' split
  all_goals simp
@[simp] theorem State.dropTd_readLatch (n : Nat) : (s.dropTd n).readLatch = s.readLatch := by
  unfold State.dropTd; dsimp only; split <;> simp
@[simp] theorem State.pushFifo_readLatch (h : Bool) (n : Nat) (v : Word) : (s.pushFifo h n v).readLatch = s.readLatch := by
  unfold State.pushFifo State.onPigeon; dsimp only; repeat' split
  all_goals simp
@[simp] theorem State.popFifo_readLatch (h : Bool) (n : Nat) : (s.popFifo h n).readLatch = s.readLatch := by
  unfold State.popFifo; dsimp only; repeat' split
  all_goals simp
@[simp] theorem State.onFifo_writeLatch (h : Bool) (n : Nat) (g : FifoX) : (s.onPigeon n (fun t => t.setFifo h n g)).writeLatch = s.writeLatch := by
  unfold State.onPigeon; split <;> simp
@[simp] theorem State.appendFifo_writeLatch (h : Bool) (n : Nat) (ws : List Word) : (s.appendFifo h n ws).writeLatch = s.writeLatch := by
  unfold State.appendFifo State.onPigeon; dsimp only; split <;> simp
@[simp] theorem State.pushMsg_writeLatch (m : MsgX) : (s.pushMsg m).writeLatch = s.writeLatch := by simp [State.pushMsg]
@[simp] theorem State.drainOutbox_writeLatch (n : Nat) : (s.drainOutbox n).writeLatch = s.writeLatch := by
  unfold State.drainOutbox; repeat' split
  all_goals simp
@[simp] theorem State.sendMsg_writeLatch (m : MsgX) : (s.sendMsg m).writeLatch = s.writeLatch := by
  unfold State.sendMsg; split <;> simp
@[simp] theorem State.reply_writeLatch (ph op tag : Nat) (ws : List Word) : (s.reply ph op tag ws).writeLatch = s.writeLatch := by
  unfold State.reply; split <;> simp
@[simp] theorem State.notice_writeLatch (k c d : Nat) : (s.notice k c d).writeLatch = s.writeLatch := by
  unfold State.notice; split <;> simp
@[simp] theorem State.emptyNotice_writeLatch (h : Bool) (n : Nat) : (s.emptyNotice h n).writeLatch = s.writeLatch := by
  cases h <;> simp [State.emptyNotice]
@[simp] theorem State.reqEmpty_writeLatch (h : Bool) (n : Nat) : (s.reqEmpty h n).writeLatch = s.writeLatch := by
  unfold State.reqEmpty State.onPigeon; repeat' split
  all_goals simp
@[simp] theorem State.dropTd_writeLatch (n : Nat) : (s.dropTd n).writeLatch = s.writeLatch := by
  unfold State.dropTd; dsimp only; split <;> simp
@[simp] theorem State.pushFifo_writeLatch (h : Bool) (n : Nat) (v : Word) : (s.pushFifo h n v).writeLatch = s.writeLatch := by
  unfold State.pushFifo State.onPigeon; dsimp only; repeat' split
  all_goals simp
@[simp] theorem State.popFifo_writeLatch (h : Bool) (n : Nat) : (s.popFifo h n).writeLatch = s.writeLatch := by
  unfold State.popFifo; dsimp only; repeat' split
  all_goals simp
@[simp] theorem State.onFifo_guest (h : Bool) (n : Nat) (g : FifoX) : (s.onPigeon n (fun t => t.setFifo h n g)).guest = s.guest := by
  unfold State.onPigeon; split <;> simp
@[simp] theorem State.appendFifo_guest (h : Bool) (n : Nat) (ws : List Word) : (s.appendFifo h n ws).guest = s.guest := by
  unfold State.appendFifo State.onPigeon; dsimp only; split <;> simp
@[simp] theorem State.pushMsg_guest (m : MsgX) : (s.pushMsg m).guest = s.guest := by simp [State.pushMsg]
@[simp] theorem State.drainOutbox_guest (n : Nat) : (s.drainOutbox n).guest = s.guest := by
  unfold State.drainOutbox; repeat' split
  all_goals simp
@[simp] theorem State.sendMsg_guest (m : MsgX) : (s.sendMsg m).guest = s.guest := by
  unfold State.sendMsg; split <;> simp
@[simp] theorem State.reply_guest (ph op tag : Nat) (ws : List Word) : (s.reply ph op tag ws).guest = s.guest := by
  unfold State.reply; split <;> simp
@[simp] theorem State.notice_guest (k c d : Nat) : (s.notice k c d).guest = s.guest := by
  unfold State.notice; split <;> simp
@[simp] theorem State.emptyNotice_guest (h : Bool) (n : Nat) : (s.emptyNotice h n).guest = s.guest := by
  cases h <;> simp [State.emptyNotice]
@[simp] theorem State.reqEmpty_guest (h : Bool) (n : Nat) : (s.reqEmpty h n).guest = s.guest := by
  unfold State.reqEmpty State.onPigeon; repeat' split
  all_goals simp
@[simp] theorem State.dropTd_guest (n : Nat) : (s.dropTd n).guest = s.guest := by
  unfold State.dropTd; dsimp only; split <;> simp
@[simp] theorem State.pushFifo_guest (h : Bool) (n : Nat) (v : Word) : (s.pushFifo h n v).guest = s.guest := by
  unfold State.pushFifo State.onPigeon; dsimp only; repeat' split
  all_goals simp
@[simp] theorem State.popFifo_guest (h : Bool) (n : Nat) : (s.popFifo h n).guest = s.guest := by
  unfold State.popFifo; dsimp only; repeat' split
  all_goals simp
@[simp] theorem State.onFifo_scan (h : Bool) (n : Nat) (g : FifoX) : (s.onPigeon n (fun t => t.setFifo h n g)).scan = s.scan := by
  unfold State.onPigeon; split <;> simp
@[simp] theorem State.appendFifo_scan (h : Bool) (n : Nat) (ws : List Word) : (s.appendFifo h n ws).scan = s.scan := by
  unfold State.appendFifo State.onPigeon; dsimp only; split <;> simp
@[simp] theorem State.pushMsg_scan (m : MsgX) : (s.pushMsg m).scan = s.scan := by simp [State.pushMsg]
@[simp] theorem State.drainOutbox_scan (n : Nat) : (s.drainOutbox n).scan = s.scan := by
  unfold State.drainOutbox; repeat' split
  all_goals simp
@[simp] theorem State.sendMsg_scan (m : MsgX) : (s.sendMsg m).scan = s.scan := by
  unfold State.sendMsg; split <;> simp
@[simp] theorem State.reply_scan (ph op tag : Nat) (ws : List Word) : (s.reply ph op tag ws).scan = s.scan := by
  unfold State.reply; split <;> simp
@[simp] theorem State.notice_scan (k c d : Nat) : (s.notice k c d).scan = s.scan := by
  unfold State.notice; split <;> simp
@[simp] theorem State.emptyNotice_scan (h : Bool) (n : Nat) : (s.emptyNotice h n).scan = s.scan := by
  cases h <;> simp [State.emptyNotice]
@[simp] theorem State.reqEmpty_scan (h : Bool) (n : Nat) : (s.reqEmpty h n).scan = s.scan := by
  unfold State.reqEmpty State.onPigeon; repeat' split
  all_goals simp
@[simp] theorem State.dropTd_scan (n : Nat) : (s.dropTd n).scan = s.scan := by
  unfold State.dropTd; dsimp only; split <;> simp
@[simp] theorem State.pushFifo_scan (h : Bool) (n : Nat) (v : Word) : (s.pushFifo h n v).scan = s.scan := by
  unfold State.pushFifo State.onPigeon; dsimp only; repeat' split
  all_goals simp
@[simp] theorem State.popFifo_scan (h : Bool) (n : Nat) : (s.popFifo h n).scan = s.scan := by
  unfold State.popFifo; dsimp only; repeat' split
  all_goals simp
@[simp] theorem State.onFifo_clock (h : Bool) (n : Nat) (g : FifoX) : (s.onPigeon n (fun t => t.setFifo h n g)).clock = s.clock := by
  unfold State.onPigeon; split <;> simp
@[simp] theorem State.appendFifo_clock (h : Bool) (n : Nat) (ws : List Word) : (s.appendFifo h n ws).clock = s.clock := by
  unfold State.appendFifo State.onPigeon; dsimp only; split <;> simp
@[simp] theorem State.pushMsg_clock (m : MsgX) : (s.pushMsg m).clock = s.clock := by simp [State.pushMsg]
@[simp] theorem State.drainOutbox_clock (n : Nat) : (s.drainOutbox n).clock = s.clock := by
  unfold State.drainOutbox; repeat' split
  all_goals simp
@[simp] theorem State.sendMsg_clock (m : MsgX) : (s.sendMsg m).clock = s.clock := by
  unfold State.sendMsg; split <;> simp
@[simp] theorem State.reply_clock (ph op tag : Nat) (ws : List Word) : (s.reply ph op tag ws).clock = s.clock := by
  unfold State.reply; split <;> simp
@[simp] theorem State.notice_clock (k c d : Nat) : (s.notice k c d).clock = s.clock := by
  unfold State.notice; split <;> simp
@[simp] theorem State.emptyNotice_clock (h : Bool) (n : Nat) : (s.emptyNotice h n).clock = s.clock := by
  cases h <;> simp [State.emptyNotice]
@[simp] theorem State.reqEmpty_clock (h : Bool) (n : Nat) : (s.reqEmpty h n).clock = s.clock := by
  unfold State.reqEmpty State.onPigeon; repeat' split
  all_goals simp
@[simp] theorem State.dropTd_clock (n : Nat) : (s.dropTd n).clock = s.clock := by
  unfold State.dropTd; dsimp only; split <;> simp
@[simp] theorem State.pushFifo_clock (h : Bool) (n : Nat) (v : Word) : (s.pushFifo h n v).clock = s.clock := by
  unfold State.pushFifo State.onPigeon; dsimp only; repeat' split
  all_goals simp
@[simp] theorem State.popFifo_clock (h : Bool) (n : Nat) : (s.popFifo h n).clock = s.clock := by
  unfold State.popFifo; dsimp only; repeat' split
  all_goals simp
@[simp] theorem State.onFifo_power (h : Bool) (n : Nat) (g : FifoX) : (s.onPigeon n (fun t => t.setFifo h n g)).power = s.power := by
  unfold State.onPigeon; split <;> simp
@[simp] theorem State.appendFifo_power (h : Bool) (n : Nat) (ws : List Word) : (s.appendFifo h n ws).power = s.power := by
  unfold State.appendFifo State.onPigeon; dsimp only; split <;> simp
@[simp] theorem State.pushMsg_power (m : MsgX) : (s.pushMsg m).power = s.power := by simp [State.pushMsg]
@[simp] theorem State.drainOutbox_power (n : Nat) : (s.drainOutbox n).power = s.power := by
  unfold State.drainOutbox; repeat' split
  all_goals simp
@[simp] theorem State.sendMsg_power (m : MsgX) : (s.sendMsg m).power = s.power := by
  unfold State.sendMsg; split <;> simp
@[simp] theorem State.reply_power (ph op tag : Nat) (ws : List Word) : (s.reply ph op tag ws).power = s.power := by
  unfold State.reply; split <;> simp
@[simp] theorem State.notice_power (k c d : Nat) : (s.notice k c d).power = s.power := by
  unfold State.notice; split <;> simp
@[simp] theorem State.emptyNotice_power (h : Bool) (n : Nat) : (s.emptyNotice h n).power = s.power := by
  cases h <;> simp [State.emptyNotice]
@[simp] theorem State.reqEmpty_power (h : Bool) (n : Nat) : (s.reqEmpty h n).power = s.power := by
  unfold State.reqEmpty State.onPigeon; repeat' split
  all_goals simp
@[simp] theorem State.dropTd_power (n : Nat) : (s.dropTd n).power = s.power := by
  unfold State.dropTd; dsimp only; split <;> simp
@[simp] theorem State.pushFifo_power (h : Bool) (n : Nat) (v : Word) : (s.pushFifo h n v).power = s.power := by
  unfold State.pushFifo State.onPigeon; dsimp only; repeat' split
  all_goals simp
@[simp] theorem State.popFifo_power (h : Bool) (n : Nat) : (s.popFifo h n).power = s.power := by
  unfold State.popFifo; dsimp only; repeat' split
  all_goals simp
@[simp] theorem State.onFifo_nv (h : Bool) (n : Nat) (g : FifoX) : (s.onPigeon n (fun t => t.setFifo h n g)).nv = s.nv := by
  unfold State.onPigeon; split <;> simp
@[simp] theorem State.appendFifo_nv (h : Bool) (n : Nat) (ws : List Word) : (s.appendFifo h n ws).nv = s.nv := by
  unfold State.appendFifo State.onPigeon; dsimp only; split <;> simp
@[simp] theorem State.pushMsg_nv (m : MsgX) : (s.pushMsg m).nv = s.nv := by simp [State.pushMsg]
@[simp] theorem State.drainOutbox_nv (n : Nat) : (s.drainOutbox n).nv = s.nv := by
  unfold State.drainOutbox; repeat' split
  all_goals simp
@[simp] theorem State.sendMsg_nv (m : MsgX) : (s.sendMsg m).nv = s.nv := by
  unfold State.sendMsg; split <;> simp
@[simp] theorem State.reply_nv (ph op tag : Nat) (ws : List Word) : (s.reply ph op tag ws).nv = s.nv := by
  unfold State.reply; split <;> simp
@[simp] theorem State.notice_nv (k c d : Nat) : (s.notice k c d).nv = s.nv := by
  unfold State.notice; split <;> simp
@[simp] theorem State.emptyNotice_nv (h : Bool) (n : Nat) : (s.emptyNotice h n).nv = s.nv := by
  cases h <;> simp [State.emptyNotice]
@[simp] theorem State.reqEmpty_nv (h : Bool) (n : Nat) : (s.reqEmpty h n).nv = s.nv := by
  unfold State.reqEmpty State.onPigeon; repeat' split
  all_goals simp
@[simp] theorem State.dropTd_nv (n : Nat) : (s.dropTd n).nv = s.nv := by
  unfold State.dropTd; dsimp only; split <;> simp
@[simp] theorem State.pushFifo_nv (h : Bool) (n : Nat) (v : Word) : (s.pushFifo h n v).nv = s.nv := by
  unfold State.pushFifo State.onPigeon; dsimp only; repeat' split
  all_goals simp
@[simp] theorem State.popFifo_nv (h : Bool) (n : Nat) : (s.popFifo h n).nv = s.nv := by
  unfold State.popFifo; dsimp only; repeat' split
  all_goals simp
@[simp] theorem State.onFifo_signboard (h : Bool) (n : Nat) (g : FifoX) : (s.onPigeon n (fun t => t.setFifo h n g)).signboard = s.signboard := by
  unfold State.onPigeon; split <;> simp
@[simp] theorem State.appendFifo_signboard (h : Bool) (n : Nat) (ws : List Word) : (s.appendFifo h n ws).signboard = s.signboard := by
  unfold State.appendFifo State.onPigeon; dsimp only; split <;> simp
@[simp] theorem State.pushMsg_signboard (m : MsgX) : (s.pushMsg m).signboard = s.signboard := by simp [State.pushMsg]
@[simp] theorem State.drainOutbox_signboard (n : Nat) : (s.drainOutbox n).signboard = s.signboard := by
  unfold State.drainOutbox; repeat' split
  all_goals simp
@[simp] theorem State.sendMsg_signboard (m : MsgX) : (s.sendMsg m).signboard = s.signboard := by
  unfold State.sendMsg; split <;> simp
@[simp] theorem State.reply_signboard (ph op tag : Nat) (ws : List Word) : (s.reply ph op tag ws).signboard = s.signboard := by
  unfold State.reply; split <;> simp
@[simp] theorem State.notice_signboard (k c d : Nat) : (s.notice k c d).signboard = s.signboard := by
  unfold State.notice; split <;> simp
@[simp] theorem State.emptyNotice_signboard (h : Bool) (n : Nat) : (s.emptyNotice h n).signboard = s.signboard := by
  cases h <;> simp [State.emptyNotice]
@[simp] theorem State.reqEmpty_signboard (h : Bool) (n : Nat) : (s.reqEmpty h n).signboard = s.signboard := by
  unfold State.reqEmpty State.onPigeon; repeat' split
  all_goals simp
@[simp] theorem State.dropTd_signboard (n : Nat) : (s.dropTd n).signboard = s.signboard := by
  unfold State.dropTd; dsimp only; split <;> simp
@[simp] theorem State.pushFifo_signboard (h : Bool) (n : Nat) (v : Word) : (s.pushFifo h n v).signboard = s.signboard := by
  unfold State.pushFifo State.onPigeon; dsimp only; repeat' split
  all_goals simp
@[simp] theorem State.popFifo_signboard (h : Bool) (n : Nat) : (s.popFifo h n).signboard = s.signboard := by
  unfold State.popFifo; dsimp only; repeat' split
  all_goals simp
@[simp] theorem State.onFifo_signboardGen (h : Bool) (n : Nat) (g : FifoX) : (s.onPigeon n (fun t => t.setFifo h n g)).signboardGen = s.signboardGen := by
  unfold State.onPigeon; split <;> simp
@[simp] theorem State.appendFifo_signboardGen (h : Bool) (n : Nat) (ws : List Word) : (s.appendFifo h n ws).signboardGen = s.signboardGen := by
  unfold State.appendFifo State.onPigeon; dsimp only; split <;> simp
@[simp] theorem State.pushMsg_signboardGen (m : MsgX) : (s.pushMsg m).signboardGen = s.signboardGen := by simp [State.pushMsg]
@[simp] theorem State.drainOutbox_signboardGen (n : Nat) : (s.drainOutbox n).signboardGen = s.signboardGen := by
  unfold State.drainOutbox; repeat' split
  all_goals simp
@[simp] theorem State.sendMsg_signboardGen (m : MsgX) : (s.sendMsg m).signboardGen = s.signboardGen := by
  unfold State.sendMsg; split <;> simp
@[simp] theorem State.reply_signboardGen (ph op tag : Nat) (ws : List Word) : (s.reply ph op tag ws).signboardGen = s.signboardGen := by
  unfold State.reply; split <;> simp
@[simp] theorem State.notice_signboardGen (k c d : Nat) : (s.notice k c d).signboardGen = s.signboardGen := by
  unfold State.notice; split <;> simp
@[simp] theorem State.emptyNotice_signboardGen (h : Bool) (n : Nat) : (s.emptyNotice h n).signboardGen = s.signboardGen := by
  cases h <;> simp [State.emptyNotice]
@[simp] theorem State.reqEmpty_signboardGen (h : Bool) (n : Nat) : (s.reqEmpty h n).signboardGen = s.signboardGen := by
  unfold State.reqEmpty State.onPigeon; repeat' split
  all_goals simp
@[simp] theorem State.dropTd_signboardGen (n : Nat) : (s.dropTd n).signboardGen = s.signboardGen := by
  unfold State.dropTd; dsimp only; split <;> simp
@[simp] theorem State.pushFifo_signboardGen (h : Bool) (n : Nat) (v : Word) : (s.pushFifo h n v).signboardGen = s.signboardGen := by
  unfold State.pushFifo State.onPigeon; dsimp only; repeat' split
  all_goals simp
@[simp] theorem State.popFifo_signboardGen (h : Bool) (n : Nat) : (s.popFifo h n).signboardGen = s.signboardGen := by
  unfold State.popFifo; dsimp only; repeat' split
  all_goals simp
@[simp] theorem State.onFifo_answer (h : Bool) (n : Nat) (g : FifoX) : (s.onPigeon n (fun t => t.setFifo h n g)).answer = s.answer := by
  unfold State.onPigeon; split <;> simp
@[simp] theorem State.appendFifo_answer (h : Bool) (n : Nat) (ws : List Word) : (s.appendFifo h n ws).answer = s.answer := by
  unfold State.appendFifo State.onPigeon; dsimp only; split <;> simp
@[simp] theorem State.pushMsg_answer (m : MsgX) : (s.pushMsg m).answer = s.answer := by simp [State.pushMsg]
@[simp] theorem State.drainOutbox_answer (n : Nat) : (s.drainOutbox n).answer = s.answer := by
  unfold State.drainOutbox; repeat' split
  all_goals simp
@[simp] theorem State.sendMsg_answer (m : MsgX) : (s.sendMsg m).answer = s.answer := by
  unfold State.sendMsg; split <;> simp
@[simp] theorem State.reply_answer (ph op tag : Nat) (ws : List Word) : (s.reply ph op tag ws).answer = s.answer := by
  unfold State.reply; split <;> simp
@[simp] theorem State.notice_answer (k c d : Nat) : (s.notice k c d).answer = s.answer := by
  unfold State.notice; split <;> simp
@[simp] theorem State.emptyNotice_answer (h : Bool) (n : Nat) : (s.emptyNotice h n).answer = s.answer := by
  cases h <;> simp [State.emptyNotice]
@[simp] theorem State.reqEmpty_answer (h : Bool) (n : Nat) : (s.reqEmpty h n).answer = s.answer := by
  unfold State.reqEmpty State.onPigeon; repeat' split
  all_goals simp
@[simp] theorem State.dropTd_answer (n : Nat) : (s.dropTd n).answer = s.answer := by
  unfold State.dropTd; dsimp only; split <;> simp
@[simp] theorem State.pushFifo_answer (h : Bool) (n : Nat) (v : Word) : (s.pushFifo h n v).answer = s.answer := by
  unfold State.pushFifo State.onPigeon; dsimp only; repeat' split
  all_goals simp
@[simp] theorem State.onFifo_fresh (h : Bool) (n : Nat) (g : FifoX) : (s.onPigeon n (fun t => t.setFifo h n g)).fresh = s.fresh := by
  unfold State.onPigeon; split <;> simp
@[simp] theorem State.appendFifo_fresh (h : Bool) (n : Nat) (ws : List Word) : (s.appendFifo h n ws).fresh = s.fresh := by
  unfold State.appendFifo State.onPigeon; dsimp only; split <;> simp
@[simp] theorem State.pushMsg_fresh (m : MsgX) : (s.pushMsg m).fresh = s.fresh := by simp [State.pushMsg]
@[simp] theorem State.drainOutbox_fresh (n : Nat) : (s.drainOutbox n).fresh = s.fresh := by
  unfold State.drainOutbox; repeat' split
  all_goals simp
@[simp] theorem State.sendMsg_fresh (m : MsgX) : (s.sendMsg m).fresh = s.fresh := by
  unfold State.sendMsg; split <;> simp
@[simp] theorem State.reply_fresh (ph op tag : Nat) (ws : List Word) : (s.reply ph op tag ws).fresh = s.fresh := by
  unfold State.reply; split <;> simp
@[simp] theorem State.notice_fresh (k c d : Nat) : (s.notice k c d).fresh = s.fresh := by
  unfold State.notice; split <;> simp
@[simp] theorem State.emptyNotice_fresh (h : Bool) (n : Nat) : (s.emptyNotice h n).fresh = s.fresh := by
  cases h <;> simp [State.emptyNotice]
@[simp] theorem State.reqEmpty_fresh (h : Bool) (n : Nat) : (s.reqEmpty h n).fresh = s.fresh := by
  unfold State.reqEmpty State.onPigeon; repeat' split
  all_goals simp
@[simp] theorem State.dropTd_fresh (n : Nat) : (s.dropTd n).fresh = s.fresh := by
  unfold State.dropTd; dsimp only; split <;> simp
@[simp] theorem State.pushFifo_fresh (h : Bool) (n : Nat) (v : Word) : (s.pushFifo h n v).fresh = s.fresh := by
  unfold State.pushFifo State.onPigeon; dsimp only; repeat' split
  all_goals simp
@[simp] theorem State.popFifo_fresh (h : Bool) (n : Nat) : (s.popFifo h n).fresh = s.fresh := by
  unfold State.popFifo; dsimp only; repeat' split
  all_goals simp
@[simp] theorem State.told_pending (m b off : Nat) (v : Word) (t : State) : (s.told m b off v t).pending = t.pending := by
  unfold State.told State.mirrorWrite State.resyncStart; dsimp only; repeat' split
  all_goals simp [State.bump, State.setMirror, State.recordCode]
@[simp] theorem State.told_part (m b off : Nat) (v : Word) (t : State) : (s.told m b off v t).part = t.part := by
  unfold State.told State.mirrorWrite State.resyncStart; dsimp only; repeat' split
  all_goals simp [State.bump, State.setMirror, State.recordCode]
@[simp] theorem State.told_mem (m b off : Nat) (v : Word) (t : State) : (s.told m b off v t).mem = t.mem := by
  unfold State.told State.mirrorWrite State.resyncStart; dsimp only; repeat' split
  all_goals simp [State.bump, State.setMirror, State.recordCode]
@[simp] theorem State.told_units (m b off : Nat) (v : Word) (t : State) : (s.told m b off v t).units = t.units := by
  unfold State.told State.mirrorWrite State.resyncStart; dsimp only; repeat' split
  all_goals simp [State.bump, State.setMirror, State.recordCode]
@[simp] theorem State.told_aux (m b off : Nat) (v : Word) (t : State) : (s.told m b off v t).aux = t.aux := by
  unfold State.told State.mirrorWrite State.resyncStart; dsimp only; repeat' split
  all_goals simp [State.bump, State.setMirror, State.recordCode]
@[simp] theorem State.told_hist (m b off : Nat) (v : Word) (t : State) : (s.told m b off v t).hist = t.hist := by
  unfold State.told State.mirrorWrite State.resyncStart; dsimp only; repeat' split
  all_goals simp [State.bump, State.setMirror, State.recordCode]
@[simp] theorem State.told_tree (m b off : Nat) (v : Word) (t : State) : (s.told m b off v t).tree = t.tree := by
  unfold State.told State.mirrorWrite State.resyncStart; dsimp only; repeat' split
  all_goals simp [State.bump, State.setMirror, State.recordCode]
@[simp] theorem State.told_fw (m b off : Nat) (v : Word) (t : State) : (s.told m b off v t).fw = t.fw := by
  unfold State.told State.mirrorWrite State.resyncStart; dsimp only; repeat' split
  all_goals simp [State.bump, State.setMirror, State.recordCode]
@[simp] theorem State.told_td (m b off : Nat) (v : Word) (t : State) : (s.told m b off v t).td = t.td := by
  unfold State.told State.mirrorWrite State.resyncStart; dsimp only; repeat' split
  all_goals simp [State.bump, State.setMirror, State.recordCode]
@[simp] theorem State.told_th (m b off : Nat) (v : Word) (t : State) : (s.told m b off v t).th = t.th := by
  unfold State.told State.mirrorWrite State.resyncStart; dsimp only; repeat' split
  all_goals simp [State.bump, State.setMirror, State.recordCode]
@[simp] theorem State.told_bytes (m b off : Nat) (v : Word) (t : State) : (s.told m b off v t).bytes = t.bytes := by
  unfold State.told State.mirrorWrite State.resyncStart; dsimp only; repeat' split
  all_goals simp [State.bump, State.setMirror, State.recordCode]
@[simp] theorem State.told_sems (m b off : Nat) (v : Word) (t : State) : (s.told m b off v t).sems = t.sems := by
  unfold State.told State.mirrorWrite State.resyncStart; dsimp only; repeat' split
  all_goals simp [State.bump, State.setMirror, State.recordCode]
@[simp] theorem State.told_readLatch (m b off : Nat) (v : Word) (t : State) : (s.told m b off v t).readLatch = t.readLatch := by
  unfold State.told State.mirrorWrite State.resyncStart; dsimp only; repeat' split
  all_goals simp [State.bump, State.setMirror, State.recordCode]
@[simp] theorem State.told_writeLatch (m b off : Nat) (v : Word) (t : State) : (s.told m b off v t).writeLatch = t.writeLatch := by
  unfold State.told State.mirrorWrite State.resyncStart; dsimp only; repeat' split
  all_goals simp [State.bump, State.setMirror, State.recordCode]
@[simp] theorem State.told_guest (m b off : Nat) (v : Word) (t : State) : (s.told m b off v t).guest = t.guest := by
  unfold State.told State.mirrorWrite State.resyncStart; dsimp only; repeat' split
  all_goals simp [State.bump, State.setMirror, State.recordCode]
@[simp] theorem State.told_scan (m b off : Nat) (v : Word) (t : State) : (s.told m b off v t).scan = t.scan := by
  unfold State.told State.mirrorWrite State.resyncStart; dsimp only; repeat' split
  all_goals simp [State.bump, State.setMirror, State.recordCode]
@[simp] theorem State.told_clock (m b off : Nat) (v : Word) (t : State) : (s.told m b off v t).clock = t.clock := by
  unfold State.told State.mirrorWrite State.resyncStart; dsimp only; repeat' split
  all_goals simp [State.bump, State.setMirror, State.recordCode]
@[simp] theorem State.told_power (m b off : Nat) (v : Word) (t : State) : (s.told m b off v t).power = t.power := by
  unfold State.told State.mirrorWrite State.resyncStart; dsimp only; repeat' split
  all_goals simp [State.bump, State.setMirror, State.recordCode]
@[simp] theorem State.told_nv (m b off : Nat) (v : Word) (t : State) : (s.told m b off v t).nv = t.nv := by
  unfold State.told State.mirrorWrite State.resyncStart; dsimp only; repeat' split
  all_goals simp [State.bump, State.setMirror, State.recordCode]
@[simp] theorem State.told_signboard (m b off : Nat) (v : Word) (t : State) : (s.told m b off v t).signboard = t.signboard := by
  unfold State.told State.mirrorWrite State.resyncStart; dsimp only; repeat' split
  all_goals simp [State.bump, State.setMirror, State.recordCode]
@[simp] theorem State.told_signboardGen (m b off : Nat) (v : Word) (t : State) : (s.told m b off v t).signboardGen = t.signboardGen := by
  unfold State.told State.mirrorWrite State.resyncStart; dsimp only; repeat' split
  all_goals simp [State.bump, State.setMirror, State.recordCode]
@[simp] theorem State.told_answer (m b off : Nat) (v : Word) (t : State) : (s.told m b off v t).answer = t.answer := by
  unfold State.told State.mirrorWrite State.resyncStart; dsimp only; repeat' split
  all_goals simp [State.bump, State.setMirror, State.recordCode]
@[simp] theorem State.told_fresh (m b off : Nat) (v : Word) (t : State) : (s.told m b off v t).fresh = t.fresh := by
  unfold State.told State.mirrorWrite State.resyncStart; dsimp only; repeat' split
  all_goals simp [State.bump, State.setMirror, State.recordCode]
@[simp] theorem State.wrBytes_pending (a : Nat) (bs : List Byte) : (s.wrBytes a bs).pending = s.pending := by
  induction bs generalizing s a with
  | nil => rfl
  | cons b bs ih => simp [State.wrBytes, ih, State.wrByte]
@[simp] theorem State.wrBytes_part (a : Nat) (bs : List Byte) : (s.wrBytes a bs).part = s.part := by
  induction bs generalizing s a with
  | nil => rfl
  | cons b bs ih => simp [State.wrBytes, ih, State.wrByte]
@[simp] theorem State.wrBytes_regs (a : Nat) (bs : List Byte) : (s.wrBytes a bs).regs = s.regs := by
  induction bs generalizing s a with
  | nil => rfl
  | cons b bs ih => simp [State.wrBytes, ih, State.wrByte]
@[simp] theorem State.wrBytes_units (a : Nat) (bs : List Byte) : (s.wrBytes a bs).units = s.units := by
  induction bs generalizing s a with
  | nil => rfl
  | cons b bs ih => simp [State.wrBytes, ih, State.wrByte]
@[simp] theorem State.wrBytes_aux (a : Nat) (bs : List Byte) : (s.wrBytes a bs).aux = s.aux := by
  induction bs generalizing s a with
  | nil => rfl
  | cons b bs ih => simp [State.wrBytes, ih, State.wrByte]
@[simp] theorem State.wrBytes_hist (a : Nat) (bs : List Byte) : (s.wrBytes a bs).hist = s.hist := by
  induction bs generalizing s a with
  | nil => rfl
  | cons b bs ih => simp [State.wrBytes, ih, State.wrByte]
@[simp] theorem State.wrBytes_tree (a : Nat) (bs : List Byte) : (s.wrBytes a bs).tree = s.tree := by
  induction bs generalizing s a with
  | nil => rfl
  | cons b bs ih => simp [State.wrBytes, ih, State.wrByte]
@[simp] theorem State.wrBytes_fw (a : Nat) (bs : List Byte) : (s.wrBytes a bs).fw = s.fw := by
  induction bs generalizing s a with
  | nil => rfl
  | cons b bs ih => simp [State.wrBytes, ih, State.wrByte]
@[simp] theorem State.wrBytes_board (a : Nat) (bs : List Byte) : (s.wrBytes a bs).board = s.board := by
  induction bs generalizing s a with
  | nil => rfl
  | cons b bs ih => simp [State.wrBytes, ih, State.wrByte]
@[simp] theorem State.wrBytes_td (a : Nat) (bs : List Byte) : (s.wrBytes a bs).td = s.td := by
  induction bs generalizing s a with
  | nil => rfl
  | cons b bs ih => simp [State.wrBytes, ih, State.wrByte]
@[simp] theorem State.wrBytes_th (a : Nat) (bs : List Byte) : (s.wrBytes a bs).th = s.th := by
  induction bs generalizing s a with
  | nil => rfl
  | cons b bs ih => simp [State.wrBytes, ih, State.wrByte]
@[simp] theorem State.wrBytes_bytes (a : Nat) (bs : List Byte) : (s.wrBytes a bs).bytes = s.bytes := by
  induction bs generalizing s a with
  | nil => rfl
  | cons b bs ih => simp [State.wrBytes, ih, State.wrByte]
@[simp] theorem State.wrBytes_sems (a : Nat) (bs : List Byte) : (s.wrBytes a bs).sems = s.sems := by
  induction bs generalizing s a with
  | nil => rfl
  | cons b bs ih => simp [State.wrBytes, ih, State.wrByte]
@[simp] theorem State.wrBytes_readLatch (a : Nat) (bs : List Byte) : (s.wrBytes a bs).readLatch = s.readLatch := by
  induction bs generalizing s a with
  | nil => rfl
  | cons b bs ih => simp [State.wrBytes, ih, State.wrByte]
@[simp] theorem State.wrBytes_writeLatch (a : Nat) (bs : List Byte) : (s.wrBytes a bs).writeLatch = s.writeLatch := by
  induction bs generalizing s a with
  | nil => rfl
  | cons b bs ih => simp [State.wrBytes, ih, State.wrByte]
@[simp] theorem State.wrBytes_guest (a : Nat) (bs : List Byte) : (s.wrBytes a bs).guest = s.guest := by
  induction bs generalizing s a with
  | nil => rfl
  | cons b bs ih => simp [State.wrBytes, ih, State.wrByte]
@[simp] theorem State.wrBytes_scan (a : Nat) (bs : List Byte) : (s.wrBytes a bs).scan = s.scan := by
  induction bs generalizing s a with
  | nil => rfl
  | cons b bs ih => simp [State.wrBytes, ih, State.wrByte]
@[simp] theorem State.wrBytes_clock (a : Nat) (bs : List Byte) : (s.wrBytes a bs).clock = s.clock := by
  induction bs generalizing s a with
  | nil => rfl
  | cons b bs ih => simp [State.wrBytes, ih, State.wrByte]
@[simp] theorem State.wrBytes_power (a : Nat) (bs : List Byte) : (s.wrBytes a bs).power = s.power := by
  induction bs generalizing s a with
  | nil => rfl
  | cons b bs ih => simp [State.wrBytes, ih, State.wrByte]
@[simp] theorem State.wrBytes_ferry (a : Nat) (bs : List Byte) : (s.wrBytes a bs).ferry = s.ferry := by
  induction bs generalizing s a with
  | nil => rfl
  | cons b bs ih => simp [State.wrBytes, ih, State.wrByte]
@[simp] theorem State.wrBytes_nv (a : Nat) (bs : List Byte) : (s.wrBytes a bs).nv = s.nv := by
  induction bs generalizing s a with
  | nil => rfl
  | cons b bs ih => simp [State.wrBytes, ih, State.wrByte]
@[simp] theorem State.wrBytes_signboard (a : Nat) (bs : List Byte) : (s.wrBytes a bs).signboard = s.signboard := by
  induction bs generalizing s a with
  | nil => rfl
  | cons b bs ih => simp [State.wrBytes, ih, State.wrByte]
@[simp] theorem State.wrBytes_signboardGen (a : Nat) (bs : List Byte) : (s.wrBytes a bs).signboardGen = s.signboardGen := by
  induction bs generalizing s a with
  | nil => rfl
  | cons b bs ih => simp [State.wrBytes, ih, State.wrByte]
@[simp] theorem State.wrBytes_answer (a : Nat) (bs : List Byte) : (s.wrBytes a bs).answer = s.answer := by
  induction bs generalizing s a with
  | nil => rfl
  | cons b bs ih => simp [State.wrBytes, ih, State.wrByte]
@[simp] theorem State.wrBytes_fresh (a : Nat) (bs : List Byte) : (s.wrBytes a bs).fresh = s.fresh := by
  induction bs generalizing s a with
  | nil => rfl
  | cons b bs ih => simp [State.wrBytes, ih, State.wrByte]

/-! ## The board -/

theorem State.ringHigh_toDev (b : Nat) : (s.ringHigh b).board.toDev = s.board.toDev := by
  unfold State.ringHigh State.routeFerry; dsimp only; repeat' split
  all_goals simp

@[simp] theorem State.occur_toDev (e : Nat) : (s.occur e).board.toDev = s.board.toDev := by
  unfold State.occur State.routeFerry; repeat' split
  all_goals simp [State.ringHigh_toDev]

@[simp] theorem State.raise_toDev (e : Nat) : (s.raise e).board.toDev = s.board.toDev := by simp [State.raise]

theorem occurs_toDev (l : List Nat) : (l.foldl State.occur s).board.toDev = s.board.toDev := by
  induction l generalizing s with
  | nil => rfl
  | cons e l ih => simp [ih]

theorem occurs_latch (l : List Nat) : (l.foldl State.occur s).board.latch = s.board.latch := by
  induction l generalizing s with
  | nil => rfl
  | cons e l ih => simp [ih, State.occur_latch]

@[simp] theorem State.ringBells_toDev (v : Word) : (s.ringBells v).board.toDev = s.board.toDev := by
  simp [State.ringBells, occurs_toDev]

@[simp] theorem State.ringBells_latch (v : Word) : (s.ringBells v).board.latch = s.board.latch := by
  simp [State.ringBells, occurs_latch]

/-- No bell to the host is lost by ringing. -/
theorem State.occur_toHost (e i : Nat) (h : s.board.toHost.getLsbD i = true) :
    (s.occur e).board.toHost.getLsbD i = true := by
  unfold State.occur State.routeFerry State.ringHigh State.routeFerry; dsimp only; repeat' split
  all_goals simp [h]

theorem occurs_toHost (l : List Nat) (i : Nat) (h : s.board.toHost.getLsbD i = true) :
    (l.foldl State.occur s).board.toHost.getLsbD i = true := by
  induction l generalizing s with
  | nil => exact h
  | cons e l ih => exact ih _ (State.occur_toHost s e i h)

theorem State.ringBells_toHost (v : Word) (i : Nat) (h : (s.board.toHost ||| v).getLsbD i = true) :
    (s.ringBells v).board.toHost.getLsbD i = true := by
  unfold State.ringBells; dsimp only; exact occurs_toHost _ _ _ h

/-! ## FIFOs -/

@[simp] theorem State.occur_fifo (e : Nat) (g : Bool) (k : Nat) : (s.occur e).fifo g k = s.fifo g k := by simp [State.fifo]

theorem occurs_td (l : List Nat) : (l.foldl State.occur s).td = s.td := by
  induction l generalizing s with
  | nil => rfl
  | cons e l ih => simp [ih]

theorem occurs_th (l : List Nat) : (l.foldl State.occur s).th = s.th := by
  induction l generalizing s with
  | nil => rfl
  | cons e l ih => simp [ih]

/-! ## Writes that no lead mirrors -/

/-- A lead tells of no write but to what R463 names. -/
theorem State.told_apart {m b off : Nat} {v : Word} {t : State} (h : s.mirrorsReg m b off = false) :
    s.told m b off v t = t := by simp [State.told, h]

@[simp] theorem State.mirrorsReg_pigeon (m off : Nat) : s.mirrorsReg m blkPigeon off = false := by
  have h1 : (blkPigeon == blkEvents) = false := by decide
  have h2 : (kindOf blkPigeon == Kind.queue) = false := by decide
  have h3 : ¬ blkPigeon < 0x400 := by decide
  simp [State.mirrorsReg, h1, h2, h3]

theorem kindOf_queue {b : Nat} (h : kindOf b = .queue) : b < 0x400 := by
  by_contra hb
  unfold kindOf at h
  repeat rw [if_neg (by omega)] at h
  iterate 10
    split at h
    · cases h
  cases h

/-- Outside the unit windows a lead mirrors only event registers. -/
theorem State.mirrorsReg_apart {m b off : Nat} (h1 : ¬ b < 0x400) (h2 : b ≠ blkEvents) : s.mirrorsReg m b off = false := by
  have h3 : (kindOf b == Kind.queue) = false := by
    cases h : (kindOf b == Kind.queue) with
    | false => rfl
    | true => exact absurd (kindOf_queue (eq_of_beq h)) h1
  simp [State.mirrorsReg, h1, h2, h3]

end Sys2Proof.Machine
end

