-- ==== Sys2Proof/Laws/Keeps.lean ====
section
/-! SUPPORT. What no operation on the state may change or spoil: the part, the queue of waiting commands, and the
canonical form of the register file and the memories. -/

namespace Sys2Proof.Machine

/-- `t` follows `s` with the same part and queue, and canonical if `s` is. -/
structure Keeps (s t : State) : Prop where
  part : t.part = s.part
  pending : t.pending = s.pending
  regs : Registers.wf s.regs = true → Registers.wf t.regs = true
  mem : Memory.wf s.mem = true → Memory.wf t.mem = true

/-- The same of the state in an outcome, if it holds one. -/
structure KeepsOut (s : State) (o : Out) : Prop where
  keeps : ∀ t, o = .next t → Keeps s t

structure KeepsOpt (s : State) (o : Option State) : Prop where
  keeps : ∀ t, o = some t → Keeps s t

structure KeepsSum (s : State) (o : Nat ⊕ State) : Prop where
  keeps : ∀ t, o = .inr t → Keeps s t

theorem Keeps.refl (s : State) : Keeps s s := ⟨rfl, rfl, id, id⟩

theorem Keeps.trans {a b c : State} (h : Keeps a b) (k : Keeps b c) : Keeps a c :=
  ⟨k.part.trans h.part, k.pending.trans h.pending, fun w => k.regs (h.regs w), fun w => k.mem (h.mem w)⟩

theorem Keeps.canonical {s t : State} (h : Keeps s t) (c : Canonical s) : Canonical t := ⟨h.regs c.1, h.mem c.2⟩

theorem keeps_ite {s0 a b : State} {c : Prop} [Decidable c] (ha : Keeps s0 a) (hb : Keeps s0 b) :
    Keeps s0 (if c then a else b) := by split <;> assumption

theorem keeps_foldl {s0 : State} {α : Type} {g : State → α → State} {l : List α} {s : State}
    (hg : ∀ x a, Keeps s0 x → Keeps s0 (g x a)) (h : Keeps s0 s) : Keeps s0 (l.foldl g s) := by
  induction l generalizing s with
  | nil => exact h
  | cons a l ih => exact ih (hg s a h)

/-- A fold that carries a count or a flag beside the state. -/
theorem keeps_fold_fst {s0 : State} {α β : Type} {g : State × β → α → State × β} {l : List α} {p : State × β}
    (hg : ∀ x a, Keeps s0 x.1 → Keeps s0 (g x a).1) (h : Keeps s0 p.1) : Keeps s0 (l.foldl g p).1 := by
  induction l generalizing p with
  | nil => exact h
  | cons a l ih => exact ih (hg p a h)

theorem keepsOut_next {s0 t : State} (h : Keeps s0 t) : KeepsOut s0 (.next t) := ⟨fun _ e => by cases e; exact h⟩

theorem keepsOut_ite {s0 : State} {a b : Out} {c : Prop} [Decidable c] (ha : KeepsOut s0 a) (hb : KeepsOut s0 b) :
    KeepsOut s0 (if c then a else b) := by split <;> assumption

theorem keepsOpt_some {s0 t : State} (h : Keeps s0 t) : KeepsOpt s0 (some t) := ⟨fun _ e => by cases e; exact h⟩

theorem keepsOpt_none {s0 : State} : KeepsOpt s0 none := ⟨fun _ e => by cases e⟩

theorem keepsOpt_ite {s0 : State} {a b : Option State} {c : Prop} [Decidable c] (ha : KeepsOpt s0 a)
    (hb : KeepsOpt s0 b) : KeepsOpt s0 (if c then a else b) := by split <;> assumption

theorem keepsOpt_map {s0 : State} {α : Type} {o : Option α} {g : α → State} (h : ∀ a, Keeps s0 (g a)) :
    KeepsOpt s0 (o.map g) := ⟨fun _ e => by cases o with
  | none => cases e
  | some a => cases e; exact h a⟩

theorem keepsOpt_getD {s0 s : State} {o : Option State} (ho : KeepsOpt s0 o) (h : Keeps s0 s) : Keeps s0 (o.getD s) := by
  cases o with
  | none => exact h
  | some t => exact ho.keeps t rfl

theorem keepsSum_inl {s0 : State} {n : Nat} : KeepsSum s0 (.inl n) := ⟨fun _ e => by cases e⟩

theorem keepsSum_inr {s0 t : State} (h : Keeps s0 t) : KeepsSum s0 (.inr t) := ⟨fun _ e => by cases e; exact h⟩

theorem keeps_of_some {s0 t : State} {o : Option State} (e : o = some t) (h : KeepsOpt s0 o) : Keeps s0 t := h.keeps t e

theorem keeps_of_inr {s0 t : State} {o : Nat ⊕ State} (e : o = .inr t) (h : KeepsSum s0 o) : Keeps s0 t := h.keeps t e

theorem keeps_of_fst {s0 t : State} {α : Type} {p : State × α} {a : α} (e : p = (t, a)) (h : Keeps s0 p.1) :
    Keeps s0 t := by rw [e] at h; exact h

/-- A change of the other fields alone. -/
theorem keeps_other {s0 x : State} (units : Table UnitX) (aux : Table Nat) (hist : Table (List Int)) (tree : Tree)
    (fw : Firmware) (board : Board) (td th : Table FifoX) (bytes : Table (List Nat)) (sems : Table Nat)
    (readLatch writeLatch : Table Word) (guest : Guest) (scan : Scan) (clock : Clock) (power : Power) (ferry : Ferry)
    (nv : NvX) (signboard : SignX) (signboardGen : Word) (answer : List Word) (fresh : Nat) (h : Keeps s0 x) :
    Keeps s0 (State.mk x.pending x.part x.regs x.mem units aux hist tree fw board td th bytes sems readLatch writeLatch
      guest scan clock power ferry nv signboard signboardGen answer fresh) := ⟨h.part, h.pending, h.regs, h.mem⟩

/-- The register file and the memories replaced by canonical ones. -/
theorem keeps_stores {s0 x : State} (regs : Table Word) (mem : Table Byte) (units : Table UnitX) (aux : Table Nat)
    (hist : Table (List Int)) (tree : Tree)
    (fw : Firmware) (board : Board) (td th : Table FifoX) (bytes : Table (List Nat)) (sems : Table Nat)
    (readLatch writeLatch : Table Word) (guest : Guest) (scan : Scan) (clock : Clock) (power : Power) (ferry : Ferry)
    (nv : NvX) (signboard : SignX) (signboardGen : Word) (answer : List Word) (fresh : Nat) (h : Keeps s0 x)
    (hr : Registers.wf x.regs = true → Registers.wf regs = true) (hm : Memory.wf x.mem = true → Memory.wf mem = true) :
    Keeps s0 (State.mk x.pending x.part regs mem units aux hist tree fw board td th bytes sems readLatch writeLatch
      guest scan clock power ferry nv signboard signboardGen answer fresh) :=
  ⟨h.part, h.pending, fun w => hr (h.regs w), fun w => hm (h.mem w)⟩

theorem keeps_dropRegs {s0 x : State} (p : Nat × Word → Bool) (units : Table UnitX) (aux : Table Nat)
    (hist : Table (List Int)) (tree : Tree)
    (fw : Firmware) (board : Board) (td th : Table FifoX) (bytes : Table (List Nat)) (sems : Table Nat)
    (readLatch writeLatch : Table Word) (guest : Guest) (scan : Scan) (clock : Clock) (power : Power) (ferry : Ferry)
    (nv : NvX) (signboard : SignX) (signboardGen : Word) (answer : List Word) (fresh : Nat) (h : Keeps s0 x) :
    Keeps s0 (State.mk x.pending x.part (x.regs.filter p) x.mem units aux hist tree fw board td th bytes sems readLatch
      writeLatch guest scan clock power ferry nv signboard signboardGen answer fresh) :=
  keeps_stores _ _ _ _ _ _ _ _ _ _ _ _ _ _ _ _ _ _ _ _ _ _ _ _ h (fun w => Store.filter_wf p w) id

theorem keeps_dropMem {s0 x : State} (lo hi : Nat) (units : Table UnitX) (aux : Table Nat)
    (hist : Table (List Int)) (tree : Tree)
    (fw : Firmware) (board : Board) (td th : Table FifoX) (bytes : Table (List Nat)) (sems : Table Nat)
    (readLatch writeLatch : Table Word) (guest : Guest) (scan : Scan) (clock : Clock) (power : Power) (ferry : Ferry)
    (nv : NvX) (signboard : SignX) (signboardGen : Word) (answer : List Word) (fresh : Nat) (h : Keeps s0 x) :
    Keeps s0 (State.mk x.pending x.part x.regs (Store.dropRange lo hi x.mem) units aux hist tree fw board td th bytes sems
      readLatch writeLatch guest scan clock power ferry nv signboard signboardGen answer fresh) :=
  keeps_stores _ _ _ _ _ _ _ _ _ _ _ _ _ _ _ _ _ _ _ _ _ _ _ _ h id (fun w => Store.dropRange_wf lo hi w)

theorem keeps_dropBoth {s0 x : State} (p : Nat × Word → Bool) (q : Nat × Byte → Bool) (units : Table UnitX)
    (aux : Table Nat) (hist : Table (List Int)) (tree : Tree)
    (fw : Firmware) (board : Board) (td th : Table FifoX) (bytes : Table (List Nat)) (sems : Table Nat)
    (readLatch writeLatch : Table Word) (guest : Guest) (scan : Scan) (clock : Clock) (power : Power) (ferry : Ferry)
    (nv : NvX) (signboard : SignX) (signboardGen : Word) (answer : List Word) (fresh : Nat) (h : Keeps s0 x) :
    Keeps s0 (State.mk x.pending x.part (x.regs.filter p) (x.mem.filter q) units aux hist tree fw board td th bytes sems
      readLatch writeLatch guest scan clock power ferry nv signboard signboardGen answer fresh) :=
  keeps_stores _ _ _ _ _ _ _ _ _ _ _ _ _ _ _ _ _ _ _ _ _ _ _ _ h (fun w => Store.filter_wf p w)
    (fun w => Store.filter_wf q w)

end Sys2Proof.Machine
end

