-- ==== Sys2Proof/Laws/KeepsOps.lean ====
section
/-! SUPPORT. What every operation of Ops keeps: the canonical form, the part and the queue. -/

set_option linter.unusedTactic false
set_option linter.unreachableTactic false

namespace Sys2Proof.Machine

theorem State.wr_keeps {s0 s : State} (b off : Nat) (v : Word) (h : Keeps s0 s) : Keeps s0 (s.wr b off v) :=
  keeps_stores _ _ _ _ _ _ _ _ _ _ _ _ _ _ _ _ _ _ _ _ _ _ _ _ h (fun w => Store.set_wf _ _ w) id

theorem State.put_keeps {z0 : State} {s : State} (b : Nat) (r : FRef) (v : Nat)  (hK : Keeps z0 s) :
    Keeps z0 (State.put s b r v) := by
  unfold State.put
  try dsimp only
  repeat' (first | with_reducible assumption | with_reducible apply State.wr_keeps | with_reducible apply keeps_ite | with_reducible apply keeps_foldl | fail_if_no_progress (with_reducible apply keeps_other) | with_reducible apply keeps_dropRegs | with_reducible apply keeps_dropMem | with_reducible apply keeps_dropBoth | (intro _; intros) | (refine keeps_of_some (by with_reducible assumption) ?_) | (refine keeps_of_fst (by with_reducible assumption) ?_) | split)

theorem State.putB_keeps {z0 : State} {s : State} (b : Nat) (r : FRef) (v : Bool)  (hK : Keeps z0 s) :
    Keeps z0 (State.putB s b r v) := by
  unfold State.putB
  try dsimp only
  repeat' (first | with_reducible assumption | with_reducible apply State.put_keeps | with_reducible apply keeps_ite | with_reducible apply keeps_foldl | fail_if_no_progress (with_reducible apply keeps_other) | with_reducible apply keeps_dropRegs | with_reducible apply keeps_dropMem | with_reducible apply keeps_dropBoth | (intro _; intros) | (refine keeps_of_some (by with_reducible assumption) ?_) | (refine keeps_of_fst (by with_reducible assumption) ?_) | split)

theorem State.putI_keeps {z0 : State} {s : State} (b : Nat) (r : FRef) (v : Int)  (hK : Keeps z0 s) :
    Keeps z0 (State.putI s b r v) := by
  unfold State.putI
  try dsimp only
  repeat' (first | with_reducible assumption | with_reducible apply State.put_keeps | with_reducible apply keeps_ite | with_reducible apply keeps_foldl | fail_if_no_progress (with_reducible apply keeps_other) | with_reducible apply keeps_dropRegs | with_reducible apply keeps_dropMem | with_reducible apply keeps_dropBoth | (intro _; intros) | (refine keeps_of_some (by with_reducible assumption) ?_) | (refine keeps_of_fst (by with_reducible assumption) ?_) | split)

theorem State.setUnit_keeps {z0 : State} {s : State} (w : Nat) (x : UnitX)  (hK : Keeps z0 s) :
    Keeps z0 (State.setUnit s w x) := by
  unfold State.setUnit
  try dsimp only
  repeat' (first | with_reducible assumption | with_reducible apply keeps_ite | with_reducible apply keeps_foldl | fail_if_no_progress (with_reducible apply keeps_other) | with_reducible apply keeps_dropRegs | with_reducible apply keeps_dropMem | with_reducible apply keeps_dropBoth | (intro _; intros) | (refine keeps_of_some (by with_reducible assumption) ?_) | (refine keeps_of_fst (by with_reducible assumption) ?_) | split)

theorem State.setAx_keeps {z0 : State} {s : State} (w : Nat) (slot : Nat) (v : Nat)  (hK : Keeps z0 s) :
    Keeps z0 (State.setAx s w slot v) := by
  unfold State.setAx
  try dsimp only
  repeat' (first | with_reducible assumption | with_reducible apply keeps_ite | with_reducible apply keeps_foldl | fail_if_no_progress (with_reducible apply keeps_other) | with_reducible apply keeps_dropRegs | with_reducible apply keeps_dropMem | with_reducible apply keeps_dropBoth | (intro _; intros) | (refine keeps_of_some (by with_reducible assumption) ?_) | (refine keeps_of_fst (by with_reducible assumption) ?_) | split)

theorem State.setHs_keeps {z0 : State} {s : State} (w : Nat) (slot : Nat) (v : List Int)  (hK : Keeps z0 s) :
    Keeps z0 (State.setHs s w slot v) := by
  unfold State.setHs
  try dsimp only
  repeat' (first | with_reducible assumption | with_reducible apply keeps_ite | with_reducible apply keeps_foldl | fail_if_no_progress (with_reducible apply keeps_other) | with_reducible apply keeps_dropRegs | with_reducible apply keeps_dropMem | with_reducible apply keeps_dropBoth | (intro _; intros) | (refine keeps_of_some (by with_reducible assumption) ?_) | (refine keeps_of_fst (by with_reducible assumption) ?_) | split)

theorem State.setBl_keeps {z0 : State} {s : State} (k : Nat) (v : List Nat)  (hK : Keeps z0 s) :
    Keeps z0 (State.setBl s k v) := by
  unfold State.setBl
  try dsimp only
  repeat' (first | with_reducible assumption | with_reducible apply keeps_ite | with_reducible apply keeps_foldl | fail_if_no_progress (with_reducible apply keeps_other) | with_reducible apply keeps_dropRegs | with_reducible apply keeps_dropMem | with_reducible apply keeps_dropBoth | (intro _; intros) | (refine keeps_of_some (by with_reducible assumption) ?_) | (refine keeps_of_fst (by with_reducible assumption) ?_) | split)

theorem State.clearHistory_keeps {z0 : State} {s : State} (w : Nat)  (hK : Keeps z0 s) :
    Keeps z0 (State.clearHistory s w) := by
  unfold State.clearHistory
  try dsimp only
  repeat' (first | with_reducible assumption | with_reducible apply keeps_ite | with_reducible apply keeps_foldl | fail_if_no_progress (with_reducible apply keeps_other) | with_reducible apply keeps_dropRegs | with_reducible apply keeps_dropMem | with_reducible apply keeps_dropBoth | (intro _; intros) | (refine keeps_of_some (by with_reducible assumption) ?_) | (refine keeps_of_fst (by with_reducible assumption) ?_) | split)

theorem State.through_keeps {z0 : State} {s : State} (w : Nat) (slot : Nat) (g : Config.Stage) (params : List Int) (xs : List Int)  (hK : Keeps z0 s) :
    Keeps z0 (State.through s w slot g params xs).1 := by
  unfold State.through
  try dsimp only
  repeat' (first | with_reducible assumption | with_reducible apply State.stage_keeps | with_reducible apply State.setHs_keeps | with_reducible apply keeps_ite | with_reducible apply keeps_foldl | fail_if_no_progress (with_reducible apply keeps_other) | with_reducible apply keeps_dropRegs | with_reducible apply keeps_dropMem | with_reducible apply keeps_dropBoth | (intro _; intros) | (refine keeps_of_some (by with_reducible assumption) ?_) | (refine keeps_of_fst (by with_reducible assumption) ?_) | split)

theorem State.useFresh_keeps {z0 : State} {s : State}  (hK : Keeps z0 s) :
    Keeps z0 (State.useFresh s) := by
  unfold State.useFresh
  try dsimp only
  repeat' (first | with_reducible assumption | with_reducible apply keeps_ite | with_reducible apply keeps_foldl | fail_if_no_progress (with_reducible apply keeps_other) | with_reducible apply keeps_dropRegs | with_reducible apply keeps_dropMem | with_reducible apply keeps_dropBoth | (intro _; intros) | (refine keeps_of_some (by with_reducible assumption) ?_) | (refine keeps_of_fst (by with_reducible assumption) ?_) | split)

theorem State.ans_keeps {z0 : State} {s : State} (ws : List Word)  (hK : Keeps z0 s) :
    Keeps z0 (State.ans s ws) := by
  unfold State.ans
  try dsimp only
  repeat' (first | with_reducible assumption | with_reducible apply keeps_ite | with_reducible apply keeps_foldl | fail_if_no_progress (with_reducible apply keeps_other) | with_reducible apply keeps_dropRegs | with_reducible apply keeps_dropMem | with_reducible apply keeps_dropBoth | (intro _; intros) | (refine keeps_of_some (by with_reducible assumption) ?_) | (refine keeps_of_fst (by with_reducible assumption) ?_) | split)

theorem State.wrByte_keeps {s0 s : State} (a : Nat) (v : Byte) (h : Keeps s0 s) : Keeps s0 (s.wrByte a v) :=
  keeps_stores _ _ _ _ _ _ _ _ _ _ _ _ _ _ _ _ _ _ _ _ _ _ _ _ h id (fun w => Store.set_wf _ _ w)

theorem State.wrBytes_keeps {s0 s : State} (a : Nat) (bs : List Byte) (h : Keeps s0 s) : Keeps s0 (s.wrBytes a bs) := by
  induction bs generalizing s a with
  | nil => exact h
  | cons b bs ih => exact ih _ (State.wrByte_keeps _ _ h)

theorem State.wrWord_keeps {z0 : State} {s : State} (a : Nat) (v : Word)  (hK : Keeps z0 s) :
    Keeps z0 (State.wrWord s a v) := by
  unfold State.wrWord
  try dsimp only
  repeat' (first | with_reducible assumption | with_reducible apply State.wrBytes_keeps | with_reducible apply keeps_ite | with_reducible apply keeps_foldl | fail_if_no_progress (with_reducible apply keeps_other) | with_reducible apply keeps_dropRegs | with_reducible apply keeps_dropMem | with_reducible apply keeps_dropBoth | (intro _; intros) | (refine keeps_of_some (by with_reducible assumption) ?_) | (refine keeps_of_fst (by with_reducible assumption) ?_) | split)

theorem State.wrWords_keeps {s0 s : State} (a : Nat) (ws : List Word) (h : Keeps s0 s) : Keeps s0 (s.wrWords a ws) := by
  induction ws generalizing s a with
  | nil => exact h
  | cons b bs ih => exact ih _ (State.wrWord_keeps _ _ h)

theorem State.setParent_keeps {z0 : State} {s : State} (w : Nat) (p : Nat)  (hK : Keeps z0 s) :
    Keeps z0 (State.setParent s w p) := by
  unfold State.setParent
  try dsimp only
  repeat' (first | with_reducible assumption | with_reducible apply keeps_ite | with_reducible apply keeps_foldl | fail_if_no_progress (with_reducible apply keeps_other) | with_reducible apply keeps_dropRegs | with_reducible apply keeps_dropMem | with_reducible apply keeps_dropBoth | (intro _; intros) | (refine keeps_of_some (by with_reducible assumption) ?_) | (refine keeps_of_fst (by with_reducible assumption) ?_) | split)

theorem State.sendFrame_keeps {z0 : State} {s : State} (f : FrameX)  (hK : Keeps z0 s) :
    Keeps z0 (State.sendFrame s f) := by
  unfold State.sendFrame
  try dsimp only
  repeat' (first | with_reducible assumption | with_reducible apply keeps_ite | with_reducible apply keeps_foldl | fail_if_no_progress (with_reducible apply keeps_other) | with_reducible apply keeps_dropRegs | with_reducible apply keeps_dropMem | with_reducible apply keeps_dropBoth | (intro _; intros) | (refine keeps_of_some (by with_reducible assumption) ?_) | (refine keeps_of_fst (by with_reducible assumption) ?_) | split)

theorem State.mirrorMsg_keeps {z0 : State} {s : State} (cls : Nat) (ws : List Word)  (hK : Keeps z0 s) :
    Keeps z0 (State.mirrorMsg s cls ws) := by
  unfold State.mirrorMsg
  try dsimp only
  repeat' (first | with_reducible assumption | with_reducible apply State.sendFrame_keeps | with_reducible apply keeps_ite | with_reducible apply keeps_foldl | fail_if_no_progress (with_reducible apply keeps_other) | with_reducible apply keeps_dropRegs | with_reducible apply keeps_dropMem | with_reducible apply keeps_dropBoth | (intro _; intros) | (refine keeps_of_some (by with_reducible assumption) ?_) | (refine keeps_of_fst (by with_reducible assumption) ?_) | split)

theorem State.routeFerry_keeps {z0 : State} {s : State} (e : Nat)  (hK : Keeps z0 s) :
    Keeps z0 (State.routeFerry s e) := by
  unfold State.routeFerry
  try dsimp only
  repeat' (first | with_reducible assumption | with_reducible apply State.sendFrame_keeps | with_reducible apply keeps_ite | with_reducible apply keeps_foldl | fail_if_no_progress (with_reducible apply keeps_other) | with_reducible apply keeps_dropRegs | with_reducible apply keeps_dropMem | with_reducible apply keeps_dropBoth | (intro _; intros) | (refine keeps_of_some (by with_reducible assumption) ?_) | (refine keeps_of_fst (by with_reducible assumption) ?_) | split)

theorem State.ringHigh_keeps {z0 : State} {s : State} (b : Nat)  (hK : Keeps z0 s) :
    Keeps z0 (State.ringHigh s b) := by
  unfold State.ringHigh
  try dsimp only
  repeat' (first | with_reducible assumption | with_reducible apply State.routeFerry_keeps | with_reducible apply keeps_ite | with_reducible apply keeps_foldl | fail_if_no_progress (with_reducible apply keeps_other) | with_reducible apply keeps_dropRegs | with_reducible apply keeps_dropMem | with_reducible apply keeps_dropBoth | (intro _; intros) | (refine keeps_of_some (by with_reducible assumption) ?_) | (refine keeps_of_fst (by with_reducible assumption) ?_) | split)

theorem State.occur_keeps {z0 : State} {s : State} (e : Nat)  (hK : Keeps z0 s) :
    Keeps z0 (State.occur s e) := by
  unfold State.occur
  try dsimp only
  repeat' (first | with_reducible assumption | with_reducible apply State.ringHigh_keeps | with_reducible apply State.routeFerry_keeps | with_reducible apply keeps_ite | with_reducible apply keeps_foldl | fail_if_no_progress (with_reducible apply keeps_other) | with_reducible apply keeps_dropRegs | with_reducible apply keeps_dropMem | with_reducible apply keeps_dropBoth | (intro _; intros) | (refine keeps_of_some (by with_reducible assumption) ?_) | (refine keeps_of_fst (by with_reducible assumption) ?_) | split)

theorem State.raise_keeps {z0 : State} {s : State} (e : Nat)  (hK : Keeps z0 s) :
    Keeps z0 (State.raise s e) := by
  unfold State.raise
  try dsimp only
  repeat' (first | with_reducible assumption | with_reducible apply State.occur_keeps | with_reducible apply keeps_ite | with_reducible apply keeps_foldl | fail_if_no_progress (with_reducible apply keeps_other) | with_reducible apply keeps_dropRegs | with_reducible apply keeps_dropMem | with_reducible apply keeps_dropBoth | (intro _; intros) | (refine keeps_of_some (by with_reducible assumption) ?_) | (refine keeps_of_fst (by with_reducible assumption) ?_) | split)

theorem State.ringBells_keeps {z0 : State} {s : State} (v : Word)  (hK : Keeps z0 s) :
    Keeps z0 (State.ringBells s v) := by
  unfold State.ringBells
  try dsimp only
  repeat' (first | with_reducible assumption | with_reducible apply State.occur_keeps | with_reducible apply keeps_ite | with_reducible apply keeps_foldl | fail_if_no_progress (with_reducible apply keeps_other) | with_reducible apply keeps_dropRegs | with_reducible apply keeps_dropMem | with_reducible apply keeps_dropBoth | (intro _; intros) | (refine keeps_of_some (by with_reducible assumption) ?_) | (refine keeps_of_fst (by with_reducible assumption) ?_) | split)

theorem State.raiseKind_keeps {z0 : State} {s : State} (w : Nat) (bit : Nat)  (hK : Keeps z0 s) :
    Keeps z0 (State.raiseKind s w bit) := by
  unfold State.raiseKind
  try dsimp only
  repeat' (first | with_reducible assumption | with_reducible apply State.occur_keeps | with_reducible apply State.wr_keeps | with_reducible apply keeps_ite | with_reducible apply keeps_foldl | fail_if_no_progress (with_reducible apply keeps_other) | with_reducible apply keeps_dropRegs | with_reducible apply keeps_dropMem | with_reducible apply keeps_dropBoth | (intro _; intros) | (refine keeps_of_some (by with_reducible assumption) ?_) | (refine keeps_of_fst (by with_reducible assumption) ?_) | split)

theorem State.count_keeps {z0 : State} {s : State} (b : Nat) (r : FRef)  (hK : Keeps z0 s) :
    Keeps z0 (State.count s b r) := by
  unfold State.count
  try dsimp only
  repeat' (first | with_reducible assumption | with_reducible apply State.raiseKind_keeps | with_reducible apply State.raise_keeps | with_reducible apply State.wr_keeps | with_reducible apply keeps_ite | with_reducible apply keeps_foldl | with_reducible apply keepsOpt_getD | fail_if_no_progress (with_reducible apply keeps_other) | with_reducible apply keeps_dropRegs | with_reducible apply keeps_dropMem | with_reducible apply keeps_dropBoth | (intro _; intros) | (refine keeps_of_some (by with_reducible assumption) ?_) | (refine keeps_of_fst (by with_reducible assumption) ?_) | split)

theorem State.countN_keeps {s0 s : State} (b : Nat) (r : FRef) (n : Nat) (h : Keeps s0 s) : Keeps s0 (s.countN b r n) := by
  induction n generalizing s with
  | zero => exact h
  | succ n ih => exact ih (State.count_keeps _ _ h)

theorem State.restartCounter_keeps {z0 : State} {s : State} (b : Nat) (off : Nat)  (hK : Keeps z0 s) :
    Keeps z0 (State.restartCounter s b off) := by
  unfold State.restartCounter
  try dsimp only
  repeat' (first | with_reducible assumption | with_reducible apply State.wr_keeps | with_reducible apply keeps_ite | with_reducible apply keeps_foldl | fail_if_no_progress (with_reducible apply keeps_other) | with_reducible apply keeps_dropRegs | with_reducible apply keeps_dropMem | with_reducible apply keeps_dropBoth | (intro _; intros) | (refine keeps_of_some (by with_reducible assumption) ?_) | (refine keeps_of_fst (by with_reducible assumption) ?_) | split)

theorem State.bump_keeps {z0 : State} {s : State} (b : Nat) (r : FRef) (n : Nat := 1)  (hK : Keeps z0 s) :
    Keeps z0 (State.bump s b r n) := by
  unfold State.bump
  try dsimp only
  repeat' (first | with_reducible assumption | with_reducible apply State.wr_keeps | with_reducible apply keeps_ite | with_reducible apply keeps_foldl | fail_if_no_progress (with_reducible apply keeps_other) | with_reducible apply keeps_dropRegs | with_reducible apply keeps_dropMem | with_reducible apply keeps_dropBoth | (intro _; intros) | (refine keeps_of_some (by with_reducible assumption) ?_) | (refine keeps_of_fst (by with_reducible assumption) ?_) | split)

theorem State.noteStatus_keeps {z0 : State} (old : Nat × Bool) (w : Nat) {s : State}  (hK : Keeps z0 s) :
    Keeps z0 (State.noteStatus old w s) := by
  unfold State.noteStatus
  try dsimp only
  repeat' (first | with_reducible assumption | with_reducible apply State.raiseKind_keeps | with_reducible apply keeps_ite | with_reducible apply keeps_foldl | fail_if_no_progress (with_reducible apply keeps_other) | with_reducible apply keeps_dropRegs | with_reducible apply keeps_dropMem | with_reducible apply keeps_dropBoth | (intro _; intros) | (refine keeps_of_some (by with_reducible assumption) ?_) | (refine keeps_of_fst (by with_reducible assumption) ?_) | split)

theorem State.filterFlush_keeps {z0 : State} {s : State} (w : Nat)  (hK : Keeps z0 s) :
    Keeps z0 (State.filterFlush s w) := by
  unfold State.filterFlush
  try dsimp only
  repeat' (first | with_reducible assumption | with_reducible apply State.raiseKind_keeps | with_reducible apply State.put_keeps | with_reducible apply keeps_ite | with_reducible apply keeps_foldl | fail_if_no_progress (with_reducible apply keeps_other) | with_reducible apply keeps_dropRegs | with_reducible apply keeps_dropMem | with_reducible apply keeps_dropBoth | (intro _; intros) | (refine keeps_of_some (by with_reducible assumption) ?_) | (refine keeps_of_fst (by with_reducible assumption) ?_) | split)

theorem State.takeCfg_keeps {z0 : State} {s : State} (w : Nat)  (hK : Keeps z0 s) :
    Keeps z0 (State.takeCfg s w) := by
  unfold State.takeCfg
  try dsimp only
  repeat' (first | with_reducible assumption | with_reducible apply State.setAx_keeps | with_reducible apply keeps_ite | with_reducible apply keeps_foldl | fail_if_no_progress (with_reducible apply keeps_other) | with_reducible apply keeps_dropRegs | with_reducible apply keeps_dropMem | with_reducible apply keeps_dropBoth | (intro _; intros) | (refine keeps_of_some (by with_reducible assumption) ?_) | (refine keeps_of_fst (by with_reducible assumption) ?_) | split)

theorem State.detForget_keeps {z0 : State} {s : State} (w : Nat)  (hK : Keeps z0 s) :
    Keeps z0 (State.detForget s w) := by
  unfold State.detForget
  try dsimp only
  repeat' (first | with_reducible assumption | with_reducible apply State.wr_keeps | with_reducible apply keeps_ite | with_reducible apply keeps_foldl | fail_if_no_progress (with_reducible apply keeps_other) | with_reducible apply keeps_dropRegs | with_reducible apply keeps_dropMem | with_reducible apply keeps_dropBoth | (intro _; intros) | (refine keeps_of_some (by with_reducible assumption) ?_) | (refine keeps_of_fst (by with_reducible assumption) ?_) | split)

theorem State.mpxForget_keeps {z0 : State} {s : State} (w : Nat)  (hK : Keeps z0 s) :
    Keeps z0 (State.mpxForget s w) := by
  unfold State.mpxForget
  try dsimp only
  repeat' (first | with_reducible assumption | with_reducible apply State.setAx_keeps | with_reducible apply State.put_keeps | with_reducible apply keeps_ite | with_reducible apply keeps_foldl | fail_if_no_progress (with_reducible apply keeps_other) | with_reducible apply keeps_dropRegs | with_reducible apply keeps_dropMem | with_reducible apply keeps_dropBoth | (intro _; intros) | (refine keeps_of_some (by with_reducible assumption) ?_) | (refine keeps_of_fst (by with_reducible assumption) ?_) | split)

theorem State.fmHook_keeps {z0 : State} {s : State} (w : Nat) (old : Nat) (st : Nat)  (hK : Keeps z0 s) :
    Keeps z0 (State.fmHook s w old st) := by
  unfold State.fmHook
  try dsimp only
  repeat' (first | with_reducible assumption | with_reducible apply State.mpxForget_keeps | with_reducible apply State.takeCfg_keeps | with_reducible apply State.wr_keeps | with_reducible apply keeps_ite | with_reducible apply keeps_foldl | fail_if_no_progress (with_reducible apply keeps_other) | with_reducible apply keeps_dropRegs | with_reducible apply keeps_dropMem | with_reducible apply keeps_dropBoth | (intro _; intros) | (refine keeps_of_some (by with_reducible assumption) ?_) | (refine keeps_of_fst (by with_reducible assumption) ?_) | split)

theorem State.amUnlock_keeps {z0 : State} {s : State} (w : Nat)  (hK : Keeps z0 s) :
    Keeps z0 (State.amUnlock s w) := by
  unfold State.amUnlock
  try dsimp only
  repeat' (first | with_reducible assumption | with_reducible apply State.put_keeps | with_reducible apply keeps_ite | with_reducible apply keeps_foldl | fail_if_no_progress (with_reducible apply keeps_other) | with_reducible apply keeps_dropRegs | with_reducible apply keeps_dropMem | with_reducible apply keeps_dropBoth | (intro _; intros) | (refine keeps_of_some (by with_reducible assumption) ?_) | (refine keeps_of_fst (by with_reducible assumption) ?_) | split)

theorem State.amHook_keeps {z0 : State} {s : State} (w : Nat) (old : Nat) (st : Nat)  (hK : Keeps z0 s) :
    Keeps z0 (State.amHook s w old st) := by
  unfold State.amHook
  try dsimp only
  repeat' (first | with_reducible assumption | with_reducible apply State.amUnlock_keeps | with_reducible apply State.takeCfg_keeps | with_reducible apply State.wr_keeps | with_reducible apply keeps_ite | with_reducible apply keeps_foldl | fail_if_no_progress (with_reducible apply keeps_other) | with_reducible apply keeps_dropRegs | with_reducible apply keeps_dropMem | with_reducible apply keeps_dropBoth | (intro _; intros) | (refine keeps_of_some (by with_reducible assumption) ?_) | (refine keeps_of_fst (by with_reducible assumption) ?_) | split)

theorem State.ofdmRestart_keeps {z0 : State} {s : State} (w : Nat)  (hK : Keeps z0 s) :
    Keeps z0 (State.ofdmRestart s w) := by
  unfold State.ofdmRestart
  try dsimp only
  repeat' (first | with_reducible assumption | with_reducible apply State.setBl_keeps | with_reducible apply State.setAx_keeps | with_reducible apply State.put_keeps | with_reducible apply State.wr_keeps | with_reducible apply keeps_ite | with_reducible apply keeps_foldl | fail_if_no_progress (with_reducible apply keeps_other) | with_reducible apply keeps_dropRegs | with_reducible apply keeps_dropMem | with_reducible apply keeps_dropBoth | (intro _; intros) | (refine keeps_of_some (by with_reducible assumption) ?_) | (refine keeps_of_fst (by with_reducible assumption) ?_) | split)

theorem State.ofdmHook_keeps {z0 : State} {s : State} (w : Nat) (old : Nat) (st : Nat)  (hK : Keeps z0 s) :
    Keeps z0 (State.ofdmHook s w old st) := by
  unfold State.ofdmHook
  try dsimp only
  repeat' (first | with_reducible assumption | with_reducible apply State.ofdmRestart_keeps | with_reducible apply State.setAx_keeps | with_reducible apply State.put_keeps | with_reducible apply keeps_ite | with_reducible apply keeps_foldl | fail_if_no_progress (with_reducible apply keeps_other) | with_reducible apply keeps_dropRegs | with_reducible apply keeps_dropMem | with_reducible apply keeps_dropBoth | (intro _; intros) | (refine keeps_of_some (by with_reducible assumption) ?_) | (refine keeps_of_fst (by with_reducible assumption) ?_) | split)

theorem State.laneFlush_keeps {z0 : State} {s : State} (w : Nat)  (hK : Keeps z0 s) :
    Keeps z0 (State.laneFlush s w) := by
  unfold State.laneFlush
  try dsimp only
  repeat' (first | with_reducible assumption | with_reducible apply State.raiseKind_keeps | with_reducible apply State.setAx_keeps | with_reducible apply State.put_keeps | with_reducible apply keeps_ite | with_reducible apply keeps_foldl | fail_if_no_progress (with_reducible apply keeps_other) | with_reducible apply keeps_dropRegs | with_reducible apply keeps_dropMem | with_reducible apply keeps_dropBoth | (intro _; intros) | (refine keeps_of_some (by with_reducible assumption) ?_) | (refine keeps_of_fst (by with_reducible assumption) ?_) | split)

theorem State.laneUnstored_keeps {z0 : State} {s : State} (w : Nat)  (hK : Keeps z0 s) :
    Keeps z0 (State.laneUnstored s w) := by
  unfold State.laneUnstored
  try dsimp only
  repeat' (first | with_reducible assumption | with_reducible apply State.setHs_keeps | with_reducible apply State.put_keeps | with_reducible apply keeps_ite | with_reducible apply keeps_foldl | fail_if_no_progress (with_reducible apply keeps_other) | with_reducible apply keeps_dropRegs | with_reducible apply keeps_dropMem | with_reducible apply keeps_dropBoth | (intro _; intros) | (refine keeps_of_some (by with_reducible assumption) ?_) | (refine keeps_of_fst (by with_reducible assumption) ?_) | split)

theorem State.laneStop_keeps {z0 : State} {s : State} (w : Nat)  (hK : Keeps z0 s) :
    Keeps z0 (State.laneStop s w) := by
  unfold State.laneStop
  try dsimp only
  repeat' (first | with_reducible assumption | with_reducible apply State.setAx_keeps | with_reducible apply keeps_ite | with_reducible apply keeps_foldl | fail_if_no_progress (with_reducible apply keeps_other) | with_reducible apply keeps_dropRegs | with_reducible apply keeps_dropMem | with_reducible apply keeps_dropBoth | (intro _; intros) | (refine keeps_of_some (by with_reducible assumption) ?_) | (refine keeps_of_fst (by with_reducible assumption) ?_) | split)

theorem State.rampStart_keeps {z0 : State} {s : State} (w : Nat) (state : Nat) (why : Nat) (len : Nat)  (hK : Keeps z0 s) :
    Keeps z0 (State.rampStart s w state why len) := by
  unfold State.rampStart
  try dsimp only
  repeat' (first | with_reducible assumption | with_reducible apply State.setAx_keeps | with_reducible apply State.put_keeps | with_reducible apply keeps_ite | with_reducible apply keeps_foldl | fail_if_no_progress (with_reducible apply keeps_other) | with_reducible apply keeps_dropRegs | with_reducible apply keeps_dropMem | with_reducible apply keeps_dropBoth | (intro _; intros) | (refine keeps_of_some (by with_reducible assumption) ?_) | (refine keeps_of_fst (by with_reducible assumption) ?_) | split)

theorem State.rampIn_keeps {z0 : State} {s : State} (w : Nat)  (hK : Keeps z0 s) :
    Keeps z0 (State.rampIn s w) := by
  unfold State.rampIn
  try dsimp only
  repeat' (first | with_reducible assumption | with_reducible apply State.rampStart_keeps | with_reducible apply keeps_ite | with_reducible apply keeps_foldl | fail_if_no_progress (with_reducible apply keeps_other) | with_reducible apply keeps_dropRegs | with_reducible apply keeps_dropMem | with_reducible apply keeps_dropBoth | (intro _; intros) | (refine keeps_of_some (by with_reducible assumption) ?_) | (refine keeps_of_fst (by with_reducible assumption) ?_) | split)

theorem State.recentred_keeps {z0 : State} {s : State} (f : Nat)  (hK : Keeps z0 s) :
    Keeps z0 (State.recentred s f) := by
  unfold State.recentred
  try dsimp only
  repeat' (first | with_reducible assumption | with_reducible apply State.setAx_keeps | with_reducible apply State.put_keeps | with_reducible apply keeps_ite | with_reducible apply keeps_foldl | fail_if_no_progress (with_reducible apply keeps_other) | with_reducible apply keeps_dropRegs | with_reducible apply keeps_dropMem | with_reducible apply keeps_dropBoth | (intro _; intros) | (refine keeps_of_some (by with_reducible assumption) ?_) | (refine keeps_of_fst (by with_reducible assumption) ?_) | split)

theorem State.rampZero_keeps {z0 : State} {s : State} (w : Nat)  (hK : Keeps z0 s) :
    Keeps z0 (State.rampZero s w) := by
  unfold State.rampZero
  try dsimp only
  repeat' (first | with_reducible assumption | with_reducible apply State.recentred_keeps | with_reducible apply State.setAx_keeps | with_reducible apply State.put_keeps | with_reducible apply keeps_ite | with_reducible apply keeps_foldl | fail_if_no_progress (with_reducible apply keeps_other) | with_reducible apply keeps_dropRegs | with_reducible apply keeps_dropMem | with_reducible apply keeps_dropBoth | (intro _; intros) | (refine keeps_of_some (by with_reducible assumption) ?_) | (refine keeps_of_fst (by with_reducible assumption) ?_) | split)

theorem State.laneSteer_keeps {z0 : State} {s : State} (w : Nat)  (hK : Keeps z0 s) :
    Keeps z0 (State.laneSteer s w) := by
  unfold State.laneSteer
  try dsimp only
  repeat' (first | with_reducible assumption | with_reducible apply State.rampZero_keeps | with_reducible apply State.rampIn_keeps | with_reducible apply State.rampStart_keeps | with_reducible apply keeps_ite | with_reducible apply keeps_foldl | fail_if_no_progress (with_reducible apply keeps_other) | with_reducible apply keeps_dropRegs | with_reducible apply keeps_dropMem | with_reducible apply keeps_dropBoth | (intro _; intros) | (refine keeps_of_some (by with_reducible assumption) ?_) | (refine keeps_of_fst (by with_reducible assumption) ?_) | split)

theorem State.rampAnew_keeps {z0 : State} {s : State} (w : Nat)  (hK : Keeps z0 s) :
    Keeps z0 (State.rampAnew s w) := by
  unfold State.rampAnew
  try dsimp only
  repeat' (first | with_reducible assumption | with_reducible apply State.laneSteer_keeps | with_reducible apply State.rampZero_keeps | with_reducible apply keeps_ite | with_reducible apply keeps_foldl | fail_if_no_progress (with_reducible apply keeps_other) | with_reducible apply keeps_dropRegs | with_reducible apply keeps_dropMem | with_reducible apply keeps_dropBoth | (intro _; intros) | (refine keeps_of_some (by with_reducible assumption) ?_) | (refine keeps_of_fst (by with_reducible assumption) ?_) | split)

theorem State.asrcFlush_keeps {z0 : State} {s : State} (w : Nat)  (hK : Keeps z0 s) :
    Keeps z0 (State.asrcFlush s w) := by
  unfold State.asrcFlush
  try dsimp only
  repeat' (first | with_reducible assumption | with_reducible apply State.bump_keeps | with_reducible apply State.setHs_keeps | with_reducible apply State.setAx_keeps | with_reducible apply State.put_keeps | with_reducible apply keeps_ite | with_reducible apply keeps_foldl | fail_if_no_progress (with_reducible apply keeps_other) | with_reducible apply keeps_dropRegs | with_reducible apply keeps_dropMem | with_reducible apply keeps_dropBoth | (intro _; intros) | (refine keeps_of_some (by with_reducible assumption) ?_) | (refine keeps_of_fst (by with_reducible assumption) ?_) | split)

theorem State.asrcRatio_keeps {z0 : State} {s : State} (w : Nat) (dev : Int)  (hK : Keeps z0 s) :
    Keeps z0 (State.asrcRatio s w dev) := by
  unfold State.asrcRatio
  try dsimp only
  repeat' (first | with_reducible assumption | with_reducible apply State.wr_keeps | with_reducible apply keeps_ite | with_reducible apply keeps_foldl | fail_if_no_progress (with_reducible apply keeps_other) | with_reducible apply keeps_dropRegs | with_reducible apply keeps_dropMem | with_reducible apply keeps_dropBoth | (intro _; intros) | (refine keeps_of_some (by with_reducible assumption) ?_) | (refine keeps_of_fst (by with_reducible assumption) ?_) | split)

theorem State.asrcMode_keeps {z0 : State} {s : State} (w : Nat)  (hK : Keeps z0 s) :
    Keeps z0 (State.asrcMode s w) := by
  unfold State.asrcMode
  try dsimp only
  repeat' (first | with_reducible assumption | with_reducible apply State.asrcRatio_keeps | with_reducible apply State.raiseKind_keeps | with_reducible apply State.setHs_keeps | with_reducible apply State.put_keeps | with_reducible apply State.wr_keeps | with_reducible apply keeps_ite | with_reducible apply keeps_foldl | fail_if_no_progress (with_reducible apply keeps_other) | with_reducible apply keeps_dropRegs | with_reducible apply keeps_dropMem | with_reducible apply keeps_dropBoth | (intro _; intros) | (refine keeps_of_some (by with_reducible assumption) ?_) | (refine keeps_of_fst (by with_reducible assumption) ?_) | split)

theorem State.asrcHook_keeps {z0 : State} {s : State} (w : Nat) (old : Nat) (st : Nat)  (hK : Keeps z0 s) :
    Keeps z0 (State.asrcHook s w old st) := by
  unfold State.asrcHook
  try dsimp only
  repeat' (first | with_reducible assumption | with_reducible apply State.asrcMode_keeps | with_reducible apply State.asrcFlush_keeps | with_reducible apply State.put_keeps | with_reducible apply keeps_ite | with_reducible apply keeps_foldl | fail_if_no_progress (with_reducible apply keeps_other) | with_reducible apply keeps_dropRegs | with_reducible apply keeps_dropMem | with_reducible apply keeps_dropBoth | (intro _; intros) | (refine keeps_of_some (by with_reducible assumption) ?_) | (refine keeps_of_fst (by with_reducible assumption) ?_) | split)

theorem State.tapClear_keeps {z0 : State} {s : State} (w : Nat)  (hK : Keeps z0 s) :
    Keeps z0 (State.tapClear s w) := by
  unfold State.tapClear
  try dsimp only
  repeat' (first | with_reducible assumption | with_reducible apply State.setHs_keeps | with_reducible apply State.setAx_keeps | with_reducible apply keeps_ite | with_reducible apply keeps_foldl | fail_if_no_progress (with_reducible apply keeps_other) | with_reducible apply keeps_dropRegs | with_reducible apply keeps_dropMem | with_reducible apply keeps_dropBoth | (intro _; intros) | (refine keeps_of_some (by with_reducible assumption) ?_) | (refine keeps_of_fst (by with_reducible assumption) ?_) | split)

theorem State.zcWait_keeps {z0 : State} {s : State} (w : Nat) (slots : Nat)  (hK : Keeps z0 s) :
    Keeps z0 (State.zcWait s w slots) := by
  unfold State.zcWait
  try dsimp only
  repeat' (first | with_reducible assumption | with_reducible apply State.setAx_keeps | with_reducible apply State.put_keeps | with_reducible apply keeps_ite | with_reducible apply keeps_foldl | fail_if_no_progress (with_reducible apply keeps_other) | with_reducible apply keeps_dropRegs | with_reducible apply keeps_dropMem | with_reducible apply keeps_dropBoth | (intro _; intros) | (refine keeps_of_some (by with_reducible assumption) ?_) | (refine keeps_of_fst (by with_reducible assumption) ?_) | split)

theorem State.zcArm_keeps {z0 : State} {s : State} (w : Nat)  (hK : Keeps z0 s) :
    Keeps z0 (State.zcArm s w) := by
  unfold State.zcArm
  try dsimp only
  repeat' (first | with_reducible assumption | with_reducible apply State.zcWait_keeps | with_reducible apply keeps_ite | with_reducible apply keeps_foldl | fail_if_no_progress (with_reducible apply keeps_other) | with_reducible apply keeps_dropRegs | with_reducible apply keeps_dropMem | with_reducible apply keeps_dropBoth | (intro _; intros) | (refine keeps_of_some (by with_reducible assumption) ?_) | (refine keeps_of_fst (by with_reducible assumption) ?_) | split)

theorem State.portClocks_keeps {z0 : State} {s : State} (w : Nat)  (hK : Keeps z0 s) :
    Keeps z0 (State.portClocks s w) := by
  unfold State.portClocks
  try dsimp only
  repeat' (first | with_reducible assumption | with_reducible apply State.putB_keeps | with_reducible apply State.put_keeps | with_reducible apply keeps_ite | with_reducible apply keeps_foldl | fail_if_no_progress (with_reducible apply keeps_other) | with_reducible apply keeps_dropRegs | with_reducible apply keeps_dropMem | with_reducible apply keeps_dropBoth | (intro _; intros) | (refine keeps_of_some (by with_reducible assumption) ?_) | (refine keeps_of_fst (by with_reducible assumption) ?_) | split)

theorem State.portHook_keeps {z0 : State} {s : State} (w : Nat) (old : Nat) (st : Nat)  (hK : Keeps z0 s) :
    Keeps z0 (State.portHook s w old st) := by
  unfold State.portHook
  try dsimp only
  repeat' (first | with_reducible assumption | with_reducible apply State.portClocks_keeps | with_reducible apply State.zcArm_keeps | with_reducible apply State.tapClear_keeps | with_reducible apply State.setHs_keeps | with_reducible apply State.setAx_keeps | with_reducible apply State.putB_keeps | with_reducible apply State.put_keeps | with_reducible apply keeps_ite | with_reducible apply keeps_foldl | fail_if_no_progress (with_reducible apply keeps_other) | with_reducible apply keeps_dropRegs | with_reducible apply keeps_dropMem | with_reducible apply keeps_dropBoth | (intro _; intros) | (refine keeps_of_some (by with_reducible assumption) ?_) | (refine keeps_of_fst (by with_reducible assumption) ?_) | split)

theorem State.queueHook_keeps {z0 : State} {s : State} (w : Nat)  (hK : Keeps z0 s) :
    Keeps z0 (State.queueHook s w) := by
  unfold State.queueHook
  try dsimp only
  repeat' (first | with_reducible assumption | with_reducible apply State.setAx_keeps | with_reducible apply State.setUnit_keeps | with_reducible apply keeps_ite | with_reducible apply keeps_foldl | fail_if_no_progress (with_reducible apply keeps_other) | with_reducible apply keeps_dropRegs | with_reducible apply keeps_dropMem | with_reducible apply keeps_dropBoth | (intro _; intros) | (refine keeps_of_some (by with_reducible assumption) ?_) | (refine keeps_of_fst (by with_reducible assumption) ?_) | split)

theorem State.twcDrop_keeps {z0 : State} {s : State}  (hK : Keeps z0 s) :
    Keeps z0 (State.twcDrop s) := by
  unfold State.twcDrop
  try dsimp only
  repeat' (first | with_reducible assumption | with_reducible apply State.setBl_keeps | with_reducible apply State.setAx_keeps | with_reducible apply State.put_keeps | with_reducible apply keeps_ite | with_reducible apply keeps_foldl | fail_if_no_progress (with_reducible apply keeps_other) | with_reducible apply keeps_dropRegs | with_reducible apply keeps_dropMem | with_reducible apply keeps_dropBoth | (intro _; intros) | (refine keeps_of_some (by with_reducible assumption) ?_) | (refine keeps_of_fst (by with_reducible assumption) ?_) | split)

theorem State.twcHook_keeps {z0 : State} {s : State} (old : Nat) (st : Nat)  (hK : Keeps z0 s) :
    Keeps z0 (State.twcHook s old st) := by
  unfold State.twcHook
  try dsimp only
  repeat' (first | with_reducible assumption | with_reducible apply State.twcDrop_keeps | with_reducible apply State.setUnit_keeps | with_reducible apply State.put_keeps | with_reducible apply keeps_ite | with_reducible apply keeps_foldl | fail_if_no_progress (with_reducible apply keeps_other) | with_reducible apply keeps_dropRegs | with_reducible apply keeps_dropMem | with_reducible apply keeps_dropBoth | (intro _; intros) | (refine keeps_of_some (by with_reducible assumption) ?_) | (refine keeps_of_fst (by with_reducible assumption) ?_) | split)

theorem State.sdRestart_keeps {z0 : State} {s : State} (w : Nat)  (hK : Keeps z0 s) :
    Keeps z0 (State.sdRestart s w) := by
  unfold State.sdRestart
  try dsimp only
  repeat' (first | with_reducible assumption | with_reducible apply State.wr_keeps | with_reducible apply keeps_ite | with_reducible apply keeps_foldl | fail_if_no_progress (with_reducible apply keeps_other) | with_reducible apply keeps_dropRegs | with_reducible apply keeps_dropMem | with_reducible apply keeps_dropBoth | (intro _; intros) | (refine keeps_of_some (by with_reducible assumption) ?_) | (refine keeps_of_fst (by with_reducible assumption) ?_) | split)

theorem State.scoutOff_keeps {z0 : State} {s : State} (w : Nat)  (hK : Keeps z0 s) :
    Keeps z0 (State.scoutOff s w) := by
  unfold State.scoutOff
  try dsimp only
  repeat' (first | with_reducible assumption | with_reducible apply State.sdRestart_keeps | with_reducible apply State.ofdmHook_keeps | with_reducible apply State.amUnlock_keeps | with_reducible apply State.filterFlush_keeps | with_reducible apply State.noteStatus_keeps | with_reducible apply State.clearHistory_keeps | with_reducible apply State.setUnit_keeps | with_reducible apply State.wr_keeps | with_reducible apply keeps_ite | with_reducible apply keeps_foldl | fail_if_no_progress (with_reducible apply keeps_other) | with_reducible apply keeps_dropRegs | with_reducible apply keeps_dropMem | with_reducible apply keeps_dropBoth | (intro _; intros) | (refine keeps_of_some (by with_reducible assumption) ?_) | (refine keeps_of_fst (by with_reducible assumption) ?_) | split)

theorem State.dropScouts_keeps {z0 : State} {s : State} (f : Nat)  (hK : Keeps z0 s) :
    Keeps z0 (State.dropScouts s f) := by
  unfold State.dropScouts
  try dsimp only
  repeat' (first | with_reducible assumption | with_reducible apply State.scoutOff_keeps | with_reducible apply State.setHs_keeps | with_reducible apply State.wr_keeps | with_reducible apply keeps_ite | with_reducible apply keeps_foldl | fail_if_no_progress (with_reducible apply keeps_other) | with_reducible apply keeps_dropRegs | with_reducible apply keeps_dropMem | with_reducible apply keeps_dropBoth | (intro _; intros) | (refine keeps_of_some (by with_reducible assumption) ?_) | (refine keeps_of_fst (by with_reducible assumption) ?_) | split)

theorem State.followStart_keeps {z0 : State} {s : State} (f : Nat)  (hK : Keeps z0 s) :
    Keeps z0 (State.followStart s f) := by
  unfold State.followStart
  try dsimp only
  repeat' (first | with_reducible assumption | with_reducible apply State.put_keeps | with_reducible apply State.wr_keeps | with_reducible apply keeps_ite | with_reducible apply keeps_foldl | fail_if_no_progress (with_reducible apply keeps_other) | with_reducible apply keeps_dropRegs | with_reducible apply keeps_dropMem | with_reducible apply keeps_dropBoth | (intro _; intros) | (refine keeps_of_some (by with_reducible assumption) ?_) | (refine keeps_of_fst (by with_reducible assumption) ?_) | split)

theorem State.followDrop_keeps {z0 : State} {s : State} (f : Nat)  (hK : Keeps z0 s) :
    Keeps z0 (State.followDrop s f) := by
  unfold State.followDrop
  try dsimp only
  repeat' (first | with_reducible assumption | with_reducible apply State.dropScouts_keeps | with_reducible apply State.clearHistory_keeps | with_reducible apply State.setAx_keeps | with_reducible apply State.put_keeps | with_reducible apply keeps_ite | with_reducible apply keeps_foldl | fail_if_no_progress (with_reducible apply keeps_other) | with_reducible apply keeps_dropRegs | with_reducible apply keeps_dropMem | with_reducible apply keeps_dropBoth | (intro _; intros) | (refine keeps_of_some (by with_reducible assumption) ?_) | (refine keeps_of_fst (by with_reducible assumption) ?_) | split)

theorem State.followHook_keeps {z0 : State} {s : State} (f : Nat) (old : Nat) (st : Nat)  (hK : Keeps z0 s) :
    Keeps z0 (State.followHook s f old st) := by
  unfold State.followHook
  try dsimp only
  repeat' (first | with_reducible assumption | with_reducible apply State.followDrop_keeps | with_reducible apply State.followStart_keeps | with_reducible apply State.setUnit_keeps | with_reducible apply State.put_keeps | with_reducible apply keeps_ite | with_reducible apply keeps_foldl | fail_if_no_progress (with_reducible apply keeps_other) | with_reducible apply keeps_dropRegs | with_reducible apply keeps_dropMem | with_reducible apply keeps_dropBoth | (intro _; intros) | (refine keeps_of_some (by with_reducible assumption) ?_) | (refine keeps_of_fst (by with_reducible assumption) ?_) | split)

theorem State.stateHook_keeps {z0 : State} {s : State} (w : Nat) (old : Nat) (st : Nat)  (hK : Keeps z0 s) :
    Keeps z0 (State.stateHook s w old st) := by
  unfold State.stateHook
  try dsimp only
  repeat' (first | with_reducible assumption | with_reducible apply State.followHook_keeps | with_reducible apply State.sdRestart_keeps | with_reducible apply State.twcHook_keeps | with_reducible apply State.portHook_keeps | with_reducible apply State.asrcHook_keeps | with_reducible apply State.laneStop_keeps | with_reducible apply State.laneUnstored_keeps | with_reducible apply State.laneFlush_keeps | with_reducible apply State.ofdmHook_keeps | with_reducible apply State.amHook_keeps | with_reducible apply State.fmHook_keeps | with_reducible apply State.detForget_keeps | with_reducible apply State.filterFlush_keeps | with_reducible apply State.setHs_keeps | with_reducible apply State.put_keeps | with_reducible apply State.wr_keeps | with_reducible apply keeps_ite | with_reducible apply keeps_foldl | fail_if_no_progress (with_reducible apply keeps_other) | with_reducible apply keeps_dropRegs | with_reducible apply keeps_dropMem | with_reducible apply keeps_dropBoth | (intro _; intros) | (refine keeps_of_some (by with_reducible assumption) ?_) | (refine keeps_of_fst (by with_reducible assumption) ?_) | split)

theorem State.resetHook_keeps {z0 : State} {s : State} (w : Nat)  (hK : Keeps z0 s) :
    Keeps z0 (State.resetHook s w) := by
  unfold State.resetHook
  try dsimp only
  repeat' (first | with_reducible assumption | with_reducible apply State.followDrop_keeps | with_reducible apply State.followStart_keeps | with_reducible apply State.sdRestart_keeps | with_reducible apply State.twcDrop_keeps | with_reducible apply State.tapClear_keeps | with_reducible apply State.asrcFlush_keeps | with_reducible apply State.laneUnstored_keeps | with_reducible apply State.laneFlush_keeps | with_reducible apply State.ofdmRestart_keeps | with_reducible apply State.amUnlock_keeps | with_reducible apply State.mpxForget_keeps | with_reducible apply State.detForget_keeps | with_reducible apply State.filterFlush_keeps | with_reducible apply keeps_ite | with_reducible apply keeps_foldl | fail_if_no_progress (with_reducible apply keeps_other) | with_reducible apply keeps_dropRegs | with_reducible apply keeps_dropMem | with_reducible apply keeps_dropBoth | (intro _; intros) | (refine keeps_of_some (by with_reducible assumption) ?_) | (refine keeps_of_fst (by with_reducible assumption) ?_) | split)

theorem State.settle_keeps {z0 : State} (old : Nat) (w : Nat) {s : State}  (hK : Keeps z0 s) :
    Keeps z0 (State.settle old w s) := by
  unfold State.settle
  try dsimp only
  repeat' (first | with_reducible assumption | with_reducible apply State.resetHook_keeps | with_reducible apply State.stateHook_keeps | with_reducible apply State.queueHook_keeps | with_reducible apply State.laneSteer_keeps | with_reducible apply State.clearHistory_keeps | with_reducible apply State.setAx_keeps | with_reducible apply State.setUnit_keeps | with_reducible apply keeps_ite | with_reducible apply keeps_foldl | fail_if_no_progress (with_reducible apply keeps_other) | with_reducible apply keeps_dropRegs | with_reducible apply keeps_dropMem | with_reducible apply keeps_dropBoth | (intro _; intros) | (refine keeps_of_some (by with_reducible assumption) ?_) | (refine keeps_of_fst (by with_reducible assumption) ?_) | split)

theorem State.watch_keeps {z0 : State} {s : State} (w : Nat) (f : State → State) (hf : ∀ y, Keeps z0 y → Keeps z0 (f y)) (hK : Keeps z0 s) :
    Keeps z0 (State.watch s w f) := by
  unfold State.watch
  try dsimp only
  repeat' (first | with_reducible assumption | with_reducible apply hf | with_reducible apply State.settle_keeps | with_reducible apply State.noteStatus_keeps | with_reducible apply keeps_ite | with_reducible apply keeps_foldl | fail_if_no_progress (with_reducible apply keeps_other) | with_reducible apply keeps_dropRegs | with_reducible apply keeps_dropMem | with_reducible apply keeps_dropBoth | (intro _; intros) | (refine keeps_of_some (by with_reducible assumption) ?_) | (refine keeps_of_fst (by with_reducible assumption) ?_) | split)

theorem State.setValid_keeps {z0 : State} {s : State} (w : Nat) (v : Bool)  (hK : Keeps z0 s) :
    Keeps z0 (State.setValid s w v) := by
  unfold State.setValid
  try dsimp only
  repeat' (first | with_reducible assumption | with_reducible apply State.watch_keeps | with_reducible apply State.rampAnew_keeps | with_reducible apply State.setUnit_keeps | with_reducible apply keeps_ite | with_reducible apply keeps_foldl | fail_if_no_progress (with_reducible apply keeps_other) | with_reducible apply keeps_dropRegs | with_reducible apply keeps_dropMem | with_reducible apply keeps_dropBoth | (intro _; intros) | (refine keeps_of_some (by with_reducible assumption) ?_) | (refine keeps_of_fst (by with_reducible assumption) ?_) | split)

theorem State.syncReset_keeps {z0 : State} {s : State} (w : Nat)  (hK : Keeps z0 s) :
    Keeps z0 (State.syncReset s w) := by
  unfold State.syncReset
  try dsimp only
  repeat' (first | with_reducible assumption | with_reducible apply State.watch_keeps | with_reducible apply State.resetHook_keeps | with_reducible apply State.clearHistory_keeps | with_reducible apply State.setUnit_keeps | with_reducible apply keeps_ite | with_reducible apply keeps_foldl | fail_if_no_progress (with_reducible apply keeps_other) | with_reducible apply keeps_dropRegs | with_reducible apply keeps_dropMem | with_reducible apply keeps_dropBoth | (intro _; intros) | (refine keeps_of_some (by with_reducible assumption) ?_) | (refine keeps_of_fst (by with_reducible assumption) ?_) | split)

theorem State.addHold_keeps {z0 : State} {s : State} (cause : Nat) (w : Nat)  (hK : Keeps z0 s) :
    Keeps z0 (State.addHold s cause w) := by
  unfold State.addHold
  try dsimp only
  repeat' (first | with_reducible assumption | with_reducible apply State.watch_keeps | with_reducible apply State.setUnit_keeps | with_reducible apply keeps_ite | with_reducible apply keeps_foldl | fail_if_no_progress (with_reducible apply keeps_other) | with_reducible apply keeps_dropRegs | with_reducible apply keeps_dropMem | with_reducible apply keeps_dropBoth | (intro _; intros) | (refine keeps_of_some (by with_reducible assumption) ?_) | (refine keeps_of_fst (by with_reducible assumption) ?_) | split)

theorem State.dropHold_keeps {z0 : State} {s : State} (cause : Nat) (w : Nat)  (hK : Keeps z0 s) :
    Keeps z0 (State.dropHold s cause w) := by
  unfold State.dropHold
  try dsimp only
  repeat' (first | with_reducible assumption | with_reducible apply State.watch_keeps | with_reducible apply State.setUnit_keeps | with_reducible apply keeps_ite | with_reducible apply keeps_foldl | fail_if_no_progress (with_reducible apply keeps_other) | with_reducible apply keeps_dropRegs | with_reducible apply keeps_dropMem | with_reducible apply keeps_dropBoth | (intro _; intros) | (refine keeps_of_some (by with_reducible assumption) ?_) | (refine keeps_of_fst (by with_reducible assumption) ?_) | split)

theorem State.bumpGens_keeps {z0 : State} {s : State} (ws : List Nat)  (hK : Keeps z0 s) :
    Keeps z0 (State.bumpGens s ws) := by
  unfold State.bumpGens
  try dsimp only
  repeat' (first | with_reducible assumption | with_reducible apply State.raiseKind_keeps | with_reducible apply State.wr_keeps | with_reducible apply keeps_ite | with_reducible apply keeps_foldl | fail_if_no_progress (with_reducible apply keeps_other) | with_reducible apply keeps_dropRegs | with_reducible apply keeps_dropMem | with_reducible apply keeps_dropBoth | (intro _; intros) | (refine keeps_of_some (by with_reducible assumption) ?_) | (refine keeps_of_fst (by with_reducible assumption) ?_) | split)

theorem State.setErr_keeps {z0 : State} {s : State} (w : Nat) (code : Nat)  (hK : Keeps z0 s) :
    Keeps z0 (State.setErr s w code) := by
  unfold State.setErr
  try dsimp only
  repeat' (first | with_reducible assumption | with_reducible apply State.raiseKind_keeps | with_reducible apply State.put_keeps | with_reducible apply keeps_ite | with_reducible apply keeps_foldl | fail_if_no_progress (with_reducible apply keeps_other) | with_reducible apply keeps_dropRegs | with_reducible apply keeps_dropMem | with_reducible apply keeps_dropBoth | (intro _; intros) | (refine keeps_of_some (by with_reducible assumption) ?_) | (refine keeps_of_fst (by with_reducible assumption) ?_) | split)

theorem State.setAccess_keeps {z0 : State} {s : State} (m : Nat) (addr : Nat) (write : Bool) (code : Nat)  (hK : Keeps z0 s) :
    Keeps z0 (State.setAccess s m addr write code) := by
  unfold State.setAccess
  try dsimp only
  repeat' (first | with_reducible assumption | with_reducible apply State.wr_keeps | with_reducible apply keeps_ite | with_reducible apply keeps_foldl | fail_if_no_progress (with_reducible apply keeps_other) | with_reducible apply keeps_dropRegs | with_reducible apply keeps_dropMem | with_reducible apply keeps_dropBoth | (intro _; intros) | (refine keeps_of_some (by with_reducible assumption) ?_) | (refine keeps_of_fst (by with_reducible assumption) ?_) | split)

theorem State.accessFail_keeps {z0 : State} {s : State} (m : Nat) (addr : Nat) (write : Bool) (code : Nat)  (hK : Keeps z0 s) :
    Keeps z0 (State.accessFail s m addr write code) := by
  unfold State.accessFail
  try dsimp only
  repeat' (first | with_reducible assumption | with_reducible apply State.setAccess_keeps | with_reducible apply State.count_keeps | with_reducible apply State.raise_keeps | with_reducible apply keeps_ite | with_reducible apply keeps_foldl | fail_if_no_progress (with_reducible apply keeps_other) | with_reducible apply keeps_dropRegs | with_reducible apply keeps_dropMem | with_reducible apply keeps_dropBoth | (intro _; intros) | (refine keeps_of_some (by with_reducible assumption) ?_) | (refine keeps_of_fst (by with_reducible assumption) ?_) | split)

theorem State.setFifo_keeps {z0 : State} {s : State} (toHost : Bool) (n : Nat) (f : FifoX)  (hK : Keeps z0 s) :
    Keeps z0 (State.setFifo s toHost n f) := by
  unfold State.setFifo
  try dsimp only
  repeat' (first | with_reducible assumption | with_reducible apply keeps_ite | with_reducible apply keeps_foldl | fail_if_no_progress (with_reducible apply keeps_other) | with_reducible apply keeps_dropRegs | with_reducible apply keeps_dropMem | with_reducible apply keeps_dropBoth | (intro _; intros) | (refine keeps_of_some (by with_reducible assumption) ?_) | (refine keeps_of_fst (by with_reducible assumption) ?_) | split)

theorem State.onPigeon_keeps {z0 : State} {s : State} (n : Nat) (f : State → State) (hf : ∀ y, Keeps z0 y → Keeps z0 (f y)) (hK : Keeps z0 s) :
    Keeps z0 (State.onPigeon s n f) := by
  unfold State.onPigeon
  try dsimp only
  repeat' (first | with_reducible assumption | with_reducible apply hf | with_reducible apply State.raise_keeps | with_reducible apply keeps_ite | with_reducible apply keeps_foldl | fail_if_no_progress (with_reducible apply keeps_other) | with_reducible apply keeps_dropRegs | with_reducible apply keeps_dropMem | with_reducible apply keeps_dropBoth | (intro _; intros) | (refine keeps_of_some (by with_reducible assumption) ?_) | (refine keeps_of_fst (by with_reducible assumption) ?_) | split)

theorem State.appendFifo_keeps {z0 : State} {s : State} (toHost : Bool) (n : Nat) (ws : List Word)  (hK : Keeps z0 s) :
    Keeps z0 (State.appendFifo s toHost n ws) := by
  unfold State.appendFifo
  try dsimp only
  repeat' (first | with_reducible assumption | with_reducible apply State.onPigeon_keeps | with_reducible apply State.setFifo_keeps | with_reducible apply keeps_ite | with_reducible apply keeps_foldl | fail_if_no_progress (with_reducible apply keeps_other) | with_reducible apply keeps_dropRegs | with_reducible apply keeps_dropMem | with_reducible apply keeps_dropBoth | (intro _; intros) | (refine keeps_of_some (by with_reducible assumption) ?_) | (refine keeps_of_fst (by with_reducible assumption) ?_) | split)

theorem State.pushMsg_keeps {z0 : State} {s : State} (m : MsgX)  (hK : Keeps z0 s) :
    Keeps z0 (State.pushMsg s m) := by
  unfold State.pushMsg
  try dsimp only
  repeat' (first | with_reducible assumption | with_reducible apply State.appendFifo_keeps | with_reducible apply State.ringBells_keeps | with_reducible apply keeps_ite | with_reducible apply keeps_foldl | fail_if_no_progress (with_reducible apply keeps_other) | with_reducible apply keeps_dropRegs | with_reducible apply keeps_dropMem | with_reducible apply keeps_dropBoth | (intro _; intros) | (refine keeps_of_some (by with_reducible assumption) ?_) | (refine keeps_of_fst (by with_reducible assumption) ?_) | split)

theorem State.drainOutbox_keeps {z0 : State} {s : State} (n : Nat)  (hK : Keeps z0 s) :
    Keeps z0 (State.drainOutbox s n) := by
  unfold State.drainOutbox
  try dsimp only
  repeat' (first | with_reducible assumption | with_reducible apply State.pushMsg_keeps | with_reducible apply keeps_ite | with_reducible apply keeps_foldl | fail_if_no_progress (with_reducible apply keeps_other) | with_reducible apply keeps_dropRegs | with_reducible apply keeps_dropMem | with_reducible apply keeps_dropBoth | (intro _; intros) | (refine keeps_of_some (by with_reducible assumption) ?_) | (refine keeps_of_fst (by with_reducible assumption) ?_) | split)

theorem State.sendMsg_keeps {z0 : State} {s : State} (m : MsgX)  (hK : Keeps z0 s) :
    Keeps z0 (State.sendMsg s m) := by
  unfold State.sendMsg
  try dsimp only
  repeat' (first | with_reducible assumption | with_reducible apply State.pushMsg_keeps | with_reducible apply keeps_ite | with_reducible apply keeps_foldl | fail_if_no_progress (with_reducible apply keeps_other) | with_reducible apply keeps_dropRegs | with_reducible apply keeps_dropMem | with_reducible apply keeps_dropBoth | (intro _; intros) | (refine keeps_of_some (by with_reducible assumption) ?_) | (refine keeps_of_fst (by with_reducible assumption) ?_) | split)

theorem State.reply_keeps {z0 : State} {s : State} (ph : Nat) (opcode : Nat) (tag : Nat) (args : List Word)  (hK : Keeps z0 s) :
    Keeps z0 (State.reply s ph opcode tag args) := by
  unfold State.reply
  try dsimp only
  repeat' (first | with_reducible assumption | with_reducible apply State.sendMsg_keeps | with_reducible apply keeps_ite | with_reducible apply keeps_foldl | fail_if_no_progress (with_reducible apply keeps_other) | with_reducible apply keeps_dropRegs | with_reducible apply keeps_dropMem | with_reducible apply keeps_dropBoth | (intro _; intros) | (refine keeps_of_some (by with_reducible assumption) ?_) | (refine keeps_of_fst (by with_reducible assumption) ?_) | split)

theorem State.notice_keeps {z0 : State} {s : State} (kind : Nat) (code : Nat) (detail : Nat)  (hK : Keeps z0 s) :
    Keeps z0 (State.notice s kind code detail) := by
  unfold State.notice
  try dsimp only
  repeat' (first | with_reducible assumption | with_reducible apply State.sendMsg_keeps | with_reducible apply keeps_ite | with_reducible apply keeps_foldl | fail_if_no_progress (with_reducible apply keeps_other) | with_reducible apply keeps_dropRegs | with_reducible apply keeps_dropMem | with_reducible apply keeps_dropBoth | (intro _; intros) | (refine keeps_of_some (by with_reducible assumption) ?_) | (refine keeps_of_fst (by with_reducible assumption) ?_) | split)

theorem State.noteClass_keeps {z0 : State} (old : Nat) {s : State}  (hK : Keeps z0 s) :
    Keeps z0 (State.noteClass old s) := by
  unfold State.noteClass
  try dsimp only
  repeat' (first | with_reducible assumption | with_reducible apply State.notice_keeps | with_reducible apply keeps_ite | with_reducible apply keeps_foldl | fail_if_no_progress (with_reducible apply keeps_other) | with_reducible apply keeps_dropRegs | with_reducible apply keeps_dropMem | with_reducible apply keeps_dropBoth | (intro _; intros) | (refine keeps_of_some (by with_reducible assumption) ?_) | (refine keeps_of_fst (by with_reducible assumption) ?_) | split)

theorem State.declare_keeps {z0 : State} {s0 : State} (f0 : FaultX) (lasting : Bool)  (hK : Keeps z0 s0) :
    Keeps z0 (State.declare s0 f0 lasting) := by
  unfold State.declare
  try dsimp only
  repeat' (first | with_reducible assumption | with_reducible apply State.noteClass_keeps | with_reducible apply State.setErr_keeps | with_reducible apply State.raise_keeps | with_reducible apply State.useFresh_keeps | with_reducible apply State.put_keeps | with_reducible apply State.wr_keeps | with_reducible apply keeps_ite | with_reducible apply keeps_foldl | fail_if_no_progress (with_reducible apply keeps_other) | with_reducible apply keeps_dropRegs | with_reducible apply keeps_dropMem | with_reducible apply keeps_dropBoth | (intro _; intros) | (refine keeps_of_some (by with_reducible assumption) ?_) | (refine keeps_of_fst (by with_reducible assumption) ?_) | split)

theorem State.endFault_keeps {z0 : State} {s : State} (p : FaultX → Bool)  (hK : Keeps z0 s) :
    Keeps z0 (State.endFault s p) := by
  unfold State.endFault
  try dsimp only
  repeat' (first | with_reducible assumption | with_reducible apply State.noteClass_keeps | with_reducible apply keeps_ite | with_reducible apply keeps_foldl | fail_if_no_progress (with_reducible apply keeps_other) | with_reducible apply keeps_dropRegs | with_reducible apply keeps_dropMem | with_reducible apply keeps_dropBoth | (intro _; intros) | (refine keeps_of_some (by with_reducible assumption) ?_) | (refine keeps_of_fst (by with_reducible assumption) ?_) | split)

theorem State.declareF0_keeps {s0 s : State} (code win : Nat) (detail : Word) (h : Keeps s0 s) :
    Keeps s0 (s.declareF0 code win detail) := State.declare_keeps _ _ h

theorem State.markSafe_keeps {z0 : State} {s : State} (w : Nat) (code : Nat) (stands : Bool)  (hK : Keeps z0 s) :
    Keeps z0 (State.markSafe s w code stands) := by
  unfold State.markSafe
  try dsimp only
  repeat' (first | with_reducible assumption | with_reducible apply State.watch_keeps | with_reducible apply State.setUnit_keeps | with_reducible apply keeps_ite | with_reducible apply keeps_foldl | fail_if_no_progress (with_reducible apply keeps_other) | with_reducible apply keeps_dropRegs | with_reducible apply keeps_dropMem | with_reducible apply keeps_dropBoth | (intro _; intros) | (refine keeps_of_some (by with_reducible assumption) ?_) | (refine keeps_of_fst (by with_reducible assumption) ?_) | split)

theorem State.markFault_keeps {z0 : State} {s : State} (w : Nat) (code : Nat)  (hK : Keeps z0 s) :
    Keeps z0 (State.markFault s w code) := by
  unfold State.markFault
  try dsimp only
  repeat' (first | with_reducible assumption | with_reducible apply State.watch_keeps | with_reducible apply State.setUnit_keeps | with_reducible apply keeps_ite | with_reducible apply keeps_foldl | fail_if_no_progress (with_reducible apply keeps_other) | with_reducible apply keeps_dropRegs | with_reducible apply keeps_dropMem | with_reducible apply keeps_dropBoth | (intro _; intros) | (refine keeps_of_some (by with_reducible assumption) ?_) | (refine keeps_of_fst (by with_reducible assumption) ?_) | split)

theorem State.refuseUnit_keeps {z0 : State} {s : State} (w : Nat) (code : Nat)  (hK : Keeps z0 s) :
    Keeps z0 (State.refuseUnit s w code) := by
  unfold State.refuseUnit
  try dsimp only
  repeat' (first | with_reducible assumption | with_reducible apply State.declareF0_keeps | with_reducible apply State.setErr_keeps | with_reducible apply State.setUnit_keeps | with_reducible apply keeps_ite | with_reducible apply keeps_foldl | fail_if_no_progress (with_reducible apply keeps_other) | with_reducible apply keeps_dropRegs | with_reducible apply keeps_dropMem | with_reducible apply keeps_dropBoth | (intro _; intros) | (refine keeps_of_some (by with_reducible assumption) ?_) | (refine keeps_of_fst (by with_reducible assumption) ?_) | split)

theorem State.passTicks_keeps {z0 : State} {s : State} (n : Nat)  (hK : Keeps z0 s) :
    Keeps z0 (State.passTicks s n) := by
  unfold State.passTicks
  try dsimp only
  repeat' (first | with_reducible assumption | with_reducible apply keeps_ite | with_reducible apply keeps_foldl | fail_if_no_progress (with_reducible apply keeps_other) | with_reducible apply keeps_dropRegs | with_reducible apply keeps_dropMem | with_reducible apply keeps_dropBoth | (intro _; intros) | (refine keeps_of_some (by with_reducible assumption) ?_) | (refine keeps_of_fst (by with_reducible assumption) ?_) | split)

theorem State.advanceTo_keeps {z0 : State} {s : State} (e : BitVec 64)  (hK : Keeps z0 s) :
    Keeps z0 (State.advanceTo s e) := by
  unfold State.advanceTo
  try dsimp only
  repeat' (first | with_reducible assumption | with_reducible apply State.passTicks_keeps | with_reducible apply keeps_ite | with_reducible apply keeps_foldl | fail_if_no_progress (with_reducible apply keeps_other) | with_reducible apply keeps_dropRegs | with_reducible apply keeps_dropMem | with_reducible apply keeps_dropBoth | (intro _; intros) | (refine keeps_of_some (by with_reducible assumption) ?_) | (refine keeps_of_fst (by with_reducible assumption) ?_) | split)

theorem idleTick_keeps {z0 : State} {s : State}  (hK : Keeps z0 s) :
    Keeps z0 (idleTick s) := by
  unfold idleTick
  try dsimp only
  repeat' (first | with_reducible assumption | with_reducible apply State.passTicks_keeps | with_reducible apply keeps_ite | with_reducible apply keeps_foldl | fail_if_no_progress (with_reducible apply keeps_other) | with_reducible apply keeps_dropRegs | with_reducible apply keeps_dropMem | with_reducible apply keeps_dropBoth | (intro _; intros) | (refine keeps_of_some (by with_reducible assumption) ?_) | (refine keeps_of_fst (by with_reducible assumption) ?_) | split)

end Sys2Proof.Machine
end

