-- ==== Sys2Proof/Laws/KeepsFront.lean ====
section
/-! SUPPORT. What every operation of Flags, Access, Queues, FrontEnd, Synth, Channels keeps: the canonical form, the part and the queue. -/

set_option linter.unusedTactic false
set_option linter.unreachableTactic false

namespace Sys2Proof.Machine

theorem State.setSem_keeps {z0 : State} {s : State} (n : Nat) (owner : Nat)  (hK : Keeps z0 s) :
    Keeps z0 (State.setSem s n owner) := by
  unfold State.setSem
  try dsimp only
  repeat' (first | with_reducible assumption | with_reducible apply keeps_ite | with_reducible apply keeps_foldl | fail_if_no_progress (with_reducible apply keeps_other) | with_reducible apply keeps_dropRegs | with_reducible apply keeps_dropMem | with_reducible apply keeps_dropBoth | (intro _; intros) | (refine keeps_of_some (by with_reducible assumption) ?_) | (refine keeps_of_fst (by with_reducible assumption) ?_) | split)

theorem State.setMirror_keeps {z0 : State} {s : State} (n : Nat)  (hK : Keeps z0 s) :
    Keeps z0 (State.setMirror s n) := by
  unfold State.setMirror
  try dsimp only
  repeat' (first | with_reducible assumption | with_reducible apply State.put_keeps | with_reducible apply keeps_ite | with_reducible apply keeps_foldl | fail_if_no_progress (with_reducible apply keeps_other) | with_reducible apply keeps_dropRegs | with_reducible apply keeps_dropMem | with_reducible apply keeps_dropBoth | (intro _; intros) | (refine keeps_of_some (by with_reducible assumption) ?_) | (refine keeps_of_fst (by with_reducible assumption) ?_) | split)

theorem State.recordCode_keeps {z0 : State} {s : State} (code : Nat)  (hK : Keeps z0 s) :
    Keeps z0 (State.recordCode s code) := by
  unfold State.recordCode
  try dsimp only
  repeat' (first | with_reducible assumption | with_reducible apply State.put_keeps | with_reducible apply State.wr_keeps | with_reducible apply keeps_ite | with_reducible apply keeps_foldl | fail_if_no_progress (with_reducible apply keeps_other) | with_reducible apply keeps_dropRegs | with_reducible apply keeps_dropMem | with_reducible apply keeps_dropBoth | (intro _; intros) | (refine keeps_of_some (by with_reducible assumption) ?_) | (refine keeps_of_fst (by with_reducible assumption) ?_) | split)

theorem State.resyncStart_keeps {z0 : State} {s : State}  (hK : Keeps z0 s) :
    Keeps z0 (State.resyncStart s) := by
  unfold State.resyncStart
  try dsimp only
  repeat' (first | with_reducible assumption | with_reducible apply State.recordCode_keeps | with_reducible apply State.setMirror_keeps | with_reducible apply State.count_keeps | with_reducible apply State.sendFrame_keeps | with_reducible apply keeps_ite | with_reducible apply keeps_foldl | fail_if_no_progress (with_reducible apply keeps_other) | with_reducible apply keeps_dropRegs | with_reducible apply keeps_dropMem | with_reducible apply keeps_dropBoth | (intro _; intros) | (refine keeps_of_some (by with_reducible assumption) ?_) | (refine keeps_of_fst (by with_reducible assumption) ?_) | split)

theorem State.mirrorWrite_keeps {z0 : State} {s : State} (addr : Word) (v : Word)  (hK : Keeps z0 s) :
    Keeps z0 (State.mirrorWrite s addr v) := by
  unfold State.mirrorWrite
  try dsimp only
  repeat' (first | with_reducible assumption | with_reducible apply State.resyncStart_keeps | with_reducible apply State.bump_keeps | with_reducible apply State.sendFrame_keeps | with_reducible apply keeps_ite | with_reducible apply keeps_foldl | fail_if_no_progress (with_reducible apply keeps_other) | with_reducible apply keeps_dropRegs | with_reducible apply keeps_dropMem | with_reducible apply keeps_dropBoth | (intro _; intros) | (refine keeps_of_some (by with_reducible assumption) ?_) | (refine keeps_of_fst (by with_reducible assumption) ?_) | split)

theorem State.judged_keeps {z0 : State} {s : State} (m : Nat) (b : Nat) (off : Nat) (v : Word) (extra : List Nat) (act : State → State) (hact : ∀ y, Keeps z0 y → Keeps z0 (act y)) (hK : Keeps z0 s) :
    Keeps z0 (State.judged s m b off v extra act) := by
  unfold State.judged
  try dsimp only
  repeat' (first | with_reducible assumption | with_reducible apply hact | with_reducible apply State.refuseUnit_keeps | with_reducible apply State.accessFail_keeps | with_reducible apply State.setAccess_keeps | with_reducible apply keeps_ite | with_reducible apply keeps_foldl | fail_if_no_progress (with_reducible apply keeps_other) | with_reducible apply keeps_dropRegs | with_reducible apply keeps_dropMem | with_reducible apply keeps_dropBoth | (intro _; intros) | (refine keeps_of_some (by with_reducible assumption) ?_) | (refine keeps_of_fst (by with_reducible assumption) ?_) | split)

theorem State.guarded_keeps {z0 : State} {s : State} (m : Nat) (b : Nat) (off : Nat) (v : Word) (extra : List Nat) (act : State → State) (hact : ∀ y, Keeps z0 y → Keeps z0 (act y)) (hK : Keeps z0 s) :
    Keeps z0 (State.guarded s m b off v extra act) := by
  unfold State.guarded
  try dsimp only
  repeat' (first | with_reducible assumption | with_reducible apply hact | with_reducible apply State.judged_keeps | with_reducible apply State.mirrorWrite_keeps | with_reducible apply keeps_ite | with_reducible apply keeps_foldl | fail_if_no_progress (with_reducible apply keeps_other) | with_reducible apply keeps_dropRegs | with_reducible apply keeps_dropMem | with_reducible apply keeps_dropBoth | (intro _; intros) | (refine keeps_of_some (by with_reducible assumption) ?_) | (refine keeps_of_fst (by with_reducible assumption) ?_) | split)

theorem State.store_keeps {z0 : State} {s : State} (b : Nat) (off : Nat) (v : Word)  (hK : Keeps z0 s) :
    Keeps z0 (State.store s b off v) := by
  unfold State.store
  try dsimp only
  repeat' (first | with_reducible assumption | with_reducible apply State.restartCounter_keeps | with_reducible apply State.wr_keeps | with_reducible apply keeps_ite | with_reducible apply keeps_foldl | fail_if_no_progress (with_reducible apply keeps_other) | with_reducible apply keeps_dropRegs | with_reducible apply keeps_dropMem | with_reducible apply keeps_dropBoth | (intro _; intros) | (refine keeps_of_some (by with_reducible assumption) ?_) | (refine keeps_of_fst (by with_reducible assumption) ?_) | split)

theorem State.setLatch_keeps {z0 : State} {s : State} (m : Nat) (b : Nat) (off : Nat) (v : Word)  (hK : Keeps z0 s) :
    Keeps z0 (State.setLatch s m b off v) := by
  unfold State.setLatch
  try dsimp only
  repeat' (first | with_reducible assumption | with_reducible apply keeps_ite | with_reducible apply keeps_foldl | fail_if_no_progress (with_reducible apply keeps_other) | with_reducible apply keeps_dropRegs | with_reducible apply keeps_dropMem | with_reducible apply keeps_dropBoth | (intro _; intros) | (refine keeps_of_some (by with_reducible assumption) ?_) | (refine keeps_of_fst (by with_reducible assumption) ?_) | split)

theorem State.setHeldLow_keeps {z0 : State} {s : State} (m : Nat) (b : Nat) (off : Nat) (v : Word)  (hK : Keeps z0 s) :
    Keeps z0 (State.setHeldLow s m b off v) := by
  unfold State.setHeldLow
  try dsimp only
  repeat' (first | with_reducible assumption | with_reducible apply keeps_ite | with_reducible apply keeps_foldl | fail_if_no_progress (with_reducible apply keeps_other) | with_reducible apply keeps_dropRegs | with_reducible apply keeps_dropMem | with_reducible apply keeps_dropBoth | (intro _; intros) | (refine keeps_of_some (by with_reducible assumption) ?_) | (refine keeps_of_fst (by with_reducible assumption) ?_) | split)

theorem State.store64_keeps {z0 : State} {s : State} (m : Nat) (b : Nat) (off : Nat) (v : Word)  (hK : Keeps z0 s) :
    Keeps z0 (State.store64 s m b off v) := by
  unfold State.store64
  try dsimp only
  repeat' (first | with_reducible assumption | with_reducible apply State.setHeldLow_keeps | with_reducible apply State.store_keeps | with_reducible apply keeps_ite | with_reducible apply keeps_foldl | fail_if_no_progress (with_reducible apply keeps_other) | with_reducible apply keeps_dropRegs | with_reducible apply keeps_dropMem | with_reducible apply keeps_dropBoth | (intro _; intros) | (refine keeps_of_some (by with_reducible assumption) ?_) | (refine keeps_of_fst (by with_reducible assumption) ?_) | split)

theorem State.qCommitted_keeps {z0 : State} {s : State} (w : Nat)  (hK : Keeps z0 s) :
    Keeps z0 (State.qCommitted s w) := by
  unfold State.qCommitted
  try dsimp only
  repeat' (first | with_reducible assumption | with_reducible apply State.setAx_keeps | with_reducible apply keeps_ite | with_reducible apply keeps_foldl | fail_if_no_progress (with_reducible apply keeps_other) | with_reducible apply keeps_dropRegs | with_reducible apply keeps_dropMem | with_reducible apply keeps_dropBoth | (intro _; intros) | (refine keeps_of_some (by with_reducible assumption) ?_) | (refine keeps_of_fst (by with_reducible assumption) ?_) | split)

theorem State.putDesc_keeps {z0 : State} {s : State} (w : Nat) (k : Word) (r : Rec) (seq : Nat) (part : Nat × Nat) (cont : Bool) (data : List Byte)  (hK : Keeps z0 s) :
    Keeps z0 (State.putDesc s w k r seq part cont data) := by
  unfold State.putDesc
  try dsimp only
  repeat' (first | with_reducible assumption | with_reducible apply State.wrWord_keeps | with_reducible apply State.wrBytes_keeps | with_reducible apply keeps_ite | with_reducible apply keeps_foldl | fail_if_no_progress (with_reducible apply keeps_other) | with_reducible apply keeps_dropRegs | with_reducible apply keeps_dropMem | with_reducible apply keeps_dropBoth | (intro _; intros) | (refine keeps_of_some (by with_reducible assumption) ?_) | (refine keeps_of_fst (by with_reducible assumption) ?_) | split)

theorem State.putParts_keeps {s0 s : State} (w : Nat) (r : Rec) (k : Word) (seq : Nat) (data : List Byte)
    (ps : List (Nat × Nat)) (h : Keeps s0 s) : Keeps s0 (s.putParts w r k seq data ps) := by
  induction ps generalizing s k seq data with
  | nil => exact h
  | cons p ps ih =>
    cases ps with
    | nil => exact State.putDesc_keeps _ _ _ _ _ _ _ h
    | cons q qs => exact ih _ _ _ (State.putDesc_keeps _ _ _ _ _ _ _ h)

theorem State.noteFilled_keeps {z0 : State} (w : Nat) (before : Nat) {s : State}  (hK : Keeps z0 s) :
    Keeps z0 (State.noteFilled w before s) := by
  unfold State.noteFilled
  try dsimp only
  repeat' (first | with_reducible assumption | with_reducible apply State.raiseKind_keeps | with_reducible apply keeps_ite | with_reducible apply keeps_foldl | fail_if_no_progress (with_reducible apply keeps_other) | with_reducible apply keeps_dropRegs | with_reducible apply keeps_dropMem | with_reducible apply keeps_dropBoth | (intro _; intros) | (refine keeps_of_some (by with_reducible assumption) ?_) | (refine keeps_of_fst (by with_reducible assumption) ?_) | split)

theorem State.noteFree_keeps {z0 : State} (w : Nat) (before : Nat) {s : State}  (hK : Keeps z0 s) :
    Keeps z0 (State.noteFree w before s) := by
  unfold State.noteFree
  try dsimp only
  repeat' (first | with_reducible assumption | with_reducible apply State.raiseKind_keeps | with_reducible apply keeps_ite | with_reducible apply keeps_foldl | fail_if_no_progress (with_reducible apply keeps_other) | with_reducible apply keeps_dropRegs | with_reducible apply keeps_dropMem | with_reducible apply keeps_dropBoth | (intro _; intros) | (refine keeps_of_some (by with_reducible assumption) ?_) | (refine keeps_of_fst (by with_reducible assumption) ?_) | split)

theorem State.commitRec_keeps {z0 : State} {s : State} (w : Nat) (r : Rec)  (hK : Keeps z0 s) :
    Keeps z0 (State.commitRec s w r) := by
  unfold State.commitRec
  try dsimp only
  repeat' (first | with_reducible assumption | with_reducible apply State.noteFilled_keeps | with_reducible apply State.putParts_keeps | with_reducible apply State.qCommitted_keeps | with_reducible apply State.bump_keeps | with_reducible apply State.setAx_keeps | with_reducible apply keeps_ite | with_reducible apply keeps_foldl | fail_if_no_progress (with_reducible apply keeps_other) | with_reducible apply keeps_dropRegs | with_reducible apply keeps_dropMem | with_reducible apply keeps_dropBoth | (intro _; intros) | (refine keeps_of_some (by with_reducible assumption) ?_) | (refine keeps_of_fst (by with_reducible assumption) ?_) | split)

theorem State.placeRec_keeps {z0 : State} {s : State} (w : Nat) (r : Rec)  (hK : Keeps z0 s) :
    Keeps z0 (State.placeRec s w r) := by
  unfold State.placeRec
  try dsimp only
  repeat' (first | with_reducible assumption | with_reducible apply State.commitRec_keeps | with_reducible apply State.count_keeps | with_reducible apply State.raiseKind_keeps | with_reducible apply keeps_ite | with_reducible apply keeps_foldl | fail_if_no_progress (with_reducible apply keeps_other) | with_reducible apply keeps_dropRegs | with_reducible apply keeps_dropMem | with_reducible apply keeps_dropBoth | (intro _; intros) | (refine keeps_of_some (by with_reducible assumption) ?_) | (refine keeps_of_fst (by with_reducible assumption) ?_) | split)

theorem State.initQueue_keeps {z0 : State} {s : State} (w : Nat)  (hK : Keeps z0 s) :
    Keeps z0 (State.initQueue s w) := by
  unfold State.initQueue
  try dsimp only
  repeat' (first | with_reducible assumption | with_reducible apply State.wrWords_keeps | with_reducible apply State.setBl_keeps | with_reducible apply State.setAx_keeps | with_reducible apply State.wr_keeps | with_reducible apply keeps_ite | with_reducible apply keeps_foldl | fail_if_no_progress (with_reducible apply keeps_other) | with_reducible apply keeps_dropRegs | with_reducible apply keeps_dropMem | with_reducible apply keeps_dropBoth | (intro _; intros) | (refine keeps_of_some (by with_reducible assumption) ?_) | (refine keeps_of_fst (by with_reducible assumption) ?_) | split)

theorem State.stopQueue_keeps {z0 : State} {s : State} (w : Nat)  (hK : Keeps z0 s) :
    Keeps z0 (State.stopQueue s w) := by
  unfold State.stopQueue
  try dsimp only
  repeat' (first | with_reducible assumption | with_reducible apply State.setValid_keeps | with_reducible apply State.raiseKind_keeps | with_reducible apply State.setAx_keeps | with_reducible apply keeps_ite | with_reducible apply keeps_foldl | fail_if_no_progress (with_reducible apply keeps_other) | with_reducible apply keeps_dropRegs | with_reducible apply keeps_dropMem | with_reducible apply keeps_dropBoth | (intro _; intros) | (refine keeps_of_some (by with_reducible assumption) ?_) | (refine keeps_of_fst (by with_reducible assumption) ?_) | split)

theorem State.putFinal_keeps {z0 : State} {s : State} (w : Nat)  (hK : Keeps z0 s) :
    Keeps z0 (State.putFinal s w) := by
  unfold State.putFinal
  try dsimp only
  repeat' (first | with_reducible assumption | with_reducible apply State.noteFilled_keeps | with_reducible apply State.qCommitted_keeps | with_reducible apply State.bump_keeps | with_reducible apply State.wrWord_keeps | with_reducible apply State.useFresh_keeps | with_reducible apply State.setAx_keeps | with_reducible apply keeps_ite | with_reducible apply keeps_foldl | fail_if_no_progress (with_reducible apply keeps_other) | with_reducible apply keeps_dropRegs | with_reducible apply keeps_dropMem | with_reducible apply keeps_dropBoth | (intro _; intros) | (refine keeps_of_some (by with_reducible assumption) ?_) | (refine keeps_of_fst (by with_reducible assumption) ?_) | split)

theorem execFinalDescriptorCommit_keeps {z0 : State} (n : Fin 64) {s : State}  (hK : Keeps z0 s) :
    KeepsOut z0 (execFinalDescriptorCommit n s) := by
  unfold execFinalDescriptorCommit
  try dsimp only
  repeat' (first | with_reducible assumption | with_reducible apply State.putFinal_keeps | with_reducible apply State.setValid_keeps | with_reducible apply State.raiseKind_keeps | with_reducible apply State.setAx_keeps | with_reducible apply keeps_ite | with_reducible apply keeps_foldl | with_reducible apply keepsOut_next | with_reducible apply keepsOut_ite | fail_if_no_progress (with_reducible apply keeps_other) | with_reducible apply keeps_dropRegs | with_reducible apply keeps_dropMem | with_reducible apply keeps_dropBoth | (intro _; intros) | (refine keeps_of_some (by with_reducible assumption) ?_) | (refine keeps_of_fst (by with_reducible assumption) ?_) | split)

theorem State.consTo_keeps {z0 : State} {s : State} (w : Nat) (v : Word)  (hK : Keeps z0 s) :
    Keeps z0 (State.consTo s w v) := by
  unfold State.consTo
  try dsimp only
  repeat' (first | with_reducible assumption | with_reducible apply State.setAx_keeps | with_reducible apply State.wr_keeps | with_reducible apply keeps_ite | with_reducible apply keeps_foldl | fail_if_no_progress (with_reducible apply keeps_other) | with_reducible apply keeps_dropRegs | with_reducible apply keeps_dropMem | with_reducible apply keeps_dropBoth | (intro _; intros) | (refine keeps_of_some (by with_reducible assumption) ?_) | (refine keeps_of_fst (by with_reducible assumption) ?_) | split)

theorem State.writeQCons_keeps {z0 : State} {s : State} (m : Nat) (w : Nat) (v : Word)  (hK : Keeps z0 s) :
    Keeps z0 (State.writeQCons s m w v) := by
  unfold State.writeQCons
  try dsimp only
  repeat' (first | with_reducible assumption | with_reducible apply State.consTo_keeps | with_reducible apply State.guarded_keeps | with_reducible apply keeps_ite | with_reducible apply keeps_foldl | fail_if_no_progress (with_reducible apply keeps_other) | with_reducible apply keeps_dropRegs | with_reducible apply keeps_dropMem | with_reducible apply keeps_dropBoth | (intro _; intros) | (refine keeps_of_some (by with_reducible assumption) ?_) | (refine keeps_of_fst (by with_reducible assumption) ?_) | split)

theorem State.prodTo_keeps {z0 : State} {s : State} (w : Nat) (v : Word)  (hK : Keeps z0 s) :
    Keeps z0 (State.prodTo s w v) := by
  unfold State.prodTo
  try dsimp only
  repeat' (first | with_reducible assumption | with_reducible apply State.qCommitted_keeps | with_reducible apply State.wr_keeps | with_reducible apply keeps_ite | with_reducible apply keeps_foldl | fail_if_no_progress (with_reducible apply keeps_other) | with_reducible apply keeps_dropRegs | with_reducible apply keeps_dropMem | with_reducible apply keeps_dropBoth | (intro _; intros) | (refine keeps_of_some (by with_reducible assumption) ?_) | (refine keeps_of_fst (by with_reducible assumption) ?_) | split)

theorem State.writeQProd_keeps {z0 : State} {s : State} (m : Nat) (w : Nat) (v : Word)  (hK : Keeps z0 s) :
    Keeps z0 (State.writeQProd s m w v) := by
  unfold State.writeQProd
  try dsimp only
  repeat' (first | with_reducible assumption | with_reducible apply State.prodTo_keeps | with_reducible apply State.guarded_keeps | with_reducible apply keeps_ite | with_reducible apply keeps_foldl | fail_if_no_progress (with_reducible apply keeps_other) | with_reducible apply keeps_dropRegs | with_reducible apply keeps_dropMem | with_reducible apply keeps_dropBoth | (intro _; intros) | (refine keeps_of_some (by with_reducible assumption) ?_) | (refine keeps_of_fst (by with_reducible assumption) ?_) | split)

theorem execQConsWrite_keeps {z0 : State} (m : Master) (n : Fin 64) (v : Word) {s : State}  (hK : Keeps z0 s) :
    KeepsOut z0 (execQConsWrite m n v s) := by
  unfold execQConsWrite
  try dsimp only
  repeat' (first | with_reducible assumption | with_reducible apply State.writeQCons_keeps | with_reducible apply keeps_ite | with_reducible apply keeps_foldl | with_reducible apply keepsOut_next | with_reducible apply keepsOut_ite | fail_if_no_progress (with_reducible apply keeps_other) | with_reducible apply keeps_dropRegs | with_reducible apply keeps_dropMem | with_reducible apply keeps_dropBoth | (intro _; intros) | (refine keeps_of_some (by with_reducible assumption) ?_) | (refine keeps_of_fst (by with_reducible assumption) ?_) | split)

theorem execQProdWrite_keeps {z0 : State} (m : Master) (n : Fin 64) (v : Word) {s : State}  (hK : Keeps z0 s) :
    KeepsOut z0 (execQProdWrite m n v s) := by
  unfold execQProdWrite
  try dsimp only
  repeat' (first | with_reducible assumption | with_reducible apply State.writeQProd_keeps | with_reducible apply keeps_ite | with_reducible apply keeps_foldl | with_reducible apply keepsOut_next | with_reducible apply keepsOut_ite | fail_if_no_progress (with_reducible apply keeps_other) | with_reducible apply keeps_dropRegs | with_reducible apply keeps_dropMem | with_reducible apply keeps_dropBoth | (intro _; intros) | (refine keeps_of_some (by with_reducible assumption) ?_) | (refine keeps_of_fst (by with_reducible assumption) ?_) | split)

theorem State.retireDone_keeps {z0 : State} {s : State} (w : Nat)  (hK : Keeps z0 s) :
    Keeps z0 (State.retireDone s w) := by
  unfold State.retireDone
  try dsimp only
  repeat' (first | with_reducible assumption | with_reducible apply State.noteFree_keeps | with_reducible apply State.bump_keeps | with_reducible apply State.setBl_keeps | with_reducible apply State.setAx_keeps | with_reducible apply keeps_ite | with_reducible apply keeps_foldl | fail_if_no_progress (with_reducible apply keeps_other) | with_reducible apply keeps_dropRegs | with_reducible apply keeps_dropMem | with_reducible apply keeps_dropBoth | (intro _; intros) | (refine keeps_of_some (by with_reducible assumption) ?_) | (refine keeps_of_fst (by with_reducible assumption) ?_) | split)

theorem State.takeDesc_keeps {z0 : State} {s : State} (w : Nat) (done : Bool)  (hK : Keeps z0 s) :
    Keeps z0 (State.takeDesc s w done) := by
  unfold State.takeDesc
  try dsimp only
  repeat' (first | with_reducible assumption | with_reducible apply State.raiseKind_keeps | with_reducible apply State.setBl_keeps | with_reducible apply State.setAx_keeps | with_reducible apply keeps_ite | with_reducible apply keeps_foldl | fail_if_no_progress (with_reducible apply keeps_other) | with_reducible apply keeps_dropRegs | with_reducible apply keeps_dropMem | with_reducible apply keeps_dropBoth | (intro _; intros) | (refine keeps_of_some (by with_reducible assumption) ?_) | (refine keeps_of_fst (by with_reducible assumption) ?_) | split)

theorem State.discardDesc_keeps {z0 : State} {s : State} (w : Nat)  (hK : Keeps z0 s) :
    Keeps z0 (State.discardDesc s w) := by
  unfold State.discardDesc
  try dsimp only
  repeat' (first | with_reducible assumption | with_reducible apply State.takeDesc_keeps | with_reducible apply State.retireDone_keeps | with_reducible apply State.setErr_keeps | with_reducible apply State.count_keeps | with_reducible apply State.raiseKind_keeps | with_reducible apply keeps_ite | with_reducible apply keeps_foldl | fail_if_no_progress (with_reducible apply keeps_other) | with_reducible apply keeps_dropRegs | with_reducible apply keeps_dropMem | with_reducible apply keeps_dropBoth | (intro _; intros) | (refine keeps_of_some (by with_reducible assumption) ?_) | (refine keeps_of_fst (by with_reducible assumption) ?_) | split)

theorem execHostDescriptorTake_keeps {z0 : State} (n : Fin 64) {s : State}  (hK : Keeps z0 s) :
    KeepsOut z0 (execHostDescriptorTake n s) := by
  unfold execHostDescriptorTake
  try dsimp only
  repeat' (first | with_reducible assumption | with_reducible apply State.discardDesc_keeps | with_reducible apply State.takeDesc_keeps | with_reducible apply keeps_ite | with_reducible apply keeps_foldl | with_reducible apply keepsOut_next | with_reducible apply keepsOut_ite | fail_if_no_progress (with_reducible apply keeps_other) | with_reducible apply keeps_dropRegs | with_reducible apply keeps_dropMem | with_reducible apply keeps_dropBoth | (intro _; intros) | (refine keeps_of_some (by with_reducible assumption) ?_) | (refine keeps_of_fst (by with_reducible assumption) ?_) | split)

theorem State.retireDesc_keeps {z0 : State} {s : State} (w : Nat)  (hK : Keeps z0 s) :
    Keeps z0 (State.retireDesc s w) := by
  unfold State.retireDesc
  try dsimp only
  repeat' (first | with_reducible assumption | with_reducible apply State.retireDone_keeps | with_reducible apply State.setBl_keeps | with_reducible apply keeps_ite | with_reducible apply keeps_foldl | fail_if_no_progress (with_reducible apply keeps_other) | with_reducible apply keeps_dropRegs | with_reducible apply keeps_dropMem | with_reducible apply keeps_dropBoth | (intro _; intros) | (refine keeps_of_some (by with_reducible assumption) ?_) | (refine keeps_of_fst (by with_reducible assumption) ?_) | split)

theorem State.retireUsed_keeps {z0 : State} {s : State} (w : Nat)  (hK : Keeps z0 s) :
    Keeps z0 (State.retireUsed s w) := by
  unfold State.retireUsed
  try dsimp only
  repeat' (first | with_reducible assumption | with_reducible apply State.retireDesc_keeps | with_reducible apply State.setAx_keeps | with_reducible apply keeps_ite | with_reducible apply keeps_foldl | fail_if_no_progress (with_reducible apply keeps_other) | with_reducible apply keeps_dropRegs | with_reducible apply keeps_dropMem | with_reducible apply keeps_dropBoth | (intro _; intros) | (refine keeps_of_some (by with_reducible assumption) ?_) | (refine keeps_of_fst (by with_reducible assumption) ?_) | split)

theorem execDescriptorRetire_keeps {z0 : State} (n : Fin 64) {s : State}  (hK : Keeps z0 s) :
    KeepsOut z0 (execDescriptorRetire n s) := by
  unfold execDescriptorRetire
  try dsimp only
  repeat' (first | with_reducible assumption | with_reducible apply State.retireUsed_keeps | with_reducible apply keeps_ite | with_reducible apply keeps_foldl | with_reducible apply keepsOut_next | with_reducible apply keepsOut_ite | fail_if_no_progress (with_reducible apply keeps_other) | with_reducible apply keeps_dropRegs | with_reducible apply keeps_dropMem | with_reducible apply keeps_dropBoth | (intro _; intros) | (refine keeps_of_some (by with_reducible assumption) ?_) | (refine keeps_of_fst (by with_reducible assumption) ?_) | split)

theorem execRecordCommit_keeps {z0 : State} (n : Fin 64) (r : RecordArg) {s : State}  (hK : Keeps z0 s) :
    KeepsOut z0 (execRecordCommit n r s) := by
  unfold execRecordCommit
  try dsimp only
  repeat' (first | with_reducible assumption | with_reducible apply State.placeRec_keeps | with_reducible apply keeps_ite | with_reducible apply keeps_foldl | with_reducible apply keepsOut_next | with_reducible apply keepsOut_ite | fail_if_no_progress (with_reducible apply keeps_other) | with_reducible apply keeps_dropRegs | with_reducible apply keeps_dropMem | with_reducible apply keeps_dropBoth | (intro _; intros) | (refine keeps_of_some (by with_reducible assumption) ?_) | (refine keeps_of_fst (by with_reducible assumption) ?_) | split)

theorem State.iqBlock_keeps {z0 : State} {s : State} (w : Nat)  (hK : Keeps z0 s) :
    Keeps z0 (State.iqBlock s w) := by
  unfold State.iqBlock
  try dsimp only
  repeat' (first | with_reducible assumption | with_reducible apply State.placeRec_keeps | with_reducible apply State.useFresh_keeps | with_reducible apply State.setHs_keeps | with_reducible apply State.setAx_keeps | with_reducible apply keeps_ite | with_reducible apply keeps_foldl | with_reducible apply keepsOpt_getD | fail_if_no_progress (with_reducible apply keeps_other) | with_reducible apply keeps_dropRegs | with_reducible apply keeps_dropMem | with_reducible apply keeps_dropBoth | (intro _; intros) | (refine keeps_of_some (by with_reducible assumption) ?_) | (refine keeps_of_fst (by with_reducible assumption) ?_) | split)

theorem State.iqBreak_keeps {z0 : State} {s : State} (w : Nat)  (hK : Keeps z0 s) :
    Keeps z0 (State.iqBreak s w) := by
  unfold State.iqBreak
  try dsimp only
  repeat' (first | with_reducible assumption | with_reducible apply State.setHs_keeps | with_reducible apply State.setAx_keeps | with_reducible apply keeps_ite | with_reducible apply keeps_foldl | fail_if_no_progress (with_reducible apply keeps_other) | with_reducible apply keeps_dropRegs | with_reducible apply keeps_dropMem | with_reducible apply keeps_dropBoth | (intro _; intros) | (refine keeps_of_some (by with_reducible assumption) ?_) | (refine keeps_of_fst (by with_reducible assumption) ?_) | split)

theorem State.iqSample_keeps {z0 : State} {s0 : State} (w : Nat) (out : List Int) (stamp : Nat) (warm : Bool)  (hK : Keeps z0 s0) :
    Keeps z0 (State.iqSample s0 w out stamp warm) := by
  unfold State.iqSample
  try dsimp only
  repeat' (first | with_reducible assumption | with_reducible apply State.iqBreak_keeps | with_reducible apply State.iqBlock_keeps | with_reducible apply State.setHs_keeps | with_reducible apply keeps_ite | with_reducible apply keeps_foldl | with_reducible apply keepsOpt_getD | fail_if_no_progress (with_reducible apply keeps_other) | with_reducible apply keeps_dropRegs | with_reducible apply keeps_dropMem | with_reducible apply keeps_dropBoth | (intro _; intros) | (refine keeps_of_some (by with_reducible assumption) ?_) | (refine keeps_of_fst (by with_reducible assumption) ?_) | split)

theorem execIqBlock_keeps {z0 : State} (n : Fin 64) {s : State}  (hK : Keeps z0 s) :
    KeepsOut z0 (execIqBlock n s) := by
  unfold execIqBlock
  try dsimp only
  repeat' (first | with_reducible assumption | with_reducible apply State.iqBlock_keeps | with_reducible apply keeps_ite | with_reducible apply keeps_foldl | with_reducible apply keepsOut_next | with_reducible apply keepsOut_ite | fail_if_no_progress (with_reducible apply keeps_other) | with_reducible apply keeps_dropRegs | with_reducible apply keeps_dropMem | with_reducible apply keeps_dropBoth | (intro _; intros) | (refine keeps_of_some (by with_reducible assumption) ?_) | (refine keeps_of_fst (by with_reducible assumption) ?_) | split)

theorem State.loopReload_keeps {z0 : State} {s : State} (f : Nat)  (hK : Keeps z0 s) :
    Keeps z0 (State.loopReload s f) := by
  unfold State.loopReload
  try dsimp only
  repeat' (first | with_reducible assumption | with_reducible apply State.setHs_keeps | with_reducible apply keeps_ite | with_reducible apply keeps_foldl | with_reducible apply keepsOpt_getD | fail_if_no_progress (with_reducible apply keeps_other) | with_reducible apply keeps_dropRegs | with_reducible apply keeps_dropMem | with_reducible apply keeps_dropBoth | (intro _; intros) | (refine keeps_of_some (by with_reducible assumption) ?_) | (refine keeps_of_fst (by with_reducible assumption) ?_) | split)

theorem State.gainStep_keeps {z0 : State} {s : State} (f : Nat) (i : Nat)  (hK : Keeps z0 s) :
    Keeps z0 (State.gainStep s f i) := by
  unfold State.gainStep
  try dsimp only
  repeat' (first | with_reducible assumption | with_reducible apply State.loopReload_keeps | with_reducible apply State.count_keeps | with_reducible apply State.raiseKind_keeps | with_reducible apply State.put_keeps | with_reducible apply keeps_ite | with_reducible apply keeps_foldl | fail_if_no_progress (with_reducible apply keeps_other) | with_reducible apply keeps_dropRegs | with_reducible apply keeps_dropMem | with_reducible apply keeps_dropBoth | (intro _; intros) | (refine keeps_of_some (by with_reducible assumption) ?_) | (refine keeps_of_fst (by with_reducible assumption) ?_) | split)

theorem State.feCheck_keeps {z0 : State} {s : State} (f : Nat)  (hK : Keeps z0 s) :
    Keeps z0 (State.feCheck s f) := by
  unfold State.feCheck
  try dsimp only
  repeat' (first | with_reducible assumption | with_reducible apply State.setValid_keeps | with_reducible apply keeps_ite | with_reducible apply keeps_foldl | fail_if_no_progress (with_reducible apply keeps_other) | with_reducible apply keeps_dropRegs | with_reducible apply keeps_dropMem | with_reducible apply keeps_dropBoth | (intro _; intros) | (refine keeps_of_some (by with_reducible assumption) ?_) | (refine keeps_of_fst (by with_reducible assumption) ?_) | split)

theorem State.gainMove_keeps {z0 : State} {s : State} (f : Nat) (k : Nat)  (hK : Keeps z0 s) :
    Keeps z0 (State.gainMove s f k) := by
  unfold State.gainMove
  try dsimp only
  repeat' (first | with_reducible assumption | with_reducible apply State.gainStep_keeps | with_reducible apply keeps_ite | with_reducible apply keeps_foldl | fail_if_no_progress (with_reducible apply keeps_other) | with_reducible apply keeps_dropRegs | with_reducible apply keeps_dropMem | with_reducible apply keeps_dropBoth | (intro _; intros) | (refine keeps_of_some (by with_reducible assumption) ?_) | (refine keeps_of_fst (by with_reducible assumption) ?_) | split)

theorem State.gainOrWait_keeps {z0 : State} {s : State} (f : Nat) (k : Nat)  (hK : Keeps z0 s) :
    Keeps z0 (State.gainOrWait s f k) := by
  unfold State.gainOrWait
  try dsimp only
  repeat' (first | with_reducible assumption | with_reducible apply State.gainMove_keeps | with_reducible apply State.setAx_keeps | with_reducible apply keeps_ite | with_reducible apply keeps_foldl | fail_if_no_progress (with_reducible apply keeps_other) | with_reducible apply keeps_dropRegs | with_reducible apply keeps_dropMem | with_reducible apply keeps_dropBoth | (intro _; intros) | (refine keeps_of_some (by with_reducible assumption) ?_) | (refine keeps_of_fst (by with_reducible assumption) ?_) | split)

theorem State.offsetBlock_keeps {z0 : State} {s : State} (f : Nat)  (hK : Keeps z0 s) :
    Keeps z0 (State.offsetBlock s f) := by
  unfold State.offsetBlock
  try dsimp only
  repeat' (first | with_reducible assumption | with_reducible apply State.useFresh_keeps | with_reducible apply State.setHs_keeps | with_reducible apply State.putI_keeps | with_reducible apply keeps_ite | with_reducible apply keeps_foldl | fail_if_no_progress (with_reducible apply keeps_other) | with_reducible apply keeps_dropRegs | with_reducible apply keeps_dropMem | with_reducible apply keeps_dropBoth | (intro _; intros) | (refine keeps_of_some (by with_reducible assumption) ?_) | (refine keeps_of_fst (by with_reducible assumption) ?_) | split)

theorem State.owedStep_keeps {z0 : State} {s : State} (f : Nat) (co : Coincide)  (hK : Keeps z0 s) :
    Keeps z0 (State.owedStep s f co) := by
  unfold State.owedStep
  try dsimp only
  repeat' (first | with_reducible assumption | with_reducible apply State.gainOrWait_keeps | with_reducible apply State.setAx_keeps | with_reducible apply keeps_ite | with_reducible apply keeps_foldl | fail_if_no_progress (with_reducible apply keeps_other) | with_reducible apply keeps_dropRegs | with_reducible apply keeps_dropMem | with_reducible apply keeps_dropBoth | (intro _; intros) | (refine keeps_of_some (by with_reducible assumption) ?_) | (refine keeps_of_fst (by with_reducible assumption) ?_) | split)

theorem atAgcBlock_keeps {z0 : State} (fe : Fin 5) (level : Int) (co : Coincide) {s0 : State}  (hK : Keeps z0 s0) :
    KeepsOut z0 (atAgcBlock fe level co s0) := by
  unfold atAgcBlock
  try dsimp only
  repeat' (first | with_reducible assumption | with_reducible apply State.owedStep_keeps | with_reducible apply State.offsetBlock_keeps | with_reducible apply State.gainOrWait_keeps | with_reducible apply State.feCheck_keeps | with_reducible apply State.setAx_keeps | with_reducible apply State.putI_keeps | with_reducible apply keeps_ite | with_reducible apply keeps_foldl | with_reducible apply keepsOut_next | with_reducible apply keepsOut_ite | fail_if_no_progress (with_reducible apply keeps_other) | with_reducible apply keeps_dropRegs | with_reducible apply keeps_dropMem | with_reducible apply keeps_dropBoth | (intro _; intros) | (refine keeps_of_some (by with_reducible assumption) ?_) | (refine keeps_of_fst (by with_reducible assumption) ?_) | split)

theorem atAgcDecayStep_keeps {z0 : State} (fe : Fin 5) (co : Coincide) {s : State}  (hK : Keeps z0 s) :
    KeepsOut z0 (atAgcDecayStep fe co s) := by
  unfold atAgcDecayStep
  try dsimp only
  repeat' (first | with_reducible assumption | with_reducible apply State.gainOrWait_keeps | with_reducible apply State.feCheck_keeps | with_reducible apply State.setAx_keeps | with_reducible apply keeps_ite | with_reducible apply keeps_foldl | with_reducible apply keepsOut_next | with_reducible apply keepsOut_ite | fail_if_no_progress (with_reducible apply keeps_other) | with_reducible apply keeps_dropRegs | with_reducible apply keeps_dropMem | with_reducible apply keeps_dropBoth | (intro _; intros) | (refine keeps_of_some (by with_reducible assumption) ?_) | (refine keeps_of_fst (by with_reducible assumption) ?_) | split)

theorem execOverloadBlock_keeps {z0 : State} (fe : Fin 5) (xs : List (Int × Int)) {s : State}  (hK : Keeps z0 s) :
    KeepsOut z0 (execOverloadBlock fe xs s) := by
  unfold execOverloadBlock
  try dsimp only
  repeat' (first | with_reducible assumption | with_reducible apply State.gainOrWait_keeps | with_reducible apply State.count_keeps | with_reducible apply State.raiseKind_keeps | with_reducible apply State.putB_keeps | with_reducible apply keeps_ite | with_reducible apply keeps_foldl | with_reducible apply keepsOut_next | with_reducible apply keepsOut_ite | fail_if_no_progress (with_reducible apply keeps_other) | with_reducible apply keeps_dropRegs | with_reducible apply keeps_dropMem | with_reducible apply keeps_dropBoth | (intro _; intros) | (refine keeps_of_some (by with_reducible assumption) ?_) | (refine keeps_of_fst (by with_reducible assumption) ?_) | split)

theorem execOverloadClear_keeps {z0 : State} (fe : Fin 5) {s : State}  (hK : Keeps z0 s) :
    KeepsOut z0 (execOverloadClear fe s) := by
  unfold execOverloadClear
  try dsimp only
  repeat' (first | with_reducible assumption | with_reducible apply State.endFault_keeps | with_reducible apply State.putB_keeps | with_reducible apply keeps_ite | with_reducible apply keeps_foldl | with_reducible apply keepsOut_next | with_reducible apply keepsOut_ite | fail_if_no_progress (with_reducible apply keeps_other) | with_reducible apply keeps_dropRegs | with_reducible apply keeps_dropMem | with_reducible apply keeps_dropBoth | (intro _; intros) | (refine keeps_of_some (by with_reducible assumption) ?_) | (refine keeps_of_fst (by with_reducible assumption) ?_) | split)

theorem execOvlStuck_keeps {z0 : State} (fe : Fin 5) {s : State}  (hK : Keeps z0 s) :
    KeepsOut z0 (execOvlStuck fe s) := by
  unfold execOvlStuck
  try dsimp only
  repeat' (first | with_reducible assumption | with_reducible apply State.declare_keeps | with_reducible apply State.raiseKind_keeps | with_reducible apply State.putB_keeps | with_reducible apply keeps_ite | with_reducible apply keeps_foldl | with_reducible apply keepsOut_next | with_reducible apply keepsOut_ite | fail_if_no_progress (with_reducible apply keeps_other) | with_reducible apply keeps_dropRegs | with_reducible apply keeps_dropMem | with_reducible apply keeps_dropBoth | (intro _; intros) | (refine keeps_of_some (by with_reducible assumption) ?_) | (refine keeps_of_fst (by with_reducible assumption) ?_) | split)

theorem State.divHold_keeps {z0 : State} {s : State} (w : Nat)  (hK : Keeps z0 s) :
    Keeps z0 (State.divHold s w) := by
  unfold State.divHold
  try dsimp only
  repeat' (first | with_reducible assumption | with_reducible apply State.count_keeps | with_reducible apply State.setAx_keeps | with_reducible apply keeps_ite | with_reducible apply keeps_foldl | fail_if_no_progress (with_reducible apply keeps_other) | with_reducible apply keeps_dropRegs | with_reducible apply keeps_dropMem | with_reducible apply keeps_dropBoth | (intro _; intros) | (refine keeps_of_some (by with_reducible assumption) ?_) | (refine keeps_of_fst (by with_reducible assumption) ?_) | split)

theorem State.switchInput_keeps {z0 : State} {s : State} (f : Nat) (onB : Bool)  (hK : Keeps z0 s) :
    Keeps z0 (State.switchInput s f onB) := by
  unfold State.switchInput
  try dsimp only
  repeat' (first | with_reducible assumption | with_reducible apply State.divHold_keeps | with_reducible apply State.raiseKind_keeps | with_reducible apply State.putB_keeps | with_reducible apply keeps_ite | with_reducible apply keeps_foldl | fail_if_no_progress (with_reducible apply keeps_other) | with_reducible apply keeps_dropRegs | with_reducible apply keeps_dropMem | with_reducible apply keeps_dropBoth | (intro _; intros) | (refine keeps_of_some (by with_reducible assumption) ?_) | (refine keeps_of_fst (by with_reducible assumption) ?_) | split)

theorem State.divSwitch_keeps {z0 : State} {s : State} (f : Nat)  (hK : Keeps z0 s) :
    Keeps z0 (State.divSwitch s f) := by
  unfold State.divSwitch
  try dsimp only
  repeat' (first | with_reducible assumption | with_reducible apply State.switchInput_keeps | with_reducible apply State.count_keeps | with_reducible apply State.setAx_keeps | with_reducible apply keeps_ite | with_reducible apply keeps_foldl | fail_if_no_progress (with_reducible apply keeps_other) | with_reducible apply keeps_dropRegs | with_reducible apply keeps_dropMem | with_reducible apply keeps_dropBoth | (intro _; intros) | (refine keeps_of_some (by with_reducible assumption) ?_) | (refine keeps_of_fst (by with_reducible assumption) ?_) | split)

theorem State.divBack_keeps {z0 : State} {s : State} (f : Nat)  (hK : Keeps z0 s) :
    Keeps z0 (State.divBack s f) := by
  unfold State.divBack
  try dsimp only
  repeat' (first | with_reducible assumption | with_reducible apply State.switchInput_keeps | with_reducible apply State.count_keeps | with_reducible apply keeps_ite | with_reducible apply keeps_foldl | fail_if_no_progress (with_reducible apply keeps_other) | with_reducible apply keeps_dropRegs | with_reducible apply keeps_dropMem | with_reducible apply keeps_dropBoth | (intro _; intros) | (refine keeps_of_some (by with_reducible assumption) ?_) | (refine keeps_of_fst (by with_reducible assumption) ?_) | split)

theorem State.seamEnd_keeps {z0 : State} {s : State} (f : Nat)  (hK : Keeps z0 s) :
    Keeps z0 (State.seamEnd s f) := by
  unfold State.seamEnd
  try dsimp only
  repeat' (first | with_reducible assumption | with_reducible apply State.divBack_keeps | with_reducible apply State.divSwitch_keeps | with_reducible apply State.gainMove_keeps | with_reducible apply State.setAx_keeps | with_reducible apply keeps_ite | with_reducible apply keeps_foldl | fail_if_no_progress (with_reducible apply keeps_other) | with_reducible apply keeps_dropRegs | with_reducible apply keeps_dropMem | with_reducible apply keeps_dropBoth | (intro _; intros) | (refine keeps_of_some (by with_reducible assumption) ?_) | (refine keeps_of_fst (by with_reducible assumption) ?_) | split)

theorem State.divBlock_keeps {z0 : State} {s : State} (w : Nat)  (hK : Keeps z0 s) :
    Keeps z0 (State.divBlock s w) := by
  unfold State.divBlock
  try dsimp only
  repeat' (first | with_reducible assumption | with_reducible apply State.divSwitch_keeps | with_reducible apply State.setAx_keeps | with_reducible apply keeps_ite | with_reducible apply keeps_foldl | fail_if_no_progress (with_reducible apply keeps_other) | with_reducible apply keeps_dropRegs | with_reducible apply keeps_dropMem | with_reducible apply keeps_dropBoth | (intro _; intros) | (refine keeps_of_some (by with_reducible assumption) ?_) | (refine keeps_of_fst (by with_reducible assumption) ?_) | split)

theorem execDivReturnCheck_keeps {z0 : State} (fe : Fin 4) {s : State}  (hK : Keeps z0 s) :
    KeepsOut z0 (execDivReturnCheck fe s) := by
  unfold execDivReturnCheck
  try dsimp only
  repeat' (first | with_reducible assumption | with_reducible apply State.divBack_keeps | with_reducible apply State.setAx_keeps | with_reducible apply keeps_ite | with_reducible apply keeps_foldl | with_reducible apply keepsOut_next | with_reducible apply keepsOut_ite | fail_if_no_progress (with_reducible apply keeps_other) | with_reducible apply keeps_dropRegs | with_reducible apply keeps_dropMem | with_reducible apply keeps_dropBoth | (intro _; intros) | (refine keeps_of_some (by with_reducible assumption) ?_) | (refine keeps_of_fst (by with_reducible assumption) ?_) | split)

theorem State.requestInput_keeps {z0 : State} {s : State} (f : Nat) (onB : Bool) (inWindow : Bool)  (hK : Keeps z0 s) :
    Keeps z0 (State.requestInput s f onB inWindow) := by
  unfold State.requestInput
  try dsimp only
  repeat' (first | with_reducible assumption | with_reducible apply State.count_keeps | with_reducible apply State.setAx_keeps | with_reducible apply keeps_ite | with_reducible apply keeps_foldl | fail_if_no_progress (with_reducible apply keeps_other) | with_reducible apply keeps_dropRegs | with_reducible apply keeps_dropMem | with_reducible apply keeps_dropBoth | (intro _; intros) | (refine keeps_of_some (by with_reducible assumption) ?_) | (refine keeps_of_fst (by with_reducible assumption) ?_) | split)

theorem execDivWindowSwitch_keeps {z0 : State} (fe : Fin 4) {s : State}  (hK : Keeps z0 s) :
    KeepsOut z0 (execDivWindowSwitch fe s) := by
  unfold execDivWindowSwitch
  try dsimp only
  repeat' (first | with_reducible assumption | with_reducible apply State.switchInput_keeps | with_reducible apply State.count_keeps | with_reducible apply State.setAx_keeps | with_reducible apply State.put_keeps | with_reducible apply keeps_ite | with_reducible apply keeps_foldl | with_reducible apply keepsOut_next | with_reducible apply keepsOut_ite | fail_if_no_progress (with_reducible apply keeps_other) | with_reducible apply keeps_dropRegs | with_reducible apply keeps_dropMem | with_reducible apply keeps_dropBoth | (intro _; intros) | (refine keeps_of_some (by with_reducible assumption) ?_) | (refine keeps_of_fst (by with_reducible assumption) ?_) | split)

theorem State.agcWritten_keeps {z0 : State} {s : State} (f : Nat) (v : Word)  (hK : Keeps z0 s) :
    Keeps z0 (State.agcWritten s f v) := by
  unfold State.agcWritten
  try dsimp only
  repeat' (first | with_reducible assumption | with_reducible apply State.gainStep_keeps | with_reducible apply State.store_keeps | with_reducible apply keeps_ite | with_reducible apply keeps_foldl | fail_if_no_progress (with_reducible apply keeps_other) | with_reducible apply keeps_dropRegs | with_reducible apply keeps_dropMem | with_reducible apply keeps_dropBoth | (intro _; intros) | (refine keeps_of_some (by with_reducible assumption) ?_) | (refine keeps_of_fst (by with_reducible assumption) ?_) | split)

theorem State.noteRef_keeps {z0 : State} {s : State} (l : Nat)  (hK : Keeps z0 s) :
    Keeps z0 (State.noteRef s l) := by
  unfold State.noteRef
  try dsimp only
  repeat' (first | with_reducible assumption | with_reducible apply State.setAx_keeps | with_reducible apply keeps_ite | with_reducible apply keeps_foldl | fail_if_no_progress (with_reducible apply keeps_other) | with_reducible apply keeps_dropRegs | with_reducible apply keeps_dropMem | with_reducible apply keeps_dropBoth | (intro _; intros) | (refine keeps_of_some (by with_reducible assumption) ?_) | (refine keeps_of_fst (by with_reducible assumption) ?_) | split)

theorem State.loCheck_keeps {z0 : State} {s : State} (l : Nat)  (hK : Keeps z0 s) :
    Keeps z0 (State.loCheck s l) := by
  unfold State.loCheck
  try dsimp only
  repeat' (first | with_reducible assumption | with_reducible apply State.setValid_keeps | with_reducible apply keeps_ite | with_reducible apply keeps_foldl | fail_if_no_progress (with_reducible apply keeps_other) | with_reducible apply keeps_dropRegs | with_reducible apply keeps_dropMem | with_reducible apply keeps_dropBoth | (intro _; intros) | (refine keeps_of_some (by with_reducible assumption) ?_) | (refine keeps_of_fst (by with_reducible assumption) ?_) | split)

theorem State.tuned_keeps {z0 : State} {s : State} (l : Nat) (khz : Nat) (mode : Nat)  (hK : Keeps z0 s) :
    Keeps z0 (State.tuned s l khz mode) := by
  unfold State.tuned
  try dsimp only
  repeat' (first | with_reducible assumption | with_reducible apply State.loCheck_keeps | with_reducible apply State.putI_keeps | with_reducible apply State.putB_keeps | with_reducible apply State.put_keeps | with_reducible apply keeps_ite | with_reducible apply keeps_foldl | with_reducible apply keepsOpt_getD | fail_if_no_progress (with_reducible apply keeps_other) | with_reducible apply keeps_dropRegs | with_reducible apply keeps_dropMem | with_reducible apply keeps_dropBoth | (intro _; intros) | (refine keeps_of_some (by with_reducible assumption) ?_) | (refine keeps_of_fst (by with_reducible assumption) ?_) | split)

theorem State.loLock_keeps {z0 : State} {s : State} (l : Nat)  (hK : Keeps z0 s) :
    Keeps z0 (State.loLock s l) := by
  unfold State.loLock
  try dsimp only
  repeat' (first | with_reducible assumption | with_reducible apply State.loCheck_keeps | with_reducible apply State.raiseKind_keeps | with_reducible apply State.putB_keeps | with_reducible apply State.put_keeps | with_reducible apply keeps_ite | with_reducible apply keeps_foldl | fail_if_no_progress (with_reducible apply keeps_other) | with_reducible apply keeps_dropRegs | with_reducible apply keeps_dropMem | with_reducible apply keeps_dropBoth | (intro _; intros) | (refine keeps_of_some (by with_reducible assumption) ?_) | (refine keeps_of_fst (by with_reducible assumption) ?_) | split)

theorem State.loUnlock_keeps {z0 : State} {s : State} (l : Nat)  (hK : Keeps z0 s) :
    Keeps z0 (State.loUnlock s l) := by
  unfold State.loUnlock
  try dsimp only
  repeat' (first | with_reducible assumption | with_reducible apply State.loCheck_keeps | with_reducible apply State.putB_keeps | with_reducible apply keeps_ite | with_reducible apply keeps_foldl | fail_if_no_progress (with_reducible apply keeps_other) | with_reducible apply keeps_dropRegs | with_reducible apply keeps_dropMem | with_reducible apply keeps_dropBoth | (intro _; intros) | (refine keeps_of_some (by with_reducible assumption) ?_) | (refine keeps_of_fst (by with_reducible assumption) ?_) | split)

theorem State.holdChannels_keeps {z0 : State} {s : State} (f : Nat)  (hK : Keeps z0 s) :
    Keeps z0 (State.holdChannels s f) := by
  unfold State.holdChannels
  try dsimp only
  repeat' (first | with_reducible assumption | with_reducible apply State.addHold_keeps | with_reducible apply keeps_ite | with_reducible apply keeps_foldl | fail_if_no_progress (with_reducible apply keeps_other) | with_reducible apply keeps_dropRegs | with_reducible apply keeps_dropMem | with_reducible apply keeps_dropBoth | (intro _; intros) | (refine keeps_of_some (by with_reducible assumption) ?_) | (refine keeps_of_fst (by with_reducible assumption) ?_) | split)

theorem State.freeChannels_keeps {z0 : State} {s : State} (f : Nat)  (hK : Keeps z0 s) :
    Keeps z0 (State.freeChannels s f) := by
  unfold State.freeChannels
  try dsimp only
  repeat' (first | with_reducible assumption | with_reducible apply State.dropHold_keeps | with_reducible apply keeps_ite | with_reducible apply keeps_foldl | fail_if_no_progress (with_reducible apply keeps_other) | with_reducible apply keeps_dropRegs | with_reducible apply keeps_dropMem | with_reducible apply keeps_dropBoth | (intro _; intros) | (refine keeps_of_some (by with_reducible assumption) ?_) | (refine keeps_of_fst (by with_reducible assumption) ?_) | split)

theorem State.chanUpdate_keeps {z0 : State} {s : State} (f : Nat)  (hK : Keeps z0 s) :
    Keeps z0 (State.chanUpdate s f) := by
  unfold State.chanUpdate
  try dsimp only
  repeat' (first | with_reducible assumption | with_reducible apply State.freeChannels_keeps | with_reducible apply State.holdChannels_keeps | with_reducible apply keeps_ite | with_reducible apply keeps_foldl | fail_if_no_progress (with_reducible apply keeps_other) | with_reducible apply keeps_dropRegs | with_reducible apply keeps_dropMem | with_reducible apply keeps_dropBoth | (intro _; intros) | (refine keeps_of_some (by with_reducible assumption) ?_) | (refine keeps_of_fst (by with_reducible assumption) ?_) | split)

theorem State.settleTwin_keeps {z0 : State} {s : State} (f : Nat) (l : Nat) (khz : Nat)  (hK : Keeps z0 s) :
    Keeps z0 (State.settleTwin s f l khz) := by
  unfold State.settleTwin
  try dsimp only
  repeat' (first | with_reducible assumption | with_reducible apply State.chanUpdate_keeps | with_reducible apply State.loUnlock_keeps | with_reducible apply State.noteRef_keeps | with_reducible apply State.seamEnd_keeps | with_reducible apply State.setAx_keeps | with_reducible apply State.put_keeps | with_reducible apply keeps_ite | with_reducible apply keeps_foldl | fail_if_no_progress (with_reducible apply keeps_other) | with_reducible apply keeps_dropRegs | with_reducible apply keeps_dropMem | with_reducible apply keeps_dropBoth | (intro _; intros) | (refine keeps_of_some (by with_reducible assumption) ?_) | (refine keeps_of_fst (by with_reducible assumption) ?_) | split)

theorem State.tuneGo_keeps {z0 : State} {s : State} (f : Nat)  (hK : Keeps z0 s) :
    Keeps z0 (State.tuneGo s f) := by
  unfold State.tuneGo
  try dsimp only
  repeat' (first | with_reducible assumption | with_reducible apply State.settleTwin_keeps | with_reducible apply State.put_keeps | with_reducible apply keeps_ite | with_reducible apply keeps_foldl | fail_if_no_progress (with_reducible apply keeps_other) | with_reducible apply keeps_dropRegs | with_reducible apply keeps_dropMem | with_reducible apply keeps_dropBoth | (intro _; intros) | (refine keeps_of_some (by with_reducible assumption) ?_) | (refine keeps_of_fst (by with_reducible assumption) ?_) | split)

theorem State.toneStart_keeps {z0 : State} {s : State} (f : Nat) (step : Nat)  (hK : Keeps z0 s) :
    Keeps z0 (State.toneStart s f step) := by
  unfold State.toneStart
  try dsimp only
  repeat' (first | with_reducible assumption | with_reducible apply State.loUnlock_keeps | with_reducible apply State.tuned_keeps | with_reducible apply State.put_keeps | with_reducible apply keeps_ite | with_reducible apply keeps_foldl | fail_if_no_progress (with_reducible apply keeps_other) | with_reducible apply keeps_dropRegs | with_reducible apply keeps_dropMem | with_reducible apply keeps_dropBoth | (intro _; intros) | (refine keeps_of_some (by with_reducible assumption) ?_) | (refine keeps_of_fst (by with_reducible assumption) ?_) | split)

theorem State.toneEnd_keeps {z0 : State} {s : State} (f : Nat) (step : Nat)  (hK : Keeps z0 s) :
    Keeps z0 (State.toneEnd s f step) := by
  unfold State.toneEnd
  try dsimp only
  repeat' (first | with_reducible assumption | with_reducible apply State.loLock_keeps | with_reducible apply State.tuned_keeps | with_reducible apply State.useFresh_keeps | with_reducible apply State.put_keeps | with_reducible apply keeps_ite | with_reducible apply keeps_foldl | fail_if_no_progress (with_reducible apply keeps_other) | with_reducible apply keeps_dropRegs | with_reducible apply keeps_dropMem | with_reducible apply keeps_dropBoth | (intro _; intros) | (refine keeps_of_some (by with_reducible assumption) ?_) | (refine keeps_of_fst (by with_reducible assumption) ?_) | split)

theorem State.calBegin_keeps {z0 : State} {s : State} (p : Nat) (mask : Nat)  (hK : Keeps z0 s) :
    Keeps z0 (State.calBegin s p mask) := by
  unfold State.calBegin
  try dsimp only
  repeat' (first | with_reducible assumption | with_reducible apply State.setAx_keeps | with_reducible apply State.put_keeps | with_reducible apply keeps_ite | with_reducible apply keeps_foldl | fail_if_no_progress (with_reducible apply keeps_other) | with_reducible apply keeps_dropRegs | with_reducible apply keeps_dropMem | with_reducible apply keeps_dropBoth | (intro _; intros) | (refine keeps_of_some (by with_reducible assumption) ?_) | (refine keeps_of_fst (by with_reducible assumption) ?_) | split)

theorem State.calEnd_keeps {z0 : State} {s : State} (f : Nat)  (hK : Keeps z0 s) :
    Keeps z0 (State.calEnd s f) := by
  unfold State.calEnd
  try dsimp only
  repeat' (first | with_reducible assumption | with_reducible apply State.chanUpdate_keeps | with_reducible apply State.raiseKind_keeps | with_reducible apply State.setAx_keeps | with_reducible apply State.put_keeps | with_reducible apply keeps_ite | with_reducible apply keeps_foldl | fail_if_no_progress (with_reducible apply keeps_other) | with_reducible apply keeps_dropRegs | with_reducible apply keeps_dropMem | with_reducible apply keeps_dropBoth | (intro _; intros) | (refine keeps_of_some (by with_reducible assumption) ?_) | (refine keeps_of_fst (by with_reducible assumption) ?_) | split)

theorem State.stepBegin_keeps {z0 : State} {s : State} (f : Nat) (n : Nat)  (hK : Keeps z0 s) :
    Keeps z0 (State.stepBegin s f n) := by
  unfold State.stepBegin
  try dsimp only
  repeat' (first | with_reducible assumption | with_reducible apply State.toneStart_keeps | with_reducible apply State.settleTwin_keeps | with_reducible apply State.setAx_keeps | with_reducible apply State.put_keeps | with_reducible apply keeps_ite | with_reducible apply keeps_foldl | fail_if_no_progress (with_reducible apply keeps_other) | with_reducible apply keeps_dropRegs | with_reducible apply keeps_dropMem | with_reducible apply keeps_dropBoth | (intro _; intros) | (refine keeps_of_some (by with_reducible assumption) ?_) | (refine keeps_of_fst (by with_reducible assumption) ?_) | split)

theorem State.detour_keeps {z0 : State} {s : State} (f : Nat)  (hK : Keeps z0 s) :
    Keeps z0 (State.detour s f) := by
  unfold State.detour
  try dsimp only
  repeat' (first | with_reducible assumption | with_reducible apply State.calBegin_keeps | with_reducible apply State.setAx_keeps | with_reducible apply State.put_keeps | with_reducible apply keeps_ite | with_reducible apply keeps_foldl | fail_if_no_progress (with_reducible apply keeps_other) | with_reducible apply keeps_dropRegs | with_reducible apply keeps_dropMem | with_reducible apply keeps_dropBoth | (intro _; intros) | (refine keeps_of_some (by with_reducible assumption) ?_) | (refine keeps_of_fst (by with_reducible assumption) ?_) | split)

theorem State.runNext_keeps {z0 : State} {s : State} (f : Nat)  (hK : Keeps z0 s) :
    Keeps z0 (State.runNext s f) := by
  unfold State.runNext
  try dsimp only
  repeat' (first | with_reducible assumption | with_reducible apply State.calEnd_keeps | with_reducible apply State.calBegin_keeps | with_reducible apply State.put_keeps | with_reducible apply keeps_ite | with_reducible apply keeps_foldl | fail_if_no_progress (with_reducible apply keeps_other) | with_reducible apply keeps_dropRegs | with_reducible apply keeps_dropMem | with_reducible apply keeps_dropBoth | (intro _; intros) | (refine keeps_of_some (by with_reducible assumption) ?_) | (refine keeps_of_fst (by with_reducible assumption) ?_) | split)

theorem State.calGo_keeps {z0 : State} {s : State} (f : Nat)  (hK : Keeps z0 s) :
    Keeps z0 (State.calGo s f) := by
  unfold State.calGo
  try dsimp only
  repeat' (first | with_reducible assumption | with_reducible apply State.runNext_keeps | with_reducible apply State.detour_keeps | with_reducible apply State.stepBegin_keeps | with_reducible apply State.tuneGo_keeps | with_reducible apply State.chanUpdate_keeps | with_reducible apply State.put_keeps | with_reducible apply keeps_ite | with_reducible apply keeps_foldl | fail_if_no_progress (with_reducible apply keeps_other) | with_reducible apply keeps_dropRegs | with_reducible apply keeps_dropMem | with_reducible apply keeps_dropBoth | (intro _; intros) | (refine keeps_of_some (by with_reducible assumption) ?_) | (refine keeps_of_fst (by with_reducible assumption) ?_) | split)

theorem State.calRequest_keeps {z0 : State} {s : State} (f : Nat) (mask : Nat)  (hK : Keeps z0 s) :
    Keeps z0 (State.calRequest s f mask) := by
  unfold State.calRequest
  try dsimp only
  repeat' (first | with_reducible assumption | with_reducible apply State.calGo_keeps | with_reducible apply State.calBegin_keeps | with_reducible apply State.put_keeps | with_reducible apply keeps_ite | with_reducible apply keeps_foldl | fail_if_no_progress (with_reducible apply keeps_other) | with_reducible apply keeps_dropRegs | with_reducible apply keeps_dropMem | with_reducible apply keeps_dropBoth | (intro _; intros) | (refine keeps_of_some (by with_reducible assumption) ?_) | (refine keeps_of_fst (by with_reducible assumption) ?_) | split)

theorem State.recalDue_keeps {z0 : State} {s : State} (f : Nat) (l : Nat)  (hK : Keeps z0 s) :
    Keeps z0 (State.recalDue s f l) := by
  unfold State.recalDue
  try dsimp only
  repeat' (first | with_reducible assumption | with_reducible apply State.calGo_keeps | with_reducible apply State.setAx_keeps | with_reducible apply State.put_keeps | with_reducible apply keeps_ite | with_reducible apply keeps_foldl | fail_if_no_progress (with_reducible apply keeps_other) | with_reducible apply keeps_dropRegs | with_reducible apply keeps_dropMem | with_reducible apply keeps_dropBoth | (intro _; intros) | (refine keeps_of_some (by with_reducible assumption) ?_) | (refine keeps_of_fst (by with_reducible assumption) ?_) | split)

theorem State.twinLeaves_keeps {z0 : State} {s : State} (f : Nat) (l : Nat)  (hK : Keeps z0 s) :
    Keeps z0 (State.twinLeaves s f l) := by
  unfold State.twinLeaves
  try dsimp only
  repeat' (first | with_reducible assumption | with_reducible apply State.setAx_keeps | with_reducible apply State.put_keeps | with_reducible apply keeps_ite | with_reducible apply keeps_foldl | fail_if_no_progress (with_reducible apply keeps_other) | with_reducible apply keeps_dropRegs | with_reducible apply keeps_dropMem | with_reducible apply keeps_dropBoth | (intro _; intros) | (refine keeps_of_some (by with_reducible assumption) ?_) | (refine keeps_of_fst (by with_reducible assumption) ?_) | split)

theorem State.twinsOff_keeps {z0 : State} {s : State} (f : Nat)  (hK : Keeps z0 s) :
    Keeps z0 (State.twinsOff s f) := by
  unfold State.twinsOff
  try dsimp only
  repeat' (first | with_reducible assumption | with_reducible apply State.chanUpdate_keeps | with_reducible apply State.loUnlock_keeps | with_reducible apply State.setAx_keeps | with_reducible apply State.put_keeps | with_reducible apply keeps_ite | with_reducible apply keeps_foldl | fail_if_no_progress (with_reducible apply keeps_other) | with_reducible apply keeps_dropRegs | with_reducible apply keeps_dropMem | with_reducible apply keeps_dropBoth | (intro _; intros) | (refine keeps_of_some (by with_reducible assumption) ?_) | (refine keeps_of_fst (by with_reducible assumption) ?_) | split)

theorem State.loTwinFault_keeps {z0 : State} {s : State} (l : Nat)  (hK : Keeps z0 s) :
    Keeps z0 (State.loTwinFault s l) := by
  unfold State.loTwinFault
  try dsimp only
  repeat' (first | with_reducible assumption | with_reducible apply State.twinsOff_keeps | with_reducible apply State.twinLeaves_keeps | with_reducible apply State.chanUpdate_keeps | with_reducible apply State.loUnlock_keeps | with_reducible apply State.markFault_keeps | with_reducible apply State.markSafe_keeps | with_reducible apply State.declare_keeps | with_reducible apply State.put_keeps | with_reducible apply keeps_ite | with_reducible apply keeps_foldl | fail_if_no_progress (with_reducible apply keeps_other) | with_reducible apply keeps_dropRegs | with_reducible apply keeps_dropMem | with_reducible apply keeps_dropBoth | (intro _; intros) | (refine keeps_of_some (by with_reducible assumption) ?_) | (refine keeps_of_fst (by with_reducible assumption) ?_) | split)

theorem State.calResume_keeps {z0 : State} {s : State} (f : Nat)  (hK : Keeps z0 s) :
    Keeps z0 (State.calResume s f) := by
  unfold State.calResume
  try dsimp only
  repeat' (first | with_reducible assumption | with_reducible apply State.calGo_keeps | with_reducible apply keeps_ite | with_reducible apply keeps_foldl | fail_if_no_progress (with_reducible apply keeps_other) | with_reducible apply keeps_dropRegs | with_reducible apply keeps_dropMem | with_reducible apply keeps_dropBoth | (intro _; intros) | (refine keeps_of_some (by with_reducible assumption) ?_) | (refine keeps_of_fst (by with_reducible assumption) ?_) | split)

theorem State.calAbort_keeps {z0 : State} {s : State} (p : Nat)  (hK : Keeps z0 s) :
    Keeps z0 (State.calAbort s p) := by
  unfold State.calAbort
  try dsimp only
  repeat' (first | with_reducible assumption | with_reducible apply State.toneEnd_keeps | with_reducible apply State.tuneGo_keeps | with_reducible apply State.chanUpdate_keeps | with_reducible apply State.count_keeps | with_reducible apply State.raiseKind_keeps | with_reducible apply State.setAx_keeps | with_reducible apply State.putB_keeps | with_reducible apply State.put_keeps | with_reducible apply keeps_ite | with_reducible apply keeps_foldl | fail_if_no_progress (with_reducible apply keeps_other) | with_reducible apply keeps_dropRegs | with_reducible apply keeps_dropMem | with_reducible apply keeps_dropBoth | (intro _; intros) | (refine keeps_of_some (by with_reducible assumption) ?_) | (refine keeps_of_fst (by with_reducible assumption) ?_) | split)

theorem State.calCtl_keeps {z0 : State} {s : State} (p : Nat) (v : Word)  (hK : Keeps z0 s) :
    Keeps z0 (State.calCtl s p v) := by
  unfold State.calCtl
  try dsimp only
  repeat' (first | with_reducible assumption | with_reducible apply State.calAbort_keeps | with_reducible apply State.calRequest_keeps | with_reducible apply keeps_ite | with_reducible apply keeps_foldl | fail_if_no_progress (with_reducible apply keeps_other) | with_reducible apply keeps_dropRegs | with_reducible apply keeps_dropMem | with_reducible apply keeps_dropBoth | (intro _; intros) | (refine keeps_of_some (by with_reducible assumption) ?_) | (refine keeps_of_fst (by with_reducible assumption) ?_) | split)

theorem State.writeCalCtl_keeps {z0 : State} {s : State} (m : Nat) (p : Nat) (v : Word)  (hK : Keeps z0 s) :
    Keeps z0 (State.writeCalCtl s m p v) := by
  unfold State.writeCalCtl
  try dsimp only
  repeat' (first | with_reducible assumption | with_reducible apply State.calCtl_keeps | with_reducible apply State.guarded_keeps | with_reducible apply keeps_ite | with_reducible apply keeps_foldl | fail_if_no_progress (with_reducible apply keeps_other) | with_reducible apply keeps_dropRegs | with_reducible apply keeps_dropMem | with_reducible apply keeps_dropBoth | (intro _; intros) | (refine keeps_of_some (by with_reducible assumption) ?_) | (refine keeps_of_fst (by with_reducible assumption) ?_) | split)

theorem execCalReqLo_keeps {z0 : State} (m : Master) (fe : Fin 4) {s : State}  (hK : Keeps z0 s) :
    KeepsOut z0 (execCalReqLo m fe s) := by
  unfold execCalReqLo
  try dsimp only
  repeat' (first | with_reducible assumption | with_reducible apply State.writeCalCtl_keeps | with_reducible apply keeps_ite | with_reducible apply keeps_foldl | with_reducible apply keepsOut_next | with_reducible apply keepsOut_ite | fail_if_no_progress (with_reducible apply keeps_other) | with_reducible apply keeps_dropRegs | with_reducible apply keeps_dropMem | with_reducible apply keeps_dropBoth | (intro _; intros) | (refine keeps_of_some (by with_reducible assumption) ?_) | (refine keeps_of_fst (by with_reducible assumption) ?_) | split)

theorem execCalReqImage_keeps {z0 : State} (m : Master) (fe : Fin 4) {s : State}  (hK : Keeps z0 s) :
    KeepsOut z0 (execCalReqImage m fe s) := by
  unfold execCalReqImage
  try dsimp only
  repeat' (first | with_reducible assumption | with_reducible apply State.writeCalCtl_keeps | with_reducible apply keeps_ite | with_reducible apply keeps_foldl | with_reducible apply keepsOut_next | with_reducible apply keepsOut_ite | fail_if_no_progress (with_reducible apply keeps_other) | with_reducible apply keeps_dropRegs | with_reducible apply keeps_dropMem | with_reducible apply keeps_dropBoth | (intro _; intros) | (refine keeps_of_some (by with_reducible assumption) ?_) | (refine keeps_of_fst (by with_reducible assumption) ?_) | split)

theorem execCalReqFilter_keeps {z0 : State} (m : Master) (fe : Fin 4) {s : State}  (hK : Keeps z0 s) :
    KeepsOut z0 (execCalReqFilter m fe s) := by
  unfold execCalReqFilter
  try dsimp only
  repeat' (first | with_reducible assumption | with_reducible apply State.writeCalCtl_keeps | with_reducible apply keeps_ite | with_reducible apply keeps_foldl | with_reducible apply keepsOut_next | with_reducible apply keepsOut_ite | fail_if_no_progress (with_reducible apply keeps_other) | with_reducible apply keeps_dropRegs | with_reducible apply keeps_dropMem | with_reducible apply keeps_dropBoth | (intro _; intros) | (refine keeps_of_some (by with_reducible assumption) ?_) | (refine keeps_of_fst (by with_reducible assumption) ?_) | split)

theorem execCalReqOffset_keeps {z0 : State} (m : Master) (fe : Fin 4) {s : State}  (hK : Keeps z0 s) :
    KeepsOut z0 (execCalReqOffset m fe s) := by
  unfold execCalReqOffset
  try dsimp only
  repeat' (first | with_reducible assumption | with_reducible apply State.writeCalCtl_keeps | with_reducible apply keeps_ite | with_reducible apply keeps_foldl | with_reducible apply keepsOut_next | with_reducible apply keepsOut_ite | fail_if_no_progress (with_reducible apply keeps_other) | with_reducible apply keeps_dropRegs | with_reducible apply keeps_dropMem | with_reducible apply keeps_dropBoth | (intro _; intros) | (refine keeps_of_some (by with_reducible assumption) ?_) | (refine keeps_of_fst (by with_reducible assumption) ?_) | split)

theorem execCalAbort_keeps {z0 : State} (m : Master) (fe : Fin 4) {s : State}  (hK : Keeps z0 s) :
    KeepsOut z0 (execCalAbort m fe s) := by
  unfold execCalAbort
  try dsimp only
  repeat' (first | with_reducible assumption | with_reducible apply State.writeCalCtl_keeps | with_reducible apply keeps_ite | with_reducible apply keeps_foldl | with_reducible apply keepsOut_next | with_reducible apply keepsOut_ite | fail_if_no_progress (with_reducible apply keeps_other) | with_reducible apply keeps_dropRegs | with_reducible apply keeps_dropMem | with_reducible apply keeps_dropBoth | (intro _; intros) | (refine keeps_of_some (by with_reducible assumption) ?_) | (refine keeps_of_fst (by with_reducible assumption) ?_) | split)

theorem State.calStepFailed_keeps {z0 : State} {s : State} (p : Nat) (step : Nat) (l : Nat)  (hK : Keeps z0 s) :
    Keeps z0 (State.calStepFailed s p step l) := by
  unfold State.calStepFailed
  try dsimp only
  repeat' (first | with_reducible assumption | with_reducible apply State.count_keeps | with_reducible apply State.raiseKind_keeps | with_reducible apply State.setAx_keeps | with_reducible apply State.put_keeps | with_reducible apply keeps_ite | with_reducible apply keeps_foldl | fail_if_no_progress (with_reducible apply keeps_other) | with_reducible apply keeps_dropRegs | with_reducible apply keeps_dropMem | with_reducible apply keeps_dropBoth | (intro _; intros) | (refine keeps_of_some (by with_reducible assumption) ?_) | (refine keeps_of_fst (by with_reducible assumption) ?_) | split)

theorem State.quadSet_keeps {z0 : State} {s : State} (l : Nat) (a : CalArg)  (hK : Keeps z0 s) :
    Keeps z0 (State.quadSet s l a) := by
  unfold State.quadSet
  try dsimp only
  repeat' (first | with_reducible assumption | with_reducible apply State.loCheck_keeps | with_reducible apply State.setHs_keeps | with_reducible apply State.setAx_keeps | with_reducible apply State.putI_keeps | with_reducible apply State.putB_keeps | with_reducible apply State.put_keeps | with_reducible apply keeps_ite | with_reducible apply keeps_foldl | fail_if_no_progress (with_reducible apply keeps_other) | with_reducible apply keeps_dropRegs | with_reducible apply keeps_dropMem | with_reducible apply keeps_dropBoth | (intro _; intros) | (refine keeps_of_some (by with_reducible assumption) ?_) | (refine keeps_of_fst (by with_reducible assumption) ?_) | split)

theorem State.trimsIn_keeps {z0 s : State} (f : Nat) (l : List Int) (h : Keeps z0 s) : Keeps z0 (s.trimsIn f l) := by
  fun_induction State.trimsIn s f l with
  | case1 s i c e g r ih => exact ih (State.setHs_keeps _ _ _ (State.setHs_keeps _ _ _ h))
  | case2 => exact h

theorem State.seamTrims_keeps {z0 : State} {s : State} (f : Nat)  (hK : Keeps z0 s) :
    Keeps z0 (State.seamTrims s f) := by
  unfold State.seamTrims
  try dsimp only
  repeat' (first | with_reducible assumption | with_reducible apply State.trimsIn_keeps | with_reducible apply State.setHs_keeps | with_reducible apply keeps_ite | with_reducible apply keeps_foldl | fail_if_no_progress (with_reducible apply keeps_other) | with_reducible apply keeps_dropRegs | with_reducible apply keeps_dropMem | with_reducible apply keeps_dropBoth | (intro _; intros) | (refine keeps_of_some (by with_reducible assumption) ?_) | (refine keeps_of_fst (by with_reducible assumption) ?_) | split)

theorem State.seamDone_keeps {z0 : State} {s : State} (f : Nat)  (hK : Keeps z0 s) :
    Keeps z0 (State.seamDone s f) := by
  unfold State.seamDone
  try dsimp only
  repeat' (first | with_reducible assumption | with_reducible apply State.seamTrims_keeps | with_reducible apply State.seamEnd_keeps | with_reducible apply keeps_ite | with_reducible apply keeps_foldl | fail_if_no_progress (with_reducible apply keeps_other) | with_reducible apply keeps_dropRegs | with_reducible apply keeps_dropMem | with_reducible apply keeps_dropBoth | (intro _; intros) | (refine keeps_of_some (by with_reducible assumption) ?_) | (refine keeps_of_fst (by with_reducible assumption) ?_) | split)

theorem State.imageSet_keeps {z0 : State} {s : State} (f : Nat) (amp : Int) (phase : Int)  (hK : Keeps z0 s) :
    Keeps z0 (State.imageSet s f amp phase) := by
  unfold State.imageSet
  try dsimp only
  repeat' (first | with_reducible assumption | with_reducible apply State.setHs_keeps | with_reducible apply keeps_ite | with_reducible apply keeps_foldl | fail_if_no_progress (with_reducible apply keeps_other) | with_reducible apply keeps_dropRegs | with_reducible apply keeps_dropMem | with_reducible apply keeps_dropBoth | (intro _; intros) | (refine keeps_of_some (by with_reducible assumption) ?_) | (refine keeps_of_fst (by with_reducible assumption) ?_) | split)

theorem State.offsetSet_keeps {z0 : State} {s : State} (f : Nat)  (hK : Keeps z0 s) :
    Keeps z0 (State.offsetSet s f) := by
  unfold State.offsetSet
  try dsimp only
  repeat' (first | with_reducible assumption | with_reducible apply State.setHs_keeps | with_reducible apply keeps_ite | with_reducible apply keeps_foldl | with_reducible apply keepsOpt_getD | fail_if_no_progress (with_reducible apply keeps_other) | with_reducible apply keeps_dropRegs | with_reducible apply keeps_dropMem | with_reducible apply keeps_dropBoth | (intro _; intros) | (refine keeps_of_some (by with_reducible assumption) ?_) | (refine keeps_of_fst (by with_reducible assumption) ?_) | split)

theorem State.calStepValues_keeps {z0 : State} {s : State} (f : Nat) (step : Nat) (a : CalArg)  (hK : Keeps z0 s) :
    Keeps z0 (State.calStepValues s f step a) := by
  unfold State.calStepValues
  try dsimp only
  repeat' (first | with_reducible assumption | with_reducible apply State.offsetSet_keeps | with_reducible apply State.imageSet_keeps | with_reducible apply State.quadSet_keeps | with_reducible apply State.setHs_keeps | with_reducible apply keeps_ite | with_reducible apply keeps_foldl | fail_if_no_progress (with_reducible apply keeps_other) | with_reducible apply keeps_dropRegs | with_reducible apply keeps_dropMem | with_reducible apply keeps_dropBoth | (intro _; intros) | (refine keeps_of_some (by with_reducible assumption) ?_) | (refine keeps_of_fst (by with_reducible assumption) ?_) | split)

theorem atCalStepDone_keeps {z0 : State} (fe : Fin 4) (a : CalArg) {s : State}  (hK : Keeps z0 s) :
    KeepsOut z0 (atCalStepDone fe a s) := by
  unfold atCalStepDone
  try dsimp only
  repeat' (first | with_reducible assumption | with_reducible apply State.calStepValues_keeps | with_reducible apply State.calStepFailed_keeps | with_reducible apply State.loTwinFault_keeps | with_reducible apply State.calGo_keeps | with_reducible apply State.toneEnd_keeps | with_reducible apply State.setAx_keeps | with_reducible apply State.put_keeps | with_reducible apply keeps_ite | with_reducible apply keeps_foldl | with_reducible apply keepsOut_next | with_reducible apply keepsOut_ite | fail_if_no_progress (with_reducible apply keeps_other) | with_reducible apply keeps_dropRegs | with_reducible apply keeps_dropMem | with_reducible apply keeps_dropBoth | (intro _; intros) | (refine keeps_of_some (by with_reducible assumption) ?_) | (refine keeps_of_fst (by with_reducible assumption) ?_) | split)

theorem execTempRecal_keeps {z0 : State} (fe : Fin 4) (temp : Int) {s : State}  (hK : Keeps z0 s) :
    KeepsOut z0 (execTempRecal fe temp s) := by
  unfold execTempRecal
  try dsimp only
  repeat' (first | with_reducible assumption | with_reducible apply State.calRequest_keeps | with_reducible apply State.raiseKind_keeps | with_reducible apply State.putI_keeps | with_reducible apply keeps_ite | with_reducible apply keeps_foldl | with_reducible apply keepsOut_next | with_reducible apply keepsOut_ite | fail_if_no_progress (with_reducible apply keeps_other) | with_reducible apply keeps_dropRegs | with_reducible apply keeps_dropMem | with_reducible apply keeps_dropBoth | (intro _; intros) | (refine keeps_of_some (by with_reducible assumption) ?_) | (refine keeps_of_fst (by with_reducible assumption) ?_) | split)

theorem State.loValues_keeps {z0 : State} {s : State} (l : Nat) (quads : List Int) (dco : List Int)  (hK : Keeps z0 s) :
    Keeps z0 (State.loValues s l quads dco) := by
  unfold State.loValues
  try dsimp only
  repeat' (first | with_reducible assumption | with_reducible apply State.loCheck_keeps | with_reducible apply State.setHs_keeps | with_reducible apply State.putI_keeps | with_reducible apply State.putB_keeps | with_reducible apply keeps_ite | with_reducible apply keeps_foldl | with_reducible apply keepsOpt_getD | fail_if_no_progress (with_reducible apply keeps_other) | with_reducible apply keeps_dropRegs | with_reducible apply keeps_dropMem | with_reducible apply keeps_dropBoth | (intro _; intros) | (refine keeps_of_some (by with_reducible assumption) ?_) | (refine keeps_of_fst (by with_reducible assumption) ?_) | split)

theorem State.startTwin_keeps {z0 : State} {s : State} (p : Nat) (l : Nat) (ok : Bool) (quads : List Int) (dco : List Int)  (hK : Keeps z0 s) :
    Keeps z0 (State.startTwin s p l ok quads dco) := by
  unfold State.startTwin
  try dsimp only
  repeat' (first | with_reducible assumption | with_reducible apply State.loValues_keeps | with_reducible apply State.calStepFailed_keeps | with_reducible apply State.putB_keeps | with_reducible apply keeps_ite | with_reducible apply keeps_foldl | fail_if_no_progress (with_reducible apply keeps_other) | with_reducible apply keeps_dropRegs | with_reducible apply keeps_dropMem | with_reducible apply keeps_dropBoth | (intro _; intros) | (refine keeps_of_some (by with_reducible assumption) ?_) | (refine keeps_of_fst (by with_reducible assumption) ?_) | split)

theorem atCalStartupDone_keeps {z0 : State} (fe : Fin 4) (a : StartupArg) {s : State}  (hK : Keeps z0 s) :
    KeepsOut z0 (atCalStartupDone fe a s) := by
  unfold atCalStartupDone
  try dsimp only
  repeat' (first | with_reducible assumption | with_reducible apply State.startTwin_keeps | with_reducible apply State.seamTrims_keeps | with_reducible apply State.calStepFailed_keeps | with_reducible apply State.feCheck_keeps | with_reducible apply State.raiseKind_keeps | with_reducible apply State.setHs_keeps | with_reducible apply State.setAx_keeps | with_reducible apply State.put_keeps | with_reducible apply keeps_ite | with_reducible apply keeps_foldl | with_reducible apply keepsOut_next | with_reducible apply keepsOut_ite | fail_if_no_progress (with_reducible apply keeps_other) | with_reducible apply keeps_dropRegs | with_reducible apply keeps_dropMem | with_reducible apply keeps_dropBoth | (intro _; intros) | (refine keeps_of_some (by with_reducible assumption) ?_) | (refine keeps_of_fst (by with_reducible assumption) ?_) | split)

theorem atCalFeLDone_keeps {z0 : State} (ok : Bool) (gains : List Int) {s : State}  (hK : Keeps z0 s) :
    KeepsOut z0 (atCalFeLDone ok gains s) := by
  unfold atCalFeLDone
  try dsimp only
  repeat' (first | with_reducible assumption | with_reducible apply State.feCheck_keeps | with_reducible apply State.raise_keeps | with_reducible apply State.setHs_keeps | with_reducible apply State.setAx_keeps | with_reducible apply keeps_ite | with_reducible apply keeps_foldl | with_reducible apply keepsOut_next | with_reducible apply keepsOut_ite | fail_if_no_progress (with_reducible apply keeps_other) | with_reducible apply keeps_dropRegs | with_reducible apply keeps_dropMem | with_reducible apply keeps_dropBoth | (intro _; intros) | (refine keeps_of_some (by with_reducible assumption) ?_) | (refine keeps_of_fst (by with_reducible assumption) ?_) | split)

theorem State.calHeader_keeps {z0 : State} {s : State} (mask : Word)  (hK : Keeps z0 s) :
    Keeps z0 (State.calHeader s mask) := by
  unfold State.calHeader
  try dsimp only
  repeat' (first | with_reducible assumption | with_reducible apply State.wrWords_keeps | with_reducible apply State.wrWord_keeps | with_reducible apply State.wrBytes_keeps | with_reducible apply keeps_ite | with_reducible apply keeps_foldl | fail_if_no_progress (with_reducible apply keeps_other) | with_reducible apply keeps_dropRegs | with_reducible apply keeps_dropMem | with_reducible apply keeps_dropBoth | (intro _; intros) | (refine keeps_of_some (by with_reducible assumption) ?_) | (refine keeps_of_fst (by with_reducible assumption) ?_) | split)

theorem State.calTemp_keeps {z0 : State} {s : State} (fe : Nat)  (hK : Keeps z0 s) :
    Keeps z0 (State.calTemp s fe) := by
  unfold State.calTemp
  try dsimp only
  repeat' (first | with_reducible assumption | with_reducible apply State.wrByte_keeps | with_reducible apply keeps_ite | with_reducible apply keeps_foldl | fail_if_no_progress (with_reducible apply keeps_other) | with_reducible apply keeps_dropRegs | with_reducible apply keeps_dropMem | with_reducible apply keeps_dropBoth | (intro _; intros) | (refine keeps_of_some (by with_reducible assumption) ?_) | (refine keeps_of_fst (by with_reducible assumption) ?_) | split)

theorem execCalStoreWrite_keeps {z0 : State} (fe : Fin 5) (sect : List Byte) {s : State}  (hK : Keeps z0 s) :
    KeepsOut z0 (execCalStoreWrite fe sect s) := by
  unfold execCalStoreWrite
  try dsimp only
  repeat' (first | with_reducible assumption | with_reducible apply State.calTemp_keeps | with_reducible apply State.calHeader_keeps | with_reducible apply State.wrWord_keeps | with_reducible apply State.wrBytes_keeps | with_reducible apply State.setAx_keeps | with_reducible apply keeps_ite | with_reducible apply keeps_foldl | with_reducible apply keepsOut_next | with_reducible apply keepsOut_ite | fail_if_no_progress (with_reducible apply keeps_other) | with_reducible apply keeps_dropRegs | with_reducible apply keeps_dropMem | with_reducible apply keeps_dropBoth | (intro _; intros) | (refine keeps_of_some (by with_reducible assumption) ?_) | (refine keeps_of_fst (by with_reducible assumption) ?_) | split)

theorem State.supersede_keeps {z0 : State} {s : State} (f : Nat)  (hK : Keeps z0 s) :
    Keeps z0 (State.supersede s f) := by
  unfold State.supersede
  try dsimp only
  repeat' (first | with_reducible assumption | with_reducible apply State.count_keeps | with_reducible apply State.raiseKind_keeps | with_reducible apply keeps_ite | with_reducible apply keeps_foldl | fail_if_no_progress (with_reducible apply keeps_other) | with_reducible apply keeps_dropRegs | with_reducible apply keeps_dropMem | with_reducible apply keeps_dropBoth | (intro _; intros) | (refine keeps_of_some (by with_reducible assumption) ?_) | (refine keeps_of_fst (by with_reducible assumption) ?_) | split)

theorem State.tune_keeps {z0 : State} {s : State} (f : Nat) (khz : Nat)  (hK : Keeps z0 s) :
    Keeps z0 (State.tune s f khz) := by
  unfold State.tune
  try dsimp only
  repeat' (first | with_reducible assumption | with_reducible apply State.supersede_keeps | with_reducible apply State.tuneGo_keeps | with_reducible apply State.noteRef_keeps | with_reducible apply State.setAx_keeps | with_reducible apply State.put_keeps | with_reducible apply keeps_ite | with_reducible apply keeps_foldl | fail_if_no_progress (with_reducible apply keeps_other) | with_reducible apply keeps_dropRegs | with_reducible apply keeps_dropMem | with_reducible apply keeps_dropBoth | (intro _; intros) | (refine keeps_of_some (by with_reducible assumption) ?_) | (refine keeps_of_fst (by with_reducible assumption) ?_) | split)

theorem State.ncoRewrite_keeps {z0 : State} {s : State} (d : Nat) (dk : Int)  (hK : Keeps z0 s) :
    Keeps z0 (State.ncoRewrite s d dk) := by
  unfold State.ncoRewrite
  try dsimp only
  repeat' (first | with_reducible assumption | with_reducible apply State.wr_keeps | with_reducible apply keeps_ite | with_reducible apply keeps_foldl | fail_if_no_progress (with_reducible apply keeps_other) | with_reducible apply keeps_dropRegs | with_reducible apply keeps_dropMem | with_reducible apply keeps_dropBoth | (intro _; intros) | (refine keeps_of_some (by with_reducible assumption) ?_) | (refine keeps_of_fst (by with_reducible assumption) ?_) | split)

theorem State.swapTwins_keeps {z0 : State} {s : State} (f : Nat)  (hK : Keeps z0 s) :
    Keeps z0 (State.swapTwins s f) := by
  unfold State.swapTwins
  try dsimp only
  repeat' (first | with_reducible assumption | with_reducible apply State.count_keeps | with_reducible apply State.raiseKind_keeps | with_reducible apply State.putB_keeps | with_reducible apply State.put_keeps | with_reducible apply keeps_ite | with_reducible apply keeps_foldl | fail_if_no_progress (with_reducible apply keeps_other) | with_reducible apply keeps_dropRegs | with_reducible apply keeps_dropMem | with_reducible apply keeps_dropBoth | (intro _; intros) | (refine keeps_of_some (by with_reducible assumption) ?_) | (refine keeps_of_fst (by with_reducible assumption) ?_) | split)

theorem State.moveWindow_keeps {z0 : State} {s : State} (f : Nat) (applied : Bool)  (hK : Keeps z0 s) :
    Keeps z0 (State.moveWindow s f applied) := by
  unfold State.moveWindow
  try dsimp only
  repeat' (first | with_reducible assumption | with_reducible apply State.ncoRewrite_keeps | with_reducible apply State.bumpGens_keeps | with_reducible apply State.raiseKind_keeps | with_reducible apply State.setAx_keeps | with_reducible apply keeps_ite | with_reducible apply keeps_foldl | fail_if_no_progress (with_reducible apply keeps_other) | with_reducible apply keeps_dropRegs | with_reducible apply keeps_dropMem | with_reducible apply keeps_dropBoth | (intro _; intros) | (refine keeps_of_some (by with_reducible assumption) ?_) | (refine keeps_of_fst (by with_reducible assumption) ?_) | split)

theorem State.afterRecovery_keeps {z0 : State} {s : State} (f : Nat)  (hK : Keeps z0 s) :
    Keeps z0 (State.afterRecovery s f) := by
  unfold State.afterRecovery
  try dsimp only
  repeat' (first | with_reducible assumption | with_reducible apply State.calGo_keeps | with_reducible apply State.chanUpdate_keeps | with_reducible apply State.noteRef_keeps | with_reducible apply State.setAx_keeps | with_reducible apply State.put_keeps | with_reducible apply keeps_ite | with_reducible apply keeps_foldl | fail_if_no_progress (with_reducible apply keeps_other) | with_reducible apply keeps_dropRegs | with_reducible apply keeps_dropMem | with_reducible apply keeps_dropBoth | (intro _; intros) | (refine keeps_of_some (by with_reducible assumption) ?_) | (refine keeps_of_fst (by with_reducible assumption) ?_) | split)

theorem State.handover_keeps {z0 : State} {s : State} (f : Nat)  (hK : Keeps z0 s) :
    Keeps z0 (State.handover s f) := by
  unfold State.handover
  try dsimp only
  repeat' (first | with_reducible assumption | with_reducible apply State.recover_keeps | with_reducible apply State.afterRecovery_keeps | with_reducible apply State.moveWindow_keeps | with_reducible apply State.swapTwins_keeps | with_reducible apply State.seamDone_keeps | with_reducible apply State.calResume_keeps | with_reducible apply State.calGo_keeps | with_reducible apply State.setAx_keeps | with_reducible apply keeps_ite | with_reducible apply keeps_foldl | fail_if_no_progress (with_reducible apply keeps_other) | with_reducible apply keeps_dropRegs | with_reducible apply keeps_dropMem | with_reducible apply keeps_dropBoth | (intro _; intros) | (refine keeps_of_some (by with_reducible assumption) ?_) | (refine keeps_of_fst (by with_reducible assumption) ?_) | split)

theorem atLoHandover_keeps {z0 : State} (fe : Fin 4) {s : State}  (hK : Keeps z0 s) :
    KeepsOut z0 (atLoHandover fe s) := by
  unfold atLoHandover
  try dsimp only
  repeat' (first | with_reducible assumption | with_reducible apply State.handover_keeps | with_reducible apply State.tuneGo_keeps | with_reducible apply keeps_ite | with_reducible apply keeps_foldl | with_reducible apply keepsOut_next | with_reducible apply keepsOut_ite | fail_if_no_progress (with_reducible apply keeps_other) | with_reducible apply keeps_dropRegs | with_reducible apply keeps_dropMem | with_reducible apply keeps_dropBoth | (intro _; intros) | (refine keeps_of_some (by with_reducible assumption) ?_) | (refine keeps_of_fst (by with_reducible assumption) ?_) | split)

theorem State.retuned_keeps {z0 : State} {s : State} (f : Nat)  (hK : Keeps z0 s) :
    Keeps z0 (State.retuned s f) := by
  unfold State.retuned
  try dsimp only
  repeat' (first | with_reducible assumption | with_reducible apply State.moveWindow_keeps | with_reducible apply State.seamDone_keeps | with_reducible apply State.calResume_keeps | with_reducible apply State.chanUpdate_keeps | with_reducible apply State.setAx_keeps | with_reducible apply State.put_keeps | with_reducible apply keeps_ite | with_reducible apply keeps_foldl | fail_if_no_progress (with_reducible apply keeps_other) | with_reducible apply keeps_dropRegs | with_reducible apply keeps_dropMem | with_reducible apply keeps_dropBoth | (intro _; intros) | (refine keeps_of_some (by with_reducible assumption) ?_) | (refine keeps_of_fst (by with_reducible assumption) ?_) | split)

theorem atTwinReady_keeps {z0 : State} (lo : Fin 8) (us : Nat) {s : State}  (hK : Keeps z0 s) :
    KeepsOut z0 (atTwinReady lo us s) := by
  unfold atTwinReady
  try dsimp only
  repeat' (first | with_reducible assumption | with_reducible apply State.retuned_keeps | with_reducible apply State.handover_keeps | with_reducible apply State.loLock_keeps | with_reducible apply State.tuned_keeps | with_reducible apply State.setAx_keeps | with_reducible apply State.put_keeps | with_reducible apply keeps_ite | with_reducible apply keeps_foldl | with_reducible apply keepsOut_next | with_reducible apply keepsOut_ite | fail_if_no_progress (with_reducible apply keeps_other) | with_reducible apply keeps_dropRegs | with_reducible apply keeps_dropMem | with_reducible apply keeps_dropBoth | (intro _; intros) | (refine keeps_of_some (by with_reducible assumption) ?_) | (refine keeps_of_fst (by with_reducible assumption) ?_) | split)

theorem State.feChecks_keeps {z0 : State} {s : State} (f : Nat)  (hK : Keeps z0 s) :
    Keeps z0 (State.feChecks s f) := by
  unfold State.feChecks
  try dsimp only
  repeat' (first | with_reducible assumption | with_reducible apply State.feCheck_keeps | with_reducible apply keeps_ite | with_reducible apply keeps_foldl | fail_if_no_progress (with_reducible apply keeps_other) | with_reducible apply keeps_dropRegs | with_reducible apply keeps_dropMem | with_reducible apply keeps_dropBoth | (intro _; intros) | (refine keeps_of_some (by with_reducible assumption) ?_) | (refine keeps_of_fst (by with_reducible assumption) ?_) | split)

theorem atLoLockAcquired_keeps {z0 : State} (lo : Fin 8) {s : State}  (hK : Keeps z0 s) :
    KeepsOut z0 (atLoLockAcquired lo s) := by
  unfold atLoLockAcquired
  try dsimp only
  repeat' (first | with_reducible assumption | with_reducible apply State.feChecks_keeps | with_reducible apply State.chanUpdate_keeps | with_reducible apply State.loLock_keeps | with_reducible apply State.put_keeps | with_reducible apply keeps_ite | with_reducible apply keeps_foldl | with_reducible apply keepsOut_next | with_reducible apply keepsOut_ite | fail_if_no_progress (with_reducible apply keeps_other) | with_reducible apply keeps_dropRegs | with_reducible apply keeps_dropMem | with_reducible apply keeps_dropBoth | (intro _; intros) | (refine keeps_of_some (by with_reducible assumption) ?_) | (refine keeps_of_fst (by with_reducible assumption) ?_) | split)

theorem State.noteLoss_keeps {z0 : State} {s : State} (l : Nat)  (hK : Keeps z0 s) :
    Keeps z0 (State.noteLoss s l).1 := by
  unfold State.noteLoss
  try dsimp only
  repeat' (first | with_reducible assumption | with_reducible apply State.setAx_keeps | with_reducible apply keeps_ite | with_reducible apply keeps_foldl | fail_if_no_progress (with_reducible apply keeps_other) | with_reducible apply keeps_dropRegs | with_reducible apply keeps_dropMem | with_reducible apply keeps_dropBoth | (intro _; intros) | (refine keeps_of_some (by with_reducible assumption) ?_) | (refine keeps_of_fst (by with_reducible assumption) ?_) | split)

theorem State.afterFault_keeps {z0 : State} {s : State} (f : Nat)  (hK : Keeps z0 s) :
    Keeps z0 (State.afterFault s f) := by
  unfold State.afterFault
  try dsimp only
  repeat' (first | with_reducible assumption | with_reducible apply State.calGo_keeps | with_reducible apply keeps_ite | with_reducible apply keeps_foldl | fail_if_no_progress (with_reducible apply keeps_other) | with_reducible apply keeps_dropRegs | with_reducible apply keeps_dropMem | with_reducible apply keeps_dropBoth | (intro _; intros) | (refine keeps_of_some (by with_reducible assumption) ?_) | (refine keeps_of_fst (by with_reducible assumption) ?_) | split)

theorem State.recover_keeps {z0 : State} {s : State} (f : Nat)  (hK : Keeps z0 s) :
    Keeps z0 (State.recover s f) := by
  unfold State.recover
  try dsimp only
  repeat' (first | with_reducible assumption | with_reducible apply State.tuneGo_keeps | with_reducible apply State.noteRef_keeps | with_reducible apply State.setAx_keeps | with_reducible apply State.put_keeps | with_reducible apply keeps_ite | with_reducible apply keeps_foldl | fail_if_no_progress (with_reducible apply keeps_other) | with_reducible apply keeps_dropRegs | with_reducible apply keeps_dropMem | with_reducible apply keeps_dropBoth | (intro _; intros) | (refine keeps_of_some (by with_reducible assumption) ?_) | (refine keeps_of_fst (by with_reducible assumption) ?_) | split)

theorem atLoLockLost_keeps {z0 : State} (lo : Fin 8) {s : State}  (hK : Keeps z0 s) :
    KeepsOut z0 (atLoLockLost lo s) := by
  unfold atLoLockLost
  try dsimp only
  repeat' (first | with_reducible assumption | with_reducible apply State.recover_keeps | with_reducible apply State.afterFault_keeps | with_reducible apply State.noteLoss_keeps | with_reducible apply State.loTwinFault_keeps | with_reducible apply State.recalDue_keeps | with_reducible apply State.chanUpdate_keeps | with_reducible apply State.loCheck_keeps | with_reducible apply State.count_keeps | with_reducible apply State.raiseKind_keeps | with_reducible apply State.putB_keeps | with_reducible apply State.put_keeps | with_reducible apply keeps_ite | with_reducible apply keeps_foldl | with_reducible apply keepsOut_next | with_reducible apply keepsOut_ite | fail_if_no_progress (with_reducible apply keeps_other) | with_reducible apply keeps_dropRegs | with_reducible apply keeps_dropMem | with_reducible apply keeps_dropBoth | (intro _; intros) | (refine keeps_of_some (by with_reducible assumption) ?_) | (refine keeps_of_fst (by with_reducible assumption) ?_) | split)

theorem State.followFe_keeps {z0 : State} {s : State} (f : Nat)  (hK : Keeps z0 s) :
    Keeps z0 (State.followFe s f) := by
  unfold State.followFe
  try dsimp only
  repeat' (first | with_reducible assumption | with_reducible apply State.watch_keeps | with_reducible apply State.putB_keeps | with_reducible apply keeps_ite | with_reducible apply keeps_foldl | fail_if_no_progress (with_reducible apply keeps_other) | with_reducible apply keeps_dropRegs | with_reducible apply keeps_dropMem | with_reducible apply keeps_dropBoth | (intro _; intros) | (refine keeps_of_some (by with_reducible assumption) ?_) | (refine keeps_of_fst (by with_reducible assumption) ?_) | split)

theorem State.calLoad_keeps {z0 : State} {s : State} (f : Nat)  (hK : Keeps z0 s) :
    Keeps z0 (State.calLoad s f) := by
  unfold State.calLoad
  try dsimp only
  repeat' (first | with_reducible assumption | with_reducible apply State.loValues_keeps | with_reducible apply State.setHs_keeps | with_reducible apply keeps_ite | with_reducible apply keeps_foldl | fail_if_no_progress (with_reducible apply keeps_other) | with_reducible apply keeps_dropRegs | with_reducible apply keeps_dropMem | with_reducible apply keeps_dropBoth | (intro _; intros) | (refine keeps_of_some (by with_reducible assumption) ?_) | (refine keeps_of_fst (by with_reducible assumption) ?_) | split)

theorem State.serveAt_keeps {z0 : State} {s : State} (f : Nat) (khz : Nat)  (hK : Keeps z0 s) :
    Keeps z0 (State.serveAt s f khz) := by
  unfold State.serveAt
  try dsimp only
  repeat' (first | with_reducible assumption | with_reducible apply State.chanUpdate_keeps | with_reducible apply State.loUnlock_keeps | with_reducible apply State.tuned_keeps | with_reducible apply State.setAx_keeps | with_reducible apply State.putB_keeps | with_reducible apply State.put_keeps | with_reducible apply keeps_ite | with_reducible apply keeps_foldl | fail_if_no_progress (with_reducible apply keeps_other) | with_reducible apply keeps_dropRegs | with_reducible apply keeps_dropMem | with_reducible apply keeps_dropBoth | (intro _; intros) | (refine keeps_of_some (by with_reducible assumption) ?_) | (refine keeps_of_fst (by with_reducible assumption) ?_) | split)

theorem State.feRunStart_keeps {z0 : State} {s : State} (f : Nat)  (hK : Keeps z0 s) :
    Keeps z0 (State.feRunStart s f) := by
  unfold State.feRunStart
  try dsimp only
  repeat' (first | with_reducible assumption | with_reducible apply State.serveAt_keeps | with_reducible apply State.calLoad_keeps | with_reducible apply State.seamDone_keeps | with_reducible apply State.gainStep_keeps | with_reducible apply State.setAx_keeps | with_reducible apply keeps_ite | with_reducible apply keeps_foldl | fail_if_no_progress (with_reducible apply keeps_other) | with_reducible apply keeps_dropRegs | with_reducible apply keeps_dropMem | with_reducible apply keeps_dropBoth | (intro _; intros) | (refine keeps_of_some (by with_reducible assumption) ?_) | (refine keeps_of_fst (by with_reducible assumption) ?_) | split)

theorem State.feRunStop_keeps {z0 : State} {s : State} (f : Nat)  (hK : Keeps z0 s) :
    Keeps z0 (State.feRunStop s f) := by
  unfold State.feRunStop
  try dsimp only
  repeat' (first | with_reducible assumption | with_reducible apply State.twinsOff_keeps | with_reducible apply keeps_ite | with_reducible apply keeps_foldl | fail_if_no_progress (with_reducible apply keeps_other) | with_reducible apply keeps_dropRegs | with_reducible apply keeps_dropMem | with_reducible apply keeps_dropBoth | (intro _; intros) | (refine keeps_of_some (by with_reducible assumption) ?_) | (refine keeps_of_fst (by with_reducible assumption) ?_) | split)

theorem State.feApply_keeps {z0 : State} {s : State} (f : Nat)  (hK : Keeps z0 s) :
    Keeps z0 (State.feApply s f).1 := by
  unfold State.feApply
  try dsimp only
  repeat' (first | with_reducible assumption | with_reducible apply State.tune_keeps | with_reducible apply State.refuseUnit_keeps | with_reducible apply State.setAx_keeps | with_reducible apply keeps_ite | with_reducible apply keeps_foldl | fail_if_no_progress (with_reducible apply keeps_other) | with_reducible apply keeps_dropRegs | with_reducible apply keeps_dropMem | with_reducible apply keeps_dropBoth | (intro _; intros) | (refine keeps_of_some (by with_reducible assumption) ?_) | (refine keeps_of_fst (by with_reducible assumption) ?_) | split)

theorem State.divWritten_keeps {z0 : State} {s : State} (f : Nat) (v : Word)  (hK : Keeps z0 s) :
    Keeps z0 (State.divWritten s f v) := by
  unfold State.divWritten
  try dsimp only
  repeat' (first | with_reducible assumption | with_reducible apply State.serveAt_keeps | with_reducible apply State.seamDone_keeps | with_reducible apply State.twinsOff_keeps | with_reducible apply State.feCheck_keeps | with_reducible apply State.store_keeps | with_reducible apply State.setValid_keeps | with_reducible apply State.setAx_keeps | with_reducible apply State.putB_keeps | with_reducible apply keeps_ite | with_reducible apply keeps_foldl | fail_if_no_progress (with_reducible apply keeps_other) | with_reducible apply keeps_dropRegs | with_reducible apply keeps_dropMem | with_reducible apply keeps_dropBoth | (intro _; intros) | (refine keeps_of_some (by with_reducible assumption) ?_) | (refine keeps_of_fst (by with_reducible assumption) ?_) | split)

theorem State.warmCount_keeps {z0 : State} {s : State} (w : Nat) (n : Nat)  (hK : Keeps z0 s) :
    Keeps z0 (State.warmCount s w n) := by
  unfold State.warmCount
  try dsimp only
  repeat' (first | with_reducible assumption | with_reducible apply State.setAx_keeps | with_reducible apply keeps_ite | with_reducible apply keeps_foldl | fail_if_no_progress (with_reducible apply keeps_other) | with_reducible apply keeps_dropRegs | with_reducible apply keeps_dropMem | with_reducible apply keeps_dropBoth | (intro _; intros) | (refine keeps_of_some (by with_reducible assumption) ?_) | (refine keeps_of_fst (by with_reducible assumption) ?_) | split)

theorem State.ddcTake_keeps {z0 : State} {s : State} (d : Nat)  (hK : Keeps z0 s) :
    Keeps z0 (State.ddcTake s d) := by
  unfold State.ddcTake
  try dsimp only
  repeat' (first | with_reducible assumption | with_reducible apply State.syncReset_keeps | with_reducible apply State.count_keeps | with_reducible apply State.raiseKind_keeps | with_reducible apply State.wr_keeps | with_reducible apply keeps_ite | with_reducible apply keeps_foldl | fail_if_no_progress (with_reducible apply keeps_other) | with_reducible apply keeps_dropRegs | with_reducible apply keeps_dropMem | with_reducible apply keeps_dropBoth | (intro _; intros) | (refine keeps_of_some (by with_reducible assumption) ?_) | (refine keeps_of_fst (by with_reducible assumption) ?_) | split)

theorem State.rewarm_keeps {z0 : State} {s : State} (w : Nat)  (hK : Keeps z0 s) :
    Keeps z0 (State.rewarm s w) := by
  unfold State.rewarm
  try dsimp only
  repeat' (first | with_reducible assumption | with_reducible apply State.setValid_keeps | with_reducible apply keeps_ite | with_reducible apply keeps_foldl | fail_if_no_progress (with_reducible apply keeps_other) | with_reducible apply keeps_dropRegs | with_reducible apply keeps_dropMem | with_reducible apply keeps_dropBoth | (intro _; intros) | (refine keeps_of_some (by with_reducible assumption) ?_) | (refine keeps_of_fst (by with_reducible assumption) ?_) | split)

theorem State.startFade_keeps {z0 : State} {s : State} (w : Nat) (target : Nat) (len : Nat)  (hK : Keeps z0 s) :
    Keeps z0 (State.startFade s w target len) := by
  unfold State.startFade
  try dsimp only
  repeat' (first | with_reducible assumption | with_reducible apply State.rewarm_keeps | with_reducible apply State.setAx_keeps | with_reducible apply State.put_keeps | with_reducible apply keeps_ite | with_reducible apply keeps_foldl | fail_if_no_progress (with_reducible apply keeps_other) | with_reducible apply keeps_dropRegs | with_reducible apply keeps_dropMem | with_reducible apply keeps_dropBoth | (intro _; intros) | (refine keeps_of_some (by with_reducible assumption) ?_) | (refine keeps_of_fst (by with_reducible assumption) ?_) | split)

theorem State.pendFade_keeps {z0 : State} {s : State} (w : Nat) (target : Nat) (len : Nat)  (hK : Keeps z0 s) :
    Keeps z0 (State.pendFade s w target len) := by
  unfold State.pendFade
  try dsimp only
  repeat' (first | with_reducible assumption | with_reducible apply State.count_keeps | with_reducible apply State.raiseKind_keeps | with_reducible apply State.setAx_keeps | with_reducible apply State.put_keeps | with_reducible apply keeps_ite | with_reducible apply keeps_foldl | fail_if_no_progress (with_reducible apply keeps_other) | with_reducible apply keeps_dropRegs | with_reducible apply keeps_dropMem | with_reducible apply keeps_dropBoth | (intro _; intros) | (refine keeps_of_some (by with_reducible assumption) ?_) | (refine keeps_of_fst (by with_reducible assumption) ?_) | split)

theorem State.swap_keeps {z0 : State} {s : State} (w : Nat) (target : Nat) (len : Nat)  (hK : Keeps z0 s) :
    Keeps z0 (State.swap s w target len) := by
  unfold State.swap
  try dsimp only
  repeat' (first | with_reducible assumption | with_reducible apply State.pendFade_keeps | with_reducible apply State.startFade_keeps | with_reducible apply State.raiseKind_keeps | with_reducible apply State.put_keeps | with_reducible apply keeps_ite | with_reducible apply keeps_foldl | fail_if_no_progress (with_reducible apply keeps_other) | with_reducible apply keeps_dropRegs | with_reducible apply keeps_dropMem | with_reducible apply keeps_dropBoth | (intro _; intros) | (refine keeps_of_some (by with_reducible assumption) ?_) | (refine keeps_of_fst (by with_reducible assumption) ?_) | split)

theorem State.writeSwap_keeps {z0 : State} {s : State} (m : Nat) (w : Nat) (v : Word)  (hK : Keeps z0 s) :
    Keeps z0 (State.writeSwap s m w v) := by
  unfold State.writeSwap
  try dsimp only
  repeat' (first | with_reducible assumption | with_reducible apply State.swap_keeps | with_reducible apply State.guarded_keeps | with_reducible apply keeps_ite | with_reducible apply keeps_foldl | fail_if_no_progress (with_reducible apply keeps_other) | with_reducible apply keeps_dropRegs | with_reducible apply keeps_dropMem | with_reducible apply keeps_dropBoth | (intro _; intros) | (refine keeps_of_some (by with_reducible assumption) ?_) | (refine keeps_of_fst (by with_reducible assumption) ?_) | split)

theorem execSwapRequest_keeps {z0 : State} (m : Master) (w : Fin 1024) (v : Word) {s : State}  (hK : Keeps z0 s) :
    KeepsOut z0 (execSwapRequest m w v s) := by
  unfold execSwapRequest
  try dsimp only
  repeat' (first | with_reducible assumption | with_reducible apply State.writeSwap_keeps | with_reducible apply keeps_ite | with_reducible apply keeps_foldl | with_reducible apply keepsOut_next | with_reducible apply keepsOut_ite | fail_if_no_progress (with_reducible apply keeps_other) | with_reducible apply keeps_dropRegs | with_reducible apply keeps_dropMem | with_reducible apply keeps_dropBoth | (intro _; intros) | (refine keeps_of_some (by with_reducible assumption) ?_) | (refine keeps_of_fst (by with_reducible assumption) ?_) | split)

theorem State.endFade_keeps {z0 : State} {s : State} (w : Nat)  (hK : Keeps z0 s) :
    Keeps z0 (State.endFade s w) := by
  unfold State.endFade
  try dsimp only
  repeat' (first | with_reducible assumption | with_reducible apply State.startFade_keeps | with_reducible apply State.raiseKind_keeps | with_reducible apply State.put_keeps | with_reducible apply keeps_ite | with_reducible apply keeps_foldl | fail_if_no_progress (with_reducible apply keeps_other) | with_reducible apply keeps_dropRegs | with_reducible apply keeps_dropMem | with_reducible apply keeps_dropBoth | (intro _; intros) | (refine keeps_of_some (by with_reducible assumption) ?_) | (refine keeps_of_fst (by with_reducible assumption) ?_) | split)

theorem execFadeEnd_keeps {z0 : State} (w : Fin 1024) {s : State}  (hK : Keeps z0 s) :
    KeepsOut z0 (execFadeEnd w s) := by
  unfold execFadeEnd
  try dsimp only
  repeat' (first | with_reducible assumption | with_reducible apply State.endFade_keeps | with_reducible apply keeps_ite | with_reducible apply keeps_foldl | with_reducible apply keepsOut_next | with_reducible apply keepsOut_ite | fail_if_no_progress (with_reducible apply keeps_other) | with_reducible apply keeps_dropRegs | with_reducible apply keeps_dropMem | with_reducible apply keeps_dropBoth | (intro _; intros) | (refine keeps_of_some (by with_reducible assumption) ?_) | (refine keeps_of_fst (by with_reducible assumption) ?_) | split)

theorem countSat_keeps {z0 : State} {s : State} (w : Nat) (r : FRef) (n : Nat)  (hK : Keeps z0 s) :
    Keeps z0 (countSat s w r n) := by
  unfold countSat
  try dsimp only
  repeat' (first | with_reducible assumption | with_reducible apply State.countN_keeps | with_reducible apply State.raiseKind_keeps | with_reducible apply keeps_ite | with_reducible apply keeps_foldl | fail_if_no_progress (with_reducible apply keeps_other) | with_reducible apply keeps_dropRegs | with_reducible apply keeps_dropMem | with_reducible apply keeps_dropBoth | (intro _; intros) | (refine keeps_of_some (by with_reducible assumption) ?_) | (refine keeps_of_fst (by with_reducible assumption) ?_) | split)

theorem State.filterOut_keeps {z0 : State} {s0 : State} (w : Nat) (xs : List (Int × Int)) (ys : List (Int × Int))  (hK : Keeps z0 s0) :
    Keeps z0 (State.filterOut s0 w xs ys) := by
  unfold State.filterOut
  try dsimp only
  repeat' (first | with_reducible assumption | with_reducible apply countSat_keeps | with_reducible apply State.endFade_keeps | with_reducible apply State.warmCount_keeps | with_reducible apply State.useFresh_keeps | with_reducible apply State.setHs_keeps | with_reducible apply State.put_keeps | with_reducible apply keeps_ite | with_reducible apply keeps_foldl | with_reducible apply keepsOut_next | with_reducible apply keepsOut_ite | fail_if_no_progress (with_reducible apply keeps_other) | with_reducible apply keeps_dropRegs | with_reducible apply keeps_dropMem | with_reducible apply keeps_dropBoth | (intro _; intros) | (refine keeps_of_some (by with_reducible assumption) ?_) | (refine keeps_of_fst (by with_reducible assumption) ?_) | split)

theorem State.ddcStream_keeps {z0 : State} {s : State} (d : Nat) (c : Nat) (xs : List Int)  (hK : Keeps z0 s) :
    Keeps z0 (State.ddcStream s d c xs).1 := by
  unfold State.ddcStream
  try dsimp only
  repeat' (first | with_reducible assumption | with_reducible apply State.setHs_keeps | with_reducible apply keeps_ite | with_reducible apply keeps_foldl | fail_if_no_progress (with_reducible apply keeps_other) | with_reducible apply keeps_dropRegs | with_reducible apply keeps_dropMem | with_reducible apply keeps_dropBoth | (intro _; intros) | (refine keeps_of_some (by with_reducible assumption) ?_) | (refine keeps_of_fst (by with_reducible assumption) ?_) | split)

theorem State.ddcDeliver_keeps {z0 : State} {s : State} (d : Nat) (out : List Int)  (hK : Keeps z0 s) :
    Keeps z0 (State.ddcDeliver s d out) := by
  unfold State.ddcDeliver
  try dsimp only
  repeat' (first | with_reducible assumption | with_reducible apply State.setHs_keeps | with_reducible apply keeps_ite | with_reducible apply keeps_foldl | fail_if_no_progress (with_reducible apply keeps_other) | with_reducible apply keeps_dropRegs | with_reducible apply keeps_dropMem | with_reducible apply keeps_dropBoth | (intro _; intros) | (refine keeps_of_some (by with_reducible assumption) ?_) | (refine keeps_of_fst (by with_reducible assumption) ?_) | split)

theorem State.ddcOut_keeps {z0 : State} {s : State} (d : Nat) (xs : List (Int × Int)) (ys : List (Int × Int))  (hK : Keeps z0 s) :
    Keeps z0 (State.ddcOut s d xs ys) := by
  unfold State.ddcOut
  try dsimp only
  repeat' (first | with_reducible assumption | with_reducible apply State.ddcDeliver_keeps | with_reducible apply State.ddcStream_keeps | with_reducible apply countSat_keeps | with_reducible apply State.warmCount_keeps | with_reducible apply State.setHs_keeps | with_reducible apply State.setAx_keeps | with_reducible apply keeps_ite | with_reducible apply keeps_foldl | with_reducible apply keepsOut_next | with_reducible apply keepsOut_ite | fail_if_no_progress (with_reducible apply keeps_other) | with_reducible apply keeps_dropRegs | with_reducible apply keeps_dropMem | with_reducible apply keeps_dropBoth | (intro _; intros) | (refine keeps_of_some (by with_reducible assumption) ?_) | (refine keeps_of_fst (by with_reducible assumption) ?_) | split)

theorem State.chanOut_keeps {z0 : State} {s : State} (w : Nat)  (hK : Keeps z0 s) :
    Keeps z0 (State.chanOut s w) := by
  unfold State.chanOut
  try dsimp only
  repeat' (first | with_reducible assumption | with_reducible apply State.filterOut_keeps | with_reducible apply State.setHs_keeps | with_reducible apply State.setAx_keeps | with_reducible apply keeps_ite | with_reducible apply keeps_foldl | with_reducible apply keepsOut_next | with_reducible apply keepsOut_ite | with_reducible apply keepsOpt_getD | fail_if_no_progress (with_reducible apply keeps_other) | with_reducible apply keeps_dropRegs | with_reducible apply keeps_dropMem | with_reducible apply keeps_dropBoth | (intro _; intros) | (refine keeps_of_some (by with_reducible assumption) ?_) | (refine keeps_of_fst (by with_reducible assumption) ?_) | split)

end Sys2Proof.Machine
end

