-- ==== Sys2Proof/Laws/KeepsDemod.lean ====
section
/-! SUPPORT. What every operation of Detect, Demod, Analogue, Ofdm, Audio, Ports keeps: the canonical form, the part and the queue. -/

set_option linter.unusedTactic false
set_option linter.unreachableTactic false

namespace Sys2Proof.Machine

theorem State.judgeSilence_keeps {z0 : State} {s : State} (w : Nat) (ms : Nat) (v : Option Int)  (hK : Keeps z0 s) :
    Keeps z0 (State.judgeSilence s w ms v) := by
  unfold State.judgeSilence
  try dsimp only
  repeat' (first | with_reducible assumption | with_reducible apply State.setAx_keeps | with_reducible apply keeps_ite | with_reducible apply keeps_foldl | fail_if_no_progress (with_reducible apply keeps_other) | with_reducible apply keeps_dropRegs | with_reducible apply keeps_dropMem | with_reducible apply keeps_dropBoth | (intro _; intros) | (refine keeps_of_some (by with_reducible assumption) ?_) | (refine keeps_of_fst (by with_reducible assumption) ?_) | split)

theorem State.ageOver_keeps {z0 : State} {s : State} (w : Nat)  (hK : Keeps z0 s) :
    Keeps z0 (State.ageOver s w) := by
  unfold State.ageOver
  try dsimp only
  repeat' (first | with_reducible assumption | with_reducible apply State.setAx_keeps | with_reducible apply State.put_keeps | with_reducible apply keeps_ite | with_reducible apply keeps_foldl | fail_if_no_progress (with_reducible apply keeps_other) | with_reducible apply keeps_dropRegs | with_reducible apply keeps_dropMem | with_reducible apply keeps_dropBoth | (intro _; intros) | (refine keeps_of_some (by with_reducible assumption) ?_) | (refine keeps_of_fst (by with_reducible assumption) ?_) | split)

theorem State.over_keeps {z0 : State} {s : State} (w : Nat)  (hK : Keeps z0 s) :
    Keeps z0 (State.over s w) := by
  unfold State.over
  try dsimp only
  repeat' (first | with_reducible assumption | with_reducible apply State.count_keeps | with_reducible apply State.raiseKind_keeps | with_reducible apply State.setAx_keeps | with_reducible apply State.put_keeps | with_reducible apply keeps_ite | with_reducible apply keeps_foldl | fail_if_no_progress (with_reducible apply keeps_other) | with_reducible apply keeps_dropRegs | with_reducible apply keeps_dropMem | with_reducible apply keeps_dropBoth | (intro _; intros) | (refine keeps_of_some (by with_reducible assumption) ?_) | (refine keeps_of_fst (by with_reducible assumption) ?_) | split)

theorem State.overSample_keeps {z0 : State} {s : State} (w : Nat) (l : Bool) (r : Bool)  (hK : Keeps z0 s) :
    Keeps z0 (State.overSample s w l r) := by
  unfold State.overSample
  try dsimp only
  repeat' (first | with_reducible assumption | with_reducible apply State.over_keeps | with_reducible apply State.setAx_keeps | with_reducible apply keeps_ite | with_reducible apply keeps_foldl | fail_if_no_progress (with_reducible apply keeps_other) | with_reducible apply keeps_dropRegs | with_reducible apply keeps_dropMem | with_reducible apply keeps_dropBoth | (intro _; intros) | (refine keeps_of_some (by with_reducible assumption) ?_) | (refine keeps_of_fst (by with_reducible assumption) ?_) | split)

theorem State.overSamples_keeps {z0 : State} {s : State} (w : Nat) (l : List Int) (r : List Int)  (hK : Keeps z0 s) :
    Keeps z0 (State.overSamples s w l r) := by
  unfold State.overSamples
  try dsimp only
  repeat' (first | with_reducible assumption | with_reducible apply State.overSample_keeps | with_reducible apply keeps_ite | with_reducible apply keeps_foldl | fail_if_no_progress (with_reducible apply keeps_other) | with_reducible apply keeps_dropRegs | with_reducible apply keeps_dropMem | with_reducible apply keeps_dropBoth | (intro _; intros) | (refine keeps_of_some (by with_reducible assumption) ?_) | (refine keeps_of_fst (by with_reducible assumption) ?_) | split)

theorem State.detSample_keeps {z0 : State} {s : State} (n : Nat) (l : Int) (r0 : Int)  (hK : Keeps z0 s) :
    Keeps z0 (State.detSample s n l r0) := by
  unfold State.detSample
  try dsimp only
  repeat' (first | with_reducible assumption | with_reducible apply State.overSamples_keeps | with_reducible apply State.warmCount_keeps | with_reducible apply State.useFresh_keeps | with_reducible apply State.setHs_keeps | with_reducible apply keeps_ite | with_reducible apply keeps_foldl | with_reducible apply keepsOpt_getD | fail_if_no_progress (with_reducible apply keeps_other) | with_reducible apply keeps_dropRegs | with_reducible apply keeps_dropMem | with_reducible apply keeps_dropBoth | (intro _; intros) | (refine keeps_of_some (by with_reducible assumption) ?_) | (refine keeps_of_fst (by with_reducible assumption) ?_) | split)

theorem State.blockDone_keeps {z0 : State} {s : State} (w : Nat)  (hK : Keeps z0 s) :
    Keeps z0 (State.blockDone s w) := by
  unfold State.blockDone
  try dsimp only
  repeat' (first | with_reducible assumption | with_reducible apply State.setHs_keeps | with_reducible apply State.setAx_keeps | with_reducible apply keeps_ite | with_reducible apply keeps_foldl | with_reducible apply keepsOpt_getD | fail_if_no_progress (with_reducible apply keeps_other) | with_reducible apply keeps_dropRegs | with_reducible apply keeps_dropMem | with_reducible apply keeps_dropBoth | (intro _; intros) | (refine keeps_of_some (by with_reducible assumption) ?_) | (refine keeps_of_fst (by with_reducible assumption) ?_) | split)

theorem State.detReport_keeps {z0 : State} {s : State} (n : Nat)  (hK : Keeps z0 s) :
    Keeps z0 (State.detReport s n) := by
  unfold State.detReport
  try dsimp only
  repeat' (first | with_reducible assumption | with_reducible apply State.ageOver_keeps | with_reducible apply State.judgeSilence_keeps | with_reducible apply State.useFresh_keeps | with_reducible apply State.wr_keeps | with_reducible apply keeps_ite | with_reducible apply keeps_foldl | with_reducible apply keepsOpt_getD | fail_if_no_progress (with_reducible apply keeps_other) | with_reducible apply keeps_dropRegs | with_reducible apply keeps_dropMem | with_reducible apply keeps_dropBoth | (intro _; intros) | (refine keeps_of_some (by with_reducible assumption) ?_) | (refine keeps_of_fst (by with_reducible assumption) ?_) | split)

theorem execDetectorBlock_keeps {z0 : State} (n : Fin 32) {s : State}  (hK : Keeps z0 s) :
    KeepsOut z0 (execDetectorBlock n s) := by
  unfold execDetectorBlock
  try dsimp only
  repeat' (first | with_reducible assumption | with_reducible apply State.detReport_keeps | with_reducible apply State.blockDone_keeps | with_reducible apply keeps_ite | with_reducible apply keeps_foldl | with_reducible apply keepsOut_next | with_reducible apply keepsOut_ite | fail_if_no_progress (with_reducible apply keeps_other) | with_reducible apply keeps_dropRegs | with_reducible apply keeps_dropMem | with_reducible apply keeps_dropBoth | (intro _; intros) | (refine keeps_of_some (by with_reducible assumption) ?_) | (refine keeps_of_fst (by with_reducible assumption) ?_) | split)

theorem State.loudDone_keeps {z0 : State} {s : State} (w : Nat)  (hK : Keeps z0 s) :
    Keeps z0 (State.loudDone s w) := by
  unfold State.loudDone
  try dsimp only
  repeat' (first | with_reducible assumption | with_reducible apply State.setHs_keeps | with_reducible apply State.setAx_keeps | with_reducible apply keeps_ite | with_reducible apply keeps_foldl | with_reducible apply keepsOpt_getD | fail_if_no_progress (with_reducible apply keeps_other) | with_reducible apply keeps_dropRegs | with_reducible apply keeps_dropMem | with_reducible apply keeps_dropBoth | (intro _; intros) | (refine keeps_of_some (by with_reducible assumption) ?_) | (refine keeps_of_fst (by with_reducible assumption) ?_) | split)

theorem State.loudReport_keeps {z0 : State} {s : State} (w : Nat)  (hK : Keeps z0 s) :
    Keeps z0 (State.loudReport s w) := by
  unfold State.loudReport
  try dsimp only
  repeat' (first | with_reducible assumption | with_reducible apply State.judgeSilence_keeps | with_reducible apply State.useFresh_keeps | with_reducible apply State.setHs_keeps | with_reducible apply State.put_keeps | with_reducible apply keeps_ite | with_reducible apply keeps_foldl | fail_if_no_progress (with_reducible apply keeps_other) | with_reducible apply keeps_dropRegs | with_reducible apply keeps_dropMem | with_reducible apply keeps_dropBoth | (intro _; intros) | (refine keeps_of_some (by with_reducible assumption) ?_) | (refine keeps_of_fst (by with_reducible assumption) ?_) | split)

theorem execLoudnessUpdate_keeps {z0 : State} (n : Fin 32) {s : State}  (hK : Keeps z0 s) :
    KeepsOut z0 (execLoudnessUpdate n s) := by
  unfold execLoudnessUpdate
  try dsimp only
  repeat' (first | with_reducible assumption | with_reducible apply State.loudReport_keeps | with_reducible apply State.loudDone_keeps | with_reducible apply keeps_ite | with_reducible apply keeps_foldl | with_reducible apply keepsOut_next | with_reducible apply keepsOut_ite | fail_if_no_progress (with_reducible apply keeps_other) | with_reducible apply keeps_dropRegs | with_reducible apply keeps_dropMem | with_reducible apply keeps_dropBoth | (intro _; intros) | (refine keeps_of_some (by with_reducible assumption) ?_) | (refine keeps_of_fst (by with_reducible assumption) ?_) | split)

theorem execSilenceEnter_keeps {z0 : State} (n : Fin 32) {s : State}  (hK : Keeps z0 s) :
    KeepsOut z0 (execSilenceEnter n s) := by
  unfold execSilenceEnter
  try dsimp only
  repeat' (first | with_reducible assumption | with_reducible apply State.count_keeps | with_reducible apply State.raiseKind_keeps | with_reducible apply State.put_keeps | with_reducible apply keeps_ite | with_reducible apply keeps_foldl | with_reducible apply keepsOut_next | with_reducible apply keepsOut_ite | fail_if_no_progress (with_reducible apply keeps_other) | with_reducible apply keeps_dropRegs | with_reducible apply keeps_dropMem | with_reducible apply keeps_dropBoth | (intro _; intros) | (refine keeps_of_some (by with_reducible assumption) ?_) | (refine keeps_of_fst (by with_reducible assumption) ?_) | split)

theorem execSilenceExit_keeps {z0 : State} (n : Fin 32) {s : State}  (hK : Keeps z0 s) :
    KeepsOut z0 (execSilenceExit n s) := by
  unfold execSilenceExit
  try dsimp only
  repeat' (first | with_reducible assumption | with_reducible apply State.raiseKind_keeps | with_reducible apply State.put_keeps | with_reducible apply keeps_ite | with_reducible apply keeps_foldl | with_reducible apply keepsOut_next | with_reducible apply keepsOut_ite | fail_if_no_progress (with_reducible apply keeps_other) | with_reducible apply keeps_dropRegs | with_reducible apply keeps_dropMem | with_reducible apply keeps_dropBoth | (intro _; intros) | (refine keeps_of_some (by with_reducible assumption) ?_) | (refine keeps_of_fst (by with_reducible assumption) ?_) | split)

theorem execOverRepeat_keeps {z0 : State} (n : Fin 32) {s : State}  (hK : Keeps z0 s) :
    KeepsOut z0 (execOverRepeat n s) := by
  unfold execOverRepeat
  try dsimp only
  repeat' (first | with_reducible assumption | with_reducible apply State.over_keeps | with_reducible apply keeps_ite | with_reducible apply keeps_foldl | with_reducible apply keepsOut_next | with_reducible apply keepsOut_ite | fail_if_no_progress (with_reducible apply keeps_other) | with_reducible apply keeps_dropRegs | with_reducible apply keeps_dropMem | with_reducible apply keeps_dropBoth | (intro _; intros) | (refine keeps_of_some (by with_reducible assumption) ?_) | (refine keeps_of_fst (by with_reducible assumption) ?_) | split)

theorem State.detWritten_keeps {z0 : State} {s : State} (w : Nat) (off : Nat) (v : Word)  (hK : Keeps z0 s) :
    Keeps z0 (State.detWritten s w off v) := by
  unfold State.detWritten
  try dsimp only
  repeat' (first | with_reducible assumption | with_reducible apply State.store_keeps | with_reducible apply State.setHs_keeps | with_reducible apply State.setAx_keeps | with_reducible apply State.put_keeps | with_reducible apply keeps_ite | with_reducible apply keeps_foldl | fail_if_no_progress (with_reducible apply keeps_other) | with_reducible apply keeps_dropRegs | with_reducible apply keeps_dropMem | with_reducible apply keeps_dropBoth | (intro _; intros) | (refine keeps_of_some (by with_reducible assumption) ?_) | (refine keeps_of_fst (by with_reducible assumption) ?_) | split)

theorem execIntReset_keeps {z0 : State} (m : Master) (n : Fin 32) {s : State}  (hK : Keeps z0 s) :
    KeepsOut z0 (execIntReset m n s) := by
  unfold execIntReset
  try dsimp only
  repeat' (first | with_reducible assumption | with_reducible apply State.detWritten_keeps | with_reducible apply State.guarded_keeps | with_reducible apply keeps_ite | with_reducible apply keeps_foldl | with_reducible apply keepsOut_next | with_reducible apply keepsOut_ite | fail_if_no_progress (with_reducible apply keeps_other) | with_reducible apply keeps_dropRegs | with_reducible apply keeps_dropMem | with_reducible apply keeps_dropBoth | (intro _; intros) | (refine keeps_of_some (by with_reducible assumption) ?_) | (refine keeps_of_fst (by with_reducible assumption) ?_) | split)

theorem State.setPlace_keeps {z0 : State} {s : State} (w : Nat) (slot : Nat) (p : Nat × Nat)  (hK : Keeps z0 s) :
    Keeps z0 (State.setPlace s w slot p) := by
  unfold State.setPlace
  try dsimp only
  repeat' (first | with_reducible assumption | with_reducible apply State.setAx_keeps | with_reducible apply keeps_ite | with_reducible apply keeps_foldl | fail_if_no_progress (with_reducible apply keeps_other) | with_reducible apply keeps_dropRegs | with_reducible apply keeps_dropMem | with_reducible apply keeps_dropBoth | (intro _; intros) | (refine keeps_of_some (by with_reducible assumption) ?_) | (refine keeps_of_fst (by with_reducible assumption) ?_) | split)

theorem State.fmControls_keeps {z0 : State} {s : State} (w : Nat) (q : Nat)  (hK : Keeps z0 s) :
    Keeps z0 (State.fmControls s w q) := by
  unfold State.fmControls
  try dsimp only
  repeat' (first | with_reducible assumption | with_reducible apply State.setPlace_keeps | with_reducible apply State.raiseKind_keeps | with_reducible apply State.useFresh_keeps | with_reducible apply State.putB_keeps | with_reducible apply State.put_keeps | with_reducible apply keeps_ite | with_reducible apply keeps_foldl | fail_if_no_progress (with_reducible apply keeps_other) | with_reducible apply keeps_dropRegs | with_reducible apply keeps_dropMem | with_reducible apply keeps_dropBoth | (intro _; intros) | (refine keeps_of_some (by with_reducible assumption) ?_) | (refine keeps_of_fst (by with_reducible assumption) ?_) | split)

theorem State.amControls_keeps {z0 : State} {s : State} (w : Nat) (q : Nat)  (hK : Keeps z0 s) :
    Keeps z0 (State.amControls s w q) := by
  unfold State.amControls
  try dsimp only
  repeat' (first | with_reducible assumption | with_reducible apply State.setPlace_keeps | with_reducible apply State.raiseKind_keeps | with_reducible apply State.useFresh_keeps | with_reducible apply State.put_keeps | with_reducible apply keeps_ite | with_reducible apply keeps_foldl | fail_if_no_progress (with_reducible apply keeps_other) | with_reducible apply keeps_dropRegs | with_reducible apply keeps_dropMem | with_reducible apply keeps_dropBoth | (intro _; intros) | (refine keeps_of_some (by with_reducible assumption) ?_) | (refine keeps_of_fst (by with_reducible assumption) ?_) | split)

theorem State.setEnvelope_keeps {z0 : State} {s : State} (w : Nat) (on : Bool) (fallback : Bool)  (hK : Keeps z0 s) :
    Keeps z0 (State.setEnvelope s w on fallback) := by
  unfold State.setEnvelope
  try dsimp only
  repeat' (first | with_reducible assumption | with_reducible apply State.setAx_keeps | with_reducible apply State.putB_keeps | with_reducible apply State.put_keeps | with_reducible apply keeps_ite | with_reducible apply keeps_foldl | fail_if_no_progress (with_reducible apply keeps_other) | with_reducible apply keeps_dropRegs | with_reducible apply keeps_dropMem | with_reducible apply keeps_dropBoth | (intro _; intros) | (refine keeps_of_some (by with_reducible assumption) ?_) | (refine keeps_of_fst (by with_reducible assumption) ?_) | split)

theorem State.amUnheard_keeps {z0 : State} {s : State} (w : Nat)  (hK : Keeps z0 s) :
    Keeps z0 (State.amUnheard s w) := by
  unfold State.amUnheard
  try dsimp only
  repeat' (first | with_reducible assumption | with_reducible apply State.setEnvelope_keeps | with_reducible apply State.setValid_keeps | with_reducible apply keeps_ite | with_reducible apply keeps_foldl | fail_if_no_progress (with_reducible apply keeps_other) | with_reducible apply keeps_dropRegs | with_reducible apply keeps_dropMem | with_reducible apply keeps_dropBoth | (intro _; intros) | (refine keeps_of_some (by with_reducible assumption) ?_) | (refine keeps_of_fst (by with_reducible assumption) ?_) | split)

theorem State.amConfig_keeps {z0 : State} {s : State} (w : Nat)  (hK : Keeps z0 s) :
    Keeps z0 (State.amConfig s w) := by
  unfold State.amConfig
  try dsimp only
  repeat' (first | with_reducible assumption | with_reducible apply State.amUnheard_keeps | with_reducible apply State.setEnvelope_keeps | with_reducible apply State.put_keeps | with_reducible apply keeps_ite | with_reducible apply keeps_foldl | fail_if_no_progress (with_reducible apply keeps_other) | with_reducible apply keeps_dropRegs | with_reducible apply keeps_dropMem | with_reducible apply keeps_dropBoth | (intro _; intros) | (refine keeps_of_some (by with_reducible assumption) ?_) | (refine keeps_of_fst (by with_reducible assumption) ?_) | split)

theorem State.ageBlank_keeps {z0 : State} {s : State} (w : Nat) (r : FRef)  (hK : Keeps z0 s) :
    Keeps z0 (State.ageBlank s w r) := by
  unfold State.ageBlank
  try dsimp only
  repeat' (first | with_reducible assumption | with_reducible apply State.setAx_keeps | with_reducible apply State.putB_keeps | with_reducible apply keeps_ite | with_reducible apply keeps_foldl | fail_if_no_progress (with_reducible apply keeps_other) | with_reducible apply keeps_dropRegs | with_reducible apply keeps_dropMem | with_reducible apply keeps_dropBoth | (intro _; intros) | (refine keeps_of_some (by with_reducible assumption) ?_) | (refine keeps_of_fst (by with_reducible assumption) ?_) | split)

theorem State.amLockMs_keeps {z0 : State} {s : State} (w : Nat)  (hK : Keeps z0 s) :
    Keeps z0 (State.amLockMs s w) := by
  unfold State.amLockMs
  try dsimp only
  repeat' (first | with_reducible assumption | with_reducible apply State.setAx_keeps | with_reducible apply keeps_ite | with_reducible apply keeps_foldl | fail_if_no_progress (with_reducible apply keeps_other) | with_reducible apply keeps_dropRegs | with_reducible apply keeps_dropMem | with_reducible apply keeps_dropBoth | (intro _; intros) | (refine keeps_of_some (by with_reducible assumption) ?_) | (refine keeps_of_fst (by with_reducible assumption) ?_) | split)

theorem execDemodBlock_keeps {z0 : State} (w : Fin 1024) (level : Int) (snr : Int) {s : State}  (hK : Keeps z0 s) :
    KeepsOut z0 (execDemodBlock w level snr s) := by
  unfold execDemodBlock
  try dsimp only
  repeat' (first | with_reducible assumption | with_reducible apply State.amLockMs_keeps | with_reducible apply State.ageBlank_keeps | with_reducible apply State.amConfig_keeps | with_reducible apply State.amControls_keeps | with_reducible apply State.fmControls_keeps | with_reducible apply State.divBlock_keeps | with_reducible apply State.takeCfg_keeps | with_reducible apply State.useFresh_keeps | with_reducible apply State.putI_keeps | with_reducible apply State.put_keeps | with_reducible apply keeps_ite | with_reducible apply keeps_foldl | with_reducible apply keepsOut_next | with_reducible apply keepsOut_ite | fail_if_no_progress (with_reducible apply keeps_other) | with_reducible apply keeps_dropRegs | with_reducible apply keeps_dropMem | with_reducible apply keeps_dropBoth | (intro _; intros) | (refine keeps_of_some (by with_reducible assumption) ?_) | (refine keeps_of_fst (by with_reducible assumption) ?_) | split)

theorem execMetricIntervalEnd_keeps {z0 : State} (w : Fin 1024) (interval : Fin 3) (a : Int) (b : Int) {s : State}  (hK : Keeps z0 s) :
    KeepsOut z0 (execMetricIntervalEnd w interval a b s) := by
  unfold execMetricIntervalEnd
  try dsimp only
  repeat' (first | with_reducible assumption | with_reducible apply State.count_keeps | with_reducible apply State.raiseKind_keeps | with_reducible apply State.useFresh_keeps | with_reducible apply State.setHs_keeps | with_reducible apply State.setAx_keeps | with_reducible apply State.putI_keeps | with_reducible apply State.put_keeps | with_reducible apply keeps_ite | with_reducible apply keeps_foldl | with_reducible apply keepsOut_next | with_reducible apply keepsOut_ite | fail_if_no_progress (with_reducible apply keeps_other) | with_reducible apply keeps_dropRegs | with_reducible apply keeps_dropMem | with_reducible apply keeps_dropBoth | (intro _; intros) | (refine keeps_of_some (by with_reducible assumption) ?_) | (refine keeps_of_fst (by with_reducible assumption) ?_) | split)

theorem execPilotFound_keeps {z0 : State} (n : Fin 48) {s : State}  (hK : Keeps z0 s) :
    KeepsOut z0 (execPilotFound n s) := by
  unfold execPilotFound
  try dsimp only
  repeat' (first | with_reducible assumption | with_reducible apply State.raiseKind_keeps | with_reducible apply State.put_keeps | with_reducible apply keeps_ite | with_reducible apply keeps_foldl | with_reducible apply keepsOut_next | with_reducible apply keepsOut_ite | fail_if_no_progress (with_reducible apply keeps_other) | with_reducible apply keeps_dropRegs | with_reducible apply keeps_dropMem | with_reducible apply keeps_dropBoth | (intro _; intros) | (refine keeps_of_some (by with_reducible assumption) ?_) | (refine keeps_of_fst (by with_reducible assumption) ?_) | split)

theorem execPilotLost_keeps {z0 : State} (n : Fin 48) (pll : Bool) {s : State}  (hK : Keeps z0 s) :
    KeepsOut z0 (execPilotLost n pll s) := by
  unfold execPilotLost
  try dsimp only
  repeat' (first | with_reducible assumption | with_reducible apply State.count_keeps | with_reducible apply State.raiseKind_keeps | with_reducible apply State.put_keeps | with_reducible apply keeps_ite | with_reducible apply keeps_foldl | with_reducible apply keepsOut_next | with_reducible apply keepsOut_ite | fail_if_no_progress (with_reducible apply keeps_other) | with_reducible apply keeps_dropRegs | with_reducible apply keeps_dropMem | with_reducible apply keeps_dropBoth | (intro _; intros) | (refine keeps_of_some (by with_reducible assumption) ?_) | (refine keeps_of_fst (by with_reducible assumption) ?_) | split)

theorem execRdsBit_keeps {z0 : State} (n : Fin 48) {s : State}  (hK : Keeps z0 s) :
    KeepsOut z0 (execRdsBit n s) := by
  unfold execRdsBit
  try dsimp only
  repeat' (first | with_reducible assumption | with_reducible apply State.bump_keeps | with_reducible apply State.through_keeps | with_reducible apply State.setHs_keeps | with_reducible apply keeps_ite | with_reducible apply keeps_foldl | with_reducible apply keepsOut_next | with_reducible apply keepsOut_ite | with_reducible apply keepsOpt_getD | fail_if_no_progress (with_reducible apply keeps_other) | with_reducible apply keeps_dropRegs | with_reducible apply keeps_dropMem | with_reducible apply keeps_dropBoth | (intro _; intros) | (refine keeps_of_some (by with_reducible assumption) ?_) | (refine keeps_of_fst (by with_reducible assumption) ?_) | split)

theorem State.fmWarm_keeps {z0 : State} {s : State} (w : Nat)  (hK : Keeps z0 s) :
    Keeps z0 (State.fmWarm s w) := by
  unfold State.fmWarm
  try dsimp only
  repeat' (first | with_reducible assumption | with_reducible apply State.setValid_keeps | with_reducible apply keeps_ite | with_reducible apply keeps_foldl | fail_if_no_progress (with_reducible apply keeps_other) | with_reducible apply keeps_dropRegs | with_reducible apply keeps_dropMem | with_reducible apply keeps_dropBoth | (intro _; intros) | (refine keeps_of_some (by with_reducible assumption) ?_) | (refine keeps_of_fst (by with_reducible assumption) ?_) | split)

theorem State.amLock_keeps {z0 : State} {s : State} (w : Nat)  (hK : Keeps z0 s) :
    Keeps z0 (State.amLock s w) := by
  unfold State.amLock
  try dsimp only
  repeat' (first | with_reducible assumption | with_reducible apply State.setEnvelope_keeps | with_reducible apply State.setValid_keeps | with_reducible apply State.raiseKind_keeps | with_reducible apply State.put_keeps | with_reducible apply keeps_ite | with_reducible apply keeps_foldl | fail_if_no_progress (with_reducible apply keeps_other) | with_reducible apply keeps_dropRegs | with_reducible apply keeps_dropMem | with_reducible apply keeps_dropBoth | (intro _; intros) | (refine keeps_of_some (by with_reducible assumption) ?_) | (refine keeps_of_fst (by with_reducible assumption) ?_) | split)

theorem execCarrierLost_keeps {z0 : State} (n : Fin 16) {s : State}  (hK : Keeps z0 s) :
    KeepsOut z0 (execCarrierLost n s) := by
  unfold execCarrierLost
  try dsimp only
  repeat' (first | with_reducible assumption | with_reducible apply State.amUnheard_keeps | with_reducible apply State.setEnvelope_keeps | with_reducible apply State.count_keeps | with_reducible apply State.raiseKind_keeps | with_reducible apply State.put_keeps | with_reducible apply keeps_ite | with_reducible apply keeps_foldl | with_reducible apply keepsOut_next | with_reducible apply keepsOut_ite | fail_if_no_progress (with_reducible apply keeps_other) | with_reducible apply keeps_dropRegs | with_reducible apply keeps_dropMem | with_reducible apply keeps_dropBoth | (intro _; intros) | (refine keeps_of_some (by with_reducible assumption) ?_) | (refine keeps_of_fst (by with_reducible assumption) ?_) | split)

theorem State.amBound_keeps {z0 : State} {s : State} (w : Nat)  (hK : Keeps z0 s) :
    Keeps z0 (State.amBound s w) := by
  unfold State.amBound
  try dsimp only
  repeat' (first | with_reducible assumption | with_reducible apply State.setEnvelope_keeps | with_reducible apply State.setValid_keeps | with_reducible apply keeps_ite | with_reducible apply keeps_foldl | fail_if_no_progress (with_reducible apply keeps_other) | with_reducible apply keeps_dropRegs | with_reducible apply keeps_dropMem | with_reducible apply keeps_dropBoth | (intro _; intros) | (refine keeps_of_some (by with_reducible assumption) ?_) | (refine keeps_of_fst (by with_reducible assumption) ?_) | split)

theorem execDetectorReturnSync_keeps {z0 : State} (n : Fin 16) {s : State}  (hK : Keeps z0 s) :
    KeepsOut z0 (execDetectorReturnSync n s) := by
  unfold execDetectorReturnSync
  try dsimp only
  repeat' (first | with_reducible assumption | with_reducible apply State.setEnvelope_keeps | with_reducible apply keeps_ite | with_reducible apply keeps_foldl | with_reducible apply keepsOut_next | with_reducible apply keepsOut_ite | fail_if_no_progress (with_reducible apply keeps_other) | with_reducible apply keeps_dropRegs | with_reducible apply keeps_dropMem | with_reducible apply keeps_dropBoth | (intro _; intros) | (refine keeps_of_some (by with_reducible assumption) ?_) | (refine keeps_of_fst (by with_reducible assumption) ?_) | split)

theorem execSidebandEval_keeps {z0 : State} (n : Fin 16) (lsb : Int) (usb : Int) {s : State}  (hK : Keeps z0 s) :
    KeepsOut z0 (execSidebandEval n lsb usb s) := by
  unfold execSidebandEval
  try dsimp only
  repeat' (first | with_reducible assumption | with_reducible apply State.setAx_keeps | with_reducible apply State.put_keeps | with_reducible apply keeps_ite | with_reducible apply keeps_foldl | with_reducible apply keepsOut_next | with_reducible apply keepsOut_ite | fail_if_no_progress (with_reducible apply keeps_other) | with_reducible apply keeps_dropRegs | with_reducible apply keeps_dropMem | with_reducible apply keeps_dropBoth | (intro _; intros) | (refine keeps_of_some (by with_reducible assumption) ?_) | (refine keeps_of_fst (by with_reducible assumption) ?_) | split)

theorem execBranchSwitch_keeps {z0 : State} (n : Fin 16) {s : State}  (hK : Keeps z0 s) :
    KeepsOut z0 (execBranchSwitch n s) := by
  unfold execBranchSwitch
  try dsimp only
  repeat' (first | with_reducible assumption | with_reducible apply State.count_keeps | with_reducible apply State.raiseKind_keeps | with_reducible apply State.putB_keeps | with_reducible apply keeps_ite | with_reducible apply keeps_foldl | with_reducible apply keepsOut_next | with_reducible apply keepsOut_ite | fail_if_no_progress (with_reducible apply keeps_other) | with_reducible apply keeps_dropRegs | with_reducible apply keeps_dropMem | with_reducible apply keeps_dropBoth | (intro _; intros) | (refine keeps_of_some (by with_reducible assumption) ?_) | (refine keeps_of_fst (by with_reducible assumption) ?_) | split)

theorem State.blank_keeps {z0 : State} {s : State} (w : Nat) (len : Nat) (flag : FRef) (cnt : FRef)  (hK : Keeps z0 s) :
    Keeps z0 (State.blank s w len flag cnt) := by
  unfold State.blank
  try dsimp only
  repeat' (first | with_reducible assumption | with_reducible apply State.count_keeps | with_reducible apply State.setAx_keeps | with_reducible apply State.put_keeps | with_reducible apply keeps_ite | with_reducible apply keeps_foldl | fail_if_no_progress (with_reducible apply keeps_other) | with_reducible apply keeps_dropRegs | with_reducible apply keeps_dropMem | with_reducible apply keeps_dropBoth | (intro _; intros) | (refine keeps_of_some (by with_reducible assumption) ?_) | (refine keeps_of_fst (by with_reducible assumption) ?_) | split)

theorem State.blankOf_keeps {z0 : State} {s : State} (w : Nat)  (hK : Keeps z0 s) :
    Keeps z0 (State.blankOf s w) := by
  unfold State.blankOf
  try dsimp only
  repeat' (first | with_reducible assumption | with_reducible apply State.blank_keeps | with_reducible apply keeps_ite | with_reducible apply keeps_foldl | fail_if_no_progress (with_reducible apply keeps_other) | with_reducible apply keeps_dropRegs | with_reducible apply keeps_dropMem | with_reducible apply keeps_dropBoth | (intro _; intros) | (refine keeps_of_some (by with_reducible assumption) ?_) | (refine keeps_of_fst (by with_reducible assumption) ?_) | split)

theorem execNoiseBlank_keeps {z0 : State} (w : Fin 1024) {s : State}  (hK : Keeps z0 s) :
    KeepsOut z0 (execNoiseBlank w s) := by
  unfold execNoiseBlank
  try dsimp only
  repeat' (first | with_reducible assumption | with_reducible apply State.blankOf_keeps | with_reducible apply keeps_ite | with_reducible apply keeps_foldl | with_reducible apply keepsOut_next | with_reducible apply keepsOut_ite | fail_if_no_progress (with_reducible apply keeps_other) | with_reducible apply keeps_dropRegs | with_reducible apply keeps_dropMem | with_reducible apply keeps_dropBoth | (intro _; intros) | (refine keeps_of_some (by with_reducible assumption) ?_) | (refine keeps_of_fst (by with_reducible assumption) ?_) | split)

theorem State.passGap_keeps {z0 : State} {s : State} (w : Nat) (x : List Int)  (hK : Keeps z0 s) :
    Keeps z0 (State.passGap s w x).1 := by
  unfold State.passGap
  try dsimp only
  repeat' (first | with_reducible assumption | with_reducible apply State.useFresh_keeps | with_reducible apply State.setHs_keeps | with_reducible apply State.setAx_keeps | with_reducible apply keeps_ite | with_reducible apply keeps_foldl | fail_if_no_progress (with_reducible apply keeps_other) | with_reducible apply keeps_dropRegs | with_reducible apply keeps_dropMem | with_reducible apply keeps_dropBoth | (intro _; intros) | (refine keeps_of_some (by with_reducible assumption) ?_) | (refine keeps_of_fst (by with_reducible assumption) ?_) | split)

theorem State.blanker_keeps {z0 : State} {s : State} (w : Nat) (nb : Bool) (thresh : Nat) (span : Nat) (held : Bool) (x : List Int) (e : Int)  (hK : Keeps z0 s) :
    Keeps z0 (State.blanker s w nb thresh span held x e).1 := by
  unfold State.blanker
  try dsimp only
  repeat' (first | with_reducible assumption | with_reducible apply State.passGap_keeps | with_reducible apply State.blankOf_keeps | with_reducible apply State.setHs_keeps | with_reducible apply State.setAx_keeps | with_reducible apply keeps_ite | with_reducible apply keeps_foldl | fail_if_no_progress (with_reducible apply keeps_other) | with_reducible apply keeps_dropRegs | with_reducible apply keeps_dropMem | with_reducible apply keeps_dropBoth | (intro _; intros) | (refine keeps_of_some (by with_reducible assumption) ?_) | (refine keeps_of_fst (by with_reducible assumption) ?_) | split)

theorem State.toLanes_keeps {z0 : State} {s : State} (w : Nat) (l : Int) (r : Int) (stamp : Nat)  (hK : Keeps z0 s) :
    Keeps z0 (State.toLanes s w l r stamp) := by
  unfold State.toLanes
  try dsimp only
  repeat' (first | with_reducible assumption | with_reducible apply State.setHs_keeps | with_reducible apply keeps_ite | with_reducible apply keeps_foldl | fail_if_no_progress (with_reducible apply keeps_other) | with_reducible apply keeps_dropRegs | with_reducible apply keeps_dropMem | with_reducible apply keeps_dropBoth | (intro _; intros) | (refine keeps_of_some (by with_reducible assumption) ?_) | (refine keeps_of_fst (by with_reducible assumption) ?_) | split)

theorem State.pcmOut_keeps {z0 : State} {s : State} (w : Nat) (silent : Bool) (db : Nat) (back : Nat) (l : Int) (r : Int) (stamp : Nat)  (hK : Keeps z0 s) :
    Keeps z0 (State.pcmOut s w silent db back l r stamp) := by
  unfold State.pcmOut
  try dsimp only
  repeat' (first | with_reducible assumption | with_reducible apply State.toLanes_keeps | with_reducible apply State.setHs_keeps | with_reducible apply keeps_ite | with_reducible apply keeps_foldl | fail_if_no_progress (with_reducible apply keeps_other) | with_reducible apply keeps_dropRegs | with_reducible apply keeps_dropMem | with_reducible apply keeps_dropBoth | (intro _; intros) | (refine keeps_of_some (by with_reducible assumption) ?_) | (refine keeps_of_fst (by with_reducible assumption) ?_) | split)

theorem State.fmCombine_keeps {z0 : State} {s : State} (w : Nat) (a : Int × Int) (b : Int × Int)  (hK : Keeps z0 s) :
    Keeps z0 (State.fmCombine s w a b).1 := by
  unfold State.fmCombine
  try dsimp only
  repeat' (first | with_reducible assumption | with_reducible apply State.setHs_keeps | with_reducible apply keeps_ite | with_reducible apply keeps_foldl | fail_if_no_progress (with_reducible apply keeps_other) | with_reducible apply keeps_dropRegs | with_reducible apply keeps_dropMem | with_reducible apply keeps_dropBoth | (intro _; intros) | (refine keeps_of_some (by with_reducible assumption) ?_) | (refine keeps_of_fst (by with_reducible assumption) ?_) | split)

theorem State.discriminate_keeps {z0 : State} {s : State} (w : Nat) (x : Int × Int)  (hK : Keeps z0 s) :
    Keeps z0 (State.discriminate s w x).1 := by
  unfold State.discriminate
  try dsimp only
  repeat' (first | with_reducible assumption | with_reducible apply State.setHs_keeps | with_reducible apply State.setAx_keeps | with_reducible apply keeps_ite | with_reducible apply keeps_foldl | with_reducible apply keepsOpt_getD | fail_if_no_progress (with_reducible apply keeps_other) | with_reducible apply keeps_dropRegs | with_reducible apply keeps_dropMem | with_reducible apply keeps_dropBoth | (intro _; intros) | (refine keeps_of_some (by with_reducible assumption) ?_) | (refine keeps_of_fst (by with_reducible assumption) ?_) | split)

theorem State.fmOut_keeps {z0 : State} {s : State} (w : Nat) (mono : Bool) (stamp : Nat)  (hK : Keeps z0 s) :
    Keeps z0 (State.fmOut s w mono stamp) := by
  unfold State.fmOut
  try dsimp only
  repeat' (first | with_reducible assumption | with_reducible apply State.pcmOut_keeps | with_reducible apply State.useFresh_keeps | with_reducible apply keeps_ite | with_reducible apply keeps_foldl | with_reducible apply keepsOut_next | with_reducible apply keepsOut_ite | fail_if_no_progress (with_reducible apply keeps_other) | with_reducible apply keeps_dropRegs | with_reducible apply keeps_dropMem | with_reducible apply keeps_dropBoth | (intro _; intros) | (refine keeps_of_some (by with_reducible assumption) ?_) | (refine keeps_of_fst (by with_reducible assumption) ?_) | split)

theorem State.highCut_keeps {z0 : State} {s : State} (w : Nat) (slot : Nat) (corner : Nat) (x : Int)  (hK : Keeps z0 s) :
    Keeps z0 (State.highCut s w slot corner x).1 := by
  unfold State.highCut
  try dsimp only
  repeat' (first | with_reducible assumption | with_reducible apply State.through_keeps | with_reducible apply keeps_ite | with_reducible apply keeps_foldl | fail_if_no_progress (with_reducible apply keeps_other) | with_reducible apply keeps_dropRegs | with_reducible apply keeps_dropMem | with_reducible apply keeps_dropBoth | (intro _; intros) | (refine keeps_of_some (by with_reducible assumption) ?_) | (refine keeps_of_fst (by with_reducible assumption) ?_) | split)

theorem State.fmAudio_keeps {z0 : State} {s : State} (w : Nat) (v : List Int)  (hK : Keeps z0 s) :
    Keeps z0 (State.fmAudio s w v) := by
  unfold State.fmAudio
  try dsimp only
  repeat' (first | with_reducible assumption | with_reducible apply State.highCut_keeps | with_reducible apply State.fmOut_keeps | with_reducible apply State.useFresh_keeps | with_reducible apply State.through_keeps | with_reducible apply State.setHs_keeps | with_reducible apply State.setAx_keeps | with_reducible apply keeps_ite | with_reducible apply keeps_foldl | with_reducible apply keepsOut_next | with_reducible apply keepsOut_ite | with_reducible apply keepsOpt_getD | fail_if_no_progress (with_reducible apply keeps_other) | with_reducible apply keeps_dropRegs | with_reducible apply keeps_dropMem | with_reducible apply keeps_dropBoth | (intro _; intros) | (refine keeps_of_some (by with_reducible assumption) ?_) | (refine keeps_of_fst (by with_reducible assumption) ?_) | split)

theorem State.fmSample_keeps {z0 : State} {s : State} (w : Nat) (a : Int × Int) (b : Int × Int) (stamp : Nat)  (hK : Keeps z0 s) :
    Keeps z0 (State.fmSample s w a b stamp) := by
  unfold State.fmSample
  try dsimp only
  repeat' (first | with_reducible assumption | with_reducible apply State.fmAudio_keeps | with_reducible apply State.discriminate_keeps | with_reducible apply State.fmCombine_keeps | with_reducible apply State.blanker_keeps | with_reducible apply State.useFresh_keeps | with_reducible apply State.setHs_keeps | with_reducible apply State.setAx_keeps | with_reducible apply keeps_ite | with_reducible apply keeps_foldl | with_reducible apply keepsOut_next | with_reducible apply keepsOut_ite | fail_if_no_progress (with_reducible apply keeps_other) | with_reducible apply keeps_dropRegs | with_reducible apply keeps_dropMem | with_reducible apply keeps_dropBoth | (intro _; intros) | (refine keeps_of_some (by with_reducible assumption) ?_) | (refine keeps_of_fst (by with_reducible assumption) ?_) | split)

theorem State.amTurn_keeps {z0 : State} {s : State} (w : Nat)  (hK : Keeps z0 s) :
    Keeps z0 (State.amTurn s w) := by
  unfold State.amTurn
  try dsimp only
  repeat' (first | with_reducible assumption | with_reducible apply State.setHs_keeps | with_reducible apply State.setAx_keeps | with_reducible apply keeps_ite | with_reducible apply keeps_foldl | fail_if_no_progress (with_reducible apply keeps_other) | with_reducible apply keeps_dropRegs | with_reducible apply keeps_dropMem | with_reducible apply keeps_dropBoth | (intro _; intros) | (refine keeps_of_some (by with_reducible assumption) ?_) | (refine keeps_of_fst (by with_reducible assumption) ?_) | split)

theorem State.amPeak_keeps {z0 : State} {s : State} (w : Nat)  (hK : Keeps z0 s) :
    Keeps z0 (State.amPeak s w) := by
  unfold State.amPeak
  try dsimp only
  repeat' (first | with_reducible assumption | with_reducible apply State.setHs_keeps | with_reducible apply keeps_ite | with_reducible apply keeps_foldl | with_reducible apply keepsOpt_getD | fail_if_no_progress (with_reducible apply keeps_other) | with_reducible apply keeps_dropRegs | with_reducible apply keeps_dropMem | with_reducible apply keeps_dropBoth | (intro _; intros) | (refine keeps_of_some (by with_reducible assumption) ?_) | (refine keeps_of_fst (by with_reducible assumption) ?_) | split)

theorem State.amOut_keeps {z0 : State} {s0 : State} (w : Nat) (stamp : Nat)  (hK : Keeps z0 s0) :
    Keeps z0 (State.amOut s0 w stamp) := by
  unfold State.amOut
  try dsimp only
  repeat' (first | with_reducible assumption | with_reducible apply State.amPeak_keeps | with_reducible apply State.amTurn_keeps | with_reducible apply State.pcmOut_keeps | with_reducible apply State.useFresh_keeps | with_reducible apply State.setAx_keeps | with_reducible apply keeps_ite | with_reducible apply keeps_foldl | with_reducible apply keepsOut_next | with_reducible apply keepsOut_ite | fail_if_no_progress (with_reducible apply keeps_other) | with_reducible apply keeps_dropRegs | with_reducible apply keeps_dropMem | with_reducible apply keeps_dropBoth | (intro _; intros) | (refine keeps_of_some (by with_reducible assumption) ?_) | (refine keeps_of_fst (by with_reducible assumption) ?_) | split)

theorem State.amHear_keeps {z0 : State} {s : State} (w : Nat) (v : List Int)  (hK : Keeps z0 s) :
    Keeps z0 (State.amHear s w v) := by
  unfold State.amHear
  try dsimp only
  repeat' (first | with_reducible assumption | with_reducible apply State.amOut_keeps | with_reducible apply State.setHs_keeps | with_reducible apply keeps_ite | with_reducible apply keeps_foldl | with_reducible apply keepsOut_next | with_reducible apply keepsOut_ite | fail_if_no_progress (with_reducible apply keeps_other) | with_reducible apply keeps_dropRegs | with_reducible apply keeps_dropMem | with_reducible apply keeps_dropBoth | (intro _; intros) | (refine keeps_of_some (by with_reducible assumption) ?_) | (refine keeps_of_fst (by with_reducible assumption) ?_) | split)

theorem State.amBranch_keeps {z0 : State} {s : State} (w : Nat) (slot : Nat) (still : Bool) (x : Int × Int)  (hK : Keeps z0 s) :
    Keeps z0 (State.amBranch s w slot still x).1 := by
  unfold State.amBranch
  try dsimp only
  repeat' (first | with_reducible assumption | with_reducible apply State.through_keeps | with_reducible apply keeps_ite | with_reducible apply keeps_foldl | fail_if_no_progress (with_reducible apply keeps_other) | with_reducible apply keeps_dropRegs | with_reducible apply keeps_dropMem | with_reducible apply keeps_dropBoth | (intro _; intros) | (refine keeps_of_some (by with_reducible assumption) ?_) | (refine keeps_of_fst (by with_reducible assumption) ?_) | split)

theorem State.amDetect_keeps {z0 : State} {s : State} (w : Nat) (gap : Bool) (v : List Int)  (hK : Keeps z0 s) :
    Keeps z0 (State.amDetect s w gap v) := by
  unfold State.amDetect
  try dsimp only
  repeat' (first | with_reducible assumption | with_reducible apply State.amBranch_keeps | with_reducible apply State.amHear_keeps | with_reducible apply State.useFresh_keeps | with_reducible apply State.setHs_keeps | with_reducible apply State.setAx_keeps | with_reducible apply keeps_ite | with_reducible apply keeps_foldl | with_reducible apply keepsOpt_getD | fail_if_no_progress (with_reducible apply keeps_other) | with_reducible apply keeps_dropRegs | with_reducible apply keeps_dropMem | with_reducible apply keeps_dropBoth | (intro _; intros) | (refine keeps_of_some (by with_reducible assumption) ?_) | (refine keeps_of_fst (by with_reducible assumption) ?_) | split)

theorem State.amSample_keeps {z0 : State} {s : State} (w : Nat) (a : Int × Int) (b : Int × Int) (stamp : Nat)  (hK : Keeps z0 s) :
    Keeps z0 (State.amSample s w a b stamp) := by
  unfold State.amSample
  try dsimp only
  repeat' (first | with_reducible assumption | with_reducible apply State.amDetect_keeps | with_reducible apply State.blanker_keeps | with_reducible apply State.setAx_keeps | with_reducible apply keeps_ite | with_reducible apply keeps_foldl | with_reducible apply keeps_fold_fst | fail_if_no_progress (with_reducible apply keeps_other) | with_reducible apply keeps_dropRegs | with_reducible apply keeps_dropMem | with_reducible apply keeps_dropBoth | (intro _; intros) | (refine keeps_of_some (by with_reducible assumption) ?_) | (refine keeps_of_fst (by with_reducible assumption) ?_) | split)

theorem State.dropCoded_keeps {z0 : State} {s : State} (w : Nat) (i : Nat)  (hK : Keeps z0 s) :
    Keeps z0 (State.dropCoded s w i) := by
  unfold State.dropCoded
  try dsimp only
  repeat' (first | with_reducible assumption | with_reducible apply State.setHs_keeps | with_reducible apply keeps_ite | with_reducible apply keeps_foldl | with_reducible apply keepsOpt_getD | fail_if_no_progress (with_reducible apply keeps_other) | with_reducible apply keeps_dropRegs | with_reducible apply keeps_dropMem | with_reducible apply keeps_dropBoth | (intro _; intros) | (refine keeps_of_some (by with_reducible assumption) ?_) | (refine keeps_of_fst (by with_reducible assumption) ?_) | split)

theorem State.giveCoded_keeps {z0 : State} {s : State} (w : Nat) (i : Nat) (c : Coded)  (hK : Keeps z0 s) :
    Keeps z0 (State.giveCoded s w i c) := by
  unfold State.giveCoded
  try dsimp only
  repeat' (first | with_reducible assumption | with_reducible apply State.setHs_keeps | with_reducible apply keeps_ite | with_reducible apply keeps_foldl | fail_if_no_progress (with_reducible apply keeps_other) | with_reducible apply keeps_dropRegs | with_reducible apply keeps_dropMem | with_reducible apply keeps_dropBoth | (intro _; intros) | (refine keeps_of_some (by with_reducible assumption) ?_) | (refine keeps_of_fst (by with_reducible assumption) ?_) | split)

theorem State.keepRest_keeps {z0 : State} {s : State} (w : Nat) (i : Nat) (c : Coded) (rest : List Nat)  (hK : Keeps z0 s) :
    Keeps z0 (State.keepRest s w i c rest) := by
  unfold State.keepRest
  try dsimp only
  repeat' (first | with_reducible assumption | with_reducible apply State.dropCoded_keeps | with_reducible apply State.setHs_keeps | with_reducible apply keeps_ite | with_reducible apply keeps_foldl | fail_if_no_progress (with_reducible apply keeps_other) | with_reducible apply keeps_dropRegs | with_reducible apply keeps_dropMem | with_reducible apply keeps_dropBoth | (intro _; intros) | (refine keeps_of_some (by with_reducible assumption) ?_) | (refine keeps_of_fst (by with_reducible assumption) ?_) | split)

theorem State.mciUpdate_keeps {z0 : State} {s : State} (w : Nat)  (hK : Keeps z0 s) :
    Keeps z0 (State.mciUpdate s w) := by
  unfold State.mciUpdate
  try dsimp only
  repeat' (first | with_reducible assumption | with_reducible apply State.put_keeps | with_reducible apply keeps_ite | with_reducible apply keeps_foldl | with_reducible apply keepsOpt_getD | fail_if_no_progress (with_reducible apply keeps_other) | with_reducible apply keeps_dropRegs | with_reducible apply keeps_dropMem | with_reducible apply keeps_dropBoth | (intro _; intros) | (refine keeps_of_some (by with_reducible assumption) ?_) | (refine keeps_of_fst (by with_reducible assumption) ?_) | split)

theorem State.judgeSel_keeps {z0 : State} {s : State} (w : Nat) (i : Nat)  (hK : Keeps z0 s) :
    Keeps z0 (State.judgeSel s w i) := by
  unfold State.judgeSel
  try dsimp only
  repeat' (first | with_reducible assumption | with_reducible apply State.setErr_keeps | with_reducible apply State.raiseKind_keeps | with_reducible apply State.put_keeps | with_reducible apply keeps_ite | with_reducible apply keeps_foldl | fail_if_no_progress (with_reducible apply keeps_other) | with_reducible apply keeps_dropRegs | with_reducible apply keeps_dropMem | with_reducible apply keeps_dropBoth | (intro _; intros) | (refine keeps_of_some (by with_reducible assumption) ?_) | (refine keeps_of_fst (by with_reducible assumption) ?_) | split)

theorem State.judgeAll_keeps {z0 : State} {s : State} (w : Nat)  (hK : Keeps z0 s) :
    Keeps z0 (State.judgeAll s w) := by
  unfold State.judgeAll
  try dsimp only
  repeat' (first | with_reducible assumption | with_reducible apply State.judgeSel_keeps | with_reducible apply keeps_ite | with_reducible apply keeps_foldl | fail_if_no_progress (with_reducible apply keeps_other) | with_reducible apply keeps_dropRegs | with_reducible apply keeps_dropMem | with_reducible apply keeps_dropBoth | (intro _; intros) | (refine keeps_of_some (by with_reducible assumption) ?_) | (refine keeps_of_fst (by with_reducible assumption) ?_) | split)

theorem State.judgeNew_keeps {z0 : State} {s : State} (w : Nat)  (hK : Keeps z0 s) :
    Keeps z0 (State.judgeNew s w) := by
  unfold State.judgeNew
  try dsimp only
  repeat' (first | with_reducible assumption | with_reducible apply State.judgeSel_keeps | with_reducible apply keeps_ite | with_reducible apply keeps_foldl | fail_if_no_progress (with_reducible apply keeps_other) | with_reducible apply keeps_dropRegs | with_reducible apply keeps_dropMem | with_reducible apply keeps_dropBoth | (intro _; intros) | (refine keeps_of_some (by with_reducible assumption) ?_) | (refine keeps_of_fst (by with_reducible assumption) ?_) | split)

theorem State.judgeSwitch_keeps {z0 : State} {s : State} (w : Nat)  (hK : Keeps z0 s) :
    Keeps z0 (State.judgeSwitch s w) := by
  unfold State.judgeSwitch
  try dsimp only
  repeat' (first | with_reducible assumption | with_reducible apply State.judgeSel_keeps | with_reducible apply keeps_ite | with_reducible apply keeps_foldl | fail_if_no_progress (with_reducible apply keeps_other) | with_reducible apply keeps_dropRegs | with_reducible apply keeps_dropMem | with_reducible apply keeps_dropBoth | (intro _; intros) | (refine keeps_of_some (by with_reducible assumption) ?_) | (refine keeps_of_fst (by with_reducible assumption) ?_) | split)

theorem State.selTake_keeps {z0 : State} {s : State} (w : Nat)  (hK : Keeps z0 s) :
    Keeps z0 (State.selTake s w) := by
  unfold State.selTake
  try dsimp only
  repeat' (first | with_reducible assumption | with_reducible apply State.judgeSel_keeps | with_reducible apply State.mciUpdate_keeps | with_reducible apply State.setBl_keeps | with_reducible apply State.setHs_keeps | with_reducible apply State.put_keeps | with_reducible apply keeps_ite | with_reducible apply keeps_foldl | fail_if_no_progress (with_reducible apply keeps_other) | with_reducible apply keeps_dropRegs | with_reducible apply keeps_dropMem | with_reducible apply keeps_dropBoth | (intro _; intros) | (refine keeps_of_some (by with_reducible assumption) ?_) | (refine keeps_of_fst (by with_reducible assumption) ?_) | split)

theorem State.ofdmLocked_keeps {z0 : State} {s : State} (w : Nat)  (hK : Keeps z0 s) :
    Keeps z0 (State.ofdmLocked s w) := by
  unfold State.ofdmLocked
  try dsimp only
  repeat' (first | with_reducible assumption | with_reducible apply State.setValid_keeps | with_reducible apply State.raiseKind_keeps | with_reducible apply State.setAx_keeps | with_reducible apply State.put_keeps | with_reducible apply keeps_ite | with_reducible apply keeps_foldl | fail_if_no_progress (with_reducible apply keeps_other) | with_reducible apply keeps_dropRegs | with_reducible apply keeps_dropMem | with_reducible apply keeps_dropBoth | (intro _; intros) | (refine keeps_of_some (by with_reducible assumption) ?_) | (refine keeps_of_fst (by with_reducible assumption) ?_) | split)

theorem State.syncAdvance_keeps {z0 : State} {s : State} (w : Nat) (mode : Nat) (so : Nat) (offset : Int) (sco : Int)  (hK : Keeps z0 s) :
    Keeps z0 (State.syncAdvance s w mode so offset sco) := by
  unfold State.syncAdvance
  try dsimp only
  repeat' (first | with_reducible assumption | with_reducible apply State.ofdmLocked_keeps | with_reducible apply State.judgeAll_keeps | with_reducible apply State.put_keeps | with_reducible apply keeps_ite | with_reducible apply keeps_foldl | fail_if_no_progress (with_reducible apply keeps_other) | with_reducible apply keeps_dropRegs | with_reducible apply keeps_dropMem | with_reducible apply keeps_dropBoth | (intro _; intros) | (refine keeps_of_some (by with_reducible assumption) ?_) | (refine keeps_of_fst (by with_reducible assumption) ?_) | split)

theorem State.dropProbe_keeps {z0 : State} {s : State} (w : Nat)  (hK : Keeps z0 s) :
    Keeps z0 (State.dropProbe s w) := by
  unfold State.dropProbe
  try dsimp only
  repeat' (first | with_reducible assumption | with_reducible apply State.setAx_keeps | with_reducible apply State.put_keeps | with_reducible apply keeps_ite | with_reducible apply keeps_foldl | fail_if_no_progress (with_reducible apply keeps_other) | with_reducible apply keeps_dropRegs | with_reducible apply keeps_dropMem | with_reducible apply keeps_dropBoth | (intro _; intros) | (refine keeps_of_some (by with_reducible assumption) ?_) | (refine keeps_of_fst (by with_reducible assumption) ?_) | split)

theorem execOfdmSyncLost_keeps {z0 : State} (n : Fin 16) {s : State}  (hK : Keeps z0 s) :
    KeepsOut z0 (execOfdmSyncLost n s) := by
  unfold execOfdmSyncLost
  try dsimp only
  repeat' (first | with_reducible assumption | with_reducible apply State.dropProbe_keeps | with_reducible apply State.setValid_keeps | with_reducible apply State.count_keeps | with_reducible apply State.raiseKind_keeps | with_reducible apply State.put_keeps | with_reducible apply keeps_ite | with_reducible apply keeps_foldl | with_reducible apply keepsOut_next | with_reducible apply keepsOut_ite | fail_if_no_progress (with_reducible apply keeps_other) | with_reducible apply keeps_dropRegs | with_reducible apply keeps_dropMem | with_reducible apply keeps_dropBoth | (intro _; intros) | (refine keeps_of_some (by with_reducible assumption) ?_) | (refine keeps_of_fst (by with_reducible assumption) ?_) | split)

theorem State.takeNext_keeps {z0 : State} {s : State} (w : Nat)  (hK : Keeps z0 s) :
    Keeps z0 (State.takeNext s w) := by
  unfold State.takeNext
  try dsimp only
  repeat' (first | with_reducible assumption | with_reducible apply State.judgeSwitch_keeps | with_reducible apply State.mciUpdate_keeps | with_reducible apply State.raiseKind_keeps | with_reducible apply State.setBl_keeps | with_reducible apply State.setHs_keeps | with_reducible apply State.put_keeps | with_reducible apply keeps_ite | with_reducible apply keeps_foldl | fail_if_no_progress (with_reducible apply keeps_other) | with_reducible apply keeps_dropRegs | with_reducible apply keeps_dropMem | with_reducible apply keeps_dropBoth | (intro _; intros) | (refine keeps_of_some (by with_reducible assumption) ?_) | (refine keeps_of_fst (by with_reducible assumption) ?_) | split)

theorem State.reconfigure_keeps {z0 : State} {s : State} (w : Nat)  (hK : Keeps z0 s) :
    Keeps z0 (State.reconfigure s w) := by
  unfold State.reconfigure
  try dsimp only
  repeat' (first | with_reducible assumption | with_reducible apply State.takeNext_keeps | with_reducible apply State.setErr_keeps | with_reducible apply State.put_keeps | with_reducible apply keeps_ite | with_reducible apply keeps_foldl | fail_if_no_progress (with_reducible apply keeps_other) | with_reducible apply keeps_dropRegs | with_reducible apply keeps_dropMem | with_reducible apply keeps_dropBoth | (intro _; intros) | (refine keeps_of_some (by with_reducible assumption) ?_) | (refine keeps_of_fst (by with_reducible assumption) ?_) | split)

theorem State.softClear_keeps {z0 : State} {s : State} (w : Nat)  (hK : Keeps z0 s) :
    Keeps z0 (State.softClear s w) := by
  unfold State.softClear
  try dsimp only
  repeat' (first | with_reducible assumption | with_reducible apply State.setHs_keeps | with_reducible apply keeps_ite | with_reducible apply keeps_foldl | fail_if_no_progress (with_reducible apply keeps_other) | with_reducible apply keeps_dropRegs | with_reducible apply keeps_dropMem | with_reducible apply keeps_dropBoth | (intro _; intros) | (refine keeps_of_some (by with_reducible assumption) ?_) | (refine keeps_of_fst (by with_reducible assumption) ?_) | split)

theorem State.resynced_keeps {z0 : State} {s : State} (w : Nat)  (hK : Keeps z0 s) :
    Keeps z0 (State.resynced s w) := by
  unfold State.resynced
  try dsimp only
  repeat' (first | with_reducible assumption | with_reducible apply State.softClear_keeps | with_reducible apply State.reconfigure_keeps | with_reducible apply State.ofdmLocked_keeps | with_reducible apply State.judgeSwitch_keeps | with_reducible apply State.ofdmRestart_keeps | with_reducible apply State.setAx_keeps | with_reducible apply keeps_ite | with_reducible apply keeps_foldl | fail_if_no_progress (with_reducible apply keeps_other) | with_reducible apply keeps_dropRegs | with_reducible apply keeps_dropMem | with_reducible apply keeps_dropBoth | (intro _; intros) | (refine keeps_of_some (by with_reducible assumption) ?_) | (refine keeps_of_fst (by with_reducible assumption) ?_) | split)

theorem execOfdmResyncTimeout_keeps {z0 : State} (n : Fin 16) {s : State}  (hK : Keeps z0 s) :
    KeepsOut z0 (execOfdmResyncTimeout n s) := by
  unfold execOfdmResyncTimeout
  try dsimp only
  repeat' (first | with_reducible assumption | with_reducible apply State.ofdmRestart_keeps | with_reducible apply keeps_ite | with_reducible apply keeps_foldl | with_reducible apply keepsOut_next | with_reducible apply keepsOut_ite | fail_if_no_progress (with_reducible apply keeps_other) | with_reducible apply keeps_dropRegs | with_reducible apply keeps_dropMem | with_reducible apply keeps_dropBoth | (intro _; intros) | (refine keeps_of_some (by with_reducible assumption) ?_) | (refine keeps_of_fst (by with_reducible assumption) ?_) | split)

theorem execModeUnsupported_keeps {z0 : State} (n : Fin 16) {s : State}  (hK : Keeps z0 s) :
    KeepsOut z0 (execModeUnsupported n s) := by
  unfold execModeUnsupported
  try dsimp only
  repeat' (first | with_reducible assumption | with_reducible apply State.setErr_keeps | with_reducible apply State.raiseKind_keeps | with_reducible apply keeps_ite | with_reducible apply keeps_foldl | with_reducible apply keepsOut_next | with_reducible apply keepsOut_ite | fail_if_no_progress (with_reducible apply keeps_other) | with_reducible apply keeps_dropRegs | with_reducible apply keeps_dropMem | with_reducible apply keeps_dropBoth | (intro _; intros) | (refine keeps_of_some (by with_reducible assumption) ?_) | (refine keeps_of_fst (by with_reducible assumption) ?_) | split)

theorem execOfdmAcqTimeout_keeps {z0 : State} (n : Fin 16) {s : State}  (hK : Keeps z0 s) :
    KeepsOut z0 (execOfdmAcqTimeout n s) := by
  unfold execOfdmAcqTimeout
  try dsimp only
  repeat' (first | with_reducible assumption | with_reducible apply State.setErr_keeps | with_reducible apply State.setAx_keeps | with_reducible apply keeps_ite | with_reducible apply keeps_foldl | with_reducible apply keepsOut_next | with_reducible apply keepsOut_ite | fail_if_no_progress (with_reducible apply keeps_other) | with_reducible apply keeps_dropRegs | with_reducible apply keeps_dropMem | with_reducible apply keeps_dropBoth | (intro _; intros) | (refine keeps_of_some (by with_reducible assumption) ?_) | (refine keeps_of_fst (by with_reducible assumption) ?_) | split)

theorem execOfdmFrameEnd_keeps {z0 : State} (n : Fin 16) (mer : Int) (offset : Int) (sco : Int) (a : Int) (b : Int) {s : State}  (hK : Keeps z0 s) :
    KeepsOut z0 (execOfdmFrameEnd n mer offset sco a b s) := by
  unfold execOfdmFrameEnd
  try dsimp only
  repeat' (first | with_reducible assumption | with_reducible apply State.bump_keeps | with_reducible apply State.putI_keeps | with_reducible apply State.put_keeps | with_reducible apply keeps_ite | with_reducible apply keeps_foldl | with_reducible apply keepsOut_next | with_reducible apply keepsOut_ite | fail_if_no_progress (with_reducible apply keeps_other) | with_reducible apply keeps_dropRegs | with_reducible apply keeps_dropMem | with_reducible apply keeps_dropBoth | (intro _; intros) | (refine keeps_of_some (by with_reducible assumption) ?_) | (refine keeps_of_fst (by with_reducible assumption) ?_) | split)

theorem State.giveControl_keeps {z0 : State} {s : State} (w : Nat) (c : ControlArg)  (hK : Keeps z0 s) :
    Keeps z0 (State.giveControl s w c) := by
  unfold State.giveControl
  try dsimp only
  repeat' (first | with_reducible assumption | with_reducible apply State.giveCoded_keeps | with_reducible apply keeps_ite | with_reducible apply keeps_foldl | fail_if_no_progress (with_reducible apply keeps_other) | with_reducible apply keeps_dropRegs | with_reducible apply keeps_dropMem | with_reducible apply keeps_dropBoth | (intro _; intros) | (refine keeps_of_some (by with_reducible assumption) ?_) | (refine keeps_of_fst (by with_reducible assumption) ?_) | split)

theorem State.muxTake_keeps {z0 : State} {s : State} (w : Nat) (c : MuxNews)  (hK : Keeps z0 s) :
    Keeps z0 (State.muxTake s w c) := by
  unfold State.muxTake
  try dsimp only
  repeat' (first | with_reducible assumption | with_reducible apply State.judgeNew_keeps | with_reducible apply State.mciUpdate_keeps | with_reducible apply State.count_keeps | with_reducible apply State.setBl_keeps | with_reducible apply State.setHs_keeps | with_reducible apply State.putB_keeps | with_reducible apply State.put_keeps | with_reducible apply keeps_ite | with_reducible apply keeps_foldl | fail_if_no_progress (with_reducible apply keeps_other) | with_reducible apply keeps_dropRegs | with_reducible apply keeps_dropMem | with_reducible apply keeps_dropBoth | (intro _; intros) | (refine keeps_of_some (by with_reducible assumption) ?_) | (refine keeps_of_fst (by with_reducible assumption) ?_) | split)

theorem execControlBlockReceived_keeps {z0 : State} (n : Fin 16) (c : ControlArg) {s0 : State}  (hK : Keeps z0 s0) :
    KeepsOut z0 (execControlBlockReceived n c s0) := by
  unfold execControlBlockReceived
  try dsimp only
  repeat' (first | with_reducible assumption | with_reducible apply State.muxTake_keeps | with_reducible apply State.giveControl_keeps | with_reducible apply State.count_keeps | with_reducible apply keeps_ite | with_reducible apply keeps_foldl | with_reducible apply keepsOut_next | with_reducible apply keepsOut_ite | fail_if_no_progress (with_reducible apply keeps_other) | with_reducible apply keeps_dropRegs | with_reducible apply keeps_dropMem | with_reducible apply keeps_dropBoth | (intro _; intros) | (refine keeps_of_some (by with_reducible assumption) ?_) | (refine keeps_of_fst (by with_reducible assumption) ?_) | split)

theorem execMultiplexReconfigure_keeps {z0 : State} (n : Fin 16) {s : State}  (hK : Keeps z0 s) :
    KeepsOut z0 (execMultiplexReconfigure n s) := by
  unfold execMultiplexReconfigure
  try dsimp only
  repeat' (first | with_reducible assumption | with_reducible apply State.reconfigure_keeps | with_reducible apply State.setAx_keeps | with_reducible apply keeps_ite | with_reducible apply keeps_foldl | with_reducible apply keepsOut_next | with_reducible apply keepsOut_ite | fail_if_no_progress (with_reducible apply keeps_other) | with_reducible apply keeps_dropRegs | with_reducible apply keeps_dropMem | with_reducible apply keeps_dropBoth | (intro _; intros) | (refine keeps_of_some (by with_reducible assumption) ?_) | (refine keeps_of_fst (by with_reducible assumption) ?_) | split)

theorem State.ofdmSymbol_keeps {z0 : State} {s : State} (w : Nat)  (hK : Keeps z0 s) :
    Keeps z0 (State.ofdmSymbol s w) := by
  unfold State.ofdmSymbol
  try dsimp only
  repeat' (first | with_reducible assumption | with_reducible apply State.through_keeps | with_reducible apply State.setHs_keeps | with_reducible apply State.setAx_keeps | with_reducible apply keeps_ite | with_reducible apply keeps_foldl | with_reducible apply keepsOpt_getD | fail_if_no_progress (with_reducible apply keeps_other) | with_reducible apply keeps_dropRegs | with_reducible apply keeps_dropMem | with_reducible apply keeps_dropBoth | (intro _; intros) | (refine keeps_of_some (by with_reducible assumption) ?_) | (refine keeps_of_fst (by with_reducible assumption) ?_) | split)

theorem State.ofdmSample_keeps {z0 : State} {s : State} (w : Nat) (a : Int × Int) (b : Int × Int) (stamp : Nat)  (hK : Keeps z0 s) :
    Keeps z0 (State.ofdmSample s w a b stamp) := by
  unfold State.ofdmSample
  try dsimp only
  repeat' (first | with_reducible assumption | with_reducible apply State.ofdmSymbol_keeps | with_reducible apply State.setHs_keeps | with_reducible apply State.setAx_keeps | with_reducible apply keeps_ite | with_reducible apply keeps_foldl | fail_if_no_progress (with_reducible apply keeps_other) | with_reducible apply keeps_dropRegs | with_reducible apply keeps_dropMem | with_reducible apply keeps_dropBoth | (intro _; intros) | (refine keeps_of_some (by with_reducible assumption) ?_) | (refine keeps_of_fst (by with_reducible assumption) ?_) | split)

theorem State.deliverBlock_keeps {z0 : State} {s : State} (w : Nat) (i : Nat) (us : List (Bool × List Byte))  (hK : Keeps z0 s) :
    Keeps z0 (State.deliverBlock s w i us) := by
  unfold State.deliverBlock
  try dsimp only
  repeat' (first | with_reducible assumption | with_reducible apply State.giveCoded_keeps | with_reducible apply State.setHs_keeps | with_reducible apply State.setAx_keeps | with_reducible apply keeps_ite | with_reducible apply keeps_foldl | with_reducible apply keeps_fold_fst | fail_if_no_progress (with_reducible apply keeps_other) | with_reducible apply keeps_dropRegs | with_reducible apply keeps_dropMem | with_reducible apply keeps_dropBoth | (intro _; intros) | (refine keeps_of_some (by with_reducible assumption) ?_) | (refine keeps_of_fst (by with_reducible assumption) ?_) | split)

theorem execSuperframeDecoded_keeps {z0 : State} (n : Fin 16) (sel : Fin 64) (b : BlockArg) {s : State}  (hK : Keeps z0 s) :
    KeepsOut z0 (execSuperframeDecoded n sel b s) := by
  unfold execSuperframeDecoded
  try dsimp only
  repeat' (first | with_reducible assumption | with_reducible apply State.fire_keeps | with_reducible apply State.deliverBlock_keeps | with_reducible apply State.count_keeps | with_reducible apply State.raiseKind_keeps | with_reducible apply State.setHs_keeps | with_reducible apply State.putB_keeps | with_reducible apply keeps_ite | with_reducible apply keeps_foldl | with_reducible apply keepsOut_next | with_reducible apply keepsOut_ite | with_reducible apply keepsOpt_getD | fail_if_no_progress (with_reducible apply keeps_other) | with_reducible apply keeps_dropRegs | with_reducible apply keeps_dropMem | with_reducible apply keeps_dropBoth | (intro _; intros) | (refine keeps_of_some (by with_reducible assumption) ?_) | (refine keeps_of_fst (by with_reducible assumption) ?_) | split)

theorem execPreambleMeasured_keeps {z0 : State} (n : Fin 16) (mer : Int) (inWindow : Bool) {s : State}  (hK : Keeps z0 s) :
    KeepsOut z0 (execPreambleMeasured n mer inWindow s) := by
  unfold execPreambleMeasured
  try dsimp only
  repeat' (first | with_reducible assumption | with_reducible apply State.requestInput_keeps | with_reducible apply State.setAx_keeps | with_reducible apply keeps_ite | with_reducible apply keeps_foldl | with_reducible apply keepsOut_next | with_reducible apply keepsOut_ite | fail_if_no_progress (with_reducible apply keeps_other) | with_reducible apply keeps_dropRegs | with_reducible apply keeps_dropMem | with_reducible apply keeps_dropBoth | (intro _; intros) | (refine keeps_of_some (by with_reducible assumption) ?_) | (refine keeps_of_fst (by with_reducible assumption) ?_) | split)

theorem State.annShow_keeps {z0 : State} {s : State} (w : Nat)  (hK : Keeps z0 s) :
    Keeps z0 (State.annShow s w) := by
  unfold State.annShow
  try dsimp only
  repeat' (first | with_reducible assumption | with_reducible apply State.putB_keeps | with_reducible apply State.put_keeps | with_reducible apply keeps_ite | with_reducible apply keeps_foldl | fail_if_no_progress (with_reducible apply keeps_other) | with_reducible apply keeps_dropRegs | with_reducible apply keeps_dropMem | with_reducible apply keeps_dropBoth | (intro _; intros) | (refine keeps_of_some (by with_reducible assumption) ?_) | (refine keeps_of_fst (by with_reducible assumption) ?_) | split)

theorem State.annEnd_keeps {z0 : State} {s : State} (w : Nat) (cluster : Nat)  (hK : Keeps z0 s) :
    Keeps z0 (State.annEnd s w cluster) := by
  unfold State.annEnd
  try dsimp only
  repeat' (first | with_reducible assumption | with_reducible apply State.annShow_keeps | with_reducible apply State.raiseKind_keeps | with_reducible apply State.setHs_keeps | with_reducible apply keeps_ite | with_reducible apply keeps_foldl | fail_if_no_progress (with_reducible apply keeps_other) | with_reducible apply keeps_dropRegs | with_reducible apply keeps_dropMem | with_reducible apply keeps_dropBoth | (intro _; intros) | (refine keeps_of_some (by with_reducible assumption) ?_) | (refine keeps_of_fst (by with_reducible assumption) ?_) | split)

theorem State.annEntry_keeps {z0 : State} {s0 : State} (w : Nat) (asw : Nat) (cluster : Nat) (sub : Nat) (new : Bool) (region : Bool)  (hK : Keeps z0 s0) :
    Keeps z0 (State.annEntry s0 w asw cluster sub new region) := by
  unfold State.annEntry
  try dsimp only
  repeat' (first | with_reducible assumption | with_reducible apply State.annEnd_keeps | with_reducible apply State.annShow_keeps | with_reducible apply State.raiseKind_keeps | with_reducible apply State.setHs_keeps | with_reducible apply State.wr_keeps | with_reducible apply keeps_ite | with_reducible apply keeps_foldl | fail_if_no_progress (with_reducible apply keeps_other) | with_reducible apply keeps_dropRegs | with_reducible apply keeps_dropMem | with_reducible apply keeps_dropBoth | (intro _; intros) | (refine keeps_of_some (by with_reducible assumption) ?_) | (refine keeps_of_fst (by with_reducible assumption) ?_) | split)

theorem State.decFormat_keeps {z0 : State} {s : State} (w : Nat) (u : AccessUnit)  (hK : Keeps z0 s) :
    Keeps z0 (State.decFormat s w u) := by
  unfold State.decFormat
  try dsimp only
  repeat' (first | with_reducible assumption | with_reducible apply State.raiseKind_keeps | with_reducible apply State.putB_keeps | with_reducible apply State.put_keeps | with_reducible apply keeps_ite | with_reducible apply keeps_foldl | fail_if_no_progress (with_reducible apply keeps_other) | with_reducible apply keeps_dropRegs | with_reducible apply keeps_dropMem | with_reducible apply keeps_dropBoth | (intro _; intros) | (refine keeps_of_some (by with_reducible assumption) ?_) | (refine keeps_of_fst (by with_reducible assumption) ?_) | split)

theorem State.decBad_keeps {z0 : State} {s : State} (w : Nat) (u : AccessUnit)  (hK : Keeps z0 s) :
    Keeps z0 (State.decBad s w u) := by
  unfold State.decBad
  try dsimp only
  repeat' (first | with_reducible assumption | with_reducible apply State.setValid_keeps | with_reducible apply State.count_keeps | with_reducible apply State.raiseKind_keeps | with_reducible apply State.setAx_keeps | with_reducible apply State.put_keeps | with_reducible apply keeps_ite | with_reducible apply keeps_foldl | fail_if_no_progress (with_reducible apply keeps_other) | with_reducible apply keeps_dropRegs | with_reducible apply keeps_dropMem | with_reducible apply keeps_dropBoth | (intro _; intros) | (refine keeps_of_some (by with_reducible assumption) ?_) | (refine keeps_of_fst (by with_reducible assumption) ?_) | split)

theorem State.decGood_keeps {z0 : State} {s : State} (w : Nat) (u : AccessUnit)  (hK : Keeps z0 s) :
    Keeps z0 (State.decGood s w u) := by
  unfold State.decGood
  try dsimp only
  repeat' (first | with_reducible assumption | with_reducible apply State.decFormat_keeps | with_reducible apply State.setValid_keeps | with_reducible apply State.bump_keeps | with_reducible apply State.raiseKind_keeps | with_reducible apply State.setAx_keeps | with_reducible apply State.put_keeps | with_reducible apply keeps_ite | with_reducible apply keeps_foldl | fail_if_no_progress (with_reducible apply keeps_other) | with_reducible apply keeps_dropRegs | with_reducible apply keeps_dropMem | with_reducible apply keeps_dropBoth | (intro _; intros) | (refine keeps_of_some (by with_reducible assumption) ?_) | (refine keeps_of_fst (by with_reducible assumption) ?_) | split)

theorem State.decodedRaw_keeps {z0 : State} {s : State} (w : Nat) (u : AccessUnit) (c : Coded)  (hK : Keeps z0 s) :
    Keeps z0 (State.decodedRaw s w u c).1 := by
  unfold State.decodedRaw
  try dsimp only
  repeat' (first | with_reducible assumption | with_reducible apply State.useFresh_keeps | with_reducible apply State.through_keeps | with_reducible apply keeps_ite | with_reducible apply keeps_foldl | fail_if_no_progress (with_reducible apply keeps_other) | with_reducible apply keeps_dropRegs | with_reducible apply keeps_dropMem | with_reducible apply keeps_dropBoth | (intro _; intros) | (refine keeps_of_some (by with_reducible assumption) ?_) | (refine keeps_of_fst (by with_reducible assumption) ?_) | split)

theorem State.converted_keeps {z0 : State} {s : State} (w : Nat) (hz : Nat) (xs : List (Int × Int))  (hK : Keeps z0 s) :
    Keeps z0 (State.converted s w hz xs).1 := by
  unfold State.converted
  try dsimp only
  repeat' (first | with_reducible assumption | with_reducible apply State.useFresh_keeps | with_reducible apply State.setHs_keeps | with_reducible apply keeps_ite | with_reducible apply keeps_foldl | fail_if_no_progress (with_reducible apply keeps_other) | with_reducible apply keeps_dropRegs | with_reducible apply keeps_dropMem | with_reducible apply keeps_dropBoth | (intro _; intros) | (refine keeps_of_some (by with_reducible assumption) ?_) | (refine keeps_of_fst (by with_reducible assumption) ?_) | split)

theorem State.decodedFrames_keeps {z0 : State} {s : State} (w : Nat) (u : AccessUnit) (c : Coded)  (hK : Keeps z0 s) :
    Keeps z0 (State.decodedFrames s w u c).1 := by
  unfold State.decodedFrames
  try dsimp only
  repeat' (first | with_reducible assumption | with_reducible apply State.converted_keeps | with_reducible apply State.decodedRaw_keeps | with_reducible apply keeps_ite | with_reducible apply keeps_foldl | fail_if_no_progress (with_reducible apply keeps_other) | with_reducible apply keeps_dropRegs | with_reducible apply keeps_dropMem | with_reducible apply keeps_dropBoth | (intro _; intros) | (refine keeps_of_some (by with_reducible assumption) ?_) | (refine keeps_of_fst (by with_reducible assumption) ?_) | split)

theorem State.decDeliver_keeps {z0 : State} {s : State} (w : Nat) (stamp : BitVec 64) (g : Nat → Nat × Nat) (xs : List (Int × Int))  (hK : Keeps z0 s) :
    Keeps z0 (State.decDeliver s w stamp g xs) := by
  unfold State.decDeliver
  try dsimp only
  repeat' (first | with_reducible assumption | with_reducible apply State.toLanes_keeps | with_reducible apply State.useFresh_keeps | with_reducible apply State.setAx_keeps | with_reducible apply keeps_ite | with_reducible apply keeps_foldl | with_reducible apply keeps_fold_fst | fail_if_no_progress (with_reducible apply keeps_other) | with_reducible apply keeps_dropRegs | with_reducible apply keeps_dropMem | with_reducible apply keeps_dropBoth | (intro _; intros) | (refine keeps_of_some (by with_reducible assumption) ?_) | (refine keeps_of_fst (by with_reducible assumption) ?_) | split)

theorem State.givePad_keeps {z0 : State} {s : State} (w : Nat) (c : Coded)  (hK : Keeps z0 s) :
    Keeps z0 (State.givePad s w c) := by
  unfold State.givePad
  try dsimp only
  repeat' (first | with_reducible assumption | with_reducible apply State.stage_keeps | with_reducible apply State.giveCoded_keeps | with_reducible apply keeps_ite | with_reducible apply keeps_foldl | fail_if_no_progress (with_reducible apply keeps_other) | with_reducible apply keeps_dropRegs | with_reducible apply keeps_dropMem | with_reducible apply keeps_dropBoth | (intro _; intros) | (refine keeps_of_some (by with_reducible assumption) ?_) | (refine keeps_of_fst (by with_reducible assumption) ?_) | split)

theorem State.decodeUnit_keeps {z0 : State} {s0 : State} (w : Nat) (u : AccessUnit) (c : Coded)  (hK : Keeps z0 s0) :
    Keeps z0 (State.decodeUnit s0 w u c) := by
  unfold State.decodeUnit
  try dsimp only
  repeat' (first | with_reducible assumption | with_reducible apply State.givePad_keeps | with_reducible apply State.decDeliver_keeps | with_reducible apply State.decodedFrames_keeps | with_reducible apply State.decGood_keeps | with_reducible apply State.decBad_keeps | with_reducible apply State.dropCoded_keeps | with_reducible apply State.placeRec_keeps | with_reducible apply State.setErr_keeps | with_reducible apply State.syncReset_keeps | with_reducible apply State.setValid_keeps | with_reducible apply State.count_keeps | with_reducible apply State.raiseKind_keeps | with_reducible apply State.setHs_keeps | with_reducible apply State.put_keeps | with_reducible apply keeps_ite | with_reducible apply keeps_foldl | fail_if_no_progress (with_reducible apply keeps_other) | with_reducible apply keeps_dropRegs | with_reducible apply keeps_dropMem | with_reducible apply keeps_dropBoth | (intro _; intros) | (refine keeps_of_some (by with_reducible assumption) ?_) | (refine keeps_of_fst (by with_reducible assumption) ?_) | split)

theorem State.accessUnit_keeps {z0 : State} {s : State} (w : Nat) (u : AccessUnit)  (hK : Keeps z0 s) :
    Keeps z0 (State.accessUnit s w u) := by
  unfold State.accessUnit
  try dsimp only
  repeat' (first | with_reducible assumption | with_reducible apply State.decodeUnit_keeps | with_reducible apply keeps_ite | with_reducible apply keeps_foldl | fail_if_no_progress (with_reducible apply keeps_other) | with_reducible apply keeps_dropRegs | with_reducible apply keeps_dropMem | with_reducible apply keeps_dropBoth | (intro _; intros) | (refine keeps_of_some (by with_reducible assumption) ?_) | (refine keeps_of_fst (by with_reducible assumption) ?_) | split)

theorem State.startXfade_keeps {z0 : State} {s : State} (n : Nat) (len : Nat)  (hK : Keeps z0 s) :
    Keeps z0 (State.startXfade s n len) := by
  unfold State.startXfade
  try dsimp only
  repeat' (first | with_reducible assumption | with_reducible apply State.setAx_keeps | with_reducible apply State.put_keeps | with_reducible apply keeps_ite | with_reducible apply keeps_foldl | fail_if_no_progress (with_reducible apply keeps_other) | with_reducible apply keeps_dropRegs | with_reducible apply keeps_dropMem | with_reducible apply keeps_dropBoth | (intro _; intros) | (refine keeps_of_some (by with_reducible assumption) ?_) | (refine keeps_of_fst (by with_reducible assumption) ?_) | split)

theorem State.serveSelect_keeps {z0 : State} {s : State} (n : Nat)  (hK : Keeps z0 s) :
    Keeps z0 (State.serveSelect s n) := by
  unfold State.serveSelect
  try dsimp only
  repeat' (first | with_reducible assumption | with_reducible apply State.startXfade_keeps | with_reducible apply State.put_keeps | with_reducible apply keeps_ite | with_reducible apply keeps_foldl | fail_if_no_progress (with_reducible apply keeps_other) | with_reducible apply keeps_dropRegs | with_reducible apply keeps_dropMem | with_reducible apply keeps_dropBoth | (intro _; intros) | (refine keeps_of_some (by with_reducible assumption) ?_) | (refine keeps_of_fst (by with_reducible assumption) ?_) | split)

theorem State.writeSelect_keeps {z0 : State} {s : State} (m : Nat) (n : Nat) (v : Word)  (hK : Keeps z0 s) :
    Keeps z0 (State.writeSelect s m n v) := by
  unfold State.writeSelect
  try dsimp only
  repeat' (first | with_reducible assumption | with_reducible apply State.serveSelect_keeps | with_reducible apply State.store_keeps | with_reducible apply State.guarded_keeps | with_reducible apply keeps_ite | with_reducible apply keeps_foldl | fail_if_no_progress (with_reducible apply keeps_other) | with_reducible apply keeps_dropRegs | with_reducible apply keeps_dropMem | with_reducible apply keeps_dropBoth | (intro _; intros) | (refine keeps_of_some (by with_reducible assumption) ?_) | (refine keeps_of_fst (by with_reducible assumption) ?_) | split)

theorem execLaneSelect_keeps {z0 : State} (m : Master) (n : Fin 32) (v : Word) {s : State}  (hK : Keeps z0 s) :
    KeepsOut z0 (execLaneSelect m n v s) := by
  unfold execLaneSelect
  try dsimp only
  repeat' (first | with_reducible assumption | with_reducible apply State.writeSelect_keeps | with_reducible apply keeps_ite | with_reducible apply keeps_foldl | with_reducible apply keepsOut_next | with_reducible apply keepsOut_ite | fail_if_no_progress (with_reducible apply keeps_other) | with_reducible apply keeps_dropRegs | with_reducible apply keeps_dropMem | with_reducible apply keeps_dropBoth | (intro _; intros) | (refine keeps_of_some (by with_reducible assumption) ?_) | (refine keeps_of_fst (by with_reducible assumption) ?_) | split)

theorem execSelectPendingTakes_keeps {z0 : State} (n : Fin 32) {s : State}  (hK : Keeps z0 s) :
    KeepsOut z0 (execSelectPendingTakes n s) := by
  unfold execSelectPendingTakes
  try dsimp only
  repeat' (first | with_reducible assumption | with_reducible apply State.serveSelect_keeps | with_reducible apply keeps_ite | with_reducible apply keeps_foldl | with_reducible apply keepsOut_next | with_reducible apply keepsOut_ite | fail_if_no_progress (with_reducible apply keeps_other) | with_reducible apply keeps_dropRegs | with_reducible apply keeps_dropMem | with_reducible apply keeps_dropBoth | (intro _; intros) | (refine keeps_of_some (by with_reducible assumption) ?_) | (refine keeps_of_fst (by with_reducible assumption) ?_) | split)

theorem State.gainWritten_keeps {z0 : State} {s : State} (w : Nat) (v : Word)  (hK : Keeps z0 s) :
    Keeps z0 (State.gainWritten s w v) := by
  unfold State.gainWritten
  try dsimp only
  repeat' (first | with_reducible assumption | with_reducible apply State.store_keeps | with_reducible apply State.rampIn_keeps | with_reducible apply keeps_ite | with_reducible apply keeps_foldl | fail_if_no_progress (with_reducible apply keeps_other) | with_reducible apply keeps_dropRegs | with_reducible apply keeps_dropMem | with_reducible apply keeps_dropBoth | (intro _; intros) | (refine keeps_of_some (by with_reducible assumption) ?_) | (refine keeps_of_fst (by with_reducible assumption) ?_) | split)

theorem execGainWrite_keeps {z0 : State} (m : Master) (n : Fin 32) (v : Word) {s : State}  (hK : Keeps z0 s) :
    KeepsOut z0 (execGainWrite m n v s) := by
  unfold execGainWrite
  try dsimp only
  repeat' (first | with_reducible assumption | with_reducible apply State.gainWritten_keeps | with_reducible apply State.guarded_keeps | with_reducible apply keeps_ite | with_reducible apply keeps_foldl | with_reducible apply keepsOut_next | with_reducible apply keepsOut_ite | fail_if_no_progress (with_reducible apply keeps_other) | with_reducible apply keeps_dropRegs | with_reducible apply keeps_dropMem | with_reducible apply keeps_dropBoth | (intro _; intros) | (refine keeps_of_some (by with_reducible assumption) ?_) | (refine keeps_of_fst (by with_reducible assumption) ?_) | split)

theorem State.rampStep_keeps {z0 : State} {s : State} (w : Nat)  (hK : Keeps z0 s) :
    Keeps z0 (State.rampStep s w) := by
  unfold State.rampStep
  try dsimp only
  repeat' (first | with_reducible assumption | with_reducible apply State.setAx_keeps | with_reducible apply State.put_keeps | with_reducible apply keeps_ite | with_reducible apply keeps_foldl | fail_if_no_progress (with_reducible apply keeps_other) | with_reducible apply keeps_dropRegs | with_reducible apply keeps_dropMem | with_reducible apply keeps_dropBoth | (intro _; intros) | (refine keeps_of_some (by with_reducible assumption) ?_) | (refine keeps_of_fst (by with_reducible assumption) ?_) | split)

theorem State.laneNoteLost_keeps {z0 : State} {s : State} (w : Nat) (old : State)  (hK : Keeps z0 s) :
    Keeps z0 (State.laneNoteLost s w old) := by
  unfold State.laneNoteLost
  try dsimp only
  repeat' (first | with_reducible assumption | with_reducible apply State.raiseKind_keeps | with_reducible apply keeps_ite | with_reducible apply keeps_foldl | fail_if_no_progress (with_reducible apply keeps_other) | with_reducible apply keeps_dropRegs | with_reducible apply keeps_dropMem | with_reducible apply keeps_dropBoth | (intro _; intros) | (refine keeps_of_some (by with_reducible assumption) ?_) | (refine keeps_of_fst (by with_reducible assumption) ?_) | split)

theorem State.laneSense_keeps {z0 : State} {s : State} (n : Nat) (v0 : Bool) (v1 : Bool)  (hK : Keeps z0 s) :
    Keeps z0 (State.laneSense s n v0 v1) := by
  unfold State.laneSense
  try dsimp only
  repeat' (first | with_reducible assumption | with_reducible apply State.laneNoteLost_keeps | with_reducible apply State.setValid_keeps | with_reducible apply State.putB_keeps | with_reducible apply keeps_ite | with_reducible apply keeps_foldl | fail_if_no_progress (with_reducible apply keeps_other) | with_reducible apply keeps_dropRegs | with_reducible apply keeps_dropMem | with_reducible apply keeps_dropBoth | (intro _; intros) | (refine keeps_of_some (by with_reducible assumption) ?_) | (refine keeps_of_fst (by with_reducible assumption) ?_) | split)

theorem State.laneGain_keeps {z0 : State} {s : State} (w : Nat) (x : Int × Int)  (hK : Keeps z0 s) :
    Keeps z0 (State.laneGain s w x) := by
  unfold State.laneGain
  try dsimp only
  repeat' (first | with_reducible assumption | with_reducible apply State.rampStep_keeps | with_reducible apply State.countN_keeps | with_reducible apply State.raiseKind_keeps | with_reducible apply State.setHs_keeps | with_reducible apply keeps_ite | with_reducible apply keeps_foldl | with_reducible apply keepsOut_next | with_reducible apply keepsOut_ite | fail_if_no_progress (with_reducible apply keeps_other) | with_reducible apply keeps_dropRegs | with_reducible apply keeps_dropMem | with_reducible apply keeps_dropBoth | (intro _; intros) | (refine keeps_of_some (by with_reducible assumption) ?_) | (refine keeps_of_fst (by with_reducible assumption) ?_) | split)

theorem State.hostDone_keeps {z0 : State} {s : State} (q : Nat)  (hK : Keeps z0 s) :
    Keeps z0 (State.hostDone s q) := by
  unfold State.hostDone
  try dsimp only
  repeat' (first | with_reducible assumption | with_reducible apply State.retireDone_keeps | with_reducible apply State.setBl_keeps | with_reducible apply keeps_ite | with_reducible apply keeps_foldl | fail_if_no_progress (with_reducible apply keeps_other) | with_reducible apply keeps_dropRegs | with_reducible apply keeps_dropMem | with_reducible apply keeps_dropBoth | (intro _; intros) | (refine keeps_of_some (by with_reducible assumption) ?_) | (refine keeps_of_fst (by with_reducible assumption) ?_) | split)

theorem State.hostPlay_keeps {z0 : State} {s : State} (w : Nat) (i : Nat)  (hK : Keeps z0 s) :
    Keeps z0 (State.hostPlay s w i) := by
  unfold State.hostPlay
  try dsimp only
  repeat' (first | with_reducible assumption | with_reducible apply State.setAx_keeps | with_reducible apply keeps_ite | with_reducible apply keeps_foldl | fail_if_no_progress (with_reducible apply keeps_other) | with_reducible apply keeps_dropRegs | with_reducible apply keeps_dropMem | with_reducible apply keeps_dropBoth | (intro _; intros) | (refine keeps_of_some (by with_reducible assumption) ?_) | (refine keeps_of_fst (by with_reducible assumption) ?_) | split)

theorem State.hostEnd_keeps {z0 : State} {s : State} (n : Nat) (i : Nat)  (hK : Keeps z0 s) :
    Keeps z0 (State.hostEnd s n i) := by
  unfold State.hostEnd
  try dsimp only
  repeat' (first | with_reducible assumption | with_reducible apply State.serveSelect_keeps | with_reducible apply State.setAx_keeps | with_reducible apply State.put_keeps | with_reducible apply keeps_ite | with_reducible apply keeps_foldl | fail_if_no_progress (with_reducible apply keeps_other) | with_reducible apply keeps_dropRegs | with_reducible apply keeps_dropMem | with_reducible apply keeps_dropBoth | (intro _; intros) | (refine keeps_of_some (by with_reducible assumption) ?_) | (refine keeps_of_fst (by with_reducible assumption) ?_) | split)

theorem State.hostTake_keeps {z0 : State} {s : State} (n : Nat) (i : Nat)  (hK : Keeps z0 s) :
    Keeps z0 (State.hostTake s n i) := by
  unfold State.hostTake
  try dsimp only
  repeat' (first | with_reducible assumption | with_reducible apply State.hostEnd_keeps | with_reducible apply State.hostPlay_keeps | with_reducible apply State.hostDone_keeps | with_reducible apply State.setErr_keeps | with_reducible apply State.count_keeps | with_reducible apply State.setBl_keeps | with_reducible apply State.setAx_keeps | with_reducible apply keeps_ite | with_reducible apply keeps_foldl | fail_if_no_progress (with_reducible apply keeps_other) | with_reducible apply keeps_dropRegs | with_reducible apply keeps_dropMem | with_reducible apply keeps_dropBoth | (intro _; intros) | (refine keeps_of_some (by with_reducible assumption) ?_) | (refine keeps_of_fst (by with_reducible assumption) ?_) | split)

theorem execHostPcmDescriptor_keeps {z0 : State} (n : Fin 32) (i : Fin 2) {s : State}  (hK : Keeps z0 s) :
    KeepsOut z0 (execHostPcmDescriptor n i s) := by
  unfold execHostPcmDescriptor
  try dsimp only
  repeat' (first | with_reducible assumption | with_reducible apply State.hostTake_keeps | with_reducible apply keeps_ite | with_reducible apply keeps_foldl | with_reducible apply keepsOut_next | with_reducible apply keepsOut_ite | fail_if_no_progress (with_reducible apply keeps_other) | with_reducible apply keeps_dropRegs | with_reducible apply keeps_dropMem | with_reducible apply keeps_dropBoth | (intro _; intros) | (refine keeps_of_some (by with_reducible assumption) ?_) | (refine keeps_of_fst (by with_reducible assumption) ?_) | split)

theorem State.advanceLow_keeps {z0 : State} {s : State} (t : Word)  (hK : Keeps z0 s) :
    Keeps z0 (State.advanceLow s t) := by
  unfold State.advanceLow
  try dsimp only
  repeat' (first | with_reducible assumption | with_reducible apply State.advanceTo_keeps | with_reducible apply keeps_ite | with_reducible apply keeps_foldl | fail_if_no_progress (with_reducible apply keeps_other) | with_reducible apply keeps_dropRegs | with_reducible apply keeps_dropMem | with_reducible apply keeps_dropBoth | (intro _; intros) | (refine keeps_of_some (by with_reducible assumption) ?_) | (refine keeps_of_fst (by with_reducible assumption) ?_) | split)

theorem execHostPcmMarkStart_keeps {z0 : State} (n : Fin 32) (i : Fin 2) {s : State}  (hK : Keeps z0 s) :
    KeepsOut z0 (execHostPcmMarkStart n i s) := by
  unfold execHostPcmMarkStart
  try dsimp only
  repeat' (first | with_reducible assumption | with_reducible apply State.advanceLow_keeps | with_reducible apply State.hostPlay_keeps | with_reducible apply keeps_ite | with_reducible apply keeps_foldl | with_reducible apply keepsOut_next | with_reducible apply keepsOut_ite | fail_if_no_progress (with_reducible apply keeps_other) | with_reducible apply keeps_dropRegs | with_reducible apply keeps_dropMem | with_reducible apply keeps_dropBoth | (intro _; intros) | (refine keeps_of_some (by with_reducible assumption) ?_) | (refine keeps_of_fst (by with_reducible assumption) ?_) | split)

theorem State.hostUnderrun_keeps {z0 : State} {s : State} (w : Nat) (i : Nat)  (hK : Keeps z0 s) :
    Keeps z0 (State.hostUnderrun s w i) := by
  unfold State.hostUnderrun
  try dsimp only
  repeat' (first | with_reducible assumption | with_reducible apply State.count_keeps | with_reducible apply State.raiseKind_keeps | with_reducible apply State.setAx_keeps | with_reducible apply keeps_ite | with_reducible apply keeps_foldl | fail_if_no_progress (with_reducible apply keeps_other) | with_reducible apply keeps_dropRegs | with_reducible apply keeps_dropMem | with_reducible apply keeps_dropBoth | (intro _; intros) | (refine keeps_of_some (by with_reducible assumption) ?_) | (refine keeps_of_fst (by with_reducible assumption) ?_) | split)

theorem execHostUnderrun_keeps {z0 : State} (n : Fin 32) (i : Fin 2) {s : State}  (hK : Keeps z0 s) :
    KeepsOut z0 (execHostUnderrun n i s) := by
  unfold execHostUnderrun
  try dsimp only
  repeat' (first | with_reducible assumption | with_reducible apply State.hostUnderrun_keeps | with_reducible apply keeps_ite | with_reducible apply keeps_foldl | with_reducible apply keepsOut_next | with_reducible apply keepsOut_ite | fail_if_no_progress (with_reducible apply keeps_other) | with_reducible apply keeps_dropRegs | with_reducible apply keeps_dropMem | with_reducible apply keeps_dropBoth | (intro _; intros) | (refine keeps_of_some (by with_reducible assumption) ?_) | (refine keeps_of_fst (by with_reducible assumption) ?_) | split)

theorem State.hostFrame_keeps {z0 : State} {s : State} (q : Nat) (k : Word)  (hK : Keeps z0 s) :
    Keeps z0 (State.hostFrame s q k).1 := by
  unfold State.hostFrame
  try dsimp only
  repeat' (first | with_reducible assumption | with_reducible apply State.setAx_keeps | with_reducible apply keeps_ite | with_reducible apply keeps_foldl | fail_if_no_progress (with_reducible apply keeps_other) | with_reducible apply keeps_dropRegs | with_reducible apply keeps_dropMem | with_reducible apply keeps_dropBoth | (intro _; intros) | (refine keeps_of_some (by with_reducible assumption) ?_) | (refine keeps_of_fst (by with_reducible assumption) ?_) | split)

theorem State.hostSample_keeps {z0 : State} {s0 : State} (n : Nat) (i : Nat)  (hK : Keeps z0 s0) :
    Keeps z0 (State.hostSample s0 n i).1 := by
  unfold State.hostSample
  try dsimp only
  repeat' (first | with_reducible assumption | with_reducible apply State.hostFrame_keeps | with_reducible apply State.hostUnderrun_keeps | with_reducible apply State.hostTake_keeps | with_reducible apply State.retireUsed_keeps | with_reducible apply keeps_ite | with_reducible apply keeps_foldl | fail_if_no_progress (with_reducible apply keeps_other) | with_reducible apply keeps_dropRegs | with_reducible apply keeps_dropMem | with_reducible apply keeps_dropBoth | (intro _; intros) | (refine keeps_of_some (by with_reducible assumption) ?_) | (refine keeps_of_fst (by with_reducible assumption) ?_) | split)

theorem State.asrcReacquire_keeps {z0 : State} {s : State} (w : Nat)  (hK : Keeps z0 s) :
    Keeps z0 (State.asrcReacquire s w) := by
  unfold State.asrcReacquire
  try dsimp only
  repeat' (first | with_reducible assumption | with_reducible apply State.count_keeps | with_reducible apply State.setAx_keeps | with_reducible apply State.put_keeps | with_reducible apply keeps_ite | with_reducible apply keeps_foldl | fail_if_no_progress (with_reducible apply keeps_other) | with_reducible apply keeps_dropRegs | with_reducible apply keeps_dropMem | with_reducible apply keeps_dropBoth | (intro _; intros) | (refine keeps_of_some (by with_reducible assumption) ?_) | (refine keeps_of_fst (by with_reducible assumption) ?_) | split)

theorem State.asrcLimit_keeps {z0 : State} {s : State} (w : Nat)  (hK : Keeps z0 s) :
    Keeps z0 (State.asrcLimit s w) := by
  unfold State.asrcLimit
  try dsimp only
  repeat' (first | with_reducible assumption | with_reducible apply State.asrcReacquire_keeps | with_reducible apply State.setErr_keeps | with_reducible apply keeps_ite | with_reducible apply keeps_foldl | fail_if_no_progress (with_reducible apply keeps_other) | with_reducible apply keeps_dropRegs | with_reducible apply keeps_dropMem | with_reducible apply keeps_dropBoth | (intro _; intros) | (refine keeps_of_some (by with_reducible assumption) ?_) | (refine keeps_of_fst (by with_reducible assumption) ?_) | split)

theorem State.asrcRamp_keeps {z0 : State} {s : State} (w : Nat)  (hK : Keeps z0 s) :
    Keeps z0 (State.asrcRamp s w) := by
  unfold State.asrcRamp
  try dsimp only
  repeat' (first | with_reducible assumption | with_reducible apply State.asrcMode_keeps | with_reducible apply State.asrcFlush_keeps | with_reducible apply State.setAx_keeps | with_reducible apply State.put_keeps | with_reducible apply keeps_ite | with_reducible apply keeps_foldl | fail_if_no_progress (with_reducible apply keeps_other) | with_reducible apply keeps_dropRegs | with_reducible apply keeps_dropMem | with_reducible apply keeps_dropBoth | (intro _; intros) | (refine keeps_of_some (by with_reducible assumption) ?_) | (refine keeps_of_fst (by with_reducible assumption) ?_) | split)

theorem State.asrcReacquired_keeps {z0 : State} {s : State} (w : Nat)  (hK : Keeps z0 s) :
    Keeps z0 (State.asrcReacquired s w) := by
  unfold State.asrcReacquired
  try dsimp only
  repeat' (first | with_reducible assumption | with_reducible apply State.asrcMode_keeps | with_reducible apply State.raiseKind_keeps | with_reducible apply State.setAx_keeps | with_reducible apply keeps_ite | with_reducible apply keeps_foldl | fail_if_no_progress (with_reducible apply keeps_other) | with_reducible apply keeps_dropRegs | with_reducible apply keeps_dropMem | with_reducible apply keeps_dropBoth | (intro _; intros) | (refine keeps_of_some (by with_reducible assumption) ?_) | (refine keeps_of_fst (by with_reducible assumption) ?_) | split)

theorem State.asrcTake_keeps {z0 : State} {s : State} (w : Nat) (k : Nat)  (hK : Keeps z0 s) :
    Keeps z0 (State.asrcTake s w k) := by
  unfold State.asrcTake
  try dsimp only
  repeat' (first | with_reducible assumption | with_reducible apply State.bump_keeps | with_reducible apply State.setHs_keeps | with_reducible apply State.put_keeps | with_reducible apply keeps_ite | with_reducible apply keeps_foldl | fail_if_no_progress (with_reducible apply keeps_other) | with_reducible apply keeps_dropRegs | with_reducible apply keeps_dropMem | with_reducible apply keeps_dropBoth | (intro _; intros) | (refine keeps_of_some (by with_reducible assumption) ?_) | (refine keeps_of_fst (by with_reducible assumption) ?_) | split)

theorem State.asrcFeed_keeps {z0 : State} {s : State} (w : Nat) (x : Int × Int) (stamp : Nat)  (hK : Keeps z0 s) :
    Keeps z0 (State.asrcFeed s w x stamp) := by
  unfold State.asrcFeed
  try dsimp only
  repeat' (first | with_reducible assumption | with_reducible apply State.asrcTake_keeps | with_reducible apply State.asrcLimit_keeps | with_reducible apply State.bump_keeps | with_reducible apply State.count_keeps | with_reducible apply State.setHs_keeps | with_reducible apply State.put_keeps | with_reducible apply keeps_ite | with_reducible apply keeps_foldl | fail_if_no_progress (with_reducible apply keeps_other) | with_reducible apply keeps_dropRegs | with_reducible apply keeps_dropMem | with_reducible apply keeps_dropBoth | (intro _; intros) | (refine keeps_of_some (by with_reducible assumption) ?_) | (refine keeps_of_fst (by with_reducible assumption) ?_) | split)

theorem State.asrcRetire_keeps {z0 : State} {s : State} (w : Nat) (k : Nat)  (hK : Keeps z0 s) :
    Keeps z0 (State.asrcRetire s w k) := by
  unfold State.asrcRetire
  try dsimp only
  repeat' (first | with_reducible assumption | with_reducible apply State.asrcTake_keeps | with_reducible apply State.asrcLimit_keeps | with_reducible apply keeps_ite | with_reducible apply keeps_foldl | fail_if_no_progress (with_reducible apply keeps_other) | with_reducible apply keeps_dropRegs | with_reducible apply keeps_dropMem | with_reducible apply keeps_dropBoth | (intro _; intros) | (refine keeps_of_some (by with_reducible assumption) ?_) | (refine keeps_of_fst (by with_reducible assumption) ?_) | split)

theorem State.asrcTrack_keeps {z0 : State} {s : State} (w : Nat) (period : Nat)  (hK : Keeps z0 s) :
    Keeps z0 (State.asrcTrack s w period) := by
  unfold State.asrcTrack
  try dsimp only
  repeat' (first | with_reducible assumption | with_reducible apply State.asrcRatio_keeps | with_reducible apply State.raiseKind_keeps | with_reducible apply State.setHs_keeps | with_reducible apply State.setAx_keeps | with_reducible apply keeps_ite | with_reducible apply keeps_foldl | fail_if_no_progress (with_reducible apply keeps_other) | with_reducible apply keeps_dropRegs | with_reducible apply keeps_dropMem | with_reducible apply keeps_dropBoth | (intro _; intros) | (refine keeps_of_some (by with_reducible assumption) ?_) | (refine keeps_of_fst (by with_reducible assumption) ?_) | split)

theorem State.asrcMake_keeps {z0 : State} {s : State} (w : Nat)  (hK : Keeps z0 s) :
    Keeps z0 (State.asrcMake s w).1 := by
  unfold State.asrcMake
  try dsimp only
  repeat' (first | with_reducible assumption | with_reducible apply State.stage_keeps | with_reducible apply State.asrcRetire_keeps | with_reducible apply State.asrcRamp_keeps | with_reducible apply State.useFresh_keeps | with_reducible apply State.setAx_keeps | with_reducible apply keeps_ite | with_reducible apply keeps_foldl | fail_if_no_progress (with_reducible apply keeps_other) | with_reducible apply keeps_dropRegs | with_reducible apply keeps_dropMem | with_reducible apply keeps_dropBoth | (intro _; intros) | (refine keeps_of_some (by with_reducible assumption) ?_) | (refine keeps_of_fst (by with_reducible assumption) ?_) | split)

theorem State.readInCount_keeps {z0 : State} {s : State} (m : Nat) (w : Nat)  (hK : Keeps z0 s) :
    Keeps z0 (State.readInCount s m w) := by
  unfold State.readInCount
  try dsimp only
  repeat' (first | with_reducible assumption | with_reducible apply State.setLatch_keeps | with_reducible apply State.ans_keeps | with_reducible apply keeps_ite | with_reducible apply keeps_foldl | fail_if_no_progress (with_reducible apply keeps_other) | with_reducible apply keeps_dropRegs | with_reducible apply keeps_dropMem | with_reducible apply keeps_dropBoth | (intro _; intros) | (refine keeps_of_some (by with_reducible assumption) ?_) | (refine keeps_of_fst (by with_reducible assumption) ?_) | split)

theorem execAsrcInCountRead_keeps {z0 : State} (m : Master) (n : Fin 32) {s : State}  (hK : Keeps z0 s) :
    KeepsOut z0 (execAsrcInCountRead m n s) := by
  unfold execAsrcInCountRead
  try dsimp only
  repeat' (first | with_reducible assumption | with_reducible apply State.readInCount_keeps | with_reducible apply keeps_ite | with_reducible apply keeps_foldl | with_reducible apply keepsOut_next | with_reducible apply keepsOut_ite | fail_if_no_progress (with_reducible apply keeps_other) | with_reducible apply keeps_dropRegs | with_reducible apply keeps_dropMem | with_reducible apply keeps_dropBoth | (intro _; intros) | (refine keeps_of_some (by with_reducible assumption) ?_) | (refine keeps_of_fst (by with_reducible assumption) ?_) | split)

theorem State.laneTake_keeps {z0 : State} {s : State} (n : Nat) (i : Nat)  (hK : Keeps z0 s) :
    Keeps z0 (State.laneTake s n i).1 := by
  unfold State.laneTake
  try dsimp only
  repeat' (first | with_reducible assumption | with_reducible apply State.hostSample_keeps | with_reducible apply State.setHs_keeps | with_reducible apply keeps_ite | with_reducible apply keeps_foldl | fail_if_no_progress (with_reducible apply keeps_other) | with_reducible apply keeps_dropRegs | with_reducible apply keeps_dropMem | with_reducible apply keeps_dropBoth | (intro _; intros) | (refine keeps_of_some (by with_reducible assumption) ?_) | (refine keeps_of_fst (by with_reducible assumption) ?_) | split)

theorem State.laneDelayed_keeps {z0 : State} {s : State} (n : Nat) (i : Nat) (x : Int × Int) (v : Bool) (stamp : Nat)  (hK : Keeps z0 s) :
    Keeps z0 (State.laneDelayed s n i x v stamp).1 := by
  unfold State.laneDelayed
  try dsimp only
  repeat' (first | with_reducible assumption | with_reducible apply State.setHs_keeps | with_reducible apply keeps_ite | with_reducible apply keeps_foldl | fail_if_no_progress (with_reducible apply keeps_other) | with_reducible apply keeps_dropRegs | with_reducible apply keeps_dropMem | with_reducible apply keeps_dropBoth | (intro _; intros) | (refine keeps_of_some (by with_reducible assumption) ?_) | (refine keeps_of_fst (by with_reducible assumption) ?_) | split)

theorem State.followHear_keeps {z0 : State} {s : State} (n : Nat) (a : Int × Int) (b : Int × Int)  (hK : Keeps z0 s) :
    Keeps z0 (State.followHear s n a b) := by
  unfold State.followHear
  try dsimp only
  repeat' (first | with_reducible assumption | with_reducible apply State.setHs_keeps | with_reducible apply State.setAx_keeps | with_reducible apply keeps_ite | with_reducible apply keeps_foldl | fail_if_no_progress (with_reducible apply keeps_other) | with_reducible apply keeps_dropRegs | with_reducible apply keeps_dropMem | with_reducible apply keeps_dropBoth | (intro _; intros) | (refine keeps_of_some (by with_reducible assumption) ?_) | (refine keeps_of_fst (by with_reducible assumption) ?_) | split)

theorem State.laneFront_keeps {z0 : State} {s0 : State} (n : Nat)  (hK : Keeps z0 s0) :
    Keeps z0 (State.laneFront s0 n) := by
  unfold State.laneFront
  try dsimp only
  repeat' (first | with_reducible assumption | with_reducible apply State.followHear_keeps | with_reducible apply State.laneDelayed_keeps | with_reducible apply State.laneTake_keeps | with_reducible apply State.laneSense_keeps | with_reducible apply State.setHs_keeps | with_reducible apply State.setAx_keeps | with_reducible apply keeps_ite | with_reducible apply keeps_foldl | with_reducible apply keepsOpt_getD | fail_if_no_progress (with_reducible apply keeps_other) | with_reducible apply keeps_dropRegs | with_reducible apply keeps_dropMem | with_reducible apply keeps_dropBoth | (intro _; intros) | (refine keeps_of_some (by with_reducible assumption) ?_) | (refine keeps_of_fst (by with_reducible assumption) ?_) | split)

theorem State.laneFilter_keeps {z0 : State} {s : State} (n : Nat)  (hK : Keeps z0 s) :
    Keeps z0 (State.laneFilter s n) := by
  unfold State.laneFilter
  try dsimp only
  repeat' (first | with_reducible assumption | with_reducible apply State.detSample_keeps | with_reducible apply State.filterOut_keeps | with_reducible apply State.setHs_keeps | with_reducible apply State.setAx_keeps | with_reducible apply keeps_ite | with_reducible apply keeps_foldl | with_reducible apply keepsOut_next | with_reducible apply keepsOut_ite | with_reducible apply keepsOpt_getD | fail_if_no_progress (with_reducible apply keeps_other) | with_reducible apply keeps_dropRegs | with_reducible apply keeps_dropMem | with_reducible apply keeps_dropBoth | (intro _; intros) | (refine keeps_of_some (by with_reducible assumption) ?_) | (refine keeps_of_fst (by with_reducible assumption) ?_) | split)

theorem State.laneSample_keeps {z0 : State} {s : State} (n : Nat)  (hK : Keeps z0 s) :
    Keeps z0 (State.laneSample s n) := by
  unfold State.laneSample
  try dsimp only
  repeat' (first | with_reducible assumption | with_reducible apply State.laneFilter_keeps | with_reducible apply State.laneFront_keeps | with_reducible apply State.asrcFeed_keeps | with_reducible apply State.laneGain_keeps | with_reducible apply State.useFresh_keeps | with_reducible apply State.setHs_keeps | with_reducible apply keeps_ite | with_reducible apply keeps_foldl | with_reducible apply keepsOut_next | with_reducible apply keepsOut_ite | with_reducible apply keepsOpt_getD | fail_if_no_progress (with_reducible apply keeps_other) | with_reducible apply keeps_dropRegs | with_reducible apply keeps_dropMem | with_reducible apply keeps_dropBoth | (intro _; intros) | (refine keeps_of_some (by with_reducible assumption) ?_) | (refine keeps_of_fst (by with_reducible assumption) ?_) | split)

theorem State.channelOut_keeps {z0 : State} {s : State} (w : Nat)  (hK : Keeps z0 s) :
    Keeps z0 (State.channelOut s w) := by
  unfold State.channelOut
  try dsimp only
  repeat' (first | with_reducible assumption | with_reducible apply State.ofdmSample_keeps | with_reducible apply State.amSample_keeps | with_reducible apply State.fmSample_keeps | with_reducible apply State.iqSample_keeps | with_reducible apply keeps_ite | with_reducible apply keeps_foldl | with_reducible apply keepsOut_next | with_reducible apply keepsOut_ite | with_reducible apply keepsOpt_getD | fail_if_no_progress (with_reducible apply keeps_other) | with_reducible apply keeps_dropRegs | with_reducible apply keeps_dropMem | with_reducible apply keeps_dropBoth | (intro _; intros) | (refine keeps_of_some (by with_reducible assumption) ?_) | (refine keeps_of_fst (by with_reducible assumption) ?_) | split)

theorem State.filterOutput_keeps {z0 : State} {s : State} (w : Nat) (xs : List (Int × Int)) (ys : List (Int × Int))  (hK : Keeps z0 s) :
    Keeps z0 (State.filterOutput s w xs ys) := by
  unfold State.filterOutput
  try dsimp only
  repeat' (first | with_reducible assumption | with_reducible apply State.channelOut_keeps | with_reducible apply State.laneFilter_keeps | with_reducible apply State.laneFront_keeps | with_reducible apply State.chanOut_keeps | with_reducible apply State.ddcOut_keeps | with_reducible apply keeps_ite | with_reducible apply keeps_foldl | with_reducible apply keepsOut_next | with_reducible apply keepsOut_ite | fail_if_no_progress (with_reducible apply keeps_other) | with_reducible apply keeps_dropRegs | with_reducible apply keeps_dropMem | with_reducible apply keeps_dropBoth | (intro _; intros) | (refine keeps_of_some (by with_reducible assumption) ?_) | (refine keeps_of_fst (by with_reducible assumption) ?_) | split)

theorem State.portCfgWritten_keeps {z0 : State} {s : State} (w : Nat) (v : Word)  (hK : Keeps z0 s) :
    Keeps z0 (State.portCfgWritten s w v) := by
  unfold State.portCfgWritten
  try dsimp only
  repeat' (first | with_reducible assumption | with_reducible apply State.store_keeps | with_reducible apply State.asrcMode_keeps | with_reducible apply keeps_ite | with_reducible apply keeps_foldl | fail_if_no_progress (with_reducible apply keeps_other) | with_reducible apply keeps_dropRegs | with_reducible apply keeps_dropMem | with_reducible apply keeps_dropBoth | (intro _; intros) | (refine keeps_of_some (by with_reducible assumption) ?_) | (refine keeps_of_fst (by with_reducible assumption) ?_) | split)

theorem State.frameEpoch_keeps {z0 : State} {s : State} (w : Nat) (e : BitVec 64)  (hK : Keeps z0 s) :
    Keeps z0 (State.frameEpoch s w e) := by
  unfold State.frameEpoch
  try dsimp only
  repeat' (first | with_reducible assumption | with_reducible apply State.wr_keeps | with_reducible apply keeps_ite | with_reducible apply keeps_foldl | fail_if_no_progress (with_reducible apply keeps_other) | with_reducible apply keeps_dropRegs | with_reducible apply keeps_dropMem | with_reducible apply keeps_dropBoth | (intro _; intros) | (refine keeps_of_some (by with_reducible assumption) ?_) | (refine keeps_of_fst (by with_reducible assumption) ?_) | split)

theorem State.portStart_keeps {z0 : State} {s : State} (w : Nat) (e : BitVec 64)  (hK : Keeps z0 s) :
    Keeps z0 (State.portStart s w e) := by
  unfold State.portStart
  try dsimp only
  repeat' (first | with_reducible assumption | with_reducible apply State.zcArm_keeps | with_reducible apply State.raiseKind_keeps | with_reducible apply State.setAx_keeps | with_reducible apply State.put_keeps | with_reducible apply State.wr_keeps | with_reducible apply keeps_ite | with_reducible apply keeps_foldl | fail_if_no_progress (with_reducible apply keeps_other) | with_reducible apply keeps_dropRegs | with_reducible apply keeps_dropMem | with_reducible apply keeps_dropBoth | (intro _; intros) | (refine keeps_of_some (by with_reducible assumption) ?_) | (refine keeps_of_fst (by with_reducible assumption) ?_) | split)

theorem State.tapCommit_keeps {z0 : State} {s : State} (w : Nat)  (hK : Keeps z0 s) :
    Keeps z0 (State.tapCommit s w) := by
  unfold State.tapCommit
  try dsimp only
  repeat' (first | with_reducible assumption | with_reducible apply State.placeRec_keeps | with_reducible apply State.tapClear_keeps | with_reducible apply State.setAx_keeps | with_reducible apply keeps_ite | with_reducible apply keeps_foldl | with_reducible apply keepsOpt_getD | fail_if_no_progress (with_reducible apply keeps_other) | with_reducible apply keeps_dropRegs | with_reducible apply keeps_dropMem | with_reducible apply keeps_dropBoth | (intro _; intros) | (refine keeps_of_some (by with_reducible assumption) ?_) | (refine keeps_of_fst (by with_reducible assumption) ?_) | split)

theorem State.tapDrop_keeps {z0 : State} {s : State} (w : Nat) (q : Nat)  (hK : Keeps z0 s) :
    Keeps z0 (State.tapDrop s w q) := by
  unfold State.tapDrop
  try dsimp only
  repeat' (first | with_reducible assumption | with_reducible apply State.count_keeps | with_reducible apply State.raiseKind_keeps | with_reducible apply State.setAx_keeps | with_reducible apply keeps_ite | with_reducible apply keeps_foldl | fail_if_no_progress (with_reducible apply keeps_other) | with_reducible apply keeps_dropRegs | with_reducible apply keeps_dropMem | with_reducible apply keeps_dropBoth | (intro _; intros) | (refine keeps_of_some (by with_reducible assumption) ?_) | (refine keeps_of_fst (by with_reducible assumption) ?_) | split)

theorem State.tapFrame_keeps {z0 : State} {s0 : State} (w : Nat) (e : BitVec 64) (xs : List Int)  (hK : Keeps z0 s0) :
    Keeps z0 (State.tapFrame s0 w e xs) := by
  unfold State.tapFrame
  try dsimp only
  repeat' (first | with_reducible assumption | with_reducible apply State.tapDrop_keeps | with_reducible apply State.tapCommit_keeps | with_reducible apply State.setHs_keeps | with_reducible apply State.setAx_keeps | with_reducible apply keeps_ite | with_reducible apply keeps_foldl | fail_if_no_progress (with_reducible apply keeps_other) | with_reducible apply keeps_dropRegs | with_reducible apply keeps_dropMem | with_reducible apply keeps_dropBoth | (intro _; intros) | (refine keeps_of_some (by with_reducible assumption) ?_) | (refine keeps_of_fst (by with_reducible assumption) ?_) | split)

theorem execTapBlock_keeps {z0 : State} (n : Fin 32) {s : State}  (hK : Keeps z0 s) :
    KeepsOut z0 (execTapBlock n s) := by
  unfold execTapBlock
  try dsimp only
  repeat' (first | with_reducible assumption | with_reducible apply State.tapCommit_keeps | with_reducible apply keeps_ite | with_reducible apply keeps_foldl | with_reducible apply keepsOut_next | with_reducible apply keepsOut_ite | fail_if_no_progress (with_reducible apply keeps_other) | with_reducible apply keeps_dropRegs | with_reducible apply keeps_dropMem | with_reducible apply keeps_dropBoth | (intro _; intros) | (refine keeps_of_some (by with_reducible assumption) ?_) | (refine keeps_of_fst (by with_reducible assumption) ?_) | split)

theorem State.framePeriod_keeps {z0 : State} {s : State} (w : Nat) (period : Nat)  (hK : Keeps z0 s) :
    Keeps z0 (State.framePeriod s w period) := by
  unfold State.framePeriod
  try dsimp only
  repeat' (first | with_reducible assumption | with_reducible apply State.wr_keeps | with_reducible apply keeps_ite | with_reducible apply keeps_foldl | fail_if_no_progress (with_reducible apply keeps_other) | with_reducible apply keeps_dropRegs | with_reducible apply keeps_dropMem | with_reducible apply keeps_dropBoth | (intro _; intros) | (refine keeps_of_some (by with_reducible assumption) ?_) | (refine keeps_of_fst (by with_reducible assumption) ?_) | split)

theorem State.noteClock_keeps {z0 : State} {s : State} (w : Nat) (period : Nat)  (hK : Keeps z0 s) :
    Keeps z0 (State.noteClock s w period) := by
  unfold State.noteClock
  try dsimp only
  repeat' (first | with_reducible assumption | with_reducible apply State.asrcMode_keeps | with_reducible apply State.put_keeps | with_reducible apply keeps_ite | with_reducible apply keeps_foldl | fail_if_no_progress (with_reducible apply keeps_other) | with_reducible apply keeps_dropRegs | with_reducible apply keeps_dropMem | with_reducible apply keeps_dropBoth | (intro _; intros) | (refine keeps_of_some (by with_reducible assumption) ?_) | (refine keeps_of_fst (by with_reducible assumption) ?_) | split)

theorem State.noteUnderrun_keeps {z0 : State} {s : State} (w : Nat) (lack : BitVec 2)  (hK : Keeps z0 s) :
    Keeps z0 (State.noteUnderrun s w lack) := by
  unfold State.noteUnderrun
  try dsimp only
  repeat' (first | with_reducible assumption | with_reducible apply State.zcWait_keeps | with_reducible apply State.count_keeps | with_reducible apply State.raiseKind_keeps | with_reducible apply State.setAx_keeps | with_reducible apply keeps_ite | with_reducible apply keeps_foldl | fail_if_no_progress (with_reducible apply keeps_other) | with_reducible apply keeps_dropRegs | with_reducible apply keeps_dropMem | with_reducible apply keeps_dropBoth | (intro _; intros) | (refine keeps_of_some (by with_reducible assumption) ?_) | (refine keeps_of_fst (by with_reducible assumption) ?_) | split)

theorem State.zcPass_keeps {z0 : State} {s : State} (w : Nat) (i : Nat)  (hK : Keeps z0 s) :
    Keeps z0 (State.zcPass s w i) := by
  unfold State.zcPass
  try dsimp only
  repeat' (first | with_reducible assumption | with_reducible apply State.setAx_keeps | with_reducible apply State.putB_keeps | with_reducible apply keeps_ite | with_reducible apply keeps_foldl | fail_if_no_progress (with_reducible apply keeps_other) | with_reducible apply keeps_dropRegs | with_reducible apply keeps_dropMem | with_reducible apply keeps_dropBoth | (intro _; intros) | (refine keeps_of_some (by with_reducible assumption) ?_) | (refine keeps_of_fst (by with_reducible assumption) ?_) | split)

theorem State.zcFrame_keeps {z0 : State} {s : State} (w : Nat)  (hK : Keeps z0 s) :
    Keeps z0 (State.zcFrame s w) := by
  unfold State.zcFrame
  try dsimp only
  repeat' (first | with_reducible assumption | with_reducible apply State.zcPass_keeps | with_reducible apply State.setAx_keeps | with_reducible apply keeps_ite | with_reducible apply keeps_foldl | fail_if_no_progress (with_reducible apply keeps_other) | with_reducible apply keeps_dropRegs | with_reducible apply keeps_dropMem | with_reducible apply keeps_dropBoth | (intro _; intros) | (refine keeps_of_some (by with_reducible assumption) ?_) | (refine keeps_of_fst (by with_reducible assumption) ?_) | split)

theorem State.rampFrame_keeps {z0 : State} {s : State} (w : Nat)  (hK : Keeps z0 s) :
    Keeps z0 (State.rampFrame s w) := by
  unfold State.rampFrame
  try dsimp only
  repeat' (first | with_reducible assumption | with_reducible apply State.setHs_keeps | with_reducible apply State.setAx_keeps | with_reducible apply keeps_ite | with_reducible apply keeps_foldl | with_reducible apply keepsOut_next | with_reducible apply keepsOut_ite | with_reducible apply keepsOpt_getD | fail_if_no_progress (with_reducible apply keeps_other) | with_reducible apply keeps_dropRegs | with_reducible apply keeps_dropMem | with_reducible apply keeps_dropBoth | (intro _; intros) | (refine keeps_of_some (by with_reducible assumption) ?_) | (refine keeps_of_fst (by with_reducible assumption) ?_) | split)

theorem State.startRamp_keeps {z0 : State} {s : State} (w : Nat) (slot : Nat) (i : Nat)  (hK : Keeps z0 s) :
    Keeps z0 (State.startRamp s w slot i) := by
  unfold State.startRamp
  try dsimp only
  repeat' (first | with_reducible assumption | with_reducible apply State.setHs_keeps | with_reducible apply keeps_ite | with_reducible apply keeps_foldl | fail_if_no_progress (with_reducible apply keeps_other) | with_reducible apply keeps_dropRegs | with_reducible apply keeps_dropMem | with_reducible apply keeps_dropBoth | (intro _; intros) | (refine keeps_of_some (by with_reducible assumption) ?_) | (refine keeps_of_fst (by with_reducible assumption) ?_) | split)

theorem State.portSend_keeps {z0 : State} {s0 : State} (w : Nat) (missing : BitVec 2)  (hK : Keeps z0 s0) :
    Keeps z0 (State.portSend s0 w missing).1 := by
  unfold State.portSend
  try dsimp only
  repeat' (first | with_reducible assumption | with_reducible apply State.rampFrame_keeps | with_reducible apply State.zcFrame_keeps | with_reducible apply State.noteUnderrun_keeps | with_reducible apply State.asrcMake_keeps | with_reducible apply State.asrcTrack_keeps | with_reducible apply State.useFresh_keeps | with_reducible apply State.setHs_keeps | with_reducible apply keeps_ite | with_reducible apply keeps_foldl | with_reducible apply keepsOut_next | with_reducible apply keepsOut_ite | fail_if_no_progress (with_reducible apply keeps_other) | with_reducible apply keeps_dropRegs | with_reducible apply keeps_dropMem | with_reducible apply keeps_dropBoth | (intro _; intros) | (refine keeps_of_some (by with_reducible assumption) ?_) | (refine keeps_of_fst (by with_reducible assumption) ?_) | split)

theorem State.outFrame_keeps {z0 : State} {s : State} (w : Nat) (e : BitVec 64) (missing : BitVec 2)  (hK : Keeps z0 s) :
    Keeps z0 (State.outFrame s w e missing) := by
  unfold State.outFrame
  try dsimp only
  repeat' (first | with_reducible assumption | with_reducible apply State.portSend_keeps | with_reducible apply State.tapFrame_keeps | with_reducible apply State.setAx_keeps | with_reducible apply keeps_ite | with_reducible apply keeps_foldl | fail_if_no_progress (with_reducible apply keeps_other) | with_reducible apply keeps_dropRegs | with_reducible apply keeps_dropMem | with_reducible apply keeps_dropBoth | (intro _; intros) | (refine keeps_of_some (by with_reducible assumption) ?_) | (refine keeps_of_fst (by with_reducible assumption) ?_) | split)

theorem State.inFrame_keeps {z0 : State} {s : State} (w : Nat) (e : BitVec 64) (xs : List Int)  (hK : Keeps z0 s) :
    Keeps z0 (State.inFrame s w e xs) := by
  unfold State.inFrame
  try dsimp only
  repeat' (first | with_reducible assumption | with_reducible apply State.tapFrame_keeps | with_reducible apply keeps_ite | with_reducible apply keeps_foldl | with_reducible apply keepsOpt_getD | fail_if_no_progress (with_reducible apply keeps_other) | with_reducible apply keeps_dropRegs | with_reducible apply keeps_dropMem | with_reducible apply keeps_dropBoth | (intro _; intros) | (refine keeps_of_some (by with_reducible assumption) ?_) | (refine keeps_of_fst (by with_reducible assumption) ?_) | split)

theorem State.portCheck_keeps {z0 : State} {s : State} (w : Nat)  (hK : Keeps z0 s) :
    Keeps z0 (State.portCheck s w) := by
  unfold State.portCheck
  try dsimp only
  repeat' (first | with_reducible assumption | with_reducible apply State.setValid_keeps | with_reducible apply keeps_ite | with_reducible apply keeps_foldl | fail_if_no_progress (with_reducible apply keeps_other) | with_reducible apply keeps_dropRegs | with_reducible apply keeps_dropMem | with_reducible apply keeps_dropBoth | (intro _; intros) | (refine keeps_of_some (by with_reducible assumption) ?_) | (refine keeps_of_fst (by with_reducible assumption) ?_) | split)

theorem State.portFrame_keeps {z0 : State} {s0 : State} (w : Nat) (e : BitVec 64) (period : Nat) (xs : List Int) (missing : BitVec 2)  (hK : Keeps z0 s0) :
    Keeps z0 (State.portFrame s0 w e period xs missing) := by
  unfold State.portFrame
  try dsimp only
  repeat' (first | with_reducible assumption | with_reducible apply State.portCheck_keeps | with_reducible apply State.inFrame_keeps | with_reducible apply State.outFrame_keeps | with_reducible apply State.noteClock_keeps | with_reducible apply State.framePeriod_keeps | with_reducible apply State.portStart_keeps | with_reducible apply State.frameEpoch_keeps | with_reducible apply State.advanceTo_keeps | with_reducible apply State.bump_keeps | with_reducible apply State.setAx_keeps | with_reducible apply State.putB_keeps | with_reducible apply keeps_ite | with_reducible apply keeps_foldl | fail_if_no_progress (with_reducible apply keeps_other) | with_reducible apply keeps_dropRegs | with_reducible apply keeps_dropMem | with_reducible apply keeps_dropBoth | (intro _; intros) | (refine keeps_of_some (by with_reducible assumption) ?_) | (refine keeps_of_fst (by with_reducible assumption) ?_) | split)

theorem execZcStartPass_keeps {z0 : State} (n : Fin 32) (i : Fin 16) {s : State}  (hK : Keeps z0 s) :
    KeepsOut z0 (execZcStartPass n i s) := by
  unfold execZcStartPass
  try dsimp only
  repeat' (first | with_reducible assumption | with_reducible apply State.zcPass_keeps | with_reducible apply keeps_ite | with_reducible apply keeps_foldl | with_reducible apply keepsOut_next | with_reducible apply keepsOut_ite | fail_if_no_progress (with_reducible apply keeps_other) | with_reducible apply keeps_dropRegs | with_reducible apply keeps_dropMem | with_reducible apply keeps_dropBoth | (intro _; intros) | (refine keeps_of_some (by with_reducible assumption) ?_) | (refine keeps_of_fst (by with_reducible assumption) ?_) | split)

theorem execZcTimeout_keeps {z0 : State} (n : Fin 32) (i : Fin 16) {s : State}  (hK : Keeps z0 s) :
    KeepsOut z0 (execZcTimeout n i s) := by
  unfold execZcTimeout
  try dsimp only
  repeat' (first | with_reducible assumption | with_reducible apply State.startRamp_keeps | with_reducible apply State.zcPass_keeps | with_reducible apply State.count_keeps | with_reducible apply State.raiseKind_keeps | with_reducible apply keeps_ite | with_reducible apply keeps_foldl | with_reducible apply keepsOut_next | with_reducible apply keepsOut_ite | with_reducible apply keepsOpt_getD | fail_if_no_progress (with_reducible apply keeps_other) | with_reducible apply keeps_dropRegs | with_reducible apply keeps_dropMem | with_reducible apply keeps_dropBoth | (intro _; intros) | (refine keeps_of_some (by with_reducible assumption) ?_) | (refine keeps_of_fst (by with_reducible assumption) ?_) | split)

theorem execPortStopped_keeps {z0 : State} (n : Fin 32) {s : State}  (hK : Keeps z0 s) :
    KeepsOut z0 (execPortStopped n s) := by
  unfold execPortStopped
  try dsimp only
  repeat' (first | with_reducible assumption | with_reducible apply State.watch_keeps | with_reducible apply State.raiseKind_keeps | with_reducible apply State.setAx_keeps | with_reducible apply keeps_ite | with_reducible apply keeps_foldl | with_reducible apply keepsOut_next | with_reducible apply keepsOut_ite | fail_if_no_progress (with_reducible apply keeps_other) | with_reducible apply keeps_dropRegs | with_reducible apply keeps_dropMem | with_reducible apply keeps_dropBoth | (intro _; intros) | (refine keeps_of_some (by with_reducible assumption) ?_) | (refine keeps_of_fst (by with_reducible assumption) ?_) | split)

theorem State.clockGone_keeps {z0 : State} {s : State} (p : Nat)  (hK : Keeps z0 s) :
    Keeps z0 (State.clockGone s p) := by
  unfold State.clockGone
  try dsimp only
  repeat' (first | with_reducible assumption | with_reducible apply State.setValid_keeps | with_reducible apply State.raiseKind_keeps | with_reducible apply State.setHs_keeps | with_reducible apply State.setAx_keeps | with_reducible apply State.put_keeps | with_reducible apply keeps_ite | with_reducible apply keeps_foldl | with_reducible apply keepsOut_next | with_reducible apply keepsOut_ite | fail_if_no_progress (with_reducible apply keeps_other) | with_reducible apply keeps_dropRegs | with_reducible apply keeps_dropMem | with_reducible apply keeps_dropBoth | (intro _; intros) | (refine keeps_of_some (by with_reducible assumption) ?_) | (refine keeps_of_fst (by with_reducible assumption) ?_) | split)

theorem State.declareLost_keeps {z0 : State} {s : State} (p : Nat)  (hK : Keeps z0 s) :
    Keeps z0 (State.declareLost s p) := by
  unfold State.declareLost
  try dsimp only
  repeat' (first | with_reducible assumption | with_reducible apply State.clockGone_keeps | with_reducible apply State.count_keeps | with_reducible apply State.raiseKind_keeps | with_reducible apply keeps_ite | with_reducible apply keeps_foldl | fail_if_no_progress (with_reducible apply keeps_other) | with_reducible apply keeps_dropRegs | with_reducible apply keeps_dropMem | with_reducible apply keeps_dropBoth | (intro _; intros) | (refine keeps_of_some (by with_reducible assumption) ?_) | (refine keeps_of_fst (by with_reducible assumption) ?_) | split)

theorem execClockLost_keeps {z0 : State} (n : Fin 32) {s : State}  (hK : Keeps z0 s) :
    KeepsOut z0 (execClockLost n s) := by
  unfold execClockLost
  try dsimp only
  repeat' (first | with_reducible assumption | with_reducible apply State.declareLost_keeps | with_reducible apply keeps_ite | with_reducible apply keeps_foldl | with_reducible apply keepsOut_next | with_reducible apply keepsOut_ite | fail_if_no_progress (with_reducible apply keeps_other) | with_reducible apply keeps_dropRegs | with_reducible apply keeps_dropMem | with_reducible apply keeps_dropBoth | (intro _; intros) | (refine keeps_of_some (by with_reducible assumption) ?_) | (refine keeps_of_fst (by with_reducible assumption) ?_) | split)

theorem State.dataReturn_keeps {z0 : State} {s : State} (p : Nat)  (hK : Keeps z0 s) :
    Keeps z0 (State.dataReturn s p) := by
  unfold State.dataReturn
  try dsimp only
  repeat' (first | with_reducible assumption | with_reducible apply State.zcArm_keeps | with_reducible apply State.setAx_keeps | with_reducible apply keeps_ite | with_reducible apply keeps_foldl | fail_if_no_progress (with_reducible apply keeps_other) | with_reducible apply keeps_dropRegs | with_reducible apply keeps_dropMem | with_reducible apply keeps_dropBoth | (intro _; intros) | (refine keeps_of_some (by with_reducible assumption) ?_) | (refine keeps_of_fst (by with_reducible assumption) ?_) | split)

theorem State.clockBack_keeps {z0 : State} {s : State} (p : Nat)  (hK : Keeps z0 s) :
    Keeps z0 (State.clockBack s p) := by
  unfold State.clockBack
  try dsimp only
  repeat' (first | with_reducible assumption | with_reducible apply State.dataReturn_keeps | with_reducible apply State.asrcReacquire_keeps | with_reducible apply State.raiseKind_keeps | with_reducible apply State.put_keeps | with_reducible apply keeps_ite | with_reducible apply keeps_foldl | fail_if_no_progress (with_reducible apply keeps_other) | with_reducible apply keeps_dropRegs | with_reducible apply keeps_dropMem | with_reducible apply keeps_dropBoth | (intro _; intros) | (refine keeps_of_some (by with_reducible assumption) ?_) | (refine keeps_of_fst (by with_reducible assumption) ?_) | split)

theorem execClockReturned_keeps {z0 : State} (n : Fin 32) {s : State}  (hK : Keeps z0 s) :
    KeepsOut z0 (execClockReturned n s) := by
  unfold execClockReturned
  try dsimp only
  repeat' (first | with_reducible assumption | with_reducible apply State.clockBack_keeps | with_reducible apply keeps_ite | with_reducible apply keeps_foldl | with_reducible apply keepsOut_next | with_reducible apply keepsOut_ite | fail_if_no_progress (with_reducible apply keeps_other) | with_reducible apply keeps_dropRegs | with_reducible apply keeps_dropMem | with_reducible apply keeps_dropBoth | (intro _; intros) | (refine keeps_of_some (by with_reducible assumption) ?_) | (refine keeps_of_fst (by with_reducible assumption) ?_) | split)

theorem execAsrcReacquireDone_keeps {z0 : State} (n : Fin 32) {s : State}  (hK : Keeps z0 s) :
    KeepsOut z0 (execAsrcReacquireDone n s) := by
  unfold execAsrcReacquireDone
  try dsimp only
  repeat' (first | with_reducible assumption | with_reducible apply State.dataReturn_keeps | with_reducible apply State.asrcReacquired_keeps | with_reducible apply keeps_ite | with_reducible apply keeps_foldl | with_reducible apply keepsOut_next | with_reducible apply keepsOut_ite | fail_if_no_progress (with_reducible apply keeps_other) | with_reducible apply keeps_dropRegs | with_reducible apply keeps_dropMem | with_reducible apply keeps_dropBoth | (intro _; intros) | (refine keeps_of_some (by with_reducible assumption) ?_) | (refine keeps_of_fst (by with_reducible assumption) ?_) | split)

theorem State.glitch_keeps {z0 : State} {s : State} (p : Nat)  (hK : Keeps z0 s) :
    Keeps z0 (State.glitch s p) := by
  unfold State.glitch
  try dsimp only
  repeat' (first | with_reducible assumption | with_reducible apply State.portSend_keeps | with_reducible apply State.count_keeps | with_reducible apply State.raiseKind_keeps | with_reducible apply State.setAx_keeps | with_reducible apply keeps_ite | with_reducible apply keeps_foldl | fail_if_no_progress (with_reducible apply keeps_other) | with_reducible apply keeps_dropRegs | with_reducible apply keeps_dropMem | with_reducible apply keeps_dropBoth | (intro _; intros) | (refine keeps_of_some (by with_reducible assumption) ?_) | (refine keeps_of_fst (by with_reducible assumption) ?_) | split)

theorem execGlitchFrame_keeps {z0 : State} (n : Fin 32) {s : State}  (hK : Keeps z0 s) :
    KeepsOut z0 (execGlitchFrame n s) := by
  unfold execGlitchFrame
  try dsimp only
  repeat' (first | with_reducible assumption | with_reducible apply State.glitch_keeps | with_reducible apply State.declareLost_keeps | with_reducible apply keeps_ite | with_reducible apply keeps_foldl | with_reducible apply keepsOut_next | with_reducible apply keepsOut_ite | fail_if_no_progress (with_reducible apply keeps_other) | with_reducible apply keeps_dropRegs | with_reducible apply keeps_dropMem | with_reducible apply keeps_dropBoth | (intro _; intros) | (refine keeps_of_some (by with_reducible assumption) ?_) | (refine keeps_of_fst (by with_reducible assumption) ?_) | split)

theorem State.rateStep_keeps {z0 : State} {s : State} (p : Nat) (period : Nat)  (hK : Keeps z0 s) :
    Keeps z0 (State.rateStep s p period) := by
  unfold State.rateStep
  try dsimp only
  repeat' (first | with_reducible assumption | with_reducible apply State.declareLost_keeps | with_reducible apply State.asrcReacquire_keeps | with_reducible apply State.setErr_keeps | with_reducible apply State.asrcMode_keeps | with_reducible apply State.count_keeps | with_reducible apply State.raiseKind_keeps | with_reducible apply State.setAx_keeps | with_reducible apply State.put_keeps | with_reducible apply State.wr_keeps | with_reducible apply keeps_ite | with_reducible apply keeps_foldl | fail_if_no_progress (with_reducible apply keeps_other) | with_reducible apply keeps_dropRegs | with_reducible apply keeps_dropMem | with_reducible apply keeps_dropBoth | (intro _; intros) | (refine keeps_of_some (by with_reducible assumption) ?_) | (refine keeps_of_fst (by with_reducible assumption) ?_) | split)

theorem execRateStep_keeps {z0 : State} (n : Fin 32) (period : Nat) {s : State}  (hK : Keeps z0 s) :
    KeepsOut z0 (execRateStep n period s) := by
  unfold execRateStep
  try dsimp only
  repeat' (first | with_reducible assumption | with_reducible apply State.rateStep_keeps | with_reducible apply keeps_ite | with_reducible apply keeps_foldl | with_reducible apply keepsOut_next | with_reducible apply keepsOut_ite | fail_if_no_progress (with_reducible apply keeps_other) | with_reducible apply keeps_dropRegs | with_reducible apply keeps_dropMem | with_reducible apply keeps_dropBoth | (intro _; intros) | (refine keeps_of_some (by with_reducible assumption) ?_) | (refine keeps_of_fst (by with_reducible assumption) ?_) | split)

theorem execHybridLock_keeps {z0 : State} (n : Fin 32) {s : State}  (hK : Keeps z0 s) :
    KeepsOut z0 (execHybridLock n s) := by
  unfold execHybridLock
  try dsimp only
  repeat' (first | with_reducible assumption | with_reducible apply State.put_keeps | with_reducible apply keeps_ite | with_reducible apply keeps_foldl | with_reducible apply keepsOut_next | with_reducible apply keepsOut_ite | fail_if_no_progress (with_reducible apply keeps_other) | with_reducible apply keeps_dropRegs | with_reducible apply keeps_dropMem | with_reducible apply keeps_dropBoth | (intro _; intros) | (refine keeps_of_some (by with_reducible assumption) ?_) | (refine keeps_of_fst (by with_reducible assumption) ?_) | split)

theorem State.portCtlWritten_keeps {z0 : State} {s : State} (w : Nat) (v : Word)  (hK : Keeps z0 s) :
    Keeps z0 (State.portCtlWritten s w v) := by
  unfold State.portCtlWritten
  try dsimp only
  repeat' (first | with_reducible assumption | with_reducible apply State.dataReturn_keeps | with_reducible apply State.store_keeps | with_reducible apply keeps_ite | with_reducible apply keeps_foldl | fail_if_no_progress (with_reducible apply keeps_other) | with_reducible apply keeps_dropRegs | with_reducible apply keeps_dropMem | with_reducible apply keeps_dropBoth | (intro _; intros) | (refine keeps_of_some (by with_reducible assumption) ?_) | (refine keeps_of_fst (by with_reducible assumption) ?_) | split)

theorem execPortRestart_keeps {z0 : State} (m : Master) (n : Fin 32) {s : State}  (hK : Keeps z0 s) :
    KeepsOut z0 (execPortRestart m n s) := by
  unfold execPortRestart
  try dsimp only
  repeat' (first | with_reducible assumption | with_reducible apply State.portCtlWritten_keeps | with_reducible apply State.guarded_keeps | with_reducible apply keeps_ite | with_reducible apply keeps_foldl | with_reducible apply keepsOut_next | with_reducible apply keepsOut_ite | fail_if_no_progress (with_reducible apply keeps_other) | with_reducible apply keeps_dropRegs | with_reducible apply keeps_dropMem | with_reducible apply keeps_dropBoth | (intro _; intros) | (refine keeps_of_some (by with_reducible assumption) ?_) | (refine keeps_of_fst (by with_reducible assumption) ?_) | split)

theorem State.fireGroup_keeps {z0 : State} {s : State} (g : Nat) (e : BitVec 64)  (hK : Keeps z0 s) :
    Keeps z0 (State.fireGroup s g e) := by
  unfold State.fireGroup
  try dsimp only
  repeat' (first | with_reducible assumption | with_reducible apply State.setAx_keeps | with_reducible apply State.put_keeps | with_reducible apply State.wr_keeps | with_reducible apply keeps_ite | with_reducible apply keeps_foldl | fail_if_no_progress (with_reducible apply keeps_other) | with_reducible apply keeps_dropRegs | with_reducible apply keeps_dropMem | with_reducible apply keeps_dropBoth | (intro _; intros) | (refine keeps_of_some (by with_reducible assumption) ?_) | (refine keeps_of_fst (by with_reducible assumption) ?_) | split)

theorem State.grpWritten_keeps {z0 : State} {s : State} (g : Nat) (v : Word)  (hK : Keeps z0 s) :
    Keeps z0 (State.grpWritten s g v) := by
  unfold State.grpWritten
  try dsimp only
  repeat' (first | with_reducible assumption | with_reducible apply State.fireGroup_keeps | with_reducible apply State.store_keeps | with_reducible apply State.setErr_keeps | with_reducible apply State.put_keeps | with_reducible apply keeps_ite | with_reducible apply keeps_foldl | fail_if_no_progress (with_reducible apply keeps_other) | with_reducible apply keeps_dropRegs | with_reducible apply keeps_dropMem | with_reducible apply keeps_dropBoth | (intro _; intros) | (refine keeps_of_some (by with_reducible assumption) ?_) | (refine keeps_of_fst (by with_reducible assumption) ?_) | split)

theorem State.grpGo_keeps {z0 : State} {s : State} (g : Nat) (v : Word)  (hK : Keeps z0 s) :
    Keeps z0 (State.grpGo s g v) := by
  unfold State.grpGo
  try dsimp only
  repeat' (first | with_reducible assumption | with_reducible apply State.fireGroup_keeps | with_reducible apply State.store_keeps | with_reducible apply keeps_ite | with_reducible apply keeps_foldl | fail_if_no_progress (with_reducible apply keeps_other) | with_reducible apply keeps_dropRegs | with_reducible apply keeps_dropMem | with_reducible apply keeps_dropBoth | (intro _; intros) | (refine keeps_of_some (by with_reducible assumption) ?_) | (refine keeps_of_fst (by with_reducible assumption) ?_) | split)

theorem State.writeGrp_keeps {z0 : State} {s : State} (m : Nat) (g : Nat) (v : Word)  (hK : Keeps z0 s) :
    Keeps z0 (State.writeGrp s m g v) := by
  unfold State.writeGrp
  try dsimp only
  repeat' (first | with_reducible assumption | with_reducible apply State.grpGo_keeps | with_reducible apply State.grpWritten_keeps | with_reducible apply State.guarded_keeps | with_reducible apply keeps_ite | with_reducible apply keeps_foldl | fail_if_no_progress (with_reducible apply keeps_other) | with_reducible apply keeps_dropRegs | with_reducible apply keeps_dropMem | with_reducible apply keeps_dropBoth | (intro _; intros) | (refine keeps_of_some (by with_reducible assumption) ?_) | (refine keeps_of_fst (by with_reducible assumption) ?_) | split)

theorem execGroupArm_keeps {z0 : State} (m : Master) (g : Fin 8) (v : Word) {s : State}  (hK : Keeps z0 s) :
    KeepsOut z0 (execGroupArm m g v s) := by
  unfold execGroupArm
  try dsimp only
  repeat' (first | with_reducible assumption | with_reducible apply State.writeGrp_keeps | with_reducible apply keeps_ite | with_reducible apply keeps_foldl | with_reducible apply keepsOut_next | with_reducible apply keepsOut_ite | fail_if_no_progress (with_reducible apply keeps_other) | with_reducible apply keeps_dropRegs | with_reducible apply keeps_dropMem | with_reducible apply keeps_dropBoth | (intro _; intros) | (refine keeps_of_some (by with_reducible assumption) ?_) | (refine keeps_of_fst (by with_reducible assumption) ?_) | split)

theorem execGroupGo_keeps {z0 : State} (m : Master) (g : Fin 8) (v : Word) {s : State}  (hK : Keeps z0 s) :
    KeepsOut z0 (execGroupGo m g v s) := by
  unfold execGroupGo
  try dsimp only
  repeat' (first | with_reducible assumption | with_reducible apply State.writeGrp_keeps | with_reducible apply keeps_ite | with_reducible apply keeps_foldl | with_reducible apply keepsOut_next | with_reducible apply keepsOut_ite | fail_if_no_progress (with_reducible apply keeps_other) | with_reducible apply keeps_dropRegs | with_reducible apply keeps_dropMem | with_reducible apply keeps_dropBoth | (intro _; intros) | (refine keeps_of_some (by with_reducible assumption) ?_) | (refine keeps_of_fst (by with_reducible assumption) ?_) | split)

theorem execGroupFireEpoch_keeps {z0 : State} (g : Fin 8) {s : State}  (hK : Keeps z0 s) :
    KeepsOut z0 (execGroupFireEpoch g s) := by
  unfold execGroupFireEpoch
  try dsimp only
  repeat' (first | with_reducible assumption | with_reducible apply State.fireGroup_keeps | with_reducible apply State.advanceTo_keeps | with_reducible apply keeps_ite | with_reducible apply keeps_foldl | with_reducible apply keepsOut_next | with_reducible apply keepsOut_ite | fail_if_no_progress (with_reducible apply keeps_other) | with_reducible apply keeps_dropRegs | with_reducible apply keeps_dropMem | with_reducible apply keeps_dropBoth | (intro _; intros) | (refine keeps_of_some (by with_reducible assumption) ?_) | (refine keeps_of_fst (by with_reducible assumption) ?_) | split)

theorem State.syncIn_keeps {z0 : State} {s : State} (e : BitVec 64)  (hK : Keeps z0 s) :
    Keeps z0 (State.syncIn s e) := by
  unfold State.syncIn
  try dsimp only
  repeat' (first | with_reducible assumption | with_reducible apply State.fireGroup_keeps | with_reducible apply State.advanceTo_keeps | with_reducible apply State.wr_keeps | with_reducible apply keeps_ite | with_reducible apply keeps_foldl | fail_if_no_progress (with_reducible apply keeps_other) | with_reducible apply keeps_dropRegs | with_reducible apply keeps_dropMem | with_reducible apply keeps_dropBoth | (intro _; intros) | (refine keeps_of_some (by with_reducible assumption) ?_) | (refine keeps_of_fst (by with_reducible assumption) ?_) | split)

theorem execSyncOutPulse_keeps {z0 : State} (e : BitVec 64) {s : State}  (hK : Keeps z0 s) :
    KeepsOut z0 (execSyncOutPulse e s) := by
  unfold execSyncOutPulse
  try dsimp only
  repeat' (first | with_reducible assumption | with_reducible apply State.advanceTo_keeps | with_reducible apply State.setAx_keeps | with_reducible apply keeps_ite | with_reducible apply keeps_foldl | with_reducible apply keepsOut_next | with_reducible apply keepsOut_ite | fail_if_no_progress (with_reducible apply keeps_other) | with_reducible apply keeps_dropRegs | with_reducible apply keeps_dropMem | with_reducible apply keeps_dropBoth | (intro _; intros) | (refine keeps_of_some (by with_reducible assumption) ?_) | (refine keeps_of_fst (by with_reducible assumption) ?_) | split)

end Sys2Proof.Machine
end

