-- ==== Sys2Proof/Laws/KeepsUnits.lean ====
section
/-! SUPPORT. What every operation of TwoWire, Feeds, Units, Pigeonholes, Registers keeps: the canonical form, the part and the queue. -/

set_option linter.unusedTactic false
set_option linter.unreachableTactic false

namespace Sys2Proof.Machine

theorem State.twcPush_keeps {z0 : State} {s : State} (v : Word)  (hK : Keeps z0 s) :
    Keeps z0 (State.twcPush s v) := by
  unfold State.twcPush
  try dsimp only
  repeat' (first | with_reducible assumption | with_reducible apply State.setBl_keeps | with_reducible apply keeps_ite | with_reducible apply keeps_foldl | fail_if_no_progress (with_reducible apply keeps_other) | with_reducible apply keeps_dropRegs | with_reducible apply keeps_dropMem | with_reducible apply keeps_dropBoth | (intro _; intros) | (refine keeps_of_some (by with_reducible assumption) ?_) | (refine keeps_of_fst (by with_reducible assumption) ?_) | split)

theorem execTwcTxPush_keeps {z0 : State} (m : Master) (v : Word) {s : State}  (hK : Keeps z0 s) :
    KeepsOut z0 (execTwcTxPush m v s) := by
  unfold execTwcTxPush
  try dsimp only
  repeat' (first | with_reducible assumption | with_reducible apply State.twcPush_keeps | with_reducible apply State.guarded_keeps | with_reducible apply keeps_ite | with_reducible apply keeps_foldl | with_reducible apply keepsOut_next | with_reducible apply keepsOut_ite | fail_if_no_progress (with_reducible apply keeps_other) | with_reducible apply keeps_dropRegs | with_reducible apply keeps_dropMem | with_reducible apply keeps_dropBoth | (intro _; intros) | (refine keeps_of_some (by with_reducible assumption) ?_) | (refine keeps_of_fst (by with_reducible assumption) ?_) | split)

theorem State.twcPop_keeps {z0 : State} {s : State} (k : Nat)  (hK : Keeps z0 s) :
    Keeps z0 (State.twcPop s k) := by
  unfold State.twcPop
  try dsimp only
  repeat' (first | with_reducible assumption | with_reducible apply State.ans_keeps | with_reducible apply State.setBl_keeps | with_reducible apply keeps_ite | with_reducible apply keeps_foldl | fail_if_no_progress (with_reducible apply keeps_other) | with_reducible apply keeps_dropRegs | with_reducible apply keeps_dropMem | with_reducible apply keeps_dropBoth | (intro _; intros) | (refine keeps_of_some (by with_reducible assumption) ?_) | (refine keeps_of_fst (by with_reducible assumption) ?_) | split)

theorem execTwcRxPop_keeps {z0 : State} (a_m : Master) {s : State}  (hK : Keeps z0 s) :
    KeepsOut z0 (execTwcRxPop a_m s) := by
  unfold execTwcRxPop
  try dsimp only
  repeat' (first | with_reducible assumption | with_reducible apply State.twcPop_keeps | with_reducible apply keeps_ite | with_reducible apply keeps_foldl | with_reducible apply keepsOut_next | with_reducible apply keepsOut_ite | fail_if_no_progress (with_reducible apply keeps_other) | with_reducible apply keeps_dropRegs | with_reducible apply keeps_dropMem | with_reducible apply keeps_dropBoth | (intro _; intros) | (refine keeps_of_some (by with_reducible assumption) ?_) | (refine keeps_of_fst (by with_reducible assumption) ?_) | split)

theorem execIbrFifoPop_keeps {z0 : State} (a_m : Master) {s : State}  (hK : Keeps z0 s) :
    KeepsOut z0 (execIbrFifoPop a_m s) := by
  unfold execIbrFifoPop
  try dsimp only
  repeat' (first | with_reducible assumption | with_reducible apply State.twcPop_keeps | with_reducible apply keeps_ite | with_reducible apply keeps_foldl | with_reducible apply keepsOut_next | with_reducible apply keepsOut_ite | fail_if_no_progress (with_reducible apply keeps_other) | with_reducible apply keeps_dropRegs | with_reducible apply keeps_dropMem | with_reducible apply keeps_dropBoth | (intro _; intros) | (refine keeps_of_some (by with_reducible assumption) ?_) | (refine keeps_of_fst (by with_reducible assumption) ?_) | split)

theorem State.twcStart_keeps {z0 : State} {s : State}  (hK : Keeps z0 s) :
    Keeps z0 (State.twcStart s) := by
  unfold State.twcStart
  try dsimp only
  repeat' (first | with_reducible assumption | with_reducible apply State.setAx_keeps | with_reducible apply State.put_keeps | with_reducible apply State.wr_keeps | with_reducible apply keeps_ite | with_reducible apply keeps_foldl | fail_if_no_progress (with_reducible apply keeps_other) | with_reducible apply keeps_dropRegs | with_reducible apply keeps_dropMem | with_reducible apply keeps_dropBoth | (intro _; intros) | (refine keeps_of_some (by with_reducible assumption) ?_) | (refine keeps_of_fst (by with_reducible assumption) ?_) | split)

theorem State.twcCmd_keeps {z0 : State} {s : State} (v : Word)  (hK : Keeps z0 s) :
    Keeps z0 (State.twcCmd s v) := by
  unfold State.twcCmd
  try dsimp only
  repeat' (first | with_reducible assumption | with_reducible apply State.twcStart_keeps | with_reducible apply State.store_keeps | with_reducible apply keeps_ite | with_reducible apply keeps_foldl | fail_if_no_progress (with_reducible apply keeps_other) | with_reducible apply keeps_dropRegs | with_reducible apply keeps_dropMem | with_reducible apply keeps_dropBoth | (intro _; intros) | (refine keeps_of_some (by with_reducible assumption) ?_) | (refine keeps_of_fst (by with_reducible assumption) ?_) | split)

theorem State.writeTwcCmd_keeps {z0 : State} {s : State} (m : Nat) (v : Word)  (hK : Keeps z0 s) :
    Keeps z0 (State.writeTwcCmd s m v) := by
  unfold State.writeTwcCmd
  try dsimp only
  repeat' (first | with_reducible assumption | with_reducible apply State.twcCmd_keeps | with_reducible apply State.guarded_keeps | with_reducible apply keeps_ite | with_reducible apply keeps_foldl | fail_if_no_progress (with_reducible apply keeps_other) | with_reducible apply keeps_dropRegs | with_reducible apply keeps_dropMem | with_reducible apply keeps_dropBoth | (intro _; intros) | (refine keeps_of_some (by with_reducible assumption) ?_) | (refine keeps_of_fst (by with_reducible assumption) ?_) | split)

theorem execTwcGo_keeps {z0 : State} (m : Master) (v : Word) {s : State}  (hK : Keeps z0 s) :
    KeepsOut z0 (execTwcGo m v s) := by
  unfold execTwcGo
  try dsimp only
  repeat' (first | with_reducible assumption | with_reducible apply State.writeTwcCmd_keeps | with_reducible apply keeps_ite | with_reducible apply keeps_foldl | with_reducible apply keepsOut_next | with_reducible apply keepsOut_ite | fail_if_no_progress (with_reducible apply keeps_other) | with_reducible apply keeps_dropRegs | with_reducible apply keeps_dropMem | with_reducible apply keeps_dropBoth | (intro _; intros) | (refine keeps_of_some (by with_reducible assumption) ?_) | (refine keeps_of_fst (by with_reducible assumption) ?_) | split)

theorem State.twcEnd_keeps {z0 : State} {s : State} (hold : Bool)  (hK : Keeps z0 s) :
    Keeps z0 (State.twcEnd s hold) := by
  unfold State.twcEnd
  try dsimp only
  repeat' (first | with_reducible assumption | with_reducible apply State.raiseKind_keeps | with_reducible apply State.setBl_keeps | with_reducible apply State.setAx_keeps | with_reducible apply State.putB_keeps | with_reducible apply State.put_keeps | with_reducible apply keeps_ite | with_reducible apply keeps_foldl | fail_if_no_progress (with_reducible apply keeps_other) | with_reducible apply keeps_dropRegs | with_reducible apply keeps_dropMem | with_reducible apply keeps_dropBoth | (intro _; intros) | (refine keeps_of_some (by with_reducible assumption) ?_) | (refine keeps_of_fst (by with_reducible assumption) ?_) | split)

theorem State.twcNack_keeps {z0 : State} {s : State} (i : Option (Fin 32))  (hK : Keeps z0 s) :
    Keeps z0 (State.twcNack s i) := by
  unfold State.twcNack
  try dsimp only
  repeat' (first | with_reducible assumption | with_reducible apply State.setErr_keeps | with_reducible apply State.count_keeps | with_reducible apply State.raiseKind_keeps | with_reducible apply State.put_keeps | with_reducible apply keeps_ite | with_reducible apply keeps_foldl | fail_if_no_progress (with_reducible apply keeps_other) | with_reducible apply keeps_dropRegs | with_reducible apply keeps_dropMem | with_reducible apply keeps_dropBoth | (intro _; intros) | (refine keeps_of_some (by with_reducible assumption) ?_) | (refine keeps_of_fst (by with_reducible assumption) ?_) | split)

theorem execTwcTransferDone_keeps {z0 : State} (nackAddr : Bool) (nackData : Option (Fin 32)) (rx : List Byte) {s : State}  (hK : Keeps z0 s) :
    KeepsOut z0 (execTwcTransferDone nackAddr nackData rx s) := by
  unfold execTwcTransferDone
  try dsimp only
  repeat' (first | with_reducible assumption | with_reducible apply State.twcNack_keeps | with_reducible apply State.twcEnd_keeps | with_reducible apply State.setBl_keeps | with_reducible apply keeps_ite | with_reducible apply keeps_foldl | with_reducible apply keepsOut_next | with_reducible apply keepsOut_ite | fail_if_no_progress (with_reducible apply keeps_other) | with_reducible apply keeps_dropRegs | with_reducible apply keeps_dropMem | with_reducible apply keeps_dropBoth | (intro _; intros) | (refine keeps_of_some (by with_reducible assumption) ?_) | (refine keeps_of_fst (by with_reducible assumption) ?_) | split)

theorem execTwcArbLost_keeps {z0 : State} {s : State}  (hK : Keeps z0 s) :
    KeepsOut z0 (execTwcArbLost s) := by
  unfold execTwcArbLost
  try dsimp only
  repeat' (first | with_reducible assumption | with_reducible apply State.count_keeps | with_reducible apply State.setAx_keeps | with_reducible apply State.put_keeps | with_reducible apply keeps_ite | with_reducible apply keeps_foldl | with_reducible apply keepsOut_next | with_reducible apply keepsOut_ite | fail_if_no_progress (with_reducible apply keeps_other) | with_reducible apply keeps_dropRegs | with_reducible apply keeps_dropMem | with_reducible apply keeps_dropBoth | (intro _; intros) | (refine keeps_of_some (by with_reducible assumption) ?_) | (refine keeps_of_fst (by with_reducible assumption) ?_) | split)

theorem execTwcArbRetry_keeps {z0 : State} {s : State}  (hK : Keeps z0 s) :
    KeepsOut z0 (execTwcArbRetry s) := by
  unfold execTwcArbRetry
  try dsimp only
  repeat' (first | with_reducible assumption | with_reducible apply State.twcEnd_keeps | with_reducible apply State.setErr_keeps | with_reducible apply State.raiseKind_keeps | with_reducible apply State.setAx_keeps | with_reducible apply State.put_keeps | with_reducible apply keeps_ite | with_reducible apply keeps_foldl | with_reducible apply keepsOut_next | with_reducible apply keepsOut_ite | fail_if_no_progress (with_reducible apply keeps_other) | with_reducible apply keeps_dropRegs | with_reducible apply keeps_dropMem | with_reducible apply keeps_dropBoth | (intro _; intros) | (refine keeps_of_some (by with_reducible assumption) ?_) | (refine keeps_of_fst (by with_reducible assumption) ?_) | split)

theorem State.twcSelfReset_keeps {z0 : State} {s : State} (code : Nat)  (hK : Keeps z0 s) :
    Keeps z0 (State.twcSelfReset s code) := by
  unfold State.twcSelfReset
  try dsimp only
  repeat' (first | with_reducible assumption | with_reducible apply State.setErr_keeps | with_reducible apply State.setValid_keeps | with_reducible apply State.twcDrop_keeps | with_reducible apply State.count_keeps | with_reducible apply State.raiseKind_keeps | with_reducible apply State.put_keeps | with_reducible apply keeps_ite | with_reducible apply keeps_foldl | fail_if_no_progress (with_reducible apply keeps_other) | with_reducible apply keeps_dropRegs | with_reducible apply keeps_dropMem | with_reducible apply keeps_dropBoth | (intro _; intros) | (refine keeps_of_some (by with_reducible assumption) ?_) | (refine keeps_of_fst (by with_reducible assumption) ?_) | split)

theorem execTwcSclTimeout_keeps {z0 : State} {s : State}  (hK : Keeps z0 s) :
    KeepsOut z0 (execTwcSclTimeout s) := by
  unfold execTwcSclTimeout
  try dsimp only
  repeat' (first | with_reducible assumption | with_reducible apply State.twcSelfReset_keeps | with_reducible apply keeps_ite | with_reducible apply keeps_foldl | with_reducible apply keepsOut_next | with_reducible apply keepsOut_ite | fail_if_no_progress (with_reducible apply keeps_other) | with_reducible apply keeps_dropRegs | with_reducible apply keeps_dropMem | with_reducible apply keeps_dropBoth | (intro _; intros) | (refine keeps_of_some (by with_reducible assumption) ?_) | (refine keeps_of_fst (by with_reducible assumption) ?_) | split)

theorem execTwcSdaTimeout_keeps {z0 : State} {s : State}  (hK : Keeps z0 s) :
    KeepsOut z0 (execTwcSdaTimeout s) := by
  unfold execTwcSdaTimeout
  try dsimp only
  repeat' (first | with_reducible assumption | with_reducible apply State.twcSelfReset_keeps | with_reducible apply keeps_ite | with_reducible apply keeps_foldl | with_reducible apply keepsOut_next | with_reducible apply keepsOut_ite | fail_if_no_progress (with_reducible apply keeps_other) | with_reducible apply keeps_dropRegs | with_reducible apply keeps_dropMem | with_reducible apply keeps_dropBoth | (intro _; intros) | (refine keeps_of_some (by with_reducible assumption) ?_) | (refine keeps_of_fst (by with_reducible assumption) ?_) | split)

theorem State.twcFound_keeps {z0 : State} {s : State}  (hK : Keeps z0 s) :
    Keeps z0 (State.twcFound s) := by
  unfold State.twcFound
  try dsimp only
  repeat' (first | with_reducible assumption | with_reducible apply State.setValid_keeps | with_reducible apply State.setAx_keeps | with_reducible apply keeps_ite | with_reducible apply keeps_foldl | fail_if_no_progress (with_reducible apply keeps_other) | with_reducible apply keeps_dropRegs | with_reducible apply keeps_dropMem | with_reducible apply keeps_dropBoth | (intro _; intros) | (refine keeps_of_some (by with_reducible assumption) ?_) | (refine keeps_of_fst (by with_reducible assumption) ?_) | split)

theorem State.twcCleared_keeps {z0 : State} {s : State}  (hK : Keeps z0 s) :
    Keeps z0 (State.twcCleared s) := by
  unfold State.twcCleared
  try dsimp only
  repeat' (first | with_reducible assumption | with_reducible apply State.twcFound_keeps | with_reducible apply State.count_keeps | with_reducible apply State.raiseKind_keeps | with_reducible apply keeps_ite | with_reducible apply keeps_foldl | fail_if_no_progress (with_reducible apply keeps_other) | with_reducible apply keeps_dropRegs | with_reducible apply keeps_dropMem | with_reducible apply keeps_dropBoth | (intro _; intros) | (refine keeps_of_some (by with_reducible assumption) ?_) | (refine keeps_of_fst (by with_reducible assumption) ?_) | split)

theorem execTwcBusStuck_keeps {z0 : State} {s : State}  (hK : Keeps z0 s) :
    KeepsOut z0 (execTwcBusStuck s) := by
  unfold execTwcBusStuck
  try dsimp only
  repeat' (first | with_reducible assumption | with_reducible apply State.setErr_keeps | with_reducible apply State.watch_keeps | with_reducible apply State.raiseKind_keeps | with_reducible apply State.putB_keeps | with_reducible apply State.put_keeps | with_reducible apply keeps_ite | with_reducible apply keeps_foldl | with_reducible apply keepsOut_next | with_reducible apply keepsOut_ite | fail_if_no_progress (with_reducible apply keeps_other) | with_reducible apply keeps_dropRegs | with_reducible apply keeps_dropMem | with_reducible apply keeps_dropBoth | (intro _; intros) | (refine keeps_of_some (by with_reducible assumption) ?_) | (refine keeps_of_fst (by with_reducible assumption) ?_) | split)

theorem State.twcBusFree_keeps {z0 : State} {s : State}  (hK : Keeps z0 s) :
    Keeps z0 (State.twcBusFree s) := by
  unfold State.twcBusFree
  try dsimp only
  repeat' (first | with_reducible assumption | with_reducible apply State.twcFound_keeps | with_reducible apply State.setAx_keeps | with_reducible apply keeps_ite | with_reducible apply keeps_foldl | fail_if_no_progress (with_reducible apply keeps_other) | with_reducible apply keeps_dropRegs | with_reducible apply keeps_dropMem | with_reducible apply keeps_dropBoth | (intro _; intros) | (refine keeps_of_some (by with_reducible assumption) ?_) | (refine keeps_of_fst (by with_reducible assumption) ?_) | split)

theorem execIbrServe_keeps {z0 : State} (addr : BitVec 7) (reason : Byte) {s : State}  (hK : Keeps z0 s) :
    KeepsOut z0 (execIbrServe addr reason s) := by
  unfold execIbrServe
  try dsimp only
  repeat' (first | with_reducible assumption | with_reducible apply State.count_keeps | with_reducible apply State.raiseKind_keeps | with_reducible apply State.setBl_keeps | with_reducible apply keeps_ite | with_reducible apply keeps_foldl | with_reducible apply keepsOut_next | with_reducible apply keepsOut_ite | fail_if_no_progress (with_reducible apply keeps_other) | with_reducible apply keeps_dropRegs | with_reducible apply keeps_dropMem | with_reducible apply keeps_dropBoth | (intro _; intros) | (refine keeps_of_some (by with_reducible assumption) ?_) | (refine keeps_of_fst (by with_reducible assumption) ?_) | split)

theorem State.ibrAsk_keeps {z0 : State} {s : State}  (hK : Keeps z0 s) :
    Keeps z0 (State.ibrAsk s) := by
  unfold State.ibrAsk
  try dsimp only
  repeat' (first | with_reducible assumption | with_reducible apply State.setAx_keeps | with_reducible apply State.put_keeps | with_reducible apply keeps_ite | with_reducible apply keeps_foldl | fail_if_no_progress (with_reducible apply keeps_other) | with_reducible apply keeps_dropRegs | with_reducible apply keeps_dropMem | with_reducible apply keeps_dropBoth | (intro _; intros) | (refine keeps_of_some (by with_reducible assumption) ?_) | (refine keeps_of_fst (by with_reducible assumption) ?_) | split)

theorem execIbrRequestStart_keeps {z0 : State} {s : State}  (hK : Keeps z0 s) :
    KeepsOut z0 (execIbrRequestStart s) := by
  unfold execIbrRequestStart
  try dsimp only
  repeat' (first | with_reducible assumption | with_reducible apply State.ibrAsk_keeps | with_reducible apply keeps_ite | with_reducible apply keeps_foldl | with_reducible apply keepsOut_next | with_reducible apply keepsOut_ite | fail_if_no_progress (with_reducible apply keeps_other) | with_reducible apply keeps_dropRegs | with_reducible apply keeps_dropMem | with_reducible apply keeps_dropBoth | (intro _; intros) | (refine keeps_of_some (by with_reducible assumption) ?_) | (refine keeps_of_fst (by with_reducible assumption) ?_) | split)

theorem execIbrRepeat_keeps {z0 : State} {s : State}  (hK : Keeps z0 s) :
    KeepsOut z0 (execIbrRepeat s) := by
  unfold execIbrRepeat
  try dsimp only
  repeat' (first | with_reducible assumption | with_reducible apply State.ibrAsk_keeps | with_reducible apply State.setAx_keeps | with_reducible apply State.put_keeps | with_reducible apply keeps_ite | with_reducible apply keeps_foldl | with_reducible apply keepsOut_next | with_reducible apply keepsOut_ite | fail_if_no_progress (with_reducible apply keeps_other) | with_reducible apply keeps_dropRegs | with_reducible apply keeps_dropMem | with_reducible apply keeps_dropBoth | (intro _; intros) | (refine keeps_of_some (by with_reducible assumption) ?_) | (refine keeps_of_fst (by with_reducible assumption) ?_) | split)

theorem execIbrWithdraw_keeps {z0 : State} {s : State}  (hK : Keeps z0 s) :
    KeepsOut z0 (execIbrWithdraw s) := by
  unfold execIbrWithdraw
  try dsimp only
  repeat' (first | with_reducible assumption | with_reducible apply State.setAx_keeps | with_reducible apply keeps_ite | with_reducible apply keeps_foldl | with_reducible apply keepsOut_next | with_reducible apply keepsOut_ite | fail_if_no_progress (with_reducible apply keeps_other) | with_reducible apply keeps_dropRegs | with_reducible apply keeps_dropMem | with_reducible apply keeps_dropBoth | (intro _; intros) | (refine keeps_of_some (by with_reducible assumption) ?_) | (refine keeps_of_fst (by with_reducible assumption) ?_) | split)

theorem execIbrUnserved_keeps {z0 : State} {s : State}  (hK : Keeps z0 s) :
    KeepsOut z0 (execIbrUnserved s) := by
  unfold execIbrUnserved
  try dsimp only
  repeat' (first | with_reducible assumption | with_reducible apply State.count_keeps | with_reducible apply State.setAx_keeps | with_reducible apply keeps_ite | with_reducible apply keeps_foldl | with_reducible apply keepsOut_next | with_reducible apply keepsOut_ite | fail_if_no_progress (with_reducible apply keeps_other) | with_reducible apply keeps_dropRegs | with_reducible apply keeps_dropMem | with_reducible apply keeps_dropBoth | (intro _; intros) | (refine keeps_of_some (by with_reducible assumption) ?_) | (refine keeps_of_fst (by with_reducible assumption) ?_) | split)

theorem execIbrFrameEnd_keeps {z0 : State} (accepted : Bool) {s : State}  (hK : Keeps z0 s) :
    KeepsOut z0 (execIbrFrameEnd accepted s) := by
  unfold execIbrFrameEnd
  try dsimp only
  repeat' (first | with_reducible assumption | with_reducible apply State.ans_keeps | with_reducible apply State.setAx_keeps | with_reducible apply State.put_keeps | with_reducible apply keeps_ite | with_reducible apply keeps_foldl | with_reducible apply keepsOut_next | with_reducible apply keepsOut_ite | fail_if_no_progress (with_reducible apply keeps_other) | with_reducible apply keeps_dropRegs | with_reducible apply keeps_dropMem | with_reducible apply keeps_dropBoth | (intro _; intros) | (refine keeps_of_some (by with_reducible assumption) ?_) | (refine keeps_of_fst (by with_reducible assumption) ?_) | split)

theorem State.feedOk_keeps {z0 : State} {s : State}  (hK : Keeps z0 s) :
    Keeps z0 (State.feedOk s) := by
  unfold State.feedOk
  try dsimp only
  repeat' (first | with_reducible assumption | with_reducible apply State.setAx_keeps | with_reducible apply State.putB_keeps | with_reducible apply keeps_ite | with_reducible apply keeps_foldl | with_reducible apply keepsOut_next | with_reducible apply keepsOut_ite | fail_if_no_progress (with_reducible apply keeps_other) | with_reducible apply keeps_dropRegs | with_reducible apply keeps_dropMem | with_reducible apply keeps_dropBoth | (intro _; intros) | (refine keeps_of_some (by with_reducible assumption) ?_) | (refine keeps_of_fst (by with_reducible assumption) ?_) | split)

theorem State.railTo_keeps {z0 : State} {s : State} (v : Word)  (hK : Keeps z0 s) :
    Keeps z0 (State.railTo s v) := by
  unfold State.railTo
  try dsimp only
  repeat' (first | with_reducible assumption | with_reducible apply State.store_keeps | with_reducible apply State.setAx_keeps | with_reducible apply keeps_ite | with_reducible apply keeps_foldl | fail_if_no_progress (with_reducible apply keeps_other) | with_reducible apply keeps_dropRegs | with_reducible apply keeps_dropMem | with_reducible apply keeps_dropBoth | (intro _; intros) | (refine keeps_of_some (by with_reducible assumption) ?_) | (refine keeps_of_fst (by with_reducible assumption) ?_) | split)

theorem State.feedOff_keeps {z0 : State} {s : State} (w : Nat) (st : Nat)  (hK : Keeps z0 s) :
    Keeps z0 (State.feedOff s w st) := by
  unfold State.feedOff
  try dsimp only
  repeat' (first | with_reducible assumption | with_reducible apply State.feedOk_keeps | with_reducible apply State.put_keeps | with_reducible apply keeps_ite | with_reducible apply keeps_foldl | fail_if_no_progress (with_reducible apply keeps_other) | with_reducible apply keeps_dropRegs | with_reducible apply keeps_dropMem | with_reducible apply keeps_dropBoth | (intro _; intros) | (refine keeps_of_some (by with_reducible assumption) ?_) | (refine keeps_of_fst (by with_reducible assumption) ?_) | split)

theorem State.feedStart_keeps {z0 : State} {s : State} (w : Nat)  (hK : Keeps z0 s) :
    Keeps z0 (State.feedStart s w) := by
  unfold State.feedStart
  try dsimp only
  repeat' (first | with_reducible assumption | with_reducible apply State.feedOk_keeps | with_reducible apply State.setAx_keeps | with_reducible apply State.put_keeps | with_reducible apply keeps_ite | with_reducible apply keeps_foldl | fail_if_no_progress (with_reducible apply keeps_other) | with_reducible apply keeps_dropRegs | with_reducible apply keeps_dropMem | with_reducible apply keeps_dropBoth | (intro _; intros) | (refine keeps_of_some (by with_reducible assumption) ?_) | (refine keeps_of_fst (by with_reducible assumption) ?_) | split)

theorem State.feedCtl_keeps {z0 : State} {s : State} (w : Nat) (v : Word)  (hK : Keeps z0 s) :
    Keeps z0 (State.feedCtl s w v) := by
  unfold State.feedCtl
  try dsimp only
  repeat' (first | with_reducible assumption | with_reducible apply State.feedStart_keeps | with_reducible apply State.feedOff_keeps | with_reducible apply State.store_keeps | with_reducible apply State.setAx_keeps | with_reducible apply keeps_ite | with_reducible apply keeps_foldl | fail_if_no_progress (with_reducible apply keeps_other) | with_reducible apply keeps_dropRegs | with_reducible apply keeps_dropMem | with_reducible apply keeps_dropBoth | (intro _; intros) | (refine keeps_of_some (by with_reducible assumption) ?_) | (refine keeps_of_fst (by with_reducible assumption) ?_) | split)

theorem State.writeFeedCtl_keeps {z0 : State} {s : State} (m : Nat) (w : Nat) (v : Word)  (hK : Keeps z0 s) :
    Keeps z0 (State.writeFeedCtl s m w v) := by
  unfold State.writeFeedCtl
  try dsimp only
  repeat' (first | with_reducible assumption | with_reducible apply State.feedCtl_keeps | with_reducible apply State.guarded_keeps | with_reducible apply keeps_ite | with_reducible apply keeps_foldl | fail_if_no_progress (with_reducible apply keeps_other) | with_reducible apply keeps_dropRegs | with_reducible apply keeps_dropMem | with_reducible apply keeps_dropBoth | (intro _; intros) | (refine keeps_of_some (by with_reducible assumption) ?_) | (refine keeps_of_fst (by with_reducible assumption) ?_) | split)

theorem execFeedOnWrite_keeps {z0 : State} (m : Master) (n : Fin 8) (v : Word) {s : State}  (hK : Keeps z0 s) :
    KeepsOut z0 (execFeedOnWrite m n v s) := by
  unfold execFeedOnWrite
  try dsimp only
  repeat' (first | with_reducible assumption | with_reducible apply State.writeFeedCtl_keeps | with_reducible apply keeps_ite | with_reducible apply keeps_foldl | with_reducible apply keepsOut_next | with_reducible apply keepsOut_ite | fail_if_no_progress (with_reducible apply keeps_other) | with_reducible apply keeps_dropRegs | with_reducible apply keeps_dropMem | with_reducible apply keeps_dropBoth | (intro _; intros) | (refine keeps_of_some (by with_reducible assumption) ?_) | (refine keeps_of_fst (by with_reducible assumption) ?_) | split)

theorem execFeedSoftStartDone_keeps {z0 : State} (n : Fin 8) {s : State}  (hK : Keeps z0 s) :
    KeepsOut z0 (execFeedSoftStartDone n s) := by
  unfold execFeedSoftStartDone
  try dsimp only
  repeat' (first | with_reducible assumption | with_reducible apply State.put_keeps | with_reducible apply keeps_ite | with_reducible apply keeps_foldl | with_reducible apply keepsOut_next | with_reducible apply keepsOut_ite | fail_if_no_progress (with_reducible apply keeps_other) | with_reducible apply keeps_dropRegs | with_reducible apply keeps_dropMem | with_reducible apply keeps_dropBoth | (intro _; intros) | (refine keeps_of_some (by with_reducible assumption) ?_) | (refine keeps_of_fst (by with_reducible assumption) ?_) | split)

theorem execFeedShort_keeps {z0 : State} (n : Fin 8) {s : State}  (hK : Keeps z0 s) :
    KeepsOut z0 (execFeedShort n s) := by
  unfold execFeedShort
  try dsimp only
  repeat' (first | with_reducible assumption | with_reducible apply State.feedOff_keeps | with_reducible apply State.setErr_keeps | with_reducible apply State.count_keeps | with_reducible apply State.raiseKind_keeps | with_reducible apply State.setAx_keeps | with_reducible apply keeps_ite | with_reducible apply keeps_foldl | with_reducible apply keepsOut_next | with_reducible apply keepsOut_ite | fail_if_no_progress (with_reducible apply keeps_other) | with_reducible apply keeps_dropRegs | with_reducible apply keeps_dropMem | with_reducible apply keeps_dropBoth | (intro _; intros) | (refine keeps_of_some (by with_reducible assumption) ?_) | (refine keeps_of_fst (by with_reducible assumption) ?_) | split)

theorem execFeedRetry_keeps {z0 : State} (n : Fin 8) {s : State}  (hK : Keeps z0 s) :
    KeepsOut z0 (execFeedRetry n s) := by
  unfold execFeedRetry
  try dsimp only
  repeat' (first | with_reducible assumption | with_reducible apply State.feedStart_keeps | with_reducible apply keeps_ite | with_reducible apply keeps_foldl | with_reducible apply keepsOut_next | with_reducible apply keepsOut_ite | fail_if_no_progress (with_reducible apply keeps_other) | with_reducible apply keeps_dropRegs | with_reducible apply keeps_dropMem | with_reducible apply keeps_dropBoth | (intro _; intros) | (refine keeps_of_some (by with_reducible assumption) ?_) | (refine keeps_of_fst (by with_reducible assumption) ?_) | split)

theorem execFeedOpen_keeps {z0 : State} (n : Fin 8) {s : State}  (hK : Keeps z0 s) :
    KeepsOut z0 (execFeedOpen n s) := by
  unfold execFeedOpen
  try dsimp only
  repeat' (first | with_reducible assumption | with_reducible apply State.setErr_keeps | with_reducible apply State.count_keeps | with_reducible apply State.raiseKind_keeps | with_reducible apply State.put_keeps | with_reducible apply keeps_ite | with_reducible apply keeps_foldl | with_reducible apply keepsOut_next | with_reducible apply keepsOut_ite | fail_if_no_progress (with_reducible apply keeps_other) | with_reducible apply keeps_dropRegs | with_reducible apply keeps_dropMem | with_reducible apply keeps_dropBoth | (intro _; intros) | (refine keeps_of_some (by with_reducible assumption) ?_) | (refine keeps_of_fst (by with_reducible assumption) ?_) | split)

theorem execFeedOpenCleared_keeps {z0 : State} (n : Fin 8) {s : State}  (hK : Keeps z0 s) :
    KeepsOut z0 (execFeedOpenCleared n s) := by
  unfold execFeedOpenCleared
  try dsimp only
  repeat' (first | with_reducible assumption | with_reducible apply State.raiseKind_keeps | with_reducible apply State.put_keeps | with_reducible apply keeps_ite | with_reducible apply keeps_foldl | with_reducible apply keepsOut_next | with_reducible apply keepsOut_ite | fail_if_no_progress (with_reducible apply keeps_other) | with_reducible apply keeps_dropRegs | with_reducible apply keeps_dropMem | with_reducible apply keeps_dropBoth | (intro _; intros) | (refine keeps_of_some (by with_reducible assumption) ?_) | (refine keeps_of_fst (by with_reducible assumption) ?_) | split)

theorem execFeedReverse_keeps {z0 : State} (n : Fin 8) {s : State}  (hK : Keeps z0 s) :
    KeepsOut z0 (execFeedReverse n s) := by
  unfold execFeedReverse
  try dsimp only
  repeat' (first | with_reducible assumption | with_reducible apply State.feedOff_keeps | with_reducible apply State.setErr_keeps | with_reducible apply State.count_keeps | with_reducible apply State.raiseKind_keeps | with_reducible apply State.setAx_keeps | with_reducible apply keeps_ite | with_reducible apply keeps_foldl | with_reducible apply keepsOut_next | with_reducible apply keepsOut_ite | fail_if_no_progress (with_reducible apply keeps_other) | with_reducible apply keeps_dropRegs | with_reducible apply keeps_dropMem | with_reducible apply keeps_dropBoth | (intro _; intros) | (refine keeps_of_some (by with_reducible assumption) ?_) | (refine keeps_of_fst (by with_reducible assumption) ?_) | split)

theorem execFeedResume_keeps {z0 : State} (n : Fin 8) {s : State}  (hK : Keeps z0 s) :
    KeepsOut z0 (execFeedResume n s) := by
  unfold execFeedResume
  try dsimp only
  repeat' (first | with_reducible assumption | with_reducible apply State.feedStart_keeps | with_reducible apply keeps_ite | with_reducible apply keeps_foldl | with_reducible apply keepsOut_next | with_reducible apply keepsOut_ite | fail_if_no_progress (with_reducible apply keeps_other) | with_reducible apply keeps_dropRegs | with_reducible apply keeps_dropMem | with_reducible apply keeps_dropBoth | (intro _; intros) | (refine keeps_of_some (by with_reducible assumption) ?_) | (refine keeps_of_fst (by with_reducible assumption) ?_) | split)

theorem State.withFe_keeps {z0 : State} {s : State} (w : Nat) (f : State → State) (hf : ∀ y, Keeps z0 y → Keeps z0 (f y)) (hK : Keeps z0 s) :
    Keeps z0 (State.withFe s w f) := by
  unfold State.withFe
  try dsimp only
  repeat' (first | with_reducible assumption | with_reducible apply hf | with_reducible apply State.feRunStop_keeps | with_reducible apply State.feRunStart_keeps | with_reducible apply State.followFe_keeps | with_reducible apply State.setErr_keeps | with_reducible apply State.watch_keeps | with_reducible apply State.putB_keeps | with_reducible apply keeps_ite | with_reducible apply keeps_foldl | fail_if_no_progress (with_reducible apply keeps_other) | with_reducible apply keeps_dropRegs | with_reducible apply keeps_dropMem | with_reducible apply keeps_dropBoth | (intro _; intros) | (refine keeps_of_some (by with_reducible assumption) ?_) | (refine keeps_of_fst (by with_reducible assumption) ?_) | split)

theorem State.ctlBits_keeps {z0 : State} {s : State} (w : Nat) (v : Word)  (hK : Keeps z0 s) :
    Keeps z0 (State.ctlBits s w v) := by
  unfold State.ctlBits
  try dsimp only
  repeat' (first | with_reducible assumption | with_reducible apply State.withFe_keeps | with_reducible apply State.refuseUnit_keeps | with_reducible apply State.setErr_keeps | with_reducible apply State.watch_keeps | with_reducible apply State.setAx_keeps | with_reducible apply State.put_keeps | with_reducible apply State.wr_keeps | with_reducible apply keeps_ite | with_reducible apply keeps_foldl | fail_if_no_progress (with_reducible apply keeps_other) | with_reducible apply keeps_dropRegs | with_reducible apply keeps_dropMem | with_reducible apply keeps_dropBoth | (intro _; intros) | (refine keeps_of_some (by with_reducible assumption) ?_) | (refine keeps_of_fst (by with_reducible assumption) ?_) | split)

theorem State.ctlSync_keeps {z0 : State} {s : State} (w : Nat)  (hK : Keeps z0 s) :
    Keeps z0 (State.ctlSync s w) := by
  unfold State.ctlSync
  try dsimp only
  repeat' (first | with_reducible assumption | with_reducible apply State.initQueue_keeps | with_reducible apply State.syncReset_keeps | with_reducible apply State.setUnit_keeps | with_reducible apply keeps_ite | with_reducible apply keeps_foldl | fail_if_no_progress (with_reducible apply keeps_other) | with_reducible apply keeps_dropRegs | with_reducible apply keeps_dropMem | with_reducible apply keeps_dropBoth | (intro _; intros) | (refine keeps_of_some (by with_reducible assumption) ?_) | (refine keeps_of_fst (by with_reducible assumption) ?_) | split)

theorem State.applyDone_keeps {z0 : State} {s : State} (w : Nat)  (hK : Keeps z0 s) :
    Keeps z0 (State.applyDone s w) := by
  unfold State.applyDone
  try dsimp only
  repeat' (first | with_reducible assumption | with_reducible apply State.bumpGens_keeps | with_reducible apply State.setUnit_keeps | with_reducible apply keeps_ite | with_reducible apply keeps_foldl | fail_if_no_progress (with_reducible apply keeps_other) | with_reducible apply keeps_dropRegs | with_reducible apply keeps_dropMem | with_reducible apply keeps_dropBoth | (intro _; intros) | (refine keeps_of_some (by with_reducible assumption) ?_) | (refine keeps_of_fst (by with_reducible assumption) ?_) | split)

theorem State.ctlApply_keeps {z0 : State} {s : State} (w : Nat)  (hK : Keeps z0 s) :
    Keeps z0 (State.ctlApply s w) := by
  unfold State.ctlApply
  try dsimp only
  repeat' (first | with_reducible assumption | with_reducible apply State.applyDone_keeps | with_reducible apply State.ddcTake_keeps | with_reducible apply State.feApply_keeps | with_reducible apply State.refuseUnit_keeps | with_reducible apply State.setUnit_keeps | with_reducible apply keeps_ite | with_reducible apply keeps_foldl | fail_if_no_progress (with_reducible apply keeps_other) | with_reducible apply keeps_dropRegs | with_reducible apply keeps_dropMem | with_reducible apply keeps_dropBoth | (intro _; intros) | (refine keeps_of_some (by with_reducible assumption) ?_) | (refine keeps_of_fst (by with_reducible assumption) ?_) | split)

theorem State.ctlClear_keeps {z0 : State} {s : State} (w : Nat)  (hK : Keeps z0 s) :
    Keeps z0 (State.ctlClear s w) := by
  unfold State.ctlClear
  try dsimp only
  repeat' (first | with_reducible assumption | with_reducible apply State.withFe_keeps | with_reducible apply State.endFault_keeps | with_reducible apply State.watch_keeps | with_reducible apply State.setUnit_keeps | with_reducible apply State.putB_keeps | with_reducible apply State.put_keeps | with_reducible apply State.wr_keeps | with_reducible apply keeps_ite | with_reducible apply keeps_foldl | fail_if_no_progress (with_reducible apply keeps_other) | with_reducible apply keeps_dropRegs | with_reducible apply keeps_dropMem | with_reducible apply keeps_dropBoth | (intro _; intros) | (refine keeps_of_some (by with_reducible assumption) ?_) | (refine keeps_of_fst (by with_reducible assumption) ?_) | split)

theorem State.ctlNow_keeps {z0 : State} {s : State} (w : Nat) (v : Word)  (hK : Keeps z0 s) :
    Keeps z0 (State.ctlNow s w v) := by
  unfold State.ctlNow
  try dsimp only
  repeat' (first | with_reducible assumption | with_reducible apply State.ctlClear_keeps | with_reducible apply State.ctlApply_keeps | with_reducible apply State.ctlSync_keeps | with_reducible apply State.ctlBits_keeps | with_reducible apply keeps_ite | with_reducible apply keeps_foldl | fail_if_no_progress (with_reducible apply keeps_other) | with_reducible apply keeps_dropRegs | with_reducible apply keeps_dropMem | with_reducible apply keeps_dropBoth | (intro _; intros) | (refine keeps_of_some (by with_reducible assumption) ?_) | (refine keeps_of_fst (by with_reducible assumption) ?_) | split)

theorem State.defer_keeps {z0 : State} {s : State} (w : Nat) (v : Word)  (hK : Keeps z0 s) :
    Keeps z0 (State.defer s w v) := by
  unfold State.defer
  try dsimp only
  repeat' (first | with_reducible assumption | with_reducible apply State.setUnit_keeps | with_reducible apply keeps_ite | with_reducible apply keeps_foldl | fail_if_no_progress (with_reducible apply keeps_other) | with_reducible apply keeps_dropRegs | with_reducible apply keeps_dropMem | with_reducible apply keeps_dropBoth | (intro _; intros) | (refine keeps_of_some (by with_reducible assumption) ?_) | (refine keeps_of_fst (by with_reducible assumption) ?_) | split)

theorem State.memberPass_keeps {z0 : State} {s : State} (pass : Nat) (v : Word) (m : Nat)  (hK : Keeps z0 s) :
    Keeps z0 (State.memberPass s pass v m) := by
  unfold State.memberPass
  try dsimp only
  repeat' (first | with_reducible assumption | with_reducible apply State.defer_keeps | with_reducible apply State.ctlNow_keeps | with_reducible apply keeps_ite | with_reducible apply keeps_foldl | fail_if_no_progress (with_reducible apply keeps_other) | with_reducible apply keeps_dropRegs | with_reducible apply keeps_dropMem | with_reducible apply keeps_dropBoth | (intro _; intros) | (refine keeps_of_some (by with_reducible assumption) ?_) | (refine keeps_of_fst (by with_reducible assumption) ?_) | split)

theorem State.compPass_keeps {z0 s : State} (pass : Nat) (v : Word) (n c : Nat) (h : Keeps z0 s) :
    Keeps z0 (s.compPass pass v n c) := by
  induction n generalizing s c with
  | zero => exact h
  | succ n ih =>
    unfold State.compPass
    dsimp only
    refine keeps_foldl (fun x a hx => keeps_ite (ih _ hx) (State.memberPass_keeps _ _ _ hx)) (State.wr_keeps _ _ _ ?_)
    exact keeps_ite (State.put_keeps _ _ _ h) h

theorem State.fanOut_keeps {z0 : State} {s : State} (c : Nat) (v : Word)  (hK : Keeps z0 s) :
    Keeps z0 (State.fanOut s c v) := by
  unfold State.fanOut
  try dsimp only
  repeat' (first | with_reducible assumption | with_reducible apply State.compPass_keeps | with_reducible apply keeps_ite | with_reducible apply keeps_foldl | fail_if_no_progress (with_reducible apply keeps_other) | with_reducible apply keeps_dropRegs | with_reducible apply keeps_dropMem | with_reducible apply keeps_dropBoth | (intro _; intros) | (refine keeps_of_some (by with_reducible assumption) ?_) | (refine keeps_of_fst (by with_reducible assumption) ?_) | split)

theorem State.ctl_keeps {z0 : State} {s : State} (w : Nat) (v : Word)  (hK : Keeps z0 s) :
    Keeps z0 (State.ctl s w v) := by
  unfold State.ctl
  try dsimp only
  repeat' (first | with_reducible assumption | with_reducible apply State.fanOut_keeps | with_reducible apply State.defer_keeps | with_reducible apply State.ctlNow_keeps | with_reducible apply keeps_ite | with_reducible apply keeps_foldl | with_reducible apply keepsOut_next | with_reducible apply keepsOut_ite | fail_if_no_progress (with_reducible apply keeps_other) | with_reducible apply keeps_dropRegs | with_reducible apply keeps_dropMem | with_reducible apply keeps_dropBoth | (intro _; intros) | (refine keeps_of_some (by with_reducible assumption) ?_) | (refine keeps_of_fst (by with_reducible assumption) ?_) | split)

theorem State.startUp_keeps {z0 s : State} (bits : Word) (n w : Nat) (h : Keeps z0 s) :
    Keeps z0 (s.startUp bits n w) := by
  induction n generalizing s w with
  | zero => exact h
  | succ n ih =>
    unfold State.startUp
    dsimp only
    refine keeps_ite (keeps_foldl (fun x a hx => ih _ hx) (State.wr_keeps _ _ _ (keeps_ite h (State.put_keeps _ _ _ h))))
      (keeps_ite (State.defer_keeps _ _ h) (State.ctlNow_keeps _ _ h))

theorem State.doTrigger_keeps {z0 : State} {s : State} (t : TriggerX)  (hK : Keeps z0 s) :
    Keeps z0 (State.doTrigger s t) := by
  unfold State.doTrigger
  try dsimp only
  repeat' (first | with_reducible assumption | with_reducible apply State.startUp_keeps | with_reducible apply keeps_ite | with_reducible apply keeps_foldl | fail_if_no_progress (with_reducible apply keeps_other) | with_reducible apply keeps_dropRegs | with_reducible apply keeps_dropMem | with_reducible apply keeps_dropBoth | (intro _; intros) | (refine keeps_of_some (by with_reducible assumption) ?_) | (refine keeps_of_fst (by with_reducible assumption) ?_) | split)

theorem State.fire_keeps {z0 : State} {s : State} (p : TriggerX → Bool)  (hK : Keeps z0 s) :
    Keeps z0 (State.fire s p) := by
  unfold State.fire
  try dsimp only
  repeat' (first | with_reducible assumption | with_reducible apply State.doTrigger_keeps | with_reducible apply keeps_ite | with_reducible apply keeps_foldl | fail_if_no_progress (with_reducible apply keeps_other) | with_reducible apply keeps_dropRegs | with_reducible apply keeps_dropMem | with_reducible apply keeps_dropBoth | (intro _; intros) | (refine keeps_of_some (by with_reducible assumption) ?_) | (refine keeps_of_fst (by with_reducible assumption) ?_) | split)

theorem State.validFires_keeps {z0 s t : State} (n : Nat) (h : Keeps z0 t) : Keeps z0 (State.validFires n s t) := by
  induction n generalizing s t with
  | zero => exact h
  | succ n ih => exact keeps_ite (ih (State.fire_keeps _ h)) h

theorem State.triggered_keeps {z0 : State} {s : State} (f : State → State) (hf : ∀ y, Keeps z0 y → Keeps z0 (f y)) (hK : Keeps z0 s) :
    Keeps z0 (State.triggered s f) := by
  unfold State.triggered
  try dsimp only
  repeat' (first | with_reducible assumption | with_reducible apply hf | with_reducible apply State.validFires_keeps | with_reducible apply keeps_ite | with_reducible apply keeps_foldl | fail_if_no_progress (with_reducible apply keeps_other) | with_reducible apply keeps_dropRegs | with_reducible apply keeps_dropMem | with_reducible apply keeps_dropBoth | (intro _; intros) | (refine keeps_of_some (by with_reducible assumption) ?_) | (refine keeps_of_fst (by with_reducible assumption) ?_) | split)

theorem State.writeCtl_keeps {z0 : State} {s : State} (m : Nat) (w : Nat) (v : Word)  (hK : Keeps z0 s) :
    Keeps z0 (State.writeCtl s m w v) := by
  unfold State.writeCtl
  try dsimp only
  repeat' (first | with_reducible assumption | with_reducible apply State.triggered_keeps | with_reducible apply State.ctl_keeps | with_reducible apply State.guarded_keeps | with_reducible apply keeps_ite | with_reducible apply keeps_foldl | fail_if_no_progress (with_reducible apply keeps_other) | with_reducible apply keeps_dropRegs | with_reducible apply keeps_dropMem | with_reducible apply keeps_dropBoth | (intro _; intros) | (refine keeps_of_some (by with_reducible assumption) ?_) | (refine keeps_of_fst (by with_reducible assumption) ?_) | split)

theorem execUnitCtlWrite_keeps {z0 : State} (m : Master) (w : Fin 1024) (v : Word) {s : State}  (hK : Keeps z0 s) :
    KeepsOut z0 (execUnitCtlWrite m w v s) := by
  unfold execUnitCtlWrite
  try dsimp only
  repeat' (first | with_reducible assumption | with_reducible apply State.writeCtl_keeps | with_reducible apply keeps_ite | with_reducible apply keeps_foldl | with_reducible apply keepsOut_next | with_reducible apply keepsOut_ite | fail_if_no_progress (with_reducible apply keeps_other) | with_reducible apply keeps_dropRegs | with_reducible apply keeps_dropMem | with_reducible apply keeps_dropBoth | (intro _; intros) | (refine keeps_of_some (by with_reducible assumption) ?_) | (refine keeps_of_fst (by with_reducible assumption) ?_) | split)

theorem execCompositeCtlWrite_keeps {z0 : State} (m : Master) (w : Fin 1024) (v : Word) {s : State}  (hK : Keeps z0 s) :
    KeepsOut z0 (execCompositeCtlWrite m w v s) := by
  unfold execCompositeCtlWrite
  try dsimp only
  repeat' (first | with_reducible assumption | with_reducible apply State.writeCtl_keeps | with_reducible apply keeps_ite | with_reducible apply keeps_foldl | with_reducible apply keepsOut_next | with_reducible apply keepsOut_ite | fail_if_no_progress (with_reducible apply keeps_other) | with_reducible apply keeps_dropRegs | with_reducible apply keeps_dropMem | with_reducible apply keeps_dropBoth | (intro _; intros) | (refine keeps_of_some (by with_reducible assumption) ?_) | (refine keeps_of_fst (by with_reducible assumption) ?_) | split)

theorem execSyncReset_keeps {z0 : State} (m : Master) (w : Fin 1024) (v : Word) {s : State}  (hK : Keeps z0 s) :
    KeepsOut z0 (execSyncReset m w v s) := by
  unfold execSyncReset
  try dsimp only
  repeat' (first | with_reducible assumption | with_reducible apply State.writeCtl_keeps | with_reducible apply keeps_ite | with_reducible apply keeps_foldl | with_reducible apply keepsOut_next | with_reducible apply keepsOut_ite | fail_if_no_progress (with_reducible apply keeps_other) | with_reducible apply keeps_dropRegs | with_reducible apply keeps_dropMem | with_reducible apply keeps_dropBoth | (intro _; intros) | (refine keeps_of_some (by with_reducible assumption) ?_) | (refine keeps_of_fst (by with_reducible assumption) ?_) | split)

theorem execApply_keeps {z0 : State} (m : Master) (w : Fin 1024) (v : Word) {s : State}  (hK : Keeps z0 s) :
    KeepsOut z0 (execApply m w v s) := by
  unfold execApply
  try dsimp only
  repeat' (first | with_reducible assumption | with_reducible apply State.writeCtl_keeps | with_reducible apply keeps_ite | with_reducible apply keeps_foldl | with_reducible apply keepsOut_next | with_reducible apply keepsOut_ite | fail_if_no_progress (with_reducible apply keeps_other) | with_reducible apply keeps_dropRegs | with_reducible apply keeps_dropMem | with_reducible apply keeps_dropBoth | (intro _; intros) | (refine keeps_of_some (by with_reducible assumption) ?_) | (refine keeps_of_fst (by with_reducible assumption) ?_) | split)

theorem execFaultClear_keeps {z0 : State} (m : Master) (w : Fin 1024) (v : Word) {s : State}  (hK : Keeps z0 s) :
    KeepsOut z0 (execFaultClear m w v s) := by
  unfold execFaultClear
  try dsimp only
  repeat' (first | with_reducible assumption | with_reducible apply State.writeCtl_keeps | with_reducible apply keeps_ite | with_reducible apply keeps_foldl | with_reducible apply keepsOut_next | with_reducible apply keepsOut_ite | fail_if_no_progress (with_reducible apply keeps_other) | with_reducible apply keeps_dropRegs | with_reducible apply keeps_dropMem | with_reducible apply keeps_dropBoth | (intro _; intros) | (refine keeps_of_some (by with_reducible assumption) ?_) | (refine keeps_of_fst (by with_reducible assumption) ?_) | split)

theorem State.takeStaged_keeps {z0 : State} {s : State} (w : Nat)  (hK : Keeps z0 s) :
    Keeps z0 (State.takeStaged s w).1 := by
  unfold State.takeStaged
  try dsimp only
  repeat' (first | with_reducible assumption | with_reducible apply State.selTake_keeps | with_reducible apply State.ddcTake_keeps | with_reducible apply State.feApply_keeps | with_reducible apply keeps_ite | with_reducible apply keeps_foldl | fail_if_no_progress (with_reducible apply keeps_other) | with_reducible apply keeps_dropRegs | with_reducible apply keeps_dropMem | with_reducible apply keeps_dropBoth | (intro _; intros) | (refine keeps_of_some (by with_reducible assumption) ?_) | (refine keeps_of_fst (by with_reducible assumption) ?_) | split)

theorem State.boundary_keeps {z0 : State} {s : State} (w : Nat)  (hK : Keeps z0 s) :
    Keeps z0 (State.boundary s w) := by
  unfold State.boundary
  try dsimp only
  repeat' (first | with_reducible assumption | with_reducible apply State.takeStaged_keeps | with_reducible apply State.applyDone_keeps | with_reducible apply State.setUnit_keeps | with_reducible apply keeps_ite | with_reducible apply keeps_foldl | fail_if_no_progress (with_reducible apply keeps_other) | with_reducible apply keeps_dropRegs | with_reducible apply keeps_dropMem | with_reducible apply keeps_dropBoth | (intro _; intros) | (refine keeps_of_some (by with_reducible assumption) ?_) | (refine keeps_of_fst (by with_reducible assumption) ?_) | split)

theorem execApplyTakesEffect_keeps {z0 : State} (w : Fin 1024) {s : State}  (hK : Keeps z0 s) :
    KeepsOut z0 (execApplyTakesEffect w s) := by
  unfold execApplyTakesEffect
  try dsimp only
  repeat' (first | with_reducible assumption | with_reducible apply State.boundary_keeps | with_reducible apply keeps_ite | with_reducible apply keeps_foldl | with_reducible apply keepsOut_next | with_reducible apply keepsOut_ite | fail_if_no_progress (with_reducible apply keeps_other) | with_reducible apply keeps_dropRegs | with_reducible apply keeps_dropMem | with_reducible apply keeps_dropBoth | (intro _; intros) | (refine keeps_of_some (by with_reducible assumption) ?_) | (refine keeps_of_fst (by with_reducible assumption) ?_) | split)

theorem execSelectionSwitch_keeps {z0 : State} (n : Fin 16) {s : State}  (hK : Keeps z0 s) :
    KeepsOut z0 (execSelectionSwitch n s) := by
  unfold execSelectionSwitch
  try dsimp only
  repeat' (first | with_reducible assumption | with_reducible apply State.boundary_keeps | with_reducible apply keeps_ite | with_reducible apply keeps_foldl | with_reducible apply keepsOut_next | with_reducible apply keepsOut_ite | fail_if_no_progress (with_reducible apply keeps_other) | with_reducible apply keeps_dropRegs | with_reducible apply keeps_dropMem | with_reducible apply keeps_dropBoth | (intro _; intros) | (refine keeps_of_some (by with_reducible assumption) ?_) | (refine keeps_of_fst (by with_reducible assumption) ?_) | split)

theorem execUnitCtlDeferred_keeps {z0 : State} (w : Fin 1024) {s : State}  (hK : Keeps z0 s) :
    KeepsOut z0 (execUnitCtlDeferred w s) := by
  unfold execUnitCtlDeferred
  try dsimp only
  repeat' (first | with_reducible assumption | with_reducible apply State.triggered_keeps | with_reducible apply State.ctl_keeps | with_reducible apply State.setUnit_keeps | with_reducible apply keeps_ite | with_reducible apply keeps_foldl | with_reducible apply keepsOut_next | with_reducible apply keepsOut_ite | fail_if_no_progress (with_reducible apply keeps_other) | with_reducible apply keeps_dropRegs | with_reducible apply keeps_dropMem | with_reducible apply keeps_dropBoth | (intro _; intros) | (refine keeps_of_some (by with_reducible assumption) ?_) | (refine keeps_of_fst (by with_reducible assumption) ?_) | split)

theorem execUnitPowerUpdate_keeps {z0 : State} {s : State}  (hK : Keeps z0 s) :
    KeepsOut z0 (execUnitPowerUpdate s) := by
  unfold execUnitPowerUpdate
  try dsimp only
  repeat' (first | with_reducible assumption | with_reducible apply State.useFresh_keeps | with_reducible apply State.put_keeps | with_reducible apply keeps_ite | with_reducible apply keeps_foldl | with_reducible apply keepsOut_next | with_reducible apply keepsOut_ite | fail_if_no_progress (with_reducible apply keeps_other) | with_reducible apply keeps_dropRegs | with_reducible apply keeps_dropMem | with_reducible apply keeps_dropBoth | (intro _; intros) | (refine keeps_of_some (by with_reducible assumption) ?_) | (refine keeps_of_fst (by with_reducible assumption) ?_) | split)

theorem State.pushFifo_keeps {z0 : State} {s : State} (toHost : Bool) (n : Nat) (v : Word)  (hK : Keeps z0 s) :
    Keeps z0 (State.pushFifo s toHost n v) := by
  unfold State.pushFifo
  try dsimp only
  repeat' (first | with_reducible assumption | with_reducible apply State.onPigeon_keeps | with_reducible apply State.setFifo_keeps | with_reducible apply State.raise_keeps | with_reducible apply keeps_ite | with_reducible apply keeps_foldl | fail_if_no_progress (with_reducible apply keeps_other) | with_reducible apply keeps_dropRegs | with_reducible apply keeps_dropMem | with_reducible apply keeps_dropBoth | (intro _; intros) | (refine keeps_of_some (by with_reducible assumption) ?_) | (refine keeps_of_fst (by with_reducible assumption) ?_) | split)

theorem State.emptyNotice_keeps {z0 : State} {s : State} (toHost : Bool) (n : Nat)  (hK : Keeps z0 s) :
    Keeps z0 (State.emptyNotice s toHost n) := by
  unfold State.emptyNotice
  try dsimp only
  repeat' (first | with_reducible assumption | with_reducible apply State.setFifo_keeps | with_reducible apply State.raise_keeps | with_reducible apply keeps_ite | with_reducible apply keeps_foldl | fail_if_no_progress (with_reducible apply keeps_other) | with_reducible apply keeps_dropRegs | with_reducible apply keeps_dropMem | with_reducible apply keeps_dropBoth | (intro _; intros) | (refine keeps_of_some (by with_reducible assumption) ?_) | (refine keeps_of_fst (by with_reducible assumption) ?_) | split)

theorem State.popFifo_keeps {z0 : State} {s : State} (toHost : Bool) (n : Nat)  (hK : Keeps z0 s) :
    Keeps z0 (State.popFifo s toHost n) := by
  unfold State.popFifo
  try dsimp only
  repeat' (first | with_reducible assumption | with_reducible apply State.emptyNotice_keeps | with_reducible apply State.drainOutbox_keeps | with_reducible apply State.setFifo_keeps | with_reducible apply State.ans_keeps | with_reducible apply keeps_ite | with_reducible apply keeps_foldl | with_reducible apply keepsOut_next | with_reducible apply keepsOut_ite | fail_if_no_progress (with_reducible apply keeps_other) | with_reducible apply keeps_dropRegs | with_reducible apply keeps_dropMem | with_reducible apply keeps_dropBoth | (intro _; intros) | (refine keeps_of_some (by with_reducible assumption) ?_) | (refine keeps_of_fst (by with_reducible assumption) ?_) | split)

theorem State.reqEmpty_keeps {z0 : State} {s : State} (toHost : Bool) (n : Nat)  (hK : Keeps z0 s) :
    Keeps z0 (State.reqEmpty s toHost n) := by
  unfold State.reqEmpty
  try dsimp only
  repeat' (first | with_reducible assumption | with_reducible apply State.emptyNotice_keeps | with_reducible apply State.onPigeon_keeps | with_reducible apply State.setFifo_keeps | with_reducible apply keeps_ite | with_reducible apply keeps_foldl | fail_if_no_progress (with_reducible apply keeps_other) | with_reducible apply keeps_dropRegs | with_reducible apply keeps_dropMem | with_reducible apply keeps_dropBoth | (intro _; intros) | (refine keeps_of_some (by with_reducible assumption) ?_) | (refine keeps_of_fst (by with_reducible assumption) ?_) | split)

theorem State.dropTd_keeps {z0 : State} {s : State} (n : Nat)  (hK : Keeps z0 s) :
    Keeps z0 (State.dropTd s n) := by
  unfold State.dropTd
  try dsimp only
  repeat' (first | with_reducible assumption | with_reducible apply State.emptyNotice_keeps | with_reducible apply State.setFifo_keeps | with_reducible apply keeps_ite | with_reducible apply keeps_foldl | fail_if_no_progress (with_reducible apply keeps_other) | with_reducible apply keeps_dropRegs | with_reducible apply keeps_dropMem | with_reducible apply keeps_dropBoth | (intro _; intros) | (refine keeps_of_some (by with_reducible assumption) ?_) | (refine keeps_of_fst (by with_reducible assumption) ?_) | split)

theorem State.rejectLong_keeps {z0 : State} {s : State} (n : Nat) (v : Word)  (hK : Keeps z0 s) :
    Keeps z0 (State.rejectLong s n v) := by
  unfold State.rejectLong
  try dsimp only
  repeat' (first | with_reducible assumption | with_reducible apply State.dropTd_keeps | with_reducible apply State.reply_keeps | with_reducible apply State.setAx_keeps | with_reducible apply keeps_ite | with_reducible apply keeps_foldl | fail_if_no_progress (with_reducible apply keeps_other) | with_reducible apply keeps_dropRegs | with_reducible apply keeps_dropMem | with_reducible apply keeps_dropBoth | (intro _; intros) | (refine keeps_of_some (by with_reducible assumption) ?_) | (refine keeps_of_fst (by with_reducible assumption) ?_) | split)

theorem State.tdPush_keeps {z0 : State} {s : State} (n : Nat) (v : Word)  (hK : Keeps z0 s) :
    Keeps z0 (State.tdPush s n v) := by
  unfold State.tdPush
  try dsimp only
  repeat' (first | with_reducible assumption | with_reducible apply State.rejectLong_keeps | with_reducible apply State.pushFifo_keeps | with_reducible apply State.setAx_keeps | with_reducible apply keeps_ite | with_reducible apply keeps_foldl | fail_if_no_progress (with_reducible apply keeps_other) | with_reducible apply keeps_dropRegs | with_reducible apply keeps_dropMem | with_reducible apply keeps_dropBoth | (intro _; intros) | (refine keeps_of_some (by with_reducible assumption) ?_) | (refine keeps_of_fst (by with_reducible assumption) ?_) | split)

theorem execPhTdPush_keeps {z0 : State} (m : Master) (ph : Fin 8) (v : Word) {s : State}  (hK : Keeps z0 s) :
    KeepsOut z0 (execPhTdPush m ph v s) := by
  unfold execPhTdPush
  try dsimp only
  repeat' (first | with_reducible assumption | with_reducible apply State.tdPush_keeps | with_reducible apply State.guarded_keeps | with_reducible apply keeps_ite | with_reducible apply keeps_foldl | with_reducible apply keepsOut_next | with_reducible apply keepsOut_ite | fail_if_no_progress (with_reducible apply keeps_other) | with_reducible apply keeps_dropRegs | with_reducible apply keeps_dropMem | with_reducible apply keeps_dropBoth | (intro _; intros) | (refine keeps_of_some (by with_reducible assumption) ?_) | (refine keeps_of_fst (by with_reducible assumption) ?_) | split)

theorem execPhTdPop_keeps {z0 : State} (a_m : Master) (ph : Fin 8) {s : State}  (hK : Keeps z0 s) :
    KeepsOut z0 (execPhTdPop a_m ph s) := by
  unfold execPhTdPop
  try dsimp only
  repeat' (first | with_reducible assumption | with_reducible apply State.popFifo_keeps | with_reducible apply keeps_ite | with_reducible apply keeps_foldl | with_reducible apply keepsOut_next | with_reducible apply keepsOut_ite | fail_if_no_progress (with_reducible apply keeps_other) | with_reducible apply keeps_dropRegs | with_reducible apply keeps_dropMem | with_reducible apply keeps_dropBoth | (intro _; intros) | (refine keeps_of_some (by with_reducible assumption) ?_) | (refine keeps_of_fst (by with_reducible assumption) ?_) | split)

theorem execPhThPush_keeps {z0 : State} (m : Master) (ph : Fin 8) (v : Word) {s : State}  (hK : Keeps z0 s) :
    KeepsOut z0 (execPhThPush m ph v s) := by
  unfold execPhThPush
  try dsimp only
  repeat' (first | with_reducible assumption | with_reducible apply State.pushFifo_keeps | with_reducible apply State.guarded_keeps | with_reducible apply keeps_ite | with_reducible apply keeps_foldl | with_reducible apply keepsOut_next | with_reducible apply keepsOut_ite | fail_if_no_progress (with_reducible apply keeps_other) | with_reducible apply keeps_dropRegs | with_reducible apply keeps_dropMem | with_reducible apply keeps_dropBoth | (intro _; intros) | (refine keeps_of_some (by with_reducible assumption) ?_) | (refine keeps_of_fst (by with_reducible assumption) ?_) | split)

theorem execPhThPop_keeps {z0 : State} (a_m : Master) (ph : Fin 8) {s : State}  (hK : Keeps z0 s) :
    KeepsOut z0 (execPhThPop a_m ph s) := by
  unfold execPhThPop
  try dsimp only
  repeat' (first | with_reducible assumption | with_reducible apply State.popFifo_keeps | with_reducible apply keeps_ite | with_reducible apply keeps_foldl | with_reducible apply keepsOut_next | with_reducible apply keepsOut_ite | fail_if_no_progress (with_reducible apply keeps_other) | with_reducible apply keeps_dropRegs | with_reducible apply keeps_dropMem | with_reducible apply keeps_dropBoth | (intro _; intros) | (refine keeps_of_some (by with_reducible assumption) ?_) | (refine keeps_of_fst (by with_reducible assumption) ?_) | split)

theorem execTdEmptyReq_keeps {z0 : State} (m : Master) (ph : Fin 8) {s : State}  (hK : Keeps z0 s) :
    KeepsOut z0 (execTdEmptyReq m ph s) := by
  unfold execTdEmptyReq
  try dsimp only
  repeat' (first | with_reducible assumption | with_reducible apply State.reqEmpty_keeps | with_reducible apply State.guarded_keeps | with_reducible apply keeps_ite | with_reducible apply keeps_foldl | with_reducible apply keepsOut_next | with_reducible apply keepsOut_ite | fail_if_no_progress (with_reducible apply keeps_other) | with_reducible apply keeps_dropRegs | with_reducible apply keeps_dropMem | with_reducible apply keeps_dropBoth | (intro _; intros) | (refine keeps_of_some (by with_reducible assumption) ?_) | (refine keeps_of_fst (by with_reducible assumption) ?_) | split)

theorem execThEmptyReq_keeps {z0 : State} (m : Master) (ph : Fin 8) {s : State}  (hK : Keeps z0 s) :
    KeepsOut z0 (execThEmptyReq m ph s) := by
  unfold execThEmptyReq
  try dsimp only
  repeat' (first | with_reducible assumption | with_reducible apply State.reqEmpty_keeps | with_reducible apply State.guarded_keeps | with_reducible apply keeps_ite | with_reducible apply keeps_foldl | with_reducible apply keepsOut_next | with_reducible apply keepsOut_ite | fail_if_no_progress (with_reducible apply keeps_other) | with_reducible apply keeps_dropRegs | with_reducible apply keeps_dropMem | with_reducible apply keeps_dropBoth | (intro _; intros) | (refine keeps_of_some (by with_reducible assumption) ?_) | (refine keeps_of_fst (by with_reducible assumption) ?_) | split)

theorem State.writePhStat_keeps {z0 : State} {s : State} (n : Nat) (v : Word)  (hK : Keeps z0 s) :
    Keeps z0 (State.writePhStat s n v) := by
  unfold State.writePhStat
  try dsimp only
  repeat' (first | with_reducible assumption | with_reducible apply State.reqEmpty_keeps | with_reducible apply State.setFifo_keeps | with_reducible apply keeps_ite | with_reducible apply keeps_foldl | fail_if_no_progress (with_reducible apply keeps_other) | with_reducible apply keeps_dropRegs | with_reducible apply keeps_dropMem | with_reducible apply keeps_dropBoth | (intro _; intros) | (refine keeps_of_some (by with_reducible assumption) ?_) | (refine keeps_of_fst (by with_reducible assumption) ?_) | split)

theorem State.serve_keeps {z0 : State} {s : State} (ph : Nat) (opcode : Nat) (tag : Nat) (body : State → State) (hbody : ∀ y, Keeps z0 y → Keeps z0 (body y)) (hK : Keeps z0 s) :
    Keeps z0 (State.serve s ph opcode tag body) := by
  unfold State.serve
  try dsimp only
  repeat' (first | with_reducible assumption | with_reducible apply hbody | with_reducible apply State.reply_keeps | with_reducible apply State.setFifo_keeps | with_reducible apply keeps_ite | with_reducible apply keeps_foldl | fail_if_no_progress (with_reducible apply keeps_other) | with_reducible apply keeps_dropRegs | with_reducible apply keeps_dropMem | with_reducible apply keeps_dropBoth | (intro _; intros) | (refine keeps_of_some (by with_reducible assumption) ?_) | (refine keeps_of_fst (by with_reducible assumption) ?_) | split)

theorem execMessageTimeout_keeps {z0 : State} (ph : Fin 8) {s : State}  (hK : Keeps z0 s) :
    KeepsOut z0 (execMessageTimeout ph s) := by
  unfold execMessageTimeout
  try dsimp only
  repeat' (first | with_reducible assumption | with_reducible apply State.dropTd_keeps | with_reducible apply State.reply_keeps | with_reducible apply State.setFifo_keeps | with_reducible apply keeps_ite | with_reducible apply keeps_foldl | with_reducible apply keepsOut_next | with_reducible apply keepsOut_ite | fail_if_no_progress (with_reducible apply keeps_other) | with_reducible apply keeps_dropRegs | with_reducible apply keeps_dropMem | with_reducible apply keeps_dropBoth | (intro _; intros) | (refine keeps_of_some (by with_reducible assumption) ?_) | (refine keeps_of_fst (by with_reducible assumption) ?_) | split)

theorem execUnknownOpcode_keeps {z0 : State} (ph : Fin 8) (tag : BitVec 8) (opcode : BitVec 8) {s : State}  (hK : Keeps z0 s) :
    KeepsOut z0 (execUnknownOpcode ph tag opcode s) := by
  unfold execUnknownOpcode
  try dsimp only
  repeat' (first | with_reducible assumption | with_reducible apply State.serve_keeps | with_reducible apply State.reply_keeps | with_reducible apply keeps_ite | with_reducible apply keeps_foldl | with_reducible apply keepsOut_next | with_reducible apply keepsOut_ite | fail_if_no_progress (with_reducible apply keeps_other) | with_reducible apply keeps_dropRegs | with_reducible apply keeps_dropMem | with_reducible apply keeps_dropBoth | (intro _; intros) | (refine keeps_of_some (by with_reducible assumption) ?_) | (refine keeps_of_fst (by with_reducible assumption) ?_) | split)

theorem execSysPing_keeps {z0 : State} (ph : Fin 8) (tag : BitVec 8) (args : List Word) {s : State}  (hK : Keeps z0 s) :
    KeepsOut z0 (execSysPing ph tag args s) := by
  unfold execSysPing
  try dsimp only
  repeat' (first | with_reducible assumption | with_reducible apply State.serve_keeps | with_reducible apply State.reply_keeps | with_reducible apply keeps_ite | with_reducible apply keeps_foldl | with_reducible apply keepsOut_next | with_reducible apply keepsOut_ite | fail_if_no_progress (with_reducible apply keeps_other) | with_reducible apply keeps_dropRegs | with_reducible apply keeps_dropMem | with_reducible apply keeps_dropBoth | (intro _; intros) | (refine keeps_of_some (by with_reducible assumption) ?_) | (refine keeps_of_fst (by with_reducible assumption) ?_) | split)

theorem execSysVersion_keeps {z0 : State} (ph : Fin 8) (tag : BitVec 8) {s : State}  (hK : Keeps z0 s) :
    KeepsOut z0 (execSysVersion ph tag s) := by
  unfold execSysVersion
  try dsimp only
  repeat' (first | with_reducible assumption | with_reducible apply State.serve_keeps | with_reducible apply State.reply_keeps | with_reducible apply keeps_ite | with_reducible apply keeps_foldl | with_reducible apply keepsOut_next | with_reducible apply keepsOut_ite | fail_if_no_progress (with_reducible apply keeps_other) | with_reducible apply keeps_dropRegs | with_reducible apply keeps_dropMem | with_reducible apply keeps_dropBoth | (intro _; intros) | (refine keeps_of_some (by with_reducible assumption) ?_) | (refine keeps_of_fst (by with_reducible assumption) ?_) | split)

theorem execSysFault_keeps {z0 : State} (ph : Fin 8) (tag : BitVec 8) {s : State}  (hK : Keeps z0 s) :
    KeepsOut z0 (execSysFault ph tag s) := by
  unfold execSysFault
  try dsimp only
  repeat' (first | with_reducible assumption | with_reducible apply State.serve_keeps | with_reducible apply State.reply_keeps | with_reducible apply keeps_ite | with_reducible apply keeps_foldl | with_reducible apply keepsOut_next | with_reducible apply keepsOut_ite | fail_if_no_progress (with_reducible apply keeps_other) | with_reducible apply keeps_dropRegs | with_reducible apply keeps_dropMem | with_reducible apply keeps_dropBoth | (intro _; intros) | (refine keeps_of_some (by with_reducible assumption) ?_) | (refine keeps_of_fst (by with_reducible assumption) ?_) | split)

theorem execSysNoticeCfg_keeps {z0 : State} (ph : Fin 8) (tag : BitVec 8) (mask : Word) {s : State}  (hK : Keeps z0 s) :
    KeepsOut z0 (execSysNoticeCfg ph tag mask s) := by
  unfold execSysNoticeCfg
  try dsimp only
  repeat' (first | with_reducible assumption | with_reducible apply State.serve_keeps | with_reducible apply State.reply_keeps | with_reducible apply keeps_ite | with_reducible apply keeps_foldl | with_reducible apply keepsOut_next | with_reducible apply keepsOut_ite | fail_if_no_progress (with_reducible apply keeps_other) | with_reducible apply keeps_dropRegs | with_reducible apply keeps_dropMem | with_reducible apply keeps_dropBoth | (intro _; intros) | (refine keeps_of_some (by with_reducible assumption) ?_) | (refine keeps_of_fst (by with_reducible assumption) ?_) | split)

theorem execBellRing_keeps {z0 : State} (m : Master) (toHost : Bool) (v : Word) {s : State}  (hK : Keeps z0 s) :
    KeepsOut z0 (execBellRing m toHost v s) := by
  unfold execBellRing
  try dsimp only
  repeat' (first | with_reducible assumption | with_reducible apply State.guarded_keeps | with_reducible apply State.ringBells_keeps | with_reducible apply keeps_ite | with_reducible apply keeps_foldl | with_reducible apply keepsOut_next | with_reducible apply keepsOut_ite | fail_if_no_progress (with_reducible apply keeps_other) | with_reducible apply keeps_dropRegs | with_reducible apply keeps_dropMem | with_reducible apply keeps_dropBoth | (intro _; intros) | (refine keeps_of_some (by with_reducible assumption) ?_) | (refine keeps_of_fst (by with_reducible assumption) ?_) | split)

theorem execBellClear_keeps {z0 : State} (m : Master) (toHost : Bool) (v : Word) {s : State}  (hK : Keeps z0 s) :
    KeepsOut z0 (execBellClear m toHost v s) := by
  unfold execBellClear
  try dsimp only
  repeat' (first | with_reducible assumption | with_reducible apply State.guarded_keeps | with_reducible apply keeps_ite | with_reducible apply keeps_foldl | with_reducible apply keepsOut_next | with_reducible apply keepsOut_ite | fail_if_no_progress (with_reducible apply keeps_other) | with_reducible apply keeps_dropRegs | with_reducible apply keeps_dropMem | with_reducible apply keeps_dropBoth | (intro _; intros) | (refine keeps_of_some (by with_reducible assumption) ?_) | (refine keeps_of_fst (by with_reducible assumption) ?_) | split)

theorem State.clearLatches_keeps {z0 : State} {s : State} (k : Nat) (v : Word)  (hK : Keeps z0 s) :
    Keeps z0 (State.clearLatches s k v) := by
  unfold State.clearLatches
  try dsimp only
  repeat' (first | with_reducible assumption | with_reducible apply keeps_ite | with_reducible apply keeps_foldl | fail_if_no_progress (with_reducible apply keeps_other) | with_reducible apply keeps_dropRegs | with_reducible apply keeps_dropMem | with_reducible apply keeps_dropBoth | (intro _; intros) | (refine keeps_of_some (by with_reducible assumption) ?_) | (refine keeps_of_fst (by with_reducible assumption) ?_) | split)

theorem execEventLatchClear_keeps {z0 : State} (m : Master) (k : Fin 4) (v : Word) {s : State}  (hK : Keeps z0 s) :
    KeepsOut z0 (execEventLatchClear m k v s) := by
  unfold execEventLatchClear
  try dsimp only
  repeat' (first | with_reducible assumption | with_reducible apply State.clearLatches_keeps | with_reducible apply State.guarded_keeps | with_reducible apply keeps_ite | with_reducible apply keeps_foldl | with_reducible apply keepsOut_next | with_reducible apply keepsOut_ite | fail_if_no_progress (with_reducible apply keeps_other) | with_reducible apply keeps_dropRegs | with_reducible apply keeps_dropMem | with_reducible apply keeps_dropBoth | (intro _; intros) | (refine keeps_of_some (by with_reducible assumption) ?_) | (refine keeps_of_fst (by with_reducible assumption) ?_) | split)

theorem State.withSummaries_keeps {z0 : State} {s : State} (f : State → State) (hf : ∀ y, Keeps z0 y → Keeps z0 (f y)) (hK : Keeps z0 s) :
    Keeps z0 (State.withSummaries s f) := by
  unfold State.withSummaries
  try dsimp only
  repeat' (first | with_reducible assumption | with_reducible apply hf | with_reducible apply State.occur_keeps | with_reducible apply keeps_ite | with_reducible apply keeps_foldl | fail_if_no_progress (with_reducible apply keeps_other) | with_reducible apply keeps_dropRegs | with_reducible apply keeps_dropMem | with_reducible apply keeps_dropBoth | (intro _; intros) | (refine keeps_of_some (by with_reducible assumption) ?_) | (refine keeps_of_fst (by with_reducible assumption) ?_) | split)

theorem State.recentre_keeps {z0 : State} {s : State} (f : Nat)  (hK : Keeps z0 s) :
    Keeps z0 (State.recentre s f) := by
  unfold State.recentre
  try dsimp only
  repeat' (first | with_reducible assumption | with_reducible apply State.laneSteer_keeps | with_reducible apply State.recentred_keeps | with_reducible apply State.setAx_keeps | with_reducible apply keeps_ite | with_reducible apply keeps_foldl | fail_if_no_progress (with_reducible apply keeps_other) | with_reducible apply keeps_dropRegs | with_reducible apply keeps_dropMem | with_reducible apply keeps_dropBoth | (intro _; intros) | (refine keeps_of_some (by with_reducible assumption) ?_) | (refine keeps_of_fst (by with_reducible assumption) ?_) | split)

theorem State.folRest_keeps {z0 : State} {s : State} (f : Nat)  (hK : Keeps z0 s) :
    Keeps z0 (State.folRest s f) := by
  unfold State.folRest
  try dsimp only
  repeat' (first | with_reducible assumption | with_reducible apply State.setAx_keeps | with_reducible apply State.put_keeps | with_reducible apply State.wr_keeps | with_reducible apply keeps_ite | with_reducible apply keeps_foldl | fail_if_no_progress (with_reducible apply keeps_other) | with_reducible apply keeps_dropRegs | with_reducible apply keeps_dropMem | with_reducible apply keeps_dropBoth | (intro _; intros) | (refine keeps_of_some (by with_reducible assumption) ?_) | (refine keeps_of_fst (by with_reducible assumption) ?_) | split)

theorem State.folRelease_keeps {z0 : State} {s : State} (f : Nat)  (hK : Keeps z0 s) :
    Keeps z0 (State.folRelease s f) := by
  unfold State.folRelease
  try dsimp only
  repeat' (first | with_reducible assumption | with_reducible apply State.dropScouts_keeps | with_reducible apply keeps_ite | with_reducible apply keeps_foldl | fail_if_no_progress (with_reducible apply keeps_other) | with_reducible apply keeps_dropRegs | with_reducible apply keeps_dropMem | with_reducible apply keeps_dropBoth | (intro _; intros) | (refine keeps_of_some (by with_reducible assumption) ?_) | (refine keeps_of_fst (by with_reducible assumption) ?_) | split)

theorem State.followCtl_keeps {z0 : State} {s : State} (f : Nat) (v : Word)  (hK : Keeps z0 s) :
    Keeps z0 (State.followCtl s f v) := by
  unfold State.followCtl
  try dsimp only
  repeat' (first | with_reducible assumption | with_reducible apply State.folRelease_keeps | with_reducible apply State.folRest_keeps | with_reducible apply State.recentre_keeps | with_reducible apply State.store_keeps | with_reducible apply keeps_ite | with_reducible apply keeps_foldl | fail_if_no_progress (with_reducible apply keeps_other) | with_reducible apply keeps_dropRegs | with_reducible apply keeps_dropMem | with_reducible apply keeps_dropBoth | (intro _; intros) | (refine keeps_of_some (by with_reducible assumption) ?_) | (refine keeps_of_fst (by with_reducible assumption) ?_) | split)

theorem State.stage_keeps {z0 : State} {s : State} (w : Nat) (off : Nat) (v : Word)  (hK : Keeps z0 s) :
    Keeps z0 (State.stage s w off v) := by
  unfold State.stage
  try dsimp only
  repeat' (first | with_reducible assumption | with_reducible apply State.store_keeps | with_reducible apply State.setUnit_keeps | with_reducible apply keeps_ite | with_reducible apply keeps_foldl | fail_if_no_progress (with_reducible apply keeps_other) | with_reducible apply keeps_dropRegs | with_reducible apply keeps_dropMem | with_reducible apply keeps_dropBoth | (intro _; intros) | (refine keeps_of_some (by with_reducible assumption) ?_) | (refine keeps_of_fst (by with_reducible assumption) ?_) | split)

theorem State.unitWritten_keeps {z0 : State} {s : State} (w : Nat) (off : Nat) (v : Word)  (hK : Keeps z0 s) :
    Keeps z0 (State.unitWritten s w off v) := by
  unfold State.unitWritten
  try dsimp only
  repeat' (first | with_reducible assumption | with_reducible apply State.stage_keeps | with_reducible apply State.followCtl_keeps | with_reducible apply State.withSummaries_keeps | with_reducible apply State.feedCtl_keeps | with_reducible apply State.railTo_keeps | with_reducible apply State.twcCmd_keeps | with_reducible apply State.twcPush_keeps | with_reducible apply State.grpGo_keeps | with_reducible apply State.grpWritten_keeps | with_reducible apply State.portCtlWritten_keeps | with_reducible apply State.portCfgWritten_keeps | with_reducible apply State.gainWritten_keeps | with_reducible apply State.serveSelect_keeps | with_reducible apply State.detWritten_keeps | with_reducible apply State.swap_keeps | with_reducible apply State.divWritten_keeps | with_reducible apply State.calCtl_keeps | with_reducible apply State.agcWritten_keeps | with_reducible apply State.consTo_keeps | with_reducible apply State.store_keeps | with_reducible apply State.wr_keeps | with_reducible apply keeps_ite | with_reducible apply keeps_foldl | fail_if_no_progress (with_reducible apply keeps_other) | with_reducible apply keeps_dropRegs | with_reducible apply keeps_dropMem | with_reducible apply keeps_dropBoth | (intro _; intros) | (refine keeps_of_some (by with_reducible assumption) ?_) | (refine keeps_of_fst (by with_reducible assumption) ?_) | split)

end Sys2Proof.Machine
end

