-- ==== Sys2Proof/Laws/KeepsGuest.lean ====
section
/-! SUPPORT. What every operation of Image, Guestbook, SideData, Scan, Follow keeps: the canonical form, the part and the queue. -/

set_option linter.unusedTactic false
set_option linter.unreachableTactic false

namespace Sys2Proof.Machine

theorem State.restartKind_keeps {z0 : State} {s0 : State} (w : Nat) (goesOn : Bool)  (hK : Keeps z0 s0) :
    Keeps z0 (State.restartKind s0 w goesOn) := by
  unfold State.restartKind
  try dsimp only
  repeat' (first | with_reducible assumption | with_reducible apply State.tapClear_keeps | with_reducible apply keeps_ite | with_reducible apply keeps_foldl | fail_if_no_progress (with_reducible apply keeps_other) | with_reducible apply keeps_dropRegs | with_reducible apply keeps_dropMem | with_reducible apply keeps_dropBoth | (intro _; intros) | (refine keeps_of_some (by with_reducible assumption) ?_) | (refine keeps_of_fst (by with_reducible assumption) ?_) | split)

theorem State.putCoefs_keeps {z0 s : State} (w b i : Nat) (vs : List Nat) (h : Keeps z0 s) :
    Keeps z0 (s.putCoefs w b i vs) := by
  induction vs generalizing s i with
  | nil => exact h
  | cons v vs ih => exact ih _ (State.wr_keeps _ _ _ h)

theorem State.plainWrite_keeps {z0 : State} {s : State} (m : MWrite)  (hK : Keeps z0 s) :
    Keeps z0 (State.plainWrite s m) := by
  unfold State.plainWrite
  try dsimp only
  repeat' (first | with_reducible assumption | with_reducible apply State.store_keeps | with_reducible apply State.wr_keeps | with_reducible apply keeps_ite | with_reducible apply keeps_foldl | fail_if_no_progress (with_reducible apply keeps_other) | with_reducible apply keeps_dropRegs | with_reducible apply keeps_dropMem | with_reducible apply keeps_dropBoth | (intro _; intros) | (refine keeps_of_some (by with_reducible assumption) ?_) | (refine keeps_of_fst (by with_reducible assumption) ?_) | split)

theorem State.showAlloc_keeps {z0 : State} {s : State} (a : AllocX)  (hK : Keeps z0 s) :
    Keeps z0 (State.showAlloc s a) := by
  unfold State.showAlloc
  try dsimp only
  repeat' (first | with_reducible assumption | with_reducible apply State.put_keeps | with_reducible apply State.wr_keeps | with_reducible apply keeps_ite | with_reducible apply keeps_foldl | fail_if_no_progress (with_reducible apply keeps_other) | with_reducible apply keeps_dropRegs | with_reducible apply keeps_dropMem | with_reducible apply keeps_dropBoth | (intro _; intros) | (refine keeps_of_some (by with_reducible assumption) ?_) | (refine keeps_of_fst (by with_reducible assumption) ?_) | split)

theorem State.planned_keeps {z0 : State} {s : State} (am : Nat) (im : List Nat) (rs : List MRec)  (hK : Keeps z0 s) :
    Keeps z0 (State.planned s am im rs) := by
  unfold State.planned
  try dsimp only
  repeat' (first | with_reducible assumption | with_reducible apply State.showAlloc_keeps | with_reducible apply State.plainWrite_keeps | with_reducible apply State.restartKind_keeps | with_reducible apply keeps_ite | with_reducible apply keeps_foldl | fail_if_no_progress (with_reducible apply keeps_other) | with_reducible apply keeps_dropRegs | with_reducible apply keeps_dropMem | with_reducible apply keeps_dropBoth | (intro _; intros) | (refine keeps_of_some (by with_reducible assumption) ?_) | (refine keeps_of_fst (by with_reducible assumption) ?_) | split)

theorem State.gbDirty_keeps {z0 : State} {s : State} (i : Nat)  (hK : Keeps z0 s) :
    Keeps z0 (State.gbDirty s i) := by
  unfold State.gbDirty
  try dsimp only
  repeat' (first | with_reducible assumption | with_reducible apply keeps_ite | with_reducible apply keeps_foldl | fail_if_no_progress (with_reducible apply keeps_other) | with_reducible apply keeps_dropRegs | with_reducible apply keeps_dropMem | with_reducible apply keeps_dropBoth | (intro _; intros) | (refine keeps_of_some (by with_reducible assumption) ?_) | (refine keeps_of_fst (by with_reducible assumption) ?_) | split)

theorem State.gbPut_keeps {z0 : State} {s : State} (i : Nat) (r : GRec)  (hK : Keeps z0 s) :
    Keeps z0 (State.gbPut s i r) := by
  unfold State.gbPut
  try dsimp only
  repeat' (first | with_reducible assumption | with_reducible apply State.wrWords_keeps | with_reducible apply keeps_ite | with_reducible apply keeps_foldl | fail_if_no_progress (with_reducible apply keeps_other) | with_reducible apply keeps_dropRegs | with_reducible apply keeps_dropMem | with_reducible apply keeps_dropBoth | (intro _; intros) | (refine keeps_of_some (by with_reducible assumption) ?_) | (refine keeps_of_fst (by with_reducible assumption) ?_) | split)

theorem State.gbChange_keeps {z0 : State} {s : State} (code : Nat) (idx : Nat) (old : Nat) (r : GRec)  (hK : Keeps z0 s) :
    Keeps z0 (State.gbChange s code idx old r) := by
  unfold State.gbChange
  try dsimp only
  repeat' (first | with_reducible assumption | with_reducible apply State.placeRec_keeps | with_reducible apply State.raise_keeps | with_reducible apply State.mirrorMsg_keeps | with_reducible apply keeps_ite | with_reducible apply keeps_foldl | fail_if_no_progress (with_reducible apply keeps_other) | with_reducible apply keeps_dropRegs | with_reducible apply keeps_dropMem | with_reducible apply keeps_dropBoth | (intro _; intros) | (refine keeps_of_some (by with_reducible assumption) ?_) | (refine keeps_of_fst (by with_reducible assumption) ?_) | split)

theorem State.gbSet_keeps {z0 : State} {s : State} (i : Nat) (r : GRec)  (hK : Keeps z0 s) :
    Keeps z0 (State.gbSet s i r) := by
  unfold State.gbSet
  try dsimp only
  repeat' (first | with_reducible assumption | with_reducible apply State.gbChange_keeps | with_reducible apply State.gbPut_keeps | with_reducible apply State.gbDirty_keeps | with_reducible apply keeps_ite | with_reducible apply keeps_foldl | fail_if_no_progress (with_reducible apply keeps_other) | with_reducible apply keeps_dropRegs | with_reducible apply keeps_dropMem | with_reducible apply keeps_dropBoth | (intro _; intros) | (refine keeps_of_some (by with_reducible assumption) ?_) | (refine keeps_of_fst (by with_reducible assumption) ?_) | split)

theorem State.gbTimes_keeps {z0 : State} {s : State} (i : Nat) (j : Option Nat)  (hK : Keeps z0 s) :
    Keeps z0 (State.gbTimes s i j) := by
  unfold State.gbTimes
  try dsimp only
  repeat' (first | with_reducible assumption | with_reducible apply keeps_ite | with_reducible apply keeps_foldl | fail_if_no_progress (with_reducible apply keeps_other) | with_reducible apply keeps_dropRegs | with_reducible apply keeps_dropMem | with_reducible apply keeps_dropBoth | (intro _; intros) | (refine keeps_of_some (by with_reducible assumption) ?_) | (refine keeps_of_fst (by with_reducible assumption) ?_) | split)

theorem State.gbUnring_keeps {z0 : State} {s : State} (i : Nat)  (hK : Keeps z0 s) :
    Keeps z0 (State.gbUnring s i) := by
  unfold State.gbUnring
  try dsimp only
  repeat' (first | with_reducible assumption | with_reducible apply State.gbSet_keeps | with_reducible apply keeps_ite | with_reducible apply keeps_foldl | fail_if_no_progress (with_reducible apply keeps_other) | with_reducible apply keeps_dropRegs | with_reducible apply keeps_dropMem | with_reducible apply keeps_dropBoth | (intro _; intros) | (refine keeps_of_some (by with_reducible assumption) ?_) | (refine keeps_of_fst (by with_reducible assumption) ?_) | split)

theorem State.gbJoin_keeps {z0 : State} {s : State} (a : Nat) (b : Nat) (hard : Bool)  (hK : Keeps z0 s) :
    Keeps z0 (State.gbJoin s a b hard) := by
  unfold State.gbJoin
  try dsimp only
  repeat' (first | with_reducible assumption | with_reducible apply State.gbSet_keeps | with_reducible apply State.raise_keeps | with_reducible apply keeps_ite | with_reducible apply keeps_foldl | fail_if_no_progress (with_reducible apply keeps_other) | with_reducible apply keeps_dropRegs | with_reducible apply keeps_dropMem | with_reducible apply keeps_dropBoth | (intro _; intros) | (refine keeps_of_some (by with_reducible assumption) ?_) | (refine keeps_of_fst (by with_reducible assumption) ?_) | split)

theorem State.gbMove_keeps {z0 : State} {s : State} (i : Nat) (hole : Nat)  (hK : Keeps z0 s) :
    Keeps z0 (State.gbMove s i hole) := by
  unfold State.gbMove
  try dsimp only
  repeat' (first | with_reducible assumption | with_reducible apply State.gbTimes_keeps | with_reducible apply State.gbSet_keeps | with_reducible apply State.gbChange_keeps | with_reducible apply State.gbPut_keeps | with_reducible apply State.gbDirty_keeps | with_reducible apply State.wr_keeps | with_reducible apply keeps_ite | with_reducible apply keeps_foldl | fail_if_no_progress (with_reducible apply keeps_other) | with_reducible apply keeps_dropRegs | with_reducible apply keeps_dropMem | with_reducible apply keeps_dropBoth | (intro _; intros) | (refine keeps_of_some (by with_reducible assumption) ?_) | (refine keeps_of_fst (by with_reducible assumption) ?_) | split)

theorem State.gbClose_keeps {z0 s : State} (n hole j : Nat) (h : Keeps z0 s) : Keeps z0 (s.gbClose n hole j) := by
  induction n generalizing s hole j with
  | zero => exact h
  | succ n ih =>
    unfold State.gbClose
    exact keeps_ite h (keeps_ite (ih _ _ h) (ih _ _ (State.gbMove_keeps _ _ h)))

theorem State.gbVacate_keeps {z0 : State} {s : State} (i : Nat)  (hK : Keeps z0 s) :
    Keeps z0 (State.gbVacate s i) := by
  unfold State.gbVacate
  try dsimp only
  repeat' (first | with_reducible assumption | with_reducible apply State.gbUnring_keeps | with_reducible apply State.gbTimes_keeps | with_reducible apply State.gbChange_keeps | with_reducible apply State.gbPut_keeps | with_reducible apply State.gbDirty_keeps | with_reducible apply keeps_ite | with_reducible apply keeps_foldl | fail_if_no_progress (with_reducible apply keeps_other) | with_reducible apply keeps_dropRegs | with_reducible apply keeps_dropMem | with_reducible apply keeps_dropBoth | (intro _; intros) | (refine keeps_of_some (by with_reducible assumption) ?_) | (refine keeps_of_fst (by with_reducible assumption) ?_) | split)

theorem State.gbFree_keeps {z0 : State} {s : State} (i : Nat)  (hK : Keeps z0 s) :
    Keeps z0 (State.gbFree s i) := by
  unfold State.gbFree
  try dsimp only
  repeat' (first | with_reducible assumption | with_reducible apply State.gbVacate_keeps | with_reducible apply State.gbClose_keeps | with_reducible apply keeps_ite | with_reducible apply keeps_foldl | fail_if_no_progress (with_reducible apply keeps_other) | with_reducible apply keeps_dropRegs | with_reducible apply keeps_dropMem | with_reducible apply keeps_dropBoth | (intro _; intros) | (refine keeps_of_some (by with_reducible assumption) ?_) | (refine keeps_of_fst (by with_reducible assumption) ?_) | split)

theorem State.gbInsert_keeps {z0 : State} {s : State} (r : GRec)  (hK : Keeps z0 s) :
    Keeps z0 (State.gbInsert s r).1 := by
  unfold State.gbInsert
  try dsimp only
  repeat' (first | with_reducible assumption | with_reducible apply State.gbVacate_keeps | with_reducible apply State.gbChange_keeps | with_reducible apply State.gbPut_keeps | with_reducible apply State.gbDirty_keeps | with_reducible apply State.raise_keeps | with_reducible apply keeps_ite | with_reducible apply keeps_foldl | fail_if_no_progress (with_reducible apply keeps_other) | with_reducible apply keeps_dropRegs | with_reducible apply keeps_dropMem | with_reducible apply keeps_dropBoth | (intro _; intros) | (refine keeps_of_some (by with_reducible assumption) ?_) | (refine keeps_of_fst (by with_reducible assumption) ?_) | split)

theorem State.gbJoinEqual_keeps {z0 : State} {s : State} (i : Nat)  (hK : Keeps z0 s) :
    Keeps z0 (State.gbJoinEqual s i) := by
  unfold State.gbJoinEqual
  try dsimp only
  repeat' (first | with_reducible assumption | with_reducible apply State.gbJoin_keeps | with_reducible apply keeps_ite | with_reducible apply keeps_foldl | fail_if_no_progress (with_reducible apply keeps_other) | with_reducible apply keeps_dropRegs | with_reducible apply keeps_dropMem | with_reducible apply keeps_dropBoth | (intro _; intros) | (refine keeps_of_some (by with_reducible assumption) ?_) | (refine keeps_of_fst (by with_reducible assumption) ?_) | split)

theorem State.gbHear_keeps {z0 : State} {s : State} (h : Heard)  (hK : Keeps z0 s) :
    Keeps z0 (State.gbHear s h) := by
  unfold State.gbHear
  try dsimp only
  repeat' (first | with_reducible assumption | with_reducible apply State.gbJoinEqual_keeps | with_reducible apply State.gbInsert_keeps | with_reducible apply State.gbSet_keeps | with_reducible apply keeps_ite | with_reducible apply keeps_foldl | fail_if_no_progress (with_reducible apply keeps_other) | with_reducible apply keeps_dropRegs | with_reducible apply keeps_dropMem | with_reducible apply keeps_dropBoth | (intro _; intros) | (refine keeps_of_some (by with_reducible assumption) ?_) | (refine keeps_of_fst (by with_reducible assumption) ?_) | split)

theorem State.gbListed_keeps {z0 : State} {s : State} (key : Word) (system : Nat) (khz : Nat)  (hK : Keeps z0 s) :
    Keeps z0 (State.gbListed s key system khz).1 := by
  unfold State.gbListed
  try dsimp only
  repeat' (first | with_reducible assumption | with_reducible apply State.gbJoinEqual_keeps | with_reducible apply State.gbInsert_keeps | with_reducible apply State.gbSet_keeps | with_reducible apply keeps_ite | with_reducible apply keeps_foldl | fail_if_no_progress (with_reducible apply keeps_other) | with_reducible apply keeps_dropRegs | with_reducible apply keeps_dropMem | with_reducible apply keeps_dropBoth | (intro _; intros) | (refine keeps_of_some (by with_reducible assumption) ?_) | (refine keeps_of_fst (by with_reducible assumption) ?_) | split)

theorem State.gbListJoin_keeps {z0 : State} {s : State} (i : Option Nat) (key : Word) (system : Nat) (khz : Nat) (hard : Bool)  (hK : Keeps z0 s) :
    Keeps z0 (State.gbListJoin s i key system khz hard) := by
  unfold State.gbListJoin
  try dsimp only
  repeat' (first | with_reducible assumption | with_reducible apply State.gbListed_keeps | with_reducible apply State.gbJoin_keeps | with_reducible apply keeps_ite | with_reducible apply keeps_foldl | fail_if_no_progress (with_reducible apply keeps_other) | with_reducible apply keeps_dropRegs | with_reducible apply keeps_dropMem | with_reducible apply keeps_dropBoth | (intro _; intros) | (refine keeps_of_some (by with_reducible assumption) ?_) | (refine keeps_of_fst (by with_reducible assumption) ?_) | split)

theorem State.gbAgeOne_keeps {z0 : State} {s : State} (i : Nat)  (hK : Keeps z0 s) :
    Keeps z0 (State.gbAgeOne s i) := by
  unfold State.gbAgeOne
  try dsimp only
  repeat' (first | with_reducible assumption | with_reducible apply State.gbSet_keeps | with_reducible apply keeps_ite | with_reducible apply keeps_foldl | fail_if_no_progress (with_reducible apply keeps_other) | with_reducible apply keeps_dropRegs | with_reducible apply keeps_dropMem | with_reducible apply keeps_dropBoth | (intro _; intros) | (refine keeps_of_some (by with_reducible assumption) ?_) | (refine keeps_of_fst (by with_reducible assumption) ?_) | split)

theorem State.gbPurge_keeps {z0 s : State} (n : Nat) (h : Keeps z0 s) : Keeps z0 (s.gbPurge n) := by
  induction n generalizing s with
  | zero => exact h
  | succ n ih =>
    unfold State.gbPurge
    split
    · exact h
    · exact ih (State.gbFree_keeps _ (keeps_ite h (keeps_other _ _ _ _ _ _ _ _ _ _ _ _ _ _ _ _ _ _ _ _ _ _ h)))

theorem execGbSweep_keeps {z0 : State} {s : State}  (hK : Keeps z0 s) :
    KeepsOut z0 (execGbSweep s) := by
  unfold execGbSweep
  try dsimp only
  repeat' (first | with_reducible assumption | with_reducible apply State.gbPurge_keeps | with_reducible apply State.gbAgeOne_keeps | with_reducible apply keeps_ite | with_reducible apply keeps_foldl | with_reducible apply keepsOut_next | with_reducible apply keepsOut_ite | fail_if_no_progress (with_reducible apply keeps_other) | with_reducible apply keeps_dropRegs | with_reducible apply keeps_dropMem | with_reducible apply keeps_dropBoth | (intro _; intros) | (refine keeps_of_some (by with_reducible assumption) ?_) | (refine keeps_of_fst (by with_reducible assumption) ?_) | split)

theorem State.gbSave_keeps {z0 : State} {s : State} (pages : List Nat)  (hK : Keeps z0 s) :
    Keeps z0 (State.gbSave s pages) := by
  unfold State.gbSave
  try dsimp only
  repeat' (first | with_reducible assumption | with_reducible apply State.wrBytes_keeps | with_reducible apply keeps_ite | with_reducible apply keeps_foldl | fail_if_no_progress (with_reducible apply keeps_other) | with_reducible apply keeps_dropRegs | with_reducible apply keeps_dropMem | with_reducible apply keeps_dropBoth | (intro _; intros) | (refine keeps_of_some (by with_reducible assumption) ?_) | (refine keeps_of_fst (by with_reducible assumption) ?_) | split)

theorem execGbCheckpointWrite_keeps {z0 : State} {s : State}  (hK : Keeps z0 s) :
    KeepsOut z0 (execGbCheckpointWrite s) := by
  unfold execGbCheckpointWrite
  try dsimp only
  repeat' (first | with_reducible assumption | with_reducible apply State.gbSave_keeps | with_reducible apply keeps_ite | with_reducible apply keeps_foldl | with_reducible apply keepsOut_next | with_reducible apply keepsOut_ite | fail_if_no_progress (with_reducible apply keeps_other) | with_reducible apply keeps_dropRegs | with_reducible apply keeps_dropMem | with_reducible apply keeps_dropBoth | (intro _; intros) | (refine keeps_of_some (by with_reducible assumption) ?_) | (refine keeps_of_fst (by with_reducible assumption) ?_) | split)

theorem execGbDailyCheckpoint_keeps {z0 : State} {s : State}  (hK : Keeps z0 s) :
    KeepsOut z0 (execGbDailyCheckpoint s) := by
  unfold execGbDailyCheckpoint
  try dsimp only
  repeat' (first | with_reducible assumption | with_reducible apply State.gbSave_keeps | with_reducible apply keeps_ite | with_reducible apply keeps_foldl | with_reducible apply keepsOut_next | with_reducible apply keepsOut_ite | fail_if_no_progress (with_reducible apply keeps_other) | with_reducible apply keeps_dropRegs | with_reducible apply keeps_dropMem | with_reducible apply keeps_dropBoth | (intro _; intros) | (refine keeps_of_some (by with_reducible assumption) ?_) | (refine keeps_of_fst (by with_reducible assumption) ?_) | split)

theorem State.gbDrop_keeps {z0 : State} {s : State} (i : Nat)  (hK : Keeps z0 s) :
    Keeps z0 (State.gbDrop s i) := by
  unfold State.gbDrop
  try dsimp only
  repeat' (first | with_reducible assumption | with_reducible apply State.gbClose_keeps | with_reducible apply State.gbPut_keeps | with_reducible apply State.gbDirty_keeps | with_reducible apply keeps_ite | with_reducible apply keeps_foldl | fail_if_no_progress (with_reducible apply keeps_other) | with_reducible apply keeps_dropRegs | with_reducible apply keeps_dropMem | with_reducible apply keeps_dropBoth | (intro _; intros) | (refine keeps_of_some (by with_reducible assumption) ?_) | (refine keeps_of_fst (by with_reducible assumption) ?_) | split)

theorem State.gbLoad_keeps {z0 s : State} (h : Keeps z0 s) : Keeps z0 s.gbLoad := by
  refine keeps_stores _ _ _ _ _ _ _ _ _ _ _ _ _ _ _ _ _ _ _ _ _ _ _ _ h id (fun w => ?_)
  have hc := Store.filter_wf (fun c => decide (ckptBase ≤ c.1) && decide (c.1 < ckptBase + 0x400000)) w
  have ha := Store.filter_wf (fun c => decide (gbBase + 0x400000 ≤ c.1)) w
  rw [List.append_assoc]
  refine Store.wfFrom_append (k := gbBase) (Store.filter_wf _ w) (by intro p hp; simpa using (List.mem_filter.1 hp).2)
    (by simp [gbBase]) ?_
  refine Store.wfFrom_append (k := gbBase + 0x400000) ?_ ?_ (by simp) (Store.wfFrom_of_ge ha (by
    intro p hp; simpa using (List.mem_filter.1 hp).2))
  · have hm : ∀ p ∈ s.mem.filter (fun c => decide (ckptBase ≤ c.1) && decide (c.1 < ckptBase + 0x400000)),
        ckptBase ≤ p.1 ∧ p.1 < ckptBase + 0x400000 := by
      intro p hp; simpa using (List.mem_filter.1 hp).2
    have := Store.wfFrom_move (b := gbBase) (n := 0x400000) (Store.wfFrom_of_ge hc (fun p hp => (hm p hp).1)) hm
      (Nat.le_refl _) (by
        intro i hi
        have e1 : ckptBase = 0x042C0000 := rfl
        have e2 : gbBase = 0x02000000 := rfl
        unfold mdef
        rw [if_pos (by omega), if_pos (by omega)])
    simpa using this
  · intro p hp
    obtain ⟨q, hq, rfl⟩ := List.mem_map.1 hp
    have := (List.mem_filter.1 hq).2
    have e1 : ckptBase = 0x042C0000 := rfl
    have e2 : gbBase = 0x02000000 := rfl
    simp only [Bool.and_eq_true, decide_eq_true_eq] at this
    show q.1 - ckptBase + gbBase < _
    omega

theorem State.gbErase_keeps {z0 : State} {s : State}  (hK : Keeps z0 s) :
    Keeps z0 (State.gbErase s) := by
  unfold State.gbErase
  try dsimp only
  repeat' (first | with_reducible assumption | with_reducible apply keeps_ite | with_reducible apply keeps_foldl | fail_if_no_progress (with_reducible apply keeps_other) | with_reducible apply keeps_dropRegs | with_reducible apply keeps_dropMem | with_reducible apply keeps_dropBoth | (intro _; intros) | (refine keeps_of_some (by with_reducible assumption) ?_) | (refine keeps_of_fst (by with_reducible assumption) ?_) | split)

theorem State.gbSift_keeps {z0 s : State} (n : Nat) (h : Keeps z0 s) : Keeps z0 (s.gbSift n) := by
  induction n generalizing s with
  | zero => exact h
  | succ n ih =>
    unfold State.gbSift
    split
    · exact h
    · exact ih (State.gbDrop_keeps _ h)

theorem State.gbMend_keeps {z0 : State} {s : State} (i : Nat) (r : GRec)  (hK : Keeps z0 s) :
    Keeps z0 (State.gbMend s i r) := by
  unfold State.gbMend
  try dsimp only
  repeat' (first | with_reducible assumption | with_reducible apply State.gbPut_keeps | with_reducible apply State.gbDirty_keeps | with_reducible apply keeps_ite | with_reducible apply keeps_foldl | fail_if_no_progress (with_reducible apply keeps_other) | with_reducible apply keeps_dropRegs | with_reducible apply keeps_dropMem | with_reducible apply keeps_dropBoth | (intro _; intros) | (refine keeps_of_some (by with_reducible assumption) ?_) | (refine keeps_of_fst (by with_reducible assumption) ?_) | split)

theorem State.gbRestore_keeps {z0 : State} {s : State}  (hK : Keeps z0 s) :
    Keeps z0 (State.gbRestore s) := by
  unfold State.gbRestore
  try dsimp only
  repeat' (first | with_reducible assumption | with_reducible apply State.gbMend_keeps | with_reducible apply State.gbSift_keeps | with_reducible apply State.gbLoad_keeps | with_reducible apply keeps_ite | with_reducible apply keeps_foldl | fail_if_no_progress (with_reducible apply keeps_other) | with_reducible apply keeps_dropRegs | with_reducible apply keeps_dropMem | with_reducible apply keeps_dropBoth | (intro _; intros) | (refine keeps_of_some (by with_reducible assumption) ?_) | (refine keeps_of_fst (by with_reducible assumption) ?_) | split)

theorem execGbRestoreDone_keeps {z0 : State} {s : State}  (hK : Keeps z0 s) :
    KeepsOut z0 (execGbRestoreDone s) := by
  unfold execGbRestoreDone
  try dsimp only
  repeat' (first | with_reducible assumption | with_reducible apply State.gbRestore_keeps | with_reducible apply State.raise_keeps | with_reducible apply keeps_ite | with_reducible apply keeps_foldl | with_reducible apply keepsOut_next | with_reducible apply keepsOut_ite | fail_if_no_progress (with_reducible apply keeps_other) | with_reducible apply keeps_dropRegs | with_reducible apply keeps_dropMem | with_reducible apply keeps_dropBoth | (intro _; intros) | (refine keeps_of_some (by with_reducible assumption) ?_) | (refine keeps_of_fst (by with_reducible assumption) ?_) | split)

theorem State.gbServe_keeps {z0 : State} {s : State} (ph : Fin 8) (op : Nat) (tag : BitVec 8) (args : List Word) (body : State → State × List Word) (hbody : ∀ y, Keeps z0 y → Keeps z0 (body y).1) (hK : Keeps z0 s) :
    Keeps z0 (State.gbServe s ph op tag args body) := by
  unfold State.gbServe
  try dsimp only
  repeat' (first | with_reducible assumption | with_reducible apply hbody | with_reducible apply State.serve_keeps | with_reducible apply State.reply_keeps | with_reducible apply State.mirrorMsg_keeps | with_reducible apply keeps_ite | with_reducible apply keeps_foldl | fail_if_no_progress (with_reducible apply keeps_other) | with_reducible apply keeps_dropRegs | with_reducible apply keeps_dropMem | with_reducible apply keeps_dropBoth | (intro _; intros) | (refine keeps_of_some (by with_reducible assumption) ?_) | (refine keeps_of_fst (by with_reducible assumption) ?_) | split)

theorem execGbConfig_keeps {z0 : State} (ph : Fin 8) (tag : BitVec 8) (args : List Word) {s : State}  (hK : Keeps z0 s) :
    KeepsOut z0 (execGbConfig ph tag args s) := by
  unfold execGbConfig
  try dsimp only
  repeat' (first | with_reducible assumption | with_reducible apply State.gbServe_keeps | with_reducible apply keeps_ite | with_reducible apply keeps_foldl | with_reducible apply keepsOut_next | with_reducible apply keepsOut_ite | fail_if_no_progress (with_reducible apply keeps_other) | with_reducible apply keeps_dropRegs | with_reducible apply keeps_dropMem | with_reducible apply keeps_dropBoth | (intro _; intros) | (refine keeps_of_some (by with_reducible assumption) ?_) | (refine keeps_of_fst (by with_reducible assumption) ?_) | split)

theorem execGbLookup_keeps {z0 : State} (ph : Fin 8) (tag : BitVec 8) (args : List Word) {s : State}  (hK : Keeps z0 s) :
    KeepsOut z0 (execGbLookup ph tag args s) := by
  unfold execGbLookup
  try dsimp only
  repeat' (first | with_reducible assumption | with_reducible apply State.gbServe_keeps | with_reducible apply keeps_ite | with_reducible apply keeps_foldl | with_reducible apply keepsOut_next | with_reducible apply keepsOut_ite | with_reducible apply keepsOpt_getD | fail_if_no_progress (with_reducible apply keeps_other) | with_reducible apply keeps_dropRegs | with_reducible apply keeps_dropMem | with_reducible apply keeps_dropBoth | (intro _; intros) | (refine keeps_of_some (by with_reducible assumption) ?_) | (refine keeps_of_fst (by with_reducible assumption) ?_) | split)

theorem execGbInsert_keeps {z0 : State} (ph : Fin 8) (tag : BitVec 8) (args : List Word) {s : State}  (hK : Keeps z0 s) :
    KeepsOut z0 (execGbInsert ph tag args s) := by
  unfold execGbInsert
  try dsimp only
  repeat' (first | with_reducible assumption | with_reducible apply State.gbServe_keeps | with_reducible apply State.gbJoinEqual_keeps | with_reducible apply State.gbInsert_keeps | with_reducible apply State.gbSet_keeps | with_reducible apply keeps_ite | with_reducible apply keeps_foldl | with_reducible apply keepsOut_next | with_reducible apply keepsOut_ite | with_reducible apply keepsOpt_getD | fail_if_no_progress (with_reducible apply keeps_other) | with_reducible apply keeps_dropRegs | with_reducible apply keeps_dropMem | with_reducible apply keeps_dropBoth | (intro _; intros) | (refine keeps_of_some (by with_reducible assumption) ?_) | (refine keeps_of_fst (by with_reducible assumption) ?_) | split)

theorem execGbDelete_keeps {z0 : State} (ph : Fin 8) (tag : BitVec 8) (args : List Word) {s : State}  (hK : Keeps z0 s) :
    KeepsOut z0 (execGbDelete ph tag args s) := by
  unfold execGbDelete
  try dsimp only
  repeat' (first | with_reducible assumption | with_reducible apply State.gbServe_keeps | with_reducible apply State.gbFree_keeps | with_reducible apply keeps_ite | with_reducible apply keeps_foldl | with_reducible apply keepsOut_next | with_reducible apply keepsOut_ite | fail_if_no_progress (with_reducible apply keeps_other) | with_reducible apply keeps_dropRegs | with_reducible apply keeps_dropMem | with_reducible apply keeps_dropBoth | (intro _; intros) | (refine keeps_of_some (by with_reducible assumption) ?_) | (refine keeps_of_fst (by with_reducible assumption) ?_) | split)

theorem execGbFlags_keeps {z0 : State} (ph : Fin 8) (tag : BitVec 8) (args : List Word) {s : State}  (hK : Keeps z0 s) :
    KeepsOut z0 (execGbFlags ph tag args s) := by
  unfold execGbFlags
  try dsimp only
  repeat' (first | with_reducible assumption | with_reducible apply State.gbServe_keeps | with_reducible apply State.gbSet_keeps | with_reducible apply keeps_ite | with_reducible apply keeps_foldl | with_reducible apply keepsOut_next | with_reducible apply keepsOut_ite | with_reducible apply keepsOpt_getD | fail_if_no_progress (with_reducible apply keeps_other) | with_reducible apply keeps_dropRegs | with_reducible apply keeps_dropMem | with_reducible apply keeps_dropBoth | (intro _; intros) | (refine keeps_of_some (by with_reducible assumption) ?_) | (refine keeps_of_fst (by with_reducible assumption) ?_) | split)

theorem execGbLink_keeps {z0 : State} (ph : Fin 8) (tag : BitVec 8) (args : List Word) {s : State}  (hK : Keeps z0 s) :
    KeepsOut z0 (execGbLink ph tag args s) := by
  unfold execGbLink
  try dsimp only
  repeat' (first | with_reducible assumption | with_reducible apply State.gbServe_keeps | with_reducible apply State.gbJoin_keeps | with_reducible apply keeps_ite | with_reducible apply keeps_foldl | with_reducible apply keepsOut_next | with_reducible apply keepsOut_ite | with_reducible apply keepsOpt_getD | fail_if_no_progress (with_reducible apply keeps_other) | with_reducible apply keeps_dropRegs | with_reducible apply keeps_dropMem | with_reducible apply keeps_dropBoth | (intro _; intros) | (refine keeps_of_some (by with_reducible assumption) ?_) | (refine keeps_of_fst (by with_reducible assumption) ?_) | split)

theorem execGbUnlink_keeps {z0 : State} (ph : Fin 8) (tag : BitVec 8) (args : List Word) {s : State}  (hK : Keeps z0 s) :
    KeepsOut z0 (execGbUnlink ph tag args s) := by
  unfold execGbUnlink
  try dsimp only
  repeat' (first | with_reducible assumption | with_reducible apply State.gbServe_keeps | with_reducible apply State.gbUnring_keeps | with_reducible apply keeps_ite | with_reducible apply keeps_foldl | with_reducible apply keepsOut_next | with_reducible apply keepsOut_ite | fail_if_no_progress (with_reducible apply keeps_other) | with_reducible apply keeps_dropRegs | with_reducible apply keeps_dropMem | with_reducible apply keeps_dropBoth | (intro _; intros) | (refine keeps_of_some (by with_reducible assumption) ?_) | (refine keeps_of_fst (by with_reducible assumption) ?_) | split)

theorem execGbCheckpoint_keeps {z0 : State} (ph : Fin 8) (tag : BitVec 8) (args : List Word) {s : State}  (hK : Keeps z0 s) :
    KeepsOut z0 (execGbCheckpoint ph tag args s) := by
  unfold execGbCheckpoint
  try dsimp only
  repeat' (first | with_reducible assumption | with_reducible apply State.gbServe_keeps | with_reducible apply State.gbSave_keeps | with_reducible apply keeps_ite | with_reducible apply keeps_foldl | with_reducible apply keepsOut_next | with_reducible apply keepsOut_ite | fail_if_no_progress (with_reducible apply keeps_other) | with_reducible apply keeps_dropRegs | with_reducible apply keeps_dropMem | with_reducible apply keeps_dropBoth | (intro _; intros) | (refine keeps_of_some (by with_reducible assumption) ?_) | (refine keeps_of_fst (by with_reducible assumption) ?_) | split)

theorem execGbClear_keeps {z0 : State} (ph : Fin 8) (tag : BitVec 8) (args : List Word) {s : State}  (hK : Keeps z0 s) :
    KeepsOut z0 (execGbClear ph tag args s) := by
  unfold execGbClear
  try dsimp only
  repeat' (first | with_reducible assumption | with_reducible apply State.gbServe_keeps | with_reducible apply State.gbErase_keeps | with_reducible apply State.gbChange_keeps | with_reducible apply keeps_ite | with_reducible apply keeps_foldl | with_reducible apply keepsOut_next | with_reducible apply keepsOut_ite | with_reducible apply keepsOpt_getD | fail_if_no_progress (with_reducible apply keeps_other) | with_reducible apply keeps_dropRegs | with_reducible apply keeps_dropMem | with_reducible apply keeps_dropBoth | (intro _; intros) | (refine keeps_of_some (by with_reducible assumption) ?_) | (refine keeps_of_fst (by with_reducible assumption) ?_) | split)

theorem execGbStatus_keeps {z0 : State} (ph : Fin 8) (tag : BitVec 8) (a_args : List Word) {s : State}  (hK : Keeps z0 s) :
    KeepsOut z0 (execGbStatus ph tag a_args s) := by
  unfold execGbStatus
  try dsimp only
  repeat' (first | with_reducible assumption | with_reducible apply State.serve_keeps | with_reducible apply State.reply_keeps | with_reducible apply keeps_ite | with_reducible apply keeps_foldl | with_reducible apply keepsOut_next | with_reducible apply keepsOut_ite | fail_if_no_progress (with_reducible apply keeps_other) | with_reducible apply keeps_dropRegs | with_reducible apply keeps_dropMem | with_reducible apply keeps_dropBoth | (intro _; intros) | (refine keeps_of_some (by with_reducible assumption) ?_) | (refine keeps_of_fst (by with_reducible assumption) ?_) | split)

theorem State.sdQueue_keeps {z0 : State} {s : State} (w : Nat) (r : SdRec)  (hK : Keeps z0 s) :
    Keeps z0 (State.sdQueue s w r) := by
  unfold State.sdQueue
  try dsimp only
  repeat' (first | with_reducible assumption | with_reducible apply State.placeRec_keeps | with_reducible apply State.bump_keeps | with_reducible apply State.count_keeps | with_reducible apply State.raiseKind_keeps | with_reducible apply State.setAx_keeps | with_reducible apply keeps_ite | with_reducible apply keeps_foldl | fail_if_no_progress (with_reducible apply keeps_other) | with_reducible apply keeps_dropRegs | with_reducible apply keeps_dropMem | with_reducible apply keeps_dropBoth | (intro _; intros) | (refine keeps_of_some (by with_reducible assumption) ?_) | (refine keeps_of_fst (by with_reducible assumption) ?_) | split)

theorem State.sdSend_keeps {z0 : State} {s : State} (w : Nat) (mask : Bool) (r : SdRec)  (hK : Keeps z0 s) :
    Keeps z0 (State.sdSend s w mask r) := by
  unfold State.sdSend
  try dsimp only
  repeat' (first | with_reducible assumption | with_reducible apply State.sdQueue_keeps | with_reducible apply keeps_ite | with_reducible apply keeps_foldl | fail_if_no_progress (with_reducible apply keeps_other) | with_reducible apply keeps_dropRegs | with_reducible apply keeps_dropMem | with_reducible apply keeps_dropBoth | (intro _; intros) | (refine keeps_of_some (by with_reducible assumption) ?_) | (refine keeps_of_fst (by with_reducible assumption) ?_) | split)

theorem State.sdAnnounce_keeps {z0 : State} {s : State} (w : Nat) (start : Bool) (asw : Nat) (system : Nat) (cluster : Nat) (sub : Nat) (flags : Nat) (key : Word) (khz : Nat) (time : Word)  (hK : Keeps z0 s) :
    Keeps z0 (State.sdAnnounce s w start asw system cluster sub flags key khz time) := by
  unfold State.sdAnnounce
  try dsimp only
  repeat' (first | with_reducible assumption | with_reducible apply State.sdSend_keeps | with_reducible apply State.raiseKind_keeps | with_reducible apply keeps_ite | with_reducible apply keeps_foldl | fail_if_no_progress (with_reducible apply keeps_other) | with_reducible apply keeps_dropRegs | with_reducible apply keeps_dropMem | with_reducible apply keeps_dropBoth | (intro _; intros) | (refine keeps_of_some (by with_reducible assumption) ?_) | (refine keeps_of_fst (by with_reducible assumption) ?_) | split)

theorem State.sdHear_keeps {z0 : State} {s : State} (w : Nat) (key : Word) (tp : Option Bool) (pty : Option (Nat × Nat))  (hK : Keeps z0 s) :
    Keeps z0 (State.sdHear s w key tp pty) := by
  unfold State.sdHear
  try dsimp only
  repeat' (first | with_reducible assumption | with_reducible apply State.gbHear_keeps | with_reducible apply keeps_ite | with_reducible apply keeps_foldl | fail_if_no_progress (with_reducible apply keeps_other) | with_reducible apply keeps_dropRegs | with_reducible apply keeps_dropMem | with_reducible apply keeps_dropBoth | (intro _; intros) | (refine keeps_of_some (by with_reducible assumption) ?_) | (refine keeps_of_fst (by with_reducible assumption) ?_) | split)

theorem State.sdListed_keeps {z0 : State} {s : State} (i : Option Nat) (key : Word) (system : Nat) (khz : List Nat) (hard : Bool)  (hK : Keeps z0 s) :
    Keeps z0 (State.sdListed s i key system khz hard) := by
  unfold State.sdListed
  try dsimp only
  repeat' (first | with_reducible assumption | with_reducible apply State.gbListJoin_keeps | with_reducible apply State.gbListed_keeps | with_reducible apply keeps_ite | with_reducible apply keeps_foldl | fail_if_no_progress (with_reducible apply keeps_other) | with_reducible apply keeps_dropRegs | with_reducible apply keeps_dropMem | with_reducible apply keeps_dropBoth | (intro _; intros) | (refine keeps_of_some (by with_reducible assumption) ?_) | (refine keeps_of_fst (by with_reducible assumption) ?_) | split)

theorem State.sdList_keeps {z0 : State} {s : State} (i : Option Nat) (key : Word) (system : Nat) (khz : List Nat)  (hK : Keeps z0 s) :
    Keeps z0 (State.sdList s i key system khz) := by
  unfold State.sdList
  try dsimp only
  repeat' (first | with_reducible assumption | with_reducible apply State.sdListed_keeps | with_reducible apply keeps_ite | with_reducible apply keeps_foldl | fail_if_no_progress (with_reducible apply keeps_other) | with_reducible apply keeps_dropRegs | with_reducible apply keeps_dropMem | with_reducible apply keeps_dropBoth | (intro _; intros) | (refine keeps_of_some (by with_reducible assumption) ?_) | (refine keeps_of_fst (by with_reducible assumption) ?_) | split)

theorem State.fieldSeen_keeps {z0 : State} {s : State} (w : Nat) (f : Nat) (v : Nat) (bad : Nat)  (hK : Keeps z0 s) :
    Keeps z0 (State.fieldSeen s w f v bad).1 := by
  unfold State.fieldSeen
  try dsimp only
  repeat' (first | with_reducible assumption | with_reducible apply State.setAx_keeps | with_reducible apply keeps_ite | with_reducible apply keeps_foldl | fail_if_no_progress (with_reducible apply keeps_other) | with_reducible apply keeps_dropRegs | with_reducible apply keeps_dropMem | with_reducible apply keeps_dropBoth | (intro _; intros) | (refine keeps_of_some (by with_reducible assumption) ?_) | (refine keeps_of_fst (by with_reducible assumption) ?_) | split)

theorem State.twoEqual_keeps {z0 s : State} (w f : Nat) (vs : List Nat) (h : Keeps z0 s) :
    Keeps z0 (s.twoEqual w f vs).1 := by
  induction vs generalizing s with
  | nil => exact h
  | cons v vs ih => exact ih (State.setAx_keeps _ _ _ h)

theorem State.fieldTaken_keeps {z0 : State} {s : State} (w : Nat) (f : Nat) (v : Nat) (bad : Nat)  (hK : Keeps z0 s) :
    Keeps z0 (State.fieldTaken s w f v bad).1 := by
  unfold State.fieldTaken
  try dsimp only
  repeat' (first | with_reducible assumption | with_reducible apply State.twoEqual_keeps | with_reducible apply State.fieldSeen_keeps | with_reducible apply keeps_ite | with_reducible apply keeps_foldl | fail_if_no_progress (with_reducible apply keeps_other) | with_reducible apply keeps_dropRegs | with_reducible apply keeps_dropMem | with_reducible apply keeps_dropBoth | (intro _; intros) | (refine keeps_of_some (by with_reducible assumption) ?_) | (refine keeps_of_fst (by with_reducible assumption) ?_) | split)

theorem State.sdCollect_keeps {z0 : State} {s : State} (w : Nat)  (hK : Keeps z0 s) :
    Keeps z0 (State.sdCollect s w) := by
  unfold State.sdCollect
  try dsimp only
  repeat' (first | with_reducible assumption | with_reducible apply State.setBl_keeps | with_reducible apply State.setHs_keeps | with_reducible apply State.setAx_keeps | with_reducible apply State.put_keeps | with_reducible apply keeps_ite | with_reducible apply keeps_foldl | fail_if_no_progress (with_reducible apply keeps_other) | with_reducible apply keeps_dropRegs | with_reducible apply keeps_dropMem | with_reducible apply keeps_dropBoth | (intro _; intros) | (refine keeps_of_some (by with_reducible assumption) ?_) | (refine keeps_of_fst (by with_reducible assumption) ?_) | split)

theorem State.piTaken_keeps {z0 : State} {s : State} (w : Nat) (v : Nat)  (hK : Keeps z0 s) :
    Keeps z0 (State.piTaken s w v) := by
  unfold State.piTaken
  try dsimp only
  repeat' (first | with_reducible assumption | with_reducible apply State.sdCollect_keeps | with_reducible apply State.raiseKind_keeps | with_reducible apply State.put_keeps | with_reducible apply keeps_ite | with_reducible apply keeps_foldl | fail_if_no_progress (with_reducible apply keeps_other) | with_reducible apply keeps_dropRegs | with_reducible apply keeps_dropMem | with_reducible apply keeps_dropBoth | (intro _; intros) | (refine keeps_of_some (by with_reducible assumption) ?_) | (refine keeps_of_fst (by with_reducible assumption) ?_) | split)

theorem State.piSeen_keeps {z0 : State} {s : State} (w : Nat) (v : Nat) (bad : Nat)  (hK : Keeps z0 s) :
    Keeps z0 (State.piSeen s w v bad) := by
  unfold State.piSeen
  try dsimp only
  repeat' (first | with_reducible assumption | with_reducible apply State.piTaken_keeps | with_reducible apply State.fieldTaken_keeps | with_reducible apply keeps_ite | with_reducible apply keeps_foldl | fail_if_no_progress (with_reducible apply keeps_other) | with_reducible apply keeps_dropRegs | with_reducible apply keeps_dropMem | with_reducible apply keeps_dropBoth | (intro _; intros) | (refine keeps_of_some (by with_reducible assumption) ?_) | (refine keeps_of_fst (by with_reducible assumption) ?_) | split)

theorem State.taTaken_keeps {z0 : State} {s : State} (w : Nat) (v : Nat)  (hK : Keeps z0 s) :
    Keeps z0 (State.taTaken s w v) := by
  unfold State.taTaken
  try dsimp only
  repeat' (first | with_reducible assumption | with_reducible apply State.sdAnnounce_keeps | with_reducible apply State.raiseKind_keeps | with_reducible apply State.put_keeps | with_reducible apply keeps_ite | with_reducible apply keeps_foldl | fail_if_no_progress (with_reducible apply keeps_other) | with_reducible apply keeps_dropRegs | with_reducible apply keeps_dropMem | with_reducible apply keeps_dropBoth | (intro _; intros) | (refine keeps_of_some (by with_reducible assumption) ?_) | (refine keeps_of_fst (by with_reducible assumption) ?_) | split)

theorem onTaken_keeps {z0 : State} {p : State × Option Nat} (f : State → Nat → State)
    (hf : ∀ y v, Keeps z0 y → Keeps z0 (f y v)) (h : Keeps z0 p.1) : Keeps z0 (onTaken p f) := by
  unfold onTaken
  split
  · exact hf _ _ h
  · exact h

theorem State.blockB_keeps {z0 : State} {s : State} (w : Nat) (info : Nat) (bad : Nat)  (hK : Keeps z0 s) :
    Keeps z0 (State.blockB s w info bad) := by
  unfold State.blockB
  try dsimp only
  repeat' (first | with_reducible assumption | with_reducible apply onTaken_keeps | with_reducible apply State.taTaken_keeps | with_reducible apply State.fieldTaken_keeps | with_reducible apply State.setAx_keeps | with_reducible apply State.put_keeps | with_reducible apply keeps_ite | with_reducible apply keeps_foldl | fail_if_no_progress (with_reducible apply keeps_other) | with_reducible apply keeps_dropRegs | with_reducible apply keeps_dropMem | with_reducible apply keeps_dropBoth | (intro _; intros) | (refine keeps_of_some (by with_reducible assumption) ?_) | (refine keeps_of_fst (by with_reducible assumption) ?_) | split)

theorem State.psCommit_keeps {z0 : State} {s : State} (w : Nat) (seg : List Nat)  (hK : Keeps z0 s) :
    Keeps z0 (State.psCommit s w seg) := by
  unfold State.psCommit
  try dsimp only
  repeat' (first | with_reducible assumption | with_reducible apply State.sdSend_keeps | with_reducible apply State.swap_keeps | with_reducible apply State.raiseKind_keeps | with_reducible apply State.setHs_keeps | with_reducible apply State.put_keeps | with_reducible apply State.wr_keeps | with_reducible apply keeps_ite | with_reducible apply keeps_foldl | with_reducible apply keepsOpt_getD | fail_if_no_progress (with_reducible apply keeps_other) | with_reducible apply keeps_dropRegs | with_reducible apply keeps_dropMem | with_reducible apply keeps_dropBoth | (intro _; intros) | (refine keeps_of_some (by with_reducible assumption) ?_) | (refine keeps_of_fst (by with_reducible assumption) ?_) | split)

theorem State.psSegment_keeps {z0 : State} {s : State} (w : Nat) (k : Nat) (v : Nat) (bad : Nat)  (hK : Keeps z0 s) :
    Keeps z0 (State.psSegment s w k v bad) := by
  unfold State.psSegment
  try dsimp only
  repeat' (first | with_reducible assumption | with_reducible apply State.psCommit_keeps | with_reducible apply State.fieldSeen_keeps | with_reducible apply State.setHs_keeps | with_reducible apply keeps_ite | with_reducible apply keeps_foldl | with_reducible apply keepsOpt_getD | fail_if_no_progress (with_reducible apply keeps_other) | with_reducible apply keeps_dropRegs | with_reducible apply keeps_dropMem | with_reducible apply keeps_dropBoth | (intro _; intros) | (refine keeps_of_some (by with_reducible assumption) ?_) | (refine keeps_of_fst (by with_reducible assumption) ?_) | split)

theorem State.rdsRec_keeps {z0 : State} {s : State} (w : Nat) (sub : Nat) (info : Nat) (err : Bool) (data : List Byte)  (hK : Keeps z0 s) :
    Keeps z0 (State.rdsRec s w sub info err data) := by
  unfold State.rdsRec
  try dsimp only
  repeat' (first | with_reducible assumption | with_reducible apply State.sdSend_keeps | with_reducible apply keeps_ite | with_reducible apply keeps_foldl | fail_if_no_progress (with_reducible apply keeps_other) | with_reducible apply keeps_dropRegs | with_reducible apply keeps_dropMem | with_reducible apply keeps_dropBoth | (intro _; intros) | (refine keeps_of_some (by with_reducible assumption) ?_) | (refine keeps_of_fst (by with_reducible assumption) ?_) | split)

theorem State.groupKeep_keeps {z0 : State} {s : State} (w : Nat) (g : Nat)  (hK : Keeps z0 s) :
    Keeps z0 (State.groupKeep s w g) := by
  unfold State.groupKeep
  try dsimp only
  repeat' (first | with_reducible assumption | with_reducible apply State.setBl_keeps | with_reducible apply keeps_ite | with_reducible apply keeps_foldl | fail_if_no_progress (with_reducible apply keeps_other) | with_reducible apply keeps_dropRegs | with_reducible apply keeps_dropMem | with_reducible apply keeps_dropBoth | (intro _; intros) | (refine keeps_of_some (by with_reducible assumption) ?_) | (refine keeps_of_fst (by with_reducible assumption) ?_) | split)

theorem State.rtSend_keeps {z0 : State} {s : State} (w : Nat) (code : Nat) (cs : List Nat)  (hK : Keeps z0 s) :
    Keeps z0 (State.rtSend s w code cs) := by
  unfold State.rtSend
  try dsimp only
  repeat' (first | with_reducible assumption | with_reducible apply State.rdsRec_keeps | with_reducible apply keeps_ite | with_reducible apply keeps_foldl | fail_if_no_progress (with_reducible apply keeps_other) | with_reducible apply keeps_dropRegs | with_reducible apply keeps_dropMem | with_reducible apply keeps_dropBoth | (intro _; intros) | (refine keeps_of_some (by with_reducible assumption) ?_) | (refine keeps_of_fst (by with_reducible assumption) ?_) | split)

theorem State.rtSegment_keeps {z0 : State} {s : State} (w : Nat) (code : Nat) (place : Nat) (len : Nat) (cs : List (Option Nat))  (hK : Keeps z0 s) :
    Keeps z0 (State.rtSegment s w code place len cs) := by
  unfold State.rtSegment
  try dsimp only
  repeat' (first | with_reducible assumption | with_reducible apply State.rtSend_keeps | with_reducible apply State.setBl_keeps | with_reducible apply keeps_ite | with_reducible apply keeps_foldl | with_reducible apply keepsOpt_getD | fail_if_no_progress (with_reducible apply keeps_other) | with_reducible apply keeps_dropRegs | with_reducible apply keeps_dropMem | with_reducible apply keeps_dropBoth | (intro _; intros) | (refine keeps_of_some (by with_reducible assumption) ?_) | (refine keeps_of_fst (by with_reducible assumption) ?_) | split)

theorem State.afTaken_keeps {z0 : State} {s : State} (w : Nat) (l : List Nat)  (hK : Keeps z0 s) :
    Keeps z0 (State.afTaken s w l) := by
  unfold State.afTaken
  try dsimp only
  repeat' (first | with_reducible assumption | with_reducible apply State.rdsRec_keeps | with_reducible apply State.sdList_keeps | with_reducible apply State.raiseKind_keeps | with_reducible apply State.setHs_keeps | with_reducible apply keeps_ite | with_reducible apply keeps_foldl | fail_if_no_progress (with_reducible apply keeps_other) | with_reducible apply keeps_dropRegs | with_reducible apply keeps_dropMem | with_reducible apply keeps_dropBoth | (intro _; intros) | (refine keeps_of_some (by with_reducible assumption) ?_) | (refine keeps_of_fst (by with_reducible assumption) ?_) | split)

theorem State.afCodes_keeps {z0 : State} {s : State} (w : Nat) (v : Nat)  (hK : Keeps z0 s) :
    Keeps z0 (State.afCodes s w v) := by
  unfold State.afCodes
  try dsimp only
  repeat' (first | with_reducible assumption | with_reducible apply State.afTaken_keeps | with_reducible apply State.setBl_keeps | with_reducible apply keeps_ite | with_reducible apply keeps_foldl | fail_if_no_progress (with_reducible apply keeps_other) | with_reducible apply keeps_dropRegs | with_reducible apply keeps_dropMem | with_reducible apply keeps_dropBoth | (intro _; intros) | (refine keeps_of_some (by with_reducible assumption) ?_) | (refine keeps_of_fst (by with_reducible assumption) ?_) | split)

theorem State.netSend_keeps {z0 : State} {s : State} (w : Nat) (pi : Nat)  (hK : Keeps z0 s) :
    Keeps z0 (State.netSend s w pi) := by
  unfold State.netSend
  try dsimp only
  repeat' (first | with_reducible assumption | with_reducible apply State.rdsRec_keeps | with_reducible apply keeps_ite | with_reducible apply keeps_foldl | with_reducible apply keepsOpt_getD | fail_if_no_progress (with_reducible apply keeps_other) | with_reducible apply keeps_dropRegs | with_reducible apply keeps_dropMem | with_reducible apply keeps_dropBoth | (intro _; intros) | (refine keeps_of_some (by with_reducible assumption) ?_) | (refine keeps_of_fst (by with_reducible assumption) ?_) | split)

theorem State.netPs_keeps {z0 : State} {s : State} (w : Nat) (pi : Nat) (k : Nat) (v : Nat)  (hK : Keeps z0 s) :
    Keeps z0 (State.netPs s w pi k v) := by
  unfold State.netPs
  try dsimp only
  repeat' (first | with_reducible assumption | with_reducible apply State.netSend_keeps | with_reducible apply State.setBl_keeps | with_reducible apply keeps_ite | with_reducible apply keeps_foldl | fail_if_no_progress (with_reducible apply keeps_other) | with_reducible apply keeps_dropRegs | with_reducible apply keeps_dropMem | with_reducible apply keeps_dropBoth | (intro _; intros) | (refine keeps_of_some (by with_reducible assumption) ?_) | (refine keeps_of_fst (by with_reducible assumption) ?_) | split)

theorem State.netAf_keeps {z0 : State} {s : State} (w : Nat) (pi : Nat) (v : Nat)  (hK : Keeps z0 s) :
    Keeps z0 (State.netAf s w pi v) := by
  unfold State.netAf
  try dsimp only
  repeat' (first | with_reducible assumption | with_reducible apply State.netSend_keeps | with_reducible apply State.sdList_keeps | with_reducible apply State.gbListed_keeps | with_reducible apply State.setBl_keeps | with_reducible apply keeps_ite | with_reducible apply keeps_foldl | fail_if_no_progress (with_reducible apply keeps_other) | with_reducible apply keeps_dropRegs | with_reducible apply keeps_dropMem | with_reducible apply keeps_dropBoth | (intro _; intros) | (refine keeps_of_some (by with_reducible assumption) ?_) | (refine keeps_of_fst (by with_reducible assumption) ?_) | split)

theorem State.netTa_keeps {z0 : State} {s : State} (w : Nat) (pi : Nat) (ta : Nat)  (hK : Keeps z0 s) :
    Keeps z0 (State.netTa s w pi ta) := by
  unfold State.netTa
  try dsimp only
  repeat' (first | with_reducible assumption | with_reducible apply State.sdAnnounce_keeps | with_reducible apply State.setBl_keeps | with_reducible apply keeps_ite | with_reducible apply keeps_foldl | with_reducible apply keepsOpt_getD | fail_if_no_progress (with_reducible apply keeps_other) | with_reducible apply keeps_dropRegs | with_reducible apply keeps_dropMem | with_reducible apply keeps_dropBoth | (intro _; intros) | (refine keeps_of_some (by with_reducible assumption) ?_) | (refine keeps_of_fst (by with_reducible assumption) ?_) | split)

theorem State.eonGroup_keeps {z0 : State} {s : State} (w : Nat) (g : Nat)  (hK : Keeps z0 s) :
    Keeps z0 (State.eonGroup s w g) := by
  unfold State.eonGroup
  try dsimp only
  repeat' (first | with_reducible assumption | with_reducible apply State.netTa_keeps | with_reducible apply State.netAf_keeps | with_reducible apply State.netPs_keeps | with_reducible apply State.setBl_keeps | with_reducible apply keeps_ite | with_reducible apply keeps_foldl | fail_if_no_progress (with_reducible apply keeps_other) | with_reducible apply keeps_dropRegs | with_reducible apply keeps_dropMem | with_reducible apply keeps_dropBoth | (intro _; intros) | (refine keeps_of_some (by with_reducible assumption) ?_) | (refine keeps_of_fst (by with_reducible assumption) ?_) | split)

theorem State.odaGroup_keeps {z0 : State} {s : State} (w : Nat) (g : Nat)  (hK : Keeps z0 s) :
    Keeps z0 (State.odaGroup s w g) := by
  unfold State.odaGroup
  try dsimp only
  repeat' (first | with_reducible assumption | with_reducible apply State.rdsRec_keeps | with_reducible apply keeps_ite | with_reducible apply keeps_foldl | with_reducible apply keepsOpt_getD | fail_if_no_progress (with_reducible apply keeps_other) | with_reducible apply keeps_dropRegs | with_reducible apply keeps_dropMem | with_reducible apply keeps_dropBoth | (intro _; intros) | (refine keeps_of_some (by with_reducible assumption) ?_) | (refine keeps_of_fst (by with_reducible assumption) ?_) | split)

theorem State.ctGroup_keeps {z0 : State} {s : State} (w : Nat) (g : Nat)  (hK : Keeps z0 s) :
    Keeps z0 (State.ctGroup s w g) := by
  unfold State.ctGroup
  try dsimp only
  repeat' (first | with_reducible assumption | with_reducible apply State.rdsRec_keeps | with_reducible apply keeps_ite | with_reducible apply keeps_foldl | with_reducible apply keepsOpt_getD | fail_if_no_progress (with_reducible apply keeps_other) | with_reducible apply keeps_dropRegs | with_reducible apply keeps_dropMem | with_reducible apply keeps_dropBoth | (intro _; intros) | (refine keeps_of_some (by with_reducible assumption) ?_) | (refine keeps_of_fst (by with_reducible assumption) ?_) | split)

theorem State.groupItems_keeps {z0 : State} {s : State} (w : Nat) (g : Nat)  (hK : Keeps z0 s) :
    Keeps z0 (State.groupItems s w g) := by
  unfold State.groupItems
  try dsimp only
  repeat' (first | with_reducible assumption | with_reducible apply State.ctGroup_keeps | with_reducible apply State.odaGroup_keeps | with_reducible apply State.eonGroup_keeps | with_reducible apply State.afCodes_keeps | with_reducible apply State.rtSegment_keeps | with_reducible apply State.setBl_keeps | with_reducible apply keeps_ite | with_reducible apply keeps_foldl | fail_if_no_progress (with_reducible apply keeps_other) | with_reducible apply keeps_dropRegs | with_reducible apply keeps_dropMem | with_reducible apply keeps_dropBoth | (intro _; intros) | (refine keeps_of_some (by with_reducible assumption) ?_) | (refine keeps_of_fst (by with_reducible assumption) ?_) | split)

theorem State.groupDone_keeps {z0 : State} {s : State} (w : Nat)  (hK : Keeps z0 s) :
    Keeps z0 (State.groupDone s w) := by
  unfold State.groupDone
  try dsimp only
  repeat' (first | with_reducible assumption | with_reducible apply State.groupItems_keeps | with_reducible apply State.groupKeep_keeps | with_reducible apply State.sdHear_keeps | with_reducible apply State.sdSend_keeps | with_reducible apply keeps_ite | with_reducible apply keeps_foldl | fail_if_no_progress (with_reducible apply keeps_other) | with_reducible apply keeps_dropRegs | with_reducible apply keeps_dropMem | with_reducible apply keeps_dropBoth | (intro _; intros) | (refine keeps_of_some (by with_reducible assumption) ?_) | (refine keeps_of_fst (by with_reducible assumption) ?_) | split)

theorem State.rdsFields_keeps {z0 : State} {s : State} (w : Nat) (b : RdsBlk)  (hK : Keeps z0 s) :
    Keeps z0 (State.rdsFields s w b) := by
  unfold State.rdsFields
  try dsimp only
  repeat' (first | with_reducible assumption | with_reducible apply State.groupDone_keeps | with_reducible apply State.psSegment_keeps | with_reducible apply State.blockB_keeps | with_reducible apply onTaken_keeps | with_reducible apply State.piSeen_keeps | with_reducible apply State.fieldTaken_keeps | with_reducible apply State.setHs_keeps | with_reducible apply State.setAx_keeps | with_reducible apply State.put_keeps | with_reducible apply keeps_ite | with_reducible apply keeps_foldl | with_reducible apply keepsOpt_getD | fail_if_no_progress (with_reducible apply keeps_other) | with_reducible apply keeps_dropRegs | with_reducible apply keeps_dropMem | with_reducible apply keeps_dropBoth | (intro _; intros) | (refine keeps_of_some (by with_reducible assumption) ?_) | (refine keeps_of_fst (by with_reducible assumption) ?_) | split)

theorem State.rdsDrop_keeps {z0 : State} {s : State} (w : Nat) (n : Nat)  (hK : Keeps z0 s) :
    Keeps z0 (State.rdsDrop s w n) := by
  unfold State.rdsDrop
  try dsimp only
  repeat' (first | with_reducible assumption | with_reducible apply State.setHs_keeps | with_reducible apply keeps_ite | with_reducible apply keeps_foldl | fail_if_no_progress (with_reducible apply keeps_other) | with_reducible apply keeps_dropRegs | with_reducible apply keeps_dropMem | with_reducible apply keeps_dropBoth | (intro _; intros) | (refine keeps_of_some (by with_reducible assumption) ?_) | (refine keeps_of_fst (by with_reducible assumption) ?_) | split)

theorem State.rdsTake_keeps {z0 : State} {s : State} (w : Nat) (b : RdsBlk)  (hK : Keeps z0 s) :
    Keeps z0 (State.rdsTake s w b) := by
  unfold State.rdsTake
  try dsimp only
  repeat' (first | with_reducible assumption | with_reducible apply State.rdsDrop_keeps | with_reducible apply State.rdsFields_keeps | with_reducible apply State.setAx_keeps | with_reducible apply keeps_ite | with_reducible apply keeps_foldl | fail_if_no_progress (with_reducible apply keeps_other) | with_reducible apply keeps_dropRegs | with_reducible apply keeps_dropMem | with_reducible apply keeps_dropBoth | (intro _; intros) | (refine keeps_of_some (by with_reducible assumption) ?_) | (refine keeps_of_fst (by with_reducible assumption) ?_) | split)

theorem State.rdsSearch_keeps {z0 s : State} (w n : Nat) (h : Keeps z0 s) : Keeps z0 (s.rdsSearch w n) := by
  induction n generalizing s with
  | zero => exact h
  | succ n ih =>
    unfold State.rdsSearch
    dsimp only
    have d : ∀ l, Keeps z0 ((s.setHs w hsSdSeek l).rdsDrop w 1) := fun l =>
      State.rdsDrop_keeps _ _ (State.setHs_keeps _ _ _ h)
    split
    · exact h
    · split
      · exact ih (d _)
      · split
        · exact State.rdsTake_keeps _ _ (State.setAx_keeps _ _ _ (State.setHs_keeps _ _ _ (State.setHs_keeps _ _ _
            (State.setAx_keeps _ _ _ (State.setHs_keeps _ _ _ (State.raiseKind_keeps _ _ (State.put_keeps _ _ _ h)))))))
        · exact ih (d _)

theorem State.rdsLose_keeps {z0 : State} {s : State} (w : Nat)  (hK : Keeps z0 s) :
    Keeps z0 (State.rdsLose s w) := by
  unfold State.rdsLose
  try dsimp only
  repeat' (first | with_reducible assumption | with_reducible apply State.count_keeps | with_reducible apply State.raiseKind_keeps | with_reducible apply State.setHs_keeps | with_reducible apply State.put_keeps | with_reducible apply keeps_ite | with_reducible apply keeps_foldl | fail_if_no_progress (with_reducible apply keeps_other) | with_reducible apply keeps_dropRegs | with_reducible apply keeps_dropMem | with_reducible apply keeps_dropBoth | (intro _; intros) | (refine keeps_of_some (by with_reducible assumption) ?_) | (refine keeps_of_fst (by with_reducible assumption) ?_) | split)

theorem State.rdsNext_keeps {z0 : State} {s : State} (w : Nat) (b : RdsBlk)  (hK : Keeps z0 s) :
    Keeps z0 (State.rdsNext s w b) := by
  unfold State.rdsNext
  try dsimp only
  repeat' (first | with_reducible assumption | with_reducible apply State.rdsLose_keeps | with_reducible apply State.rdsTake_keeps | with_reducible apply State.count_keeps | with_reducible apply State.setHs_keeps | with_reducible apply keeps_ite | with_reducible apply keeps_foldl | fail_if_no_progress (with_reducible apply keeps_other) | with_reducible apply keeps_dropRegs | with_reducible apply keeps_dropMem | with_reducible apply keeps_dropBoth | (intro _; intros) | (refine keeps_of_some (by with_reducible assumption) ?_) | (refine keeps_of_fst (by with_reducible assumption) ?_) | split)

theorem State.rdsBlock_keeps {z0 : State} {s : State} (w : Nat)  (hK : Keeps z0 s) :
    Keeps z0 (State.rdsBlock s w) := by
  unfold State.rdsBlock
  try dsimp only
  repeat' (first | with_reducible assumption | with_reducible apply State.rdsNext_keeps | with_reducible apply State.rdsSearch_keeps | with_reducible apply keeps_ite | with_reducible apply keeps_foldl | fail_if_no_progress (with_reducible apply keeps_other) | with_reducible apply keeps_dropRegs | with_reducible apply keeps_dropMem | with_reducible apply keeps_dropBoth | (intro _; intros) | (refine keeps_of_some (by with_reducible assumption) ?_) | (refine keeps_of_fst (by with_reducible assumption) ?_) | split)

theorem State.noteService_keeps {z0 : State} {s : State} (w : Nat) (sid : Nat) (long : Bool)  (hK : Keeps z0 s) :
    Keeps z0 (State.noteService s w sid long) := by
  unfold State.noteService
  try dsimp only
  repeat' (first | with_reducible assumption | with_reducible apply State.setBl_keeps | with_reducible apply keeps_ite | with_reducible apply keeps_foldl | fail_if_no_progress (with_reducible apply keeps_other) | with_reducible apply keeps_dropRegs | with_reducible apply keeps_dropMem | with_reducible apply keeps_dropBoth | (intro _; intros) | (refine keeps_of_some (by with_reducible assumption) ?_) | (refine keeps_of_fst (by with_reducible assumption) ?_) | split)

theorem State.noteLabel_keeps {z0 : State} {s : State} (w : Nat) (sid : Nat)  (hK : Keeps z0 s) :
    Keeps z0 (State.noteLabel s w sid) := by
  unfold State.noteLabel
  try dsimp only
  repeat' (first | with_reducible assumption | with_reducible apply State.setBl_keeps | with_reducible apply keeps_ite | with_reducible apply keeps_foldl | fail_if_no_progress (with_reducible apply keeps_other) | with_reducible apply keeps_dropRegs | with_reducible apply keeps_dropMem | with_reducible apply keeps_dropBoth | (intro _; intros) | (refine keeps_of_some (by with_reducible assumption) ?_) | (refine keeps_of_fst (by with_reducible assumption) ?_) | split)

theorem State.linkSet_keeps {z0 : State} {s : State} (set : List Nat) (ecc : Nat) (hard : Bool)  (hK : Keeps z0 s) :
    Keeps z0 (State.linkSet s set ecc hard) := by
  unfold State.linkSet
  try dsimp only
  repeat' (first | with_reducible assumption | with_reducible apply State.gbJoin_keeps | with_reducible apply keeps_ite | with_reducible apply keeps_foldl | fail_if_no_progress (with_reducible apply keeps_other) | with_reducible apply keeps_dropRegs | with_reducible apply keeps_dropMem | with_reducible apply keeps_dropBoth | (intro _; intros) | (refine keeps_of_some (by with_reducible assumption) ?_) | (refine keeps_of_fst (by with_reducible assumption) ?_) | split)

theorem State.listFreqs_keeps {z0 : State} {s : State} (w : Nat) (key : Word) (system : Nat) (khz : List Nat)  (hK : Keeps z0 s) :
    Keeps z0 (State.listFreqs s w key system khz) := by
  unfold State.listFreqs
  try dsimp only
  repeat' (first | with_reducible assumption | with_reducible apply State.sdList_keeps | with_reducible apply State.gbListed_keeps | with_reducible apply keeps_ite | with_reducible apply keeps_foldl | fail_if_no_progress (with_reducible apply keeps_other) | with_reducible apply keeps_dropRegs | with_reducible apply keeps_dropMem | with_reducible apply keeps_dropBoth | (intro _; intros) | (refine keeps_of_some (by with_reducible assumption) ?_) | (refine keeps_of_fst (by with_reducible assumption) ?_) | split)

theorem State.listOthers_keeps {z0 : State} {s : State} (w : Nat) (eid : Nat) (khz : Nat)  (hK : Keeps z0 s) :
    Keeps z0 (State.listOthers s w eid khz) := by
  unfold State.listOthers
  try dsimp only
  repeat' (first | with_reducible assumption | with_reducible apply State.gbListed_keeps | with_reducible apply keeps_ite | with_reducible apply keeps_foldl | fail_if_no_progress (with_reducible apply keeps_other) | with_reducible apply keeps_dropRegs | with_reducible apply keeps_dropMem | with_reducible apply keeps_dropBoth | (intro _; intros) | (refine keeps_of_some (by with_reducible assumption) ?_) | (refine keeps_of_fst (by with_reducible assumption) ?_) | split)

theorem State.figNews_keeps {z0 : State} {s : State} (w : Nat) (x : FigItem)  (hK : Keeps z0 s) :
    Keeps z0 (State.figNews s w x) := by
  unfold State.figNews
  try dsimp only
  repeat' (first | with_reducible assumption | with_reducible apply State.listOthers_keeps | with_reducible apply State.listFreqs_keeps | with_reducible apply State.linkSet_keeps | with_reducible apply State.noteLabel_keeps | with_reducible apply State.noteService_keeps | with_reducible apply State.sdList_keeps | with_reducible apply State.sdHear_keeps | with_reducible apply State.gbListed_keeps | with_reducible apply State.setBl_keeps | with_reducible apply State.put_keeps | with_reducible apply keeps_ite | with_reducible apply keeps_foldl | fail_if_no_progress (with_reducible apply keeps_other) | with_reducible apply keeps_dropRegs | with_reducible apply keeps_dropMem | with_reducible apply keeps_dropBoth | (intro _; intros) | (refine keeps_of_some (by with_reducible assumption) ?_) | (refine keeps_of_fst (by with_reducible assumption) ?_) | split)

theorem State.figQueue_keeps {z0 : State} {s : State} (w : Nat) (fig : List Nat) (ok : Bool) (time : Word)  (hK : Keeps z0 s) :
    Keeps z0 (State.figQueue s w fig ok time) := by
  unfold State.figQueue
  try dsimp only
  repeat' (first | with_reducible assumption | with_reducible apply State.sdQueue_keeps | with_reducible apply State.setHs_keeps | with_reducible apply keeps_ite | with_reducible apply keeps_foldl | fail_if_no_progress (with_reducible apply keeps_other) | with_reducible apply keeps_dropRegs | with_reducible apply keeps_dropMem | with_reducible apply keeps_dropBoth | (intro _; intros) | (refine keeps_of_some (by with_reducible assumption) ?_) | (refine keeps_of_fst (by with_reducible assumption) ?_) | split)

theorem execFigReceived_keeps {z0 : State} (n : Fin 64) {s : State}  (hK : Keeps z0 s) :
    KeepsOut z0 (execFigReceived n s) := by
  unfold execFigReceived
  try dsimp only
  repeat' (first | with_reducible assumption | with_reducible apply State.figQueue_keeps | with_reducible apply State.figNews_keeps | with_reducible apply State.keepRest_keeps | with_reducible apply State.dropCoded_keeps | with_reducible apply keeps_ite | with_reducible apply keeps_foldl | with_reducible apply keepsOut_next | with_reducible apply keepsOut_ite | fail_if_no_progress (with_reducible apply keeps_other) | with_reducible apply keeps_dropRegs | with_reducible apply keeps_dropMem | with_reducible apply keeps_dropBoth | (intro _; intros) | (refine keeps_of_some (by with_reducible assumption) ?_) | (refine keeps_of_fst (by with_reducible assumption) ?_) | split)

theorem State.sdMot_keeps {z0 : State} {s : State} (w : Nat) (m : MotSegment) (ok : Bool) (time : Word)  (hK : Keeps z0 s) :
    Keeps z0 (State.sdMot s w m ok time) := by
  unfold State.sdMot
  try dsimp only
  repeat' (first | with_reducible assumption | with_reducible apply State.sdSend_keeps | with_reducible apply keeps_ite | with_reducible apply keeps_foldl | fail_if_no_progress (with_reducible apply keeps_other) | with_reducible apply keeps_dropRegs | with_reducible apply keeps_dropMem | with_reducible apply keeps_dropBoth | (intro _; intros) | (refine keeps_of_some (by with_reducible assumption) ?_) | (refine keeps_of_fst (by with_reducible assumption) ?_) | split)

theorem State.dlsGroup_keeps {z0 : State} {s : State} (w : Nat) (g : List Nat) (ok : Bool) (time : Word)  (hK : Keeps z0 s) :
    Keeps z0 (State.dlsGroup s w g ok time) := by
  unfold State.dlsGroup
  try dsimp only
  repeat' (first | with_reducible assumption | with_reducible apply State.sdSend_keeps | with_reducible apply State.setBl_keeps | with_reducible apply keeps_ite | with_reducible apply keeps_foldl | with_reducible apply keepsOpt_getD | fail_if_no_progress (with_reducible apply keeps_other) | with_reducible apply keeps_dropRegs | with_reducible apply keeps_dropMem | with_reducible apply keeps_dropBoth | (intro _; intros) | (refine keeps_of_some (by with_reducible assumption) ?_) | (refine keeps_of_fst (by with_reducible assumption) ?_) | split)

theorem State.padGroup_keeps {z0 : State} {s : State} (w : Nat) (app : Nat) (g : List Nat) (time : Word)  (hK : Keeps z0 s) :
    Keeps z0 (State.padGroup s w app g time) := by
  unfold State.padGroup
  try dsimp only
  repeat' (first | with_reducible assumption | with_reducible apply State.dlsGroup_keeps | with_reducible apply State.sdMot_keeps | with_reducible apply State.sdSend_keeps | with_reducible apply State.count_keeps | with_reducible apply keeps_ite | with_reducible apply keeps_foldl | fail_if_no_progress (with_reducible apply keeps_other) | with_reducible apply keeps_dropRegs | with_reducible apply keeps_dropMem | with_reducible apply keeps_dropBoth | (intro _; intros) | (refine keeps_of_some (by with_reducible assumption) ?_) | (refine keeps_of_fst (by with_reducible assumption) ?_) | split)

theorem State.padField_keeps {z0 : State} {s : State} (w : Nat) (time : Word) (f : Nat × List Nat)  (hK : Keeps z0 s) :
    Keeps z0 (State.padField s w time f) := by
  unfold State.padField
  try dsimp only
  repeat' (first | with_reducible assumption | with_reducible apply State.padGroup_keeps | with_reducible apply State.setBl_keeps | with_reducible apply keeps_ite | with_reducible apply keeps_foldl | with_reducible apply keepsOpt_getD | fail_if_no_progress (with_reducible apply keeps_other) | with_reducible apply keeps_dropRegs | with_reducible apply keeps_dropMem | with_reducible apply keeps_dropBoth | (intro _; intros) | (refine keeps_of_some (by with_reducible assumption) ?_) | (refine keeps_of_fst (by with_reducible assumption) ?_) | split)

theorem execPadDataGroup_keeps {z0 : State} (n : Fin 64) {s : State}  (hK : Keeps z0 s) :
    KeepsOut z0 (execPadDataGroup n s) := by
  unfold execPadDataGroup
  try dsimp only
  repeat' (first | with_reducible assumption | with_reducible apply State.padField_keeps | with_reducible apply State.dropCoded_keeps | with_reducible apply State.setBl_keeps | with_reducible apply State.setAx_keeps | with_reducible apply keeps_ite | with_reducible apply keeps_foldl | with_reducible apply keepsOut_next | with_reducible apply keepsOut_ite | fail_if_no_progress (with_reducible apply keeps_other) | with_reducible apply keeps_dropRegs | with_reducible apply keeps_dropMem | with_reducible apply keeps_dropBoth | (intro _; intros) | (refine keeps_of_some (by with_reducible assumption) ?_) | (refine keeps_of_fst (by with_reducible assumption) ?_) | split)

theorem State.groupPacket_keeps {z0 : State} {s : State} (w : Nat) (a : Nat) (p : List Nat) (ok : Bool) (time : Word)  (hK : Keeps z0 s) :
    Keeps z0 (State.groupPacket s w a p ok time) := by
  unfold State.groupPacket
  try dsimp only
  repeat' (first | with_reducible assumption | with_reducible apply State.sdMot_keeps | with_reducible apply State.sdSend_keeps | with_reducible apply State.count_keeps | with_reducible apply State.setBl_keeps | with_reducible apply keeps_ite | with_reducible apply keeps_foldl | with_reducible apply keepsOpt_getD | fail_if_no_progress (with_reducible apply keeps_other) | with_reducible apply keeps_dropRegs | with_reducible apply keeps_dropMem | with_reducible apply keeps_dropBoth | (intro _; intros) | (refine keeps_of_some (by with_reducible assumption) ?_) | (refine keeps_of_fst (by with_reducible assumption) ?_) | split)

theorem execPacketReceived_keeps {z0 : State} (n : Fin 64) {s : State}  (hK : Keeps z0 s) :
    KeepsOut z0 (execPacketReceived n s) := by
  unfold execPacketReceived
  try dsimp only
  repeat' (first | with_reducible assumption | with_reducible apply State.groupPacket_keeps | with_reducible apply State.sdSend_keeps | with_reducible apply State.keepRest_keeps | with_reducible apply State.dropCoded_keeps | with_reducible apply keeps_ite | with_reducible apply keeps_foldl | with_reducible apply keepsOut_next | with_reducible apply keepsOut_ite | fail_if_no_progress (with_reducible apply keeps_other) | with_reducible apply keeps_dropRegs | with_reducible apply keeps_dropMem | with_reducible apply keeps_dropBoth | (intro _; intros) | (refine keeps_of_some (by with_reducible assumption) ?_) | (refine keeps_of_fst (by with_reducible assumption) ?_) | split)

theorem State.sdcIds_keeps {z0 : State} {s : State} (w : Nat) (ids : List (Nat × Nat))  (hK : Keeps z0 s) :
    Keeps z0 (State.sdcIds s w ids) := by
  unfold State.sdcIds
  try dsimp only
  repeat' (first | with_reducible assumption | with_reducible apply State.noteService_keeps | with_reducible apply State.sdHear_keeps | with_reducible apply State.setBl_keeps | with_reducible apply State.wr_keeps | with_reducible apply keeps_ite | with_reducible apply keeps_foldl | fail_if_no_progress (with_reducible apply keeps_other) | with_reducible apply keeps_dropRegs | with_reducible apply keeps_dropMem | with_reducible apply keeps_dropBoth | (intro _; intros) | (refine keeps_of_some (by with_reducible assumption) ?_) | (refine keeps_of_fst (by with_reducible assumption) ?_) | split)

theorem State.sdcNews_keeps {z0 : State} {s : State} (w : Nat) (e : List Nat)  (hK : Keeps z0 s) :
    Keeps z0 (State.sdcNews s w e) := by
  unfold State.sdcNews
  try dsimp only
  repeat' (first | with_reducible assumption | with_reducible apply State.sdcIds_keeps | with_reducible apply State.noteLabel_keeps | with_reducible apply State.sdList_keeps | with_reducible apply State.sdListed_keeps | with_reducible apply State.gbJoin_keeps | with_reducible apply keeps_ite | with_reducible apply keeps_foldl | fail_if_no_progress (with_reducible apply keeps_other) | with_reducible apply keeps_dropRegs | with_reducible apply keeps_dropMem | with_reducible apply keeps_dropBoth | (intro _; intros) | (refine keeps_of_some (by with_reducible assumption) ?_) | (refine keeps_of_fst (by with_reducible assumption) ?_) | split)

theorem State.sdcEntity_keeps {z0 : State} {s : State} (w : Nat) (c : Coded)  (hK : Keeps z0 s) :
    Keeps z0 (State.sdcEntity s w c) := by
  unfold State.sdcEntity
  try dsimp only
  repeat' (first | with_reducible assumption | with_reducible apply State.sdcNews_keeps | with_reducible apply State.sdSend_keeps | with_reducible apply State.keepRest_keeps | with_reducible apply State.dropCoded_keeps | with_reducible apply State.setBl_keeps | with_reducible apply keeps_ite | with_reducible apply keeps_foldl | fail_if_no_progress (with_reducible apply keeps_other) | with_reducible apply keeps_dropRegs | with_reducible apply keeps_dropMem | with_reducible apply keeps_dropBoth | (intro _; intros) | (refine keeps_of_some (by with_reducible assumption) ?_) | (refine keeps_of_fst (by with_reducible assumption) ?_) | split)

theorem execDrmSdcEntity_keeps {z0 : State} (n : Fin 64) (e : SdcArg) {s : State}  (hK : Keeps z0 s) :
    KeepsOut z0 (execDrmSdcEntity n e s) := by
  unfold execDrmSdcEntity
  try dsimp only
  repeat' (first | with_reducible assumption | with_reducible apply State.sdcEntity_keeps | with_reducible apply State.sdSend_keeps | with_reducible apply State.keepRest_keeps | with_reducible apply State.dropCoded_keeps | with_reducible apply keeps_ite | with_reducible apply keeps_foldl | with_reducible apply keepsOut_next | with_reducible apply keepsOut_ite | fail_if_no_progress (with_reducible apply keeps_other) | with_reducible apply keeps_dropRegs | with_reducible apply keeps_dropMem | with_reducible apply keeps_dropBoth | (intro _; intros) | (refine keeps_of_some (by with_reducible assumption) ?_) | (refine keeps_of_fst (by with_reducible assumption) ?_) | split)

theorem execQualityReport_keeps {z0 : State} (n : Fin 64) (time : Word) {s : State}  (hK : Keeps z0 s) :
    KeepsOut z0 (execQualityReport n time s) := by
  unfold execQualityReport
  try dsimp only
  repeat' (first | with_reducible assumption | with_reducible apply State.sdQueue_keeps | with_reducible apply keeps_ite | with_reducible apply keeps_foldl | with_reducible apply keepsOut_next | with_reducible apply keepsOut_ite | fail_if_no_progress (with_reducible apply keeps_other) | with_reducible apply keeps_dropRegs | with_reducible apply keeps_dropMem | with_reducible apply keeps_dropBoth | (intro _; intros) | (refine keeps_of_some (by with_reducible assumption) ?_) | (refine keeps_of_fst (by with_reducible assumption) ?_) | split)

theorem State.linkUp_keeps {z0 : State} {s : State} (src : Nat) (out : Nat) (dst : Nat) (inp : Nat)  (hK : Keeps z0 s) :
    Keeps z0 (State.linkUp s src out dst inp) := by
  unfold State.linkUp
  try dsimp only
  repeat' (first | with_reducible assumption | with_reducible apply keeps_ite | with_reducible apply keeps_foldl | fail_if_no_progress (with_reducible apply keeps_other) | with_reducible apply keeps_dropRegs | with_reducible apply keeps_dropMem | with_reducible apply keeps_dropBoth | (intro _; intros) | (refine keeps_of_some (by with_reducible assumption) ?_) | (refine keeps_of_fst (by with_reducible assumption) ?_) | split)

theorem State.lend_keeps {z0 : State} {s : State} (borrower : Nat) (w : Nat)  (hK : Keeps z0 s) :
    Keeps z0 (State.lend s borrower w) := by
  unfold State.lend
  try dsimp only
  repeat' (first | with_reducible assumption | with_reducible apply State.setUnit_keeps | with_reducible apply keeps_ite | with_reducible apply keeps_foldl | fail_if_no_progress (with_reducible apply keeps_other) | with_reducible apply keeps_dropRegs | with_reducible apply keeps_dropMem | with_reducible apply keeps_dropBoth | (intro _; intros) | (refine keeps_of_some (by with_reducible assumption) ?_) | (refine keeps_of_fst (by with_reducible assumption) ?_) | split)

theorem State.startUnit_keeps {z0 : State} {s : State} (w : Nat)  (hK : Keeps z0 s) :
    Keeps z0 (State.startUnit s w) := by
  unfold State.startUnit
  try dsimp only
  repeat' (first | with_reducible assumption | with_reducible apply State.watch_keeps | with_reducible apply State.wr_keeps | with_reducible apply keeps_ite | with_reducible apply keeps_foldl | fail_if_no_progress (with_reducible apply keeps_other) | with_reducible apply keeps_dropRegs | with_reducible apply keeps_dropMem | with_reducible apply keeps_dropBoth | (intro _; intros) | (refine keeps_of_some (by with_reducible assumption) ?_) | (refine keeps_of_fst (by with_reducible assumption) ?_) | split)

theorem State.giveBack_keeps {z0 : State} {s : State} (ws : List Nat)  (hK : Keeps z0 s) :
    Keeps z0 (State.giveBack s ws) := by
  unfold State.giveBack
  try dsimp only
  repeat' (first | with_reducible assumption | with_reducible apply State.lend_keeps | with_reducible apply State.watch_keeps | with_reducible apply State.wr_keeps | with_reducible apply keeps_ite | with_reducible apply keeps_foldl | fail_if_no_progress (with_reducible apply keeps_other) | with_reducible apply keeps_dropRegs | with_reducible apply keeps_dropMem | with_reducible apply keeps_dropBoth | (intro _; intros) | (refine keeps_of_some (by with_reducible assumption) ?_) | (refine keeps_of_fst (by with_reducible assumption) ?_) | split)

theorem State.fwCoefs_keeps {z0 : State} {s : State} (c : Nat)  (hK : Keeps z0 s) :
    Keeps z0 (State.fwCoefs s c) := by
  unfold State.fwCoefs
  try dsimp only
  repeat' (first | with_reducible assumption | with_reducible apply State.useFresh_keeps | with_reducible apply State.put_keeps | with_reducible apply State.wr_keeps | with_reducible apply keeps_ite | with_reducible apply keeps_foldl | fail_if_no_progress (with_reducible apply keeps_other) | with_reducible apply keeps_dropRegs | with_reducible apply keeps_dropMem | with_reducible apply keeps_dropBoth | (intro _; intros) | (refine keeps_of_some (by with_reducible assumption) ?_) | (refine keeps_of_fst (by with_reducible assumption) ?_) | split)

theorem State.setChannel_keeps {z0 : State} {s : State} (d : Nat) (f : Nat) (system : Nat) (khz : Nat)  (hK : Keeps z0 s) :
    Keeps z0 (State.setChannel s d f system khz) := by
  unfold State.setChannel
  try dsimp only
  repeat' (first | with_reducible assumption | with_reducible apply State.fwCoefs_keeps | with_reducible apply State.put_keeps | with_reducible apply State.wr_keeps | with_reducible apply keeps_ite | with_reducible apply keeps_foldl | fail_if_no_progress (with_reducible apply keeps_other) | with_reducible apply keeps_dropRegs | with_reducible apply keeps_dropMem | with_reducible apply keeps_dropBoth | (intro _; intros) | (refine keeps_of_some (by with_reducible assumption) ?_) | (refine keeps_of_fst (by with_reducible assumption) ?_) | split)

theorem State.borrowChain_keeps {z0 : State} {s : State} (borrower : Nat) (f : Nat) (d : Nat) (demod : Nat) (sd : Option Nat) (system : Nat) (khz : Nat)  (hK : Keeps z0 s) :
    Keeps z0 (State.borrowChain s borrower f d demod sd system khz) := by
  unfold State.borrowChain
  try dsimp only
  repeat' (first | with_reducible assumption | with_reducible apply State.setChannel_keeps | with_reducible apply State.startUnit_keeps | with_reducible apply State.lend_keeps | with_reducible apply State.linkUp_keeps | with_reducible apply State.put_keeps | with_reducible apply keeps_ite | with_reducible apply keeps_foldl | fail_if_no_progress (with_reducible apply keeps_other) | with_reducible apply keeps_dropRegs | with_reducible apply keeps_dropMem | with_reducible apply keeps_dropBoth | (intro _; intros) | (refine keeps_of_some (by with_reducible assumption) ?_) | (refine keeps_of_fst (by with_reducible assumption) ?_) | split)

theorem State.scanServe_keeps {z0 : State} {s : State} (ph : Fin 8) (op : Nat) (tag : BitVec 8) (body : State → State × List Word) (hbody : ∀ y, Keeps z0 y → Keeps z0 (body y).1) (hK : Keeps z0 s) :
    Keeps z0 (State.scanServe s ph op tag body) := by
  unfold State.scanServe
  try dsimp only
  repeat' (first | with_reducible assumption | with_reducible apply hbody | with_reducible apply State.serve_keeps | with_reducible apply State.reply_keeps | with_reducible apply keeps_ite | with_reducible apply keeps_foldl | fail_if_no_progress (with_reducible apply keeps_other) | with_reducible apply keeps_dropRegs | with_reducible apply keeps_dropMem | with_reducible apply keeps_dropBoth | (intro _; intros) | (refine keeps_of_some (by with_reducible assumption) ?_) | (refine keeps_of_fst (by with_reducible assumption) ?_) | split)

theorem execScanPlan_keeps {z0 : State} (ph : Fin 8) (tag : BitVec 8) (args : List Word) {s : State}  (hK : Keeps z0 s) :
    KeepsOut z0 (execScanPlan ph tag args s) := by
  unfold execScanPlan
  try dsimp only
  repeat' (first | with_reducible assumption | with_reducible apply State.scanServe_keeps | with_reducible apply keeps_ite | with_reducible apply keeps_foldl | with_reducible apply keepsOut_next | with_reducible apply keepsOut_ite | fail_if_no_progress (with_reducible apply keeps_other) | with_reducible apply keeps_dropRegs | with_reducible apply keeps_dropMem | with_reducible apply keeps_dropBoth | (intro _; intros) | (refine keeps_of_some (by with_reducible assumption) ?_) | (refine keeps_of_fst (by with_reducible assumption) ?_) | split)

theorem execScanCtl_keeps {z0 : State} (ph : Fin 8) (tag : BitVec 8) (args : List Word) {s : State}  (hK : Keeps z0 s) :
    KeepsOut z0 (execScanCtl ph tag args s) := by
  unfold execScanCtl
  try dsimp only
  repeat' (first | with_reducible assumption | with_reducible apply State.scanServe_keeps | with_reducible apply keeps_ite | with_reducible apply keeps_foldl | with_reducible apply keepsOut_next | with_reducible apply keepsOut_ite | with_reducible apply keepsOpt_getD | fail_if_no_progress (with_reducible apply keeps_other) | with_reducible apply keeps_dropRegs | with_reducible apply keeps_dropMem | with_reducible apply keeps_dropBoth | (intro _; intros) | (refine keeps_of_some (by with_reducible assumption) ?_) | (refine keeps_of_fst (by with_reducible assumption) ?_) | split)

theorem execScanStatus_keeps {z0 : State} (ph : Fin 8) (tag : BitVec 8) (a_args : List Word) {s : State}  (hK : Keeps z0 s) :
    KeepsOut z0 (execScanStatus ph tag a_args s) := by
  unfold execScanStatus
  try dsimp only
  repeat' (first | with_reducible assumption | with_reducible apply State.scanServe_keeps | with_reducible apply keeps_ite | with_reducible apply keeps_foldl | with_reducible apply keepsOut_next | with_reducible apply keepsOut_ite | fail_if_no_progress (with_reducible apply keeps_other) | with_reducible apply keeps_dropRegs | with_reducible apply keeps_dropMem | with_reducible apply keeps_dropBoth | (intro _; intros) | (refine keeps_of_some (by with_reducible assumption) ?_) | (refine keeps_of_fst (by with_reducible assumption) ?_) | split)

theorem State.scanCycleEnd_keeps {z0 : State} {s : State}  (hK : Keeps z0 s) :
    Keeps z0 (State.scanCycleEnd s) := by
  unfold State.scanCycleEnd
  try dsimp only
  repeat' (first | with_reducible assumption | with_reducible apply State.raise_keeps | with_reducible apply keeps_ite | with_reducible apply keeps_foldl | fail_if_no_progress (with_reducible apply keeps_other) | with_reducible apply keeps_dropRegs | with_reducible apply keeps_dropMem | with_reducible apply keeps_dropBoth | (intro _; intros) | (refine keeps_of_some (by with_reducible assumption) ?_) | (refine keeps_of_fst (by with_reducible assumption) ?_) | split)

theorem State.scanSkip_keeps {z0 s : State} (n : Nat) (h : Keeps z0 s) : Keeps z0 (s.scanSkip n) := by
  induction n generalizing s with
  | zero => exact h
  | succ n ih =>
    unfold State.scanSkip
    split
    · exact h
    · exact keeps_ite (ih (keeps_other _ _ _ _ _ _ _ _ _ _ _ _ _ _ _ _ _ _ _ _ _ _ h)) h

theorem execScanTaskStart_keeps {z0 : State} {s : State}  (hK : Keeps z0 s) :
    KeepsOut z0 (execScanTaskStart s) := by
  unfold execScanTaskStart
  try dsimp only
  repeat' (first | with_reducible assumption | with_reducible apply State.scanSkip_keeps | with_reducible apply State.scanCycleEnd_keeps | with_reducible apply State.borrowChain_keeps | with_reducible apply keeps_ite | with_reducible apply keeps_foldl | with_reducible apply keepsOut_next | with_reducible apply keepsOut_ite | fail_if_no_progress (with_reducible apply keeps_other) | with_reducible apply keeps_dropRegs | with_reducible apply keeps_dropMem | with_reducible apply keeps_dropBoth | (intro _; intros) | (refine keeps_of_some (by with_reducible assumption) ?_) | (refine keeps_of_fst (by with_reducible assumption) ?_) | split)

theorem State.endTask_keeps {z0 : State} {s : State} (t : TaskX)  (hK : Keeps z0 s) :
    Keeps z0 (State.endTask s t) := by
  unfold State.endTask
  try dsimp only
  repeat' (first | with_reducible assumption | with_reducible apply State.giveBack_keeps | with_reducible apply keeps_ite | with_reducible apply keeps_foldl | fail_if_no_progress (with_reducible apply keeps_other) | with_reducible apply keeps_dropRegs | with_reducible apply keeps_dropMem | with_reducible apply keeps_dropBoth | (intro _; intros) | (refine keeps_of_some (by with_reducible assumption) ?_) | (refine keeps_of_fst (by with_reducible assumption) ?_) | split)

theorem State.abandonTask_keeps {z0 : State} {s : State} (t : TaskX)  (hK : Keeps z0 s) :
    Keeps z0 (State.abandonTask s t) := by
  unfold State.abandonTask
  try dsimp only
  repeat' (first | with_reducible assumption | with_reducible apply State.endTask_keeps | with_reducible apply keeps_ite | with_reducible apply keeps_foldl | fail_if_no_progress (with_reducible apply keeps_other) | with_reducible apply keeps_dropRegs | with_reducible apply keeps_dropMem | with_reducible apply keeps_dropBoth | (intro _; intros) | (refine keeps_of_some (by with_reducible assumption) ?_) | (refine keeps_of_fst (by with_reducible assumption) ?_) | split)

theorem State.takeFromScans_keeps {z0 : State} {s : State} (ws : List Nat)  (hK : Keeps z0 s) :
    Keeps z0 (State.takeFromScans s ws) := by
  unfold State.takeFromScans
  try dsimp only
  repeat' (first | with_reducible assumption | with_reducible apply State.abandonTask_keeps | with_reducible apply keeps_ite | with_reducible apply keeps_foldl | fail_if_no_progress (with_reducible apply keeps_other) | with_reducible apply keeps_dropRegs | with_reducible apply keeps_dropMem | with_reducible apply keeps_dropBoth | (intro _; intros) | (refine keeps_of_some (by with_reducible assumption) ?_) | (refine keeps_of_fst (by with_reducible assumption) ?_) | split)

theorem State.releaseScans_keeps {z0 : State} {s : State}  (hK : Keeps z0 s) :
    Keeps z0 (State.releaseScans s) := by
  unfold State.releaseScans
  try dsimp only
  repeat' (first | with_reducible assumption | with_reducible apply State.abandonTask_keeps | with_reducible apply keeps_ite | with_reducible apply keeps_foldl | fail_if_no_progress (with_reducible apply keeps_other) | with_reducible apply keeps_dropRegs | with_reducible apply keeps_dropMem | with_reducible apply keeps_dropBoth | (intro _; intros) | (refine keeps_of_some (by with_reducible assumption) ?_) | (refine keeps_of_fst (by with_reducible assumption) ?_) | split)

theorem State.takeNewestTask_keeps {z0 : State} {s : State}  (hK : Keeps z0 s) :
    Keeps z0 (State.takeNewestTask s) := by
  unfold State.takeNewestTask
  try dsimp only
  repeat' (first | with_reducible assumption | with_reducible apply State.abandonTask_keeps | with_reducible apply keeps_ite | with_reducible apply keeps_foldl | fail_if_no_progress (with_reducible apply keeps_other) | with_reducible apply keeps_dropRegs | with_reducible apply keeps_dropMem | with_reducible apply keeps_dropBoth | (intro _; intros) | (refine keeps_of_some (by with_reducible assumption) ?_) | (refine keeps_of_fst (by with_reducible assumption) ?_) | split)

theorem State.taskRecord_keeps {z0 : State} {s : State} (t : TaskX)  (hK : Keeps z0 s) :
    Keeps z0 (State.taskRecord s t) := by
  unfold State.taskRecord
  try dsimp only
  repeat' (first | with_reducible assumption | with_reducible apply State.gbHear_keeps | with_reducible apply keeps_ite | with_reducible apply keeps_foldl | fail_if_no_progress (with_reducible apply keeps_other) | with_reducible apply keeps_dropRegs | with_reducible apply keeps_dropMem | with_reducible apply keeps_dropBoth | (intro _; intros) | (refine keeps_of_some (by with_reducible assumption) ?_) | (refine keeps_of_fst (by with_reducible assumption) ?_) | split)

theorem execScanTaskEnd_keeps {z0 : State} (i : Fin 16) (cause : Fin 3) {s : State}  (hK : Keeps z0 s) :
    KeepsOut z0 (execScanTaskEnd i cause s) := by
  unfold execScanTaskEnd
  try dsimp only
  repeat' (first | with_reducible assumption | with_reducible apply State.taskRecord_keeps | with_reducible apply State.abandonTask_keeps | with_reducible apply State.endTask_keeps | with_reducible apply State.scanCycleEnd_keeps | with_reducible apply keeps_ite | with_reducible apply keeps_foldl | with_reducible apply keepsOut_next | with_reducible apply keepsOut_ite | fail_if_no_progress (with_reducible apply keeps_other) | with_reducible apply keeps_dropRegs | with_reducible apply keeps_dropMem | with_reducible apply keeps_dropBoth | (intro _; intros) | (refine keeps_of_some (by with_reducible assumption) ?_) | (refine keeps_of_fst (by with_reducible assumption) ?_) | split)

theorem execScanCycleStart_keeps {z0 : State} {s : State}  (hK : Keeps z0 s) :
    KeepsOut z0 (execScanCycleStart s) := by
  unfold execScanCycleStart
  try dsimp only
  repeat' (first | with_reducible assumption | with_reducible apply keeps_ite | with_reducible apply keeps_foldl | with_reducible apply keepsOut_next | with_reducible apply keepsOut_ite | fail_if_no_progress (with_reducible apply keeps_other) | with_reducible apply keeps_dropRegs | with_reducible apply keeps_dropMem | with_reducible apply keeps_dropBoth | (intro _; intros) | (refine keeps_of_some (by with_reducible assumption) ?_) | (refine keeps_of_fst (by with_reducible assumption) ?_) | split)

theorem State.setChain_keeps {z0 : State} {s : State} (f : Nat) (ws : List Nat) (u : Nat) (sd : Nat) (audio : Nat)  (hK : Keeps z0 s) :
    Keeps z0 (State.setChain s f ws u sd audio) := by
  unfold State.setChain
  try dsimp only
  repeat' (first | with_reducible assumption | with_reducible apply State.linkUp_keeps | with_reducible apply State.setHs_keeps | with_reducible apply State.setAx_keeps | with_reducible apply keeps_ite | with_reducible apply keeps_foldl | fail_if_no_progress (with_reducible apply keeps_other) | with_reducible apply keeps_dropRegs | with_reducible apply keeps_dropMem | with_reducible apply keeps_dropBoth | (intro _; intros) | (refine keeps_of_some (by with_reducible assumption) ?_) | (refine keeps_of_fst (by with_reducible assumption) ?_) | split)

theorem State.addDecoder_keeps {z0 : State} {s : State} (borrower : Nat) (e : Nat) (dec : Nat) (i : Nat) (id : Nat)  (hK : Keeps z0 s) :
    Keeps z0 (State.addDecoder s borrower e dec i id) := by
  unfold State.addDecoder
  try dsimp only
  repeat' (first | with_reducible assumption | with_reducible apply State.startUnit_keeps | with_reducible apply State.lend_keeps | with_reducible apply State.linkUp_keeps | with_reducible apply State.judgeNew_keeps | with_reducible apply State.mciUpdate_keeps | with_reducible apply State.setBl_keeps | with_reducible apply State.put_keeps | with_reducible apply keeps_ite | with_reducible apply keeps_foldl | fail_if_no_progress (with_reducible apply keeps_other) | with_reducible apply keeps_dropRegs | with_reducible apply keeps_dropMem | with_reducible apply keeps_dropBoth | (intro _; intros) | (refine keeps_of_some (by with_reducible assumption) ?_) | (refine keeps_of_fst (by with_reducible assumption) ?_) | split)

theorem State.chainOnEngine_keeps {z0 : State} {s : State} (f : Nat) (e : Nat) (sub : Nat)  (hK : Keeps z0 s) :
    KeepsOpt z0 (State.chainOnEngine s f e sub) := by
  unfold State.chainOnEngine
  try dsimp only
  repeat' (first | with_reducible assumption | with_reducible apply State.addDecoder_keeps | with_reducible apply State.setChain_keeps | with_reducible apply keeps_ite | with_reducible apply keeps_foldl | with_reducible apply keepsOpt_getD | with_reducible apply keepsOpt_some | with_reducible exact keepsOpt_none | with_reducible apply keepsOpt_ite | with_reducible apply keepsOpt_map | fail_if_no_progress (with_reducible apply keeps_other) | with_reducible apply keeps_dropRegs | with_reducible apply keeps_dropMem | with_reducible apply keeps_dropBoth | (intro _; intros) | (refine keeps_of_some (by with_reducible assumption) ?_) | (refine keeps_of_fst (by with_reducible assumption) ?_) | split)

theorem State.chainOfOwn_keeps {z0 : State} {s : State} (f : Nat) (system : Nat) (khz : Nat)  (hK : Keeps z0 s) :
    KeepsOpt z0 (State.chainOfOwn s f system khz) := by
  unfold State.chainOfOwn
  try dsimp only
  repeat' (first | with_reducible assumption | with_reducible apply State.addDecoder_keeps | with_reducible apply State.setChain_keeps | with_reducible apply State.borrowChain_keeps | with_reducible apply keeps_ite | with_reducible apply keeps_foldl | with_reducible apply keepsOpt_some | with_reducible exact keepsOpt_none | with_reducible apply keepsOpt_ite | with_reducible apply keepsOpt_map | fail_if_no_progress (with_reducible apply keeps_other) | with_reducible apply keeps_dropRegs | with_reducible apply keeps_dropMem | with_reducible apply keeps_dropBoth | (intro _; intros) | (refine keeps_of_some (by with_reducible assumption) ?_) | (refine keeps_of_fst (by with_reducible assumption) ?_) | split)

theorem State.chainFor_keeps {z0 : State} {s : State} (f : Nat) (system : Nat) (khz : Nat) (sub : Nat)  (hK : Keeps z0 s) :
    KeepsOpt z0 (State.chainFor s f system khz sub) := by
  unfold State.chainFor
  try dsimp only
  repeat' (first | with_reducible assumption | with_reducible apply State.chainOfOwn_keeps | with_reducible apply State.chainOnEngine_keeps | with_reducible apply keeps_ite | with_reducible apply keeps_foldl | with_reducible apply keepsOpt_some | with_reducible exact keepsOpt_none | with_reducible apply keepsOpt_ite | with_reducible apply keepsOpt_map | fail_if_no_progress (with_reducible apply keeps_other) | with_reducible apply keeps_dropRegs | with_reducible apply keeps_dropMem | with_reducible apply keeps_dropBoth | (intro _; intros) | (refine keeps_of_some (by with_reducible assumption) ?_) | (refine keeps_of_fst (by with_reducible assumption) ?_) | split)

theorem State.borrowAny_keeps {z0 : State} {s : State} (f : Nat) (system : Nat) (khz : Nat) (sub : Nat)  (hK : Keeps z0 s) :
    KeepsOpt z0 (State.borrowAny s f system khz sub) := by
  unfold State.borrowAny
  try dsimp only
  repeat' (first | with_reducible assumption | with_reducible apply State.chainFor_keeps | with_reducible apply State.takeNewestTask_keeps | with_reducible apply keeps_ite | with_reducible apply keeps_foldl | with_reducible apply keepsOpt_some | with_reducible exact keepsOpt_none | with_reducible apply keepsOpt_ite | with_reducible apply keepsOpt_map | fail_if_no_progress (with_reducible apply keeps_other) | with_reducible apply keeps_dropRegs | with_reducible apply keeps_dropMem | with_reducible apply keeps_dropBoth | (intro _; intros) | (refine keeps_of_some (by with_reducible assumption) ?_) | (refine keeps_of_fst (by with_reducible assumption) ?_) | split)

theorem State.setAside_keeps {z0 : State} {s : State} (f : Nat)  (hK : Keeps z0 s) :
    Keeps z0 (State.setAside s f) := by
  unfold State.setAside
  try dsimp only
  repeat' (first | with_reducible assumption | with_reducible apply State.borrowAny_keeps | with_reducible apply keeps_ite | with_reducible apply keeps_foldl | with_reducible apply keepsOpt_getD | fail_if_no_progress (with_reducible apply keeps_other) | with_reducible apply keeps_dropRegs | with_reducible apply keeps_dropMem | with_reducible apply keeps_dropBoth | (intro _; intros) | (refine keeps_of_some (by with_reducible assumption) ?_) | (refine keeps_of_fst (by with_reducible assumption) ?_) | split)

theorem State.borrow_keeps {z0 : State} {s : State} (f : Nat) (system : Nat) (khz : Nat) (sub : Nat)  (hK : Keeps z0 s) :
    KeepsOpt z0 (State.borrow s f system khz sub) := by
  unfold State.borrow
  try dsimp only
  repeat' (first | with_reducible assumption | with_reducible apply State.setAside_keeps | with_reducible apply State.borrowAny_keeps | with_reducible apply keeps_ite | with_reducible apply keeps_foldl | with_reducible apply keepsOpt_some | with_reducible exact keepsOpt_none | with_reducible apply keepsOpt_ite | with_reducible apply keepsOpt_map | fail_if_no_progress (with_reducible apply keeps_other) | with_reducible apply keeps_dropRegs | with_reducible apply keeps_dropMem | with_reducible apply keeps_dropBoth | (intro _; intros) | (refine keeps_of_some (by with_reducible assumption) ?_) | (refine keeps_of_fst (by with_reducible assumption) ?_) | split)

theorem State.folNeed_keeps {z0 : State} {s : State} (f : Nat) (bit : Nat) (code : Nat)  (hK : Keeps z0 s) :
    Keeps z0 (State.folNeed s f bit code) := by
  unfold State.folNeed
  try dsimp only
  repeat' (first | with_reducible assumption | with_reducible apply State.folRelease_keeps | with_reducible apply State.folRest_keeps | with_reducible apply State.count_keeps | with_reducible apply State.raiseKind_keeps | with_reducible apply State.put_keeps | with_reducible apply keeps_ite | with_reducible apply keeps_foldl | fail_if_no_progress (with_reducible apply keeps_other) | with_reducible apply keeps_dropRegs | with_reducible apply keeps_dropMem | with_reducible apply keeps_dropBoth | (intro _; intros) | (refine keeps_of_some (by with_reducible assumption) ?_) | (refine keeps_of_fst (by with_reducible assumption) ?_) | split)

theorem State.folDelay_keeps {z0 : State} {s : State} (f : Nat) (i : Nat) (dNew : Nat)  (hK : Keeps z0 s) :
    Keeps z0 (State.folDelay s f i dNew) := by
  unfold State.folDelay
  try dsimp only
  repeat' (first | with_reducible assumption | with_reducible apply State.put_keeps | with_reducible apply keeps_ite | with_reducible apply keeps_foldl | fail_if_no_progress (with_reducible apply keeps_other) | with_reducible apply keeps_dropRegs | with_reducible apply keeps_dropMem | with_reducible apply keeps_dropBoth | (intro _; intros) | (refine keeps_of_some (by with_reducible assumption) ?_) | (refine keeps_of_fst (by with_reducible assumption) ?_) | split)

theorem State.folFade_keeps {z0 : State} {s : State} (f : Nat) (i : Nat) (dNew : Nat) (ms : Nat) (aligned : Bool)  (hK : Keeps z0 s) :
    Keeps z0 (State.folFade s f i dNew ms aligned) := by
  unfold State.folFade
  try dsimp only
  repeat' (first | with_reducible assumption | with_reducible apply State.folDelay_keeps | with_reducible apply State.startXfade_keeps | with_reducible apply State.mirrorMsg_keeps | with_reducible apply State.setAx_keeps | with_reducible apply State.put_keeps | with_reducible apply keeps_ite | with_reducible apply keeps_foldl | fail_if_no_progress (with_reducible apply keeps_other) | with_reducible apply keeps_dropRegs | with_reducible apply keeps_dropMem | with_reducible apply keeps_dropBoth | (intro _; intros) | (refine keeps_of_some (by with_reducible assumption) ?_) | (refine keeps_of_fst (by with_reducible assumption) ?_) | split)

theorem State.folUnaligned_keeps {z0 : State} {s : State} (f : Nat) (i : Nat)  (hK : Keeps z0 s) :
    Keeps z0 (State.folUnaligned s f i) := by
  unfold State.folUnaligned
  try dsimp only
  repeat' (first | with_reducible assumption | with_reducible apply State.folFade_keeps | with_reducible apply State.folNeed_keeps | with_reducible apply keeps_ite | with_reducible apply keeps_foldl | fail_if_no_progress (with_reducible apply keeps_other) | with_reducible apply keeps_dropRegs | with_reducible apply keeps_dropMem | with_reducible apply keeps_dropBoth | (intro _; intros) | (refine keeps_of_some (by with_reducible assumption) ?_) | (refine keeps_of_fst (by with_reducible assumption) ?_) | split)

theorem State.folGoHome_keeps {z0 : State} {s : State} (f : Nat)  (hK : Keeps z0 s) :
    Keeps z0 (State.folGoHome s f) := by
  unfold State.folGoHome
  try dsimp only
  repeat' (first | with_reducible assumption | with_reducible apply State.folUnaligned_keeps | with_reducible apply State.setAx_keeps | with_reducible apply keeps_ite | with_reducible apply keeps_foldl | fail_if_no_progress (with_reducible apply keeps_other) | with_reducible apply keeps_dropRegs | with_reducible apply keeps_dropMem | with_reducible apply keeps_dropBoth | (intro _; intros) | (refine keeps_of_some (by with_reducible assumption) ?_) | (refine keeps_of_fst (by with_reducible assumption) ?_) | split)

theorem State.folHurry_keeps {z0 : State} {s : State} (f : Nat) (i : Nat)  (hK : Keeps z0 s) :
    Keeps z0 (State.folHurry s f i) := by
  unfold State.folHurry
  try dsimp only
  repeat' (first | with_reducible assumption | with_reducible apply State.folUnaligned_keeps | with_reducible apply State.count_keeps | with_reducible apply keeps_ite | with_reducible apply keeps_foldl | fail_if_no_progress (with_reducible apply keeps_other) | with_reducible apply keeps_dropRegs | with_reducible apply keeps_dropMem | with_reducible apply keeps_dropBoth | (intro _; intros) | (refine keeps_of_some (by with_reducible assumption) ?_) | (refine keeps_of_fst (by with_reducible assumption) ?_) | split)

theorem State.folHomeIfLost_keeps {z0 : State} {s : State} (f : Nat)  (hK : Keeps z0 s) :
    Keeps z0 (State.folHomeIfLost s f) := by
  unfold State.folHomeIfLost
  try dsimp only
  repeat' (first | with_reducible assumption | with_reducible apply State.folGoHome_keeps | with_reducible apply keeps_ite | with_reducible apply keeps_foldl | fail_if_no_progress (with_reducible apply keeps_other) | with_reducible apply keeps_dropRegs | with_reducible apply keeps_dropMem | with_reducible apply keeps_dropBoth | (intro _; intros) | (refine keeps_of_some (by with_reducible assumption) ?_) | (refine keeps_of_fst (by with_reducible assumption) ?_) | split)

theorem State.folPrompt_keeps {z0 : State} {s : State} (f : Nat)  (hK : Keeps z0 s) :
    Keeps z0 (State.folPrompt s f) := by
  unfold State.folPrompt
  try dsimp only
  repeat' (first | with_reducible assumption | with_reducible apply State.folHurry_keeps | with_reducible apply keeps_ite | with_reducible apply keeps_foldl | fail_if_no_progress (with_reducible apply keeps_other) | with_reducible apply keeps_dropRegs | with_reducible apply keeps_dropMem | with_reducible apply keeps_dropBoth | (intro _; intros) | (refine keeps_of_some (by with_reducible assumption) ?_) | (refine keeps_of_fst (by with_reducible assumption) ?_) | split)

theorem State.folFail_keeps {z0 : State} {s : State} (f : Nat) (code : Nat) (align : Bool)  (hK : Keeps z0 s) :
    Keeps z0 (State.folFail s f code align) := by
  unfold State.folFail
  try dsimp only
  repeat' (first | with_reducible assumption | with_reducible apply State.folHomeIfLost_keeps | with_reducible apply State.folHurry_keeps | with_reducible apply State.folRelease_keeps | with_reducible apply State.folRest_keeps | with_reducible apply State.count_keeps | with_reducible apply State.raiseKind_keeps | with_reducible apply State.setHs_keeps | with_reducible apply State.setAx_keeps | with_reducible apply State.put_keeps | with_reducible apply keeps_ite | with_reducible apply keeps_foldl | fail_if_no_progress (with_reducible apply keeps_other) | with_reducible apply keeps_dropRegs | with_reducible apply keeps_dropMem | with_reducible apply keeps_dropBoth | (intro _; intros) | (refine keeps_of_some (by with_reducible assumption) ?_) | (refine keeps_of_fst (by with_reducible assumption) ?_) | split)

theorem State.folVerify_keeps {z0 : State} {s : State} (f : Nat) (i : Nat) (sub : Nat)  (hK : Keeps z0 s) :
    Keeps z0 (State.folVerify s f i sub) := by
  unfold State.folVerify
  try dsimp only
  repeat' (first | with_reducible assumption | with_reducible apply State.folNeed_keeps | with_reducible apply State.borrow_keeps | with_reducible apply State.mirrorMsg_keeps | with_reducible apply State.setAx_keeps | with_reducible apply State.putI_keeps | with_reducible apply State.put_keeps | with_reducible apply State.wr_keeps | with_reducible apply keeps_ite | with_reducible apply keeps_foldl | fail_if_no_progress (with_reducible apply keeps_other) | with_reducible apply keeps_dropRegs | with_reducible apply keeps_dropMem | with_reducible apply keeps_dropBoth | (intro _; intros) | (refine keeps_of_some (by with_reducible assumption) ?_) | (refine keeps_of_fst (by with_reducible assumption) ?_) | split)

theorem State.folVerifyHome_keeps {z0 : State} {s : State} (f : Nat) (home : Word)  (hK : Keeps z0 s) :
    Keeps z0 (State.folVerifyHome s f home) := by
  unfold State.folVerifyHome
  try dsimp only
  repeat' (first | with_reducible assumption | with_reducible apply State.setAx_keeps | with_reducible apply State.putI_keeps | with_reducible apply State.put_keeps | with_reducible apply State.wr_keeps | with_reducible apply keeps_ite | with_reducible apply keeps_foldl | fail_if_no_progress (with_reducible apply keeps_other) | with_reducible apply keeps_dropRegs | with_reducible apply keeps_dropMem | with_reducible apply keeps_dropBoth | (intro _; intros) | (refine keeps_of_some (by with_reducible assumption) ?_) | (refine keeps_of_fst (by with_reducible assumption) ?_) | split)

theorem State.folCur_keeps {z0 : State} {s : State} (f : Nat) (home : Word)  (hK : Keeps z0 s) :
    Keeps z0 (State.folCur s f home) := by
  unfold State.folCur
  try dsimp only
  repeat' (first | with_reducible assumption | with_reducible apply State.wr_keeps | with_reducible apply keeps_ite | with_reducible apply keeps_foldl | fail_if_no_progress (with_reducible apply keeps_other) | with_reducible apply keeps_dropRegs | with_reducible apply keeps_dropMem | with_reducible apply keeps_dropBoth | (intro _; intros) | (refine keeps_of_some (by with_reducible assumption) ?_) | (refine keeps_of_fst (by with_reducible assumption) ?_) | split)

theorem execFollowSeek_keeps {z0 : State} (n : Fin 32) (home : Word) (sub : Fin 64) {s : State}  (hK : Keeps z0 s) :
    KeepsOut z0 (execFollowSeek n home sub s) := by
  unfold execFollowSeek
  try dsimp only
  repeat' (first | with_reducible assumption | with_reducible apply State.folCur_keeps | with_reducible apply State.folVerifyHome_keeps | with_reducible apply State.folVerify_keeps | with_reducible apply State.folNeed_keeps | with_reducible apply State.useFresh_keeps | with_reducible apply State.setAx_keeps | with_reducible apply keeps_ite | with_reducible apply keeps_foldl | with_reducible apply keepsOut_next | with_reducible apply keepsOut_ite | fail_if_no_progress (with_reducible apply keeps_other) | with_reducible apply keeps_dropRegs | with_reducible apply keeps_dropMem | with_reducible apply keeps_dropBoth | (intro _; intros) | (refine keeps_of_some (by with_reducible assumption) ?_) | (refine keeps_of_fst (by with_reducible assumption) ?_) | split)

theorem execFollowSurvey_keeps {z0 : State} (n : Fin 32) (home : Word) (i : Word) {s : State}  (hK : Keeps z0 s) :
    KeepsOut z0 (execFollowSurvey n home i s) := by
  unfold execFollowSurvey
  try dsimp only
  repeat' (first | with_reducible assumption | with_reducible apply State.folCur_keeps | with_reducible apply State.folVerify_keeps | with_reducible apply State.folNeed_keeps | with_reducible apply State.setAx_keeps | with_reducible apply keeps_ite | with_reducible apply keeps_foldl | with_reducible apply keepsOut_next | with_reducible apply keepsOut_ite | fail_if_no_progress (with_reducible apply keeps_other) | with_reducible apply keeps_dropRegs | with_reducible apply keeps_dropMem | with_reducible apply keeps_dropBoth | (intro _; intros) | (refine keeps_of_some (by with_reducible assumption) ?_) | (refine keeps_of_fst (by with_reducible assumption) ?_) | split)

theorem execVerifyIdentityPass_keeps {z0 : State} (n : Fin 32) (sub : Fin 64) {s : State}  (hK : Keeps z0 s) :
    KeepsOut z0 (execVerifyIdentityPass n sub s) := by
  unfold execVerifyIdentityPass
  try dsimp only
  repeat' (first | with_reducible assumption | with_reducible apply State.folPrompt_keeps | with_reducible apply State.folHurry_keeps | with_reducible apply State.folRelease_keeps | with_reducible apply State.folRest_keeps | with_reducible apply State.selTake_keeps | with_reducible apply State.setAx_keeps | with_reducible apply State.put_keeps | with_reducible apply keeps_ite | with_reducible apply keeps_foldl | with_reducible apply keepsOut_next | with_reducible apply keepsOut_ite | fail_if_no_progress (with_reducible apply keeps_other) | with_reducible apply keeps_dropRegs | with_reducible apply keeps_dropMem | with_reducible apply keeps_dropBoth | (intro _; intros) | (refine keeps_of_some (by with_reducible assumption) ?_) | (refine keeps_of_fst (by with_reducible assumption) ?_) | split)

theorem execVerifyTimeout_keeps {z0 : State} (n : Fin 32) {s : State}  (hK : Keeps z0 s) :
    KeepsOut z0 (execVerifyTimeout n s) := by
  unfold execVerifyTimeout
  try dsimp only
  repeat' (first | with_reducible assumption | with_reducible apply State.folFail_keeps | with_reducible apply keeps_ite | with_reducible apply keeps_foldl | with_reducible apply keepsOut_next | with_reducible apply keepsOut_ite | fail_if_no_progress (with_reducible apply keeps_other) | with_reducible apply keeps_dropRegs | with_reducible apply keeps_dropMem | with_reducible apply keeps_dropBoth | (intro _; intros) | (refine keeps_of_some (by with_reducible assumption) ?_) | (refine keeps_of_fst (by with_reducible assumption) ?_) | split)

theorem execVerifyQualityCheck_keeps {z0 : State} (n : Fin 32) {s : State}  (hK : Keeps z0 s) :
    KeepsOut z0 (execVerifyQualityCheck n s) := by
  unfold execVerifyQualityCheck
  try dsimp only
  repeat' (first | with_reducible assumption | with_reducible apply State.folFail_keeps | with_reducible apply State.folPrompt_keeps | with_reducible apply State.folHomeIfLost_keeps | with_reducible apply State.folRelease_keeps | with_reducible apply State.folRest_keeps | with_reducible apply State.useFresh_keeps | with_reducible apply State.putI_keeps | with_reducible apply keeps_ite | with_reducible apply keeps_foldl | with_reducible apply keepsOut_next | with_reducible apply keepsOut_ite | fail_if_no_progress (with_reducible apply keeps_other) | with_reducible apply keeps_dropRegs | with_reducible apply keeps_dropMem | with_reducible apply keeps_dropBoth | (intro _; intros) | (refine keeps_of_some (by with_reducible assumption) ?_) | (refine keeps_of_fst (by with_reducible assumption) ?_) | split)

theorem State.folAligned_keeps {z0 : State} {s : State} (f : Nat) (lag : Int)  (hK : Keeps z0 s) :
    Keeps z0 (State.folAligned s f lag) := by
  unfold State.folAligned
  try dsimp only
  repeat' (first | with_reducible assumption | with_reducible apply State.folHurry_keeps | with_reducible apply State.folDelay_keeps | with_reducible apply State.folNeed_keeps | with_reducible apply State.setAx_keeps | with_reducible apply State.put_keeps | with_reducible apply keeps_ite | with_reducible apply keeps_foldl | fail_if_no_progress (with_reducible apply keeps_other) | with_reducible apply keeps_dropRegs | with_reducible apply keeps_dropMem | with_reducible apply keeps_dropBoth | (intro _; intros) | (refine keeps_of_some (by with_reducible assumption) ?_) | (refine keeps_of_fst (by with_reducible assumption) ?_) | split)

theorem State.folMeasured_keeps {z0 : State} {s : State} (f : Nat) (lag : Int)  (hK : Keeps z0 s) :
    Keeps z0 (State.folMeasured s f lag) := by
  unfold State.folMeasured
  try dsimp only
  repeat' (first | with_reducible assumption | with_reducible apply State.folAligned_keeps | with_reducible apply State.folFail_keeps | with_reducible apply State.useFresh_keeps | with_reducible apply State.setAx_keeps | with_reducible apply State.putI_keeps | with_reducible apply State.put_keeps | with_reducible apply keeps_ite | with_reducible apply keeps_foldl | fail_if_no_progress (with_reducible apply keeps_other) | with_reducible apply keeps_dropRegs | with_reducible apply keeps_dropMem | with_reducible apply keeps_dropBoth | (intro _; intros) | (refine keeps_of_some (by with_reducible assumption) ?_) | (refine keeps_of_fst (by with_reducible assumption) ?_) | split)

theorem execCorrelationMeasured_keeps {z0 : State} (n : Fin 32) {s : State}  (hK : Keeps z0 s) :
    KeepsOut z0 (execCorrelationMeasured n s) := by
  unfold execCorrelationMeasured
  try dsimp only
  repeat' (first | with_reducible assumption | with_reducible apply State.folMeasured_keeps | with_reducible apply keeps_ite | with_reducible apply keeps_foldl | with_reducible apply keepsOut_next | with_reducible apply keepsOut_ite | fail_if_no_progress (with_reducible apply keeps_other) | with_reducible apply keeps_dropRegs | with_reducible apply keeps_dropMem | with_reducible apply keeps_dropBoth | (intro _; intros) | (refine keeps_of_some (by with_reducible assumption) ?_) | (refine keeps_of_fst (by with_reducible assumption) ?_) | split)

theorem execFollowSwitchDue_keeps {z0 : State} (n : Fin 32) {s : State}  (hK : Keeps z0 s) :
    KeepsOut z0 (execFollowSwitchDue n s) := by
  unfold execFollowSwitchDue
  try dsimp only
  repeat' (first | with_reducible assumption | with_reducible apply State.useFresh_keeps | with_reducible apply State.setAx_keeps | with_reducible apply State.putI_keeps | with_reducible apply keeps_ite | with_reducible apply keeps_foldl | with_reducible apply keepsOut_next | with_reducible apply keepsOut_ite | fail_if_no_progress (with_reducible apply keeps_other) | with_reducible apply keeps_dropRegs | with_reducible apply keeps_dropMem | with_reducible apply keeps_dropBoth | (intro _; intros) | (refine keeps_of_some (by with_reducible assumption) ?_) | (refine keeps_of_fst (by with_reducible assumption) ?_) | split)

theorem execBlendStart_keeps {z0 : State} (n : Fin 32) {s : State}  (hK : Keeps z0 s) :
    KeepsOut z0 (execBlendStart n s) := by
  unfold execBlendStart
  try dsimp only
  repeat' (first | with_reducible assumption | with_reducible apply State.folFade_keeps | with_reducible apply State.folNeed_keeps | with_reducible apply keeps_ite | with_reducible apply keeps_foldl | with_reducible apply keepsOut_next | with_reducible apply keepsOut_ite | fail_if_no_progress (with_reducible apply keeps_other) | with_reducible apply keeps_dropRegs | with_reducible apply keeps_dropMem | with_reducible apply keeps_dropBoth | (intro _; intros) | (refine keeps_of_some (by with_reducible assumption) ?_) | (refine keeps_of_fst (by with_reducible assumption) ?_) | split)

theorem State.folMute_keeps {z0 : State} {s : State} (f : Nat) (on : Bool)  (hK : Keeps z0 s) :
    Keeps z0 (State.folMute s f on) := by
  unfold State.folMute
  try dsimp only
  repeat' (first | with_reducible assumption | with_reducible apply State.setAx_keeps | with_reducible apply keeps_ite | with_reducible apply keeps_foldl | fail_if_no_progress (with_reducible apply keeps_other) | with_reducible apply keeps_dropRegs | with_reducible apply keeps_dropMem | with_reducible apply keeps_dropBoth | (intro _; intros) | (refine keeps_of_some (by with_reducible assumption) ?_) | (refine keeps_of_fst (by with_reducible assumption) ?_) | split)

theorem State.folRepoint_keeps {z0 : State} {s : State} (f : Nat) (a : List Int)  (hK : Keeps z0 s) :
    KeepsOpt z0 (State.folRepoint s f a) := by
  unfold State.folRepoint
  try dsimp only
  repeat' (first | with_reducible assumption | with_reducible apply State.setChannel_keeps | with_reducible apply State.selTake_keeps | with_reducible apply State.syncReset_keeps | with_reducible apply State.put_keeps | with_reducible apply keeps_ite | with_reducible apply keeps_foldl | with_reducible apply keepsOpt_getD | with_reducible apply keepsOpt_some | with_reducible exact keepsOpt_none | with_reducible apply keepsOpt_ite | with_reducible apply keepsOpt_map | fail_if_no_progress (with_reducible apply keeps_other) | with_reducible apply keeps_dropRegs | with_reducible apply keeps_dropMem | with_reducible apply keeps_dropBoth | (intro _; intros) | (refine keeps_of_some (by with_reducible assumption) ?_) | (refine keeps_of_fst (by with_reducible assumption) ?_) | split)

theorem State.annChain_keeps {z0 : State} {s : State} (f : Nat) (a : List Int)  (hK : Keeps z0 s) :
    KeepsOpt z0 (State.annChain s f a) := by
  unfold State.annChain
  try dsimp only
  repeat' (first | with_reducible assumption | with_reducible apply State.borrow_keeps | with_reducible apply State.chainOnEngine_keeps | with_reducible apply State.takeNewestTask_keeps | with_reducible apply keeps_ite | with_reducible apply keeps_foldl | with_reducible apply keepsOpt_getD | with_reducible apply keepsOpt_some | with_reducible exact keepsOpt_none | with_reducible apply keepsOpt_ite | with_reducible apply keepsOpt_map | fail_if_no_progress (with_reducible apply keeps_other) | with_reducible apply keeps_dropRegs | with_reducible apply keeps_dropMem | with_reducible apply keeps_dropBoth | (intro _; intros) | (refine keeps_of_some (by with_reducible assumption) ?_) | (refine keeps_of_fst (by with_reducible assumption) ?_) | split)

theorem State.annPoint_keeps {z0 : State} {s : State} (f : Nat) (a : List Int)  (hK : Keeps z0 s) :
    KeepsOpt z0 (State.annPoint s f a) := by
  unfold State.annPoint
  try dsimp only
  repeat' (first | with_reducible assumption | with_reducible apply State.annChain_keeps | with_reducible apply State.folRepoint_keeps | with_reducible apply State.dropScouts_keeps | with_reducible apply keeps_ite | with_reducible apply keeps_foldl | with_reducible apply keepsOpt_some | with_reducible exact keepsOpt_none | with_reducible apply keepsOpt_ite | with_reducible apply keepsOpt_map | fail_if_no_progress (with_reducible apply keeps_other) | with_reducible apply keeps_dropRegs | with_reducible apply keeps_dropMem | with_reducible apply keeps_dropBoth | (intro _; intros) | (refine keeps_of_some (by with_reducible assumption) ?_) | (refine keeps_of_fst (by with_reducible assumption) ?_) | split)

theorem State.annFollow_keeps {z0 : State} {s : State} (f : Nat) (a : List Int)  (hK : Keeps z0 s) :
    Keeps z0 (State.annFollow s f a) := by
  unfold State.annFollow
  try dsimp only
  repeat' (first | with_reducible assumption | with_reducible apply State.folMute_keeps | with_reducible apply State.setHs_keeps | with_reducible apply State.setAx_keeps | with_reducible apply State.put_keeps | with_reducible apply keeps_ite | with_reducible apply keeps_foldl | fail_if_no_progress (with_reducible apply keeps_other) | with_reducible apply keeps_dropRegs | with_reducible apply keeps_dropMem | with_reducible apply keeps_dropBoth | (intro _; intros) | (refine keeps_of_some (by with_reducible assumption) ?_) | (refine keeps_of_fst (by with_reducible assumption) ?_) | split)

theorem State.annTake_keeps {z0 : State} {s : State} (f : Nat) (a : List Int)  (hK : Keeps z0 s) :
    Keeps z0 (State.annTake s f a) := by
  unfold State.annTake
  try dsimp only
  repeat' (first | with_reducible assumption | with_reducible apply State.annFollow_keeps | with_reducible apply State.annPoint_keeps | with_reducible apply State.folNeed_keeps | with_reducible apply State.folRelease_keeps | with_reducible apply State.folRest_keeps | with_reducible apply State.setAx_keeps | with_reducible apply keeps_ite | with_reducible apply keeps_foldl | fail_if_no_progress (with_reducible apply keeps_other) | with_reducible apply keeps_dropRegs | with_reducible apply keeps_dropMem | with_reducible apply keeps_dropBoth | (intro _; intros) | (refine keeps_of_some (by with_reducible assumption) ?_) | (refine keeps_of_fst (by with_reducible assumption) ?_) | split)

theorem State.annWait_keeps {z0 : State} {s : State} (f : Nat) (a : List Int)  (hK : Keeps z0 s) :
    Keeps z0 (State.annWait s f a) := by
  unfold State.annWait
  try dsimp only
  repeat' (first | with_reducible assumption | with_reducible apply State.setHs_keeps | with_reducible apply keeps_ite | with_reducible apply keeps_foldl | fail_if_no_progress (with_reducible apply keeps_other) | with_reducible apply keeps_dropRegs | with_reducible apply keeps_dropMem | with_reducible apply keeps_dropBoth | (intro _; intros) | (refine keeps_of_some (by with_reducible assumption) ?_) | (refine keeps_of_fst (by with_reducible assumption) ?_) | split)

theorem State.folAnnounce_keeps {z0 : State} {s : State} (f : Nat) (a : List Int)  (hK : Keeps z0 s) :
    Keeps z0 (State.folAnnounce s f a) := by
  unfold State.folAnnounce
  try dsimp only
  repeat' (first | with_reducible assumption | with_reducible apply State.annWait_keeps | with_reducible apply State.annTake_keeps | with_reducible apply State.annFollow_keeps | with_reducible apply State.annPoint_keeps | with_reducible apply keeps_ite | with_reducible apply keeps_foldl | with_reducible apply keepsOpt_getD | fail_if_no_progress (with_reducible apply keeps_other) | with_reducible apply keeps_dropRegs | with_reducible apply keeps_dropMem | with_reducible apply keeps_dropBoth | (intro _; intros) | (refine keeps_of_some (by with_reducible assumption) ?_) | (refine keeps_of_fst (by with_reducible assumption) ?_) | split)

theorem State.annWaiting_keeps {z0 : State} {s : State} (f : Nat)  (hK : Keeps z0 s) :
    Keeps z0 (State.annWaiting s f) := by
  unfold State.annWaiting
  try dsimp only
  repeat' (first | with_reducible assumption | with_reducible apply State.annTake_keeps | with_reducible apply State.setHs_keeps | with_reducible apply keeps_ite | with_reducible apply keeps_foldl | fail_if_no_progress (with_reducible apply keeps_other) | with_reducible apply keeps_dropRegs | with_reducible apply keeps_dropMem | with_reducible apply keeps_dropBoth | (intro _; intros) | (refine keeps_of_some (by with_reducible assumption) ?_) | (refine keeps_of_fst (by with_reducible assumption) ?_) | split)

theorem State.annBack_keeps {z0 : State} {s : State} (f : Nat)  (hK : Keeps z0 s) :
    Keeps z0 (State.annBack s f) := by
  unfold State.annBack
  try dsimp only
  repeat' (first | with_reducible assumption | with_reducible apply State.annWaiting_keeps | with_reducible apply State.folMute_keeps | with_reducible apply State.folGoHome_keeps | with_reducible apply State.folRest_keeps | with_reducible apply State.startXfade_keeps | with_reducible apply State.dropScouts_keeps | with_reducible apply State.raiseKind_keeps | with_reducible apply State.mirrorMsg_keeps | with_reducible apply State.setHs_keeps | with_reducible apply State.setAx_keeps | with_reducible apply State.put_keeps | with_reducible apply keeps_ite | with_reducible apply keeps_foldl | fail_if_no_progress (with_reducible apply keeps_other) | with_reducible apply keeps_dropRegs | with_reducible apply keeps_dropMem | with_reducible apply keeps_dropBoth | (intro _; intros) | (refine keeps_of_some (by with_reducible assumption) ?_) | (refine keeps_of_fst (by with_reducible assumption) ?_) | split)

theorem State.annOver_keeps {z0 : State} {s : State} (f : Nat) (engine : Nat) (cluster : Nat)  (hK : Keeps z0 s) :
    Keeps z0 (State.annOver s f engine cluster) := by
  unfold State.annOver
  try dsimp only
  repeat' (first | with_reducible assumption | with_reducible apply State.annBack_keeps | with_reducible apply State.setHs_keeps | with_reducible apply keeps_ite | with_reducible apply keeps_foldl | fail_if_no_progress (with_reducible apply keeps_other) | with_reducible apply keeps_dropRegs | with_reducible apply keeps_dropMem | with_reducible apply keeps_dropBoth | (intro _; intros) | (refine keeps_of_some (by with_reducible assumption) ?_) | (refine keeps_of_fst (by with_reducible assumption) ?_) | split)

theorem State.annRecords_keeps {z0 : State} {s : State} (w : Nat) (start : Bool) (entry : Nat)  (hK : Keeps z0 s) :
    Keeps z0 (State.annRecords s w start entry) := by
  unfold State.annRecords
  try dsimp only
  repeat' (first | with_reducible assumption | with_reducible apply State.sdAnnounce_keeps | with_reducible apply keeps_ite | with_reducible apply keeps_foldl | fail_if_no_progress (with_reducible apply keeps_other) | with_reducible apply keeps_dropRegs | with_reducible apply keeps_dropMem | with_reducible apply keeps_dropBoth | (intro _; intros) | (refine keeps_of_some (by with_reducible assumption) ?_) | (refine keeps_of_fst (by with_reducible assumption) ?_) | split)

theorem State.annEnded_keeps {z0 : State} {s : State} (w : Nat) (cluster : Nat)  (hK : Keeps z0 s) :
    Keeps z0 (State.annEnded s w cluster) := by
  unfold State.annEnded
  try dsimp only
  repeat' (first | with_reducible assumption | with_reducible apply State.annOver_keeps | with_reducible apply keeps_ite | with_reducible apply keeps_foldl | fail_if_no_progress (with_reducible apply keeps_other) | with_reducible apply keeps_dropRegs | with_reducible apply keeps_dropMem | with_reducible apply keeps_dropBoth | (intro _; intros) | (refine keeps_of_some (by with_reducible assumption) ?_) | (refine keeps_of_fst (by with_reducible assumption) ?_) | split)

theorem execAnnouncementEntry_keeps {z0 : State} (n : Fin 16) (asw : BitVec 16) (cluster : BitVec 8) (sub : BitVec 6) (new : Bool) (region : Bool) {s : State}  (hK : Keeps z0 s) :
    KeepsOut z0 (execAnnouncementEntry n asw cluster sub new region s) := by
  unfold execAnnouncementEntry
  try dsimp only
  repeat' (first | with_reducible assumption | with_reducible apply State.annEnded_keeps | with_reducible apply State.annRecords_keeps | with_reducible apply State.folAnnounce_keeps | with_reducible apply State.annEntry_keeps | with_reducible apply keeps_ite | with_reducible apply keeps_foldl | with_reducible apply keepsOut_next | with_reducible apply keepsOut_ite | fail_if_no_progress (with_reducible apply keeps_other) | with_reducible apply keeps_dropRegs | with_reducible apply keeps_dropMem | with_reducible apply keeps_dropBoth | (intro _; intros) | (refine keeps_of_some (by with_reducible assumption) ?_) | (refine keeps_of_fst (by with_reducible assumption) ?_) | split)

theorem execAnnouncementTimeout_keeps {z0 : State} (n : Fin 16) (cluster : BitVec 8) {s : State}  (hK : Keeps z0 s) :
    KeepsOut z0 (execAnnouncementTimeout n cluster s) := by
  unfold execAnnouncementTimeout
  try dsimp only
  repeat' (first | with_reducible assumption | with_reducible apply State.annEnded_keeps | with_reducible apply State.annRecords_keeps | with_reducible apply State.annEnd_keeps | with_reducible apply keeps_ite | with_reducible apply keeps_foldl | with_reducible apply keepsOut_next | with_reducible apply keepsOut_ite | fail_if_no_progress (with_reducible apply keeps_other) | with_reducible apply keeps_dropRegs | with_reducible apply keeps_dropMem | with_reducible apply keeps_dropBoth | (intro _; intros) | (refine keeps_of_some (by with_reducible assumption) ?_) | (refine keeps_of_fst (by with_reducible assumption) ?_) | split)

theorem State.eonFollow_keeps {z0 : State} (s : State) {t : State} (w : Nat) (pi : Nat)  (hK : Keeps z0 t) :
    Keeps z0 (State.eonFollow s t w pi) := by
  unfold State.eonFollow
  try dsimp only
  repeat' (first | with_reducible assumption | with_reducible apply State.annEnded_keeps | with_reducible apply State.folAnnounce_keeps | with_reducible apply keeps_ite | with_reducible apply keeps_foldl | with_reducible apply keepsOpt_getD | fail_if_no_progress (with_reducible apply keeps_other) | with_reducible apply keeps_dropRegs | with_reducible apply keeps_dropMem | with_reducible apply keeps_dropBoth | (intro _; intros) | (refine keeps_of_some (by with_reducible assumption) ?_) | (refine keeps_of_fst (by with_reducible assumption) ?_) | split)

theorem execRdsBlock_keeps {z0 : State} (n : Fin 64) {s : State}  (hK : Keeps z0 s) :
    KeepsOut z0 (execRdsBlock n s) := by
  unfold execRdsBlock
  try dsimp only
  repeat' (first | with_reducible assumption | with_reducible apply State.eonFollow_keeps | with_reducible apply State.rdsBlock_keeps | with_reducible apply keeps_ite | with_reducible apply keeps_foldl | with_reducible apply keepsOut_next | with_reducible apply keepsOut_ite | fail_if_no_progress (with_reducible apply keeps_other) | with_reducible apply keeps_dropRegs | with_reducible apply keeps_dropMem | with_reducible apply keeps_dropBoth | (intro _; intros) | (refine keeps_of_some (by with_reducible assumption) ?_) | (refine keeps_of_fst (by with_reducible assumption) ?_) | split)

theorem State.annIn_keeps {z0 : State} {s : State} (f : Nat)  (hK : Keeps z0 s) :
    Keeps z0 (State.annIn s f) := by
  unfold State.annIn
  try dsimp only
  repeat' (first | with_reducible assumption | with_reducible apply State.folMute_keeps | with_reducible apply State.startXfade_keeps | with_reducible apply State.count_keeps | with_reducible apply State.raiseKind_keeps | with_reducible apply State.mirrorMsg_keeps | with_reducible apply State.setAx_keeps | with_reducible apply State.put_keeps | with_reducible apply keeps_ite | with_reducible apply keeps_foldl | fail_if_no_progress (with_reducible apply keeps_other) | with_reducible apply keeps_dropRegs | with_reducible apply keeps_dropMem | with_reducible apply keeps_dropBoth | (intro _; intros) | (refine keeps_of_some (by with_reducible assumption) ?_) | (refine keeps_of_fst (by with_reducible assumption) ?_) | split)

theorem execAnnFadeIn_keeps {z0 : State} (n : Fin 32) {s : State}  (hK : Keeps z0 s) :
    KeepsOut z0 (execAnnFadeIn n s) := by
  unfold execAnnFadeIn
  try dsimp only
  repeat' (first | with_reducible assumption | with_reducible apply State.annIn_keeps | with_reducible apply keeps_ite | with_reducible apply keeps_foldl | with_reducible apply keepsOut_next | with_reducible apply keepsOut_ite | fail_if_no_progress (with_reducible apply keeps_other) | with_reducible apply keeps_dropRegs | with_reducible apply keeps_dropMem | with_reducible apply keeps_dropBoth | (intro _; intros) | (refine keeps_of_some (by with_reducible assumption) ?_) | (refine keeps_of_fst (by with_reducible assumption) ?_) | split)

theorem State.blendEnd_keeps {z0 : State} {s : State} (f : Nat)  (hK : Keeps z0 s) :
    Keeps z0 (State.blendEnd s f) := by
  unfold State.blendEnd
  try dsimp only
  repeat' (first | with_reducible assumption | with_reducible apply State.annWaiting_keeps | with_reducible apply State.folGoHome_keeps | with_reducible apply State.folRest_keeps | with_reducible apply State.dropScouts_keeps | with_reducible apply State.laneFlush_keeps | with_reducible apply State.count_keeps | with_reducible apply State.raiseKind_keeps | with_reducible apply State.setAx_keeps | with_reducible apply State.putI_keeps | with_reducible apply State.put_keeps | with_reducible apply State.wr_keeps | with_reducible apply keeps_ite | with_reducible apply keeps_foldl | fail_if_no_progress (with_reducible apply keeps_other) | with_reducible apply keeps_dropRegs | with_reducible apply keeps_dropMem | with_reducible apply keeps_dropBoth | (intro _; intros) | (refine keeps_of_some (by with_reducible assumption) ?_) | (refine keeps_of_fst (by with_reducible assumption) ?_) | split)

theorem execXfadeDone_keeps {z0 : State} (n : Fin 32) {s : State}  (hK : Keeps z0 s) :
    KeepsOut z0 (execXfadeDone n s) := by
  unfold execXfadeDone
  try dsimp only
  repeat' (first | with_reducible assumption | with_reducible apply State.annWaiting_keeps | with_reducible apply State.serveSelect_keeps | with_reducible apply State.dropScouts_keeps | with_reducible apply State.laneFlush_keeps | with_reducible apply State.setAx_keeps | with_reducible apply keeps_ite | with_reducible apply keeps_foldl | with_reducible apply keepsOut_next | with_reducible apply keepsOut_ite | fail_if_no_progress (with_reducible apply keeps_other) | with_reducible apply keeps_dropRegs | with_reducible apply keeps_dropMem | with_reducible apply keeps_dropBoth | (intro _; intros) | (refine keeps_of_some (by with_reducible assumption) ?_) | (refine keeps_of_fst (by with_reducible assumption) ?_) | split)

theorem execRampEnd_keeps {z0 : State} (n : Fin 32) {s : State}  (hK : Keeps z0 s) :
    KeepsOut z0 (execRampEnd n s) := by
  unfold execRampEnd
  try dsimp only
  repeat' (first | with_reducible assumption | with_reducible apply State.laneSteer_keeps | with_reducible apply State.rampZero_keeps | with_reducible apply State.setAx_keeps | with_reducible apply State.put_keeps | with_reducible apply keeps_ite | with_reducible apply keeps_foldl | with_reducible apply keepsOut_next | with_reducible apply keepsOut_ite | fail_if_no_progress (with_reducible apply keeps_other) | with_reducible apply keeps_dropRegs | with_reducible apply keeps_dropMem | with_reducible apply keeps_dropBoth | (intro _; intros) | (refine keeps_of_some (by with_reducible assumption) ?_) | (refine keeps_of_fst (by with_reducible assumption) ?_) | split)

theorem execSourceLost_keeps {z0 : State} (n : Fin 32) {s : State}  (hK : Keeps z0 s) :
    KeepsOut z0 (execSourceLost n s) := by
  unfold execSourceLost
  try dsimp only
  repeat' (first | with_reducible assumption | with_reducible apply State.folPrompt_keeps | with_reducible apply State.folUnaligned_keeps | with_reducible apply State.raiseKind_keeps | with_reducible apply State.useFresh_keeps | with_reducible apply State.setAx_keeps | with_reducible apply keeps_ite | with_reducible apply keeps_foldl | with_reducible apply keepsOut_next | with_reducible apply keepsOut_ite | fail_if_no_progress (with_reducible apply keeps_other) | with_reducible apply keeps_dropRegs | with_reducible apply keeps_dropMem | with_reducible apply keeps_dropBoth | (intro _; intros) | (refine keeps_of_some (by with_reducible assumption) ?_) | (refine keeps_of_fst (by with_reducible assumption) ?_) | split)

theorem State.scoutTaken_keeps {z0 : State} {s : State} (f : Nat)  (hK : Keeps z0 s) :
    Keeps z0 (State.scoutTaken s f) := by
  unfold State.scoutTaken
  try dsimp only
  repeat' (first | with_reducible assumption | with_reducible apply State.annBack_keeps | with_reducible apply State.folFail_keeps | with_reducible apply State.folGoHome_keeps | with_reducible apply State.dropScouts_keeps | with_reducible apply State.count_keeps | with_reducible apply keeps_ite | with_reducible apply keeps_foldl | fail_if_no_progress (with_reducible apply keeps_other) | with_reducible apply keeps_dropRegs | with_reducible apply keeps_dropMem | with_reducible apply keeps_dropBoth | (intro _; intros) | (refine keeps_of_some (by with_reducible assumption) ?_) | (refine keeps_of_fst (by with_reducible assumption) ?_) | split)

theorem State.takeFromScouts_keeps {z0 : State} {s : State} (ws : List Nat)  (hK : Keeps z0 s) :
    Keeps z0 (State.takeFromScouts s ws) := by
  unfold State.takeFromScouts
  try dsimp only
  repeat' (first | with_reducible assumption | with_reducible apply State.scoutTaken_keeps | with_reducible apply keeps_ite | with_reducible apply keeps_foldl | fail_if_no_progress (with_reducible apply keeps_other) | with_reducible apply keeps_dropRegs | with_reducible apply keeps_dropMem | with_reducible apply keeps_dropBoth | (intro _; intros) | (refine keeps_of_some (by with_reducible assumption) ?_) | (refine keeps_of_fst (by with_reducible assumption) ?_) | split)

theorem State.followRestart_keeps {z0 : State} {s : State} (f : Nat)  (hK : Keeps z0 s) :
    Keeps z0 (State.followRestart s f) := by
  unfold State.followRestart
  try dsimp only
  repeat' (first | with_reducible assumption | with_reducible apply State.followDrop_keeps | with_reducible apply State.followStart_keeps | with_reducible apply keeps_ite | with_reducible apply keeps_foldl | fail_if_no_progress (with_reducible apply keeps_other) | with_reducible apply keeps_dropRegs | with_reducible apply keeps_dropMem | with_reducible apply keeps_dropBoth | (intro _; intros) | (refine keeps_of_some (by with_reducible assumption) ?_) | (refine keeps_of_fst (by with_reducible assumption) ?_) | split)

theorem execRecentre_keeps {z0 : State} (m : Master) (n : Fin 32) (v : Word) {s : State}  (hK : Keeps z0 s) :
    KeepsOut z0 (execRecentre m n v s) := by
  unfold execRecentre
  try dsimp only
  repeat' (first | with_reducible assumption | with_reducible apply State.followCtl_keeps | with_reducible apply State.guarded_keeps | with_reducible apply keeps_ite | with_reducible apply keeps_foldl | with_reducible apply keepsOut_next | with_reducible apply keepsOut_ite | fail_if_no_progress (with_reducible apply keeps_other) | with_reducible apply keeps_dropRegs | with_reducible apply keeps_dropMem | with_reducible apply keeps_dropBoth | (intro _; intros) | (refine keeps_of_some (by with_reducible assumption) ?_) | (refine keeps_of_fst (by with_reducible assumption) ?_) | split)

theorem State.folServe_keeps {z0 : State} {s : State} (ph : Fin 8) (op : Nat) (tag : BitVec 8) (args : List Word) (body : State → Nat → State × List Word) (hbody : ∀ y a0, Keeps z0 y → Keeps z0 (body y a0).1) (hK : Keeps z0 s) :
    Keeps z0 (State.folServe s ph op tag args body) := by
  unfold State.folServe
  try dsimp only
  repeat' (first | with_reducible assumption | with_reducible apply hbody | with_reducible apply State.serve_keeps | with_reducible apply State.reply_keeps | with_reducible apply keeps_ite | with_reducible apply keeps_foldl | fail_if_no_progress (with_reducible apply keeps_other) | with_reducible apply keeps_dropRegs | with_reducible apply keeps_dropMem | with_reducible apply keeps_dropBoth | (intro _; intros) | (refine keeps_of_some (by with_reducible assumption) ?_) | (refine keeps_of_fst (by with_reducible assumption) ?_) | split)

theorem State.folCommand_keeps {z0 : State} {s : State} (f : Nat) (kind : Nat) (i : Nat)  (hK : Keeps z0 s) :
    Keeps z0 (State.folCommand s f kind i) := by
  unfold State.folCommand
  try dsimp only
  repeat' (first | with_reducible assumption | with_reducible apply State.folRelease_keeps | with_reducible apply State.folRest_keeps | with_reducible apply State.setAx_keeps | with_reducible apply keeps_ite | with_reducible apply keeps_foldl | fail_if_no_progress (with_reducible apply keeps_other) | with_reducible apply keeps_dropRegs | with_reducible apply keeps_dropMem | with_reducible apply keeps_dropBoth | (intro _; intros) | (refine keeps_of_some (by with_reducible assumption) ?_) | (refine keeps_of_fst (by with_reducible assumption) ?_) | split)

theorem execSfForce_keeps {z0 : State} (ph : Fin 8) (tag : BitVec 8) (args : List Word) {s : State}  (hK : Keeps z0 s) :
    KeepsOut z0 (execSfForce ph tag args s) := by
  unfold execSfForce
  try dsimp only
  repeat' (first | with_reducible assumption | with_reducible apply State.folCommand_keeps | with_reducible apply State.folServe_keeps | with_reducible apply keeps_ite | with_reducible apply keeps_foldl | with_reducible apply keepsOut_next | with_reducible apply keepsOut_ite | with_reducible apply keepsOpt_getD | fail_if_no_progress (with_reducible apply keeps_other) | with_reducible apply keeps_dropRegs | with_reducible apply keeps_dropMem | with_reducible apply keeps_dropBoth | (intro _; intros) | (refine keeps_of_some (by with_reducible assumption) ?_) | (refine keeps_of_fst (by with_reducible assumption) ?_) | split)

theorem execSfHome_keeps {z0 : State} (ph : Fin 8) (tag : BitVec 8) (args : List Word) {s : State}  (hK : Keeps z0 s) :
    KeepsOut z0 (execSfHome ph tag args s) := by
  unfold execSfHome
  try dsimp only
  repeat' (first | with_reducible assumption | with_reducible apply State.folCommand_keeps | with_reducible apply State.folServe_keeps | with_reducible apply keeps_ite | with_reducible apply keeps_foldl | with_reducible apply keepsOut_next | with_reducible apply keepsOut_ite | fail_if_no_progress (with_reducible apply keeps_other) | with_reducible apply keeps_dropRegs | with_reducible apply keeps_dropMem | with_reducible apply keeps_dropBoth | (intro _; intros) | (refine keeps_of_some (by with_reducible assumption) ?_) | (refine keeps_of_fst (by with_reducible assumption) ?_) | split)

theorem execSfStatus_keeps {z0 : State} (ph : Fin 8) (tag : BitVec 8) (args : List Word) {s : State}  (hK : Keeps z0 s) :
    KeepsOut z0 (execSfStatus ph tag args s) := by
  unfold execSfStatus
  try dsimp only
  repeat' (first | with_reducible assumption | with_reducible apply State.folServe_keeps | with_reducible apply keeps_ite | with_reducible apply keeps_foldl | with_reducible apply keepsOut_next | with_reducible apply keepsOut_ite | fail_if_no_progress (with_reducible apply keeps_other) | with_reducible apply keeps_dropRegs | with_reducible apply keeps_dropMem | with_reducible apply keeps_dropBoth | (intro _; intros) | (refine keeps_of_some (by with_reducible assumption) ?_) | (refine keeps_of_fst (by with_reducible assumption) ?_) | split)

end Sys2Proof.Machine
end

