-- ==== Sys2Proof/Laws/KeepsLoader.lean ====
section
/-! SUPPORT. What every operation of Loader, Rows, Clock, Pair, Faults keeps: the canonical form, the part and the queue. -/

set_option linter.unusedTactic false
set_option linter.unreachableTactic false

namespace Sys2Proof.Machine

theorem State.setMfState_keeps {z0 : State} {s : State} (v : Nat)  (hK : Keeps z0 s) :
    Keeps z0 (State.setMfState s v) := by
  unfold State.setMfState
  try dsimp only
  repeat' (first | with_reducible assumption | with_reducible apply State.put_keeps | with_reducible apply keeps_ite | with_reducible apply keeps_foldl | fail_if_no_progress (with_reducible apply keeps_other) | with_reducible apply keeps_dropRegs | with_reducible apply keeps_dropMem | with_reducible apply keeps_dropBoth | (intro _; intros) | (refine keeps_of_some (by with_reducible assumption) ?_) | (refine keeps_of_fst (by with_reducible assumption) ?_) | split)

theorem State.mfResult_keeps {z0 : State} {s : State} (f : MFail)  (hK : Keeps z0 s) :
    Keeps z0 (State.mfResult s f) := by
  unfold State.mfResult
  try dsimp only
  repeat' (first | with_reducible assumption | with_reducible apply State.put_keeps | with_reducible apply State.wr_keeps | with_reducible apply keeps_ite | with_reducible apply keeps_foldl | fail_if_no_progress (with_reducible apply keeps_other) | with_reducible apply keeps_dropRegs | with_reducible apply keeps_dropMem | with_reducible apply keeps_dropBoth | (intro _; intros) | (refine keeps_of_some (by with_reducible assumption) ?_) | (refine keeps_of_fst (by with_reducible assumption) ?_) | split)

theorem State.mfReply_keeps {z0 : State} {s : State} (ph : Nat) (op : Nat) (tag : Nat) (f : MFail)  (hK : Keeps z0 s) :
    Keeps z0 (State.mfReply s ph op tag f) := by
  unfold State.mfReply
  try dsimp only
  repeat' (first | with_reducible assumption | with_reducible apply State.reply_keeps | with_reducible apply keeps_ite | with_reducible apply keeps_foldl | fail_if_no_progress (with_reducible apply keeps_other) | with_reducible apply keeps_dropRegs | with_reducible apply keeps_dropMem | with_reducible apply keeps_dropBoth | (intro _; intros) | (refine keeps_of_some (by with_reducible assumption) ?_) | (refine keeps_of_fst (by with_reducible assumption) ?_) | split)

theorem State.mfReject_keeps {z0 : State} {s : State} (ph : Nat) (op : Nat) (tag : Nat) (f : MFail)  (hK : Keeps z0 s) :
    Keeps z0 (State.mfReject s ph op tag f) := by
  unfold State.mfReject
  try dsimp only
  repeat' (first | with_reducible assumption | with_reducible apply State.mfReply_keeps | with_reducible apply State.mfResult_keeps | with_reducible apply State.count_keeps | with_reducible apply State.raise_keeps | with_reducible apply keeps_ite | with_reducible apply keeps_foldl | fail_if_no_progress (with_reducible apply keeps_other) | with_reducible apply keeps_dropRegs | with_reducible apply keeps_dropMem | with_reducible apply keeps_dropBoth | (intro _; intros) | (refine keeps_of_some (by with_reducible assumption) ?_) | (refine keeps_of_fst (by with_reducible assumption) ?_) | split)

theorem State.signStart_keeps {z0 : State} {s : State}  (hK : Keeps z0 s) :
    Keeps z0 (State.signStart s) := by
  unfold State.signStart
  try dsimp only
  repeat' (first | with_reducible assumption | with_reducible apply keeps_ite | with_reducible apply keeps_foldl | fail_if_no_progress (with_reducible apply keeps_other) | with_reducible apply keeps_dropRegs | with_reducible apply keeps_dropMem | with_reducible apply keeps_dropBoth | (intro _; intros) | (refine keeps_of_some (by with_reducible assumption) ?_) | (refine keeps_of_fst (by with_reducible assumption) ?_) | split)

theorem State.signCheck_keeps {z0 : State} {s : State}  (hK : Keeps z0 s) :
    Keeps z0 (State.signCheck s) := by
  unfold State.signCheck
  try dsimp only
  repeat' (first | with_reducible assumption | with_reducible apply State.signStart_keeps | with_reducible apply keeps_ite | with_reducible apply keeps_foldl | fail_if_no_progress (with_reducible apply keeps_other) | with_reducible apply keeps_dropRegs | with_reducible apply keeps_dropMem | with_reducible apply keeps_dropBoth | (intro _; intros) | (refine keeps_of_some (by with_reducible assumption) ?_) | (refine keeps_of_fst (by with_reducible assumption) ?_) | split)

theorem State.amendHold_keeps {z0 : State} {s : State} (target : Nat)  (hK : Keeps z0 s) :
    Keeps z0 (State.amendHold s target) := by
  unfold State.amendHold
  try dsimp only
  repeat' (first | with_reducible assumption | with_reducible apply State.setMfState_keeps | with_reducible apply State.addHold_keeps | with_reducible apply keeps_ite | with_reducible apply keeps_foldl | fail_if_no_progress (with_reducible apply keeps_other) | with_reducible apply keeps_dropRegs | with_reducible apply keeps_dropMem | with_reducible apply keeps_dropBoth | (intro _; intros) | (refine keeps_of_some (by with_reducible assumption) ?_) | (refine keeps_of_fst (by with_reducible assumption) ?_) | split)

theorem State.amendStart_keeps {z0 : State} {s : State}  (hK : Keeps z0 s) :
    Keeps z0 (State.amendStart s) := by
  unfold State.amendStart
  try dsimp only
  repeat' (first | with_reducible assumption | with_reducible apply State.amendHold_keeps | with_reducible apply keeps_ite | with_reducible apply keeps_foldl | fail_if_no_progress (with_reducible apply keeps_other) | with_reducible apply keeps_dropRegs | with_reducible apply keeps_dropMem | with_reducible apply keeps_dropBoth | (intro _; intros) | (refine keeps_of_some (by with_reducible assumption) ?_) | (refine keeps_of_fst (by with_reducible assumption) ?_) | split)

theorem State.markMembers_keeps {z0 : State} {s : State} (target : Nat) (v : Bool)  (hK : Keeps z0 s) :
    Keeps z0 (State.markMembers s target v) := by
  unfold State.markMembers
  try dsimp only
  repeat' (first | with_reducible assumption | with_reducible apply State.setUnit_keeps | with_reducible apply keeps_ite | with_reducible apply keeps_foldl | fail_if_no_progress (with_reducible apply keeps_other) | with_reducible apply keeps_dropRegs | with_reducible apply keeps_dropMem | with_reducible apply keeps_dropBoth | (intro _; intros) | (refine keeps_of_some (by with_reducible assumption) ?_) | (refine keeps_of_fst (by with_reducible assumption) ?_) | split)

theorem State.startJob_keeps {z0 : State} {s : State} (j : JobX)  (hK : Keeps z0 s) :
    Keeps z0 (State.startJob s j) := by
  unfold State.startJob
  try dsimp only
  repeat' (first | with_reducible assumption | with_reducible apply State.markMembers_keeps | with_reducible apply State.amendStart_keeps | with_reducible apply State.setMfState_keeps | with_reducible apply keeps_ite | with_reducible apply keeps_foldl | fail_if_no_progress (with_reducible apply keeps_other) | with_reducible apply keeps_dropRegs | with_reducible apply keeps_dropMem | with_reducible apply keeps_dropBoth | (intro _; intros) | (refine keeps_of_some (by with_reducible assumption) ?_) | (refine keeps_of_fst (by with_reducible assumption) ?_) | split)

theorem execBlendEnd_keeps {z0 : State} (n : Fin 32) {s : State}  (hK : Keeps z0 s) :
    KeepsOut z0 (execBlendEnd n s) := by
  unfold execBlendEnd
  try dsimp only
  repeat' (first | with_reducible assumption | with_reducible apply State.amendStart_keeps | with_reducible apply State.blendEnd_keeps | with_reducible apply keeps_ite | with_reducible apply keeps_foldl | with_reducible apply keepsOut_next | with_reducible apply keepsOut_ite | fail_if_no_progress (with_reducible apply keeps_other) | with_reducible apply keeps_dropRegs | with_reducible apply keeps_dropMem | with_reducible apply keeps_dropBoth | (intro _; intros) | (refine keeps_of_some (by with_reducible assumption) ?_) | (refine keeps_of_fst (by with_reducible assumption) ?_) | split)

theorem State.loaderServe_keeps {z0 : State} {s : State} (ph : Fin 8) (op : Nat) (tag : BitVec 8) (body : State → State) (hbody : ∀ y, Keeps z0 y → Keeps z0 (body y)) (hK : Keeps z0 s) :
    Keeps z0 (State.loaderServe s ph op tag body) := by
  unfold State.loaderServe
  try dsimp only
  repeat' (first | with_reducible assumption | with_reducible apply hbody | with_reducible apply State.mfReply_keeps | with_reducible apply State.serve_keeps | with_reducible apply keeps_ite | with_reducible apply keeps_foldl | fail_if_no_progress (with_reducible apply keeps_other) | with_reducible apply keeps_dropRegs | with_reducible apply keeps_dropMem | with_reducible apply keeps_dropBoth | (intro _; intros) | (refine keeps_of_some (by with_reducible assumption) ?_) | (refine keeps_of_fst (by with_reducible assumption) ?_) | split)

theorem execMfApply_keeps {z0 : State} (ph : Fin 8) (tag : BitVec 8) (addr : Word) (len : Word) {s : State}  (hK : Keeps z0 s) :
    KeepsOut z0 (execMfApply ph tag addr len s) := by
  unfold execMfApply
  try dsimp only
  repeat' (first | with_reducible assumption | with_reducible apply State.loaderServe_keeps | with_reducible apply State.startJob_keeps | with_reducible apply State.mfReject_keeps | with_reducible apply State.mirrorMsg_keeps | with_reducible apply keeps_ite | with_reducible apply keeps_foldl | with_reducible apply keepsOut_next | with_reducible apply keepsOut_ite | fail_if_no_progress (with_reducible apply keeps_other) | with_reducible apply keeps_dropRegs | with_reducible apply keeps_dropMem | with_reducible apply keeps_dropBoth | (intro _; intros) | (refine keeps_of_some (by with_reducible assumption) ?_) | (refine keeps_of_fst (by with_reducible assumption) ?_) | split)

theorem execMfValidate_keeps {z0 : State} (ph : Fin 8) (tag : BitVec 8) (addr : Word) (len : Word) {s : State}  (hK : Keeps z0 s) :
    KeepsOut z0 (execMfValidate ph tag addr len s) := by
  unfold execMfValidate
  try dsimp only
  repeat' (first | with_reducible assumption | with_reducible apply State.loaderServe_keeps | with_reducible apply State.mfReject_keeps | with_reducible apply State.mfReply_keeps | with_reducible apply State.mfResult_keeps | with_reducible apply keeps_ite | with_reducible apply keeps_foldl | with_reducible apply keepsOut_next | with_reducible apply keepsOut_ite | fail_if_no_progress (with_reducible apply keeps_other) | with_reducible apply keeps_dropRegs | with_reducible apply keeps_dropMem | with_reducible apply keeps_dropBoth | (intro _; intros) | (refine keeps_of_some (by with_reducible assumption) ?_) | (refine keeps_of_fst (by with_reducible assumption) ?_) | split)

theorem execMfRemove_keeps {z0 : State} (ph : Fin 8) (tag : BitVec 8) (win : Word) {s : State}  (hK : Keeps z0 s) :
    KeepsOut z0 (execMfRemove ph tag win s) := by
  unfold execMfRemove
  try dsimp only
  repeat' (first | with_reducible assumption | with_reducible apply State.loaderServe_keeps | with_reducible apply State.startJob_keeps | with_reducible apply State.mfReply_keeps | with_reducible apply State.mfResult_keeps | with_reducible apply State.mirrorMsg_keeps | with_reducible apply keeps_ite | with_reducible apply keeps_foldl | with_reducible apply keepsOut_next | with_reducible apply keepsOut_ite | fail_if_no_progress (with_reducible apply keeps_other) | with_reducible apply keeps_dropRegs | with_reducible apply keeps_dropMem | with_reducible apply keeps_dropBoth | (intro _; intros) | (refine keeps_of_some (by with_reducible assumption) ?_) | (refine keeps_of_fst (by with_reducible assumption) ?_) | split)

theorem State.switchOff_keeps {z0 : State} {s : State} (w : Nat)  (hK : Keeps z0 s) :
    Keeps z0 (State.switchOff s w) := by
  unfold State.switchOff
  try dsimp only
  repeat' (first | with_reducible assumption | with_reducible apply State.withFe_keeps | with_reducible apply State.watch_keeps | with_reducible apply State.setUnit_keeps | with_reducible apply State.wr_keeps | with_reducible apply keeps_ite | with_reducible apply keeps_foldl | fail_if_no_progress (with_reducible apply keeps_other) | with_reducible apply keeps_dropRegs | with_reducible apply keeps_dropMem | with_reducible apply keeps_dropBoth | (intro _; intros) | (refine keeps_of_some (by with_reducible assumption) ?_) | (refine keeps_of_fst (by with_reducible assumption) ?_) | split)

theorem State.ungrant_keeps {z0 : State} {s : State} (w : Nat)  (hK : Keeps z0 s) :
    Keeps z0 (State.ungrant s w) := by
  unfold State.ungrant
  try dsimp only
  repeat' (first | with_reducible assumption | with_reducible apply keeps_ite | with_reducible apply keeps_foldl | fail_if_no_progress (with_reducible apply keeps_other) | with_reducible apply keeps_dropRegs | with_reducible apply keeps_dropMem | with_reducible apply keeps_dropBoth | (intro _; intros) | (refine keeps_of_some (by with_reducible assumption) ?_) | (refine keeps_of_fst (by with_reducible assumption) ?_) | split)

theorem State.dropComp_keeps {z0 : State} {s : State} (c : Nat)  (hK : Keeps z0 s) :
    Keeps z0 (State.dropComp s c) := by
  unfold State.dropComp
  try dsimp only
  repeat' (first | with_reducible assumption | with_reducible apply keeps_ite | with_reducible apply keeps_foldl | fail_if_no_progress (with_reducible apply keeps_other) | with_reducible apply keeps_dropRegs | with_reducible apply keeps_dropMem | with_reducible apply keeps_dropBoth | (intro _; intros) | (refine keeps_of_some (by with_reducible assumption) ?_) | (refine keeps_of_fst (by with_reducible assumption) ?_) | split)

theorem State.putSelections_keeps {z0 : State} {s : State} (made : List Nat) (e : Nat)  (hK : Keeps z0 s) :
    Keeps z0 (State.putSelections s made e) := by
  unfold State.putSelections
  try dsimp only
  repeat' (first | with_reducible assumption | with_reducible apply State.judgeSel_keeps | with_reducible apply State.mciUpdate_keeps | with_reducible apply State.setBl_keeps | with_reducible apply State.setHs_keeps | with_reducible apply State.wr_keeps | with_reducible apply keeps_ite | with_reducible apply keeps_foldl | with_reducible apply keepsOpt_getD | fail_if_no_progress (with_reducible apply keeps_other) | with_reducible apply keeps_dropRegs | with_reducible apply keeps_dropMem | with_reducible apply keeps_dropBoth | (intro _; intros) | (refine keeps_of_some (by with_reducible assumption) ?_) | (refine keeps_of_fst (by with_reducible assumption) ?_) | split)

theorem State.refillSelections_keeps {z0 : State} {s : State} (old : State) (listed : List Nat)  (hK : Keeps z0 s) :
    Keeps z0 (State.refillSelections s old listed) := by
  unfold State.refillSelections
  try dsimp only
  repeat' (first | with_reducible assumption | with_reducible apply State.putSelections_keeps | with_reducible apply keeps_ite | with_reducible apply keeps_foldl | fail_if_no_progress (with_reducible apply keeps_other) | with_reducible apply keeps_dropRegs | with_reducible apply keeps_dropMem | with_reducible apply keeps_dropBoth | (intro _; intros) | (refine keeps_of_some (by with_reducible assumption) ?_) | (refine keeps_of_fst (by with_reducible assumption) ?_) | split)

theorem State.takeAtCommit_keeps {z0 : State} {s : State} (w : Nat)  (hK : Keeps z0 s) :
    Keeps z0 (State.takeAtCommit s w) := by
  unfold State.takeAtCommit
  try dsimp only
  repeat' (first | with_reducible assumption | with_reducible apply State.putSelections_keeps | with_reducible apply State.setAx_keeps | with_reducible apply State.setUnit_keeps | with_reducible apply State.wr_keeps | with_reducible apply keeps_ite | with_reducible apply keeps_foldl | fail_if_no_progress (with_reducible apply keeps_other) | with_reducible apply keeps_dropRegs | with_reducible apply keeps_dropMem | with_reducible apply keeps_dropBoth | (intro _; intros) | (refine keeps_of_some (by with_reducible assumption) ?_) | (refine keeps_of_fst (by with_reducible assumption) ?_) | split)

theorem State.takeUnlisted_keeps {z0 : State} {s : State} (w : Nat)  (hK : Keeps z0 s) :
    Keeps z0 (State.takeUnlisted s w) := by
  unfold State.takeUnlisted
  try dsimp only
  repeat' (first | with_reducible assumption | with_reducible apply State.takeStaged_keeps | with_reducible apply State.setUnit_keeps | with_reducible apply keeps_ite | with_reducible apply keeps_foldl | fail_if_no_progress (with_reducible apply keeps_other) | with_reducible apply keeps_dropRegs | with_reducible apply keeps_dropMem | with_reducible apply keeps_dropBoth | (intro _; intros) | (refine keeps_of_some (by with_reducible assumption) ?_) | (refine keeps_of_fst (by with_reducible assumption) ?_) | split)

theorem State.clearEcc_keeps {z0 : State} {s : State} (w : Nat)  (hK : Keeps z0 s) :
    Keeps z0 (State.clearEcc s w) := by
  unfold State.clearEcc
  try dsimp only
  repeat' (first | with_reducible assumption | with_reducible apply State.setUnit_keeps | with_reducible apply keeps_ite | with_reducible apply keeps_foldl | fail_if_no_progress (with_reducible apply keeps_other) | with_reducible apply keeps_dropRegs | with_reducible apply keeps_dropMem | with_reducible apply keeps_dropBoth | (intro _; intros) | (refine keeps_of_some (by with_reducible assumption) ?_) | (refine keeps_of_fst (by with_reducible assumption) ?_) | split)

theorem State.stopListed_keeps {z0 : State} {s : State} (w : Nat)  (hK : Keeps z0 s) :
    Keeps z0 (State.stopListed s w) := by
  unfold State.stopListed
  try dsimp only
  repeat' (first | with_reducible assumption | with_reducible apply State.withFe_keeps | with_reducible apply State.watch_keeps | with_reducible apply State.putB_keeps | with_reducible apply keeps_ite | with_reducible apply keeps_foldl | fail_if_no_progress (with_reducible apply keeps_other) | with_reducible apply keeps_dropRegs | with_reducible apply keeps_dropMem | with_reducible apply keeps_dropBoth | (intro _; intros) | (refine keeps_of_some (by with_reducible assumption) ?_) | (refine keeps_of_fst (by with_reducible assumption) ?_) | split)

theorem State.putCoefRec_keeps {z0 : State} {s : State} (r : MRec)  (hK : Keeps z0 s) :
    Keeps z0 (State.putCoefRec s r) := by
  unfold State.putCoefRec
  try dsimp only
  repeat' (first | with_reducible assumption | with_reducible apply State.putCoefs_keeps | with_reducible apply keeps_ite | with_reducible apply keeps_foldl | fail_if_no_progress (with_reducible apply keeps_other) | with_reducible apply keeps_dropRegs | with_reducible apply keeps_dropMem | with_reducible apply keeps_dropBoth | (intro _; intros) | (refine keeps_of_some (by with_reducible assumption) ?_) | (refine keeps_of_fst (by with_reducible assumption) ?_) | split)

theorem State.commit_keeps {z0 : State} {s0 : State} (am : Nat) (im : List Nat)  (hK : Keeps z0 s0) :
    Keeps z0 (State.commit s0 am im) := by
  unfold State.commit
  try dsimp only
  repeat' (first | with_reducible assumption | with_reducible apply State.putCoefRec_keeps | with_reducible apply State.stopListed_keeps | with_reducible apply State.clearEcc_keeps | with_reducible apply State.takeUnlisted_keeps | with_reducible apply State.takeAtCommit_keeps | with_reducible apply State.refillSelections_keeps | with_reducible apply State.dropComp_keeps | with_reducible apply State.ungrant_keeps | with_reducible apply State.switchOff_keeps | with_reducible apply State.takeFromScouts_keeps | with_reducible apply State.takeFromScans_keeps | with_reducible apply State.showAlloc_keeps | with_reducible apply State.restartKind_keeps | with_reducible apply State.unitWritten_keeps | with_reducible apply State.initQueue_keeps | with_reducible apply State.bumpGens_keeps | with_reducible apply State.watch_keeps | with_reducible apply State.wr_keeps | with_reducible apply keeps_ite | with_reducible apply keeps_foldl | fail_if_no_progress (with_reducible apply keeps_other) | with_reducible apply keeps_dropRegs | with_reducible apply keeps_dropMem | with_reducible apply keeps_dropBoth | (intro _; intros) | (refine keeps_of_some (by with_reducible assumption) ?_) | (refine keeps_of_fst (by with_reducible assumption) ?_) | split)

theorem State.commitRemove_keeps {z0 : State} {s : State} (c : Nat)  (hK : Keeps z0 s) :
    Keeps z0 (State.commitRemove s c) := by
  unfold State.commitRemove
  try dsimp only
  repeat' (first | with_reducible assumption | with_reducible apply State.refillSelections_keeps | with_reducible apply State.dropComp_keeps | with_reducible apply State.ungrant_keeps | with_reducible apply State.switchOff_keeps | with_reducible apply State.bumpGens_keeps | with_reducible apply keeps_ite | with_reducible apply keeps_foldl | fail_if_no_progress (with_reducible apply keeps_other) | with_reducible apply keeps_dropRegs | with_reducible apply keeps_dropMem | with_reducible apply keeps_dropBoth | (intro _; intros) | (refine keeps_of_some (by with_reducible assumption) ?_) | (refine keeps_of_fst (by with_reducible assumption) ?_) | split)

theorem State.resume_keeps {z0 : State} {s : State} (target : Nat) (enable : Bool) (run : Bool)  (hK : Keeps z0 s) :
    Keeps z0 (State.resume s target enable run) := by
  unfold State.resume
  try dsimp only
  repeat' (first | with_reducible assumption | with_reducible apply State.setMfState_keeps | with_reducible apply State.withFe_keeps | with_reducible apply State.setErr_keeps | with_reducible apply State.watch_keeps | with_reducible apply State.setUnit_keeps | with_reducible apply State.putB_keeps | with_reducible apply State.put_keeps | with_reducible apply keeps_ite | with_reducible apply keeps_foldl | fail_if_no_progress (with_reducible apply keeps_other) | with_reducible apply keeps_dropRegs | with_reducible apply keeps_dropMem | with_reducible apply keeps_dropBoth | (intro _; intros) | (refine keeps_of_some (by with_reducible assumption) ?_) | (refine keeps_of_fst (by with_reducible assumption) ?_) | split)

theorem State.fireAtEnd_keeps {z0 : State} {s : State}  (hK : Keeps z0 s) :
    Keeps z0 (State.fireAtEnd s) := by
  unfold State.fireAtEnd
  try dsimp only
  repeat' (first | with_reducible assumption | with_reducible apply State.triggered_keeps | with_reducible apply State.fire_keeps | with_reducible apply State.setErr_keeps | with_reducible apply keeps_ite | with_reducible apply keeps_foldl | fail_if_no_progress (with_reducible apply keeps_other) | with_reducible apply keeps_dropRegs | with_reducible apply keeps_dropMem | with_reducible apply keeps_dropBoth | (intro _; intros) | (refine keeps_of_some (by with_reducible assumption) ?_) | (refine keeps_of_fst (by with_reducible assumption) ?_) | split)

theorem State.endJob_keeps {z0 : State} {s : State} (j : JobX)  (hK : Keeps z0 s) :
    Keeps z0 (State.endJob s j) := by
  unfold State.endJob
  try dsimp only
  repeat' (first | with_reducible assumption | with_reducible apply State.signCheck_keeps | with_reducible apply State.mfReply_keeps | with_reducible apply State.mfResult_keeps | with_reducible apply State.setMfState_keeps | with_reducible apply State.raise_keeps | with_reducible apply keeps_ite | with_reducible apply keeps_foldl | fail_if_no_progress (with_reducible apply keeps_other) | with_reducible apply keeps_dropRegs | with_reducible apply keeps_dropMem | with_reducible apply keeps_dropBoth | (intro _; intros) | (refine keeps_of_some (by with_reducible assumption) ?_) | (refine keeps_of_fst (by with_reducible assumption) ?_) | split)

theorem execMfAmendCommit_keeps {z0 : State} {s : State}  (hK : Keeps z0 s) :
    KeepsOut z0 (execMfAmendCommit s) := by
  unfold execMfAmendCommit
  try dsimp only
  repeat' (first | with_reducible assumption | with_reducible apply State.resume_keeps | with_reducible apply State.commitRemove_keeps | with_reducible apply State.commit_keeps | with_reducible apply State.markMembers_keeps | with_reducible apply State.triggered_keeps | with_reducible apply keeps_ite | with_reducible apply keeps_foldl | with_reducible apply keepsOut_next | with_reducible apply keepsOut_ite | fail_if_no_progress (with_reducible apply keeps_other) | with_reducible apply keeps_dropRegs | with_reducible apply keeps_dropMem | with_reducible apply keeps_dropBoth | (intro _; intros) | (refine keeps_of_some (by with_reducible assumption) ?_) | (refine keeps_of_fst (by with_reducible assumption) ?_) | split)

theorem execMfAmendComplete_keeps {z0 : State} {s : State}  (hK : Keeps z0 s) :
    KeepsOut z0 (execMfAmendComplete s) := by
  unfold execMfAmendComplete
  try dsimp only
  repeat' (first | with_reducible assumption | with_reducible apply State.endJob_keeps | with_reducible apply State.fireAtEnd_keeps | with_reducible apply State.markMembers_keeps | with_reducible apply keeps_ite | with_reducible apply keeps_foldl | with_reducible apply keepsOut_next | with_reducible apply keepsOut_ite | fail_if_no_progress (with_reducible apply keeps_other) | with_reducible apply keeps_dropRegs | with_reducible apply keeps_dropMem | with_reducible apply keeps_dropBoth | (intro _; intros) | (refine keeps_of_some (by with_reducible assumption) ?_) | (refine keeps_of_fst (by with_reducible assumption) ?_) | split)

theorem State.withhold_keeps {z0 : State} {s : State}  (hK : Keeps z0 s) :
    Keeps z0 (State.withhold s) := by
  unfold State.withhold
  try dsimp only
  repeat' (first | with_reducible assumption | with_reducible apply keeps_ite | with_reducible apply keeps_foldl | fail_if_no_progress (with_reducible apply keeps_other) | with_reducible apply keeps_dropRegs | with_reducible apply keeps_dropMem | with_reducible apply keeps_dropBoth | (intro _; intros) | (refine keeps_of_some (by with_reducible assumption) ?_) | (refine keeps_of_fst (by with_reducible assumption) ?_) | split)

theorem State.loadFull_keeps {z0 : State} {s : State} (j : JobX)  (hK : Keeps z0 s) :
    Keeps z0 (State.loadFull s j) := by
  unfold State.loadFull
  try dsimp only
  repeat' (first | with_reducible assumption | with_reducible apply State.withhold_keeps | with_reducible apply State.endJob_keeps | with_reducible apply State.fireAtEnd_keeps | with_reducible apply State.commit_keeps | with_reducible apply State.dropHold_keeps | with_reducible apply keeps_ite | with_reducible apply keeps_foldl | fail_if_no_progress (with_reducible apply keeps_other) | with_reducible apply keeps_dropRegs | with_reducible apply keeps_dropMem | with_reducible apply keeps_dropBoth | (intro _; intros) | (refine keeps_of_some (by with_reducible assumption) ?_) | (refine keeps_of_fst (by with_reducible assumption) ?_) | split)

theorem State.allOff_keeps {z0 : State} {s : State}  (hK : Keeps z0 s) :
    Keeps z0 (State.allOff s) := by
  unfold State.allOff
  try dsimp only
  repeat' (first | with_reducible assumption | with_reducible apply State.switchOff_keeps | with_reducible apply keeps_ite | with_reducible apply keeps_foldl | fail_if_no_progress (with_reducible apply keeps_other) | with_reducible apply keeps_dropRegs | with_reducible apply keeps_dropMem | with_reducible apply keeps_dropBoth | (intro _; intros) | (refine keeps_of_some (by with_reducible assumption) ?_) | (refine keeps_of_fst (by with_reducible assumption) ?_) | split)

theorem execMfLoadComplete_keeps {z0 : State} {s : State}  (hK : Keeps z0 s) :
    KeepsOut z0 (execMfLoadComplete s) := by
  unfold execMfLoadComplete
  try dsimp only
  repeat' (first | with_reducible assumption | with_reducible apply State.allOff_keeps | with_reducible apply State.loadFull_keeps | with_reducible apply keeps_ite | with_reducible apply keeps_foldl | with_reducible apply keepsOut_next | with_reducible apply keepsOut_ite | fail_if_no_progress (with_reducible apply keeps_other) | with_reducible apply keeps_dropRegs | with_reducible apply keeps_dropMem | with_reducible apply keeps_dropBoth | (intro _; intros) | (refine keeps_of_some (by with_reducible assumption) ?_) | (refine keeps_of_fst (by with_reducible assumption) ?_) | split)

theorem State.abandonJob_keeps {z0 : State} {s : State}  (hK : Keeps z0 s) :
    Keeps z0 (State.abandonJob s) := by
  unfold State.abandonJob
  try dsimp only
  repeat' (first | with_reducible assumption | with_reducible apply State.markMembers_keeps | with_reducible apply State.mfReply_keeps | with_reducible apply State.mfResult_keeps | with_reducible apply State.setMfState_keeps | with_reducible apply State.dropHold_keeps | with_reducible apply keeps_ite | with_reducible apply keeps_foldl | fail_if_no_progress (with_reducible apply keeps_other) | with_reducible apply keeps_dropRegs | with_reducible apply keeps_dropMem | with_reducible apply keeps_dropBoth | (intro _; intros) | (refine keeps_of_some (by with_reducible assumption) ?_) | (refine keeps_of_fst (by with_reducible assumption) ?_) | split)

theorem execMfTrigger_keeps {z0 : State} (ph : Fin 8) (tag : BitVec 8) (arg : Word) {s : State}  (hK : Keeps z0 s) :
    KeepsOut z0 (execMfTrigger ph tag arg s) := by
  unfold execMfTrigger
  try dsimp only
  repeat' (first | with_reducible assumption | with_reducible apply State.mfReply_keeps | with_reducible apply State.mfResult_keeps | with_reducible apply State.serve_keeps | with_reducible apply State.triggered_keeps | with_reducible apply State.fire_keeps | with_reducible apply State.mirrorMsg_keeps | with_reducible apply keeps_ite | with_reducible apply keeps_foldl | with_reducible apply keepsOut_next | with_reducible apply keepsOut_ite | fail_if_no_progress (with_reducible apply keeps_other) | with_reducible apply keeps_dropRegs | with_reducible apply keeps_dropMem | with_reducible apply keeps_dropBoth | (intro _; intros) | (refine keeps_of_some (by with_reducible assumption) ?_) | (refine keeps_of_fst (by with_reducible assumption) ?_) | split)

theorem execTriggerEpochReached_keeps {z0 : State} (w : Fin 1024) {s : State}  (hK : Keeps z0 s) :
    KeepsOut z0 (execTriggerEpochReached w s) := by
  unfold execTriggerEpochReached
  try dsimp only
  repeat' (first | with_reducible assumption | with_reducible apply State.triggered_keeps | with_reducible apply State.fire_keeps | with_reducible apply State.advanceTo_keeps | with_reducible apply keeps_ite | with_reducible apply keeps_foldl | with_reducible apply keepsOut_next | with_reducible apply keepsOut_ite | fail_if_no_progress (with_reducible apply keeps_other) | with_reducible apply keeps_dropRegs | with_reducible apply keeps_dropMem | with_reducible apply keeps_dropBoth | (intro _; intros) | (refine keeps_of_some (by with_reducible assumption) ?_) | (refine keeps_of_fst (by with_reducible assumption) ?_) | split)

theorem stateOr_keeps {z0 s : State} {o : Out} (h : Keeps z0 s) (ho : KeepsOut z0 o) : Keeps z0 (stateOr s o) := by
  unfold stateOr
  split
  · exact ho.keeps _ rfl
  · exact h

theorem State.fires_keeps {z0 : State} {s : State} (f : State → Out) (hf : ∀ y, Keeps z0 y → KeepsOut z0 (f y)) (hK : Keeps z0 s) :
    KeepsOut z0 (State.fires s f) := by
  unfold State.fires
  try dsimp only
  repeat' (first | with_reducible assumption | with_reducible apply hf | with_reducible apply stateOr_keeps | with_reducible apply State.triggered_keeps | with_reducible apply keeps_ite | with_reducible apply keeps_foldl | with_reducible apply keepsOut_next | with_reducible apply keepsOut_ite | fail_if_no_progress (with_reducible apply keeps_other) | with_reducible apply keeps_dropRegs | with_reducible apply keeps_dropMem | with_reducible apply keeps_dropBoth | (intro _; intros) | (refine keeps_of_some (by with_reducible assumption) ?_) | (refine keeps_of_fst (by with_reducible assumption) ?_) | split)

theorem execAgcBlock_keeps {z0 : State} (fe : Fin 5) (level : Int) (co : Coincide) {s : State}  (hK : Keeps z0 s) :
    KeepsOut z0 (execAgcBlock fe level co s) := by
  unfold execAgcBlock
  try dsimp only
  repeat' (first | with_reducible assumption | with_reducible apply State.fires_keeps | with_reducible apply atAgcBlock_keeps | with_reducible apply keeps_ite | with_reducible apply keeps_foldl | with_reducible apply keepsOut_next | with_reducible apply keepsOut_ite | fail_if_no_progress (with_reducible apply keeps_other) | with_reducible apply keeps_dropRegs | with_reducible apply keeps_dropMem | with_reducible apply keeps_dropBoth | (intro _; intros) | (refine keeps_of_some (by with_reducible assumption) ?_) | (refine keeps_of_fst (by with_reducible assumption) ?_) | split)

theorem execAgcDecayStep_keeps {z0 : State} (fe : Fin 5) (co : Coincide) {s : State}  (hK : Keeps z0 s) :
    KeepsOut z0 (execAgcDecayStep fe co s) := by
  unfold execAgcDecayStep
  try dsimp only
  repeat' (first | with_reducible assumption | with_reducible apply State.fires_keeps | with_reducible apply atAgcDecayStep_keeps | with_reducible apply keeps_ite | with_reducible apply keeps_foldl | with_reducible apply keepsOut_next | with_reducible apply keepsOut_ite | fail_if_no_progress (with_reducible apply keeps_other) | with_reducible apply keeps_dropRegs | with_reducible apply keeps_dropMem | with_reducible apply keeps_dropBoth | (intro _; intros) | (refine keeps_of_some (by with_reducible assumption) ?_) | (refine keeps_of_fst (by with_reducible assumption) ?_) | split)

theorem execTwinReady_keeps {z0 : State} (lo : Fin 8) (us : Nat) {s : State}  (hK : Keeps z0 s) :
    KeepsOut z0 (execTwinReady lo us s) := by
  unfold execTwinReady
  try dsimp only
  repeat' (first | with_reducible assumption | with_reducible apply State.fires_keeps | with_reducible apply atTwinReady_keeps | with_reducible apply keeps_ite | with_reducible apply keeps_foldl | with_reducible apply keepsOut_next | with_reducible apply keepsOut_ite | fail_if_no_progress (with_reducible apply keeps_other) | with_reducible apply keeps_dropRegs | with_reducible apply keeps_dropMem | with_reducible apply keeps_dropBoth | (intro _; intros) | (refine keeps_of_some (by with_reducible assumption) ?_) | (refine keeps_of_fst (by with_reducible assumption) ?_) | split)

theorem execLoLockAcquired_keeps {z0 : State} (lo : Fin 8) {s : State}  (hK : Keeps z0 s) :
    KeepsOut z0 (execLoLockAcquired lo s) := by
  unfold execLoLockAcquired
  try dsimp only
  repeat' (first | with_reducible assumption | with_reducible apply State.fires_keeps | with_reducible apply atLoLockAcquired_keeps | with_reducible apply keeps_ite | with_reducible apply keeps_foldl | with_reducible apply keepsOut_next | with_reducible apply keepsOut_ite | fail_if_no_progress (with_reducible apply keeps_other) | with_reducible apply keeps_dropRegs | with_reducible apply keeps_dropMem | with_reducible apply keeps_dropBoth | (intro _; intros) | (refine keeps_of_some (by with_reducible assumption) ?_) | (refine keeps_of_fst (by with_reducible assumption) ?_) | split)

theorem execLoLockLost_keeps {z0 : State} (lo : Fin 8) {s : State}  (hK : Keeps z0 s) :
    KeepsOut z0 (execLoLockLost lo s) := by
  unfold execLoLockLost
  try dsimp only
  repeat' (first | with_reducible assumption | with_reducible apply State.fires_keeps | with_reducible apply atLoLockLost_keeps | with_reducible apply keeps_ite | with_reducible apply keeps_foldl | with_reducible apply keepsOut_next | with_reducible apply keepsOut_ite | fail_if_no_progress (with_reducible apply keeps_other) | with_reducible apply keeps_dropRegs | with_reducible apply keeps_dropMem | with_reducible apply keeps_dropBoth | (intro _; intros) | (refine keeps_of_some (by with_reducible assumption) ?_) | (refine keeps_of_fst (by with_reducible assumption) ?_) | split)

theorem execLoHandover_keeps {z0 : State} (fe : Fin 4) {s : State}  (hK : Keeps z0 s) :
    KeepsOut z0 (execLoHandover fe s) := by
  unfold execLoHandover
  try dsimp only
  repeat' (first | with_reducible assumption | with_reducible apply State.fires_keeps | with_reducible apply atLoHandover_keeps | with_reducible apply keeps_ite | with_reducible apply keeps_foldl | with_reducible apply keepsOut_next | with_reducible apply keepsOut_ite | fail_if_no_progress (with_reducible apply keeps_other) | with_reducible apply keeps_dropRegs | with_reducible apply keeps_dropMem | with_reducible apply keeps_dropBoth | (intro _; intros) | (refine keeps_of_some (by with_reducible assumption) ?_) | (refine keeps_of_fst (by with_reducible assumption) ?_) | split)

theorem execCalStepDone_keeps {z0 : State} (fe : Fin 4) (a : CalArg) {s : State}  (hK : Keeps z0 s) :
    KeepsOut z0 (execCalStepDone fe a s) := by
  unfold execCalStepDone
  try dsimp only
  repeat' (first | with_reducible assumption | with_reducible apply State.fires_keeps | with_reducible apply atCalStepDone_keeps | with_reducible apply keeps_ite | with_reducible apply keeps_foldl | with_reducible apply keepsOut_next | with_reducible apply keepsOut_ite | fail_if_no_progress (with_reducible apply keeps_other) | with_reducible apply keeps_dropRegs | with_reducible apply keeps_dropMem | with_reducible apply keeps_dropBoth | (intro _; intros) | (refine keeps_of_some (by with_reducible assumption) ?_) | (refine keeps_of_fst (by with_reducible assumption) ?_) | split)

theorem execCalStartupDone_keeps {z0 : State} (fe : Fin 4) (a : StartupArg) {s : State}  (hK : Keeps z0 s) :
    KeepsOut z0 (execCalStartupDone fe a s) := by
  unfold execCalStartupDone
  try dsimp only
  repeat' (first | with_reducible assumption | with_reducible apply State.fires_keeps | with_reducible apply atCalStartupDone_keeps | with_reducible apply keeps_ite | with_reducible apply keeps_foldl | with_reducible apply keepsOut_next | with_reducible apply keepsOut_ite | fail_if_no_progress (with_reducible apply keeps_other) | with_reducible apply keeps_dropRegs | with_reducible apply keeps_dropMem | with_reducible apply keeps_dropBoth | (intro _; intros) | (refine keeps_of_some (by with_reducible assumption) ?_) | (refine keeps_of_fst (by with_reducible assumption) ?_) | split)

theorem execCalFeLDone_keeps {z0 : State} (ok : Bool) (gains : List Int) {s : State}  (hK : Keeps z0 s) :
    KeepsOut z0 (execCalFeLDone ok gains s) := by
  unfold execCalFeLDone
  try dsimp only
  repeat' (first | with_reducible assumption | with_reducible apply State.fires_keeps | with_reducible apply atCalFeLDone_keeps | with_reducible apply keeps_ite | with_reducible apply keeps_foldl | with_reducible apply keepsOut_next | with_reducible apply keepsOut_ite | fail_if_no_progress (with_reducible apply keeps_other) | with_reducible apply keeps_dropRegs | with_reducible apply keeps_dropMem | with_reducible apply keeps_dropBoth | (intro _; intros) | (refine keeps_of_some (by with_reducible assumption) ?_) | (refine keeps_of_fst (by with_reducible assumption) ?_) | split)

theorem execWarmComplete_keeps {z0 : State} (w : Fin 1024) {s : State}  (hK : Keeps z0 s) :
    KeepsOut z0 (execWarmComplete w s) := by
  unfold execWarmComplete
  try dsimp only
  repeat' (first | with_reducible assumption | with_reducible apply State.triggered_keeps | with_reducible apply State.setValid_keeps | with_reducible apply keeps_ite | with_reducible apply keeps_foldl | with_reducible apply keepsOut_next | with_reducible apply keepsOut_ite | fail_if_no_progress (with_reducible apply keeps_other) | with_reducible apply keeps_dropRegs | with_reducible apply keeps_dropMem | with_reducible apply keeps_dropBoth | (intro _; intros) | (refine keeps_of_some (by with_reducible assumption) ?_) | (refine keeps_of_fst (by with_reducible assumption) ?_) | split)

theorem execDemodWarmDone_keeps {z0 : State} (n : Fin 48) {s : State}  (hK : Keeps z0 s) :
    KeepsOut z0 (execDemodWarmDone n s) := by
  unfold execDemodWarmDone
  try dsimp only
  repeat' (first | with_reducible assumption | with_reducible apply State.triggered_keeps | with_reducible apply State.fmWarm_keeps | with_reducible apply keeps_ite | with_reducible apply keeps_foldl | with_reducible apply keepsOut_next | with_reducible apply keepsOut_ite | fail_if_no_progress (with_reducible apply keeps_other) | with_reducible apply keeps_dropRegs | with_reducible apply keeps_dropMem | with_reducible apply keeps_dropBoth | (intro _; intros) | (refine keeps_of_some (by with_reducible assumption) ?_) | (refine keeps_of_fst (by with_reducible assumption) ?_) | split)

theorem execCarrierLocked_keeps {z0 : State} (n : Fin 16) {s : State}  (hK : Keeps z0 s) :
    KeepsOut z0 (execCarrierLocked n s) := by
  unfold execCarrierLocked
  try dsimp only
  repeat' (first | with_reducible assumption | with_reducible apply State.triggered_keeps | with_reducible apply State.amLock_keeps | with_reducible apply keeps_ite | with_reducible apply keeps_foldl | with_reducible apply keepsOut_next | with_reducible apply keepsOut_ite | fail_if_no_progress (with_reducible apply keeps_other) | with_reducible apply keeps_dropRegs | with_reducible apply keeps_dropMem | with_reducible apply keeps_dropBoth | (intro _; intros) | (refine keeps_of_some (by with_reducible assumption) ?_) | (refine keeps_of_fst (by with_reducible assumption) ?_) | split)

theorem execAmLockBound_keeps {z0 : State} (n : Fin 16) {s : State}  (hK : Keeps z0 s) :
    KeepsOut z0 (execAmLockBound n s) := by
  unfold execAmLockBound
  try dsimp only
  repeat' (first | with_reducible assumption | with_reducible apply State.triggered_keeps | with_reducible apply State.amBound_keeps | with_reducible apply keeps_ite | with_reducible apply keeps_foldl | with_reducible apply keepsOut_next | with_reducible apply keepsOut_ite | fail_if_no_progress (with_reducible apply keeps_other) | with_reducible apply keeps_dropRegs | with_reducible apply keeps_dropMem | with_reducible apply keeps_dropBoth | (intro _; intros) | (refine keeps_of_some (by with_reducible assumption) ?_) | (refine keeps_of_fst (by with_reducible assumption) ?_) | split)

theorem execOfdmSyncAdvance_keeps {z0 : State} (n : Fin 16) (mode : Fin 8) (so : Fin 6) (offset : Int) (sco : Int) {s : State}  (hK : Keeps z0 s) :
    KeepsOut z0 (execOfdmSyncAdvance n mode so offset sco s) := by
  unfold execOfdmSyncAdvance
  try dsimp only
  repeat' (first | with_reducible assumption | with_reducible apply State.triggered_keeps | with_reducible apply State.syncAdvance_keeps | with_reducible apply keeps_ite | with_reducible apply keeps_foldl | with_reducible apply keepsOut_next | with_reducible apply keepsOut_ite | fail_if_no_progress (with_reducible apply keeps_other) | with_reducible apply keeps_dropRegs | with_reducible apply keeps_dropMem | with_reducible apply keeps_dropBoth | (intro _; intros) | (refine keeps_of_some (by with_reducible assumption) ?_) | (refine keeps_of_fst (by with_reducible assumption) ?_) | split)

theorem execOfdmResyncSuccess_keeps {z0 : State} (n : Fin 16) {s : State}  (hK : Keeps z0 s) :
    KeepsOut z0 (execOfdmResyncSuccess n s) := by
  unfold execOfdmResyncSuccess
  try dsimp only
  repeat' (first | with_reducible assumption | with_reducible apply State.triggered_keeps | with_reducible apply State.resynced_keeps | with_reducible apply keeps_ite | with_reducible apply keeps_foldl | with_reducible apply keepsOut_next | with_reducible apply keepsOut_ite | fail_if_no_progress (with_reducible apply keeps_other) | with_reducible apply keeps_dropRegs | with_reducible apply keeps_dropMem | with_reducible apply keeps_dropBoth | (intro _; intros) | (refine keeps_of_some (by with_reducible assumption) ?_) | (refine keeps_of_fst (by with_reducible assumption) ?_) | split)

theorem execAccessUnitDecoded_keeps {z0 : State} (n : Fin 32) (u : AccessUnit) {s : State}  (hK : Keeps z0 s) :
    KeepsOut z0 (execAccessUnitDecoded n u s) := by
  unfold execAccessUnitDecoded
  try dsimp only
  repeat' (first | with_reducible assumption | with_reducible apply State.triggered_keeps | with_reducible apply State.accessUnit_keeps | with_reducible apply keeps_ite | with_reducible apply keeps_foldl | with_reducible apply keepsOut_next | with_reducible apply keepsOut_ite | fail_if_no_progress (with_reducible apply keeps_other) | with_reducible apply keeps_dropRegs | with_reducible apply keeps_dropMem | with_reducible apply keeps_dropBoth | (intro _; intros) | (refine keeps_of_some (by with_reducible assumption) ?_) | (refine keeps_of_fst (by with_reducible assumption) ?_) | split)

theorem execLaneSample_keeps {z0 : State} (n : Fin 32) {s : State}  (hK : Keeps z0 s) :
    KeepsOut z0 (execLaneSample n s) := by
  unfold execLaneSample
  try dsimp only
  repeat' (first | with_reducible assumption | with_reducible apply State.triggered_keeps | with_reducible apply State.laneSample_keeps | with_reducible apply keeps_ite | with_reducible apply keeps_foldl | with_reducible apply keepsOut_next | with_reducible apply keepsOut_ite | fail_if_no_progress (with_reducible apply keeps_other) | with_reducible apply keeps_dropRegs | with_reducible apply keeps_dropMem | with_reducible apply keeps_dropBoth | (intro _; intros) | (refine keeps_of_some (by with_reducible assumption) ?_) | (refine keeps_of_fst (by with_reducible assumption) ?_) | split)

theorem execFilterOutput_keeps {z0 : State} (w : Fin 1024) (xs : List (Int × Int)) (ys : List (Int × Int)) {s : State}  (hK : Keeps z0 s) :
    KeepsOut z0 (execFilterOutput w xs ys s) := by
  unfold execFilterOutput
  try dsimp only
  repeat' (first | with_reducible assumption | with_reducible apply State.triggered_keeps | with_reducible apply State.filterOutput_keeps | with_reducible apply keeps_ite | with_reducible apply keeps_foldl | with_reducible apply keepsOut_next | with_reducible apply keepsOut_ite | fail_if_no_progress (with_reducible apply keeps_other) | with_reducible apply keeps_dropRegs | with_reducible apply keeps_dropMem | with_reducible apply keeps_dropBoth | (intro _; intros) | (refine keeps_of_some (by with_reducible assumption) ?_) | (refine keeps_of_fst (by with_reducible assumption) ?_) | split)

theorem execPortFrame_keeps {z0 : State} (n : Fin 32) (e : BitVec 64) (period : Nat) (xs : List Int) (missing : BitVec 2) {s : State}  (hK : Keeps z0 s) :
    KeepsOut z0 (execPortFrame n e period xs missing s) := by
  unfold execPortFrame
  try dsimp only
  repeat' (first | with_reducible assumption | with_reducible apply State.triggered_keeps | with_reducible apply State.portFrame_keeps | with_reducible apply keeps_ite | with_reducible apply keeps_foldl | with_reducible apply keepsOut_next | with_reducible apply keepsOut_ite | fail_if_no_progress (with_reducible apply keeps_other) | with_reducible apply keeps_dropRegs | with_reducible apply keeps_dropMem | with_reducible apply keeps_dropBoth | (intro _; intros) | (refine keeps_of_some (by with_reducible assumption) ?_) | (refine keeps_of_fst (by with_reducible assumption) ?_) | split)

theorem execSyncInEdge_keeps {z0 : State} (e : BitVec 64) {s : State}  (hK : Keeps z0 s) :
    KeepsOut z0 (execSyncInEdge e s) := by
  unfold execSyncInEdge
  try dsimp only
  repeat' (first | with_reducible assumption | with_reducible apply State.triggered_keeps | with_reducible apply State.fire_keeps | with_reducible apply State.syncIn_keeps | with_reducible apply keeps_ite | with_reducible apply keeps_foldl | with_reducible apply keepsOut_next | with_reducible apply keepsOut_ite | fail_if_no_progress (with_reducible apply keeps_other) | with_reducible apply keeps_dropRegs | with_reducible apply keeps_dropMem | with_reducible apply keeps_dropBoth | (intro _; intros) | (refine keeps_of_some (by with_reducible assumption) ?_) | (refine keeps_of_fst (by with_reducible assumption) ?_) | split)

theorem execTwcBusCleared_keeps {z0 : State} {s : State}  (hK : Keeps z0 s) :
    KeepsOut z0 (execTwcBusCleared s) := by
  unfold execTwcBusCleared
  try dsimp only
  repeat' (first | with_reducible assumption | with_reducible apply State.triggered_keeps | with_reducible apply State.twcCleared_keeps | with_reducible apply keeps_ite | with_reducible apply keeps_foldl | with_reducible apply keepsOut_next | with_reducible apply keepsOut_ite | fail_if_no_progress (with_reducible apply keeps_other) | with_reducible apply keeps_dropRegs | with_reducible apply keeps_dropMem | with_reducible apply keeps_dropBoth | (intro _; intros) | (refine keeps_of_some (by with_reducible assumption) ?_) | (refine keeps_of_fst (by with_reducible assumption) ?_) | split)

theorem execTwcBusFree_keeps {z0 : State} {s : State}  (hK : Keeps z0 s) :
    KeepsOut z0 (execTwcBusFree s) := by
  unfold execTwcBusFree
  try dsimp only
  repeat' (first | with_reducible assumption | with_reducible apply State.triggered_keeps | with_reducible apply State.twcBusFree_keeps | with_reducible apply keeps_ite | with_reducible apply keeps_foldl | with_reducible apply keepsOut_next | with_reducible apply keepsOut_ite | fail_if_no_progress (with_reducible apply keeps_other) | with_reducible apply keeps_dropRegs | with_reducible apply keeps_dropMem | with_reducible apply keeps_dropBoth | (intro _; intros) | (refine keeps_of_some (by with_reducible assumption) ?_) | (refine keeps_of_fst (by with_reducible assumption) ?_) | split)

theorem State.setRoot_keeps {z0 : State} {s : State} (n : Nat)  (hK : Keeps z0 s) :
    Keeps z0 (State.setRoot s n) := by
  unfold State.setRoot
  try dsimp only
  repeat' (first | with_reducible assumption | with_reducible apply State.put_keeps | with_reducible apply keeps_ite | with_reducible apply keeps_foldl | fail_if_no_progress (with_reducible apply keeps_other) | with_reducible apply keeps_dropRegs | with_reducible apply keeps_dropMem | with_reducible apply keeps_dropBoth | (intro _; intros) | (refine keeps_of_some (by with_reducible assumption) ?_) | (refine keeps_of_fst (by with_reducible assumption) ?_) | split)

theorem State.outApply_keeps {z0 : State} {s : State} (n : Nat)  (hK : Keeps z0 s) :
    Keeps z0 (State.outApply s n) := by
  unfold State.outApply
  try dsimp only
  repeat' (first | with_reducible assumption | with_reducible apply State.setAx_keeps | with_reducible apply State.putB_keeps | with_reducible apply State.put_keeps | with_reducible apply keeps_ite | with_reducible apply keeps_foldl | with_reducible apply keepsOut_next | with_reducible apply keepsOut_ite | fail_if_no_progress (with_reducible apply keeps_other) | with_reducible apply keeps_dropRegs | with_reducible apply keeps_dropMem | with_reducible apply keeps_dropBoth | (intro _; intros) | (refine keeps_of_some (by with_reducible assumption) ?_) | (refine keeps_of_fst (by with_reducible assumption) ?_) | split)

theorem State.outsFollow_keeps {z0 : State} {s : State}  (hK : Keeps z0 s) :
    Keeps z0 (State.outsFollow s) := by
  unfold State.outsFollow
  try dsimp only
  repeat' (first | with_reducible assumption | with_reducible apply State.outApply_keeps | with_reducible apply State.setAx_keeps | with_reducible apply State.put_keeps | with_reducible apply keeps_ite | with_reducible apply keeps_foldl | with_reducible apply keepsOut_next | with_reducible apply keepsOut_ite | fail_if_no_progress (with_reducible apply keeps_other) | with_reducible apply keeps_dropRegs | with_reducible apply keeps_dropMem | with_reducible apply keeps_dropBoth | (intro _; intros) | (refine keeps_of_some (by with_reducible assumption) ?_) | (refine keeps_of_fst (by with_reducible assumption) ?_) | split)

theorem State.outWritten_keeps {z0 : State} {s : State} (n : Nat) (off : Nat) (v : Word)  (hK : Keeps z0 s) :
    Keeps z0 (State.outWritten s n off v) := by
  unfold State.outWritten
  try dsimp only
  repeat' (first | with_reducible assumption | with_reducible apply State.outApply_keeps | with_reducible apply State.store_keeps | with_reducible apply State.put_keeps | with_reducible apply keeps_ite | with_reducible apply keeps_foldl | with_reducible apply keepsOut_next | with_reducible apply keepsOut_ite | fail_if_no_progress (with_reducible apply keeps_other) | with_reducible apply keeps_dropRegs | with_reducible apply keeps_dropMem | with_reducible apply keeps_dropBoth | (intro _; intros) | (refine keeps_of_some (by with_reducible assumption) ?_) | (refine keeps_of_fst (by with_reducible assumption) ?_) | split)

theorem execClkOutConfigWrite_keeps {z0 : State} (m : Master) (n : Fin 4) (div : Bool) (v : Word) {s : State}  (hK : Keeps z0 s) :
    KeepsOut z0 (execClkOutConfigWrite m n div v s) := by
  unfold execClkOutConfigWrite
  try dsimp only
  repeat' (first | with_reducible assumption | with_reducible apply State.outWritten_keeps | with_reducible apply State.guarded_keeps | with_reducible apply keeps_ite | with_reducible apply keeps_foldl | with_reducible apply keepsOut_next | with_reducible apply keepsOut_ite | fail_if_no_progress (with_reducible apply keeps_other) | with_reducible apply keeps_dropRegs | with_reducible apply keeps_dropMem | with_reducible apply keeps_dropBoth | (intro _; intros) | (refine keeps_of_some (by with_reducible assumption) ?_) | (refine keeps_of_fst (by with_reducible assumption) ?_) | split)

theorem execClkOutChangeApplied_keeps {z0 : State} (n : Fin 4) {s : State}  (hK : Keeps z0 s) :
    KeepsOut z0 (execClkOutChangeApplied n s) := by
  unfold execClkOutChangeApplied
  try dsimp only
  repeat' (first | with_reducible assumption | with_reducible apply State.outApply_keeps | with_reducible apply keeps_ite | with_reducible apply keeps_foldl | with_reducible apply keepsOut_next | with_reducible apply keepsOut_ite | fail_if_no_progress (with_reducible apply keeps_other) | with_reducible apply keeps_dropRegs | with_reducible apply keeps_dropMem | with_reducible apply keeps_dropBoth | (intro _; intros) | (refine keeps_of_some (by with_reducible assumption) ?_) | (refine keeps_of_fst (by with_reducible assumption) ?_) | split)

theorem State.trimPause_keeps {z0 : State} {s : State}  (hK : Keeps z0 s) :
    Keeps z0 (State.trimPause s) := by
  unfold State.trimPause
  try dsimp only
  repeat' (first | with_reducible assumption | with_reducible apply State.useFresh_keeps | with_reducible apply State.putI_keeps | with_reducible apply State.put_keeps | with_reducible apply keeps_ite | with_reducible apply keeps_foldl | fail_if_no_progress (with_reducible apply keeps_other) | with_reducible apply keeps_dropRegs | with_reducible apply keeps_dropMem | with_reducible apply keeps_dropBoth | (intro _; intros) | (refine keeps_of_some (by with_reducible assumption) ?_) | (refine keeps_of_fst (by with_reducible assumption) ?_) | split)

theorem State.trimGo_keeps {z0 : State} {s : State}  (hK : Keeps z0 s) :
    Keeps z0 (State.trimGo s) := by
  unfold State.trimGo
  try dsimp only
  repeat' (first | with_reducible assumption | with_reducible apply State.put_keeps | with_reducible apply keeps_ite | with_reducible apply keeps_foldl | fail_if_no_progress (with_reducible apply keeps_other) | with_reducible apply keeps_dropRegs | with_reducible apply keeps_dropMem | with_reducible apply keeps_dropBoth | (intro _; intros) | (refine keeps_of_some (by with_reducible assumption) ?_) | (refine keeps_of_fst (by with_reducible assumption) ?_) | split)

theorem State.trimBy_keeps {z0 : State} {s : State} (v : Nat)  (hK : Keeps z0 s) :
    Keeps z0 (State.trimBy s v) := by
  unfold State.trimBy
  try dsimp only
  repeat' (first | with_reducible assumption | with_reducible apply State.trimGo_keeps | with_reducible apply State.put_keeps | with_reducible apply keeps_ite | with_reducible apply keeps_foldl | fail_if_no_progress (with_reducible apply keeps_other) | with_reducible apply keeps_dropRegs | with_reducible apply keeps_dropMem | with_reducible apply keeps_dropBoth | (intro _; intros) | (refine keeps_of_some (by with_reducible assumption) ?_) | (refine keeps_of_fst (by with_reducible assumption) ?_) | split)

theorem execPhaseTrimWrite_keeps {z0 : State} (m : Master) (v : Word) {s : State}  (hK : Keeps z0 s) :
    KeepsOut z0 (execPhaseTrimWrite m v s) := by
  unfold execPhaseTrimWrite
  try dsimp only
  repeat' (first | with_reducible assumption | with_reducible apply State.trimBy_keeps | with_reducible apply State.store_keeps | with_reducible apply State.guarded_keeps | with_reducible apply keeps_ite | with_reducible apply keeps_foldl | with_reducible apply keepsOut_next | with_reducible apply keepsOut_ite | fail_if_no_progress (with_reducible apply keeps_other) | with_reducible apply keeps_dropRegs | with_reducible apply keeps_dropMem | with_reducible apply keeps_dropBoth | (intro _; intros) | (refine keeps_of_some (by with_reducible assumption) ?_) | (refine keeps_of_fst (by with_reducible assumption) ?_) | split)

theorem execTrimDone_keeps {z0 : State} {s : State}  (hK : Keeps z0 s) :
    KeepsOut z0 (execTrimDone s) := by
  unfold execTrimDone
  try dsimp only
  repeat' (first | with_reducible assumption | with_reducible apply State.put_keeps | with_reducible apply keeps_ite | with_reducible apply keeps_foldl | with_reducible apply keepsOut_next | with_reducible apply keepsOut_ite | fail_if_no_progress (with_reducible apply keeps_other) | with_reducible apply keeps_dropRegs | with_reducible apply keeps_dropMem | with_reducible apply keeps_dropBoth | (intro _; intros) | (refine keeps_of_some (by with_reducible assumption) ?_) | (refine keeps_of_fst (by with_reducible assumption) ?_) | split)

theorem execGlideEnd_keeps {z0 : State} {s : State}  (hK : Keeps z0 s) :
    KeepsOut z0 (execGlideEnd s) := by
  unfold execGlideEnd
  try dsimp only
  repeat' (first | with_reducible assumption | with_reducible apply State.put_keeps | with_reducible apply keeps_ite | with_reducible apply keeps_foldl | with_reducible apply keepsOut_next | with_reducible apply keepsOut_ite | fail_if_no_progress (with_reducible apply keeps_other) | with_reducible apply keeps_dropRegs | with_reducible apply keeps_dropMem | with_reducible apply keeps_dropBoth | (intro _; intros) | (refine keeps_of_some (by with_reducible assumption) ?_) | (refine keeps_of_fst (by with_reducible assumption) ?_) | split)

theorem State.holdFrom_keeps {z0 : State} {s : State} (ms : Nat)  (hK : Keeps z0 s) :
    Keeps z0 (State.holdFrom s ms) := by
  unfold State.holdFrom
  try dsimp only
  repeat' (first | with_reducible assumption | with_reducible apply keeps_ite | with_reducible apply keeps_foldl | fail_if_no_progress (with_reducible apply keeps_other) | with_reducible apply keeps_dropRegs | with_reducible apply keeps_dropMem | with_reducible apply keeps_dropBoth | (intro _; intros) | (refine keeps_of_some (by with_reducible assumption) ?_) | (refine keeps_of_fst (by with_reducible assumption) ?_) | split)

theorem State.enterHoldover_keeps {z0 : State} {s : State}  (hK : Keeps z0 s) :
    Keeps z0 (State.enterHoldover s) := by
  unfold State.enterHoldover
  try dsimp only
  repeat' (first | with_reducible assumption | with_reducible apply State.holdFrom_keeps | with_reducible apply State.trimPause_keeps | with_reducible apply State.setRoot_keeps | with_reducible apply State.count_keeps | with_reducible apply State.raise_keeps | with_reducible apply State.useFresh_keeps | with_reducible apply State.put_keeps | with_reducible apply State.wr_keeps | with_reducible apply keeps_ite | with_reducible apply keeps_foldl | fail_if_no_progress (with_reducible apply keeps_other) | with_reducible apply keeps_dropRegs | with_reducible apply keeps_dropMem | with_reducible apply keeps_dropBoth | (intro _; intros) | (refine keeps_of_some (by with_reducible assumption) ?_) | (refine keeps_of_fst (by with_reducible assumption) ?_) | split)

theorem State.rootLoses_keeps {z0 : State} {s : State}  (hK : Keeps z0 s) :
    Keeps z0 (State.rootLoses s) := by
  unfold State.rootLoses
  try dsimp only
  repeat' (first | with_reducible assumption | with_reducible apply State.enterHoldover_keeps | with_reducible apply State.setRoot_keeps | with_reducible apply State.put_keeps | with_reducible apply keeps_ite | with_reducible apply keeps_foldl | fail_if_no_progress (with_reducible apply keeps_other) | with_reducible apply keeps_dropRegs | with_reducible apply keeps_dropMem | with_reducible apply keeps_dropBoth | (intro _; intros) | (refine keeps_of_some (by with_reducible assumption) ?_) | (refine keeps_of_fst (by with_reducible assumption) ?_) | split)

theorem execRefLost_keeps {z0 : State} {s : State}  (hK : Keeps z0 s) :
    KeepsOut z0 (execRefLost s) := by
  unfold execRefLost
  try dsimp only
  repeat' (first | with_reducible assumption | with_reducible apply State.rootLoses_keeps | with_reducible apply State.outsFollow_keeps | with_reducible apply State.count_keeps | with_reducible apply State.raise_keeps | with_reducible apply State.put_keeps | with_reducible apply keeps_ite | with_reducible apply keeps_foldl | with_reducible apply keepsOut_next | with_reducible apply keepsOut_ite | fail_if_no_progress (with_reducible apply keeps_other) | with_reducible apply keeps_dropRegs | with_reducible apply keeps_dropMem | with_reducible apply keeps_dropBoth | (intro _; intros) | (refine keeps_of_some (by with_reducible assumption) ?_) | (refine keeps_of_fst (by with_reducible assumption) ?_) | split)

theorem execRootLockLost_keeps {z0 : State} {s : State}  (hK : Keeps z0 s) :
    KeepsOut z0 (execRootLockLost s) := by
  unfold execRootLockLost
  try dsimp only
  repeat' (first | with_reducible assumption | with_reducible apply State.rootLoses_keeps | with_reducible apply State.outsFollow_keeps | with_reducible apply State.raise_keeps | with_reducible apply State.put_keeps | with_reducible apply keeps_ite | with_reducible apply keeps_foldl | with_reducible apply keepsOut_next | with_reducible apply keepsOut_ite | fail_if_no_progress (with_reducible apply keeps_other) | with_reducible apply keeps_dropRegs | with_reducible apply keeps_dropMem | with_reducible apply keeps_dropBoth | (intro _; intros) | (refine keeps_of_some (by with_reducible assumption) ?_) | (refine keeps_of_fst (by with_reducible assumption) ?_) | split)

theorem State.trustLost_keeps {z0 : State} {s : State}  (hK : Keeps z0 s) :
    Keeps z0 (State.trustLost s) := by
  unfold State.trustLost
  try dsimp only
  repeat' (first | with_reducible assumption | with_reducible apply State.raise_keeps | with_reducible apply State.put_keeps | with_reducible apply keeps_ite | with_reducible apply keeps_foldl | fail_if_no_progress (with_reducible apply keeps_other) | with_reducible apply keeps_dropRegs | with_reducible apply keeps_dropMem | with_reducible apply keeps_dropBoth | (intro _; intros) | (refine keeps_of_some (by with_reducible assumption) ?_) | (refine keeps_of_fst (by with_reducible assumption) ?_) | split)

theorem execTimingFault_keeps {z0 : State} {s : State}  (hK : Keeps z0 s) :
    KeepsOut z0 (execTimingFault s) := by
  unfold execTimingFault
  try dsimp only
  repeat' (first | with_reducible assumption | with_reducible apply State.trustLost_keeps | with_reducible apply State.outsFollow_keeps | with_reducible apply State.setRoot_keeps | with_reducible apply State.abandonJob_keeps | with_reducible apply State.advanceTo_keeps | with_reducible apply State.declare_keeps | with_reducible apply State.raise_keeps | with_reducible apply State.put_keeps | with_reducible apply keeps_ite | with_reducible apply keeps_foldl | with_reducible apply keepsOut_next | with_reducible apply keepsOut_ite | fail_if_no_progress (with_reducible apply keeps_other) | with_reducible apply keeps_dropRegs | with_reducible apply keeps_dropMem | with_reducible apply keeps_dropBoth | (intro _; intros) | (refine keeps_of_some (by with_reducible assumption) ?_) | (refine keeps_of_fst (by with_reducible assumption) ?_) | split)

theorem State.rootMode_keeps {z0 : State} {s : State}  (hK : Keeps z0 s) :
    Keeps z0 (State.rootMode s) := by
  unfold State.rootMode
  try dsimp only
  repeat' (first | with_reducible assumption | with_reducible apply State.put_keeps | with_reducible apply keeps_ite | with_reducible apply keeps_foldl | fail_if_no_progress (with_reducible apply keeps_other) | with_reducible apply keeps_dropRegs | with_reducible apply keeps_dropMem | with_reducible apply keeps_dropBoth | (intro _; intros) | (refine keeps_of_some (by with_reducible assumption) ?_) | (refine keeps_of_fst (by with_reducible assumption) ?_) | split)

theorem State.firstAcquire_keeps {z0 : State} {s : State}  (hK : Keeps z0 s) :
    Keeps z0 (State.firstAcquire s) := by
  unfold State.firstAcquire
  try dsimp only
  repeat' (first | with_reducible assumption | with_reducible apply State.setRoot_keeps | with_reducible apply State.count_keeps | with_reducible apply State.useFresh_keeps | with_reducible apply State.put_keeps | with_reducible apply keeps_ite | with_reducible apply keeps_foldl | fail_if_no_progress (with_reducible apply keeps_other) | with_reducible apply keeps_dropRegs | with_reducible apply keeps_dropMem | with_reducible apply keeps_dropBoth | (intro _; intros) | (refine keeps_of_some (by with_reducible assumption) ?_) | (refine keeps_of_fst (by with_reducible assumption) ?_) | split)

theorem execRefQualified_keeps {z0 : State} {s : State}  (hK : Keeps z0 s) :
    KeepsOut z0 (execRefQualified s) := by
  unfold execRefQualified
  try dsimp only
  repeat' (first | with_reducible assumption | with_reducible apply State.firstAcquire_keeps | with_reducible apply State.outsFollow_keeps | with_reducible apply State.put_keeps | with_reducible apply keeps_ite | with_reducible apply keeps_foldl | with_reducible apply keepsOut_next | with_reducible apply keepsOut_ite | fail_if_no_progress (with_reducible apply keeps_other) | with_reducible apply keeps_dropRegs | with_reducible apply keeps_dropMem | with_reducible apply keeps_dropBoth | (intro _; intros) | (refine keeps_of_some (by with_reducible assumption) ?_) | (refine keeps_of_fst (by with_reducible assumption) ?_) | split)

theorem State.placeEpoch_keeps {z0 : State} {s : State} (e : BitVec 64)  (hK : Keeps z0 s) :
    Keeps z0 (State.placeEpoch s e) := by
  unfold State.placeEpoch
  try dsimp only
  repeat' (first | with_reducible assumption | with_reducible apply State.triggered_keeps | with_reducible apply State.fire_keeps | with_reducible apply keeps_ite | with_reducible apply keeps_foldl | fail_if_no_progress (with_reducible apply keeps_other) | with_reducible apply keeps_dropRegs | with_reducible apply keeps_dropMem | with_reducible apply keeps_dropBoth | (intro _; intros) | (refine keeps_of_some (by with_reducible assumption) ?_) | (refine keeps_of_fst (by with_reducible assumption) ?_) | split)

theorem State.firstLock_keeps {z0 : State} {s : State}  (hK : Keeps z0 s) :
    Keeps z0 (State.firstLock s) := by
  unfold State.firstLock
  try dsimp only
  repeat' (first | with_reducible assumption | with_reducible apply State.placeEpoch_keeps | with_reducible apply State.signStart_keeps | with_reducible apply State.endFault_keeps | with_reducible apply State.put_keeps | with_reducible apply keeps_ite | with_reducible apply keeps_foldl | fail_if_no_progress (with_reducible apply keeps_other) | with_reducible apply keeps_dropRegs | with_reducible apply keeps_dropMem | with_reducible apply keeps_dropBoth | (intro _; intros) | (refine keeps_of_some (by with_reducible assumption) ?_) | (refine keeps_of_fst (by with_reducible assumption) ?_) | split)

theorem State.lockRoot_keeps {z0 : State} {s : State}  (hK : Keeps z0 s) :
    Keeps z0 (State.lockRoot s) := by
  unfold State.lockRoot
  try dsimp only
  repeat' (first | with_reducible assumption | with_reducible apply State.rootMode_keeps | with_reducible apply State.trimGo_keeps | with_reducible apply State.setRoot_keeps | with_reducible apply State.endFault_keeps | with_reducible apply State.raise_keeps | with_reducible apply State.put_keeps | with_reducible apply State.wr_keeps | with_reducible apply keeps_ite | with_reducible apply keeps_foldl | fail_if_no_progress (with_reducible apply keeps_other) | with_reducible apply keeps_dropRegs | with_reducible apply keeps_dropMem | with_reducible apply keeps_dropBoth | (intro _; intros) | (refine keeps_of_some (by with_reducible assumption) ?_) | (refine keeps_of_fst (by with_reducible assumption) ?_) | split)

theorem execRootLocked_keeps {z0 : State} {s : State}  (hK : Keeps z0 s) :
    KeepsOut z0 (execRootLocked s) := by
  unfold execRootLocked
  try dsimp only
  repeat' (first | with_reducible assumption | with_reducible apply State.lockRoot_keeps | with_reducible apply State.firstLock_keeps | with_reducible apply State.outsFollow_keeps | with_reducible apply keeps_ite | with_reducible apply keeps_foldl | with_reducible apply keepsOut_next | with_reducible apply keepsOut_ite | fail_if_no_progress (with_reducible apply keeps_other) | with_reducible apply keeps_dropRegs | with_reducible apply keeps_dropMem | with_reducible apply keeps_dropBoth | (intro _; intros) | (refine keeps_of_some (by with_reducible assumption) ?_) | (refine keeps_of_fst (by with_reducible assumption) ?_) | split)

theorem State.refCfgWritten_keeps {z0 : State} {s : State} (v : Word)  (hK : Keeps z0 s) :
    Keeps z0 (State.refCfgWritten s v) := by
  unfold State.refCfgWritten
  try dsimp only
  repeat' (first | with_reducible assumption | with_reducible apply State.rootMode_keeps | with_reducible apply State.enterHoldover_keeps | with_reducible apply State.outsFollow_keeps | with_reducible apply State.setRoot_keeps | with_reducible apply State.store_keeps | with_reducible apply State.put_keeps | with_reducible apply keeps_ite | with_reducible apply keeps_foldl | fail_if_no_progress (with_reducible apply keeps_other) | with_reducible apply keeps_dropRegs | with_reducible apply keeps_dropMem | with_reducible apply keeps_dropBoth | (intro _; intros) | (refine keeps_of_some (by with_reducible assumption) ?_) | (refine keeps_of_fst (by with_reducible assumption) ?_) | split)

theorem execRefCfgWrite_keeps {z0 : State} (m : Master) (v : Word) {s : State}  (hK : Keeps z0 s) :
    KeepsOut z0 (execRefCfgWrite m v s) := by
  unfold execRefCfgWrite
  try dsimp only
  repeat' (first | with_reducible assumption | with_reducible apply State.refCfgWritten_keeps | with_reducible apply State.guarded_keeps | with_reducible apply keeps_ite | with_reducible apply keeps_foldl | with_reducible apply keepsOut_next | with_reducible apply keepsOut_ite | fail_if_no_progress (with_reducible apply keeps_other) | with_reducible apply keeps_dropRegs | with_reducible apply keeps_dropMem | with_reducible apply keeps_dropBoth | (intro _; intros) | (refine keeps_of_some (by with_reducible assumption) ?_) | (refine keeps_of_fst (by with_reducible assumption) ?_) | split)

theorem State.outsRephase_keeps {z0 : State} {s : State}  (hK : Keeps z0 s) :
    Keeps z0 (State.outsRephase s) := by
  unfold State.outsRephase
  try dsimp only
  repeat' (first | with_reducible assumption | with_reducible apply State.setAx_keeps | with_reducible apply State.put_keeps | with_reducible apply keeps_ite | with_reducible apply keeps_foldl | with_reducible apply keepsOut_next | with_reducible apply keepsOut_ite | fail_if_no_progress (with_reducible apply keeps_other) | with_reducible apply keeps_dropRegs | with_reducible apply keeps_dropMem | with_reducible apply keeps_dropBoth | (intro _; intros) | (refine keeps_of_some (by with_reducible assumption) ?_) | (refine keeps_of_fst (by with_reducible assumption) ?_) | split)

theorem State.loadEpoch_keeps {z0 : State} {s : State} (v : Word)  (hK : Keeps z0 s) :
    Keeps z0 (State.loadEpoch s v) := by
  unfold State.loadEpoch
  try dsimp only
  repeat' (first | with_reducible assumption | with_reducible apply State.outsRephase_keeps | with_reducible apply State.placeEpoch_keeps | with_reducible apply keeps_ite | with_reducible apply keeps_foldl | fail_if_no_progress (with_reducible apply keeps_other) | with_reducible apply keeps_dropRegs | with_reducible apply keeps_dropMem | with_reducible apply keeps_dropBoth | (intro _; intros) | (refine keeps_of_some (by with_reducible assumption) ?_) | (refine keeps_of_fst (by with_reducible assumption) ?_) | split)

theorem execEpochLoad_keeps {z0 : State} (m : Master) (v : Word) {s : State}  (hK : Keeps z0 s) :
    KeepsOut z0 (execEpochLoad m v s) := by
  unfold execEpochLoad
  try dsimp only
  repeat' (first | with_reducible assumption | with_reducible apply State.loadEpoch_keeps | with_reducible apply State.guarded_keeps | with_reducible apply keeps_ite | with_reducible apply keeps_foldl | with_reducible apply keepsOut_next | with_reducible apply keepsOut_ite | fail_if_no_progress (with_reducible apply keeps_other) | with_reducible apply keeps_dropRegs | with_reducible apply keeps_dropMem | with_reducible apply keeps_dropBoth | (intro _; intros) | (refine keeps_of_some (by with_reducible assumption) ?_) | (refine keeps_of_fst (by with_reducible assumption) ?_) | split)

theorem execEpochSnap_keeps {z0 : State} (m : Master) (v : Word) {s : State}  (hK : Keeps z0 s) :
    KeepsOut z0 (execEpochSnap m v s) := by
  unfold execEpochSnap
  try dsimp only
  repeat' (first | with_reducible assumption | with_reducible apply State.guarded_keeps | with_reducible apply keeps_ite | with_reducible apply keeps_foldl | with_reducible apply keepsOut_next | with_reducible apply keepsOut_ite | fail_if_no_progress (with_reducible apply keeps_other) | with_reducible apply keeps_dropRegs | with_reducible apply keeps_dropMem | with_reducible apply keeps_dropBoth | (intro _; intros) | (refine keeps_of_some (by with_reducible assumption) ?_) | (refine keeps_of_fst (by with_reducible assumption) ?_) | split)

theorem State.setRole_keeps {z0 : State} {s : State} (n : Nat)  (hK : Keeps z0 s) :
    Keeps z0 (State.setRole s n) := by
  unfold State.setRole
  try dsimp only
  repeat' (first | with_reducible assumption | with_reducible apply State.put_keeps | with_reducible apply keeps_ite | with_reducible apply keeps_foldl | fail_if_no_progress (with_reducible apply keeps_other) | with_reducible apply keeps_dropRegs | with_reducible apply keeps_dropMem | with_reducible apply keeps_dropBoth | (intro _; intros) | (refine keeps_of_some (by with_reducible assumption) ?_) | (refine keeps_of_fst (by with_reducible assumption) ?_) | split)

theorem State.letGo_keeps {z0 : State} {s : State}  (hK : Keeps z0 s) :
    Keeps z0 (State.letGo s) := by
  unfold State.letGo
  try dsimp only
  repeat' (first | with_reducible assumption | with_reducible apply State.setRole_keeps | with_reducible apply State.endFault_keeps | with_reducible apply keeps_ite | with_reducible apply keeps_foldl | fail_if_no_progress (with_reducible apply keeps_other) | with_reducible apply keeps_dropRegs | with_reducible apply keeps_dropMem | with_reducible apply keeps_dropBoth | (intro _; intros) | (refine keeps_of_some (by with_reducible assumption) ?_) | (refine keeps_of_fst (by with_reducible assumption) ?_) | split)

theorem State.leadRelease_keeps {z0 : State} {s : State}  (hK : Keeps z0 s) :
    Keeps z0 (State.leadRelease s) := by
  unfold State.leadRelease
  try dsimp only
  repeat' (first | with_reducible assumption | with_reducible apply State.letGo_keeps | with_reducible apply State.handover_keeps | with_reducible apply keeps_ite | with_reducible apply keeps_foldl | fail_if_no_progress (with_reducible apply keeps_other) | with_reducible apply keeps_dropRegs | with_reducible apply keeps_dropMem | with_reducible apply keeps_dropBoth | (intro _; intros) | (refine keeps_of_some (by with_reducible assumption) ?_) | (refine keeps_of_fst (by with_reducible assumption) ?_) | split)

theorem State.takeLead_keeps {z0 : State} {s : State}  (hK : Keeps z0 s) :
    Keeps z0 (State.takeLead s) := by
  unfold State.takeLead
  try dsimp only
  repeat' (first | with_reducible assumption | with_reducible apply State.setRole_keeps | with_reducible apply State.handover_keeps | with_reducible apply State.put_keeps | with_reducible apply keeps_ite | with_reducible apply keeps_foldl | fail_if_no_progress (with_reducible apply keeps_other) | with_reducible apply keeps_dropRegs | with_reducible apply keeps_dropMem | with_reducible apply keeps_dropBoth | (intro _; intros) | (refine keeps_of_some (by with_reducible assumption) ?_) | (refine keeps_of_fst (by with_reducible assumption) ?_) | split)

theorem State.standBy_keeps {z0 : State} {s : State}  (hK : Keeps z0 s) :
    Keeps z0 (State.standBy s) := by
  unfold State.standBy
  try dsimp only
  repeat' (first | with_reducible assumption | with_reducible apply State.setRole_keeps | with_reducible apply keeps_ite | with_reducible apply keeps_foldl | fail_if_no_progress (with_reducible apply keeps_other) | with_reducible apply keeps_dropRegs | with_reducible apply keeps_dropMem | with_reducible apply keeps_dropBoth | (intro _; intros) | (refine keeps_of_some (by with_reducible assumption) ?_) | (refine keeps_of_fst (by with_reducible assumption) ?_) | split)

theorem execLeadClaim_keeps {z0 : State} (low : Bool) {s : State}  (hK : Keeps z0 s) :
    KeepsOut z0 (execLeadClaim low s) := by
  unfold execLeadClaim
  try dsimp only
  repeat' (first | with_reducible assumption | with_reducible apply State.standBy_keeps | with_reducible apply State.takeLead_keeps | with_reducible apply keeps_ite | with_reducible apply keeps_foldl | with_reducible apply keepsOut_next | with_reducible apply keepsOut_ite | fail_if_no_progress (with_reducible apply keeps_other) | with_reducible apply keeps_dropRegs | with_reducible apply keeps_dropMem | with_reducible apply keeps_dropBoth | (intro _; intros) | (refine keeps_of_some (by with_reducible assumption) ?_) | (refine keeps_of_fst (by with_reducible assumption) ?_) | split)

theorem execReleaseSilenceEnd_keeps {z0 : State} (low : Bool) {s : State}  (hK : Keeps z0 s) :
    KeepsOut z0 (execReleaseSilenceEnd low s) := by
  unfold execReleaseSilenceEnd
  try dsimp only
  repeat' (first | with_reducible assumption | with_reducible apply State.standBy_keeps | with_reducible apply keeps_ite | with_reducible apply keeps_foldl | with_reducible apply keepsOut_next | with_reducible apply keepsOut_ite | fail_if_no_progress (with_reducible apply keeps_other) | with_reducible apply keeps_dropRegs | with_reducible apply keeps_dropMem | with_reducible apply keeps_dropBoth | (intro _; intros) | (refine keeps_of_some (by with_reducible assumption) ?_) | (refine keeps_of_fst (by with_reducible assumption) ?_) | split)

theorem execWireCheckFail_keeps {z0 : State} {s : State}  (hK : Keeps z0 s) :
    KeepsOut z0 (execWireCheckFail s) := by
  unfold execWireCheckFail
  try dsimp only
  repeat' (first | with_reducible assumption | with_reducible apply State.declare_keeps | with_reducible apply State.raise_keeps | with_reducible apply keeps_ite | with_reducible apply keeps_foldl | with_reducible apply keepsOut_next | with_reducible apply keepsOut_ite | fail_if_no_progress (with_reducible apply keeps_other) | with_reducible apply keeps_dropRegs | with_reducible apply keeps_dropMem | with_reducible apply keeps_dropBoth | (intro _; intros) | (refine keeps_of_some (by with_reducible assumption) ?_) | (refine keeps_of_fst (by with_reducible assumption) ?_) | split)

theorem execWireCheckCleared_keeps {z0 : State} {s : State}  (hK : Keeps z0 s) :
    KeepsOut z0 (execWireCheckCleared s) := by
  unfold execWireCheckCleared
  try dsimp only
  repeat' (first | with_reducible assumption | with_reducible apply State.endFault_keeps | with_reducible apply keeps_ite | with_reducible apply keeps_foldl | with_reducible apply keepsOut_next | with_reducible apply keepsOut_ite | fail_if_no_progress (with_reducible apply keeps_other) | with_reducible apply keeps_dropRegs | with_reducible apply keeps_dropMem | with_reducible apply keeps_dropBoth | (intro _; intros) | (refine keeps_of_some (by with_reducible assumption) ?_) | (refine keeps_of_fst (by with_reducible assumption) ?_) | split)

theorem State.crossingFollow_keeps {z0 : State} {s : State}  (hK : Keeps z0 s) :
    Keeps z0 (State.crossingFollow s) := by
  unfold State.crossingFollow
  try dsimp only
  repeat' (first | with_reducible assumption | with_reducible apply State.folRelease_keeps | with_reducible apply State.folRest_keeps | with_reducible apply keeps_ite | with_reducible apply keeps_foldl | fail_if_no_progress (with_reducible apply keeps_other) | with_reducible apply keeps_dropRegs | with_reducible apply keeps_dropMem | with_reducible apply keeps_dropBoth | (intro _; intros) | (refine keeps_of_some (by with_reducible assumption) ?_) | (refine keeps_of_fst (by with_reducible assumption) ?_) | split)

theorem State.handoverKept_keeps {z0 : State} {s : State}  (hK : Keeps z0 s) :
    Keeps z0 (State.handoverKept s) := by
  unfold State.handoverKept
  try dsimp only
  repeat' (first | with_reducible assumption | with_reducible apply State.handover_keeps | with_reducible apply keeps_ite | with_reducible apply keeps_foldl | fail_if_no_progress (with_reducible apply keeps_other) | with_reducible apply keeps_dropRegs | with_reducible apply keeps_dropMem | with_reducible apply keeps_dropBoth | (intro _; intros) | (refine keeps_of_some (by with_reducible assumption) ?_) | (refine keeps_of_fst (by with_reducible assumption) ?_) | split)

theorem execTakeover_keeps {z0 : State} (e : BitVec 64) {s : State}  (hK : Keeps z0 s) :
    KeepsOut z0 (execTakeover e s) := by
  unfold execTakeover
  try dsimp only
  repeat' (first | with_reducible assumption | with_reducible apply State.handoverKept_keeps | with_reducible apply State.crossingFollow_keeps | with_reducible apply State.takeLead_keeps | with_reducible apply State.advanceTo_keeps | with_reducible apply State.count_keeps | with_reducible apply State.raise_keeps | with_reducible apply keeps_ite | with_reducible apply keeps_foldl | with_reducible apply keepsOut_next | with_reducible apply keepsOut_ite | fail_if_no_progress (with_reducible apply keeps_other) | with_reducible apply keeps_dropRegs | with_reducible apply keeps_dropMem | with_reducible apply keeps_dropBoth | (intro _; intros) | (refine keeps_of_some (by with_reducible assumption) ?_) | (refine keeps_of_fst (by with_reducible assumption) ?_) | split)

theorem State.farFails_keeps {z0 : State} {s : State} (lost : Nat)  (hK : Keeps z0 s) :
    Keeps z0 (State.farFails s lost) := by
  unfold State.farFails
  try dsimp only
  repeat' (first | with_reducible assumption | with_reducible apply State.accessFail_keeps | with_reducible apply State.ans_keeps | with_reducible apply keeps_ite | with_reducible apply keeps_foldl | with_reducible apply keepsOpt_getD | fail_if_no_progress (with_reducible apply keeps_other) | with_reducible apply keeps_dropRegs | with_reducible apply keeps_dropMem | with_reducible apply keeps_dropBoth | (intro _; intros) | (refine keeps_of_some (by with_reducible assumption) ?_) | (refine keeps_of_fst (by with_reducible assumption) ?_) | split)

theorem State.pairOff_keeps {z0 : State} {s0 : State}  (hK : Keeps z0 s0) :
    Keeps z0 (State.pairOff s0) := by
  unfold State.pairOff
  try dsimp only
  repeat' (first | with_reducible assumption | with_reducible apply State.farFails_keeps | with_reducible apply State.leadRelease_keeps | with_reducible apply State.setRole_keeps | with_reducible apply State.setMirror_keeps | with_reducible apply State.endFault_keeps | with_reducible apply State.useFresh_keeps | with_reducible apply State.put_keeps | with_reducible apply keeps_ite | with_reducible apply keeps_foldl | fail_if_no_progress (with_reducible apply keeps_other) | with_reducible apply keeps_dropRegs | with_reducible apply keeps_dropMem | with_reducible apply keeps_dropBoth | (intro _; intros) | (refine keeps_of_some (by with_reducible assumption) ?_) | (refine keeps_of_fst (by with_reducible assumption) ?_) | split)

theorem State.pairCfg_keeps {z0 : State} {s : State} (v : Word)  (hK : Keeps z0 s) :
    Keeps z0 (State.pairCfg s v) := by
  unfold State.pairCfg
  try dsimp only
  repeat' (first | with_reducible assumption | with_reducible apply State.pairOff_keeps | with_reducible apply State.store_keeps | with_reducible apply keeps_ite | with_reducible apply keeps_foldl | fail_if_no_progress (with_reducible apply keeps_other) | with_reducible apply keeps_dropRegs | with_reducible apply keeps_dropMem | with_reducible apply keeps_dropBoth | (intro _; intros) | (refine keeps_of_some (by with_reducible assumption) ?_) | (refine keeps_of_fst (by with_reducible assumption) ?_) | split)

theorem State.replayFree_keeps {z0 : State} {s : State} (applied : Word)  (hK : Keeps z0 s) :
    Keeps z0 (State.replayFree s applied) := by
  unfold State.replayFree
  try dsimp only
  repeat' (first | with_reducible assumption | with_reducible apply keeps_ite | with_reducible apply keeps_foldl | fail_if_no_progress (with_reducible apply keeps_other) | with_reducible apply keeps_dropRegs | with_reducible apply keeps_dropMem | with_reducible apply keeps_dropBoth | (intro _; intros) | (refine keeps_of_some (by with_reducible assumption) ?_) | (refine keeps_of_fst (by with_reducible assumption) ?_) | split)

theorem State.askReplay_keeps {z0 : State} {s : State}  (hK : Keeps z0 s) :
    Keeps z0 (State.askReplay s) := by
  unfold State.askReplay
  try dsimp only
  repeat' (first | with_reducible assumption | with_reducible apply State.count_keeps | with_reducible apply State.sendFrame_keeps | with_reducible apply keeps_ite | with_reducible apply keeps_foldl | fail_if_no_progress (with_reducible apply keeps_other) | with_reducible apply keeps_dropRegs | with_reducible apply keeps_dropMem | with_reducible apply keeps_dropBoth | (intro _; intros) | (refine keeps_of_some (by with_reducible assumption) ?_) | (refine keeps_of_fst (by with_reducible assumption) ?_) | split)

theorem execMirrorGapTimeout_keeps {z0 : State} {s : State}  (hK : Keeps z0 s) :
    KeepsOut z0 (execMirrorGapTimeout s) := by
  unfold execMirrorGapTimeout
  try dsimp only
  repeat' (first | with_reducible assumption | with_reducible apply State.askReplay_keeps | with_reducible apply keeps_ite | with_reducible apply keeps_foldl | with_reducible apply keepsOut_next | with_reducible apply keepsOut_ite | fail_if_no_progress (with_reducible apply keeps_other) | with_reducible apply keeps_dropRegs | with_reducible apply keeps_dropMem | with_reducible apply keeps_dropBoth | (intro _; intros) | (refine keeps_of_some (by with_reducible assumption) ?_) | (refine keeps_of_fst (by with_reducible assumption) ?_) | split)

theorem execReplayRequest_keeps {z0 : State} (seq : Word) {s : State}  (hK : Keeps z0 s) :
    KeepsOut z0 (execReplayRequest seq s) := by
  unfold execReplayRequest
  try dsimp only
  repeat' (first | with_reducible assumption | with_reducible apply State.resyncStart_keeps | with_reducible apply State.sendFrame_keeps | with_reducible apply keeps_ite | with_reducible apply keeps_foldl | with_reducible apply keepsOut_next | with_reducible apply keepsOut_ite | fail_if_no_progress (with_reducible apply keeps_other) | with_reducible apply keeps_dropRegs | with_reducible apply keeps_dropMem | with_reducible apply keeps_dropBoth | (intro _; intros) | (refine keeps_of_some (by with_reducible assumption) ?_) | (refine keeps_of_fst (by with_reducible assumption) ?_) | split)

theorem State.takeState_keeps {z0 : State} {s : State} (a : ResyncArg)  (hK : Keeps z0 s) :
    Keeps z0 (State.takeState s a) := by
  unfold State.takeState
  try dsimp only
  repeat' (first | with_reducible assumption | with_reducible apply State.watch_keeps | with_reducible apply State.setParent_keeps | with_reducible apply State.wrBytes_keeps | with_reducible apply State.wr_keeps | with_reducible apply keeps_ite | with_reducible apply keeps_foldl | fail_if_no_progress (with_reducible apply keeps_other) | with_reducible apply keeps_dropRegs | with_reducible apply keeps_dropMem | with_reducible apply keeps_dropBoth | (intro _; intros) | (refine keeps_of_some (by with_reducible assumption) ?_) | (refine keeps_of_fst (by with_reducible assumption) ?_) | split)

theorem execResyncDone_keeps {z0 : State} (a : ResyncArg) {s : State}  (hK : Keeps z0 s) :
    KeepsOut z0 (execResyncDone a s) := by
  unfold execResyncDone
  try dsimp only
  repeat' (first | with_reducible assumption | with_reducible apply State.takeState_keeps | with_reducible apply State.signCheck_keeps | with_reducible apply State.setMirror_keeps | with_reducible apply State.endFault_keeps | with_reducible apply State.wr_keeps | with_reducible apply keeps_ite | with_reducible apply keeps_foldl | with_reducible apply keepsOut_next | with_reducible apply keepsOut_ite | fail_if_no_progress (with_reducible apply keeps_other) | with_reducible apply keeps_dropRegs | with_reducible apply keeps_dropMem | with_reducible apply keeps_dropBoth | (intro _; intros) | (refine keeps_of_some (by with_reducible assumption) ?_) | (refine keeps_of_fst (by with_reducible assumption) ?_) | split)

theorem execResyncTimeout_keeps {z0 : State} {s : State}  (hK : Keeps z0 s) :
    KeepsOut z0 (execResyncTimeout s) := by
  unfold execResyncTimeout
  try dsimp only
  repeat' (first | with_reducible assumption | with_reducible apply State.abandonJob_keeps | with_reducible apply State.declare_keeps | with_reducible apply keeps_ite | with_reducible apply keeps_foldl | with_reducible apply keepsOut_next | with_reducible apply keepsOut_ite | fail_if_no_progress (with_reducible apply keeps_other) | with_reducible apply keeps_dropRegs | with_reducible apply keeps_dropMem | with_reducible apply keeps_dropBoth | (intro _; intros) | (refine keeps_of_some (by with_reducible assumption) ?_) | (refine keeps_of_fst (by with_reducible assumption) ?_) | split)

theorem State.setTrust_keeps {z0 : State} {s : State} (v : Bool)  (hK : Keeps z0 s) :
    Keeps z0 (State.setTrust s v) := by
  unfold State.setTrust
  try dsimp only
  repeat' (first | with_reducible assumption | with_reducible apply State.raise_keeps | with_reducible apply State.putB_keeps | with_reducible apply keeps_ite | with_reducible apply keeps_foldl | fail_if_no_progress (with_reducible apply keeps_other) | with_reducible apply keeps_dropRegs | with_reducible apply keeps_dropMem | with_reducible apply keeps_dropBoth | (intro _; intros) | (refine keeps_of_some (by with_reducible assumption) ?_) | (refine keeps_of_fst (by with_reducible assumption) ?_) | split)

theorem State.leadEpoch_keeps {z0 : State} {s : State} (e : BitVec 64)  (hK : Keeps z0 s) :
    Keeps z0 (State.leadEpoch s e) := by
  unfold State.leadEpoch
  try dsimp only
  repeat' (first | with_reducible assumption | with_reducible apply State.placeEpoch_keeps | with_reducible apply keeps_ite | with_reducible apply keeps_foldl | fail_if_no_progress (with_reducible apply keeps_other) | with_reducible apply keeps_dropRegs | with_reducible apply keeps_dropMem | with_reducible apply keeps_dropBoth | (intro _; intros) | (refine keeps_of_some (by with_reducible assumption) ?_) | (refine keeps_of_fst (by with_reducible assumption) ?_) | split)

theorem State.alignEpoch_keeps {z0 : State} {s : State} (hb : HeartbeatArg) (offset : Int)  (hK : Keeps z0 s) :
    Keeps z0 (State.alignEpoch s hb offset) := by
  unfold State.alignEpoch
  try dsimp only
  repeat' (first | with_reducible assumption | with_reducible apply State.leadEpoch_keeps | with_reducible apply State.setTrust_keeps | with_reducible apply State.trimBy_keeps | with_reducible apply State.endFault_keeps | with_reducible apply State.declare_keeps | with_reducible apply State.useFresh_keeps | with_reducible apply State.putI_keeps | with_reducible apply State.wr_keeps | with_reducible apply keeps_ite | with_reducible apply keeps_foldl | fail_if_no_progress (with_reducible apply keeps_other) | with_reducible apply keeps_dropRegs | with_reducible apply keeps_dropMem | with_reducible apply keeps_dropBoth | (intro _; intros) | (refine keeps_of_some (by with_reducible assumption) ?_) | (refine keeps_of_fst (by with_reducible assumption) ?_) | split)

theorem State.twoLeads_keeps {z0 : State} {s : State} (hb : HeartbeatArg)  (hK : Keeps z0 s) :
    Keeps z0 (State.twoLeads s hb) := by
  unfold State.twoLeads
  try dsimp only
  repeat' (first | with_reducible assumption | with_reducible apply State.standBy_keeps | with_reducible apply State.handover_keeps | with_reducible apply State.endFault_keeps | with_reducible apply State.declare_keeps | with_reducible apply State.raise_keeps | with_reducible apply keeps_ite | with_reducible apply keeps_foldl | fail_if_no_progress (with_reducible apply keeps_other) | with_reducible apply keeps_dropRegs | with_reducible apply keeps_dropMem | with_reducible apply keeps_dropBoth | (intro _; intros) | (refine keeps_of_some (by with_reducible assumption) ?_) | (refine keeps_of_fst (by with_reducible assumption) ?_) | split)

theorem State.protoCheck_keeps {z0 : State} {s : State} (mismatch : Bool)  (hK : Keeps z0 s) :
    Keeps z0 (State.protoCheck s mismatch) := by
  unfold State.protoCheck
  try dsimp only
  repeat' (first | with_reducible assumption | with_reducible apply State.abandonJob_keeps | with_reducible apply State.setMirror_keeps | with_reducible apply State.declare_keeps | with_reducible apply keeps_ite | with_reducible apply keeps_foldl | fail_if_no_progress (with_reducible apply keeps_other) | with_reducible apply keeps_dropRegs | with_reducible apply keeps_dropMem | with_reducible apply keeps_dropBoth | (intro _; intros) | (refine keeps_of_some (by with_reducible assumption) ?_) | (refine keeps_of_fst (by with_reducible assumption) ?_) | split)

theorem State.heartbeat_keeps {z0 : State} {s : State} (hb : HeartbeatArg)  (hK : Keeps z0 s) :
    Keeps z0 (State.heartbeat s hb) := by
  unfold State.heartbeat
  try dsimp only
  repeat' (first | with_reducible assumption | with_reducible apply State.protoCheck_keeps | with_reducible apply State.twoLeads_keeps | with_reducible apply State.replayFree_keeps | with_reducible apply State.endFault_keeps | with_reducible apply State.put_keeps | with_reducible apply State.wr_keeps | with_reducible apply keeps_ite | with_reducible apply keeps_foldl | fail_if_no_progress (with_reducible apply keeps_other) | with_reducible apply keeps_dropRegs | with_reducible apply keeps_dropMem | with_reducible apply keeps_dropBoth | (intro _; intros) | (refine keeps_of_some (by with_reducible assumption) ?_) | (refine keeps_of_fst (by with_reducible assumption) ?_) | split)

theorem execHeartbeatReceived_keeps {z0 : State} (hb : HeartbeatArg) (offset : Int) {s : State}  (hK : Keeps z0 s) :
    KeepsOut z0 (execHeartbeatReceived hb offset s) := by
  unfold execHeartbeatReceived
  try dsimp only
  repeat' (first | with_reducible assumption | with_reducible apply State.heartbeat_keeps | with_reducible apply State.alignEpoch_keeps | with_reducible apply keeps_ite | with_reducible apply keeps_foldl | with_reducible apply keepsOut_next | with_reducible apply keepsOut_ite | fail_if_no_progress (with_reducible apply keeps_other) | with_reducible apply keeps_dropRegs | with_reducible apply keeps_dropMem | with_reducible apply keeps_dropBoth | (intro _; intros) | (refine keeps_of_some (by with_reducible assumption) ?_) | (refine keeps_of_fst (by with_reducible assumption) ?_) | split)

theorem execLinkTrained_keeps {z0 : State} (latency : Nat) (hb : HeartbeatArg) (abi : BitVec 8) {s : State}  (hK : Keeps z0 s) :
    KeepsOut z0 (execLinkTrained latency hb abi s) := by
  unfold execLinkTrained
  try dsimp only
  repeat' (first | with_reducible assumption | with_reducible apply State.heartbeat_keeps | with_reducible apply State.protoCheck_keeps | with_reducible apply State.leadEpoch_keeps | with_reducible apply State.resyncStart_keeps | with_reducible apply State.setMirror_keeps | with_reducible apply State.raise_keeps | with_reducible apply State.put_keeps | with_reducible apply keeps_ite | with_reducible apply keeps_foldl | with_reducible apply keepsOut_next | with_reducible apply keepsOut_ite | fail_if_no_progress (with_reducible apply keeps_other) | with_reducible apply keeps_dropRegs | with_reducible apply keeps_dropMem | with_reducible apply keeps_dropBoth | (intro _; intros) | (refine keeps_of_some (by with_reducible assumption) ?_) | (refine keeps_of_fst (by with_reducible assumption) ?_) | split)

theorem execLinkTrainRetry_keeps {z0 : State} {s : State}  (hK : Keeps z0 s) :
    KeepsOut z0 (execLinkTrainRetry s) := by
  unfold execLinkTrainRetry
  try dsimp only
  repeat' (first | with_reducible assumption | with_reducible apply State.recordCode_keeps | with_reducible apply keeps_ite | with_reducible apply keeps_foldl | with_reducible apply keepsOut_next | with_reducible apply keepsOut_ite | fail_if_no_progress (with_reducible apply keeps_other) | with_reducible apply keeps_dropRegs | with_reducible apply keeps_dropMem | with_reducible apply keeps_dropBoth | (intro _; intros) | (refine keeps_of_some (by with_reducible assumption) ?_) | (refine keeps_of_fst (by with_reducible assumption) ?_) | split)

theorem execHeartbeatSend_keeps {z0 : State} {s : State}  (hK : Keeps z0 s) :
    KeepsOut z0 (execHeartbeatSend s) := by
  unfold execHeartbeatSend
  try dsimp only
  repeat' (first | with_reducible assumption | with_reducible apply State.sendFrame_keeps | with_reducible apply State.useFresh_keeps | with_reducible apply keeps_ite | with_reducible apply keeps_foldl | with_reducible apply keepsOut_next | with_reducible apply keepsOut_ite | fail_if_no_progress (with_reducible apply keeps_other) | with_reducible apply keeps_dropRegs | with_reducible apply keeps_dropMem | with_reducible apply keeps_dropBoth | (intro _; intros) | (refine keeps_of_some (by with_reducible assumption) ?_) | (refine keeps_of_fst (by with_reducible assumption) ?_) | split)

theorem State.freeSems_keeps {z0 : State} {s : State} (m : Nat)  (hK : Keeps z0 s) :
    Keeps z0 (State.freeSems s m) := by
  unfold State.freeSems
  try dsimp only
  repeat' (first | with_reducible assumption | with_reducible apply State.setSem_keeps | with_reducible apply keeps_ite | with_reducible apply keeps_foldl | fail_if_no_progress (with_reducible apply keeps_other) | with_reducible apply keeps_dropRegs | with_reducible apply keeps_dropMem | with_reducible apply keeps_dropBoth | (intro _; intros) | (refine keeps_of_some (by with_reducible assumption) ?_) | (refine keeps_of_fst (by with_reducible assumption) ?_) | split)

theorem execHeartbeatLoss_keeps {z0 : State} (lost : Nat) {s : State}  (hK : Keeps z0 s) :
    KeepsOut z0 (execHeartbeatLoss lost s) := by
  unfold execHeartbeatLoss
  try dsimp only
  repeat' (first | with_reducible assumption | with_reducible apply State.freeSems_keeps | with_reducible apply State.farFails_keeps | with_reducible apply State.declare_keeps | with_reducible apply State.count_keeps | with_reducible apply State.raise_keeps | with_reducible apply State.useFresh_keeps | with_reducible apply State.put_keeps | with_reducible apply keeps_ite | with_reducible apply keeps_foldl | with_reducible apply keepsOut_next | with_reducible apply keepsOut_ite | fail_if_no_progress (with_reducible apply keeps_other) | with_reducible apply keeps_dropRegs | with_reducible apply keeps_dropMem | with_reducible apply keeps_dropBoth | (intro _; intros) | (refine keeps_of_some (by with_reducible assumption) ?_) | (refine keeps_of_fst (by with_reducible assumption) ?_) | split)

theorem execFerryBadFrame_keeps {z0 : State} {s : State}  (hK : Keeps z0 s) :
    KeepsOut z0 (execFerryBadFrame s) := by
  unfold execFerryBadFrame
  try dsimp only
  repeat' (first | with_reducible assumption | with_reducible apply State.count_keeps | with_reducible apply State.raise_keeps | with_reducible apply keeps_ite | with_reducible apply keeps_foldl | with_reducible apply keepsOut_next | with_reducible apply keepsOut_ite | fail_if_no_progress (with_reducible apply keeps_other) | with_reducible apply keeps_dropRegs | with_reducible apply keeps_dropMem | with_reducible apply keeps_dropBoth | (intro _; intros) | (refine keeps_of_some (by with_reducible assumption) ?_) | (refine keeps_of_fst (by with_reducible assumption) ?_) | split)

theorem execFerryEventFrame_keeps {z0 : State} (e : Fin 128) {s : State}  (hK : Keeps z0 s) :
    KeepsOut z0 (execFerryEventFrame e s) := by
  unfold execFerryEventFrame
  try dsimp only
  repeat' (first | with_reducible assumption | with_reducible apply State.raise_keeps | with_reducible apply State.put_keeps | with_reducible apply keeps_ite | with_reducible apply keeps_foldl | with_reducible apply keepsOut_next | with_reducible apply keepsOut_ite | fail_if_no_progress (with_reducible apply keeps_other) | with_reducible apply keeps_dropRegs | with_reducible apply keeps_dropMem | with_reducible apply keeps_dropBoth | (intro _; intros) | (refine keeps_of_some (by with_reducible assumption) ?_) | (refine keeps_of_fst (by with_reducible assumption) ?_) | split)

theorem State.pairServe_keeps {z0 : State} {s : State} (ph : Fin 8) (op : Nat) (tag : BitVec 8) (body : State → State × List Word) (hbody : ∀ y, Keeps z0 y → Keeps z0 (body y).1) (hK : Keeps z0 s) :
    Keeps z0 (State.pairServe s ph op tag body) := by
  unfold State.pairServe
  try dsimp only
  repeat' (first | with_reducible assumption | with_reducible apply hbody | with_reducible apply State.serve_keeps | with_reducible apply State.reply_keeps | with_reducible apply keeps_ite | with_reducible apply keeps_foldl | fail_if_no_progress (with_reducible apply keeps_other) | with_reducible apply keeps_dropRegs | with_reducible apply keeps_dropMem | with_reducible apply keeps_dropBoth | (intro _; intros) | (refine keeps_of_some (by with_reducible assumption) ?_) | (refine keeps_of_fst (by with_reducible assumption) ?_) | split)

theorem execPrStatus_keeps {z0 : State} (ph : Fin 8) (tag : BitVec 8) (a_args : List Word) {s : State}  (hK : Keeps z0 s) :
    KeepsOut z0 (execPrStatus ph tag a_args s) := by
  unfold execPrStatus
  try dsimp only
  repeat' (first | with_reducible assumption | with_reducible apply State.pairServe_keeps | with_reducible apply keeps_ite | with_reducible apply keeps_foldl | with_reducible apply keepsOut_next | with_reducible apply keepsOut_ite | fail_if_no_progress (with_reducible apply keeps_other) | with_reducible apply keeps_dropRegs | with_reducible apply keeps_dropMem | with_reducible apply keeps_dropBoth | (intro _; intros) | (refine keeps_of_some (by with_reducible assumption) ?_) | (refine keeps_of_fst (by with_reducible assumption) ?_) | split)

theorem State.handOver_keeps {z0 : State} {s : State} (e : BitVec 64)  (hK : Keeps z0 s) :
    Keeps z0 (State.handOver s e) := by
  unfold State.handOver
  try dsimp only
  repeat' (first | with_reducible assumption | with_reducible apply State.handover_keeps | with_reducible apply State.sendFrame_keeps | with_reducible apply State.wr_keeps | with_reducible apply keeps_ite | with_reducible apply keeps_foldl | fail_if_no_progress (with_reducible apply keeps_other) | with_reducible apply keeps_dropRegs | with_reducible apply keeps_dropMem | with_reducible apply keeps_dropBoth | (intro _; intros) | (refine keeps_of_some (by with_reducible assumption) ?_) | (refine keeps_of_fst (by with_reducible assumption) ?_) | split)

theorem execPrHandover_keeps {z0 : State} (ph : Fin 8) (tag : BitVec 8) (args : List Word) (partner : Word) {s : State}  (hK : Keeps z0 s) :
    KeepsOut z0 (execPrHandover ph tag args partner s) := by
  unfold execPrHandover
  try dsimp only
  repeat' (first | with_reducible assumption | with_reducible apply State.handOver_keeps | with_reducible apply State.pairServe_keeps | with_reducible apply keeps_ite | with_reducible apply keeps_foldl | with_reducible apply keepsOut_next | with_reducible apply keepsOut_ite | with_reducible apply keepsOpt_getD | fail_if_no_progress (with_reducible apply keeps_other) | with_reducible apply keeps_dropRegs | with_reducible apply keeps_dropMem | with_reducible apply keeps_dropBoth | (intro _; intros) | (refine keeps_of_some (by with_reducible assumption) ?_) | (refine keeps_of_fst (by with_reducible assumption) ?_) | split)

theorem execHandoverRelease_keeps {z0 : State} {s : State}  (hK : Keeps z0 s) :
    KeepsOut z0 (execHandoverRelease s) := by
  unfold execHandoverRelease
  try dsimp only
  repeat' (first | with_reducible assumption | with_reducible apply State.letGo_keeps | with_reducible apply State.handover_keeps | with_reducible apply State.advanceTo_keeps | with_reducible apply keeps_ite | with_reducible apply keeps_foldl | with_reducible apply keepsOut_next | with_reducible apply keepsOut_ite | fail_if_no_progress (with_reducible apply keeps_other) | with_reducible apply keeps_dropRegs | with_reducible apply keeps_dropMem | with_reducible apply keeps_dropBoth | (intro _; intros) | (refine keeps_of_some (by with_reducible assumption) ?_) | (refine keeps_of_fst (by with_reducible assumption) ?_) | split)

theorem execHandoverEpoch_keeps {z0 : State} {s : State}  (hK : Keeps z0 s) :
    KeepsOut z0 (execHandoverEpoch s) := by
  unfold execHandoverEpoch
  try dsimp only
  repeat' (first | with_reducible assumption | with_reducible apply State.handover_keeps | with_reducible apply State.advanceTo_keeps | with_reducible apply keeps_ite | with_reducible apply keeps_foldl | with_reducible apply keepsOut_next | with_reducible apply keepsOut_ite | fail_if_no_progress (with_reducible apply keeps_other) | with_reducible apply keeps_dropRegs | with_reducible apply keeps_dropMem | with_reducible apply keeps_dropBoth | (intro _; intros) | (refine keeps_of_some (by with_reducible assumption) ?_) | (refine keeps_of_fst (by with_reducible assumption) ?_) | split)

theorem execPrTake_keeps {z0 : State} (ph : Fin 8) (tag : BitVec 8) (a_args : List Word) {s : State}  (hK : Keeps z0 s) :
    KeepsOut z0 (execPrTake ph tag a_args s) := by
  unfold execPrTake
  try dsimp only
  repeat' (first | with_reducible assumption | with_reducible apply State.pairServe_keeps | with_reducible apply State.put_keeps | with_reducible apply keeps_ite | with_reducible apply keeps_foldl | with_reducible apply keepsOut_next | with_reducible apply keepsOut_ite | fail_if_no_progress (with_reducible apply keeps_other) | with_reducible apply keeps_dropRegs | with_reducible apply keeps_dropMem | with_reducible apply keeps_dropBoth | (intro _; intros) | (refine keeps_of_some (by with_reducible assumption) ?_) | (refine keeps_of_fst (by with_reducible assumption) ?_) | split)

theorem execPrResync_keeps {z0 : State} (ph : Fin 8) (tag : BitVec 8) (a_args : List Word) {s : State}  (hK : Keeps z0 s) :
    KeepsOut z0 (execPrResync ph tag a_args s) := by
  unfold execPrResync
  try dsimp only
  repeat' (first | with_reducible assumption | with_reducible apply State.pairServe_keeps | with_reducible apply State.resyncStart_keeps | with_reducible apply keeps_ite | with_reducible apply keeps_foldl | with_reducible apply keepsOut_next | with_reducible apply keepsOut_ite | fail_if_no_progress (with_reducible apply keeps_other) | with_reducible apply keeps_dropRegs | with_reducible apply keeps_dropMem | with_reducible apply keeps_dropBoth | (intro _; intros) | (refine keeps_of_some (by with_reducible assumption) ?_) | (refine keeps_of_fst (by with_reducible assumption) ?_) | split)

theorem State.feedsDark_keeps {z0 : State} {s : State}  (hK : Keeps z0 s) :
    Keeps z0 (State.feedsDark s) := by
  unfold State.feedsDark
  try dsimp only
  repeat' (first | with_reducible assumption | with_reducible apply State.feedOff_keeps | with_reducible apply State.setAx_keeps | with_reducible apply keeps_ite | with_reducible apply keeps_foldl | fail_if_no_progress (with_reducible apply keeps_other) | with_reducible apply keeps_dropRegs | with_reducible apply keeps_dropMem | with_reducible apply keeps_dropBoth | (intro _; intros) | (refine keeps_of_some (by with_reducible assumption) ?_) | (refine keeps_of_fst (by with_reducible assumption) ?_) | split)

theorem State.twcHalt_keeps {z0 : State} {s : State}  (hK : Keeps z0 s) :
    Keeps z0 (State.twcHalt s) := by
  unfold State.twcHalt
  try dsimp only
  repeat' (first | with_reducible assumption | with_reducible apply State.setAx_keeps | with_reducible apply State.put_keeps | with_reducible apply keeps_ite | with_reducible apply keeps_foldl | fail_if_no_progress (with_reducible apply keeps_other) | with_reducible apply keeps_dropRegs | with_reducible apply keeps_dropMem | with_reducible apply keeps_dropBoth | (intro _; intros) | (refine keeps_of_some (by with_reducible assumption) ?_) | (refine keeps_of_fst (by with_reducible assumption) ?_) | split)

theorem State.safeUnit_keeps {z0 : State} {s : State} (w : Nat) (code : Nat)  (hK : Keeps z0 s) :
    Keeps z0 (State.safeUnit s w code) := by
  unfold State.safeUnit
  try dsimp only
  repeat' (first | with_reducible assumption | with_reducible apply State.twcHalt_keeps | with_reducible apply State.withFe_keeps | with_reducible apply State.feedOff_keeps | with_reducible apply State.stopQueue_keeps | with_reducible apply State.markSafe_keeps | with_reducible apply State.setAx_keeps | with_reducible apply keeps_ite | with_reducible apply keeps_foldl | fail_if_no_progress (with_reducible apply keeps_other) | with_reducible apply keeps_dropRegs | with_reducible apply keeps_dropMem | with_reducible apply keeps_dropBoth | (intro _; intros) | (refine keeps_of_some (by with_reducible assumption) ?_) | (refine keeps_of_fst (by with_reducible assumption) ?_) | split)

theorem State.faultUnit_keeps {z0 : State} {s : State} (w : Nat) (code : Nat) (detail : Word)  (hK : Keeps z0 s) :
    Keeps z0 (State.faultUnit s w code detail) := by
  unfold State.faultUnit
  try dsimp only
  repeat' (first | with_reducible assumption | with_reducible apply State.safeUnit_keeps | with_reducible apply State.takeFromScouts_keeps | with_reducible apply State.takeFromScans_keeps | with_reducible apply State.declare_keeps | with_reducible apply keeps_ite | with_reducible apply keeps_foldl | fail_if_no_progress (with_reducible apply keeps_other) | with_reducible apply keeps_dropRegs | with_reducible apply keeps_dropMem | with_reducible apply keeps_dropBoth | (intro _; intros) | (refine keeps_of_some (by with_reducible assumption) ?_) | (refine keeps_of_fst (by with_reducible assumption) ?_) | split)

theorem State.f3Outputs_keeps {z0 : State} {s : State}  (hK : Keeps z0 s) :
    Keeps z0 (State.f3Outputs s) := by
  unfold State.f3Outputs
  try dsimp only
  repeat' (first | with_reducible assumption | with_reducible apply State.twcHalt_keeps | with_reducible apply State.feedsDark_keeps | with_reducible apply State.leadRelease_keeps | with_reducible apply State.outsFollow_keeps | with_reducible apply State.stopQueue_keeps | with_reducible apply State.laneSteer_keeps | with_reducible apply keeps_ite | with_reducible apply keeps_foldl | fail_if_no_progress (with_reducible apply keeps_other) | with_reducible apply keeps_dropRegs | with_reducible apply keeps_dropMem | with_reducible apply keeps_dropBoth | (intro _; intros) | (refine keeps_of_some (by with_reducible assumption) ?_) | (refine keeps_of_fst (by with_reducible assumption) ?_) | split)

theorem State.declareF3_keeps {z0 : State} {s : State} (code : Nat)  (hK : Keeps z0 s) :
    Keeps z0 (State.declareF3 s code) := by
  unfold State.declareF3
  try dsimp only
  repeat' (first | with_reducible assumption | with_reducible apply State.f3Outputs_keeps | with_reducible apply State.abandonJob_keeps | with_reducible apply State.declare_keeps | with_reducible apply keeps_ite | with_reducible apply keeps_foldl | with_reducible apply keepsOut_next | with_reducible apply keepsOut_ite | fail_if_no_progress (with_reducible apply keeps_other) | with_reducible apply keeps_dropRegs | with_reducible apply keeps_dropMem | with_reducible apply keeps_dropBoth | (intro _; intros) | (refine keeps_of_some (by with_reducible assumption) ?_) | (refine keeps_of_fst (by with_reducible assumption) ?_) | split)

theorem execSelfCheckDone_keeps {z0 : State} (w : Fin 1024) (ok : Bool) {s : State}  (hK : Keeps z0 s) :
    KeepsOut z0 (execSelfCheckDone w ok s) := by
  unfold execSelfCheckDone
  try dsimp only
  repeat' (first | with_reducible assumption | with_reducible apply State.withFe_keeps | with_reducible apply State.stopQueue_keeps | with_reducible apply State.markFault_keeps | with_reducible apply State.declare_keeps | with_reducible apply State.setUnit_keeps | with_reducible apply keeps_ite | with_reducible apply keeps_foldl | with_reducible apply keepsOut_next | with_reducible apply keepsOut_ite | fail_if_no_progress (with_reducible apply keeps_other) | with_reducible apply keeps_dropRegs | with_reducible apply keeps_dropMem | with_reducible apply keeps_dropBoth | (intro _; intros) | (refine keeps_of_some (by with_reducible assumption) ?_) | (refine keeps_of_fst (by with_reducible assumption) ?_) | split)

theorem State.thermalF2_keeps {z0 : State} {s : State}  (hK : Keeps z0 s) :
    Keeps z0 (State.thermalF2 s) := by
  unfold State.thermalF2
  try dsimp only
  repeat' (first | with_reducible assumption | with_reducible apply State.safeUnit_keeps | with_reducible apply State.feedsDark_keeps | with_reducible apply State.abandonJob_keeps | with_reducible apply State.scoutTaken_keeps | with_reducible apply State.releaseScans_keeps | with_reducible apply State.declare_keeps | with_reducible apply State.setErr_keeps | with_reducible apply keeps_ite | with_reducible apply keeps_foldl | fail_if_no_progress (with_reducible apply keeps_other) | with_reducible apply keeps_dropRegs | with_reducible apply keeps_dropMem | with_reducible apply keeps_dropBoth | (intro _; intros) | (refine keeps_of_some (by with_reducible assumption) ?_) | (refine keeps_of_fst (by with_reducible assumption) ?_) | split)

theorem State.thermalWarn_keeps {z0 : State} {s : State} (old : Int) (new : Int)  (hK : Keeps z0 s) :
    Keeps z0 (State.thermalWarn s old new) := by
  unfold State.thermalWarn
  try dsimp only
  repeat' (first | with_reducible assumption | with_reducible apply State.count_keeps | with_reducible apply State.raise_keeps | with_reducible apply State.setAx_keeps | with_reducible apply keeps_ite | with_reducible apply keeps_foldl | fail_if_no_progress (with_reducible apply keeps_other) | with_reducible apply keeps_dropRegs | with_reducible apply keeps_dropMem | with_reducible apply keeps_dropBoth | (intro _; intros) | (refine keeps_of_some (by with_reducible assumption) ?_) | (refine keeps_of_fst (by with_reducible assumption) ?_) | split)

theorem State.thermalReading_keeps {z0 : State} {s : State} (t : Int)  (hK : Keeps z0 s) :
    Keeps z0 (State.thermalReading s t) := by
  unfold State.thermalReading
  try dsimp only
  repeat' (first | with_reducible assumption | with_reducible apply State.thermalWarn_keeps | with_reducible apply State.thermalF2_keeps | with_reducible apply State.declareF3_keeps | with_reducible apply State.raise_keeps | with_reducible apply State.putI_keeps | with_reducible apply State.putB_keeps | with_reducible apply keeps_ite | with_reducible apply keeps_foldl | fail_if_no_progress (with_reducible apply keeps_other) | with_reducible apply keeps_dropRegs | with_reducible apply keeps_dropMem | with_reducible apply keeps_dropBoth | (intro _; intros) | (refine keeps_of_some (by with_reducible assumption) ?_) | (refine keeps_of_fst (by with_reducible assumption) ?_) | split)

theorem execThermalReading_keeps {z0 : State} (t : Int) {s : State}  (hK : Keeps z0 s) :
    KeepsOut z0 (execThermalReading t s) := by
  unfold execThermalReading
  try dsimp only
  repeat' (first | with_reducible assumption | with_reducible apply State.thermalReading_keeps | with_reducible apply keeps_ite | with_reducible apply keeps_foldl | with_reducible apply keepsOut_next | with_reducible apply keepsOut_ite | fail_if_no_progress (with_reducible apply keeps_other) | with_reducible apply keeps_dropRegs | with_reducible apply keeps_dropMem | with_reducible apply keeps_dropBoth | (intro _; intros) | (refine keeps_of_some (by with_reducible assumption) ?_) | (refine keeps_of_fst (by with_reducible assumption) ?_) | split)

theorem State.causeGone_keeps {z0 : State} {s : State} (code : Nat)  (hK : Keeps z0 s) :
    Keeps z0 (State.causeGone s code) := by
  unfold State.causeGone
  try dsimp only
  repeat' (first | with_reducible assumption | with_reducible apply State.setUnit_keeps | with_reducible apply keeps_ite | with_reducible apply keeps_foldl | fail_if_no_progress (with_reducible apply keeps_other) | with_reducible apply keeps_dropRegs | with_reducible apply keeps_dropMem | with_reducible apply keeps_dropBoth | (intro _; intros) | (refine keeps_of_some (by with_reducible assumption) ?_) | (refine keeps_of_fst (by with_reducible assumption) ?_) | split)

theorem execThermalRecover_keeps {z0 : State} {s : State}  (hK : Keeps z0 s) :
    KeepsOut z0 (execThermalRecover s) := by
  unfold execThermalRecover
  try dsimp only
  repeat' (first | with_reducible assumption | with_reducible apply State.causeGone_keeps | with_reducible apply State.endFault_keeps | with_reducible apply keeps_ite | with_reducible apply keeps_foldl | with_reducible apply keepsOut_next | with_reducible apply keepsOut_ite | fail_if_no_progress (with_reducible apply keeps_other) | with_reducible apply keeps_dropRegs | with_reducible apply keeps_dropMem | with_reducible apply keeps_dropBoth | (intro _; intros) | (refine keeps_of_some (by with_reducible assumption) ?_) | (refine keeps_of_fst (by with_reducible assumption) ?_) | split)

theorem execBookAudit_keeps {z0 : State} {s : State}  (hK : Keeps z0 s) :
    KeepsOut z0 (execBookAudit s) := by
  unfold execBookAudit
  try dsimp only
  repeat' (first | with_reducible assumption | with_reducible apply State.declareF3_keeps | with_reducible apply State.faultUnit_keeps | with_reducible apply keeps_ite | with_reducible apply keeps_foldl | with_reducible apply keepsOut_next | with_reducible apply keepsOut_ite | fail_if_no_progress (with_reducible apply keeps_other) | with_reducible apply keeps_dropRegs | with_reducible apply keeps_dropMem | with_reducible apply keeps_dropBoth | (intro _; intros) | (refine keeps_of_some (by with_reducible assumption) ?_) | (refine keeps_of_fst (by with_reducible assumption) ?_) | split)

theorem State.logPut_keeps {z0 : State} {s : State} (f : FaultX) (rtc : Word)  (hK : Keeps z0 s) :
    Keeps z0 (State.logPut s f rtc) := by
  unfold State.logPut
  try dsimp only
  repeat' (first | with_reducible assumption | with_reducible apply State.wrWords_keeps | with_reducible apply keeps_ite | with_reducible apply keeps_foldl | fail_if_no_progress (with_reducible apply keeps_other) | with_reducible apply keeps_dropRegs | with_reducible apply keeps_dropMem | with_reducible apply keeps_dropBoth | (intro _; intros) | (refine keeps_of_some (by with_reducible assumption) ?_) | (refine keeps_of_fst (by with_reducible assumption) ?_) | split)

theorem State.logRenew_keeps {z0 : State} {s : State} (rtc : Word)  (hK : Keeps z0 s) :
    Keeps z0 (State.logRenew s rtc) := by
  unfold State.logRenew
  try dsimp only
  repeat' (first | with_reducible assumption | with_reducible apply State.logPut_keeps | with_reducible apply State.wrWords_keeps | with_reducible apply State.wrWord_keeps | with_reducible apply keeps_ite | with_reducible apply keeps_foldl | fail_if_no_progress (with_reducible apply keeps_other) | with_reducible apply keeps_dropRegs | with_reducible apply keeps_dropMem | with_reducible apply keeps_dropBoth | (intro _; intros) | (refine keeps_of_some (by with_reducible assumption) ?_) | (refine keeps_of_fst (by with_reducible assumption) ?_) | split)

theorem State.logPeriod_keeps {z0 : State} {s : State}  (hK : Keeps z0 s) :
    Keeps z0 (State.logPeriod s) := by
  unfold State.logPeriod
  try dsimp only
  repeat' (first | with_reducible assumption | with_reducible apply keeps_ite | with_reducible apply keeps_foldl | fail_if_no_progress (with_reducible apply keeps_other) | with_reducible apply keeps_dropRegs | with_reducible apply keeps_dropMem | with_reducible apply keeps_dropBoth | (intro _; intros) | (refine keeps_of_some (by with_reducible assumption) ?_) | (refine keeps_of_fst (by with_reducible assumption) ?_) | split)

theorem State.logDropped_keeps {z0 : State} {s : State} (rtc : Word)  (hK : Keeps z0 s) :
    Keeps z0 (State.logDropped s rtc) := by
  unfold State.logDropped
  try dsimp only
  repeat' (first | with_reducible assumption | with_reducible apply State.logPut_keeps | with_reducible apply keeps_ite | with_reducible apply keeps_foldl | fail_if_no_progress (with_reducible apply keeps_other) | with_reducible apply keeps_dropRegs | with_reducible apply keeps_dropMem | with_reducible apply keeps_dropBoth | (intro _; intros) | (refine keeps_of_some (by with_reducible assumption) ?_) | (refine keeps_of_fst (by with_reducible assumption) ?_) | split)

theorem State.logEntry_keeps {z0 : State} {s : State} (f : FaultX) (rtc : Word)  (hK : Keeps z0 s) :
    Keeps z0 (State.logEntry s f rtc) := by
  unfold State.logEntry
  try dsimp only
  repeat' (first | with_reducible assumption | with_reducible apply State.logDropped_keeps | with_reducible apply State.logPeriod_keeps | with_reducible apply State.logRenew_keeps | with_reducible apply State.logPut_keeps | with_reducible apply keeps_ite | with_reducible apply keeps_foldl | fail_if_no_progress (with_reducible apply keeps_other) | with_reducible apply keeps_dropRegs | with_reducible apply keeps_dropMem | with_reducible apply keeps_dropBoth | (intro _; intros) | (refine keeps_of_some (by with_reducible assumption) ?_) | (refine keeps_of_fst (by with_reducible assumption) ?_) | split)

theorem execFaultLogWrite_keeps {z0 : State} {s : State}  (hK : Keeps z0 s) :
    KeepsOut z0 (execFaultLogWrite s) := by
  unfold execFaultLogWrite
  try dsimp only
  repeat' (first | with_reducible assumption | with_reducible apply State.logEntry_keeps | with_reducible apply keeps_ite | with_reducible apply keeps_foldl | with_reducible apply keepsOut_next | with_reducible apply keepsOut_ite | fail_if_no_progress (with_reducible apply keeps_other) | with_reducible apply keeps_dropRegs | with_reducible apply keeps_dropMem | with_reducible apply keeps_dropBoth | (intro _; intros) | (refine keeps_of_some (by with_reducible assumption) ?_) | (refine keeps_of_fst (by with_reducible assumption) ?_) | split)

end Sys2Proof.Machine
end

