-- ==== Sys2Proof/Laws/KeepsSupply.lean ====
section
/-! SUPPORT. What every operation of Cores, Supply, Boot, System, Bus, HostPorts, Link keeps: the canonical form, the part and the queue. -/

set_option linter.unusedTactic false
set_option linter.unreachableTactic false

namespace Sys2Proof.Machine

theorem State.setCore_keeps {z0 : State} {s : State} (n : Nat) (v : Nat)  (hK : Keeps z0 s) :
    Keeps z0 (State.setCore s n v) := by
  unfold State.setCore
  try dsimp only
  repeat' (first | with_reducible assumption | with_reducible apply State.put_keeps | with_reducible apply keeps_ite | with_reducible apply keeps_foldl | fail_if_no_progress (with_reducible apply keeps_other) | with_reducible apply keeps_dropRegs | with_reducible apply keeps_dropMem | with_reducible apply keeps_dropBoth | (intro _; intros) | (refine keeps_of_some (by with_reducible assumption) ?_) | (refine keeps_of_fst (by with_reducible assumption) ?_) | split)

theorem State.setFw_keeps {z0 : State} {s : State} (f : Firmware → Firmware)  (hK : Keeps z0 s) :
    Keeps z0 (State.setFw s f) := by
  unfold State.setFw
  try dsimp only
  repeat' (first | with_reducible assumption | with_reducible apply keeps_ite | with_reducible apply keeps_foldl | fail_if_no_progress (with_reducible apply keeps_other) | with_reducible apply keeps_dropRegs | with_reducible apply keeps_dropMem | with_reducible apply keeps_dropBoth | (intro _; intros) | (refine keeps_of_some (by with_reducible assumption) ?_) | (refine keeps_of_fst (by with_reducible assumption) ?_) | split)

theorem State.startMove_keeps {z0 : State} {s : State} (d : Nat) (dst : Nat) (retire : Bool)  (hK : Keeps z0 s) :
    Keeps z0 (State.startMove s d dst retire) := by
  unfold State.startMove
  try dsimp only
  repeat' (first | with_reducible assumption | with_reducible apply State.setFw_keeps | with_reducible apply State.put_keeps | with_reducible apply keeps_ite | with_reducible apply keeps_foldl | fail_if_no_progress (with_reducible apply keeps_other) | with_reducible apply keeps_dropRegs | with_reducible apply keeps_dropMem | with_reducible apply keeps_dropBoth | (intro _; intros) | (refine keeps_of_some (by with_reducible assumption) ?_) | (refine keeps_of_fst (by with_reducible assumption) ?_) | split)

theorem State.dropMove_keeps {z0 : State} {s : State} (d : Nat)  (hK : Keeps z0 s) :
    Keeps z0 (State.dropMove s d) := by
  unfold State.dropMove
  try dsimp only
  repeat' (first | with_reducible assumption | with_reducible apply State.setFw_keeps | with_reducible apply State.put_keeps | with_reducible apply keeps_ite | with_reducible apply keeps_foldl | fail_if_no_progress (with_reducible apply keeps_other) | with_reducible apply keeps_dropRegs | with_reducible apply keeps_dropMem | with_reducible apply keeps_dropBoth | (intro _; intros) | (refine keeps_of_some (by with_reducible assumption) ?_) | (refine keeps_of_fst (by with_reducible assumption) ?_) | split)

theorem State.coreAnswer_keeps {z0 : State} {s : State} (ws : List Word)  (hK : Keeps z0 s) :
    Keeps z0 (State.coreAnswer s ws) := by
  unfold State.coreAnswer
  try dsimp only
  repeat' (first | with_reducible assumption | with_reducible apply State.setFw_keeps | with_reducible apply State.reply_keeps | with_reducible apply keeps_ite | with_reducible apply keeps_foldl | fail_if_no_progress (with_reducible apply keeps_other) | with_reducible apply keeps_dropRegs | with_reducible apply keeps_dropMem | with_reducible apply keeps_dropBoth | (intro _; intros) | (refine keeps_of_some (by with_reducible assumption) ?_) | (refine keeps_of_fst (by with_reducible assumption) ?_) | split)

theorem State.endMove_keeps {z0 : State} {s : State} (m : MoveX)  (hK : Keeps z0 s) :
    Keeps z0 (State.endMove s m) := by
  unfold State.endMove
  try dsimp only
  repeat' (first | with_reducible assumption | with_reducible apply State.dropMove_keeps | with_reducible apply State.setFw_keeps | with_reducible apply State.setCore_keeps | with_reducible apply State.freeSems_keeps | with_reducible apply State.notice_keeps | with_reducible apply State.count_keeps | with_reducible apply State.raise_keeps | with_reducible apply State.put_keeps | with_reducible apply keeps_ite | with_reducible apply keeps_foldl | fail_if_no_progress (with_reducible apply keeps_other) | with_reducible apply keeps_dropRegs | with_reducible apply keeps_dropMem | with_reducible apply keeps_dropBoth | (intro _; intros) | (refine keeps_of_some (by with_reducible assumption) ?_) | (refine keeps_of_fst (by with_reducible assumption) ?_) | split)

theorem State.jobAfterMove_keeps {z0 : State} {s : State} (m : MoveX)  (hK : Keeps z0 s) :
    Keeps z0 (State.jobAfterMove s m) := by
  unfold State.jobAfterMove
  try dsimp only
  repeat' (first | with_reducible assumption | with_reducible apply State.coreAnswer_keeps | with_reducible apply State.setFw_keeps | with_reducible apply State.setCore_keeps | with_reducible apply State.put_keeps | with_reducible apply keeps_ite | with_reducible apply keeps_foldl | fail_if_no_progress (with_reducible apply keeps_other) | with_reducible apply keeps_dropRegs | with_reducible apply keeps_dropMem | with_reducible apply keeps_dropBoth | (intro _; intros) | (refine keeps_of_some (by with_reducible assumption) ?_) | (refine keeps_of_fst (by with_reducible assumption) ?_) | split)

theorem execMigrationComplete_keeps {z0 : State} (d : Fin 4) {s : State}  (hK : Keeps z0 s) :
    KeepsOut z0 (execMigrationComplete d s) := by
  unfold execMigrationComplete
  try dsimp only
  repeat' (first | with_reducible assumption | with_reducible apply State.jobAfterMove_keeps | with_reducible apply State.endMove_keeps | with_reducible apply keeps_ite | with_reducible apply keeps_foldl | with_reducible apply keepsOut_next | with_reducible apply keepsOut_ite | fail_if_no_progress (with_reducible apply keeps_other) | with_reducible apply keeps_dropRegs | with_reducible apply keeps_dropMem | with_reducible apply keeps_dropBoth | (intro _; intros) | (refine keeps_of_some (by with_reducible assumption) ?_) | (refine keeps_of_fst (by with_reducible assumption) ?_) | split)

theorem execCoreStartDone_keeps {z0 : State} (core : Fin 5) {s : State}  (hK : Keeps z0 s) :
    KeepsOut z0 (execCoreStartDone core s) := by
  unfold execCoreStartDone
  try dsimp only
  repeat' (first | with_reducible assumption | with_reducible apply State.coreAnswer_keeps | with_reducible apply State.startMove_keeps | with_reducible apply State.setCore_keeps | with_reducible apply keeps_ite | with_reducible apply keeps_foldl | with_reducible apply keepsOut_next | with_reducible apply keepsOut_ite | fail_if_no_progress (with_reducible apply keeps_other) | with_reducible apply keeps_dropRegs | with_reducible apply keeps_dropMem | with_reducible apply keeps_dropBoth | (intro _; intros) | (refine keeps_of_some (by with_reducible assumption) ?_) | (refine keeps_of_fst (by with_reducible assumption) ?_) | split)

theorem execShadowCopy_keeps {z0 : State} {s : State}  (hK : Keeps z0 s) :
    KeepsOut z0 (execShadowCopy s) := by
  unfold execShadowCopy
  try dsimp only
  repeat' (first | with_reducible assumption | with_reducible apply State.setFw_keeps | with_reducible apply keeps_ite | with_reducible apply keeps_foldl | with_reducible apply keepsOut_next | with_reducible apply keepsOut_ite | fail_if_no_progress (with_reducible apply keeps_other) | with_reducible apply keeps_dropRegs | with_reducible apply keeps_dropMem | with_reducible apply keeps_dropBoth | (intro _; intros) | (refine keeps_of_some (by with_reducible assumption) ?_) | (refine keeps_of_fst (by with_reducible assumption) ?_) | split)

theorem State.placeDuties_keeps {z0 : State} {s : State} (n : Nat)  (hK : Keeps z0 s) :
    Keeps z0 (State.placeDuties s n) := by
  unfold State.placeDuties
  try dsimp only
  repeat' (first | with_reducible assumption | with_reducible apply State.startMove_keeps | with_reducible apply State.setFw_keeps | with_reducible apply State.declareF3_keeps | with_reducible apply keeps_ite | with_reducible apply keeps_foldl | fail_if_no_progress (with_reducible apply keeps_other) | with_reducible apply keeps_dropRegs | with_reducible apply keeps_dropMem | with_reducible apply keeps_dropBoth | (intro _; intros) | (refine keeps_of_some (by with_reducible assumption) ?_) | (refine keeps_of_fst (by with_reducible assumption) ?_) | split)

theorem State.lostCommands_keeps {z0 : State} {s : State}  (hK : Keeps z0 s) :
    Keeps z0 (State.lostCommands s) := by
  unfold State.lostCommands
  try dsimp only
  repeat' (first | with_reducible assumption | with_reducible apply State.coreAnswer_keeps | with_reducible apply State.abandonJob_keeps | with_reducible apply State.reply_keeps | with_reducible apply keeps_ite | with_reducible apply keeps_foldl | fail_if_no_progress (with_reducible apply keeps_other) | with_reducible apply keeps_dropRegs | with_reducible apply keeps_dropMem | with_reducible apply keeps_dropBoth | (intro _; intros) | (refine keeps_of_some (by with_reducible assumption) ?_) | (refine keeps_of_fst (by with_reducible assumption) ?_) | split)

theorem State.lostTarget_keeps {z0 : State} {s : State} (n : Nat)  (hK : Keeps z0 s) :
    Keeps z0 (State.lostTarget s n) := by
  unfold State.lostTarget
  try dsimp only
  repeat' (first | with_reducible assumption | with_reducible apply State.coreAnswer_keeps | with_reducible apply State.dropMove_keeps | with_reducible apply keeps_ite | with_reducible apply keeps_foldl | fail_if_no_progress (with_reducible apply keeps_other) | with_reducible apply keeps_dropRegs | with_reducible apply keeps_dropMem | with_reducible apply keeps_dropBoth | (intro _; intros) | (refine keeps_of_some (by with_reducible assumption) ?_) | (refine keeps_of_fst (by with_reducible assumption) ?_) | split)

theorem State.coreFault_keeps {z0 : State} {s : State} (n : Nat)  (hK : Keeps z0 s) :
    Keeps z0 (State.coreFault s n) := by
  unfold State.coreFault
  try dsimp only
  repeat' (first | with_reducible assumption | with_reducible apply State.lostTarget_keeps | with_reducible apply State.lostCommands_keeps | with_reducible apply State.placeDuties_keeps | with_reducible apply State.setCore_keeps | with_reducible apply State.declareF0_keeps | with_reducible apply keeps_ite | with_reducible apply keeps_foldl | fail_if_no_progress (with_reducible apply keeps_other) | with_reducible apply keeps_dropRegs | with_reducible apply keeps_dropMem | with_reducible apply keeps_dropBoth | (intro _; intros) | (refine keeps_of_some (by with_reducible assumption) ?_) | (refine keeps_of_fst (by with_reducible assumption) ?_) | split)

theorem execWatchdogExpired_keeps {z0 : State} (core : Fin 5) {s : State}  (hK : Keeps z0 s) :
    KeepsOut z0 (execWatchdogExpired core s) := by
  unfold execWatchdogExpired
  try dsimp only
  repeat' (first | with_reducible assumption | with_reducible apply State.coreFault_keeps | with_reducible apply State.count_keeps | with_reducible apply State.raise_keeps | with_reducible apply State.put_keeps | with_reducible apply keeps_ite | with_reducible apply keeps_foldl | with_reducible apply keepsOut_next | with_reducible apply keepsOut_ite | fail_if_no_progress (with_reducible apply keeps_other) | with_reducible apply keeps_dropRegs | with_reducible apply keeps_dropMem | with_reducible apply keeps_dropBoth | (intro _; intros) | (refine keeps_of_some (by with_reducible assumption) ?_) | (refine keeps_of_fst (by with_reducible assumption) ?_) | split)

theorem State.coreServe_keeps {z0 : State} {s : State} (ph : Fin 8) (op : Nat) (tag : BitVec 8) (body : State → State) (hbody : ∀ y, Keeps z0 y → Keeps z0 (body y)) (hK : Keeps z0 s) :
    Keeps z0 (State.coreServe s ph op tag body) := by
  unfold State.coreServe
  try dsimp only
  repeat' (first | with_reducible assumption | with_reducible apply hbody | with_reducible apply State.serve_keeps | with_reducible apply State.reply_keeps | with_reducible apply keeps_ite | with_reducible apply keeps_foldl | fail_if_no_progress (with_reducible apply keeps_other) | with_reducible apply keeps_dropRegs | with_reducible apply keeps_dropMem | with_reducible apply keeps_dropBoth | (intro _; intros) | (refine keeps_of_some (by with_reducible assumption) ?_) | (refine keeps_of_fst (by with_reducible assumption) ?_) | split)

theorem State.coreBegin_keeps {z0 : State} {s : State} (ph : Fin 8) (op : Nat) (tag : BitVec 8) (slot : Nat)  (hK : Keeps z0 s) :
    Keeps z0 (State.coreBegin s ph op tag slot) := by
  unfold State.coreBegin
  try dsimp only
  repeat' (first | with_reducible assumption | with_reducible apply State.setFw_keeps | with_reducible apply keeps_ite | with_reducible apply keeps_foldl | fail_if_no_progress (with_reducible apply keeps_other) | with_reducible apply keeps_dropRegs | with_reducible apply keeps_dropMem | with_reducible apply keeps_dropBoth | (intro _; intros) | (refine keeps_of_some (by with_reducible assumption) ?_) | (refine keeps_of_fst (by with_reducible assumption) ?_) | split)

theorem execCoreStatus_keeps {z0 : State} (ph : Fin 8) (tag : BitVec 8) (a_args : List Word) {s : State}  (hK : Keeps z0 s) :
    KeepsOut z0 (execCoreStatus ph tag a_args s) := by
  unfold execCoreStatus
  try dsimp only
  repeat' (first | with_reducible assumption | with_reducible apply State.coreServe_keeps | with_reducible apply State.reply_keeps | with_reducible apply keeps_ite | with_reducible apply keeps_foldl | with_reducible apply keepsOut_next | with_reducible apply keepsOut_ite | fail_if_no_progress (with_reducible apply keeps_other) | with_reducible apply keeps_dropRegs | with_reducible apply keeps_dropMem | with_reducible apply keeps_dropBoth | (intro _; intros) | (refine keeps_of_some (by with_reducible assumption) ?_) | (refine keeps_of_fst (by with_reducible assumption) ?_) | split)

theorem execCoreRetire_keeps {z0 : State} (ph : Fin 8) (tag : BitVec 8) (args : List Word) {s : State}  (hK : Keeps z0 s) :
    KeepsOut z0 (execCoreRetire ph tag args s) := by
  unfold execCoreRetire
  try dsimp only
  repeat' (first | with_reducible assumption | with_reducible apply State.coreBegin_keeps | with_reducible apply State.coreServe_keeps | with_reducible apply State.startMove_keeps | with_reducible apply State.reply_keeps | with_reducible apply keeps_ite | with_reducible apply keeps_foldl | with_reducible apply keepsOut_next | with_reducible apply keepsOut_ite | fail_if_no_progress (with_reducible apply keeps_other) | with_reducible apply keeps_dropRegs | with_reducible apply keeps_dropMem | with_reducible apply keeps_dropBoth | (intro _; intros) | (refine keeps_of_some (by with_reducible assumption) ?_) | (refine keeps_of_fst (by with_reducible assumption) ?_) | split)

theorem execCoreRestore_keeps {z0 : State} (ph : Fin 8) (tag : BitVec 8) (args : List Word) {s : State}  (hK : Keeps z0 s) :
    KeepsOut z0 (execCoreRestore ph tag args s) := by
  unfold execCoreRestore
  try dsimp only
  repeat' (first | with_reducible assumption | with_reducible apply State.coreBegin_keeps | with_reducible apply State.coreServe_keeps | with_reducible apply State.setCore_keeps | with_reducible apply State.reply_keeps | with_reducible apply State.put_keeps | with_reducible apply keeps_ite | with_reducible apply keeps_foldl | with_reducible apply keepsOut_next | with_reducible apply keepsOut_ite | fail_if_no_progress (with_reducible apply keeps_other) | with_reducible apply keeps_dropRegs | with_reducible apply keeps_dropMem | with_reducible apply keeps_dropBoth | (intro _; intros) | (refine keeps_of_some (by with_reducible assumption) ?_) | (refine keeps_of_fst (by with_reducible assumption) ?_) | split)

theorem execCoreMigrate_keeps {z0 : State} (ph : Fin 8) (tag : BitVec 8) (args : List Word) {s : State}  (hK : Keeps z0 s) :
    KeepsOut z0 (execCoreMigrate ph tag args s) := by
  unfold execCoreMigrate
  try dsimp only
  repeat' (first | with_reducible assumption | with_reducible apply State.coreBegin_keeps | with_reducible apply State.coreServe_keeps | with_reducible apply State.startMove_keeps | with_reducible apply State.reply_keeps | with_reducible apply keeps_ite | with_reducible apply keeps_foldl | with_reducible apply keepsOut_next | with_reducible apply keepsOut_ite | fail_if_no_progress (with_reducible apply keeps_other) | with_reducible apply keeps_dropRegs | with_reducible apply keeps_dropMem | with_reducible apply keeps_dropBoth | (intro _; intros) | (refine keeps_of_some (by with_reducible assumption) ?_) | (refine keeps_of_fst (by with_reducible assumption) ?_) | split)

theorem execFwVerify_keeps {z0 : State} (ph : Fin 8) (tag : BitVec 8) (args : List Word) {s : State}  (hK : Keeps z0 s) :
    KeepsOut z0 (execFwVerify ph tag args s) := by
  unfold execFwVerify
  try dsimp only
  repeat' (first | with_reducible assumption | with_reducible apply State.coreServe_keeps | with_reducible apply State.reply_keeps | with_reducible apply keeps_ite | with_reducible apply keeps_foldl | with_reducible apply keepsOut_next | with_reducible apply keepsOut_ite | fail_if_no_progress (with_reducible apply keeps_other) | with_reducible apply keeps_dropRegs | with_reducible apply keeps_dropMem | with_reducible apply keeps_dropBoth | (intro _; intros) | (refine keeps_of_some (by with_reducible assumption) ?_) | (refine keeps_of_fst (by with_reducible assumption) ?_) | split)

theorem execFwActivate_keeps {z0 : State} (ph : Fin 8) (tag : BitVec 8) (args : List Word) {s : State}  (hK : Keeps z0 s) :
    KeepsOut z0 (execFwActivate ph tag args s) := by
  unfold execFwActivate
  try dsimp only
  repeat' (first | with_reducible assumption | with_reducible apply State.coreBegin_keeps | with_reducible apply State.coreServe_keeps | with_reducible apply State.setCore_keeps | with_reducible apply State.reply_keeps | with_reducible apply State.put_keeps | with_reducible apply keeps_ite | with_reducible apply keeps_foldl | with_reducible apply keepsOut_next | with_reducible apply keepsOut_ite | fail_if_no_progress (with_reducible apply keeps_other) | with_reducible apply keeps_dropRegs | with_reducible apply keeps_dropMem | with_reducible apply keeps_dropBoth | (intro _; intros) | (refine keeps_of_some (by with_reducible assumption) ?_) | (refine keeps_of_fst (by with_reducible assumption) ?_) | split)

theorem execFwRollDone_keeps {z0 : State} {s : State}  (hK : Keeps z0 s) :
    KeepsOut z0 (execFwRollDone s) := by
  unfold execFwRollDone
  try dsimp only
  repeat' (first | with_reducible assumption | with_reducible apply State.coreAnswer_keeps | with_reducible apply State.setFw_keeps | with_reducible apply State.setCore_keeps | with_reducible apply State.raise_keeps | with_reducible apply State.put_keeps | with_reducible apply keeps_ite | with_reducible apply keeps_foldl | with_reducible apply keepsOut_next | with_reducible apply keepsOut_ite | fail_if_no_progress (with_reducible apply keeps_other) | with_reducible apply keeps_dropRegs | with_reducible apply keeps_dropMem | with_reducible apply keeps_dropBoth | (intro _; intros) | (refine keeps_of_some (by with_reducible assumption) ?_) | (refine keeps_of_fst (by with_reducible assumption) ?_) | split)

theorem execUpdSetBoot_keeps {z0 : State} (ph : Fin 8) (tag : BitVec 8) (args : List Word) {s : State}  (hK : Keeps z0 s) :
    KeepsOut z0 (execUpdSetBoot ph tag args s) := by
  unfold execUpdSetBoot
  try dsimp only
  repeat' (first | with_reducible assumption | with_reducible apply State.coreServe_keeps | with_reducible apply State.reply_keeps | with_reducible apply State.put_keeps | with_reducible apply keeps_ite | with_reducible apply keeps_foldl | with_reducible apply keepsOut_next | with_reducible apply keepsOut_ite | fail_if_no_progress (with_reducible apply keeps_other) | with_reducible apply keeps_dropRegs | with_reducible apply keeps_dropMem | with_reducible apply keeps_dropBoth | (intro _; intros) | (refine keeps_of_some (by with_reducible assumption) ?_) | (refine keeps_of_fst (by with_reducible assumption) ?_) | split)

theorem State.putSection_keeps {z0 : State} {s : State} (fe : Nat) (sect : List Byte)  (hK : Keeps z0 s) :
    Keeps z0 (State.putSection s fe sect) := by
  unfold State.putSection
  try dsimp only
  repeat' (first | with_reducible assumption | with_reducible apply State.calHeader_keeps | with_reducible apply State.wrBytes_keeps | with_reducible apply State.wrByte_keeps | with_reducible apply State.useFresh_keeps | with_reducible apply keeps_ite | with_reducible apply keeps_foldl | fail_if_no_progress (with_reducible apply keeps_other) | with_reducible apply keeps_dropRegs | with_reducible apply keeps_dropMem | with_reducible apply keeps_dropBoth | (intro _; intros) | (refine keeps_of_some (by with_reducible assumption) ?_) | (refine keeps_of_fst (by with_reducible assumption) ?_) | split)

theorem execCalRestore_keeps {z0 : State} (ph : Fin 8) (tag : BitVec 8) (args : List Word) {s : State}  (hK : Keeps z0 s) :
    KeepsOut z0 (execCalRestore ph tag args s) := by
  unfold execCalRestore
  try dsimp only
  repeat' (first | with_reducible assumption | with_reducible apply State.putSection_keeps | with_reducible apply State.coreServe_keeps | with_reducible apply State.reply_keeps | with_reducible apply keeps_ite | with_reducible apply keeps_foldl | with_reducible apply keepsOut_next | with_reducible apply keepsOut_ite | fail_if_no_progress (with_reducible apply keeps_other) | with_reducible apply keeps_dropRegs | with_reducible apply keeps_dropMem | with_reducible apply keeps_dropBoth | (intro _; intros) | (refine keeps_of_some (by with_reducible assumption) ?_) | (refine keeps_of_fst (by with_reducible assumption) ?_) | split)

theorem State.setMapByte_keeps {z0 : State} {s : State} (off : Nat) (i : Nat) (v : Nat)  (hK : Keeps z0 s) :
    Keeps z0 (State.setMapByte s off i v) := by
  unfold State.setMapByte
  try dsimp only
  repeat' (first | with_reducible assumption | with_reducible apply State.wr_keeps | with_reducible apply keeps_ite | with_reducible apply keeps_foldl | fail_if_no_progress (with_reducible apply keeps_other) | with_reducible apply keeps_dropRegs | with_reducible apply keeps_dropMem | with_reducible apply keeps_dropBoth | (intro _; intros) | (refine keeps_of_some (by with_reducible assumption) ?_) | (refine keeps_of_fst (by with_reducible assumption) ?_) | split)

theorem execUnitReplace_keeps {z0 : State} (ph : Fin 8) (tag : BitVec 8) (args : List Word) {s : State}  (hK : Keeps z0 s) :
    KeepsOut z0 (execUnitReplace ph tag args s) := by
  unfold execUnitReplace
  try dsimp only
  repeat' (first | with_reducible assumption | with_reducible apply State.setMapByte_keeps | with_reducible apply State.coreServe_keeps | with_reducible apply State.reply_keeps | with_reducible apply keeps_ite | with_reducible apply keeps_foldl | with_reducible apply keepsOut_next | with_reducible apply keepsOut_ite | fail_if_no_progress (with_reducible apply keeps_other) | with_reducible apply keeps_dropRegs | with_reducible apply keeps_dropMem | with_reducible apply keeps_dropBoth | (intro _; intros) | (refine keeps_of_some (by with_reducible assumption) ?_) | (refine keeps_of_fst (by with_reducible assumption) ?_) | split)

theorem State.setNv_keeps {z0 : State} {s : State} (f : NvX → NvX)  (hK : Keeps z0 s) :
    Keeps z0 (State.setNv s f) := by
  unfold State.setNv
  try dsimp only
  repeat' (first | with_reducible assumption | with_reducible apply keeps_ite | with_reducible apply keeps_foldl | fail_if_no_progress (with_reducible apply keeps_other) | with_reducible apply keeps_dropRegs | with_reducible apply keeps_dropMem | with_reducible apply keeps_dropBoth | (intro _; intros) | (refine keeps_of_some (by with_reducible assumption) ?_) | (refine keeps_of_fst (by with_reducible assumption) ?_) | split)

theorem State.nvCtl_keeps {z0 : State} {s : State} (v : Word)  (hK : Keeps z0 s) :
    Keeps z0 (State.nvCtl s v) := by
  unfold State.nvCtl
  try dsimp only
  repeat' (first | with_reducible assumption | with_reducible apply State.setNv_keeps | with_reducible apply State.wr_keeps | with_reducible apply keeps_ite | with_reducible apply keeps_foldl | fail_if_no_progress (with_reducible apply keeps_other) | with_reducible apply keeps_dropRegs | with_reducible apply keeps_dropMem | with_reducible apply keeps_dropBoth | (intro _; intros) | (refine keeps_of_some (by with_reducible assumption) ?_) | (refine keeps_of_fst (by with_reducible assumption) ?_) | split)

theorem State.nvEnd_keeps {z0 : State} {s : State} (aborted : Bool) (code : Nat)  (hK : Keeps z0 s) :
    Keeps z0 (State.nvEnd s aborted code) := by
  unfold State.nvEnd
  try dsimp only
  repeat' (first | with_reducible assumption | with_reducible apply State.setNv_keeps | with_reducible apply State.wr_keeps | with_reducible apply keeps_ite | with_reducible apply keeps_foldl | fail_if_no_progress (with_reducible apply keeps_other) | with_reducible apply keeps_dropRegs | with_reducible apply keeps_dropMem | with_reducible apply keeps_dropBoth | (intro _; intros) | (refine keeps_of_some (by with_reducible assumption) ?_) | (refine keeps_of_fst (by with_reducible assumption) ?_) | split)

theorem State.writeNvCtl_keeps {z0 : State} {s : State} (m : Nat) (v : Word)  (hK : Keeps z0 s) :
    Keeps z0 (State.writeNvCtl s m v) := by
  unfold State.writeNvCtl
  try dsimp only
  repeat' (first | with_reducible assumption | with_reducible apply State.nvCtl_keeps | with_reducible apply State.guarded_keeps | with_reducible apply keeps_ite | with_reducible apply keeps_foldl | fail_if_no_progress (with_reducible apply keeps_other) | with_reducible apply keeps_dropRegs | with_reducible apply keeps_dropMem | with_reducible apply keeps_dropBoth | (intro _; intros) | (refine keeps_of_some (by with_reducible assumption) ?_) | (refine keeps_of_fst (by with_reducible assumption) ?_) | split)

theorem execNvGo_keeps {z0 : State} (m : Master) {s : State}  (hK : Keeps z0 s) :
    KeepsOut z0 (execNvGo m s) := by
  unfold execNvGo
  try dsimp only
  repeat' (first | with_reducible assumption | with_reducible apply State.writeNvCtl_keeps | with_reducible apply keeps_ite | with_reducible apply keeps_foldl | with_reducible apply keepsOut_next | with_reducible apply keepsOut_ite | fail_if_no_progress (with_reducible apply keeps_other) | with_reducible apply keeps_dropRegs | with_reducible apply keeps_dropMem | with_reducible apply keeps_dropBoth | (intro _; intros) | (refine keeps_of_some (by with_reducible assumption) ?_) | (refine keeps_of_fst (by with_reducible assumption) ?_) | split)

theorem execNvAbort_keeps {z0 : State} (m : Master) {s : State}  (hK : Keeps z0 s) :
    KeepsOut z0 (execNvAbort m s) := by
  unfold execNvAbort
  try dsimp only
  repeat' (first | with_reducible assumption | with_reducible apply State.writeNvCtl_keeps | with_reducible apply keeps_ite | with_reducible apply keeps_foldl | with_reducible apply keepsOut_next | with_reducible apply keepsOut_ite | fail_if_no_progress (with_reducible apply keeps_other) | with_reducible apply keeps_dropRegs | with_reducible apply keeps_dropMem | with_reducible apply keeps_dropBoth | (intro _; intros) | (refine keeps_of_some (by with_reducible assumption) ?_) | (refine keeps_of_fst (by with_reducible assumption) ?_) | split)

theorem execNvPageWritten_keeps {z0 : State} (ok : Bool) {s : State}  (hK : Keeps z0 s) :
    KeepsOut z0 (execNvPageWritten ok s) := by
  unfold execNvPageWritten
  try dsimp only
  repeat' (first | with_reducible assumption | with_reducible apply State.nvEnd_keeps | with_reducible apply State.setNv_keeps | with_reducible apply State.count_keeps | with_reducible apply State.raise_keeps | with_reducible apply State.wrWord_keeps | with_reducible apply State.wrBytes_keeps | with_reducible apply State.useFresh_keeps | with_reducible apply keeps_ite | with_reducible apply keeps_foldl | with_reducible apply keepsOut_next | with_reducible apply keepsOut_ite | fail_if_no_progress (with_reducible apply keeps_other) | with_reducible apply keeps_dropRegs | with_reducible apply keeps_dropMem | with_reducible apply keeps_dropBoth | (intro _; intros) | (refine keeps_of_some (by with_reducible assumption) ?_) | (refine keeps_of_fst (by with_reducible assumption) ?_) | split)

theorem execMemoryEccError_keeps {z0 : State} (a : EccArg) {s : State}  (hK : Keeps z0 s) :
    KeepsOut z0 (execMemoryEccError a s) := by
  unfold execMemoryEccError
  try dsimp only
  repeat' (first | with_reducible assumption | with_reducible apply State.coreFault_keeps | with_reducible apply State.declareF3_keeps | with_reducible apply State.faultUnit_keeps | with_reducible apply State.signStart_keeps | with_reducible apply State.gbFree_keeps | with_reducible apply State.declareF0_keeps | with_reducible apply State.raise_keeps | with_reducible apply State.useFresh_keeps | with_reducible apply keeps_ite | with_reducible apply keeps_foldl | with_reducible apply keepsOut_next | with_reducible apply keepsOut_ite | fail_if_no_progress (with_reducible apply keeps_other) | with_reducible apply keeps_dropRegs | with_reducible apply keeps_dropMem | with_reducible apply keeps_dropBoth | (intro _; intros) | (refine keeps_of_some (by with_reducible assumption) ?_) | (refine keeps_of_fst (by with_reducible assumption) ?_) | split)

theorem State.setPower_keeps {z0 : State} {s : State} (f : Power → Power)  (hK : Keeps z0 s) :
    Keeps z0 (State.setPower s f) := by
  unfold State.setPower
  try dsimp only
  repeat' (first | with_reducible assumption | with_reducible apply keeps_ite | with_reducible apply keeps_foldl | fail_if_no_progress (with_reducible apply keeps_other) | with_reducible apply keeps_dropRegs | with_reducible apply keeps_dropMem | with_reducible apply keeps_dropBoth | (intro _; intros) | (refine keeps_of_some (by with_reducible assumption) ?_) | (refine keeps_of_fst (by with_reducible assumption) ?_) | split)

theorem State.dieReset_keeps {z0 : State} {s : State} (die : Nat)  (hK : Keeps z0 s) :
    Keeps z0 (State.dieReset s die) := by
  unfold State.dieReset
  try dsimp only
  repeat' (first | with_reducible assumption | with_reducible apply State.reset_keeps | with_reducible apply keeps_ite | with_reducible apply keeps_foldl | fail_if_no_progress (with_reducible apply keeps_other) | with_reducible apply keeps_dropRegs | with_reducible apply keeps_dropMem | with_reducible apply keeps_dropBoth | (intro _; intros) | (refine keeps_of_some (by with_reducible assumption) ?_) | (refine keeps_of_fst (by with_reducible assumption) ?_) | split)

theorem State.resetFor_keeps {z0 : State} {s : State} (cause : Nat)  (hK : Keeps z0 s) :
    Keeps z0 (State.resetFor s cause) := by
  unfold State.resetFor
  try dsimp only
  repeat' (first | with_reducible assumption | with_reducible apply State.dieReset_keeps | with_reducible apply State.setPower_keeps | with_reducible apply keeps_ite | with_reducible apply keeps_foldl | fail_if_no_progress (with_reducible apply keeps_other) | with_reducible apply keeps_dropRegs | with_reducible apply keeps_dropMem | with_reducible apply keeps_dropBoth | (intro _; intros) | (refine keeps_of_some (by with_reducible assumption) ?_) | (refine keeps_of_fst (by with_reducible assumption) ?_) | split)

theorem State.setBag_keeps {z0 : State} {s : State} (c : Nat) (b : Option BagX)  (hK : Keeps z0 s) :
    Keeps z0 (State.setBag s c b) := by
  unfold State.setBag
  try dsimp only
  repeat' (first | with_reducible assumption | with_reducible apply State.setPower_keeps | with_reducible apply keeps_ite | with_reducible apply keeps_foldl | fail_if_no_progress (with_reducible apply keeps_other) | with_reducible apply keeps_dropRegs | with_reducible apply keeps_dropMem | with_reducible apply keeps_dropBoth | (intro _; intros) | (refine keeps_of_some (by with_reducible assumption) ?_) | (refine keeps_of_fst (by with_reducible assumption) ?_) | split)

theorem State.feInForce_keeps {z0 : State} {s : State} (f : Nat)  (hK : Keeps z0 s) :
    Keeps z0 (State.feInForce s f) := by
  unfold State.feInForce
  try dsimp only
  repeat' (first | with_reducible assumption | with_reducible apply State.put_keeps | with_reducible apply keeps_ite | with_reducible apply keeps_foldl | fail_if_no_progress (with_reducible apply keeps_other) | with_reducible apply keeps_dropRegs | with_reducible apply keeps_dropMem | with_reducible apply keeps_dropBoth | (intro _; intros) | (refine keeps_of_some (by with_reducible assumption) ?_) | (refine keeps_of_fst (by with_reducible assumption) ?_) | split)

theorem State.unstage_keeps {z0 : State} {s0 : State}  (hK : Keeps z0 s0) :
    Keeps z0 (State.unstage s0) := by
  unfold State.unstage
  try dsimp only
  repeat' (first | with_reducible assumption | with_reducible apply State.feInForce_keeps | with_reducible apply State.setUnit_keeps | with_reducible apply State.put_keeps | with_reducible apply State.wr_keeps | with_reducible apply keeps_ite | with_reducible apply keeps_foldl | fail_if_no_progress (with_reducible apply keeps_other) | with_reducible apply keeps_dropRegs | with_reducible apply keeps_dropMem | with_reducible apply keeps_dropBoth | (intro _; intros) | (refine keeps_of_some (by with_reducible assumption) ?_) | (refine keeps_of_fst (by with_reducible assumption) ?_) | split)

theorem State.bagBody_keeps {z0 : State} {s : State} (a : Nat) (n : Nat)  (hK : Keeps z0 s) :
    Keeps z0 (State.bagBody s a n) := by
  unfold State.bagBody
  try dsimp only
  repeat' (first | with_reducible assumption | with_reducible apply State.wrWord_keeps | with_reducible apply State.useFresh_keeps | with_reducible apply keeps_ite | with_reducible apply keeps_foldl | fail_if_no_progress (with_reducible apply keeps_other) | with_reducible apply keeps_dropRegs | with_reducible apply keeps_dropMem | with_reducible apply keeps_dropBoth | (intro _; intros) | (refine keeps_of_some (by with_reducible assumption) ?_) | (refine keeps_of_fst (by with_reducible assumption) ?_) | split)

theorem State.writeBag_keeps {z0 : State} {s : State} (cause : Nat)  (hK : Keeps z0 s) :
    Keeps z0 (State.writeBag s cause) := by
  unfold State.writeBag
  try dsimp only
  repeat' (first | with_reducible assumption | with_reducible apply State.bagBody_keeps | with_reducible apply State.setBag_keeps | with_reducible apply State.setFw_keeps | with_reducible apply State.wrWords_keeps | with_reducible apply State.wrWord_keeps | with_reducible apply State.useFresh_keeps | with_reducible apply keeps_ite | with_reducible apply keeps_foldl | fail_if_no_progress (with_reducible apply keeps_other) | with_reducible apply keeps_dropRegs | with_reducible apply keeps_dropMem | with_reducible apply keeps_dropBoth | (intro _; intros) | (refine keeps_of_some (by with_reducible assumption) ?_) | (refine keeps_of_fst (by with_reducible assumption) ?_) | split)

theorem State.spoilBag_keeps {z0 : State} {s : State}  (hK : Keeps z0 s) :
    Keeps z0 (State.spoilBag s) := by
  unfold State.spoilBag
  try dsimp only
  repeat' (first | with_reducible assumption | with_reducible apply State.setBag_keeps | with_reducible apply State.wrWord_keeps | with_reducible apply State.useFresh_keeps | with_reducible apply keeps_ite | with_reducible apply keeps_foldl | fail_if_no_progress (with_reducible apply keeps_other) | with_reducible apply keeps_dropRegs | with_reducible apply keeps_dropMem | with_reducible apply keeps_dropBoth | (intro _; intros) | (refine keeps_of_some (by with_reducible assumption) ?_) | (refine keeps_of_fst (by with_reducible assumption) ?_) | split)

theorem State.vinState_keeps {z0 : State} {s : State} (v : Nat)  (hK : Keeps z0 s) :
    Keeps z0 (State.vinState s v) := by
  unfold State.vinState
  try dsimp only
  repeat' (first | with_reducible assumption | with_reducible apply State.put_keeps | with_reducible apply keeps_ite | with_reducible apply keeps_foldl | fail_if_no_progress (with_reducible apply keeps_other) | with_reducible apply keeps_dropRegs | with_reducible apply keeps_dropMem | with_reducible apply keeps_dropBoth | (intro _; intros) | (refine keeps_of_some (by with_reducible assumption) ?_) | (refine keeps_of_fst (by with_reducible assumption) ?_) | split)

theorem State.dropLoad_keeps {z0 : State} {s : State}  (hK : Keeps z0 s) :
    Keeps z0 (State.dropLoad s) := by
  unfold State.dropLoad
  try dsimp only
  repeat' (first | with_reducible assumption | with_reducible apply State.abandonJob_keeps | with_reducible apply State.endJob_keeps | with_reducible apply State.fireAtEnd_keeps | with_reducible apply State.setMfState_keeps | with_reducible apply State.dropHold_keeps | with_reducible apply State.setUnit_keeps | with_reducible apply keeps_ite | with_reducible apply keeps_foldl | fail_if_no_progress (with_reducible apply keeps_other) | with_reducible apply keeps_dropRegs | with_reducible apply keeps_dropMem | with_reducible apply keeps_dropBoth | (intro _; intros) | (refine keeps_of_some (by with_reducible assumption) ?_) | (refine keeps_of_fst (by with_reducible assumption) ?_) | split)

theorem State.quiesce_keeps {z0 : State} {s : State}  (hK : Keeps z0 s) :
    Keeps z0 (State.quiesce s) := by
  unfold State.quiesce
  try dsimp only
  repeat' (first | with_reducible assumption | with_reducible apply State.dropLoad_keeps | with_reducible apply State.setPower_keeps | with_reducible apply State.nvEnd_keeps | with_reducible apply State.dropMove_keeps | with_reducible apply State.setFw_keeps | with_reducible apply State.twcHalt_keeps | with_reducible apply State.leadRelease_keeps | with_reducible apply State.releaseScans_keeps | with_reducible apply State.feedOff_keeps | with_reducible apply State.feRunStop_keeps | with_reducible apply State.addHold_keeps | with_reducible apply State.dropScouts_keeps | with_reducible apply keeps_ite | with_reducible apply keeps_foldl | fail_if_no_progress (with_reducible apply keeps_other) | with_reducible apply keeps_dropRegs | with_reducible apply keeps_dropMem | with_reducible apply keeps_dropBoth | (intro _; intros) | (refine keeps_of_some (by with_reducible assumption) ?_) | (refine keeps_of_fst (by with_reducible assumption) ?_) | split)

theorem execVinWarning_keeps {z0 : State} {s : State}  (hK : Keeps z0 s) :
    KeepsOut z0 (execVinWarning s) := by
  unfold execVinWarning
  try dsimp only
  repeat' (first | with_reducible assumption | with_reducible apply State.quiesce_keeps | with_reducible apply State.vinState_keeps | with_reducible apply State.resetFor_keeps | with_reducible apply State.setPower_keeps | with_reducible apply State.raise_keeps | with_reducible apply State.put_keeps | with_reducible apply keeps_ite | with_reducible apply keeps_foldl | with_reducible apply keepsOut_next | with_reducible apply keepsOut_ite | fail_if_no_progress (with_reducible apply keeps_other) | with_reducible apply keeps_dropRegs | with_reducible apply keeps_dropMem | with_reducible apply keeps_dropBoth | (intro _; intros) | (refine keeps_of_some (by with_reducible assumption) ?_) | (refine keeps_of_fst (by with_reducible assumption) ?_) | split)

theorem keeps_eqs {z0 x t : State} (h : Keeps z0 x) (hp : t.part = x.part) (hq : t.pending = x.pending)
    (hr : Registers.wf x.regs = true → Registers.wf t.regs = true)
    (hm : Memory.wf x.mem = true → Memory.wf t.mem = true) : Keeps z0 t :=
  ⟨hp.trans h.part, hq.trans h.pending, fun w => hr (h.regs w), fun w => hm (h.mem w)⟩

theorem State.retain_keeps {z0 s : State} (h : Keeps z0 s) : Keeps z0 s.retain := by
  have hp := State.pairOff_keeps h
  unfold State.retain
  generalize s.pairOff = p at hp ⊢
  unfold State.dieReset
  dsimp only
  apply State.putB_keeps
  exact keeps_eqs hp rfl rfl (fun w => Store.filter_wf _ w) (fun w => Store.filter_wf _ w)

theorem execSaddlebagSaveDone_keeps {z0 : State} (us : Nat) {s : State}  (hK : Keeps z0 s) :
    KeepsOut z0 (execSaddlebagSaveDone us s) := by
  unfold execSaddlebagSaveDone
  try dsimp only
  repeat' (first | with_reducible assumption | with_reducible apply State.retain_keeps | with_reducible apply State.vinState_keeps | with_reducible apply State.writeBag_keeps | with_reducible apply State.resetFor_keeps | with_reducible apply State.count_keeps | with_reducible apply State.wr_keeps | with_reducible apply keeps_ite | with_reducible apply keeps_foldl | with_reducible apply keepsOut_next | with_reducible apply keepsOut_ite | fail_if_no_progress (with_reducible apply keeps_other) | with_reducible apply keeps_dropRegs | with_reducible apply keeps_dropMem | with_reducible apply keeps_dropBoth | (intro _; intros) | (refine keeps_of_some (by with_reducible assumption) ?_) | (refine keeps_of_fst (by with_reducible assumption) ?_) | split)

theorem State.rtcTicks_keeps {z0 : State} {s : State} (n : Nat)  (hK : Keeps z0 s) :
    Keeps z0 (State.rtcTicks s n) := by
  unfold State.rtcTicks
  try dsimp only
  repeat' (first | with_reducible assumption | with_reducible apply State.setPower_keeps | with_reducible apply keeps_ite | with_reducible apply keeps_foldl | fail_if_no_progress (with_reducible apply keeps_other) | with_reducible apply keeps_dropRegs | with_reducible apply keeps_dropMem | with_reducible apply keeps_dropBoth | (intro _; intros) | (refine keeps_of_some (by with_reducible assumption) ?_) | (refine keeps_of_fst (by with_reducible assumption) ?_) | split)

theorem execWarmResume_keeps {z0 : State} (ticks : Nat) (vcore : Bool) {s : State}  (hK : Keeps z0 s) :
    KeepsOut z0 (execWarmResume ticks vcore s) := by
  unfold execWarmResume
  try dsimp only
  repeat' (first | with_reducible assumption | with_reducible apply State.rtcTicks_keeps | with_reducible apply State.vinState_keeps | with_reducible apply State.resetFor_keeps | with_reducible apply State.setPower_keeps | with_reducible apply keeps_ite | with_reducible apply keeps_foldl | with_reducible apply keepsOut_next | with_reducible apply keepsOut_ite | fail_if_no_progress (with_reducible apply keeps_other) | with_reducible apply keeps_dropRegs | with_reducible apply keeps_dropMem | with_reducible apply keeps_dropBoth | (intro _; intros) | (refine keeps_of_some (by with_reducible assumption) ?_) | (refine keeps_of_fst (by with_reducible assumption) ?_) | split)

theorem State.putRegs_keeps {z0 : State} {s : State} (rs : Table Word)  (hK : Keeps z0 s) :
    Keeps z0 (State.putRegs s rs) := by
  unfold State.putRegs
  try dsimp only
  repeat' (first | with_reducible assumption | with_reducible apply State.wr_keeps | with_reducible apply keeps_ite | with_reducible apply keeps_foldl | fail_if_no_progress (with_reducible apply keeps_other) | with_reducible apply keeps_dropRegs | with_reducible apply keeps_dropMem | with_reducible apply keeps_dropBoth | (intro _; intros) | (refine keeps_of_some (by with_reducible assumption) ?_) | (refine keeps_of_fst (by with_reducible assumption) ?_) | split)

theorem State.feResume_keeps {z0 : State} {s : State} (w : Nat)  (hK : Keeps z0 s) :
    Keeps z0 (State.feResume s w) := by
  unfold State.feResume
  try dsimp only
  repeat' (first | with_reducible assumption | with_reducible apply State.feRunStart_keeps | with_reducible apply State.followFe_keeps | with_reducible apply State.setAx_keeps | with_reducible apply keeps_ite | with_reducible apply keeps_foldl | fail_if_no_progress (with_reducible apply keeps_other) | with_reducible apply keeps_dropRegs | with_reducible apply keeps_dropMem | with_reducible apply keeps_dropBoth | (intro _; intros) | (refine keeps_of_some (by with_reducible assumption) ?_) | (refine keeps_of_fst (by with_reducible assumption) ?_) | split)

theorem State.unitResume_keeps {z0 : State} {s : State} (w : Nat)  (hK : Keeps z0 s) :
    Keeps z0 (State.unitResume s w) := by
  unfold State.unitResume
  try dsimp only
  repeat' (first | with_reducible assumption | with_reducible apply State.feResume_keeps | with_reducible apply State.dropHold_keeps | with_reducible apply keeps_ite | with_reducible apply keeps_foldl | fail_if_no_progress (with_reducible apply keeps_other) | with_reducible apply keeps_dropRegs | with_reducible apply keeps_dropMem | with_reducible apply keeps_dropBoth | (intro _; intros) | (refine keeps_of_some (by with_reducible assumption) ?_) | (refine keeps_of_fst (by with_reducible assumption) ?_) | split)

theorem State.portResume_keeps {z0 : State} {s : State} (w : Nat)  (hK : Keeps z0 s) :
    Keeps z0 (State.portResume s w) := by
  unfold State.portResume
  try dsimp only
  repeat' (first | with_reducible assumption | with_reducible apply State.putB_keeps | with_reducible apply State.put_keeps | with_reducible apply keeps_ite | with_reducible apply keeps_foldl | fail_if_no_progress (with_reducible apply keeps_other) | with_reducible apply keeps_dropRegs | with_reducible apply keeps_dropMem | with_reducible apply keeps_dropBoth | (intro _; intros) | (refine keeps_of_some (by with_reducible assumption) ?_) | (refine keeps_of_fst (by with_reducible assumption) ?_) | split)

theorem State.putBagBack_keeps {z0 : State} {s : State} (b : BagX)  (hK : Keeps z0 s) :
    Keeps z0 (State.putBagBack s b) := by
  unfold State.putBagBack
  try dsimp only
  repeat' (first | with_reducible assumption | with_reducible apply State.portResume_keeps | with_reducible apply State.putRegs_keeps | with_reducible apply State.showAlloc_keeps | with_reducible apply State.setBl_keeps | with_reducible apply State.setAx_keeps | with_reducible apply State.setUnit_keeps | with_reducible apply keeps_ite | with_reducible apply keeps_foldl | fail_if_no_progress (with_reducible apply keeps_other) | with_reducible apply keeps_dropRegs | with_reducible apply keeps_dropMem | with_reducible apply keeps_dropBoth | (intro _; intros) | (refine keeps_of_some (by with_reducible assumption) ?_) | (refine keeps_of_fst (by with_reducible assumption) ?_) | split)

theorem State.rootResume_keeps {z0 : State} {s : State} (b : BagX)  (hK : Keeps z0 s) :
    Keeps z0 (State.rootResume s b) := by
  unfold State.rootResume
  try dsimp only
  repeat' (first | with_reducible assumption | with_reducible apply State.lockRoot_keeps | with_reducible apply State.rootMode_keeps | with_reducible apply State.setRoot_keeps | with_reducible apply State.putB_keeps | with_reducible apply keeps_ite | with_reducible apply keeps_foldl | fail_if_no_progress (with_reducible apply keeps_other) | with_reducible apply keeps_dropRegs | with_reducible apply keeps_dropMem | with_reducible apply keeps_dropBoth | (intro _; intros) | (refine keeps_of_some (by with_reducible assumption) ?_) | (refine keeps_of_fst (by with_reducible assumption) ?_) | split)

theorem State.unhear_keeps {z0 : State} {s : State}  (hK : Keeps z0 s) :
    Keeps z0 (State.unhear s) := by
  unfold State.unhear
  try dsimp only
  repeat' (first | with_reducible assumption | with_reducible apply State.gbSet_keeps | with_reducible apply keeps_ite | with_reducible apply keeps_foldl | fail_if_no_progress (with_reducible apply keeps_other) | with_reducible apply keeps_dropRegs | with_reducible apply keeps_dropMem | with_reducible apply keeps_dropBoth | (intro _; intros) | (refine keeps_of_some (by with_reducible assumption) ?_) | (refine keeps_of_fst (by with_reducible assumption) ?_) | split)

theorem State.startCause_keeps {z0 : State} {s : State} (last : Nat)  (hK : Keeps z0 s) :
    Keeps z0 (State.startCause s last) := by
  unfold State.startCause
  try dsimp only
  repeat' (first | with_reducible assumption | with_reducible apply State.put_keeps | with_reducible apply State.wr_keeps | with_reducible apply keeps_ite | with_reducible apply keeps_foldl | fail_if_no_progress (with_reducible apply keeps_other) | with_reducible apply keeps_dropRegs | with_reducible apply keeps_dropMem | with_reducible apply keeps_dropBoth | (intro _; intros) | (refine keeps_of_some (by with_reducible assumption) ?_) | (refine keeps_of_fst (by with_reducible assumption) ?_) | split)

theorem State.restore_keeps {z0 : State} {s : State} (b : BagX)  (hK : Keeps z0 s) :
    Keeps z0 (State.restore s b) := by
  unfold State.restore
  try dsimp only
  repeat' (first | with_reducible assumption | with_reducible apply State.unhear_keeps | with_reducible apply State.rootResume_keeps | with_reducible apply State.putBagBack_keeps | with_reducible apply State.unitResume_keeps | with_reducible apply State.triggered_keeps | with_reducible apply State.fire_keeps | with_reducible apply keeps_ite | with_reducible apply keeps_foldl | fail_if_no_progress (with_reducible apply keeps_other) | with_reducible apply keeps_dropRegs | with_reducible apply keeps_dropMem | with_reducible apply keeps_dropBoth | (intro _; intros) | (refine keeps_of_some (by with_reducible assumption) ?_) | (refine keeps_of_fst (by with_reducible assumption) ?_) | split)

theorem State.resumeEnds_keeps {z0 : State} {s : State}  (hK : Keeps z0 s) :
    Keeps z0 (State.resumeEnds s) := by
  unfold State.resumeEnds
  try dsimp only
  repeat' (first | with_reducible assumption | with_reducible apply State.startCause_keeps | with_reducible apply State.vinState_keeps | with_reducible apply State.setPower_keeps | with_reducible apply State.setFw_keeps | with_reducible apply State.f3Outputs_keeps | with_reducible apply State.outsFollow_keeps | with_reducible apply State.signStart_keeps | with_reducible apply State.notice_keeps | with_reducible apply State.count_keeps | with_reducible apply State.raise_keeps | with_reducible apply State.put_keeps | with_reducible apply State.wr_keeps | with_reducible apply keeps_ite | with_reducible apply keeps_foldl | with_reducible apply keepsOut_next | with_reducible apply keepsOut_ite | fail_if_no_progress (with_reducible apply keeps_other) | with_reducible apply keeps_dropRegs | with_reducible apply keeps_dropMem | with_reducible apply keeps_dropBoth | (intro _; intros) | (refine keeps_of_some (by with_reducible assumption) ?_) | (refine keeps_of_fst (by with_reducible assumption) ?_) | split)

theorem execWarmResumeReady_keeps {z0 : State} (ticks : Nat) {s : State}  (hK : Keeps z0 s) :
    KeepsOut z0 (execWarmResumeReady ticks s) := by
  unfold execWarmResumeReady
  try dsimp only
  repeat' (first | with_reducible assumption | with_reducible apply State.resumeEnds_keeps | with_reducible apply State.restore_keeps | with_reducible apply State.rtcTicks_keeps | with_reducible apply State.setPower_keeps | with_reducible apply keeps_ite | with_reducible apply keeps_foldl | with_reducible apply keepsOut_next | with_reducible apply keepsOut_ite | fail_if_no_progress (with_reducible apply keeps_other) | with_reducible apply keeps_dropRegs | with_reducible apply keeps_dropMem | with_reducible apply keeps_dropBoth | (intro _; intros) | (refine keeps_of_some (by with_reducible assumption) ?_) | (refine keeps_of_fst (by with_reducible assumption) ?_) | split)

theorem execVinReset_keeps {z0 : State} {s : State}  (hK : Keeps z0 s) :
    KeepsOut z0 (execVinReset s) := by
  unfold execVinReset
  try dsimp only
  repeat' (first | with_reducible assumption | with_reducible apply State.vinState_keeps | with_reducible apply State.spoilBag_keeps | with_reducible apply State.resetFor_keeps | with_reducible apply State.count_keeps | with_reducible apply State.put_keeps | with_reducible apply keeps_ite | with_reducible apply keeps_foldl | with_reducible apply keepsOut_next | with_reducible apply keepsOut_ite | fail_if_no_progress (with_reducible apply keeps_other) | with_reducible apply keeps_dropRegs | with_reducible apply keeps_dropMem | with_reducible apply keeps_dropBoth | (intro _; intros) | (refine keeps_of_some (by with_reducible assumption) ?_) | (refine keeps_of_fst (by with_reducible assumption) ?_) | split)

theorem execRailFault_keeps {z0 : State} (rail : Fin 3) {s : State}  (hK : Keeps z0 s) :
    KeepsOut z0 (execRailFault rail s) := by
  unfold execRailFault
  try dsimp only
  repeat' (first | with_reducible assumption | with_reducible apply State.declareF3_keeps | with_reducible apply State.safeUnit_keeps | with_reducible apply State.abandonJob_keeps | with_reducible apply State.declare_keeps | with_reducible apply State.count_keeps | with_reducible apply State.raise_keeps | with_reducible apply State.setAx_keeps | with_reducible apply State.put_keeps | with_reducible apply keeps_ite | with_reducible apply keeps_foldl | with_reducible apply keepsOut_next | with_reducible apply keepsOut_ite | fail_if_no_progress (with_reducible apply keeps_other) | with_reducible apply keeps_dropRegs | with_reducible apply keeps_dropMem | with_reducible apply keeps_dropBoth | (intro _; intros) | (refine keeps_of_some (by with_reducible assumption) ?_) | (refine keeps_of_fst (by with_reducible assumption) ?_) | split)

theorem execFeedRailRegulated_keeps {z0 : State} {s : State}  (hK : Keeps z0 s) :
    KeepsOut z0 (execFeedRailRegulated s) := by
  unfold execFeedRailRegulated
  try dsimp only
  repeat' (first | with_reducible assumption | with_reducible apply State.causeGone_keeps | with_reducible apply State.endFault_keeps | with_reducible apply State.setAx_keeps | with_reducible apply State.put_keeps | with_reducible apply keeps_ite | with_reducible apply keeps_foldl | with_reducible apply keepsOut_next | with_reducible apply keepsOut_ite | fail_if_no_progress (with_reducible apply keeps_other) | with_reducible apply keeps_dropRegs | with_reducible apply keeps_dropMem | with_reducible apply keeps_dropBoth | (intro _; intros) | (refine keeps_of_some (by with_reducible assumption) ?_) | (refine keeps_of_fst (by with_reducible assumption) ?_) | split)

theorem execSysStandby_keeps {z0 : State} (ph : Fin 8) (tag : BitVec 8) (mask : Word) {s : State}  (hK : Keeps z0 s) :
    KeepsOut z0 (execSysStandby ph tag mask s) := by
  unfold execSysStandby
  try dsimp only
  repeat' (first | with_reducible assumption | with_reducible apply State.quiesce_keeps | with_reducible apply State.vinState_keeps | with_reducible apply State.setPower_keeps | with_reducible apply State.serve_keeps | with_reducible apply State.reply_keeps | with_reducible apply State.put_keeps | with_reducible apply keeps_ite | with_reducible apply keeps_foldl | with_reducible apply keepsOut_next | with_reducible apply keepsOut_ite | fail_if_no_progress (with_reducible apply keeps_other) | with_reducible apply keeps_dropRegs | with_reducible apply keeps_dropMem | with_reducible apply keeps_dropBoth | (intro _; intros) | (refine keeps_of_some (by with_reducible assumption) ?_) | (refine keeps_of_fst (by with_reducible assumption) ?_) | split)

theorem State.wakeUp_keeps {z0 : State} {s : State}  (hK : Keeps z0 s) :
    Keeps z0 (State.wakeUp s) := by
  unfold State.wakeUp
  try dsimp only
  repeat' (first | with_reducible assumption | with_reducible apply State.setPower_keeps | with_reducible apply keeps_ite | with_reducible apply keeps_foldl | fail_if_no_progress (with_reducible apply keeps_other) | with_reducible apply keeps_dropRegs | with_reducible apply keeps_dropMem | with_reducible apply keeps_dropBoth | (intro _; intros) | (refine keeps_of_some (by with_reducible assumption) ?_) | (refine keeps_of_fst (by with_reducible assumption) ?_) | split)

theorem execStandbyEntered_keeps {z0 : State} {s : State}  (hK : Keeps z0 s) :
    KeepsOut z0 (execStandbyEntered s) := by
  unfold execStandbyEntered
  try dsimp only
  repeat' (first | with_reducible assumption | with_reducible apply State.wakeUp_keeps | with_reducible apply State.vinState_keeps | with_reducible apply State.writeBag_keeps | with_reducible apply State.dieReset_keeps | with_reducible apply State.gbSave_keeps | with_reducible apply State.put_keeps | with_reducible apply keeps_ite | with_reducible apply keeps_foldl | with_reducible apply keepsOut_next | with_reducible apply keepsOut_ite | fail_if_no_progress (with_reducible apply keeps_other) | with_reducible apply keeps_dropRegs | with_reducible apply keeps_dropMem | with_reducible apply keeps_dropBoth | (intro _; intros) | (refine keeps_of_some (by with_reducible assumption) ?_) | (refine keeps_of_fst (by with_reducible assumption) ?_) | split)

theorem State.wake_keeps {z0 : State} {s : State} (cause : FRef)  (hK : Keeps z0 s) :
    Keeps z0 (State.wake s cause) := by
  unfold State.wake
  try dsimp only
  repeat' (first | with_reducible assumption | with_reducible apply State.wakeUp_keeps | with_reducible apply State.setPower_keeps | with_reducible apply State.put_keeps | with_reducible apply keeps_ite | with_reducible apply keeps_foldl | fail_if_no_progress (with_reducible apply keeps_other) | with_reducible apply keeps_dropRegs | with_reducible apply keeps_dropMem | with_reducible apply keeps_dropBoth | (intro _; intros) | (refine keeps_of_some (by with_reducible assumption) ?_) | (refine keeps_of_fst (by with_reducible assumption) ?_) | split)

theorem execWakePin_keeps {z0 : State} {s : State}  (hK : Keeps z0 s) :
    KeepsOut z0 (execWakePin s) := by
  unfold execWakePin
  try dsimp only
  repeat' (first | with_reducible assumption | with_reducible apply State.wake_keeps | with_reducible apply keeps_ite | with_reducible apply keeps_foldl | with_reducible apply keepsOut_next | with_reducible apply keepsOut_ite | fail_if_no_progress (with_reducible apply keeps_other) | with_reducible apply keeps_dropRegs | with_reducible apply keeps_dropMem | with_reducible apply keeps_dropBoth | (intro _; intros) | (refine keeps_of_some (by with_reducible assumption) ?_) | (refine keeps_of_fst (by with_reducible assumption) ?_) | split)

theorem execRtcAlarm_keeps {z0 : State} {s : State}  (hK : Keeps z0 s) :
    KeepsOut z0 (execRtcAlarm s) := by
  unfold execRtcAlarm
  try dsimp only
  repeat' (first | with_reducible assumption | with_reducible apply State.wake_keeps | with_reducible apply State.setPower_keeps | with_reducible apply keeps_ite | with_reducible apply keeps_foldl | with_reducible apply keepsOut_next | with_reducible apply keepsOut_ite | fail_if_no_progress (with_reducible apply keeps_other) | with_reducible apply keeps_dropRegs | with_reducible apply keeps_dropMem | with_reducible apply keeps_dropBoth | (intro _; intros) | (refine keeps_of_some (by with_reducible assumption) ?_) | (refine keeps_of_fst (by with_reducible assumption) ?_) | split)

theorem execTwtWakeMatch_keeps {z0 : State} {s : State}  (hK : Keeps z0 s) :
    KeepsOut z0 (execTwtWakeMatch s) := by
  unfold execTwtWakeMatch
  try dsimp only
  repeat' (first | with_reducible assumption | with_reducible apply State.wake_keeps | with_reducible apply keeps_ite | with_reducible apply keeps_foldl | with_reducible apply keepsOut_next | with_reducible apply keepsOut_ite | fail_if_no_progress (with_reducible apply keeps_other) | with_reducible apply keeps_dropRegs | with_reducible apply keeps_dropMem | with_reducible apply keeps_dropBoth | (intro _; intros) | (refine keeps_of_some (by with_reducible assumption) ?_) | (refine keeps_of_fst (by with_reducible assumption) ?_) | split)

theorem execResetN_keeps {z0 : State} {s : State}  (hK : Keeps z0 s) :
    KeepsOut z0 (execResetN s) := by
  unfold execResetN
  try dsimp only
  repeat' (first | with_reducible assumption | with_reducible apply State.wake_keeps | with_reducible apply State.vinState_keeps | with_reducible apply State.resetFor_keeps | with_reducible apply State.setPower_keeps | with_reducible apply keeps_ite | with_reducible apply keeps_foldl | with_reducible apply keepsOut_next | with_reducible apply keepsOut_ite | fail_if_no_progress (with_reducible apply keeps_other) | with_reducible apply keeps_dropRegs | with_reducible apply keeps_dropMem | with_reducible apply keeps_dropBoth | (intro _; intros) | (refine keeps_of_some (by with_reducible assumption) ?_) | (refine keeps_of_fst (by with_reducible assumption) ?_) | split)

theorem execKeeperReset_keeps {z0 : State} {s : State}  (hK : Keeps z0 s) :
    KeepsOut z0 (execKeeperReset s) := by
  unfold execKeeperReset
  try dsimp only
  repeat' (first | with_reducible assumption | with_reducible apply State.spoilBag_keeps | with_reducible apply State.resetFor_keeps | with_reducible apply keeps_ite | with_reducible apply keeps_foldl | with_reducible apply keepsOut_next | with_reducible apply keepsOut_ite | fail_if_no_progress (with_reducible apply keeps_other) | with_reducible apply keeps_dropRegs | with_reducible apply keeps_dropMem | with_reducible apply keeps_dropBoth | (intro _; intros) | (refine keeps_of_some (by with_reducible assumption) ?_) | (refine keeps_of_fst (by with_reducible assumption) ?_) | split)

theorem State.rtcCtl_keeps {z0 : State} {s : State} (v : Word)  (hK : Keeps z0 s) :
    Keeps z0 (State.rtcCtl s v) := by
  unfold State.rtcCtl
  try dsimp only
  repeat' (first | with_reducible assumption | with_reducible apply State.setPower_keeps | with_reducible apply State.store_keeps | with_reducible apply State.put_keeps | with_reducible apply keeps_ite | with_reducible apply keeps_foldl | fail_if_no_progress (with_reducible apply keeps_other) | with_reducible apply keeps_dropRegs | with_reducible apply keeps_dropMem | with_reducible apply keeps_dropBoth | (intro _; intros) | (refine keeps_of_some (by with_reducible assumption) ?_) | (refine keeps_of_fst (by with_reducible assumption) ?_) | split)

theorem execRtcSet_keeps {z0 : State} (m : Master) (v : Word) {s : State}  (hK : Keeps z0 s) :
    KeepsOut z0 (execRtcSet m v s) := by
  unfold execRtcSet
  try dsimp only
  repeat' (first | with_reducible assumption | with_reducible apply State.rtcCtl_keeps | with_reducible apply State.guarded_keeps | with_reducible apply keeps_ite | with_reducible apply keeps_foldl | with_reducible apply keepsOut_next | with_reducible apply keepsOut_ite | fail_if_no_progress (with_reducible apply keeps_other) | with_reducible apply keeps_dropRegs | with_reducible apply keeps_dropMem | with_reducible apply keeps_dropBoth | (intro _; intros) | (refine keeps_of_some (by with_reducible assumption) ?_) | (refine keeps_of_fst (by with_reducible assumption) ?_) | split)

theorem State.logScan_keeps {z0 : State} {s : State}  (hK : Keeps z0 s) :
    Keeps z0 (State.logScan s) := by
  unfold State.logScan
  try dsimp only
  repeat' (first | with_reducible assumption | with_reducible apply State.setFw_keeps | with_reducible apply keeps_ite | with_reducible apply keeps_foldl | fail_if_no_progress (with_reducible apply keeps_other) | with_reducible apply keeps_dropRegs | with_reducible apply keeps_dropMem | with_reducible apply keeps_dropBoth | (intro _; intros) | (refine keeps_of_some (by with_reducible assumption) ?_) | (refine keeps_of_fst (by with_reducible assumption) ?_) | split)

theorem State.startCores_keeps {z0 : State} {s : State} (slot : Nat) (fallback : Bool)  (hK : Keeps z0 s) :
    Keeps z0 (State.startCores s slot fallback) := by
  unfold State.startCores
  try dsimp only
  repeat' (first | with_reducible assumption | with_reducible apply State.logScan_keeps | with_reducible apply State.setFw_keeps | with_reducible apply State.put_keeps | with_reducible apply keeps_ite | with_reducible apply keeps_foldl | fail_if_no_progress (with_reducible apply keeps_other) | with_reducible apply keeps_dropRegs | with_reducible apply keeps_dropMem | with_reducible apply keeps_dropBoth | (intro _; intros) | (refine keeps_of_some (by with_reducible assumption) ?_) | (refine keeps_of_fst (by with_reducible assumption) ?_) | split)

theorem State.bootSlot_keeps {z0 : State} {s : State}  (hK : Keeps z0 s) :
    Keeps z0 (State.bootSlot s) := by
  unfold State.bootSlot
  try dsimp only
  repeat' (first | with_reducible assumption | with_reducible apply State.startCores_keeps | with_reducible apply State.declareF3_keeps | with_reducible apply keeps_ite | with_reducible apply keeps_foldl | fail_if_no_progress (with_reducible apply keeps_other) | with_reducible apply keeps_dropRegs | with_reducible apply keeps_dropMem | with_reducible apply keeps_dropBoth | (intro _; intros) | (refine keeps_of_some (by with_reducible assumption) ?_) | (refine keeps_of_fst (by with_reducible assumption) ?_) | split)

theorem execColdBoot_keeps {z0 : State} (ticks : Nat) {s : State}  (hK : Keeps z0 s) :
    KeepsOut z0 (execColdBoot ticks s) := by
  unfold execColdBoot
  try dsimp only
  repeat' (first | with_reducible assumption | with_reducible apply State.bootSlot_keeps | with_reducible apply State.startCause_keeps | with_reducible apply State.rtcTicks_keeps | with_reducible apply State.vinState_keeps | with_reducible apply State.setPower_keeps | with_reducible apply State.put_keeps | with_reducible apply keeps_ite | with_reducible apply keeps_foldl | with_reducible apply keepsOut_next | with_reducible apply keepsOut_ite | fail_if_no_progress (with_reducible apply keeps_other) | with_reducible apply keeps_dropRegs | with_reducible apply keeps_dropMem | with_reducible apply keeps_dropBoth | (intro _; intros) | (refine keeps_of_some (by with_reducible assumption) ?_) | (refine keeps_of_fst (by with_reducible assumption) ?_) | split)

theorem execRootLockTimeout_keeps {z0 : State} {s : State}  (hK : Keeps z0 s) :
    KeepsOut z0 (execRootLockTimeout s) := by
  unfold execRootLockTimeout
  try dsimp only
  repeat' (first | with_reducible assumption | with_reducible apply State.declare_keeps | with_reducible apply keeps_ite | with_reducible apply keeps_foldl | with_reducible apply keepsOut_next | with_reducible apply keepsOut_ite | fail_if_no_progress (with_reducible apply keeps_other) | with_reducible apply keeps_dropRegs | with_reducible apply keeps_dropMem | with_reducible apply keeps_dropBoth | (intro _; intros) | (refine keeps_of_some (by with_reducible assumption) ?_) | (refine keeps_of_fst (by with_reducible assumption) ?_) | split)

theorem State.setBoot_keeps {z0 : State} {s : State} (f : BootX → BootX)  (hK : Keeps z0 s) :
    Keeps z0 (State.setBoot s f) := by
  unfold State.setBoot
  try dsimp only
  repeat' (first | with_reducible assumption | with_reducible apply State.setFw_keeps | with_reducible apply keeps_ite | with_reducible apply keeps_foldl | fail_if_no_progress (with_reducible apply keeps_other) | with_reducible apply keeps_dropRegs | with_reducible apply keeps_dropMem | with_reducible apply keeps_dropBoth | (intro _; intros) | (refine keeps_of_some (by with_reducible assumption) ?_) | (refine keeps_of_fst (by with_reducible assumption) ?_) | split)

theorem State.bootUnit_keeps {z0 : State} {s : State} (b : BagX) (w : Nat)  (hK : Keeps z0 s) :
    Keeps z0 (State.bootUnit s b w) := by
  unfold State.bootUnit
  try dsimp only
  repeat' (first | with_reducible assumption | with_reducible apply State.setBoot_keeps | with_reducible apply State.ctl_keeps | with_reducible apply State.withFe_keeps | with_reducible apply State.watch_keeps | with_reducible apply State.wr_keeps | with_reducible apply keeps_ite | with_reducible apply keeps_foldl | fail_if_no_progress (with_reducible apply keeps_other) | with_reducible apply keeps_dropRegs | with_reducible apply keeps_dropMem | with_reducible apply keeps_dropBoth | (intro _; intros) | (refine keeps_of_some (by with_reducible assumption) ?_) | (refine keeps_of_fst (by with_reducible assumption) ?_) | split)

theorem State.bootRestore_keeps {z0 : State} {s : State} (b : BagX)  (hK : Keeps z0 s) :
    Keeps z0 (State.bootRestore s b) := by
  unfold State.bootRestore
  try dsimp only
  repeat' (first | with_reducible assumption | with_reducible apply State.bootUnit_keeps | with_reducible apply State.setBoot_keeps | with_reducible apply State.putRegs_keeps | with_reducible apply State.refCfgWritten_keeps | with_reducible apply State.outsFollow_keeps | with_reducible apply State.showAlloc_keeps | with_reducible apply State.initQueue_keeps | with_reducible apply State.wr_keeps | with_reducible apply keeps_ite | with_reducible apply keeps_foldl | fail_if_no_progress (with_reducible apply keeps_other) | with_reducible apply keeps_dropRegs | with_reducible apply keeps_dropMem | with_reducible apply keeps_dropBoth | (intro _; intros) | (refine keeps_of_some (by with_reducible assumption) ?_) | (refine keeps_of_fst (by with_reducible assumption) ?_) | split)

theorem State.bootLoad_keeps {z0 : State} {s : State} (k : Nat) (which : Nat)  (hK : Keeps z0 s) :
    Keeps z0 (State.bootLoad s k which) := by
  unfold State.bootLoad
  try dsimp only
  repeat' (first | with_reducible assumption | with_reducible apply State.setBoot_keeps | with_reducible apply State.startJob_keeps | with_reducible apply keeps_ite | with_reducible apply keeps_foldl | fail_if_no_progress (with_reducible apply keeps_other) | with_reducible apply keeps_dropRegs | with_reducible apply keeps_dropMem | with_reducible apply keeps_dropBoth | (intro _; intros) | (refine keeps_of_some (by with_reducible assumption) ?_) | (refine keeps_of_fst (by with_reducible assumption) ?_) | split)

theorem State.deviates_keeps {z0 : State} {s : State} (c : Nat)  (hK : Keeps z0 s) :
    Keeps z0 (State.deviates s c) := by
  unfold State.deviates
  try dsimp only
  repeat' (first | with_reducible assumption | with_reducible apply State.setBoot_keeps | with_reducible apply keeps_ite | with_reducible apply keeps_foldl | fail_if_no_progress (with_reducible apply keeps_other) | with_reducible apply keeps_dropRegs | with_reducible apply keeps_dropMem | with_reducible apply keeps_dropBoth | (intro _; intros) | (refine keeps_of_some (by with_reducible assumption) ?_) | (refine keeps_of_fst (by with_reducible assumption) ?_) | split)

theorem State.bootManifest_keeps {z0 : State} {s : State}  (hK : Keeps z0 s) :
    Keeps z0 (State.bootManifest s) := by
  unfold State.bootManifest
  try dsimp only
  repeat' (first | with_reducible assumption | with_reducible apply State.deviates_keeps | with_reducible apply State.bootLoad_keeps | with_reducible apply State.setBoot_keeps | with_reducible apply State.mfReject_keeps | with_reducible apply keeps_ite | with_reducible apply keeps_foldl | fail_if_no_progress (with_reducible apply keeps_other) | with_reducible apply keeps_dropRegs | with_reducible apply keeps_dropMem | with_reducible apply keeps_dropBoth | (intro _; intros) | (refine keeps_of_some (by with_reducible assumption) ?_) | (refine keeps_of_fst (by with_reducible assumption) ?_) | split)

theorem State.bootGoesOn_keeps {z0 : State} {s : State}  (hK : Keeps z0 s) :
    Keeps z0 (State.bootGoesOn s) := by
  unfold State.bootGoesOn
  try dsimp only
  repeat' (first | with_reducible assumption | with_reducible apply State.bootManifest_keeps | with_reducible apply State.bootRestore_keeps | with_reducible apply State.setBoot_keeps | with_reducible apply keeps_ite | with_reducible apply keeps_foldl | fail_if_no_progress (with_reducible apply keeps_other) | with_reducible apply keeps_dropRegs | with_reducible apply keeps_dropMem | with_reducible apply keeps_dropBoth | (intro _; intros) | (refine keeps_of_some (by with_reducible assumption) ?_) | (refine keeps_of_fst (by with_reducible assumption) ?_) | split)

theorem execSignboardRebuilt_keeps {z0 : State} {s : State}  (hK : Keeps z0 s) :
    KeepsOut z0 (execSignboardRebuilt s) := by
  unfold execSignboardRebuilt
  try dsimp only
  repeat' (first | with_reducible assumption | with_reducible apply State.bootGoesOn_keeps | with_reducible apply State.signCheck_keeps | with_reducible apply State.raise_keeps | with_reducible apply keeps_ite | with_reducible apply keeps_foldl | with_reducible apply keepsOut_next | with_reducible apply keepsOut_ite | fail_if_no_progress (with_reducible apply keeps_other) | with_reducible apply keeps_dropRegs | with_reducible apply keeps_dropMem | with_reducible apply keeps_dropBoth | (intro _; intros) | (refine keeps_of_some (by with_reducible assumption) ?_) | (refine keeps_of_fst (by with_reducible assumption) ?_) | split)

theorem execFirmwareReady_keeps {z0 : State} {s : State}  (hK : Keeps z0 s) :
    KeepsOut z0 (execFirmwareReady s) := by
  unfold execFirmwareReady
  try dsimp only
  repeat' (first | with_reducible assumption | with_reducible apply State.setFw_keeps | with_reducible apply State.notice_keeps | with_reducible apply State.raise_keeps | with_reducible apply keeps_ite | with_reducible apply keeps_foldl | with_reducible apply keepsOut_next | with_reducible apply keepsOut_ite | fail_if_no_progress (with_reducible apply keeps_other) | with_reducible apply keeps_dropRegs | with_reducible apply keeps_dropMem | with_reducible apply keeps_dropBoth | (intro _; intros) | (refine keeps_of_some (by with_reducible assumption) ?_) | (refine keeps_of_fst (by with_reducible assumption) ?_) | split)

theorem State.semTake_keeps {z0 : State} {s : State} (m : Nat) (n : Nat)  (hK : Keeps z0 s) :
    Keeps z0 (State.semTake s m n) := by
  unfold State.semTake
  try dsimp only
  repeat' (first | with_reducible assumption | with_reducible apply State.setSem_keeps | with_reducible apply keeps_ite | with_reducible apply keeps_foldl | fail_if_no_progress (with_reducible apply keeps_other) | with_reducible apply keeps_dropRegs | with_reducible apply keeps_dropMem | with_reducible apply keeps_dropBoth | (intro _; intros) | (refine keeps_of_some (by with_reducible assumption) ?_) | (refine keeps_of_fst (by with_reducible assumption) ?_) | split)

theorem State.semPut_keeps {z0 : State} {s : State} (m : Nat) (n : Nat) (v : Word)  (hK : Keeps z0 s) :
    Keeps z0 (State.semPut s m n v) := by
  unfold State.semPut
  try dsimp only
  repeat' (first | with_reducible assumption | with_reducible apply State.setSem_keeps | with_reducible apply State.count_keeps | with_reducible apply State.raise_keeps | with_reducible apply keeps_ite | with_reducible apply keeps_foldl | fail_if_no_progress (with_reducible apply keeps_other) | with_reducible apply keeps_dropRegs | with_reducible apply keeps_dropMem | with_reducible apply keeps_dropBoth | (intro _; intros) | (refine keeps_of_some (by with_reducible assumption) ?_) | (refine keeps_of_fst (by with_reducible assumption) ?_) | split)

theorem execSemWrite_keeps {z0 : State} (m : Master) (n : Fin 32) (v : Word) {s : State}  (hK : Keeps z0 s) :
    KeepsOut z0 (execSemWrite m n v s) := by
  unfold execSemWrite
  try dsimp only
  repeat' (first | with_reducible assumption | with_reducible apply State.semPut_keeps | with_reducible apply keeps_ite | with_reducible apply keeps_foldl | with_reducible apply keepsOut_next | with_reducible apply keepsOut_ite | fail_if_no_progress (with_reducible apply keeps_other) | with_reducible apply keeps_dropRegs | with_reducible apply keeps_dropMem | with_reducible apply keeps_dropBoth | (intro _; intros) | (refine keeps_of_some (by with_reducible assumption) ?_) | (refine keeps_of_fst (by with_reducible assumption) ?_) | split)

theorem execSemRead_keeps {z0 : State} (m : Master) (n : Fin 32) {s : State}  (hK : Keeps z0 s) :
    KeepsOut z0 (execSemRead m n s) := by
  unfold execSemRead
  try dsimp only
  repeat' (first | with_reducible assumption | with_reducible apply State.semTake_keeps | with_reducible apply State.ans_keeps | with_reducible apply keeps_ite | with_reducible apply keeps_foldl | with_reducible apply keepsOut_next | with_reducible apply keepsOut_ite | fail_if_no_progress (with_reducible apply keeps_other) | with_reducible apply keeps_dropRegs | with_reducible apply keeps_dropMem | with_reducible apply keeps_dropBoth | (intro _; intros) | (refine keeps_of_some (by with_reducible assumption) ?_) | (refine keeps_of_fst (by with_reducible assumption) ?_) | split)

theorem State.softReset_keeps {z0 : State} {s : State}  (hK : Keeps z0 s) :
    Keeps z0 (State.softReset s) := by
  unfold State.softReset
  try dsimp only
  repeat' (first | with_reducible assumption | with_reducible apply State.resetFor_keeps | with_reducible apply State.setPower_keeps | with_reducible apply keeps_ite | with_reducible apply keeps_foldl | fail_if_no_progress (with_reducible apply keeps_other) | with_reducible apply keeps_dropRegs | with_reducible apply keeps_dropMem | with_reducible apply keeps_dropBoth | (intro _; intros) | (refine keeps_of_some (by with_reducible assumption) ?_) | (refine keeps_of_fst (by with_reducible assumption) ?_) | split)

theorem execSysSoftReset_keeps {z0 : State} (m : Master) (v : Word) {s : State}  (hK : Keeps z0 s) :
    KeepsOut z0 (execSysSoftReset m v s) := by
  unfold execSysSoftReset
  try dsimp only
  repeat' (first | with_reducible assumption | with_reducible apply State.softReset_keeps | with_reducible apply State.guarded_keeps | with_reducible apply keeps_ite | with_reducible apply keeps_foldl | with_reducible apply keepsOut_next | with_reducible apply keepsOut_ite | fail_if_no_progress (with_reducible apply keeps_other) | with_reducible apply keeps_dropRegs | with_reducible apply keeps_dropMem | with_reducible apply keeps_dropBoth | (intro _; intros) | (refine keeps_of_some (by with_reducible assumption) ?_) | (refine keeps_of_fst (by with_reducible assumption) ?_) | split)

theorem State.readEffect_keeps {z0 : State} {s : State} (m : Nat) (lm : Nat) (b : Nat) (off : Nat)  (hK : Keeps z0 s) :
    Keeps z0 (State.readEffect s m lm b off) := by
  unfold State.readEffect
  try dsimp only
  repeat' (first | with_reducible assumption | with_reducible apply State.semTake_keeps | with_reducible apply State.popFifo_keeps | with_reducible apply State.twcPop_keeps | with_reducible apply State.readInCount_keeps | with_reducible apply State.setLatch_keeps | with_reducible apply keeps_ite | with_reducible apply keeps_foldl | fail_if_no_progress (with_reducible apply keeps_other) | with_reducible apply keeps_dropRegs | with_reducible apply keeps_dropMem | with_reducible apply keeps_dropBoth | (intro _; intros) | (refine keeps_of_some (by with_reducible assumption) ?_) | (refine keeps_of_fst (by with_reducible assumption) ?_) | split)

theorem State.regRead_keeps {z0 : State} {s : State} (m : Nat) (lm : Nat) (b : Nat) (off : Nat)  (hK : Keeps z0 s) :
    Keeps z0 (State.regRead s m lm b off) := by
  unfold State.regRead
  try dsimp only
  repeat' (first | with_reducible assumption | with_reducible apply State.readEffect_keeps | with_reducible apply State.ans_keeps | with_reducible apply keeps_ite | with_reducible apply keeps_foldl | fail_if_no_progress (with_reducible apply keeps_other) | with_reducible apply keeps_dropRegs | with_reducible apply keeps_dropMem | with_reducible apply keeps_dropBoth | (intro _; intros) | (refine keeps_of_some (by with_reducible assumption) ?_) | (refine keeps_of_fst (by with_reducible assumption) ?_) | split)

theorem State.busRead_keeps {z0 : State} {s : State} (m : Nat) (lm : Nat) (wd : Width) (a : Nat) (wait : Bool)  (hK : Keeps z0 s) :
    Keeps z0 (State.busRead s m lm wd a wait) := by
  unfold State.busRead
  try dsimp only
  repeat' (first | with_reducible assumption | with_reducible apply State.regRead_keeps | with_reducible apply State.accessFail_keeps | with_reducible apply State.sendFrame_keeps | with_reducible apply State.ans_keeps | with_reducible apply State.useFresh_keeps | with_reducible apply keeps_ite | with_reducible apply keeps_foldl | fail_if_no_progress (with_reducible apply keeps_other) | with_reducible apply keeps_dropRegs | with_reducible apply keeps_dropMem | with_reducible apply keeps_dropBoth | (intro _; intros) | (refine keeps_of_some (by with_reducible assumption) ?_) | (refine keeps_of_fst (by with_reducible assumption) ?_) | split)

theorem State.unitWrite_keeps {z0 : State} {s : State} (m : Nat) (lm : Nat) (w : Nat) (off : Nat) (v : Word)  (hK : Keeps z0 s) :
    Keeps z0 (State.unitWrite s m lm w off v) := by
  unfold State.unitWrite
  try dsimp only
  repeat' (first | with_reducible assumption | with_reducible apply State.unitWritten_keeps | with_reducible apply State.writeCtl_keeps | with_reducible apply State.triggered_keeps | with_reducible apply State.writeQProd_keeps | with_reducible apply State.writeQCons_keeps | with_reducible apply State.store64_keeps | with_reducible apply State.store_keeps | with_reducible apply State.guarded_keeps | with_reducible apply keeps_ite | with_reducible apply keeps_foldl | fail_if_no_progress (with_reducible apply keeps_other) | with_reducible apply keeps_dropRegs | with_reducible apply keeps_dropMem | with_reducible apply keeps_dropBoth | (intro _; intros) | (refine keeps_of_some (by with_reducible assumption) ?_) | (refine keeps_of_fst (by with_reducible assumption) ?_) | split)

theorem State.pigeonWrite_keeps {z0 : State} {s : State} (m : Nat) (off : Nat) (v : Word)  (hK : Keeps z0 s) :
    Keeps z0 (State.pigeonWrite s m off v) := by
  unfold State.pigeonWrite
  try dsimp only
  repeat' (first | with_reducible assumption | with_reducible apply State.withSummaries_keeps | with_reducible apply State.writePhStat_keeps | with_reducible apply State.tdPush_keeps | with_reducible apply State.pushFifo_keeps | with_reducible apply State.store_keeps | with_reducible apply State.guarded_keeps | with_reducible apply State.ringBells_keeps | with_reducible apply keeps_ite | with_reducible apply keeps_foldl | fail_if_no_progress (with_reducible apply keeps_other) | with_reducible apply keeps_dropRegs | with_reducible apply keeps_dropMem | with_reducible apply keeps_dropBoth | (intro _; intros) | (refine keeps_of_some (by with_reducible assumption) ?_) | (refine keeps_of_fst (by with_reducible assumption) ?_) | split)

theorem State.clkWrite_keeps {z0 : State} {s : State} (m : Nat) (lm : Nat) (off : Nat) (v : Word)  (hK : Keeps z0 s) :
    Keeps z0 (State.clkWrite s m lm off v) := by
  unfold State.clkWrite
  try dsimp only
  repeat' (first | with_reducible assumption | with_reducible apply State.loadEpoch_keeps | with_reducible apply State.refCfgWritten_keeps | with_reducible apply State.trimBy_keeps | with_reducible apply State.outWritten_keeps | with_reducible apply State.store64_keeps | with_reducible apply State.store_keeps | with_reducible apply State.guarded_keeps | with_reducible apply keeps_ite | with_reducible apply keeps_foldl | fail_if_no_progress (with_reducible apply keeps_other) | with_reducible apply keeps_dropRegs | with_reducible apply keeps_dropMem | with_reducible apply keeps_dropBoth | (intro _; intros) | (refine keeps_of_some (by with_reducible assumption) ?_) | (refine keeps_of_fst (by with_reducible assumption) ?_) | split)

theorem State.kprWrite_keeps {z0 : State} {s : State} (m : Nat) (lm : Nat) (off : Nat) (v : Word)  (hK : Keeps z0 s) :
    Keeps z0 (State.kprWrite s m lm off v) := by
  unfold State.kprWrite
  try dsimp only
  repeat' (first | with_reducible assumption | with_reducible apply State.rtcCtl_keeps | with_reducible apply State.store64_keeps | with_reducible apply State.store_keeps | with_reducible apply State.guarded_keeps | with_reducible apply State.useFresh_keeps | with_reducible apply keeps_ite | with_reducible apply keeps_foldl | fail_if_no_progress (with_reducible apply keeps_other) | with_reducible apply keeps_dropRegs | with_reducible apply keeps_dropMem | with_reducible apply keeps_dropBoth | (intro _; intros) | (refine keeps_of_some (by with_reducible assumption) ?_) | (refine keeps_of_fst (by with_reducible assumption) ?_) | split)

theorem State.sysWrite_keeps {z0 : State} {s : State} (m : Nat) (off : Nat) (v : Word)  (hK : Keeps z0 s) :
    Keeps z0 (State.sysWrite s m off v) := by
  unfold State.sysWrite
  try dsimp only
  repeat' (first | with_reducible assumption | with_reducible apply State.softReset_keeps | with_reducible apply State.semPut_keeps | with_reducible apply State.store_keeps | with_reducible apply State.guarded_keeps | with_reducible apply keeps_ite | with_reducible apply keeps_foldl | fail_if_no_progress (with_reducible apply keeps_other) | with_reducible apply keeps_dropRegs | with_reducible apply keeps_dropMem | with_reducible apply keeps_dropBoth | (intro _; intros) | (refine keeps_of_some (by with_reducible assumption) ?_) | (refine keeps_of_fst (by with_reducible assumption) ?_) | split)

theorem State.eventsWrite_keeps {z0 : State} {s : State} (m : Nat) (off : Nat) (v : Word)  (hK : Keeps z0 s) :
    Keeps z0 (State.eventsWrite s m off v) := by
  unfold State.eventsWrite
  try dsimp only
  repeat' (first | with_reducible assumption | with_reducible apply State.clearLatches_keeps | with_reducible apply State.store_keeps | with_reducible apply State.guarded_keeps | with_reducible apply keeps_ite | with_reducible apply keeps_foldl | fail_if_no_progress (with_reducible apply keeps_other) | with_reducible apply keeps_dropRegs | with_reducible apply keeps_dropMem | with_reducible apply keeps_dropBoth | (intro _; intros) | (refine keeps_of_some (by with_reducible assumption) ?_) | (refine keeps_of_fst (by with_reducible assumption) ?_) | split)

theorem State.ferryWrite_keeps {z0 : State} {s : State} (m : Nat) (off : Nat) (v : Word)  (hK : Keeps z0 s) :
    Keeps z0 (State.ferryWrite s m off v) := by
  unfold State.ferryWrite
  try dsimp only
  repeat' (first | with_reducible assumption | with_reducible apply State.pairCfg_keeps | with_reducible apply State.store_keeps | with_reducible apply State.guarded_keeps | with_reducible apply keeps_ite | with_reducible apply keeps_foldl | fail_if_no_progress (with_reducible apply keeps_other) | with_reducible apply keeps_dropRegs | with_reducible apply keeps_dropMem | with_reducible apply keeps_dropBoth | (intro _; intros) | (refine keeps_of_some (by with_reducible assumption) ?_) | (refine keeps_of_fst (by with_reducible assumption) ?_) | split)

theorem State.regWrite_keeps {z0 : State} {s : State} (m : Nat) (lm : Nat) (b : Nat) (off : Nat) (v : Word)  (hK : Keeps z0 s) :
    Keeps z0 (State.regWrite s m lm b off v) := by
  unfold State.regWrite
  try dsimp only
  repeat' (first | with_reducible assumption | with_reducible apply State.ferryWrite_keeps | with_reducible apply State.eventsWrite_keeps | with_reducible apply State.sysWrite_keeps | with_reducible apply State.kprWrite_keeps | with_reducible apply State.clkWrite_keeps | with_reducible apply State.pigeonWrite_keeps | with_reducible apply State.unitWrite_keeps | with_reducible apply State.writeNvCtl_keeps | with_reducible apply State.store_keeps | with_reducible apply State.guarded_keeps | with_reducible apply keeps_ite | with_reducible apply keeps_foldl | fail_if_no_progress (with_reducible apply keeps_other) | with_reducible apply keeps_dropRegs | with_reducible apply keeps_dropMem | with_reducible apply keeps_dropBoth | (intro _; intros) | (refine keeps_of_some (by with_reducible assumption) ?_) | (refine keeps_of_fst (by with_reducible assumption) ?_) | split)

theorem State.storeHit_keeps {z0 : State} {s : State}  (hK : Keeps z0 s) :
    Keeps z0 (State.storeHit s) := by
  unfold State.storeHit
  try dsimp only
  repeat' (first | with_reducible assumption | with_reducible apply State.setHs_keeps | with_reducible apply keeps_ite | with_reducible apply keeps_foldl | with_reducible apply keepsOpt_getD | fail_if_no_progress (with_reducible apply keeps_other) | with_reducible apply keeps_dropRegs | with_reducible apply keeps_dropMem | with_reducible apply keeps_dropBoth | (intro _; intros) | (refine keeps_of_some (by with_reducible assumption) ?_) | (refine keeps_of_fst (by with_reducible assumption) ?_) | split)

theorem State.memWrite_keeps {z0 : State} {s : State} (m : Nat) (wd : Width) (a : Nat) (v : Word)  (hK : Keeps z0 s) :
    Keeps z0 (State.memWrite s m wd a v) := by
  unfold State.memWrite
  try dsimp only
  repeat' (first | with_reducible assumption | with_reducible apply State.storeHit_keeps | with_reducible apply State.mirrorWrite_keeps | with_reducible apply State.wrBytes_keeps | with_reducible apply keeps_ite | with_reducible apply keeps_foldl | fail_if_no_progress (with_reducible apply keeps_other) | with_reducible apply keeps_dropRegs | with_reducible apply keeps_dropMem | with_reducible apply keeps_dropBoth | (intro _; intros) | (refine keeps_of_some (by with_reducible assumption) ?_) | (refine keeps_of_fst (by with_reducible assumption) ?_) | split)

theorem State.busWrite_keeps {z0 : State} {s : State} (m : Nat) (lm : Nat) (wd : Width) (a : Nat) (v : Word)  (hK : Keeps z0 s) :
    Keeps z0 (State.busWrite s m lm wd a v) := by
  unfold State.busWrite
  try dsimp only
  repeat' (first | with_reducible assumption | with_reducible apply State.memWrite_keeps | with_reducible apply State.regWrite_keeps | with_reducible apply State.accessFail_keeps | with_reducible apply State.sendFrame_keeps | with_reducible apply keeps_ite | with_reducible apply keeps_foldl | fail_if_no_progress (with_reducible apply keeps_other) | with_reducible apply keeps_dropRegs | with_reducible apply keeps_dropMem | with_reducible apply keeps_dropBoth | (intro _; intros) | (refine keeps_of_some (by with_reducible assumption) ?_) | (refine keeps_of_fst (by with_reducible assumption) ?_) | split)

theorem execRegisterWrite_keeps {z0 : State} (m : Master) (wd : Width) (addr : Word) (v : Word) {s : State}  (hK : Keeps z0 s) :
    KeepsOut z0 (execRegisterWrite m wd addr v s) := by
  unfold execRegisterWrite
  try dsimp only
  repeat' (first | with_reducible assumption | with_reducible apply State.busWrite_keeps | with_reducible apply keeps_ite | with_reducible apply keeps_foldl | with_reducible apply keepsOut_next | with_reducible apply keepsOut_ite | fail_if_no_progress (with_reducible apply keeps_other) | with_reducible apply keeps_dropRegs | with_reducible apply keeps_dropMem | with_reducible apply keeps_dropBoth | (intro _; intros) | (refine keeps_of_some (by with_reducible assumption) ?_) | (refine keeps_of_fst (by with_reducible assumption) ?_) | split)

theorem execLowWordRead_keeps {z0 : State} (m : Master) (addr : Word) {s : State}  (hK : Keeps z0 s) :
    KeepsOut z0 (execLowWordRead m addr s) := by
  unfold execLowWordRead
  try dsimp only
  repeat' (first | with_reducible assumption | with_reducible apply State.busRead_keeps | with_reducible apply keeps_ite | with_reducible apply keeps_foldl | with_reducible apply keepsOut_next | with_reducible apply keepsOut_ite | fail_if_no_progress (with_reducible apply keeps_other) | with_reducible apply keeps_dropRegs | with_reducible apply keeps_dropMem | with_reducible apply keeps_dropBoth | (intro _; intros) | (refine keeps_of_some (by with_reducible assumption) ?_) | (refine keeps_of_fst (by with_reducible assumption) ?_) | split)

theorem execCounterRestart_keeps {z0 : State} (m : Master) (addr : Word) (v : Word) {s : State}  (hK : Keeps z0 s) :
    KeepsOut z0 (execCounterRestart m addr v s) := by
  unfold execCounterRestart
  try dsimp only
  repeat' (first | with_reducible assumption | with_reducible apply State.busWrite_keeps | with_reducible apply keeps_ite | with_reducible apply keeps_foldl | with_reducible apply keepsOut_next | with_reducible apply keepsOut_ite | fail_if_no_progress (with_reducible apply keeps_other) | with_reducible apply keeps_dropRegs | with_reducible apply keeps_dropMem | with_reducible apply keeps_dropBoth | (intro _; intros) | (refine keeps_of_some (by with_reducible assumption) ?_) | (refine keeps_of_fst (by with_reducible assumption) ?_) | split)

theorem execPeakRestart_keeps {z0 : State} (m : Master) (addr : Word) (v : Word) {s : State}  (hK : Keeps z0 s) :
    KeepsOut z0 (execPeakRestart m addr v s) := by
  unfold execPeakRestart
  try dsimp only
  repeat' (first | with_reducible assumption | with_reducible apply State.busWrite_keeps | with_reducible apply keeps_ite | with_reducible apply keeps_foldl | with_reducible apply keepsOut_next | with_reducible apply keepsOut_ite | fail_if_no_progress (with_reducible apply keeps_other) | with_reducible apply keeps_dropRegs | with_reducible apply keeps_dropMem | with_reducible apply keeps_dropBoth | (intro _; intros) | (refine keeps_of_some (by with_reducible assumption) ?_) | (refine keeps_of_fst (by with_reducible assumption) ?_) | split)

theorem execPartnerWindowRead_keeps {z0 : State} (m : Master) (wd : Width) (addr : Word) {s : State}  (hK : Keeps z0 s) :
    KeepsOut z0 (execPartnerWindowRead m wd addr s) := by
  unfold execPartnerWindowRead
  try dsimp only
  repeat' (first | with_reducible assumption | with_reducible apply State.busRead_keeps | with_reducible apply keeps_ite | with_reducible apply keeps_foldl | with_reducible apply keepsOut_next | with_reducible apply keepsOut_ite | fail_if_no_progress (with_reducible apply keeps_other) | with_reducible apply keeps_dropRegs | with_reducible apply keeps_dropMem | with_reducible apply keeps_dropBoth | (intro _; intros) | (refine keeps_of_some (by with_reducible assumption) ?_) | (refine keeps_of_fst (by with_reducible assumption) ?_) | split)

theorem execPartnerWindowWrite_keeps {z0 : State} (m : Master) (wd : Width) (addr : Word) (v : Word) {s : State}  (hK : Keeps z0 s) :
    KeepsOut z0 (execPartnerWindowWrite m wd addr v s) := by
  unfold execPartnerWindowWrite
  try dsimp only
  repeat' (first | with_reducible assumption | with_reducible apply State.busWrite_keeps | with_reducible apply keeps_ite | with_reducible apply keeps_foldl | with_reducible apply keepsOut_next | with_reducible apply keepsOut_ite | fail_if_no_progress (with_reducible apply keeps_other) | with_reducible apply keeps_dropRegs | with_reducible apply keeps_dropMem | with_reducible apply keeps_dropBoth | (intro _; intros) | (refine keeps_of_some (by with_reducible assumption) ?_) | (refine keeps_of_fst (by with_reducible assumption) ?_) | split)

theorem State.qspiError_keeps {z0 : State} {s : State} (code : Nat)  (hK : Keeps z0 s) :
    Keeps z0 (State.qspiError s code) := by
  unfold State.qspiError
  try dsimp only
  repeat' (first | with_reducible assumption | with_reducible apply State.count_keeps | with_reducible apply State.raise_keeps | with_reducible apply State.put_keeps | with_reducible apply keeps_ite | with_reducible apply keeps_foldl | fail_if_no_progress (with_reducible apply keeps_other) | with_reducible apply keeps_dropRegs | with_reducible apply keeps_dropMem | with_reducible apply keeps_dropBoth | (intro _; intros) | (refine keeps_of_some (by with_reducible assumption) ?_) | (refine keeps_of_fst (by with_reducible assumption) ?_) | split)

theorem State.twtCode_keeps {z0 : State} {s : State} (code : Nat)  (hK : Keeps z0 s) :
    Keeps z0 (State.twtCode s code) := by
  unfold State.twtCode
  try dsimp only
  repeat' (first | with_reducible assumption | with_reducible apply State.put_keeps | with_reducible apply keeps_ite | with_reducible apply keeps_foldl | fail_if_no_progress (with_reducible apply keeps_other) | with_reducible apply keeps_dropRegs | with_reducible apply keeps_dropMem | with_reducible apply keeps_dropBoth | (intro _; intros) | (refine keeps_of_some (by with_reducible assumption) ?_) | (refine keeps_of_fst (by with_reducible assumption) ?_) | split)

theorem State.twtError_keeps {z0 : State} {s : State} (code : Nat)  (hK : Keeps z0 s) :
    Keeps z0 (State.twtError s code) := by
  unfold State.twtError
  try dsimp only
  repeat' (first | with_reducible assumption | with_reducible apply State.twtCode_keeps | with_reducible apply State.count_keeps | with_reducible apply State.raise_keeps | with_reducible apply keeps_ite | with_reducible apply keeps_foldl | fail_if_no_progress (with_reducible apply keeps_other) | with_reducible apply keeps_dropRegs | with_reducible apply keeps_dropMem | with_reducible apply keeps_dropBoth | (intro _; intros) | (refine keeps_of_some (by with_reducible assumption) ?_) | (refine keeps_of_fst (by with_reducible assumption) ?_) | split)

theorem State.csRise_keeps {z0 : State} {s : State}  (hK : Keeps z0 s) :
    Keeps z0 (State.csRise s) := by
  unfold State.csRise
  try dsimp only
  repeat' (first | with_reducible assumption | with_reducible apply State.put_keeps | with_reducible apply keeps_ite | with_reducible apply keeps_foldl | fail_if_no_progress (with_reducible apply keeps_other) | with_reducible apply keeps_dropRegs | with_reducible apply keeps_dropMem | with_reducible apply keeps_dropBoth | (intro _; intros) | (refine keeps_of_some (by with_reducible assumption) ?_) | (refine keeps_of_fst (by with_reducible assumption) ?_) | split)

theorem State.readBurst_keeps {z0 s : State} (m step n a : Nat) (got : List Word) (h : Keeps z0 s) :
    Keeps z0 (s.readBurst m step n a got) := by
  induction n generalizing s a got with
  | zero => exact State.ans_keeps _ h
  | succ n ih => exact ih _ _ (State.busRead_keeps _ _ _ _ _ h)

theorem State.writeBurst_keeps {z0 s : State} (m step : Nat) (vs : List Word) (a : Nat) (h : Keeps z0 s) :
    Keeps z0 (s.writeBurst m step vs a) := by
  induction vs generalizing s a with
  | nil => exact h
  | cons v vs ih => exact ih _ (State.busWrite_keeps _ _ _ _ _ h)

theorem State.readWait_keeps {z0 : State} {s : State} (delay : Nat)  (hK : Keeps z0 s) :
    Keeps z0 (State.readWait s delay) := by
  unfold State.readWait
  try dsimp only
  repeat' (first | with_reducible assumption | with_reducible apply State.qspiError_keeps | with_reducible apply State.count_keeps | with_reducible apply keeps_ite | with_reducible apply keeps_foldl | fail_if_no_progress (with_reducible apply keeps_other) | with_reducible apply keeps_dropRegs | with_reducible apply keeps_dropMem | with_reducible apply keeps_dropBoth | (intro _; intros) | (refine keeps_of_some (by with_reducible assumption) ?_) | (refine keeps_of_fst (by with_reducible assumption) ?_) | split)

theorem State.qspiRead_keeps {z0 : State} {s : State} (step : Nat) (a : Nat) (n : Nat) (delay : Nat)  (hK : Keeps z0 s) :
    Keeps z0 (State.qspiRead s step a n delay) := by
  unfold State.qspiRead
  try dsimp only
  repeat' (first | with_reducible assumption | with_reducible apply State.readWait_keeps | with_reducible apply State.readBurst_keeps | with_reducible apply keeps_ite | with_reducible apply keeps_foldl | fail_if_no_progress (with_reducible apply keeps_other) | with_reducible apply keeps_dropRegs | with_reducible apply keeps_dropMem | with_reducible apply keeps_dropBoth | (intro _; intros) | (refine keeps_of_some (by with_reducible assumption) ?_) | (refine keeps_of_fst (by with_reducible assumption) ?_) | split)

theorem State.qspiWrite_keeps {z0 : State} {s : State} (step : Nat) (a : Nat) (data : List Word) (cut : Bool)  (hK : Keeps z0 s) :
    Keeps z0 (State.qspiWrite s step a data cut) := by
  unfold State.qspiWrite
  try dsimp only
  repeat' (first | with_reducible assumption | with_reducible apply State.writeBurst_keeps | with_reducible apply State.qspiError_keeps | with_reducible apply keeps_ite | with_reducible apply keeps_foldl | fail_if_no_progress (with_reducible apply keeps_other) | with_reducible apply keeps_dropRegs | with_reducible apply keeps_dropMem | with_reducible apply keeps_dropBoth | (intro _; intros) | (refine keeps_of_some (by with_reducible assumption) ?_) | (refine keeps_of_fst (by with_reducible assumption) ?_) | split)

theorem execQspiRead_keeps {z0 : State} (addr : Word) (n : Nat) (delay : Fin 3) {s : State}  (hK : Keeps z0 s) :
    KeepsOut z0 (execQspiRead addr n delay s) := by
  unfold execQspiRead
  try dsimp only
  repeat' (first | with_reducible assumption | with_reducible apply State.qspiRead_keeps | with_reducible apply State.csRise_keeps | with_reducible apply keeps_ite | with_reducible apply keeps_foldl | with_reducible apply keepsOut_next | with_reducible apply keepsOut_ite | fail_if_no_progress (with_reducible apply keeps_other) | with_reducible apply keeps_dropRegs | with_reducible apply keeps_dropMem | with_reducible apply keeps_dropBoth | (intro _; intros) | (refine keeps_of_some (by with_reducible assumption) ?_) | (refine keeps_of_fst (by with_reducible assumption) ?_) | split)

theorem execQspiReadFixed_keeps {z0 : State} (addr : Word) (n : Nat) (delay : Fin 3) {s : State}  (hK : Keeps z0 s) :
    KeepsOut z0 (execQspiReadFixed addr n delay s) := by
  unfold execQspiReadFixed
  try dsimp only
  repeat' (first | with_reducible assumption | with_reducible apply State.qspiRead_keeps | with_reducible apply State.csRise_keeps | with_reducible apply keeps_ite | with_reducible apply keeps_foldl | with_reducible apply keepsOut_next | with_reducible apply keepsOut_ite | fail_if_no_progress (with_reducible apply keeps_other) | with_reducible apply keeps_dropRegs | with_reducible apply keeps_dropMem | with_reducible apply keeps_dropBoth | (intro _; intros) | (refine keeps_of_some (by with_reducible assumption) ?_) | (refine keeps_of_fst (by with_reducible assumption) ?_) | split)

theorem execQspiWrite_keeps {z0 : State} (addr : Word) (data : List Word) (cut : Bool) {s : State}  (hK : Keeps z0 s) :
    KeepsOut z0 (execQspiWrite addr data cut s) := by
  unfold execQspiWrite
  try dsimp only
  repeat' (first | with_reducible assumption | with_reducible apply State.qspiWrite_keeps | with_reducible apply State.csRise_keeps | with_reducible apply keeps_ite | with_reducible apply keeps_foldl | with_reducible apply keepsOut_next | with_reducible apply keepsOut_ite | fail_if_no_progress (with_reducible apply keeps_other) | with_reducible apply keeps_dropRegs | with_reducible apply keeps_dropMem | with_reducible apply keeps_dropBoth | (intro _; intros) | (refine keeps_of_some (by with_reducible assumption) ?_) | (refine keeps_of_fst (by with_reducible assumption) ?_) | split)

theorem execQspiWriteFixed_keeps {z0 : State} (addr : Word) (data : List Word) (cut : Bool) {s : State}  (hK : Keeps z0 s) :
    KeepsOut z0 (execQspiWriteFixed addr data cut s) := by
  unfold execQspiWriteFixed
  try dsimp only
  repeat' (first | with_reducible assumption | with_reducible apply State.qspiWrite_keeps | with_reducible apply State.csRise_keeps | with_reducible apply keeps_ite | with_reducible apply keeps_foldl | with_reducible apply keepsOut_next | with_reducible apply keepsOut_ite | fail_if_no_progress (with_reducible apply keeps_other) | with_reducible apply keeps_dropRegs | with_reducible apply keeps_dropMem | with_reducible apply keeps_dropBoth | (intro _; intros) | (refine keeps_of_some (by with_reducible assumption) ?_) | (refine keeps_of_fst (by with_reducible assumption) ?_) | split)

theorem execQspiStatus_keeps {z0 : State} (n : Nat) {s : State}  (hK : Keeps z0 s) :
    KeepsOut z0 (execQspiStatus n s) := by
  unfold execQspiStatus
  try dsimp only
  repeat' (first | with_reducible assumption | with_reducible apply State.csRise_keeps | with_reducible apply State.ans_keeps | with_reducible apply keeps_ite | with_reducible apply keeps_foldl | with_reducible apply keepsOut_next | with_reducible apply keepsOut_ite | fail_if_no_progress (with_reducible apply keeps_other) | with_reducible apply keeps_dropRegs | with_reducible apply keeps_dropMem | with_reducible apply keeps_dropBoth | (intro _; intros) | (refine keeps_of_some (by with_reducible assumption) ?_) | (refine keeps_of_fst (by with_reducible assumption) ?_) | split)

theorem execQspiProtocolReset_keeps {z0 : State} {s : State}  (hK : Keeps z0 s) :
    KeepsOut z0 (execQspiProtocolReset s) := by
  unfold execQspiProtocolReset
  try dsimp only
  repeat' (first | with_reducible assumption | with_reducible apply State.put_keeps | with_reducible apply keeps_ite | with_reducible apply keeps_foldl | with_reducible apply keepsOut_next | with_reducible apply keepsOut_ite | fail_if_no_progress (with_reducible apply keeps_other) | with_reducible apply keeps_dropRegs | with_reducible apply keeps_dropMem | with_reducible apply keeps_dropBoth | (intro _; intros) | (refine keeps_of_some (by with_reducible assumption) ?_) | (refine keeps_of_fst (by with_reducible assumption) ?_) | split)

theorem execHspiCfgTakesEffect_keeps {z0 : State} {s : State}  (hK : Keeps z0 s) :
    KeepsOut z0 (execHspiCfgTakesEffect s) := by
  unfold execHspiCfgTakesEffect
  try dsimp only
  repeat' (first | with_reducible assumption | with_reducible apply State.put_keeps | with_reducible apply keeps_ite | with_reducible apply keeps_foldl | with_reducible apply keepsOut_next | with_reducible apply keepsOut_ite | fail_if_no_progress (with_reducible apply keeps_other) | with_reducible apply keeps_dropRegs | with_reducible apply keeps_dropMem | with_reducible apply keeps_dropBoth | (intro _; intros) | (refine keeps_of_some (by with_reducible assumption) ?_) | (refine keeps_of_fst (by with_reducible assumption) ?_) | split)

theorem execQspiUnknownOpcode_keeps {z0 : State} (opcode : BitVec 8) {s : State}  (hK : Keeps z0 s) :
    KeepsOut z0 (execQspiUnknownOpcode opcode s) := by
  unfold execQspiUnknownOpcode
  try dsimp only
  repeat' (first | with_reducible assumption | with_reducible apply State.csRise_keeps | with_reducible apply State.qspiError_keeps | with_reducible apply keeps_ite | with_reducible apply keeps_foldl | with_reducible apply keepsOut_next | with_reducible apply keepsOut_ite | fail_if_no_progress (with_reducible apply keeps_other) | with_reducible apply keeps_dropRegs | with_reducible apply keeps_dropMem | with_reducible apply keeps_dropBoth | (intro _; intros) | (refine keeps_of_some (by with_reducible assumption) ?_) | (refine keeps_of_fst (by with_reducible assumption) ?_) | split)

theorem State.qread_keeps {z0 : State} {s : State} (w : Nat) (max : Nat) (sent : Nat)  (hK : Keeps z0 s) :
    Keeps z0 (State.qread s w max sent) := by
  unfold State.qread
  try dsimp only
  repeat' (first | with_reducible assumption | with_reducible apply State.consTo_keeps | with_reducible apply State.ans_keeps | with_reducible apply keeps_ite | with_reducible apply keeps_foldl | fail_if_no_progress (with_reducible apply keeps_other) | with_reducible apply keeps_dropRegs | with_reducible apply keeps_dropMem | with_reducible apply keeps_dropBoth | (intro _; intros) | (refine keeps_of_some (by with_reducible assumption) ?_) | (refine keeps_of_fst (by with_reducible assumption) ?_) | split)

theorem execQspiQread_keeps {z0 : State} (q : Fin 64) (max : BitVec 8) (sent : Nat) (delay : Fin 3) {s : State}  (hK : Keeps z0 s) :
    KeepsOut z0 (execQspiQread q max sent delay s) := by
  unfold execQspiQread
  try dsimp only
  repeat' (first | with_reducible assumption | with_reducible apply State.qread_keeps | with_reducible apply State.readWait_keeps | with_reducible apply State.csRise_keeps | with_reducible apply State.qspiError_keeps | with_reducible apply State.ans_keeps | with_reducible apply keeps_ite | with_reducible apply keeps_foldl | with_reducible apply keepsOut_next | with_reducible apply keepsOut_ite | fail_if_no_progress (with_reducible apply keeps_other) | with_reducible apply keeps_dropRegs | with_reducible apply keeps_dropMem | with_reducible apply keeps_dropBoth | (intro _; intros) | (refine keeps_of_some (by with_reducible assumption) ?_) | (refine keeps_of_fst (by with_reducible assumption) ?_) | split)

theorem State.putWords_keeps {z0 : State} {s : State} (a : Nat) (ws : List Word)  (hK : Keeps z0 s) :
    Keeps z0 (State.putWords s a ws) := by
  unfold State.putWords
  try dsimp only
  repeat' (first | with_reducible assumption | with_reducible apply State.writeBurst_keeps | with_reducible apply keeps_ite | with_reducible apply keeps_foldl | fail_if_no_progress (with_reducible apply keeps_other) | with_reducible apply keeps_dropRegs | with_reducible apply keeps_dropMem | with_reducible apply keeps_dropBoth | (intro _; intros) | (refine keeps_of_some (by with_reducible assumption) ?_) | (refine keeps_of_fst (by with_reducible assumption) ?_) | split)

theorem State.qwriteUnit_keeps {z0 s : State} (w k : Nat) (desc data : List Word) (h : Keeps z0 s) :
    KeepsSum z0 (s.qwriteUnit w k desc data) := by
  unfold State.qwriteUnit
  dsimp only
  split
  · exact keepsSum_inl
  · split
    · exact keepsSum_inl
    · exact keepsSum_inr (State.putWords_keeps _ _ (State.putWords_keeps _ _ h))

theorem State.qwrite_keeps {z0 s : State} (w : Nat) (cut : Bool) (fuel k : Nat) (ws : List Word) (h : Keeps z0 s) :
    Keeps z0 (s.qwrite w cut fuel k ws) := by
  induction fuel generalizing s k ws with
  | zero => exact h
  | succ fuel ih =>
    unfold State.qwrite
    dsimp only
    split
    · exact keeps_ite (State.qspiError_keeps _ (keeps_ite h (State.writeQProd_keeps _ _ _ h)))
        (keeps_ite h (State.writeQProd_keeps _ _ _ h))
    · split
      · exact State.qspiError_keeps _ (keeps_ite h (State.writeQProd_keeps _ _ _ h))
      · exact ih _ _ (keeps_of_inr (by assumption) (State.qwriteUnit_keeps _ _ _ _ h))

theorem execQspiQwrite_keeps {z0 : State} (q : Fin 64) (data : List Word) (cut : Bool) {s : State}  (hK : Keeps z0 s) :
    KeepsOut z0 (execQspiQwrite q data cut s) := by
  unfold execQspiQwrite
  try dsimp only
  repeat' (first | with_reducible assumption | with_reducible apply State.qwrite_keeps | with_reducible apply State.csRise_keeps | with_reducible apply keeps_ite | with_reducible apply keeps_foldl | with_reducible apply keepsOut_next | with_reducible apply keepsOut_ite | fail_if_no_progress (with_reducible apply keeps_other) | with_reducible apply keeps_dropRegs | with_reducible apply keeps_dropMem | with_reducible apply keeps_dropBoth | (intro _; intros) | (refine keeps_of_some (by with_reducible assumption) ?_) | (refine keeps_of_fst (by with_reducible assumption) ?_) | split)

theorem State.twtMove_keeps {z0 : State} {s : State} (n : Nat)  (hK : Keeps z0 s) :
    Keeps z0 (State.twtMove s n) := by
  unfold State.twtMove
  try dsimp only
  repeat' (first | with_reducible assumption | with_reducible apply State.setAx_keeps | with_reducible apply keeps_ite | with_reducible apply keeps_foldl | fail_if_no_progress (with_reducible apply keeps_other) | with_reducible apply keeps_dropRegs | with_reducible apply keeps_dropMem | with_reducible apply keeps_dropBoth | (intro _; intros) | (refine keeps_of_some (by with_reducible assumption) ?_) | (refine keeps_of_fst (by with_reducible assumption) ?_) | split)

theorem execTwtWrite_keeps {z0 : State} (mode : BitVec 8) (whole : Bool) (addr : Word) (data : List Word) (cut : Bool) {s : State}  (hK : Keeps z0 s) :
    KeepsOut z0 (execTwtWrite mode whole addr data cut s) := by
  unfold execTwtWrite
  try dsimp only
  repeat' (first | with_reducible assumption | with_reducible apply State.twtMove_keeps | with_reducible apply State.writeBurst_keeps | with_reducible apply State.twtError_keeps | with_reducible apply State.twtCode_keeps | with_reducible apply State.setAx_keeps | with_reducible apply keeps_ite | with_reducible apply keeps_foldl | with_reducible apply keepsOut_next | with_reducible apply keepsOut_ite | fail_if_no_progress (with_reducible apply keeps_other) | with_reducible apply keeps_dropRegs | with_reducible apply keeps_dropMem | with_reducible apply keeps_dropBoth | (intro _; intros) | (refine keeps_of_some (by with_reducible assumption) ?_) | (refine keeps_of_fst (by with_reducible assumption) ?_) | split)

theorem State.twtRead_keeps {z0 s : State} (ls : List Bool) (got : List Word) (h : Keeps z0 s) :
    Keeps z0 (s.twtRead ls got) := by
  induction ls generalizing s got with
  | nil => exact State.ans_keeps _ h
  | cons l r ih =>
    unfold State.twtRead
    exact ih _ (State.twtMove_keeps _ (keeps_ite (State.ans_keeps _ (State.twtError_keeps _ h))
      (State.busRead_keeps _ _ _ _ _ h)))

theorem execTwtRead_keeps {z0 : State} (late : List Bool) {s : State}  (hK : Keeps z0 s) :
    KeepsOut z0 (execTwtRead late s) := by
  unfold execTwtRead
  try dsimp only
  repeat' (first | with_reducible assumption | with_reducible apply State.twtRead_keeps | with_reducible apply keeps_ite | with_reducible apply keeps_foldl | with_reducible apply keepsOut_next | with_reducible apply keepsOut_ite | fail_if_no_progress (with_reducible apply keeps_other) | with_reducible apply keeps_dropRegs | with_reducible apply keeps_dropMem | with_reducible apply keeps_dropBoth | (intro _; intros) | (refine keeps_of_some (by with_reducible assumption) ?_) | (refine keeps_of_fst (by with_reducible assumption) ?_) | split)

theorem execTwtMisplacedStart_keeps {z0 : State} {s : State}  (hK : Keeps z0 s) :
    KeepsOut z0 (execTwtMisplacedStart s) := by
  unfold execTwtMisplacedStart
  try dsimp only
  repeat' (first | with_reducible assumption | with_reducible apply State.twtCode_keeps | with_reducible apply State.count_keeps | with_reducible apply State.raise_keeps | with_reducible apply keeps_ite | with_reducible apply keeps_foldl | with_reducible apply keepsOut_next | with_reducible apply keepsOut_ite | fail_if_no_progress (with_reducible apply keeps_other) | with_reducible apply keeps_dropRegs | with_reducible apply keeps_dropMem | with_reducible apply keeps_dropBoth | (intro _; intros) | (refine keeps_of_some (by with_reducible assumption) ?_) | (refine keeps_of_fst (by with_reducible assumption) ?_) | split)

theorem execTwtBusTimeout_keeps {z0 : State} {s : State}  (hK : Keeps z0 s) :
    KeepsOut z0 (execTwtBusTimeout s) := by
  unfold execTwtBusTimeout
  try dsimp only
  repeat' (first | with_reducible assumption | with_reducible apply State.twtError_keeps | with_reducible apply keeps_ite | with_reducible apply keeps_foldl | with_reducible apply keepsOut_next | with_reducible apply keepsOut_ite | fail_if_no_progress (with_reducible apply keeps_other) | with_reducible apply keeps_dropRegs | with_reducible apply keeps_dropMem | with_reducible apply keeps_dropBoth | (intro _; intros) | (refine keeps_of_some (by with_reducible assumption) ?_) | (refine keeps_of_fst (by with_reducible assumption) ?_) | split)

theorem execFerryReadReq_keeps {z0 : State} (wd : Width) (addr : Word) (m : Master) (tag : BitVec 8) {s : State}  (hK : Keeps z0 s) :
    KeepsOut z0 (execFerryReadReq wd addr m tag s) := by
  unfold execFerryReadReq
  try dsimp only
  repeat' (first | with_reducible assumption | with_reducible apply State.busRead_keeps | with_reducible apply State.sendFrame_keeps | with_reducible apply keeps_ite | with_reducible apply keeps_foldl | with_reducible apply keepsOut_next | with_reducible apply keepsOut_ite | fail_if_no_progress (with_reducible apply keeps_other) | with_reducible apply keeps_dropRegs | with_reducible apply keeps_dropMem | with_reducible apply keeps_dropBoth | (intro _; intros) | (refine keeps_of_some (by with_reducible assumption) ?_) | (refine keeps_of_fst (by with_reducible assumption) ?_) | split)

theorem execFerryWriteFrame_keeps {z0 : State} (wd : Width) (addr : Word) (v : Word) (m : Master) {s : State}  (hK : Keeps z0 s) :
    KeepsOut z0 (execFerryWriteFrame wd addr v m s) := by
  unfold execFerryWriteFrame
  try dsimp only
  repeat' (first | with_reducible assumption | with_reducible apply State.busWrite_keeps | with_reducible apply keeps_ite | with_reducible apply keeps_foldl | with_reducible apply keepsOut_next | with_reducible apply keepsOut_ite | fail_if_no_progress (with_reducible apply keeps_other) | with_reducible apply keeps_dropRegs | with_reducible apply keeps_dropMem | with_reducible apply keeps_dropBoth | (intro _; intros) | (refine keeps_of_some (by with_reducible assumption) ?_) | (refine keeps_of_fst (by with_reducible assumption) ?_) | split)

theorem execPartnerReadResponse_keeps {z0 : State} (v : Word) {s : State}  (hK : Keeps z0 s) :
    KeepsOut z0 (execPartnerReadResponse v s) := by
  unfold execPartnerReadResponse
  try dsimp only
  repeat' (first | with_reducible assumption | with_reducible apply State.ans_keeps | with_reducible apply keeps_ite | with_reducible apply keeps_foldl | with_reducible apply keepsOut_next | with_reducible apply keepsOut_ite | fail_if_no_progress (with_reducible apply keeps_other) | with_reducible apply keeps_dropRegs | with_reducible apply keeps_dropMem | with_reducible apply keeps_dropBoth | (intro _; intros) | (refine keeps_of_some (by with_reducible assumption) ?_) | (refine keeps_of_fst (by with_reducible assumption) ?_) | split)

theorem execMirrorFrame_keeps {z0 : State} (seq : Word) (addr : Word) (v : Word) {s : State}  (hK : Keeps z0 s) :
    KeepsOut z0 (execMirrorFrame seq addr v s) := by
  unfold execMirrorFrame
  try dsimp only
  repeat' (first | with_reducible assumption | with_reducible apply State.busWrite_keeps | with_reducible apply State.askReplay_keeps | with_reducible apply State.wr_keeps | with_reducible apply keeps_ite | with_reducible apply keeps_foldl | with_reducible apply keepsOut_next | with_reducible apply keepsOut_ite | fail_if_no_progress (with_reducible apply keeps_other) | with_reducible apply keeps_dropRegs | with_reducible apply keeps_dropMem | with_reducible apply keeps_dropBoth | (intro _; intros) | (refine keeps_of_some (by with_reducible assumption) ?_) | (refine keeps_of_fst (by with_reducible assumption) ?_) | split)

theorem State.asMirrored_keeps {z0 : State} {s : State} (f : State → State) (hf : ∀ y, Keeps z0 y → Keeps z0 (f y)) (hK : Keeps z0 s) :
    Keeps z0 (State.asMirrored s f) := by
  unfold State.asMirrored
  try dsimp only
  repeat' (first | with_reducible assumption | with_reducible apply hf | with_reducible apply keeps_ite | with_reducible apply keeps_foldl | fail_if_no_progress (with_reducible apply keeps_other) | with_reducible apply keeps_dropRegs | with_reducible apply keeps_dropMem | with_reducible apply keeps_dropBoth | (intro _; intros) | (refine keeps_of_some (by with_reducible assumption) ?_) | (refine keeps_of_fst (by with_reducible assumption) ?_) | split)

theorem State.applyMirrored_keeps {z0 : State} {s : State} (image : List Word)  (hK : Keeps z0 s) :
    Keeps z0 (State.applyMirrored s image) := by
  unfold State.applyMirrored
  try dsimp only
  repeat' (first | with_reducible assumption | with_reducible apply State.startJob_keeps | with_reducible apply State.mfReject_keeps | with_reducible apply keeps_ite | with_reducible apply keeps_foldl | fail_if_no_progress (with_reducible apply keeps_other) | with_reducible apply keeps_dropRegs | with_reducible apply keeps_dropMem | with_reducible apply keeps_dropBoth | (intro _; intros) | (refine keeps_of_some (by with_reducible assumption) ?_) | (refine keeps_of_fst (by with_reducible assumption) ?_) | split)

theorem State.removeMirrored_keeps {z0 : State} {s : State} (win : Word)  (hK : Keeps z0 s) :
    Keeps z0 (State.removeMirrored s win) := by
  unfold State.removeMirrored
  try dsimp only
  repeat' (first | with_reducible assumption | with_reducible apply stateOr_keeps | with_reducible apply execMfRemove_keeps | with_reducible apply keeps_ite | with_reducible apply keeps_foldl | with_reducible apply keepsOut_next | with_reducible apply keepsOut_ite | fail_if_no_progress (with_reducible apply keeps_other) | with_reducible apply keeps_dropRegs | with_reducible apply keeps_dropMem | with_reducible apply keeps_dropBoth | (intro _; intros) | (refine keeps_of_some (by with_reducible assumption) ?_) | (refine keeps_of_fst (by with_reducible assumption) ?_) | split)

theorem State.gbMirrored_keeps {z0 : State} {s : State} (op : Nat) (args : List Word)  (hK : Keeps z0 s) :
    Keeps z0 (State.gbMirrored s op args) := by
  unfold State.gbMirrored
  try dsimp only
  repeat' (first | with_reducible assumption | with_reducible apply stateOr_keeps | with_reducible apply execGbClear_keeps | with_reducible apply execGbCheckpoint_keeps | with_reducible apply execGbUnlink_keeps | with_reducible apply execGbLink_keeps | with_reducible apply execGbFlags_keeps | with_reducible apply execGbDelete_keeps | with_reducible apply execGbInsert_keeps | with_reducible apply execGbConfig_keeps | with_reducible apply keeps_ite | with_reducible apply keeps_foldl | with_reducible apply keepsOut_next | with_reducible apply keepsOut_ite | fail_if_no_progress (with_reducible apply keeps_other) | with_reducible apply keeps_dropRegs | with_reducible apply keeps_dropMem | with_reducible apply keeps_dropBoth | (intro _; intros) | (refine keeps_of_some (by with_reducible assumption) ?_) | (refine keeps_of_fst (by with_reducible assumption) ?_) | split)

theorem State.gbFollowChange_keeps {z0 : State} {s : State} (code : Nat) (idx : Nat) (old : Nat) (r : GRec)  (hK : Keeps z0 s) :
    Keeps z0 (State.gbFollowChange s code idx old r) := by
  unfold State.gbFollowChange
  try dsimp only
  repeat' (first | with_reducible assumption | with_reducible apply State.gbVacate_keeps | with_reducible apply State.gbTimes_keeps | with_reducible apply State.gbChange_keeps | with_reducible apply State.gbPut_keeps | with_reducible apply State.gbDirty_keeps | with_reducible apply keeps_ite | with_reducible apply keeps_foldl | fail_if_no_progress (with_reducible apply keeps_other) | with_reducible apply keeps_dropRegs | with_reducible apply keeps_dropMem | with_reducible apply keeps_dropBoth | (intro _; intros) | (refine keeps_of_some (by with_reducible assumption) ?_) | (refine keeps_of_fst (by with_reducible assumption) ?_) | split)

theorem State.nowFollowed_keeps {z0 : State} {s : State}  (hK : Keeps z0 s) :
    Keeps z0 (State.nowFollowed s) := by
  unfold State.nowFollowed
  try dsimp only
  repeat' (first | with_reducible assumption | with_reducible apply keeps_ite | with_reducible apply keeps_foldl | fail_if_no_progress (with_reducible apply keeps_other) | with_reducible apply keeps_dropRegs | with_reducible apply keeps_dropMem | with_reducible apply keeps_dropBoth | (intro _; intros) | (refine keeps_of_some (by with_reducible assumption) ?_) | (refine keeps_of_fst (by with_reducible assumption) ?_) | split)

theorem State.fadeMirrored_keeps {z0 : State} {s : State} (f : Nat) (i : Nat) (d : Nat) (ms : Nat) (trim : Int) (e : BitVec 64)  (hK : Keeps z0 s) :
    Keeps z0 (State.fadeMirrored s f i d ms trim e) := by
  unfold State.fadeMirrored
  try dsimp only
  repeat' (first | with_reducible assumption | with_reducible apply State.folFade_keeps | with_reducible apply State.advanceTo_keeps | with_reducible apply State.putI_keeps | with_reducible apply keeps_ite | with_reducible apply keeps_foldl | fail_if_no_progress (with_reducible apply keeps_other) | with_reducible apply keeps_dropRegs | with_reducible apply keeps_dropMem | with_reducible apply keeps_dropBoth | (intro _; intros) | (refine keeps_of_some (by with_reducible assumption) ?_) | (refine keeps_of_fst (by with_reducible assumption) ?_) | split)

theorem State.annMirrored_keeps {z0 : State} {s : State} (f : Nat) (into : Bool) (e : BitVec 64)  (hK : Keeps z0 s) :
    Keeps z0 (State.annMirrored s f into e) := by
  unfold State.annMirrored
  try dsimp only
  repeat' (first | with_reducible assumption | with_reducible apply State.annIn_keeps | with_reducible apply State.annBack_keeps | with_reducible apply State.advanceTo_keeps | with_reducible apply keeps_ite | with_reducible apply keeps_foldl | fail_if_no_progress (with_reducible apply keeps_other) | with_reducible apply keeps_dropRegs | with_reducible apply keeps_dropMem | with_reducible apply keeps_dropBoth | (intro _; intros) | (refine keeps_of_some (by with_reducible assumption) ?_) | (refine keeps_of_fst (by with_reducible assumption) ?_) | split)

theorem execFerryMessageFrame_keeps {z0 : State} (msg : MessageArg) {s : State}  (hK : Keeps z0 s) :
    KeepsOut z0 (execFerryMessageFrame msg s) := by
  unfold execFerryMessageFrame
  try dsimp only
  repeat' (first | with_reducible assumption | with_reducible apply State.annMirrored_keeps | with_reducible apply State.fadeMirrored_keeps | with_reducible apply State.nowFollowed_keeps | with_reducible apply State.gbFollowChange_keeps | with_reducible apply State.gbMirrored_keeps | with_reducible apply State.removeMirrored_keeps | with_reducible apply State.applyMirrored_keeps | with_reducible apply State.asMirrored_keeps | with_reducible apply stateOr_keeps | with_reducible apply execMfTrigger_keeps | with_reducible apply State.folVerify_keeps | with_reducible apply State.gbChange_keeps | with_reducible apply State.handover_keeps | with_reducible apply State.setMirror_keeps | with_reducible apply keeps_ite | with_reducible apply keeps_foldl | with_reducible apply keepsOut_next | with_reducible apply keepsOut_ite | with_reducible apply keepsOpt_getD | fail_if_no_progress (with_reducible apply keeps_other) | with_reducible apply keeps_dropRegs | with_reducible apply keeps_dropMem | with_reducible apply keeps_dropBoth | (intro _; intros) | (refine keeps_of_some (by with_reducible assumption) ?_) | (refine keeps_of_fst (by with_reducible assumption) ?_) | split)

end Sys2Proof.Machine
end

