-- ==== Sys2Proof/Laws/Serve.lean ====
section
/-! SUPPORT. A message that firmware serves has the effect of its body, for each of the servers. -/

namespace Sys2Proof.Machine

variable (s : State)

theorem State.coreServe_serves {ph : Fin 8} {op : Nat} {tag : BitVec 8} {body : State → State} (h : s.serves ph op = true)
    (h1 : s.tree.job = none) (h2 : s.fw.job = none) : s.coreServe ph op tag body = body (s.heard ph) := by
  unfold State.coreServe; rw [State.serve_serves _ h]; simp [h1, h2]

theorem State.loaderServe_serves {ph : Fin 8} {op : Nat} {tag : BitVec 8} {body : State → State}
    (h : s.serves ph op = true) (h1 : s.tree.job = none) : s.loaderServe ph op tag body = body (s.heard ph) := by
  unfold State.loaderServe; rw [State.serve_serves _ h]; simp [h1]

theorem State.scanServe_serves {ph : Fin 8} {op : Nat} {tag : BitVec 8} {body : State → State × List Word}
    (h : s.serves ph op = true) : s.scanServe ph op tag body =
      (body (s.heard ph)).1.reply ph op tag.toNat (body (s.heard ph)).2 := by
  unfold State.scanServe; rw [State.serve_serves _ h]

theorem State.pairServe_serves {ph : Fin 8} {op : Nat} {tag : BitVec 8} {body : State → State × List Word}
    (h : s.serves ph op = true) (h1 : s.part.pairPresent = true) : s.pairServe ph op tag body =
      (body (s.heard ph)).1.reply ph op tag.toNat (body (s.heard ph)).2 := by
  unfold State.pairServe; rw [State.serve_serves _ h]; simp [h1]

theorem State.gbServe_serves {ph : Fin 8} {op : Nat} {tag : BitVec 8} {args : List Word} {body : State → State × List Word}
    (h : s.serves ph op = true) (h1 : s.guest.ready = true) : s.gbServe ph op tag args body =
      (body ((s.heard ph).mirrorMsg 2 (w32 op :: args))).1.reply ph op tag.toNat
        (body ((s.heard ph).mirrorMsg 2 (w32 op :: args))).2 := by
  unfold State.gbServe; rw [State.serve_serves _ h]; simp [h1]

@[simp] theorem State.heard_atomState (ph w : Nat) : (s.heard ph).atomState w = s.atomState w := by
  unfold State.heard; split <;> rfl

@[simp] theorem State.heard_coreState (ph n : Nat) : (s.heard ph).coreState n = s.coreState n := by
  unfold State.heard; split <;> rfl

theorem State.folServe_serves {ph : Fin 8} {op : Nat} {tag : BitVec 8} {args : List Word}
    {body : State → Nat → State × List Word} (h : s.serves ph op = true) (h1 : arg args 0 ≤ 31)
    (h2 : s.atomState (winFollow (arg args 0)) = stRUN) : s.folServe ph op tag args body =
      (body (s.heard ph) (winFollow (arg args 0))).1.reply ph op tag.toNat
        (body (s.heard ph) (winFollow (arg args 0))).2 := by
  have h3 : ¬ 31 < arg args 0 := by omega
  unfold State.folServe; rw [State.serve_serves _ h]; simp [h3, h2]

/-- A lead's telling of a write touches no register of a unit window. -/
theorem State.told_rd {m b off : Nat} {v : Word} {t : State} {w o : Nat} (hw : w < 0x400) (ho : o < 4096) :
    (s.told m b off v t).rd w o = t.rd w o := by
  have n1 : w ≠ blkFerry := by unfold blkFerry; omega
  have n2 : w ≠ blkSys := by unfold blkSys; omega
  have k : ∀ p, p < 4096 → rkey w o ≠ rkey blkFerry p := fun p hp => rkey_block n1 ho hp
  have r : ∀ u : State, u.resyncStart.rd w o = u.rd w o := by
    intro u
    have e : u.resyncStart.regs = (((u.setMirror 1).count blkFerry FERRY.RESYNC_COUNT).recordCode 0x0908).regs := by simp [State.resyncStart]
    rw [State.rd_of_regs e]
    unfold State.recordCode State.setMirror State.put
    rw [State.rd_wr_block _ _ n2 (by decide) ho,
      State.count_rd_other _ _ _ _ _ (k _ (by decide)) (k _ (by decide)) (k _ (by decide)),
      State.rd_wr_block _ _ n1 (by decide) ho]
  have q : (t.bump blkFerry FERRY.TX_SEQ).rd w o = t.rd w o := by
    unfold State.bump; rw [State.rd_wr_block _ _ n1 (by decide) ho]
  unfold State.told
  split
  · unfold State.mirrorWrite
    dsimp only
    split
    · rw [r]; exact q
    · exact q
  · rfl

theorem State.feedOk_rd {w o : Nat} (hw : w < 0x400) (ho : o < 4096) : s.feedOk.rd w o = s.rd w o := by
  have q : (s.putB blkKpr KPR.KPR_STATUS_FEED_OK (allFeeds.any s.feedLit && s.ax blkKpr axRailOut == 0)).rd w o = s.rd w o := by
    unfold State.putB State.put
    rw [State.rd_wr_block _ _ (by unfold blkKpr; omega) (by decide) ho]
  unfold State.feedOk
  dsimp only
  split
  · exact q
  · rw [State.setAx_rd]; exact q

theorem State.feedOk_fld {w : Nat} {q : FRef} (hw : w < 0x400) (ho : q.off < 4096) : s.feedOk.fld w q = s.fld w q := by
  simp [State.fld, State.feedOk_rd s hw ho]

/-- A counter's register is not its window's overflow register. -/
theorem ctrBit?_ovf {w off : Nat} (hw : w < 0x400) (h : (ctrBit? w off).isSome = true) (ho : off % 4 = 0) :
    off / 4 ≠ ovfOff w / 4 := by
  intro e
  have h1 : off = 0x028 := by simp [ovfOff, hw] at e; omega
  subst h1
  have n : w ≠ blkPigeon := by unfold blkPigeon; omega
  by_cases hk : kindOf w = .none
  · simp [ctrBit?, regAt, n, hw, hk] at h
  · have hr : regAt w 0x028 = (ucbMap.find? (fun r => r.holds 0x028)).map (RegD.forKind (kindOf w)) := by simp [regAt, n, hw, hk]
    have hc : ctrBit? w 0x028 = none := by unfold ctrBit?; rw [hr]; rfl
    rw [hc] at h
    cases h

/-! ## A save leaves a wake that waits -/

@[simp] theorem State.wrWords_power (a : Nat) (vs : List Word) : (s.wrWords a vs).power = s.power := by
  induction vs generalizing s a with
  | nil => rfl
  | cons v vs ih => unfold State.wrWords; rw [ih, State.wrWord, State.wrBytes_power]

@[simp] theorem State.bagBody_power (a n : Nat) : (s.bagBody a n).power = s.power := by
  unfold State.bagBody
  generalize List.range n = l
  induction l generalizing s with
  | nil => rfl
  | cons x xs ih => rw [List.foldl_cons, ih, State.useFresh_power, State.wrWord, State.wrBytes_power]

@[simp] theorem State.gbSave_power (ps : List Nat) : (s.gbSave ps).power = s.power := by
  unfold State.gbSave
  induction ps generalizing s with
  | nil => rfl
  | cons x xs ih =>
    rw [List.foldl_cons, ih]
    dsimp only
    rw [State.wrBytes_power]

theorem State.writeBag_woken (cause : Nat) : (s.writeBag cause).power.woken = s.power.woken := by
  have h : ∀ (t : State) (c : Nat) (b : Option BagX), (t.setBag c b).power.woken = t.power.woken := by
    intro t c b; unfold State.setBag State.setPower; dsimp only; split <;> rfl
  unfold State.writeBag
  simp only [State.setFw, h, State.wrWord, State.wrBytes_power, State.wrWords_power, State.bagBody_power,
    State.useFresh_power]

end Sys2Proof.Machine
end

