-- ==== Sys2Proof/WellFormed.lean ====
section
/-! DEFINITION. When a command is well formed: its operands are ones that its row can have. A command that is not is
no event of this hardware; its meaning is total all the same. -/

namespace Sys2Proof

open Sys2Proof.Machine

/-- A message has at most seven argument words (R357). -/
def fewArgs (args : List Word) : Bool := decide (args.length ≤ 7)

/-- The partner window is the upper half of the map (R27). -/
def atPartner (a : Word) : Bool := decide (0x80000000 ≤ a.toNat)

/-- Registers are read and written as whole words (R24). -/
def wordAligned (a : Word) : Bool := decide (a.toNat % 4 = 0)

/-- The row is one of units of these kinds (R53). -/
def inKinds (w : Nat) (ks : List Kind) : Bool := ks.contains (kindOf w)

/-- A level or temperature that a 16-bit signed field shows. -/
def levelFits (x : Int) : Bool := decide (-32768 ≤ x ∧ x ≤ 32767)

/-- Samples of a signed format whose full scale is `top`. -/
def samplesFit (top : Int) (xs : List (Int × Int)) : Bool :=
  xs.all (fun p => decide (-top ≤ p.1 ∧ p.1 < top ∧ -top ≤ p.2 ∧ p.2 < top))

/-- Port groups are numbered 1 to 7 (R323). -/
def namesGroup (g : Fin 8) : Bool := decide ((g : Nat) ≠ 0)

/-- Is a command well formed? -/
def Instr.wf : Instr → Bool
  | .registerWrite _ _ _ _ => true
  | .lowWordRead _ addr => wordAligned addr
  | .counterRestart _ addr _ => wordAligned addr
  | .peakRestart _ addr _ => wordAligned addr
  | .sysSoftReset _ _ => true
  | .epochSnap _ _ => true
  | .semRead _ _ => true
  | .semWrite _ _ _ => true
  | .partnerWindowWrite _ _ addr _ => atPartner addr
  | .partnerWindowRead _ _ addr => atPartner addr
  | .partnerReadResponse _ => true
  | .signboardRebuilt => true
  | .unitCtlWrite _ w _ => (inKinds w [.none] == false)
  | .compositeCtlWrite _ w _ => inKinds w [.root, .composite]
  | .syncReset _ w _ => (inKinds w [.none] == false)
  | .apply _ w _ => (inKinds w [.none] == false)
  | .applyTakesEffect w => (inKinds w [.none] == false)
  | .faultClear _ w _ => (inKinds w [.none] == false)
  | .unitCtlDeferred w => (inKinds w [.none] == false)
  | .unitPowerUpdate => true
  | .mfApply _ _ _ _ => true
  | .mfValidate _ _ _ _ => true
  | .mfRemove _ _ _ => true
  | .mfTrigger _ _ _ => true
  | .mfAmendCommit => true
  | .mfAmendComplete => true
  | .triggerEpochReached w => (inKinds w [.none] == false)
  | .twinReady _ _ => true
  | .loHandover _ => true
  | .agcBlock _ level _ => levelFits level
  | .agcDecayStep _ _ => true
  | .overloadBlock _ _ => true
  | .overloadClear _ => true
  | .ovlStuck _ => true
  | .divReturnCheck _ => true
  | .divWindowSwitch _ => true
  | .loLockLost _ => true
  | .loLockAcquired _ => true
  | .tempRecal _ temp => levelFits temp
  | .calReqLo _ _ => true
  | .calReqImage _ _ => true
  | .calReqFilter _ _ => true
  | .calReqOffset _ _ => true
  | .calAbort _ _ => true
  | .calStepDone _ _ => true
  | .calStartupDone _ _ => true
  | .calFeLDone _ _ => true
  | .calStoreWrite _ _ => true
  | .swapRequest _ w _ => inKinds w [.ddc, .chanFilter, .audioFilter]
  | .fadeEnd w => inKinds w [.chanFilter, .audioFilter]
  | .filterOutput w xs ys => inKinds w [.ddc, .chanFilter, .audioFilter] && samplesFit 2147483648 xs && samplesFit 2147483648 ys
  | .warmComplete w => (inKinds w [.none] == false)
  | .detectorBlock _ => true
  | .loudnessUpdate _ => true
  | .silenceEnter _ => true
  | .silenceExit _ => true
  | .overRepeat _ => true
  | .intReset _ _ => true
  | .demodBlock w level snr => inKinds w [.fmDemod, .amDemod, .ofdm] && levelFits level && levelFits snr
  | .metricIntervalEnd w _ _ _ => inKinds w [.fmDemod, .amDemod, .ofdm]
  | .pilotFound _ => true
  | .pilotLost _ _ => true
  | .noiseBlank w => inKinds w [.fmDemod, .amDemod]
  | .rdsBit _ => true
  | .demodWarmDone _ => true
  | .carrierLocked _ => true
  | .carrierLost _ => true
  | .amLockBound _ => true
  | .detectorReturnSync _ => true
  | .sidebandEval _ _ _ => true
  | .branchSwitch _ => true
  | .ofdmSyncAdvance _ _ _ _ _ => true
  | .ofdmSyncLost _ => true
  | .ofdmResyncSuccess _ => true
  | .ofdmResyncTimeout _ => true
  | .modeUnsupported _ => true
  | .ofdmAcqTimeout _ => true
  | .ofdmFrameEnd _ mer _ _ a b => levelFits mer && levelFits a && levelFits b
  | .controlBlockReceived _ _ => true
  | .selectionSwitch _ => true
  | .multiplexReconfigure _ => true
  | .superframeDecoded _ _ _ => true
  | .preambleMeasured _ _ _ => true
  | .announcementEntry _ _ _ _ _ _ => true
  | .announcementTimeout _ _ => true
  | .rdsBlock _ => true
  | .figReceived _ => true
  | .padDataGroup _ => true
  | .packetReceived _ => true
  | .drmSdcEntity _ _ => true
  | .qualityReport _ _ => true
  | .gbSweep => true
  | .gbCheckpointWrite => true
  | .gbDailyCheckpoint => true
  | .gbRestoreDone => true
  | .gbConfig _ _ args => fewArgs args
  | .gbLookup _ _ args => fewArgs args
  | .gbInsert _ _ args => fewArgs args
  | .gbDelete _ _ args => fewArgs args
  | .gbFlags _ _ args => fewArgs args
  | .gbLink _ _ args => fewArgs args
  | .gbUnlink _ _ args => fewArgs args
  | .gbCheckpoint _ _ args => fewArgs args
  | .gbClear _ _ args => fewArgs args
  | .gbStatus _ _ args => fewArgs args
  | .scanPlan _ _ args => fewArgs args
  | .scanCtl _ _ args => fewArgs args
  | .scanStatus _ _ args => fewArgs args
  | .scanTaskStart => true
  | .scanTaskEnd _ _ => true
  | .scanCycleStart => true
  | .followSeek _ _ _ => true
  | .followSurvey _ _ _ => true
  | .verifyIdentityPass _ _ => true
  | .verifyTimeout _ => true
  | .verifyQualityCheck _ => true
  | .correlationMeasured _ => true
  | .followSwitchDue _ => true
  | .blendStart _ => true
  | .blendEnd _ => true
  | .sourceLost _ => true
  | .annFadeIn _ => true
  | .recentre _ _ _ => true
  | .sfForce _ _ args => fewArgs args
  | .sfHome _ _ args => fewArgs args
  | .sfStatus _ _ args => fewArgs args
  | .accessUnitDecoded _ _ => true
  | .laneSelect _ _ _ => true
  | .selectPendingTakes _ => true
  | .xfadeDone _ => true
  | .gainWrite _ _ _ => true
  | .rampEnd _ => true
  | .laneSample _ => true
  | .hostPcmDescriptor _ _ => true
  | .hostPcmMarkStart _ _ => true
  | .hostUnderrun _ _ => true
  | .asrcReacquireDone _ => true
  | .asrcInCountRead _ _ => true
  | .portFrame _ _ period _ _ => decide (0 < period)
  | .zcStartPass _ _ => true
  | .zcTimeout _ _ => true
  | .portStopped _ => true
  | .tapBlock _ => true
  | .clockLost _ => true
  | .clockReturned _ => true
  | .glitchFrame _ => true
  | .rateStep _ _ => true
  | .hybridLock _ => true
  | .portRestart _ _ => true
  | .groupArm _ g _ => namesGroup g
  | .groupGo _ g _ => namesGroup g
  | .groupFireEpoch g => namesGroup g
  | .syncInEdge _ => true
  | .syncOutPulse _ => true
  | .qConsWrite _ _ _ => true
  | .qProdWrite _ _ _ => true
  | .hostDescriptorTake _ => true
  | .descriptorRetire _ => true
  | .recordCommit _ r => decide (1 ≤ r.type.toNat ∧ r.type.toNat ≤ 13)
  | .iqBlock _ => true
  | .finalDescriptorCommit _ => true
  | .phTdPush _ _ _ => true
  | .phTdPop _ _ => true
  | .phThPush _ _ _ => true
  | .phThPop _ _ => true
  | .tdEmptyReq _ _ => true
  | .thEmptyReq _ _ => true
  | .messageTimeout _ => true
  | .unknownOpcode _ _ _ => true
  | .sysPing _ _ args => fewArgs args
  | .sysVersion _ _ => true
  | .sysFault _ _ => true
  | .sysStandby _ _ _ => true
  | .sysNoticeCfg _ _ _ => true
  | .bellRing _ _ _ => true
  | .bellClear _ _ _ => true
  | .eventLatchClear _ _ _ => true
  | .qspiWrite addr _ _ => wordAligned addr
  | .qspiRead addr _ _ => wordAligned addr
  | .qspiWriteFixed addr _ _ => wordAligned addr
  | .qspiReadFixed addr _ _ => wordAligned addr
  | .qspiStatus _ => true
  | .qspiQread _ max sent _ => decide (sent ≤ max.toNat)
  | .qspiQwrite _ _ _ => true
  | .qspiProtocolReset => true
  | .qspiUnknownOpcode _ => true
  | .hspiCfgTakesEffect => true
  | .twtWrite _ _ _ _ _ => true
  | .twtRead _ => true
  | .twtMisplacedStart => true
  | .twtBusTimeout => true
  | .twcGo _ _ => true
  | .twcTransferDone _ _ _ => true
  | .twcArbLost => true
  | .twcArbRetry => true
  | .twcSclTimeout => true
  | .twcSdaTimeout => true
  | .twcBusCleared => true
  | .twcBusStuck => true
  | .twcTxPush _ _ => true
  | .twcRxPop _ => true
  | .ibrFifoPop _ => true
  | .ibrRequestStart => true
  | .ibrRepeat => true
  | .ibrWithdraw => true
  | .ibrUnserved => true
  | .ibrFrameEnd _ => true
  | .ibrServe _ _ => true
  | .refQualified => true
  | .refLost => true
  | .rootLocked => true
  | .rootLockLost => true
  | .timingFault => true
  | .glideEnd => true
  | .refCfgWrite _ _ => true
  | .phaseTrimWrite _ _ => true
  | .trimDone => true
  | .epochLoad _ _ => true
  | .clkOutConfigWrite _ _ _ _ => true
  | .clkOutChangeApplied _ => true
  | .vinWarning => true
  | .saddlebagSaveDone _ => true
  | .warmResume _ _ => true
  | .warmResumeReady _ => true
  | .feedResume _ => true
  | .vinReset => true
  | .railFault _ => true
  | .feedOnWrite _ _ _ => true
  | .feedSoftStartDone _ => true
  | .feedShort _ => true
  | .feedRetry _ => true
  | .feedOpen _ => true
  | .feedOpenCleared _ => true
  | .feedReverse _ => true
  | .standbyEntered => true
  | .wakePin => true
  | .rtcAlarm => true
  | .twtWakeMatch => true
  | .resetN => true
  | .keeperReset => true
  | .rtcSet _ _ => true
  | .shadowCopy => true
  | .migrationComplete _ => true
  | .watchdogExpired _ => true
  | .memoryEccError _ => true
  | .coreStatus _ _ args => fewArgs args
  | .coreRetire _ _ args => fewArgs args
  | .coreRestore _ _ args => fewArgs args
  | .coreStartDone _ => true
  | .coreMigrate _ _ args => fewArgs args
  | .fwVerify _ _ args => fewArgs args
  | .fwActivate _ _ args => fewArgs args
  | .fwRollDone => true
  | .updSetBoot _ _ args => fewArgs args
  | .calRestore _ _ args => fewArgs args
  | .unitReplace _ _ args => fewArgs args
  | .nvGo _ => true
  | .nvAbort _ => true
  | .nvPageWritten _ => true
  | .linkTrained _ _ _ => true
  | .linkTrainRetry => true
  | .heartbeatSend => true
  | .heartbeatReceived _ _ => true
  | .heartbeatLoss _ => true
  | .mirrorFrame _ addr _ => wordAligned addr
  | .ferryWriteFrame _ _ _ _ => true
  | .ferryReadReq _ _ _ _ => true
  | .ferryEventFrame _ => true
  | .ferryMessageFrame _ => true
  | .replayRequest _ => true
  | .ferryBadFrame => true
  | .mirrorGapTimeout => true
  | .resyncDone _ => true
  | .leadClaim _ => true
  | .releaseSilenceEnd _ => true
  | .wireCheckFail => true
  | .takeover _ => true
  | .prStatus _ _ args => fewArgs args
  | .prHandover _ _ args _ => fewArgs args
  | .handoverRelease => true
  | .handoverEpoch => true
  | .prTake _ _ args => fewArgs args
  | .prResync _ _ args => fewArgs args
  | .thermalReading t => levelFits t
  | .thermalRecover => true
  | .bookAudit => true
  | .faultLogWrite => true
  | .coldBoot _ => true
  | .firmwareReady => true
  | .rootLockTimeout => true
  | .selfCheckDone w _ => (inKinds w [.none] == false)
  | .mfLoadComplete => true
  | .twcBusFree => true
  | .feedRailRegulated => true
  | .resyncTimeout => true
  | .wireCheckCleared => true

end Sys2Proof
end

