-- ==== Sys2Proof/Tests/Slice0.lean ====
section
/-! SUPPORT. Commands that are not well formed, single steps whose results the worked examples of the spec give, and for
every statement a state and operands that meet its hypotheses. -/

open Sys2Proof Sys2Proof.Machine

section

set_option Elab.async false

/-! ## Small states, each built from reset for one purpose -/

/-- A unit bound to the root. -/
def bound (w : Nat) : State := State.reset.setParent w 0

def enabled (w : Nat) (s : State) : State := (s.setParent w 0).put w UCB.UNIT_CTL_ENABLE 1

/-- A unit in RUN, as far as its own bits say. -/
def runs (w : Nat) (s : State) : State :=
  ((enabled w s).put w UCB.UNIT_CTL_RUN 1).setUnit w { UnitX.init with valid := true }

/-- Output 0 of one unit linked to input 0 of another. -/
def fed (src dst : Nat) (s : State) : State := s.linkUp src 0 dst 0

/-- A unit in RUN behind a channel filter, a DDC and a front end that all run. -/
def demodOn (w : Nat) : State :=
  let base := fed 0x010 0x041 (fed 0x041 0x081 (runs 0x081 (runs 0x041 (runs 0x010 State.reset))))
  if w = 0x041 ∨ w = 0x081 then base else fed 0x081 w (runs w base)

/-- FE_1 in RUN with its offset loop off; and then with automatic gain, an entry below the top and a long run of blocks. -/
def gainMid : State := (runs 0x011 State.reset).put 0x011 FE.FE_CFG_OFFSET_TRACK 0

def gainHigh : State :=
  ((gainMid.put 0x011 FE.AGC_CTL_MODE 1).setAx 0x011 axFeSince 100000).put 0x011 FE.FE_STATUS_GAIN_INDEX 9

def synced : State := (demodOn (winOFDM 3)).put (winOFDM 3) OFDM.OFDM_STATUS_SYNC_STATE 6

/-- Port 3 is an output fed by an ASRC, alone on its line; it runs, or its own RUN is 0. -/
def portDrives : State :=
  ((fed (winASRC 3) (winPort 3) (runs (winPort 3) State.reset)).put (winPort 3) PORT.PORT_STATUS_DRIVING 1).put (winPort 3)
    PORT.PORT_GROUP_CLK_SRC 3

def portIdles : State := (portDrives.put (winPort 3) UCB.UNIT_CTL_RUN 0).setUnit (winPort 3) UnitX.init

/-- The front end in diversity mode 2, with the engine as its reference. -/
def diversity : State := (synced.put 0x010 FE.DIV_CTL_MODE 2).put 0x010 FE.DIV_CTL_REF_WINDOW (winOFDM 3)

def twoBranches (w : Nat) : State := (runs 0x011 (demodOn w)).put 0x010 FE.DIV_CTL_MODE 3

/-- Detector `n` in RUN behind its audio filter, which is VALID. -/
def detOn (n : Nat) : State := runs (winDet n) (runs (winDet n - 0x20) State.reset)

def selPending : State := State.reset.put (winLane 3) LANE.SELECT 1

/-- A queue with a ring of 16 descriptors and a buffer of 4,096 bytes. -/
def ringAt (s : State) : State :=
  ((((runs (winQ 5) s).put (winQ 5) QUE.DEPTH 16).put (winQ 5) QUE.BUF_SIZE 4096).wr (winQ 5) QUE.RING_BASE.off 0x01000000).wr
    (winQ 5) QUE.BUF_BASE.off 0x01001000

def devQueue : State := (ringAt State.reset).put (winQ 5) QUE.Q_CFG_DIR 0

/-- A host-to-device queue with one descriptor posted. -/
def hostQueue : State := ((ringAt State.reset).put (winQ 5) QUE.Q_CFG_DIR 1).wr (winQ 5) QUE.Q_PROD.off 1

def goodDesc : State :=
  ((hostQueue.wrWord 0x01000000 0x10000100).wrWord 0x01000004 8).wrWord 0x0100000C 0x1000

def onDuty (s : State) : State := { s with fw := { s.fw with running := true, inService := true } }

def served : State := onDuty State.reset

def locked (s : State) : State := { s with clock := { s.clock with everLocked := true } }

/-- The host port may ask, and a fault asserts every IRQ pin. -/
def ibrReady : State :=
  let s := (State.reset.put blkHost HOST.TWT_CFG_IBR_EN 1).put blkHost HOST.TWT_CFG_IBR_PINS 15
  { s with power := { s.power with failSafe := true }, board := { s.board with latch := 1 <<< 21 } }

def fullFifo (toHost : Bool) : State := State.reset.setFifo toHost 2 ⟨[1, 2, 3, 4, 5, 6, 7, 8], false, false, false⟩

def oneAsked (toHost : Bool) : State := State.reset.setFifo toHost 2 ⟨[7], false, true, false⟩

def gbServed : State := { served with guest := { served.guest with ready := true } }

/-- Record 0 lists an FM station of PI 0xC201 on 98,060 kHz. -/
def gbHolds : State := gbServed.wrWords (gbAddr 0) [0xC201, 0x00017F0C, 0, 0]

def gbFound : State := gbServed.wrWords (gbAddr (gbHome 0xC201 0x17F0C)) [0xC201, 0x00017F0C, 0, 0]

/-- A SIDE_DATA unit in RUN: its inputs 0 and 1 come from an FM demodulator (1), a DAB engine (2) or a DRM engine (3); for
input 1, from a decoder (1) or an engine (2), a DRM engine (3) or a decoder of a DAB engine's stream (4). -/
def sdOn (k0 k1 : Nat) : State :=
  let s := if k0 = 1 then fed (winFM 3) (winSD 5) (runs (winFM 3) State.reset)
    else if k0 = 0 then State.reset
    else (State.reset.linkUp (winOFDM 3) 1 (winSD 5) 0).setUnit (winOFDM 3) { UnitX.init with valid := true }
  let t := if k0 = 3 then s.put (winOFDM 3) OFDM.OFDM_CFG_SYSTEM 1 else s
  let u := if k1 = 1 then (t.linkUp (winDec 3) 1 (winSD 5) 1).setUnit (winDec 3) { UnitX.init with valid := true }
    else if k1 = 2 ∨ k1 = 3 then
      let v := (t.linkUp (winOFDM 3) 2 (winSD 5) 1).setUnit (winOFDM 3) { UnitX.init with valid := true }
      if k1 = 3 then v.put (winOFDM 3) OFDM.OFDM_CFG_SYSTEM 1 else v
    else if k1 = 4 then
      ((t.linkUp (winOFDM 3) 2 (winDec 3) 0).linkUp (winDec 3) 1 (winSD 5) 1).setUnit (winDec 3) { UnitX.init with valid := true }
    else t
  runs (winSD 5) u

def figOpen : State := ((sdOn 2 0).put (winSD 5) SD.SD_CFG_DEDUP 0).wr (winSD 5) SD.FIG_MASK0.off 0xFFFFFFFF

/-- A FIB or a block of the FAC waits at input 0. -/
def gaveFib (good : Bool) : State := (sdOn 2 0).giveCoded (winSD 5) 0 ⟨9, good, 0, [1, 5]⟩

/-- A plan of one AM frequency, 999 kHz, and the low band front end in RUN. -/
def scanReady : State :=
  { onDuty (runs 0x014 State.reset) with
    scan := { State.reset.scan with plan := [0x010003E7, 0x3E7, 0x00640001], run := true, maxTasks := 1 } }

/-- A plan of one FM frequency, 98,000 kHz, and a front end in RUN. -/
def scanReadyFm : State :=
  { onDuty ((runs 0x010 State.reset).setAx 0x010 axFeCentre 98000) with
    scan := { State.reset.scan with plan := [0x00017ED0, 0x17ED0, 0x00640001], run := true, maxTasks := 1 } }

/-- A DAB task whose services have all been heard. -/
def endsEarly : State :=
  { onDuty State.reset with
    scan := { State.reset.scan with run := true, maxTasks := 1, tasks := [⟨2, 220000, [0x043, 0x083, 0x103, 0x143]⟩] } }.setBl
      (blSd 0x143 sdServices 0) [1]

/-- FOLLOW_3 in RUN in a state of its own, its lane playing input 0. -/
def folOn (k : Nat) : State := (runs (winFollow 3) State.reset).put (winFollow 3) FOL.FOLLOW_STATUS_STATE k

/-- The epoch is trusted, and the lane's source on one input, an FM demodulator that is not VALID, was declared lost. -/
def folLostOn (i : Nat) : State :=
  ((((folOn 1).put blkClk CLK.ROOT_STATUS_TRUSTED 1).setAx (winFollow 3) axFolLost 1).linkUp (winFM 4) 0 (winLane 3) i).put
    (winLane 3) LANE.LANE_STATUS_PLAYING i

/-- Record 9 is a hard-linked FM record of the ring of record 5, and a front end fits its frequency. -/
def candidateState : State :=
  let s := (runs 0x010 (folLostOn 0)).setAx 0x010 axFeCentre 98060
  let t := { s with guest := { s.guest with ready := true } }
  (t.wrWords (gbAddr 5) [0xC201, 0x00017BC4, 0, 0x04000009]).wrWords (gbAddr 9) [0xC201, 0x00017F0C, 0x0001FF00, 0x04000005]

/-- The candidate is better than the playing source, an FM demodulator. -/
def switchDue : State :=
  let s := fed (winFM 4) (winLane 3) ((folOn 4).put blkClk CLK.ROOT_STATUS_TRUSTED 1)
  (s.setAx (winFollow 3) axFolUnit (winFM 3)).put (winFM 3) FM.LEVEL_Q 255

def annWaits : State :=
  ((folOn 6).linkUp (winFM 3) 0 (winLane 3) 1).setUnit (winFM 3) { UnitX.init with valid := true }

/-- A full Manifest of one empty composite and END, in queue RAM. -/
def imageIn : State :=
  served.wrWords 0x01000000
    [0x4E4D5946, 0x00010000, 0xA01, 0, 3, 20, 2, 0x202CE093, 0, 0, 0, 0, 0, 0, 0, 0, 0x03000002, 0x000003FF, 0x454C4156, 0x7F000000]

/-- The same Manifest in slot 1. -/
def goodManifest : State := served.wrWords 0x04240000 (imageIn.rdWords 0x01000000 21)

def withComp : State :=
  { served with tree := { served.tree with comps := [⟨0x300, 0, 0x454C4156, 0xA01⟩] } }

def jobAt (j : JobX) : State := { withComp with tree := { withComp.tree with job := some j } }

def epochTrigger : State :=
  { State.reset with tree := { State.reset.tree with triggers := [⟨0x083, 0, 1, 5000, 0⟩] } }

def rootIn (st : Nat) : State := State.reset.put blkClk CLK.ROOT_STATUS_STATE st

def paired (role : Nat) : State :=
  let s := { State.reset with part := { State.reset.part with pairPresent := true } }
  (s.put blkFerry FERRY.PAIR_CFG_ENABLE 1).setRole role

def linked (role : Nat) : State := (paired role).put blkFerry FERRY.PAIR_STATUS_LINK_UP 1

def standbyLost : State :=
  (((linked roleStandby).put blkFerry FERRY.PAIR_STATUS_EPOCH_TRUST 1).put blkClk CLK.ROOT_STATUS_TRUSTED 1).setMirror 2

/-- Cores 0 to 3 carry the duties, and core 4 is spare. -/
def spareReady : State :=
  ((((served.setCore 0 2).setCore 1 2).setCore 2 2).setCore 3 2).setCore 4 3

/-- Core 1 carries two duties, and core 4 starts. -/
def doubledUp : State :=
  ((((served.setCore 0 2).setCore 1 2).setCore 3 2).setCore 4 1).put blkCore (CORE.DUTY_CORE.at 2) 1

/-- Slot 1 holds an image whose body is all ones up to a signature offset at its header's end. -/
def goodSlot : State :=
  (spareReady.wrWords 0x04000000 [0x57465946, 0x00010000, 1, 0x00030000]).wrWords 0x04100000
    [0x57465946, 0x00010000, 1, 0x00030000, 4096, 0, 0x40, 0, 0, 0, 0, 0, 0, 0, 0, 0]

/-- A saved section of the low band front end in MRAM, made for this part. -/
def savedSection : State := served.wrWords 0x046C0000 [0x207EAF8D]

def goodSection : State :=
  { savedSection with part := { savedSection.part with uid := Config.sectionUid (savedSection.rdBytes 0x046C0000 1024) } }

def nvReady : State := (State.reset.wr blkNv NV.NV_DST.off 0x046C0000).put blkNv NV.NV_LEN 4

def nvBusy (n : Nat) : State :=
  let s := (nvReady.put blkNv NV.NV_STATUS_BUSY 1)
  { s with nv := { s.nv with buf := List.replicate n 0xA5, dst := 0x046C0000 } }

/-- A Saddlebag record of the state right after reset, and its header in MRAM. -/
def retainedBag : BagX :=
  ⟨1, 0, 0, 0, 0, false, false, 0, 0, [], [], [], [], State.reset.tree, [], [], []⟩

def retained : State :=
  let s := State.reset.wrWords 0x04280000
    [0x56535946, 0x00010000, 1, 0, 4, 0, 0, 0, 0, 0, 0, 0, 1, 0, 0xFFFFFFFF, 0x304858C6]
  { s with power := { s.power with die := 2, bagA := some retainedBag } }

def asleep : State :=
  { State.reset.put blkKpr KPR.WAKE_CFG_MASK 7 with power := { State.reset.power with die := 3 } }

/-- Everything that FIRMWARE_READY waits for. -/
def booted : State :=
  { locked State.reset with
    fw := { State.reset.fw with running := true }
    signboard := { State.reset.signboard with built := true }
    signboardGen := 2 }

theorem goodSection_bytes (n a : Nat) : (goodSection.heard 3).rdBytes a n = savedSection.rdBytes a n := by
  induction n generalizing a with
  | zero => rfl
  | succ n ih => unfold State.rdBytes; rw [ih]; rfl

theorem goodSection_uid : Config.sectionUid ((goodSection.heard 3).rdBytes 0x046C0000 1024) = goodSection.part.uid := by
  rw [goodSection_bytes]; rfl

set_option maxRecDepth 1000000 in
theorem goodSection_crc : (goodSection.heard 3).rdWord 0x046C0000 =
    crc32 (((goodSection.heard 3).rdBytes 0x046C0000 1024).drop 4) := by decide +kernel

theorem retained_newest : ((retained.setPower (fun p => { p with die := 4 })).rtcTicks 5).newestBag = some 0 := by
  decide +kernel

theorem goodSection_good : goodSection.serves (3 : Fin 8) 0x77 = true ∧ goodSection.tree.job = none ∧
    goodSection.fw.job = none ∧ arg [4, 0x046C0000] 0 ≤ 4 ∧ goodSection.fused (feWin (arg [4, 0x046C0000] 0)) = false ∧
    0x046C0000 ≤ arg [4, 0x046C0000] 1 ∧
    arg [4, 0x046C0000] 1 + (calSection (arg [4, 0x046C0000] 0)).2 ≤ 0x04800000 ∧
    (goodSection.heard (3 : Fin 8)).rdWord (arg [4, 0x046C0000] 1) = crc32 (((goodSection.heard (3 : Fin 8)).rdBytes
      (arg [4, 0x046C0000] 1) (calSection (arg [4, 0x046C0000] 0)).2).drop 4) ∧
    Config.sectionUid ((goodSection.heard (3 : Fin 8)).rdBytes (arg [4, 0x046C0000] 1)
      (calSection (arg [4, 0x046C0000] 0)).2) = goodSection.part.uid := by
  have ha : arg [4, 0x046C0000] 1 = 0x046C0000 := by decide
  have hc : (calSection (arg [4, 0x046C0000] 0)).2 = 1024 := by decide
  rw [ha, hc]
  exact ⟨by decide +kernel, by decide +kernel, by decide +kernel, by decide, by decide +kernel, by decide, by decide,
    goodSection_crc, goodSection_uid⟩

/-! ## Commands that are not well formed are refused by the check that they break -/

theorem test_wf_args : (Instr.gbStatus 0 1 [0, 0, 0, 0, 0, 0, 0, 0]).wf = false := by decide
theorem test_wf_partner : (Instr.partnerWindowRead 0 .b32 0x7FFFFFFC).wf = false := by decide
theorem test_wf_word : (Instr.lowWordRead 0 0x00100031).wf = false := by decide
theorem test_wf_kind : (Instr.demodBlock 0x040 0 0).wf = false := by decide
theorem test_wf_level : (Instr.agcBlock 0 32768 .alone).wf = false := by decide
theorem test_wf_record : (Instr.recordCommit 0 ⟨14, 0, false, false, false, 0, []⟩).wf = false := by decide
theorem test_wf_samples : (Instr.filterOutput 0x080 [(0, 2147483648)] []).wf = false := by decide
theorem test_wf_group : (Instr.groupGo 0 0 0).wf = false := by decide
theorem test_wf_sent : (Instr.qspiQread 0 4 5 0).wf = false := by decide
theorem test_wf_period : (Instr.portFrame 0 0 0 [] 0).wf = false := by decide
theorem test_wf_width : (Instr.demodBlock 0x100 0 32768).wf = false := by decide
theorem test_wf_good : (Instr.unitCtlWrite 0 0x083 3).wf = true := by decide

/-! ## Single steps, with results that the worked examples of the spec give -/

/-- What a command leaves, where it goes on. -/
def after (i : Instr) (s : State) : State :=
  match exec i s with
  | .next t => t
  | _ => s

-- Chapter 9, Kettering Sound in two systems: the home indices of R242.
theorem test_home_fm : gbHome 0x00E1C3A1 0x00015F90 = 0x19977 := by decide
theorem test_home_dab : gbHome 0x00E1C3A1 0x02037820 = 0x0B659 := by decide

-- Chapter 13, a crossed exchange on PH_0.
def crossing : State :=
  (State.reset.setFifo false 0 ⟨[0x41070002, 0x00E1C3A1, 0x00015F90], false, false, false⟩).setFifo true 0
    ⟨[0x05000003, 2, 0, 0], false, true, false⟩

theorem test_crossed : (after (.tdEmptyReq 5 0) (locked crossing)).pigeonRead 0x10 = 0x80240023 := by decide +kernel
theorem test_crossed_event : (after (.tdEmptyReq 5 0) (locked crossing)).board.latch.getLsbD 118 = true := by decide +kernel
theorem test_emptied : (after (.phTdPop 0 0) (crossing.setFifo false 0 ⟨[0x00015F90], false, true, false⟩)).pigeonRead 0x10 =
    0x00240040 := by decide +kernel

-- Chapter 14: SYS_ID of an FY-6432-A.
theorem test_sys_id : State.reset.regWord 0 0 blkSys 0x000 = 0x643241B1 := by decide +kernel

-- Chapter 4, overload response: the entry moves from 10 to 13.
def keyedUp : State := (runs 0x010 State.reset).put 0x010 FE.FE_STATUS_GAIN_INDEX 10

/-- A block with four clipped samples. -/
def clipped : List (Int × Int) := [(8191, 0), (0, -8192), (8176, 0), (0, 8180), (5, 5)]

theorem test_overload_entry : (after (.overloadBlock 0 clipped) keyedUp).fld 0x010 FE.FE_STATUS_GAIN_INDEX = 13 := by decide +kernel
theorem test_overload_bit : (after (.overloadBlock 0 clipped) keyedUp).flag 0x010 FE.FE_STATUS_OVERLOAD = true := by decide +kernel

-- Chapter 7, Vale FM in multipath: the targets of blend and high cut at Q = 90.
theorem test_blend_target : controlTarget 255 255 (actionNum 120 60 90) (120 - 60) = 128 := by decide
theorem test_hicut_target : controlTarget 150 120 (actionNum 100 40 90) (100 - 40) = 130 := by decide

-- Chapter 19: the fault log's entry 37.
def struck : State :=
  { served with fw := { served.fw with logSeq := 0x24, logQueue := [(⟨1, 0x0F11, 0x1C3, 0x00010012⟩, 0x0C350000)] } }

theorem test_log_entry : (after .faultLogWrite struck).rdWords 0x042B0280 4 = [0xA70D0F11, 0x25, 0x0C350000, 0x00010012] := by
  decide +kernel

-- Chapter 11: a lane with 65,536 bytes of delay store.
theorem test_lane_cap : ({ State.reset with tree := { State.reset.tree with allocs := [⟨winLane 2, 1, 65536, 0, 0, 0⟩] } } : State).regWord
    0 0 (winLane 2) 0x084 = 0x001000E3 := by decide +kernel

-- Chapter 9: a lookup of the FM record of Kettering Sound is answered with its index and its words.
def kettering : State := gbServed.wrWords 0x02199770 [0x00E1C3A1, 0x20015F90, 0x0000F0A4, 0x04A8B659]

theorem test_lookup : ((after (.gbLookup 0 7 [0x00E1C3A1, 0x00015F90]) kettering).fifo true 0).words =
    [0x41070006, 0, 0x00019977, 0x00E1C3A1, 0x20015F90, 0x0000F0A4, 0x04A8B659] := by decide +kernel

-- An empty queue lets one audio-master period pass, and a command at the front runs.
theorem test_idle : (match step (locked State.reset) with | .next t => t.clock.epoch | _ => 0) = 1 := by decide +kernel
theorem test_front : (match step { State.reset with pending := [.semRead 3 0] } with | .next t => t.semOwner 0 | _ => 9) = 3 := by
  decide +kernel

-- FIPS 180-4: the digest of "abc".
theorem test_sha256_abc : sha256 [0x61, 0x62, 0x63] = 0xba7816bf8f01cfea414140de5dae2223b00361a396177a9cb410ff61f20015ad := by
  decide +kernel

-- R290: a gain of 20 dB is a factor of 10, and 6.02 dB of 10000 lies beside 19998.6.
theorem test_gain_whole : gained (-7) 2000 true = -70 := by decide +kernel
theorem test_gain_between : gained 10000 602 false = 19998 := by decide +kernel

-- R501: the ball map's corners.
theorem test_ball_map : ballAt 11 26 = some "AP_BCLK_7" ∧ ballAt 25 13 = some "AP_FSYNC_20" := by decide +kernel

-- R369's example: SYS_ID read in 4-4-4 with 14 dummy cycles and no wait byte takes 34 cycles.
theorem test_read_cycles : readCycles 3 2 0 14 0 [0x643241B1] = 34 := by decide +kernel

/-! ## What meets the hypotheses of each statement -/

theorem witness_fmEvents :
    (∃ (s : State) (n : Fin 48), s.live (winFM n) = true ∧ s.flag (winFM n) FM.FM_STATUS_PILOT = false ∧ 2 ≤ s.ax
        (winFM n) axPilotUp) ∧
    (∃ (s : State) (n : Fin 48) (pll : Bool), s.live (winFM n) = true ∧ s.flag (winFM n) FM.FM_STATUS_PILOT = true ∧
        (pll = true ∨ 1 ≤ s.ax (winFM n) axPilotDown)) ∧
    (∃ (s : State) (n : Fin 48), s.atomState (winFM n) = stRUN ∧ s.sinksOf (winFM n) 1 = []) ∧
    (∃ (s : State) (n : Fin 48), s.atomState (winFM n) = stRUN) ∧
    (∃ (s : State) (w : Fin 1024), s.live w = true ∧ kindOf w = .fmDemod ∧ s.ax w axImpulse = 1) ∧
    (∃ (s : State) (w : Fin 1024), s.live w = true ∧ kindOf w = .amDemod ∧ s.ax w axImpulse = 1) ∧
    (∃ (s : State) (w : Fin 1024), s.live w = true ∧ kindOf w = .fmDemod ∧ s.ax w axImpulse = 1 ∧ s.ax w axBlankLeft =
        0) ∧
    (∃ (s : State) (n : Fin 48), s.atomState (winFM n) = stWARM) :=
  ⟨⟨(demodOn (winFM 3)).setAx (winFM 3) axPilotUp 2, 3, by decide +kernel⟩,
   ⟨((demodOn (winFM 3)).put (winFM 3) FM.FM_STATUS_PILOT 1).setAx (winFM 3) axPilotDown 1, 3, false, by decide +kernel⟩,
   ⟨demodOn (winFM 3), 3, by decide +kernel⟩,
   ⟨demodOn (winFM 3), 3, by decide +kernel⟩,
   ⟨(demodOn (winFM 3)).setAx (winFM 3) axImpulse 1, 0x0C3, by decide +kernel⟩,
   ⟨(demodOn (winAM 3)).setAx (winAM 3) axImpulse 1, 0x0F3, by decide +kernel⟩,
   ⟨(demodOn (winFM 3)).setAx (winFM 3) axImpulse 1, 0x0C3, by decide +kernel⟩,
   ⟨(demodOn (winFM 3)).setUnit (winFM 3) UnitX.init, 3, by decide +kernel⟩⟩

theorem witness_demodMetrics :
    (∃ (s : State) (w : Fin 1024), s.present w = true ∧ s.live w = true ∧ kindOf w = .fmDemod) ∧
    (∃ (s : State) (w : Fin 1024), s.present w = true ∧ s.live w = true ∧ kindOf w = .amDemod) ∧
    (∃ (s : State) (w : Fin 1024), s.present w = true ∧ s.live w = true ∧ kindOf w = .ofdm ∧ 3 ≤ s.syncState w) ∧
    (∃ (s : State) (w : Fin 1024), s.present w = true ∧ s.live w = true ∧ kindOf w = .fmDemod) ∧
    (∃ (s : State) (w : Fin 1024), s.present w = true ∧ s.live w = true ∧ kindOf w = .fmDemod) ∧
    (∃ (s : State) (w : Fin 1024), s.present w = true ∧ s.live w = true ∧ kindOf w = .fmDemod) ∧
    (∃ (s : State) (w : Fin 1024), s.present w = true ∧ s.live w = true ∧ kindOf w = .amDemod) ∧
    (∃ (s : State) (w : Fin 1024), s.present w = true ∧ s.live w = true ∧ kindOf w = .amDemod) ∧
    (∃ (s : State) (w : Fin 1024), s.present w = true ∧ s.live w = true ∧ kindOf w = .ofdm ∧ 3 ≤ s.syncState w) :=
  ⟨⟨demodOn (winFM 3), 0x0C3, by decide +kernel⟩,
   ⟨demodOn (winAM 3), 0x0F3, by decide +kernel⟩,
   ⟨synced, 0x103, by decide +kernel⟩,
   ⟨demodOn (winFM 3), 0x0C3, by decide +kernel⟩,
   ⟨demodOn (winFM 3), 0x0C3, by decide +kernel⟩,
   ⟨demodOn (winFM 3), 0x0C3, by decide +kernel⟩,
   ⟨demodOn (winAM 3), 0x0F3, by decide +kernel⟩,
   ⟨demodOn (winAM 3), 0x0F3, by decide +kernel⟩,
   ⟨synced, 0x103, by decide +kernel⟩⟩

theorem witness_amEvents :
    (∃ (s : State) (n : Fin 16), s.live (winAM n) = true ∧ s.flag (winAM n) AM.AM_STATUS_CARRIER_LOCK = true ∧ s.used
        (winAM n) AM.AM_CFG_DETECT = 1) ∧
    (∃ (s : State) (n : Fin 16), s.live (winAM n) = true ∧ s.flag (winAM n) AM.AM_STATUS_CARRIER_LOCK = true ∧ s.used
        (winAM n) AM.AM_CFG_DETECT ≠ 1 ∧ s.used (winAM n) AM.AM_CFG_FALLBACK = 1) ∧
    (∃ (s : State) (n : Fin 16), s.live (winAM n) = true ∧ s.flag (winAM n) AM.AM_STATUS_CARRIER_LOCK = true ∧ s.used
        (winAM n) AM.AM_CFG_DETECT ≠ 1 ∧ s.used (winAM n) AM.AM_CFG_FALLBACK ≠ 1) ∧
    (∃ (s : State) (n : Fin 16), s.live (winAM n) = true ∧ s.flag (winAM n) AM.AM_STATUS_CARRIER_LOCK = true ∧ s.flag
        (winAM n) AM.AM_STATUS_ENVELOPE = true ∧ s.used (winAM n) AM.AM_CFG_DETECT = 0 ∧ 50 ≤ s.ax (winAM n)
        axAmLocked) ∧
    (∃ (s : State) (n : Fin 16), s.live (winAM n) = true ∧ s.used (winAM n) AM.AM_CFG_SIDEBAND = 3 ∧ s.flag (winAM n)
        AM.AM_STATUS_ENVELOPE = false ∧ s.ax (winAM n) axSideLock ≤ 1) ∧
    (∃ (s : State) (n : Fin 16), s.live (winAM n) = true ∧ s.bothBranches (winAM n) = true) :=
  ⟨⟨(((demodOn (winAM 3)).put (winAM 3) AM.AM_STATUS_CARRIER_LOCK 1).put (winAM 3) AM.AM_CFG_DETECT 1).takeCfg (winAM 3),
      3, by decide +kernel⟩,
   ⟨((((demodOn (winAM 3)).put (winAM 3) AM.AM_STATUS_CARRIER_LOCK 1).put (winAM 3) AM.AM_CFG_DETECT 0).put (winAM 3)
      AM.AM_CFG_FALLBACK 1).takeCfg (winAM 3), 3, by decide +kernel⟩,
   ⟨((((demodOn (winAM 3)).put (winAM 3) AM.AM_STATUS_CARRIER_LOCK 1).put (winAM 3) AM.AM_CFG_DETECT 0).put (winAM 3)
      AM.AM_CFG_FALLBACK 0).takeCfg (winAM 3), 3, by decide +kernel⟩,
   ⟨(((((demodOn (winAM 3)).put (winAM 3) AM.AM_STATUS_CARRIER_LOCK 1).put (winAM 3) AM.AM_STATUS_ENVELOPE 1).put (winAM
      3) AM.AM_CFG_DETECT 0).takeCfg (winAM 3)).setAx (winAM 3) axAmLocked 50, 3, by decide +kernel⟩,
   ⟨((demodOn (winAM 3)).put (winAM 3) AM.AM_CFG_SIDEBAND 3).takeCfg (winAM 3), 3, by decide +kernel⟩,
   ⟨twoBranches (winAM 3), 3, by decide +kernel⟩⟩

theorem witness_detectorEvents :
    (∃ (s : State) (n : Fin 32), s.flag (winDet n) DET.SIL_CFG_ENABLE = true ∧ s.flag (winDet n) DET.DET_STATUS_SILENT
        = false ∧ s.live (winDet n) = true ∧ s.fld (winDet n) DET.SIL_TIME_ENTER_MS ≤ s.ax (winDet n) axSilEnter) ∧
    (∃ (s : State) (n : Fin 32), s.flag (winDet n) DET.SIL_CFG_ENABLE = true ∧ s.flag (winDet n) DET.DET_STATUS_SILENT
        = true ∧ s.live (winDet n) = true ∧ s.fld (winDet n) DET.SIL_TIME_EXIT_MS ≤ s.ax (winDet n) axSilExit) ∧
    (∃ (s : State) (n : Fin 32), s.flag (winDet n) DET.OVER_CFG_ENABLE = true ∧ s.flag (winDet n) DET.DET_STATUS_OVER
        = true ∧ s.live (winDet n) = true ∧ s.overRuns (winDet n) = true ∧ s.ax (winDet n) axOverMs = 100) ∧
    (∃ (s : State) (m : Master) (n : Fin 32), s.accepts m (winDet n) 0x058 (w32 (s.fld (winDet n) DET.LOUD_CTL_INT_RUN
        + 2)) [] = true) :=
  ⟨⟨(((detOn 2)).put (winDet 2) DET.SIL_CFG_ENABLE 1).setAx (winDet 2) axSilEnter 65535, 2, by decide +kernel⟩,
   ⟨((((detOn 2)).put (winDet 2) DET.SIL_CFG_ENABLE 1).put (winDet 2) DET.DET_STATUS_SILENT 1).setAx (winDet 2) axSilExit
      65535, 2, by decide +kernel⟩,
   ⟨((((((detOn 2)).put (winDet 2) DET.OVER_CFG_ENABLE 1).put (winDet 2) DET.DET_STATUS_OVER 1).setAx (winDet 2) axOverMs
      100).setAx (winDet 2) axOverL 100).setAx (winDet 2) axOverR 100, 2, by decide +kernel⟩,
   ⟨(detOn 2), 0, 2, by decide +kernel⟩⟩

theorem witness_detectorMeasures :
    (∃ (s : State) (n : Fin 32), s.present (winDet n) = true ∧ s.live (winDet n) = true ∧ s.blockDue (winDet n) =
        true) ∧
    (∃ (s : State) (n : Fin 32), s.present (winDet n) = true ∧ s.live (winDet n) = true ∧ s.blockDue (winDet n) = true
        ∧ s.laneStereo n = false) ∧
    (∃ (s : State) (n : Fin 32), s.present (winDet n) = true ∧ s.live (winDet n) = true ∧ s.blockDue (winDet n) = true
        ∧ s.laneStereo n = true) ∧
    (∃ (s : State) (n : Fin 32), s.present (winDet n) = true ∧ s.live (winDet n) = true ∧ s.loudDue (winDet n) = true) ∧
    (∃ (s : State) (n : Fin 32), s.present (winDet n) = true ∧ s.live (winDet n) = true ∧ s.loudDue (winDet n) = true
        ∧ s.fld (winDet n) DET.SIL_CFG_MEASURE = 0) :=
  ⟨⟨(detOn 2).setHs (winDet 2) hsDetBlock [48, 0, 0, 0, 0, 0, 0], 2, by decide +kernel⟩,
   ⟨((detOn 2).setHs (winDet 2) hsDetBlock [48, 0, 0, 0, 0, 0, 0]).put (winLane 2) LANE.LANE_CFG_MONO 1, 2,
      by decide +kernel⟩,
   ⟨(detOn 2).setHs (winDet 2) hsDetBlock [48, 0, 0, 0, 0, 0, 0], 2, by decide +kernel⟩,
   ⟨(detOn 2).setHs (winDet 2) hsDetLoud [4800, 0], 2, by decide +kernel⟩,
   ⟨((detOn 2).setHs (winDet 2) hsDetLoud [4800, 0]).put (winDet 2) DET.SIL_CFG_MEASURE 0, 2, by decide +kernel⟩⟩

theorem witness_frontEndEvents :
    (∃ (s : State) (fe : Fin 5) (xs : List (Int × Int)), s.present (feWin fe) = true ∧ s.fePowered (feWin fe) = true ∧
        s.fld (feWin fe) FE.OVL_CTL_CLIP_THRESH ≤ ((xs.take 256).filter (clips (feWin fe))).length ∧ s.fld (feWin fe)
        FE.AGC_CTL_MODE ≠ 1) ∧
    (∃ (s : State) (fe : Fin 5) (xs : List (Int × Int)), s.present (feWin fe) = true ∧ s.fePowered (feWin fe) = true ∧
        s.fld (feWin fe) FE.OVL_CTL_CLIP_THRESH ≤ ((xs.take 256).filter (clips (feWin fe))).length ∧ s.fld (feWin fe)
        FE.AGC_CTL_MODE = 1) ∧
    (∃ (s : State) (fe : Fin 5), s.flag (feWin fe) FE.FE_STATUS_OVERLOAD = true) ∧
    (∃ (s : State) (fe : Fin 5), s.flag (feWin fe) FE.FE_STATUS_OVERLOAD = true ∧ s.flag (feWin fe)
        FE.FE_STATUS_OVL_STUCK = false ∧ s.fld (feWin fe) FE.FE_STATUS_GAIN_INDEX = s.fld (feWin fe)
        FE.AGC_CTL_MAX_INDEX) ∧
    (∃ (s : State) (fe : Fin 4), s.ax (feWin fe) axFeReturn = 1 ∧ s.qualityOf (s.fld (feWin fe) FE.DIV_CTL_REF_WINDOW)
        + 4 * s.fld (feWin fe) FE.DIV_CTL_HYST_DB ≤ s.ax (feWin fe) axFeBefore ∧ s.seamNow (feWin fe) = false) ∧
    (∃ (s : State) (fe : Fin 4), s.ax (feWin fe) axFeReturn = 1 ∧ s.ax (feWin fe) axFeBefore < s.qualityOf (s.fld
        (feWin fe) FE.DIV_CTL_REF_WINDOW) + 4 * s.fld (feWin fe) FE.DIV_CTL_HYST_DB) ∧
    (∃ (s : State) (fe : Fin 4), s.ax (feWin fe) axFeRequest ≠ 0 ∧ s.fld (feWin fe) FE.DIV_CTL_MODE = 2 ∧ s.seamDue
        (feWin fe) = false ∧ s.flag (feWin fe) FE.FE_STATUS_ON_B ≠ decide (s.ax (feWin fe) axFeRequest = 2) ∧ s.ax
        (s.fld (feWin fe) FE.DIV_CTL_REF_WINDOW) axOfdmProbe ≠ 1) ∧
    (∃ (s : State) (fe : Fin 4), s.ax (feWin fe) axFeRequest ≠ 0 ∧ s.fld (feWin fe) FE.DIV_CTL_MODE = 2 ∧ s.seamDue
        (feWin fe) = false ∧ s.flag (feWin fe) FE.FE_STATUS_ON_B ≠ decide (s.ax (feWin fe) axFeRequest = 2) ∧ s.ax
        (s.fld (feWin fe) FE.DIV_CTL_REF_WINDOW) axOfdmProbe = 1) ∧
    (∃ (s : State) (fe : Fin 5) (level : Int) (co : Coincide) (v : State), s.present (feWin fe) = true ∧ s.fePowered
        (feWin fe) = true ∧ v = (s.owedStep (feWin fe) co).offsetBlock (feWin fe) ∧ -(v.fld (feWin fe)
        FE.AGC_TIMING_TARGET : Int) - 2 * (v.fld (feWin fe) FE.AGC_TIMING_HYST : Int) ≤ level ∧ level ≤ -(v.fld (feWin
        fe) FE.AGC_TIMING_TARGET : Int) + 2 * (v.fld (feWin fe) FE.AGC_TIMING_HYST : Int)) ∧
    (∃ (s : State) (fe : Fin 5) (level : Int) (v : State), s.present (feWin fe) = true ∧ s.fePowered (feWin fe) = true
        ∧ s.ax (feWin fe) axFeOwed = 0 ∧ v = (s.owedStep (feWin fe) .alone).offsetBlock (feWin fe) ∧ v.fld (feWin fe)
        FE.AGC_CTL_MODE = 1 ∧ -(v.fld (feWin fe) FE.AGC_TIMING_TARGET : Int) + 2 * (v.fld (feWin fe)
        FE.AGC_TIMING_HYST : Int) < level ∧ v.fld (feWin fe) FE.FE_STATUS_GAIN_INDEX < v.fld (feWin fe)
        FE.AGC_CTL_MAX_INDEX ∧ blocksLast (feWin fe) (v.ax (feWin fe) axFeSince + 1) (v.fld (feWin fe)
        FE.AGC_TIMING_ATTACK_US) = true) ∧
    (∃ (s : State) (fe : Fin 5), s.present (feWin fe) = true ∧ s.fePowered (feWin fe) = true ∧ s.fld (feWin fe)
        FE.AGC_CTL_MODE = 1 ∧ blocksLast (feWin fe) (s.ax (feWin fe) axFeRun) (1000 * s.fld (feWin fe)
        FE.AGC_TIMING_DECAY_MS) = true) ∧
    (∃ (s : State) (fe : Fin 5), s.present (feWin fe) = true ∧ s.fePowered (feWin fe) = true ∧ s.fld (feWin fe)
        FE.AGC_CTL_MODE = 1 ∧ blocksLast (feWin fe) (s.ax (feWin fe) axFeRun) (1000 * s.fld (feWin fe)
        FE.AGC_TIMING_DECAY_MS) = true) :=
  ⟨⟨(runs 0x011 State.reset).put 0x011 FE.AGC_CTL_MODE 0, 1, List.replicate 256 (8191, 0), by decide +kernel⟩,
   ⟨(runs 0x011 State.reset).put 0x011 FE.AGC_CTL_MODE 1, 1, List.replicate 256 (8191, 0), by decide +kernel⟩,
   ⟨State.reset.put 0x011 FE.FE_STATUS_OVERLOAD 1, 1, by decide +kernel⟩,
   ⟨(State.reset.put 0x011 FE.FE_STATUS_OVERLOAD 1).put 0x011 FE.FE_STATUS_GAIN_INDEX (State.reset.fld 0x011
      FE.AGC_CTL_MAX_INDEX), 1, by decide +kernel⟩,
   ⟨(State.reset.setAx 0x011 axFeReturn 1).setAx 0x011 axFeBefore 255, 1, by decide +kernel⟩,
   ⟨(State.reset.setAx 0x011 axFeReturn 1).put 0x011 FE.DIV_CTL_HYST_DB 3, 1, by decide +kernel⟩,
   ⟨(State.reset.setAx 0x011 axFeRequest 2).put 0x011 FE.DIV_CTL_MODE 2, 1, by decide +kernel⟩,
   ⟨(((State.reset.setAx 0x011 axFeRequest 2).put 0x011 FE.DIV_CTL_MODE 2).put 0x011 FE.DIV_CTL_REF_WINDOW (winOFDM
      3)).setAx (winOFDM 3) axOfdmProbe 1, 1, by decide +kernel⟩,
   ⟨gainMid, 1, -(State.reset.fld 0x011 FE.AGC_TIMING_TARGET : Int), .alone, (gainMid.owedStep (feWin 1)
      .alone).offsetBlock (feWin 1), by decide +kernel⟩,
   ⟨gainHigh, 1, 100, (gainHigh.owedStep (feWin 1) .alone).offsetBlock (feWin 1), by decide +kernel⟩,
   ⟨(((runs 0x011 State.reset).put 0x011 FE.AGC_CTL_MODE 1).setAx 0x011 axFeRun 1000000).put 0x011
      FE.FE_STATUS_GAIN_INDEX 9, 1, by decide +kernel⟩,
   ⟨(((runs 0x011 State.reset).put 0x011 FE.AGC_CTL_MODE 1).setAx 0x011 axFeRun 1000000).put 0x011
      FE.FE_STATUS_GAIN_INDEX 9, 1, by decide +kernel⟩⟩

theorem witness_synthEvents :
    (∃ (s : State) (lo : Fin 8) (l : Nat), l = 0x018 + (lo : Nat) ∧ s.fld (pairWin (feOfLo l)) LO.TUNE_STATE = 2 ∧
        s.ax l axLoTarget ≠ 0) ∧
    (∃ (s : State) (lo : Fin 8) (l : Nat), l = 0x018 + (lo : Nat) ∧ s.live l = true ∧ s.fld l LO.LO_KHZ ≠ 0 ∧ s.flag l
        LO.LO_STATUS_LOCKED = false ∧ s.ax l axLoTarget = 0) ∧
    (∃ (s : State) (lo : Fin 8) (l : Nat), l = 0x018 + (lo : Nat) ∧ s.flag l LO.LO_STATUS_LOCKED = true ∧ l ≠
        s.servingLo (feOfLo l)) ∧
    (∃ (s : State) (lo : Fin 8) (l : Nat), l = 0x018 + (lo : Nat) ∧ s.flag l LO.LO_STATUS_LOCKED = true ∧ l =
        s.servingLo (feOfLo l)) ∧
    (∃ (s : State) (fe : Fin 4), s.fld (pairWin (feWin fe)) LO.TUNE_STATE = 3 ∧ (s.inBlend (feWin fe) = false ∨
        s.atomState (feWin fe) = stHOLD) ∧ s.loFault (s.idleLo (feWin fe)) = false) ∧
    (∃ (s : State) (fe : Fin 4), s.fld (pairWin (feWin fe)) LO.TUNE_STATE = 1 ∧ s.fld (pairWin (feWin fe))
        LO.CAL_STATUS_STEP = 0 ∧ (s.inBlend (feWin fe) = false ∨ s.atomState (feWin fe) = stHOLD)) ∧
    (∃ (s : State) (fe : Fin 4) (a : CalArg) (k : Nat), s.fld (pairWin (feWin fe)) LO.CAL_STATUS_STEP = k ∧ k ≠ 0 ∧ k
        ≠ 5 ∧ stepOk k a = true) ∧
    (∃ (s : State) (fe : Fin 4) (a : CalArg) (k : Nat), s.fld (pairWin (feWin fe)) LO.CAL_STATUS_STEP = k ∧ k ≠ 0 ∧ k
        ≠ 5 ∧ stepOk k a = false ∧ k ≠ 1 ∧ k ≠ 6) ∧
    (∃ (s : State) (fe : Fin 4) (a : CalArg) (k : Nat), s.fld (pairWin (feWin fe)) LO.CAL_STATUS_STEP = k ∧ k ≠ 0 ∧ k
        ≠ 5 ∧ a.ok = false ∧ (k = 1 ∨ k = 6)) ∧
    (∃ (s : State) (fe : Fin 4) (a : StartupArg), s.ax (feWin fe) axFeStartCal ≠ 0 ∧ a.okA = true ∧ a.okB = true ∧ 260
        ≤ a.image ∧ a.okFilter = true ∧ a.okOffset = true) ∧
    (∃ (s : State), s.ax 0x014 axFeStartCal ≠ 0) ∧
    (∃ (s : State), s.ax 0x014 axFeStartCal ≠ 0) :=
  ⟨⟨((State.reset.put 0x01A LO.TUNE_STATE 2).setAx 0x01B axLoTarget 98000).setAx 0x01A axLoTune 98000, 3, 0x01B,
      by decide +kernel⟩,
   ⟨(runs 0x01B State.reset).put 0x01B LO.LO_KHZ 98000, 3, 0x01B, by decide +kernel⟩,
   ⟨State.reset.put 0x01B LO.LO_STATUS_LOCKED 1, 3, 0x01B, by decide +kernel⟩,
   ⟨State.reset.put 0x01A LO.LO_STATUS_LOCKED 1, 2, 0x01A, by decide +kernel⟩,
   ⟨State.reset.put 0x01A LO.TUNE_STATE 3, 1, by decide +kernel⟩,
   ⟨State.reset.put 0x01A LO.TUNE_STATE 1, 1, by decide +kernel⟩,
   ⟨State.reset.put 0x01A LO.CAL_STATUS_STEP 2, 1, ⟨true, 0, 0, 0, 0, 300, 0, 0, 0, 0⟩, 2, by decide +kernel⟩,
   ⟨State.reset.put 0x01A LO.CAL_STATUS_STEP 3, 1, ⟨false, 0, 0, 0, 0, 200, 0, 0, 0, 0⟩, 3, by decide +kernel⟩,
   ⟨State.reset.put 0x01A LO.CAL_STATUS_STEP 6, 1, ⟨false, 0, 0, 0, 0, 200, 0, 0, 0, 0⟩, 6, by decide +kernel⟩,
   ⟨State.reset.setAx 0x011 axFeStartCal 1, 1, ⟨true, true, true, true, [], [], 300, [], [], [], [], [], []⟩,
      by decide +kernel⟩,
   ⟨State.reset.setAx 0x014 axFeStartCal 1, by decide +kernel⟩,
   ⟨State.reset.setAx 0x014 axFeStartCal 1, by decide +kernel⟩⟩

theorem witness_calibration :
    (∃ (s : State) (m : Master) (fe : Fin 4), s.accepts m (pairWin (feWin fe)) 0x084 1 (s.calCodes (pairWin (feWin
        fe)) 1) = true) ∧
    (∃ (s : State) (m : Master) (fe : Fin 4), s.accepts m (pairWin (feWin fe)) 0x084 2 (s.calCodes (pairWin (feWin
        fe)) 2) = true) ∧
    (∃ (s : State) (m : Master) (fe : Fin 4), s.accepts m (pairWin (feWin fe)) 0x084 4 (s.calCodes (pairWin (feWin
        fe)) 4) = true) ∧
    (∃ (s : State) (m : Master) (fe : Fin 4), s.accepts m (pairWin (feWin fe)) 0x084 8 (s.calCodes (pairWin (feWin
        fe)) 8) = true) ∧
    (∃ (s : State) (m : Master) (fe : Fin 4), s.accepts m (pairWin (feWin fe)) 0x084 0x100 (s.calCodes (pairWin (feWin
        fe)) 0x100) = true) ∧
    (∃ (s : State) (fe : Fin 4) (temp : Int), s.present (feWin fe) = true ∧ s.fePowered (feWin fe) = true ∧ (temp -
        s.sfld (pairWin (feWin fe)) LO.CAL_TEMP).natAbs < 8 * s.fld (pairWin (feWin fe)) LO.PAIR_CTL_TEMP_THRESH) ∧
    (∃ (s : State) (fe : Fin 4) (temp : Int), s.present (feWin fe) = true ∧ s.fePowered (feWin fe) = true ∧ 8 * s.fld
        (pairWin (feWin fe)) LO.PAIR_CTL_TEMP_THRESH ≤ (temp - s.sfld (pairWin (feWin fe)) LO.CAL_TEMP).natAbs ∧
        s.flag (pairWin (feWin fe)) LO.PAIR_CTL_TEMP_AUTO = true ∧ s.loFault (pairWin (feWin fe)) = false ∧ s.loFault
        (pairWin (feWin fe) + 1) = false) ∧
    (∃ (s : State) (fe : Fin 5), s.ax (feWin fe) axFeDirty ≠ 0) :=
  ⟨⟨runs 0x011 State.reset, 0, 1, by decide +kernel⟩,
   ⟨runs 0x011 State.reset, 0, 1, by decide +kernel⟩,
   ⟨runs 0x011 State.reset, 0, 1, by decide +kernel⟩,
   ⟨runs 0x011 State.reset, 0, 1, by decide +kernel⟩,
   ⟨runs 0x011 State.reset, 0, 1, by decide +kernel⟩,
   ⟨(runs 0x011 State.reset).put 0x01A LO.PAIR_CTL_TEMP_THRESH 10, 1, 3, by decide +kernel⟩,
   ⟨(runs 0x011 State.reset).put 0x01A LO.PAIR_CTL_TEMP_AUTO 1, 1, 3000, by decide +kernel⟩,
   ⟨State.reset.setAx 0x011 axFeDirty 1, 1, by decide +kernel⟩⟩

theorem witness_ofdmSync :
    (∃ (s : State) (n : Fin 16) (mode : Fin 8), s.atomState (winOFDM n) = stWARM ∧ s.syncState (winOFDM n) = 1 ∧
        s.modeAccepted (winOFDM n) mode = true) ∧
    (∃ (s : State) (n : Fin 16) (offset sco : Int), s.atomState (winOFDM n) = stWARM ∧ s.syncState (winOFDM n) = 2 ∧
        inCapture (s.fld (winOFDM n) OFDM.OFDM_CFG_SYSTEM) offset sco = true) ∧
    (∃ (s : State) (n : Fin 16), s.atomState (winOFDM n) = stWARM ∧ s.syncState (winOFDM n) = 3) ∧
    (∃ (s : State) (n : Fin 16), s.atomState (winOFDM n) = stWARM ∧ s.syncState (winOFDM n) = 4 ∧ s.fld (winOFDM n)
        OFDM.OFDM_CFG_SYSTEM ≠ 0) ∧
    (∃ (s : State) (n : Fin 16), s.atomState (winOFDM n) = stWARM ∧ (s.syncState (winOFDM n) = 5 ∨ (s.syncState
        (winOFDM n) = 4 ∧ s.fld (winOFDM n) OFDM.OFDM_CFG_SYSTEM = 0))) ∧
    (∃ (s : State) (n : Fin 16), s.live (winOFDM n) = true ∧ 3 ≤ s.syncState (winOFDM n) ∧ s.syncState (winOFDM n) ≠
        7) ∧
    (∃ (s : State) (n : Fin 16), s.live (winOFDM n) = true ∧ s.syncState (winOFDM n) = 7 ∧ s.modeKept (winOFDM n) =
        true ∧ s.ax (winOFDM n) axReconfPassed = 0) ∧
    (∃ (s : State) (n : Fin 16), s.live (winOFDM n) = true ∧ s.syncState (winOFDM n) = 7) ∧
    (∃ (s : State) (n : Fin 16), s.live (winOFDM n) = true ∧ s.syncState (winOFDM n) = 7) ∧
    (∃ (s : State) (n : Fin 16), s.live (winOFDM n) = true ∧ s.fld (winOFDM n) OFDM.OFDM_CFG_SYSTEM = 0 ∧ 1 ≤
        s.syncState (winOFDM n) ∧ s.syncState (winOFDM n) < 6) ∧
    (∃ (s : State) (n : Fin 16), s.atomState (winOFDM n) = stWARM ∧ s.ax (winOFDM n) axAcqDone = 0 ∧ s.syncState
        (winOFDM n) < 6) :=
  ⟨⟨((demodOn (winOFDM 3)).setUnit (winOFDM 3) UnitX.init).put (winOFDM 3) OFDM.OFDM_STATUS_SYNC_STATE 1, 3, 1,
      by decide +kernel⟩,
   ⟨((demodOn (winOFDM 3)).setUnit (winOFDM 3) UnitX.init).put (winOFDM 3) OFDM.OFDM_STATUS_SYNC_STATE 2, 3, 0, 0,
      by decide +kernel⟩,
   ⟨((demodOn (winOFDM 3)).setUnit (winOFDM 3) UnitX.init).put (winOFDM 3) OFDM.OFDM_STATUS_SYNC_STATE 3, 3,
      by decide +kernel⟩,
   ⟨(((demodOn (winOFDM 3)).setUnit (winOFDM 3) UnitX.init).put (winOFDM 3) OFDM.OFDM_STATUS_SYNC_STATE 4).put (winOFDM
      3) OFDM.OFDM_CFG_SYSTEM 1, 3, by decide +kernel⟩,
   ⟨((demodOn (winOFDM 3)).setUnit (winOFDM 3) UnitX.init).put (winOFDM 3) OFDM.OFDM_STATUS_SYNC_STATE 5, 3,
      by decide +kernel⟩,
   ⟨synced, 3, by decide +kernel⟩,
   ⟨synced.put (winOFDM 3) OFDM.OFDM_STATUS_SYNC_STATE 7, 3, by decide +kernel⟩,
   ⟨synced.put (winOFDM 3) OFDM.OFDM_STATUS_SYNC_STATE 7, 3, by decide +kernel⟩,
   ⟨synced.put (winOFDM 3) OFDM.OFDM_STATUS_SYNC_STATE 7, 3, by decide +kernel⟩,
   ⟨synced.put (winOFDM 3) OFDM.OFDM_STATUS_SYNC_STATE 3, 3, by decide +kernel⟩,
   ⟨((demodOn (winOFDM 3)).setUnit (winOFDM 3) UnitX.init), 3, by decide +kernel⟩⟩

theorem witness_ofdmFrames :
    (∃ (s : State) (n : Fin 16), s.live (winOFDM n) = true ∧ 3 ≤ s.syncState (winOFDM n)) ∧
    (∃ (s : State) (n : Fin 16) (c : ControlArg), s.live (winOFDM n) = true ∧ 3 ≤ s.syncState (winOFDM n) ∧
        s.syncState (winOFDM n) ≠ 7 ∧ c.ok = true) ∧
    (∃ (s : State) (n : Fin 16) (c : ControlArg), s.live (winOFDM n) = true ∧ 3 ≤ s.syncState (winOFDM n) ∧
        s.syncState (winOFDM n) ≠ 7 ∧ c.ok = false) ∧
    (∃ (s : State) (n : Fin 16) (c : ControlArg), s.live (winOFDM n) = true ∧ 3 ≤ s.syncState (winOFDM n) ∧
        s.syncState (winOFDM n) ≠ 7 ∧ c.ok = false ∧ c.kind ≠ 2) ∧
    (∃ (s : State) (n : Fin 16), (s.unit (winOFDM n)).applyBusy = true) ∧
    (∃ (s : State) (n : Fin 16), s.live (winOFDM n) = true ∧ s.flag (winOFDM n) OFDM.OFDM_STATUS_RECONF_PENDING = true
        ∧ s.syncState (winOFDM n) ≠ 7 ∧ (s.bl (blNext (winOFDM n))).isEmpty = true) ∧
    (∃ (s : State) (n : Fin 16), s.live (winOFDM n) = true ∧ s.flag (winOFDM n) OFDM.OFDM_STATUS_RECONF_PENDING = true
        ∧ s.syncState (winOFDM n) ≠ 7 ∧ (s.bl (blNext (winOFDM n))).isEmpty = false) ∧
    (∃ (s : State) (n : Fin 16) (sel : Fin 64) (b : BlockArg), s.atomState (winOFDM n) = stRUN ∧ s.syncState (winOFDM
        n) = 6 ∧ s.selUsed (winOFDM n) sel = true ∧ s.flag (winOFDM n) (OFDM.SEL_PRESENT.at sel) = true ∧ s.flag
        (winOFDM n) (OFDM.SEL_UNSUPPORTED.at sel) = false ∧ s.selKind (winOFDM n) sel ≠ 0 ∧ (s.selKind (winOFDM n) sel
        = 2 → fireNext ((fitInts 64 (s.hs (winOFDM n) hsFire)).getD sel 0) b.fire ≠ 0)) ∧
    (∃ (s : State) (n : Fin 16) (sel : Fin 64) (b : BlockArg), s.atomState (winOFDM n) = stRUN ∧ s.syncState (winOFDM
        n) = 6 ∧ s.selUsed (winOFDM n) sel = true ∧ s.flag (winOFDM n) (OFDM.SEL_PRESENT.at sel) = true ∧ s.flag
        (winOFDM n) (OFDM.SEL_UNSUPPORTED.at sel) = false ∧ s.selKind (winOFDM n) sel = 2 ∧ fireNext ((fitInts 64
        (s.hs (winOFDM n) hsFire)).getD sel 0) b.fire = 0) ∧
    (∃ (s : State) (n : Fin 16), s.live (winOFDM n) = true ∧ 3 ≤ s.syncState (winOFDM n) ∧ s.feOfDemod (winOFDM n) ≠
        0x3FF ∧ s.fld (s.feOfDemod (winOFDM n)) FE.DIV_CTL_MODE = 2 ∧ s.fld (s.feOfDemod (winOFDM n))
        FE.DIV_CTL_REF_WINDOW = (winOFDM n)) :=
  ⟨⟨synced, 3, by decide +kernel⟩,
   ⟨synced, 3, ⟨0, true, [], false, [], []⟩, by decide +kernel⟩,
   ⟨synced, 3, ⟨0, false, [], false, [], []⟩, by decide +kernel⟩,
   ⟨synced, 3, ⟨0, false, [], false, [], []⟩, by decide +kernel⟩,
   ⟨State.reset.setUnit (winOFDM 3) { UnitX.init with applyBusy := true }, 3, by decide +kernel⟩,
   ⟨synced.put (winOFDM 3) OFDM.OFDM_STATUS_RECONF_PENDING 1, 3, by decide +kernel⟩,
   ⟨(synced.put (winOFDM 3) OFDM.OFDM_STATUS_RECONF_PENDING 1).setBl (blNext (winOFDM 3)) [5], 3, by decide +kernel⟩,
   ⟨(((synced.put (winOFDM 3) (OFDM.SEL_SINK.at 2) 0x143).put (winOFDM 3) (OFDM.SEL_PRESENT.at 2) 1).put (winOFDM 3)
      (OFDM.SEL_ID.at 2) 5).setBl (blKinds (winOFDM 3)) [133], 3, 2, ⟨true, true, []⟩, by decide +kernel⟩,
   ⟨(((synced.put (winOFDM 3) (OFDM.SEL_SINK.at 2) 0x143).put (winOFDM 3) (OFDM.SEL_PRESENT.at 2) 1).put (winOFDM 3)
      (OFDM.SEL_ID.at 2) 5).setBl (blKinds (winOFDM 3)) [133], 3, 2, ⟨false, false, []⟩, by decide +kernel⟩,
   ⟨diversity, 3, by decide +kernel⟩⟩

theorem witness_filterRows :
    (∃ (s : State) (m : Master) (w : Fin 1024) (v : Word), (kindOf w = .chanFilter ∨ kindOf w = .audioFilter) ∧
        s.accepts m w 0x050 v [] = true) ∧
    (∃ (s : State) (w : Fin 1024), s.fadeDue w = true) ∧
    (∃ (s : State) (w : Fin 1024), s.present w = true ∧ s.live w = true ∧ kindOf w = .ddc) ∧
    (∃ (s : State) (w : Fin 1024), s.present w = true ∧ s.live w = true ∧ kindOf w = .chanFilter ∧ 5 * s.filtDecim w ≤
        (s.hs w hsIn).length) ∧
    (∃ (s : State) (w : Fin 1024), s.present w = true ∧ s.live w = true ∧ kindOf w = .audioFilter ∧ s.hs (w - 0x20)
        hsPost = []) ∧
    (∃ (s : State) (w : Fin 1024), s.atomState w = stWARM ∧ s.inputValid w = true ∧ s.warmReady w = true) :=
  ⟨⟨bound 0x083, 0, 0x083, 0, by decide +kernel⟩,
   ⟨((runs 0x083 State.reset).put 0x083 FILT.FILT_STATUS_FADING 1).put 0x083 FILT.FILT_STATUS_FADE_POS 1, 0x083,
      by decide +kernel⟩,
   ⟨demodOn 0x041, 0x041, by decide +kernel⟩,
   ⟨(demodOn 0x081).setHs 0x081 hsIn (List.replicate 400 0), 0x081, by decide +kernel⟩,
   ⟨runs 0x1A1 (runs 0x1C1 State.reset), 0x1C1, by decide +kernel⟩,
   ⟨((demodOn 0x041).setUnit 0x041 UnitX.init).setAx 0x041 axWarm 100000, 0x041, by decide +kernel⟩⟩

theorem witness_laneRows :
    (∃ (s : State) (m : Master) (n : Fin 32) (v : Word), s.accepts m (winLane n) 0x050 v (s.laneCodes (winLane n)
        0x050 v) = true) ∧
    (∃ (s : State) (n : Fin 32), s.selectPending n = true) ∧
    (∃ (s : State) (m : Master) (n : Fin 32) (v : Word), s.accepts m (winLane n) 0x048 v [] = true) ∧
    (∃ (s : State) (n : Fin 32), s.live (winLane n) = true) ∧
    (∃ (s : State) (n : Fin 32) (i : Fin 2), kindOf (s.srcOf (winLane n) i) = .queue ∧ (s.live (winLane n) = true ∨
        s.atomState (winLane n) = stHOLD) ∧ s.ax (winLane n) (38 + i) = 0 ∧ 2 ∉ s.taken (s.srcOf (winLane n) i)) ∧
    (∃ (s : State) (n : Fin 32) (i : Fin 2), s.ax (winLane n) (38 + i) ≠ 0) ∧
    (∃ (s : State) (n : Fin 32) (i : Fin 2), kindOf (s.srcOf (winLane n) i) = .queue ∧ s.ax (winLane n) (36 + i) = 1 ∧
        s.live (winLane n) = true ∧ s.qFilled (s.srcOf (winLane n) i) = 0 ∧ (s.taken (s.srcOf (winLane n) i)).all (fun
        x => x == 1) = true) ∧
    (∃ (s : State) (n : Fin 32), s.flag (winLane n) LANE.LANE_STATUS_FADING = true ∧ s.followBound n = false) ∧
    (∃ (s : State) (n : Fin 32), s.ax (winLane n) axRampLen ≤ s.ax (winLane n) axRampAt ∧ s.fld (winLane n)
        LANE.LANE_STATUS_RAMP_STATE = 1) ∧
    (∃ (s : State) (n : Fin 32), s.ax (winLane n) axRampLen ≤ s.ax (winLane n) axRampAt ∧ s.fld (winLane n)
        LANE.LANE_STATUS_RAMP_STATE = 3 ∧ s.recentres (winLane n) = false) ∧
    (∃ (s : State) (n : Fin 32), s.live (winDec n) = true) :=
  ⟨⟨bound (winLane 3), 0, 3, 0, by decide +kernel⟩,
   ⟨selPending, 3, by decide +kernel⟩,
   ⟨bound (winLane 3), 0, 3, 0, by decide +kernel⟩,
   ⟨runs (winLane 3) State.reset, 3, by decide +kernel⟩,
   ⟨fed (winQ 5) (winLane 3) (runs (winLane 3) State.reset), 3, 0, by decide +kernel⟩,
   ⟨State.reset.setAx (winLane 3) 38 9, 3, 0, by decide +kernel⟩,
   ⟨(fed (winQ 5) (winLane 3) (runs (winLane 3) State.reset)).setAx (winLane 3) 36 1, 3, 0, by decide +kernel⟩,
   ⟨State.reset.put (winLane 3) LANE.LANE_STATUS_FADING 1, 3, by decide +kernel⟩,
   ⟨State.reset.put (winLane 3) LANE.LANE_STATUS_RAMP_STATE 1, 3, by decide +kernel⟩,
   ⟨State.reset.put (winLane 3) LANE.LANE_STATUS_RAMP_STATE 3, 3, by decide +kernel⟩,
   ⟨runs (winDec 3) State.reset, 3, by decide +kernel⟩⟩

theorem witness_portRows :
    (∃ (s : State) (n : Fin 32) (e : BitVec 64), s.portRuns (winPort n) = true ∧ s.portRuns (s.clkPort (winPort n)) =
        true ∧ s.flag (winPort n) PORT.PORT_STATUS_CLOCK_LOST = false ∧ (s.portClocking (winPort n) ≠ 0 ∨ onBoundary
        (s.portRate (winPort n)) e.toNat = true)) ∧
    (∃ (s : State) (n : Fin 32), s.ax (winPort n) axPBlock ≠ 0 ∧ s.ax (winPort n) axPGot = s.ax (winPort n) axPBlock) ∧
    (∃ (s : State) (n : Fin 32) (i : Fin 16), (s.ax (winPort n) axPWait).testBit i = true ∧ s.flag (winPort n)
        PORT.PORT_STATUS_STARTED = true ∧ s.live (winPort n) = true ∧ s.ax (winPort n) axPMute = 0 ∧ s.portStopping
        (winPort n) = false ∧ s.crosses (winPort n) i = true) ∧
    (∃ (s : State) (n : Fin 32) (i : Fin 16), s.portStopping (winPort n) = false ∧ (s.ax (winPort n) axPWait).testBit
        i = true) ∧
    (∃ (s : State) (n : Fin 32) (i : Fin 16), s.portStopping (winPort n) = true ∧ s.flag (winPort n)
        PORT.PORT_CTL_ZC_STOP = true ∧ (s.slotMap (winPort n)).testBit i = true ∧ (s.ax (winPort n) axPWait).testBit i
        = false ∧ (s.ax (winPort n) axPStopped).testBit i = false ∧ (s.hs (winPort n) hsRampOut).getD i 0 = 0) ∧
    (∃ (s : State) (n : Fin 32), s.portStopping (winPort n) = true ∧ s.slotsQuiet (winPort n) = true) :=
  ⟨⟨((runs (winPort 3) State.reset).put (winPort 3) PORT.PORT_CFG_CLOCKING 1).put (winPort 3) PORT.PORT_GROUP_CLK_SRC 3,
      3, 0, by decide +kernel⟩,
   ⟨(State.reset.setAx (winPort 3) axPBlock 48).setAx (winPort 3) axPGot 48, 3, by decide +kernel⟩,
   ⟨(((((((runs (winPort 3) State.reset).put (winPort 3) PORT.PORT_STATUS_STARTED 1).setAx (winPort 3) axPWait 2).setAx
      (winPort 3) axPMute 0).setHs (winPort 3) hsAhead [0, 0, 0, 0, 0, 0]))), 3, 1, by decide +kernel⟩,
   ⟨State.reset.setAx (winPort 3) axPWait 2, 3, 1, by decide +kernel⟩,
   ⟨((State.reset.linkUp (winASRC 3) 0 (winPort 3) 0).setAx (winPort 3) 40 1).put (winPort 3) PORT.PORT_CTL_ZC_STOP 1, 3,
      1, by decide +kernel⟩,
   ⟨State.reset.setAx (winPort 3) 40 1, 3, by decide +kernel⟩⟩

theorem witness_portClocks :
    (∃ (s : State) (n : Fin 32), s.portClocking (winPort n) ≠ 0) ∧
    (∃ (s : State) (n : Fin 32) (k : Fin 32), s.portClocking (winPort n) ≠ 0 ∧ s.clockUsers (winPort n) = [winPort k]
        ∧ s.flag (winPort k) PORT.PORT_STATUS_CLOCK_LOST = false ∧ kindOf (s.srcOf (winPort k) 0) ≠ .asrc ∧ (s.unit
        (winPort k)).valid = false) ∧
    (∃ (s : State) (n : Fin 32) (k : Fin 32), s.clockUsers (winPort n) = [winPort k] ∧ s.flag (winPort k)
        PORT.PORT_STATUS_CLOCK_LOST = true ∧ kindOf (s.srcOf (winPort k) 0) ≠ .asrc ∧ s.flag (winPort k)
        PORT.PORT_CTL_AUTO_RESTART = false ∧ s.flag (winPort k) PORT.PORT_CFG_DIR = false) ∧
    (∃ (s : State) (n : Fin 32), s.fld (winASRC n) ASRC.ASRC_STATUS_MODE = 4 ∧ s.ax (winASRC n) axAsrcStep = 2 ∧ 32 ≤
        s.fld (winASRC n) ASRC.ASRC_STATUS_FILL ∧ s.asrcPort (winASRC n) = none) ∧
    (∃ (s : State) (n : Fin 32) (p : Nat), s.fld (winASRC n) ASRC.ASRC_STATUS_MODE = 4 ∧ s.ax (winASRC n) axAsrcStep =
        2 ∧ 32 ≤ s.fld (winASRC n) ASRC.ASRC_STATUS_FILL ∧ s.asrcPort (winASRC n) = some p ∧ s.flag p
        PORT.PORT_CTL_AUTO_RESTART = true) ∧
    (∃ (s : State) (n : Fin 32) (p : Nat), s.fld (winASRC n) ASRC.ASRC_STATUS_MODE = 4 ∧ s.ax (winASRC n) axAsrcStep =
        2 ∧ 32 ≤ s.fld (winASRC n) ASRC.ASRC_STATUS_FILL ∧ s.asrcPort (winASRC n) = some p ∧ s.flag p
        PORT.PORT_CTL_AUTO_RESTART = false) ∧
    (∃ (s : State) (n : Fin 32), s.portClocking (winPort n) ≠ 0 ∧ s.flag (winPort n) PORT.PORT_STATUS_CLOCK_LOST =
        false) ∧
    (∃ (s : State) (n : Fin 32) (period : Nat), s.portClocking (winPort n) ≠ 0 ∧ s.flag (winPort n)
        PORT.PORT_STATUS_CLOCK_LOST = false ∧ (s.rd (winPort n) PORT.FRAME_PERIOD.off).toNat < ((period : Int) - (s.rd
        (winPort n) PORT.FRAME_PERIOD.off).toNat).natAbs * 200) ∧
    (∃ (s : State) (n : Fin 32), s.portClocking (winPort n) = 2) ∧
    (∃ (s : State) (m : Master) (n : Fin 32), s.accepts m (winPort n) 0x048 (s.rd (winPort n) 0x048 ||| 0x100) [] =
        true) :=
  ⟨⟨((State.reset.put (winPort 3) PORT.PORT_CFG_CLOCKING 1).put (winPort 3) PORT.PORT_GROUP_CLK_SRC 3), 3,
      by decide +kernel⟩,
   ⟨((enabled (winPort 3) State.reset).put (winPort 3) UCB.UNIT_CTL_RUN 1).put (winPort 3) PORT.PORT_CFG_CLOCKING 1
      |>.put (winPort 3) PORT.PORT_GROUP_CLK_SRC 3, 3, 3, by decide +kernel⟩,
   ⟨((((enabled (winPort 3) State.reset).put (winPort 3) UCB.UNIT_CTL_RUN 1).put (winPort 3) PORT.PORT_CFG_CLOCKING 1
      |>.put (winPort 3) PORT.PORT_GROUP_CLK_SRC 3).put (winPort 3) PORT.PORT_STATUS_CLOCK_LOST 1).put (winPort 3)
      PORT.PORT_CTL_AUTO_RESTART 0, 3, 3, by decide +kernel⟩,
   ⟨((State.reset.setAx (winASRC 3) axAsrcStep 2).put (winASRC 3) ASRC.ASRC_STATUS_MODE 4).put (winASRC 3)
      ASRC.ASRC_STATUS_FILL 32, 3, by decide +kernel⟩,
   ⟨(fed (winASRC 3) (winPort 3) (((State.reset.setAx (winASRC 3) axAsrcStep 2).put (winASRC 3) ASRC.ASRC_STATUS_MODE
      4).put (winASRC 3) ASRC.ASRC_STATUS_FILL 32)).put (winPort 3) PORT.PORT_CTL_AUTO_RESTART 1, 3, winPort 3,
      by decide +kernel⟩,
   ⟨(fed (winASRC 3) (winPort 3) (((State.reset.setAx (winASRC 3) axAsrcStep 2).put (winASRC 3) ASRC.ASRC_STATUS_MODE
      4).put (winASRC 3) ASRC.ASRC_STATUS_FILL 32)).put (winPort 3) PORT.PORT_CTL_AUTO_RESTART 0, 3, winPort 3,
      by decide +kernel⟩,
   ⟨((State.reset.put (winPort 3) PORT.PORT_CFG_CLOCKING 2).put (winPort 3) PORT.PORT_GROUP_CLK_SRC 3), 3,
      by decide +kernel⟩,
   ⟨((State.reset.put (winPort 3) PORT.PORT_CFG_CLOCKING 2).put (winPort 3) PORT.PORT_GROUP_CLK_SRC 3), 3, 600,
      by decide +kernel⟩,
   ⟨((State.reset.put (winPort 3) PORT.PORT_CFG_CLOCKING 2).put (winPort 3) PORT.PORT_GROUP_CLK_SRC 3), 3,
      by decide +kernel⟩,
   ⟨bound (winPort 3), 0, 3, by decide +kernel⟩⟩

theorem witness_groupRows :
    (∃ (s : State) (m : Master) (g : Fin 8) (v : Word), g ≠ 0 ∧ s.accepts m 0x220 (0x200 + 16 * g) (v ||| 0x10) [] =
        true) ∧
    (∃ (s : State) (m : Master) (g : Fin 8) (v : Word), g ≠ 0 ∧ v.getLsbD 4 = false ∧ s.accepts m 0x220 (0x200 + 16 *
        g) (v ||| 0x20) [] = true) ∧
    (∃ (s : State) (g : Fin 8), g ≠ 0 ∧ s.grpFld g PORT.GRP_CTL_ARM = 1 ∧ s.grpFld g PORT.GRP_CTL_SOURCE = 0) ∧
    (∃ (s : State), s.flag 0x220 PORT.SYNC_IN_CFG_ENABLE = true) ∧
    (∃ (s : State) (e : BitVec 64), s.fld 0x220 PORT.SYNC_OUT_CFG_MODE = 2 ∧ e.toNat % (s.rd 0x220
        PORT.PERIOD.off).toNat = 0) :=
  ⟨⟨bound 0x220, 0, 1, 0, by decide +kernel⟩,
   ⟨bound 0x220, 0, 1, 0, by decide +kernel⟩,
   ⟨State.reset.wr 0x220 0x210 0x10, 1, by decide +kernel⟩,
   ⟨State.reset.put 0x220 PORT.SYNC_IN_CFG_ENABLE 1, by decide +kernel⟩,
   ⟨State.reset.put 0x220 PORT.SYNC_OUT_CFG_MODE 2, 0, by decide +kernel⟩⟩

theorem witness_twoWireController :
    (∃ (s : State) (m : Master) (v : Word), s.accepts m winTWC 0x04C v [] = true) ∧
    (∃ (s : State) (b : Nat) (r : List Nat), s.bl twcRx = b :: r) ∧
    (∃ (s : State) (b : Nat) (r : List Nat), s.bl twcIbr = b :: r) ∧
    (∃ (s : State) (m : Master) (v : Word), s.accepts m winTWC 0x048 (v ||| 0x80000000#32) (s.goCodes (v |||
        0x80000000#32)) = true) ∧
    (∃ (s : State), s.twcOnBus = true) ∧
    (∃ (s : State), s.twcOnBus = true) ∧
    (∃ (s : State), s.twcOnBus = true ∧ s.flag winTWC TWC.TWC_CMD_READ = true) ∧
    (∃ (s : State), s.twcOnBus = true) ∧
    (∃ (s : State), s.flag winTWC TWC.TWC_STATUS_ACTIVE = true ∧ s.ax winTWC axTwcLost = 1 ∧ s.ax winTWC axTwcRetries
        < s.fld winTWC TWC.TWC_CFG_ARB_RETRIES) ∧
    (∃ (s : State), s.flag winTWC TWC.TWC_STATUS_ACTIVE = true ∧ s.ax winTWC axTwcLost = 1 ∧ s.fld winTWC
        TWC.TWC_CFG_ARB_RETRIES ≤ s.ax winTWC axTwcRetries) ∧
    (∃ (s : State), s.live winTWC = true ∧ s.twcChecking = false ∧ s.flag winTWC TWC.TWC_STATUS_HOLDING = false) ∧
    (∃ (s : State), s.live winTWC = true ∧ s.twcOnBus = false ∧ s.twcChecking = false ∧ s.flag winTWC
        TWC.TWC_STATUS_HOLDING = false) ∧
    (∃ (s : State), s.twcChecking = true) ∧
    (∃ (s : State), s.twcChecking = true) ∧
    (∃ (s : State), s.twcChecking = false ∧ s.flag winTWC TWC.TWC_STATUS_ACTIVE = true ∧ s.ax winTWC axTwcWaits = 1 ∧
        s.ax winTWC axTwcLost = 0) :=
  ⟨⟨bound winTWC, 0, 1, by decide +kernel⟩,
   ⟨State.reset.setBl twcRx [7, 8], 7, [8], by decide +kernel⟩,
   ⟨State.reset.setBl twcIbr [7, 8], 7, [8], by decide +kernel⟩,
   ⟨bound winTWC, 0, 0x80, by decide +kernel⟩,
   ⟨(runs winTWC State.reset).put winTWC TWC.TWC_STATUS_ACTIVE 1, by decide +kernel⟩,
   ⟨(runs winTWC State.reset).put winTWC TWC.TWC_STATUS_ACTIVE 1, by decide +kernel⟩,
   ⟨((runs winTWC State.reset).put winTWC TWC.TWC_STATUS_ACTIVE 1).put winTWC TWC.TWC_CMD_READ 1, by decide +kernel⟩,
   ⟨(runs winTWC State.reset).put winTWC TWC.TWC_STATUS_ACTIVE 1, by decide +kernel⟩,
   ⟨(((runs winTWC State.reset).put winTWC TWC.TWC_STATUS_ACTIVE 1).setAx winTWC axTwcLost 1).put winTWC
      TWC.TWC_CFG_ARB_RETRIES 3, by decide +kernel⟩,
   ⟨(((runs winTWC State.reset).put winTWC TWC.TWC_STATUS_ACTIVE 1).setAx winTWC axTwcLost 1).put winTWC
      TWC.TWC_CFG_ARB_RETRIES 0, by decide +kernel⟩,
   ⟨(runs winTWC State.reset).setAx winTWC axTwcReady 1, by decide +kernel⟩,
   ⟨(runs winTWC State.reset).setAx winTWC axTwcReady 1, by decide +kernel⟩,
   ⟨enabled winTWC State.reset, by decide +kernel⟩,
   ⟨enabled winTWC State.reset, by decide +kernel⟩,
   ⟨(State.reset.put winTWC TWC.TWC_STATUS_ACTIVE 1).setAx winTWC axTwcWaits 1, by decide +kernel⟩⟩

theorem witness_busRequests :
    (∃ (s : State) (a : BitVec 7), s.flag winTWC TWC.TWC_CFG_IBR_SERVE = true ∧ s.atomState winTWC = stRUN ∧
        s.twcOnBus = false ∧ s.flag winTWC TWC.TWC_STATUS_HOLDING = false ∧ (s.flag winTWC TWC.TWC_CFG_IBR_ACCEPT_ALL
        = true ∨ s.ibrListed a.toNat = true) ∧ (s.bl twcIbr).length < 4) ∧
    (∃ (s : State) (a : BitVec 7), s.flag winTWC TWC.TWC_CFG_IBR_SERVE = true ∧ s.atomState winTWC = stRUN ∧
        s.twcOnBus = false ∧ s.flag winTWC TWC.TWC_STATUS_HOLDING = false ∧ (4 ≤ (s.bl twcIbr).length ∨ (s.flag winTWC
        TWC.TWC_CFG_IBR_ACCEPT_ALL = false ∧ s.ibrListed a.toNat = false))) ∧
    (∃ (s : State), s.ibrWants = true ∧ s.flag blkHost HOST.TWT_STATUS_IBR_PENDING = false) ∧
    (∃ (s : State), s.ibrWants = true) ∧
    (∃ (s : State), s.ax blkHost axIbrDrive = 1) ∧
    (∃ (s : State), s.ax blkHost axIbrDrive = 1) :=
  ⟨⟨((runs winTWC State.reset).put winTWC TWC.TWC_CFG_IBR_SERVE 1).put winTWC TWC.TWC_CFG_IBR_ACCEPT_ALL 1, 5,
      by decide +kernel⟩,
   ⟨((runs winTWC State.reset).put winTWC TWC.TWC_CFG_IBR_SERVE 1).setBl twcIbr [1, 2, 3, 4], 5, by decide +kernel⟩,
   ⟨ibrReady, by decide +kernel⟩,
   ⟨ibrReady, by decide +kernel⟩,
   ⟨State.reset.setAx blkHost axIbrDrive 1, by decide +kernel⟩,
   ⟨State.reset.setAx blkHost axIbrDrive 1, by decide +kernel⟩⟩

theorem witness_feedRows :
    (∃ (s : State) (m : Master) (n : Fin 8) (v : Word), s.accepts m (winFeed n) 0x040 v (s.feedCodes (winFeed n) 0x040
        v) = true) ∧
    (∃ (s : State) (n : Fin 8), s.feedState (winFeed n) = 1) ∧
    (∃ (s : State) (n : Fin 8), s.feedState (winFeed n) = 2 ∧ s.ax (winFeed n) axFeedShorts < 2 ∧ s.flag (winFeed n)
        FEED.FEED_CTL_AUTO_RETRY = true) ∧
    (∃ (s : State) (n : Fin 8), s.feedState (winFeed n) = 3 ∧ s.ax (winFeed n) axFeedBlocked = 0 ∧ s.flag (winFeed n)
        FEED.FEED_CTL_ON = true ∧ s.feedsAllowed = true ∧ (s.unit (winFeed n)).safe = false ∧ (s.unit (winFeed
        n)).selfFail = false) ∧
    (∃ (s : State) (n : Fin 8), s.feedState (winFeed n) = 2 ∧ s.flag (winFeed n) FEED.FEED_STATUS_OPEN = false) ∧
    (∃ (s : State) (n : Fin 8), s.flag (winFeed n) FEED.FEED_STATUS_OPEN = true) ∧
    (∃ (s : State) (n : Fin 8), s.feedLit (winFeed n) = true) ∧
    (∃ (s : State) (n : Fin 8) (rest : List Nat), s.power.savedFeeds = winFeed n :: rest ∧ s.power.die = 0) :=
  ⟨⟨bound (winFeed 3), 0, 3, 0x00010500, by decide +kernel⟩,
   ⟨State.reset.put (winFeed 3) FEED.FEED_STATUS_STATE 1, 3, by decide +kernel⟩,
   ⟨(State.reset.put (winFeed 3) FEED.FEED_STATUS_STATE 2).put (winFeed 3) FEED.FEED_CTL_AUTO_RETRY 1, 3,
      by decide +kernel⟩,
   ⟨(State.reset.put (winFeed 3) FEED.FEED_STATUS_STATE 3).put (winFeed 3) FEED.FEED_CTL_ON 1, 3, by decide +kernel⟩,
   ⟨State.reset.put (winFeed 3) FEED.FEED_STATUS_STATE 2, 3, by decide +kernel⟩,
   ⟨State.reset.put (winFeed 3) FEED.FEED_STATUS_OPEN 1, 3, by decide +kernel⟩,
   ⟨State.reset.put (winFeed 3) FEED.FEED_STATUS_STATE 1, 3, by decide +kernel⟩,
   ⟨{ State.reset with power := { State.reset.power with savedFeeds := [winFeed 3] } }, 3, [], by decide +kernel⟩⟩

theorem witness_queueRows :
    (∃ (s : State) (m : Master) (n : Fin 64) (v : Word), s.accepts m (winQ n) QUE.Q_CONS.off v (s.consCodes m (winQ n)
        v) = true) ∧
    (∃ (s : State) (m : Master) (n : Fin 64) (v : Word), s.accepts m (winQ n) QUE.Q_PROD.off v (s.prodCodes m (winQ n)
        v) = true) ∧
    (∃ (s : State) (n : Fin 64), s.qCanTake (winQ n) = true ∧ s.descGood (winQ n) (s.takeIndex (winQ n)) = true) ∧
    (∃ (s : State) (n : Fin 64), s.qCanTake (winQ n) = true ∧ s.descGood (winQ n) (s.takeIndex (winQ n)) = false) ∧
    (∃ (s : State) (n : Fin 64), s.usedUp (winQ n) = true) ∧
    (∃ (s : State) (n : Fin 64) (r : RecordArg), recordType r.type.toNat = true ∧ s.qTakes (winQ n) = true ∧ s.qFits
        (winQ n) r.data.length = true) ∧
    (∃ (s : State) (n : Fin 64) (r : RecordArg), recordType r.type.toNat = true ∧ s.qTakes (winQ n) = true ∧ s.qFits
        (winQ n) r.data.length = false) ∧
    (∃ (s : State) (n : Fin 64), kindOf (s.srcOf (winQ n) 0) = .chanFilter ∧ s.iqDue (winQ n) = true ∧ s.qTakes (winQ
        n) = true) ∧
    (∃ (s : State) (n : Fin 64), s.ax (winQ n) axQFinal = 1 ∧ 0 < s.qFree (winQ n)) :=
  ⟨⟨bound (winQ 5), 0, 5, 0, by decide +kernel⟩,
   ⟨bound (winQ 5), 0, 5, 0, by decide +kernel⟩,
   ⟨goodDesc, 5, by decide +kernel⟩,
   ⟨hostQueue, 5, by decide +kernel⟩,
   ⟨(ringAt State.reset).setBl (winQ 5 * 4) [2], 5, by decide +kernel⟩,
   ⟨devQueue, 5, ⟨2, 0, false, false, false, 0, []⟩, by decide +kernel⟩,
   ⟨devQueue.setAx (winQ 5) axQHeld 16, 5, ⟨2, 0, false, false, false, 0, []⟩, by decide +kernel⟩,
   ⟨((fed 0x081 (winQ 5) devQueue).put (winQ 5) QUE.IQ_BLOCK 1).setHs (winQ 5) hsIqData [0, 0], 5, by decide +kernel⟩,
   ⟨devQueue.setAx (winQ 5) axQFinal 1, 5, by decide +kernel⟩⟩

theorem witness_unitRows :
    (∃ (s : State) (m : Master) (w : Fin 1024) (v : Word), s.isComposite w = false ∧ s.accepts m w 0x004 v (s.ctlCodes
        w v) = true) ∧
    (∃ (s : State) (m : Master) (w : Fin 1024) (v : Word), s.isComposite w = true ∧ s.accepts m w 0x004 v (s.ctlCodes
        w v) = true) ∧
    (∃ (s : State) (m : Master) (w : Fin 1024) (v : Word), s.accepts m w 0x004 (v ||| 0x08) (s.ctlCodes w (v |||
        0x08)) = true) ∧
    (∃ (s : State) (m : Master) (w : Fin 1024) (v : Word), s.accepts m w 0x004 (v ||| 0x10) (s.ctlCodes w (v |||
        0x10)) = true) ∧
    (∃ (s : State) (m : Master) (w : Fin 1024) (v : Word), s.accepts m w 0x004 (v ||| 0x80) (s.ctlCodes w (v |||
        0x80)) = true) ∧
    (∃ (s : State) (w : Fin 1024), (s.unit w).applyBusy = true ∧ (s.takeStaged w).2 = true) ∧
    (∃ (s : State) (w : Fin 1024) (v : Word), (s.unit w).deferred = some v ∧ s.busyOf w = false) :=
  ⟨⟨bound 0x083, 0, 0x083, 3, by decide +kernel⟩,
   ⟨State.reset, 0, 0, 3, by decide +kernel⟩,
   ⟨bound 0x083, 0, 0x083, 3, by decide +kernel⟩,
   ⟨bound 0x083, 0, 0x083, 3, by decide +kernel⟩,
   ⟨bound 0x083, 0, 0x083, 3, by decide +kernel⟩,
   ⟨State.reset.setUnit 0x043 { UnitX.init with applyBusy := true }, 0x043, by decide +kernel⟩,
   ⟨State.reset.setUnit 0x043 { UnitX.init with deferred := some 1 }, 0x043, 1, by decide +kernel⟩⟩

theorem witness_pigeonholes :
    (∃ (s : State) (m : Master) (ph : Fin 8) (v : Word), s.accepts m blkPigeon (0x20 * ph + 0x08) v [] = true ∧
        (s.fifo true ph).words.length < 8) ∧
    (∃ (s : State) (m : Master) (ph : Fin 8) (v : Word), s.accepts m blkPigeon (0x20 * ph + 0x08) v [] = true ∧ 8 ≤
        (s.fifo true ph).words.length) ∧
    (∃ (s : State) (m : Master) (ph : Fin 8) (v : Word), s.accepts m blkPigeon (0x20 * ph) v [] = true ∧ s.ax
        blkPigeon (axDiscard ph) = 0 ∧ (s.fifo false ph).words.length < 8 ∧ v.toNat % 65536 ≤ 7) ∧
    (∃ (s : State) (m : Master) (ph : Fin 8) (v : Word), s.accepts m blkPigeon (0x20 * ph) v [] = true ∧ s.ax
        blkPigeon (axDiscard ph) = 0 ∧ 8 ≤ (s.fifo false ph).words.length) ∧
    (∃ (s : State) (ph : Fin 8) (v : Word) (rest : List Word), (s.fifo false ph).words = v :: rest) ∧
    (∃ (s : State) (ph : Fin 8) (v : Word) (rest : List Word), (s.fifo true ph).words = v :: rest ∧ (s.fw.outbox.any
        (fun x => x.ph == ph)) = false) ∧
    (∃ (s : State) (m : Master) (ph : Fin 8), s.accepts m blkPigeon (0x20 * ph + 0x10) 0x20 [] = true ∧ (s.fifo false
        ph).words = []) ∧
    (∃ (s : State) (m : Master) (ph : Fin 8), s.accepts m blkPigeon (0x20 * ph + 0x10) 0x20 [] = true ∧ (s.fifo false
        ph).words ≠ []) ∧
    (∃ (s : State) (m : Master) (ph : Fin 8), s.accepts m blkPigeon (0x20 * ph + 0x10) 0x200000 [] = true ∧ (s.fifo
        true ph).words = []) ∧
    (∃ (s : State) (m : Master) (ph : Fin 8), s.accepts m blkPigeon (0x20 * ph + 0x10) 0x200000 [] = true ∧ (s.fifo
        true ph).words ≠ []) ∧
    (∃ (s : State) (ph : Fin 8) (v : Word) (rest : List Word), (s.fifo false ph).words = v :: rest ∧ s.fw.inService =
        true ∧ rest.length < v.toNat % 65536) ∧
    (∃ (s : State) (ph : Fin 8) (op : BitVec 8), op.toNat ∉ servedOpcodes ∧ s.serves ph op.toNat = true) :=
  ⟨⟨State.reset, 0, 2, 9, by decide +kernel⟩,
   ⟨fullFifo true, 0, 2, 9, by decide +kernel⟩,
   ⟨State.reset, 0, 2, 0, by decide +kernel⟩,
   ⟨fullFifo false, 0, 2, 9, by decide +kernel⟩,
   ⟨fullFifo false, 2, 1, [2, 3, 4, 5, 6, 7, 8], by decide +kernel⟩,
   ⟨fullFifo true, 2, 1, [2, 3, 4, 5, 6, 7, 8], by decide +kernel⟩,
   ⟨State.reset, 0, 2, by decide +kernel⟩,
   ⟨fullFifo false, 0, 2, by decide +kernel⟩,
   ⟨State.reset, 0, 2, by decide +kernel⟩,
   ⟨fullFifo true, 0, 2, by decide +kernel⟩,
   ⟨served.setFifo false 2 ⟨[1], false, false, false⟩, 2, 1, [], by decide +kernel⟩,
   ⟨served, 3, 0xEE, by decide +kernel⟩⟩

theorem witness_systemCommands :
    (∃ (s : State) (ph : Fin 8), s.serves ph 0x00 = true) ∧
    (∃ (s : State) (ph : Fin 8), s.serves ph 0x01 = true) ∧
    (∃ (s : State) (ph : Fin 8), s.serves ph 0x02 = true) ∧
    (∃ (s : State) (ph : Fin 8), s.serves ph 0x04 = true) ∧
    (∃ (s : State) (ph : Fin 8) (mask : Word), s.serves ph 0x03 = true ∧ mask.toNat % 8 ≠ 0 ∧ s.tree.job = none) :=
  ⟨⟨served, 3, by decide +kernel⟩,
   ⟨served, 3, by decide +kernel⟩,
   ⟨served, 3, by decide +kernel⟩,
   ⟨served, 3, by decide +kernel⟩,
   ⟨served, 3, 1, by decide +kernel⟩⟩

theorem witness_bellsAndLatches :
    (∃ (s : State) (m : Master) (v : Word), s.accepts m blkPigeon 0x100 v [] = true) ∧
    (∃ (s : State) (m : Master) (v : Word), s.accepts m blkPigeon 0x110 v [] = true) ∧
    (∃ (s : State) (m : Master) (v : Word), s.accepts m blkPigeon 0x104 v [] = true) ∧
    (∃ (s : State) (m : Master) (v : Word), s.accepts m blkPigeon 0x114 v [] = true) ∧
    (∃ (s : State) (m : Master) (k : Fin 4) (v : Word), s.accepts m blkEvents (4 * k) v [] = true) :=
  ⟨⟨State.reset, 0, 5, by decide +kernel⟩,
   ⟨State.reset, 0, 5, by decide +kernel⟩,
   ⟨State.reset, 0, 5, by decide +kernel⟩,
   ⟨State.reset, 0, 5, by decide +kernel⟩,
   ⟨State.reset, 0, 2, 5, by decide +kernel⟩⟩

theorem witness_guestbook :
    (∃ (s : State) (ph : Fin 8) (args : List Word), s.serves ph 0x40 = true ∧ s.guest.ready = true ∧ ((arg args 0 =
        0x3FF ∨ kindOf (arg args 0) = .queue)) ∧ arg args 1 ≤ 255 ∧ 1 ≤ arg args 2 ∧ arg args 2 ≤ 65535 ∧ 1 ≤ arg args
        3 ∧ arg args 3 ≤ 65535) ∧
    (∃ (s : State) (ph : Fin 8) (args : List Word) (i : Nat), s.serves ph 0x41 = true ∧ s.guest.ready = true ∧ arg
        args 1 % 16777216 ≠ 0 ∧ s.gbFind (args.getD 0 0) (arg args 1 % 268435456) = some i) ∧
    (∃ (s : State) (ph : Fin 8) (args : List Word), s.serves ph 0x41 = true ∧ s.guest.ready = true ∧ arg args 1 %
        16777216 ≠ 0 ∧ s.gbFind (args.getD 0 0) (arg args 1 % 268435456) = none) ∧
    (∃ (s : State) (ph : Fin 8) (args : List Word), s.serves ph 0x42 = true ∧ s.guest.ready = true ∧ (⟨args.getD 0 0,
        setBit (args.getD 1 0) 31 false, args.getD 2 0, args.getD 3 0⟩ : GRec).ok = false) ∧
    (∃ (s : State) (ph : Fin 8) (args : List Word) (i : Nat), s.serves ph 0x42 = true ∧ s.guest.ready = true ∧
        (⟨args.getD 0 0, setBit (args.getD 1 0) 31 false, args.getD 2 0, args.getD 3 0⟩ : GRec).ok = true ∧ ((s.heard
        ph).mirrorMsg 2 (w32 0x42 :: args)).gbFind (args.getD 0 0) (⟨args.getD 0 0, setBit (args.getD 1 0) 31 false,
        args.getD 2 0, args.getD 3 0⟩ : GRec).place = none ∧ (((s.heard ph).mirrorMsg 2 (w32 0x42 :: args)).gbInsert
        ⟨args.getD 0 0, setBit (args.getD 1 0) 31 false, args.getD 2 0, args.getD 3 0⟩).2 = some i) ∧
    (∃ (s : State) (ph : Fin 8) (args : List Word) (i : Nat), s.serves ph 0x42 = true ∧ s.guest.ready = true ∧
        (⟨args.getD 0 0, setBit (args.getD 1 0) 31 false, args.getD 2 0, args.getD 3 0⟩ : GRec).ok = true ∧ ((s.heard
        ph).mirrorMsg 2 (w32 0x42 :: args)).gbFind (args.getD 0 0) (⟨args.getD 0 0, setBit (args.getD 1 0) 31 false,
        args.getD 2 0, args.getD 3 0⟩ : GRec).place = some i) ∧
    (∃ (s : State) (ph : Fin 8) (args : List Word), s.serves ph 0x43 = true ∧ s.guest.ready = true ∧ ((s.heard
        ph).mirrorMsg 2 (w32 0x43 :: args)).gbOccupied (arg args 0) = true) ∧
    (∃ (s : State) (ph : Fin 8) (args : List Word), s.serves ph 0x44 = true ∧ s.guest.ready = true ∧ ((s.heard
        ph).mirrorMsg 2 (w32 0x44 :: args)).gbOccupied (arg args 0) = true) ∧
    (∃ (s : State) (ph : Fin 8) (args : List Word), s.serves ph 0x45 = true ∧ s.guest.ready = true ∧ ((s.heard
        ph).mirrorMsg 2 (w32 0x45 :: args)).gbOccupied (arg args 0) = true ∧ ((s.heard ph).mirrorMsg 2 (w32 0x45 ::
        args)).gbOccupied (arg args 1) = true) ∧
    (∃ (s : State) (ph : Fin 8) (args : List Word), s.serves ph 0x46 = true ∧ s.guest.ready = true ∧ ((s.heard
        ph).mirrorMsg 2 (w32 0x46 :: args)).gbOccupied (arg args 0) = true) ∧
    (∃ (s : State) (ph : Fin 8) (args : List Word), s.serves ph 0x47 = true ∧ s.guest.ready = true ∧ ((s.heard
        ph).mirrorMsg 2 (w32 0x47 :: args)).ckptRuns = true) ∧
    (∃ (s : State) (ph : Fin 8) (args : List Word), s.serves ph 0x48 = true ∧ s.guest.ready = true ∧ args.getD 0 0 =
        0x47424358) ∧
    (∃ (s : State) (ph : Fin 8) (args : List Word), s.serves ph 0x48 = true ∧ s.guest.ready = true ∧ args.getD 0 0 ≠
        0x47424358) ∧
    (∃ (s : State) (ph : Fin 8), s.serves ph 0x49 = true) ∧
    (∃ (s : State), s.guest.ready = true ∧ s.fw.inService = true) ∧
    (∃ (s : State), s.ckptRuns = true ∧ s.guest.ckptMin ≠ 0) ∧
    (∃ (s : State), s.ckptRuns = true) ∧
    (∃ (s : State), s.guest.ready = false ∧ s.guest.stopped = false ∧ s.fw.inService = true) :=
  ⟨⟨gbServed, 3, [0x3FF, 0, 30, 60], by decide +kernel⟩,
   ⟨gbFound, 3, [0xC201, 0x00017F0C], gbHome 0xC201 0x17F0C, by decide +kernel⟩,
   ⟨gbServed, 3, [0xC201, 0x00017F0C], by decide +kernel⟩,
   ⟨gbServed, 3, [0, 0x0F000000], by decide +kernel⟩,
   ⟨gbServed, 3, [0xC201, 0x00017F0C, 0, 0], gbHome 0xC201 0x17F0C, by decide +kernel⟩,
   ⟨gbFound, 3, [0xC201, 0x00017F0C, 0, 0], gbHome 0xC201 0x17F0C, by decide +kernel⟩,
   ⟨gbHolds, 3, [0], by decide +kernel⟩,
   ⟨gbHolds, 3, [0, 0x10000000, 0x10000000], by decide +kernel⟩,
   ⟨gbHolds, 3, [0, 0, 0], by decide +kernel⟩,
   ⟨gbHolds, 3, [0], by decide +kernel⟩,
   ⟨gbServed, 3, [], by decide +kernel⟩,
   ⟨gbServed, 3, [0x47424358], by decide +kernel⟩,
   ⟨gbServed, 3, [], by decide +kernel⟩,
   ⟨served, 3, by decide +kernel⟩,
   ⟨gbServed, by decide +kernel⟩,
   ⟨gbServed, by decide +kernel⟩,
   ⟨gbServed, by decide +kernel⟩,
   ⟨served, by decide +kernel⟩⟩

theorem witness_sideData :
    (∃ (s : State) (n : Fin 64) (c : Coded) (x : List Nat × List Nat), s.sdRuns (winSD n) = true ∧ s.sdKind0 (winSD n)
        = 2 ∧ s.nextCoded (winSD n) 0 = some c ∧ cutFig c.bytes = some x ∧ c.good = true) ∧
    (∃ (s : State) (n : Fin 64) (c : Coded) (x : List Nat × List Nat), s.sdRuns (winSD n) = true ∧ s.sdKind0 (winSD n)
        = 2 ∧ s.nextCoded (winSD n) 0 = some c ∧ cutFig c.bytes = some x ∧ c.good = false) ∧
    (∃ (s : State) (n : Fin 64) (c : Coded), s.sdRuns (winSD n) = true ∧ s.sdKind0 (winSD n) = 2 ∧ s.nextCoded (winSD
        n) 0 = some c ∧ cutFig c.bytes = none) ∧
    (∃ (s : State) (n : Fin 64) (c : Coded), s.sdRuns (winSD n) = true ∧ s.padOfDab (winSD n) = true ∧ s.nextCoded
        (winSD n) 1 = some c ∧ c.tag ≠ 1) ∧
    (∃ (s : State) (n : Fin 64) (c : Coded) (x : List Nat × List Nat), s.sdRuns (winSD n) = true ∧ s.sdKind1 (winSD n)
        = 2 ∧ s.nextCoded (winSD n) 1 = some c ∧ cutPacket c.bytes = some x ∧ ((s.keepRest (winSD n) 1 c x.2).flag
        (winSD n) SD.PKT_ADDR_ANY || (s.keepRest (winSD n) 1 c x.2).fld (winSD n) SD.PKT_ADDR_ADDR == beNat (x.1.take
        2) % 1024) = true ∧ (s.keepRest (winSD n) 1 c x.2).flag (winSD n) SD.SD_CFG_DG_MODE = false) ∧
    (∃ (s : State) (n : Fin 64) (c : Coded) (x : List Nat × List Nat), s.sdRuns (winSD n) = true ∧ s.sdKind1 (winSD n)
        = 2 ∧ s.nextCoded (winSD n) 1 = some c ∧ cutPacket c.bytes = some x ∧ ((s.keepRest (winSD n) 1 c x.2).flag
        (winSD n) SD.PKT_ADDR_ANY || (s.keepRest (winSD n) 1 c x.2).fld (winSD n) SD.PKT_ADDR_ADDR == beNat (x.1.take
        2) % 1024) = true ∧ (s.keepRest (winSD n) 1 c x.2).flag (winSD n) SD.SD_CFG_DG_MODE = true) ∧
    (∃ (s : State) (n : Fin 64) (c : Coded), s.sdRuns (winSD n) = true ∧ s.sdKind0 (winSD n) = 3 ∧ s.nextCoded (winSD
        n) 0 = some c ∧ c.tag = 2) ∧
    (∃ (s : State) (n : Fin 64) (c : Coded), s.sdRuns (winSD n) = true ∧ s.sdKind0 (winSD n) = 3 ∧ s.nextCoded (winSD
        n) 0 = some c ∧ c.tag = 1) ∧
    (∃ (s : State) (n : Fin 64), s.sdRuns (winSD n) = true ∧ s.sdKind1 (winSD n) = 1 ∧ s.padOfDab (winSD n) = false) ∧
    (∃ (s : State) (n : Fin 64) (c : Coded), s.sdRuns (winSD n) = true ∧ s.sdKind1 (winSD n) = 3 ∧ s.nextCoded (winSD
        n) 1 = some c) ∧
    (∃ (s : State) (n : Fin 64) (c : Coded), s.sdRuns (winSD n) = true ∧ s.sdKind1 (winSD n) = 3 ∧ s.nextCoded (winSD
        n) 1 = some c) ∧
    (∃ (s : State) (n : Fin 64), s.live (winSD n) = true ∧ s.fld (winSD n) SD.SD_CFG_QREP_MS ≠ 0 ∧ s.srcOf (winSD n) 0
        ≠ 0x3FF ∧ (s.live (s.srcOf (winSD n) 0) = true ∨ s.atomState (s.srcOf (winSD n) 0) = stHOLD)) ∧
    (∃ (s : State) (n : Fin 64), s.sdRuns (winSD n) = true ∧ s.sdKind0 (winSD n) = 1) ∧
    (∃ (s : State) (n : Fin 64), s.sdRuns (winSD n) = true ∧ s.sdKind0 (winSD n) = 1 ∧ s.flag (winSD n)
        SD.SD_STATUS_RDS_SYNC = false ∧ (s.rdsSearch (winSD n) (s.hs (winSD n) hsIn).length).bl (blSd (winSD n) sdNets
        0) = []) :=
  ⟨⟨gaveFib true, 5, ⟨9, true, 0, [1, 5]⟩, ([1, 5], []), by decide +kernel⟩,
   ⟨gaveFib false, 5, ⟨9, false, 0, [1, 5]⟩, ([1, 5], []), by decide +kernel⟩,
   ⟨(sdOn 2 0).giveCoded (winSD 5) 0 ⟨9, true, 0, [0xFF]⟩, 5, ⟨9, true, 0, [0xFF]⟩, by decide +kernel⟩,
   ⟨(sdOn 0 4).giveCoded (winSD 5) 1 ⟨9, true, 0, [0, 0]⟩, 5, ⟨9, true, 0, [0, 0]⟩, by decide +kernel⟩,
   ⟨((sdOn 0 2).put (winSD 5) SD.PKT_ADDR_ANY 1).giveCoded (winSD 5) 1 ⟨9, true, 0, List.replicate 24 0⟩, 5, ⟨9, true, 0,
      List.replicate 24 0⟩, (List.replicate 24 0, []), by decide +kernel⟩,
   ⟨(((sdOn 0 2).put (winSD 5) SD.PKT_ADDR_ANY 1).put (winSD 5) SD.SD_CFG_DG_MODE 1).giveCoded (winSD 5) 1 ⟨9, true, 0,
      List.replicate 24 0⟩, 5, ⟨9, true, 0, List.replicate 24 0⟩, (List.replicate 24 0, []), by decide +kernel⟩,
   ⟨(sdOn 3 0).giveCoded (winSD 5) 0 ⟨9, true, 2, [1, 0]⟩, 5, ⟨9, true, 2, [1, 0]⟩, by decide +kernel⟩,
   ⟨(sdOn 3 0).giveCoded (winSD 5) 0 ⟨9, true, 1, [1, 0]⟩, 5, ⟨9, true, 1, [1, 0]⟩, by decide +kernel⟩,
   ⟨sdOn 0 1, 5, by decide +kernel⟩,
   ⟨(sdOn 0 3).giveCoded (winSD 5) 1 ⟨9, true, 0, [1, 0]⟩, 5, ⟨9, true, 0, [1, 0]⟩, by decide +kernel⟩,
   ⟨(sdOn 0 3).giveCoded (winSD 5) 1 ⟨9, true, 0, [1, 0]⟩, 5, ⟨9, true, 0, [1, 0]⟩, by decide +kernel⟩,
   ⟨(runs (winSD 5) (fed (winFM 3) (winSD 5) (demodOn (winFM 3)))).put (winSD 5) SD.SD_CFG_QREP_MS 100, 5,
      by decide +kernel⟩,
   ⟨sdOn 1 0, 5, by decide +kernel⟩,
   ⟨sdOn 1 0, 5, by decide +kernel⟩⟩

theorem witness_scan :
    (∃ (s : State) (ph : Fin 8) (args : List Word), s.serves ph 0x4C = true ∧ inQram (arg args 0) (arg args 1) = true
        ∧ arg args 1 % 12 = 0 ∧ arg args 1 ≤ 768) ∧
    (∃ (s : State) (ph : Fin 8) (args : List Word), s.serves ph 0x4C = true ∧ inQram (arg args 0) (arg args 1) =
        false) ∧
    (∃ (s : State) (ph : Fin 8) (args : List Word), s.serves ph 0x4D = true ∧ arg args 1 ≤ 3600) ∧
    (∃ (s : State) (ph : Fin 8), s.serves ph 0x4E = true) ∧
    (∃ (s : State) (p : Nat × Nat) (f d m : Nat), s.fw.inService = true ∧ s.scan.run = true ∧ s.scan.pausing = false ∧
        s.scan.tasks.length < s.scan.maxTasks ∧ (planFreqs s.scan.plan)[s.scan.next]? = some p ∧ s.carried p.1 p.2 =
        false ∧ s.bestFe p.1 p.2 = some f ∧ s.freeChannel = some d ∧ s.freeDemod p.1 = some m ∧ p.1 = 1) ∧
    (∃ (s : State) (p : Nat × Nat) (f d m x : Nat), s.fw.inService = true ∧ s.scan.run = true ∧ s.scan.pausing = false
        ∧ s.scan.tasks.length < s.scan.maxTasks ∧ (planFreqs s.scan.plan)[s.scan.next]? = some p ∧ s.carried p.1 p.2 =
        false ∧ s.bestFe p.1 p.2 = some f ∧ s.freeChannel = some d ∧ s.freeDemod p.1 = some m ∧ p.1 ≠ 1 ∧ s.freeUnitOf
        (winSD 0) 64 = some x) ∧
    (∃ (s : State) (i : Fin 16) (x : TaskX), s.scan.tasks[i.val]? = some x ∧ s.taskEnds x 0 = true) ∧
    (∃ (s : State) (i : Fin 16) (x : TaskX), s.scan.tasks[i.val]? = some x ∧ s.taskEnds x 1 = true) ∧
    (∃ (s : State) (i : Fin 16) (x : TaskX), s.scan.tasks[i.val]? = some x) ∧
    (∃ (s : State), s.scan.run = true ∧ s.scan.pausing = true) :=
  ⟨⟨served, 3, [0x01000000, 0], by decide +kernel⟩,
   ⟨served, 3, [], by decide +kernel⟩,
   ⟨served, 3, [0x101, 60], by decide +kernel⟩,
   ⟨served, 3, by decide +kernel⟩,
   ⟨scanReady, (1, 999), 0x014, 0x040, 0x0F0, by decide +kernel⟩,
   ⟨scanReadyFm, (0, 98000), 0x010, 0x040, 0x0C0, 0x140, by decide +kernel⟩,
   ⟨{ State.reset with scan := { State.reset.scan with tasks := [⟨2, 220000, [0x043, 0x083, 0x103, 0x143]⟩] } }, 0, ⟨2,
      220000, [0x043, 0x083, 0x103, 0x143]⟩, by decide +kernel⟩,
   ⟨endsEarly, 0, ⟨2, 220000, [0x043, 0x083, 0x103, 0x143]⟩, by decide +kernel⟩,
   ⟨{ State.reset with scan := { State.reset.scan with tasks := [⟨2, 220000, [0x043, 0x083, 0x103, 0x143]⟩] } }, 0, ⟨2,
      220000, [0x043, 0x083, 0x103, 0x143]⟩, by decide +kernel⟩,
   ⟨{ State.reset with scan := { State.reset.scan with run := true, pausing := true } }, by decide +kernel⟩⟩

theorem witness_followChecks :
    (∃ (s : State) (n : Fin 32) (home : Word), s.folIdle (winFollow n) = true ∧ ((s.folCur (winFollow n)
        home).useFresh).epochTrusted = true ∧ ((s.folCur (winFollow n) home).useFresh).ax (winFollow n) axFolForce = 0
        ∧ s.folLost (winFollow n) = true ∧ ((s.folCur (winFollow n) home).useFresh).folPlays (winFollow n) = 1) ∧
    (∃ (s : State) (n : Fin 32) (home : Word) (i : Nat), s.folIdle (winFollow n) = true ∧ ((s.folCur (winFollow n)
        home).useFresh).epochTrusted = true ∧ ((s.folCur (winFollow n) home).useFresh).ax (winFollow n) axFolForce = 0
        ∧ s.folLost (winFollow n) = true ∧ ((s.folCur (winFollow n) home).useFresh).folPlays (winFollow n) = 0 ∧
        ((s.folCur (winFollow n) home).useFresh).bestCandidate (winFollow n) (((s.folCur (winFollow n)
        home).useFresh).rd (winFollow n) FOL.CUR_INDEX.off).toNat = some i) ∧
    (∃ (s : State) (n : Fin 32) (home : Word), s.folIdle (winFollow n) = true ∧ ((s.folCur (winFollow n)
        home).useFresh).epochTrusted = true ∧ ((s.folCur (winFollow n) home).useFresh).ax (winFollow n) axFolForce = 0
        ∧ s.folLost (winFollow n) = true ∧ ((s.folCur (winFollow n) home).useFresh).folPlays (winFollow n) = 0 ∧
        ((s.folCur (winFollow n) home).useFresh).bestCandidate (winFollow n) (((s.folCur (winFollow n)
        home).useFresh).rd (winFollow n) FOL.CUR_INDEX.off).toNat = none) ∧
    (∃ (s : State) (n : Fin 32) (home i : Word), s.folIdle (winFollow n) = true ∧ s.fld (winFollow n) FOL.SURVEY_S ≠ 0
        ∧ (s.folCur (winFollow n) home).epochTrusted = true ∧ ((s.folCur (winFollow n) home).candidates (winFollow n)
        ((s.folCur (winFollow n) home).rd (winFollow n) FOL.CUR_INDEX.off).toNat).contains i.toNat = true ∧ ((s.folCur
        (winFollow n) home).gbRec i.toNat).system = 0 ∧ 1 ≤ ((s.folCur (winFollow n) home).gbRec i.toNat).age) ∧
    (∃ (s : State) (n : Fin 32), s.live (winFollow n) = true ∧ s.folState (winFollow n) = 2 ∧ s.identityHeld
        (winFollow n) = true ∧ s.ax (winFollow n) axFolSurvey = 1) ∧
    (∃ (s : State) (n : Fin 32), s.live (winFollow n) = true ∧ s.folState (winFollow n) = 2 ∧ s.identityHeld
        (winFollow n) = true ∧ s.ax (winFollow n) axFolSurvey ≠ 1 ∧ s.ax (winFollow n) axFolForce ≠ 2 ∧ s.folLost
        (winFollow n) = false ∧ ((s.hs (winFollow n) 0).map Int.toNat).contains (s.ax (winFollow n) axFolUnit) =
        false) ∧
    (∃ (s : State) (n : Fin 32), s.live (winFollow n) = true ∧ s.folState (winFollow n) = 2 ∧ s.identityHeld
        (winFollow n) = true ∧ s.ax (winFollow n) axFolSurvey ≠ 1 ∧ s.ax (winFollow n) axFolForce = 2 ∧ ((s.hs
        (winFollow n) 0).map Int.toNat).contains (s.ax (winFollow n) axFolUnit) = false) ∧
    (∃ (s : State) (n : Fin 32), s.live (winFollow n) = true ∧ s.folState (winFollow n) = 2) ∧
    (∃ (s : State) (n : Fin 32), s.live (winFollow n) = true ∧ s.folState (winFollow n) = 2 ∧ s.candMargin (winFollow
        n) < 0 ∧ s.ax (winFollow n) axFolForce = 0 ∧ s.ferry.followed = false) ∧
    (∃ (s : State) (n : Fin 32), s.live (winFollow n) = true ∧ s.folState (winFollow n) = 4 ∧ s.candMargin (winFollow
        n) < 0 ∧ s.ax (winFollow n) axFolForce = 0 ∧ s.ferry.followed = false) ∧
    (∃ (s : State) (n : Fin 32), s.live (winFollow n) = true ∧ ((s.folState (winFollow n) = 2 ∨ s.folState (winFollow
        n) = 4)) ∧ 0 ≤ s.candMargin (winFollow n)) ∧
    (∃ (s : State) (n : Fin 32), s.live (winFollow n) = true ∧ s.folState (winFollow n) = 3 ∧ s.ferry.followed =
        false) ∧
    (∃ (s : State) (n : Fin 32) (lag : Int), s.live (winFollow n) = true ∧ s.folState (winFollow n) = 3 ∧ s.folLag
        (winFollow n) = some lag ∧ quietWindow (s.folWindow (winFollow n) lag) = false) ∧
    (∃ (s : State) (n : Fin 32) (lag : Int), s.live (winFollow n) = true ∧ s.folState (winFollow n) = 3 ∧ s.folLag
        (winFollow n) = some lag ∧ quietWindow (s.folWindow (winFollow n) lag) = false ∧ lag.natAbs ≤ 144000 ∧ (corrOf
        (s.folWindow (winFollow n) lag)).atLeast (s.fld (winFollow n) FOL.CORR_CFG_CORR_MIN) = true ∧ s.ax (winFollow
        n) axFolLag ≠ 0 ∧ (lag + 1048576 - s.ax (winFollow n) axFolLag).natAbs ≤ 48) ∧
    (∃ (s : State) (n : Fin 32), s.live (winFollow n) = true ∧ s.folState (winFollow n) = 4 ∧ s.epochTrusted = true ∧
        s.ferry.followed = false ∧ s.liveMargin (winFollow n) (s.folSource (winFollow n) (s.folPlays (winFollow n)))
        false + s.fld (winFollow n) FOL.SWITCH_SWITCH_MARGIN ≤ s.candMargin (winFollow n)) ∧
    (∃ (s : State) (ph : Fin 8) (args : List Word), s.serves ph 0x50 = true ∧ arg args 0 ≤ 31 ∧ s.atomState (winFollow
        (arg args 0)) = stRUN ∧ s.forceCode (winFollow (arg args 0)) (arg args 1) = 0) ∧
    (∃ (s : State) (ph : Fin 8) (args : List Word), s.serves ph 0x50 = true ∧ arg args 0 ≤ 31 ∧ s.atomState (winFollow
        (arg args 0)) = stRUN ∧ s.forceCode (winFollow (arg args 0)) (arg args 1) ≠ 0) ∧
    (∃ (s : State) (ph : Fin 8) (args : List Word), s.serves ph 0x51 = true ∧ arg args 0 ≤ 31 ∧ s.atomState (winFollow
        (arg args 0)) = stRUN) ∧
    (∃ (s : State) (ph : Fin 8) (args : List Word), s.serves ph 0x52 = true ∧ arg args 0 ≤ 31 ∧ s.atomState (winFollow
        (arg args 0)) = stRUN) :=
  ⟨⟨folLostOn 1, 3, 0, by decide +kernel⟩,
   ⟨candidateState, 3, 5, 9, by decide +kernel⟩,
   ⟨folLostOn 0, 3, 0, by decide +kernel⟩,
   ⟨candidateState, 3, 5, 9, by decide +kernel⟩,
   ⟨((folOn 2).setAx (winFollow 3) axFolHome 1).setAx (winFollow 3) axFolSurvey 1, 3, by decide +kernel⟩,
   ⟨(folOn 2).setAx (winFollow 3) axFolHome 1, 3, by decide +kernel⟩,
   ⟨((folOn 2).setAx (winFollow 3) axFolHome 1).setAx (winFollow 3) axFolForce 2, 3, by decide +kernel⟩,
   ⟨folOn 2, 3, by decide +kernel⟩,
   ⟨(folOn 2).setAx (winFollow 3) axFolUnit (winFM 3), 3, by decide +kernel⟩,
   ⟨(folOn 4).setAx (winFollow 3) axFolUnit (winFM 3), 3, by decide +kernel⟩,
   ⟨((folOn 2).setAx (winFollow 3) axFolUnit (winFM 3)).put (winFM 3) FM.LEVEL_Q 255, 3, by decide +kernel⟩,
   ⟨(folOn 3).setAx (winFollow 3) axFolUnit (winFM 3), 3, by decide +kernel⟩,
   ⟨(((folOn 3).setHs (winFollow 3) hsFolSums (List.replicate 48 2147483647)).setHs (winFollow 3) (hsFolSums + 1)
      (List.replicate 48 2147483647)).put (winFollow 3) FOL.CORR_CFG_WINDOW_MS 1, 3, 0, by decide +kernel⟩,
   ⟨((((folOn 3).setHs (winFollow 3) hsFolSums (List.replicate 48 2147483647)).setHs (winFollow 3) (hsFolSums + 1)
      (List.replicate 48 2147483647)).put (winFollow 3) FOL.CORR_CFG_WINDOW_MS 1).setAx (winFollow 3) axFolLag
      1048570, 3, 0, by decide +kernel⟩,
   ⟨switchDue, 3, by decide +kernel⟩,
   ⟨onDuty candidateState, 3, [3, 9], by decide +kernel⟩,
   ⟨onDuty (folOn 1), 3, [3, 0], by decide +kernel⟩,
   ⟨onDuty (folOn 1), 3, [3], by decide +kernel⟩,
   ⟨onDuty (folOn 1), 3, [3], by decide +kernel⟩⟩

theorem witness_followFades :
    (∃ (s : State) (n : Fin 32), s.live (winFollow n) = true ∧ s.folState (winFollow n) = 4 ∧ s.epochTrusted = true ∧
        s.folMaySwitch (winFollow n) = true ∧ s.folMoment (winFollow n) = true ∧ s.ferry.followed = false) ∧
    (∃ (s : State) (n : Fin 32), s.live (winFollow n) = true ∧ s.folState (winFollow n) = 5) ∧
    (∃ (s : State) (n : Fin 32), s.live (winFollow n) = true ∧ s.folState (winFollow n) ≠ 0 ∧ s.folState (winFollow n)
        ≠ 3 ∧ s.folPlays (winFollow n) = 0 ∧ s.folBad (winFollow n) 0 = true ∧ s.ax (winFollow n) axFolLost = 0) ∧
    (∃ (s : State) (n : Fin 32), s.live (winFollow n) = true ∧ s.folState (winFollow n) = 3 ∧ s.folBad (winFollow n)
        (s.folPlays (winFollow n)) = true ∧ s.ax (winFollow n) axFolLost = 0 ∧ s.ferry.followed = false) ∧
    (∃ (s : State) (m : Master) (n : Fin 32) (v : Word), s.accepts m (winFollow n) 0x040 (v ||| 0x100) (s.followCodes
        (winFollow n) 0x040 (v ||| 0x100)) = true) ∧
    (∃ (s : State) (n : Fin 32), s.annReady (winFollow n) = true ∧ s.ferry.followed = false) ∧
    (∃ (s : State) (n : Fin 16) (c : BitVec 8) (sub : BitVec 6) (new region : Bool), s.annActive (winOFDM n) c.toNat =
        true ∧ s.switchWaits (winOFDM n) 0 c.toNat sub.toNat new region = true ∧ ((s.setHs (winOFDM n) hsSwitch ((s.hs
        (winOFDM n) hsSwitch).erase ((switchCode 0 c.toNat sub.toNat new region : Nat) : Int))).annEnd (winOFDM n)
        c.toNat).annActive (winOFDM n) c.toNat = false) ∧
    (∃ (s : State) (n : Fin 16) (asw : BitVec 16) (c : BitVec 8) (sub : BitVec 6) (new region : Bool), asw ≠ 0 ∧
        (s.annEntry (winOFDM n) asw.toNat c.toNat sub.toNat new region).annActive (winOFDM n) c.toNat = true ∧
        (s.annEntry (winOFDM n) asw.toNat c.toNat sub.toNat new region).annOf (winOFDM n) c.toNat % 2147483648 ≠
        s.annOf (winOFDM n) c.toNat % 2147483648) ∧
    (∃ (s : State) (n : Fin 16) (c : BitVec 8), s.annActive (winOFDM n) c.toNat = true) :=
  ⟨⟨(((folOn 4).put blkClk CLK.ROOT_STATUS_TRUSTED 1).setAx (winFollow 3) axFolDue 1).setAx (winFollow 3) axFolWait 4800,
      3, by decide +kernel⟩,
   ⟨folOn 5, 3, by decide +kernel⟩,
   ⟨folOn 1, 3, by decide +kernel⟩,
   ⟨(folOn 3).put (winFollow 3) FOL.SYSTEMS_UNALIGNED_OK 1, 3, by decide +kernel⟩,
   ⟨folOn 1, 0, 3, 0, by decide +kernel⟩,
   ⟨annWaits, 3, by decide +kernel⟩,
   ⟨(synced.setHs (winOFDM 3) hsAnn [65538]).setHs (winOFDM 3) hsSwitch [((switchCode 0 1 0 false false : Nat) : Int)],
      3, 1, 0, false, false, by decide +kernel⟩,
   ⟨(synced.put (winOFDM 3) OFDM.ANN_CFG_ANN_MASK 0xFFFF).setHs (winOFDM 3) hsSwitch [((switchCode 2 1 0 false false :
      Nat) : Int)], 3, 2, 1, 0, false, false, by decide +kernel⟩,
   ⟨synced.setHs (winOFDM 3) hsAnn [65538], 3, 1, by decide +kernel⟩⟩

theorem witness_loader :
    (∃ (s : State) (ph : Fin 8) (addr len : Word), s.serves ph 0x10 = true ∧ s.tree.job = none ∧ (s.heard ph).mfCheck
        addr.toNat len.toNat = none) ∧
    (∃ (s : State) (ph : Fin 8) (addr len : Word) (f : MFail), s.serves ph 0x10 = true ∧ s.tree.job = none ∧ (s.heard
        ph).mfCheck addr.toNat len.toNat = some f) ∧
    (∃ (s : State) (ph : Fin 8) (addr len : Word), s.serves ph 0x11 = true ∧ s.tree.job = none ∧ (s.heard ph).mfCheck
        addr.toNat len.toNat = none) ∧
    (∃ (s : State) (ph : Fin 8) (addr len : Word) (f : MFail), s.serves ph 0x11 = true ∧ s.tree.job = none ∧ (s.heard
        ph).mfCheck addr.toNat len.toNat = some f) ∧
    (∃ (s : State) (ph : Fin 8) (win : Word), s.serves ph 0x12 = true ∧ s.tree.job = none ∧ ((s.heard ph).comp?
        win.toNat).isSome = true ∧ (s.heard ph).drivesOutside win.toNat = false) ∧
    (∃ (s : State) (ph : Fin 8) (win : Word), s.serves ph 0x12 = true ∧ s.tree.job = none ∧ ((s.heard ph).comp?
        win.toNat) = none) ∧
    (∃ (s : State) (j : JobX), s.tree.job = some j ∧ j.target ≠ 0 ∧ j.committed = false ∧ j.held = true ∧ j.opcode =
        0x12) ∧
    (∃ (s : State) (j : JobX), s.tree.job = some j ∧ j.target ≠ 0 ∧ j.committed = true) ∧
    (∃ (s : State) (j : JobX), s.tree.job = some j ∧ j.target = 0 ∧ j.opcode = 0x10 ∧ j.held = true) ∧
    (∃ (s : State) (ph : Fin 8), s.serves ph 0x13 = true) ∧
    (∃ (s : State) (w : Fin 1024) (x : TriggerX), s.tree.triggers.find? (fun x => x.win == w.val && x.cond == 1) =
        some x) :=
  ⟨⟨imageIn, 3, 0x01000000, 80, by decide +kernel⟩,
   ⟨served, 3, 0, 0, ⟨0x0104, 0xFFFF, 5⟩, by decide +kernel⟩,
   ⟨imageIn, 3, 0x01000000, 80, by decide +kernel⟩,
   ⟨served, 3, 0, 0, ⟨0x0104, 0xFFFF, 5⟩, by decide +kernel⟩,
   ⟨withComp, 3, 0x300, by decide +kernel⟩,
   ⟨served, 3, 5, by decide +kernel⟩,
   ⟨jobAt ⟨0x12, 3, 7, 0x300, 0xFF, [], true, true, true, false⟩, ⟨0x12, 3, 7, 0x300, 0xFF, [], true, true, true, false⟩,
      by decide +kernel⟩,
   ⟨jobAt ⟨0x12, 3, 7, 0x300, 0xFF, [], true, true, true, true⟩, ⟨0x12, 3, 7, 0x300, 0xFF, [], true, true, true, true⟩,
      by decide +kernel⟩,
   ⟨jobAt ⟨0x10, 3, 7, 0, 0, [], true, true, true, false⟩, ⟨0x10, 3, 7, 0, 0, [], true, true, true, false⟩,
      by decide +kernel⟩,
   ⟨served, 3, by decide +kernel⟩,
   ⟨epochTrigger, 0x083, ⟨0x083, 0, 1, 5000, 0⟩, by decide +kernel⟩⟩

theorem witness_rootClock :
    (∃ (s : State), s.refOk = false ∧ s.power.die = 0 ∧ s.inHoldover = true) ∧
    (∃ (s : State), s.refOk = false ∧ s.power.die = 0 ∧ s.root = rootFree) ∧
    (∃ (s : State), s.refOk = true ∧ s.power.die = 0) ∧
    (∃ (s : State), s.refOk = true ∧ s.root = rootAcquiring ∧ s.clock.everLocked = false) ∧
    (∃ (s : State), s.refOk = true ∧ s.inHoldover = true ∧ s.clock.everLocked = true) ∧
    (∃ (s : State), s.root = rootLocked ∧ s.refOk = true) ∧
    (∃ (s : State), s.root = rootHoldover) ∧
    (∃ (s : State), s.flag blkClk CLK.ROOT_STATUS_TRIMMING = true) ∧
    (∃ (s : State) (m : Master) (v : Word), s.accepts m blkClk 0x000 v (refCfgCodes v) = true) ∧
    (∃ (s : State) (m : Master) (v : Word), s.accepts m blkClk 0x018 v (s.trimCodes v) = true) ∧
    (∃ (s : State) (m : Master) (v : Word), s.accepts m blkClk 0x028 v (if CLK.EPOCH_CTL_LOAD.of v = 1 ∧ s.portsBusy
        then [0x0203] else []) = true) ∧
    (∃ (s : State) (m : Master) (v : Word), s.accepts m blkSys SYS.EPOCH_SNAP.off v [] = true ∧ SYS.EPOCH_SNAP.of v =
        1) ∧
    (∃ (s : State) (m : Master) (n : Fin 4) (v : Word), s.accepts m blkClk (0x100 + 0x10 * n) v (outCodes (s.fld
        blkClk CLK.REF_CFG_REF_KHZ) v (s.rd blkClk (0x104 + 0x10 * n))) = true) ∧
    (∃ (s : State) (m : Master) (n : Fin 4) (v : Word), s.accepts m blkClk (0x100 + 0x10 * n + 4) v (outCodes (s.fld
        blkClk CLK.REF_CFG_REF_KHZ) (s.rd blkClk (0x100 + 0x10 * n)) v) = true) ∧
    (∃ (s : State) (n : Fin 4), s.flag blkClk (clkOut CLK.CLK_OUT_STATUS_PENDING n) = true) :=
  ⟨⟨rootIn rootHoldover, by decide +kernel⟩,
   ⟨State.reset, by decide +kernel⟩,
   ⟨State.reset.put blkClk CLK.ROOT_STATUS_REF_OK 1, by decide +kernel⟩,
   ⟨(rootIn rootAcquiring).put blkClk CLK.ROOT_STATUS_REF_OK 1, by decide +kernel⟩,
   ⟨{ (rootIn rootHoldover).put blkClk CLK.ROOT_STATUS_REF_OK 1 with clock := { State.reset.clock with everLocked := true } },
      by decide +kernel⟩,
   ⟨(rootIn rootLocked).put blkClk CLK.ROOT_STATUS_REF_OK 1, by decide +kernel⟩,
   ⟨rootIn rootHoldover, by decide +kernel⟩,
   ⟨State.reset.put blkClk CLK.ROOT_STATUS_TRIMMING 1, by decide +kernel⟩,
   ⟨State.reset, 0, State.reset.rd blkClk 0, by decide +kernel⟩,
   ⟨rootIn rootLocked, 0, 100, by decide +kernel⟩,
   ⟨State.reset, 0, 1, by decide +kernel⟩,
   ⟨State.reset, 0, 1, by decide +kernel⟩,
   ⟨State.reset, 0, 2, State.reset.rd blkClk 0x120, by decide +kernel⟩,
   ⟨State.reset, 0, 2, State.reset.rd blkClk 0x124, by decide +kernel⟩,
   ⟨State.reset.put blkClk (clkOut CLK.CLK_OUT_STATUS_PENDING 2) 1, 2, by decide +kernel⟩⟩

theorem witness_pairRoles :
    (∃ (s : State), s.pairOn = true ∧ s.role = roleAlone ∧ s.ferry.silent = false) ∧
    (∃ (s : State), s.pairOn = true ∧ s.role = roleAlone ∧ s.ferry.silent = false) ∧
    (∃ (s : State), s.ferry.silent = true) ∧
    (∃ (s : State), s.ferry.silent = true) ∧
    (∃ (s : State), s.ferry.drivesLine = true ∧ s.ferry.wireFail = false) ∧
    (∃ (s : State), s.ferry.wireFail = true) ∧
    (∃ (s : State), s.role = roleStandby ∧ s.ferryUp = true ∧ s.hbOk = false ∧ s.epochTrust = true ∧ s.mirrorState =
        2) ∧
    (∃ (s : State) (e : BitVec 64), s.ferry.handover = some e ∧ s.role = roleLead ∧ s.ferry.drivesLine = true) ∧
    (∃ (s : State) (e : BitVec 64), s.ferry.handover = some e) ∧
    (∃ (s : State) (ph : Fin 8), s.serves ph 0x80 = true ∧ s.part.pairPresent = true) ∧
    (∃ (s : State) (ph : Fin 8) (partner : Word), s.serves ph 0x81 = true ∧ s.part.pairPresent = true ∧ s.role =
        roleLead ∧ s.hbOk = true ∧ FERRY.PAIR_STATUS_MIRROR_STATE.of partner = 2 ∧ FERRY.PAIR_STATUS_EPOCH_TRUST.of
        partner = 1) ∧
    (∃ (s : State) (ph : Fin 8), s.serves ph 0x82 = true ∧ s.part.pairPresent = true ∧ s.hbOk = false ∧ s.role =
        roleStandby) ∧
    (∃ (s : State) (ph : Fin 8), s.serves ph 0x83 = true ∧ s.part.pairPresent = true ∧ s.role = roleLead) :=
  ⟨⟨paired roleAlone, by decide +kernel⟩,
   ⟨paired roleAlone, by decide +kernel⟩,
   ⟨{ State.reset with ferry := { (State.reset).ferry with silent := true } }, by decide +kernel⟩,
   ⟨{ State.reset with ferry := { (State.reset).ferry with silent := true } }, by decide +kernel⟩,
   ⟨{ State.reset with ferry := { (State.reset).ferry with drivesLine := true } }, by decide +kernel⟩,
   ⟨{ State.reset with ferry := { (State.reset).ferry with wireFail := true } }, by decide +kernel⟩,
   ⟨standbyLost, by decide +kernel⟩,
   ⟨({ State.reset with ferry := { (State.reset).ferry with handover := some 5000, drivesLine := true } }).setRole
      roleLead, 5000, by decide +kernel⟩,
   ⟨{ State.reset with ferry := { (State.reset).ferry with handover := some 5000 } }, 5000, by decide +kernel⟩,
   ⟨onDuty (paired roleAlone), 3, by decide +kernel⟩,
   ⟨onDuty ((paired roleLead).put blkFerry FERRY.PAIR_STATUS_HB_OK 1), 3, w32 (FERRY.PAIR_STATUS_MIRROR_STATE.put
      (FERRY.PAIR_STATUS_EPOCH_TRUST.put 0 1) 2).toNat, by decide +kernel⟩,
   ⟨onDuty (paired roleStandby), 3, by decide +kernel⟩,
   ⟨onDuty (paired roleLead), 3, by decide +kernel⟩⟩

theorem witness_ferryLink :
    (∃ (s : State) (l : Nat) (hb : HeartbeatArg) (abi : BitVec 8), s.pairOn = true ∧ s.ferryUp = false ∧ (let u :=
        (((s.put blkFerry FERRY.PAIR_STATUS_LINK_UP 1).put blkFerry FERRY.LATENCY_NS l).raise 24).heartbeat hb;
        u.protoCheck (abi.toNat != u.ownAbi)).role = roleLead) ∧
    (∃ (s : State) (l : Nat) (hb : HeartbeatArg) (abi : BitVec 8), s.pairOn = true ∧ s.ferryUp = false ∧ (let u :=
        (((s.put blkFerry FERRY.PAIR_STATUS_LINK_UP 1).put blkFerry FERRY.LATENCY_NS l).raise 24).heartbeat hb;
        u.protoCheck (abi.toNat != u.ownAbi)).role = roleAlone) ∧
    (∃ (s : State) (l : Nat) (hb : HeartbeatArg) (abi : BitVec 8), s.pairOn = true ∧ s.ferryUp = false ∧ (let u :=
        (((s.put blkFerry FERRY.PAIR_STATUS_LINK_UP 1).put blkFerry FERRY.LATENCY_NS l).raise 24).heartbeat hb;
        u.protoCheck (abi.toNat != u.ownAbi)).role = roleStandby) ∧
    (∃ (s : State), s.pairOn = true ∧ s.ferryUp = false) ∧
    (∃ (s : State), s.ferryUp = true ∧ s.ferry.silent = false) ∧
    (∃ (s : State) (hb : HeartbeatArg), s.pairOn = true ∧ s.ferryUp = true ∧ (s.heartbeat hb).role = roleStandby) ∧
    (∃ (s : State) (hb : HeartbeatArg), s.pairOn = true ∧ s.ferryUp = true ∧ (s.heartbeat hb).role ≠ roleStandby) ∧
    (∃ (s : State), s.ferryUp = true ∧ s.hbOk = true) ∧
    (∃ (s : State), s.pairOn = true) ∧
    (∃ (s : State), s.ferryUp = true) ∧
    (∃ (s : State) (q a : Word), s.ferryUp = true ∧ s.role = roleStandby ∧ a.toNat < 0x80000000 ∧ diff32 q (s.rd
        blkFerry FERRY.APPLIED_SEQ.off) = 1) ∧
    (∃ (s : State) (q a : Word), s.ferryUp = true ∧ s.role = roleStandby ∧ a.toNat < 0x80000000 ∧ 1 < diff32 q (s.rd
        blkFerry FERRY.APPLIED_SEQ.off) ∧ s.ferry.gap = false) ∧
    (∃ (s : State), s.role = roleStandby ∧ 0 < diff32 s.ferry.partnerTx (s.rd blkFerry FERRY.APPLIED_SEQ.off)) ∧
    (∃ (s : State) (q : Word), s.role = roleLead ∧ s.ferry.replay.any (fun f => f.seq == q) = true) ∧
    (∃ (s : State) (q : Word), s.role = roleLead ∧ s.ferry.replay.any (fun f => f.seq == q) = false) ∧
    (∃ (s : State), s.mirrorState = 1 ∧ s.role = roleStandby) ∧
    (∃ (s : State), s.mirrorState = 1 ∧ s.role ≠ roleStandby) ∧
    (∃ (s : State), s.role = roleStandby ∧ s.mirrorState = 1) ∧
    (∃ (s : State) (a : Word), s.ferryUp = true ∧ a.toNat < 0x80000000) ∧
    (∃ (s : State) (a : Word), s.ferryUp = true ∧ a.toNat < 0x80000000) ∧
    (∃ (s : State), s.ferryUp = true ∧ s.role = roleStandby ∧ s.fw.inService = true) ∧
    (∃ (s : State), s.ferryUp = true ∧ s.role = roleStandby ∧ s.fw.inService = true) ∧
    (∃ (s : State), s.ferryUp = true ∧ s.role = roleStandby ∧ s.fw.inService = true) ∧
    (∃ (s : State), s.ferryUp = true ∧ s.role = roleStandby ∧ s.fw.inService = true) ∧
    (∃ (s : State), s.ferryUp = true ∧ s.role = roleStandby ∧ s.fw.inService = true) ∧
    (∃ (s : State), s.ferryUp = true ∧ s.role = roleStandby ∧ s.fw.inService = true) ∧
    (∃ (s : State), s.ferryUp = true ∧ s.role = roleStandby ∧ s.fw.inService = true) ∧
    (∃ (s : State), s.ferryUp = true ∧ s.role = roleStandby ∧ s.mirrorState ≠ 3) ∧
    (∃ (s : State), s.ferryUp = true ∧ s.role = roleStandby) ∧
    (∃ (s : State) (r : Nat × Nat) (rest : List (Nat × Nat)), s.ferry.reads = r :: rest) ∧
    (∃ (s : State) (m : Master) (a : Word), 0x80000000 ≤ a.toNat ∧ s.partnerAnswers = true ∧ hostLimited s m 0 =
        false) ∧
    (∃ (s : State) (m : Master) (a : Word), 0x80000000 ≤ a.toNat ∧ s.partnerAnswers = false ∧ hostLimited s m 0 =
        false) ∧
    (∃ (s : State) (m : Master) (a : Word), 0x80000000 ≤ a.toNat ∧ s.partnerAnswers = true ∧ hostLimited s m 0 =
        false) ∧
    (∃ (s : State) (m : Master) (a : Word), 0x80000000 ≤ a.toNat ∧ s.partnerAnswers = false ∧ hostLimited s m 0 =
        false) :=
  ⟨⟨paired roleLead, 400, ⟨3, false, 0, 0, 0, 0, 1⟩, 0, by decide +kernel⟩,
   ⟨paired roleAlone, 400, ⟨2, false, 0, 0, 0, 0, 1⟩, 0, by decide +kernel⟩,
   ⟨paired roleStandby, 400, ⟨2, false, 0, 0, 0, 0, 1⟩, 0, by decide +kernel⟩,
   ⟨paired roleAlone, by decide +kernel⟩,
   ⟨linked roleLead, by decide +kernel⟩,
   ⟨linked roleStandby, ⟨2, false, 0, 0, 0, 0, 1⟩, by decide +kernel⟩,
   ⟨linked roleLead, ⟨3, false, 0, 0, 0, 0, 1⟩, by decide +kernel⟩,
   ⟨(linked roleLead).put blkFerry FERRY.PAIR_STATUS_HB_OK 1, by decide +kernel⟩,
   ⟨paired roleAlone, by decide +kernel⟩,
   ⟨linked roleLead, by decide +kernel⟩,
   ⟨linked roleStandby, 1, 0x01000000, by decide +kernel⟩,
   ⟨linked roleStandby, 4, 0x01000000, by decide +kernel⟩,
   ⟨{ linked roleStandby with ferry := { (linked roleStandby).ferry with partnerTx := 3 } }, by decide +kernel⟩,
   ⟨{ linked roleLead with ferry := { (linked roleLead).ferry with replay := [⟨frMirror, 5, []⟩] } }, 5,
      by decide +kernel⟩,
   ⟨linked roleLead, 5, by decide +kernel⟩,
   ⟨(linked roleStandby).setMirror 1, by decide +kernel⟩,
   ⟨(linked roleLead).setMirror 1, by decide +kernel⟩,
   ⟨(linked roleStandby).setMirror 1, by decide +kernel⟩,
   ⟨linked roleLead, 0, by decide +kernel⟩,
   ⟨linked roleLead, 0x00800000, by decide +kernel⟩,
   ⟨onDuty (linked roleStandby), by decide +kernel⟩,
   ⟨onDuty (linked roleStandby), by decide +kernel⟩,
   ⟨onDuty (linked roleStandby), by decide +kernel⟩,
   ⟨onDuty (linked roleStandby), by decide +kernel⟩,
   ⟨onDuty (linked roleStandby), by decide +kernel⟩,
   ⟨onDuty (linked roleStandby), by decide +kernel⟩,
   ⟨onDuty (linked roleStandby), by decide +kernel⟩,
   ⟨linked roleStandby, by decide +kernel⟩,
   ⟨linked roleStandby, by decide +kernel⟩,
   ⟨{ State.reset with ferry := { (State.reset).ferry with reads := [(0, 0x80000000)] } }, (0, 0x80000000), [],
      by decide +kernel⟩,
   ⟨(linked roleLead).put blkFerry FERRY.PAIR_STATUS_HB_OK 1, 0, 0x80000010, by decide +kernel⟩,
   ⟨State.reset, 0, 0x80000010, by decide +kernel⟩,
   ⟨(linked roleLead).put blkFerry FERRY.PAIR_STATUS_HB_OK 1, 0, 0x80000010, by decide +kernel⟩,
   ⟨State.reset, 0, 0x80000010, by decide +kernel⟩⟩

theorem witness_faultRows :
    (∃ (s : State) (w : Fin 1024), s.present w = true ∧ s.isComposite w = false ∧ (s.unit w).checkBusy = true) ∧
    (∃ (s : State) (w : Fin 1024), s.present w = true ∧ s.isComposite w = false) ∧
    (∃ (s : State), s.power.die = 0) ∧
    (∃ (s : State), s.stands 0x0F40 = true ∧ s.sfld blkTherm THERM.TJ_NOW < 920) ∧
    (∃ (s : State), s.fw.inService = true ∧ s.f3 = false ∧ s.poolsBalance = false) ∧
    (∃ (s : State), s.fw.inService = true ∧ s.f3 = false ∧ s.poolsBalance = true) ∧
    (∃ (s : State) (f : FaultX) (rtc : Word) (rest : List (FaultX × Word)), s.fw.logQueue = (f, rtc) :: rest ∧
        s.fw.running = true) :=
  ⟨⟨State.reset.setUnit 0x043 { UnitX.init with checkBusy := true }, 0x043, by decide +kernel⟩,
   ⟨State.reset, 0x043, by decide +kernel⟩,
   ⟨State.reset, by decide +kernel⟩,
   ⟨State.reset.declare ⟨2, 0x0F40, 0x3FF, 0⟩ true, by decide +kernel⟩,
   ⟨onDuty { State.reset with tree := { State.reset.tree with allocs := [⟨0x280, 2, 2304000, 0, 0, 0⟩] } },
      by decide +kernel⟩,
   ⟨served, by decide +kernel⟩,
   ⟨{ served with fw := { served.fw with logQueue := [(⟨0, 0x0402, 0x3FF, 0⟩, 5)] } }, ⟨0, 0x0402, 0x3FF, 0⟩, 5, [],
      by decide +kernel⟩⟩

theorem witness_cores :
    (∃ (s : State) (d : Fin 4) (x : MoveX), s.fw.moves.find? (fun m => m.duty == d.val) = some x) ∧
    (∃ (s : State) (core : Fin 5), s.coreState core = 1 ∧ s.fw.job = none ∧ (s.setCore core 3).doubled? = none) ∧
    (∃ (s : State) (core : Fin 5) (d : Nat), s.coreState core = 1 ∧ s.fw.job = none ∧ (s.setCore core 3).doubled? =
        some d) ∧
    (∃ (s : State) (core : Fin 5) (j : CoreJobX), s.coreState core = 1 ∧ s.fw.job = some j ∧ j.opcode = 0x72 ∧ j.slot
        = core ∧ ((s.setCore core 3).coreAnswer [0]).doubled? = none) ∧
    (∃ (s : State), s.fw.running = true ∧ s.spare?.isSome = true) ∧
    (∃ (s : State) (core : Fin 5), s.fw.running = true ∧ s.coreState core = 2) ∧
    (∃ (s : State) (ph : Fin 8), s.serves ph 0x70 = true ∧ s.tree.job = none ∧ s.fw.job = none) ∧
    (∃ (s : State) (ph : Fin 8) (args : List Word) (k : Nat), s.serves ph 0x71 = true ∧ s.tree.job = none ∧ s.fw.job =
        none ∧ arg args 0 ≤ 4 ∧ s.coreState (arg args 0) = 2 ∧ (s.heard ph).spare? = some k) ∧
    (∃ (s : State) (ph : Fin 8) (args : List Word), s.serves ph 0x72 = true ∧ s.tree.job = none ∧ s.fw.job = none ∧
        arg args 0 ≤ 4 ∧ ((s.coreState (arg args 0) = 4 ∨ s.coreState (arg args 0) = 5))) ∧
    (∃ (s : State) (ph : Fin 8) (args : List Word) (k : Nat), s.serves ph 0x73 = true ∧ s.tree.job = none ∧ s.fw.job =
        none ∧ arg args 0 ≤ 3 ∧ (s.heard ph).spare? = some k) ∧
    (∃ (s : State) (ph : Fin 8) (args : List Word), s.serves ph 0x74 = true ∧ s.tree.job = none ∧ s.fw.job = none ∧
        arg args 0 ≤ 1) ∧
    (∃ (s : State) (ph : Fin 8) (args : List Word) (k : Nat), s.serves ph 0x75 = true ∧ s.tree.job = none ∧ s.fw.job =
        none ∧ arg args 0 ≤ 1 ∧ (s.heard ph).fwCheck (arg args 0) = 0 ∧ (s.heard ph).fwAbi (arg args 0) = (s.heard
        ph).fwAbi s.fw.runningSlot ∧ (s.heard ph).spare? = some k) ∧
    (∃ (s : State) (ph : Fin 8) (args : List Word), s.serves ph 0x75 = true ∧ s.tree.job = none ∧ s.fw.job = none ∧
        arg args 0 ≤ 1 ∧ (s.heard ph).fwCheck (arg args 0) ≠ 0) ∧
    (∃ (s : State) (j : CoreJobX), s.fw.job = some j ∧ j.opcode = 0x75 ∧ j.moved = 4) ∧
    (∃ (s : State) (ph : Fin 8) (args : List Word), s.serves ph 0x76 = true ∧ s.tree.job = none ∧ s.fw.job = none ∧
        arg args 0 = 1 ∧ arg args 1 = 0xFF) ∧
    (∃ (s : State) (ph : Fin 8) (args : List Word), s.serves ph 0x76 = true ∧ s.tree.job = none ∧ s.fw.job = none ∧
        arg args 0 = 0 ∧ arg args 1 < 2) ∧
    (∃ (s : State) (ph : Fin 8) (args : List Word) (f : MFail), s.serves ph 0x76 = true ∧ s.tree.job = none ∧ s.fw.job
        = none ∧ arg args 0 = 1 ∧ arg args 1 < 2 ∧ (s.heard ph).mfCheck (mfSlotBase (arg args 1)) (4 * ((s.heard
        ph).rdWord (mfSlotBase (arg args 1) + 0x14)).toNat) = some f) ∧
    (∃ (s : State) (ph : Fin 8) (args : List Word), s.serves ph 0x76 = true ∧ s.tree.job = none ∧ s.fw.job = none ∧
        arg args 0 = 1 ∧ arg args 1 < 2 ∧ (s.heard ph).mfCheck (mfSlotBase (arg args 1)) (4 * ((s.heard ph).rdWord
        (mfSlotBase (arg args 1) + 0x14)).toNat) = none) ∧
    (∃ (s : State) (ph : Fin 8) (args : List Word), s.serves ph 0x76 = true ∧ s.tree.job = none ∧ s.fw.job = none ∧ 1
        < arg args 0) ∧
    (∃ (s : State) (ph : Fin 8) (args : List Word), s.serves ph 0x77 = true ∧ s.tree.job = none ∧ s.fw.job = none ∧ 4
        < arg args 0) ∧
    (∃ (s : State) (ph : Fin 8) (args : List Word), s.serves ph 0x77 = true ∧ s.tree.job = none ∧ s.fw.job = none ∧
        arg args 0 ≤ 4 ∧ s.fused (feWin (arg args 0)) = false ∧ 0x046C0000 ≤ arg args 1 ∧ arg args 1 + (calSection
        (arg args 0)).2 ≤ 0x04800000 ∧ (s.heard ph).rdWord (arg args 1) = crc32 (((s.heard ph).rdBytes (arg args 1)
        (calSection (arg args 0)).2).drop 4) ∧ Config.sectionUid ((s.heard ph).rdBytes (arg args 1) (calSection (arg
        args 0)).2) = s.part.uid) ∧
    (∃ (s : State) (ph : Fin 8) (args : List Word), s.serves ph 0x78 = true ∧ s.tree.job = none ∧ s.fw.job = none ∧ 1
        ≤ arg args 0 ∧ arg args 0 ≤ 3 ∧ (s.heard ph).replaceable (arg args 0) (arg args 1) = true ∧ (s.heard
        ph).replaceable (arg args 0) (arg args 2) = true) ∧
    (∃ (s : State), s.power.die = 0) ∧
    (∃ (s : State) (n : Fin 64), s.power.die = 0 ∧ s.qDepth (winQ n) ≠ 0) ∧
    (∃ (s : State), s.power.die = 0 ∧ s.fw.running = true) ∧
    (∃ (s : State) (w : Fin 1024), s.power.die = 0 ∧ s.present w = true ∧ (kindOf w = .chanFilter ∨ kindOf w =
        .audioFilter)) ∧
    (∃ (s : State) (n : Fin 16), s.power.die = 0 ∧ s.present (winOFDM n) = true) ∧
    (∃ (s : State) (n : Fin 32), s.power.die = 0 ∧ s.tree.allocs.any (fun x => x.pool == 1 && x.win == winLane n) =
        true) ∧
    (∃ (s : State) (i : Nat), s.power.die = 0 ∧ s.gbOccupied i = true) ∧
    (∃ (s : State), s.power.die = 0) ∧
    (∃ (s : State) (n : Fin 5), s.power.die = 0 ∧ 1 ≤ s.coreState n ∧ s.coreState n ≤ 3) :=
  ⟨⟨{ served with fw := { served.fw with moves := [⟨1, 1, 4, false⟩] } }, 1, ⟨1, 1, 4, false⟩, by decide +kernel⟩,
   ⟨served.setCore 4 1, 4, by decide +kernel⟩,
   ⟨doubledUp, 4, 2, by decide +kernel⟩,
   ⟨{ (served.setCore 4 1) with fw := { served.fw with job := some ⟨0x72, 3, 7, 4, 0⟩ } }, 4, ⟨0x72, 3, 7, 4, 0⟩,
      by decide +kernel⟩,
   ⟨spareReady, by decide +kernel⟩,
   ⟨spareReady, 1, by decide +kernel⟩,
   ⟨served, 3, by decide +kernel⟩,
   ⟨spareReady, 3, [1], 4, by decide +kernel⟩,
   ⟨spareReady.setCore 4 5, 3, [4], by decide +kernel⟩,
   ⟨spareReady, 3, [1], 4, by decide +kernel⟩,
   ⟨served, 3, [1], by decide +kernel⟩,
   ⟨goodSlot, 3, [1], 4, by decide +kernel⟩,
   ⟨served, 3, [1], by decide +kernel⟩,
   ⟨{ served with fw := { served.fw with job := some ⟨0x75, 3, 7, 1, 4⟩ } }, ⟨0x75, 3, 7, 1, 4⟩, by decide +kernel⟩,
   ⟨served, 3, [1, 0xFF], by decide +kernel⟩,
   ⟨served, 3, [0, 1], by decide +kernel⟩,
   ⟨served, 3, [1, 1], ⟨0x0104, 0xFFFF, 5⟩, by decide +kernel⟩,
   ⟨goodManifest, 3, [1, 1], by decide +kernel⟩,
   ⟨served, 3, [2, 0], by decide +kernel⟩,
   ⟨served, 3, [9, 0], by decide +kernel⟩,
   ⟨goodSection, 3, [4, 0x046C0000], goodSection_good⟩,
   ⟨served, 3, [1, 2, 3], by decide +kernel⟩,
   ⟨State.reset, by decide +kernel⟩,
   ⟨devQueue, 5, by decide +kernel⟩,
   ⟨served, by decide +kernel⟩,
   ⟨State.reset, 0x083, by decide +kernel⟩,
   ⟨State.reset, 3, by decide +kernel⟩,
   ⟨{ State.reset with tree := { State.reset.tree with allocs := [⟨winLane 2, 1, 65536, 0, 0, 0⟩] } }, 2,
      by decide +kernel⟩,
   ⟨gbHolds, 0, by decide +kernel⟩,
   ⟨State.reset, by decide +kernel⟩,
   ⟨spareReady, 1, by decide +kernel⟩⟩

theorem witness_nvRows :
    (∃ (s : State) (m : Master), s.accepts m blkNv 0x008 1 (s.nvCodes m 1) = true) ∧
    (∃ (s : State) (m : Master), s.accepts m blkNv 0x008 2 (s.nvCodes m 2) = true) ∧
    (∃ (s : State), s.flag blkNv NV.NV_STATUS_BUSY = true ∧ 256 < s.nv.buf.length ∧ s.nv.abort = false) ∧
    (∃ (s : State), s.flag blkNv NV.NV_STATUS_BUSY = true ∧ s.nv.buf.length ≤ 256) ∧
    (∃ (s : State), s.flag blkNv NV.NV_STATUS_BUSY = true) :=
  ⟨⟨nvReady, 0, by decide +kernel⟩,
   ⟨nvBusy 300, 0, by decide +kernel⟩,
   ⟨nvBusy 300, by decide +kernel⟩,
   ⟨nvBusy 4, by decide +kernel⟩,
   ⟨nvBusy 4, by decide +kernel⟩⟩

theorem witness_supplyRows :
    (∃ (s : State), s.power.die = 4) ∧
    (∃ (s : State), s.power.die = 0 ∧ s.power.saving = 0 ∧ s.fw.inService = true) ∧
    (∃ (s : State), s.power.die = 0 ∧ s.power.saving = 1 ∧ s.power.resetAfter = false) ∧
    (∃ (s : State) (ticks : Nat), s.power.die = 2 ∧ (s.rtcTicks ticks).newestBag.isSome = true) ∧
    (∃ (s : State), s.power.die = 2) ∧
    (∃ (s : State) (ticks : Nat) (b : BagX), s.power.die = 4 ∧ ((s.rtcTicks ticks).newestBag.bind (s.rtcTicks
        ticks).bag) = some b) ∧
    (∃ (s : State), s.power.die ≠ 3 ∧ s.power.saving ≠ 1) ∧
    (∃ (s : State), s.power.die = 0) ∧
    (∃ (s : State), s.power.die = 0) ∧
    (∃ (s : State), s.power.die = 0 ∧ s.flag blkKpr KPR.KPR_STATUS_FEED_OK = true) ∧
    (∃ (s : State), s.ax blkKpr axRailOut ≠ 0) ∧
    (∃ (s : State), s.power.die = 0 ∧ s.power.saving = 2 ∧ s.power.woken = false) ∧
    (∃ (s : State), s.wakeMasked 0 = true) ∧
    (∃ (s : State), s.wakeMasked 2 = true) ∧
    (∃ (s : State), s.wakeMasked 1 = true ∧ s.flag blkKpr KPR.RTC_CTL_ALARM_EN = true ∧ s.power.die = 3) ∧
    (∃ (s : State), s.power.die = 3) ∧
    (∃ (s : State), s.power.die = 0 ∧ s.power.saving = 1) ∧
    (∃ (s : State), s.power.die = 0 ∧ s.power.saving = 0) ∧
    (∃ (s : State), s.power.saving = 0) ∧
    (∃ (s : State) (m : Master) (v : Word), s.accepts m blkKpr 0x030 v [] = true) :=
  ⟨⟨{ State.reset with power := { (State.reset).power with die := 4 } }, by decide +kernel⟩,
   ⟨served, by decide +kernel⟩,
   ⟨{ State.reset with power := { (State.reset).power with saving := 1 } }, by decide +kernel⟩,
   ⟨retained, 5, by decide +kernel⟩,
   ⟨{ State.reset with power := { (State.reset).power with die := 2 } }, by decide +kernel⟩,
   ⟨(retained.setPower (fun p => { p with die := 4 })), 5, retainedBag, rfl, by rw [retained_newest]; rfl⟩,
   ⟨State.reset, by decide +kernel⟩,
   ⟨State.reset, by decide +kernel⟩,
   ⟨State.reset, by decide +kernel⟩,
   ⟨State.reset.put blkKpr KPR.KPR_STATUS_FEED_OK 1, by decide +kernel⟩,
   ⟨State.reset.setAx blkKpr axRailOut 1, by decide +kernel⟩,
   ⟨{ State.reset with power := { (State.reset).power with saving := 2 } }, by decide +kernel⟩,
   ⟨asleep, by decide +kernel⟩,
   ⟨asleep, by decide +kernel⟩,
   ⟨asleep.put blkKpr KPR.RTC_CTL_ALARM_EN 1, by decide +kernel⟩,
   ⟨asleep, by decide +kernel⟩,
   ⟨{ State.reset with power := { (State.reset).power with saving := 1 } }, by decide +kernel⟩,
   ⟨State.reset, by decide +kernel⟩,
   ⟨State.reset, by decide +kernel⟩,
   ⟨State.reset, 0, 1, by decide +kernel⟩⟩

theorem witness_bootRows :
    (∃ (s : State), s.power.die = 1) ∧
    (∃ (s : State), s.signboardGen.getLsbD 0 = true ∧ s.fw.running = true ∧ s.power.die = 0 ∧ s.fw.inService = true) ∧
    (∃ (s : State), s.fw.running = true ∧ s.fw.inService = false ∧ s.power.die = 0 ∧ s.power.saving = 0 ∧
        s.clock.everLocked = true ∧ s.signboard.built = true ∧ s.signboardGen.getLsbD 0 = false ∧ s.tree.job = none ∧
        s.power.start ≠ 5) ∧
    (∃ (s : State), s.fw.running = true ∧ s.fw.inService = false ∧ s.power.die = 0 ∧ s.power.saving = 0 ∧
        s.clock.everLocked = true ∧ s.signboard.built = true ∧ s.signboardGen.getLsbD 0 = false ∧ s.tree.job = none ∧
        s.power.start = 5) ∧
    (∃ (s : State), s.fw.running = true ∧ s.power.die = 0 ∧ s.clock.everLocked = false ∧ s.fw.standing.any (fun f =>
        f.code == 0x0F62) = false) ∧
    (∃ (s : State) (m : Master) (v : Word), s.accepts m blkSys 0x018 v (softCodes v) = true) :=
  ⟨⟨{ State.reset with power := { (State.reset).power with die := 1 } }, by decide +kernel⟩,
   ⟨{ served with signboardGen := 1 }, by decide +kernel⟩,
   ⟨booted, by decide +kernel⟩,
   ⟨{ booted with power := { booted.power with start := 5 } }, by decide +kernel⟩,
   ⟨served, by decide +kernel⟩,
   ⟨State.reset, 0, w32 (SYS.SYS_SOFT_RESET_SCOPE.put (SYS.SYS_SOFT_RESET_KEY.put 0 0xA5C3) 1).toNat, by decide +kernel⟩⟩

theorem witness_hostPorts :
    (∃ (s : State), s.portsAnswer = true) ∧
    (∃ (s : State), s.portsAnswer = true) ∧
    (∃ (s : State) (a : Word) (data : List Word), s.portsAnswer = true ∧ (s.writeBurst 5 4 data a.toNat).portsAnswer =
        true) ∧
    (∃ (s : State), s.portsAnswer = true) ∧
    (∃ (s : State), s.portsAnswer = true) ∧
    (∃ (s : State), s.portsAnswer = true) ∧
    (∃ (s : State), s.portsAnswer = true) ∧
    (∃ (s : State) (q : Fin 64), s.portsAnswer = true ∧ s.queueBound (winQ q) = true ∧ s.qToHost (winQ q) = true) ∧
    (∃ (s : State) (q : Fin 64), s.portsAnswer = true ∧ s.queueBound (winQ q) = false) ∧
    (∃ (s : State), s.portsAnswer = true) ∧
    (∃ (s : State), s.portsAnswer = true) ∧
    (∃ (s : State), s.power.die = 0) ∧
    (∃ (s : State) (op : BitVec 8), s.portsAnswer = true ∧ [0x01, 0x02, 0x03, 0x04, 0x05, 0x10, 0x11, 0xFF].contains
        op.toNat = false) ∧
    (∃ (s : State) (mode : BitVec 8) (a : Word) (data : List Word), s.portsAnswer = true ∧ mode.toNat ≤ 1 ∧ (((s.setAx
        blkHost axTwtAddr a.toNat).setAx blkHost axTwtMode mode.toNat).writeBurst 6 ((s.setAx blkHost axTwtAddr
        a.toNat).setAx blkHost axTwtMode mode.toNat).twtStep data a.toNat).portsAnswer = true) ∧
    (∃ (s : State) (mode : BitVec 8), s.portsAnswer = true ∧ 1 < mode.toNat) ∧
    (∃ (s : State), s.portsAnswer = true) ∧
    (∃ (s : State), s.portsAnswer = true) ∧
    (∃ (s : State), s.portsAnswer = true) :=
  ⟨⟨State.reset, by decide +kernel⟩,
   ⟨State.reset, by decide +kernel⟩,
   ⟨State.reset, 0x01000000, [], by decide +kernel⟩,
   ⟨State.reset, by decide +kernel⟩,
   ⟨State.reset, by decide +kernel⟩,
   ⟨State.reset, by decide +kernel⟩,
   ⟨State.reset, by decide +kernel⟩,
   ⟨devQueue, 5, by decide +kernel⟩,
   ⟨State.reset, 5, by decide +kernel⟩,
   ⟨State.reset, by decide +kernel⟩,
   ⟨State.reset, by decide +kernel⟩,
   ⟨State.reset, by decide +kernel⟩,
   ⟨State.reset, 0x77, by decide +kernel⟩,
   ⟨State.reset, 0, 0x01000000, [5], by decide +kernel⟩,
   ⟨State.reset, 7, by decide +kernel⟩,
   ⟨State.reset, by decide +kernel⟩,
   ⟨State.reset, by decide +kernel⟩,
   ⟨State.reset, by decide +kernel⟩⟩

theorem witness_busRows :
    (∃ (s : State) (m : Master) (a : Word) (b off : Nat), placeAt a.toNat = .reg b off ∧ a.toNat % 4 = 0 ∧ hostLimited
        s m b = false) ∧
    (∃ (s : State) (m : Master) (a v : Word) (w off : Nat), placeAt a.toNat = .reg w off ∧ off % 4 = 0 ∧ a.toNat % 4 =
        0 ∧ w < 0x400 ∧ (ctrBit? w off).isSome = true ∧ kindOf w ≠ .queue ∧ s.accepts m w off v (s.kindCodes w off v)
        = true ∧ off ≠ 0x004) ∧
    (∃ (s : State) (m : Master) (a : Word) (b off : Nat), placeAt a.toNat = .reg b off ∧ off % 4 = 0 ∧ a.toNat % 4 = 0
        ∧ isPeak b off = true ∧ hostLimited s m b = false) ∧
    (∃ (s : State) (m : Master) (a : Word) (b off hi : Nat), placeAt a.toNat = .reg b off ∧ off % 4 = 0 ∧ a.toNat % 4
        = 0 ∧ hiOf b off = some hi ∧ hostLimited s m b = false ∧ ((b < 0x400 → s.present b = true)) ∧ (regAt b
        off).isSome = true ∧ latchShown b off = false ∧ b ≠ blkPigeon ∧ b ≠ winTWC ∧ kindOf b ≠ .asrc ∧ ((b = blkSys →
        off < 0x100))) ∧
    (∃ (s : State) (m : Master) (n : Fin 32), hostLimited s m blkSys = false ∧ 9 ≤ s.semOwner n) ∧
    (∃ (s : State) (m : Master) (n : Fin 32), hostLimited s m blkSys = false ∧ s.semOwner n < 9) ∧
    (∃ (s : State) (m : Master) (n : Fin 32) (v : Word), hostLimited s m blkSys = false ∧ s.semOwner n = m ∧ v = 0) ∧
    (∃ (s : State) (m : Master) (n : Fin 32), hostLimited s m blkSys = false ∧ 9 ≤ s.semOwner n) :=
  ⟨⟨State.reset, 0, 0x00443000, 0x043, 0, by decide +kernel⟩,
   ⟨State.reset, 0, 0x004C00A0, 0, 0x0C0, 0x0A0, by decide +kernel⟩,
   ⟨State.reset, 0, 0x00202004, blkTherm, 4, by decide +kernel⟩,
   ⟨State.reset, 0, 0x00200020, blkClk, 0x020, 0x024, by decide +kernel⟩,
   ⟨State.reset, 0, 3, by decide +kernel⟩,
   ⟨State.reset.setSem 3 2, 0, 3, by decide +kernel⟩,
   ⟨State.reset.setSem 3 2, 2, 3, 0, by decide +kernel⟩,
   ⟨State.reset, 2, 3, by decide +kernel⟩⟩

theorem witness_stepRunsFront :
    ∃ (s : State) (c : Instr) (rest : List Instr), s.pending = c :: rest :=
  ⟨{ State.reset with pending := [.glideEnd, .gbSweep] }, .glideEnd, [.gbSweep], rfl⟩

theorem witness_emptyQueueTick :
    (∃ (s : State), s.pending = [] ∧ s.clock.everLocked = true ∧ s.power.die = 0) ∧
    (∃ (s : State), s.pending = [] ∧ s.clock.everLocked = false) :=
  ⟨⟨locked State.reset, by decide +kernel⟩, ⟨State.reset, by decide +kernel⟩⟩

theorem witness_commandsKeepQueue : ∃ (c : Instr) (s t : State), exec c s = .next t :=
  ⟨.phTdPop 0 0, State.reset, State.reset.ans [0], rfl⟩

theorem witness_stepsKeepCanonical : ∃ (s t : State), Canonical s ∧ step s = .next t :=
  ⟨State.reset, State.reset, by unfold Canonical; decide, rfl⟩

theorem witness_semaphoreReads :
    (∃ (s : State) (m : Master) (n : Fin 32), hostLimited s m blkSys = false ∧ 9 ≤ s.semOwner n) ∧
    (∃ (s : State) (m : Master) (n : Fin 32), hostLimited s m blkSys = false ∧ s.semOwner n < 9) :=
  ⟨⟨State.reset, 0, 31, by decide +kernel⟩, ⟨State.reset.setSem 31 8, 0, 31, by decide +kernel⟩⟩

theorem witness_semaphoreWrites :
    (∃ (s : State) (m : Master) (n : Fin 32) (v : Word), hostLimited s m blkSys = false ∧
      ((v = 0 ∧ s.semOwner n = m) ∨ (v = 0xFF ∧ s.semOwner n < 9))) ∧
    (∃ (s : State) (m : Master) (n : Fin 32) (v : Word), hostLimited s m blkSys = false ∧
      ¬((v = 0 ∧ s.semOwner n = m) ∨ (v = 0xFF ∧ s.semOwner n < 9))) :=
  ⟨⟨State.reset.setSem 0 8, 8, 0, 0, by decide +kernel⟩, ⟨State.reset, 0, 0, 0xFF, by decide +kernel⟩⟩

theorem witness_countersSaturate :
    (∃ (s : State) (b bit : Nat) (r : FRef), ctrBit? b r.off = some bit ∧ s.rd b r.off = 0xFFFFFFFF) ∧
    (∃ (s : State) (b bit : Nat) (r : FRef), ctrBit? b r.off = some bit ∧ s.rd b r.off ≠ 0xFFFFFFFF ∧
      s.rd b r.off ≠ 0xFFFFFFFE) ∧
    (∃ (s : State) (b bit : Nat) (r : FRef), ctrBit? b r.off = some bit ∧ bit < 32 ∧ r.off / 4 ≠ ovfOff b / 4 ∧
      r.off / 4 ≠ 3 ∧ s.rd b r.off = 0xFFFFFFFE) :=
  ⟨⟨State.reset.wr blkSys SYS.SEM_VIOLATION_COUNT.off 0xFFFFFFFF, blkSys, 1, SYS.SEM_VIOLATION_COUNT, by decide +kernel⟩,
   ⟨State.reset, winFM 0, 0, FM.PILOT_LOSS_COUNT, by decide +kernel⟩,
   ⟨State.reset.wr (winFM 0) FM.PILOT_LOSS_COUNT.off 0xFFFFFFFE, winFM 0, 0, FM.PILOT_LOSS_COUNT, by decide +kernel⟩⟩

theorem witness_emptyNotices :
    (∃ (s : State) (m : Master) (ph : Fin 8), s.accepts m blkPigeon (0x20 * ph + 0x10) 0x20 [] = true ∧
      (s.fifo false ph).words ≠ []) ∧
    (∃ (s : State) (m : Master) (ph : Fin 8), s.accepts m blkPigeon (0x20 * ph + 0x10) 0x200000 [] = true ∧
      (s.fifo true ph).words ≠ []) ∧
    (∃ (s : State) (ph : Fin 8) (v : Word), (s.fifo false ph).words = [v] ∧ (s.fifo false ph).emptyReq = true) ∧
    (∃ (s : State) (ph : Fin 8) (v : Word), (s.fifo true ph).words = [v] ∧ (s.fifo true ph).emptyReq = true ∧
      (s.fw.outbox.any (fun x => x.ph == ph)) = false) ∧
    (∃ (s : State) (m : Master) (ph : Fin 8), s.accepts m blkPigeon (0x20 * ph + 0x10) 0x20 [] = true ∧
      (s.fifo false ph).words = []) ∧
    (∃ (s : State) (m : Master) (ph : Fin 8), s.accepts m blkPigeon (0x20 * ph + 0x10) 0x200000 [] = true ∧
      (s.fifo true ph).words = []) :=
  ⟨⟨fullFifo false, 0, 2, by decide +kernel⟩, ⟨fullFifo true, 0, 2, by decide +kernel⟩, ⟨oneAsked false, 2, 7, by decide +kernel⟩,
   ⟨oneAsked true, 2, 7, by decide +kernel⟩, ⟨State.reset, 0, 2, by decide +kernel⟩, ⟨State.reset, 0, 2, by decide +kernel⟩⟩

theorem witness_epochReads :
    (∃ (s : State) (m : Master), hostLimited s m blkSys = false) ∧
    (∃ (s : State) (m k : Master) (v : Word), s.accepts m blkSys 0x038 v [] = true ∧ SYS.EPOCH_SNAP.of v = 1 ∧
      hostLimited s k blkSys = false) :=
  ⟨⟨State.reset, 0, by decide +kernel⟩, ⟨State.reset, 0, 1, 1, by decide +kernel⟩⟩

theorem witness_wideReads :
    ∃ (s : State) (m : Master) (a : Word) (b off hi : Nat),
      placeAt a.toNat = .reg b off ∧ off % 4 = 0 ∧ a.toNat % 4 = 0 ∧ hiOf b off = some hi ∧ hostLimited s m b = false ∧
      (b < 0x400 → s.present b = true) ∧ (regAt b off).isSome = true ∧ (regAt b hi).isSome = true ∧ latchShown b off = false ∧
      latchShown b hi = true ∧ b ≠ blkPigeon ∧ b ≠ winTWC ∧ kindOf b ≠ .asrc ∧ (b = blkSys → off < 0x100) :=
  ⟨State.reset, 0, 0x00200020, blkClk, 0x020, 0x024, by decide +kernel⟩

theorem witness_unitStates :
    ∃ (s : State) (m : Master) (w : Fin 1024), s.present w = true ∧ s.isComposite w = false ∧ hostLimited s m w = false ∧
      (regAt w 0x008).isSome = true ∧ s.portStopping w = false :=
  ⟨State.reset, 0, 0x010, by decide +kernel⟩

theorem witness_absentWindows :
    (∃ (s : State) (w : Nat), w < 0x400 ∧ s.present w = false) ∧
    (∃ (s : State) (m : Master) (a : Word) (w off : Nat), placeAt a.toNat = .reg w off ∧ a.toNat % 4 = 0 ∧ w < 0x400 ∧
      s.present w = false ∧ s.mirrorsReg m w off = false) :=
  ⟨⟨State.reset, 0x3FE, by decide +kernel⟩, ⟨State.reset, 0, 0x007FE004, 0x3FE, 0x004, by decide +kernel⟩⟩

theorem witness_refusedWrites :
    ∃ (s : State) (m : Master) (a v : Word) (w off c : Nat) (r : RegD), placeAt a.toNat = .reg w off ∧ a.toNat % 4 = 0 ∧
      off % 4 = 0 ∧ w < 0x400 ∧ s.present w = true ∧ hostLimited s m w = false ∧ s.mirrorsReg m w off = false ∧
      regAt w off = some r ∧ r.readOnly = false ∧ kindOf w ≠ .queue ∧ 0x040 ≤ off ∧ c < 65536 ∧
      ¬(w = winAnt ∧ s.part.reduced = true ∧ (off = 0x048 ∨ off = 0x04C)) ∧
      (s.unit w).refusals.length < 256 ∧
      pickCode (s.commonCodes w off v r ++ s.kindCodes w off v) = some c :=
  ⟨State.reset, 0, 0x004C0044, 0xFFFFFFFF, 0x0C0, 0x044, 0x0202, (regAt 0x0C0 0x044).get (by decide +kernel), by decide +kernel⟩

theorem witness_ignoredWrites :
    ∃ (s : State) (m : Master) (a : Word) (off : Nat), placeAt a.toNat = .reg winAnt off ∧ a.toNat % 4 = 0 ∧
      s.part.reduced = true ∧ (off = 0x048 ∨ off = 0x04C) ∧ hostLimited s m winAnt = false ∧
      s.mirrorsReg m winAnt off = false :=
  ⟨{ State.reset with part := { State.reset.part with reduced := true } }, 0, BitVec.ofNat 32 (0x00400000 + 0x1000 * winAnt + 0x048), 0x048, by decide +kernel⟩

theorem witness_ramWrites :
    ∃ (s : State) (m : Master) (wd : Width) (a : Word), placeAt a.toNat = .ram a.toNat ∧ a.toNat % widthBytes wd = 0 ∧
      s.power.die = 0 ∧ (m : Nat) ≠ 5 ∧ (m : Nat) ≠ 6 :=
  ⟨State.reset, 0, .b16, 0x011FFFFE, by decide +kernel⟩

theorem witness_failedWrites :
    (∃ (s : State) (m : Master) (a : Word), placeAt a.toNat = .hole ∧ s.power.die = 0 ∧ (m : Nat) ≠ 5 ∧ (m : Nat) ≠ 6) ∧
    (∃ (s : State) (m : Master) (wd : Width) (a : Word) (b off : Nat), placeAt a.toNat = .reg b off ∧
      hostLimited s m b = false ∧ (wd ≠ .b32 ∨ a.toNat % 4 ≠ 0)) ∧
    (∃ (s : State) (m : Master) (a : Word), (a.toNat < 0x40000 ∨ (0x04000000 ≤ a.toNat ∧ a.toNat < 0x04800000)) ∧
      a.toNat % 4 = 0 ∧ s.power.die = 0 ∧ (m : Nat) ≠ 5 ∧ (m : Nat) ≠ 6) ∧
    (∃ (m : Master) (a c : Nat), a < 4294967296 ∧ c < 65536 ∧ m.val < 9) :=
  ⟨⟨State.reset, 0, 0x00300000, by decide +kernel⟩, ⟨State.reset, 0, .b32, 0x00100002, blkSys, 2, by decide +kernel⟩,
   ⟨State.reset, 0, 0x047FFFFC, by decide +kernel⟩, ⟨8, 4294967295, 0x0703, by decide +kernel⟩⟩

theorem witness_repliesReachHost :
    ∃ (s : State) (ph op tag : Nat) (args : List Word), s.ferry.quiet = false ∧
      (s.fw.outbox.any (fun x => x.ph == ph)) = false ∧ (s.fifo true ph).words.length + 1 + args.length ≤ 8 ∧
      op < 256 ∧ tag < 256 ∧ ph < 8 :=
  ⟨State.reset, 7, 1, 255, [0, 1, 2, 3, 4, 5, 6], by decide +kernel⟩

theorem witness_portLines :
    (∃ (s : State) (w p i : Nat), s.slotDriver w i = some p ∧ s.apDataLow p = false) ∧
    (∃ (s : State) (w i : Nat), s.slotDriver w i = none) ∧
    (∃ (s : State) (w k : Nat), s.fld (s.clkPort w) PORT.PORT_CFG_FORMAT = 0 ∧ k < s.frameBits w) ∧
    (∃ (s : State) (w : Nat), 2 ≤ s.fld (s.clkPort w) PORT.PORT_CFG_FORMAT) ∧
    (∃ (s : State) (w : Nat), s.power.die = 0 ∧ s.flag w UCB.UNIT_CTL_ENABLE = false) ∧
    (∃ (s : State) (w : Nat) (b : PortBall), s.power.die = 0 ∧ s.present w = true ∧ s.atomState w = stIDLE ∧
      s.ballLent w b = false ∧ s.ballIsOutput w b = true ∧ s.driveOn w = true) :=
  ⟨⟨portDrives, winPort 3, winPort 3, 1, by decide +kernel +kernel⟩,
   ⟨State.reset, winPort 3, 1, by decide +kernel +kernel⟩,
   ⟨State.reset, winPort 3, 31, by decide +kernel +kernel⟩,
   ⟨State.reset.put (winPort 3) PORT.PORT_CFG_FORMAT 2, winPort 3, by decide +kernel +kernel⟩,
   ⟨State.reset, winPort 3, by decide +kernel +kernel⟩,
   ⟨portIdles, winPort 3, .data, by decide +kernel +kernel⟩⟩

end
end

section
/-! PROOF. The canonical form, the queue and the part (O45, O44, O43), and the accesses over the bus: registers, 64-bit
registers, semaphores, absent windows and memories (O39, O51, O52, O54, O56). -/

namespace Sys2Proof.Machine

/-! ## Every command keeps the canonical form, the part and the queue -/

/-- Each command's own meaning keeps them; an arm's lemma is elaborated before it meets its arm of `exec`. -/
theorem exec_keeps {z s : State} (h : Keeps z s) : ∀ c : Instr, KeepsOut z (exec c s)
  | .registerWrite m wd addr v => (execRegisterWrite_keeps m wd addr v h :)
  | .lowWordRead m addr => (execLowWordRead_keeps m addr h :)
  | .counterRestart m addr v => (execCounterRestart_keeps m addr v h :)
  | .peakRestart m addr v => (execPeakRestart_keeps m addr v h :)
  | .sysSoftReset m v => (execSysSoftReset_keeps m v h :)
  | .epochSnap m v => (execEpochSnap_keeps m v h :)
  | .semRead m n => (execSemRead_keeps m n h :)
  | .semWrite m n v => (execSemWrite_keeps m n v h :)
  | .partnerWindowWrite m wd addr v => (execPartnerWindowWrite_keeps m wd addr v h :)
  | .partnerWindowRead m wd addr => (execPartnerWindowRead_keeps m wd addr h :)
  | .partnerReadResponse v => (execPartnerReadResponse_keeps v h :)
  | .signboardRebuilt => (execSignboardRebuilt_keeps h :)
  | .unitCtlWrite m w v => (execUnitCtlWrite_keeps m w v h :)
  | .compositeCtlWrite m w v => (execCompositeCtlWrite_keeps m w v h :)
  | .syncReset m w v => (execSyncReset_keeps m w v h :)
  | .apply m w v => (execApply_keeps m w v h :)
  | .applyTakesEffect w => (execApplyTakesEffect_keeps w h :)
  | .faultClear m w v => (execFaultClear_keeps m w v h :)
  | .unitCtlDeferred w => (execUnitCtlDeferred_keeps w h :)
  | .unitPowerUpdate => (execUnitPowerUpdate_keeps h :)
  | .mfApply ph tag addr len => (execMfApply_keeps ph tag addr len h :)
  | .mfValidate ph tag addr len => (execMfValidate_keeps ph tag addr len h :)
  | .mfRemove ph tag win => (execMfRemove_keeps ph tag win h :)
  | .mfTrigger ph tag arg => (execMfTrigger_keeps ph tag arg h :)
  | .mfAmendCommit => (execMfAmendCommit_keeps h :)
  | .mfAmendComplete => (execMfAmendComplete_keeps h :)
  | .triggerEpochReached w => (execTriggerEpochReached_keeps w h :)
  | .twinReady lo us => (execTwinReady_keeps lo us h :)
  | .loHandover fe => (execLoHandover_keeps fe h :)
  | .agcBlock fe level co => (execAgcBlock_keeps fe level co h :)
  | .agcDecayStep fe co => (execAgcDecayStep_keeps fe co h :)
  | .overloadBlock fe xs => (execOverloadBlock_keeps fe xs h :)
  | .overloadClear fe => (execOverloadClear_keeps fe h :)
  | .ovlStuck fe => (execOvlStuck_keeps fe h :)
  | .divReturnCheck fe => (execDivReturnCheck_keeps fe h :)
  | .divWindowSwitch fe => (execDivWindowSwitch_keeps fe h :)
  | .loLockLost lo => (execLoLockLost_keeps lo h :)
  | .loLockAcquired lo => (execLoLockAcquired_keeps lo h :)
  | .tempRecal fe temp => (execTempRecal_keeps fe temp h :)
  | .calReqLo m fe => (execCalReqLo_keeps m fe h :)
  | .calReqImage m fe => (execCalReqImage_keeps m fe h :)
  | .calReqFilter m fe => (execCalReqFilter_keeps m fe h :)
  | .calReqOffset m fe => (execCalReqOffset_keeps m fe h :)
  | .calAbort m fe => (execCalAbort_keeps m fe h :)
  | .calStepDone fe a => (execCalStepDone_keeps fe a h :)
  | .calStartupDone fe a => (execCalStartupDone_keeps fe a h :)
  | .calFeLDone ok gains => (execCalFeLDone_keeps ok gains h :)
  | .calStoreWrite fe sect => (execCalStoreWrite_keeps fe sect h :)
  | .swapRequest m w v => (execSwapRequest_keeps m w v h :)
  | .fadeEnd w => (execFadeEnd_keeps w h :)
  | .filterOutput w xs ys => (execFilterOutput_keeps w xs ys h :)
  | .warmComplete w => (execWarmComplete_keeps w h :)
  | .detectorBlock n => (execDetectorBlock_keeps n h :)
  | .loudnessUpdate n => (execLoudnessUpdate_keeps n h :)
  | .silenceEnter n => (execSilenceEnter_keeps n h :)
  | .silenceExit n => (execSilenceExit_keeps n h :)
  | .overRepeat n => (execOverRepeat_keeps n h :)
  | .intReset m n => (execIntReset_keeps m n h :)
  | .demodBlock w level snr => (execDemodBlock_keeps w level snr h :)
  | .metricIntervalEnd w interval a b => (execMetricIntervalEnd_keeps w interval a b h :)
  | .pilotFound n => (execPilotFound_keeps n h :)
  | .pilotLost n pll => (execPilotLost_keeps n pll h :)
  | .noiseBlank w => (execNoiseBlank_keeps w h :)
  | .rdsBit n => (execRdsBit_keeps n h :)
  | .demodWarmDone n => (execDemodWarmDone_keeps n h :)
  | .carrierLocked n => (execCarrierLocked_keeps n h :)
  | .carrierLost n => (execCarrierLost_keeps n h :)
  | .amLockBound n => (execAmLockBound_keeps n h :)
  | .detectorReturnSync n => (execDetectorReturnSync_keeps n h :)
  | .sidebandEval n lsb usb => (execSidebandEval_keeps n lsb usb h :)
  | .branchSwitch n => (execBranchSwitch_keeps n h :)
  | .ofdmSyncAdvance n mode so offset sco => (execOfdmSyncAdvance_keeps n mode so offset sco h :)
  | .ofdmSyncLost n => (execOfdmSyncLost_keeps n h :)
  | .ofdmResyncSuccess n => (execOfdmResyncSuccess_keeps n h :)
  | .ofdmResyncTimeout n => (execOfdmResyncTimeout_keeps n h :)
  | .modeUnsupported n => (execModeUnsupported_keeps n h :)
  | .ofdmAcqTimeout n => (execOfdmAcqTimeout_keeps n h :)
  | .ofdmFrameEnd n mer offset sco a b => (execOfdmFrameEnd_keeps n mer offset sco a b h :)
  | .controlBlockReceived n c => (execControlBlockReceived_keeps n c h :)
  | .selectionSwitch n => (execSelectionSwitch_keeps n h :)
  | .multiplexReconfigure n => (execMultiplexReconfigure_keeps n h :)
  | .superframeDecoded n sel b => (execSuperframeDecoded_keeps n sel b h :)
  | .preambleMeasured n mer inWindow => (execPreambleMeasured_keeps n mer inWindow h :)
  | .announcementEntry n asw cluster sub new region => (execAnnouncementEntry_keeps n asw cluster sub new region h :)
  | .announcementTimeout n cluster => (execAnnouncementTimeout_keeps n cluster h :)
  | .rdsBlock n => (execRdsBlock_keeps n h :)
  | .figReceived n => (execFigReceived_keeps n h :)
  | .padDataGroup n => (execPadDataGroup_keeps n h :)
  | .packetReceived n => (execPacketReceived_keeps n h :)
  | .drmSdcEntity n e => (execDrmSdcEntity_keeps n e h :)
  | .qualityReport n time => (execQualityReport_keeps n time h :)
  | .gbSweep => (execGbSweep_keeps h :)
  | .gbCheckpointWrite => (execGbCheckpointWrite_keeps h :)
  | .gbDailyCheckpoint => (execGbDailyCheckpoint_keeps h :)
  | .gbRestoreDone => (execGbRestoreDone_keeps h :)
  | .gbConfig ph tag args => (execGbConfig_keeps ph tag args h :)
  | .gbLookup ph tag args => (execGbLookup_keeps ph tag args h :)
  | .gbInsert ph tag args => (execGbInsert_keeps ph tag args h :)
  | .gbDelete ph tag args => (execGbDelete_keeps ph tag args h :)
  | .gbFlags ph tag args => (execGbFlags_keeps ph tag args h :)
  | .gbLink ph tag args => (execGbLink_keeps ph tag args h :)
  | .gbUnlink ph tag args => (execGbUnlink_keeps ph tag args h :)
  | .gbCheckpoint ph tag args => (execGbCheckpoint_keeps ph tag args h :)
  | .gbClear ph tag args => (execGbClear_keeps ph tag args h :)
  | .gbStatus ph tag args => (execGbStatus_keeps ph tag args h :)
  | .scanPlan ph tag args => (execScanPlan_keeps ph tag args h :)
  | .scanCtl ph tag args => (execScanCtl_keeps ph tag args h :)
  | .scanStatus ph tag args => (execScanStatus_keeps ph tag args h :)
  | .scanTaskStart => (execScanTaskStart_keeps h :)
  | .scanTaskEnd k cause => (execScanTaskEnd_keeps k cause h :)
  | .scanCycleStart => (execScanCycleStart_keeps h :)
  | .followSeek n home sub => (execFollowSeek_keeps n home sub h :)
  | .followSurvey n home k => (execFollowSurvey_keeps n home k h :)
  | .verifyIdentityPass n sub => (execVerifyIdentityPass_keeps n sub h :)
  | .verifyTimeout n => (execVerifyTimeout_keeps n h :)
  | .verifyQualityCheck n => (execVerifyQualityCheck_keeps n h :)
  | .correlationMeasured n => (execCorrelationMeasured_keeps n h :)
  | .followSwitchDue n => (execFollowSwitchDue_keeps n h :)
  | .blendStart n => (execBlendStart_keeps n h :)
  | .blendEnd n => (execBlendEnd_keeps n h :)
  | .sourceLost n => (execSourceLost_keeps n h :)
  | .annFadeIn n => (execAnnFadeIn_keeps n h :)
  | .recentre m n v => (execRecentre_keeps m n v h :)
  | .sfForce ph tag args => (execSfForce_keeps ph tag args h :)
  | .sfHome ph tag args => (execSfHome_keeps ph tag args h :)
  | .sfStatus ph tag args => (execSfStatus_keeps ph tag args h :)
  | .accessUnitDecoded n u => (execAccessUnitDecoded_keeps n u h :)
  | .laneSelect m n v => (execLaneSelect_keeps m n v h :)
  | .selectPendingTakes n => (execSelectPendingTakes_keeps n h :)
  | .xfadeDone n => (execXfadeDone_keeps n h :)
  | .gainWrite m n v => (execGainWrite_keeps m n v h :)
  | .rampEnd n => (execRampEnd_keeps n h :)
  | .laneSample n => (execLaneSample_keeps n h :)
  | .hostPcmDescriptor n k => (execHostPcmDescriptor_keeps n k h :)
  | .hostPcmMarkStart n k => (execHostPcmMarkStart_keeps n k h :)
  | .hostUnderrun n k => (execHostUnderrun_keeps n k h :)
  | .asrcReacquireDone n => (execAsrcReacquireDone_keeps n h :)
  | .asrcInCountRead m n => (execAsrcInCountRead_keeps m n h :)
  | .portFrame n e period xs missing => (execPortFrame_keeps n e period xs missing h :)
  | .zcStartPass n slot => (execZcStartPass_keeps n slot h :)
  | .zcTimeout n slot => (execZcTimeout_keeps n slot h :)
  | .portStopped n => (execPortStopped_keeps n h :)
  | .tapBlock n => (execTapBlock_keeps n h :)
  | .clockLost n => (execClockLost_keeps n h :)
  | .clockReturned n => (execClockReturned_keeps n h :)
  | .glitchFrame n => (execGlitchFrame_keeps n h :)
  | .rateStep n period => (execRateStep_keeps n period h :)
  | .hybridLock n => (execHybridLock_keeps n h :)
  | .portRestart m n => (execPortRestart_keeps m n h :)
  | .groupArm m g v => (execGroupArm_keeps m g v h :)
  | .groupGo m g v => (execGroupGo_keeps m g v h :)
  | .groupFireEpoch g => (execGroupFireEpoch_keeps g h :)
  | .syncInEdge e => (execSyncInEdge_keeps e h :)
  | .syncOutPulse e => (execSyncOutPulse_keeps e h :)
  | .qConsWrite m n v => (execQConsWrite_keeps m n v h :)
  | .qProdWrite m n v => (execQProdWrite_keeps m n v h :)
  | .hostDescriptorTake n => (execHostDescriptorTake_keeps n h :)
  | .descriptorRetire n => (execDescriptorRetire_keeps n h :)
  | .recordCommit n r => (execRecordCommit_keeps n r h :)
  | .iqBlock n => (execIqBlock_keeps n h :)
  | .finalDescriptorCommit n => (execFinalDescriptorCommit_keeps n h :)
  | .phTdPush m ph v => (execPhTdPush_keeps m ph v h :)
  | .phTdPop m ph => (execPhTdPop_keeps m ph h :)
  | .phThPush m ph v => (execPhThPush_keeps m ph v h :)
  | .phThPop m ph => (execPhThPop_keeps m ph h :)
  | .tdEmptyReq m ph => (execTdEmptyReq_keeps m ph h :)
  | .thEmptyReq m ph => (execThEmptyReq_keeps m ph h :)
  | .messageTimeout ph => (execMessageTimeout_keeps ph h :)
  | .unknownOpcode ph tag opcode => (execUnknownOpcode_keeps ph tag opcode h :)
  | .sysPing ph tag args => (execSysPing_keeps ph tag args h :)
  | .sysVersion ph tag => (execSysVersion_keeps ph tag h :)
  | .sysFault ph tag => (execSysFault_keeps ph tag h :)
  | .sysStandby ph tag mask => (execSysStandby_keeps ph tag mask h :)
  | .sysNoticeCfg ph tag mask => (execSysNoticeCfg_keeps ph tag mask h :)
  | .bellRing m toHost v => (execBellRing_keeps m toHost v h :)
  | .bellClear m toHost v => (execBellClear_keeps m toHost v h :)
  | .eventLatchClear m k v => (execEventLatchClear_keeps m k v h :)
  | .qspiWrite addr data cut => (execQspiWrite_keeps addr data cut h :)
  | .qspiRead addr n delay => (execQspiRead_keeps addr n delay h :)
  | .qspiWriteFixed addr data cut => (execQspiWriteFixed_keeps addr data cut h :)
  | .qspiReadFixed addr n delay => (execQspiReadFixed_keeps addr n delay h :)
  | .qspiStatus n => (execQspiStatus_keeps n h :)
  | .qspiQread q max sent delay => (execQspiQread_keeps q max sent delay h :)
  | .qspiQwrite q data cut => (execQspiQwrite_keeps q data cut h :)
  | .qspiProtocolReset => (execQspiProtocolReset_keeps h :)
  | .qspiUnknownOpcode opcode => (execQspiUnknownOpcode_keeps opcode h :)
  | .hspiCfgTakesEffect => (execHspiCfgTakesEffect_keeps h :)
  | .twtWrite mode whole addr data cut => (execTwtWrite_keeps mode whole addr data cut h :)
  | .twtRead late => (execTwtRead_keeps late h :)
  | .twtMisplacedStart => (execTwtMisplacedStart_keeps h :)
  | .twtBusTimeout => (execTwtBusTimeout_keeps h :)
  | .twcGo m v => (execTwcGo_keeps m v h :)
  | .twcTransferDone nackAddr nackData rx => (execTwcTransferDone_keeps nackAddr nackData rx h :)
  | .twcArbLost => (execTwcArbLost_keeps h :)
  | .twcArbRetry => (execTwcArbRetry_keeps h :)
  | .twcSclTimeout => (execTwcSclTimeout_keeps h :)
  | .twcSdaTimeout => (execTwcSdaTimeout_keeps h :)
  | .twcBusCleared => (execTwcBusCleared_keeps h :)
  | .twcBusStuck => (execTwcBusStuck_keeps h :)
  | .twcTxPush m v => (execTwcTxPush_keeps m v h :)
  | .twcRxPop m => (execTwcRxPop_keeps m h :)
  | .ibrFifoPop m => (execIbrFifoPop_keeps m h :)
  | .ibrRequestStart => (execIbrRequestStart_keeps h :)
  | .ibrRepeat => (execIbrRepeat_keeps h :)
  | .ibrWithdraw => (execIbrWithdraw_keeps h :)
  | .ibrUnserved => (execIbrUnserved_keeps h :)
  | .ibrFrameEnd accepted => (execIbrFrameEnd_keeps accepted h :)
  | .ibrServe addr reason => (execIbrServe_keeps addr reason h :)
  | .refQualified => (execRefQualified_keeps h :)
  | .refLost => (execRefLost_keeps h :)
  | .rootLocked => (execRootLocked_keeps h :)
  | .rootLockLost => (execRootLockLost_keeps h :)
  | .timingFault => (execTimingFault_keeps h :)
  | .glideEnd => (execGlideEnd_keeps h :)
  | .refCfgWrite m v => (execRefCfgWrite_keeps m v h :)
  | .phaseTrimWrite m v => (execPhaseTrimWrite_keeps m v h :)
  | .trimDone => (execTrimDone_keeps h :)
  | .epochLoad m v => (execEpochLoad_keeps m v h :)
  | .clkOutConfigWrite m n div v => (execClkOutConfigWrite_keeps m n div v h :)
  | .clkOutChangeApplied n => (execClkOutChangeApplied_keeps n h :)
  | .vinWarning => (execVinWarning_keeps h :)
  | .saddlebagSaveDone us => (execSaddlebagSaveDone_keeps us h :)
  | .warmResume ticks vcore => (execWarmResume_keeps ticks vcore h :)
  | .warmResumeReady ticks => (execWarmResumeReady_keeps ticks h :)
  | .feedResume n => (execFeedResume_keeps n h :)
  | .vinReset => (execVinReset_keeps h :)
  | .railFault rail => (execRailFault_keeps rail h :)
  | .feedOnWrite m n v => (execFeedOnWrite_keeps m n v h :)
  | .feedSoftStartDone n => (execFeedSoftStartDone_keeps n h :)
  | .feedShort n => (execFeedShort_keeps n h :)
  | .feedRetry n => (execFeedRetry_keeps n h :)
  | .feedOpen n => (execFeedOpen_keeps n h :)
  | .feedOpenCleared n => (execFeedOpenCleared_keeps n h :)
  | .feedReverse n => (execFeedReverse_keeps n h :)
  | .standbyEntered => (execStandbyEntered_keeps h :)
  | .wakePin => (execWakePin_keeps h :)
  | .rtcAlarm => (execRtcAlarm_keeps h :)
  | .twtWakeMatch => (execTwtWakeMatch_keeps h :)
  | .resetN => (execResetN_keeps h :)
  | .keeperReset => (execKeeperReset_keeps h :)
  | .rtcSet m v => (execRtcSet_keeps m v h :)
  | .shadowCopy => (execShadowCopy_keeps h :)
  | .migrationComplete duty => (execMigrationComplete_keeps duty h :)
  | .watchdogExpired core => (execWatchdogExpired_keeps core h :)
  | .memoryEccError a => (execMemoryEccError_keeps a h :)
  | .coreStatus ph tag args => (execCoreStatus_keeps ph tag args h :)
  | .coreRetire ph tag args => (execCoreRetire_keeps ph tag args h :)
  | .coreRestore ph tag args => (execCoreRestore_keeps ph tag args h :)
  | .coreStartDone core => (execCoreStartDone_keeps core h :)
  | .coreMigrate ph tag args => (execCoreMigrate_keeps ph tag args h :)
  | .fwVerify ph tag args => (execFwVerify_keeps ph tag args h :)
  | .fwActivate ph tag args => (execFwActivate_keeps ph tag args h :)
  | .fwRollDone => (execFwRollDone_keeps h :)
  | .updSetBoot ph tag args => (execUpdSetBoot_keeps ph tag args h :)
  | .calRestore ph tag args => (execCalRestore_keeps ph tag args h :)
  | .unitReplace ph tag args => (execUnitReplace_keeps ph tag args h :)
  | .nvGo m => (execNvGo_keeps m h :)
  | .nvAbort m => (execNvAbort_keeps m h :)
  | .nvPageWritten ok => (execNvPageWritten_keeps ok h :)
  | .linkTrained latency hb abi => (execLinkTrained_keeps latency hb abi h :)
  | .linkTrainRetry => (execLinkTrainRetry_keeps h :)
  | .heartbeatSend => (execHeartbeatSend_keeps h :)
  | .heartbeatReceived hb offset => (execHeartbeatReceived_keeps hb offset h :)
  | .heartbeatLoss lost => (execHeartbeatLoss_keeps lost h :)
  | .mirrorFrame seq addr v => (execMirrorFrame_keeps seq addr v h :)
  | .ferryWriteFrame wd addr v m => (execFerryWriteFrame_keeps wd addr v m h :)
  | .ferryReadReq wd addr m tag => (execFerryReadReq_keeps wd addr m tag h :)
  | .ferryEventFrame e => (execFerryEventFrame_keeps e h :)
  | .ferryMessageFrame msg => (execFerryMessageFrame_keeps msg h :)
  | .replayRequest seq => (execReplayRequest_keeps seq h :)
  | .ferryBadFrame => (execFerryBadFrame_keeps h :)
  | .mirrorGapTimeout => (execMirrorGapTimeout_keeps h :)
  | .resyncDone a => (execResyncDone_keeps a h :)
  | .leadClaim low => (execLeadClaim_keeps low h :)
  | .releaseSilenceEnd low => (execReleaseSilenceEnd_keeps low h :)
  | .wireCheckFail => (execWireCheckFail_keeps h :)
  | .takeover epoch => (execTakeover_keeps epoch h :)
  | .prStatus ph tag args => (execPrStatus_keeps ph tag args h :)
  | .prHandover ph tag args partner => (execPrHandover_keeps ph tag args partner h :)
  | .handoverRelease => (execHandoverRelease_keeps h :)
  | .handoverEpoch => (execHandoverEpoch_keeps h :)
  | .prTake ph tag args => (execPrTake_keeps ph tag args h :)
  | .prResync ph tag args => (execPrResync_keeps ph tag args h :)
  | .thermalReading t => (execThermalReading_keeps t h :)
  | .thermalRecover => (execThermalRecover_keeps h :)
  | .bookAudit => (execBookAudit_keeps h :)
  | .faultLogWrite => (execFaultLogWrite_keeps h :)
  | .coldBoot ticks => (execColdBoot_keeps ticks h :)
  | .firmwareReady => (execFirmwareReady_keeps h :)
  | .rootLockTimeout => (execRootLockTimeout_keeps h :)
  | .selfCheckDone w ok => (execSelfCheckDone_keeps w ok h :)
  | .mfLoadComplete => (execMfLoadComplete_keeps h :)
  | .twcBusFree => (execTwcBusFree_keeps h :)
  | .feedRailRegulated => (execFeedRailRegulated_keeps h :)
  | .resyncTimeout => (execResyncTimeout_keeps h :)
  | .wireCheckCleared => (execWireCheckCleared_keeps h :)

theorem idleTick_canonical {s : State} (h : Canonical s) : Canonical (idleTick s) := (idleTick_keeps (.refl s)).canonical h

theorem exec_canonical {c : Instr} {s t : State} (h : Canonical s) (e : exec c s = .next t) : Canonical t :=
  ((exec_keeps (.refl s) c).keeps t e).canonical h

/-- Settles O44. -/
theorem resetIsCanonical : Obligations.ResetIsCanonical := ⟨rfl, rfl⟩

/-- Settles O45, by the two cases of a step: a period of the audio-master clock, or the command in front on a state whose
stores are those of `s`. -/
theorem stepsKeepCanonical : Obligations.StepsKeepCanonical := by
  intro s t hs e
  unfold step at e
  split at e
  next =>
    cases e
    exact idleTick_canonical hs
  next c rest _ => exact exec_canonical (s := { s with pending := rest }) hs e

/-- Settles O43. -/
theorem commandsKeepQueue : Obligations.CommandsKeepQueue := fun c s t e =>
  have k := (exec_keeps (.refl s) c).keeps t e
  ⟨k.pending, k.part⟩

/-! ## What the bus passes on to a register -/

theorem placeAt_reg_lt {a b off : Nat} (h : placeAt a = .reg b off) : off < 4096 := by
  unfold placeAt at h
  repeat' split at h
  all_goals cases h
  all_goals exact Nat.mod_lt _ (by decide)

/-- What the host ports reach hangs on the supply and the first root lock alone (R382, R490). -/
theorem hostLimited_congr {s t : State} (hp : t.power = s.power) (hc : t.clock.everLocked = s.clock.everLocked)
    (m b : Nat) : hostLimited t m b = hostLimited s m b := by
  simp [hostLimited, State.portsAnswer, hp, hc]

theorem busReg_of_reg {a b off : Nat} (hp : placeAt a = .reg b off) (h4 : off % 4 = 0) : busReg a = some (b, off) := by
  simp [busReg, hp, h4]

theorem badWidth_word {a b off : Nat} (ha : a % 4 = 0) : badWidth (.reg b off) .b32 a = false := by
  simp [badWidth, widthBytes, ha]

section
variable {s : State} {m a b off : Nat}

theorem State.busWrite_reg (hp : placeAt a = .reg b off) (ha : a % 4 = 0) (hm : hostLimited s m b = false)
    (lm : Nat) (v : Word) : s.busWrite m lm .b32 a v = s.regWrite m lm b off v := by
  simp [State.busWrite, State.closed, Place.block, hp, hm, badWidth_word ha]

theorem State.busRead_reg (hp : placeAt a = .reg b off) (ha : a % 4 = 0) (hm : hostLimited s m b = false)
    (lm : Nat) (wait : Bool) : s.busRead m lm .b32 a wait = (s.regRead m lm b off).useFresh := by
  simp [State.busRead, State.closed, Place.block, hp, hm, badWidth_word ha]

end

/-! ## 64-bit registers, low word first (R12, R48) -/

theorem State.latched_setLatch (s : State) (m b off k c o : Nat) (v : Word) :
    (s.setLatch m b off v).latched k c o = if lkey k c o = lkey m b off then v else s.latched k c o := by
  simp [State.latched, State.setLatch, Store.get_set]

/-- Masters have latches of their own. -/
theorem lkey_master_ne {m k : Master} (h : (k : Nat) ≠ m) (b off c o : Nat) : lkey k c o ≠ lkey m b off := by
  unfold lkey; omega

/-- A register that stands, in a window that is present, answers its reader. -/
theorem readAnswered {s : State} {m b off : Nat} (hm : hostLimited s m b = false) (hw : b < 0x400 → s.present b = true)
    (hr : (regAt b off).isSome = true) :
    (hostLimited s m b || (decide (b < 0x400) && !s.present b) || (regAt b off).isNone) = false := by
  have hr' : (regAt b off).isNone = false := by simpa [Option.isSome_iff_ne_none] using hr
  by_cases hb : b < 0x400
  · simp [hm, hr', hw hb]
  · simp [hm, hr', hb]

theorem State.regWord_latched {s : State} {m b off : Nat} (hm : hostLimited s m b = false)
    (hw : b < 0x400 → s.present b = true) (hr : (regAt b off).isSome = true) (hl : latchShown b off = true) (lm : Nat) :
    s.regWord m lm b off = s.latched lm b off := by
  rw [State.regWord, readAnswered hm hw hr]
  simp [hl]

/-- The register at `off` is the low word of a 64-bit register whose high word stands at `hi`, the master reaches it, and
reading it does nothing but latch. -/
structure LowRead (s : State) (m b off hi : Nat) : Prop where
  high : hiOf b off = some hi
  reached : hostLimited s m b = false
  present : b < 0x400 → s.present b = true
  reg : (regAt b off).isSome = true
  live : latchShown b off = false
  pigeon : b ≠ blkPigeon
  twc : b ≠ winTWC
  asrc : kindOf b ≠ .asrc
  sems : b = blkSys → off < 0x100

/-- What a master's read of a low word leaves: the high word of that moment in its latch, and the low word as the answer. -/
def State.lowRead (s : State) (m b off hi : Nat) : State :=
  ((s.setLatch m b hi (s.liveRead m b hi)).ans [s.liveRead m b off]).useFresh

section
variable (s : State) (m b off hi : Nat)

@[simp] theorem State.lowRead_answer : (s.lowRead m b off hi).answer = [s.liveRead m b off] := by
  simp [State.lowRead, State.ans]
@[simp] theorem State.lowRead_regs : (s.lowRead m b off hi).regs = s.regs := by simp [State.lowRead]
@[simp] theorem State.lowRead_mem : (s.lowRead m b off hi).mem = s.mem := by simp [State.lowRead]
@[simp] theorem State.lowRead_clock : (s.lowRead m b off hi).clock = s.clock := by simp [State.lowRead]
@[simp] theorem State.lowRead_power : (s.lowRead m b off hi).power = s.power := by simp [State.lowRead]

@[simp] theorem State.lowRead_latched (k c o : Nat) :
    (s.lowRead m b off hi).latched k c o = if lkey k c o = lkey m b hi then s.liveRead m b hi else s.latched k c o := by
  simp [State.lowRead, State.latched_setLatch]

end

section
variable {s : State} {m b off hi : Nat}

theorem LowRead.readEffect (h : LowRead s m b off hi) :
    s.readEffect m m b off = s.setLatch m b hi (s.liveRead m b hi) := by
  obtain ⟨hhi, hm, hw, -, -, hpigeon, htwc, hasrc, hsems⟩ := h
  have hsem : ¬ (b = blkSys ∧ 0x100 ≤ off ∧ off < 0x180) := fun e => by have := hsems e.1; omega
  have habsent : ¬ (b < 0x400 ∧ s.present b = false) := fun e => by simp [hw e.1] at e
  simp [State.readEffect, hm, habsent, hpigeon, hsem, htwc, hasrc, hhi]

theorem LowRead.regWord (h : LowRead s m b off hi) : s.regWord m m b off = s.liveRead m b off := by
  obtain ⟨-, hm, hw, hr, hl, -, -, hasrc, -⟩ := h
  rw [State.regWord, readAnswered hm hw hr]
  simp [hl, hasrc]

theorem LowRead.regRead (h : LowRead s m b off hi) : (s.regRead m m b off).useFresh = s.lowRead m b off hi := by
  rw [State.regRead, h.readEffect, h.regWord, State.lowRead]

/-- The high word stands in the latch for as long as the latches stand. -/
theorem LowRead.highWord {u : State} (hl : u.readLatch = (s.lowRead m b off hi).readLatch)
    (hm : hostLimited u m b = false) (hw : b < 0x400 → u.present b = true) (hr : (regAt b hi).isSome = true)
    (hs : latchShown b hi = true) : u.regWord m m b hi = s.liveRead m b hi := by
  rw [State.regWord_latched hm hw hr hs]
  have e : u.latched m b hi = (s.lowRead m b off hi).latched m b hi := by simp only [State.latched, hl]
  simp [e]

end

theorem exec_lowWordRead {s : State} {m : Master} {a : Word} {b off hi : Nat} (h : LowRead s m b off hi)
    (hp : placeAt a.toNat = .reg b off) (h4 : off % 4 = 0) (ha : a.toNat % 4 = 0) :
    exec (.lowWordRead m a) s = .next (s.lowRead m b off hi) := by
  rw [← h.regRead, ← State.busRead_reg hp ha h.reached m true]
  show execLowWordRead m a s = _
  simp [execLowWordRead, busReg_of_reg hp h4, h.high]

/-- Settles O52: the latch that the read of the low word takes is what its master reads as the high word. -/
theorem wideReads : Obligations.WideReads := by
  intro s m a b off hi hp h4 ha hhi hm hw hr hrhi hl hlhi hpigeon htwc hasrc hsems
  have h : LowRead s m b off hi := ⟨hhi, hm, hw, hr, hl, hpigeon, htwc, hasrc, hsems⟩
  refine ⟨_, exec_lowWordRead h hp h4 ha, by simp, fun u hu hmu hwu => ?_, fun k c o hk => ?_⟩
  · exact LowRead.highWord hu hmu hwu hrhi hlhi
  · simp [lkey_master_ne hk]

/-! ## The epoch (R38) -/

theorem not_window_sys : ¬ blkSys < 0x400 := by decide

section
variable (s : State) (m : Nat)

theorem State.liveRead_sys (off : Nat) : s.liveRead m blkSys off = s.sysRead m off := by
  simp [State.liveRead, not_window_sys]

theorem State.liveRead_epochLo : s.liveRead m blkSys 0x030 = s.clock.epoch.extractLsb' 0 32 := State.liveRead_sys s m _
theorem State.liveRead_epochHi : s.liveRead m blkSys 0x034 = s.clock.epoch.extractLsb' 32 32 := State.liveRead_sys s m _
theorem State.liveRead_snapLo : s.liveRead m blkSys 0x040 = s.clock.snap.extractLsb' 0 32 := State.liveRead_sys s m _
theorem State.liveRead_snapHi : s.liveRead m blkSys 0x044 = s.clock.snap.extractLsb' 32 32 := State.liveRead_sys s m _

end

/-- The 64-bit registers of SYS (UID, EPOCH, EPOCH_SNAP) are read low word first. -/
theorem lowRead_sys {s : State} {m off : Nat} (hm : hostLimited s m blkSys = false)
    (ho : off = 0x008 ∨ off = 0x030 ∨ off = 0x040) : LowRead s m blkSys off (off + 4) where
  high := by rcases ho with rfl | rfl | rfl <;> rfl
  reached := hm
  present e := absurd e not_window_sys
  reg := by rcases ho with rfl | rfl | rfl <;> decide
  live := by rcases ho with rfl | rfl | rfl <;> decide
  pigeon := by decide
  twc := by decide
  asrc := by decide
  sems _ := by omega

/-- The epoch copied to the snapshot. -/
def State.snapped (s : State) : State := { s with clock := { s.clock with snap := s.clock.epoch } }

theorem exec_epochSnap {s : State} {m : Master} {v : Word} (h : s.accepts m blkSys 0x038 v [] = true)
    (hv : SYS.EPOCH_SNAP.of v = 1) : exec (.epochSnap m v) s = .next s.snapped := by
  have hg : s.mirrorsReg m blkSys 0x038 = false := State.mirrorsReg_apart s (by decide) (by decide)
  have hoff : SYS.EPOCH_SNAP.off = 0x038 := rfl
  show execEpochSnap m v s = _
  simp only [execEpochSnap, hoff, State.guarded_accepts s h, State.told_apart s hg, hv, if_true]
  rfl

/-- Settles O51. -/
theorem epochReads : Obligations.EpochReads := by
  have window (u : State) (e : blkSys < 0x400) : u.present blkSys = true := absurd e not_window_sys
  refine ⟨fun s m hm => ?epoch, fun s m k v h hv hk => ?snap⟩
  case epoch =>
    have h : LowRead s m blkSys 0x030 0x034 := lowRead_sys hm (by decide)
    refine ⟨_, exec_lowWordRead h (by decide) rfl (by decide), ?_, fun u hu hmu => ?_⟩
    · rw [State.lowRead_answer, State.liveRead_epochLo]
    · rw [LowRead.highWord hu hmu (window u) (by decide) (by decide), State.liveRead_epochHi]
  case snap =>
    have hk' : hostLimited s.snapped k blkSys = false := (hostLimited_congr rfl rfl k blkSys).trans hk
    have h' : LowRead s.snapped k blkSys 0x040 0x044 := lowRead_sys hk' (by decide)
    have hu : hostLimited (s.snapped.lowRead k blkSys 0x040 0x044) k blkSys = false :=
      (hostLimited_congr (by simp) (by simp) k blkSys).trans hk'
    refine ⟨_, _, exec_epochSnap h hv, exec_lowWordRead h' (by decide) rfl (by decide), ?_, ?_⟩
    · rw [State.lowRead_answer, State.liveRead_snapLo]; rfl
    · rw [LowRead.highWord rfl hu (window _) (by decide) (by decide), State.liveRead_snapHi]; rfl

/-! ## The window of an absent unit (R3) -/

section
variable {s : State} {m w off : Nat}

theorem State.regWord_absent (hw : w < 0x400) (hp : s.present w = false) (lm : Nat) : s.regWord m lm w off = 0 := by
  simp [State.regWord, hw, hp]

theorem State.guarded_absent (hw : w < 0x400) (hp : s.present w = false) (hg : s.mirrorsReg m w off = false) (v : Word)
    (extra : List Nat) (act : State → State) : s.guarded m w off v extra act = s := by
  simp [State.guarded, State.judged, hg, hw, hp]

theorem State.unitWrite_absent (hw : w < 0x400) (hp : s.present w = false) (hg : s.mirrorsReg m w off = false) (lm : Nat)
    (v : Word) : s.unitWrite m lm w off v = s := by
  unfold State.unitWrite
  split
  next e => subst e; exact State.guarded_absent hw hp hg ..
  split
  next => rfl
  split
  next e => rw [e.2] at hg; exact State.guarded_absent hw hp hg ..
  split
  next e => rw [e.2] at hg; exact State.guarded_absent hw hp hg ..
  next => exact State.guarded_absent hw hp hg ..

end

/-- Settles O54: reads and writes of an absent window end before the register is looked at. -/
theorem absentWindows : Obligations.AbsentWindows := by
  refine ⟨fun s m w off hw hp => State.regWord_absent hw hp m, fun s m a v w off ha h4 hw hp hg => ?_⟩
  have hu : s.regWrite m m w off v = s := by
    rw [State.regWrite, if_pos hw, State.unitWrite_absent hw hp hg]
  show execRegisterWrite m .b32 a v s = _
  cases hm : hostLimited s m w with
  | true => simp [execRegisterWrite, State.busWrite, State.closed, Place.block, ha, hm]
  | false => simp [execRegisterWrite, State.busWrite_reg ha h4 hm, hu]

/-! ## Writes to memory (R11, R24) -/

theorem State.wrBytes_rdByte (s : State) (a : Nat) (bs : List Byte) (x : Nat) :
    (s.wrBytes a bs).rdByte x = if x < a then s.rdByte x else bs[x - a]?.getD (s.rdByte x) := by
  induction bs generalizing s a with
  | nil => simp [State.wrBytes]
  | cons b bs ih =>
    rw [State.wrBytes, ih, State.rdByte_wrByte]
    rcases Nat.lt_trichotomy x a with hlt | rfl | hgt
    · simp [hlt, Nat.lt_succ_of_lt hlt, Nat.ne_of_lt hlt]
    · simp
    · obtain ⟨k, rfl⟩ : ∃ k, x = a + 1 + k := ⟨x - (a + 1), by omega⟩
      have hk : a + 1 + k - a = k + 1 := by omega
      simp [hk, Nat.not_le.mpr hgt, Nat.not_lt.mpr hgt.le, Nat.ne_of_gt hgt]

theorem widthBytes_le (wd : Width) : widthBytes wd ≤ 4 := by cases wd <;> decide

/-- The bytes of a word that a write of some width stores. -/
theorem getElem?_bytesOf_take (v : Word) (wd : Width) (i : Nat) :
    ((bytesOf v).take (widthBytes wd))[i]? = if i < widthBytes wd then some (v.extractLsb' (8 * i) 8) else none := by
  have hl := widthBytes_le wd
  rw [List.getElem?_take]
  split
  next hi =>
    have : i = 0 ∨ i = 1 ∨ i = 2 ∨ i = 3 := by omega
    rcases this with rfl | rfl | rfl | rfl <;> rfl
  next => rfl

/-- What corrupts a lane's audio is its history and free values (R300). -/
theorem State.storeHit_eq (s : State) : ∃ hist fresh, s.storeHit = { s with hist := hist, fresh := fresh } := by
  unfold State.storeHit
  dsimp only
  split
  · exact ⟨s.hist, s.fresh, rfl⟩
  · exact ⟨_, _, rfl⟩

/-- A write to memory by no host stores its bytes, and beside them touches sample histories and free values alone. -/
theorem State.memWrite_eq (s : State) {m : Nat} (h5 : m ≠ 5) (h6 : m ≠ 6) (wd : Width) (a : Nat) (v : Word) :
    ∃ hist fresh, s.memWrite m wd a v =
      { s.wrBytes a ((bytesOf v).take (widthBytes wd)) with hist := hist, fresh := fresh } := by
  simp only [State.memWrite, beq_eq_false_iff_ne.mpr h5, beq_eq_false_iff_ne.mpr h6, Bool.or_self, Bool.false_and,
    Bool.false_eq_true, if_false]
  split
  · exact State.storeHit_eq _
  · exact ⟨_, _, rfl⟩

theorem State.busWrite_ram {s : State} {m a : Nat} {wd : Width} (hp : placeAt a = .ram a) (ha : a % widthBytes wd = 0)
    (hd : s.power.die = 0) (h5 : m ≠ 5) (h6 : m ≠ 6) (lm : Nat) (v : Word) :
    s.busWrite m lm wd a v = s.memWrite m wd a v := by
  simp [State.busWrite, State.closed, hostLimited, badWidth, hp, ha, hd, h5, h6]

/-- Settles O56. -/
theorem ramWrites : Obligations.RamWrites := by
  intro s m wd a v hp ha hd h5 h6
  obtain ⟨hist, fresh, ht⟩ := s.memWrite_eq h5 h6 wd a.toNat v
  have rd : ∀ x, (s.memWrite m wd a.toNat v).rdByte x =
      (s.wrBytes a.toNat ((bytesOf v).take (widthBytes wd))).rdByte x := fun x => by rw [ht]; rfl
  refine ⟨s.memWrite m wd a.toNat v, ?_, fun i hi => ?_, fun x hx => ?_, ?_⟩
  · show execRegisterWrite m wd a v s = _
    rw [execRegisterWrite, State.busWrite_ram hp ha hd h5 h6]
  · rw [rd, State.wrBytes_rdByte, if_neg (by omega), Nat.add_sub_cancel_left, getElem?_bytesOf_take, if_pos hi]; rfl
  · rw [rd, State.wrBytes_rdByte, getElem?_bytesOf_take]
    split
    · rfl
    · rw [if_neg (by omega)]; rfl
  · simp [ht]

/-! ## Restarts of counters (R45) -/

theorem State.store_counter (s : State) {b off : Nat} (h : (ctrBit? b off).isSome = true) (v : Word) :
    s.store b off v = s.restartCounter b off := by
  unfold State.store
  cases hr : regAt b off with
  | none => simp [ctrBit?, hr] at h
  | some r => simp [h]

theorem State.restartCounter_rd (s : State) {b off : Nat} (h : off / 4 ≠ ovfOff b / 4) :
    (s.restartCounter b off).rd b off = 0 := by
  unfold State.restartCounter
  cases ctrBit? b off <;> simp [h]

@[simp] theorem State.restartCounter_mem (s : State) (b off : Nat) : (s.restartCounter b off).mem = s.mem := by
  unfold State.restartCounter
  cases ctrBit? b off <;> rfl

/-- An accepted write to a counter of a unit window restarts it. -/
theorem State.unitWrite_counter {s : State} {m w off : Nat} {v : Word} (hc : (ctrBit? w off).isSome = true)
    (hq : kindOf w ≠ .queue) (ha : s.accepts m w off v (s.kindCodes w off v) = true) (h4 : off ≠ 0x004) (lm : Nat) :
    s.unitWrite m lm w off v = s.told m w off v (s.restartCounter w off) := by
  have hroute : ¬ (w = winAnt ∧ s.part.reduced = true ∧ (off = 0x048 ∨ off = 0x04C)) := by
    rintro ⟨rfl, -, rfl | rfl⟩
    · exact absurd hc (by decide)
    · exact absurd hc (by decide)
  simp [State.unitWrite, h4, hroute, hq, State.guarded_accepts s ha, hc, State.store_counter]

theorem accepts_reached {s : State} {m b off : Nat} {v : Word} {extra : List Nat} (h : s.accepts m b off v extra = true) :
    hostLimited s m b = false := by
  simp only [State.accepts, Bool.and_eq_true, Bool.not_eq_true'] at h
  exact h.1.1

section
variable {s : State} {m : Master} {a v : Word} {b off : Nat}

theorem exec_registerWrite_reg (hp : placeAt a.toNat = .reg b off) (ha : a.toNat % 4 = 0) (hm : hostLimited s m b = false) :
    exec (.registerWrite m .b32 a v) s = .next (s.regWrite m m b off v) := by
  show execRegisterWrite m .b32 a v s = _
  rw [execRegisterWrite, State.busWrite_reg hp ha hm]

theorem exec_counterRestart_reg (hp : placeAt a.toNat = .reg b off) (h4 : off % 4 = 0) (ha : a.toNat % 4 = 0)
    (hm : hostLimited s m b = false) (hc : (ctrBit? b off).isSome = true) :
    exec (.counterRestart m a v) s = .next (s.regWrite m m b off v) := by
  show execCounterRestart m a v s = _
  simp [execCounterRestart, busReg_of_reg hp h4, hc, State.busWrite_reg hp ha hm]

theorem exec_peakRestart_reg (hp : placeAt a.toNat = .reg b off) (h4 : off % 4 = 0) (ha : a.toNat % 4 = 0)
    (hk : isPeak b off = true) (hm : hostLimited s m b = false) :
    exec (.peakRestart m a v) s = .next (s.regWrite m m b off v) := by
  show execPeakRestart m a v s = _
  simp [execPeakRestart, busReg_of_reg hp h4, hk, State.busWrite_reg hp ha hm]

end

/-! ## Semaphores (R39, R40) -/

section
variable {s : State} {m : Master} {n : Fin 32} {v : Word}

theorem exec_semRead_free (hm : hostLimited s m blkSys = false) (hn : 9 ≤ s.semOwner n) :
    exec (.semRead m n) s = .next ((s.setSem n m).ans [0]) := by
  show execSemRead m n s = _
  simp [execSemRead, hm, State.semTake, State.semWord, Nat.not_lt.mpr hn]

theorem exec_semRead_held (hm : hostLimited s m blkSys = false) (hn : s.semOwner n < 9) :
    exec (.semRead m n) s = .next (s.ans [w32 (0x80 + s.semOwner n)]) := by
  show execSemRead m n s = _
  simp [execSemRead, hm, State.semTake, State.semWord, hn]

theorem exec_semWrite_release (hm : hostLimited s m blkSys = false) (hn : s.semOwner n = m) :
    exec (.semWrite m n 0) s = .next (s.setSem n 9) := by
  show execSemWrite m n 0 s = _
  simp [execSemWrite, hm, State.semPut, hn]

theorem exec_semWrite_free (hm : hostLimited s m blkSys = false) (hn : 9 ≤ s.semOwner n) :
    exec (.semWrite m n v) s = .next ((s.count blkSys SYS.SEM_VIOLATION_COUNT).raise 30) := by
  show execSemWrite m n v s = _
  simp [execSemWrite, hm, State.semPut, Nat.not_lt.mpr hn]

end

/-- Settles O39: each clause by the equation of its command. -/
theorem busRows : Obligations.BusRows := by
  refine ⟨?registerWrite, ?counterRestart, ?peakRestart, ?lowWordRead, ?semTaken, ?semHeld, ?semReleased, ?semViolated⟩
  case registerWrite => exact fun s m a v b off hp ha hm => exec_registerWrite_reg hp ha hm
  case counterRestart =>
    intro s m a v w off hp h4 ha hw hc hq hacc hoff
    refine ⟨_, exec_counterRestart_reg hp h4 ha (accepts_reached hacc) hc, ?_⟩
    rw [State.regWrite, if_pos hw, State.unitWrite_counter hc hq hacc hoff]
    exact ⟨(State.told_rd s hw (placeAt_reg_lt hp)).trans (State.restartCounter_rd s (ctrBit?_ovf hw hc h4)), by simp⟩
  case peakRestart => exact fun s m a v b off hp h4 ha hk hm => exec_peakRestart_reg hp h4 ha hk hm
  case lowWordRead =>
    intro s m a b off hi hp h4 ha hhi hm hw hr hl hpigeon htwc hasrc hsems
    have h : LowRead s m b off hi := ⟨hhi, hm, hw, hr, hl, hpigeon, htwc, hasrc, hsems⟩
    exact ⟨_, exec_lowWordRead h hp h4 ha, by simp, by simp, by simp, by simp⟩
  case semTaken =>
    intro s m n hm hn
    refine ⟨_, exec_semRead_free hm hn, rfl, by simp, fun k hk => ?_, rfl, rfl⟩
    simp [Fin.val_ne_of_ne hk]
  case semHeld =>
    intro s m n hm hn
    exact ⟨_, exec_semRead_held hm hn, rfl, rfl, rfl, rfl⟩
  case semReleased =>
    rintro s m n v hm hn rfl
    refine ⟨_, exec_semWrite_release hm hn, by simp, fun k hk => ?_, rfl, rfl⟩
    simp [Fin.val_ne_of_ne hk]
  case semViolated =>
    intro s m n v hm hn
    refine ⟨_, exec_semWrite_free hm hn, by simp, ?_, State.raise_event _ 30 (by decide), ?_⟩
    · rw [State.raise_rd, State.count_counted _ _ _ (by decide) (by decide)]
    · exact (Frame.refl0.count (by simp) (by simp) (by simp)).raise

end Sys2Proof.Machine
end

section
/-! PROOF. Semaphores, statistics counters and refused writes (O47, O48, O49, O55). -/

namespace Sys2Proof.Machine

/-! ## Writes that free a semaphore, and violations (R39, R40) -/

section
variable {s : State} {m : Master} {n : Fin 32} {v : Word}

theorem exec_semWrite_frees (hm : hostLimited s m blkSys = false)
    (h : (v = 0 ∧ s.semOwner n = m) ∨ (v = 0xFF ∧ s.semOwner n < 9)) :
    exec (.semWrite m n v) s = .next (s.setSem n 9) := by
  rcases h with ⟨rfl, howner⟩ | ⟨rfl, hheld⟩
  · exact exec_semWrite_release hm howner
  · show execSemWrite m n 0xFF s = _
    simp [execSemWrite, hm, State.semPut, hheld]

theorem exec_semWrite_violates (hm : hostLimited s m blkSys = false)
    (h : ¬((v = 0 ∧ s.semOwner n = m) ∨ (v = 0xFF ∧ s.semOwner n < 9))) :
    exec (.semWrite m n v) s = .next ((s.count blkSys SYS.SEM_VIOLATION_COUNT).raise 30) := by
  have hkept : ¬(decide (s.semOwner n < 9) && ((v == 0 && s.semOwner n == m) || v == 0xFF)) = true := by
    simp only [Bool.and_eq_true, Bool.or_eq_true, decide_eq_true_eq, beq_iff_eq]
    exact fun ⟨hheld, hv⟩ => h (hv.imp_right (⟨·, hheld⟩))
  show execSemWrite m n v s = _
  simp only [execSemWrite, hm, Bool.false_eq_true, if_false, State.semPut, if_neg hkept]

end

/-- Settles O47: the read of a free semaphore writes its owner, and every read of an owned one, by the new owner too,
answers from it. -/
theorem semaphoreReads : Obligations.SemaphoreReads := by
  refine ⟨fun s m n hm hfree => ?taken, fun s m n hm hheld => ⟨_, exec_semRead_held hm hheld, rfl, rfl⟩⟩
  case taken =>
    have howner : ((s.setSem n m).ans [0]).semOwner n = m := by simp
    have hm' : hostLimited ((s.setSem n m).ans [0]) m blkSys = false := (hostLimited_congr rfl rfl m blkSys).trans hm
    refine ⟨_, exec_semRead_free hm hfree, rfl, howner, fun k hk => ?_, _,
      exec_semRead_held hm' (howner.trans_lt m.isLt), ?_, howner⟩
    · simp [Fin.val_ne_of_ne hk]
    · rw [howner]; rfl

/-- Settles O48: a write either frees its semaphore or is a violation, which is counted and latched. -/
theorem semaphoreWrites : Obligations.SemaphoreWrites := by
  refine ⟨fun s m n v hm h => ?frees, fun s m n v hm h => ?violates⟩
  case frees =>
    refine ⟨_, exec_semWrite_frees hm h, by simp, fun k hk => ?_, rfl, rfl⟩
    simp [Fin.val_ne_of_ne hk]
  case violates =>
    refine ⟨_, exec_semWrite_violates hm h, by simp, ?_, (frame_count s _ _).raise⟩
    rw [State.raise_rd, State.count_counted _ _ _ (by decide) (by decide)]

/-! ## Statistics counters at their top (R45) -/

section
variable {s : State} {b bit : Nat} {r : FRef}

theorem State.count_at_top (hv : s.rd b r.off = 0xFFFFFFFF) : s.count b r = s := by
  simp [State.count, hv]

theorem State.count_below_top (htop : s.rd b r.off ≠ 0xFFFFFFFF) (hlast : s.rd b r.off ≠ 0xFFFFFFFE) :
    s.count b r = s.wr b r.off (s.rd b r.off + 1) := by
  have hnext : s.rd b r.off + 1 ≠ 0xFFFFFFFF := by bv_omega
  simp only [State.count, if_neg htop, if_neg hnext]

/-- A counter at its top with its overflow bit set, before its events latch. -/
def State.overflowed (s : State) (b bit : Nat) (r : FRef) : State :=
  let t := s.wr b r.off 0xFFFFFFFF
  t.wr b (ovfOff b) (t.rd b (ovfOff b) ||| (1#32 <<< bit))

/-- The count that reaches the top sets the counter's overflow bit, then raises the window's event and COUNTER_SATURATED. -/
theorem State.count_reaches_top (hc : ctrBit? b r.off = some bit) (hv : s.rd b r.off = 0xFFFFFFFE) :
    s.count b r =
      (if b < 0x400 then (s.overflowed b bit r).raiseKind b evSAT else s.overflowed b bit r).raise 19 := by
  simp [State.count, State.overflowed, hc, hv]

theorem ovfOff_ne_event (b : Nat) : ovfOff b / 4 ≠ 3 := by
  unfold ovfOff
  repeat' split
  all_goals decide

theorem State.overflowed_bit (s : State) (b : Nat) (r : FRef) (hbit : bit < 32) :
    ((s.overflowed b bit r).rd b (ovfOff b)).getLsbD bit = true := by
  simp [State.overflowed, hbit]

theorem State.count_overflow_bit (hc : ctrBit? b r.off = some bit) (hbit : bit < 32) (hv : s.rd b r.off = 0xFFFFFFFE) :
    ((s.count b r).rd b (ovfOff b)).getLsbD bit = true := by
  rw [State.count_reaches_top hc hv, State.raise_rd]
  split
  · rw [State.raiseKind_rd_own _ (ovfOff_ne_event b)]
    exact s.overflowed_bit b r hbit
  · exact s.overflowed_bit b r hbit

theorem State.count_saturated (hc : ctrBit? b r.off = some bit) (hv : s.rd b r.off = 0xFFFFFFFE) :
    (s.count b r).board.latch.getLsbD 19 = true := by
  rw [State.count_reaches_top hc hv]
  exact State.raise_event _ 19 (by decide)

end

/-- Settles O49, by the three ranges of a counter's value: at its top, below the last count, and at the last count. -/
theorem countersSaturate : Obligations.CountersSaturate := by
  refine ⟨fun s b bit r _ hv => State.count_at_top hv, fun s b bit r _ htop hlast => State.count_below_top htop hlast,
    fun s b bit r hc hbit hovf hevent hv => ⟨?_, State.count_overflow_bit hc hbit hv, State.count_saturated hc hv⟩⟩
  rw [State.count_rd s b r hovf hevent, hv]
  decide

/-! ## Refused writes (R50, R517) -/

section
variable {s : State} {m w off c : Nat} {v : Word} {r : RegD}

/-- A write that meets a code, to a register that may be written, is refused with the code picked. -/
theorem State.guarded_refused {extra : List Nat} (hw : w < 0x400) (hp : s.present w = true)
    (hm : hostLimited s m w = false) (hg : s.mirrorsReg m w off = false) (hr : regAt w off = some r)
    (hro : r.readOnly = false) (hc : pickCode (s.commonCodes w off v r ++ extra) = some c) (act : State → State) :
    s.guarded m w off v extra act = s.refuseUnit w c := by
  simp [State.guarded, State.judged, hm, hg, hw, hp, hr, hro, hc]

/-- The write of a unit register passes the common checks and those of its kind, unless it is UNIT_CTL, a queue's
register, or a route that the part does not have. -/
theorem State.unitWrite_refused (hw : w < 0x400) (hp : s.present w = true) (hm : hostLimited s m w = false)
    (hg : s.mirrorsReg m w off = false) (hr : regAt w off = some r) (hro : r.readOnly = false)
    (hq : kindOf w ≠ .queue) (hctl : off ≠ 0x004)
    (hroute : ¬(w = winAnt ∧ s.part.reduced = true ∧ (off = 0x048 ∨ off = 0x04C)))
    (hc : pickCode (s.commonCodes w off v r ++ s.kindCodes w off v) = some c) (lm : Nat) :
    s.unitWrite m lm w off v = s.refuseUnit w c := by
  have hguard := State.guarded_refused hw hp hm hg hr hro hc
  simp [State.unitWrite, hctl, hroute, hq, hguard]

/-- While fewer than 256 refusals stand in the sliding second, a refusal declares no fault (R479): beside the code, the
unit's list of refusals alone changes. -/
theorem State.refuseUnit_quiet (hn : (s.unit w).refusals.length < 256) (c : Nat) :
    ∃ x, s.refuseUnit w c = (s.setErr w c).setUnit w x := by
  have hkept : ¬ 256 < ((s.unit w).refusals.filter (fun t => s.clock.uptime < t + secondTicks)
      ++ [s.clock.uptime]).length := by
    have := List.length_filter_le (fun t => decide (s.clock.uptime < t + secondTicks)) (s.unit w).refusals
    simp only [List.length_append, List.length_singleton]
    omega
  simp only [State.refuseUnit, State.setErr_unit, State.setErr_clock, if_neg fun h => hkept (And.left h)]
  exact ⟨_, rfl⟩

theorem State.unitWrite_route (hw : w = winAnt) (hpart : s.part.reduced = true) (ho : off = 0x048 ∨ off = 0x04C)
    (lm : Nat) : s.unitWrite m lm w off v = s := by
  have hctl : off ≠ 0x004 := by omega
  simp [State.unitWrite, hctl, hw, hpart, ho]

end

theorem State.setErr_code (s : State) (w : Nat) {c : Nat} (hc : c < 65536) : (s.setErr w c).fld w UCB.UNIT_ERR_CODE = c :=
  (State.setErr_fld s w c).trans (Nat.mod_eq_of_lt hc)

/-- The kind-specific registers stand behind the unit control block, where a code and its event are recorded. -/
theorem State.setErr_rd_kind (s : State) (w c : Nat) {o : Nat} (ho : 0x040 ≤ o) : (s.setErr w c).rd w o = s.rd w o := by
  have hcode : UCB.UNIT_ERR_CODE.off / 4 = 9 := rfl
  exact State.setErr_rd_own s (by omega) (by omega)

/-- Settles O55: a refusal records its code in the unit control block and nothing else that can be read; a route that the
part does not have is passed over. -/
theorem refusedWrites : Obligations.RefusedWrites := by
  refine ⟨?refused, ?route⟩
  case refused =>
    intro s m a v w off c r ha h4 _ hw hp hm hg hr hro hq ho hc hroute hn hpick
    obtain ⟨x, hx⟩ := State.refuseUnit_quiet hn c
    have hwrite : s.regWrite m m w off v = (s.setErr w c).setUnit w x := by
      rw [State.regWrite, if_pos hw, State.unitWrite_refused hw hp hm hg hr hro hq (by omega) hroute hpick, hx]
    refine ⟨(s.setErr w c).setUnit w x, (exec_registerWrite_reg ha h4 hm).trans (by rw [hwrite]), ?_, ?_,
      fun o hlo _ => ?_, ?_⟩
    · rw [State.setUnit_fld, State.setErr_code s w hc]
    · rw [State.setUnit_rd, State.setErr_event]
    · rw [State.setUnit_rd, State.setErr_rd_kind s w c hlo]
    · rw [State.setUnit_mem, State.setErr_mem]
  case route =>
    intro s m a v off ha h4 hpart ho hm _
    rw [exec_registerWrite_reg ha h4 hm, State.regWrite, if_pos (by decide), State.unitWrite_route rfl hpart ho]

end Sys2Proof.Machine
end

section
/-! PROOF. The STATE that UNIT_STATUS shows, the unit control commands, and the Manifest loader (O53, O20, O29). -/

namespace Sys2Proof.Machine

/-! ## UNIT_STATUS (R56) -/

section
variable {s : State} {m b off : Nat}

/-- No 64-bit register has its low word at offset 0x004 of a window or block. -/
theorem hiOf_unitCtl (b : Nat) : hiOf b 0x004 = none := by
  unfold hiOf
  split <;> simp

theorem loOf_unitStatus (b : Nat) : loOf b 0x008 = none := by
  unfold loOf
  split <;> simp [hiOf_unitCtl]

theorem latchShown_unitStatus (b : Nat) : latchShown b 0x008 = false := by
  simp [latchShown, loOf_unitStatus, ASRC.OUT_COUNT, ASRC.DISCARD_COUNT]

/-- A register of which the reader has latched nothing shows what it holds. -/
theorem State.regWord_live (hm : hostLimited s m b = false) (hw : b < 0x400 → s.present b = true)
    (hr : (regAt b off).isSome = true) (hl : latchShown b off = false) (hfill : off ≠ ASRC.ASRC_STATUS_FILL.off)
    (lm : Nat) : s.regWord m lm b off = s.liveRead m b off := by
  rw [State.regWord, readAnswered hm hw hr]
  simp [hl, hfill]

theorem State.liveRead_unitStatus (s : State) (m : Nat) {w : Nat} (hw : w < 0x400) :
    s.liveRead m w 0x008 = s.unitStatus w := by
  simp [State.liveRead, hw, State.unitRead, State.ucbRead]

/-- The bits of UNIT_STATUS above STATE do not reach into it. -/
theorem State.unitStatus_state (s : State) (w : Nat) : UCB.UNIT_STATUS_STATE.of (s.unitStatus w) = s.stateOf w % 8 := by
  simp only [FRef.of, UCB.UNIT_STATUS_STATE, State.unitStatus, w32, BitVec.toNat_ofNat]
  omega

theorem State.stateOf_unit {w : Nat} (h : s.isComposite w = false) : s.stateOf w = s.atomState w := by
  simp [State.stateOf, h]

/-- The rows of R56 for a unit that no stopping port keeps from IDLE. -/
theorem State.atomState_rows {w : Nat} (h : s.portStopping w = false) :
    s.atomState w =
      if (s.unit w).selfFail = true then stFAULT
      else if (s.unit w).safe = true then stSAFE
      else if s.flag w UCB.UNIT_CTL_ENABLE = false then stOFF
      else if s.flag w UCB.UNIT_CTL_RUN = false then stIDLE
      else if s.flag w UCB.UNIT_CTL_HOLD = true ∨ s.innerHeld w = true then stHOLD
      else if s.validBit w = false then stWARM
      else stRUN := by
  simp [State.atomState, h]

/-- The code of every state fits into the three bits of STATE. -/
theorem State.atomState_lt (s : State) (w : Nat) : s.atomState w < 8 := by
  unfold State.atomState
  dsimp only
  repeat' split
  all_goals decide

end

/-- Settles O53: what a reader gets is the live word, whose STATE is the unit's row. -/
theorem unitStates : Obligations.UnitStates := by
  intro s m w hp hc hm hr hstop
  have hread : s.regWord m m w 0x008 = s.unitStatus w := by
    rw [State.regWord_live hm (fun _ => hp) hr (latchShown_unitStatus w) (by decide),
      State.liveRead_unitStatus s m w.isLt]
  rw [hread, State.unitStatus_state, State.stateOf_unit hc, Nat.mod_eq_of_lt (s.atomState_lt w),
    State.atomState_rows hstop]
  rfl

/-! ## Unit control (R58–R63) -/

/-- An accepted UNIT_CTL write does what its word asks, with the triggers that wait for a VALID it sets. -/
theorem State.writeCtl_accepts {s : State} {m w : Nat} {v : Word} (h : s.accepts m w 0x004 v (s.ctlCodes w v) = true) :
    s.writeCtl m w v = s.told m w 0x004 v (s.triggered (fun u => u.ctl w v)) :=
  State.guarded_accepts s h

/-- Which windows are composites hangs on their numbers alone (R53). -/
theorem isComposite_congr (s t : State) (w : Nat) : t.isComposite w = s.isComposite w := rfl

section
variable {s : State} {m w : Nat} {v : Word}

theorem State.ctl_unit (hw : s.isComposite w = false) (u : State) :
    u.ctl w v = if u.busyOf w then u.defer w v else u.ctlNow w v := by
  simp [State.ctl, isComposite_congr s u, hw]

theorem State.ctl_composite (hw : s.isComposite w = true) (u : State) :
    u.ctl w v = if u.busyOf w then u.defer w v else u.fanOut w v := by
  simp [State.ctl, isComposite_congr s u, hw]

theorem State.writeCtl_unit (hw : s.isComposite w = false) (h : s.accepts m w 0x004 v (s.ctlCodes w v) = true) :
    s.writeCtl m w v =
      s.told m w 0x004 v (s.triggered (fun u => if u.busyOf w then u.defer w v else u.ctlNow w v)) := by
  simp only [State.writeCtl_accepts h, State.ctl_unit hw]

theorem State.writeCtl_composite (hw : s.isComposite w = true) (h : s.accepts m w 0x004 v (s.ctlCodes w v) = true) :
    s.writeCtl m w v =
      s.told m w 0x004 v (s.triggered (fun u => if u.busyOf w then u.defer w v else u.fanOut w v)) := by
  simp only [State.writeCtl_accepts h, State.ctl_composite hw]

end

theorem State.boundary_takes {s : State} {w : Nat} (hbusy : (s.unit w).applyBusy = true)
    (htaken : (s.takeStaged w).2 = true) : s.boundary w = (s.takeStaged w).1.applyDone w := by
  simp [State.boundary, hbusy, htaken]

theorem exec_unitCtlDeferred_idle {s : State} {w : Fin 1024} {v : Word} (hkept : (s.unit w).deferred = some v)
    (hidle : s.busyOf w = false) :
    exec (.unitCtlDeferred w) s =
      .next ((s.setUnit w { s.unit w with deferred := none }).triggered (fun u => u.ctl w v)) := by
  show execUnitCtlDeferred w s = _
  simp [execUnitCtlDeferred, hkept, hidle]

/-- Settles O20: the five writes are one, and differ in the bit that they set and in the window that takes them. -/
theorem unitRows : Obligations.UnitRows :=
  ⟨fun _ _ _ _ hunit h => congrArg Host.Outcome.next (State.writeCtl_unit hunit h),
    fun _ _ _ _ hcomp h => congrArg Host.Outcome.next (State.writeCtl_composite hcomp h),
    fun _ _ _ _ h => congrArg Host.Outcome.next (State.writeCtl_accepts h),
    fun _ _ _ _ h => congrArg Host.Outcome.next (State.writeCtl_accepts h),
    fun _ _ _ _ h => congrArg Host.Outcome.next (State.writeCtl_accepts h),
    fun _ _ hbusy htaken => congrArg Host.Outcome.next (State.boundary_takes hbusy htaken),
    fun _ _ _ hkept hidle => exec_unitCtlDeferred_idle hkept hidle,
    fun _ => rfl⟩

/-! ## The Manifest loader (R78–R86) -/

section
variable {s : State} {ph : Fin 8} {tag : BitVec 8} {j : JobX}

section
variable {addr len : Word} {f : MFail}

theorem exec_mfApply_good (h : s.serves ph 0x10 = true) (hj : s.tree.job = none)
    (hgood : (s.heard ph).mfCheck addr.toNat len.toNat = none) :
    exec (.mfApply ph tag addr len) s = .next (
      let im := (s.heard ph).stagedImage addr.toNat len.toNat
      ((s.heard ph).mirrorMsg 1 (0x10 :: im.map w32)).startJob
        ⟨0x10, ph, tag.toNat, hw im 3, mfSlotOf addr.toNat, im, false, false, false, false⟩) := by
  show execMfApply ph tag addr len s = _
  simp only [execMfApply, State.loaderServe_serves s h hj, hgood]

theorem exec_mfApply_bad (h : s.serves ph 0x10 = true) (hj : s.tree.job = none)
    (hbad : (s.heard ph).mfCheck addr.toNat len.toNat = some f) :
    exec (.mfApply ph tag addr len) s = .next ((s.heard ph).mfReject ph 0x10 tag.toNat f) := by
  show execMfApply ph tag addr len s = _
  simp only [execMfApply, State.loaderServe_serves s h hj, hbad]

theorem exec_mfValidate_good (h : s.serves ph 0x11 = true) (hj : s.tree.job = none)
    (hgood : (s.heard ph).mfCheck addr.toNat len.toNat = none) :
    exec (.mfValidate ph tag addr len) s = .next (((s.heard ph).mfResult mfGood).mfReply ph 0x11 tag.toNat mfGood) := by
  show execMfValidate ph tag addr len s = _
  simp only [execMfValidate, State.loaderServe_serves s h hj, hgood]

theorem exec_mfValidate_bad (h : s.serves ph 0x11 = true) (hj : s.tree.job = none)
    (hbad : (s.heard ph).mfCheck addr.toNat len.toNat = some f) :
    exec (.mfValidate ph tag addr len) s = .next ((s.heard ph).mfReject ph 0x11 tag.toNat f) := by
  show execMfValidate ph tag addr len s = _
  simp only [execMfValidate, State.loaderServe_serves s h hj, hbad]

end

section
variable {win : Word}

theorem exec_mfRemove_starts (h : s.serves ph 0x12 = true) (hj : s.tree.job = none)
    (hcomp : ((s.heard ph).comp? win.toNat).isSome = true) (hfree : (s.heard ph).drivesOutside win.toNat = false) :
    exec (.mfRemove ph tag win) s = .next (
      ((s.heard ph).mirrorMsg 1 [0x12, win]).startJob
        ⟨0x12, ph, tag.toNat, win.toNat, 0xFF, [], false, false, false, false⟩) := by
  have hfound : (s.heard ph).comp? win.toNat ≠ none := Option.isSome_iff_ne_none.mp hcomp
  show execMfRemove ph tag win s = _
  simp [execMfRemove, State.loaderServe_serves s h hj, hfound, hfree]

theorem exec_mfRemove_missing (h : s.serves ph 0x12 = true) (hj : s.tree.job = none)
    (hcomp : (s.heard ph).comp? win.toNat = none) :
    exec (.mfRemove ph tag win) s = .next (
      ((s.heard ph).mfResult (mfCode 0x0124)).mfReply ph 0x12 tag.toNat (mfCode 0x0124)) := by
  show execMfRemove ph tag win s = _
  simp [execMfRemove, State.loaderServe_serves s h hj, hcomp]

end

/-- The commit point of a removal. -/
theorem exec_mfAmendCommit_remove (hj : s.tree.job = some j) (htarget : j.target ≠ 0) (hopen : j.committed = false)
    (hheld : j.held = true) (hop : j.opcode = 0x12) :
    exec .mfAmendCommit s = .next (
      let u := s.commitRemove j.target
      { u with tree := { u.tree with job := some { j with committed := true } } }) := by
  show execMfAmendCommit s = _
  simp [execMfAmendCommit, hj, htarget, hopen, hheld, hop]

theorem exec_mfAmendComplete_committed (hj : s.tree.job = some j) (htarget : j.target ≠ 0)
    (hcommitted : j.committed = true) :
    exec .mfAmendComplete s = .next (((s.markMembers j.target false).endJob j).fireAtEnd) := by
  show execMfAmendComplete s = _
  simp [execMfAmendComplete, hj, htarget, hcommitted]

theorem exec_mfLoadComplete_held (hj : s.tree.job = some j) (htarget : j.target = 0) (hop : j.opcode = 0x10)
    (hheld : j.held = true) : exec .mfLoadComplete s = .next (s.allOff.loadFull j) := by
  show execMfLoadComplete s = _
  simp [execMfLoadComplete, hj, htarget, hop, hheld]

theorem exec_mfTrigger_serves {a : Word} (h : s.serves ph 0x13 = true) :
    exec (.mfTrigger ph tag a) s = .next (
      ((((s.heard ph).mirrorMsg 1 [0x13, a]).triggered (fun u => u.fire (fun x =>
        x.cond == 4 && x.arg0.toNat % 256 == a.toNat % 256))).mfResult mfGood).mfReply ph 0x13 tag.toNat mfGood) := by
  show execMfTrigger ph tag a s = _
  rw [execMfTrigger, State.serve_serves s h]

theorem exec_triggerEpochReached_pending {w : Fin 1024} {x : TriggerX}
    (hx : s.tree.triggers.find? (fun x => x.win == w.val && x.cond == 1) = some x) :
    exec (.triggerEpochReached w) s = .next (
      (s.advanceTo (x.arg1 ++ x.arg0)).triggered (fun u => u.fire (fun y => y == x))) := by
  show execTriggerEpochReached w s = _
  simp only [execTriggerEpochReached, hx]

end

/-- Settles O29: each clause by the equation of its command. -/
theorem loader : Obligations.Loader :=
  ⟨fun _ _ _ _ _ h hj hgood => exec_mfApply_good h hj hgood,
    fun _ _ _ _ _ _ h hj hbad => exec_mfApply_bad h hj hbad,
    fun _ _ _ _ _ h hj hgood => exec_mfValidate_good h hj hgood,
    fun _ _ _ _ _ _ h hj hbad => exec_mfValidate_bad h hj hbad,
    fun _ _ _ _ h hj hcomp hfree => exec_mfRemove_starts h hj hcomp hfree,
    fun _ _ _ _ h hj hcomp => exec_mfRemove_missing h hj hcomp,
    fun _ _ hj htarget hopen hheld hop => exec_mfAmendCommit_remove hj htarget hopen hheld hop,
    fun _ _ hj htarget hcommitted => exec_mfAmendComplete_committed hj htarget hcommitted,
    fun _ _ hj htarget hop hheld => exec_mfLoadComplete_held hj htarget hop hheld,
    fun _ _ _ _ h => exec_mfTrigger_serves h,
    fun _ _ _ hx => exec_triggerEpochReached_pending hx⟩

end Sys2Proof.Machine
end

section
/-! PROOF. Overloads, aerial switches and the AGC of a front end (O6). -/

namespace Sys2Proof.Machine

/-! ## Overload (R105, R106) -/

/-- What an overload block leaves before any gain step. -/
def State.overloaded (s : State) (f : Nat) : State :=
  ((s.putB f FE.FE_STATUS_OVERLOAD true).count f FE.OVERLOAD_COUNT).raiseKind f evFEOverload

section
variable (s : State) {f : Nat}

theorem State.overloaded_flag (hf : f < 0x400) : (s.overloaded f).flag f FE.FE_STATUS_OVERLOAD = true := by
  rw [State.overloaded, State.raiseKind_flag_reg _ _ _ _ (by decide),
    State.count_flag_own _ hf (by decide) (by decide) (by decide), State.putB_flag _ _ (by decide) rfl]

theorem State.overloaded_count (hf : f < 0x400) :
    (s.overloaded f).rd f FE.OVERLOAD_COUNT.off = counted (s.rd f FE.OVERLOAD_COUNT.off) := by
  rw [State.overloaded, State.raiseKind_rd_own _ (by decide), State.count_rd_own _ hf (by decide) (by decide),
    State.putB_rd_reg _ _ _ (by decide)]

theorem State.overloaded_event (f : Nat) : ((s.overloaded f).rd f 0x00C).getLsbD evFEOverload = true :=
  State.raiseKind_event _ _ _ (by decide)

theorem frame_overloaded (hf : f < 0x400) :
    Frame [(f, FE.FE_STATUS_OVERLOAD.off), (f, 0x00C), (f, FE.OVERLOAD_COUNT.off), (f, 0x028)] s (s.overloaded f) :=
  ((Frame.refl0.putB (by simp)).count (by simp) (by simp [ovfOff_window hf]) (by simp)).raiseKind (by simp)

end

section
variable {s : State} {fe : Fin 5}

/-- A block with enough clipped samples is an overload, and steps the gain in mode 1 alone. -/
theorem exec_overloadBlock_clipped {xs : List (Int × Int)} (hp : s.present (feWin fe) = true)
    (hpow : s.fePowered (feWin fe) = true)
    (hclip : s.fld (feWin fe) FE.OVL_CTL_CLIP_THRESH ≤ ((xs.take 256).filter (clips (feWin fe))).length) :
    exec (.overloadBlock fe xs) s = .next (
      if s.fld (feWin fe) FE.AGC_CTL_MODE = 1 then (s.overloaded (feWin fe)).gainOrWait (feWin fe) 3
      else s.overloaded (feWin fe)) := by
  show execOverloadBlock fe xs s = _
  simp only [execOverloadBlock, hp, hpow, hclip, decide_true, Bool.and_self, if_true]
  rfl

theorem exec_overloadClear_overloaded (h : s.flag (feWin fe) FE.FE_STATUS_OVERLOAD = true) :
    exec (.overloadClear fe) s = .next (
      ((s.putB (feWin fe) FE.FE_STATUS_OVERLOAD false).putB (feWin fe) FE.FE_STATUS_OVL_STUCK false).endFault
        (fun g => g.code == 0x0406 && g.win == feWin fe)) := by
  show execOverloadClear fe s = _
  simp only [execOverloadClear, h, if_true]

theorem exec_ovlStuck_atMax (h : s.flag (feWin fe) FE.FE_STATUS_OVERLOAD = true)
    (hstuck : s.flag (feWin fe) FE.FE_STATUS_OVL_STUCK = false)
    (hmax : s.fld (feWin fe) FE.FE_STATUS_GAIN_INDEX = s.fld (feWin fe) FE.AGC_CTL_MAX_INDEX) :
    exec (.ovlStuck fe) s = .next (
      ((s.putB (feWin fe) FE.FE_STATUS_OVL_STUCK true).raiseKind (feWin fe) evFEStuck).declare
        ⟨0, 0x0406, feWin fe, 0⟩ true) := by
  show execOvlStuck fe s = _
  simp [execOvlStuck, h, hstuck, hmax]

end

/-! ## Diversity (R108, R109) -/

section
variable {s : State} {fe : Fin 4}

/-- The quality index stands HYST_DB × 4 or more below its value before the switch, and no seam takes this sample. -/
theorem exec_divReturnCheck_returns (hret : s.ax (feWin fe) axFeReturn = 1)
    (hq : s.qualityOf (s.fld (feWin fe) FE.DIV_CTL_REF_WINDOW) + 4 * s.fld (feWin fe) FE.DIV_CTL_HYST_DB ≤
      s.ax (feWin fe) axFeBefore)
    (hseam : s.seamNow (feWin fe) = false) :
    exec (.divReturnCheck fe) s = .next (
      ((s.setAx (feWin fe) axFeReturn 0).switchInput (feWin fe) (!s.flag (feWin fe) FE.FE_STATUS_ON_B)).count
        (feWin fe) FE.DIV_RETURN_COUNT) := by
  show execDivReturnCheck fe s = _
  simp [execDivReturnCheck, hret, hq, hseam, State.divBack]

theorem exec_divReturnCheck_stays (hret : s.ax (feWin fe) axFeReturn = 1)
    (hq : s.ax (feWin fe) axFeBefore <
      s.qualityOf (s.fld (feWin fe) FE.DIV_CTL_REF_WINDOW) + 4 * s.fld (feWin fe) FE.DIV_CTL_HYST_DB) :
    exec (.divReturnCheck fe) s = .next (s.setAx (feWin fe) axFeReturn 0) := by
  show execDivReturnCheck fe s = _
  simp [execDivReturnCheck, hret, Nat.not_le.mpr hq]

/-- What a switch in the engine's window leaves before a probe is counted. -/
def State.windowSwitched (s : State) (f : Nat) : State :=
  (((s.setAx f axFeRequest 0).setAx (s.fld f FE.DIV_CTL_REF_WINDOW) axOfdmProbe 0).switchInput f
    (decide (s.ax f axFeRequest = 2))).count f FE.DIV_SWITCH_COUNT

theorem exec_divWindowSwitch_switches (hreq : s.ax (feWin fe) axFeRequest ≠ 0)
    (hmode : s.fld (feWin fe) FE.DIV_CTL_MODE = 2) (hseam : s.seamDue (feWin fe) = false)
    (hother : s.flag (feWin fe) FE.FE_STATUS_ON_B ≠ decide (s.ax (feWin fe) axFeRequest = 2)) :
    exec (.divWindowSwitch fe) s = .next (
      if s.ax (s.fld (feWin fe) FE.DIV_CTL_REF_WINDOW) axOfdmProbe = 1 then
        ((s.windowSwitched (feWin fe)).count (s.fld (feWin fe) FE.DIV_CTL_REF_WINDOW) OFDM.DIV_PROBE_COUNT).put
          (s.fld (feWin fe) FE.DIV_CTL_REF_WINDOW) OFDM.OFDM_STATUS_PROBING 1
      else s.windowSwitched (feWin fe)) := by
  have htaken : s.ax (feWin fe) axFeRequest ≠ 0 ∧ s.fld (feWin fe) FE.DIV_CTL_MODE = 2 ∧
      (!s.seamDue (feWin fe)) = true := ⟨hreq, hmode, by simp [hseam]⟩
  show execDivWindowSwitch fe s = _
  simp only [execDivWindowSwitch, if_pos htaken, if_neg hother.symm]
  rfl

end

/-! ## The AGC's blocks (R101, R103, R114) -/

/-- A row's effect that answers a next state, with the triggers that wait for a VALID it sets. -/
theorem State.fires_next {s t : State} {f : State → Out} (h : f s = .next t) : s.fires f = .next (s.firing t) := by
  simp only [State.fires, State.triggered, h, stateOr, State.firing]

/-- What a block of mean power `level` records when it does not lie below target: the levels, the blocks since the last
step, and no run of blocks below target. -/
def State.agcMeasured (v : State) (f : Nat) (level : Int) : State :=
  (((v.putI f FE.LEVEL_ADC_DBFS level).putI f FE.LEVEL_INPUT_DBM (inputDbm f level (v.attenNow f))).setAx f axFeSince
    (v.ax f axFeSince + 1)).setAx f axFeRun 0

/-- After a step at MIN_INDEX the level counts as met, and VALID may follow. -/
def State.agcStepped (u : State) (f : Nat) : State :=
  (if u.fld f FE.FE_STATUS_GAIN_INDEX = u.fld f FE.AGC_CTL_MIN_INDEX then u.setAx f axFeMet 1 else u).feCheck f

section
variable {s v : State} {fe : Fin 5} {level : Int}

/-- A block whose level lies within HYST of the target meets it. -/
theorem exec_agcBlock_inBand {co : Coincide} (hp : s.present (feWin fe) = true) (hpow : s.fePowered (feWin fe) = true)
    (hv : v = (s.owedStep (feWin fe) co).offsetBlock (feWin fe))
    (hlo : -(v.fld (feWin fe) FE.AGC_TIMING_TARGET : Int) - 2 * (v.fld (feWin fe) FE.AGC_TIMING_HYST : Int) ≤ level)
    (hhi : level ≤ -(v.fld (feWin fe) FE.AGC_TIMING_TARGET : Int) + 2 * (v.fld (feWin fe) FE.AGC_TIMING_HYST : Int)) :
    exec (.agcBlock fe level co) s =
      .next (s.firing (((v.agcMeasured (feWin fe) level).setAx (feWin fe) axFeMet 1).feCheck (feWin fe))) := by
  have hblock : atAgcBlock fe level co s =
      .next (((v.agcMeasured (feWin fe) level).setAx (feWin fe) axFeMet 1).feCheck (feWin fe)) := by
    simp [atAgcBlock, hp, hpow, ← hv, Int.not_lt.mpr hlo, Int.not_lt.mpr hhi, State.agcMeasured]
  exact State.fires_next hblock

/-- A block above target moves the entry one index up where ATTACK_US has passed since the last step. -/
theorem exec_agcBlock_attack (hp : s.present (feWin fe) = true) (hpow : s.fePowered (feWin fe) = true)
    (howed : s.ax (feWin fe) axFeOwed = 0) (hv : v = (s.owedStep (feWin fe) .alone).offsetBlock (feWin fe))
    (hmode : v.fld (feWin fe) FE.AGC_CTL_MODE = 1)
    (habove : -(v.fld (feWin fe) FE.AGC_TIMING_TARGET : Int) + 2 * (v.fld (feWin fe) FE.AGC_TIMING_HYST : Int) < level)
    (hroom : v.fld (feWin fe) FE.FE_STATUS_GAIN_INDEX < v.fld (feWin fe) FE.AGC_CTL_MAX_INDEX)
    (hlast : blocksLast (feWin fe) (v.ax (feWin fe) axFeSince + 1) (v.fld (feWin fe) FE.AGC_TIMING_ATTACK_US) = true) :
    exec (.agcBlock fe level .alone) s = .next (s.firing
      ((((v.agcMeasured (feWin fe) level).gainOrWait (feWin fe) 1).setAx (feWin fe) axFeSince 0).agcStepped
        (feWin fe))) := by
  have hbelow : ¬ level <
      -(v.fld (feWin fe) FE.AGC_TIMING_TARGET : Int) - 2 * (v.fld (feWin fe) FE.AGC_TIMING_HYST : Int) := by omega
  have hblock : atAgcBlock fe level .alone s = .next
      ((((v.agcMeasured (feWin fe) level).gainOrWait (feWin fe) 1).setAx (feWin fe) axFeSince 0).agcStepped
        (feWin fe)) := by
    simp only [atAgcBlock, hp, hpow, ← hv, howed, hmode, habove, hbelow, hroom, hlast, decide_true, decide_false,
      beq_self_eq_true, Bool.and_self, Bool.not_true, Bool.not_false, Bool.false_and, Bool.true_and, Bool.false_or,
      Bool.false_eq_true, if_false, beq_iff_eq]
    rfl
  exact State.fires_next hblock

end

/-- What the end of a run of blocks below target does to the gain: a step down, put off where it falls on an aerial
switch, and none beside an overload step (R101, R111). -/
def State.decayStep (s : State) (f : Nat) : Coincide → State
  | .overload => s
  | .aerialSwitch => s.setAx f axFeOwed 2
  | .alone => s.gainOrWait f 2

theorem exec_agcDecayStep_due {s : State} {fe : Fin 5} (co : Coincide) (hp : s.present (feWin fe) = true)
    (hpow : s.fePowered (feWin fe) = true) (hmode : s.fld (feWin fe) FE.AGC_CTL_MODE = 1)
    (hlast : blocksLast (feWin fe) (s.ax (feWin fe) axFeRun) (1000 * s.fld (feWin fe) FE.AGC_TIMING_DECAY_MS) = true) :
    exec (.agcDecayStep fe co) s = .next (s.firing
      (((s.decayStep (feWin fe) co).setAx (feWin fe) axFeRun 0).agcStepped (feWin fe))) := by
  have hstep : atAgcDecayStep fe co s =
      .next (((s.decayStep (feWin fe) co).setAx (feWin fe) axFeRun 0).agcStepped (feWin fe)) := by
    simp only [atAgcDecayStep, hp, hpow, hmode, hlast, beq_self_eq_true, Bool.and_self, if_true]
    cases co <;> rfl
  exact State.fires_next hstep

/-- Settles O6: each clause by the equation of its command; the overload, the window switch and the decay step each have
one equation for their two clauses. -/
theorem frontEndEvents : Obligations.FrontEndEvents := by
  refine ⟨?overload, ?overloadStep, fun s fe h => exec_overloadClear_overloaded h,
    fun s fe h hstuck hmax => exec_ovlStuck_atMax h hstuck hmax,
    fun s fe hret hq hseam => exec_divReturnCheck_returns hret hq hseam,
    fun s fe hret hq => exec_divReturnCheck_stays hret hq, ?windowSwitch, ?probe,
    fun s fe level co v hp hpow hv hlo hhi => exec_agcBlock_inBand hp hpow hv hlo hhi,
    fun s fe level v hp hpow howed hv hmode habove hroom hlast =>
      exec_agcBlock_attack hp hpow howed hv hmode habove hroom hlast,
    fun s fe hp hpow hmode hlast => exec_agcDecayStep_due .alone hp hpow hmode hlast,
    fun s fe hp hpow hmode hlast => exec_agcDecayStep_due .aerialSwitch hp hpow hmode hlast⟩
  case overload =>
    intro s fe xs hp hpow hclip hmode
    have hf := feWin_lt fe
    refine ⟨s.overloaded (feWin fe), ?_, s.overloaded_flag hf, s.overloaded_count hf, s.overloaded_event _,
      frame_overloaded s hf⟩
    rw [exec_overloadBlock_clipped hp hpow hclip, if_neg hmode]
  case overloadStep =>
    intro s fe xs hp hpow hclip hmode
    rw [exec_overloadBlock_clipped hp hpow hclip, if_pos hmode]
    rfl
  case windowSwitch =>
    intro s fe hreq hmode hseam hother hprobe
    rw [exec_divWindowSwitch_switches hreq hmode hseam hother, if_neg hprobe]
    rfl
  case probe =>
    intro s fe hreq hmode hseam hother hprobe
    rw [exec_divWindowSwitch_switches hreq hmode hseam hother, if_pos hprobe]
    rfl

end Sys2Proof.Machine
end

section
/-! PROOF. Local oscillators, the steps of calibration runs, and the commands that ask for them (O7, O8). -/

namespace Sys2Proof.Machine

/-! ## What a synthesiser's VALID leaves of the hidden slots

No unit takes its input from a LO_SYNTH, so VALID of a twin settles that twin alone, and of the hidden counts only those
below slot 32 may be cleared with its history. -/

theorem Store.get_dropRange_outside {α : Type} (d : Nat → α) {a b k : Nat} (h : ¬ (a ≤ k ∧ k < b)) (m : Table α) :
    Store.get d (Store.dropRange a b m) k = Store.get d m k := by
  induction m with
  | nil => rfl
  | cons q m ih =>
    obtain ⟨j, v⟩ := q
    by_cases hj : a ≤ j ∧ j < b
    · have hne : j ≠ k := fun e => h (e ▸ hj)
      simp [Store.dropRange, hj, Store.get, hne, ih]
    · simp [Store.dropRange, hj, Store.get, ih]

section
variable (s : State) {l j : Nat}

theorem State.clearHistory_ax (w v : Nat) (hj : 32 ≤ j) (hj' : j < 64) : (s.clearHistory w).ax v j = s.ax v j :=
  Store.get_dropRange_outside _ (by omega) _

@[simp] theorem State.noteStatus_ax (old : Nat × Bool) (w v j : Nat) : (s.noteStatus old w).ax v j = s.ax v j := by
  unfold State.noteStatus
  dsimp only
  repeat' split
  all_goals simp

theorem State.foldl_noteStatus_ax (ps : List (Nat × Nat × Bool)) (v j : Nat) (s : State) :
    (ps.foldl (fun t p => t.noteStatus p.2 p.1) s).ax v j = s.ax v j := by
  induction ps generalizing s with
  | nil => rfl
  | cons p ps ih => simp [ih]

theorem State.affected_loSynth (hl : kindOf l = .loSynth) : s.affected l = [l] := by
  simp [State.affected, State.affectedFuel, State.dependents, hl]

theorem State.settle_ax_loSynth (hl : kindOf l = .loSynth) (old v : Nat) (hj : 32 ≤ j) (hj' : j < 64) :
    (State.settle old l s).ax v j = s.ax v j := by
  unfold State.settle
  simp only [hl, State.resetHook, State.stateHook, warms, Bool.false_and, Bool.false_eq_true, if_false, ite_self,
    reduceCtorEq]
  split
  · rfl
  · split
    · rw [State.clearHistory_ax _ _ _ hj hj']
      split <;> rfl
    · split <;> rfl

theorem State.setValid_ax_loSynth (hl : kindOf l = .loSynth) (b : Bool) (v : Nat) (hj : 32 ≤ j) (hj' : j < 64) :
    (s.setValid l b).ax v j = s.ax v j := by
  simp [State.setValid, State.watch, hl, State.affected_loSynth, dedup, State.foldl_noteStatus_ax,
    State.settle_ax_loSynth _ hl _ _ hj hj']

theorem State.loCheck_ax (hl : kindOf l = .loSynth) (v : Nat) (hj : 32 ≤ j) (hj' : j < 64) :
    (s.loCheck l).ax v j = s.ax v j := by
  unfold State.loCheck
  dsimp only
  split
  · rfl
  · exact s.setValid_ax_loSynth hl _ v hj hj'

/-! ## The start-up calibration (R130) -/

/-- A twin whose start-up calibration succeeds counts no failure. -/
theorem State.startTwin_ok_ax (hl : kindOf l = .loSynth) (p : Nat) (quads dco : List Int) (v : Nat) (hj : 32 ≤ j)
    (hj' : j < 64) : (s.startTwin p l true quads dco).ax v j = s.ax v j := by
  simp [State.startTwin, State.loValues, State.loCheck_ax _ hl v hj hj']

theorem State.trimsIn_ax (f : Nat) (xs : List Int) (v j : Nat) : (s.trimsIn f xs).ax v j = s.ax v j := by
  induction s, xs using State.trimsIn.induct (f := f) with
  | case1 s i c e g r ih => simp [State.trimsIn, ih]
  | case2 s xs hshort => rw [State.trimsIn]; simpa using hshort

@[simp] theorem State.seamTrims_ax (f v j : Nat) : (s.seamTrims f).ax v j = s.ax v j := by
  simp [State.seamTrims, State.trimsIn_ax]

end

theorem kindOf_pairWin (fe : Fin 4) : kindOf (pairWin (feWin fe)) = .loSynth := by revert fe; decide

theorem kindOf_pairWin_succ (fe : Fin 4) : kindOf (pairWin (feWin fe) + 1) = .loSynth := by revert fe; decide

theorem pairWin_ne_feWin (fe : Fin 4) : pairWin (feWin fe) ≠ feWin fe := by revert fe; decide

/-- What a start-up calibration whose values all lie in range leaves, before the run is reported done. -/
def State.startedUp (s : State) (f : Nat) (a : StartupArg) : State :=
  let p := pairWin f
  ((((((((s.setAx p axCalFailed 0).startTwin p p true a.quadA a.dcoA).startTwin p (p + 1) true a.quadB a.dcoB).put p
    LO.IMAGE_REJ a.image).setHs f hsFeMis (a.mismatch.take 24)).setHs f hsFeCorner (a.corner.take 16)).setHs f hsFeGain
    (a.gain.take 32)).setHs f hsFeOffs (a.offsets.take 64)).setAx f axFeStartCal 0 |>.seamTrims f

theorem State.startedUp_calFailed (s : State) (fe : Fin 4) (a : StartupArg) :
    (s.startedUp (feWin fe) a).ax (pairWin (feWin fe)) axCalFailed = 0 := by
  have hlo : 32 ≤ axCalFailed := by decide
  have hhi : axCalFailed < 64 := by decide
  have hfe : ¬ (pairWin (feWin fe) = feWin fe ∧ axCalFailed = axFeStartCal) := fun e => pairWin_ne_feWin fe e.1
  unfold State.startedUp
  dsimp only
  rw [State.seamTrims_ax, State.ax_setAx _ _ _ _ _ (by decide) hhi, if_neg hfe]
  repeat rw [State.setHs_ax]
  rw [State.put_ax, State.startTwin_ok_ax _ (kindOf_pairWin_succ fe) _ _ _ _ hlo hhi,
    State.startTwin_ok_ax _ (kindOf_pairWin fe) _ _ _ _ hlo hhi, State.ax_setAx _ _ _ _ _ hhi hhi, if_pos ⟨rfl, rfl⟩]

/-- With every value in range CAL_TEMP takes FE_TEMP, LAST_CODE reads 0 and CAL_DONE is raised. -/
theorem exec_calStartupDone_inRange {s : State} {fe : Fin 4} {a : StartupArg} (howed : s.ax (feWin fe) axFeStartCal ≠ 0)
    (hA : a.okA = true) (hB : a.okB = true) (himage : 260 ≤ a.image) (hfilter : a.okFilter = true)
    (hoffset : a.okOffset = true) :
    exec (.calStartupDone fe a) s = .next (
      let p := pairWin (feWin fe);
      let b := s.startedUp (feWin fe) a;
      s.firing (((((b.setAx (feWin fe) axFeDirty 1).put p LO.CAL_TEMP (b.fld p LO.FE_TEMP)).put p
        LO.CAL_STATUS_LAST_CODE 0).raiseKind p evLOCalDone).feCheck (feWin fe))) := by
  refine State.fires_next (f := atCalStartupDone fe a) (congrArg Host.Outcome.next ((if_neg howed).trans ?_))
  simp only [hA, hB, hfilter, hoffset, if_pos himage, if_true]
  exact congrArg (fun t => State.feCheck t (feWin fe)) (if_neg (not_not.mpr (s.startedUp_calFailed fe a)))

/-! ## Twins (R120, R124, R127, R128) -/

/-- What a loss of lock leaves of the twin itself, and whether it is the third within a second. -/
def State.lockLost (s : State) (l : Nat) : State × Bool :=
  ((((((s.put l LO.LO_STATUS_ROLE 3).chanUpdate (feOfLo l)).putB l LO.LO_STATUS_LOCKED false).count l
    LO.LOCK_LOST_COUNT).raiseKind l evLOLost).loCheck l).noteLoss l

/-- The serving twin is recovered from, even where it goes to FAULT; the idle one is recalibrated, or goes to FAULT. -/
theorem exec_loLockLost_locked {s : State} {lo : Fin 8} {l : Nat} (hl : l = 0x018 + (lo : Nat))
    (hlocked : s.flag l LO.LO_STATUS_LOCKED = true) :
    exec (.loLockLost lo) s = .next (s.firing (
      if l = s.servingLo (feOfLo l) then
        (if (s.lockLost l).2 then (s.lockLost l).1.loTwinFault l else (s.lockLost l).1).recover (feOfLo l)
      else if (s.lockLost l).2 then ((s.lockLost l).1.loTwinFault l).afterFault (feOfLo l)
      else (s.lockLost l).1.recalDue (feOfLo l) l)) := by
  subst hl
  refine State.fires_next (f := atLoLockLost lo) (congrArg Host.Outcome.next ((if_neg (by simp [hlocked])).trans ?_))
  simp only [decide_eq_true_eq]
  rw [State.lockLost]
  split
  · rfl
  · split <;> rfl

/-- No blend goes on that the front end's channels would have to wait for. -/
theorem atLoHandover_unblended {s : State} {fe : Fin 4}
    (hfree : s.inBlend (feWin fe) = false ∨ s.atomState (feWin fe) = stHOLD) :
    atLoHandover fe s = .next (
      if s.fld (pairWin (feWin fe)) LO.TUNE_STATE = 3 ∧ !s.loFault (s.idleLo (feWin fe)) then s.handover (feWin fe)
      else if s.fld (pairWin (feWin fe)) LO.TUNE_STATE = 1 ∧ s.fld (pairWin (feWin fe)) LO.CAL_STATUS_STEP = 0 then
        s.tuneGo (feWin fe)
      else s) := by
  have hblend : ¬ (s.inBlend (feWin fe) = true ∧ s.atomState (feWin fe) ≠ stHOLD) := by
    rintro ⟨hin, hst⟩
    exact hfree.elim (by simp [hin]) hst
  exact congrArg Host.Outcome.next (if_neg hblend)

/-! ## Steps of a run (R129, R131, R132) -/

/-- A step ends: an image step shows the rejection that it measured, and the twin that made the tones is idle again. -/
def State.stepMeasured (s : State) (f k : Nat) (a : CalArg) : State :=
  (if k = 2 then s.put (pairWin f) LO.IMAGE_REJ a.image else s).toneEnd f k

/-- The run goes on after its step `k`: a calibration after a loss of lock was no step of its own. -/
def State.stepOver (v : State) (f k : Nat) : State :=
  (if v.ax (pairWin f) axCalOne = 1 then v.setAx (pairWin f) axCalOne 0 else v.setAx (pairWin f) axCalAt k).calGo f

/-- What a failed step leaves of `u`; its twin is that of `s`, before the tones ended. An LO calibration after a loss of
lock puts that twin in FAULT (R128). -/
def State.stepFailed (s u : State) (f k : Nat) : State :=
  let l := s.calTwin f
  if (k = 1 ∨ k = 6) ∧ u.ax l axLoRecal = 1 then ((u.setAx l axLoRecal 0).calStepFailed (pairWin f) k l).loTwinFault l
  else u.calStepFailed (pairWin f) k l

section
variable {s : State} {fe : Fin 4} {a : CalArg} {k : Nat}

theorem exec_calStepDone_running (hk : s.fld (pairWin (feWin fe)) LO.CAL_STATUS_STEP = k) (h0 : k ≠ 0) (h5 : k ≠ 5) :
    exec (.calStepDone fe a) s = .next (s.firing (
      (if stepOk k a then (s.stepMeasured (feWin fe) k a).calStepValues (feWin fe) k a
       else s.stepFailed (s.stepMeasured (feWin fe) k a) (feWin fe) k).stepOver (feWin fe) k)) := by
  subst hk
  exact State.fires_next (f := atCalStepDone fe a) (congrArg Host.Outcome.next (if_neg (not_or.mpr ⟨h0, h5⟩)))

theorem exec_calStepDone_ok (hk : s.fld (pairWin (feWin fe)) LO.CAL_STATUS_STEP = k) (h0 : k ≠ 0) (h5 : k ≠ 5)
    (hok : stepOk k a = true) :
    exec (.calStepDone fe a) s = .next (s.firing (((s.stepMeasured (feWin fe) k a).calStepValues (feWin fe) k a).stepOver
      (feWin fe) k)) := by
  rw [exec_calStepDone_running hk h0 h5, if_pos hok]

theorem exec_calStepDone_failed (hk : s.fld (pairWin (feWin fe)) LO.CAL_STATUS_STEP = k) (h0 : k ≠ 0) (h5 : k ≠ 5)
    (hbad : stepOk k a = false) :
    exec (.calStepDone fe a) s = .next (s.firing ((s.stepFailed (s.stepMeasured (feWin fe) k a) (feWin fe) k).stepOver
      (feWin fe) k)) := by
  rw [exec_calStepDone_running hk h0 h5, if_neg (by simp [hbad])]

/-- A failed step other than an LO calibration is counted, and no more. -/
theorem State.stepFailed_paths (u : State) (f : Nat) (h1 : k ≠ 1) (h6 : k ≠ 6) :
    s.stepFailed u f k = u.calStepFailed (pairWin f) k (s.calTwin f) :=
  if_neg fun h => h.1.elim h1 h6

theorem State.stepFailed_lo (u : State) (f : Nat) (hlo : k = 1 ∨ k = 6) :
    s.stepFailed u f k =
      if u.ax (s.calTwin f) axLoRecal = 1 then
        ((u.setAx (s.calTwin f) axLoRecal 0).calStepFailed (pairWin f) k (s.calTwin f)).loTwinFault (s.calTwin f)
      else u.calStepFailed (pairWin f) k (s.calTwin f) := by
  simp only [State.stepFailed, hlo, true_and]

/-- An LO step shows no rejection, and its own verdict decides. -/
theorem stepOk_lo (hlo : k = 1 ∨ k = 6) : stepOk k a = a.ok := if_neg (by omega)

theorem State.stepMeasured_lo (s : State) (f : Nat) (hlo : k = 1 ∨ k = 6) : s.stepMeasured f k a = s.toneEnd f k :=
  congrArg (fun t => State.toneEnd t f k) (if_neg (by omega))

end

/-- Settles O7: each clause by the equation of its command; the two of a lost lock, of a handover and the three of a step
each have one equation in common. -/
theorem synthEvents : Obligations.SynthEvents := by
  refine ⟨?ready, ?acquired, ?lostIdle, ?lostServing, ?handover, ?tuneGo,
    fun s fe a k hk h0 h5 hok => exec_calStepDone_ok hk h0 h5 hok, ?stepFailed, ?stepFailedLo,
    fun s fe a howed hA hB himage hfilter hoffset =>
      exec_calStartupDone_inRange howed hA hB himage hfilter hoffset, ?feLDone, ?feLFailed⟩
  case ready =>
    rintro s lo us l rfl htune htarget
    exact State.fires_next (f := atTwinReady lo us)
      (congrArg Host.Outcome.next (if_neg (not_or.mpr ⟨not_not.mpr htune, htarget⟩)))
  case acquired =>
    rintro s lo l rfl hlive hkhz hlocked htarget
    exact State.fires_next (f := atLoLockAcquired lo)
      (congrArg Host.Outcome.next (if_pos (by simp [hlive, hkhz, hlocked, htarget])))
  case lostIdle =>
    intro s lo l hl hlocked hidle
    rw [exec_loLockLost_locked hl hlocked, if_neg hidle]
    rfl
  case lostServing =>
    intro s lo l hl hlocked hserving
    rw [exec_loLockLost_locked hl hlocked, if_pos hserving]
    rfl
  case handover =>
    intro s fe hready hfree hfault
    refine State.fires_next ((atLoHandover_unblended hfree).trans (congrArg Host.Outcome.next (if_pos ⟨hready, ?_⟩)))
    simp [hfault]
  case tuneGo =>
    intro s fe hwaits hstep hfree
    refine State.fires_next ((atLoHandover_unblended hfree).trans (congrArg Host.Outcome.next ?_))
    rw [if_neg (by simp [hwaits]), if_pos ⟨hwaits, hstep⟩]
  case stepFailed =>
    intro s fe a k hk h0 h5 hbad h1 h6
    rw [exec_calStepDone_failed hk h0 h5 hbad, State.stepFailed_paths _ _ h1 h6]
    rfl
  case stepFailedLo =>
    intro s fe a k hk h0 h5 hbad hlo
    rw [exec_calStepDone_failed hk h0 h5 (by rw [stepOk_lo hlo, hbad]), State.stepFailed_lo _ _ hlo,
      State.stepMeasured_lo _ _ hlo]
    rfl
  case feLDone =>
    intro s gains howed
    exact State.fires_next (f := atCalFeLDone true gains) (congrArg Host.Outcome.next (if_neg howed))
  case feLFailed =>
    intro s gains howed
    exact State.fires_next (f := atCalFeLDone false gains) (congrArg Host.Outcome.next (if_neg howed))

/-! ## Requests (R130, R131, R133) and the calibration store (R135, R136) -/

section
variable {s : State} {m p : Nat} {v : Word}

theorem State.writeCalCtl_accepts (h : s.accepts m p 0x084 v (s.calCodes p v) = true) :
    s.writeCalCtl m p v = s.told m p 0x084 v (s.calCtl p v) :=
  State.guarded_accepts s h

theorem State.calCtl_request (hno : v.getLsbD 8 = false) (hmask : v.toNat % 16 ≠ 0) :
    s.calCtl p v = s.calRequest (feOfLo p) (v.toNat % 16) := by
  simp only [State.calCtl, hno, Bool.false_eq_true, if_false, if_neg hmask]

theorem State.calCtl_abort (habort : v.getLsbD 8 = true) (hmask : v.toNat % 16 = 0) : s.calCtl p v = s.calAbort p := by
  simp only [State.calCtl, habort, hmask, if_true]

/-- An accepted word of CAL_CTL that asks for calibrations and for no abort. -/
theorem State.writeCalCtl_request (hno : v.getLsbD 8 = false) (hmask : v.toNat % 16 ≠ 0)
    (h : s.accepts m p 0x084 v (s.calCodes p v) = true) :
    s.writeCalCtl m p v = s.told m p 0x084 v (s.calRequest (feOfLo p) (v.toNat % 16)) := by
  rw [State.writeCalCtl_accepts h, State.calCtl_request hno hmask]

theorem State.writeCalCtl_abort (habort : v.getLsbD 8 = true) (hmask : v.toNat % 16 = 0)
    (h : s.accepts m p 0x084 v (s.calCodes p v) = true) :
    s.writeCalCtl m p v = s.told m p 0x084 v (s.calAbort p) := by
  rw [State.writeCalCtl_accepts h, State.calCtl_abort habort hmask]

end

/-- A temperature of a front end that runs is shown, and one that is TEMP_THRESH or more from CAL_TEMP is told of and may
start a run. -/
theorem exec_tempRecal_powered {s : State} {fe : Fin 4} {temp : Int} {p : Nat} (hp : p = pairWin (feWin fe))
    (hpres : s.present (feWin fe) = true) (hpow : s.fePowered (feWin fe) = true) :
    exec (.tempRecal fe temp) s = .next (
      if (temp - s.sfld p LO.CAL_TEMP).natAbs < 8 * s.fld p LO.PAIR_CTL_TEMP_THRESH then s.putI p LO.FE_TEMP temp
      else if s.flag p LO.PAIR_CTL_TEMP_AUTO && !s.loFault p && !s.loFault (p + 1) then
        ((s.putI p LO.FE_TEMP temp).raiseKind p evLOTempRecal).calRequest (feWin fe) 0xF
      else (s.putI p LO.FE_TEMP temp).raiseKind p evLOTempRecal) := by
  subst hp
  exact congrArg Host.Outcome.next (if_neg (by simp [hpres, hpow]))

/-- Settles O8: the requests and the abort are one write of CAL_CTL. -/
theorem calibration : Obligations.Calibration := by
  refine ⟨fun s m fe h => congrArg Host.Outcome.next (State.writeCalCtl_request (by decide) (by decide) h),
    fun s m fe h => congrArg Host.Outcome.next (State.writeCalCtl_request (by decide) (by decide) h),
    fun s m fe h => congrArg Host.Outcome.next (State.writeCalCtl_request (by decide) (by decide) h),
    fun s m fe h => congrArg Host.Outcome.next (State.writeCalCtl_request (by decide) (by decide) h),
    fun s m fe h => congrArg Host.Outcome.next (State.writeCalCtl_abort (by decide) (by decide) h),
    ?near, ?far, fun s fe sect hdirty => congrArg Host.Outcome.next (if_neg hdirty)⟩
  case near =>
    intro s fe temp hp hpow hnear
    rw [exec_tempRecal_powered rfl hp hpow, if_pos hnear]
  case far =>
    intro s fe temp hp hpow hfar hauto hA hB
    rw [exec_tempRecal_powered rfl hp hpow, if_neg (by omega), if_pos (by simp [hauto, hA, hB])]

end Sys2Proof.Machine
end

section
/-! PROOF. Detectors: silence, overs, the reports of a block and of 100 ms (O4, O5). -/

namespace Sys2Proof.Machine

/-! ## Silence (R170–R172) -/

/-- What SILENCE_ENTER leaves. -/
def State.silenceEntered (s : State) (w : Nat) : State :=
  ((s.put w DET.DET_STATUS_SILENT 1).count w DET.SILENCE_COUNT).raiseKind w evDetSilEnter

/-- What SILENCE_EXIT leaves: no counter moves. -/
def State.silenceLeft (s : State) (w : Nat) : State := (s.put w DET.DET_STATUS_SILENT 0).raiseKind w evDetSilExit

section
variable (s : State) {w : Nat}

theorem State.silenceEntered_flag (hw : w < 0x400) : (s.silenceEntered w).flag w DET.DET_STATUS_SILENT = true := by
  rw [State.silenceEntered, State.raiseKind_flag_reg _ _ _ _ (by decide),
    State.count_flag_own _ hw (by decide) (by decide) (by decide), State.flag_put _ _ (by decide)]
  decide

theorem State.silenceEntered_count (hw : w < 0x400) :
    (s.silenceEntered w).rd w DET.SILENCE_COUNT.off = counted (s.rd w DET.SILENCE_COUNT.off) := by
  rw [State.silenceEntered, State.raiseKind_rd_own _ (by decide), State.count_rd_own _ hw (by decide) (by decide),
    State.rd_put_reg _ _ _ (by decide)]

theorem State.silenceEntered_event (w : Nat) : ((s.silenceEntered w).rd w 0x00C).getLsbD evDetSilEnter = true :=
  State.raiseKind_event _ _ _ (by decide)

theorem frame_silenceEntered (hw : w < 0x400) :
    Frame [(w, DET.DET_STATUS_SILENT.off), (w, 0x00C), (w, DET.SILENCE_COUNT.off), (w, 0x028)] s (s.silenceEntered w) :=
  ((Frame.refl0.put (by simp)).count (by simp) (by simp [ovfOff_window hw]) (by simp)).raiseKind (by simp)

theorem State.silenceLeft_flag (w : Nat) : (s.silenceLeft w).flag w DET.DET_STATUS_SILENT = false := by
  rw [State.silenceLeft, State.raiseKind_flag_reg _ _ _ _ (by decide), State.flag_put _ _ (by decide)]
  decide

theorem State.silenceLeft_event (w : Nat) : ((s.silenceLeft w).rd w 0x00C).getLsbD evDetSilExit = true :=
  State.raiseKind_event _ _ _ (by decide)

theorem frame_silenceLeft (w : Nat) : Frame [(w, DET.DET_STATUS_SILENT.off), (w, 0x00C)] s (s.silenceLeft w) :=
  (Frame.refl0.put (by simp)).raiseKind (by simp)

end

section
variable {s : State} {n : Fin 32}

theorem exec_silenceEnter_due (hen : s.flag (winDet n) DET.SIL_CFG_ENABLE = true)
    (hsil : s.flag (winDet n) DET.DET_STATUS_SILENT = false) (hl : s.live (winDet n) = true)
    (ht : s.fld (winDet n) DET.SIL_TIME_ENTER_MS ≤ s.ax (winDet n) axSilEnter) :
    exec (.silenceEnter n) s = .next (s.silenceEntered (winDet n)) :=
  congrArg Host.Outcome.next (if_pos (by simp [hen, hsil, hl, ht]))

theorem exec_silenceExit_due (hen : s.flag (winDet n) DET.SIL_CFG_ENABLE = true)
    (hsil : s.flag (winDet n) DET.DET_STATUS_SILENT = true) (hl : s.live (winDet n) = true)
    (ht : s.fld (winDet n) DET.SIL_TIME_EXIT_MS ≤ s.ax (winDet n) axSilExit) :
    exec (.silenceExit n) s = .next (s.silenceLeft (winDet n)) :=
  congrArg Host.Outcome.next (if_pos (by simp [hen, hsil, hl, ht]))

/-! ## Overs that run on, and INT_RESET (R171, R168) -/

theorem exec_overRepeat_due (hen : s.flag (winDet n) DET.OVER_CFG_ENABLE = true)
    (hover : s.flag (winDet n) DET.DET_STATUS_OVER = true) (hl : s.live (winDet n) = true)
    (hruns : s.overRuns (winDet n) = true) (hms : s.ax (winDet n) axOverMs = 100) :
    exec (.overRepeat n) s = .next (s.over (winDet n)) :=
  congrArg Host.Outcome.next (if_pos (by simp [hen, hover, hl, hruns, hms]))

theorem exec_intReset_accepts {m : Master} {v : Word} (hv : v = w32 (s.fld (winDet n) DET.LOUD_CTL_INT_RUN + 2))
    (h : s.accepts m (winDet n) 0x058 v [] = true) :
    exec (.intReset m n) s = .next (s.told m (winDet n) 0x058 v (s.detWritten (winDet n) 0x058 v)) := by
  subst hv
  exact congrArg Host.Outcome.next (State.guarded_accepts s h)

end

/-- Settles O4: silence is one update each way, with its own flag, count, event and frame; an over that runs on is the
over again, and INT_RESET an accepted write. -/
theorem detectorEvents : Obligations.DetectorEvents := by
  refine ⟨?enter, ?exit, fun s n hen hover hl hruns hms => exec_overRepeat_due hen hover hl hruns hms,
    fun s m n h => exec_intReset_accepts rfl h⟩
  case enter =>
    intro s n hen hsil hl ht
    have hw := winDet_lt n
    exact ⟨_, exec_silenceEnter_due hen hsil hl ht, s.silenceEntered_flag hw, s.silenceEntered_count hw,
      s.silenceEntered_event _, frame_silenceEntered s hw⟩
  case exit =>
    intro s n hen hsil hl ht
    exact ⟨_, exec_silenceExit_due hen hsil hl ht, s.silenceLeft_flag _, s.silenceLeft_event _, frame_silenceLeft s _⟩

/-! ## What a report leaves of the registers it does not judge (R165, R170, R171) -/

section
variable (s : State) (w : Nat)

/-- The silence machine's timers are hidden: judging touches no register. -/
@[simp] theorem State.judgeSilence_regs (ms : Nat) (v : Option Int) : (s.judgeSilence w ms v).regs = s.regs := by
  unfold State.judgeSilence
  split
  · rfl
  · cases v <;> rfl

theorem State.ageOver_rd_own {off : Nat} (h : off / 4 ≠ DET.DET_STATUS_OVER.off / 4) :
    (s.ageOver w).rd w off = s.rd w off := by
  unfold State.ageOver
  split
  · rfl
  · dsimp only
    split
    · rw [State.rd_put_reg _ _ _ h, State.setAx_rd]
    · rfl

/-- The blocks that count towards a window, the one that ends included. -/
theorem State.blockDone_blocks : (s.blockDone w).ax w axDetBlocks = Nat.min (s.ax w axDetBlocks + 1) 10000 := by
  simp [State.blockDone, axDetBlocks]

/-- The intervals of 100 ms that count towards a measure, the one that ends included. -/
theorem State.loudDone_intervals : (s.loudDone w).ax w axLoud = Nat.min (s.ax w axLoud + 1) 30 := by
  simp [State.loudDone, axLoud]

end

/-! ## The peak of a block (R166) -/

/-- PEAK after a report: its window's level once it has filled, and R in a stereo lane alone. -/
theorem State.detReport_peak (s : State) (n : Nat) :
    (s.detReport n).rd (winDet n) DET.PEAK.off = twoLevels
      (orNone (decide (s.fld (winDet n) DET.PEAK_MS ≤ s.ax (winDet n) axDetBlocks))
        (s.peakOf (winDet n) 0 (s.freshWord.getLsbD 0)))
      (orNone (decide (s.fld (winDet n) DET.PEAK_MS ≤ s.ax (winDet n) axDetBlocks) && s.laneStereo n)
        (s.peakOf (winDet n) 1 (s.freshWord.getLsbD 1))) := by
  unfold State.detReport
  rw [State.ageOver_rd_own _ _ (by decide)]
  split <;> simp [State.rd_of_regs (State.judgeSilence_regs _ _ _ _), State.freshWord, DET.PEAK, DET.TRUE_PEAK, DET.RMS,
    DET.ENVELOPE, DET.MAX_TP]

section
variable {s : State} {n : Fin 32}

theorem exec_detectorBlock_due (hp : s.present (winDet n) = true) (hl : s.live (winDet n) = true)
    (hdue : s.blockDue (winDet n) = true) :
    exec (.detectorBlock n) s = .next ((s.blockDone (winDet n)).detReport n) :=
  congrArg Host.Outcome.next (if_pos (by simp [hp, hl, hdue]))

/-- PEAK after a block, R being `r` in a stereo lane and none in a mono one. -/
theorem State.blockDone_peak {r : Option Int} (hr : r = orNone (s.laneStereo n)
      ((s.blockDone (winDet n)).peakOf (winDet n) 1 (s.freshWord.getLsbD 1))) :
    ((s.blockDone (winDet n)).detReport n).rd (winDet n) DET.PEAK.off =
      if s.fld (winDet n) DET.PEAK_MS ≤ Nat.min (s.ax (winDet n) axDetBlocks + 1) 10000 then
        twoLevels (some ((s.blockDone (winDet n)).peakOf (winDet n) 0 (s.freshWord.getLsbD 0))) r
      else twoLevels none none := by
  have hfld : (s.blockDone (winDet n)).fld (winDet n) DET.PEAK_MS = s.fld (winDet n) DET.PEAK_MS := rfl
  have hfresh : (s.blockDone (winDet n)).freshWord = s.freshWord := rfl
  have hlane : (s.blockDone (winDet n)).laneStereo n = s.laneStereo n := rfl
  rw [State.detReport_peak, State.blockDone_blocks, hfld, hfresh, hlane, hr]
  split
  next hfull => simp [hfull, orNone]
  next hshort => simp [hshort, orNone]

/-! ## The loudness of 100 ms (R166, R168) -/

theorem exec_loudnessUpdate_due (hp : s.present (winDet n) = true) (hl : s.live (winDet n) = true)
    (hdue : s.loudDue (winDet n) = true) :
    exec (.loudnessUpdate n) s = .next ((s.loudDone (winDet n)).loudReport (winDet n)) :=
  congrArg Host.Outcome.next (if_pos (by simp [hp, hl, hdue]))

end

section
variable (s : State) (w : Nat)

/-- What a report does to the registers, whatever it adds to the histogram and whatever the silence machine judges. -/
theorem State.loudReport_regs : ∃ (t : State) (integrated : Nat), (s.loudReport w).regs =
    (((t.put w DET.MOMENTARY (levelCode (orNone (decide (4 ≤ s.ax w axLoud))
        (loudLevel (s.loudEnergy w 4) (4 * (4800 * 2 ^ 126)) (s.freshWord.getLsbD 0))))).put w DET.SHORT_TERM
      (levelCode (orNone (decide (30 ≤ s.ax w axLoud))
        (loudLevel (s.loudEnergy w 30) (30 * (4800 * 2 ^ 126)) (s.freshWord.getLsbD 1))))).put w DET.INTEGRATED
      integrated).regs := by
  unfold State.loudReport
  dsimp only
  split
  · exact ⟨_, _, State.judgeSilence_regs _ _ _ _⟩
  · exact ⟨_, _, State.judgeSilence_regs _ _ _ _⟩
  · exact ⟨_, _, rfl⟩

theorem State.loudReport_momentary :
    (s.loudReport w).fld w DET.MOMENTARY = levelCode (orNone (decide (4 ≤ s.ax w axLoud))
      (loudLevel (s.loudEnergy w 4) (4 * (4800 * 2 ^ 126)) (s.freshWord.getLsbD 0))) % 65536 := by
  obtain ⟨t, integrated, h⟩ := s.loudReport_regs w
  rw [State.fld_of_regs h, State.fld_put_apart _ _ (by decide) (by decide),
    State.fld_put_apart _ _ (by decide) (by decide), State.fld_put _ _ (by decide)]
  rfl

theorem State.loudReport_shortTerm :
    (s.loudReport w).fld w DET.SHORT_TERM = levelCode (orNone (decide (30 ≤ s.ax w axLoud))
      (loudLevel (s.loudEnergy w 30) (30 * (4800 * 2 ^ 126)) (s.freshWord.getLsbD 1))) % 65536 := by
  obtain ⟨t, integrated, h⟩ := s.loudReport_regs w
  rw [State.fld_of_regs h, State.fld_put_apart _ _ (by decide) (by decide), State.fld_put _ _ (by decide)]
  rfl

end

theorem orNone_decide (p : Prop) [Decidable p] (i : Int) : orNone (decide p) i = if p then some i else none := by
  simp [orNone]

/-- Settles O5: each command by its equation; the registers by what a report writes, its other writes and the silence
machine's judgement leaving them alone. -/
theorem detectorMeasures : Obligations.DetectorMeasures := by
  refine ⟨fun s n hp hl hdue => exec_detectorBlock_due hp hl hdue,
    fun s n hp hl hdue hmono => ⟨_, exec_detectorBlock_due hp hl hdue, State.blockDone_peak (by rw [hmono]; rfl)⟩,
    fun s n hp hl hdue hstereo => ⟨_, exec_detectorBlock_due hp hl hdue, State.blockDone_peak (by rw [hstereo]; rfl)⟩,
    fun s n hp hl hdue => exec_loudnessUpdate_due hp hl hdue, ?levels⟩
  case levels =>
    intro s n hp hl hdue _
    have hfresh : (s.loudDone (winDet n)).freshWord = s.freshWord := rfl
    refine ⟨_, exec_loudnessUpdate_due hp hl hdue, ?_, ?_⟩
    · rw [State.loudReport_momentary, State.loudDone_intervals, hfresh, orNone_decide]
    · rw [State.loudReport_shortTerm, State.loudDone_intervals, hfresh, orNone_decide]

end Sys2Proof.Machine
end

section
/-! PROOF. Filter units and warm-up (O11). -/

namespace Sys2Proof.Machine

/-! ## Bank swaps and their fades (R157–R159) -/

section
variable {s : State} {w : Fin 1024}

theorem exec_swapRequest_accepts {m : Master} {v : Word} (hk : kindOf w = .chanFilter ∨ kindOf w = .audioFilter)
    (h : s.accepts m w 0x050 v [] = true) :
    exec (.swapRequest m w v) s = .next (
      s.told m w 0x050 v (s.swap w (FILT.SWAP_CTL_TARGET.of v) (FILT.SWAP_CTL_FADE_LEN.of v))) :=
  congrArg Host.Outcome.next ((if_pos hk).trans (State.guarded_accepts s h))

theorem exec_fadeEnd_due (h : s.fadeDue w = true) : exec (.fadeEnd w) s = .next (s.endFade w) :=
  congrArg Host.Outcome.next (if_pos h)

/-! ## Outputs, by the kind of unit (R140, R152), and warm-up (R161) -/

variable {xs ys : List (Int × Int)}

theorem exec_filterOutput : exec (.filterOutput w xs ys) s = .next (s.firing (s.filterOutput w xs ys)) := rfl

theorem exec_warmComplete_ready (hw : s.atomState w = stWARM) (hin : s.inputValid w = true)
    (hready : s.warmReady w = true) : exec (.warmComplete w) s = .next (s.firing (s.setValid w true)) :=
  congrArg Host.Outcome.next (if_pos (by simp [hw, hin, hready]))

end

section
variable {s : State} {w : Nat} {xs ys : List (Int × Int)}

theorem State.filterOutput_ddc (hp : s.present w = true) (hl : s.live w = true) (hk : kindOf w = .ddc) :
    s.filterOutput w xs ys = s.ddcOut w xs ys := by
  simp [State.filterOutput, hp, hl, hk]

/-- A CHAN_FILTER with as many DDC outputs waiting as its DECIM takes them and feeds its sinks. -/
theorem State.filterOutput_chanFilter (hp : s.present w = true) (hl : s.live w = true) (hk : kindOf w = .chanFilter)
    (hwait : 5 * s.filtDecim w ≤ (s.hs w hsIn).length) :
    s.filterOutput w xs ys = (s.chanOut w).channelOut w := by
  simp [State.filterOutput, hp, hl, hk, hwait]

/-- An AUDIO_FILTER whose last sample its lane has taken computes the next. -/
theorem State.filterOutput_audioFilter (hp : s.present w = true) (hl : s.live w = true) (hk : kindOf w = .audioFilter)
    (htaken : s.hs (w - 0x20) hsPost = []) :
    s.filterOutput w xs ys = (s.laneFront (instOf w)).laneFilter (instOf w) := by
  simp [State.filterOutput, hp, hl, hk, htaken]

end

/-- Settles O11: a swap is an accepted write, and an output is that of the unit's kind. -/
theorem filterRows : Obligations.FilterRows := by
  refine ⟨fun s m w v hk h => exec_swapRequest_accepts hk h, fun s w h => exec_fadeEnd_due h, ?ddc, ?channel, ?audio,
    fun s w hw hin hready => exec_warmComplete_ready hw hin hready⟩
  case ddc =>
    intro s w xs ys hp hl hk
    rw [exec_filterOutput, State.filterOutput_ddc hp hl hk]
  case channel =>
    intro s w xs ys hp hl hk hwait
    rw [exec_filterOutput, State.filterOutput_chanFilter hp hl hk hwait]
  case audio =>
    intro s w xs ys hp hl hk htaken
    rw [exec_filterOutput, State.filterOutput_audioFilter hp hl hk htaken]

end Sys2Proof.Machine
end

section
/-! PROOF. FM and AM demodulators: the pilot, RDS bits, noise blanks, the carrier, the detector and the sideband in use,
and the branch (O1, O3). -/

namespace Sys2Proof.Machine

/-! ## A status field that changes, is counted and raises its event (R177, R186, R190) -/

/-- A field of the window takes a value, a counter counts the change, and an event bit latches. -/
def State.changedCounted (s : State) (w : Nat) (r : FRef) (v : Nat) (cnt : FRef) (bit : Nat) : State :=
  ((s.put w r v).count w cnt).raiseKind w bit

section
variable (s : State) {w v bit : Nat} {r cnt : FRef}

/-- The field reads what it took: neither the counter, its overflow bits nor UNIT_EVENT share its register. -/
theorem State.changedCounted_fld (hw : w < 0x400) (hr : r.ok = true) (hcnt : r.off / 4 ≠ cnt.off / 4)
    (hovf : r.off / 4 ≠ 10) (hevent : r.off / 4 ≠ 3) :
    (s.changedCounted w r v cnt bit).fld w r = v % 2 ^ (r.msb - r.lsb + 1) := by
  rw [State.changedCounted, State.raiseKind_fld_reg _ _ _ _ hevent, State.count_fld_own _ hw hcnt hovf hevent,
    State.fld_put _ _ hr]

theorem State.changedCounted_flag (hw : w < 0x400) (hr : r.ok = true) (hcnt : r.off / 4 ≠ cnt.off / 4)
    (hovf : r.off / 4 ≠ 10) (hevent : r.off / 4 ≠ 3) :
    (s.changedCounted w r v cnt bit).flag w r = (v % 2 ^ (r.msb - r.lsb + 1) != 0) := by
  rw [State.flag, State.changedCounted_fld s hw hr hcnt hovf hevent]

theorem State.changedCounted_count (hw : w < 0x400) (hcnt : cnt.off / 4 ≠ r.off / 4) (hovf : cnt.off / 4 ≠ 10)
    (hevent : cnt.off / 4 ≠ 3) :
    (s.changedCounted w r v cnt bit).rd w cnt.off = counted (s.rd w cnt.off) := by
  rw [State.changedCounted, State.raiseKind_rd_own _ hevent, State.count_rd_own _ hw hovf hevent,
    State.rd_put_reg _ _ _ hcnt]

theorem State.changedCounted_event (hbit : bit < 32) :
    ((s.changedCounted w r v cnt bit).rd w 0x00C).getLsbD bit = true :=
  State.raiseKind_event _ _ _ hbit

theorem frame_changedCounted (r cnt : FRef) (hw : w < 0x400) :
    Frame [(w, r.off), (w, 0x00C), (w, cnt.off), (w, 0x028)] s (s.changedCounted w r v cnt bit) :=
  ((Frame.refl0.put (by simp)).count (by simp) (by simp [ovfOff_window hw]) (by simp)).raiseKind (by simp)

end

/-! ## The pilot (R177) and the RDS bits (R183) -/

/-- What PILOT_FOUND leaves: no counter moves. -/
def State.pilotGained (s : State) (w : Nat) : State := (s.put w FM.FM_STATUS_PILOT 1).raiseKind w evFmPilotFound

/-- What PILOT_LOST leaves. -/
def State.pilotDropped (s : State) (w : Nat) : State :=
  s.changedCounted w FM.FM_STATUS_PILOT 0 FM.PILOT_LOSS_COUNT evFmPilotLost

section
variable (s : State) (w : Nat)

theorem State.pilotGained_flag : (s.pilotGained w).flag w FM.FM_STATUS_PILOT = true := by
  rw [State.pilotGained, State.raiseKind_flag_reg _ _ _ _ (by decide), State.flag_put _ _ (by decide)]
  decide

theorem State.pilotGained_event : ((s.pilotGained w).rd w 0x00C).getLsbD evFmPilotFound = true :=
  State.raiseKind_event _ _ _ (by decide)

theorem frame_pilotGained : Frame [(w, FM.FM_STATUS_PILOT.off), (w, 0x00C)] s (s.pilotGained w) :=
  (Frame.refl0.put (by simp)).raiseKind (by simp)

end

section
variable {s : State} {n : Fin 48}

theorem exec_pilotFound_due (hl : s.live (winFM n) = true) (hpilot : s.flag (winFM n) FM.FM_STATUS_PILOT = false)
    (hup : 2 ≤ s.ax (winFM n) axPilotUp) : exec (.pilotFound n) s = .next (s.pilotGained (winFM n)) :=
  congrArg Host.Outcome.next (if_pos (by simp [hl, hpilot, hup]))

theorem exec_pilotLost_due {pll : Bool} (hl : s.live (winFM n) = true)
    (hpilot : s.flag (winFM n) FM.FM_STATUS_PILOT = true) (hlost : pll = true ∨ 1 ≤ s.ax (winFM n) axPilotDown) :
    exec (.pilotLost n pll) s = .next (s.pilotDropped (winFM n)) :=
  congrArg Host.Outcome.next (if_pos (by simpa [hl, hpilot] using hlost))

theorem exec_demodWarmDone_warm (hwarm : s.atomState (winFM n) = stWARM) :
    exec (.demodWarmDone n) s = .next (s.triggered (fun t => t.setValid (winFM n) true)) :=
  congrArg (fun t => Host.Outcome.next (State.validFires (s.tree.triggers.length + 1) s t)) (if_pos hwarm)

end

/-- What an RDS bit leaves of its demodulator: the MPX samples are taken, the bit is counted, and it stands at the output
with its confidence. `r` is what the RDS demodulator carries on and what it decided. -/
def State.rdsDecided (s : State) (w : Nat) (r : List Int × List Int) : State :=
  (((s.setHs w hsRds r.1).setHs w hsMpx []).bump w FM.RDS_BIT_COUNT).setHs w hsOut [r.2.getD 0 0 % 2, r.2.getD 1 0 % 16]

/-- What the RDS demodulator of a window makes of the MPX samples since the last bit. -/
def State.rdsStage (s : State) (w : Nat) : List Int × List Int :=
  Config.stage .rdsBit [s.fld w FM.FM_STATUS_PILOT] (s.hs w hsRds) (s.hs w hsMpx)

section
variable (s : State) (w : Nat) (r : List Int × List Int)

theorem State.rdsDecided_count :
    (s.rdsDecided w r).rd w FM.RDS_BIT_COUNT.off = s.rd w FM.RDS_BIT_COUNT.off + 1 :=
  State.bump_rd ((s.setHs w hsRds r.1).setHs w hsMpx []) w FM.RDS_BIT_COUNT

theorem State.rdsDecided_mpx : (s.rdsDecided w r).hs w hsMpx = [] := by
  have hother : ¬ (w = w ∧ hsMpx = hsOut) := by simp [hsMpx, hsOut]
  rw [State.rdsDecided, State.hs_setHs _ _ _ _ _ (by decide) (by decide), if_neg hother, State.bump_hs,
    State.hs_setHs _ _ _ _ _ (by decide) (by decide), if_pos ⟨rfl, rfl⟩]

theorem frame_rdsDecided : Frame [(w, FM.RDS_BIT_COUNT.off)] s (s.rdsDecided w r) :=
  (Frame.refl0.setHs.setHs.bump (by simp)).setHs

end

/-- The bit reaches each SIDE_DATA unit in RUN that output 1 feeds. -/
def State.rdsSinks (s : State) (w : Nat) : List Nat :=
  (s.sinksOf w 1).filter (fun d => kindOf d == .sideData && s.atomState d == stRUN)

theorem exec_rdsBit_run {s : State} {n : Fin 48} (hrun : s.atomState (winFM n) = stRUN) :
    exec (.rdsBit n) s = .next (
      let t := s.rdsDecided (winFM n) (s.rdsStage (winFM n))
      (t.rdsSinks (winFM n)).foldl (fun u d => u.setHs d hsIn (u.hs d hsIn ++
        [(s.rdsStage (winFM n)).2.getD 0 0 % 2, (s.rdsStage (winFM n)).2.getD 1 0 % 16,
          ((s.ax (winFM n) axStamp : Nat) : Int)])) t) :=
  congrArg Host.Outcome.next (if_pos hrun)

/-- A demodulator whose output 1 feeds nothing keeps the bit to itself. -/
theorem exec_rdsBit_unfed {s : State} {n : Fin 48} (hrun : s.atomState (winFM n) = stRUN)
    (hsinks : s.sinksOf (winFM n) 1 = []) :
    exec (.rdsBit n) s = .next (s.rdsDecided (winFM n) (s.rdsStage (winFM n))) := by
  have hnone : (s.rdsDecided (winFM n) (s.rdsStage (winFM n))).rdsSinks (winFM n) = [] := by
    have hlinks : (s.rdsDecided (winFM n) (s.rdsStage (winFM n))).sinksOf (winFM n) 1 = [] := hsinks
    rw [State.rdsSinks, hlinks, List.filter_nil]
  rw [exec_rdsBit_run hrun]
  simp only [hnone, List.foldl_nil]

/-! ## Noise blanks (R181, R189) -/

section
variable {s : State} {w : Fin 1024}

theorem exec_noiseBlank_fm (hl : s.live w = true) (hk : kindOf w = .fmDemod) (himp : s.ax w axImpulse = 1) :
    exec (.noiseBlank w) s =
      .next (s.blank w (s.used w FM.NB_BLANK_SAMPLES) FM.FM_STATUS_BLANKING FM.BLANK_COUNT) :=
  congrArg Host.Outcome.next ((if_pos (by simp [isDemod, hl, hk, himp])).trans (if_pos hk))

theorem exec_noiseBlank_am (hl : s.live w = true) (hk : kindOf w = .amDemod) (himp : s.ax w axImpulse = 1) :
    exec (.noiseBlank w) s =
      .next (s.blank w (s.used w AM.NB_BLANK_SAMPLES) AM.AM_STATUS_BLANKING AM.BLANK_COUNT) :=
  congrArg Host.Outcome.next ((if_pos (by simp [isDemod, hl, hk, himp])).trans (if_neg (by simp [hk])))

end

/-- What a blank that starts, none being in progress, leaves. -/
def State.blankStarted (s : State) (w len : Nat) (flag cnt : FRef) : State :=
  ((((s.put w flag 1).setAx w axBlankNow 1).setAx w axImpulse 0).setAx w axBlankLeft len).count w cnt

theorem State.blank_starts {s : State} {w len : Nat} {flag cnt : FRef} (hleft : s.ax w axBlankLeft = 0) :
    s.blank w len flag cnt = s.blankStarted w len flag cnt :=
  if_neg (by simp [hleft])

section
variable (s : State) {w len : Nat} {flag cnt : FRef}

theorem State.blankStarted_flag (hw : w < 0x400) (hr : flag.ok = true) (hbit : flag.msb = flag.lsb)
    (hcnt : flag.off / 4 ≠ cnt.off / 4) (hovf : flag.off / 4 ≠ 10) (hevent : flag.off / 4 ≠ 3) :
    (s.blankStarted w len flag cnt).flag w flag = true := by
  rw [State.blankStarted, State.count_flag_own _ hw hcnt hovf hevent]
  simp [State.flag_put s 1 hr, hbit]

theorem State.blankStarted_count (hw : w < 0x400) (hcnt : cnt.off / 4 ≠ flag.off / 4) (hovf : cnt.off / 4 ≠ 10)
    (hevent : cnt.off / 4 ≠ 3) :
    (s.blankStarted w len flag cnt).rd w cnt.off = counted (s.rd w cnt.off) := by
  rw [State.blankStarted, State.count_rd_own _ hw hovf hevent]
  simp only [State.setAx_rd, State.rd_put_reg _ _ _ hcnt]

theorem State.blankStarted_left : (s.blankStarted w len flag cnt).ax w axBlankLeft = len := by
  simp [State.blankStarted, axBlankLeft]

theorem frame_blankStarted (hw : w < 0x400) :
    Frame [(w, flag.off), (w, 0x00C), (w, cnt.off), (w, 0x028)] s (s.blankStarted w len flag cnt) :=
  (Frame.refl0.put (by simp)).setAx.setAx.setAx.count (by simp) (by simp [ovfOff_window hw]) (by simp)

end

/-- Settles O1: the pilot is one update each way with its flag, event and frame, and an RDS bit and a blank are each the
update of their demodulator. -/
theorem fmEvents : Obligations.FmEvents := by
  refine ⟨?found, ?lost, ?unfed, fun s n hrun => exec_rdsBit_run hrun,
    fun s w hl hk himp => exec_noiseBlank_fm hl hk himp, fun s w hl hk himp => exec_noiseBlank_am hl hk himp, ?starts,
    fun s n hwarm => exec_demodWarmDone_warm hwarm⟩
  case found =>
    intro s n hl hpilot hup
    exact ⟨_, exec_pilotFound_due hl hpilot hup, s.pilotGained_flag _, s.pilotGained_event _, frame_pilotGained s _⟩
  case lost =>
    intro s n pll hl hpilot hlost
    have hw := winFM_lt n
    exact ⟨_, exec_pilotLost_due hl hpilot hlost,
      s.changedCounted_flag hw (by decide) (by decide) (by decide) (by decide),
      s.changedCounted_count hw (by decide) (by decide) (by decide), s.changedCounted_event (by decide),
      frame_changedCounted s FM.FM_STATUS_PILOT FM.PILOT_LOSS_COUNT hw⟩
  case unfed =>
    intro s n hrun hsinks
    exact ⟨_, exec_rdsBit_unfed hrun hsinks, s.rdsDecided_count _ _, s.rdsDecided_mpx _ _, frame_rdsDecided s _ _⟩
  case starts =>
    intro s w hl hk himp hleft
    have hw : (w : Nat) < 0x400 := w.isLt
    exact ⟨_, (exec_noiseBlank_fm hl hk himp).trans (congrArg Host.Outcome.next (State.blank_starts hleft)),
      s.blankStarted_flag hw (by decide) rfl (by decide) (by decide) (by decide),
      s.blankStarted_count hw (by decide) (by decide) (by decide), s.blankStarted_left, frame_blankStarted s hw⟩

/-! ## Envelope and synchronous detection (R187) -/

section
variable (s : State) (w : Nat) (on fallback : Bool)

/-- What a change of detector leaves of a register outside AM_STATUS. -/
theorem State.setEnvelope_rd_own {off : Nat} (h : off / 4 ≠ 32) :
    (s.setEnvelope w on fallback).rd w off = s.rd w off := by
  cases on
  · exact State.putB_rd_reg s _ _ h
  · exact (State.rd_put_reg _ _ _ h).trans (State.putB_rd_reg s _ _ h)

/-- A field apart from ENVELOPE and SB_USED stands. -/
theorem State.setEnvelope_fld_apart {q : FRef} (henv : AM.AM_STATUS_ENVELOPE.apart q = true)
    (hside : AM.AM_STATUS_SB_USED.apart q = true) : (s.setEnvelope w on fallback).fld w q = s.fld w q := by
  cases on
  · exact State.putB_fld_apart s _ (by decide) henv
  · exact (State.fld_put_apart _ _ (by decide) hside).trans (State.putB_fld_apart s _ (by decide) henv)

theorem State.setEnvelope_flag_apart {q : FRef} (henv : AM.AM_STATUS_ENVELOPE.apart q = true)
    (hside : AM.AM_STATUS_SB_USED.apart q = true) : (s.setEnvelope w on fallback).flag w q = s.flag w q := by
  rw [State.flag, State.setEnvelope_fld_apart s w on fallback henv hside, State.flag]

theorem State.setEnvelope_flag : (s.setEnvelope w on fallback).flag w AM.AM_STATUS_ENVELOPE = on := by
  cases on
  · exact State.putB_flag s _ (by decide) rfl
  · exact (State.flag_put_apart _ _ (by decide) (by decide)).trans (State.putB_flag s _ (by decide) rfl)

/-- Envelope detection leaves no sideband in use. -/
theorem State.setEnvelope_sideband : (s.setEnvelope w true fallback).fld w AM.AM_STATUS_SB_USED = 0 :=
  State.fld_put _ _ (by decide)

theorem Frame.setEnvelope {s u : State} {ks : List (Nat × Nat)} {w : Nat} {on fallback : Bool} (h : Frame ks s u)
    (h0 : (w, 0x080) ∈ ks) : Frame ks s (u.setEnvelope w on fallback) := by
  cases on
  · exact (h.putB h0).setAx
  · exact (h.putB h0).setAx.put h0

end

/-! ## The carrier (R186, R187) -/

/-- What the loss of the carrier leaves before the detector follows it. -/
def State.carrierDropped (s : State) (w : Nat) : State :=
  s.changedCounted w AM.AM_STATUS_CARRIER_LOCK 0 AM.LOCK_LOSS_COUNT evAmLost

section
variable (s : State) {w : Nat}

theorem State.carrierDropped_flag (hw : w < 0x400) : (s.carrierDropped w).flag w AM.AM_STATUS_CARRIER_LOCK = false :=
  s.changedCounted_flag hw (by decide) (by decide) (by decide) (by decide)

theorem State.carrierDropped_count (hw : w < 0x400) :
    (s.carrierDropped w).rd w AM.LOCK_LOSS_COUNT.off = counted (s.rd w AM.LOCK_LOSS_COUNT.off) :=
  s.changedCounted_count hw (by decide) (by decide) (by decide)

theorem frame_carrierDropped (hw : w < 0x400) :
    Frame [(w, 0x080), (w, 0x00C), (w, AM.LOCK_LOSS_COUNT.off), (w, 0x028)] s (s.carrierDropped w) :=
  frame_changedCounted s AM.AM_STATUS_CARRIER_LOCK AM.LOCK_LOSS_COUNT hw

end

section
variable {s : State} {n : Fin 16}

theorem exec_carrierLost_locked (hl : s.live (winAM n) = true)
    (hlock : s.flag (winAM n) AM.AM_STATUS_CARRIER_LOCK = true) :
    exec (.carrierLost n) s = .next (
      if s.used (winAM n) AM.AM_CFG_DETECT = 1 then s.carrierDropped (winAM n)
      else if s.used (winAM n) AM.AM_CFG_FALLBACK = 1 then (s.carrierDropped (winAM n)).setEnvelope (winAM n) true true
      else (s.carrierDropped (winAM n)).amUnheard (winAM n)) :=
  congrArg Host.Outcome.next (if_pos (by simp [hl, hlock]))

/-- By envelope already: only the loss itself shows. -/
theorem exec_carrierLost_envelope (hl : s.live (winAM n) = true)
    (hlock : s.flag (winAM n) AM.AM_STATUS_CARRIER_LOCK = true) (hdet : s.used (winAM n) AM.AM_CFG_DETECT = 1) :
    exec (.carrierLost n) s = .next (s.carrierDropped (winAM n)) := by
  rw [exec_carrierLost_locked hl hlock, if_pos hdet]

theorem exec_carrierLost_fallback (hl : s.live (winAM n) = true)
    (hlock : s.flag (winAM n) AM.AM_STATUS_CARRIER_LOCK = true) (hdet : s.used (winAM n) AM.AM_CFG_DETECT ≠ 1)
    (hfall : s.used (winAM n) AM.AM_CFG_FALLBACK = 1) :
    exec (.carrierLost n) s = .next ((s.carrierDropped (winAM n)).setEnvelope (winAM n) true true) := by
  rw [exec_carrierLost_locked hl hlock, if_neg hdet, if_pos hfall]

theorem exec_carrierLost_unheard (hl : s.live (winAM n) = true)
    (hlock : s.flag (winAM n) AM.AM_STATUS_CARRIER_LOCK = true) (hdet : s.used (winAM n) AM.AM_CFG_DETECT ≠ 1)
    (hfall : s.used (winAM n) AM.AM_CFG_FALLBACK ≠ 1) :
    exec (.carrierLost n) s = .next ((s.carrierDropped (winAM n)).amUnheard (winAM n)) := by
  rw [exec_carrierLost_locked hl hlock, if_neg hdet, if_neg hfall]

theorem exec_detectorReturnSync_due (hl : s.live (winAM n) = true)
    (hlock : s.flag (winAM n) AM.AM_STATUS_CARRIER_LOCK = true) (henv : s.flag (winAM n) AM.AM_STATUS_ENVELOPE = true)
    (hdet : s.used (winAM n) AM.AM_CFG_DETECT = 0) (hms : 50 ≤ s.ax (winAM n) axAmLocked) :
    exec (.detectorReturnSync n) s = .next (s.setEnvelope (winAM n) false false) :=
  congrArg Host.Outcome.next (if_pos (by simp [hl, hlock, henv, hdet, hms]))

end

/-! ## The sideband in use (R188) and the branch (R190) -/

/-- The automatic choice after an evaluation at which a change is allowed: a change allows none of the next four. -/
def State.sidebandTaken (s : State) (w side : Nat) : State :=
  if side ≠ s.fld w AM.AM_STATUS_SB_USED then
    ((s.setAx w axSideLock 0).put w AM.AM_STATUS_SB_USED side).setAx w axSideLock 5
  else s.setAx w axSideLock 0

theorem sideChoice_lt (lsb usb : Int) : sideChoice lsb usb < 4 := by
  unfold sideChoice
  split
  · decide
  · split <;> decide

theorem State.sidebandTaken_sideband (s : State) (w : Nat) {side : Nat} (hside : side < 4) :
    (s.sidebandTaken w side).fld w AM.AM_STATUS_SB_USED = side := by
  unfold State.sidebandTaken
  split
  · exact (State.fld_put (s.setAx w axSideLock 0) _ (by decide)).trans (Nat.mod_eq_of_lt hside)
  next hsame => exact (Decidable.not_not.mp hsame).symm

theorem frame_sidebandTaken (s : State) (w side : Nat) :
    Frame [(w, AM.AM_STATUS_SB_USED.off)] s (s.sidebandTaken w side) := by
  unfold State.sidebandTaken
  split
  · exact (Frame.refl0.setAx.put (by simp)).setAx
  · exact Frame.refl0.setAx

/-- What a change of branch leaves. -/
def State.branchChanged (s : State) (w : Nat) : State :=
  s.changedCounted w AM.AM_STATUS_BRANCH (!s.flag w AM.AM_STATUS_BRANCH).toNat AM.BRANCH_SWITCH_COUNT evAmBranch

theorem State.branchChanged_flag (s : State) {w : Nat} (hw : w < 0x400) :
    (s.branchChanged w).flag w AM.AM_STATUS_BRANCH = !s.flag w AM.AM_STATUS_BRANCH := by
  rw [State.branchChanged, State.changedCounted_flag s hw (by decide) (by decide) (by decide) (by decide)]
  cases s.flag w AM.AM_STATUS_BRANCH <;> rfl

section
variable {s : State} {n : Fin 16}

theorem exec_sidebandEval_due {lsb usb : Int} (hl : s.live (winAM n) = true)
    (hauto : s.used (winAM n) AM.AM_CFG_SIDEBAND = 3) (henv : s.flag (winAM n) AM.AM_STATUS_ENVELOPE = false)
    (hlock : s.ax (winAM n) axSideLock ≤ 1) :
    exec (.sidebandEval n lsb usb) s = .next (s.sidebandTaken (winAM n) (sideChoice lsb usb)) := by
  have hzero : s.ax (winAM n) axSideLock - 1 = 0 := by omega
  have hfree : (s.setAx (winAM n) axSideLock 0).ax (winAM n) axSideLock = 0 := by simp [axSideLock]
  show execSidebandEval n lsb usb s = _
  simp [execSidebandEval, State.sidebandTaken, hl, hauto, henv, hzero, hfree]

theorem exec_branchSwitch_due (hl : s.live (winAM n) = true) (hboth : s.bothBranches (winAM n) = true) :
    exec (.branchSwitch n) s = .next (s.branchChanged (winAM n)) :=
  congrArg Host.Outcome.next (if_pos ⟨hl, hboth⟩)

end

/-- Settles O3: the loss of the carrier is one update that the detector follows by DETECT and FALLBACK, and the detector,
the sideband and the branch are fields of AM_STATUS that each change apart. -/
theorem amEvents : Obligations.AmEvents := by
  refine ⟨fun s n => rfl, fun s n => rfl, ?envelope, ?fallback,
    fun s n hl hlock hdet hfall => exec_carrierLost_unheard hl hlock hdet hfall, ?sync, ?sideband, ?branch⟩
  case envelope =>
    intro s n hl hlock hdet
    have hw := winAM_lt n
    exact ⟨_, exec_carrierLost_envelope hl hlock hdet, s.carrierDropped_flag hw, s.carrierDropped_count hw,
      s.changedCounted_event (by decide), frame_carrierDropped s hw⟩
  case fallback =>
    intro s n hl hlock hdet hfall
    have hw := winAM_lt n
    refine ⟨_, exec_carrierLost_fallback hl hlock hdet hfall, ?_, State.setEnvelope_flag _ _ _ _,
      State.setEnvelope_sideband _ _ _, ?_, (frame_carrierDropped s hw).setEnvelope (by simp)⟩
    · rw [State.setEnvelope_flag_apart _ _ _ _ (by decide) (by decide), s.carrierDropped_flag hw]
    · rw [State.setEnvelope_rd_own _ _ _ _ (by decide), s.carrierDropped_count hw]
  case sync =>
    intro s n hl hlock henv hdet hms
    exact ⟨_, exec_detectorReturnSync_due hl hlock henv hdet hms, State.setEnvelope_flag _ _ _ _,
      (State.setEnvelope_flag_apart _ _ _ _ (by decide) (by decide)).trans hlock, Frame.refl0.setEnvelope (by simp)⟩
  case sideband =>
    intro s n lsb usb hl hauto henv hlock
    exact ⟨_, exec_sidebandEval_due hl hauto henv hlock, s.sidebandTaken_sideband _ (sideChoice_lt lsb usb),
      frame_sidebandTaken s _ _⟩
  case branch =>
    intro s n hl hboth
    have hw := winAM_lt n
    exact ⟨_, exec_branchSwitch_due hl hboth, s.branchChanged_flag hw,
      s.changedCounted_count hw (by decide) (by decide) (by decide), s.changedCounted_event (by decide),
      frame_changedCounted s AM.AM_STATUS_BRANCH AM.BRANCH_SWITCH_COUNT hw⟩

end Sys2Proof.Machine
end

section
/-! PROOF. Measurements of FM, AM and OFDM demodulators (O2). -/

namespace Sys2Proof.Machine

section
variable {s : State} {w : Fin 1024}

/-- A unit that is present and in WARM or RUN measures (R191); which registers take what was measured is its kind's
alone. -/
theorem next_measured {t u : State} (hp : s.present w = true) (hl : s.live w = true) (h : u = t) :
    (Host.Outcome.next (if !(s.present w && s.live w) then s else u) : Out) = .next t :=
  congrArg Host.Outcome.next ((if_neg (by simp [hp, hl])).trans h)

/-! ## Blocks of 1 ms (R180, R191, R192) -/

variable {level snr : Int}

theorem exec_demodBlock_fm (hp : s.present w = true) (hl : s.live w = true) (hk : kindOf w = .fmDemod) :
    exec (.demodBlock w level snr) s = .next (
      let mp := multipath (s.hs w hsAmps) ((Config.freeWord s.fresh).getLsbD 0)
      let q := qIndex snr (if s.flag w FM.FM_CFG_MP_ON then mp * s.fld w FM.FM_CFG_MP_WEIGHT else 0)
        ((Config.freeWord s.fresh).getLsbD 0)
      (((((((s.takeCfg w).useFresh.putI w FM.LEVEL_LEVEL_DBUV level).put w FM.LEVEL_Q q).put w FM.LEVEL_MP mp).putI w
        FM.SNR snr).ageBlank w FM.FM_STATUS_BLANKING).fmControls w q).divBlock w) :=
  next_measured hp hl (by simp only [hk])

theorem exec_demodBlock_am (hp : s.present w = true) (hl : s.live w = true) (hk : kindOf w = .amDemod) :
    exec (.demodBlock w level snr) s = .next (
      let q := qIndex snr 0 ((Config.freeWord s.fresh).getLsbD 0)
      let u := if s.bothBranches w then s else s.put w AM.AM_STATUS_BRANCH 0
      (((((((u.takeCfg w).amLockMs w).useFresh.putI w AM.LEVEL_LEVEL_DBUV level).put w AM.LEVEL_Q q).putI w AM.CNR
        snr).ageBlank w AM.AM_STATUS_BLANKING).amConfig w |>.amControls w q).divBlock w) :=
  next_measured hp hl (by simp only [hk])

/-- An engine measures its level from synchronisation state 3 on. -/
theorem exec_demodBlock_ofdm (hp : s.present w = true) (hl : s.live w = true) (hk : kindOf w = .ofdm)
    (hsync : 3 ≤ s.syncState w) :
    exec (.demodBlock w level snr) s = .next (s.putI w OFDM.LEVEL_LEVEL_DBUV level) := by
  refine next_measured hp hl ?_
  simp only [hk]
  exact if_pos hsync

end

/-! ## Intervals of 10 ms, 100 ms and 1 s (R191, R200, R225) -/

/-- What 10 ms leave of an FM demodulator: the offset, the pilot's deviation, and how long the pilot has stood at its level
or more than 1.0 kHz below it (R177). -/
def State.pilotMeasured (s : State) (w : Nat) (a b : Int) : State :=
  (((s.putI w FM.OFFSET a).put w FM.PILOT_DEV b.toNat).setAx w axPilotUp
    (if s.used w FM.PILOT_MIN ≤ b.toNat then Nat.min (s.ax w axPilotUp + 1) 2 else 0)).setAx w axPilotDown
    (if b.toNat + 10 < s.used w FM.PILOT_MIN then Nat.min (s.ax w axPilotDown + 1) 2 else 0)

section
variable (s : State) (w : Nat) (a b : Int)

theorem State.pilotMeasured_offset : (s.pilotMeasured w a b).fld w FM.OFFSET = unsigned 32 a % 4294967296 := by
  rw [State.pilotMeasured, State.setAx_fld, State.setAx_fld, State.fld_put_apart _ _ (by decide) (by decide),
    State.putI_fld _ _ (by decide)]
  rfl

theorem State.pilotMeasured_deviation : (s.pilotMeasured w a b).fld w FM.PILOT_DEV = b.toNat % 256 := by
  rw [State.pilotMeasured, State.setAx_fld, State.setAx_fld, State.fld_put _ _ (by decide)]
  rfl

theorem State.pilotMeasured_up : (s.pilotMeasured w a b).ax w axPilotUp =
    if s.used w FM.PILOT_MIN ≤ b.toNat then Nat.min (s.ax w axPilotUp + 1) 2 else 0 := by
  simp [State.pilotMeasured, axPilotUp, axPilotDown]

theorem State.pilotMeasured_down : (s.pilotMeasured w a b).ax w axPilotDown =
    if b.toNat + 10 < s.used w FM.PILOT_MIN then Nat.min (s.ax w axPilotDown + 1) 2 else 0 := by
  simp [State.pilotMeasured, axPilotDown]

theorem frame_pilotMeasured :
    Frame [(w, FM.OFFSET.off), (w, FM.PILOT_DEV.off)] s (s.pilotMeasured w a b) :=
  ((Frame.refl0.putI (by simp)).put (by simp)).setAx.setAx

end

section
variable {s : State} {w : Fin 1024} {a b : Int}

theorem exec_metricIntervalEnd_fm10ms (hp : s.present w = true) (hl : s.live w = true) (hk : kindOf w = .fmDemod) :
    exec (.metricIntervalEnd w 0 a b) s = .next (s.pilotMeasured w a b) :=
  next_measured hp hl (by simp only [hk, Fin.val_zero, decide_eq_true_eq]; rfl)

theorem exec_metricIntervalEnd_fm100ms (hp : s.present w = true) (hl : s.live w = true) (hk : kindOf w = .fmDemod) :
    exec (.metricIntervalEnd w 1 a b) s = .next (
      let t := (((s.put w FM.DEVIATION (s.deviation w)).put w FM.RDS_DEV b.toNat).setHs w hsPeak []).useFresh
      if s.used w FM.DEV_LIMIT < t.fld w FM.DEVIATION then (t.count w FM.OVERDEV_COUNT).raiseKind w evFmOverdev
      else t) :=
  next_measured hp hl (by simp only [hk, Fin.val_one])

theorem exec_metricIntervalEnd_fm1s (hp : s.present w = true) (hl : s.live w = true) (hk : kindOf w = .fmDemod) :
    exec (.metricIntervalEnd w 2 a b) s = .next (
      let t := if s.atomState w = stRUN then s.setAx w axMpxSeconds (Nat.min (s.ax w axMpxSeconds + 1) 60) else s
      if t.ax w axMpxSeconds = 60 then t.putI w FM.MPX_POWER a else t.put w FM.MPX_POWER 0x8000) :=
  next_measured hp hl (by simp only [hk, Fin.val_two])

theorem exec_metricIntervalEnd_am10ms (hp : s.present w = true) (hl : s.live w = true) (hk : kindOf w = .amDemod) :
    exec (.metricIntervalEnd w 0 a b) s = .next (s.putI w AM.OFFSET a) :=
  next_measured hp hl (by simp only [hk, Fin.val_zero])

theorem exec_metricIntervalEnd_am100ms (hp : s.present w = true) (hl : s.live w = true) (hk : kindOf w = .amDemod) :
    exec (.metricIntervalEnd w 1 a b) s = .next (
      (((s.put w AM.MOD_DEPTH_NEG_DEPTH (s.modDepth w 0 100)).put w AM.MOD_DEPTH_POS_DEPTH
        (s.modDepth w 1 255)).setHs w hsPeak []).useFresh) :=
  next_measured hp hl (by simp only [hk, Fin.val_one])

/-- An engine counts bit errors from synchronisation state 3 on. -/
theorem exec_metricIntervalEnd_ofdm1s (hp : s.present w = true) (hl : s.live w = true) (hk : kindOf w = .ofdm)
    (hsync : 3 ≤ s.syncState w) :
    exec (.metricIntervalEnd w 2 a b) s = .next (s.put w OFDM.BER_PRE a.toNat) := by
  refine next_measured hp hl ?_
  simp only [hk, Fin.val_two]
  exact if_pos hsync

end

/-- Settles O2: each measurement is that of the unit's kind and interval; the engine's level and the pilot's 10 ms also by
field and frame. -/
theorem demodMetrics : Obligations.DemodMetrics := by
  refine ⟨fun s w level snr hp hl hk => exec_demodBlock_fm hp hl hk,
    fun s w level snr hp hl hk => exec_demodBlock_am hp hl hk, ?level, ?pilot,
    fun s w a b hp hl hk => exec_metricIntervalEnd_fm100ms hp hl hk,
    fun s w a b hp hl hk => exec_metricIntervalEnd_fm1s hp hl hk,
    fun s w a b hp hl hk => exec_metricIntervalEnd_am10ms hp hl hk,
    fun s w a b hp hl hk => exec_metricIntervalEnd_am100ms hp hl hk,
    fun s w a b hp hl hk hsync => exec_metricIntervalEnd_ofdm1s hp hl hk hsync⟩
  case level =>
    intro s w level snr hp hl hk hsync
    exact ⟨_, exec_demodBlock_ofdm hp hl hk hsync, State.putI_fld s level (by decide), frame_putI s _ _ _⟩
  case pilot =>
    intro s w a b hp hl hk
    exact ⟨_, exec_metricIntervalEnd_fm10ms hp hl hk, s.pilotMeasured_offset _ a b, s.pilotMeasured_deviation _ a b,
      s.pilotMeasured_up _ a b, s.pilotMeasured_down _ a b, frame_pilotMeasured s _ a b⟩

end Sys2Proof.Machine
end

section
/-! PROOF. Synchronisation and frames of OFDM engines (O9, O10). -/

namespace Sys2Proof.Machine

/-! ## Fast resynchronisation (R206) -/

/-- Engine 3 in WARM behind a channel filter that is VALID, in synchronisation state 7, with a value in its de-interleaver. -/
def resyncing : State :=
  (((((State.reset.linkUp 0x081 0 (winOFDM 3) 0).setUnit 0x081 { UnitX.init with valid := true }).put (winOFDM 3)
    UCB.UNIT_CTL_ENABLE 1).put (winOFDM 3) UCB.UNIT_CTL_RUN 1).put (winOFDM 3) OFDM.OFDM_STATUS_SYNC_STATE 7).setHs
    (winOFDM 3) hsSoft [1]

theorem resyncing_live : resyncing.live (winOFDM 3) = true := by decide +kernel

theorem resyncing_syncState : resyncing.syncState (winOFDM 3) = 7 := by decide +kernel

theorem resyncing_modeKept : resyncing.modeKept (winOFDM 3) = true := by decide +kernel

theorem resyncing_reconfPassed : resyncing.ax (winOFDM 3) axReconfPassed = 0 := by decide +kernel

theorem exec_ofdmResyncSuccess (n : Fin 16) (s : State) :
    exec (.ofdmResyncSuccess n) s = .next (s.firing (s.resynced (winOFDM n))) := rfl

/-- The command starts the de-interleaver anew. -/
theorem resyncing_resynced_soft :
    (resyncing.firing (resyncing.resynced (winOFDM 3))).hs (winOFDM 3) hsSoft = [] := by decide +kernel

/-- Refutes O9: where a fast resynchronisation succeeds and no switch point passed meanwhile, the statement's next state
clears the working memory of an engine alone and keeps what stood in its de-interleaver, which the command empties. -/
theorem not_ofdmSync : ¬ Obligations.OfdmSync := by
  intro h
  obtain ⟨-, -, -, -, -, -, hresync, -⟩ := h
  have hstated := hresync resyncing 3 resyncing_live resyncing_syncState resyncing_modeKept resyncing_reconfPassed
  rw [exec_ofdmResyncSuccess] at hstated
  have hsoft := congrArg (fun t => t.hs (winOFDM 3) hsSoft) (Host.Outcome.next.inj hstated)
  exact absurd (resyncing_resynced_soft.symm.trans hsoft) (by decide +kernel)

/-! ## The end of a frame (R225) -/

/-- The branch MERs, measured where the engine works with both inputs of a front end. -/
def State.branchesMeasured (s : State) (w : Nat) (both : Bool) (a b : Int) : State :=
  if both then (s.putI w OFDM.BRANCH_MER_A a).putI w OFDM.BRANCH_MER_B b else s

/-- What a frame end leaves of an engine that has frames. -/
def State.frameEnded (s : State) (w : Nat) (mer offset sco a b : Int) : State :=
  let q := if s.syncState w = 6 then (clampI 0 255 (mer / 25)).toNat else 0
  let f := s.feOfDemod w
  ((((((s.putI w OFDM.MER mer).put w OFDM.LEVEL_Q q).putI w OFDM.OFFSET offset).putI w OFDM.SCO sco).bump w
    OFDM.FRAME_COUNT).branchesMeasured w
      (s.mode3 f || (s.fld f FE.DIV_CTL_MODE == 2 && s.fld f FE.DIV_CTL_REF_WINDOW == w)) a b).put w
    OFDM.OFDM_STATUS_PROBING 0

theorem exec_ofdmFrameEnd_synced {s : State} {n : Fin 16} {mer offset sco a b : Int} (hl : s.live (winOFDM n) = true)
    (hsync : 3 ≤ s.syncState (winOFDM n)) :
    exec (.ofdmFrameEnd n mer offset sco a b) s = .next (s.frameEnded (winOFDM n) mer offset sco a b) :=
  congrArg Host.Outcome.next (if_neg (by simp [hl, hsync]))

section
variable (s : State) (w : Nat) (mer offset sco a b : Int)

theorem State.branchesMeasured_rd (both : Bool) {off : Nat} (h : off / 4 ≠ OFDM.BRANCH_MER_A.off / 4) :
    (s.branchesMeasured w both a b).rd w off = s.rd w off := by
  cases both
  · rfl
  · exact (State.putI_rd_reg (r := OFDM.BRANCH_MER_B) _ _ _ h).trans (State.putI_rd_reg _ _ _ h)

theorem State.branchesMeasured_fld (both : Bool) {q : FRef} (h : q.off / 4 ≠ OFDM.BRANCH_MER_A.off / 4) :
    (s.branchesMeasured w both a b).fld w q = s.fld w q :=
  congrArg q.of (s.branchesMeasured_rd w a b both h)

theorem State.frameEnded_mer :
    (s.frameEnded w mer offset sco a b).fld w OFDM.MER = unsigned 16 mer % 65536 := by
  rw [State.frameEnded, State.fld_put_apart _ _ (by decide) (by decide), State.branchesMeasured_fld _ _ _ _ _ (by decide),
    State.bump_fld_own _ _ (by decide), State.putI_fld_apart _ _ (by decide) (by decide),
    State.putI_fld_apart _ _ (by decide) (by decide), State.fld_put_apart _ _ (by decide) (by decide),
    State.putI_fld _ _ (by decide)]
  rfl

theorem State.frameEnded_count :
    (s.frameEnded w mer offset sco a b).rd w OFDM.FRAME_COUNT.off = s.rd w OFDM.FRAME_COUNT.off + 1 := by
  rw [State.frameEnded, State.rd_put_reg _ _ _ (by decide), State.branchesMeasured_rd _ _ _ _ _ (by decide), State.bump_rd,
    State.putI_rd_reg _ _ _ (by decide), State.putI_rd_reg _ _ _ (by decide), State.rd_put_reg _ _ _ (by decide),
    State.putI_rd_reg _ _ _ (by decide)]

theorem State.frameEnded_probing : (s.frameEnded w mer offset sco a b).fld w OFDM.OFDM_STATUS_PROBING = 0 :=
  State.fld_put _ _ (by decide)

end

/-! ## Control blocks (R211) -/

theorem Frame.foldl {α : Type} {ks : List (Nat × Nat)} {f : State → α → State} (hf : ∀ u x, Frame ks u (f u x))
    (l : List α) (s : State) : Frame ks s (l.foldl f s) := by
  induction l generalizing s with
  | nil => exact Frame.refl0
  | cons x l ih => exact Frame.step (ih (f s x)) (hf s x) (by simp)

/-- The blocks that an engine passes on stand in the histories of the units that take them. -/
theorem frame_giveControl (s : State) (w : Nat) (c : ControlArg) : Frame [] s (s.giveControl w c) :=
  Frame.foldl (fun u _ => frame_setHs u _ _ _) _ s

theorem State.giveControl_rd (s : State) (w : Nat) (c : ControlArg) (b off : Nat) :
    (s.giveControl w c).rd b off = s.rd b off :=
  (frame_giveControl s w c).regs b off (by simp)

section
variable {s : State} {n : Fin 16} {c : ControlArg}

theorem exec_controlBlockReceived_good (hl : s.live (winOFDM n) = true) (hsync : 3 ≤ s.syncState (winOFDM n))
    (hlost : s.syncState (winOFDM n) ≠ 7) (hok : c.ok = true) :
    exec (.controlBlockReceived n c) s = .next ((s.giveControl (winOFDM n) c).muxTake (winOFDM n)
      (muxNews ((s.giveControl (winOFDM n) c).fld (winOFDM n) OFDM.OFDM_CFG_SYSTEM == 0) c)) :=
  congrArg Host.Outcome.next ((if_neg (by simp [hl, hsync, hlost])).trans (if_neg (by simp [hok])))

theorem exec_controlBlockReceived_bad (hl : s.live (winOFDM n) = true) (hsync : 3 ≤ s.syncState (winOFDM n))
    (hlost : s.syncState (winOFDM n) ≠ 7) (hok : c.ok = false) :
    exec (.controlBlockReceived n c) s = .next ((s.giveControl (winOFDM n) c).count (winOFDM n)
      (if c.kind = 2 then OFDM.SDC_CRC_COUNT else OFDM.CTRL_CRC_COUNT)) :=
  congrArg Host.Outcome.next ((if_neg (by simp [hl, hsync, hlost])).trans (if_pos (by simp [hok])))

end

/-! ## Selections and the switch point (R212, R214) -/

theorem kindOf_winOFDM (n : Fin 16) : kindOf (winOFDM n) = .ofdm := by revert n; decide

theorem State.takeStaged_ofdm {s : State} {w : Nat} (hk : kindOf w = .ofdm) : s.takeStaged w = (s.selTake w, true) := by
  simp only [State.takeStaged, hk]

section
variable {s : State} {n : Fin 16}

theorem exec_selectionSwitch_due (hbusy : (s.unit (winOFDM n)).applyBusy = true) :
    exec (.selectionSwitch n) s = .next ((s.selTake (winOFDM n)).applyDone (winOFDM n)) := by
  have htake : s.takeStaged (winOFDM n) = (s.selTake (winOFDM n), true) := State.takeStaged_ofdm (kindOf_winOFDM n)
  have hboundary := State.boundary_takes hbusy (congrArg Prod.snd htake)
  rw [htake] at hboundary
  exact congrArg Host.Outcome.next hboundary

theorem exec_multiplexReconfigure_due (hl : s.live (winOFDM n) = true)
    (hpending : s.flag (winOFDM n) OFDM.OFDM_STATUS_RECONF_PENDING = true) (hlost : s.syncState (winOFDM n) ≠ 7) :
    exec (.multiplexReconfigure n) s = .next (s.reconfigure (winOFDM n)) :=
  congrArg Host.Outcome.next ((if_neg (by simp [hl, hpending])).trans (if_neg hlost))

end

/-- What a switch point leaves where the organisation to come has not been received: the old one stays. -/
def State.reconfMissed (s : State) (w : Nat) : State := (s.put w OFDM.OFDM_STATUS_RECONF_PENDING 0).setErr w 0x0506

section
variable (s : State) (w : Nat)

theorem State.reconfigure_missed (hnone : (s.bl (blNext w)).isEmpty = true) : s.reconfigure w = s.reconfMissed w :=
  if_pos hnone

theorem State.reconfigure_received (hnext : (s.bl (blNext w)).isEmpty = false) : s.reconfigure w = s.takeNext w :=
  if_neg (by simp [hnext])

theorem State.reconfMissed_flag : (s.reconfMissed w).flag w OFDM.OFDM_STATUS_RECONF_PENDING = false := by
  rw [State.reconfMissed, State.setErr_flag_apart _ (by decide) (by decide), State.flag_put _ _ (by decide)]
  decide

theorem frame_reconfMissed :
    Frame [(w, 0x080), (w, UCB.UNIT_ERR_CODE.off), (w, 0x00C)] s (s.reconfMissed w) :=
  (Frame.refl0.put (by simp [OFDM.OFDM_STATUS_RECONF_PENDING])).setErr (by simp) (by simp)

end

/-! ## Blocks of a selection (R216, R217) -/

/-- May a block of a selection be delivered: a synchronised engine in RUN, and a selection in use that the multiplex holds, in
a coding that it takes? -/
structure SelDelivers (s : State) (w i : Nat) : Prop where
  run : s.atomState w = stRUN
  synced : s.syncState w = 6
  used : s.selUsed w i = true
  present : s.flag w (OFDM.SEL_PRESENT.at i) = true
  supported : s.flag w (OFDM.SEL_UNSUPPORTED.at i) = false
  carries : s.selKind w i ≠ 0

/-- The command's own condition for a block that is dropped. -/
theorem SelDelivers.not_dropped {s : State} {w i : Nat} (h : SelDelivers s w i) :
    ¬ (!(s.atomState w == stRUN && s.syncState w == 6 && s.selUsed w i && s.flag w (OFDM.SEL_PRESENT.at i) &&
      !s.flag w (OFDM.SEL_UNSUPPORTED.at i) && s.selKind w i != 0)) = true := by
  obtain ⟨hrun, hsync, hused, hpresent, hsupported, hcarries⟩ := h
  simp [hrun, hsync, hused, hpresent, hsupported, hcarries]

theorem exec_superframeDecoded_unsynced {s : State} {n : Fin 16} {sel : Fin 64} {b : BlockArg}
    (h : SelDelivers s (winOFDM n) sel) (hk : s.selKind (winOFDM n) sel = 2)
    (hfire : fireNext ((fitInts 64 (s.hs (winOFDM n) hsFire)).getD sel 0) b.fire = 0) :
    exec (.superframeDecoded n sel b) s =
      .next (s.setHs (winOFDM n) hsFire ((fitInts 64 (s.hs (winOFDM n) hsFire)).set sel 0)) := by
  refine congrArg Host.Outcome.next ((if_neg h.not_dropped).trans ((if_pos ⟨hk, hfire⟩).trans ((if_pos hk).trans ?_)))
  exact congrArg (fun v => s.setHs (winOFDM n) hsFire ((fitInts 64 (s.hs (winOFDM n) hsFire)).set sel v)) hfire

/-! ## The choice of aerial in the preamble (R220) -/

/-- What a preamble measured on input B (`onB`) or A leaves in the hidden slots of an engine: the MER of the input in use and
the ages of both, and whether this frame is the first on an input newly switched to. -/
def State.preambleNoted (s : State) (w : Nat) (onB : Bool) (mer : Int) : State :=
  let alt := if onB then axMerA else axMerB
  let age := if onB then axAgeA else axAgeB
  let first := s.ax w axPrevIn != 0 && (s.ax w axPrevIn == 2) != onB
  (((((s.setAx w (if onB then axMerB else axMerA) (merCode mer)).setAx w (if onB then axAgeB else axAgeA) 0).setAx w age
    (Nat.min (s.ax w age + 1) 1000)).setAx w axMerLeft (if first then s.ax w alt else s.ax w axMerLeft)).setAx w
    axPrevFirst (b2n first)).setAx w axPrevIn (if onB then 2 else 1)

/-- What the rule that applies does: nothing, a request for the other input, or one for a probe of it. -/
def State.preambleActed (s : State) (f w rule : Nat) (onB inWindow : Bool) : State :=
  if rule = 0 then s else (s.requestInput f (!onB) inWindow).setAx w axOfdmProbe (if rule = 2 then 1 else 0)

theorem exec_preambleMeasured_mode2 {s : State} {n : Fin 16} (mer : Int) (inWindow : Bool) {f : Nat}
    (hf : s.feOfDemod (winOFDM n) = f) (hl : s.live (winOFDM n) = true) (hsync : 3 ≤ s.syncState (winOFDM n))
    (hfed : f ≠ 0x3FF) (hmode : s.fld f FE.DIV_CTL_MODE = 2) (href : s.fld f FE.DIV_CTL_REF_WINDOW = winOFDM n) :
    ∃ rule, exec (.preambleMeasured n mer inWindow) s =
      .next ((s.preambleNoted (winOFDM n) (s.flag f FE.FE_STATUS_ON_B) mer).preambleActed f (winOFDM n) rule
        (s.flag f FE.FE_STATUS_ON_B) inWindow) := by
  subst hf
  generalize hB : s.flag (s.feOfDemod (winOFDM n)) FE.FE_STATUS_ON_B = onB
  show ∃ rule, execPreambleMeasured n mer inWindow s = _
  simp only [execPreambleMeasured, hl, hsync, hmode, href, hB]
  cases onB
  · exact ⟨_, congrArg Host.Outcome.next (if_neg (by simp [hfed]))⟩
  · exact ⟨_, congrArg Host.Outcome.next (if_neg (by simp [hfed]))⟩

section
variable (s : State) (f w rule : Nat) (onB inWindow : Bool)

theorem State.requestInput_ax {v j : Nat} (hj : j < 64) (hreq : j ≠ axFeRequest) :
    (s.requestInput f onB inWindow).ax v j = s.ax v j := by
  have hset : ∀ x, (s.setAx f axFeRequest x).ax v j = s.ax v j := fun x => by
    rw [State.ax_setAx _ _ _ _ _ (by decide) hj, if_neg (fun h => hreq h.2)]
  cases inWindow
  · exact (State.count_ax _ _ _ _ _).trans (hset _)
  · exact hset _

theorem State.preambleActed_ax {v j : Nat} (hj : j < 64) (hreq : j ≠ axFeRequest) (hprobe : j ≠ axOfdmProbe) :
    (s.preambleActed f w rule onB inWindow).ax v j = s.ax v j := by
  rw [State.preambleActed]
  split
  · rfl
  · rw [State.ax_setAx _ _ _ _ _ (by decide) hj, if_neg (fun h => hprobe h.2), State.requestInput_ax _ _ _ _ hj hreq]

theorem State.preambleNoted_mer (mer : Int) :
    (s.preambleNoted w onB mer).ax w (if onB then axMerB else axMerA) = merCode mer := by
  cases onB <;> simp [State.preambleNoted, axMerA, axMerB, axAgeA, axAgeB, axMerLeft, axPrevFirst, axPrevIn]

theorem State.preambleNoted_input (mer : Int) :
    (s.preambleNoted w onB mer).ax w axPrevIn = if onB then 2 else 1 := by
  rw [State.preambleNoted, State.ax_setAx _ _ _ _ _ (by decide) (by decide), if_pos ⟨rfl, rfl⟩]

end

/-- Settles O10: a control block and a block of a selection are the update of their branch; the frame end, the failed CRC,
the missed switch point and the preamble also by what reads back of each. -/
theorem ofdmFrames : Obligations.OfdmFrames := by
  refine ⟨?frameEnd, ?good, fun s n c hl hsync hlost hok => exec_controlBlockReceived_bad hl hsync hlost hok, ?failed,
    fun s n hbusy => exec_selectionSwitch_due hbusy, ?missed, ?received, ?delivered, ?unsynced, ?preamble⟩
  case frameEnd =>
    intro s n mer offset sco a b hl hsync
    exact ⟨_, exec_ofdmFrameEnd_synced hl hsync, s.frameEnded_mer _ mer offset sco a b,
      s.frameEnded_count _ mer offset sco a b, s.frameEnded_probing _ mer offset sco a b⟩
  case good =>
    intro s n c hl hsync hlost hok
    rw [exec_controlBlockReceived_good hl hsync hlost hok, State.muxTake]
    cases hcount : (muxNews ((s.giveControl (winOFDM n) c).fld (winOFDM n) OFDM.OFDM_CFG_SYSTEM == 0) c).count with
    | none => simp only [hcount, Option.elim_none]
    | some x => simp only [hcount, Option.elim_some]
  case failed =>
    intro s n c hl hsync hlost hok hkind
    have hw := winOFDM_lt n
    refine ⟨_, exec_controlBlockReceived_bad hl hsync hlost hok, ?_⟩
    rw [if_neg hkind]
    exact ⟨(State.count_rd_own _ hw (by decide) (by decide)).trans (congrArg counted (s.giveControl_rd _ c _ _)),
      ((frame_giveControl s _ c).mono (by simp)).count (by simp) (by simp [ovfOff_window hw]) (by simp)⟩
  case missed =>
    intro s n hl hpending hlost hnone
    refine ⟨s.reconfMissed (winOFDM n), ?_, s.reconfMissed_flag _, State.setErr_code _ _ (by decide),
      frame_reconfMissed s _⟩
    rw [exec_multiplexReconfigure_due hl hpending hlost, State.reconfigure_missed _ _ hnone]
  case received =>
    intro s n hl hpending hlost hnext
    rw [exec_multiplexReconfigure_due hl hpending hlost, State.reconfigure_received _ _ hnext]
  case delivered =>
    intro s n sel b hrun hsync hused hpresent hsupported hcarries hfire
    have hsel : SelDelivers s (winOFDM n) sel := ⟨hrun, hsync, hused, hpresent, hsupported, hcarries⟩
    exact congrArg Host.Outcome.next ((if_neg hsel.not_dropped).trans (if_neg (fun h => hfire h.1 h.2)))
  case unsynced =>
    intro s n sel b hrun hsync hused hpresent hsupported hk hfire
    exact exec_superframeDecoded_unsynced ⟨hrun, hsync, hused, hpresent, hsupported, by simp [hk]⟩ hk hfire
  case preamble =>
    intro s n mer inWindow hl hsync hfed hmode href
    obtain ⟨rule, hnext⟩ := exec_preambleMeasured_mode2 mer inWindow rfl hl hsync hfed hmode href
    refine ⟨_, hnext, ?_, ?_⟩
    · rw [State.preambleActed_ax _ _ _ _ _ _ (by split <;> decide) (by split <;> decide) (by split <;> decide),
        State.preambleNoted_mer]
    · rw [State.preambleActed_ax _ _ _ _ _ _ (by decide) (by decide) (by decide), State.preambleNoted_input]

end Sys2Proof.Machine
end

section
/-! PROOF. The Guestbook's messages and passes (O24). -/

namespace Sys2Proof.Machine

/-! ## The Guestbook is read from memory (R241, R242) -/

section
variable {s t : State}

theorem State.gbRec_of_mem (h : t.mem = s.mem) (i : Nat) : t.gbRec i = s.gbRec i := by
  simp [State.gbRec, State.rdWord, State.rdByte, h]

theorem State.gbProbe_of_mem (h : t.mem = s.mem) (key : Word) (m n i : Nat) :
    t.gbProbe key m n i = s.gbProbe key m n i := by
  induction n generalizing i with
  | zero => rfl
  | succ n ih => simp only [State.gbProbe, State.gbRec_of_mem h, ih]

theorem State.gbFind_of_mem (h : t.mem = s.mem) (key : Word) (m : Nat) : t.gbFind key m = s.gbFind key m :=
  congrArg Prod.fst (State.gbProbe_of_mem h key m 64 (gbHome key m))

theorem State.gbCount_of_mem (h : t.mem = s.mem) : t.gbCount = s.gbCount := by
  simp only [State.gbCount, State.gbAll, h]

end

/-! ## A message that is served and mirrored (R251, R463) -/

/-- The state that the body of a Guestbook command acts on: the message is taken, and a lead has mirrored it. -/
def State.gbTold (s : State) (ph : Fin 8) (op : Nat) (args : List Word) : State :=
  (s.heard ph).mirrorMsg 2 (w32 op :: args)

section
variable (s : State) (ph : Fin 8) (op : Nat) (args : List Word)

@[simp] theorem State.gbTold_mem : (s.gbTold ph op args).mem = s.mem := by simp [State.gbTold]

theorem State.gbTold_gbRec (i : Nat) : (s.gbTold ph op args).gbRec i = s.gbRec i :=
  State.gbRec_of_mem (by simp) i

theorem State.gbTold_gbFind (key : Word) (m : Nat) : (s.gbTold ph op args).gbFind key m = s.gbFind key m :=
  State.gbFind_of_mem (by simp) key m

end

section
variable {s : State} {ph : Fin 8} {tag : BitVec 8} {args : List Word}

/-- A Guestbook command after the restore replies with what its body makes of the message. -/
theorem State.gbServe_answers {op : Nat} {body : State → State × List Word} {t : State} {ws : List Word}
    (h : s.serves ph op = true) (hready : s.guest.ready = true) (hbody : body (s.gbTold ph op args) = (t, ws)) :
    s.gbServe ph op tag args body = t.reply ph op tag.toNat ws := by
  rw [State.gbServe_serves s h hready, ← State.gbTold, hbody]

/-! ## Settings and lookups -/

theorem exec_gbConfig_inRange (h : s.serves ph 0x40 = true) (hready : s.guest.ready = true)
    (hqueue : arg args 0 = 0x3FF ∨ kindOf (arg args 0) = .queue) (hckpt : arg args 1 ≤ 255) (hage : 1 ≤ arg args 2)
    (hageTop : arg args 2 ≤ 65535) (hexpiry : 1 ≤ arg args 3) (hexpiryTop : arg args 3 ≤ 65535) :
    exec (.gbConfig ph tag args) s = .next (
      let t := s.gbTold ph 0x40 args
      ({ t with guest := { t.guest with queue := arg args 0, ckptMin := arg args 1, maxAge := arg args 2,
                                        listExpiry := arg args 3 } }).reply ph 0x40 tag.toNat [0]) := by
  refine congrArg Host.Outcome.next (State.gbServe_answers h hready (if_neg ?_))
  rintro (⟨hnone, hother⟩ | hrange)
  · exact hqueue.elim hnone hother
  · omega

/-- What GB_LOOKUP replies of a record found at an index, or of none. -/
def State.gbLookupReply (s : State) : Option Nat → List Word
  | some i => [0, w32 i] ++ (s.gbRec i).words
  | none => [0, 0xFFFFFFFF] ++ GRec.free.words

/-- With a frequency given, the lookup is the search of R242. -/
theorem exec_gbLookup_identity (h : s.serves ph 0x41 = true) (hready : s.guest.ready = true)
    (hfreq : arg args 1 % 16777216 ≠ 0) :
    exec (.gbLookup ph tag args) s = .next ((s.gbTold ph 0x41 args).reply ph 0x41 tag.toNat
      (s.gbLookupReply (s.gbFind (args.getD 0 0) (arg args 1 % 268435456)))) := by
  have hplace : ¬ arg args 1 % 268435456 % 16777216 = 0 := by omega
  refine congrArg Host.Outcome.next (State.gbServe_answers h hready ?_)
  simp only [if_neg hplace, State.gbTold_gbFind]
  cases s.gbFind (args.getD 0 0) (arg args 1 % 268435456) with
  | none => rfl
  | some i => simp only [State.gbLookupReply, State.gbTold_gbRec]

/-! ## Insertion (R244, R245, R247) -/

/-- The record that GB_INSERT brings: UPDATING is not the caller's to set. -/
def gbOffered (args : List Word) : GRec :=
  ⟨args.getD 0 0, setBit (args.getD 1 0) 31 false, args.getD 2 0, args.getD 3 0⟩

theorem exec_gbInsert_malformed (h : s.serves ph 0x42 = true) (hready : s.guest.ready = true)
    (hbad : (gbOffered args).ok = false) :
    exec (.gbInsert ph tag args) s = .next ((s.gbTold ph 0x42 args).reply ph 0x42 tag.toNat [0x0231]) :=
  congrArg Host.Outcome.next (State.gbServe_answers h hready (if_pos (congrArg (!·) hbad)))

theorem exec_gbInsert_new {i : Nat} (h : s.serves ph 0x42 = true) (hready : s.guest.ready = true)
    (hok : (gbOffered args).ok = true)
    (hnew : (s.gbTold ph 0x42 args).gbFind (args.getD 0 0) (gbOffered args).place = none)
    (hslot : ((s.gbTold ph 0x42 args).gbInsert (gbOffered args)).2 = some i) :
    exec (.gbInsert ph tag args) s = .next (
      (((s.gbTold ph 0x42 args).gbInsert (gbOffered args)).1.gbJoinEqual i).reply ph 0x42 tag.toNat [0, w32 i]) := by
  have hpair : (s.gbTold ph 0x42 args).gbInsert (gbOffered args) =
      (((s.gbTold ph 0x42 args).gbInsert (gbOffered args)).1, some i) := Prod.ext rfl hslot
  refine congrArg Host.Outcome.next (State.gbServe_answers h hready ((if_neg (by simpa [gbOffered] using hok)).trans ?_))
  unfold gbOffered at *
  simp only [hnew]
  rw [hpair]

theorem exec_gbInsert_known {i : Nat} (h : s.serves ph 0x42 = true) (hready : s.guest.ready = true)
    (hok : (gbOffered args).ok = true)
    (hknown : (s.gbTold ph 0x42 args).gbFind (args.getD 0 0) (gbOffered args).place = some i) :
    exec (.gbInsert ph tag args) s = .next (
      let t := s.gbTold ph 0x42 args
      (t.gbSet i { gbOffered args with
        w3 := w32 ((args.getD 3 0).toNat - (args.getD 3 0).toNat % 262144 + (t.gbRec i).link) }).reply
        ph 0x42 tag.toNat [0, w32 i]) := by
  refine congrArg Host.Outcome.next (State.gbServe_answers h hready ((if_neg (by simpa [gbOffered] using hok)).trans ?_))
  unfold gbOffered at *
  simp only [hknown]

/-! ## Commands on a record that stands (R243, R245) -/

theorem exec_gbDelete_occupied (h : s.serves ph 0x43 = true) (hready : s.guest.ready = true)
    (hocc : (s.gbTold ph 0x43 args).gbOccupied (arg args 0) = true) :
    exec (.gbDelete ph tag args) s = .next (
      ((s.gbTold ph 0x43 args).gbFree (arg args 0)).reply ph 0x43 tag.toNat [0]) :=
  congrArg Host.Outcome.next (State.gbServe_answers h hready (if_pos hocc))

theorem exec_gbFlags_occupied (h : s.serves ph 0x44 = true) (hready : s.guest.ready = true)
    (hocc : (s.gbTold ph 0x44 args).gbOccupied (arg args 0) = true) :
    exec (.gbFlags ph tag args) s = .next (
      let t := s.gbTold ph 0x44 args
      let r := t.gbRec (arg args 0)
      let mask := args.getD 1 0 &&& 0x30000000#32
      let u := t.gbSet (arg args 0) { r with w3 := (r.w3 &&& ~~~mask) ||| (args.getD 2 0 &&& mask) }
      u.reply ph 0x44 tag.toNat (0 :: (u.gbRec (arg args 0)).words)) :=
  congrArg Host.Outcome.next (State.gbServe_answers h hready (if_pos hocc))

theorem exec_gbLink_occupied (h : s.serves ph 0x45 = true) (hready : s.guest.ready = true)
    (ha : (s.gbTold ph 0x45 args).gbOccupied (arg args 0) = true)
    (hb : (s.gbTold ph 0x45 args).gbOccupied (arg args 1) = true) :
    exec (.gbLink ph tag args) s = .next (
      ((s.gbTold ph 0x45 args).gbJoin (arg args 0) (arg args 1) ((args.getD 2 0).getLsbD 0)).reply
        ph 0x45 tag.toNat [0]) :=
  congrArg Host.Outcome.next (State.gbServe_answers h hready (if_pos (Bool.and_eq_true_iff.mpr ⟨ha, hb⟩)))

theorem exec_gbUnlink_occupied (h : s.serves ph 0x46 = true) (hready : s.guest.ready = true)
    (hocc : (s.gbTold ph 0x46 args).gbOccupied (arg args 0) = true) :
    exec (.gbUnlink ph tag args) s = .next (
      ((s.gbTold ph 0x46 args).gbUnring (arg args 0)).reply ph 0x46 tag.toNat [0]) :=
  congrArg Host.Outcome.next (State.gbServe_answers h hready (if_pos hocc))

/-! ## Checkpoint, clearing and status (R248, R249, R251) -/

theorem exec_gbCheckpoint_runs (h : s.serves ph 0x47 = true) (hready : s.guest.ready = true)
    (hruns : (s.gbTold ph 0x47 args).ckptRuns = true) :
    exec (.gbCheckpoint ph tag args) s = .next (
      let t := s.gbTold ph 0x47 args
      (t.gbSave t.gbDirtyPages).reply ph 0x47 tag.toNat [0, w32 t.gbDirtyPages.length]) :=
  congrArg Host.Outcome.next (State.gbServe_answers h hready (if_pos hruns))

/-- The word that confirms GB_CLEAR spells "GBCX". -/
theorem exec_gbClear_confirmed (h : s.serves ph 0x48 = true) (hready : s.guest.ready = true)
    (hword : args.getD 0 0 = 0x47424358) :
    exec (.gbClear ph tag args) s = .next (
      let t := s.gbTold ph 0x48 args
      let v := (t.gbAll.foldl (fun u i => u.gbChange 3 i i (t.gbRec i)) t).gbErase
      ({ v with mem := Store.dropRange ckptBase (ckptBase + 0x400000) v.mem
                guest := { v.guest with dirty := [], measuredAt := [], heardAt := [] } }).reply
        ph 0x48 tag.toNat [0]) :=
  congrArg Host.Outcome.next (State.gbServe_answers h hready (if_neg (not_not_intro hword)))

theorem exec_gbClear_unconfirmed (h : s.serves ph 0x48 = true) (hready : s.guest.ready = true)
    (hword : args.getD 0 0 ≠ 0x47424358) :
    exec (.gbClear ph tag args) s = .next ((s.gbTold ph 0x48 args).reply ph 0x48 tag.toNat [0x0202]) :=
  congrArg Host.Outcome.next (State.gbServe_answers h hready (if_pos hword))

theorem exec_gbStatus_serves (h : s.serves ph 0x49 = true) :
    exec (.gbStatus ph tag args) s = .next ((s.heard ph).reply ph 0x49 tag.toNat
      [0, w32 (b2n s.guest.ready + 256 * (if s.guest.ready then s.gbCount else 0)), w32 s.gbDirtyPages.length,
        s.guest.fullCount, s.guest.ringFullCount, s.guest.badRecords]) := by
  have hcount : (s.heard ph).gbCount = s.gbCount := State.gbCount_of_mem (State.heard_mem s ph)
  refine congrArg Host.Outcome.next ((State.serve_serves s h).trans ?_)
  simp only [State.heard_guest, State.gbDirtyPages, hcount]

end

/-! ## Passes of the firmware's own (R246, R248, R250) -/

section
variable {s : State}

theorem exec_gbSweep_ready (hready : s.guest.ready = true) (hserves : s.fw.inService = true) :
    exec .gbSweep s = .next (
      let t := s.gbAll.foldl State.gbAgeOne s
      t.gbPurge t.gbCount) :=
  congrArg Host.Outcome.next (if_pos (Bool.and_eq_true_iff.mpr ⟨hready, hserves⟩))

theorem exec_gbCheckpointWrite_due (hruns : s.ckptRuns = true) (hmin : s.guest.ckptMin ≠ 0) :
    exec .gbCheckpointWrite s = .next (s.gbSave s.gbDirtyPages) :=
  congrArg Host.Outcome.next (if_pos (Bool.and_eq_true_iff.mpr ⟨hruns, bne_iff_ne.mpr hmin⟩))

theorem exec_gbDailyCheckpoint_runs (hruns : s.ckptRuns = true) :
    exec .gbDailyCheckpoint s = .next (s.gbSave (dedup (s.gbAll.map (fun i => i / 16)))) :=
  congrArg Host.Outcome.next (if_pos hruns)

/-- The restored Guestbook with the latches of the events as they stood before it, and GB_READY raised. -/
def State.gbRestored (s : State) : State :=
  ({ s.gbRestore with board := { s.gbRestore.board with latch := s.board.latch } }).raise 93

theorem exec_gbRestoreDone_pending (hready : s.guest.ready = false) (hgoes : s.guest.stopped = false)
    (hserves : s.fw.inService = true) : exec .gbRestoreDone s = .next s.gbRestored :=
  congrArg Host.Outcome.next (if_pos (by simp [hready, hgoes, hserves]))

theorem State.gbRestored_guest (s : State) : s.gbRestored.guest = s.gbRestore.guest := by
  rw [State.gbRestored, State.raise_guest]

theorem State.gbRestored_mem (s : State) : s.gbRestored.mem = s.gbRestore.mem := by
  rw [State.gbRestored, State.raise_mem]

theorem State.gbRestored_event (s : State) : s.gbRestored.board.latch.getLsbD 93 = true :=
  State.raise_event _ _ (by decide)

end

/-- Settles O24: a message by what its body makes of the state that heard it, a pass by its condition. -/
theorem guestbook : Obligations.Guestbook := by
  refine ⟨fun s ph tag args h hready hqueue hckpt hage hageTop hexpiry hexpiryTop =>
      exec_gbConfig_inRange h hready hqueue hckpt hage hageTop hexpiry hexpiryTop,
    ?found, ?missing,
    fun s ph tag args h hready hbad => exec_gbInsert_malformed h hready hbad,
    fun s ph tag args i h hready hok hnew hslot => exec_gbInsert_new h hready hok hnew hslot,
    fun s ph tag args i h hready hok hknown => exec_gbInsert_known h hready hok hknown,
    fun s ph tag args h hready hocc => exec_gbDelete_occupied h hready hocc,
    fun s ph tag args h hready hocc => exec_gbFlags_occupied h hready hocc,
    fun s ph tag args h hready ha hb => exec_gbLink_occupied h hready ha hb,
    fun s ph tag args h hready hocc => exec_gbUnlink_occupied h hready hocc,
    fun s ph tag args h hready hruns => exec_gbCheckpoint_runs h hready hruns,
    fun s ph tag args h hready hword => exec_gbClear_confirmed h hready hword,
    fun s ph tag args h hready hword => exec_gbClear_unconfirmed h hready hword,
    fun s ph tag args h => exec_gbStatus_serves h,
    fun s hready hserves => exec_gbSweep_ready hready hserves,
    fun s hruns hmin => exec_gbCheckpointWrite_due hruns hmin,
    fun s hruns => exec_gbDailyCheckpoint_runs hruns,
    fun s hready hgoes hserves => ⟨s.gbRestored, exec_gbRestoreDone_pending hready hgoes hserves, s.gbRestored_guest,
      s.gbRestored_mem, s.gbRestored_event⟩⟩
  case found =>
    intro s ph tag args i h hready hfreq hfound
    rw [exec_gbLookup_identity h hready hfreq, hfound]
    rfl
  case missing =>
    intro s ph tag args h hready hfreq hmissing
    rw [exec_gbLookup_identity h hready hfreq, hmissing]
    rfl

end Sys2Proof.Machine
end

section
/-! PROOF. What the SIDE_DATA units receive (O25). -/

namespace Sys2Proof.Machine

/-! ## FIGs (R235) and PAD (R236) -/

section
variable {s : State} {n : Fin 64} {c : Coded}

/-- A FIG that is cut from its FIB is interpreted where the FIB's CRC held, and queued in any case. -/
theorem exec_figReceived_cut {x : List Nat × List Nat} (hruns : s.sdRuns (winSD n) = true)
    (hkind : s.sdKind0 (winSD n) = 2) (hnext : s.nextCoded (winSD n) 0 = some c) (hcut : cutFig c.bytes = some x) :
    exec (.figReceived n) s = .next (
      let t := s.keepRest (winSD n) 0 c x.2
      (if c.good then (figItems x.1).foldl (fun u i => u.figNews (winSD n) i) t else t).figQueue (winSD n) x.1 c.good
        (c.stamp.extractLsb' 0 32)) := by
  refine congrArg Host.Outcome.next ((if_neg (by simp [hruns, hkind])).trans ?_)
  simp only [hnext, hcut]

/-- What is left of a FIB holds no FIG more, and goes. -/
theorem exec_figReceived_end (hruns : s.sdRuns (winSD n) = true) (hkind : s.sdKind0 (winSD n) = 2)
    (hnext : s.nextCoded (winSD n) 0 = some c) (hcut : cutFig c.bytes = none) :
    exec (.figReceived n) s = .next (s.dropCoded (winSD n) 0) := by
  refine congrArg Host.Outcome.next ((if_neg (by simp [hruns, hkind])).trans ?_)
  simp only [hnext, hcut]

/-- PAD that follows on: what is under way of the data groups is kept. -/
theorem exec_padDataGroup_continues (hruns : s.sdRuns (winSD n) = true) (hdab : s.padOfDab (winSD n) = true)
    (hnext : s.nextCoded (winSD n) 1 = some c) (htag : c.tag ≠ 1) :
    exec (.padDataGroup n) s = .next (
      let t := s.dropCoded (winSD n) 1
      let r := xpadFields (natPairs (t.bl (blSd (winSD n) sdCis 0))) c.bytes
      r.1.foldl (fun u f => u.padField (winSD n) (c.stamp.extractLsb' 0 32) f)
        (t.setBl (blSd (winSD n) sdCis 0) (r.2.flatMap (fun p => [p.1, p.2])))) := by
  refine congrArg Host.Outcome.next ((if_neg (by simp [hruns, hdab])).trans ?_)
  simp only [hnext, if_neg htag]

/-! ## Packets (R237) -/

/-- A packet of an address that the unit takes is one record, or under DG_MODE a part of its data group. -/
theorem exec_packetReceived_addressed {x : List Nat × List Nat} {t : State} (ht : s.keepRest (winSD n) 1 c x.2 = t)
    (hruns : s.sdRuns (winSD n) = true) (hkind : s.sdKind1 (winSD n) = 2) (hnext : s.nextCoded (winSD n) 1 = some c)
    (hcut : cutPacket c.bytes = some x)
    (haddr : (t.flag (winSD n) SD.PKT_ADDR_ANY || t.fld (winSD n) SD.PKT_ADDR_ADDR == beNat (x.1.take 2) % 1024) = true) :
    exec (.packetReceived n) s = .next (
      if !t.flag (winSD n) SD.SD_CFG_DG_MODE then
        t.sdSend (winSD n) (t.flag (winSD n) SD.DATA) ⟨3, 0, t.sdSel (winSD n), beNat (x.1.take 2) % 1024,
          c.stamp.extractLsb' 0 32, !(c.good && crc16Holds x.1), x.1.map byteOf⟩
      else
        t.groupPacket (winSD n) (beNat (x.1.take 2) % 1024) x.1 (c.good && crc16Holds x.1) (c.stamp.extractLsb' 0 32)) := by
  subst ht
  refine congrArg Host.Outcome.next ((if_neg (by simp [hruns, hkind])).trans ?_)
  simp only [hnext, hcut, haddr, Bool.not_true, Bool.false_eq_true, if_false]

/-! ## DRM (R238) -/

section
variable (hruns : s.sdRuns (winSD n) = true)
include hruns

theorem exec_drmSdcEntity_entity (hkind : s.sdKind0 (winSD n) = 3) (hnext : s.nextCoded (winSD n) 0 = some c)
    (htag : c.tag = 2) : exec (.drmSdcEntity n .entity) s = .next (s.sdcEntity (winSD n) c) := by
  refine congrArg Host.Outcome.next ((if_neg (by simp [hruns])).trans ?_)
  simp only [hkind, if_true, hnext, htag]

theorem exec_drmSdcEntity_fac (hkind : s.sdKind0 (winSD n) = 3) (hnext : s.nextCoded (winSD n) 0 = some c)
    (htag : c.tag = 1) :
    exec (.drmSdcEntity n .fac) s = .next (
      (s.dropCoded (winSD n) 0).sdSend (winSD n) (s.flag (winSD n) SD.SDC_MASK_FAC)
        ⟨6, 1, 0xFF, 0, c.stamp.extractLsb' 0 32, !c.good, c.data⟩) := by
  refine congrArg Host.Outcome.next ((if_neg (by simp [hruns])).trans ?_)
  simp only [hkind, if_true, hnext, htag]

/-- Text comes from an audio decoder that carries no PAD of DAB. -/
theorem exec_drmSdcEntity_text {stream : Fin 4} {ok : Bool} {time : Word} {data : List Byte}
    (hkind : s.sdKind1 (winSD n) = 1) (hdab : s.padOfDab (winSD n) = false) :
    exec (.drmSdcEntity n (.text stream ok time data)) s = .next (
      s.sdSend (winSD n) (s.flag (winSD n) SD.DATA) ⟨7, 0, s.sdSel (winSD n), stream.val, time, !ok, data⟩) :=
  congrArg Host.Outcome.next ((if_neg (by simp [hruns])).trans (if_neg (by simp [hkind, hdab])))

theorem exec_drmSdcEntity_packet {len : Nat} (hkind : s.sdKind1 (winSD n) = 3)
    (hnext : s.nextCoded (winSD n) 1 = some c) :
    exec (.drmSdcEntity n (.packet len)) s = .next (
      (s.keepRest (winSD n) 1 c (c.bytes.drop len)).sdSend (winSD n) (s.flag (winSD n) SD.DATA)
        ⟨7, 1, s.sdSel (winSD n), (c.bytes.take len).headD 0 / 16 % 4, c.stamp.extractLsb' 0 32,
          !(c.good && crc16Holds (c.bytes.take len)), (c.bytes.take len).map byteOf⟩) := by
  refine congrArg Host.Outcome.next ((if_neg (by simp [hruns])).trans ?_)
  simp only [hkind, if_true, hnext]

theorem exec_drmSdcEntity_stream (hkind : s.sdKind1 (winSD n) = 3) (hnext : s.nextCoded (winSD n) 1 = some c) :
    exec (.drmSdcEntity n .stream) s = .next (
      (s.dropCoded (winSD n) 1).sdSend (winSD n) (s.flag (winSD n) SD.DATA)
        ⟨7, 2, s.sdSel (winSD n), s.sdSel (winSD n), c.stamp.extractLsb' 0 32, !c.good, c.data⟩) := by
  refine congrArg Host.Outcome.next ((if_neg (by simp [hruns])).trans ?_)
  simp only [hkind, if_true, hnext]

end

/-! ## Quality reports (R240) and RDS blocks (R232) -/

theorem exec_qualityReport_due {time : Word} {u : Nat} (hu : s.srcOf (winSD n) 0 = u) (hl : s.live (winSD n) = true)
    (hperiod : s.fld (winSD n) SD.SD_CFG_QREP_MS ≠ 0) (hlinked : u ≠ 0x3FF)
    (hsource : s.live u = true ∨ s.atomState u = stHOLD) :
    exec (.qualityReport n time) s = .next (
      s.sdQueue (winSD n) ⟨8, 0, 0xFF, u, time, false,
        (reportOffsets u).flatMap (fun o => bytesOf (s.unitRead u o))⟩) := by
  subst hu
  exact congrArg Host.Outcome.next (if_pos (by simp [hl, hperiod, hlinked, hsource]))

theorem exec_rdsBlock (n : Fin 64) (s : State) :
    exec (.rdsBlock n) s = .next (
      let t := s.rdsBlock (winSD n)
      (t.bl (blSd (winSD n) sdNets 0)).foldl (fun u pi => s.eonFollow u (winSD n) pi) t) := rfl

/-- Before synchronisation the bits that wait are searched for it. -/
theorem State.rdsBlock_unsynced {w : Nat} (hruns : s.sdRuns w = true) (hkind : s.sdKind0 w = 1)
    (hsync : s.flag w SD.SD_STATUS_RDS_SYNC = false) : s.rdsBlock w = s.rdsSearch w (s.hs w hsIn).length :=
  (if_neg (by simp [hruns, hkind])).trans (if_pos (by simp [hsync]))

/-- Where no other network is known, EON brings the FOLLOW engines nothing. -/
theorem exec_rdsBlock_search (hruns : s.sdRuns (winSD n) = true) (hkind : s.sdKind0 (winSD n) = 1)
    (hsync : s.flag (winSD n) SD.SD_STATUS_RDS_SYNC = false)
    (hnets : (s.rdsSearch (winSD n) (s.hs (winSD n) hsIn).length).bl (blSd (winSD n) sdNets 0) = []) :
    exec (.rdsBlock n) s = .next (s.rdsSearch (winSD n) (s.hs (winSD n) hsIn).length) := by
  simp only [exec_rdsBlock, State.rdsBlock_unsynced hruns hkind hsync, hnets, List.foldl_nil]

end

/-- Settles O25: a FIG goes by its FIB's CRC and a packet by DG_MODE; every other clause is the equation of its command. -/
theorem sideData : Obligations.SideData := by
  refine ⟨?figGood, ?figBad,
    fun s n c hruns hkind hnext hcut => exec_figReceived_end hruns hkind hnext hcut,
    fun s n c hruns hdab hnext htag => exec_padDataGroup_continues hruns hdab hnext htag,
    ?packetAlone, ?packetGrouped,
    fun s n c hruns hkind hnext htag => exec_drmSdcEntity_entity hruns hkind hnext htag,
    fun s n c hruns hkind hnext htag => exec_drmSdcEntity_fac hruns hkind hnext htag,
    fun s n stream ok time data hruns hkind hdab => exec_drmSdcEntity_text hruns hkind hdab,
    fun s n len c hruns hkind hnext => exec_drmSdcEntity_packet hruns hkind hnext,
    fun s n c hruns hkind hnext => exec_drmSdcEntity_stream hruns hkind hnext,
    fun s n time hl hperiod hlinked hsource => exec_qualityReport_due rfl hl hperiod hlinked hsource,
    fun s n _ _ => exec_rdsBlock n s,
    fun s n hruns hkind hsync hnets => exec_rdsBlock_search hruns hkind hsync hnets⟩
  case figGood =>
    intro s n c x hruns hkind hnext hcut hgood
    simp only [exec_figReceived_cut hruns hkind hnext hcut, hgood, if_true]
  case figBad =>
    intro s n c x hruns hkind hnext hcut hgood
    simp only [exec_figReceived_cut hruns hkind hnext hcut, hgood, Bool.false_eq_true, if_false]
  case packetAlone =>
    intro s n c x hruns hkind hnext hcut haddr hmode
    rw [exec_packetReceived_addressed rfl hruns hkind hnext hcut haddr, if_pos (by simp [hmode])]
  case packetGrouped =>
    intro s n c x hruns hkind hnext hcut haddr hmode
    rw [exec_packetReceived_addressed rfl hruns hkind hnext hcut haddr, if_neg (by simp [hmode])]

end Sys2Proof.Machine
end

section
/-! PROOF. Background scans (O26). -/

namespace Sys2Proof.Machine

/-! ## Scan commands (R251, R253) -/

section
variable {s : State} {ph : Fin 8} {tag : BitVec 8} {args : List Word}

/-- A scan command replies with what its body makes of the message. -/
theorem State.scanServe_answers {op : Nat} {body : State → State × List Word} {t : State} {ws : List Word}
    (h : s.serves ph op = true) (hbody : body (s.heard ph) = (t, ws)) :
    s.scanServe ph op tag body = t.reply ph op tag.toNat ws := by
  rw [State.scanServe_serves s h, hbody]

theorem exec_scanPlan_inQram (h : s.serves ph 0x4C = true) (hram : inQram (arg args 0) (arg args 1) = true)
    (hwhole : arg args 1 % 12 = 0) (hlen : arg args 1 ≤ 768) :
    exec (.scanPlan ph tag args) s = .next (
      let all := planEntries ((s.heard ph).rdWords (arg args 0) (arg args 1 / 4))
      let good := all.filter PlanEntry.ok
      ({ s.heard ph with scan := { s.scan with
        plan := good.flatMap PlanEntry.words, next := 0, pausing := false } }).reply ph 0x4C tag.toNat
          [if good.length = all.length then 0 else 0x0232, w32 good.length]) := by
  refine congrArg Host.Outcome.next (State.scanServe_answers h ((if_neg (by simp [hram, hwhole, hlen])).trans ?_))
  rw [State.heard_scan]

theorem exec_scanPlan_outside (h : s.serves ph 0x4C = true) (hram : inQram (arg args 0) (arg args 1) = false) :
    exec (.scanPlan ph tag args) s = .next ((s.heard ph).reply ph 0x4C tag.toNat [0x0202]) :=
  congrArg Host.Outcome.next (State.scanServe_answers h (if_pos (by simp [hram])))

theorem exec_scanCtl_inRange (h : s.serves ph 0x4D = true) (hpause : arg args 1 ≤ 3600) :
    exec (.scanCtl ph tag args) s = .next (
      ({ s.heard ph with scan := { s.scan with
        run := (args.getD 0 0).getLsbD 0, maxTasks := arg args 0 / 256 % 16, pauseS := arg args 1 } }).reply ph 0x4D tag.toNat [0]) := by
  refine congrArg Host.Outcome.next (State.scanServe_answers h ((if_neg (Nat.not_lt.mpr hpause)).trans ?_))
  rw [State.heard_scan]

theorem exec_scanStatus_serves (h : s.serves ph 0x4E = true) :
    exec (.scanStatus ph tag args) s = .next ((s.heard ph).reply ph 0x4E tag.toNat
      [0, w32 (b2n s.scan.run + 256 * s.scan.tasks.length), s.scan.cycles, s.scan.visited, s.scan.skipped,
        s.scan.abandoned]) := by
  refine congrArg Host.Outcome.next (State.scanServe_answers h ?_)
  rw [State.heard_scan]

end

/-! ## The start of a task (R254) -/

/-- May a task start for frequency `p`, the next of the plan: no bound channel carries it, front end `f` takes it, and
channel `d` and demodulator `m` are free? -/
structure TaskStarts (s : State) (p : Nat × Nat) (f d m : Nat) : Prop where
  served : s.fw.inService = true
  run : s.scan.run = true
  goesOn : s.scan.pausing = false
  room : s.scan.tasks.length < s.scan.maxTasks
  next : (planFreqs s.scan.plan)[s.scan.next]? = some p
  apart : s.carried p.1 p.2 = false
  frontEnd : s.bestFe p.1 p.2 = some f
  channel : s.freeChannel = some d
  demod : s.freeDemod p.1 = some m

section
variable {s : State} {p : Nat × Nat} {f d m : Nat}

/-- A frequency that a task can start for is not skipped. -/
theorem TaskStarts.scanSkip (h : TaskStarts s p f d m) (k : Nat) : s.scanSkip k = s := by
  cases k with
  | zero => rfl
  | succ k => simp [State.scanSkip, h.next, h.apart, h.frontEnd]

/-- The state after the start of a task with these units, of which SIDE_DATA unit `sd` is one where it is given. -/
def State.taskStarted (s : State) (p : Nat × Nat) (f d m : Nat) (sd : Option Nat) : State :=
  let u := s.borrowChain lentScan f d m sd p.1 p.2
  { u with scan := { u.scan with next := u.scan.next + 1, visited := u.scan.visited + 1,
                                 tasks := u.scan.tasks ++ [⟨p.1, p.2, [d, cfOfDdc d, m] ++ sd.toList⟩] } }

/-- A task for AM starts without a SIDE_DATA unit; one for another system needs a free one. -/
theorem TaskStarts.exec_scanTaskStart (h : TaskStarts s p f d m) {sd : Option Nat}
    (hsd : (if p.1 = 1 then some none else (s.freeUnitOf (winSD 0) 64).map some) = some sd) :
    exec .scanTaskStart s = .next (s.taskStarted p f d m sd) := by
  refine congrArg Host.Outcome.next ((if_neg (by simp [h.served, h.run, h.goesOn, h.room])).trans ?_)
  simp only [h.scanSkip, h.next, h.frontEnd, h.channel, h.demod, hsd]
  rfl

end

/-! ## The end of a task, and the next cycle (R253, R255) -/

section
variable {s : State} {i : Fin 16} {x : TaskX}

theorem exec_scanTaskEnd_abandons (hx : s.scan.tasks[i.val]? = some x) (hends : s.taskEnds x 0 = true) :
    exec (.scanTaskEnd i 0) s = .next ((s.abandonTask x).scanCycleEnd) := by
  show execScanTaskEnd i 0 s = _
  simp [execScanTaskEnd, hx, hends]

/-- A task that ends early or at its dwell records its station. -/
theorem exec_scanTaskEnd_records {cause : Fin 3} (hcause : cause ≠ 0) (hx : s.scan.tasks[i.val]? = some x)
    (hends : s.taskEnds x cause = true) :
    exec (.scanTaskEnd i cause) s = .next (((s.taskRecord x).endTask x).scanCycleEnd) := by
  show execScanTaskEnd i cause s = _
  simp [execScanTaskEnd, hx, hends, hcause]

theorem State.taskEnds_dwell (s : State) (x : TaskX) : s.taskEnds x 2 = true := rfl

theorem exec_scanCycleStart_paused (hrun : s.scan.run = true) (hpause : s.scan.pausing = true) :
    exec .scanCycleStart s = .next ({ s with scan := { s.scan with next := 0, pausing := false } }) :=
  congrArg Host.Outcome.next (if_pos (Bool.and_eq_true_iff.mpr ⟨hrun, hpause⟩))

end

/-- Settles O26: both starts are one, with a SIDE_DATA unit and without, and both ends that record are one. -/
theorem scan : Obligations.Scan := by
  refine ⟨fun s ph tag args h hram hwhole hlen => exec_scanPlan_inQram h hram hwhole hlen,
    fun s ph tag args h hram => exec_scanPlan_outside h hram,
    fun s ph tag args h hpause => exec_scanCtl_inRange h hpause,
    fun s ph tag args h => exec_scanStatus_serves h, ?startAm, ?startOther,
    fun s i x hx hends => exec_scanTaskEnd_abandons hx hends,
    fun s i x hx hends => exec_scanTaskEnd_records (by decide) hx hends,
    fun s i x hx => exec_scanTaskEnd_records (by decide) hx (s.taskEnds_dwell x),
    fun s hrun hpause => exec_scanCycleStart_paused hrun hpause⟩
  case startAm =>
    intro s p f d m hserved hrun hgoes hroom hnext hapart hfe hchan hdemod ham
    have hstarts : TaskStarts s p f d m := ⟨hserved, hrun, hgoes, hroom, hnext, hapart, hfe, hchan, hdemod⟩
    exact hstarts.exec_scanTaskStart (if_pos ham)
  case startOther =>
    intro s p f d m x hserved hrun hgoes hroom hnext hapart hfe hchan hdemod hother hunit
    have hstarts : TaskStarts s p f d m := ⟨hserved, hrun, hgoes, hroom, hnext, hapart, hfe, hchan, hdemod⟩
    exact hstarts.exec_scanTaskStart ((if_neg hother).trans (congrArg (Option.map some) hunit))

end Sys2Proof.Machine
end

section
/-! PROOF. Service following: seeking, surveys, checks, the correlator and the SF commands (O27). -/

namespace Sys2Proof.Machine

/-! ## Seeking and surveys (R265) -/

/-- The state in which an engine chooses: at home, the index of the playing source is home's. -/
def State.seeking (s : State) (f : Nat) (home : Word) : State := (s.folCur f home).useFresh

/-- An idle engine seeks: its playing source is lost, the epoch is trusted, and no command waits. -/
structure Seeks (s : State) (f : Nat) (home : Word) : Prop where
  idle : s.folIdle f = true
  lost : s.folLost f = true
  epoch : (s.seeking f home).epochTrusted = true
  noCommand : (s.seeking f home).ax f axFolForce = 0

section
variable {s : State} {n : Fin 32} {home : Word} {sub : Fin 64}

/-- Away, home is checked. -/
theorem Seeks.exec_away (h : Seeks s (winFollow n) home)
    (hplays : (s.seeking (winFollow n) home).folPlays (winFollow n) = 1) :
    exec (.followSeek n home sub) s = .next ((s.seeking (winFollow n) home).folVerifyHome (winFollow n) home) := by
  obtain ⟨hidle, hlost, hepoch, hforce⟩ := h
  show execFollowSeek n home sub s = _
  dsimp only [execFollowSeek]
  unfold State.seeking at *
  generalize (s.folCur (winFollow n) home).useFresh = t at hepoch hforce hplays
  simp [hidle, hlost, hepoch, hforce, hplays]

/-- At home, the best candidate is checked; without one the engine stays, for want of a record. -/
theorem Seeks.exec_home (h : Seeks s (winFollow n) home)
    (hplays : (s.seeking (winFollow n) home).folPlays (winFollow n) = 0) {best : Option Nat}
    (hbest : (s.seeking (winFollow n) home).bestCandidate (winFollow n)
      ((s.seeking (winFollow n) home).rd (winFollow n) FOL.CUR_INDEX.off).toNat = best) :
    exec (.followSeek n home sub) s = .next (best.elim ((s.seeking (winFollow n) home).folNeed (winFollow n) 1 0x0321)
      (fun i => (s.seeking (winFollow n) home).folVerify (winFollow n) i sub)) := by
  obtain ⟨hidle, hlost, hepoch, hforce⟩ := h
  show execFollowSeek n home sub s = _
  dsimp only [execFollowSeek]
  unfold State.seeking at *
  generalize (s.folCur (winFollow n) home).useFresh = t at hepoch hforce hplays hbest
  cases best <;> simp [hidle, hlost, hepoch, hforce, hplays, hbest]

theorem exec_followSurvey_due {i : Word} (hidle : s.folIdle (winFollow n) = true)
    (hperiod : s.fld (winFollow n) FOL.SURVEY_S ≠ 0) (hepoch : (s.folCur (winFollow n) home).epochTrusted = true)
    (hcand : ((s.folCur (winFollow n) home).candidates (winFollow n)
      ((s.folCur (winFollow n) home).rd (winFollow n) FOL.CUR_INDEX.off).toNat).contains i.toNat = true)
    (hfm : ((s.folCur (winFollow n) home).gbRec i.toNat).system = 0)
    (hold : 1 ≤ ((s.folCur (winFollow n) home).gbRec i.toNat).age) :
    exec (.followSurvey n home i) s = .next (
      let u := (s.folCur (winFollow n) home).folVerify (winFollow n) i.toNat 0
      if u.folState (winFollow n) = 2 ∧ (s.folCur (winFollow n) home).bestCandidate (winFollow n)
          ((s.folCur (winFollow n) home).rd (winFollow n) FOL.CUR_INDEX.off).toNat ≠ some i.toNat
        then u.setAx (winFollow n) axFolSurvey 1 else u) :=
  congrArg Host.Outcome.next ((if_neg (by simp [hidle, hperiod])).trans
    ((if_neg (by simp [hepoch])).trans (if_neg (by simp [(List.contains_iff_mem ..).mp hcand, hfm, hold]))))

end

/-! ## What the state of an engine leaves of its sources -/

theorem folLane_ne_winFollow (n : Fin 32) : folLane (winFollow n) ≠ winFollow n := by revert n; decide

theorem kindOf_winFollow (n : Fin 32) : kindOf (winFollow n) = .follow := by revert n; decide

section
variable (s : State) (n : Fin 32) (v : Nat)

/-- The state of an engine is no field of another window, such as a lane or a demodulator. -/
theorem State.fld_put_folState {w : Nat} {q : FRef} (hw : w ≠ winFollow n) (hq : q.off < 4096) :
    (s.put (winFollow n) FOL.FOLLOW_STATUS_STATE v).fld w q = s.fld w q :=
  s.fld_put_block v hw (by decide) hq

theorem State.folPlays_put_folState :
    (s.put (winFollow n) FOL.FOLLOW_STATUS_STATE v).folPlays (winFollow n) = s.folPlays (winFollow n) :=
  s.fld_put_folState n v (folLane_ne_winFollow n) (by decide)

theorem State.minQ_put_folState (sys : Nat) :
    (s.put (winFollow n) FOL.FOLLOW_STATUS_STATE v).minQ (winFollow n) sys = s.minQ (winFollow n) sys := by
  rw [State.minQ, State.minQ, State.rd_put_reg _ _ _ (by decide)]

theorem State.qualityOf_put_folState {u : Nat} (hu : u ≠ winFollow n) :
    (s.put (winFollow n) FOL.FOLLOW_STATUS_STATE v).qualityOf u = s.qualityOf u := by
  rw [State.qualityOf, State.qualityOf, s.fld_put_folState n v hu (q := FM.LEVEL_Q) (by decide),
    s.fld_put_folState n v hu (q := AM.LEVEL_Q) (by decide), s.fld_put_folState n v hu (q := OFDM.LEVEL_Q) (by decide)]

theorem State.systemOf_put_folState {u : Nat} (hu : u ≠ winFollow n) :
    (s.put (winFollow n) FOL.FOLLOW_STATUS_STATE v).systemOf u = s.systemOf u := by
  rw [State.systemOf, State.systemOf, s.fld_put_folState n v hu (by decide)]

/-- A source is invalid or below MIN_Q whatever the engine's state: one that has a quality is no FOLLOW engine. -/
theorem State.folBad_put_folState (i : Nat) :
    (s.put (winFollow n) FOL.FOLLOW_STATUS_STATE v).folBad (winFollow n) i = s.folBad (winFollow n) i := by
  have hsource : (s.put (winFollow n) FOL.FOLLOW_STATUS_STATE v).folSource (winFollow n) i
      = s.folSource (winFollow n) i := rfl
  have hlane : (s.put (winFollow n) FOL.FOLLOW_STATUS_STATE v).laneSource (winFollow n - 0x290) i
      = s.laneSource (winFollow n - 0x290) i := rfl
  have hmargin : ∀ u, (s.put (winFollow n) FOL.FOLLOW_STATUS_STATE v).hasMargin u = s.hasMargin u := fun _ => rfl
  simp only [State.folBad, hsource, hlane, hmargin]
  by_cases hu : s.hasMargin (s.folSource (winFollow n) i) = true
  · have hne : s.folSource (winFollow n) i ≠ winFollow n := fun e => by
      simp [e, State.hasMargin, kindOf_winFollow] at hu
    rw [s.qualityOf_put_folState n v hne, s.systemOf_put_folState n v hne, s.minQ_put_folState]
  · simp only [hu, Bool.false_and]

theorem State.folLost_put_folState :
    (s.put (winFollow n) FOL.FOLLOW_STATUS_STATE v).folLost (winFollow n) = s.folLost (winFollow n) := by
  rw [State.folLost, State.folLost, s.folPlays_put_folState n v, s.folBad_put_folState n v]
  rfl

theorem State.folPlays_le (f : Nat) : s.folPlays f ≤ 1 :=
  Nat.lt_succ_iff.mp (Nat.mod_lt _ (by decide))

/-- The engine's hidden scalars are none of its lane's. -/
theorem State.folBad_setAx {slot i : Nat} (hslot : slot < 64) (hi : i ≤ 1) :
    (s.setAx (winFollow n) slot v).folBad (winFollow n) i = s.folBad (winFollow n) i := by
  have hlane : winLane (winFollow n - 0x290) ≠ winFollow n := folLane_ne_winFollow n
  have hax : (s.setAx (winFollow n) slot v).ax (winLane (winFollow n - 0x290)) (36 + i)
      = s.ax (winLane (winFollow n - 0x290)) (36 + i) := by
    rw [State.ax_setAx _ _ _ _ _ hslot (by omega), if_neg (fun e => hlane e.1)]
  have hsource : (s.setAx (winFollow n) slot v).laneSource (winFollow n - 0x290) i
      = s.laneSource (winFollow n - 0x290) i := by
    rw [State.laneSource, State.laneSource, hax]
    rfl
  rw [State.folBad, State.folBad, hsource]
  rfl

/-- Of the engine's hidden scalars, the loss looks at its own alone. -/
theorem State.folLost_setAx {slot : Nat} (hslot : slot < 64) (hlost : slot ≠ axFolLost) :
    (s.setAx (winFollow n) slot v).folLost (winFollow n) = s.folLost (winFollow n) := by
  have hplays : (s.setAx (winFollow n) slot v).folPlays (winFollow n) = s.folPlays (winFollow n) := rfl
  rw [State.folLost, State.folLost, hplays, s.folBad_setAx n v hslot (s.folPlays_le _),
    State.ax_setAx _ _ _ _ _ hslot (by decide), if_neg (fun e => hlost e.2.symm)]

end

/-! ## Verification (R266, R267, R273) -/

/-- Nothing is hurried while the playing source is not lost. -/
theorem State.folPrompt_not_lost {s : State} {f : Nat} (hlost : s.folLost f = false) : s.folPrompt f = s :=
  if_neg (by simp [hlost])

/-- What ALIGN starts with: no measurement made, and no lag to hold one against. -/
def State.aligning (s : State) (f : Nat) : State :=
  ((s.put f FOL.FOLLOW_STATUS_STATE 3).setAx f axFolTries 0).setAx f axFolLag 0

section
variable (s : State) (f : Nat)

theorem State.aligning_folState : (s.aligning f).folState f = 3 := s.fld_put 3 (by decide)

theorem State.aligning_tries : (s.aligning f).ax f axFolTries = 0 := by
  simp [State.aligning, axFolTries, axFolLag]

theorem State.aligning_lag : (s.aligning f).ax f axFolLag = 0 := by
  simp [State.aligning, axFolTries, axFolLag]

theorem frame_aligning : Frame [(f, FOL.FOLLOW_STATUS_STATE.off)] s (s.aligning f) :=
  (Frame.refl0.put (by simp)).setAx.setAx

end

theorem State.aligning_folLost (s : State) (n : Fin 32) :
    (s.aligning (winFollow n)).folLost (winFollow n) = s.folLost (winFollow n) := by
  rw [State.aligning, State.folLost_setAx _ n _ (by decide) (by decide),
    State.folLost_setAx _ n _ (by decide) (by decide), s.folLost_put_folState]

/-- The identity of a candidate is found, on a chain whose engine, if it has one, is not the chain's own to select on. -/
structure Identified (s : State) (f : Nat) : Prop where
  live : s.live f = true
  verifies : s.folState f = 2
  held : s.identityHeld f = true
  goesOn : s.ax f axFolSurvey ≠ 1
  shared : ((s.hs f 0).map Int.toNat).contains (s.ax f axFolUnit) = false

section
variable {s : State} {n : Fin 32} {sub : Fin 64}

theorem exec_verifyIdentityPass_survey (hlive : s.live (winFollow n) = true) (hstate : s.folState (winFollow n) = 2)
    (hheld : s.identityHeld (winFollow n) = true) (hsurvey : s.ax (winFollow n) axFolSurvey = 1) :
    exec (.verifyIdentityPass n sub) s = .next ((s.folRelease (winFollow n)).folRest (winFollow n)) :=
  congrArg Host.Outcome.next ((if_neg (by simp [hlive, hstate, hheld])).trans (if_pos hsurvey))

theorem Identified.exec_verifyIdentityPass (h : Identified s (winFollow n)) :
    exec (.verifyIdentityPass n sub) s = .next (
      if s.ax (winFollow n) axFolForce = 2 then s.folHurry (winFollow n) (1 - s.folPlays (winFollow n))
      else (s.aligning (winFollow n)).folPrompt (winFollow n)) := by
  obtain ⟨hlive, hstate, hheld, hsurvey, hshared⟩ := h
  refine congrArg Host.Outcome.next ((if_neg (by simp [hlive, hstate, hheld])).trans ((if_neg hsurvey).trans ?_))
  simp only [hshared, Bool.false_and, Bool.false_eq_true, if_false]
  rfl

theorem Identified.exec_aligns (h : Identified s (winFollow n)) (hforce : s.ax (winFollow n) axFolForce ≠ 2)
    (hlost : s.folLost (winFollow n) = false) :
    exec (.verifyIdentityPass n sub) s = .next (s.aligning (winFollow n)) := by
  rw [h.exec_verifyIdentityPass, if_neg hforce, State.folPrompt_not_lost ((s.aligning_folLost n).trans hlost)]

theorem exec_verifyTimeout_verifies (hlive : s.live (winFollow n) = true) (hstate : s.folState (winFollow n) = 2) :
    exec (.verifyTimeout n) s = .next (s.folFail (winFollow n) 0x0510 false) :=
  congrArg Host.Outcome.next (if_pos (by simp [hlive, hstate]))

end

/-- The candidate's live margin, looked at and shown. -/
def State.marginShown (s : State) (f : Nat) : State := (s.putI f FOL.MARGINS_CAND_M (s.candMargin f)).useFresh

section
variable {s : State} {n : Fin 32}

/-- The look at the margin, and what follows of it by the state and the margin. -/
theorem exec_verifyQualityCheck (hlive : s.live (winFollow n) = true)
    (hstate : 2 ≤ s.folState (winFollow n) ∧ s.folState (winFollow n) ≤ 4) :
    exec (.verifyQualityCheck n) s = .next (
      if s.ferry.followed then s.marginShown (winFollow n)
      else if s.folState (winFollow n) = 3 then (s.marginShown (winFollow n)).folPrompt (winFollow n)
      else if 0 ≤ s.candMargin (winFollow n) ∨ s.ax (winFollow n) axFolForce ≠ 0 then s.marginShown (winFollow n)
      else if s.folState (winFollow n) = 2 then (s.marginShown (winFollow n)).folFail (winFollow n) 0x0511 false
      else (((s.marginShown (winFollow n)).folRelease (winFollow n)).folRest (winFollow n)).folHomeIfLost (winFollow n)) :=
  congrArg Host.Outcome.next (if_neg (by simp [hlive, hstate]))

theorem exec_verifyQualityCheck_good (hlive : s.live (winFollow n) = true)
    (hstate : s.folState (winFollow n) = 2 ∨ s.folState (winFollow n) = 4) (hmargin : 0 ≤ s.candMargin (winFollow n)) :
    exec (.verifyQualityCheck n) s = .next (s.marginShown (winFollow n)) := by
  have hnoAlign : s.folState (winFollow n) ≠ 3 := by omega
  rw [exec_verifyQualityCheck hlive (by omega), if_neg hnoAlign, if_pos (Or.inl hmargin), ite_self]

theorem exec_verifyQualityCheck_aligning (hlive : s.live (winFollow n) = true) (hstate : s.folState (winFollow n) = 3)
    (hleads : s.ferry.followed = false) :
    exec (.verifyQualityCheck n) s = .next ((s.marginShown (winFollow n)).folPrompt (winFollow n)) := by
  rw [exec_verifyQualityCheck hlive (by omega), if_neg (by simp [hleads]), if_pos hstate]

/-- A margin below 0 with no command to carry out ends a check, and takes READY back to WATCH. -/
theorem exec_verifyQualityCheck_bad (hlive : s.live (winFollow n) = true)
    (hstate : s.folState (winFollow n) = 2 ∨ s.folState (winFollow n) = 4) (hmargin : s.candMargin (winFollow n) < 0)
    (hforce : s.ax (winFollow n) axFolForce = 0) (hleads : s.ferry.followed = false) :
    exec (.verifyQualityCheck n) s = .next (
      if s.folState (winFollow n) = 2 then (s.marginShown (winFollow n)).folFail (winFollow n) 0x0511 false
      else (((s.marginShown (winFollow n)).folRelease (winFollow n)).folRest (winFollow n)).folHomeIfLost (winFollow n)) := by
  have hnoAlign : s.folState (winFollow n) ≠ 3 := by omega
  have hbad : ¬ (0 ≤ s.candMargin (winFollow n) ∨ s.ax (winFollow n) axFolForce ≠ 0) := by omega
  rw [exec_verifyQualityCheck hlive (by omega), if_neg (by simp [hleads]), if_neg hnoAlign, if_neg hbad]

end

/-! ## Alignment and the switch (R268, R271) -/

/-- What a measurement that is not thrown away shows of itself. -/
def State.lagShown (s : State) (f : Nat) (lag : Int) : State :=
  let g := corrOf (s.folWindow f lag)
  (((s.useFresh.putI f FOL.ALIGN_LAG lag).put f FOL.CORR_RHO (g.rho ((Config.freeWord s.fresh).getLsbD 0))).putI f
    FOL.CORR_LEVEL_TRIM (powerLevel g.play g.cand ((Config.freeWord s.fresh).getLsbD 1))).setAx f axFolTries
    (s.ax f axFolTries + 1)

theorem State.folMeasured_passes {s : State} {f : Nat} {lag : Int} (hrange : lag.natAbs ≤ 144000)
    (hpass : (corrOf (s.folWindow f lag)).atLeast (s.fld f FOL.CORR_CFG_CORR_MIN) = true)
    (hprev : s.ax f axFolLag ≠ 0) (hnear : (lag + 1048576 - s.ax f axFolLag).natAbs ≤ 48) :
    s.folMeasured f lag = (s.lagShown f lag).folAligned f lag :=
  (if_neg (Nat.not_lt.mpr hrange)).trans (if_pos ⟨hpass, hprev, hnear⟩)

/-- The state after the switch is found due: the wait for its moment starts. -/
def State.switchDue (s : State) (f : Nat) : State :=
  ((s.useFresh.putI f FOL.MARGINS_CAND_M (s.candMargin f)).setAx f axFolDue 1).setAx f axFolWait 0

section
variable (s : State) (f : Nat)

theorem State.switchDue_due : (s.switchDue f).ax f axFolDue = 1 := by
  simp [State.switchDue, axFolDue, axFolWait]

theorem State.switchDue_wait : (s.switchDue f).ax f axFolWait = 0 := by
  simp [State.switchDue, axFolWait]

theorem frame_switchDue : Frame [(f, FOL.MARGINS_CAND_M.off)] s (s.switchDue f) :=
  (Frame.refl0.useFresh.putI (by simp)).setAx.setAx

end

section
variable {s : State} {n : Fin 32}

theorem exec_correlationMeasured_heard {lag : Int} (hlive : s.live (winFollow n) = true)
    (hstate : s.folState (winFollow n) = 3) (hlag : s.folLag (winFollow n) = some lag)
    (hloud : quietWindow (s.folWindow (winFollow n) lag) = false) :
    exec (.correlationMeasured n) s = .next (s.folMeasured (winFollow n) lag) := by
  refine congrArg Host.Outcome.next ((if_neg (by simp [hlive, hstate])).trans ?_)
  simp only [hlag, hloud, Bool.false_eq_true, if_false]

theorem exec_followSwitchDue_exceeds (hlive : s.live (winFollow n) = true) (hstate : s.folState (winFollow n) = 4)
    (hleads : s.ferry.followed = false)
    (hexceeds : s.liveMargin (winFollow n) (s.folSource (winFollow n) (s.folPlays (winFollow n))) false +
      s.fld (winFollow n) FOL.SWITCH_SWITCH_MARGIN ≤ s.candMargin (winFollow n)) :
    exec (.followSwitchDue n) s = .next (s.switchDue (winFollow n)) :=
  congrArg Host.Outcome.next ((if_pos (by simp [hlive, hstate, hleads])).trans (if_pos hexceeds))

end

/-! ## SF_FORCE, SF_HOME and SF_STATUS (R275) -/

@[simp] theorem State.heard_forceCode (s : State) (ph f i : Nat) : (s.heard ph).forceCode f i = s.forceCode f i := by
  unfold State.heard; split <;> rfl

section
variable {s : State} {ph : Fin 8} {tag : BitVec 8} {args : List Word}

/-- A command for a lane whose engine is in RUN replies with what its body makes of the message. -/
theorem State.folServe_answers {op : Nat} {body : State → Nat → State × List Word} {t : State} {ws : List Word}
    (h : s.serves ph op = true) (hlane : arg args 0 ≤ 31) (hrun : s.atomState (winFollow (arg args 0)) = stRUN)
    (hbody : body (s.heard ph) (winFollow (arg args 0)) = (t, ws)) :
    s.folServe ph op tag args body = t.reply ph op tag.toNat ws := by
  rw [State.folServe_serves s h hlane hrun, hbody]

theorem exec_sfForce_taken (h : s.serves ph 0x50 = true) (hlane : arg args 0 ≤ 31)
    (hrun : s.atomState (winFollow (arg args 0)) = stRUN)
    (hcode : s.forceCode (winFollow (arg args 0)) (arg args 1) = 0) :
    exec (.sfForce ph tag args) s = .next (
      ((s.heard ph).folCommand (winFollow (arg args 0)) (if (args.getD 2 0).getLsbD 0 then 2 else 1) (arg args 1)).reply
        ph 0x50 tag.toNat [0]) :=
  congrArg Host.Outcome.next (State.folServe_answers h hlane hrun (if_neg (by simp [hcode])))

theorem exec_sfForce_refused (h : s.serves ph 0x50 = true) (hlane : arg args 0 ≤ 31)
    (hrun : s.atomState (winFollow (arg args 0)) = stRUN)
    (hcode : s.forceCode (winFollow (arg args 0)) (arg args 1) ≠ 0) :
    exec (.sfForce ph tag args) s = .next ((s.heard ph).reply ph 0x50 tag.toNat
      [w32 (s.forceCode (winFollow (arg args 0)) (arg args 1))]) := by
  refine congrArg Host.Outcome.next (State.folServe_answers h hlane hrun ((if_pos (by simp [hcode])).trans ?_))
  rw [State.heard_forceCode]

theorem exec_sfHome_serves (h : s.serves ph 0x51 = true) (hlane : arg args 0 ≤ 31)
    (hrun : s.atomState (winFollow (arg args 0)) = stRUN) :
    exec (.sfHome ph tag args) s = .next (
      ((s.heard ph).folCommand (winFollow (arg args 0)) 3 0).reply ph 0x51 tag.toNat [0]) :=
  congrArg Host.Outcome.next (State.folServe_answers h hlane hrun rfl)

theorem exec_sfStatus_serves (h : s.serves ph 0x52 = true) (hlane : arg args 0 ≤ 31)
    (hrun : s.atomState (winFollow (arg args 0)) = stRUN) :
    exec (.sfStatus ph tag args) s = .next ((s.heard ph).reply ph 0x52 tag.toNat
      (0 :: [0x080, 0x084, 0x088, 0x090, 0x098].map ((s.heard ph).followRead (winFollow (arg args 0))))) :=
  congrArg Host.Outcome.next (State.folServe_answers h hlane hrun rfl)

end

/-- Settles O27: the three seeks are one choice, an identity and a margin each lead on by the state and the commands that
wait, and a measurement is that of its window. -/
theorem followChecks : Obligations.FollowChecks := by
  refine ⟨?seekAway, ?seekBest, ?seekNone,
    fun s n home i hidle hperiod hepoch hcand hfm hold => exec_followSurvey_due hidle hperiod hepoch hcand hfm hold,
    fun s n sub hlive hstate hheld hsurvey => exec_verifyIdentityPass_survey hlive hstate hheld hsurvey,
    ?aligns, ?forced, fun s n hlive hstate => exec_verifyTimeout_verifies hlive hstate, ?badCheck, ?badReady,
    fun s n hlive hstate hmargin => exec_verifyQualityCheck_good hlive hstate hmargin,
    fun s n hlive hstate hleads => exec_verifyQualityCheck_aligning hlive hstate hleads,
    fun s n lag hlive hstate hlag hloud => exec_correlationMeasured_heard hlive hstate hlag hloud, ?passes, ?due,
    fun s ph tag args h hlane hrun hcode => exec_sfForce_taken h hlane hrun hcode,
    fun s ph tag args h hlane hrun hcode => exec_sfForce_refused h hlane hrun hcode,
    fun s ph tag args h hlane hrun => exec_sfHome_serves h hlane hrun,
    fun s ph tag args h hlane hrun => exec_sfStatus_serves h hlane hrun⟩
  case seekAway =>
    intro s n home sub hidle hepoch hforce hlost hplays
    exact Seeks.exec_away ⟨hidle, hlost, hepoch, hforce⟩ hplays
  case seekBest =>
    intro s n home sub i hidle hepoch hforce hlost hplays hbest
    exact Seeks.exec_home ⟨hidle, hlost, hepoch, hforce⟩ hplays hbest
  case seekNone =>
    intro s n home sub hidle hepoch hforce hlost hplays hbest
    exact Seeks.exec_home ⟨hidle, hlost, hepoch, hforce⟩ hplays hbest
  case aligns =>
    intro s n sub hlive hstate hheld hsurvey hforce hlost hshared
    have hid : Identified s (winFollow n) := ⟨hlive, hstate, hheld, hsurvey, hshared⟩
    exact ⟨_, hid.exec_aligns hforce hlost, s.aligning_folState _, s.aligning_tries _, s.aligning_lag _,
      frame_aligning s _⟩
  case forced =>
    intro s n sub hlive hstate hheld hsurvey hforce hshared
    have hid : Identified s (winFollow n) := ⟨hlive, hstate, hheld, hsurvey, hshared⟩
    exact hid.exec_verifyIdentityPass.trans (congrArg Host.Outcome.next (if_pos hforce))
  case badCheck =>
    intro s n hlive hstate hmargin hforce hleads
    rw [exec_verifyQualityCheck_bad hlive (Or.inl hstate) hmargin hforce hleads, if_pos hstate]
    rfl
  case badReady =>
    intro s n hlive hstate hmargin hforce hleads
    rw [exec_verifyQualityCheck_bad hlive (Or.inr hstate) hmargin hforce hleads, if_neg (by omega)]
    rfl
  case passes =>
    intro s n lag hlive hstate hlag hloud hrange hpass hprev hnear
    rw [exec_correlationMeasured_heard hlive hstate hlag hloud, State.folMeasured_passes hrange hpass hprev hnear]
    rfl
  case due =>
    intro s n hlive hstate _ hleads hexceeds
    exact ⟨_, exec_followSwitchDue_exceeds hlive hstate hleads hexceeds, s.switchDue_due _, s.switchDue_wait _,
      frame_switchDue s _⟩

end Sys2Proof.Machine
end

section
/-! PROOF. Service following: blends, the loss of a source, RECENTRE and announcements (O28). -/

namespace Sys2Proof.Machine

/-! ## Blends and the loss of the source (R270, R272, R273) -/

/-- What the loss of the playing source leaves before the engine acts on it. -/
def State.lossTold (s : State) (f : Nat) : State := (s.setAx f axFolLost 1).raiseKind f evFolLost

section
variable (s : State) (f : Nat)

theorem State.lossTold_lost : (s.lossTold f).ax f axFolLost = 1 := by
  simp [State.lossTold, axFolLost]

theorem State.lossTold_event : ((s.lossTold f).rd f 0x00C).getLsbD evFolLost = true :=
  State.raiseKind_event _ _ _ (by decide)

theorem frame_lossTold : Frame [(f, 0x00C)] s (s.lossTold f) :=
  Frame.refl0.setAx.raiseKind (by simp)

end

section
variable {s : State} {n : Fin 32}

theorem exec_blendStart_moment (hlive : s.live (winFollow n) = true) (hstate : s.folState (winFollow n) = 4)
    (hepoch : s.epochTrusted = true) (hmay : s.folMaySwitch (winFollow n) = true)
    (hmoment : s.folMoment (winFollow n) = true) (hleads : s.ferry.followed = false) :
    exec (.blendStart n) s = .next (s.folFade (winFollow n) (1 - s.folPlays (winFollow n))
      (s.fld (winFollow n) FOL.DELAY_D_NEW_MS) (s.fld (winFollow n) FOL.BLEND_BLEND_MS) true) :=
  congrArg Host.Outcome.next ((if_pos (by simp [hlive, hstate, hmay, hmoment, hleads])).trans (if_pos hepoch))

/-- A loss that is declared is told, and the engine acts on it by its state, unless a lead acts for it. -/
theorem exec_sourceLost_declared (hlive : s.live (winFollow n) = true) (hstate : s.folState (winFollow n) ≠ 0)
    (hbad : s.folBad (winFollow n) (s.folPlays (winFollow n)) = true) (hlost : s.ax (winFollow n) axFolLost = 0) :
    exec (.sourceLost n) s = .next (
      if s.ferry.followed then s.lossTold (winFollow n)
      else if s.folState (winFollow n) = 3 then (s.lossTold (winFollow n)).folPrompt (winFollow n)
      else if s.folState (winFollow n) = 1 && s.folPlays (winFollow n) == 1 && !s.folBad (winFollow n) 0 &&
          decide (s.liveMargin (winFollow n) (s.folSource (winFollow n) 0) true < 0) then
        (s.lossTold (winFollow n)).useFresh.folUnaligned (winFollow n) 0
      else s.lossTold (winFollow n)) :=
  congrArg Host.Outcome.next (if_neg (by simp [hlive, hstate, hbad, hlost]))

/-- At home there is no home to return to. -/
theorem exec_sourceLost_home (hlive : s.live (winFollow n) = true) (hstate : s.folState (winFollow n) ≠ 0)
    (hnoAlign : s.folState (winFollow n) ≠ 3) (hplays : s.folPlays (winFollow n) = 0)
    (hbad : s.folBad (winFollow n) 0 = true) (hlost : s.ax (winFollow n) axFolLost = 0) :
    exec (.sourceLost n) s = .next (s.lossTold (winFollow n)) := by
  rw [exec_sourceLost_declared hlive hstate (hplays ▸ hbad) hlost, if_neg hnoAlign]
  simp [hplays]

theorem exec_sourceLost_aligning (hlive : s.live (winFollow n) = true) (hstate : s.folState (winFollow n) = 3)
    (hbad : s.folBad (winFollow n) (s.folPlays (winFollow n)) = true) (hlost : s.ax (winFollow n) axFolLost = 0)
    (hleads : s.ferry.followed = false) :
    exec (.sourceLost n) s = .next ((s.lossTold (winFollow n)).folPrompt (winFollow n)) := by
  rw [exec_sourceLost_declared hlive (by omega) hbad hlost, if_neg (by simp [hleads]), if_pos hstate]

theorem exec_recentre_accepted {m : Master} {v : Word}
    (h : s.accepts m (winFollow n) 0x040 (v ||| 0x100) (s.followCodes (winFollow n) 0x040 (v ||| 0x100)) = true) :
    exec (.recentre m n v) s = .next (
      s.told m (winFollow n) 0x040 (v ||| 0x100) (s.followCtl (winFollow n) (v ||| 0x100))) :=
  congrArg Host.Outcome.next (State.guarded_accepts s h)

end

/-! ## Announcements (R222, R224, R274) -/

/-- The switching entry of a control channel that waited waits no more. -/
def State.switchTaken (s : State) (w asw cluster sub : Nat) (new region : Bool) : State :=
  s.setHs w hsSwitch ((s.hs w hsSwitch).erase ((switchCode asw cluster sub new region : Nat) : Int))

section
variable {s : State} {w cluster sub : Nat} {new region : Bool}

/-- An entry without a flag ends what its cluster announces. -/
theorem State.annEntry_noFlags (hwaits : s.switchWaits w 0 cluster sub new region = true) :
    s.annEntry w 0 cluster sub new region = (s.switchTaken w 0 cluster sub new region).annEnd w cluster :=
  (if_neg (by simp [hwaits])).trans (if_pos rfl)

end

/-- The FOLLOW engines that play a source of the engine take up a new announcement on it. -/
def State.annStarted (t : State) (w flags cluster sub : Nat) : State :=
  let a := t.annOf w cluster
  let alarm := a / 16777216 % 2 == 1
  let u := t.annRecords w true a
  (u.followersOf w).foldl (fun u f => if u.annFollowed f flags alarm && u.folSub f != sub then
    u.folAnnounce f ([w, sub, cluster, b2n alarm, 0].map Int.ofNat) else u) u

section
variable {s : State} {n : Fin 32}

theorem exec_annFadeIn_ready (hready : s.annReady (winFollow n) = true) (hleads : s.ferry.followed = false) :
    exec (.annFadeIn n) s = .next (s.annIn (winFollow n)) :=
  congrArg Host.Outcome.next (if_pos (by simp [hready, hleads]))

end

section
variable {s : State} {n : Fin 16} {asw : BitVec 16} {c : BitVec 8} {sub : BitVec 6} {new region : Bool}

theorem exec_announcementEntry_ends (hactive : s.annActive (winOFDM n) c.toNat = true)
    (hwaits : s.switchWaits (winOFDM n) 0 c.toNat sub.toNat new region = true)
    (hover : ((s.switchTaken (winOFDM n) 0 c.toNat sub.toNat new region).annEnd (winOFDM n) c.toNat).annActive
      (winOFDM n) c.toNat = false) :
    exec (.announcementEntry n 0 c sub new region) s = .next (
      (((s.switchTaken (winOFDM n) 0 c.toNat sub.toNat new region).annEnd (winOFDM n) c.toNat).annRecords (winOFDM n) false
        (s.annOf (winOFDM n) c.toNat)).annEnded (winOFDM n) c.toNat) := by
  have hentry := State.annEntry_noFlags hwaits
  rw [← hentry] at hover ⊢
  exact congrArg Host.Outcome.next ((if_pos rfl).trans (if_pos (Bool.and_eq_true_iff.mpr ⟨hactive, by simpa using hover⟩)))

theorem exec_announcementEntry_starts (hflags : asw ≠ 0)
    (hactive : (s.annEntry (winOFDM n) asw.toNat c.toNat sub.toNat new region).annActive (winOFDM n) c.toNat = true)
    (hnew : (s.annEntry (winOFDM n) asw.toNat c.toNat sub.toNat new region).annOf (winOFDM n) c.toNat % 2147483648 ≠
      s.annOf (winOFDM n) c.toNat % 2147483648) :
    exec (.announcementEntry n asw c sub new region) s = .next (
      (s.annEntry (winOFDM n) asw.toNat c.toNat sub.toNat new region).annStarted (winOFDM n)
        (asw.toNat &&& s.fld (winOFDM n) OFDM.ANN_CFG_ANN_MASK) c.toNat sub.toNat) :=
  congrArg Host.Outcome.next ((if_neg hflags).trans (if_neg (by simp [hactive, hnew])))

theorem exec_announcementTimeout_active (hactive : s.annActive (winOFDM n) c.toNat = true) :
    exec (.announcementTimeout n c) s = .next (
      ((s.annEnd (winOFDM n) c.toNat).annRecords (winOFDM n) false (s.annOf (winOFDM n) c.toNat)).annEnded (winOFDM n)
        c.toNat) :=
  congrArg Host.Outcome.next (if_pos hactive)

end

/-- Settles O28: both losses are one update on which the engine acts by its state, and an announcement ends or starts by
what its entry leaves active. -/
theorem followFades : Obligations.FollowFades := by
  refine ⟨fun s n hlive hstate hepoch hmay hmoment hleads =>
      exec_blendStart_moment hlive hstate hepoch hmay hmoment hleads, ?blendEnd, ?lostHome,
    fun s n hlive hstate hbad hlost hleads => exec_sourceLost_aligning hlive hstate hbad hlost hleads,
    fun s m n v h => exec_recentre_accepted h, fun s n hready hleads => exec_annFadeIn_ready hready hleads,
    fun s n c sub new region hactive hwaits hover => exec_announcementEntry_ends hactive hwaits hover,
    fun s n asw c sub new region hflags hactive hnew => exec_announcementEntry_starts hflags hactive hnew,
    fun s n c hactive => exec_announcementTimeout_active hactive⟩
  case blendEnd => exact fun s n _ _ => rfl
  case lostHome =>
    intro s n hlive hstate hnoAlign hplays hbad hlost
    exact ⟨_, exec_sourceLost_home hlive hstate hnoAlign hplays hbad hlost, s.lossTold_lost _, s.lossTold_event _,
      frame_lossTold s _⟩

end Sys2Proof.Machine
end

section
/-! PROOF. Audio lanes, host streams and the counts of converters (O12). -/

namespace Sys2Proof.Machine

/-! ## Selects, gains and samples of lanes and decoders (R283, R289–R292) -/

section
variable {s : State} {m : Master} {n : Fin 32} {v : Word}

theorem exec_laneSelect_accepted
    (h : s.accepts m (winLane n) 0x050 v (s.laneCodes (winLane n) 0x050 v) = true) :
    exec (.laneSelect m n v) s = .next (
      s.told m (winLane n) 0x050 v ((s.store (winLane n) 0x050 v).serveSelect n)) :=
  congrArg Host.Outcome.next (State.guarded_accepts s h)

theorem exec_selectPendingTakes_pending (h : s.selectPending n = true) :
    exec (.selectPendingTakes n) s = .next (s.serveSelect n) :=
  congrArg Host.Outcome.next (if_pos h)

theorem exec_gainWrite_accepted (h : s.accepts m (winLane n) 0x048 v [] = true) :
    exec (.gainWrite m n v) s = .next (s.told m (winLane n) 0x048 v (s.gainWritten (winLane n) v)) :=
  congrArg Host.Outcome.next (State.guarded_accepts s h)

theorem exec_laneSample_live (hlive : s.live (winLane n) = true) :
    exec (.laneSample n) s = .next (s.firing (s.laneSample n)) :=
  congrArg Host.Outcome.next (if_pos (by simp [hlive]))

/-- The last sample of a fade that no FOLLOW engine made: the fade completes, and a SELECT that waited is served. -/
theorem exec_xfadeDone_unfollowed (hfading : s.flag (winLane n) LANE.LANE_STATUS_FADING = true)
    (hfollow : s.followBound n = false) :
    exec (.xfadeDone n) s = .next ((s.laneFlush (winLane n)).serveSelect n) :=
  congrArg Host.Outcome.next ((if_neg (by simp [hfading])).trans (if_pos (by simp [hfollow])))

theorem exec_accessUnitDecoded (n : Fin 32) (u : AccessUnit) (s : State) :
    exec (.accessUnitDecoded n u) s = .next (s.firing (s.accessUnit (winDec n) u)) := rfl

end

/-! ## Host streams (R293, R294) -/

section
variable {s : State} {n : Fin 32} {i : Fin 2}

theorem exec_hostPcmDescriptor_takes (hk : kindOf (s.srcOf (winLane n) i) = .queue)
    (hruns : s.live (winLane n) = true ∨ s.atomState (winLane n) = stHOLD) (hwaits : s.ax (winLane n) (38 + i) = 0)
    (hread : 2 ∉ s.taken (s.srcOf (winLane n) i)) : exec (.hostPcmDescriptor n i) s = .next (s.hostTake n i) :=
  congrArg Host.Outcome.next (if_pos ⟨hk, hruns, hwaits, hread⟩)

theorem exec_hostPcmMarkStart_waiting (hwaits : s.ax (winLane n) (38 + i) ≠ 0) :
    exec (.hostPcmMarkStart n i) s = .next (
      (s.advanceLow (w32 (s.ax (winLane n) (38 + i) - 1))).hostPlay (winLane n) i) :=
  congrArg Host.Outcome.next (if_neg hwaits)

end

/-- What an underrun of the host stream on input `i` leaves: the input delivers no more and is to restart. -/
def State.ranDry (s : State) (w i : Nat) : State :=
  (((s.setAx w (36 + i) 0).setAx w (34 + i) 1).count w LANE.HOST_UNDERRUN_COUNT).raiseKind w evLaneUnderrun

section
variable (s : State) {w i : Nat}

theorem State.ranDry_count (hw : w < 0x400) :
    (s.ranDry w i).rd w LANE.HOST_UNDERRUN_COUNT.off = counted (s.rd w LANE.HOST_UNDERRUN_COUNT.off) := by
  rw [State.ranDry, State.raiseKind_rd_own _ (by decide), State.count_rd_own _ hw (by decide) (by decide),
    State.setAx_rd, State.setAx_rd]

theorem State.ranDry_event (w i : Nat) : ((s.ranDry w i).rd w 0x00C).getLsbD evLaneUnderrun = true :=
  State.raiseKind_event _ _ _ (by decide)

theorem State.ranDry_restarts (hi : i < 2) : (s.ranDry w i).ax w (34 + i) = 1 := by
  rw [State.ranDry, State.raiseKind_ax, State.count_ax, State.ax_setAx _ _ _ _ _ (by omega) (by omega),
    if_pos ⟨rfl, rfl⟩]

theorem State.ranDry_delivers (hi : i < 2) : (s.ranDry w i).ax w (36 + i) = 0 := by
  rw [State.ranDry, State.raiseKind_ax, State.count_ax, State.ax_setAx _ _ _ _ _ (by omega) (by omega),
    if_neg (by omega), State.ax_setAx _ _ _ _ _ (by omega) (by omega), if_pos ⟨rfl, rfl⟩]

theorem frame_ranDry (hw : w < 0x400) :
    Frame [(w, LANE.HOST_UNDERRUN_COUNT.off), (w, 0x028), (w, 0x00C)] s (s.ranDry w i) :=
  (Frame.refl0.setAx.setAx.count (by simp) (by simp [ovfOff_window hw]) (by simp)).raiseKind (by simp)

end

/-- The underrun of a stream that delivers and whose queue holds nothing more to read. -/
theorem exec_hostUnderrun_dry {s : State} {n : Fin 32} {i : Fin 2} (hk : kindOf (s.srcOf (winLane n) i) = .queue)
    (hplays : s.ax (winLane n) (36 + i) = 1) (hlive : s.live (winLane n) = true)
    (hempty : s.qFilled (s.srcOf (winLane n) i) = 0)
    (hdone : (s.taken (s.srcOf (winLane n) i)).all (fun x => x == 1) = true) :
    exec (.hostUnderrun n i) s = .next (s.ranDry (winLane n) i) := by
  have hdry : s.hostDry (winLane n) i = true := by
    simp only [State.hostDry, hk, hplays, hlive, hempty, hdone, beq_self_eq_true, Bool.and_self]
  exact congrArg Host.Outcome.next (if_pos hdry)

/-! ## The end of a ramp (R291) -/

/-- What the end of a ramp leaves: its state, the gain in force as GAIN_NOW shows it, and as an amplitude. -/
def State.rampEnded (s : State) (w state shown amp : Nat) : State :=
  ((s.put w LANE.LANE_STATUS_RAMP_STATE state).put w LANE.GAIN_NOW shown).setAx w axAmp amp

section
variable (s : State) (w state shown amp : Nat)

theorem State.rampEnded_state : (s.rampEnded w state shown amp).fld w LANE.LANE_STATUS_RAMP_STATE = state % 4 := by
  rw [State.rampEnded, State.setAx_fld, State.fld_put_apart _ _ (by decide) (by decide), State.fld_put _ _ (by decide)]
  rfl

theorem State.rampEnded_gain : (s.rampEnded w state shown amp).fld w LANE.GAIN_NOW = shown % 65536 := by
  rw [State.rampEnded, State.setAx_fld, State.fld_put _ _ (by decide)]
  rfl

theorem frame_rampEnded :
    Frame [(w, LANE.LANE_STATUS_RAMP_STATE.off), (w, LANE.GAIN_NOW.off)] s (s.rampEnded w state shown amp) :=
  ((Frame.refl0.put (by simp)).put (by simp)).setAx

end

section
variable {s : State} {n : Fin 32}

theorem exec_rampEnd_in (hend : s.ax (winLane n) axRampLen ≤ s.ax (winLane n) axRampAt)
    (hstate : s.fld (winLane n) LANE.LANE_STATUS_RAMP_STATE = 1) :
    exec (.rampEnd n) s = .next (
      s.rampEnded (winLane n) 2 (s.fld (winLane n) LANE.GAIN) (s.gainAmp (winLane n))) :=
  congrArg Host.Outcome.next ((if_neg (Nat.not_lt.mpr hend)).trans (if_pos hstate))

theorem State.rampZero_unasked {w : Nat} (hask : s.recentres w = false) :
    s.rampZero w = s.rampEnded w 0 0x8000 0 :=
  if_neg (by simp [hask])

theorem exec_rampEnd_zero (hend : s.ax (winLane n) axRampLen ≤ s.ax (winLane n) axRampAt)
    (hstate : s.fld (winLane n) LANE.LANE_STATUS_RAMP_STATE = 3) (hask : s.recentres (winLane n) = false) :
    exec (.rampEnd n) s = .next (s.rampEnded (winLane n) 0 0x8000 0) := by
  rw [← State.rampZero_unasked hask]
  exact congrArg Host.Outcome.next ((if_neg (Nat.not_lt.mpr hend)).trans
    ((if_neg (by simp [hstate])).trans ((if_pos hstate).trans (if_neg (by simp [hask])))))

end

/-! ## The counts of a converter, of one cycle (R298) -/

section
variable (s : State) (m w : Nat)

theorem exec_asrcInCountRead (m : Master) (n : Fin 32) :
    exec (.asrcInCountRead m n) s = .next (s.readInCount m (winASRC n)) := rfl

theorem lkey_register_ne {o p : Nat} (h : o / 4 ≠ p / 4) : lkey m w o ≠ lkey m w p := by
  unfold lkey rkey; omega

@[simp] theorem State.readInCount_answer : (s.readInCount m w).answer = [s.rd w ASRC.IN_COUNT.off] := rfl
@[simp] theorem State.readInCount_regs : (s.readInCount m w).regs = s.regs := by simp [State.readInCount]
@[simp] theorem State.readInCount_mem : (s.readInCount m w).mem = s.mem := by simp [State.readInCount]

theorem State.readInCount_outCount :
    (s.readInCount m w).latched m w ASRC.OUT_COUNT.off = s.rd w ASRC.OUT_COUNT.off := by
  rw [State.readInCount, State.ans_latched, State.latched_setLatch, if_neg (lkey_register_ne _ _ (by decide)),
    State.latched_setLatch, if_neg (lkey_register_ne _ _ (by decide)), State.latched_setLatch, if_pos rfl]

theorem State.readInCount_discardCount :
    (s.readInCount m w).latched m w ASRC.DISCARD_COUNT.off = s.rd w ASRC.DISCARD_COUNT.off := by
  rw [State.readInCount, State.ans_latched, State.latched_setLatch, if_neg (lkey_register_ne _ _ (by decide)),
    State.latched_setLatch, if_pos rfl]

end

/-- Settles O12: each clause by the equation of its command; the ends of both ramps are one update, and an underrun and
a read of IN_COUNT each have theirs. -/
theorem laneRows : Obligations.LaneRows := by
  refine ⟨fun s m n v h => exec_laneSelect_accepted h, fun s n h => exec_selectPendingTakes_pending h,
    fun s m n v h => exec_gainWrite_accepted h, fun s n hlive => exec_laneSample_live hlive,
    fun s n i hk hruns hwaits hread => exec_hostPcmDescriptor_takes hk hruns hwaits hread,
    fun s n i hwaits => exec_hostPcmMarkStart_waiting hwaits, ?underrun,
    fun s n hfading hfollow => exec_xfadeDone_unfollowed hfading hfollow, ?rampIn, ?rampZero,
    fun s n u _ => exec_accessUnitDecoded n u s, ?inCount⟩
  case underrun =>
    intro s n i hk hplays hlive hempty hdone
    have hw := winLane_lt n
    exact ⟨_, exec_hostUnderrun_dry hk hplays hlive hempty hdone, s.ranDry_count hw, s.ranDry_event _ _,
      s.ranDry_restarts i.isLt, s.ranDry_delivers i.isLt, frame_ranDry s hw⟩
  case rampIn =>
    intro s n hend hstate
    exact ⟨_, exec_rampEnd_in hend hstate, s.rampEnded_state _ _ _ _, s.rampEnded_gain _ _ _ _,
      frame_rampEnded s _ _ _ _⟩
  case rampZero =>
    intro s n hend hstate hask
    exact ⟨_, exec_rampEnd_zero hend hstate hask, s.rampEnded_state _ _ _ _, s.rampEnded_gain _ _ _ _,
      frame_rampEnded s _ _ _ _⟩
  case inCount =>
    intro s m n
    exact ⟨_, exec_asrcInCountRead s m n, s.readInCount_answer _ _, s.readInCount_outCount _ _,
      s.readInCount_discardCount _ _, s.readInCount_regs _ _, s.readInCount_mem _ _⟩

end Sys2Proof.Machine
end

section
/-! PROOF. External clocks of audio ports (O14). -/

namespace Sys2Proof.Machine

/-! ## A lost clock (R314, R328) -/

/-- What CLOCK_LOST leaves of a port that no ASRC feeds and that was not VALID. -/
def State.unclocked (s : State) (p : Nat) : State :=
  ((((((s.count p PORT.CLOCK_LOST_COUNT).raiseKind p evPortLost).put p PORT.PORT_STATUS_CLOCK_LOST 1).put p
    PORT.PORT_STATUS_CLK_OK 0).setAx p axPMute 1).setAx p axPMark 1).setHs p hsOut []

section
variable (s : State) {p : Nat}

theorem State.unclocked_lost (p : Nat) : (s.unclocked p).flag p PORT.PORT_STATUS_CLOCK_LOST = true := by
  rw [State.unclocked, State.setHs_flag, State.setAx_flag, State.setAx_flag,
    State.flag_put_apart _ _ (by decide) (by decide), State.flag_put _ _ (by decide)]
  decide

theorem State.unclocked_clkOk (p : Nat) : (s.unclocked p).flag p PORT.PORT_STATUS_CLK_OK = false := by
  rw [State.unclocked, State.setHs_flag, State.setAx_flag, State.setAx_flag, State.flag_put _ _ (by decide)]
  decide

theorem State.unclocked_mute (p : Nat) : (s.unclocked p).ax p axPMute = 1 := by
  simp [State.unclocked, axPMute, axPMark]

/-- The registers outside PORT_STATUS: what the count and the event left. -/
theorem State.unclocked_rd {off : Nat} (h : off / 4 ≠ 32) :
    (s.unclocked p).rd p off = ((s.count p PORT.CLOCK_LOST_COUNT).raiseKind p evPortLost).rd p off := by
  rw [State.unclocked, State.setHs_rd, State.setAx_rd, State.setAx_rd, State.rd_put_reg _ _ _ h,
    State.rd_put_reg _ _ _ h]

theorem State.unclocked_count (hp : p < 0x400) :
    (s.unclocked p).rd p PORT.CLOCK_LOST_COUNT.off = counted (s.rd p PORT.CLOCK_LOST_COUNT.off) := by
  rw [State.unclocked_rd s (by decide), State.raiseKind_rd_own _ (by decide),
    State.count_rd_own _ hp (by decide) (by decide)]

theorem State.unclocked_event (p : Nat) : ((s.unclocked p).rd p 0x00C).getLsbD evPortLost = true := by
  rw [State.unclocked_rd s (by decide)]
  exact State.raiseKind_event _ _ _ (by decide)

theorem frame_unclocked (hp : p < 0x400) :
    Frame [(p, PORT.PORT_STATUS_CLOCK_LOST.off), (p, 0x00C), (p, PORT.CLOCK_LOST_COUNT.off), (p, 0x028)] s
      (s.unclocked p) :=
  ((((Frame.refl0.count (by simp) (by simp [ovfOff_window hp]) (by simp)).raiseKind (by simp)).put (by simp)).put
    (by simp [PORT.PORT_STATUS_CLK_OK, PORT.PORT_STATUS_CLOCK_LOST])).setAx.setAx.setHs

end

section
variable {s : State} {p : Nat}

/-- The links stand in the tree alone. -/
theorem State.srcOf_of_tree {t : State} (h : t.tree = s.tree) (w i : Nat) : t.srcOf w i = s.srcOf w i := by
  simp only [State.srcOf, State.linkIn, h]

/-- A port whose clock was there, that no ASRC feeds and that is not VALID, declares its loss. -/
theorem State.declareLost_unfed (hclock : s.flag p PORT.PORT_STATUS_CLOCK_LOST = false)
    (hsrc : kindOf (s.srcOf p 0) ≠ .asrc) (hvalid : (s.unit p).valid = false) : s.declareLost p = s.unclocked p := by
  have htree : ((s.count p PORT.CLOCK_LOST_COUNT).raiseKind p evPortLost).tree = s.tree := by simp
  have htold : kindOf (((s.count p PORT.CLOCK_LOST_COUNT).raiseKind p evPortLost).srcOf p 0) ≠ .asrc := by
    rwa [State.srcOf_of_tree htree]
  simp [State.declareLost, State.clockGone, hclock, htold, hvalid, State.unclocked]

end

/-! ## A clock that returns (R297, R328) -/

/-- What CLOCK_RETURNED leaves of a port whose data waits for RESTART. -/
def State.clockedAgain (s : State) (p : Nat) : State :=
  ((s.put p PORT.PORT_STATUS_CLOCK_LOST 0).put p PORT.PORT_STATUS_CLK_OK 1).raiseKind p evPortReturned

section
variable (s : State) (p : Nat)

theorem State.clockedAgain_lost : (s.clockedAgain p).flag p PORT.PORT_STATUS_CLOCK_LOST = false := by
  rw [State.clockedAgain, State.raiseKind_flag_reg _ _ _ _ (by decide),
    State.flag_put_apart _ _ (by decide) (by decide), State.flag_put _ _ (by decide)]
  decide

theorem State.clockedAgain_clkOk : (s.clockedAgain p).flag p PORT.PORT_STATUS_CLK_OK = true := by
  rw [State.clockedAgain, State.raiseKind_flag_reg _ _ _ _ (by decide), State.flag_put _ _ (by decide)]
  decide

theorem State.clockedAgain_event : ((s.clockedAgain p).rd p 0x00C).getLsbD evPortReturned = true :=
  State.raiseKind_event _ _ _ (by decide)

/-- The flags outside PORT_STATUS and UNIT_EVENT stand. -/
theorem State.clockedAgain_flag {q : FRef} (hevent : q.off / 4 ≠ 3)
    (hlost : PORT.PORT_STATUS_CLOCK_LOST.apart q = true) (hok : PORT.PORT_STATUS_CLK_OK.apart q = true) :
    (s.clockedAgain p).flag p q = s.flag p q := by
  rw [State.clockedAgain, State.raiseKind_flag_reg _ _ _ _ hevent, State.flag_put_apart _ _ (by decide) hok,
    State.flag_put_apart _ _ (by decide) hlost]

theorem frame_clockedAgain :
    Frame [(p, PORT.PORT_STATUS_CLOCK_LOST.off), (p, 0x00C)] s (s.clockedAgain p) :=
  ((Frame.refl0.put (by simp)).put
    (by simp [PORT.PORT_STATUS_CLK_OK, PORT.PORT_STATUS_CLOCK_LOST])).raiseKind (by simp)

end

/-- An output port that no ASRC feeds re-acquires nothing, and without AUTO_RESTART its data does not return. -/
theorem State.clockBack_waits {s : State} {p : Nat} (hlost : s.flag p PORT.PORT_STATUS_CLOCK_LOST = true)
    (hsrc : kindOf (s.srcOf p 0) ≠ .asrc) (hauto : s.flag p PORT.PORT_CTL_AUTO_RESTART = false)
    (hout : s.flag p PORT.PORT_CFG_DIR = false) : s.clockBack p = s.clockedAgain p := by
  have hstays : ((s.clockedAgain p).flag p PORT.PORT_CTL_AUTO_RESTART ||
      (s.clockedAgain p).flag p PORT.PORT_CFG_DIR) = false := by
    rw [State.clockedAgain_flag _ _ (by decide) (by decide) (by decide),
      State.clockedAgain_flag _ _ (by decide) (by decide) (by decide), hauto, hout]
    rfl
  exact (if_neg (by simp [hlost])).trans ((if_neg (fun h => hsrc h.1)).trans (if_neg (Bool.eq_false_iff.mp hstays)))

/-- What a re-acquire that is done leaves, by the port that the ASRC feeds: with AUTO_RESTART its data returns. -/
def State.reacquiredFor (s : State) (a : Nat) : Option Nat → State
  | some p =>
    if s.flag p PORT.PORT_CTL_AUTO_RESTART then (s.asrcReacquired a).dataReturn p else s.asrcReacquired a
  | none => s.asrcReacquired a

section
variable {s : State} {n : Fin 32}

/-- A re-acquire that ramped out and flushed is done once the buffer holds 32 frames. -/
theorem exec_asrcReacquireDone_refilled (hmode : s.fld (winASRC n) ASRC.ASRC_STATUS_MODE = 4)
    (hstep : s.ax (winASRC n) axAsrcStep = 2) (hfill : 32 ≤ s.fld (winASRC n) ASRC.ASRC_STATUS_FILL) :
    exec (.asrcReacquireDone n) s = .next (s.reacquiredFor (winASRC n) (s.asrcPort (winASRC n))) :=
  congrArg Host.Outcome.next (if_pos ⟨hmode, hstep, hfill⟩)

/-! ## The commands of a clock, each for every port that uses it (R314, R315, R328–R330) -/

theorem exec_clockLost_external (hclocked : s.portClocking (winPort n) ≠ 0) :
    exec (.clockLost n) s = .next ((s.clockUsers (winPort n)).foldl State.declareLost s) :=
  congrArg Host.Outcome.next (if_neg hclocked)

theorem exec_clockReturned (n : Fin 32) (s : State) :
    exec (.clockReturned n) s = .next ((s.clockUsers (winPort n)).foldl State.clockBack s) := rfl

/-- The third frame discarded in succession is a lost clock. -/
theorem exec_glitchFrame_external (hclocked : s.portClocking (winPort n) ≠ 0)
    (hclock : s.flag (winPort n) PORT.PORT_STATUS_CLOCK_LOST = false) :
    exec (.glitchFrame n) s = .next ((s.clockUsers (winPort n)).foldl
      (fun t p => let u := t.glitch p; if 3 ≤ u.ax p axPGlitch then u.declareLost p else u) s) :=
  congrArg Host.Outcome.next (if_neg (by simp [hclocked, hclock]))

theorem exec_rateStep_exceeds {period : Nat} (hclocked : s.portClocking (winPort n) ≠ 0)
    (hclock : s.flag (winPort n) PORT.PORT_STATUS_CLOCK_LOST = false)
    (hstep : (s.rd (winPort n) PORT.FRAME_PERIOD.off).toNat <
      ((period : Int) - (s.rd (winPort n) PORT.FRAME_PERIOD.off).toNat).natAbs * 200) :
    exec (.rateStep n period) s = .next ((s.clockUsers (winPort n)).foldl (fun t p => t.rateStep p period) s) :=
  congrArg Host.Outcome.next (if_neg (by simp [hclocked, hclock, Nat.not_le.mpr hstep]))

theorem exec_hybridLock_hybrid (hhybrid : s.portClocking (winPort n) = 2) :
    exec (.hybridLock n) s = .next (
      (s.clockUsers (winPort n)).foldl (fun t p => t.put p PORT.PORT_STATUS_CLK_OK 1) s) :=
  congrArg Host.Outcome.next (if_pos hhybrid)

theorem exec_portRestart_accepted {m : Master} {v : Word} (hv : v = s.rd (winPort n) 0x048 ||| 0x100)
    (h : s.accepts m (winPort n) 0x048 v [] = true) :
    exec (.portRestart m n) s = .next (s.told m (winPort n) 0x048 v (s.portCtlWritten (winPort n) v)) := by
  subst hv
  exact congrArg Host.Outcome.next (State.guarded_accepts s h)

end

/-- Settles O14: each clause by the equation of its command; of one port that no ASRC feeds, the loss and the return of
its clock are each one update. -/
theorem portClocks : Obligations.PortClocks := by
  refine ⟨fun s n hclocked => exec_clockLost_external hclocked, ?lost, fun s n => exec_clockReturned n s, ?back,
    ?unported, ?restarts, ?waits,
    fun s n hclocked hclock => exec_glitchFrame_external hclocked hclock,
    fun s n period hclocked hclock hstep => exec_rateStep_exceeds hclocked hclock hstep,
    fun s n hhybrid => exec_hybridLock_hybrid hhybrid, fun s m n h => exec_portRestart_accepted rfl h⟩
  case lost =>
    intro s n k hclocked husers hclock hsrc hvalid
    have hp := winPort_lt k
    have hexec : exec (.clockLost n) s = .next (s.unclocked (winPort k)) := by
      rw [exec_clockLost_external hclocked, husers, List.foldl_cons, List.foldl_nil,
        State.declareLost_unfed hclock hsrc hvalid]
    exact ⟨_, hexec, s.unclocked_lost _, s.unclocked_clkOk _, s.unclocked_mute _, s.unclocked_count hp,
      s.unclocked_event _, frame_unclocked s hp⟩
  case back =>
    intro s n k husers hlost hsrc hauto hout
    have hexec : exec (.clockReturned n) s = .next (s.clockedAgain (winPort k)) := by
      rw [exec_clockReturned, husers, List.foldl_cons, List.foldl_nil, State.clockBack_waits hlost hsrc hauto hout]
    exact ⟨_, hexec, s.clockedAgain_lost _, s.clockedAgain_clkOk _, s.clockedAgain_event _, frame_clockedAgain s _⟩
  case unported =>
    intro s n hmode hstep hfill hport
    rw [exec_asrcReacquireDone_refilled hmode hstep hfill, hport]
    rfl
  case restarts =>
    intro s n p hmode hstep hfill hport hauto
    rw [exec_asrcReacquireDone_refilled hmode hstep hfill, hport]
    exact congrArg Host.Outcome.next (if_pos hauto)
  case waits =>
    intro s n p hmode hstep hfill hport hauto
    rw [exec_asrcReacquireDone_refilled hmode hstep hfill, hport]
    exact congrArg Host.Outcome.next (if_neg (by simp [hauto]))

end Sys2Proof.Machine
end

section
/-! PROOF. Frames, zero crossings and stops of audio ports, and their start groups (O13, O15). -/

namespace Sys2Proof.Machine

/-! ## A frame, a block, a slot that starts or stops (R313, R320, R321, R332) -/

section
variable {s : State} {w : Nat}

/-- What a frame boundary makes of a port that runs, with its clocks and on its boundary. -/
theorem State.portFrame_taken {e : BitVec 64} {period : Nat} {xs : List Int} {missing : BitVec 2} {u v : State}
    (hruns : s.portRuns w = true) (hleads : s.portRuns (s.clkPort w) = true)
    (hclock : s.flag w PORT.PORT_STATUS_CLOCK_LOST = false)
    (hplace : s.portClocking w ≠ 0 ∨ onBoundary (s.portRate w) e.toNat = true)
    (hu : u = (((((s.advanceTo e).frameEpoch w e).framePeriod w period).noteClock w period).putB w
      PORT.PORT_STATUS_DRIVING (s.wantDrive w)).setAx w axPGlitch 0)
    (hv : v = if u.portMayStart w e then u.portStart w e
      else if u.flag w PORT.PORT_STATUS_STARTED then u.bump w PORT.FRAME_COUNT else u) :
    s.portFrame w e period xs missing =
      (if v.flag w PORT.PORT_CFG_DIR then v.inFrame w e xs else v.outFrame w e missing).portCheck w := by
  subst hv hu
  have hoff : ¬ (s.portClocking w = 0 ∧ (!onBoundary (s.portRate w) e.toNat) = true) := by
    rcases hplace with h | h
    · exact fun k => h k.1
    · simp [h]
  exact (if_neg (by simp [hruns, hleads, hclock])).trans (if_neg hoff)

/-- The slot waits no more. -/
theorem State.zcPass_wait (s : State) (w i : Nat) : (s.zcPass w i).ax w axPWait = clearBit (s.ax w axPWait) i := by
  simp [State.zcPass, axPWait]

theorem State.zcPass_rd (s : State) {w i off : Nat} (h : off / 4 ≠ PORT.PORT_STATUS_ZC_WAIT.off / 4) :
    (s.zcPass w i).rd w off = s.rd w off := by
  rw [State.zcPass, State.putB_rd_reg _ _ _ h, State.setAx_rd]

theorem State.zcPass_flag (s : State) (w i : Nat) :
    (s.zcPass w i).flag w PORT.PORT_STATUS_ZC_WAIT = (clearBit (s.ax w axPWait) i != 0) := by
  rw [State.zcPass, State.putB_flag _ _ (by decide) rfl]

theorem frame_zcPass (s : State) (w i : Nat) : Frame [(w, PORT.PORT_STATUS_ZC_WAIT.off)] s (s.zcPass w i) :=
  Frame.refl0.setAx.putB (by simp)

end

/-- What the timeout of a slot leaves: a ramp of 1 ms begins, and the timeout is counted and told. -/
def State.zcTimedOut (s : State) (w slot i : Nat) : State :=
  ((s.startRamp w slot i).count w PORT.ZC_TIMEOUT_COUNT).raiseKind w evPortZc

section
variable (s : State) {w slot i : Nat}

theorem State.zcTimedOut_ramp (w i : Nat) (hslot : slot < 64) :
    (s.zcTimedOut w slot i).hs w slot = (fitInts 16 (s.hs w slot)).set i 1 := by
  rw [State.zcTimedOut, State.raiseKind_hs, State.count_hs, State.startRamp, State.hs_setHs _ _ _ _ _ hslot hslot,
    if_pos ⟨rfl, rfl⟩]

theorem State.zcTimedOut_count (hw : w < 0x400) : (s.zcTimedOut w slot i).rd w PORT.ZC_TIMEOUT_COUNT.off =
    counted (s.rd w PORT.ZC_TIMEOUT_COUNT.off) := by
  rw [State.zcTimedOut, State.raiseKind_rd_own _ (by decide), State.count_rd_own _ hw (by decide) (by decide)]
  rfl

theorem State.zcTimedOut_event (w slot i : Nat) : ((s.zcTimedOut w slot i).rd w 0x00C).getLsbD evPortZc = true :=
  State.raiseKind_event _ _ _ (by decide)

theorem State.zcTimedOut_ax (v j : Nat) : (s.zcTimedOut w slot i).ax v j = s.ax v j := by
  simp [State.zcTimedOut, State.startRamp]

theorem State.zcTimedOut_flag (hw : w < 0x400) {q : FRef} (h0 : q.off / 4 ≠ PORT.ZC_TIMEOUT_COUNT.off / 4)
    (h1 : q.off / 4 ≠ 10) (h2 : q.off / 4 ≠ 3) : (s.zcTimedOut w slot i).flag w q = s.flag w q := by
  rw [State.zcTimedOut, State.raiseKind_flag_reg _ _ _ _ h2, State.count_flag_own _ hw h0 h1 h2]
  rfl

theorem Frame.zcTimedOut {ks : List (Nat × Nat)} {s u : State} (h : Frame ks s u) (hw : w < 0x400)
    (h0 : (w, PORT.ZC_TIMEOUT_COUNT.off) ∈ ks) (h1 : (w, 0x028) ∈ ks) (h2 : (w, 0x00C) ∈ ks) :
    Frame ks s (u.zcTimedOut w slot i) :=
  (h.setHs.count h0 (by rwa [ovfOff_window hw]) h2).raiseKind h2

end

section
variable {s : State} {n : Fin 32} {i : Fin 16}

theorem exec_tapBlock_whole (hblock : s.ax (winPort n) axPBlock ≠ 0)
    (hgot : s.ax (winPort n) axPGot = s.ax (winPort n) axPBlock) :
    exec (.tapBlock n) s = .next (s.tapCommit (winPort n)) :=
  congrArg Host.Outcome.next (if_pos ⟨hblock, hgot⟩)

theorem exec_zcStartPass_crosses (hwait : (s.ax (winPort n) axPWait).testBit i = true)
    (hstarted : s.flag (winPort n) PORT.PORT_STATUS_STARTED = true) (hlive : s.live (winPort n) = true)
    (hmute : s.ax (winPort n) axPMute = 0) (hruns : s.portStopping (winPort n) = false)
    (hcross : s.crosses (winPort n) i = true) :
    exec (.zcStartPass n i) s = .next (s.zcPass (winPort n) i) :=
  congrArg Host.Outcome.next (if_pos (by simp [State.zcDue, hwait, hstarted, hlive, hmute, hruns, hcross]))

/-- A slot that waits starts with a ramp in. -/
theorem exec_zcTimeout_starts (hruns : s.portStopping (winPort n) = false)
    (hwait : (s.ax (winPort n) axPWait).testBit i = true) :
    exec (.zcTimeout n i) s = .next ((s.zcPass (winPort n) i).zcTimedOut (winPort n) hsRampIn i) :=
  congrArg Host.Outcome.next ((if_neg (by simp [hruns])).trans (if_pos hwait))

/-- A slot that is to stop ramps to 0. -/
theorem exec_zcTimeout_stops (hstops : s.portStopping (winPort n) = true)
    (hzc : s.flag (winPort n) PORT.PORT_CTL_ZC_STOP = true) (hslot : (s.slotMap (winPort n)).testBit i = true)
    (hwait : (s.ax (winPort n) axPWait).testBit i = false) (hstopped : (s.ax (winPort n) axPStopped).testBit i = false)
    (hramp : (s.hs (winPort n) hsRampOut).getD i 0 = 0) :
    exec (.zcTimeout n i) s = .next (s.zcTimedOut (winPort n) hsRampOut i) :=
  congrArg Host.Outcome.next ((if_pos hstops).trans (if_pos (by rw [hzc, hslot, hwait, hstopped, hramp]; rfl)))

theorem exec_portStopped_quiet (hstops : s.portStopping (winPort n) = true) (hquiet : s.slotsQuiet (winPort n) = true) :
    exec (.portStopped n) s = .next (
      (s.watch (winPort n) (fun t => t.setAx (winPort n) axPStop 0)).raiseKind (winPort n) evPortStopped) :=
  congrArg Host.Outcome.next (if_pos (by simp [hstops, hquiet]))

end

/-- Settles O13: a frame is the update of a port that takes it, and both timeouts of a slot are one update. -/
theorem portRows : Obligations.PortRows := by
  refine ⟨fun s n e period xs missing hruns hleads hclock hplace => ?frame,
    fun s n hblock hgot => exec_tapBlock_whole hblock hgot, ?passes, ?starts, ?stops,
    fun s n hstops hquiet => exec_portStopped_quiet hstops hquiet⟩
  case frame =>
    exact congrArg (fun t => Host.Outcome.next (s.firing t)) (State.portFrame_taken hruns hleads hclock hplace rfl rfl)
  case passes =>
    intro s n i hwait hstarted hlive hmute hruns hcross
    exact ⟨_, exec_zcStartPass_crosses hwait hstarted hlive hmute hruns hcross, s.zcPass_wait _ _, s.zcPass_flag _ _,
      frame_zcPass s _ _⟩
  case starts =>
    intro s n i hruns hwait
    have hw := winPort_lt n
    refine ⟨_, exec_zcTimeout_starts hruns hwait, ?_, ?_, State.zcTimedOut_ramp _ _ _ (by decide), ?_,
      State.zcTimedOut_event _ _ _ _, ?_⟩
    · rw [State.zcTimedOut_ax, State.zcPass_wait]
    · rw [State.zcTimedOut_flag _ hw (by decide) (by decide) (by decide), State.zcPass_flag]
    · rw [State.zcTimedOut_count _ hw, State.zcPass_rd _ (by decide)]
    · exact ((frame_zcPass s _ _).mono (by simp)).zcTimedOut hw (by simp) (by simp) (by simp)
  case stops =>
    intro s n i hstops hzc hslot hwait hstopped hramp
    have hw := winPort_lt n
    exact ⟨_, exec_zcTimeout_stops hstops hzc hslot hwait hstopped hramp, State.zcTimedOut_ramp _ _ _ (by decide),
      State.zcTimedOut_count _ hw, State.zcTimedOut_event _ _ _ _,
      Frame.refl0.zcTimedOut hw (by simp) (by simp) (by simp)⟩

/-! ## Start groups and SYNC (R322–R324) -/

/-- A field of one bit. -/
theorem FRef.of_bit {r : FRef} (hr : r.msb = r.lsb) (x : Word) : r.of x = (x.getLsbD r.lsb).toNat := by
  rw [FRef.of, hr, Nat.sub_self, Nat.zero_add, Nat.pow_one, BitVec.getLsbD, Nat.toNat_testBit]

section
variable {s : State} {m : Master} {g : Fin 8} {v : Word}

/-- A write of GRP_CTL_g that is accepted, by what it does to its group. -/
theorem State.writeGrp_accepted {x : Word} (h : s.accepts m 0x220 (0x200 + 16 * g) x [] = true) :
    s.writeGrp m g x = s.told m 0x220 (0x200 + 16 * g) x (
      if PORT.GRP_CTL_GO.of x = 1 ∧ PORT.GRP_CTL_ARM.of x = 0 then s.grpGo g x else s.grpWritten g x) :=
  State.guarded_accepts s h

theorem exec_groupArm_accepted (hg : g ≠ 0) (h : s.accepts m 0x220 (0x200 + 16 * g) (v ||| 0x10) [] = true) :
    exec (.groupArm m g v) s = .next (
      s.told m 0x220 (0x200 + 16 * g) (v ||| 0x10) (s.grpWritten g (v ||| 0x10))) := by
  have harm : PORT.GRP_CTL_ARM.of (v ||| 0x10) ≠ 0 := by
    rw [FRef.of_bit rfl]; simp [PORT.GRP_CTL_ARM]
  have hwrite := State.writeGrp_accepted h
  rw [if_neg (fun k => harm k.2)] at hwrite
  exact congrArg Host.Outcome.next ((if_neg (Fin.val_ne_of_ne hg)).trans hwrite)

/-- GO without ARM acts on the group as an earlier write armed it. -/
theorem exec_groupGo_accepted (hg : g ≠ 0) (harm : v.getLsbD 4 = false)
    (h : s.accepts m 0x220 (0x200 + 16 * g) (v ||| 0x20) [] = true) :
    exec (.groupGo m g v) s = .next (s.told m 0x220 (0x200 + 16 * g) (v ||| 0x20) (s.grpGo g (v ||| 0x20))) := by
  have hgo : PORT.GRP_CTL_GO.of (v ||| 0x20) = 1 := by
    rw [FRef.of_bit rfl]; simp [PORT.GRP_CTL_GO]
  have hunarmed : PORT.GRP_CTL_ARM.of (v ||| 0x20) = 0 := by
    rw [FRef.of_bit rfl]; simpa [PORT.GRP_CTL_ARM] using harm
  have hwrite := State.writeGrp_accepted h
  rw [if_pos ⟨hgo, hunarmed⟩] at hwrite
  exact congrArg Host.Outcome.next ((if_neg (Fin.val_ne_of_ne hg)).trans hwrite)

theorem exec_groupFireEpoch_armed (hg : g ≠ 0) (harm : s.grpFld g PORT.GRP_CTL_ARM = 1)
    (hsource : s.grpFld g PORT.GRP_CTL_SOURCE = 0) :
    exec (.groupFireEpoch g) s = .next ((s.advanceTo (s.grpEpoch g)).fireGroup g (s.grpEpoch g)) :=
  congrArg Host.Outcome.next (if_pos ⟨Fin.val_ne_of_ne hg, harm, hsource⟩)

theorem exec_syncInEdge_enabled {e : BitVec 64} (henable : s.flag 0x220 PORT.SYNC_IN_CFG_ENABLE = true) :
    exec (.syncInEdge e) s = .next (s.firing ((s.syncIn e).fire (fun x => x.cond == 2))) :=
  congrArg Host.Outcome.next (if_pos henable)

theorem exec_syncOutPulse_periodic {e : BitVec 64} (hmode : s.fld 0x220 PORT.SYNC_OUT_CFG_MODE = 2)
    (hplace : e.toNat % (s.rd 0x220 PORT.PERIOD.off).toNat = 0) :
    exec (.syncOutPulse e) s = .next (
      ((s.advanceTo e).setAx blkClk axSyncOut (e.toNat + 1)).setAx blkClk axSyncWidth
        (s.fld 0x220 PORT.SYNC_OUT_CFG_WIDTH)) :=
  congrArg Host.Outcome.next (if_pos (Or.inr ⟨hmode, hplace⟩))

end

/-- Settles O15: each clause by the equation of its command; the two writes of GRP_CTL_g are one, and differ in ARM. -/
theorem groupRows : Obligations.GroupRows :=
  ⟨fun _ _ _ _ hg h => exec_groupArm_accepted hg h, fun _ _ _ _ hg harm h => exec_groupGo_accepted hg harm h,
    fun _ _ hg harm hsource => exec_groupFireEpoch_armed hg harm hsource,
    fun _ _ henable => exec_syncInEdge_enabled henable,
    fun _ _ hmode hplace => exec_syncOutPulse_periodic hmode hplace⟩

end Sys2Proof.Machine
end

section
/-! PROOF. What a port puts on its lines (O59). -/

namespace Sys2Proof.Machine

/-! ## Slots and FSYNC (R306, R307, R310) -/

section
variable {s : State} {w : Nat}

theorem State.slotBit_driven {p i : Nat} (h : s.slotDriver w i = some p) (j : Nat) :
    s.slotBit w i j = .bit (s.wordBit p i j) := by
  rw [State.slotBit, h]

theorem State.slotBit_undriven {i : Nat} (h : s.slotDriver w i = none) (j : Nat) :
    s.slotBit w i j = if s.flag (s.portLine w) PORT.PORT_CTL_TRISTATE_UNUSED then .floating else .bit false := by
  rw [State.slotBit, h]

/-- A frame of FORMAT 0 has two slots. -/
theorem State.frameBits_i2s (h : s.fld (s.clkPort w) PORT.PORT_CFG_FORMAT = 0) :
    s.frameBits w = slotBits (s.fld (s.clkPort w) PORT.PORT_CFG_SLOT_BITS) * 2 := by
  simp [State.frameBits, State.portSlots, h]

/-- FSYNC of I²S rises with the second slot. -/
theorem State.fsyncShape_i2s (h : s.fld (s.clkPort w) PORT.PORT_CFG_FORMAT = 0) (k : Nat) :
    s.fsyncShape w k = decide (s.frameBits w ≤ 2 * k) := by
  rw [State.frameBits_i2s h, State.fsyncShape, h]
  exact decide_eq_decide.mpr (by omega)

theorem State.fsyncShape_tdm (h : 2 ≤ s.fld (s.clkPort w) PORT.PORT_CFG_FORMAT) (k : Nat) :
    s.fsyncShape w k = decide (k < if s.flag (s.clkPort w) PORT.PORT_CFG_FSYNC_WIDTH then
      slotBits (s.fld (s.clkPort w) PORT.PORT_CFG_SLOT_BITS) else 1) := by
  unfold State.fsyncShape
  dsimp only
  split
  next h0 => omega
  next h1 => omega
  next => rfl

/-! ## Balls (R318, R502) -/

theorem State.powered_not_retained (hdie : s.power.die = 0) : s.retained = false := by
  simp [State.retained, hdie]

/-- What a port that the part has and that is enabled does with a ball of its own that may drive. -/
theorem State.portBall_driven {b : PortBall} (hdie : s.power.die = 0) (hon : s.portOff w = false)
    (hown : s.ballLent w b = false) (hout : s.ballIsOutput w b = true) (hdrive : s.driveOn w = true) :
    s.portBall w b = s.outputUse w b := by
  simp [State.portBall, State.powered_not_retained hdie, hdie, hon, hown, hout, hdrive]

theorem State.portBall_disabled {b : PortBall} (hdie : s.power.die = 0)
    (henable : s.flag w UCB.UNIT_CTL_ENABLE = false) : s.portBall w b = .pulledDown := by
  simp [State.portBall, State.powered_not_retained hdie, State.portOff, henable]

/-- IDLE is a state of an enabled unit. -/
theorem State.enabled_of_idle (h : s.atomState w = stIDLE) : s.flag w UCB.UNIT_CTL_ENABLE = true := by
  by_contra hoff
  rw [Bool.not_eq_true] at hoff
  unfold State.atomState at h
  simp only [hoff, Bool.not_false, if_true] at h
  split at h
  · cases h
  split at h
  · cases h
  · cases h

theorem State.outputUse_idle (h : s.atomState w = stIDLE) (b : PortBall) : s.outputUse w b = .low := by
  simp [State.outputUse, State.portStill, h]

end

/-- Settles O59: a slot by its driver, FSYNC by FORMAT, a ball by whether its port is enabled, drives and is in IDLE. -/
theorem portLines : Obligations.PortLines := by
  refine ⟨?driven, fun s w i j h => State.slotBit_undriven h j, ?i2s, ?tdm,
    fun s w b hdie henable => State.portBall_disabled hdie henable, ?idle⟩
  case driven =>
    intro s w p i j h hdata
    rw [State.slotBit_driven h, State.wordBit, hdata]
    rfl
  case i2s =>
    intro s w k hformat _
    rw [State.fsyncLevel, State.fsyncShape_i2s hformat]
  case tdm =>
    intro s w k hformat
    rw [State.fsyncLevel, State.fsyncShape_tdm hformat]
  case idle =>
    intro s w b hdie hpresent hidle hown hout hdrive
    have hon : s.portOff w = false := by simp [State.portOff, hpresent, State.enabled_of_idle hidle]
    rw [State.portBall_driven hdie hon hown hout hdrive, State.outputUse_idle hidle]

end Sys2Proof.Machine
end

section
/-! PROOF. Pigeonholes, their notices and replies, the Bell board and the event latches (O21, O23, O50, O58). -/

namespace Sys2Proof.Machine

/-! ## FIFOs (R351–R354) -/

section
variable (s : State) (n : Nat)

/-- CROSSED may latch PH_COLLISION beside what an operation does to the FIFOs. -/
theorem State.onPigeon_fifo (f : State → State) (g : Bool) (k : Nat) : (s.onPigeon n f).fifo g k = (f s).fifo g k := by
  unfold State.onPigeon
  split
  · exact State.raise_fifo _ _ _ _
  · rfl

theorem State.onPigeon_latch (f : State → State) {e : Nat} (h : (f s).board.latch.getLsbD e = true) :
    (s.onPigeon n f).board.latch.getLsbD e = true := by
  unfold State.onPigeon
  split
  · rw [State.raise_latch, BitVec.getLsbD_or, h, Bool.true_or]
  · exact h

theorem State.onPigeon_toHost (f : State → State) {i : Nat} (h : (f s).board.toHost.getLsbD i = true) :
    (s.onPigeon n f).board.toHost.getLsbD i = true := by
  unfold State.onPigeon
  split
  · exact State.occur_toHost _ _ _ h
  · exact h

/-- A push into a FIFO with room. -/
theorem State.pushFifo_fifo {toHost : Bool} (hroom : (s.fifo toHost n).words.length < 8) (v : Word) (g : Bool) (k : Nat) :
    (s.pushFifo toHost n v).fifo g k = if g = toHost ∧ k = n then
      { s.fifo toHost n with words := (s.fifo toHost n).words ++ [v] } else s.fifo g k := by
  rw [State.pushFifo, State.onPigeon_fifo]
  dsimp only
  rw [if_pos hroom, State.fifo_setFifo]

/-- A push into a full FIFO overwrites its last word. -/
theorem State.pushFifo_fifo_full {toHost : Bool} (hfull : 8 ≤ (s.fifo toHost n).words.length) (v : Word) (g : Bool)
    (k : Nat) :
    (s.pushFifo toHost n v).fifo g k = if g = toHost ∧ k = n then
      { s.fifo toHost n with words := (s.fifo toHost n).words.dropLast ++ [v], collision := true } else s.fifo g k := by
  rw [State.pushFifo, State.onPigeon_fifo]
  dsimp only
  rw [if_neg (Nat.not_lt.mpr hfull), State.raise_fifo, State.fifo_setFifo]

theorem State.pushFifo_latch_full {toHost : Bool} (hfull : 8 ≤ (s.fifo toHost n).words.length) (v : Word) :
    (s.pushFifo toHost n v).board.latch.getLsbD 118 = true := by
  apply State.onPigeon_latch
  dsimp only
  rw [if_neg (Nat.not_lt.mpr hfull)]
  exact State.raise_event _ _ (by decide)

@[simp] theorem State.emptyNotice_fifo (toHost g : Bool) (k : Nat) :
    (s.emptyNotice toHost n).fifo g k = if g = toHost ∧ k = n then
      { s.fifo toHost n with emptyReq := false, emptied := true } else s.fifo g k := by
  cases toHost <;> simp [State.emptyNotice]

theorem State.emptyNotice_latch : (s.emptyNotice false n).board.latch.getLsbD 117 = true :=
  State.raise_event _ _ (by decide)

theorem State.emptyNotice_board : (s.emptyNotice true n).board = s.board := by
  simp [State.emptyNotice]

/-- EMPTY_REQ of an empty FIFO is answered at once. -/
theorem State.reqEmpty_empty {toHost : Bool} (h : (s.fifo toHost n).words = []) :
    s.reqEmpty toHost n = s.emptyNotice toHost n := by
  simp [State.reqEmpty, h]

/-- EMPTY_REQ of a FIFO that holds words is noted. -/
theorem State.reqEmpty_waits {toHost : Bool} (h : (s.fifo toHost n).words ≠ []) :
    (s.reqEmpty toHost n).fifo toHost n = { s.fifo toHost n with emptyReq := true } := by
  rw [State.reqEmpty, if_neg (by simpa using h), State.onPigeon_fifo, State.fifo_setFifo, if_pos ⟨rfl, rfl⟩]

/-- What a pop leaves that leaves `rest`, before the word is answered. -/
def State.popped (toHost : Bool) (rest : List Word) : State :=
  let t := s.setFifo toHost n { s.fifo toHost n with words := rest }
  if rest.isEmpty && (s.fifo toHost n).emptyReq then t.emptyNotice toHost n else t

theorem State.popped_words (toHost : Bool) (rest : List Word) :
    ((s.popped n toHost rest).fifo toHost n).words = rest := by
  unfold State.popped
  dsimp only
  split <;> simp

theorem State.popped_other (toHost : Bool) (rest : List Word) :
    (s.popped n toHost rest).fifo (!toHost) n = s.fifo (!toHost) n := by
  unfold State.popped
  dsimp only
  split <;> simp

theorem State.popped_regs (toHost : Bool) (rest : List Word) : (s.popped n toHost rest).regs = s.regs := by
  unfold State.popped
  dsimp only
  split <;> simp

theorem State.popped_mem (toHost : Bool) (rest : List Word) : (s.popped n toHost rest).mem = s.mem := by
  unfold State.popped
  dsimp only
  split <;> simp

theorem State.popped_fw (toHost : Bool) (rest : List Word) : (s.popped n toHost rest).fw = s.fw := by
  unfold State.popped State.emptyNotice
  dsimp only
  repeat' split
  all_goals simp

/-- The pop that empties a FIFO of which the notice was asked. -/
theorem State.popped_last {toHost : Bool} (hreq : (s.fifo toHost n).emptyReq = true) :
    s.popped n toHost [] = (s.setFifo toHost n { s.fifo toHost n with words := [] }).emptyNotice toHost n := by
  simp [State.popped, hreq]

end

section
variable {s : State} {n : Nat} {v : Word} {rest : List Word}

theorem State.popFifo_td (h : (s.fifo false n).words = v :: rest) :
    s.popFifo false n = (s.popped n false rest).ans [v] := by
  unfold State.popFifo
  rw [h]
  rfl

/-- With no message of firmware waiting for the pigeonhole, a pop from TH makes room for none. -/
theorem State.popFifo_th (h : (s.fifo true n).words = v :: rest)
    (hnone : (s.fw.outbox.any (fun x => x.ph == n)) = false) :
    s.popFifo true n = (s.popped n true rest).ans [v] := by
  have hfind : s.fw.outbox.find? (fun m => m.ph == n) = none := by
    simpa [List.find?_eq_none] using hnone
  have hdrain : (s.popped n true rest).drainOutbox n = s.popped n true rest := by
    rw [State.drainOutbox, State.popped_fw, hfind]
  unfold State.popFifo
  rw [h]
  exact congrArg (State.ans · [v]) hdrain

end

section
variable {s : State} {m : Master} {ph : Fin 8} {v : Word} {rest : List Word}

/-- No lead mirrors a write to the pigeonholes. -/
theorem State.guarded_pigeon {off : Nat} {act : State → State} (h : s.accepts m blkPigeon off v [] = true) :
    s.guarded m blkPigeon off v [] act = act s := by
  rw [State.guarded_accepts s h, State.told_apart s (State.mirrorsReg_pigeon s _ _)]

theorem exec_phThPush_accepted (h : s.accepts m blkPigeon (0x20 * ph + 0x08) v [] = true) :
    exec (.phThPush m ph v) s = .next (s.pushFifo true ph v) :=
  congrArg Host.Outcome.next (State.guarded_pigeon h)

/-- A word that begins no message longer than 7 arguments. -/
theorem exec_phTdPush_accepted (h : s.accepts m blkPigeon (0x20 * ph) v [] = true)
    (hkept : s.ax blkPigeon (axDiscard ph) = 0)
    (hshort : (s.fifo false ph).words ≠ [] ∨ v.toNat % 65536 ≤ 7) :
    exec (.phTdPush m ph v) s = .next (s.pushFifo false ph v) := by
  have hwhole : ¬ (s.fw.inService && (s.fifo false ph).words.isEmpty && decide (7 < msgArgs v)) = true := by
    rcases hshort with h | h
    · simp [h]
    · simp [msgArgs, Nat.not_lt.mpr h]
  exact congrArg Host.Outcome.next ((State.guarded_pigeon h).trans
    ((if_neg (by simp [hkept])).trans (if_neg hwhole)))

theorem exec_phTdPop_word (h : (s.fifo false ph).words = v :: rest) :
    exec (.phTdPop m ph) s = .next ((s.popped ph false rest).ans [v]) :=
  congrArg Host.Outcome.next (State.popFifo_td h)

theorem exec_phThPop_word (h : (s.fifo true ph).words = v :: rest)
    (hnone : (s.fw.outbox.any (fun x => x.ph == ph)) = false) :
    exec (.phThPop m ph) s = .next ((s.popped ph true rest).ans [v]) :=
  congrArg Host.Outcome.next (State.popFifo_th h hnone)

theorem exec_tdEmptyReq_accepted (h : s.accepts m blkPigeon (0x20 * ph + 0x10) 0x20 [] = true) :
    exec (.tdEmptyReq m ph) s = .next (s.reqEmpty false ph) :=
  congrArg Host.Outcome.next (State.guarded_pigeon h)

theorem exec_thEmptyReq_accepted (h : s.accepts m blkPigeon (0x20 * ph + 0x10) 0x200000 [] = true) :
    exec (.thEmptyReq m ph) s = .next (s.reqEmpty true ph) :=
  congrArg Host.Outcome.next (State.guarded_pigeon h)

theorem exec_tdEmptyReq_empty (h : s.accepts m blkPigeon (0x20 * ph + 0x10) 0x20 [] = true)
    (hempty : (s.fifo false ph).words = []) : exec (.tdEmptyReq m ph) s = .next (s.emptyNotice false ph) := by
  rw [exec_tdEmptyReq_accepted h, State.reqEmpty_empty s ph hempty]

theorem exec_thEmptyReq_empty (h : s.accepts m blkPigeon (0x20 * ph + 0x10) 0x200000 [] = true)
    (hempty : (s.fifo true ph).words = []) : exec (.thEmptyReq m ph) s = .next (s.emptyNotice true ph) := by
  rw [exec_thEmptyReq_accepted h, State.reqEmpty_empty s ph hempty]

/-- A message that lacks words is discarded, and COLLISION with it. -/
theorem exec_messageTimeout_lacks (h : (s.fifo false ph).words = v :: rest) (hserved : s.fw.inService = true)
    (hlacks : rest.length < v.toNat % 65536) :
    exec (.messageTimeout ph) s = .next (
      ((s.dropTd ph).setFifo false ph { (s.dropTd ph).fifo false ph with collision := false }).reply ph
        (v.toNat / 16777216) (v.toNat / 65536 % 256) [if (s.fifo false ph).collision then 0x0714 else 0x0713]) := by
  show execMessageTimeout ph s = _
  unfold execMessageTimeout
  rw [h]
  exact congrArg Host.Outcome.next (if_pos (by rw [hserved]; exact decide_eq_true hlacks))

theorem exec_unknownOpcode_unserved {tag op : BitVec 8} (hop : op.toNat ∉ servedOpcodes)
    (h : s.serves ph op.toNat = true) :
    exec (.unknownOpcode ph tag op) s = .next ((s.heard ph).reply ph op.toNat tag.toNat [0x0715]) :=
  congrArg Host.Outcome.next ((if_neg hop).trans (State.serve_serves s h))

end

/-- Settles O21: each command by what it makes of its FIFO; a push by whether there is room, EMPTY_REQ by whether the FIFO
is empty. -/
theorem pigeonholes : Obligations.Pigeonholes := by
  refine ⟨?thRoom, ?thFull, ?tdRoom, ?tdFull, ?tdPop, ?thPop, ?tdEmpty, ?tdWaits, ?thEmpty, ?thWaits,
    fun s ph v rest h hserved hlacks => exec_messageTimeout_lacks h hserved hlacks,
    fun s ph tag op hop h => exec_unknownOpcode_unserved hop h⟩
  case thRoom =>
    intro s m ph v h hroom
    refine ⟨_, exec_phThPush_accepted h, ?_, ?_, ?_, by simp, by simp⟩
    all_goals simp [State.pushFifo_fifo s ph hroom]
  case thFull =>
    intro s m ph v h hfull
    refine ⟨_, exec_phThPush_accepted h, ?_, ?_, State.pushFifo_latch_full s ph hfull v, ?_, by simp, by simp⟩
    all_goals simp [State.pushFifo_fifo_full s ph hfull]
  case tdRoom =>
    intro s m ph v h hkept hroom hshort
    refine ⟨_, exec_phTdPush_accepted h hkept (Or.inr hshort), ?_, ?_, by simp, by simp⟩
    all_goals simp [State.pushFifo_fifo s ph hroom]
  case tdFull =>
    intro s m ph v h hkept hfull
    have hwords : (s.fifo false ph).words ≠ [] := fun e => by simp [e] at hfull
    refine ⟨_, exec_phTdPush_accepted h hkept (Or.inl hwords), ?_, ?_, State.pushFifo_latch_full s ph hfull v,
      by simp, by simp⟩
    all_goals simp [State.pushFifo_fifo_full s ph hfull]
  case tdPop =>
    intro s m ph v rest h
    exact ⟨_, exec_phTdPop_word h, rfl, s.popped_words _ _ _, s.popped_other _ false _, s.popped_regs _ _ _,
      s.popped_mem _ _ _⟩
  case thPop =>
    intro s m ph v rest h hnone
    exact ⟨_, exec_phThPop_word h hnone, rfl, s.popped_words _ _ _, s.popped_other _ true _, s.popped_regs _ _ _,
      s.popped_mem _ _ _⟩
  case tdEmpty =>
    intro s m ph h hempty
    exact ⟨_, exec_tdEmptyReq_empty h hempty, by simp, by simp, s.emptyNotice_latch _, by simp⟩
  case tdWaits =>
    intro s m ph h hwords
    exact ⟨_, exec_tdEmptyReq_accepted h, s.reqEmpty_waits _ hwords, by simp⟩
  case thEmpty =>
    intro s m ph h hempty
    exact ⟨_, exec_thEmptyReq_empty h hempty, by simp, by simp, s.emptyNotice_board _, by simp⟩
  case thWaits =>
    intro s m ph h hwords
    exact ⟨_, exec_thEmptyReq_accepted h, s.reqEmpty_waits _ hwords, by simp⟩

/-- Settles O50: EMPTY_REQ and the last pop each come to the notice, or note that it is asked. -/
theorem emptyNotices : Obligations.EmptyNotices := by
  refine ⟨fun s m ph h hwords => ⟨_, exec_tdEmptyReq_accepted h, s.reqEmpty_waits _ hwords⟩,
    fun s m ph h hwords => ⟨_, exec_thEmptyReq_accepted h, s.reqEmpty_waits _ hwords⟩, ?tdLast, ?thLast, ?tdEmpty, ?thEmpty⟩
  case tdLast =>
    intro s m ph v h hreq
    have hexec := exec_phTdPop_word (m := m) h
    rw [State.popped_last s ph hreq] at hexec
    exact ⟨_, hexec, rfl, by simp, by simp, by simp, State.emptyNotice_latch _ _⟩
  case thLast =>
    intro s m ph v h hreq hnone
    have hexec := exec_phThPop_word (m := m) h hnone
    rw [State.popped_last s ph hreq] at hexec
    exact ⟨_, hexec, rfl, by simp, by simp, by simp, by simp [State.emptyNotice_board]⟩
  case tdEmpty =>
    intro s m ph h hempty
    exact ⟨_, exec_tdEmptyReq_empty h hempty, by simp, by simp, s.emptyNotice_latch _⟩
  case thEmpty =>
    intro s m ph h hempty
    exact ⟨_, exec_thEmptyReq_empty h hempty, by simp, by simp⟩

/-! ## Replies (R355, R357) -/

section
variable (s : State)

theorem State.appendFifo_fifo (toHost : Bool) (n : Nat) (ws : List Word) :
    (s.appendFifo toHost n ws).fifo toHost n =
      { s.fifo toHost n with words := (s.fifo toHost n).words ++ ws } := by
  rw [State.appendFifo, State.onPigeon_fifo, State.fifo_setFifo, if_pos ⟨rfl, rfl⟩]

/-- A message that finds room stands in TH after what was there. -/
theorem State.pushMsg_words (m : MsgX) :
    ((s.pushMsg m).fifo true m.ph).words = (s.fifo true m.ph).words ++ m.words := by
  rw [State.pushMsg, State.ringBells_fifo, State.appendFifo_fifo]

theorem State.pushMsg_bell (m : MsgX) (h : m.ph < 32) : (s.pushMsg m).board.toHost.getLsbD m.ph = true :=
  State.ringBells_toHost _ _ _ (by simp [h])

theorem State.reply_room {ph op tag : Nat} {args : List Word} (hquiet : s.ferry.quiet = false)
    (hnone : (s.fw.outbox.any (fun x => x.ph == ph)) = false)
    (hroom : (s.fifo true ph).words.length + 1 + args.length ≤ 8) :
    s.reply ph op tag args = s.pushMsg { ph := ph, words := msgHead op tag args.length :: args } := by
  rw [State.reply, if_neg (by simp [hquiet]), State.sendMsg, if_pos]
  simp [hnone]
  omega

theorem State.pushMsg_fw (m : MsgX) : (s.pushMsg m).fw = s.fw := by
  simp [State.pushMsg, State.appendFifo, State.onPigeon, apply_ite State.fw]

end

/-- Settles O58: a reply that finds room is pushed whole. -/
theorem repliesReachHost : Obligations.RepliesReachHost := by
  intro s ph op tag args hquiet hnone hroom hop htag hph
  have hhead : msgHead op tag args.length = w32 (op * 16777216 + tag * 65536 + args.length) := by
    rw [msgHead, Nat.mod_eq_of_lt hop, Nat.mod_eq_of_lt htag]
  rw [s.reply_room hquiet hnone hroom, hhead]
  exact ⟨s.pushMsg_words _, s.pushMsg_bell _ (Nat.lt_of_lt_of_le hph (by decide)), s.pushMsg_fw _, by simp⟩

/-! ## Bells and latches (R359, R360) -/

section
variable {s : State} {m : Master} {v : Word}

theorem exec_bellRing_dev (h : s.accepts m blkPigeon 0x100 v [] = true) :
    exec (.bellRing m false v) s =
      .next { s with board := { s.board with toDev := s.board.toDev ||| v } } :=
  congrArg Host.Outcome.next (State.guarded_pigeon h)

theorem exec_bellRing_host (h : s.accepts m blkPigeon 0x110 v [] = true) :
    exec (.bellRing m true v) s = .next (s.ringBells v) :=
  congrArg Host.Outcome.next (State.guarded_pigeon h)

theorem exec_bellClear_dev (h : s.accepts m blkPigeon 0x104 v [] = true) :
    exec (.bellClear m false v) s =
      .next { s with board := { s.board with toDev := s.board.toDev &&& ~~~v } } :=
  congrArg Host.Outcome.next (State.guarded_pigeon h)

theorem exec_bellClear_host (h : s.accepts m blkPigeon 0x114 v [] = true) :
    exec (.bellClear m true v) s =
      .next { s with board := { s.board with toHost := s.board.toHost &&& ~~~v } } :=
  congrArg Host.Outcome.next (State.guarded_pigeon h)

/-- A lead mirrors no write of EV_LATCH. -/
theorem State.mirrorsReg_latch (s : State) (m : Nat) (k : Fin 4) : s.mirrorsReg m blkEvents (4 * k) = false := by
  have hwindow : ¬ blkEvents < 0x400 := by decide
  have hqueue : (kindOf blkEvents == Kind.queue) = false := by decide
  have hk := k.isLt
  have hbelow : ¬ 0x010 ≤ 4 * (k : Nat) := by omega
  have hirq : 4 * (k : Nat) ≠ 0x040 := by omega
  have hroute : ¬ 0x200 ≤ 4 * (k : Nat) := by omega
  simp [State.mirrorsReg, hwindow, hqueue, hbelow, hirq, hroute]

theorem exec_eventLatchClear_accepted {k : Fin 4} (h : s.accepts m blkEvents (4 * k) v [] = true) :
    exec (.eventLatchClear m k v) s = .next (s.clearLatches k v) := by
  have hg := State.guarded_accepts (act := fun t => t.clearLatches k v) s h
  rw [State.told_apart s (s.mirrorsReg_latch m k)] at hg
  exact congrArg Host.Outcome.next hg

/-- A written bit clears its own latch. -/
theorem State.clearLatches_own (s : State) {k i : Nat} (hi : i < 32) (hk : k < 4) (v : Word) :
    (s.clearLatches k v).board.latch.getLsbD (32 * k + i) = (s.board.latch.getLsbD (32 * k + i) && !v.getLsbD i) := by
  have h : 32 * k + i < 128 := by omega
  simp [State.clearLatches, h]

theorem State.clearLatches_other (s : State) {k i : Nat} (hi : i < 128) (hk : i / 32 ≠ k) (v : Word) :
    (s.clearLatches k v).board.latch.getLsbD i = s.board.latch.getLsbD i := by
  have hshift : ((v.setWidth 128) <<< (32 * k)).getLsbD i = false := by
    rw [BitVec.getLsbD_shiftLeft]
    by_cases hlow : i < 32 * k
    · simp [hlow]
    · rw [BitVec.getLsbD_setWidth, BitVec.getLsbD_of_ge v _ (by omega)]
      simp
  show (s.board.latch &&& ~~~((v.setWidth 128) <<< (32 * k))).getLsbD i = _
  rw [BitVec.getLsbD_and, BitVec.getLsbD_not, hshift]
  simp [hi]

end

/-- Settles O23: each write is the update of the board that its command makes. -/
theorem bellsAndLatches : Obligations.BellsAndLatches := by
  refine ⟨fun s m v h => ⟨_, exec_bellRing_dev h, rfl, rfl, rfl, rfl, rfl⟩, ?ringHost,
    fun s m v h => ⟨_, exec_bellClear_dev h, rfl, rfl, rfl, rfl, rfl⟩,
    fun s m v h => ⟨_, exec_bellClear_host h, rfl, rfl, rfl, rfl, rfl⟩, ?latch⟩
  case ringHost =>
    intro s m v h
    exact ⟨_, exec_bellRing_host h, s.ringBells_toHost v, by simp, by simp, by simp, by simp⟩
  case latch =>
    intro s m k v h
    exact ⟨_, exec_eventLatchClear_accepted h, fun i => s.clearLatches_own i.isLt k.isLt v,
      fun i hi => s.clearLatches_other i.isLt hi v, rfl, rfl⟩

end Sys2Proof.Machine
end

section
/-! PROOF. The two-wire controller and the in-band requests (O16, O17). -/

namespace Sys2Proof.Machine

theorem winTWC_lt : winTWC < 0x400 := by decide

theorem ovfOff_host : ovfOff blkHost = 0x07C := rfl

/-! ## FIFOs and transfers (R383–R385) -/

section
variable {s : State} {m : Master} {v : Word}

theorem exec_twcTxPush_accepted (h : s.accepts m winTWC 0x04C v [] = true) :
    exec (.twcTxPush m v) s = .next (s.told m winTWC 0x04C v (s.twcPush v)) :=
  congrArg Host.Outcome.next (State.guarded_accepts s h)

/-- The oldest entry of a FIFO is taken. -/
theorem State.twcPop_entry {k b : Nat} {r : List Nat} (h : s.bl k = b :: r) :
    s.twcPop k = (s.setBl k r).ans [w32 b] := by
  rw [State.twcPop, h]

/-- What a pop of entry `b` leaves, with the rest behind it. -/
theorem State.twcPop_values {k b : Nat} {r : List Nat} (h : s.bl k = b :: r) :
    (s.twcPop k).answer = [w32 b] ∧ (s.twcPop k).bl k = r ∧ Frame [] s (s.twcPop k) := by
  rw [State.twcPop_entry h]
  exact ⟨rfl, by simp, Frame.refl0.setBl.ans⟩

theorem exec_twcGo_accepted {x : Word} (hx : x = v ||| 0x80000000#32)
    (h : s.accepts m winTWC 0x048 x (s.goCodes x) = true) :
    exec (.twcGo m v) s = .next (s.told m winTWC 0x048 x (s.twcCmd x)) := by
  subst hx
  exact congrArg Host.Outcome.next (State.guarded_accepts s h)

theorem exec_twcTransferDone_nackAddr {nack : Option (Fin 32)} {rx : List Byte} (hbus : s.twcOnBus = true) :
    exec (.twcTransferDone true nack rx) s = .next ((s.twcNack none).twcEnd false) :=
  congrArg Host.Outcome.next (if_neg (by simp [hbus]))

theorem exec_twcTransferDone_nackData {k : Fin 32} {rx : List Byte} (hbus : s.twcOnBus = true) :
    exec (.twcTransferDone false (some k) rx) s = .next ((s.twcNack (some k)).twcEnd false) :=
  congrArg Host.Outcome.next (if_neg (by simp [hbus]))

theorem exec_twcTransferDone_read {rx : List Byte} (hbus : s.twcOnBus = true)
    (hread : s.flag winTWC TWC.TWC_CMD_READ = true) :
    exec (.twcTransferDone false none rx) s = .next (
      (s.setBl twcRx ((s.bl twcRx ++ (rx.take (s.fld winTWC TWC.TWC_CMD_LEN)).map BitVec.toNat).take 32)).twcEnd
        (s.flag winTWC TWC.TWC_CMD_NO_STOP)) :=
  congrArg Host.Outcome.next ((if_neg (by simp [hbus])).trans
    (congrArg (State.twcEnd · (s.flag winTWC TWC.TWC_CMD_NO_STOP)) (if_pos hread)))

end

/-- What a lost arbitration leaves of a transfer: it waits for the bus. -/
def State.arbDropped (s : State) : State :=
  (((s.count winTWC TWC.ARB_LOST_COUNT).setAx winTWC axTwcWaits 1).setAx winTWC axTwcLost 1).put winTWC
    TWC.TWC_STATUS_HOLDING 0

section
variable (s : State)

theorem State.arbDropped_count :
    s.arbDropped.rd winTWC TWC.ARB_LOST_COUNT.off = counted (s.rd winTWC TWC.ARB_LOST_COUNT.off) := by
  rw [State.arbDropped, State.rd_put_reg _ _ _ (by decide), State.setAx_rd, State.setAx_rd,
    State.count_rd_own _ winTWC_lt (by decide) (by decide)]

theorem State.arbDropped_lost : s.arbDropped.ax winTWC axTwcLost = 1 := by
  simp [State.arbDropped, axTwcLost]

theorem State.arbDropped_holding : s.arbDropped.fld winTWC TWC.TWC_STATUS_HOLDING = 0 := by
  rw [State.arbDropped, State.fld_put _ _ (by decide), Nat.zero_mod]

theorem frame_arbDropped :
    Frame [(winTWC, TWC.ARB_LOST_COUNT.off), (winTWC, 0x028), (winTWC, 0x00C), (winTWC, TWC.TWC_STATUS_HOLDING.off)] s
      s.arbDropped :=
  (Frame.refl0.count (by simp) (by simp [ovfOff_window winTWC_lt]) (by simp)).setAx.setAx.put (by simp)

end

/-- A transfer that lost the bus restarts from its first byte. -/
def State.arbRetried (s : State) : State :=
  ((s.setAx winTWC axTwcRetries (s.ax winTWC axTwcRetries + 1)).setAx winTWC axTwcLost 0).setAx winTWC axTwcWaits 0

section
variable (s : State)

theorem State.arbRetried_retries : s.arbRetried.ax winTWC axTwcRetries = s.ax winTWC axTwcRetries + 1 := by
  simp [State.arbRetried, axTwcRetries, axTwcLost, axTwcWaits]

theorem State.arbRetried_lost : s.arbRetried.ax winTWC axTwcLost = 0 := by
  simp [State.arbRetried, axTwcLost, axTwcWaits]

theorem State.arbRetried_waits : s.arbRetried.ax winTWC axTwcWaits = 0 := by
  simp [State.arbRetried, axTwcWaits]

theorem frame_arbRetried : Frame [] s s.arbRetried := Frame.refl0.setAx.setAx.setAx

end

section
variable {s : State}

theorem exec_twcArbLost_onBus (hbus : s.twcOnBus = true) : exec .twcArbLost s = .next s.arbDropped :=
  congrArg Host.Outcome.next (if_pos hbus)

theorem exec_twcArbRetry_again (hactive : s.flag winTWC TWC.TWC_STATUS_ACTIVE = true)
    (hlost : s.ax winTWC axTwcLost = 1) (hleft : s.ax winTWC axTwcRetries < s.fld winTWC TWC.TWC_CFG_ARB_RETRIES) :
    exec .twcArbRetry s = .next s.arbRetried :=
  congrArg Host.Outcome.next ((if_pos (by simp [hactive, hlost])).trans (if_pos hleft))

theorem exec_twcArbRetry_ends (hactive : s.flag winTWC TWC.TWC_STATUS_ACTIVE = true)
    (hlost : s.ax winTWC axTwcLost = 1) (hspent : s.fld winTWC TWC.TWC_CFG_ARB_RETRIES ≤ s.ax winTWC axTwcRetries) :
    exec .twcArbRetry s = .next (
      ((((s.setAx winTWC axTwcLost 0).put winTWC TWC.TWC_STATUS_ARB_LOST 1).setErr winTWC 0x0742).raiseKind winTWC
        evTwcArb).twcEnd false) :=
  congrArg Host.Outcome.next ((if_pos (by simp [hactive, hlost])).trans (if_neg (Nat.not_lt.mpr hspent)))

/-! ## Timeouts and the check of the bus (R386, R387, R529) -/

theorem exec_twcSclTimeout_stuck (hlive : s.live winTWC = true) (hcheck : s.twcChecking = false)
    (hhold : s.flag winTWC TWC.TWC_STATUS_HOLDING = false) :
    exec .twcSclTimeout s = .next (s.twcSelfReset 0x0743) :=
  congrArg Host.Outcome.next (if_pos (by simp [hlive, hcheck, hhold]))

theorem exec_twcSdaTimeout_stuck (hlive : s.live winTWC = true) (hbus : s.twcOnBus = false)
    (hcheck : s.twcChecking = false) (hhold : s.flag winTWC TWC.TWC_STATUS_HOLDING = false) :
    exec .twcSdaTimeout s = .next (s.twcSelfReset 0x0744) :=
  congrArg Host.Outcome.next (if_pos (by simp [hlive, hbus, hcheck, hhold]))

theorem exec_twcBusStuck_checking (hcheck : s.twcChecking = true) :
    exec .twcBusStuck s = .next (
      (((s.watch winTWC (fun t => t.putB winTWC UCB.UNIT_CTL_ENABLE false)).put winTWC TWC.TWC_STATUS_BUS_STUCK
        1).raiseKind winTWC evTwcStuck).setErr winTWC 0x0745) :=
  congrArg Host.Outcome.next (if_pos hcheck)

theorem exec_twcBusCleared_checking (hcheck : s.twcChecking = true) :
    exec .twcBusCleared s = .next (
      s.firing ((s.count winTWC TWC.BUS_CLEAR_COUNT).raiseKind winTWC evTwcCleared).twcFound) :=
  congrArg (fun t => Host.Outcome.next (s.firing t)) (if_pos hcheck)

/-- A transfer that waits makes its START on a bus that is seen free. -/
theorem State.twcBusFree_starts (hcheck : s.twcChecking = false)
    (hactive : s.flag winTWC TWC.TWC_STATUS_ACTIVE = true) (hwaits : s.ax winTWC axTwcWaits = 1)
    (hlost : s.ax winTWC axTwcLost = 0) :
    s.twcBusFree = ((s.setAx winTWC axTwcFree 1).setAx winTWC axTwcWaits 0).setAx winTWC axTwcFree 0 := by
  have hfree : (if s.twcChecking then s.twcFound else s.setAx winTWC axTwcFree 1) = s.setAx winTWC axTwcFree 1 :=
    if_neg (by simp [hcheck])
  have hwaits' : (s.setAx winTWC axTwcFree 1).ax winTWC axTwcWaits = 1 := by simpa [axTwcFree, axTwcWaits] using hwaits
  have hlost' : (s.setAx winTWC axTwcFree 1).ax winTWC axTwcLost = 0 := by simpa [axTwcFree, axTwcLost] using hlost
  unfold State.twcBusFree
  dsimp only
  rw [hfree, if_pos (by simp [hactive, hwaits', hlost'])]

theorem exec_twcBusFree_starts (hcheck : s.twcChecking = false)
    (hactive : s.flag winTWC TWC.TWC_STATUS_ACTIVE = true) (hwaits : s.ax winTWC axTwcWaits = 1)
    (hlost : s.ax winTWC axTwcLost = 0) :
    exec .twcBusFree s = .next (
      s.firing (((s.setAx winTWC axTwcFree 1).setAx winTWC axTwcWaits 0).setAx winTWC axTwcFree 0)) :=
  congrArg (fun t => Host.Outcome.next (s.firing t)) (State.twcBusFree_starts hcheck hactive hwaits hlost)

end

/-- Settles O16: each clause by the equation of its command; a pop, a lost arbitration and a retry each have the update
they make. -/
theorem twoWireController : Obligations.TwoWireController := by
  refine ⟨fun s m v h => exec_twcTxPush_accepted h, fun s m b r h => ⟨_, rfl, State.twcPop_values h⟩,
    fun s m b r h => ⟨_, rfl, State.twcPop_values h⟩, fun s m v h => exec_twcGo_accepted rfl h,
    fun s nack rx hbus => exec_twcTransferDone_nackAddr hbus, fun s k rx hbus => exec_twcTransferDone_nackData hbus,
    fun s rx hbus hread => exec_twcTransferDone_read hbus hread, ?lost, ?again,
    fun s hactive hlost hspent => exec_twcArbRetry_ends hactive hlost hspent,
    fun s hlive hcheck hhold => exec_twcSclTimeout_stuck hlive hcheck hhold,
    fun s hlive hbus hcheck hhold => exec_twcSdaTimeout_stuck hlive hbus hcheck hhold,
    fun s hcheck => exec_twcBusStuck_checking hcheck, fun s hcheck => exec_twcBusCleared_checking hcheck,
    fun s hcheck hactive hwaits hlost => exec_twcBusFree_starts hcheck hactive hwaits hlost⟩
  case lost =>
    intro s hbus
    exact ⟨_, exec_twcArbLost_onBus hbus, s.arbDropped_count, s.arbDropped_lost, s.arbDropped_holding,
      frame_arbDropped s⟩
  case again =>
    intro s hactive hlost hleft
    exact ⟨_, exec_twcArbRetry_again hactive hlost hleft, s.arbRetried_retries, s.arbRetried_lost, s.arbRetried_waits,
      frame_arbRetried s⟩

/-! ## Requests served and made (R388–R391) -/

/-- What an accepted request leaves. -/
def State.ibrTaken (s : State) (a : BitVec 7) (reason : Byte) : State :=
  ((s.setBl twcIbr (s.bl twcIbr ++ [reason.toNat + 256 * a.toNat + 2147483648])).count winTWC TWC.IBR_COUNT).raiseKind
    winTWC evTwcIbr

section
variable (s : State) (a : BitVec 7) (reason : Byte)

theorem State.ibrTaken_entry :
    (s.ibrTaken a reason).bl twcIbr = s.bl twcIbr ++ [reason.toNat + 256 * a.toNat + 2147483648] := by
  simp [State.ibrTaken]

theorem State.ibrTaken_count :
    (s.ibrTaken a reason).rd winTWC TWC.IBR_COUNT.off = counted (s.rd winTWC TWC.IBR_COUNT.off) := by
  rw [State.ibrTaken, State.raiseKind_rd_own _ (by decide), State.count_rd_own _ winTWC_lt (by decide) (by decide),
    State.setBl_rd]

theorem State.ibrTaken_event : ((s.ibrTaken a reason).rd winTWC 0x00C).getLsbD evTwcIbr = true :=
  State.raiseKind_event _ _ _ (by decide)

theorem frame_ibrTaken :
    Frame [(winTWC, TWC.IBR_COUNT.off), (winTWC, 0x028), (winTWC, 0x00C)] s (s.ibrTaken a reason) :=
  (Frame.refl0.setBl.count (by simp) (by simp [ovfOff_window winTWC_lt]) (by simp)).raiseKind (by simp)

end

section
variable {s : State}

/-- A request on a bus that is otherwise free is accepted or dropped. -/
theorem exec_ibrServe_free {a : BitVec 7} {reason : Byte} (hserve : s.flag winTWC TWC.TWC_CFG_IBR_SERVE = true)
    (hrun : s.atomState winTWC = stRUN) (hbus : s.twcOnBus = false)
    (hhold : s.flag winTWC TWC.TWC_STATUS_HOLDING = false) :
    exec (.ibrServe a reason) s = .next (
      if (s.flag winTWC TWC.TWC_CFG_IBR_ACCEPT_ALL || s.ibrListed a.toNat) && decide ((s.bl twcIbr).length < 4) then
        s.ibrTaken a reason
      else s.count winTWC TWC.IBR_DROPPED_COUNT) :=
  congrArg Host.Outcome.next (if_neg (by simp [hserve, hrun, hbus, hhold]))

theorem exec_ibrRequestStart_wants (hwants : s.ibrWants = true)
    (hnew : s.flag blkHost HOST.TWT_STATUS_IBR_PENDING = false) : exec .ibrRequestStart s = .next s.ibrAsk :=
  congrArg Host.Outcome.next (if_pos (by simp [hwants, hnew]))

theorem exec_ibrRepeat_wants (hwants : s.ibrWants = true) : exec .ibrRepeat s = .next s.ibrAsk :=
  congrArg Host.Outcome.next (if_pos hwants)

theorem exec_ibrWithdraw (s : State) : exec .ibrWithdraw s = .next (s.setAx blkHost axIbrDrive 0) := rfl

theorem exec_ibrUnserved_driving (hdrives : s.ax blkHost axIbrDrive = 1) :
    exec .ibrUnserved s = .next ((s.setAx blkHost axIbrDrive 0).count blkHost HOST.IBR_UNSERVED_COUNT) :=
  congrArg Host.Outcome.next (if_pos hdrives)

theorem exec_ibrFrameEnd_accepted (hdrives : s.ax blkHost axIbrDrive = 1) :
    exec (.ibrFrameEnd true) s = .next (
      ((s.setAx blkHost axIbrDrive 0).put blkHost HOST.TWT_STATUS_IBR_PENDING 0).ans
        [w32 (s.setAx blkHost axIbrDrive 0).ibrReason]) :=
  congrArg Host.Outcome.next (if_pos hdrives)

end

theorem State.setAx_drive (s : State) : (s.setAx blkHost axIbrDrive 0).ax blkHost axIbrDrive = 0 := by
  simp [axIbrDrive]

/-- Settles O17: a request is accepted or dropped, and each step of one of this device's own is its command's equation. -/
theorem busRequests : Obligations.BusRequests := by
  refine ⟨?taken, ?dropped, fun s hwants hnew => exec_ibrRequestStart_wants hwants hnew,
    fun s hwants => exec_ibrRepeat_wants hwants,
    fun s => ⟨_, exec_ibrWithdraw s, s.setAx_drive, Frame.refl0.setAx⟩, ?unserved, ?sent⟩
  case taken =>
    intro s a reason hserve hrun hbus hhold hlisted hroom
    have hexec := exec_ibrServe_free (a := a) (reason := reason) hserve hrun hbus hhold
    rw [if_pos (by rcases hlisted with h | h <;> simp [h, hroom])] at hexec
    exact ⟨_, hexec, s.ibrTaken_entry _ _, s.ibrTaken_count _ _, s.ibrTaken_event _ _, frame_ibrTaken s _ _⟩
  case dropped =>
    intro s a reason hserve hrun hbus hhold hrefused
    have hexec := exec_ibrServe_free (a := a) (reason := reason) hserve hrun hbus hhold
    rw [if_neg (by rcases hrefused with h | ⟨h1, h2⟩ <;> simp [*])] at hexec
    exact ⟨_, hexec, State.count_rd_own _ winTWC_lt (by decide) (by decide),
      Frame.refl0.count (by simp) (by simp [ovfOff_window winTWC_lt]) (by simp)⟩
  case unserved =>
    intro s hdrives
    refine ⟨_, exec_ibrUnserved_driving hdrives, by rw [State.count_ax, State.setAx_drive], ?_,
      Frame.refl0.setAx.count (by simp) (by simp [ovfOff_host]) (by simp)⟩
    rw [State.count_counted _ _ _ (by decide) (by decide), State.setAx_rd]
  case sent =>
    intro s hdrives
    refine ⟨_, exec_ibrFrameEnd_accepted hdrives, ?_, ?_, (Frame.refl0.setAx.put (by simp)).ans⟩
    · exact (State.fld_put _ _ (by decide)).trans (Nat.zero_mod _)
    · exact State.setAx_drive s

end Sys2Proof.Machine
end

section
/-! PROOF. Aerial feeds (O18). -/

namespace Sys2Proof.Machine

/-! ## An output that a fault switches off (R431, R433) -/

/-- What a fault of a feed leaves: the output off with its STATE, the fault counted, recorded and told. -/
def State.feedTripped (s : State) (w st code ev : Nat) (cnt : FRef) : State :=
  (((s.feedOff w st).count w cnt).setErr w code).raiseKind w ev

section
variable (s : State) {w : Nat}

theorem State.feedOff_state (hw : w < 0x400) (st : Nat) : (s.feedOff w st).feedState w = st % 8 := by
  rw [State.feedOff, State.feedState, State.feedOk_fld _ hw (by decide), State.fld_put_apart _ _ (by decide) (by decide),
    State.fld_put _ _ (by decide)]
  rfl

theorem State.feedTripped_state (hw : w < 0x400) (st code ev : Nat) {cnt : FRef}
    (hcnt : FEED.FEED_STATUS_STATE.off / 4 ≠ cnt.off / 4) :
    (s.feedTripped w st code ev cnt).feedState w = st % 8 := by
  rw [State.feedTripped, State.feedState, State.raiseKind_fld_reg _ _ _ _ (by decide),
    State.setErr_fld_apart _ (by decide) (by decide), State.count_fld_own _ hw hcnt (by decide) (by decide)]
  exact s.feedOff_state hw st

theorem State.feedTripped_code (w st ev : Nat) {code : Nat} (hcode : code < 65536) (cnt : FRef) :
    (s.feedTripped w st code ev cnt).fld w UCB.UNIT_ERR_CODE = code := by
  rw [State.feedTripped, State.raiseKind_fld_reg _ _ _ _ (by decide), State.setErr_code _ _ hcode]

theorem State.feedTripped_event (w st code : Nat) {ev : Nat} (hev : ev < 32) (cnt : FRef) :
    ((s.feedTripped w st code ev cnt).rd w 0x00C).getLsbD ev = true :=
  State.raiseKind_event _ _ _ hev

/-- An output that may be switched on starts its soft-start. -/
theorem State.feedStart_state (hw : w < 0x400) (hallowed : s.feedsAllowed = true) (hsafe : (s.unit w).safe = false)
    (hfail : (s.unit w).selfFail = false) : (s.feedStart w).feedState w = 1 := by
  rw [State.feedStart, if_neg (by simp [hallowed, hsafe, hfail]), State.feedState, State.feedOk_fld _ hw (by decide),
    State.fld_put _ _ (by decide)]
  rfl

end

/-! ## Open loads (R432) -/

/-- What an open load that is found leaves. -/
def State.feedOpened (s : State) (w : Nat) : State :=
  (((s.put w FEED.FEED_STATUS_OPEN 1).count w FEED.OPEN_COUNT).setErr w 0x0411).raiseKind w evFeedOpen

/-- What the end of an open load leaves. -/
def State.feedClosed (s : State) (w : Nat) : State := (s.put w FEED.FEED_STATUS_OPEN 0).raiseKind w evFeedOpenCleared

section
variable (s : State) {w : Nat}

theorem State.feedOpened_flag (hw : w < 0x400) : (s.feedOpened w).flag w FEED.FEED_STATUS_OPEN = true := by
  rw [State.feedOpened, State.raiseKind_flag_reg _ _ _ _ (by decide),
    State.setErr_flag_apart _ (by decide) (by decide), State.count_flag_own _ hw (by decide) (by decide) (by decide),
    State.flag_put _ _ (by decide)]
  rfl

theorem State.feedOpened_count (hw : w < 0x400) :
    (s.feedOpened w).rd w FEED.OPEN_COUNT.off = counted (s.rd w FEED.OPEN_COUNT.off) := by
  rw [State.feedOpened, State.raiseKind_rd_own _ (by decide), State.setErr_rd_own _ (by decide) (by decide),
    State.count_rd_own _ hw (by decide) (by decide), State.rd_put_reg _ _ _ (by decide)]

theorem State.feedOpened_code (w : Nat) : (s.feedOpened w).fld w UCB.UNIT_ERR_CODE = 0x0411 := by
  rw [State.feedOpened, State.raiseKind_fld_reg _ _ _ _ (by decide), State.setErr_code _ _ (by decide)]

theorem State.feedOpened_event (w : Nat) : ((s.feedOpened w).rd w 0x00C).getLsbD evFeedOpen = true :=
  State.raiseKind_event _ _ _ (by decide)

theorem frame_feedOpened (hw : w < 0x400) :
    Frame [(w, FEED.FEED_STATUS_OPEN.off), (w, FEED.OPEN_COUNT.off), (w, 0x028), (w, 0x00C),
      (w, UCB.UNIT_ERR_CODE.off)] s (s.feedOpened w) :=
  (((Frame.refl0.put (by simp)).count (by simp) (by simp [ovfOff_window hw]) (by simp)).setErr (by simp)
    (by simp)).raiseKind (by simp)

theorem State.feedClosed_flag (w : Nat) : (s.feedClosed w).flag w FEED.FEED_STATUS_OPEN = false := by
  rw [State.feedClosed, State.raiseKind_flag_reg _ _ _ _ (by decide), State.flag_put _ _ (by decide)]
  rfl

theorem State.feedClosed_event (w : Nat) : ((s.feedClosed w).rd w 0x00C).getLsbD evFeedOpenCleared = true :=
  State.raiseKind_event _ _ _ (by decide)

theorem frame_feedClosed (w : Nat) : Frame [(w, FEED.FEED_STATUS_OPEN.off), (w, 0x00C)] s (s.feedClosed w) :=
  (Frame.refl0.put (by simp)).raiseKind (by simp)

end

/-! ## The commands of a feed -/

section
variable {s : State} {n : Fin 8}

theorem exec_feedOnWrite_accepted {m : Master} {v : Word}
    (h : s.accepts m (winFeed n) 0x040 v (s.feedCodes (winFeed n) 0x040 v) = true) :
    exec (.feedOnWrite m n v) s = .next (s.told m (winFeed n) 0x040 v (s.feedCtl (winFeed n) v)) :=
  congrArg Host.Outcome.next (State.guarded_accepts s h)

theorem exec_feedSoftStartDone_starting (hstate : s.feedState (winFeed n) = 1) :
    exec (.feedSoftStartDone n) s = .next (s.put (winFeed n) FEED.FEED_STATUS_STATE 2) :=
  congrArg Host.Outcome.next (if_pos hstate)

/-- A short that a retry is to follow. -/
theorem exec_feedShort_retried (hstate : s.feedState (winFeed n) = 2) (hfew : s.ax (winFeed n) axFeedShorts < 2)
    (hretry : s.flag (winFeed n) FEED.FEED_CTL_AUTO_RETRY = true) :
    exec (.feedShort n) s = .next (
      (s.feedTripped (winFeed n) 3 0x0410 evFeedShort FEED.SHORT_COUNT).setAx (winFeed n) axFeedShorts
        (s.ax (winFeed n) axFeedShorts + 1)) := by
  have hmore : ¬ (3 ≤ s.ax (winFeed n) axFeedShorts + 1 ∨ (!s.flag (winFeed n) FEED.FEED_CTL_AUTO_RETRY) = true) := by
    simp only [hretry, Bool.not_true, Bool.false_eq_true, or_false]
    omega
  exact congrArg Host.Outcome.next ((if_pos hstate).trans (if_neg hmore))

theorem exec_feedRetry_due (hstate : s.feedState (winFeed n) = 3) (hblocked : s.ax (winFeed n) axFeedBlocked = 0)
    (hon : s.flag (winFeed n) FEED.FEED_CTL_ON = true) :
    exec (.feedRetry n) s = .next (s.feedStart (winFeed n)) :=
  congrArg Host.Outcome.next (if_pos ⟨hstate, hblocked, hon⟩)

theorem exec_feedOpen_found (hstate : s.feedState (winFeed n) = 2)
    (hopen : s.flag (winFeed n) FEED.FEED_STATUS_OPEN = false) :
    exec (.feedOpen n) s = .next (s.feedOpened (winFeed n)) :=
  congrArg Host.Outcome.next (if_pos ⟨hstate, by simp [hopen]⟩)

theorem exec_feedOpenCleared_open (hopen : s.flag (winFeed n) FEED.FEED_STATUS_OPEN = true) :
    exec (.feedOpenCleared n) s = .next (s.feedClosed (winFeed n)) :=
  congrArg Host.Outcome.next (if_pos hopen)

theorem exec_feedReverse_lit (hlit : s.feedLit (winFeed n) = true) :
    exec (.feedReverse n) s = .next (
      (s.feedTripped (winFeed n) 4 0x0412 evFeedReverse FEED.REVERSE_COUNT).setAx (winFeed n) axFeedBlocked 1) :=
  congrArg Host.Outcome.next (if_pos hlit)

theorem exec_feedResume_next {rest : List Nat} (hsaved : s.power.savedFeeds = winFeed n :: rest)
    (hdie : s.power.die = 0) :
    exec (.feedResume n) s = .next (
      ({ s with power := { s.power with savedFeeds := rest } }).feedStart (winFeed n)) := by
  show execFeedResume n s = _
  unfold execFeedResume
  rw [hsaved]
  exact congrArg Host.Outcome.next (if_pos ⟨rfl, hdie⟩)

end

/-- Settles O18: a short and a reverse current trip the output in one way; an open load is found or over. -/
theorem feedRows : Obligations.FeedRows := by
  refine ⟨fun s m n v h => exec_feedOnWrite_accepted h, ?started, ?short, ?retry, ?opened, ?closed, ?reverse,
    fun s n rest hsaved hdie => exec_feedResume_next hsaved hdie⟩
  case started =>
    intro s n hstate
    exact ⟨_, exec_feedSoftStartDone_starting hstate, State.fld_put _ _ (by decide), frame_put s _ _ _⟩
  case short =>
    intro s n hstate hfew hretry
    refine ⟨_, exec_feedShort_retried hstate hfew hretry, s.feedTripped_state (winFeed_lt n) _ _ _ (by decide),
      s.feedTripped_code _ _ _ (by decide) _, s.feedTripped_event _ _ _ (by decide) _, ?_⟩
    simp [axFeedShorts]
  case retry =>
    intro s n hstate hblocked hon hallowed hsafe hfail
    exact ⟨_, exec_feedRetry_due hstate hblocked hon, s.feedStart_state (winFeed_lt n) hallowed hsafe hfail⟩
  case opened =>
    intro s n hstate hopen
    have hw := winFeed_lt n
    exact ⟨_, exec_feedOpen_found hstate hopen, s.feedOpened_flag hw, s.feedOpened_count hw, s.feedOpened_code _,
      s.feedOpened_event _, frame_feedOpened s hw⟩
  case closed =>
    intro s n hopen
    exact ⟨_, exec_feedOpenCleared_open hopen, s.feedClosed_flag _, s.feedClosed_event _, frame_feedClosed s _⟩
  case reverse =>
    intro s n hlit
    refine ⟨_, exec_feedReverse_lit hlit, s.feedTripped_state (winFeed_lt n) _ _ _ (by decide),
      s.feedTripped_code _ _ _ (by decide) _, s.feedTripped_event _ _ _ (by decide) _, ?_⟩
    simp [axFeedBlocked]

end Sys2Proof.Machine
end

section
/-! PROOF. Host ports: the quad-SPI port and the two-wire target (O38). -/

namespace Sys2Proof.Machine

/-! ## Errors of a host port (R370, R377) -/

/-- An error of a host port: its code in a status register, its counter and its event. -/
def State.hostError (s : State) (r : FRef) (code : Nat) (cnt : FRef) (e : Nat) : State :=
  ((s.put blkHost r code).count blkHost cnt).raise e

section
variable (s : State) {r cnt : FRef} {code e : Nat}

theorem State.hostError_code (hr : r.ok = true) (hcnt : r.off / 4 ≠ cnt.off / 4) (hovf : r.off / 4 ≠ 31)
    (hevent : r.off / 4 ≠ 3) :
    (s.hostError r code cnt e).fld blkHost r = code % 2 ^ (r.msb - r.lsb + 1) := by
  rw [State.hostError, State.raise_fld, State.count_fld _ _ _ _ hcnt (by rw [ovfOff_host]; exact hovf) hevent,
    State.fld_put _ _ hr]

theorem State.hostError_count (hr : cnt.off / 4 ≠ r.off / 4) (hovf : cnt.off / 4 ≠ 31) (hevent : cnt.off / 4 ≠ 3) :
    (s.hostError r code cnt e).rd blkHost cnt.off = counted (s.rd blkHost cnt.off) := by
  rw [State.hostError, State.raise_rd, State.count_counted _ _ _ (by rw [ovfOff_host]; exact hovf) hevent,
    State.rd_put_reg _ _ _ hr]

theorem State.hostError_event (r cnt : FRef) (code : Nat) (he : e < 128) :
    (s.hostError r code cnt e).board.latch.getLsbD e = true :=
  State.raise_event _ _ he

theorem frame_hostError (r cnt : FRef) (code e : Nat) :
    Frame [(blkHost, r.off), (blkHost, cnt.off), (blkHost, ovfOff blkHost), (blkHost, 0x00C)] s
      (s.hostError r code cnt e) :=
  ((Frame.refl0.put (by simp)).count (by simp) (by simp) (by simp)).raise

end

/-! ## The quad-SPI port (R365–R374) -/

section
variable (s : State)

theorem State.csRise_proto : s.csRise.fld blkHost HOST.HSPI_STATUS_PROTO_NOW = s.fld blkHost HOST.HSPI_CFG_PROTO % 8 :=
  State.fld_put _ _ (by decide)

theorem State.proto_lt : s.fld blkHost HOST.HSPI_CFG_PROTO < 8 := Nat.mod_lt _ (by decide)

theorem Frame.csRise {ks : List (Nat × Nat)} {s u : State} (h : Frame ks s u)
    (h0 : (blkHost, HOST.HSPI_STATUS_PROTO_NOW.off) ∈ ks) : Frame ks s u.csRise := h.put h0

/-- The words of a status read. -/
def State.statusSent (s : State) (n : Nat) : State := (s.ans (List.replicate n (w32 s.statusByte))).csRise

/-- What PROTOCOL_RESET leaves. -/
def State.protoReset (s : State) : State :=
  (s.put blkHost HOST.HSPI_CFG_PROTO 0).put blkHost HOST.HSPI_STATUS_PROTO_NOW 0

theorem State.protoReset_cfg : s.protoReset.fld blkHost HOST.HSPI_CFG_PROTO = 0 := by
  rw [State.protoReset, State.fld_put_apart _ _ (by decide) (by decide), State.fld_put _ _ (by decide), Nat.zero_mod]

theorem State.protoReset_now : s.protoReset.fld blkHost HOST.HSPI_STATUS_PROTO_NOW = 0 := by
  rw [State.protoReset, State.fld_put _ _ (by decide), Nat.zero_mod]

theorem frame_protoReset :
    Frame [(blkHost, HOST.HSPI_CFG_PROTO.off), (blkHost, HOST.HSPI_STATUS_PROTO_NOW.off)] s s.protoReset :=
  (Frame.refl0.put (by simp)).put (by simp)

/-- What the refusal of an opcode leaves. -/
def State.opcodeRefused (s : State) : State :=
  (s.hostError HOST.HSPI_STATUS_LAST_CODE 0x0720 HOST.HSPI_ERR_COUNT 124).csRise

theorem State.opcodeRefused_code : s.opcodeRefused.fld blkHost HOST.HSPI_STATUS_LAST_CODE = 0x0720 := by
  rw [State.opcodeRefused, State.csRise, State.fld_put_apart _ _ (by decide) (by decide),
    State.hostError_code _ (by decide) (by decide) (by decide) (by decide)]
  rfl

theorem State.opcodeRefused_count :
    s.opcodeRefused.rd blkHost HOST.HSPI_ERR_COUNT.off = counted (s.rd blkHost HOST.HSPI_ERR_COUNT.off) := by
  rw [State.opcodeRefused, State.csRise, State.rd_put_reg _ _ _ (by decide),
    State.hostError_count _ (by decide) (by decide) (by decide)]

theorem State.opcodeRefused_event : s.opcodeRefused.board.latch.getLsbD 124 = true := by
  rw [State.opcodeRefused, State.csRise, State.put_board]
  exact s.hostError_event _ _ _ (by decide)

theorem frame_opcodeRefused :
    Frame [(blkHost, HOST.HSPI_STATUS_LAST_CODE.off), (blkHost, HOST.HSPI_ERR_COUNT.off), (blkHost, ovfOff blkHost),
      (blkHost, 0x00C)] s s.opcodeRefused :=
  (frame_hostError s _ _ _ _).csRise (by simp [HOST.HSPI_STATUS_PROTO_NOW, HOST.HSPI_STATUS_LAST_CODE])

end

section
variable {s : State} (hport : s.portsAnswer = true)
include hport

theorem exec_qspiWrite_whole (a : Word) (data : List Word) :
    exec (.qspiWrite a data false) s = .next ((s.writeBurst 5 4 data a.toNat).csRise) :=
  congrArg Host.Outcome.next (if_pos hport)

theorem exec_qspiWriteFixed_whole (a : Word) (data : List Word) :
    exec (.qspiWriteFixed a data false) s = .next ((s.writeBurst 5 0 data a.toNat).csRise) :=
  congrArg Host.Outcome.next (if_pos hport)

/-- A write that CS cuts within a word, where the words before it have left the port in service. -/
theorem exec_qspiWrite_cut {a : Word} {data : List Word}
    (hserved : (s.writeBurst 5 4 data a.toNat).portsAnswer = true) :
    exec (.qspiWrite a data true) s = .next (((s.writeBurst 5 4 data a.toNat).qspiError 0x0721).csRise) :=
  congrArg Host.Outcome.next ((if_pos hport).trans (congrArg State.csRise (if_pos hserved)))

theorem exec_qspiRead_ready (a : Word) (n : Nat) :
    exec (.qspiRead a n 0) s = .next ((s.readBurst 5 4 n a.toNat []).csRise) :=
  congrArg Host.Outcome.next (if_pos hport)

theorem exec_qspiReadFixed_ready (a : Word) (n : Nat) :
    exec (.qspiReadFixed a n 0) s = .next ((s.readBurst 5 0 n a.toNat []).csRise) :=
  congrArg Host.Outcome.next (if_pos hport)

theorem exec_qspiRead_waits (a : Word) (n : Nat) :
    exec (.qspiRead a n 1) s = .next (((s.count blkHost HOST.HSPI_WAIT_COUNT).readBurst 5 4 n a.toNat []).csRise) :=
  congrArg Host.Outcome.next (if_pos hport)

theorem exec_qspiStatus_answers (n : Nat) : exec (.qspiStatus n) s = .next (s.statusSent n) :=
  congrArg Host.Outcome.next (if_pos hport)

theorem exec_qspiQread_open {q : Fin 64} (hbound : s.queueBound (winQ q) = true) (hdir : s.qToHost (winQ q) = true)
    (max : BitVec 8) (sent : Nat) :
    exec (.qspiQread q max sent 0) s = .next ((s.qread (winQ q) max.toNat sent).csRise) :=
  congrArg Host.Outcome.next ((if_neg (by simp [hport])).trans
    (congrArg State.csRise (if_neg (by simp [hbound, hdir]))))

theorem exec_qspiQread_unbound {q : Fin 64} (hbound : s.queueBound (winQ q) = false) (max : BitVec 8) (sent : Nat)
    (delay : Fin 3) :
    exec (.qspiQread q max sent delay) s = .next (((s.qspiError 0x0723).ans []).csRise) :=
  congrArg Host.Outcome.next ((if_neg (by simp [hport])).trans (congrArg State.csRise (if_pos (by simp [hbound]))))

theorem exec_qspiQwrite_whole (q : Fin 64) (data : List Word) :
    exec (.qspiQwrite q data false) s = .next ((s.qwrite (winQ q) false (data.length + 1) 0 data).csRise) :=
  congrArg Host.Outcome.next (if_pos hport)

theorem exec_qspiProtocolReset_answers : exec .qspiProtocolReset s = .next s.protoReset :=
  congrArg Host.Outcome.next (if_pos hport)

theorem exec_qspiUnknownOpcode_unlisted {op : BitVec 8}
    (hop : [0x01, 0x02, 0x03, 0x04, 0x05, 0x10, 0x11, 0xFF].contains op.toNat = false) :
    exec (.qspiUnknownOpcode op) s = .next s.opcodeRefused :=
  congrArg Host.Outcome.next (if_neg (by rw [hport, hop]; decide))

/-! ## The two-wire target (R377–R381) -/

/-- A write whose address is whole moves the pointer past its words, where they have left the port in service. -/
theorem exec_twtWrite_whole {mode : BitVec 8} {a : Word} {data : List Word} {u : State} (hmode : mode.toNat ≤ 1)
    (hu : u = (s.setAx blkHost axTwtAddr a.toNat).setAx blkHost axTwtMode mode.toNat)
    (hserved : (u.writeBurst 6 u.twtStep data a.toNat).portsAnswer = true) :
    exec (.twtWrite mode true a data false) s = .next ((u.writeBurst 6 u.twtStep data a.toNat).twtMove data.length) := by
  have hgoes : ¬ (!(u.writeBurst 6 u.twtStep data a.toNat).portsAnswer) = true := by simp [hserved]
  subst hu
  exact congrArg Host.Outcome.next ((if_neg (by simp [hport])).trans ((if_neg (Nat.not_lt.mpr hmode)).trans
    ((if_neg (by decide)).trans ((if_neg hgoes).trans (if_neg Bool.false_ne_true)))))

theorem exec_twtWrite_badMode {mode : BitVec 8} (hmode : 1 < mode.toNat) (whole : Bool) (a : Word) (data : List Word)
    (cut : Bool) :
    exec (.twtWrite mode whole a data cut) s = .next (
      s.hostError HOST.TWT_STATUS_LAST_CODE 0x0735 HOST.TWT_ERR_COUNT 123) :=
  congrArg Host.Outcome.next ((if_neg (by simp [hport])).trans (if_pos hmode))

theorem exec_twtRead_answers (late : List Bool) : exec (.twtRead late) s = .next (s.twtRead late []) :=
  congrArg Host.Outcome.next (if_pos hport)

theorem exec_twtMisplacedStart_answers :
    exec .twtMisplacedStart s = .next (s.hostError HOST.TWT_STATUS_LAST_CODE 0x0730 HOST.TWT_MISPLACED_COUNT 122) :=
  congrArg Host.Outcome.next (if_pos hport)

theorem exec_twtBusTimeout_answers :
    exec .twtBusTimeout s = .next (s.hostError HOST.TWT_STATUS_LAST_CODE 0x0734 HOST.TWT_ERR_COUNT 123) :=
  congrArg Host.Outcome.next (if_pos hport)

end

theorem exec_hspiCfgTakesEffect_powered {s : State} (hdie : s.power.die = 0) :
    exec .hspiCfgTakesEffect s = .next s.csRise :=
  congrArg Host.Outcome.next (if_pos hdie)

/-- An error of the two-wire target: its code reads back, its counter counts, its event latches. -/
theorem State.hostError_twt (s : State) {code e : Nat} {cnt : FRef} (hcode : code < 65536) (he : e < 128)
    (hcnt : cnt = HOST.TWT_ERR_COUNT ∨ cnt = HOST.TWT_MISPLACED_COUNT) :
    (s.hostError HOST.TWT_STATUS_LAST_CODE code cnt e).fld blkHost HOST.TWT_STATUS_LAST_CODE = code ∧
    (s.hostError HOST.TWT_STATUS_LAST_CODE code cnt e).rd blkHost cnt.off = counted (s.rd blkHost cnt.off) ∧
    (s.hostError HOST.TWT_STATUS_LAST_CODE code cnt e).board.latch.getLsbD e = true := by
  refine ⟨?_, ?_, s.hostError_event _ _ _ he⟩
  · rw [State.hostError_code _ (by decide) (by rcases hcnt with rfl | rfl <;> decide) (by decide) (by decide)]
    exact Nat.mod_eq_of_lt hcode
  · rcases hcnt with rfl | rfl <;> exact s.hostError_count (by decide) (by decide) (by decide)

/-- Settles O38: each clause by the equation of its command; the errors of both ports are one update. -/
theorem hostPorts : Obligations.HostPorts := by
  refine ⟨fun s a data hport => exec_qspiWrite_whole hport a data,
    fun s a data hport => exec_qspiWriteFixed_whole hport a data,
    fun s a data hport hserved => exec_qspiWrite_cut hport hserved,
    fun s a n hport => exec_qspiRead_ready hport a n, fun s a n hport => exec_qspiReadFixed_ready hport a n,
    fun s a n hport => exec_qspiRead_waits hport a n, ?status,
    fun s q max sent hport hbound hdir => exec_qspiQread_open hport hbound hdir max sent,
    fun s q max sent delay hport hbound => exec_qspiQread_unbound hport hbound max sent delay,
    fun s q data hport => exec_qspiQwrite_whole hport q data, ?reset, ?takes, ?opcode,
    fun s mode a data hport hmode hserved => exec_twtWrite_whole hport hmode rfl hserved, ?mode,
    fun s late hport => exec_twtRead_answers hport late, ?misplaced, ?timeout⟩
  case status =>
    intro s n hport
    exact ⟨_, exec_qspiStatus_answers hport n, State.csRise_proto _, rfl, Frame.refl0.ans.csRise (by simp)⟩
  case reset =>
    intro s hport
    exact ⟨_, exec_qspiProtocolReset_answers hport, s.protoReset_cfg, s.protoReset_now, frame_protoReset s⟩
  case takes =>
    intro s hdie
    exact ⟨_, exec_hspiCfgTakesEffect_powered hdie, s.csRise_proto.trans (Nat.mod_eq_of_lt s.proto_lt),
      Frame.refl0.csRise (by simp)⟩
  case opcode =>
    intro s op hport hop
    exact ⟨_, exec_qspiUnknownOpcode_unlisted hport hop, s.opcodeRefused_code, s.opcodeRefused_count,
      s.opcodeRefused_event, frame_opcodeRefused s⟩
  case mode =>
    intro s mode whole a data cut hport hmode
    obtain ⟨hcode, hcount, hevent⟩ := s.hostError_twt (code := 0x0735) (e := 123) (by decide) (by decide) (Or.inl rfl)
    exact ⟨_, exec_twtWrite_badMode hport hmode whole a data cut, hcode, hcount, hevent, frame_hostError s _ _ _ _⟩
  case misplaced =>
    intro s hport
    obtain ⟨hcode, hcount, hevent⟩ := s.hostError_twt (code := 0x0730) (e := 122) (by decide) (by decide) (Or.inr rfl)
    exact ⟨_, exec_twtMisplacedStart_answers hport, hcode, hcount, hevent, frame_hostError s _ _ _ _⟩
  case timeout =>
    intro s hport
    obtain ⟨hcode, hcount, hevent⟩ := s.hostError_twt (code := 0x0734) (e := 123) (by decide) (by decide) (Or.inl rfl)
    exact ⟨_, exec_twtBusTimeout_answers hport, hcode, hcount, hevent, frame_hostError s _ _ _ _⟩

end Sys2Proof.Machine
end

section
/-! PROOF. The roles of a pair (O31). -/

namespace Sys2Proof.Machine

/-! ## A state whose link state alone changes -/

theorem Frame.withFerry {ks : List (Nat × Nat)} {s u : State} (h : Frame ks s u) (f : Ferry) :
    Frame ks s { u with ferry := f } :=
  ⟨h.regs, h.mem, h.tree, h.fw, h.td, h.th, h.sems, h.readLatch, h.writeLatch, h.guest, h.scan, h.clock, h.power, h.nv,
    h.signboard, h.signboardGen, h.part, h.pending⟩

/-! ## Standing by and leading (R469, R470) -/

section
variable (s : State)

theorem State.setRole_role (n : Nat) : (s.setRole n).role = n % 4 := State.fld_put _ _ (by decide)

theorem State.standBy_role : s.standBy.role = roleStandby := s.setRole_role roleStandby

theorem State.standBy_ferry : s.standBy.ferry = { s.ferry with lineLow := true, silent := false } := rfl

theorem frame_standBy : Frame [(blkFerry, FERRY.PAIR_STATUS_ROLE.off)] s s.standBy :=
  (Frame.refl0.put (by simp)).withFerry _

/-- The registers of a chip that takes the lead. -/
theorem State.takeLead_regs :
    s.takeLead.regs = ((s.setRole roleLead).put blkFerry FERRY.PAIR_STATUS_TAKE_OVERRIDE 0).regs := rfl

theorem State.takeLead_role : s.takeLead.role = roleLead := by
  unfold State.role
  rw [State.fld_of_regs s.takeLead_regs, State.fld_put_apart _ _ (by decide) (by decide)]
  exact s.setRole_role roleLead

theorem State.takeLead_override : s.takeLead.fld blkFerry FERRY.PAIR_STATUS_TAKE_OVERRIDE = 0 := by
  rw [State.fld_of_regs s.takeLead_regs, State.fld_put _ _ (by decide), Nat.zero_mod]

theorem frame_takeLead : Frame [(blkFerry, FERRY.PAIR_STATUS_ROLE.off)] s s.takeLead :=
  ((Frame.refl0.put (by simp)).put (by simp [FERRY.PAIR_STATUS_ROLE, FERRY.PAIR_STATUS_TAKE_OVERRIDE])).withFerry _

end

/-! ## The commands where they act -/

section
variable {s : State}

theorem exec_leadClaim_alone (hpair : s.pairOn = true) (hrole : s.role = roleAlone) (hsilent : s.ferry.silent = false)
    (low : Bool) : exec (.leadClaim low) s = .next (if low then s.standBy else s.takeLead) :=
  congrArg Host.Outcome.next (if_pos (by simp [hpair, hrole, hsilent]))

theorem exec_releaseSilenceEnd_silent (hsilent : s.ferry.silent = true) (low : Bool) :
    exec (.releaseSilenceEnd low) s = .next (if low then s.standBy
      else { s with ferry := { s.ferry with silent := false, lineLow := false } }) :=
  congrArg Host.Outcome.next (if_neg (by simp [hsilent]))

theorem exec_wireCheckFail_drives (hdrives : s.ferry.drivesLine = true) (hfail : s.ferry.wireFail = false) :
    exec .wireCheckFail s = .next
      ((({ s with ferry := { s.ferry with wireFail := true } }).raise 29).declare ⟨0, 0x0905, 0x3FF, 0⟩ true) :=
  congrArg Host.Outcome.next (if_pos (by simp [hdrives, hfail]))

theorem exec_wireCheckCleared_failed (hfail : s.ferry.wireFail = true) :
    exec .wireCheckCleared s = .next
      (({ s with ferry := { s.ferry with wireFail := false } }).endFault (fun f => f.code == 0x0905)) :=
  congrArg Host.Outcome.next (if_pos hfail)

theorem exec_takeover_trusted (hrole : s.role = roleStandby) (hup : s.ferryUp = true) (hlost : s.hbOk = false)
    (htrust : s.epochTrust = true) (hmirror : s.mirrorState = 2) (e : BitVec 64) :
    exec (.takeover e) s = .next
      (((((s.advanceTo e).handoverKept.takeLead).crossingFollow).count blkFerry FERRY.CROSSING_COUNT).raise 26) :=
  congrArg Host.Outcome.next (if_pos (by simp [hrole, hup, hlost, htrust, hmirror]))

theorem exec_handoverRelease_leading {e : BitVec 64} (hplan : s.ferry.handover = some e) (hrole : s.role = roleLead)
    (hdrives : s.ferry.drivesLine = true) :
    exec .handoverRelease s = .next ((s.advanceTo (e - 492)).letGo) := by
  show execHandoverRelease s = _
  unfold execHandoverRelease
  rw [hplan]
  exact congrArg Host.Outcome.next (if_pos ⟨hrole, hdrives⟩)

theorem exec_handoverEpoch_planned {e : BitVec 64} (hplan : s.ferry.handover = some e) :
    exec .handoverEpoch s = .next (
      let u := s.advanceTo e
      { u with ferry := { u.ferry with handover := none, driving := u.role == roleLead && u.ferry.drivesLine } }) := by
  show execHandoverEpoch s = _
  unfold execHandoverEpoch
  rw [hplan]

/-! ## The pair commands (R474) -/

@[simp] theorem State.heard_role (ph : Nat) : (s.heard ph).role = s.role := State.heard_fld s ph _ _

@[simp] theorem State.heard_hbOk (ph : Nat) : (s.heard ph).hbOk = s.hbOk := State.heard_flag s ph _ _

theorem exec_prStatus_serves {ph : Fin 8} (hserves : s.serves ph 0x80 = true) (hpair : s.part.pairPresent = true)
    (tag : BitVec 8) (args : List Word) :
    exec (.prStatus ph tag args) s = .next ((s.heard ph).reply ph 0x80 tag.toNat
      [0, (s.heard ph).ferryRead 0x008, s.rd blkFerry 0x00C,
        s.rd blkFerry FERRY.TX_SEQ.off - s.rd blkFerry FERRY.PARTNER_APPLIED.off]) := by
  show Host.Outcome.next (State.pairServe _ _ _ _ _) = _
  rw [State.pairServe_serves _ hserves hpair]
  simp only [State.heard_rd]

theorem exec_prHandover_ready {ph : Fin 8} (hserves : s.serves ph 0x81 = true) (hpair : s.part.pairPresent = true)
    (hrole : s.role = roleLead) (hheart : s.hbOk = true) {partner : Word}
    (hmirror : FERRY.PAIR_STATUS_MIRROR_STATE.of partner = 2) (htrust : FERRY.PAIR_STATUS_EPOCH_TRUST.of partner = 1)
    (tag : BitVec 8) (args : List Word) :
    exec (.prHandover ph tag args partner) s = .next (
      let e := handoverEpoch s.clock.epoch
      ((s.heard ph).handOver e).reply ph 0x81 tag.toNat [0, e.extractLsb' 0 32, e.extractLsb' 32 32]) := by
  show Host.Outcome.next (State.pairServe _ _ _ _ _) = _
  rw [State.pairServe_serves _ hserves hpair]
  simp [hrole, hheart, hmirror, htrust]

theorem exec_prTake_standby {ph : Fin 8} (hserves : s.serves ph 0x82 = true) (hpair : s.part.pairPresent = true)
    (hlost : s.hbOk = false) (hrole : s.role = roleStandby) (tag : BitVec 8) (args : List Word) :
    exec (.prTake ph tag args) s = .next
      (((s.heard ph).put blkFerry FERRY.PAIR_STATUS_TAKE_OVERRIDE 1).reply ph 0x82 tag.toNat [0]) := by
  show Host.Outcome.next (State.pairServe _ _ _ _ _) = _
  rw [State.pairServe_serves _ hserves hpair]
  simp [hrole, hlost]

theorem exec_prResync_leading {ph : Fin 8} (hserves : s.serves ph 0x83 = true) (hpair : s.part.pairPresent = true)
    (hrole : s.role = roleLead) (tag : BitVec 8) (args : List Word) :
    exec (.prResync ph tag args) s = .next (((s.heard ph).resyncStart).reply ph 0x83 tag.toNat [0]) := by
  show Host.Outcome.next (State.pairServe _ _ _ _ _) = _
  rw [State.pairServe_serves _ hserves hpair]
  simp [hrole]

end

/-- Settles O31: each clause by the equation of its command; a claim and the end of a silence share `standBy`. -/
theorem pairRoles : Obligations.PairRoles := by
  refine ⟨fun s hpair hrole hsilent => ⟨_, exec_leadClaim_alone hpair hrole hsilent true, s.standBy_role,
      s.standBy_ferry, frame_standBy s⟩,
    fun s hpair hrole hsilent => ⟨_, exec_leadClaim_alone hpair hrole hsilent false, s.takeLead_role,
      s.takeLead_override, rfl, rfl, rfl, frame_takeLead s⟩,
    fun s hsilent => ⟨_, exec_releaseSilenceEnd_silent hsilent false, rfl, rfl, rfl⟩,
    fun s hsilent => ⟨_, exec_releaseSilenceEnd_silent hsilent true, s.standBy_role, s.standBy_ferry, frame_standBy s⟩,
    fun s hdrives hfail => exec_wireCheckFail_drives hdrives hfail,
    fun s hfail => exec_wireCheckCleared_failed hfail,
    fun s e hrole hup hlost htrust hmirror => exec_takeover_trusted hrole hup hlost htrust hmirror e,
    fun s e hplan hrole hdrives => exec_handoverRelease_leading hplan hrole hdrives,
    fun s e hplan => exec_handoverEpoch_planned hplan,
    fun s ph tag args hserves hpair => exec_prStatus_serves hserves hpair tag args,
    fun s ph tag args partner hserves hpair hrole hheart hmirror htrust =>
      exec_prHandover_ready hserves hpair hrole hheart hmirror htrust tag args,
    fun s ph tag args hserves hpair hlost hrole => exec_prTake_standby hserves hpair hlost hrole tag args,
    fun s ph tag args hserves hpair hrole => exec_prResync_leading hserves hpair hrole tag args⟩

end Sys2Proof.Machine
end

section
/-! PROOF. The Ferry link (O32). -/

namespace Sys2Proof.Machine

/-! ## The partner window (R27, R29) -/

theorem placeAt_partner {a : Nat} (ha : 0x80000000 ≤ a) : placeAt a = .partner (a - 0x80000000) := by
  unfold placeAt
  rw [if_neg (by omega), if_pos ha]

section
variable {s : State} {m a : Nat} {lm : Nat} {wd : Width} {v : Word}

theorem State.busRead_partner (ha : 0x80000000 ≤ a) (hopen : hostLimited s m 0 = false) :
    s.busRead m lm wd a true =
      if !s.partnerAnswers then (s.accessFail m a false 0x0901).ans [0]
      else
        let t := s.sendFrame ⟨frRead, 0, [w32 (a - 0x80000000), w32 m, w32 (widthBytes wd)]⟩
        ({ t with ferry := { t.ferry with reads := t.ferry.reads ++ [(m, a)] } }).ans [] := by
  unfold State.busRead
  rw [placeAt_partner ha]
  exact if_neg (by simp [State.closed, Place.block, hopen])

theorem State.busWrite_partner (ha : 0x80000000 ≤ a) (hopen : hostLimited s m 0 = false) :
    s.busWrite m lm wd a v =
      if s.partnerAnswers then s.sendFrame ⟨frWrite, 0, [w32 (a - 0x80000000), v, w32 m, w32 (widthBytes wd)]⟩
      else s.accessFail m a true 0x0901 := by
  unfold State.busWrite
  rw [placeAt_partner ha]
  exact if_neg (by simp [State.closed, Place.block, hopen])

end

/-- A read through the partner window that is sent on: the reader waits for its answer. -/
def State.readSent (s : State) (m : Nat) (wd : Width) (a : Nat) : State :=
  let t := s.sendFrame ⟨frRead, 0, [w32 (a - 0x80000000), w32 m, w32 (widthBytes wd)]⟩
  ({ t with ferry := { t.ferry with reads := t.ferry.reads ++ [(m, a)] } }).ans []

theorem frame_readSent (s : State) (m : Nat) (wd : Width) (a : Nat) : Frame [] s (s.readSent m wd a) :=
  (Frame.refl0.sendFrame.withFerry _).ans

section
variable {s : State} {m : Master} {a : Word}

theorem exec_partnerWindowRead_sent (ha : 0x80000000 ≤ a.toNat) (hanswers : s.partnerAnswers = true)
    (hopen : hostLimited s m 0 = false) (wd : Width) :
    exec (.partnerWindowRead m wd a) s = .next (s.readSent m wd a.toNat) :=
  congrArg Host.Outcome.next <|
    (if_pos ha).trans <| (State.busRead_partner ha hopen).trans <| if_neg (by simp [hanswers])

theorem exec_partnerWindowRead_fails (ha : 0x80000000 ≤ a.toNat) (hsilent : s.partnerAnswers = false)
    (hopen : hostLimited s m 0 = false) (wd : Width) :
    exec (.partnerWindowRead m wd a) s = .next ((s.accessFail m a.toNat false 0x0901).ans [0]) :=
  congrArg Host.Outcome.next <|
    (if_pos ha).trans <| (State.busRead_partner ha hopen).trans <| if_pos (by simp [hsilent])

theorem exec_partnerWindowWrite_sent (ha : 0x80000000 ≤ a.toNat) (hanswers : s.partnerAnswers = true)
    (hopen : hostLimited s m 0 = false) (wd : Width) (v : Word) :
    exec (.partnerWindowWrite m wd a v) s = .next
      (s.sendFrame ⟨frWrite, 0, [w32 (a.toNat - 0x80000000), v, w32 m, w32 (widthBytes wd)]⟩) :=
  congrArg Host.Outcome.next <| (if_pos ha).trans <| (State.busWrite_partner ha hopen).trans <| if_pos hanswers

theorem exec_partnerWindowWrite_fails (ha : 0x80000000 ≤ a.toNat) (hsilent : s.partnerAnswers = false)
    (hopen : hostLimited s m 0 = false) (wd : Width) (v : Word) :
    exec (.partnerWindowWrite m wd a v) s = .next (s.accessFail m a.toNat true 0x0901) :=
  congrArg Host.Outcome.next <|
    (if_pos ha).trans <| (State.busWrite_partner ha hopen).trans <| if_neg (by simp [hsilent])

theorem exec_partnerReadResponse_awaited {r : Nat × Nat} {rest : List (Nat × Nat)} (hreads : s.ferry.reads = r :: rest)
    (v : Word) : exec (.partnerReadResponse v) s = .next (({ s with ferry := { s.ferry with reads := rest } }).ans [v]) := by
  show execPartnerReadResponse v s = _
  unfold execPartnerReadResponse
  rw [hreads]

end

/-! ## Training and heartbeats (R460–R462) -/

/-- The chip after the first heartbeat of a link that has trained. -/
def State.trained (s : State) (l : Nat) (hb : HeartbeatArg) (abi : BitVec 8) : State :=
  let u := (((s.put blkFerry FERRY.PAIR_STATUS_LINK_UP 1).put blkFerry FERRY.LATENCY_NS l).raise 24).heartbeat hb
  u.protoCheck (abi.toNat != u.ownAbi)

section
variable {s : State}

theorem exec_linkTrained_down (hpair : s.pairOn = true) (hdown : s.ferryUp = false) (l : Nat) (hb : HeartbeatArg)
    (abi : BitVec 8) :
    exec (.linkTrained l hb abi) s = .next (
      let t := s.trained l hb abi
      if t.role = roleStandby then
        let u := if t.mirrorState = 3 then t else t.setMirror 1
        if u.portsBusy || !u.clock.everLocked then u else u.leadEpoch hb.epoch
      else if t.role = roleLead then t.resyncStart else t) :=
  congrArg Host.Outcome.next (if_pos (by simp [hpair, hdown]))

theorem exec_linkTrained_standby (hpair : s.pairOn = true) (hdown : s.ferryUp = false) {l : Nat} {hb : HeartbeatArg}
    {abi : BitVec 8} (hrole : (s.trained l hb abi).role = roleStandby) :
    exec (.linkTrained l hb abi) s = .next (
      let t := s.trained l hb abi
      let u := if t.mirrorState = 3 then t else t.setMirror 1
      if u.portsBusy || !u.clock.everLocked then u else u.leadEpoch hb.epoch) :=
  (exec_linkTrained_down hpair hdown l hb abi).trans (congrArg Host.Outcome.next (if_pos hrole))

theorem exec_linkTrained_lead (hpair : s.pairOn = true) (hdown : s.ferryUp = false) {l : Nat} {hb : HeartbeatArg}
    {abi : BitVec 8} (hrole : (s.trained l hb abi).role = roleLead) :
    exec (.linkTrained l hb abi) s = .next (s.trained l hb abi).resyncStart :=
  (exec_linkTrained_down hpair hdown l hb abi).trans <|
    congrArg Host.Outcome.next <| (if_neg (by rw [hrole]; decide)).trans (if_pos hrole)

theorem exec_linkTrained_alone (hpair : s.pairOn = true) (hdown : s.ferryUp = false) {l : Nat} {hb : HeartbeatArg}
    {abi : BitVec 8} (hrole : (s.trained l hb abi).role = roleAlone) :
    exec (.linkTrained l hb abi) s = .next (s.trained l hb abi) :=
  (exec_linkTrained_down hpair hdown l hb abi).trans <|
    congrArg Host.Outcome.next <| (if_neg (by rw [hrole]; decide)).trans (if_neg (by rw [hrole]; decide))

theorem exec_linkTrainRetry_down (hpair : s.pairOn = true) (hdown : s.ferryUp = false) :
    exec .linkTrainRetry s = .next (s.recordCode 0x090A) :=
  congrArg Host.Outcome.next (if_pos (by simp [hpair, hdown]))

/-- A heartbeat as it goes out. -/
def State.heartbeatFrame (s : State) : FrameX :=
  { kind := frHeartbeat, seq := 0,
    words := [w32 s.role, w32 (b2n s.trusted), w32 s.highestClass, s.clock.epoch.extractLsb' 0 32,
      s.clock.epoch.extractLsb' 32 32, w32 (s.freshWord.toNat % 60), s.rd blkFerry FERRY.TX_SEQ.off,
      s.rd blkFerry FERRY.APPLIED_SEQ.off, 1] }

theorem exec_heartbeatSend_up (hup : s.ferryUp = true) (hsilent : s.ferry.silent = false) :
    exec .heartbeatSend s = .next (s.useFresh.sendFrame s.heartbeatFrame) :=
  congrArg Host.Outcome.next (if_pos (by simp [hup, hsilent]))

theorem exec_heartbeatReceived_up (hpair : s.pairOn = true) (hup : s.ferryUp = true) (hb : HeartbeatArg) (offset : Int) :
    exec (.heartbeatReceived hb offset) s = .next
      (if (s.heartbeat hb).role = roleStandby then (s.heartbeat hb).alignEpoch hb offset else s.heartbeat hb) :=
  congrArg Host.Outcome.next (if_pos (by simp [hpair, hup]))

theorem exec_heartbeatLoss_up (hup : s.ferryUp = true) (hheart : s.hbOk = true) (k : Nat) :
    exec (.heartbeatLoss k) s = .next (
      let f : FaultX := ⟨0, s.freshWord.toNat % 65536, 0x3FF, 0⟩
      let t := (((s.put blkFerry FERRY.PAIR_STATUS_HB_OK 0).count blkFerry FERRY.HB_LOSS_COUNT).raise 25).freeSems 7
      let t1 := t.farFails k
      ({ t1 with ferry := { t1.ferry with lossFault := some f } }).useFresh.declare f true) :=
  congrArg Host.Outcome.next (if_pos (by simp [hup, hheart]))

/-! ## Bad frames and the partner's events (R461) -/

/-- A bad frame, counted and told. -/
def State.badFrame (s : State) : State := (s.count blkFerry FERRY.LINK_ERR_COUNT).raise 29

theorem State.badFrame_count (s : State) :
    s.badFrame.rd blkFerry FERRY.LINK_ERR_COUNT.off = counted (s.rd blkFerry FERRY.LINK_ERR_COUNT.off) :=
  (State.raise_rd _ _ _ _).trans (State.count_counted _ _ _ (by decide) (by decide))

theorem frame_badFrame (s : State) :
    Frame [(blkFerry, FERRY.LINK_ERR_COUNT.off), (blkFerry, ovfOff blkFerry), (blkFerry, 0x00C)] s s.badFrame :=
  (Frame.refl0.count (by simp) (by simp) (by simp)).raise

theorem exec_ferryBadFrame_paired (hpair : s.pairOn = true) : exec .ferryBadFrame s = .next s.badFrame :=
  congrArg Host.Outcome.next (if_pos hpair)

theorem exec_ferryEventFrame_up (hup : s.ferryUp = true) (e : Fin 128) :
    exec (.ferryEventFrame e) s = .next ((s.put blkFerry FERRY.PARTNER_LAST e).raise 28) :=
  congrArg Host.Outcome.next (if_pos hup)

/-! ## Mirror frames, replay and resync (R463–R466) -/

theorem exec_mirrorFrame_standby (hup : s.ferryUp = true) (hrole : s.role = roleStandby) {a : Word}
    (ha : a.toNat < 0x80000000) (q v : Word) :
    exec (.mirrorFrame q a v) s = .next (
      let d := diff32 q (s.rd blkFerry FERRY.APPLIED_SEQ.off)
      if d = 1 then
        let t := (s.wr blkFerry FERRY.APPLIED_SEQ.off q).busWrite 7 7 .b32 a.toNat v
        { t with ferry := { t.ferry with gap := false } }
      else if 1 < d ∧ !s.ferry.gap then s.askReplay else s) :=
  congrArg Host.Outcome.next (if_neg (by simp [hup, hrole, ha]))

theorem exec_mirrorFrame_next (hup : s.ferryUp = true) (hrole : s.role = roleStandby) {a q : Word}
    (ha : a.toNat < 0x80000000) (hnext : diff32 q (s.rd blkFerry FERRY.APPLIED_SEQ.off) = 1) (v : Word) :
    exec (.mirrorFrame q a v) s = .next (
      let t := (s.wr blkFerry FERRY.APPLIED_SEQ.off q).busWrite 7 7 .b32 a.toNat v
      { t with ferry := { t.ferry with gap := false } }) :=
  (exec_mirrorFrame_standby hup hrole ha q v).trans (congrArg Host.Outcome.next (if_pos hnext))

theorem exec_mirrorFrame_gap (hup : s.ferryUp = true) (hrole : s.role = roleStandby) {a q : Word}
    (ha : a.toNat < 0x80000000) (hbeyond : 1 < diff32 q (s.rd blkFerry FERRY.APPLIED_SEQ.off))
    (hgap : s.ferry.gap = false) (v : Word) : exec (.mirrorFrame q a v) s = .next s.askReplay :=
  (exec_mirrorFrame_standby hup hrole ha q v).trans <| congrArg Host.Outcome.next <|
    (if_neg (ne_of_gt hbeyond)).trans (if_pos ⟨hbeyond, by rw [hgap]; rfl⟩)

theorem exec_mirrorGapTimeout_behind (hrole : s.role = roleStandby)
    (hbehind : 0 < diff32 s.ferry.partnerTx (s.rd blkFerry FERRY.APPLIED_SEQ.off)) :
    exec .mirrorGapTimeout s = .next s.askReplay :=
  congrArg Host.Outcome.next (if_pos (by simp [hrole, hbehind]))

theorem exec_replayRequest_held (hrole : s.role = roleLead) {q : Word}
    (hheld : s.ferry.replay.any (fun f => f.seq == q) = true) :
    exec (.replayRequest q) s = .next
      ((s.ferry.replay.filter (fun f => decide (0 ≤ diff32 f.seq q))).foldl State.sendFrame s) :=
  congrArg Host.Outcome.next ((if_neg (not_not_intro hrole)).trans (if_pos hheld))

theorem exec_replayRequest_gone (hrole : s.role = roleLead) {q : Word}
    (hgone : s.ferry.replay.any (fun f => f.seq == q) = false) :
    exec (.replayRequest q) s = .next s.resyncStart :=
  congrArg Host.Outcome.next ((if_neg (not_not_intro hrole)).trans (if_neg (by simp [hgone])))

theorem exec_resyncDone_standby (hresync : s.mirrorState = 1) (hrole : s.role = roleStandby) (a : ResyncArg) :
    exec (.resyncDone a) s = .next (
      let t := (((s.takeState a).wr blkFerry FERRY.APPLIED_SEQ.off a.seq).setMirror 2).signCheck
      ({ t with ferry := { t.ferry with gap := false } }).endFault
        (fun f => f.cls == 2 && (f.code == 0x0908 || f.code == 0x0909))) :=
  congrArg Host.Outcome.next ((if_neg (not_not_intro hresync)).trans (if_pos hrole))

theorem exec_resyncDone_lead (hresync : s.mirrorState = 1) (hrole : s.role ≠ roleStandby) (a : ResyncArg) :
    exec (.resyncDone a) s = .next (s.setMirror 2) :=
  congrArg Host.Outcome.next ((if_neg (not_not_intro hresync)).trans (if_neg hrole))

theorem State.setMirror_mirrorState (s : State) (n : Nat) : (s.setMirror n).mirrorState = n % 4 :=
  State.fld_put _ _ (by decide)

theorem frame_setMirror (s : State) (n : Nat) :
    Frame [(blkFerry, FERRY.PAIR_STATUS_MIRROR_STATE.off)] s (s.setMirror n) := frame_put _ _ _ _

theorem exec_resyncTimeout_resyncing (hrole : s.role = roleStandby) (hresync : s.mirrorState = 1) :
    exec .resyncTimeout s = .next ((s.declare ⟨2, 0x0908, 0x3FF, 0⟩ true).abandonJob) :=
  congrArg Host.Outcome.next (if_pos (by simp [hrole, hresync]))

/-! ## The partner's accesses and messages (R27, R463) -/

theorem exec_ferryReadReq_up (hup : s.ferryUp = true) {a : Word} (ha : a.toNat < 0x80000000) (wd : Width) (m : Master)
    (tag : BitVec 8) :
    exec (.ferryReadReq wd a m tag) s = .next (
      let t := s.busRead 7 (farLatch m) wd a.toNat false
      t.sendFrame ⟨frReadRsp, 0, [tag.setWidth 32, t.answer.headD 0]⟩) :=
  congrArg Host.Outcome.next (if_pos ⟨hup, ha⟩)

theorem exec_ferryWriteFrame_up (hup : s.ferryUp = true) {a : Word} (ha : a.toNat < 0x80000000) (wd : Width) (v : Word)
    (m : Master) : exec (.ferryWriteFrame wd a v m) s = .next (s.busWrite 7 (farLatch m) wd a.toNat v) :=
  congrArg Host.Outcome.next (if_pos ⟨hup, ha⟩)

/-- A standby in service carries out what the lead's firmware tells it, and replies to nobody. -/
theorem State.asMirrored_standby (hup : s.ferryUp = true) (hrole : s.role = roleStandby)
    (hfw : s.fw.inService = true) (f : State → State) :
    s.asMirrored f =
      let t := f { s with ferry := { s.ferry with quiet := true } }
      { t with ferry := { t.ferry with quiet := false } } :=
  if_pos (by simp [hup, hrole, hfw])

theorem exec_ferryMessageFrame_mirrored {msg : MessageArg} {f : State → State}
    (hmsg : exec (.ferryMessageFrame msg) s = .next (s.asMirrored f)) (hup : s.ferryUp = true)
    (hrole : s.role = roleStandby) (hfw : s.fw.inService = true) :
    exec (.ferryMessageFrame msg) s = .next (
      let t := f { s with ferry := { s.ferry with quiet := true } }
      { t with ferry := { t.ferry with quiet := false } }) :=
  hmsg.trans (congrArg Host.Outcome.next (State.asMirrored_standby hup hrole hfw f))

theorem exec_ferryMessageFrame_resync (hup : s.ferryUp = true) (hrole : s.role = roleStandby)
    (hmatch : s.mirrorState ≠ 3) : exec (.ferryMessageFrame .resync) s = .next (s.setMirror 1) :=
  congrArg Host.Outcome.next (if_pos (by simp [hup, hrole, hmatch]))

theorem exec_ferryMessageFrame_handover (hup : s.ferryUp = true) (hrole : s.role = roleStandby) (e : BitVec 64) :
    exec (.ferryMessageFrame (.handover e)) s = .next { s with ferry := { s.ferry with handover := some e } } :=
  congrArg Host.Outcome.next (if_pos (by simp [hup, hrole]))

end

/-- Settles O32: each clause by the equation of its command; what the lead's firmware tells is carried out by
`exec_ferryMessageFrame_mirrored`, whatever the message. -/
theorem ferryLink : Obligations.FerryLink := by
  refine ⟨fun s l hb abi hpair hdown hrole => exec_linkTrained_lead hpair hdown hrole,
    fun s l hb abi hpair hdown hrole => exec_linkTrained_alone hpair hdown hrole,
    fun s l hb abi hpair hdown hrole => exec_linkTrained_standby hpair hdown hrole,
    fun s hpair hdown => exec_linkTrainRetry_down hpair hdown,
    fun s hup hsilent => ⟨_, exec_heartbeatSend_up hup hsilent, rfl, Frame.refl0.useFresh.sendFrame⟩,
    fun s hb offset hpair hup hrole =>
      (exec_heartbeatReceived_up hpair hup hb offset).trans (congrArg Host.Outcome.next (if_pos hrole)),
    fun s hb offset hpair hup hrole =>
      (exec_heartbeatReceived_up hpair hup hb offset).trans (congrArg Host.Outcome.next (if_neg hrole)),
    fun s k hup hheart => exec_heartbeatLoss_up hup hheart k,
    fun s hpair => ⟨_, exec_ferryBadFrame_paired hpair, s.badFrame_count, State.raise_event _ _ (by decide),
      frame_badFrame s⟩,
    fun s e hup => exec_ferryEventFrame_up hup e,
    fun s q a v hup hrole ha hnext => exec_mirrorFrame_next hup hrole ha hnext v,
    fun s q a v hup hrole ha hbeyond hgap => exec_mirrorFrame_gap hup hrole ha hbeyond hgap v,
    fun s hrole hbehind => exec_mirrorGapTimeout_behind hrole hbehind,
    fun s q hrole hheld => exec_replayRequest_held hrole hheld,
    fun s q hrole hgone => exec_replayRequest_gone hrole hgone,
    fun s a hresync hrole => exec_resyncDone_standby hresync hrole a,
    fun s a hresync hrole => ⟨_, exec_resyncDone_lead hresync hrole a, s.setMirror_mirrorState 2, frame_setMirror s 2⟩,
    fun s hrole hresync => exec_resyncTimeout_resyncing hrole hresync,
    fun s wd a m tag hup ha => exec_ferryReadReq_up hup ha wd m tag,
    fun s wd a v m hup ha => exec_ferryWriteFrame_up hup ha wd v m,
    fun s image hup hrole hfw =>
      (exec_ferryMessageFrame_mirrored (msg := .apply image) rfl hup hrole hfw :),
    fun s win hup hrole hfw =>
      (exec_ferryMessageFrame_mirrored (msg := .remove win) rfl hup hrole hfw :),
    fun s arg hup hrole hfw =>
      (exec_ferryMessageFrame_mirrored (msg := .trigger arg) rfl hup hrole hfw :),
    fun s op args hup hrole hfw =>
      (exec_ferryMessageFrame_mirrored (msg := .guestbook op args) rfl hup hrole hfw :),
    fun s c i o rec hup hrole hfw =>
      (exec_ferryMessageFrame_mirrored (msg := .gbChange c i o rec) rfl hup hrole hfw :),
    fun s n i d ms trim e hup hrole hfw =>
      (exec_ferryMessageFrame_mirrored (msg := .fade n i d ms trim e) rfl hup hrole hfw :),
    fun s n b d ms e hup hrole hfw =>
      (exec_ferryMessageFrame_mirrored (msg := .announce n b d ms e) rfl hup hrole hfw :),
    fun s hup hrole hmatch => ⟨_, exec_ferryMessageFrame_resync hup hrole hmatch, s.setMirror_mirrorState 1,
      frame_setMirror s 1⟩,
    fun s e hup hrole => ⟨_, exec_ferryMessageFrame_handover hup hrole e, rfl, rfl, rfl⟩,
    fun s v r rest hreads => ⟨_, exec_partnerReadResponse_awaited hreads v, rfl, rfl, rfl, rfl⟩,
    fun s m wd a ha hanswers hopen => ⟨_, exec_partnerWindowRead_sent ha hanswers hopen wd, rfl, rfl, rfl,
      frame_readSent s m wd a.toNat⟩,
    fun s m wd a ha hsilent hopen => exec_partnerWindowRead_fails ha hsilent hopen wd,
    fun s m wd a v ha hanswers hopen => ⟨_, exec_partnerWindowWrite_sent ha hanswers hopen wd v, rfl,
      Frame.refl0.sendFrame⟩,
    fun s m wd a v ha hsilent hopen => exec_partnerWindowWrite_fails ha hsilent hopen wd v⟩

end Sys2Proof.Machine
end

section
/-! PROOF. Queues and SYS messages (O19, O22). -/

namespace Sys2Proof.Machine

/-! ## Queues (R341–R347) -/

section
variable {s : State} {m : Master} {n : Fin 64} {v : Word}

theorem exec_qConsWrite_accepted (h : s.accepts m (winQ n) QUE.Q_CONS.off v (s.consCodes m (winQ n) v) = true) :
    exec (.qConsWrite m n v) s = .next (s.told m (winQ n) QUE.Q_CONS.off v (s.consTo (winQ n) v)) :=
  congrArg Host.Outcome.next (State.guarded_accepts s h)

theorem exec_qProdWrite_accepted (h : s.accepts m (winQ n) QUE.Q_PROD.off v (s.prodCodes m (winQ n) v) = true) :
    exec (.qProdWrite m n v) s = .next (s.told m (winQ n) QUE.Q_PROD.off v (s.prodTo (winQ n) v)) :=
  congrArg Host.Outcome.next (State.guarded_accepts s h)

theorem exec_hostDescriptorTake_ready (htake : s.qCanTake (winQ n) = true) :
    exec (.hostDescriptorTake n) s = .next
      (if s.descGood (winQ n) (s.takeIndex (winQ n)) then s.takeDesc (winQ n) false else s.discardDesc (winQ n)) :=
  congrArg Host.Outcome.next (if_neg (by simp [htake]))

theorem exec_descriptorRetire_usedUp (hused : s.usedUp (winQ n) = true) :
    exec (.descriptorRetire n) s = .next ((s.retireDesc (winQ n)).setAx (winQ n) axQRead 0) :=
  congrArg Host.Outcome.next (if_pos hused)

/-- The record that a producer hands over. -/
def commitRecord (r : RecordArg) : Rec :=
  ⟨r.type.toNat, r.source.toNat, ⟨r.err, r.mark, r.warm⟩, r.time, r.data⟩

/-- A record for which the queue has no room, dropped and counted. -/
def State.recordDropped (s : State) (w : Nat) : State := (s.count w QUE.DROP_COUNT).raiseKind w evQDropped

theorem State.placeRec_takes {w : Nat} (htakes : s.qTakes w = true) (r : Rec) :
    s.placeRec w r = if s.qFits w r.data.length then s.commitRec w r else s.recordDropped w :=
  if_neg (by simp [htakes])

theorem exec_recordCommit_takes {r : RecordArg} (htype : recordType r.type.toNat = true)
    (htakes : s.qTakes (winQ n) = true) :
    exec (.recordCommit n r) s = .next
      (if s.qFits (winQ n) r.data.length then s.commitRec (winQ n) (commitRecord r) else s.recordDropped (winQ n)) :=
  congrArg Host.Outcome.next ((if_pos htype).trans (State.placeRec_takes htakes (commitRecord r)))

theorem exec_iqBlock_due (hchannel : kindOf (s.srcOf (winQ n) 0) = .chanFilter) (hdue : s.iqDue (winQ n) = true)
    (htakes : s.qTakes (winQ n) = true) : exec (.iqBlock n) s = .next (s.iqBlock (winQ n)) :=
  congrArg Host.Outcome.next (if_pos ⟨hchannel, hdue, htakes⟩)

theorem exec_finalDescriptorCommit_free (howed : s.ax (winQ n) axQFinal = 1) (hfree : 0 < s.qFree (winQ n)) :
    exec (.finalDescriptorCommit n) s = .next (
      if s.ax (winQ n) axQStop = 0 then
        (((s.putFinal (winQ n)).setAx (winQ n) axQStop 1).setValid (winQ n) false).raiseKind (winQ n) evQStopped
      else s.putFinal (winQ n)) :=
  congrArg Host.Outcome.next (if_pos ⟨howed, hfree⟩)

end

section
variable (s : State) (w : Nat)

theorem State.recordDropped_count (hw : w < 0x400) :
    (s.recordDropped w).rd w QUE.DROP_COUNT.off = counted (s.rd w QUE.DROP_COUNT.off) := by
  rw [State.recordDropped, State.raiseKind_rd_own _ (by decide), State.count_rd_own _ hw (by decide) (by decide)]

theorem State.recordDropped_event : ((s.recordDropped w).rd w 0x00C).getLsbD evQDropped = true :=
  State.raiseKind_event _ _ _ (by decide)

theorem frame_recordDropped (hw : w < 0x400) :
    Frame [(w, QUE.DROP_COUNT.off), (w, 0x028), (w, 0x00C)] s (s.recordDropped w) :=
  (Frame.refl0.count (by simp) (by simp [ovfOff_window hw]) (by simp)).raiseKind (by simp)

end

/-- Settles O19: each clause by the equation of its command, taken in the branch its hypotheses choose. -/
theorem queueRows : Obligations.QueueRows := by
  refine ⟨fun s m n v h => exec_qConsWrite_accepted h, fun s m n v h => exec_qProdWrite_accepted h,
    fun s n htake hgood => (exec_hostDescriptorTake_ready htake).trans (congrArg Host.Outcome.next (if_pos hgood)),
    fun s n htake hbad =>
      (exec_hostDescriptorTake_ready htake).trans (congrArg Host.Outcome.next (if_neg (by simp [hbad]))),
    fun s n hused => exec_descriptorRetire_usedUp hused,
    fun s n r htype htakes hfits =>
      (exec_recordCommit_takes htype htakes).trans (congrArg Host.Outcome.next (if_pos hfits)), ?dropped,
    fun s n hchannel hdue htakes => exec_iqBlock_due hchannel hdue htakes,
    fun s n howed hfree => exec_finalDescriptorCommit_free howed hfree⟩
  case dropped =>
    intro s n r htype htakes hfull
    exact ⟨_, (exec_recordCommit_takes htype htakes).trans (congrArg Host.Outcome.next (if_neg (by simp [hfull]))),
      s.recordDropped_count _ (winQ_lt n), s.recordDropped_event _, frame_recordDropped s _ (winQ_lt n)⟩

/-! ## SYS messages (R358) -/

section
variable {s : State} {ph : Fin 8}

@[simp] theorem State.heard_rdWord (ph a : Nat) : (s.heard ph).rdWord a = s.rdWord a := by
  simp only [State.rdWord, State.heard_rdByte]

@[simp] theorem State.heard_highestClass (ph : Nat) : (s.heard ph).highestClass = s.highestClass := by
  unfold State.highestClass
  rw [State.heard_fw]

theorem exec_sysPing_serves (hserves : s.serves ph 0x00 = true) (tag : BitVec 8) (args : List Word) :
    exec (.sysPing ph tag args) s = .next ((s.heard ph).reply ph 0x00 tag.toNat (0 :: args.take 6)) :=
  congrArg Host.Outcome.next (State.serve_serves s hserves)

theorem exec_sysVersion_serves (hserves : s.serves ph 0x01 = true) (tag : BitVec 8) :
    exec (.sysVersion ph tag) s = .next ((s.heard ph).reply ph 0x01 tag.toNat
      [0, s.rdWord (fwSlotBase s.fw.runningSlot + 8), w32 s.fw.runningSlot, s.tree.manifestId,
        w32 s.tree.manifestSlot]) := by
  show Host.Outcome.next (State.serve _ _ _ _ _) = _
  rw [State.serve_serves _ hserves]
  simp only [State.heard_rdWord, State.heard_fw, State.heard_tree]

theorem exec_sysFault_serves (hserves : s.serves ph 0x02 = true) (tag : BitVec 8) :
    exec (.sysFault ph tag) s = .next ((s.heard ph).reply ph 0x02 tag.toNat
      [0, w32 s.highestClass, w32 s.fw.latestCode, w32 s.fw.logHeld]) := by
  show Host.Outcome.next (State.serve _ _ _ _ _) = _
  rw [State.serve_serves _ hserves]
  simp only [State.heard_highestClass, State.heard_fw]

theorem exec_sysNoticeCfg_serves (hserves : s.serves ph 0x04 = true) (tag : BitVec 8) (mask : Word) :
    exec (.sysNoticeCfg ph tag mask) s = .next
      (({ s.heard ph with fw := { s.fw with noticeMask := mask } }).reply ph 0x04 tag.toNat [0]) := by
  show Host.Outcome.next (State.serve _ _ _ _ _) = _
  rw [State.serve_serves _ hserves, State.heard_fw]

/-- The chip on its way to standby: the wakes armed, and every unit and port stopped. -/
def State.standbyQuiet (s : State) (ph : Fin 8) (tag : BitVec 8) (mask : Word) : State :=
  ((List.range 32).map winPort).foldl
    (fun v p => if v.flag p PORT.PORT_STATUS_STARTED then v.put p PORT.PORT_STATUS_STARTED 0 else v)
    (((s.heard ph).reply ph 0x03 tag.toNat [0]).put blkKpr KPR.WAKE_CFG_MASK (mask.toNat % 8)).quiesce

theorem exec_sysStandby_idle (hserves : s.serves ph 0x03 = true) {mask : Word} (hwakes : mask.toNat % 8 ≠ 0)
    (hjob : s.tree.job = none) (tag : BitVec 8) :
    exec (.sysStandby ph tag mask) s = .next
      (((s.standbyQuiet ph tag mask).setPower (fun p => { p with saving := 2 })).vinState 4) := by
  refine congrArg Host.Outcome.next ((State.serve_serves s hserves).trans ?_)
  exact (if_neg hwakes).trans (if_neg (by rw [State.heard_tree, hjob]; decide))

theorem State.vinState_reads (s : State) (v : Nat) :
    (s.vinState v).fld blkKpr KPR.KPR_STATUS_VIN_STATE = v % 2 ^ 3 := State.fld_put _ _ (by decide)

end

/-- Settles O22: each message by what `serve_serves` leaves of it. -/
theorem systemCommands : Obligations.SystemCommands :=
  ⟨fun _ _ tag args hserves => exec_sysPing_serves hserves tag args,
    fun _ _ tag hserves => exec_sysVersion_serves hserves tag,
    fun _ _ tag hserves => exec_sysFault_serves hserves tag,
    fun _ _ tag mask hserves => exec_sysNoticeCfg_serves hserves tag mask,
    fun _ _ tag _ hserves hwakes hjob => ⟨_, exec_sysStandby_idle hserves hwakes hjob tag, rfl,
      State.vinState_reads _ 4⟩⟩

end Sys2Proof.Machine
end

section
/-! PROOF. The step of the model: the front of the queue, the empty queue, and commands that go on (O40, O41, O42). -/

namespace Sys2Proof.Machine

theorem step_of_front {s : State} {c : Instr} {rest : List Instr} (hfront : s.pending = c :: rest) :
    step s = exec c { s with pending := rest } := by
  unfold step
  rw [hfront]

theorem step_of_empty {s : State} (hempty : s.pending = []) : step s = .next (idleTick s) := by
  unfold step
  rw [hempty]

/-- Settles O40: the definition of `step` at a queue with a command at its front. -/
theorem stepRunsFront : Obligations.StepRunsFront := fun _ _ _ hfront => step_of_front hfront

theorem idleTick_counting {s : State} (hlocked : s.clock.everLocked = true) (hdie : s.power.die = 0) :
    idleTick s = ({ s with clock := { s.clock with epoch := s.clock.epoch + 1 } }).passTicks 1 :=
  if_pos (by simp [hlocked, hdie])

theorem idleTick_before_lock {s : State} (hlocked : s.clock.everLocked = false) : idleTick s = s :=
  if_neg (by simp [hlocked])

/-- Settles O41: on an empty queue `step` is `idleTick`, which passes one period while the epoch counts. -/
theorem emptyQueueTick : Obligations.EmptyQueueTick := by
  refine ⟨fun s hempty hlocked hdie => ?_, fun s hempty hlocked => ?_⟩
  · refine ⟨_, (step_of_empty hempty).trans (congrArg Host.Outcome.next (idleTick_counting hlocked hdie)), ?_⟩
    exact ⟨rfl, rfl, hempty, rfl, rfl⟩
  · rw [step_of_empty hempty, idleTick_before_lock hlocked]

/-- Settles O42: every arm of `exec` is a next state by its definition, whatever branch the state then takes. -/
theorem commandsGoOn : Obligations.CommandsGoOn := by
  intro c s
  cases c <;> exact ⟨_, rfl⟩

end Sys2Proof.Machine
end

section
/-! PROOF. The root clock and its outputs (O30). -/

namespace Sys2Proof.Machine

/-! ## The reference (R397, R401–R404) -/

section
variable {s : State}

/-- REF_OK stands in the same register as STATE, in other bits. -/
theorem State.root_put_refOk (s : State) (v : Nat) : (s.put blkClk CLK.ROOT_STATUS_REF_OK v).root = s.root :=
  State.fld_put_apart _ _ (by decide) (by decide)

theorem State.inHoldover_put_refOk (s : State) (v : Nat) :
    (s.put blkClk CLK.ROOT_STATUS_REF_OK v).inHoldover = s.inHoldover := by
  simp only [State.inHoldover, State.root_put_refOk]

theorem exec_refQualified_inService (hlost : s.refOk = false) (hdie : s.power.die = 0) :
    exec .refQualified s = .next (
      let t := s.put blkClk CLK.ROOT_STATUS_REF_OK 1
      (if t.inHoldover then t.put blkClk CLK.ROOT_STATUS_GLIDING 1
        else if t.root = rootFree then t.firstAcquire else t).outsFollow) :=
  congrArg Host.Outcome.next ((if_neg (by simp [hlost, hdie])).trans (if_neg (not_not_intro hdie)))

theorem exec_refQualified_holdover (hlost : s.refOk = false) (hdie : s.power.die = 0) (hhold : s.inHoldover = true) :
    exec .refQualified s = .next
      ((s.put blkClk CLK.ROOT_STATUS_REF_OK 1).put blkClk CLK.ROOT_STATUS_GLIDING 1).outsFollow := by
  rw [exec_refQualified_inService hlost hdie]
  exact congrArg (fun t => Host.Outcome.next (State.outsFollow t))
    (if_pos ((s.inHoldover_put_refOk 1).trans hhold))

theorem exec_refQualified_free (hlost : s.refOk = false) (hdie : s.power.die = 0) (hroot : s.root = rootFree) :
    exec .refQualified s = .next (s.put blkClk CLK.ROOT_STATUS_REF_OK 1).firstAcquire.outsFollow := by
  have hhold : s.inHoldover = false := by simp [State.inHoldover, hroot, rootFree, rootHoldover, rootTimingFault]
  rw [exec_refQualified_inService hlost hdie]
  refine congrArg (fun t => Host.Outcome.next (State.outsFollow t)) ((if_neg ?_).trans (if_pos ?_))
  · rw [s.inHoldover_put_refOk, hhold]
    exact Bool.false_ne_true
  · exact (s.root_put_refOk 1).trans hroot

theorem exec_refLost_inService (hok : s.refOk = true) (hdie : s.power.die = 0) :
    exec .refLost s = .next
      ((((s.put blkClk CLK.ROOT_STATUS_REF_OK 0).count blkClk CLK.REF_LOSS_COUNT).raise 3).rootLoses).outsFollow :=
  congrArg Host.Outcome.next ((if_neg (by simp [hok, hdie])).trans (if_neg (not_not_intro hdie)))

theorem exec_rootLocked_from (hok : s.refOk = true) (hroot : (s.inHoldover || s.root == rootAcquiring) = true) :
    exec .rootLocked s = .next
      (if s.clock.everLocked then s.lockRoot else s.lockRoot.firstLock).outsFollow :=
  congrArg Host.Outcome.next (if_pos (by rw [hok, hroot]; rfl))

theorem exec_rootLocked_first (hok : s.refOk = true) (hroot : s.root = rootAcquiring)
    (hfirst : s.clock.everLocked = false) : exec .rootLocked s = .next s.lockRoot.firstLock.outsFollow :=
  (exec_rootLocked_from hok (by simp [hroot])).trans <|
    congrArg (fun t => Host.Outcome.next (State.outsFollow t)) (if_neg (by simp [hfirst]))

theorem exec_rootLocked_again (hok : s.refOk = true) (hhold : s.inHoldover = true)
    (hlocked : s.clock.everLocked = true) : exec .rootLocked s = .next s.lockRoot.outsFollow :=
  (exec_rootLocked_from hok (by simp [hhold])).trans <|
    congrArg (fun t => Host.Outcome.next (State.outsFollow t)) (if_pos hlocked)

theorem exec_rootLockLost_locked (hroot : s.root = rootLocked) (hok : s.refOk = true) :
    exec .rootLockLost s = .next (((s.put blkClk CLK.ROOT_STATUS_REF_OK 0).raise 3).rootLoses).outsFollow :=
  congrArg Host.Outcome.next (if_pos ⟨hroot, hok⟩)

theorem exec_timingFault_holdover (hroot : s.root = rootHoldover) :
    exec .timingFault s = .next (
      let left := (10000 - s.clock.holdBase) * msTicks - (s.clock.uptime - s.clock.holdStart)
      let t := s.advanceTo (s.clock.epoch + BitVec.ofNat 64 left)
      ((((((t.setRoot rootTimingFault).put blkClk CLK.ROOT_STATUS_TRUSTED 0).raise 6).declare ⟨2, 0x0F60, 0x3FF, 0⟩
        true).abandonJob).trustLost).outsFollow) :=
  congrArg Host.Outcome.next (if_pos hroot)

theorem exec_trimDone_trimming (htrim : s.flag blkClk CLK.ROOT_STATUS_TRIMMING = true) :
    exec .trimDone s = .next
      (((s.put blkClk CLK.PHASE_LEFT 0).put blkClk CLK.ROOT_STATUS_TRIMMING 0).put blkClk CLK.ROOT_STATUS_GLIDING 1) :=
  congrArg Host.Outcome.next (if_pos htrim)

end

/-! ## The end of a trim (R409) -/

section
variable (s : State)

/-- A trim that is done: nothing is left of it, and the DCO glides back. -/
def State.trimmed : State :=
  ((s.put blkClk CLK.PHASE_LEFT 0).put blkClk CLK.ROOT_STATUS_TRIMMING 0).put blkClk CLK.ROOT_STATUS_GLIDING 1

theorem State.trimmed_left : s.trimmed.fld blkClk CLK.PHASE_LEFT = 0 := by
  rw [State.trimmed, State.fld_put_apart _ _ (by decide) (by decide), State.fld_put_apart _ _ (by decide) (by decide),
    State.fld_put _ _ (by decide), Nat.zero_mod]

theorem State.trimmed_trimming : s.trimmed.flag blkClk CLK.ROOT_STATUS_TRIMMING = false := by
  rw [State.trimmed, State.flag_put_apart _ _ (by decide) (by decide), State.flag_put _ _ (by decide)]
  rfl

theorem State.trimmed_gliding : s.trimmed.flag blkClk CLK.ROOT_STATUS_GLIDING = true := by
  rw [State.trimmed, State.flag_put _ _ (by decide)]
  rfl

theorem frame_trimmed : Frame [(blkClk, CLK.PHASE_LEFT.off), (blkClk, CLK.ROOT_STATUS_TRIMMING.off)] s s.trimmed :=
  ((Frame.refl0.put (by simp)).put (by simp)).put
    (by simp [CLK.ROOT_STATUS_GLIDING, CLK.ROOT_STATUS_TRIMMING])

end

/-! ## Accepted writes (R396, R409–R413) -/

section
variable {s : State} {m : Master} {v : Word}

theorem exec_refCfgWrite_accepted (h : s.accepts m blkClk 0x000 v (refCfgCodes v) = true) :
    exec (.refCfgWrite m v) s = .next (s.told m blkClk 0x000 v (s.refCfgWritten v)) :=
  congrArg Host.Outcome.next (State.guarded_accepts s h)

theorem exec_phaseTrimWrite_accepted (h : s.accepts m blkClk 0x018 v (s.trimCodes v) = true) :
    exec (.phaseTrimWrite m v) s = .next
      (s.told m blkClk 0x018 v ((s.store blkClk 0x018 v).trimBy (v.toNat % 2 ^ 24))) :=
  congrArg Host.Outcome.next (State.guarded_accepts s h)

theorem exec_epochLoad_accepted
    (h : s.accepts m blkClk 0x028 v (if CLK.EPOCH_CTL_LOAD.of v = 1 ∧ s.portsBusy then [0x0203] else []) = true) :
    exec (.epochLoad m v) s = .next (s.told m blkClk 0x028 v (s.loadEpoch v)) :=
  congrArg Host.Outcome.next (State.guarded_accepts s h)

theorem exec_clkOutCfgWrite_accepted {n : Fin 4}
    (h : s.accepts m blkClk (0x100 + 0x10 * n) v
      (outCodes (s.fld blkClk CLK.REF_CFG_REF_KHZ) v (s.rd blkClk (0x104 + 0x10 * n))) = true) :
    exec (.clkOutConfigWrite m n false v) s = .next
      (s.told m blkClk (0x100 + 0x10 * n) v (s.outWritten n (0x100 + 0x10 * n) v)) :=
  congrArg Host.Outcome.next (State.guarded_accepts s h)

theorem exec_clkOutDivWrite_accepted {n : Fin 4}
    (h : s.accepts m blkClk (0x100 + 0x10 * n + 4) v
      (outCodes (s.fld blkClk CLK.REF_CFG_REF_KHZ) (s.rd blkClk (0x100 + 0x10 * n)) v) = true) :
    exec (.clkOutConfigWrite m n true v) s = .next
      (s.told m blkClk (0x100 + 0x10 * n + 4) v (s.outWritten n (0x100 + 0x10 * n + 4) v)) :=
  congrArg Host.Outcome.next (State.guarded_accepts s h)

theorem exec_clkOutChangeApplied_pending {n : Fin 4}
    (hpending : s.flag blkClk (clkOut CLK.CLK_OUT_STATUS_PENDING n) = true) :
    exec (.clkOutChangeApplied n) s = .next (s.outApply n) :=
  congrArg Host.Outcome.next (if_pos hpending)

end

/-- Settles O30: each clause by the equation of its command; the writes by what an accepted write does. -/
theorem rootClock : Obligations.RootClock :=
  ⟨fun _ hlost hdie hhold => exec_refQualified_holdover hlost hdie hhold,
    fun _ hlost hdie hroot => exec_refQualified_free hlost hdie hroot,
    fun _ hok hdie => exec_refLost_inService hok hdie,
    fun _ hok hroot hfirst => exec_rootLocked_first hok hroot hfirst,
    fun _ hok hhold hlocked => exec_rootLocked_again hok hhold hlocked,
    fun _ hroot hok => exec_rootLockLost_locked hroot hok,
    fun _ hroot => exec_timingFault_holdover hroot,
    fun s => ⟨s.put blkClk CLK.ROOT_STATUS_GLIDING 0, rfl, State.fld_put _ _ (by decide), frame_put _ _ _ _⟩,
    fun s htrim => ⟨s.trimmed, exec_trimDone_trimming htrim, s.trimmed_left, s.trimmed_trimming, s.trimmed_gliding,
      frame_trimmed s⟩,
    fun _ _ _ h => exec_refCfgWrite_accepted h, fun _ _ _ h => exec_phaseTrimWrite_accepted h,
    fun _ _ _ h => exec_epochLoad_accepted h,
    fun s _ _ h hsnap => ⟨s.snapped, exec_epochSnap h hsnap, rfl, rfl, rfl⟩,
    fun _ _ _ _ h => exec_clkOutCfgWrite_accepted h, fun _ _ _ _ h => exec_clkOutDivWrite_accepted h,
    fun _ _ hpending => exec_clkOutChangeApplied_pending hpending⟩

end Sys2Proof.Machine
end

section
/-! PROOF. Supply, saves, standby, wakes, resets and boot (O36, O37). -/

namespace Sys2Proof.Machine

/-! ## Saves (R423–R425) -/

section
variable {s : State}

/-- A save leaves what a RESET_N that came meanwhile asks for. -/
theorem State.writeBag_resetAfter (s : State) (cause : Nat) :
    (s.writeBag cause).power.resetAfter = s.power.resetAfter := by
  have hbag : ∀ (t : State) (c : Nat) (b : Option BagX), (t.setBag c b).power.resetAfter = t.power.resetAfter := by
    intro t c b; unfold State.setBag State.setPower; dsimp only; split <;> rfl
  unfold State.writeBag
  simp only [State.setFw, hbag, State.wrWord, State.wrBytes_power, State.wrWords_power, State.bagBody_power,
    State.useFresh_power]

/-- The chip with its Saddlebag saved, and the save recorded and counted. -/
def State.saved (s : State) (us : Nat) : State :=
  ((s.writeBag 1).wr blkKpr KPR.SAVE_STATUS_LAST_COPY.off (w32 (s.nextCopy + 65536 * (us % 65536)))).count blkKpr
    KPR.SAVE_COUNT

theorem State.saved_resetAfter (s : State) (us : Nat) : (s.saved us).power.resetAfter = s.power.resetAfter := by
  rw [State.saved, State.count_power]
  exact s.writeBag_resetAfter 1

theorem exec_vinWarning_resuming (hdie : s.power.die = 4) :
    exec .vinWarning s = .next ((s.setPower (fun p => { p with die := 2 })).vinState 2) :=
  congrArg Host.Outcome.next (if_pos hdie)

theorem exec_vinWarning_inService (hdie : s.power.die = 0) (hsaving : s.power.saving = 0)
    (hfw : s.fw.inService = true) :
    exec .vinWarning s = .next (
      let t := (((s.raise 0).put blkKpr KPR.KPR_STATUS_PWR_GOOD 0).vinState 1).quiesce
      { t with power := { t.power with saving := 1 }, guest := { t.guest with stopped := !t.guest.ready } }) := by
  refine congrArg Host.Outcome.next ((if_neg ?_).trans <| (if_neg ?_).trans <| (if_neg ?_).trans (if_neg ?_))
  · simp [hdie]
  · simp [hdie, hsaving]
  · simp [hsaving]
  · simp [hfw]

theorem exec_saddlebagSaveDone_retains (hdie : s.power.die = 0) (hsaving : s.power.saving = 1)
    (hreset : s.power.resetAfter = false) (us : Nat) :
    exec (.saddlebagSaveDone us) s = .next ((s.saved us).retain.vinState 2) := by
  refine congrArg Host.Outcome.next ((if_pos ⟨hdie, hsaving⟩).trans (if_neg ?_))
  exact ne_true_of_eq_false ((s.saved_resetAfter us).trans hreset)

/-! ## Warm resume (R426) -/

theorem exec_warmResume_retained (hdie : s.power.die = 2) (ticks : Nat) (vcore : Bool) :
    exec (.warmResume ticks vcore) s = .next (
      let t := s.rtcTicks ticks
      if vcore && t.newestBag.isSome then (t.setPower (fun p => { p with die := 4 })).vinState 3
      else (t.resetFor 3).vinState 0) :=
  congrArg Host.Outcome.next (if_neg (not_not_intro hdie))

theorem exec_warmResumeReady_copy (hdie : s.power.die = 4) {ticks : Nat} {b : BagX}
    (hcopy : (s.rtcTicks ticks).newestBag.bind (s.rtcTicks ticks).bag = some b) :
    exec (.warmResumeReady ticks) s = .next
      (((s.rtcTicks ticks).setPower (fun p => { p with die := 0 })).restore b).resumeEnds := by
  refine congrArg Host.Outcome.next ((if_neg (not_not_intro hdie)).trans ?_)
  dsimp only
  rw [hcopy]

/-! ## Rails (R418) -/

theorem exec_vinReset_noSave (hdie : s.power.die ≠ 3) (hsaving : s.power.saving ≠ 1) :
    exec .vinReset s = .next (((s.resetFor 3).put blkKpr KPR.KPR_STATUS_PWR_GOOD 0).vinState 0) := by
  refine congrArg Host.Outcome.next ((if_neg hdie).trans ?_)
  exact congrArg (fun t => ((State.resetFor t 3).put blkKpr KPR.KPR_STATUS_PWR_GOOD 0).vinState 0)
    (if_neg (fun h => hsaving h.2))

theorem exec_railFault_vsys (hdie : s.power.die = 0) :
    exec (.railFault 0) s = .next
      ((((s.put blkKpr KPR.KPR_STATUS_VSYS_OK 0).count blkKpr KPR.RAIL_FAULT_COUNT).raise 2).declareF3 0x0F70) :=
  congrArg Host.Outcome.next ((if_neg (not_not_intro hdie)).trans (if_neg (by decide)))

theorem exec_railFault_vcore (hdie : s.power.die = 0) :
    exec (.railFault 1) s = .next
      ((((s.put blkKpr KPR.KPR_STATUS_VCORE_OK 0).count blkKpr KPR.RAIL_FAULT_COUNT).raise 2).declareF3 0x0F70) :=
  congrArg Host.Outcome.next ((if_neg (not_not_intro hdie)).trans (if_neg (by decide)))

theorem exec_railFault_feed (hdie : s.power.die = 0) (hok : s.flag blkKpr KPR.KPR_STATUS_FEED_OK = true) :
    exec (.railFault 2) s = .next
      (allFeeds.foldl (fun u w => u.safeUnit w 0x0F71)
        (((((s.setAx blkKpr axRailOut 1).put blkKpr KPR.KPR_STATUS_FEED_OK 0).count blkKpr KPR.RAIL_FAULT_COUNT).raise
          2).declare ⟨2, 0x0F71, 0x3FF, 0⟩ true).abandonJob) :=
  congrArg Host.Outcome.next ((if_neg (not_not_intro hdie)).trans ((if_pos rfl).trans (if_pos hok)))

theorem exec_feedRailRegulated_out (hout : s.ax blkKpr axRailOut ≠ 0) :
    exec .feedRailRegulated s = .next
      ((((s.setAx blkKpr axRailOut 0).put blkKpr KPR.KPR_STATUS_FEED_OK 1).endFault
        (fun f => f.code == 0x0F71)).causeGone 0x0F71) :=
  congrArg Host.Outcome.next (if_neg hout)

/-! ## Standby and wake (R434, R435) -/

/-- The Guestbook and the Saddlebag saved for a standby. -/
def State.standbySaved (s : State) : State := (s.gbSave s.gbDirtyPages).writeBag 2

theorem State.standbySaved_woken (s : State) : s.standbySaved.power.woken = s.power.woken := by
  rw [State.standbySaved, State.writeBag_woken, State.gbSave_power]

theorem exec_standbyEntered_asleep (hdie : s.power.die = 0) (hsaving : s.power.saving = 2)
    (hwoken : s.power.woken = false) :
    exec .standbyEntered s = .next
      ((((s.standbySaved.dieReset 3).put blkKpr KPR.KPR_STATUS_VSYS_OK 0).put blkKpr KPR.KPR_STATUS_VCORE_OK 0).put blkKpr
        KPR.KPR_STATUS_PWR_GOOD 0 |>.vinState 0) := by
  refine congrArg Host.Outcome.next ((if_pos ⟨hdie, hsaving⟩).trans (if_neg ?_))
  exact ne_true_of_eq_false (s.standbySaved_woken.trans hwoken)

theorem exec_wakePin_masked (hmask : s.wakeMasked 0 = true) :
    exec .wakePin s = .next (s.wake KPR.WAKE_CAUSE_WAKE_PIN) := congrArg Host.Outcome.next (if_pos hmask)

theorem exec_twtWakeMatch_masked (hmask : s.wakeMasked 2 = true) :
    exec .twtWakeMatch s = .next (s.wake KPR.WAKE_CAUSE_TWT) := congrArg Host.Outcome.next (if_pos hmask)

theorem exec_rtcAlarm_standby (hmask : s.wakeMasked 1 = true) (halarm : s.flag blkKpr KPR.RTC_CTL_ALARM_EN = true)
    (hdie : s.power.die = 3) :
    exec .rtcAlarm s = .next
      ((s.setPower (fun p =>
        { p with rtc := (s.rd blkKpr KPR.RTC_ALARM_HI.off).extractLsb' 0 16 ++ s.rd blkKpr KPR.RTC_ALARM_LO.off })).wake
        KPR.WAKE_CAUSE_RTC) :=
  congrArg Host.Outcome.next (if_pos (by simp [hmask, halarm, hdie]))

/-! ## Resets (R427, R436, R439) -/

theorem exec_resetN_standby (hdie : s.power.die = 3) : exec .resetN s = .next (s.wake KPR.WAKE_CAUSE_RESET) :=
  congrArg Host.Outcome.next (if_pos (Or.inl hdie))

theorem exec_resetN_saving (hdie : s.power.die = 0) (hsaving : s.power.saving = 1) :
    exec .resetN s = .next (s.setPower (fun p => { p with resetAfter := true, start := 1 })) :=
  congrArg Host.Outcome.next ((if_neg (by simp [hdie, hsaving])).trans (if_pos ⟨hdie, hsaving⟩))

theorem exec_resetN_inService (hdie : s.power.die = 0) (hsaving : s.power.saving = 0) :
    exec .resetN s = .next ((s.resetFor 1).vinState 0) :=
  congrArg Host.Outcome.next ((if_neg (by simp [hdie, hsaving])).trans (if_neg (by simp [hsaving])))

/-- What a reset of the Keeper itself leaves: MRAM's own registers alone, and an RTC at 0. -/
def State.keeperCleared (s : State) : State :=
  let u := s.resetFor 0
  { u with regs := u.regs.filter (fun (p : Nat × Word) => keptBoot p.1), aux := [], power := { u.power with rtc := 0 } }

theorem exec_keeperReset_noSave (hsaving : s.power.saving = 0) : exec .keeperReset s = .next s.keeperCleared :=
  congrArg (fun t => Host.Outcome.next (State.keeperCleared t)) (if_neg (by simp [hsaving]))

theorem exec_rtcSet_accepted {m : Master} {v : Word} (h : s.accepts m blkKpr 0x030 v [] = true) :
    exec (.rtcSet m v) s = .next (s.told m blkKpr 0x030 v (s.rtcCtl v)) :=
  congrArg Host.Outcome.next (State.guarded_accepts s h)

end

/-- Settles O36: each clause by the equation of its command; a save leaves what waits for its end. -/
theorem supplyRows : Obligations.SupplyRows :=
  ⟨fun _ hdie => exec_vinWarning_resuming hdie, fun _ hdie hsaving hfw => exec_vinWarning_inService hdie hsaving hfw,
    fun _ us hdie hsaving hreset => exec_saddlebagSaveDone_retains hdie hsaving hreset us,
    fun _ ticks hdie hcopy =>
      (exec_warmResume_retained hdie ticks true).trans (congrArg Host.Outcome.next (if_pos hcopy)),
    fun _ ticks hdie =>
      (exec_warmResume_retained hdie ticks false).trans (congrArg Host.Outcome.next (if_neg Bool.false_ne_true)),
    fun _ _ _ hdie hcopy => exec_warmResumeReady_copy hdie hcopy,
    fun _ hdie hsaving => exec_vinReset_noSave hdie hsaving, fun _ hdie => exec_railFault_vsys hdie,
    fun _ hdie => exec_railFault_vcore hdie, fun _ hdie hok => exec_railFault_feed hdie hok,
    fun _ hout => exec_feedRailRegulated_out hout,
    fun _ hdie hsaving hwoken => exec_standbyEntered_asleep hdie hsaving hwoken,
    fun _ hmask => exec_wakePin_masked hmask, fun _ hmask => exec_twtWakeMatch_masked hmask,
    fun _ hmask halarm hdie => exec_rtcAlarm_standby hmask halarm hdie, fun _ hdie => exec_resetN_standby hdie,
    fun _ hdie hsaving => ⟨_, exec_resetN_saving hdie hsaving, rfl, rfl, rfl⟩,
    fun _ hdie hsaving => exec_resetN_inService hdie hsaving, fun _ hsaving => exec_keeperReset_noSave hsaving,
    fun _ _ _ h => exec_rtcSet_accepted h⟩

/-! ## Boot (R34, R489–R497) -/

section
variable {s : State}

theorem exec_coldBoot_reset (hdie : s.power.die = 1) (ticks : Nat) :
    exec (.coldBoot ticks) s = .next (
      let t := (s.rtcTicks ticks).setPower (fun p => { p with die := 0 })
      let u := ((t.put blkKpr KPR.KPR_STATUS_VSYS_OK 1).put blkKpr KPR.KPR_STATUS_VCORE_OK 1).put blkKpr
        KPR.KPR_STATUS_PWR_GOOD 1
      ((u.vinState 0).startCause u.power.start).bootSlot) :=
  congrArg Host.Outcome.next (if_pos (Or.inl hdie))

/-- A Signboard that shows the structure as it stands. -/
def State.signShown (s : State) : State :=
  ({ s with signboard := ⟨true, s.tree.parents, s.tree.comps⟩, signboardGen := s.signboardGen + 1 }).raise 18

theorem exec_signboardRebuilt_inService (hodd : s.signboardGen.getLsbD 0 = true) (hrun : s.fw.running = true)
    (hdie : s.power.die = 0) (hfw : s.fw.inService = true) : exec .signboardRebuilt s = .next s.signShown :=
  congrArg Host.Outcome.next ((if_pos (by simp [hodd, hrun, hdie])).trans (if_neg (by simp [hfw])))

/-- Firmware in service, and told. -/
def State.ready (s : State) : State := (s.setFw (fun f => { f with inService := true })).raise 22

theorem State.ready_power (s : State) : s.ready.power = s.power := State.raise_power _ _

theorem exec_firmwareReady_booted (hrun : s.fw.running = true) (hfw : s.fw.inService = false) (hdie : s.power.die = 0)
    (hsaving : s.power.saving = 0) (hlocked : s.clock.everLocked = true) (hbuilt : s.signboard.built = true)
    (heven : s.signboardGen.getLsbD 0 = false) (hjob : s.tree.job = none) :
    exec .firmwareReady s = .next (
      let t := if s.ready.power.start = 5 then s.ready.raise 23 else s.ready
      t.notice 1 t.fw.boot.code t.bootDetail) :=
  congrArg Host.Outcome.next (if_pos (by rw [hrun, hfw, hdie, hsaving, hlocked, hbuilt, heven, hjob]; rfl))

theorem exec_rootLockTimeout_unlocked (hrun : s.fw.running = true) (hdie : s.power.die = 0)
    (hlocked : s.clock.everLocked = false) (hfirst : s.fw.standing.any (fun f => f.code == 0x0F62) = false) :
    exec .rootLockTimeout s = .next (s.declare ⟨0, 0x0F62, 0x3FF, 0⟩ true) :=
  congrArg Host.Outcome.next (if_pos (by rw [hrun, hdie, hlocked, hfirst]; rfl))

theorem exec_sysSoftReset_accepted {m : Master} {v : Word} (h : s.accepts m blkSys 0x018 v (softCodes v) = true) :
    exec (.sysSoftReset m v) s = .next (s.told m blkSys 0x018 v s.softReset) :=
  congrArg Host.Outcome.next (State.guarded_accepts s h)

end

/-- Settles O37: each clause by the equation of its command; whether a wake is told turns on `power.start`, which
the raising of FIRMWARE_READY leaves. -/
theorem bootRows : Obligations.BootRows := by
  refine ⟨fun s ticks hdie => exec_coldBoot_reset hdie ticks, ?rebuilt, ?boot, ?wake,
    fun s hrun hdie hlocked hfirst => exec_rootLockTimeout_unlocked hrun hdie hlocked hfirst,
    fun s m v h => exec_sysSoftReset_accepted h⟩
  case rebuilt =>
    intro s hodd hrun hdie hfw
    exact ⟨_, exec_signboardRebuilt_inService hodd hrun hdie hfw, State.raise_signboardGen _ _,
      State.raise_signboard _ _, State.raise_event _ _ (by decide), State.raise_regs _ _, State.raise_mem _ _⟩
  case boot =>
    intro s hrun hfw hdie hsaving hlocked hbuilt heven hjob hstart
    rw [exec_firmwareReady_booted hrun hfw hdie hsaving hlocked hbuilt heven hjob, s.ready_power, if_neg hstart]
    rfl
  case wake =>
    intro s hrun hfw hdie hsaving hlocked hbuilt heven hjob hstart
    rw [exec_firmwareReady_booted hrun hfw hdie hsaving hlocked hbuilt heven hjob, s.ready_power, if_pos hstart]
    rfl

end Sys2Proof.Machine
end

section
/-! PROOF. The control cores, firmware images, restores and memory errors (O34). -/

namespace Sys2Proof.Machine

/-! ## Moves, starts and shadows (R441–R446) -/

section
variable {s : State}

theorem exec_migrationComplete_moving {d : Fin 4} {x : MoveX}
    (hmove : s.fw.moves.find? (fun m => m.duty == d.val) = some x) :
    exec (.migrationComplete d) s = .next ((s.endMove x).jobAfterMove x) := by
  show execMigrationComplete d s = _
  unfold execMigrationComplete
  rw [hmove]

/-- A core that has started takes a doubled duty, if there is one (R444). -/
def State.takesDoubled (s : State) (n : Nat) : State :=
  match s.doubled? with
  | some d => s.startMove d n false
  | none => s

theorem State.takesDoubled_none (h : s.doubled? = none) (n : Nat) : s.takesDoubled n = s := by
  unfold State.takesDoubled
  rw [h]

theorem State.takesDoubled_some {d : Nat} (h : s.doubled? = some d) (n : Nat) :
    s.takesDoubled n = s.startMove d n false := by
  unfold State.takesDoubled
  rw [h]

theorem exec_coreStartDone_noJob {core : Fin 5} (hstarts : s.coreState core = 1) (hjob : s.fw.job = none) :
    exec (.coreStartDone core) s = .next ((s.setCore core 3).takesDoubled core) := by
  refine congrArg Host.Outcome.next ((if_neg (not_not_intro hstarts)).trans ?_)
  rw [hjob]
  rfl

theorem exec_coreStartDone_restored {core : Fin 5} {j : CoreJobX} (hstarts : s.coreState core = 1)
    (hjob : s.fw.job = some j) (hrestore : j.opcode = 0x72) (hcore : j.slot = core) :
    exec (.coreStartDone core) s = .next (((s.setCore core 3).coreAnswer [0]).takesDoubled core) := by
  refine congrArg Host.Outcome.next ((if_neg (not_not_intro hstarts)).trans ?_)
  rw [hjob]
  refine (if_neg (by rw [hrestore]; decide)).trans ?_
  exact congrArg (fun t => State.takesDoubled t core) (if_pos ⟨hrestore, hcore⟩)

theorem exec_shadowCopy_spare (hrun : s.fw.running = true) (hspare : s.spare?.isSome = true) :
    exec .shadowCopy s = .next
      (s.setFw (fun f => { f with shadows := [0, 1, 2, 3].map (fun d => (d, s.clock.uptime + 1)) })) :=
  congrArg Host.Outcome.next (if_pos (by rw [hrun, hspare]; rfl))

theorem exec_watchdogExpired_onDuty {core : Fin 5} (hrun : s.fw.running = true) (hduty : s.coreState core = 2) :
    exec (.watchdogExpired core) s = .next
      ((((s.count blkCore CORE.WATCHDOG_COUNT).raise 13).put blkSys SYS.SYS_RESET_CAUSE_WATCHDOG 1).coreFault core) :=
  congrArg Host.Outcome.next (if_pos (by rw [hrun, hduty]; rfl))

/-! ## Core commands (R454) -/

/-- A command of R454 that firmware serves, with neither the loader nor another of them in progress. -/
structure State.CoreFree (s : State) (ph : Fin 8) (op : Nat) : Prop where
  serves : s.serves ph op = true
  noLoad : s.tree.job = none
  noJob : s.fw.job = none

theorem State.coreServe_free {ph : Fin 8} {op : Nat} (h : s.CoreFree ph op) (tag : BitVec 8) (body : State → State) :
    s.coreServe ph op tag body = body (s.heard ph) :=
  State.coreServe_serves s h.serves h.noLoad h.noJob

variable {ph : Fin 8} {tag : BitVec 8} {args : List Word}

theorem exec_coreStatus_free (h : s.CoreFree ph 0x70) :
    exec (.coreStatus ph tag args) s = .next ((s.heard ph).reply ph 0x70 tag.toNat
      (0 :: (List.range 5).map (fun n => s.rd blkCore (0x040 + 4 * n)))) := by
  refine congrArg Host.Outcome.next ((State.coreServe_free h tag _).trans ?_)
  simp only [State.heard_rd]

theorem exec_coreRetire_free (h : s.CoreFree ph 0x71) (hcore : arg args 0 ≤ 4) (hduty : s.coreState (arg args 0) = 2)
    {k : Nat} (hspare : (s.heard ph).spare? = some k) :
    exec (.coreRetire ph tag args) s = .next
      (((List.range 4).filter (fun d => (s.heard ph).bound d == arg args 0)).foldl (fun u d => u.startMove d k true)
        ((s.heard ph).coreBegin ph 0x71 tag (arg args 0))) := by
  refine congrArg Host.Outcome.next ((State.coreServe_free h tag _).trans ?_)
  refine (if_neg (Nat.not_lt.2 hcore)).trans ((if_neg ?_).trans ?_)
  · rw [State.heard_coreState]
    exact not_not_intro hduty
  · rw [hspare]

theorem exec_coreRestore_free (h : s.CoreFree ph 0x72) (hcore : arg args 0 ≤ 4)
    (hout : s.coreState (arg args 0) = 4 ∨ s.coreState (arg args 0) = 5) :
    exec (.coreRestore ph tag args) s = .next
      ((((s.heard ph).setCore (arg args 0) 1).put blkCore (CORE.CORE_SLOT.at (arg args 0)) s.fw.runningSlot).coreBegin
        ph 0x72 tag (arg args 0)) := by
  refine congrArg Host.Outcome.next ((State.coreServe_free h tag _).trans ?_)
  refine (if_neg (Nat.not_lt.2 hcore)).trans ((if_neg ?_).trans ?_)
  · rw [State.heard_coreState]
    omega
  · rw [State.heard_fw]

theorem exec_coreMigrate_free (h : s.CoreFree ph 0x73) (hduty : arg args 0 ≤ 3) {k : Nat}
    (hspare : (s.heard ph).spare? = some k) :
    exec (.coreMigrate ph tag args) s = .next
      (((s.heard ph).startMove (arg args 0) k false).coreBegin ph 0x73 tag (arg args 0)) := by
  refine congrArg Host.Outcome.next ((State.coreServe_free h tag _).trans ?_)
  refine (if_neg (Nat.not_lt.2 hduty)).trans ?_
  rw [hspare]

/-! ## Firmware images and the boot choice (R447–R451) -/

theorem exec_fwVerify_free (h : s.CoreFree ph 0x74) (hslot : arg args 0 ≤ 1) :
    exec (.fwVerify ph tag args) s = .next ((s.heard ph).reply ph 0x74 tag.toNat
      (if (s.heard ph).fwCheck (arg args 0) ≠ 0 then [w32 ((s.heard ph).fwCheck (arg args 0))]
        else [0, (s.heard ph).fwVersion (arg args 0)])) := by
  refine congrArg Host.Outcome.next ((State.coreServe_free h tag _).trans ?_)
  exact congrArg ((s.heard ph).reply ph 0x74 tag.toNat) (if_neg (Nat.not_lt.2 hslot))

theorem exec_fwActivate_free (h : s.CoreFree ph 0x75) (hslot : arg args 0 ≤ 1)
    (hcheck : (s.heard ph).fwCheck (arg args 0) = 0)
    (habi : (s.heard ph).fwAbi (arg args 0) = (s.heard ph).fwAbi s.fw.runningSlot) {k : Nat}
    (hspare : (s.heard ph).spare? = some k) :
    exec (.fwActivate ph tag args) s = .next
      ((((s.heard ph).setCore k 1).put blkCore (CORE.CORE_SLOT.at k) (arg args 0)).coreBegin ph 0x75 tag
        (arg args 0)) := by
  refine congrArg Host.Outcome.next ((State.coreServe_free h tag _).trans ?_)
  refine (if_neg (Nat.not_lt.2 hslot)).trans ((if_neg (not_not_intro hcheck)).trans ((if_neg ?_).trans ?_))
  · rw [State.heard_fw]
    exact not_not_intro habi
  · rw [hspare]

theorem exec_fwActivate_refused (h : s.CoreFree ph 0x75) (hslot : arg args 0 ≤ 1)
    (hcheck : (s.heard ph).fwCheck (arg args 0) ≠ 0) :
    exec (.fwActivate ph tag args) s = .next
      ((s.heard ph).reply ph 0x75 tag.toNat [w32 ((s.heard ph).fwCheck (arg args 0))]) :=
  congrArg Host.Outcome.next <|
    (State.coreServe_free h tag _).trans ((if_neg (Nat.not_lt.2 hslot)).trans (if_pos hcheck))

theorem exec_fwRollDone_last {j : CoreJobX} (hjob : s.fw.job = some j) (hroll : j.opcode = 0x75) (hmoved : j.moved = 4) :
    exec .fwRollDone s = .next (
      let t := (((List.range 5).filter (fun n => s.coreState n == 1)).foldl (fun u n => u.setCore n 3) s).put blkNv
        NV.BOOT_FW j.slot
      ((t.setFw (fun f => { f with runningSlot := j.slot })).raise 15).coreAnswer [0, t.fwVersion j.slot]) := by
  show execFwRollDone s = _
  unfold execFwRollDone
  rw [hjob]
  exact congrArg Host.Outcome.next (if_pos ⟨hroll, hmoved⟩)

theorem exec_updSetBoot_noManifest (h : s.CoreFree ph 0x76) (hkind : arg args 0 = 1) (hslot : arg args 1 = 0xFF) :
    exec (.updSetBoot ph tag args) s = .next
      (((s.heard ph).put blkNv NV.BOOT_MF_EN 0).reply ph 0x76 tag.toNat [0]) :=
  congrArg Host.Outcome.next <| (State.coreServe_free h tag _).trans <|
    (if_neg (by omega)).trans ((if_neg (by omega)).trans (if_pos ⟨hkind, hslot⟩))

theorem exec_updSetBoot_firmware (h : s.CoreFree ph 0x76) (hkind : arg args 0 = 0) (hslot : arg args 1 < 2) :
    exec (.updSetBoot ph tag args) s = .next (
      let u := s.heard ph
      let k := arg args 1
      if u.fwCheck k ≠ 0 then u.reply ph 0x76 tag.toNat [w32 (u.fwCheck k)]
      else (u.put blkNv NV.BOOT_FW k).reply ph 0x76 tag.toNat [0]) :=
  congrArg Host.Outcome.next ((State.coreServe_free h tag _).trans (if_pos ⟨hkind, hslot⟩))

theorem exec_updSetBoot_badManifest (h : s.CoreFree ph 0x76) (hkind : arg args 0 = 1) (hslot : arg args 1 < 2)
    {f : MFail}
    (hcheck : (s.heard ph).mfCheck (mfSlotBase (arg args 1))
      (4 * ((s.heard ph).rdWord (mfSlotBase (arg args 1) + 0x14)).toNat) = some f) :
    exec (.updSetBoot ph tag args) s = .next ((s.heard ph).reply ph 0x76 tag.toNat [w32 f.code]) := by
  refine congrArg Host.Outcome.next ((State.coreServe_free h tag _).trans ?_)
  refine (if_neg (by omega)).trans ((if_pos ⟨hkind, hslot⟩).trans ?_)
  rw [hcheck]

theorem exec_updSetBoot_goodManifest (h : s.CoreFree ph 0x76) (hkind : arg args 0 = 1) (hslot : arg args 1 < 2)
    (hcheck : (s.heard ph).mfCheck (mfSlotBase (arg args 1))
      (4 * ((s.heard ph).rdWord (mfSlotBase (arg args 1) + 0x14)).toNat) = none) :
    exec (.updSetBoot ph tag args) s = .next
      ((((s.heard ph).put blkNv NV.BOOT_MF (arg args 1)).put blkNv NV.BOOT_MF_EN 1).reply ph 0x76 tag.toNat [0]) := by
  refine congrArg Host.Outcome.next ((State.coreServe_free h tag _).trans ?_)
  refine (if_neg (by omega)).trans ((if_pos ⟨hkind, hslot⟩).trans ?_)
  rw [hcheck]
  rfl

theorem exec_updSetBoot_unknown (h : s.CoreFree ph 0x76) (hkind : 1 < arg args 0) :
    exec (.updSetBoot ph tag args) s = .next ((s.heard ph).reply ph 0x76 tag.toNat [0x0202]) :=
  congrArg Host.Outcome.next <| (State.coreServe_free h tag _).trans <|
    (if_neg (by omega)).trans ((if_neg (by omega)).trans (if_neg (by omega)))

/-! ## Restoring and replacing (R452, R453) -/

theorem exec_calRestore_unknown (h : s.CoreFree ph 0x77) (hfe : 4 < arg args 0) :
    exec (.calRestore ph tag args) s = .next ((s.heard ph).reply ph 0x77 tag.toNat [0x0202]) :=
  congrArg Host.Outcome.next ((State.coreServe_free h tag _).trans (if_pos (Or.inl hfe)))

theorem State.heard_fused (ph : Nat) (w : Nat) : (s.heard ph).fused w = s.fused w := by
  unfold State.fused
  rw [State.heard_part]

theorem exec_calRestore_good (h : s.CoreFree ph 0x77) (hfe : arg args 0 ≤ 4)
    (hfused : s.fused (feWin (arg args 0)) = false) (hlo : 0x046C0000 ≤ arg args 1)
    (hhi : arg args 1 + (calSection (arg args 0)).2 ≤ 0x04800000)
    (hcrc : (s.heard ph).rdWord (arg args 1) =
      crc32 (((s.heard ph).rdBytes (arg args 1) (calSection (arg args 0)).2).drop 4))
    (huid : Config.sectionUid ((s.heard ph).rdBytes (arg args 1) (calSection (arg args 0)).2) = s.part.uid) :
    exec (.calRestore ph tag args) s = .next
      (((s.heard ph).putSection (arg args 0)
        ((s.heard ph).rdBytes (arg args 1) (calSection (arg args 0)).2)).reply ph 0x77 tag.toNat [0]) := by
  refine congrArg Host.Outcome.next ((State.coreServe_free h tag _).trans ((if_neg ?_).trans (if_neg ?_)))
  · rintro (hlarge | hgone | hbelow | habove)
    · exact absurd hfe (Nat.not_le.2 hlarge)
    · exact absurd hgone (by rw [State.heard_fused, hfused]; exact Bool.false_ne_true)
    · exact absurd hlo (Nat.not_le.2 hbelow)
    · exact absurd hhi (Nat.not_le.2 habove)
  · rintro (hbad | hother)
    · exact hbad hcrc
    · exact hother (huid.trans (by rw [State.heard_part]))

theorem exec_unitReplace_free (h : s.CoreFree ph 0x78) (hlo : 1 ≤ arg args 0) (hhi : arg args 0 ≤ 3)
    (hone : (s.heard ph).replaceable (arg args 0) (arg args 1) = true)
    (htwo : (s.heard ph).replaceable (arg args 0) (arg args 2) = true) :
    exec (.unitReplace ph tag args) s = .next (
      let u := s.heard ph
      ((u.setMapByte (mapOff (arg args 0)) (arg args 1) (u.mapByte (mapOff (arg args 0)) (arg args 2))).setMapByte
        (mapOff (arg args 0)) (arg args 2) (u.mapByte (mapOff (arg args 0)) (arg args 1))).reply ph 0x78 tag.toNat
        [0]) :=
  congrArg Host.Outcome.next <| (State.coreServe_free h tag _).trans <|
    (if_neg (by omega)).trans (if_neg (by simp [hone, htwo]))

end

/-! ## Memory errors (R479) -/

section
variable {s : State}

theorem exec_memoryEccError_corrected (hdie : s.power.die = 0) :
    exec (.memoryEccError .corrected) s = .next (s.raise 11) :=
  congrArg Host.Outcome.next (if_neg (not_not_intro hdie))

theorem exec_memoryEccError_queueRam (hdie : s.power.die = 0) {n : Fin 64} (hdepth : s.qDepth (winQ n) ≠ 0) :
    exec (.memoryEccError (.queueRam n)) s = .next ((s.raise 12).faultUnit (winQ n) 0x0F12 0) :=
  congrArg Host.Outcome.next ((if_neg (not_not_intro hdie)).trans (if_pos hdepth))

theorem exec_memoryEccError_slot (hdie : s.power.die = 0) (hrun : s.fw.running = true) :
    exec (.memoryEccError .slot) s = .next ((s.raise 12).declareF3 0x0F15) :=
  congrArg Host.Outcome.next ((if_neg (not_not_intro hdie)).trans (if_pos hrun))

theorem exec_memoryEccError_bank (hdie : s.power.die = 0) {w : Fin 1024} (hpresent : s.present w = true)
    (hkind : kindOf w = .chanFilter ∨ kindOf w = .audioFilter) (b : Bool) (x : BitVec 16) :
    exec (.memoryEccError (.bank w b x)) s = .next
      ((s.raise 12).faultUnit w 0x0F11 (w32 (x.toNat + 65536 * b.toNat))) :=
  congrArg Host.Outcome.next <| (if_neg (not_not_intro hdie)).trans <|
    if_pos (by rcases hkind with hkind | hkind <;> simp [hpresent, hkind])

theorem exec_memoryEccError_working (hdie : s.power.die = 0) {n : Fin 16} (hpresent : s.present (winOFDM n) = true) :
    exec (.memoryEccError (.working n)) s = .next (
      let u := s.raise 12
      (u.faultUnit (winOFDM n) 0x0F11 u.freshWord).useFresh) :=
  congrArg Host.Outcome.next ((if_neg (not_not_intro hdie)).trans (if_pos hpresent))

theorem exec_memoryEccError_delay (hdie : s.power.die = 0) {n : Fin 32}
    (hheld : s.tree.allocs.any (fun x => x.pool == 1 && x.win == winLane n) = true) :
    exec (.memoryEccError (.delay n)) s = .next (
      let u := s.raise 12
      (u.faultUnit (winLane n) 0x0F11 u.freshWord).useFresh) :=
  congrArg Host.Outcome.next ((if_neg (not_not_intro hdie)).trans (if_pos hheld))

theorem exec_memoryEccError_guestbook (hdie : s.power.die = 0) {i : Nat} (hheld : s.gbOccupied i = true) :
    exec (.memoryEccError (.guestbook i)) s = .next (((s.raise 12).gbFree i).declareF0 0x0F13 0x3FF) :=
  congrArg Host.Outcome.next ((if_neg (not_not_intro hdie)).trans (if_pos hheld))

theorem exec_memoryEccError_signboard (hdie : s.power.die = 0) :
    exec (.memoryEccError .signboard) s = .next (((s.raise 12).declareF0 0x0F16 0x3FF).signStart) :=
  congrArg Host.Outcome.next (if_neg (not_not_intro hdie))

theorem exec_memoryEccError_core (hdie : s.power.die = 0) {n : Fin 5} (hlo : 1 ≤ s.coreState n)
    (hhi : s.coreState n ≤ 3) : exec (.memoryEccError (.core n)) s = .next ((s.raise 12).coreFault n) :=
  congrArg Host.Outcome.next ((if_neg (not_not_intro hdie)).trans (if_pos ⟨hlo, hhi⟩))

end

/-- Settles O34: each clause by the equation of its command; the commands of R454 through `coreServe_free`, once a
firmware slot or a Manifest slot has passed or failed its check. -/
theorem cores : Obligations.Cores := by
  refine ⟨fun _ _ _ hmove => exec_migrationComplete_moving hmove, ?started, ?doubled, ?restored,
    fun _ hrun hspare => ⟨_, exec_shadowCopy_spare hrun hspare, rfl, rfl, rfl⟩,
    fun _ _ hrun hduty => exec_watchdogExpired_onDuty hrun hduty,
    fun _ _ _ _ hserves hload hjob => exec_coreStatus_free ⟨hserves, hload, hjob⟩,
    fun _ _ _ _ _ hserves hload hjob hcore hduty hspare =>
      exec_coreRetire_free ⟨hserves, hload, hjob⟩ hcore hduty hspare,
    fun _ _ _ _ hserves hload hjob hcore hout => exec_coreRestore_free ⟨hserves, hload, hjob⟩ hcore hout,
    fun _ _ _ _ _ hserves hload hjob hduty hspare => exec_coreMigrate_free ⟨hserves, hload, hjob⟩ hduty hspare,
    fun _ _ _ _ hserves hload hjob hslot => exec_fwVerify_free ⟨hserves, hload, hjob⟩ hslot,
    fun _ _ _ _ _ hserves hload hjob hslot hcheck habi hspare =>
      exec_fwActivate_free ⟨hserves, hload, hjob⟩ hslot hcheck habi hspare,
    fun _ _ _ _ hserves hload hjob hslot hcheck => exec_fwActivate_refused ⟨hserves, hload, hjob⟩ hslot hcheck,
    fun _ _ hjob hroll hmoved => exec_fwRollDone_last hjob hroll hmoved,
    fun _ _ _ _ hserves hload hjob hkind hslot => exec_updSetBoot_noManifest ⟨hserves, hload, hjob⟩ hkind hslot,
    fun _ _ _ _ hserves hload hjob hkind hslot => exec_updSetBoot_firmware ⟨hserves, hload, hjob⟩ hkind hslot,
    fun _ _ _ _ _ hserves hload hjob hkind hslot hcheck =>
      exec_updSetBoot_badManifest ⟨hserves, hload, hjob⟩ hkind hslot hcheck,
    fun _ _ _ _ hserves hload hjob hkind hslot hcheck =>
      exec_updSetBoot_goodManifest ⟨hserves, hload, hjob⟩ hkind hslot hcheck,
    fun _ _ _ _ hserves hload hjob hkind => exec_updSetBoot_unknown ⟨hserves, hload, hjob⟩ hkind,
    fun _ _ _ _ hserves hload hjob hfe => exec_calRestore_unknown ⟨hserves, hload, hjob⟩ hfe,
    fun _ _ _ _ hserves hload hjob hfe hfused hlo hhi hcrc huid =>
      exec_calRestore_good ⟨hserves, hload, hjob⟩ hfe hfused hlo hhi hcrc huid,
    fun _ _ _ _ hserves hload hjob hlo hhi hone htwo =>
      exec_unitReplace_free ⟨hserves, hload, hjob⟩ hlo hhi hone htwo,
    fun _ hdie => ⟨_, exec_memoryEccError_corrected hdie, State.raise_event _ _ (by decide), Frame.refl0.raise⟩,
    fun _ _ hdie hdepth => exec_memoryEccError_queueRam hdie hdepth,
    fun _ hdie hrun => exec_memoryEccError_slot hdie hrun,
    fun _ _ b x hdie hpresent hkind => exec_memoryEccError_bank hdie hpresent hkind b x,
    fun _ _ hdie hpresent => exec_memoryEccError_working hdie hpresent,
    fun _ _ hdie hheld => exec_memoryEccError_delay hdie hheld,
    fun _ _ hdie hheld => exec_memoryEccError_guestbook hdie hheld,
    fun _ hdie => exec_memoryEccError_signboard hdie,
    fun _ _ hdie hlo hhi => exec_memoryEccError_core hdie hlo hhi⟩
  case started =>
    intro s core hstarts hjob hnone
    rw [exec_coreStartDone_noJob hstarts hjob, State.takesDoubled_none hnone]
  case doubled =>
    intro s core d hstarts hjob hsome
    rw [exec_coreStartDone_noJob hstarts hjob, State.takesDoubled_some hsome]
  case restored =>
    intro s core j hstarts hjob hrestore hcore hnone
    rw [exec_coreStartDone_restored hstarts hjob hrestore hcore, State.takesDoubled_none hnone]

end Sys2Proof.Machine
end

section
/-! PROOF. The MRAM controller; self-checks, thermal readings, the audit and the fault log (O35, O33). -/

namespace Sys2Proof.Machine

/-! ## The MRAM controller (R449) -/

section
variable {s : State} {m : Master}

theorem exec_nvGo_accepted (h : s.accepts m blkNv 0x008 1 (s.nvCodes m 1) = true) :
    exec (.nvGo m) s = .next (s.told m blkNv 0x008 1 (s.nvCtl 1)) :=
  congrArg Host.Outcome.next (State.guarded_accepts s h)

theorem exec_nvAbort_accepted (h : s.accepts m blkNv 0x008 2 (s.nvCodes m 2) = true) :
    exec (.nvAbort m) s = .next (s.told m blkNv 0x008 2 (s.nvCtl 2)) :=
  congrArg Host.Outcome.next (State.guarded_accepts s h)

/-- The next page of an MRAM write, written and compared. -/
def State.nvPage (s : State) : State :=
  (s.wrBytes s.nv.dst (s.nv.buf.take 256)).setNv (fun x => { x with buf := x.buf.drop 256, dst := x.dst + 256 })

/-- A page is written from the controller's own copy, which the write of the bytes leaves. -/
theorem State.nvPage_nv (s : State) :
    s.nvPage.nv = { s.nv with buf := s.nv.buf.drop 256, dst := s.nv.dst + 256 } := by
  rw [State.nvPage, State.setNv, State.wrBytes_nv]

theorem State.nvPage_done (hlast : s.nv.buf.length ≤ 256) : s.nvPage.nv.buf.isEmpty = true := by
  rw [State.nvPage_nv]
  simpa using hlast

theorem State.nvPage_more (hmore : 256 < s.nv.buf.length) : s.nvPage.nv.buf.isEmpty = false := by
  rw [State.nvPage_nv]
  simpa using hmore

theorem exec_nvPageWritten_good (hbusy : s.flag blkNv NV.NV_STATUS_BUSY = true) :
    exec (.nvPageWritten true) s = .next (
      if s.nvPage.nv.buf.isEmpty then ((s.nvPage.nvEnd false 0).count blkNv NV.NV_WRITE_COUNT).raise 9
      else if s.nvPage.nv.abort then (s.nvPage.nvEnd true 0x0811).raise 9 else s.nvPage) :=
  congrArg Host.Outcome.next ((if_neg (by simp [hbusy])).trans (if_pos rfl))

theorem exec_nvPageWritten_more (hbusy : s.flag blkNv NV.NV_STATUS_BUSY = true) (hmore : 256 < s.nv.buf.length)
    (habort : s.nv.abort = false) : exec (.nvPageWritten true) s = .next s.nvPage := by
  refine (exec_nvPageWritten_good hbusy).trans (congrArg Host.Outcome.next ((if_neg ?_).trans (if_neg ?_)))
  · exact ne_true_of_eq_false (State.nvPage_more hmore)
  · rw [State.nvPage_nv]
    exact ne_true_of_eq_false habort

theorem exec_nvPageWritten_last (hbusy : s.flag blkNv NV.NV_STATUS_BUSY = true) (hlast : s.nv.buf.length ≤ 256) :
    exec (.nvPageWritten true) s = .next (((s.nvPage.nvEnd false 0).count blkNv NV.NV_WRITE_COUNT).raise 9) :=
  (exec_nvPageWritten_good hbusy).trans (congrArg Host.Outcome.next (if_pos (State.nvPage_done hlast)))

theorem exec_nvPageWritten_bad (hbusy : s.flag blkNv NV.NV_STATUS_BUSY = true) :
    exec (.nvPageWritten false) s = .next (
      let t := (List.range 64).foldl (fun u i => (u.wrWord (s.nv.dst + 4 * i) u.freshWord).useFresh) s
      ((t.nvEnd false 0x0810).count blkNv NV.NV_ERR_COUNT).raise 10) :=
  congrArg Host.Outcome.next ((if_neg (by simp [hbusy])).trans (if_neg Bool.false_ne_true))

end

/-- Settles O35: whether a page is the last one turns on the length of what the controller still holds. -/
theorem nvRows : Obligations.NvRows :=
  ⟨fun _ _ h => exec_nvGo_accepted h, fun _ _ h => exec_nvAbort_accepted h,
    fun _ hbusy hmore habort => exec_nvPageWritten_more hbusy hmore habort,
    fun _ hbusy hlast => exec_nvPageWritten_last hbusy hlast, fun _ hbusy => exec_nvPageWritten_bad hbusy⟩

/-! ## Self-checks (R481, R484) -/

section
variable {s : State} {w : Fin 1024}

theorem exec_selfCheckDone_passed (hpresent : s.present w = true) (hatom : s.isComposite w = false)
    (hcheck : (s.unit w).checkBusy = true) :
    exec (.selfCheckDone w true) s = .next
      (s.setUnit w
        { s.unit w with checkBusy := false
                        causeStands := (s.unit w).causeStands && !((s.unit w).selfFail || (s.unit w).cause == 0x0F30) }) :=
  congrArg Host.Outcome.next ((if_neg (by simp [hpresent, hatom])).trans ((if_pos rfl).trans (if_pos hcheck)))

theorem exec_selfCheckDone_failed (hpresent : s.present w = true) (hatom : s.isComposite w = false) :
    exec (.selfCheckDone w false) s = .next (
      let t := (s.setUnit w { s.unit w with checkBusy := false }).withFe w (fun u => u.markFault w 0x0F21)
      ((s.queuesFrom w).foldl State.stopQueue t).declare ⟨1, 0x0F21, w, 0⟩ true) :=
  congrArg Host.Outcome.next ((if_neg (by simp [hpresent, hatom])).trans (if_neg Bool.false_ne_true))

/-! ## The junction and the books (R485–R487, R512) -/

theorem exec_thermalReading_inService (hdie : s.power.die = 0) (x : Int) :
    exec (.thermalReading x) s = .next (s.thermalReading x) := congrArg Host.Outcome.next (if_pos hdie)

theorem exec_thermalRecover_cool (hstands : s.stands 0x0F40 = true) (hcool : s.sfld blkTherm THERM.TJ_NOW < 920) :
    exec .thermalRecover s = .next ((s.endFault (fun f => f.code == 0x0F40)).causeGone 0x0F40) :=
  congrArg Host.Outcome.next (if_pos (by simp [hstands, hcool]))

theorem exec_bookAudit_inService (hfw : s.fw.inService = true) (hf3 : s.f3 = false) :
    exec .bookAudit s = .next
      (s.badQueues.foldl (fun t q => t.faultUnit q 0x0F30 0) (if s.poolsBalance then s else s.declareF3 0x0F31)) :=
  congrArg Host.Outcome.next (if_neg (by simp [hfw, hf3]))

theorem exec_faultLogWrite_waits {f : FaultX} {rtc : Word} {rest : List (FaultX × Word)}
    (hqueue : s.fw.logQueue = (f, rtc) :: rest) (hrun : s.fw.running = true) :
    exec .faultLogWrite s = .next (({ s with fw := { s.fw with logQueue := rest } }).logEntry f rtc) := by
  show execFaultLogWrite s = _
  unfold execFaultLogWrite
  rw [hqueue]
  exact congrArg Host.Outcome.next (if_pos hrun)

end

/-- Settles O33: each clause by the equation of its command; the audit by whether the pools balance. -/
theorem faultRows : Obligations.FaultRows := by
  refine ⟨fun _ _ hpresent hatom hcheck => exec_selfCheckDone_passed hpresent hatom hcheck,
    fun _ _ hpresent hatom => exec_selfCheckDone_failed hpresent hatom,
    fun _ x hdie => exec_thermalReading_inService hdie x,
    fun _ hstands hcool => exec_thermalRecover_cool hstands hcool, ?lost, ?balanced,
    fun _ _ _ _ hqueue hrun => exec_faultLogWrite_waits hqueue hrun⟩
  case lost =>
    intro s hfw hf3 hpools
    rw [exec_bookAudit_inService hfw hf3, if_neg (ne_true_of_eq_false hpools)]
  case balanced =>
    intro s hfw hf3 hpools
    rw [exec_bookAudit_inService hfw hf3, if_pos hpools]

end Sys2Proof.Machine
end
